-- ==== Sys2Proof/Word.lean ====
section
/-! DEFINITION. The word and byte types, and a map held as a sorted list of the entries that differ from what an
unlisted key reads as. -/

namespace Sys2Proof

/-- A register, descriptor or vault word (00 R12, R18). -/
abbrev Word := BitVec 32

/-- A byte of the shared SRAM. -/
abbrev Byte := BitVec 8

/-- Data by key: keys strictly rising, and no entry equal to what an unlisted key reads as. -/
abbrev Sparse (α : Type) := List (Nat × α)

end Sys2Proof
end

