-- ==== Sys2Proof/Syntax.lean ====
section
/-! DEFINITION. The commands the block takes: the 253 rows of the spec's table of operations and events, and the
types of their operands. An operand carries what reaches the device from outside in that step (a port, an address,
a value, the data of a host-memory read, an analogue code, a verdict of a check made outside the model). -/

namespace Sys2Proof

/-- The two fast clocks (02 R55). -/
inductive Pll where
  | a | b
  deriving DecidableEq, Repr

/-- Who makes a register access: the host behind a port, or M-mode firmware on a core pair (03 R85, R87). -/
inductive Writer where
  | host (p : Fin 4)
  | firmware (pair : Fin 5)
  deriving DecidableEq, Repr

/-- A memory request at a host port: which BAR, its offset, its byte enables, the value of a write, and whether it is
longer than two DW (03 R79; its data is then of no account). -/
structure Access where
  bar2 : Bool
  addr : BitVec 20
  be : BitVec 4
  value : Option Word
  long : Bool := false
  deriving DecidableEq, Repr

/-- What demands a warm reset (02 R67): the key, a failed warm-entry check, or the escalation of device-SAFE. -/
inductive WarmCause where
  | key (w : Writer) (v : Word) | check | escalation
  deriving DecidableEq, Repr

/-- How a host is lost (03 R95). -/
inductive LossKind where
  | linkDown | hotReset | flr | perst
  deriving DecidableEq, Repr

/-- A capability of a port's configuration space (03 R76). -/
inductive CfgCap where
  | pcie | pm | msix | aer | serial | secondary | l1ss | ltr
  deriving DecidableEq, Repr

/-- A double word of a port's configuration space: of its header, or of a capability, counted from the capability's
start. The spec names the capabilities of R76 and places none. -/
inductive CfgReg where
  | header (i : Fin 16) | cap (c : CfgCap) (i : Fin 16)
  deriving DecidableEq, Repr

/-- A request to a port's PCIe configuration space, or what its host orders on the link (03 R75 to R78, R95): writes of Bus
Master Enable, Memory Space Enable, the power state, the six BARs, the payload and read-request sizes and the completion
timeout; the link's power state; a read. -/
inductive CfgReq where
  | busMaster (on : Bool) | memorySpace (on : Bool) | dState (d3hot : Bool) | linkPower (lpm : Fin 5)
  | bar (n : Fin 6) (v : Word) | maxPayload (code : Fin 8) | maxRead (code : Fin 8) | timeout (code : Fin 16)
  | read (r : CfgReg)
  deriving DecidableEq, Repr

/-- What firmware does for an FW_CALL descriptor (04 R112, R115, R125); `mem`: the step has written host memory. -/
inductive FwAct where
  | start (rsafe : Bool) | commit (mem : Bool) | finish (code : BitVec 8) (detail : BitVec 8) (result : Word)
  deriving DecidableEq, Repr

/-- An event of a leg counter that is no reload (08 R230): ZERO, PERIOD, a CMPn match counting up or down, or the
clock, counted from the period start, in which H changes (it need not be a CMPn match, R229). -/
inductive CntEvent where
  | zero | period | cmp (n : Fin 4) (down : Bool) | h (q : Word)
  deriving DecidableEq, Repr

/-- What a winding measurement shows for a leg's two pairs (09 R285). -/
inductive WindV where
  | low | between | compliance
  deriving DecidableEq, Repr

/-- A basting measurement (09 R284, R285); voltages in units of 40 mV. `rest`: at release the gate is within 0.5 V of
the negative supply; `clamp`: it reaches the clamp; `small`: ΔV is below 20 mV. -/
inductive BastMeas where
  | gate (upper clamp rest small : Bool) (dv : BitVec 8)
  | phase (vSrc vSnk : BitVec 8)
  | wind (first second : WindV)
  deriving DecidableEq, Repr

/-- What the boot ROM reads from a QSPI slot (14 R427): whether the flash failed to answer in full, the header of 64
words, the payload, and the trailer: the words of PUBKEY and SIGNATURE. -/
structure FlashImage where
  short : Bool
  hdr : List Word
  payload : List Word
  trailer : List Word
  deriving DecidableEq, Repr

/-- What a debugger runs on the main copy of a halted pair (13 R400): a read or a write of a CSR or of a register, one stepped U-mode
read of a CSR, a write that the program buffer makes, or the program buffer with other instructions. -/
inductive DbgCmd where
  | readCsr (csr : BitVec 12) | writeCsr (csr : BitVec 12) (v : Word) | stepCsr (csr : BitVec 12)
  | readReg (r : Fin 32) | writeReg (r : Fin 32) (v : Word) | store (addr : BitVec 20) (v : Word) | prog (words : List Word)
  deriving DecidableEq, Repr

/-- Where a store of a core goes that is no register write (13 R389): shared SRAM, or the memory of a port's host. -/
inductive CoreStore where
  | sram (addr : BitVec 22) | host (p : Fin 4) (addr : BitVec 64)
  deriving DecidableEq, Repr

/-- The far end of a link: its serial, its port, and whether the link shows TOO_LONG. -/
structure SeamFar where
  lo : Word
  hi : Word
  port : Fin 3
  tooLong : Bool
  deriving DecidableEq, Repr

/-- What a device's discovery reply carries (15 R449; log 24): its serial, its TRIP_BUDGET, the far end of each port and the hop
count it answers. -/
structure SeamDev where
  lo : Word
  hi : Word
  budget : BitVec 16
  far : List (Option SeamFar)
  h : BitVec 6 := 0
  deriving DecidableEq, Repr

/-- A node of the discovery table (15 R449): hops, its port to its parent, the parent and the parent's port, REFUSE and
serial. -/
structure SeamNode where
  hops : Nat
  port : Nat
  parent : Nat
  pport : Nat
  refuse : Nat
  lo : Word
  hi : Word
  deriving DecidableEq, Repr

/-- A discovery frame (15 R449): the hop count with the root's serial and the sender's end of the link, a device's reply, or the
root's table. -/
inductive SeamDisc where
  | hop (h : BitVec 6) (lo hi : Word) (far : SeamFar)
  | reply (d : SeamDev)
  | table (ring : Bool) (nodes : List SeamNode)
  deriving DecidableEq, Repr

/-- Occurrences of an event in one cycle: in M-mode, and in U-mode (16 R473). -/
structure TalInc where
  m : Word
  u : Word
  deriving DecidableEq, Repr

/-- The commands the block takes, one constructor per row of spec/opcode_table.json, in its order. Each comment
names the row and its rule. A slot of type Unit holds nothing. -/
inductive Instr where
  | registerWrite (w : Writer) (bar2 : Bool) (addr : BitVec 20) (be : BitVec 4) (v : Word × Option CoreStore)  -- REGISTER_WRITE, R85
  | longRequest (p : Fin 4) (bar2 : Bool) (addr : BitVec 20) (isWrite : Bool)  -- LONG_REQUEST, R79
  | heldAccessTimeout  -- HELD_ACCESS_TIMEOUT, R57
  | crystalLost  -- CRYSTAL_LOST, R53
  | xtalLocked  -- XTAL_LOCKED, R53
  | pllUnlock (pll : Pll)  -- PLL_UNLOCK, R57
  | pllRelock (pll : Pll) (ok : Bool)  -- PLL_RELOCK, R57
  | powerGo (pair : Fin 5)  -- POWER_GO, R61
  | descentComplete  -- DESCENT_COMPLETE, R61
  | descentAbandoned (src : Fin 16)  -- DESCENT_ABANDONED, R61
  | wakeSource (src : Fin 16)  -- WAKE_SOURCE, R62
  | heldPortRequest (p : Fin 4) (a : Access)  -- HELD_PORT_REQUEST, R62
  | wakeClocksLocked  -- WAKE_CLOCKS_LOCKED, R63
  | warmEntryCheck (checkpointOk imageOk : Bool)  -- WARM_ENTRY_CHECK, R63
  | wakeTimerExpiry  -- WAKE_TIMER_EXPIRY, R62
  | railUndervoltage  -- RAIL_UNDERVOLTAGE, R65
  | powerOnReset (pin : Bool)  -- POWER_ON_RESET, R66
  | porRelease (bootSel : Bool)  -- POR_RELEASE, R69
  | vaultLoadDone  -- VAULT_LOAD_DONE, R69
  | startSelfTestDone (bad : List (Fin 16 × BitVec 16))  -- START_SELF_TEST_DONE, R407
  | imageFetchVerify (img : FlashImage)  -- IMAGE_FETCH_VERIFY, R70
  | firmwareRelease  -- FIRMWARE_RELEASE, R432
  | warmReset (cause : WarmCause)  -- WARM_RESET, R67
  | hostLoss (p : Fin 4) (kind : LossKind)  -- HOST_LOSS, R95
  | linkUp (p : Fin 4) (speed : Fin 4)  -- LINK_UP, R95
  | ownershipWrite (p : Fin 4) (addr : BitVec 20) (v : Word)  -- OWNERSHIP_WRITE, R89
  | ownershipCommit (ok : Bool)  -- OWNERSHIP_COMMIT, R89
  | stewardXfer (p : Fin 4) (target : Fin 4) (go : Bool)  -- STEWARD_XFER, R91
  | stewardAccept (p : Fin 4) (accept : Bool)  -- STEWARD_ACCEPT, R91
  | stewardXferTimeout  -- STEWARD_XFER_TIMEOUT, R91
  | stewardSetByFirmware (code : BitVec 4)  -- STEWARD_SET_BY_FIRMWARE, R87
  | dbTailWrite (p : Fin 4) (c : Fin 256) (v : Word)  -- DB_TAIL_WRITE, R107
  | descriptorReadDone (c : Fin 256) (r : Option (Vector Word 8))  -- DESCRIPTOR_READ_DONE, R102
  | descriptorStart  -- DESCRIPTOR_START, R105
  | opNop (c : Fin 256)  -- OP_NOP, R112
  | opSetpoint (c : Fin 256)  -- OP_SETPOINT, R113
  | opAxisState (c : Fin 256)  -- OP_AXIS_STATE, R157
  | opRegWrite (c : Fin 256)  -- OP_REG_WRITE, R113
  | opRegRead (c : Fin 256)  -- OP_REG_READ, R113
  | opBankLoad (c : Fin 256) (data : Option (List Word))  -- OP_BANK_LOAD, R113
  | opBankCheck (c : Fin 256)  -- OP_BANK_CHECK, R179
  | opSnapshot (c : Fin 256)  -- OP_SNAPSHOT, R184
  | opPmRead (c : Fin 256)  -- OP_PM_READ, R316
  | opDmaStart (c : Fin 256)  -- OP_DMA_START, R134
  | opVaultWrite (c : Fin 256) (data : Option Word)  -- OP_VAULT_WRITE, R426
  | opFwStage (c : Fin 256) (page : Option (List Word))  -- OP_FW_STAGE, R434
  | opFwVerify (c : Fin 256)  -- OP_FW_VERIFY, R435
  | opEventMark (c : Fin 256)  -- OP_EVENT_MARK, R113
  | opPowerReq (c : Fin 256)  -- OP_POWER_REQ, R61
  | opFwCall (c : Fin 256) (act : FwAct)  -- OP_FW_CALL, R112
  | opService (c : Fin 256)  -- OP_SERVICE, R416
  | hostFlushDone (c : Fin 256) (ok : Bool)  -- HOST_FLUSH_DONE, R115
  | descriptorComplete (c : Fin 256)  -- DESCRIPTOR_COMPLETE, R116
  | ringSaturated (c : Fin 256)  -- RING_SATURATED, R122
  | ctxStop (w : Writer) (c : Fin 256)  -- CTX_STOP, R119
  | ctxStopped (c : Fin 256)  -- CTX_STOPPED, R119
  | ctxResume (w : Writer) (c : Fin 256)  -- CTX_RESUME, R119
  | ctxInit (w : Writer) (c : Fin 256)  -- CTX_INIT, R119
  | setpointMirrorWrite (p : Fin 4) (c : Fin 256) (a : Fin 8) (v : Word)  -- SETPOINT_MIRROR_WRITE, R108
  | eventOccurrence (src : Fin 256) (unit : BitVec 8) (detail : Word)  -- EVENT_OCCURRENCE, R129
  | mergedRecordWrite (src : Fin 256) (p : Fin 4)  -- MERGED_RECORD_WRITE, R129
  | msixCoalesceTimeout (p : Fin 4) (v : Fin 64)  -- MSIX_COALESCE_TIMEOUT, R130
  | evRingEnable (w : Writer) (p : Fin 4)  -- EV_RING_ENABLE, R133
  | evRingHeadWrite (w : Writer) (p : Fin 4) (v : Word)  -- EV_RING_HEAD_WRITE, R128
  | fwEventRaise (pair : Fin 5) (v : Word)  -- FW_EVENT_RAISE, R133
  | dmaChStart (w : Writer) (n : Fin 16)  -- DMA_CH_START, R134
  | dmaDescFetchDone (n : Fin 16) (r : Option (Vector Word 8))  -- DMA_DESC_FETCH_DONE, R136
  | dmaElementDone (n : Fin 16) (ok : Bool) (data : List Word)  -- DMA_ELEMENT_DONE, R139
  | dmaIndexReadDone (n : Fin 16) (r : Option (List Word))  -- DMA_INDEX_READ_DONE, R139
  | dmaDescEnd (n : Fin 16)  -- DMA_DESC_END, R141
  | dmaChStop (w : Writer) (n : Fin 16)  -- DMA_CH_STOP, R146
  | dmaChResume (w : Writer) (n : Fin 16)  -- DMA_CH_RESUME, R146
  | dmaChReset (w : Writer) (n : Fin 16)  -- DMA_CH_RESET, R146
  | axRequest (w : Writer) (a : Fin 8) (target : Fin 16)  -- AX_REQUEST, R157
  | axFaultClr (w : Writer) (a : Fin 8)  -- AX_FAULT_CLR, R156
  | axFwRelease (w : Writer) (a : Fin 8)  -- AX_FW_RELEASE, R160
  | safeStateEstablished (a : Fin 8)  -- SAFE_STATE_ESTABLISHED, R352
  | sampleInstant (a : Fin 8)  -- SAMPLE_INSTANT, R170
  | controlStepDone (a : Fin 8) (ecc : Option (Fin 16 × Fin 256))  -- CONTROL_STEP_DONE, R170
  | outputInstant (a : Fin 8)  -- OUTPUT_INSTANT, R166
  | closeCheckDone (a : Fin 8)  -- CLOSE_CHECK_DONE, R180
  | holdTimeout (a : Fin 8)  -- HOLD_TIMEOUT, R182
  | bankwinWrite (w : Writer) (a : Fin 8) (word : Fin 256) (v : Word)  -- BANKWIN_WRITE, R487
  | tableDecision (a : Fin 8)  -- TABLE_DECISION, R193
  | zcCrossing (a : Fin 8) (ph : Fin 3) (rising : Bool)  -- ZC_CROSSING, R207
  | zcMissing (a : Fin 8)  -- ZC_MISSING, R207
  | zcTimeout (a : Fin 8)  -- ZC_TIMEOUT, R207
  | catchTrigger (a : Fin 8)  -- CATCH_TRIGGER, R214
  | catchClocksValid (a : Fin 8)  -- CATCH_CLOCKS_VALID, R215
  | catchVerify (a : Fin 8)  -- CATCH_VERIFY, R216
  | recoveryZeroTime (a : Fin 8)  -- RECOVERY_ZERO_TIME, R222
  | recatchTimeout (a : Fin 8)  -- RECATCH_TIMEOUT, R222
  | counterReload (m : Fin 24) (mid : Bool) (cs : List (Fin 24 × Word × Bool))  -- COUNTER_RELOAD, R233
  | setLanding (m : Fin 24) (dist : BitVec 32)  -- SET_LANDING, R234
  | legCommit (m : Fin 24)  -- LEG_COMMIT, R236
  | legDiscard (m : Fin 24)  -- LEG_DISCARD, R236
  | chopNocurTimeout (m : Fin 24)  -- CHOP_NOCUR_TIMEOUT, R254
  | maskStepChange (m : Fin 24)  -- MASK_STEP_CHANGE, R252
  | fastFrame (i : Fin 8) (states : Option (BitVec 6)) (short : BitVec 6)  -- FAST_FRAME, R261
  | fastFrameCrcFail (i : Fin 8)  -- FAST_FRAME_CRC_FAIL, R262
  | fastFormLost (i : Fin 8)  -- FAST_FORM_LOST, R262
  | fastFormRegained (i : Fin 8)  -- FAST_FORM_REGAINED, R262
  | keepaliveFrame (i : Fin 8) (good : Bool)  -- KEEPALIVE_FRAME, R263
  | islandLinkLost (i : Fin 8)  -- ISLAND_LINK_LOST, R264
  | statusLinkLost (i : Fin 8)  -- STATUS_LINK_LOST, R264
  | islandLinkRegained (i : Fin 8)  -- ISLAND_LINK_REGAINED, R264
  | islandPowerUp (i : Fin 8)  -- ISLAND_POWER_UP, R265
  | islandCfgSync (i : Fin 8)  -- ISLAND_CFG_SYNC, R265
  | islandUndervoltage (i : Fin 8) (k : Fin 9) (good : Bool)  -- ISLAND_UNDERVOLTAGE, R267
  | dcpsConversion (i : Fin 8) (code : BitVec 14)  -- DCPS_CONVERSION, R266
  | gatePhase1End (i : Fin 8) (c : Fin 6)  -- GATE_PHASE1_END, R268
  | gatePhase2End (i : Fin 8) (c : Fin 6)  -- GATE_PHASE2_END, R268
  | gatePhase2Timeout (i : Fin 8) (c : Fin 6)  -- GATE_PHASE2_TIMEOUT, R268
  | gateFault (i : Fin 8) (c : Fin 6)  -- GATE_FAULT, R270
  | didtDetect (i : Fin 8) (c : Fin 6)  -- DIDT_DETECT, R273
  | alarmWord (i : Fin 8)  -- ALARM_WORD, R273
  | tripWord (i : Fin 8)  -- TRIP_WORD, R274
  | softStep1End (i : Fin 8) (x : Fin 3)  -- SOFT_STEP1_END, R275
  | softStep2End (i : Fin 8) (x : Fin 3)  -- SOFT_STEP2_END, R274
  | softStep2Timeout (i : Fin 8) (x : Fin 3)  -- SOFT_STEP2_TIMEOUT, R274
  | bastingStart (w : Writer) (m : Fin 24)  -- BASTING_START, R283
  | bastingAbort (w : Writer) (m : Fin 24)  -- BASTING_ABORT, R283
  | bastingMeasurement (m : Fin 24) (b : BastMeas) (last : Bool)  -- BASTING_MEASUREMENT, R284
  | islandService (w : Writer) (i : Fin 8) (v : Bool)  -- ISLAND_SERVICE, R287
  | fastConversion (k : Fin 32) (raw : BitVec 14)  -- FAST_CONVERSION, R294
  | triggerDropped (k : Fin 32)  -- TRIGGER_DROPPED, R293
  | xbarMove (k : Fin 32) (fp : Fin 36)  -- XBAR_MOVE, R292
  | windowFiring (k : Fin 32) (wb : Bool) (copies : BitVec 2)  -- WINDOW_FIRING, R297
  | blankingOpen (m : Fin 24)  -- BLANKING_OPEN, R299
  | blankingClose (k : Fin 32)  -- BLANKING_CLOSE, R299
  | protectionTrip  -- PROTECTION_TRIP, R347
  | precisionConversion (x : Fin 2) (raw : BitVec 24)  -- PRECISION_CONVERSION, R311
  | openWireTest (x : Fin 2) (raw : BitVec 24)  -- OPEN_WIRE_TEST, R317
  | mainsCrossing (rising : Bool)  -- MAINS_CROSSING, R307
  | mainsTimeout  -- MAINS_TIMEOUT, R307
  | pmUrgent (w : Writer) (j : Fin 64)  -- PM_URGENT, R309
  | pmQpop (p : Fin 4)  -- PM_QPOP, R316
  | pmCalZero (w : Writer) (j : Fin 64) (n : Fin 16)  -- PM_CAL_ZERO, R318
  | pmCalFull (w : Writer) (j : Fin 64) (n : Fin 16)  -- PM_CAL_FULL, R318
  | pmCalCommit (w : Writer)  -- PM_CAL_COMMIT, R319
  | pmCalAbort (w : Writer)  -- PM_CAL_ABORT, R318
  | encoderEdge (n : Fin 4) (a b : Bool)  -- ENCODER_EDGE, R329
  | encoderIndex (n : Fin 4) (z : Bool)  -- ENCODER_INDEX, R330
  | hallTransition (n : Fin 4) (code : Fin 8)  -- HALL_TRANSITION, R331
  | filterReject (n : Fin 4)  -- FILTER_REJECT, R328
  | ssiRead (n : Fin 4) (data : Word) (err lineOk : Bool)  -- SSI_READ, R332
  | resolverPeriod (n : Fin 4) (valley : Bool) (_ _ _ : Unit)  -- RESOLVER_PERIOD, R334
  | speedTimeout (n : Fin 4)  -- SPEED_TIMEOUT, R338
  | spdValidRestored (n : Fin 4)  -- SPD_VALID_RESTORED, R339
  | piCntWrite (w : Writer) (n : Fin 4) (v : Word)  -- PI_CNT_WRITE, R330
  | dinEdge (d : Fin 24) (level : Bool)  -- DIN_EDGE, R341
  | dinChatter (d : Fin 24)  -- DIN_CHATTER, R342
  | dinChatterDecay  -- DIN_CHATTER_DECAY, R342
  | dinStale (d : Fin 24)  -- DIN_STALE, R343
  | dinCfgCommit (d : Fin 24)  -- DIN_CFG_COMMIT, R341
  | stoInputChange (a b : Bool)  -- STO_INPUT_CHANGE, R360
  | stoDiscrepancy  -- STO_DISCREPANCY, R361
  | stoRelease  -- STO_RELEASE, R362
  | ss1Request (a : Fin 8)  -- SS1_REQUEST, R363
  | ss1StoPhase (a : Fin 8)  -- SS1_STO_PHASE, R363
  | ss1SpeedCheck (a : Fin 8)  -- SS1_SPEED_CHECK, R364
  | tmonUpdate (a : Fin 8) (da db dc : Fin 401)  -- TMON_UPDATE, R366
  | tmonFault (a : Fin 8)  -- TMON_FAULT, R367
  | ov1Firing (g : Fin 4)  -- OV1_FIRING, R369
  | tlimRampEnd (g : Fin 4)  -- TLIM_RAMP_END, R369
  | ov2Firing (g : Fin 4)  -- OV2_FIRING, R370
  | dischargeRequest (g : Fin 4)  -- DISCHARGE_REQUEST, R372
  | dischargeDone (g : Fin 4)  -- DISCHARGE_DONE, R373
  | dischargeTimeout (g : Fin 4)  -- DISCHARGE_TIMEOUT, R373
  | ctClose (w : Writer) (k : Fin 8)  -- CT_CLOSE, R375
  | ctOpen (w : Writer) (k : Fin 8)  -- CT_OPEN, R375
  | ctFeedbackFault (k : Fin 8)  -- CT_FEEDBACK_FAULT, R374
  | prechargeVoltageReached (g : Fin 4)  -- PRECHARGE_VOLTAGE_REACHED, R375
  | prechargeTimeout (g : Fin 4)  -- PRECHARGE_TIMEOUT, R375
  | comparatorTestSlice (k : Fin 32) (wb : Bool) (copy : Fin 2) (pass : Bool)  -- COMPARATOR_TEST_SLICE, R376
  | didtTest (i : Fin 8) (c : Fin 6) (pass skipped : Bool)  -- DIDT_TEST, R378
  | delayScrub (kind : Fin 3) (u : Fin 32) (field : Fin 3) (copy : Option (Fin 3))  -- DELAY_SCRUB, R379
  | tempUpdate (u : Fin 9) (temp : BitVec 12)  -- TEMP_UPDATE, R381
  | spbWrite (w : Writer) (word : Fin 76) (v : Word)  -- SPB_WRITE, R355
  | safArm (w : Writer)  -- SAF_ARM, R357
  | safDisarm (w : Writer)  -- SAF_DISARM, R358
  | safClear (w : Writer)  -- SAF_CLEAR, R361
  | windowMismatch (n : Fin 5)  -- WINDOW_MISMATCH, R394
  | windowCompareEqual (n : Fin 5)  -- WINDOW_COMPARE_EQUAL, R389
  | pairRestart (n : Fin 5) (newestOk otherOk : Bool)  -- PAIR_RESTART, R395
  | recoveryTestDone (n : Fin 5) (pass : Bool)  -- RECOVERY_TEST_DONE, R395
  | takeover (w : Fin 4) (newestOk otherOk : Bool)  -- TAKEOVER, R396
  | ckpt (n : Fin 5 × Bool)  -- CKPT, R393
  | yield (n : Fin 5)  -- YIELD, R405
  | kgrpWrite (n : Fin 5) (v : Bool)  -- KGRP_WRITE, R390
  | debugHalt (n : Fin 5)  -- DEBUG_HALT, R399
  | debugResume (n : Fin 5) (equal : Bool)  -- DEBUG_RESUME, R400
  | macResidueFail (e : Fin 2) (lane : Fin 9)  -- MAC_RESIDUE_FAIL, R402
  | engineSigFail (e : Fin 2)  -- ENGINE_SIG_FAIL, R403
  | bistSlice (kind : Fin 10) (unit : BitVec 16) (pass last : Bool) (way : Option (Fin 8))  -- BIST_SLICE, R404
  | bistSliceAbandoned  -- BIST_SLICE_ABANDONED, R406
  | rotation  -- ROTATION, R405
  | rotationGraceExpiry  -- ROTATION_GRACE_EXPIRY, R405
  | rowRepair (array : Fin 3) (row : BitVec 14) (cause : Fin 3 × Option (Fin 5))  -- ROW_REPAIR, R409
  | unitOut  -- UNIT_OUT, R416
  | rejoin (slicePass : Bool) (shadow : Bool × BitVec 16)  -- REJOIN, R411
  | test (pass : Bool)  -- TEST, R416
  | fuse  -- FUSE, R416
  | rotate  -- ROTATE, R416
  | flClear  -- FL_CLEAR, R416
  | deviceSafe  -- DEVICE_SAFE, R415
  | dsafeDelayExpiry  -- DSAFE_DELAY_EXPIRY, R415
  | seqCopyDisagree  -- SEQ_COPY_DISAGREE, R404
  | vaultCommitDone (a b : Bool)  -- VAULT_COMMIT_DONE, R421
  | vaultWriteQueued (w : Writer) (addr : BitVec 20) (v : Word)  -- VAULT_WRITE_QUEUED, R422
  | keyRevoke (w : Writer) (v : Word)  -- KEY_REVOKE, R429
  | minSvnWrite (w : Writer) (v : Word)  -- MIN_SVN_WRITE, R430
  | stageCopy (w : Writer)  -- STAGE_COPY, R434
  | stageCopyDone (data : List Word) (err : Bool)  -- STAGE_COPY_DONE, R434
  | verify (_ _ : Unit)  -- VERIFY, R435
  | activate  -- ACTIVATE, R435
  | clear  -- CLEAR, R435
  | unlock (_ _ : Unit)  -- UNLOCK, R441
  | attGo (w : Writer)  -- ATT_GO, R438
  | attReportDone (_ : Unit)  -- ATT_REPORT_DONE, R439
  | attReady  -- ATT_READY, R438
  | dbgLock (w : Writer)  -- DBG_LOCK, R441
  | seamLinkUp (p : Fin 3)  -- SEAM_LINK_UP, R446
  | seamLinkDown (p : Fin 3)  -- SEAM_LINK_DOWN, R446
  | linkMeasurement (p : Fin 3) (t1 t2 t3 t4 : BitVec 80)  -- LINK_MEASUREMENT, R447
  | discoverySend  -- DISCOVERY_SEND, R449
  | discoveryFrame (p : Fin 3) (domain : BitVec 8) (f : SeamDisc)  -- DISCOVERY_FRAME, R449
  | topologySettled  -- TOPOLOGY_SETTLED, R451
  | seamTripOriginate  -- SEAM_TRIP_ORIGINATE, R453
  | seamTripCmd (w : Writer) (v : Word)  -- SEAM_TRIP_CMD, R453
  | seamTripRx (p : Fin 3) (groups seq : BitVec 4) (origin : BitVec 10)  -- SEAM_TRIP_RX, R454
  | rootPathLost  -- ROOT_PATH_LOST, R456
  | ringReparent (p : Fin 3)  -- RING_REPARENT, R459
  | peerPublish  -- PEER_PUBLISH, R460
  | peerFrameRx (p : Fin 3) (crcOk : Bool) (origin : BitVec 10) (seq period : BitVec 16) (ws : List Word)  -- PEER_FRAME_RX, R462
  | peerStale (slot : Fin 4)  -- PEER_STALE, R462
  | talRun (w : Writer) (on : Bool)  -- TAL_RUN, R467
  | talLatch (w : Writer)  -- TAL_LATCH, R470
  | talClear (w : Writer)  -- TAL_CLEAR, R469
  | talOverflow (n : Fin 8) (inc : TalInc)  -- TAL_OVERFLOW, R468
  | sampleEnd (src : Fin 6) (lost : Bool) (bits : BitVec 7) (skips : BitVec 16) (ws : Vector Word 6)  -- SAMPLE_END, R480
  | tagRecord (e : Fin 2) (a : Fin 8) (corr done rep late sat : Bool) (macs wait urdy xrdy queue : BitVec 16)  -- TAG_RECORD, R482
  | talSampRdWrite (w : Writer) (v : Word)  -- TAL_SAMP_RD_WRITE, R484
  | windowConditionEnd (k : Fin 32) (wb : Bool)  -- WINDOW_CONDITION_END, R296
  | contactorFeedbackChange (k : Fin 8) (level : Bool)  -- CONTACTOR_FEEDBACK_CHANGE, R374
  | compareMatch (m : Fin 24) (e : CntEvent)  -- COMPARE_MATCH, R230
  | deadTimeExpiry (m : Fin 24)  -- DEAD_TIME_EXPIRY, R246
  | minimumPulseExpiry (m : Fin 24)  -- MINIMUM_PULSE_EXPIRY, R249
  | holdStateGapEnd (i : Fin 8) (x : Fin 3)  -- HOLD_STATE_GAP_END, R263
  | configurationRequest (p : Fin 4) (r : CfgReq)  -- CONFIGURATION_REQUEST, R95
  | perstNDeassertion (p : Fin 4)  -- PERST_N_DEASSERTION, R69
  | debuggerAttach (on : Bool)  -- DEBUGGER_ATTACH, R399
  | abstractCommand (n : Fin 5) (c : DbgCmd)  -- ABSTRACT_COMMAND, R400
  deriving DecidableEq, Repr

end Sys2Proof
end

