-- ==== Sys2Proof/Decode.lean ====
section
/-! DEFINITION. Commands spelt by the bits of the opcode table. The spec's table gives its rows no bits: a command is an
event or an operation with its operands, never a word. -/

namespace Sys2Proof

/-- The command that a word of `nbits` bits spells: none, since no row of the table has bits. -/
def decodeTableWord (_nbits _w : Nat) : Option Instr := none

end Sys2Proof
end

