-- ==== Sys2Proof/Machine/RegMap.lean ====
section
/-! DEFINITION. The register window BAR0: one row per register of the spec's register tables (03 R82 and the
tables of every chapter), with its address, its repetition, who may write it, which bits take which kind of write
(00 R13), its reset word (00 R17: V and U fields read 0) and its first vault word; then an address and a
field reference for each register and field that the meanings name, by the spec's own names. -/

set_option linter.style.nameCheck false

namespace Sys2Proof.Machine

/-- Who may write a register (03 R85, R87 and the chapters' own write rules). -/
inductive WrClass where
  | steward | mMode | nobody | ownTable | accept | denial | hpEvent | ctx | evRoute | evRing | evCoal
  | axis | leg | islandLeg | fastCh | pm | pi | dmaCh | safety | spb | pairCtrl | vault | tally
  deriving DecidableEq, Repr

/-- One row of the register map. `n1`, `s1` and `n2`, `s2` are the counts and strides of its repetition. -/
structure RegRow where
  addr : Nat
  n1 : Nat
  s1 : Nat
  n2 : Nat
  s2 : Nat
  cls : WrClass
  warm : Bool      -- true: a warm reset returns it to its reset word
  rw : Nat         -- bits of type RW
  w1c : Nat        -- bits of type W1C
  pv : Nat         -- bits of type PV
  reset : Nat
  vault : Nat      -- first vault word, 0 where the register has none
  vstride : Nat
  deriving DecidableEq, Repr

/-- A field of a register word. -/
structure FieldRef where
  addr : Nat
  lo : Nat
  width : Nat
  deriving DecidableEq, Repr

/-- Register rows of 0x0 to 0x1FFF. -/
def devHpRows : List RegRow :=
  [/- DEV_ID -/ ⟨0, 1, 4, 1, 4, .steward, false, 0, 0, 0, 0x14896, 0, 0⟩,
   /- DEV_SERIAL_LO -/ ⟨4, 1, 4, 1, 4, .steward, false, 0, 0, 0, 0, 0, 0⟩,
   /- DEV_SERIAL_HI -/ ⟨8, 1, 4, 1, 4, .steward, false, 0, 0, 0, 0, 0, 0⟩,
   /- DEV_PCI_SUB -/ ⟨0xC, 1, 4, 1, 4, .steward, false, 0, 0, 0xFFFFFFFF, 0, 208, 0⟩,
   /- DEV_TEMP_CTL -/ ⟨0x10, 1, 4, 1, 4, .steward, false, 0, 0, 0, 0, 0, 0⟩,
   /- DEV_TEMP_GI -/ ⟨0x20, 8, 4, 1, 4, .steward, false, 0, 0, 0, 0, 0, 0⟩,
   /- HP_SELF -/ ⟨0x1000, 1, 4, 1, 4, .nobody, false, 0, 0, 0, 0, 0, 0⟩,
   /- HP_STEWARD -/ ⟨0x1004, 1, 4, 1, 4, .ownTable, false, 0, 0x200, 0xF, 0, 160, 0⟩,
   /- HP_STEWARD_XFER -/ ⟨0x1008, 1, 4, 1, 4, .ownTable, false, 0, 0, 0, 0, 0, 0⟩,
   /- HP_STEWARD_ACCEPT -/ ⟨0x100C, 1, 4, 1, 4, .accept, false, 0, 0, 0, 0, 0, 0⟩,
   /- HP_OWN_GEN -/ ⟨0x1010, 1, 4, 1, 4, .ownTable, false, 0, 0, 0, 0, 152, 0⟩,
   /- HP_OWN_FUNC -/ ⟨0x1014, 1, 4, 1, 4, .ownTable, false, 0, 0, 0xFF, 0, 161, 0⟩,
   /- HP_OWN_DMA -/ ⟨0x1018, 2, 4, 1, 4, .ownTable, false, 0, 0, 0xFFFFFFFF, 0, 162, 1⟩,
   /- HP_OWN_AX -/ ⟨0x1020, 8, 4, 1, 4, .ownTable, false, 0, 0, 0x7FF0F, 0, 164, 1⟩,
   /- HP_OWN_CTX -/ ⟨0x1040, 32, 4, 1, 4, .ownTable, false, 0, 0, 0xFFFFFFFF, 0, 172, 1⟩,
   /- HP_OWN_STATUS -/ ⟨0x10C0, 1, 4, 1, 4, .steward, false, 0, 0, 0, 0, 0, 0⟩,
   /- HP_LINK -/ ⟨0x1100, 4, 0x40, 1, 4, .nobody, false, 0, 0, 0, 0, 0, 0⟩,
   /- HP_RESETCNT -/ ⟨0x1104, 4, 0x40, 1, 4, .nobody, false, 0, 0, 0, 0, 0, 0⟩,
   /- HP_DENY_ADDR -/ ⟨0x1108, 4, 0x40, 1, 4, .nobody, false, 0, 0, 0, 0, 0, 0⟩,
   /- HP_DENY_INFO -/ ⟨0x110C, 4, 0x40, 1, 4, .denial, false, 0, 0x80000000, 0, 0, 0, 0⟩,
   /- HP_CFG -/ ⟨0x1110, 4, 0x40, 1, 4, .steward, false, 0, 0, 3, 0, 204, 1⟩,
   /- HP_EVENT -/ ⟨0x1200, 1, 4, 1, 4, .hpEvent, false, 0, 0x3FFFF, 0, 0, 0, 0⟩]

/-- Register rows of 0x2000 to 0x2FFF. -/
def clkRows : List RegRow :=
  [/- CLK_STATUS -/ ⟨0x2000, 1, 4, 1, 4, .steward, false, 0, 0, 0, 0, 0, 0⟩,
   /- CLK_CFG -/ ⟨0x2004, 1, 4, 1, 4, .steward, false, 0, 0, 1, 0, 209, 0⟩,
   /- CLK_EVENT -/ ⟨0x2008, 1, 4, 1, 4, .steward, false, 0, 0xF, 0, 0, 0, 0⟩,
   /- PWR_STATE -/ ⟨0x2010, 1, 4, 1, 4, .steward, false, 0, 0, 0, 2, 0, 0⟩,
   /- PWR_CTRL -/ ⟨0x2014, 1, 4, 1, 4, .mMode, false, 3, 0, 0, 2, 0, 0⟩,
   /- PWR_WAKE_EN -/ ⟨0x2018, 1, 4, 1, 4, .steward, false, 0xFF, 0, 0, 0x80FF, 0, 0⟩,
   /- PWR_WAKE_CAUSE -/ ⟨0x201C, 1, 4, 1, 4, .steward, false, 0, 0x80FF, 0, 0, 0, 0⟩,
   /- PWR_WAKE_TIMER -/ ⟨0x2020, 1, 4, 1, 4, .steward, false, 0xFFFFFF, 0, 0, 0, 0, 0⟩,
   /- PWR_DIN_WAKE -/ ⟨0x2024, 1, 4, 1, 4, .steward, false, 0xFFFFFF, 0, 0, 0, 0, 0⟩,
   /- PWR_RESET -/ ⟨0x2028, 1, 4, 1, 4, .steward, false, 0, 0, 0, 0, 0, 0⟩,
   /- PWR_RESET_CAUSE -/ ⟨0x202C, 1, 4, 1, 4, .steward, false, 0, 0x1F, 0, 0, 0, 0⟩,
   /- PWR_TIME_LO -/ ⟨0x2030, 1, 4, 1, 4, .steward, false, 0, 0, 0, 0, 0, 0⟩,
   /- PWR_TIME_HI -/ ⟨0x2034, 1, 4, 1, 4, .steward, false, 0, 0, 0, 0, 0, 0⟩,
   /- PWR_BOOT_STATUS -/ ⟨0x2038, 1, 4, 1, 4, .steward, false, 0, 0, 0, 0, 0, 0⟩]

/-- Register rows of 0x8000 to 0xBFFF. -/
def ctxRows : List RegRow :=
  [/- HP_CTX_BASE_LO -/ ⟨0x8000, 256, 0x40, 1, 4, .ctx, true, 0xFFFFF000, 0, 0, 0, 0, 0⟩,
   /- HP_CTX_BASE_HI -/ ⟨0x8004, 256, 0x40, 1, 4, .ctx, true, 0xFFFFFFFF, 0, 0, 0, 0, 0⟩,
   /- HP_CTX_CFG -/ ⟨0x8008, 256, 0x40, 1, 4, .ctx, true, 0xFFF3F0F, 0, 0, 4, 0, 0⟩,
   /- HP_CTX_SAT -/ ⟨0x800C, 256, 0x40, 1, 4, .ctx, true, 0xFFFFF, 0, 0, 0, 0, 0⟩,
   /- HP_CTX_CTRL -/ ⟨0x8010, 256, 0x40, 1, 4, .ctx, true, 1, 0, 0, 0, 0, 0⟩,
   /- HP_CTX_STATE -/ ⟨0x8014, 256, 0x40, 1, 4, .ctx, true, 0, 0, 0, 0, 0, 0⟩,
   /- HP_CTX_EVENT -/ ⟨0x8018, 256, 0x40, 1, 4, .ctx, true, 0, 0x3F, 0, 0, 0, 0⟩,
   /- HP_CTX_LEDGER0 -/ ⟨0x8020, 256, 0x40, 1, 4, .ctx, false, 0, 0, 0, 0, 0, 0⟩,
   /- HP_CTX_LEDGER1 -/ ⟨0x8024, 256, 0x40, 1, 4, .ctx, false, 0, 0, 0, 0, 0, 0⟩,
   /- HP_CTX_LEDGER2 -/ ⟨0x8028, 256, 0x40, 1, 4, .ctx, false, 0, 0, 0, 0, 0, 0⟩,
   /- HP_CTX_LEDGER3 -/ ⟨0x802C, 256, 0x40, 1, 4, .ctx, false, 0, 0, 0, 0, 0, 0⟩]

/-- Register rows of 0x10000 to 0x17FFF. -/
def axRows : List RegRow :=
  [/- AX_STATE -/ ⟨0x10000, 8, 0x1000, 1, 4, .axis, false, 0, 0, 0, 0, 0, 0⟩,
   /- AX_CTRL -/ ⟨0x10004, 8, 0x1000, 1, 4, .axis, true, 0, 0, 0, 0, 0, 0⟩,
   /- AX_BIND -/ ⟨0x10008, 8, 0x1000, 1, 4, .steward, false, 0, 0, 0x73, 0, 294, 2⟩,
   /- AX_BIND_LEG -/ ⟨0x1000C, 8, 0x1000, 1, 4, .steward, false, 0, 0, 0xFFFFFF, 0, 295, 2⟩,
   /- AX_CFG -/ ⟨0x10010, 8, 0x1000, 1, 4, .axis, true, 0xF7F, 0, 0, 0, 0, 0⟩,
   /- AX_TIMING -/ ⟨0x10014, 8, 0x1000, 1, 4, .axis, true, 0x30FFFFF, 0, 0, 0x4E20, 0, 0⟩,
   /- AX_OUTDLY -/ ⟨0x10018, 8, 0x1000, 1, 4, .axis, true, 0xFFFFF, 0, 0, 0x320, 0, 0⟩,
   /- AX_YSRC -/ ⟨0x10020, 8, 0x1000, 2, 4, .axis, true, 0xFFFFFFFF, 0, 0, 0xFFFFFFFF, 0, 0⟩,
   /- AX_UDST0 -/ ⟨0x10028, 8, 0x1000, 1, 4, .axis, true, 0xFFFFFFFF, 0, 0, 0, 0, 0⟩,
   /- AX_UDST1 -/ ⟨0x1002C, 8, 0x1000, 1, 4, .axis, true, 0xFFFF, 0, 0, 0, 0, 0⟩,
   /- AX_SETPOINT -/ ⟨0x10040, 8, 0x1000, 1, 4, .axis, true, 0xFFFFFFFF, 0, 0, 0, 0, 0⟩,
   /- AX_REF1 -/ ⟨0x10044, 8, 0x1000, 1, 4, .axis, true, 0xFFFFFFFF, 0, 0, 0, 0, 0⟩,
   /- AX_RAMP -/ ⟨0x10048, 8, 0x1000, 1, 4, .axis, true, 0xFFFFFFFF, 0, 0, 0, 0, 0⟩,
   /- AX_FE_CFG -/ ⟨0x1004C, 8, 0x1000, 1, 4, .axis, true, 0x33F, 0, 0, 0, 0, 0⟩,
   /- AX_FE_LIMIT -/ ⟨0x10050, 8, 0x1000, 1, 4, .axis, true, 0xFFFFFFFF, 0, 0, 0, 0, 0⟩,
   /- AX_FE_TIME -/ ⟨0x10054, 8, 0x1000, 1, 4, .axis, true, 0xFFFF, 0, 0, 1, 0, 0⟩,
   /- AX_HOLD_CFG -/ ⟨0x10058, 8, 0x1000, 1, 4, .axis, true, 0xFFFF, 0, 0, 0x64, 0, 0⟩,
   /- AX_XSEED -/ ⟨0x10060, 8, 0x1000, 12, 4, .axis, true, 0xFFFFFF, 0, 0, 0, 0, 0⟩,
   /- AX_XSEED_EXP -/ ⟨0x10090, 8, 0x1000, 1, 4, .axis, true, 0xFF, 0, 0, 0, 0, 0⟩,
   /- AX_BANKSEL -/ ⟨0x10094, 8, 0x1000, 1, 4, .axis, true, 0xF, 0, 0, 0, 0, 0⟩,
   /- AX_STATUS -/ ⟨0x100A0, 8, 0x1000, 1, 4, .axis, true, 0, 0, 0, 0x3FFFC000, 0, 0⟩,
   /- AX_EVENT -/ ⟨0x100A4, 8, 0x1000, 1, 4, .axis, true, 0, 0x3FF, 0, 0, 0, 0⟩,
   /- AX_SAMPLE_CNT -/ ⟨0x100A8, 8, 0x1000, 1, 4, .axis, true, 0, 0, 0, 0, 0, 0⟩,
   /- AX_CHECK -/ ⟨0x100AC, 8, 0x1000, 1, 4, .axis, true, 0, 0, 0, 0, 0, 0⟩,
   /- AX_FE_ERR -/ ⟨0x100B0, 8, 0x1000, 1, 4, .axis, true, 0, 0, 0, 0, 0, 0⟩,
   /- AX_R0 -/ ⟨0x100B4, 8, 0x1000, 1, 4, .axis, true, 0, 0, 0, 0, 0, 0⟩,
   /- AX_COUNTS -/ ⟨0x100B8, 8, 0x1000, 1, 4, .axis, true, 0, 0, 0, 0, 0, 0⟩,
   /- AX_BANKWIN -/ ⟨0x10800, 8, 0x1000, 256, 4, .axis, false, 0xFFFFFFFF, 0, 0, 0, 0, 0⟩,
   /- TM_CFG -/ ⟨0x10400, 8, 0x1000, 1, 4, .axis, false, 0xF, 0, 0, 0, 0, 0⟩,
   /- TM_ISRC -/ ⟨0x10404, 8, 0x1000, 1, 4, .axis, false, 0x1F1F1F1F, 0, 0, 0, 0, 0⟩,
   /- TM_VSRC -/ ⟨0x10408, 8, 0x1000, 1, 4, .axis, false, 0x801F1F1F, 0, 0, 0, 0, 0⟩,
   /- TM_KV -/ ⟨0x1040C, 8, 0x1000, 1, 4, .axis, false, 0xFFFFFF, 0, 0, 0, 0, 0⟩,
   /- TM_KR -/ ⟨0x10410, 8, 0x1000, 1, 4, .axis, false, 0xFFFFFF, 0, 0, 0, 0, 0⟩,
   /- TM_KT -/ ⟨0x10414, 8, 0x1000, 1, 4, .axis, false, 0xFFFFFF, 0, 0, 0, 0, 0⟩,
   /- TM_KL -/ ⟨0x10418, 8, 0x1000, 1, 4, .axis, false, 0xFFFFFF, 0, 0, 0, 0, 0⟩,
   /- TM_PSI_PM -/ ⟨0x1041C, 8, 0x1000, 1, 4, .axis, false, 0xFFFFFF, 0, 0, 0, 0, 0⟩,
   /- TM_MOTOR -/ ⟨0x10420, 8, 0x1000, 1, 4, .axis, false, 0xFFFF001F, 0, 0, 0x10000001, 0, 0⟩,
   /- TM_KE -/ ⟨0x10424, 8, 0x1000, 1, 4, .axis, false, 0xFFFFFF, 0, 0, 0, 0, 0⟩,
   /- TM_VLIM -/ ⟨0x10428, 8, 0x1000, 1, 4, .axis, false, 0xFFFFFF, 0, 0, 0, 0, 0⟩,
   /- TM_HYST -/ ⟨0x1042C, 8, 0x1000, 1, 4, .axis, false, 0xFFF0FFF, 0, 0, 0x140029, 0, 0⟩]
  ++ [/- TM_FLUX -/ ⟨0x10430, 8, 0x1000, 1, 4, .axis, false, 0xFFF0FFF, 0, 0, 0x19A, 0, 0⟩,
   /- TM_SWLIM -/ ⟨0x10434, 8, 0x1000, 1, 4, .axis, false, 0xFFFFFFFF, 0, 0, 0x401, 0, 0⟩,
   /- TM_DRIFT -/ ⟨0x10438, 8, 0x1000, 1, 4, .axis, false, 0x11F1F, 0, 0, 0x10A06, 0, 0⟩,
   /- TM_POS_CFG -/ ⟨0x1043C, 8, 0x1000, 1, 4, .axis, false, 0xFFFF0003, 0, 0, 0, 0, 0⟩,
   /- TM_PI_OFFSET -/ ⟨0x10440, 8, 0x1000, 1, 4, .axis, false, 0xFFFF, 0, 0, 0, 0, 0⟩,
   /- TM_ZC_CFG -/ ⟨0x10444, 8, 0x1000, 1, 4, .axis, false, 0x1FFFFFFF, 0, 0, 0x16402008, 0, 0⟩,
   /- TM_WATCH -/ ⟨0x10448, 8, 0x1000, 1, 4, .axis, false, 0xFFFFFFFF, 0, 0, 0xFFFF0000, 0, 0⟩,
   /- TM_CATCH_CFG -/ ⟨0x1044C, 8, 0x1000, 1, 4, .axis, false, 0xFFF7FFF, 0, 0, 0x390008, 0, 0⟩,
   /- TM_CATCH_TOL -/ ⟨0x10450, 8, 0x1000, 1, 4, .axis, false, 0xFFF, 0, 0, 0xCD, 0, 0⟩,
   /- TM_LOSS -/ ⟨0x10454, 8, 0x1000, 1, 4, .axis, false, 0xFF1FFFFF, 0, 0, 0x40019A10, 0, 0⟩,
   /- TM_LOSS_TIME -/ ⟨0x10458, 8, 0x1000, 1, 4, .axis, false, 0xFF03FF, 0, 0, 0x1400C8, 0, 0⟩,
   /- TM_COAST_RAMP -/ ⟨0x1045C, 8, 0x1000, 1, 4, .axis, false, 0xFFFFFF, 0, 0, 0, 0, 0⟩,
   /- TM_TABLE1 -/ ⟨0x10460, 8, 0x1000, 1, 4, .axis, false, 0xFFFFFF, 0, 0, 0x685281, 0, 0⟩,
   /- TM_TABLE2 -/ ⟨0x10464, 8, 0x1000, 1, 4, .axis, false, 0xFFFFFF, 0, 0, 0x284385, 0, 0⟩,
   /- TM_TABLE3 -/ ⟨0x10468, 8, 0x1000, 1, 4, .axis, false, 0xFFFFFF, 0, 0, 0x386184, 0, 0⟩,
   /- TM_TABLE4 -/ ⟨0x1046C, 8, 0x1000, 1, 4, .axis, false, 0xFFFFFF, 0, 0, 0x182586, 0, 0⟩,
   /- TM_TABLE5 -/ ⟨0x10470, 8, 0x1000, 1, 4, .axis, false, 0xFFFFFF, 0, 0, 0x583482, 0, 0⟩,
   /- TM_TABLE6 -/ ⟨0x10474, 8, 0x1000, 1, 4, .axis, false, 0xFFFFFF, 0, 0, 0x481683, 0, 0⟩,
   /- TM_STATUS -/ ⟨0x10480, 8, 0x1000, 1, 4, .axis, false, 0, 0, 0, 0, 0, 0⟩,
   /- TM_ZC_SPEED -/ ⟨0x10484, 8, 0x1000, 1, 4, .axis, false, 0, 0, 0, 0, 0, 0⟩,
   /- TM_ZC_ANGLE -/ ⟨0x10488, 8, 0x1000, 1, 4, .axis, false, 0, 0, 0, 0, 0, 0⟩,
   /- TM_ZC_TIME -/ ⟨0x1048C, 8, 0x1000, 1, 4, .axis, false, 0, 0, 0, 0, 0, 0⟩,
   /- TM_SPEED -/ ⟨0x10490, 8, 0x1000, 1, 4, .axis, false, 0, 0, 0, 0, 0, 0⟩,
   /- TM_TORQUE -/ ⟨0x10494, 8, 0x1000, 1, 4, .axis, false, 0, 0, 0, 0, 0, 0⟩,
   /- TM_FLUXMAG -/ ⟨0x10498, 8, 0x1000, 1, 4, .axis, false, 0, 0, 0, 0, 0, 0⟩,
   /- TM_ANGLE -/ ⟨0x1049C, 8, 0x1000, 1, 4, .axis, false, 0, 0, 0, 0, 0, 0⟩,
   /- TM_COUNTS -/ ⟨0x104A0, 8, 0x1000, 1, 4, .axis, false, 0, 0, 0, 0, 0, 0⟩,
   /- TM_COMMUT -/ ⟨0x104A4, 8, 0x1000, 1, 4, .axis, false, 0, 0, 0, 0, 0, 0⟩,
   /- TM_EVENT -/ ⟨0x104A8, 8, 0x1000, 1, 4, .axis, false, 0, 0x3FF, 0, 0, 0, 0⟩]

/-- Register rows of 0x20000 to 0x23FFF. -/
def legRows : List RegRow :=
  [/- LEG_CFG -/ ⟨0x20000, 24, 0x100, 1, 4, .leg, true, 0x1FF, 0, 0, 2, 0, 0⟩,
   /- LEG_CTRL -/ ⟨0x20004, 24, 0x100, 1, 4, .leg, true, 3, 0, 0, 0, 0, 0⟩,
   /- LEG_PRD -/ ⟨0x20008, 24, 0x100, 1, 4, .leg, true, 0xFFFFFFFF, 0, 0, 0x2710, 0, 0⟩,
   /- LEG_CMP -/ ⟨0x2000C, 24, 0x100, 4, 4, .leg, true, 0xFFFFFFFF, 0, 0, 0, 0, 0⟩,
   /- LEG_DT -/ ⟨0x20020, 24, 0x100, 1, 4, .leg, true, 0xFFF0FFF, 0, 0, 0x80008, 0, 0⟩,
   /- LEG_MINP -/ ⟨0x20024, 24, 0x100, 1, 4, .leg, true, 0xFFF, 0, 0, 1, 0, 0⟩,
   /- LEG_SYNC -/ ⟨0x20028, 24, 0x100, 1, 4, .leg, true, 0x131F, 0, 0, 0, 0, 0⟩,
   /- LEG_PHASE -/ ⟨0x2002C, 24, 0x100, 1, 4, .leg, true, 0xFFFFFFFF, 0, 0, 0, 0, 0⟩,
   /- LEG_TRIG -/ ⟨0x20030, 24, 0x100, 1, 4, .leg, true, 0xF370F37, 0, 0, 0, 0, 0⟩,
   /- LEG_MASK -/ ⟨0x20034, 24, 0x100, 1, 4, .leg, true, 0x3F73FFFF, 0, 0, 0x500000, 0, 0⟩,
   /- LEG_MASK_STEP -/ ⟨0x20038, 24, 0x100, 1, 4, .leg, true, 7, 0, 0, 0, 0, 0⟩,
   /- LEG_CHOP -/ ⟨0x2003C, 24, 0x100, 1, 4, .leg, true, 0x3F1F3, 0, 0, 0, 0, 0⟩,
   /- LEG_CHOP_V -/ ⟨0x20040, 24, 0x100, 1, 4, .leg, true, 0x3FFF3FFF, 0, 0, 0x1FFE1FFF, 0, 0⟩,
   /- LEG_CHOP_MON -/ ⟨0x20044, 24, 0x100, 1, 4, .leg, true, 0xFFF3FFF, 0, 0, 0x140000, 0, 0⟩,
   /- LEG_CNT -/ ⟨0x20060, 24, 0x100, 1, 4, .leg, true, 0, 0, 0, 0, 0, 0⟩,
   /- LEG_STATUS -/ ⟨0x20064, 24, 0x100, 1, 4, .leg, true, 0, 0, 0, 0, 0, 0⟩,
   /- LEG_ACT_PRD -/ ⟨0x20068, 24, 0x100, 1, 4, .leg, true, 0, 0, 0, 0x2710, 0, 0⟩,
   /- LEG_ACT_CMP -/ ⟨0x2006C, 24, 0x100, 4, 4, .leg, true, 0, 0, 0, 0, 0, 0⟩,
   /- LEG_RESIDUE -/ ⟨0x2007C, 24, 0x100, 1, 4, .leg, true, 0, 0, 0, 0, 0, 0⟩,
   /- LEG_COUNTS -/ ⟨0x20080, 24, 0x100, 1, 4, .leg, true, 0, 0, 0, 0, 0, 0⟩,
   /- LEG_CHOP_CNT -/ ⟨0x20084, 24, 0x100, 1, 4, .leg, true, 0, 0, 0, 0, 0, 0⟩,
   /- LEG_EVENT -/ ⟨0x20088, 24, 0x100, 1, 4, .leg, true, 0, 0x1F, 0, 0, 0, 0⟩]

/-- Register rows of 0x24000 to 0x2FFFF. -/
def giRows : List RegRow :=
  [/- GI_STATUS -/ ⟨0x24000, 8, 0x400, 1, 4, .steward, true, 0, 0, 0, 0, 0, 0⟩,
   /- GI_CFG -/ ⟨0x24004, 8, 0x400, 1, 4, .steward, true, 1, 0, 0, 0, 0, 0⟩,
   /- GI_EVENT -/ ⟨0x24008, 8, 0x400, 1, 4, .steward, true, 0, 0x1FF, 0, 0, 0, 0⟩,
   /- GI_COUNTS -/ ⟨0x2400C, 8, 0x400, 1, 4, .steward, true, 0, 0, 0, 0, 0, 0⟩,
   /- GI_DCPS -/ ⟨0x24010, 8, 0x400, 1, 4, .steward, true, 0, 0, 0, 0, 0, 0⟩,
   /- GI_L_ON -/ ⟨0x24100, 8, 0x400, 3, 0x80, .islandLeg, true, 0xF7FF, 0, 0, 0x3000, 0, 0⟩,
   /- GI_L_OFF -/ ⟨0x24104, 8, 0x400, 3, 0x80, .islandLeg, true, 0xF7FF, 0, 0, 0x3000, 0, 0⟩,
   /- GI_L_SC -/ ⟨0x24108, 8, 0x400, 3, 0x80, .islandLeg, true, 0x377F7F, 0, 0, 0x375F5F, 0, 0⟩,
   /- GI_L_SOFT -/ ⟨0x2410C, 8, 0x400, 3, 0x80, .islandLeg, true, 0x1FF3FF, 0, 0, 0x3106, 0, 0⟩,
   /- GI_L_BCFG -/ ⟨0x24110, 8, 0x400, 3, 0x80, .islandLeg, true, 0xFF0FF7, 0, 0, 0xA0227, 0, 0⟩,
   /- GI_L_BCTRL -/ ⟨0x24114, 8, 0x400, 3, 0x80, .islandLeg, true, 0, 0, 0, 0, 0, 0⟩,
   /- GI_L_BRES -/ ⟨0x24118, 8, 0x400, 3, 0x80, .islandLeg, false, 0, 0, 0, 0, 0, 0⟩,
   /- GI_L_BVAL -/ ⟨0x2411C, 8, 0x400, 3, 0x80, .islandLeg, false, 0, 0, 0, 0, 0, 0⟩,
   /- GI_L_STATUS -/ ⟨0x24120, 8, 0x400, 3, 0x80, .islandLeg, true, 0, 0, 0, 0, 0, 0⟩,
   /- GI_L_COUNTS -/ ⟨0x24124, 8, 0x400, 3, 0x80, .islandLeg, true, 0, 0, 0, 0, 0, 0⟩]

/-- Register rows of 0x30000 to 0x37FFF. -/
def fmRows : List RegRow :=
  [/- FM_STATUS -/ ⟨0x30000, 1, 4, 1, 4, .steward, true, 0, 0, 0, 0, 0, 0⟩,
   /- FM_XBAR -/ ⟨0x30010, 8, 4, 1, 4, .steward, true, 0, 0, 0, 0, 0, 0⟩,
   /- FM_FPSTAT -/ ⟨0x30030, 3, 4, 1, 4, .steward, true, 0, 0, 0, 0, 0, 0⟩,
   /- FM_PAIR -/ ⟨0x30100, 16, 4, 1, 4, .steward, true, 0, 0, 0x11F1F, 0, 470, 2⟩,
   /- FM_PAIR_TOL -/ ⟨0x30140, 16, 4, 1, 4, .steward, true, 0, 0, 0xFFFF3FFF, 0, 471, 2⟩,
   /- FM_PAIR_STAT -/ ⟨0x30180, 1, 4, 1, 4, .steward, true, 0, 0, 0, 0, 0, 0⟩,
   /- FM_CH_BIND -/ ⟨0x31000, 32, 0x40, 1, 4, .steward, true, 0, 0, 0xFF1F, 0, 310, 5⟩,
   /- FM_CH_CFG -/ ⟨0x31004, 32, 0x40, 1, 4, .fastCh, true, 0x1FF, 0, 0, 0, 0, 0⟩,
   /- FM_CH_CAL -/ ⟨0x31008, 32, 0x40, 1, 4, .fastCh, true, 0, 0, 0xFFFF00FF, 0, 311, 5⟩,
   /- FM_CH_WA -/ ⟨0x3100C, 32, 0x40, 1, 4, .fastCh, true, 0, 0, 0x3FF03FF, 0, 312, 5⟩,
   /- FM_CH_WB -/ ⟨0x31010, 32, 0x40, 1, 4, .fastCh, true, 0, 0, 0x3FF03FF, 0, 313, 5⟩,
   /- FM_CH_WCTL -/ ⟨0x31014, 32, 0x40, 1, 4, .fastCh, true, 0, 0, 0x3F7F7F, 0, 314, 5⟩,
   /- FM_CH_DATA -/ ⟨0x31020, 32, 0x40, 1, 4, .fastCh, true, 0, 0, 0, 0, 0, 0⟩,
   /- FM_CH_STATUS -/ ⟨0x31024, 32, 0x40, 1, 4, .fastCh, true, 0, 0, 0, 0xF0, 0, 0⟩,
   /- FM_CH_COUNTS -/ ⟨0x31028, 32, 0x40, 1, 4, .fastCh, true, 0, 0, 0, 0, 0, 0⟩,
   /- FM_CH_EVENT -/ ⟨0x3102C, 32, 0x40, 1, 4, .fastCh, true, 0, 0xF, 0, 0, 0, 0⟩]

/-- Register rows of 0x38000 to 0x3FFFF. -/
def pmRows : List RegRow :=
  [/- PM_CFG -/ ⟨0x38000, 1, 4, 1, 4, .pm, true, 0x83FF1F07, 0, 0, 0x80000, 0, 0⟩,
   /- PM_STATUS -/ ⟨0x38004, 1, 4, 1, 4, .pm, true, 0, 0, 0, 0, 0, 0⟩,
   /- PM_PERIOD -/ ⟨0x38008, 1, 4, 1, 4, .pm, true, 0, 0, 0, 0x3D0900, 0, 0⟩,
   /- PM_QCFG -/ ⟨0x3800C, 1, 4, 1, 4, .pm, true, 0x3FF, 0, 0, 0x180, 0, 0⟩,
   /- PM_URGENT -/ ⟨0x38010, 1, 4, 1, 4, .pm, true, 0, 0, 0, 0, 0, 0⟩,
   /- PM_SEQ_LEN -/ ⟨0x38014, 1, 4, 1, 4, .pm, true, 0x7F, 0, 0, 0, 0, 0⟩,
   /- PM_CAL_CTRL -/ ⟨0x38018, 1, 4, 1, 4, .pm, true, 0xF3F, 0, 0, 0x400, 0, 0⟩,
   /- PM_CAL_TARGET -/ ⟨0x3801C, 1, 4, 1, 4, .pm, true, 0xFFFFFFFF, 0, 0, 0, 0, 0⟩,
   /- PM_CAL_STATUS -/ ⟨0x38020, 1, 4, 1, 4, .pm, true, 0, 0, 0, 0, 0, 0⟩,
   /- PM_CAL_Z -/ ⟨0x38024, 1, 4, 1, 4, .pm, true, 0, 0, 0, 0, 0, 0⟩,
   /- PM_CAL_F -/ ⟨0x38028, 1, 4, 1, 4, .pm, true, 0, 0, 0, 0, 0, 0⟩,
   /- PM_EVENT -/ ⟨0x3802C, 1, 4, 1, 4, .pm, true, 0, 0x7F, 0, 0, 0, 0⟩,
   /- PM_QPOP -/ ⟨0x38030, 4, 4, 1, 4, .pm, true, 0, 0, 0, 0, 0, 0⟩,
   /- PM_SEQ -/ ⟨0x38040, 16, 4, 1, 4, .pm, true, 0x3F3F3F3F, 0, 0, 0, 0, 0⟩,
   /- PM_IN_CFG -/ ⟨0x39000, 64, 0x20, 1, 4, .pm, true, 0xFFFF3F, 0, 0, 0, 0, 0⟩,
   /- PM_IN_CAL_OFS -/ ⟨0x39004, 64, 0x20, 1, 4, .pm, true, 0, 0, 0xFFFFFF, 0, 502, 3⟩,
   /- PM_IN_CAL_GAIN -/ ⟨0x39008, 64, 0x20, 1, 4, .pm, true, 0, 0, 0xFFFFFF, 0, 503, 3⟩,
   /- PM_IN_LO -/ ⟨0x3900C, 64, 0x20, 1, 4, .pm, true, 0xFFFFFFFF, 0, 0, 0x80000000, 0, 0⟩,
   /- PM_IN_HI -/ ⟨0x39010, 64, 0x20, 1, 4, .pm, true, 0xFFFFFFFF, 0, 0, 0x7FFFFFFF, 0, 0⟩,
   /- PM_IN_LAST -/ ⟨0x39014, 64, 0x20, 1, 4, .pm, true, 0, 0, 0, 0, 0, 0⟩,
   /- PM_IN_STATUS -/ ⟨0x39018, 64, 0x20, 1, 4, .pm, true, 0, 0, 0, 0, 0, 0⟩,
   /- PM_IN_BIND -/ ⟨0x3901C, 64, 0x20, 1, 4, .steward, true, 0, 0, 0xF, 0, 504, 3⟩]

/-- Register rows of 0x40000 to 0x47FFF. -/
def piRows : List RegRow :=
  [/- PI_CFG -/ ⟨0x40000, 4, 0x100, 1, 4, .pi, true, 0x777FF3F, 0, 0, 0x100, 0, 0⟩,
   /- PI_CPR -/ ⟨0x40004, 4, 0x100, 1, 4, .pi, true, 0xFFFFFFFF, 0, 0, 0x1000, 0, 0⟩,
   /- PI_LIM_LO -/ ⟨0x40008, 4, 0x100, 1, 4, .pi, true, 0xFFFFFFFF, 0, 0, 0x80000000, 0, 0⟩,
   /- PI_LIM_HI -/ ⟨0x4000C, 4, 0x100, 1, 4, .pi, true, 0xFFFFFFFF, 0, 0, 0x7FFFFFFF, 0, 0⟩,
   /- PI_Z_POS -/ ⟨0x40010, 4, 0x100, 1, 4, .pi, true, 0xFFFFFFFF, 0, 0, 0, 0, 0⟩,
   /- PI_Z_TOL -/ ⟨0x40014, 4, 0x100, 1, 4, .pi, true, 0xFFFF, 0, 0, 2, 0, 0⟩,
   /- PI_SPD_CFG -/ ⟨0x40018, 4, 0x100, 1, 4, .pi, true, 0xFFFFFF, 0, 0, 0x641000, 0, 0⟩,
   /- PI_RATE -/ ⟨0x4001C, 4, 0x100, 1, 4, .pi, true, 0x1FFFFFFF, 0, 0, 0, 0, 0⟩,
   /- PI_SSI -/ ⟨0x40020, 4, 0x100, 1, 4, .pi, true, 0xFF71F1F, 0, 0, 0x3100D00, 0, 0⟩,
   /- PI_SSI_T -/ ⟨0x40024, 4, 0x100, 1, 4, .pi, true, 0xFFFFFFFF, 0, 0, 0x1400, 0, 0⟩,
   /- PI_RES -/ ⟨0x40028, 4, 0x100, 1, 4, .pi, true, 0x1F1F1F, 0, 0, 0x10000, 0, 0⟩,
   /- PI_RES_T -/ ⟨0x4002C, 4, 0x100, 1, 4, .pi, true, 0x1FFFF, 0, 0, 0x4E20, 0, 0⟩,
   /- PI_RES_PH -/ ⟨0x40030, 4, 0x100, 1, 4, .pi, true, 0x1FFFF, 0, 0, 0, 0, 0⟩,
   /- PI_RES_AMP -/ ⟨0x40034, 4, 0x100, 1, 4, .pi, true, 0xFFF0FFF, 0, 0, 0xE660400, 0, 0⟩,
   /- PI_CNT -/ ⟨0x40040, 4, 0x100, 1, 4, .pi, true, 0xFFFFFFFF, 0, 0, 0, 0, 0⟩,
   /- PI_ANGLE -/ ⟨0x40044, 4, 0x100, 1, 4, .pi, true, 0, 0, 0, 0, 0, 0⟩,
   /- PI_SPEED -/ ⟨0x40048, 4, 0x100, 1, 4, .pi, true, 0, 0, 0, 0, 0, 0⟩,
   /- PI_STATUS -/ ⟨0x4004C, 4, 0x100, 1, 4, .pi, true, 0, 0, 0, 0, 0, 0⟩,
   /- PI_COUNTS -/ ⟨0x40050, 4, 0x100, 1, 4, .pi, true, 0, 0, 0, 0, 0, 0⟩,
   /- PI_TIME -/ ⟨0x40054, 4, 0x100, 1, 4, .pi, true, 0, 0, 0, 0, 0, 0⟩,
   /- PI_EVENT -/ ⟨0x40058, 4, 0x100, 1, 4, .pi, true, 0, 0x79, 0, 0, 0, 0⟩,
   /- DIN_CFG -/ ⟨0x41000, 24, 4, 1, 4, .steward, false, 0, 0, 0xFFFFF1FF, 0, 694, 1⟩,
   /- DIN_LEVEL -/ ⟨0x41080, 1, 4, 1, 4, .steward, false, 0, 0, 0, 0, 0, 0⟩,
   /- DIN_RAW -/ ⟨0x41084, 1, 4, 1, 4, .steward, false, 0, 0, 0, 0, 0, 0⟩,
   /- DIN_CHAT -/ ⟨0x41088, 1, 4, 1, 4, .steward, false, 0, 0, 0, 0, 0, 0⟩,
   /- DIN_STALE -/ ⟨0x4108C, 1, 4, 1, 4, .steward, false, 0, 0, 0, 0, 0, 0⟩,
   /- DIN_EDGE -/ ⟨0x41090, 1, 4, 1, 4, .steward, false, 0, 0xFFFFFF, 0, 0, 0, 0⟩,
   /- DIN_CHATCNT -/ ⟨0x410A0, 6, 4, 1, 4, .steward, false, 0, 0, 0, 0, 0, 0⟩]

/-- Register rows of 0x48000 to 0x4FFFF. -/
def safRows : List RegRow :=
  [/- SAF_STATUS -/ ⟨0x48000, 1, 4, 1, 4, .safety, false, 0, 0, 0, 0, 0, 0⟩,
   /- SAF_ARM -/ ⟨0x48004, 1, 4, 1, 4, .safety, false, 0, 0, 0, 0, 0, 0⟩,
   /- SAF_SPB_CRC -/ ⟨0x48008, 1, 4, 1, 4, .safety, false, 0, 0, 0, 0, 0, 0⟩,
   /- SAF_CLEAR -/ ⟨0x4800C, 1, 4, 1, 4, .safety, false, 0, 0, 0, 0, 0, 0⟩,
   /- SAF_EVENT -/ ⟨0x48010, 1, 4, 1, 4, .safety, false, 0, 0x3FFFFF, 0, 0, 0, 0⟩,
   /- SAF_CT_CMD -/ ⟨0x48014, 1, 4, 1, 4, .safety, false, 0, 0, 0, 0, 0, 0⟩,
   /- SAF_CT_STAT -/ ⟨0x48018, 1, 4, 1, 4, .safety, false, 0, 0, 0, 0, 0, 0⟩,
   /- SAF_LINK_STAT -/ ⟨0x4801C, 1, 4, 1, 4, .safety, false, 0, 0, 0, 0, 0, 0⟩,
   /- SAF_COUNTS -/ ⟨0x48020, 1, 4, 1, 4, .safety, false, 0, 0, 0, 0, 0, 0⟩,
   /- SAF_CMPT_STAT -/ ⟨0x48024, 1, 4, 1, 4, .safety, false, 0, 0, 0, 0, 0, 0⟩,
   /- SAF_TEMP_CFG -/ ⟨0x48028, 1, 4, 1, 4, .safety, false, 0, 0, 0xFFFFFFFF, 0, 289, 0⟩,
   /- SAF_TEMP_STAT -/ ⟨0x4802C, 1, 4, 1, 4, .safety, false, 0, 0, 0, 0, 0, 0⟩,
   /- SAF_CONFIRM -/ ⟨0x48030, 1, 4, 1, 4, .safety, false, 0, 0, 0xFFFFFFFF, 0, 288, 0⟩,
   /- SAF_AX_STAT -/ ⟨0x48040, 8, 4, 1, 4, .safety, false, 0, 0, 0, 0, 0, 0⟩,
   /- SAF_AX_TAU -/ ⟨0x48060, 8, 4, 1, 4, .safety, false, 0, 0, 0, 0, 0, 0⟩,
   /- SAF_CFG -/ ⟨0x48400, 1, 4, 1, 4, .spb, false, 0, 0, 0xFFFFF, 0, 212, 0⟩,
   /- SAF_CMPT_CFG -/ ⟨0x48404, 1, 4, 1, 4, .spb, false, 0, 0, 0x1FFFF, 0, 213, 0⟩,
   /- SAF_AX_CFG -/ ⟨0x48410, 8, 0x10, 1, 4, .spb, false, 0, 0, 0xFFFF7FFF, 0, 216, 4⟩,
   /- SAF_AX_TMON -/ ⟨0x48414, 8, 0x10, 1, 4, .spb, false, 0, 0, 0xFFFFF7FF, 0, 217, 4⟩,
   /- SAF_AX_TMON2 -/ ⟨0x48418, 8, 0x10, 1, 4, .spb, false, 0, 0, 0xFFFFFFFF, 0, 218, 4⟩,
   /- SAF_AX_KM -/ ⟨0x4841C, 8, 0x10, 1, 4, .spb, false, 0, 0, 0xFFFFFFFF, 0, 219, 4⟩,
   /- SAF_LINK_CFG -/ ⟨0x48490, 4, 0x20, 1, 4, .spb, false, 0, 0, 0xFFF1F3FF, 0, 248, 8⟩,
   /- SAF_LINK_OV -/ ⟨0x48494, 4, 0x20, 1, 4, .spb, false, 0, 0, 0x3FF1FFF, 0, 249, 8⟩,
   /- SAF_LINK_AX -/ ⟨0x48498, 4, 0x20, 1, 4, .spb, false, 0, 0, 0xFFF7FFFF, 0, 250, 8⟩,
   /- SAF_LINK_DIS -/ ⟨0x4849C, 4, 0x20, 1, 4, .spb, false, 0, 0, 0xFFFF1F77, 0, 251, 8⟩,
   /- SAF_LINK_INJ -/ ⟨0x484A0, 4, 0x20, 1, 4, .spb, false, 0, 0, 0xFFFFFFF, 0, 252, 8⟩,
   /- SAF_CT_CFG -/ ⟨0x48510, 8, 4, 1, 4, .spb, false, 0, 0, 0x1FF3FFF, 0, 280, 1⟩]

/-- Register rows of 0x50000 to 0x5FFFF. -/
def redRows : List RegRow :=
  [/- RED_STATUS -/ ⟨0x50000, 1, 4, 1, 4, .steward, false, 0, 0, 0, 0, 0, 0⟩,
   /- RED_SLOTS -/ ⟨0x50004, 1, 4, 1, 4, .steward, false, 0, 0, 0, 0, 0, 0⟩,
   /- RED_CFG -/ ⟨0x50008, 1, 4, 1, 4, .steward, false, 0, 0, 0xFFFF1FFF, 0, 290, 0⟩,
   /- RED_LIMITS -/ ⟨0x5000C, 1, 4, 1, 4, .steward, false, 0, 0, 0xFFFFFFFF, 0, 291, 0⟩,
   /- RED_AXSLOT -/ ⟨0x50010, 1, 4, 1, 4, .steward, false, 0, 0, 0xFFFF, 0, 292, 0⟩,
   /- RED_EVENT -/ ⟨0x50014, 1, 4, 1, 4, .steward, false, 0, 0x1FFF, 0, 0, 0, 0⟩,
   /- RED_SVC -/ ⟨0x50018, 1, 4, 1, 4, .steward, false, 0, 0, 0, 0, 0, 0⟩,
   /- RED_SVC_STAT -/ ⟨0x5001C, 1, 4, 1, 4, .steward, false, 0, 0, 0, 0, 0, 0⟩,
   /- RED_ARRAYS -/ ⟨0x50020, 1, 4, 1, 4, .steward, false, 0, 0, 0, 0, 0, 0⟩,
   /- RED_FL_HEAD -/ ⟨0x50024, 1, 4, 1, 4, .steward, false, 0, 0, 0, 0, 0, 0⟩,
   /- RED_CP_STAT -/ ⟨0x50040, 5, 0x10, 1, 4, .steward, false, 0, 0, 0, 0xFF00, 0, 0⟩,
   /- RED_CP_CTRL -/ ⟨0x50044, 5, 0x10, 1, 4, .pairCtrl, false, 0, 0, 0, 0, 0, 0⟩,
   /- RED_CP_COUNTS -/ ⟨0x50048, 5, 0x10, 1, 4, .steward, false, 0, 0, 0, 0, 0, 0⟩,
   /- RED_CE_STAT -/ ⟨0x50100, 2, 4, 1, 4, .steward, false, 0, 0, 0, 0x8F0000, 0, 0⟩,
   /- RED_WS_CKPT -/ ⟨0x50200, 4, 0x20, 1, 4, .steward, false, 0, 0, 0, 0, 0, 0⟩,
   /- RED_WS_RGN -/ ⟨0x50204, 4, 0x20, 4, 4, .mMode, true, 0x1FFFFFF, 0, 0, 0, 0, 0⟩,
   /- RED_FL_W -/ ⟨0x51000, 256, 0x10, 4, 4, .steward, false, 0, 0, 0, 0, 0, 0⟩,
   /- BIST_CFG -/ ⟨0x58000, 1, 4, 1, 4, .steward, false, 0, 0, 0x1FFFFFF, 0, 293, 0⟩,
   /- BIST_STATUS -/ ⟨0x58004, 1, 4, 1, 4, .steward, false, 0, 0, 0, 0, 0, 0⟩,
   /- BIST_LAST_FAIL -/ ⟨0x58008, 1, 4, 1, 4, .steward, false, 0, 0, 0, 0, 0, 0⟩,
   /- BIST_COUNTS -/ ⟨0x5800C, 1, 4, 1, 4, .steward, false, 0, 0, 0, 0, 0, 0⟩]

/-- Register rows of 0x60000 to 0x6FFFF. -/
def vltRows : List RegRow :=
  [/- VLT_STATUS -/ ⟨0x60000, 1, 4, 1, 4, .vault, false, 0, 0x20, 0, 0, 0, 0⟩,
   /- VLT_CFG -/ ⟨0x60004, 1, 4, 1, 4, .vault, false, 0, 0, 0xFFFFFF, 0, 211, 0⟩,
   /- VLT_EVENT -/ ⟨0x60008, 1, 4, 1, 4, .vault, false, 0, 0xFF, 0, 0, 0, 0⟩,
   /- VLT_MIN_SVN -/ ⟨0x6000C, 1, 4, 1, 4, .vault, false, 0, 0, 0xFFFFFFFF, 0, 210, 0⟩,
   /- VLT_KEY_STAT -/ ⟨0x60010, 1, 4, 1, 4, .vault, false, 0, 0, 0, 0, 0, 0⟩,
   /- VLT_KEY_REVOKE -/ ⟨0x60014, 1, 4, 1, 4, .vault, false, 0, 0, 0, 0, 0, 0⟩,
   /- VLT_STG_SRC_LO -/ ⟨0x60020, 1, 4, 1, 4, .vault, false, 0xFFFFF000, 0, 0, 0, 0, 0⟩,
   /- VLT_STG_SRC_HI -/ ⟨0x60024, 1, 4, 1, 4, .vault, false, 0xFFFFFFFF, 0, 0, 0, 0, 0⟩,
   /- VLT_STG_OFS -/ ⟨0x60028, 1, 4, 1, 4, .vault, false, 0xFF000, 0, 0, 0, 0, 0⟩,
   /- VLT_STG_LEN -/ ⟨0x6002C, 1, 4, 1, 4, .vault, false, 0x1FF000, 0, 0, 0, 0, 0⟩,
   /- VLT_STG_CTRL -/ ⟨0x60030, 1, 4, 1, 4, .vault, false, 0, 0, 0, 0, 0, 0⟩,
   /- VLT_STG_STAT -/ ⟨0x60034, 1, 4, 1, 4, .vault, false, 0, 8, 0, 0, 0, 0⟩,
   /- VLT_BOOT_DIAG -/ ⟨0x60038, 1, 4, 1, 4, .vault, false, 0, 0, 0, 0, 0, 0⟩,
   /- VLT_MEAS -/ ⟨0x60040, 8, 4, 1, 4, .vault, false, 0, 0, 0, 0, 0, 0⟩,
   /- VLT_IMG_INFO -/ ⟨0x60060, 1, 4, 1, 4, .vault, false, 0, 0, 0, 0, 0, 0⟩,
   /- VLT_IMG_KEY -/ ⟨0x60064, 1, 4, 1, 4, .vault, false, 0, 0, 0, 0, 0, 0⟩,
   /- VLT_ATT_NONCE -/ ⟨0x60100, 8, 4, 1, 4, .vault, false, 0xFFFFFFFF, 0, 0, 0, 0, 0⟩,
   /- VLT_ATT_CTRL -/ ⟨0x60120, 1, 4, 1, 4, .vault, false, 0, 0, 0, 0, 0, 0⟩,
   /- VLT_ATT_STAT -/ ⟨0x60124, 1, 4, 1, 4, .vault, false, 0, 0, 0, 0, 0, 0⟩,
   /- VLT_ATT_IDX -/ ⟨0x60128, 1, 4, 1, 4, .vault, false, 0, 0, 0, 0, 0, 0⟩,
   /- VLT_IDPUB -/ ⟨0x60140, 15, 4, 1, 4, .vault, false, 0, 0, 0, 0, 0, 0⟩,
   /- VLT_DBG_CHAL -/ ⟨0x60180, 8, 4, 1, 4, .vault, false, 0, 0, 0, 0, 0, 0⟩,
   /- VLT_DBG_STAT -/ ⟨0x601A0, 1, 4, 1, 4, .vault, false, 0, 0, 0, 0, 0, 0⟩,
   /- VLT_ATT_BUF -/ ⟨0x64000, 2048, 4, 1, 4, .vault, false, 0, 0, 0, 0, 0, 0⟩,
   /- VLT_WORD -/ ⟨0x68000, 2048, 4, 1, 4, .vault, false, 0, 0, 0, 0, 0, 0⟩,
   /- VLT_WEAR -/ ⟨0x6A000, 2048, 4, 1, 4, .vault, false, 0, 0, 0, 0, 0, 0⟩]

/-- Register rows of 0x70000 to 0x77FFF. -/
def seamRows : List RegRow :=
  [/- SEAM_STATUS -/ ⟨0x70000, 1, 4, 1, 4, .steward, false, 0, 0, 0, 0x3FF00000, 0, 0⟩,
   /- SEAM_CFG -/ ⟨0x70004, 1, 4, 1, 4, .steward, false, 0, 0, 0xFF07, 0, 718, 0⟩,
   /- SEAM_TRIP_BUDGET -/ ⟨0x70008, 1, 4, 1, 4, .steward, false, 0, 0, 0xFFFF, 0, 719, 0⟩,
   /- SEAM_TRIP_TX -/ ⟨0x7000C, 1, 4, 1, 4, .steward, false, 0, 0, 0xFFF07, 0, 720, 0⟩,
   /- SEAM_TRIP_RX -/ ⟨0x70010, 4, 4, 1, 4, .steward, false, 0, 0, 0x1FFFFFF, 0, 721, 1⟩,
   /- SEAM_TRIP_CMD -/ ⟨0x70020, 1, 4, 1, 4, .steward, false, 0, 0, 0, 0, 0, 0⟩,
   /- SEAM_TRIP_STAT -/ ⟨0x70024, 1, 4, 1, 4, .steward, false, 0, 0, 0, 0, 0, 0⟩,
   /- SEAM_TIME_OFS -/ ⟨0x70028, 1, 4, 1, 4, .steward, false, 0, 0, 0, 0, 0, 0⟩,
   /- SEAM_EVENT -/ ⟨0x7002C, 1, 4, 1, 4, .steward, false, 0, 0xFF, 0, 0, 0, 0⟩,
   /- SEAM_PORT_CFG -/ ⟨0x70030, 3, 4, 1, 4, .steward, false, 0, 0, 0xFF01, 0, 725, 1⟩,
   /- SEAM_PORT_STAT -/ ⟨0x70040, 3, 0x10, 1, 4, .steward, false, 0, 0, 0, 0, 0, 0⟩,
   /- SEAM_PORT_CNT -/ ⟨0x70044, 3, 0x10, 1, 4, .steward, false, 0, 0, 0, 0, 0, 0⟩,
   /- SEAM_PD_CFG -/ ⟨0x70080, 1, 4, 1, 4, .steward, false, 0, 0, 0xFFFF0F, 0, 728, 0⟩,
   /- SEAM_PD_SRC -/ ⟨0x70084, 2, 4, 1, 4, .steward, false, 0, 0, 0xFFFFFFFF, 0, 729, 1⟩,
   /- SEAM_PD_TX -/ ⟨0x700A0, 8, 4, 1, 4, .steward, false, 0xFFFFFFFF, 0, 0, 0, 0, 0⟩,
   /- SEAM_PD_RXCFG -/ ⟨0x70100, 4, 4, 1, 4, .steward, false, 0, 0, 0xFFF, 0, 731, 1⟩,
   /- SEAM_PD_RX_STAT -/ ⟨0x70200, 4, 0x40, 1, 4, .steward, false, 0, 0, 0, 0, 0, 0⟩,
   /- SEAM_PD_RX_W -/ ⟨0x70204, 4, 0x40, 8, 4, .steward, false, 0, 0, 0, 0, 0, 0⟩,
   /- SEAM_NODE_INFO -/ ⟨0x74000, 1024, 0x10, 1, 4, .steward, false, 0, 0, 0, 0, 0, 0⟩,
   /- SEAM_NODE_SER_LO -/ ⟨0x74004, 1024, 0x10, 1, 4, .steward, false, 0, 0, 0, 0, 0, 0⟩,
   /- SEAM_NODE_SER_HI -/ ⟨0x74008, 1024, 0x10, 1, 4, .steward, false, 0, 0, 0, 0, 0, 0⟩]

/-- Register rows of 0x78000 to 0x7FFFF. -/
def evRows : List RegRow :=
  [/- EV_ROUTE -/ ⟨0x78000, 256, 0x10, 4, 4, .evRoute, false, 0x3F01, 0, 0, 0, 0, 0⟩,
   /- EV_RING_BASE_LO -/ ⟨0x79000, 4, 0x20, 1, 4, .evRing, false, 0xFFFFF000, 0, 0, 0, 0, 0⟩,
   /- EV_RING_BASE_HI -/ ⟨0x79004, 4, 0x20, 1, 4, .evRing, false, 0xFFFFFFFF, 0, 0, 0, 0, 0⟩,
   /- EV_RING_CFG -/ ⟨0x79008, 4, 0x20, 1, 4, .evRing, false, 0x10F, 0, 0, 4, 0, 0⟩,
   /- EV_RING_HEAD -/ ⟨0x7900C, 4, 0x20, 1, 4, .evRing, false, 0xFFF, 0, 0, 0, 0, 0⟩,
   /- EV_RING_TAIL -/ ⟨0x79010, 4, 0x20, 1, 4, .evRing, false, 0, 0, 0, 0, 0, 0⟩,
   /- EV_FWDETAIL -/ ⟨0x79100, 1, 4, 1, 4, .mMode, false, 0xFFFFFFFF, 0, 0, 0, 0, 0⟩,
   /- EV_FWRAISE -/ ⟨0x79104, 1, 4, 1, 4, .mMode, false, 0, 0, 0, 0, 0, 0⟩,
   /- EV_COAL -/ ⟨0x7A000, 4, 0x100, 64, 4, .evCoal, false, 0xFFFFFF, 0, 0, 1, 0, 0⟩]

/-- Register rows of 0x80000 to 0x8FFFF. -/
def talRows : List RegRow :=
  [/- TAL_CTRL -/ ⟨0x80000, 1, 4, 1, 4, .tally, true, 1, 0, 0, 0, 0, 0⟩,
   /- TAL_STATUS -/ ⟨0x80004, 1, 4, 1, 4, .tally, true, 0, 0xFF, 0, 0, 0, 0⟩,
   /- TAL_EVENT -/ ⟨0x80008, 1, 4, 1, 4, .tally, true, 0, 7, 0, 0, 0, 0⟩,
   /- TAL_RANGEA_LO -/ ⟨0x80010, 1, 4, 1, 4, .tally, true, 0xFFFFFFFF, 0, 0, 0, 0, 0⟩,
   /- TAL_RANGEA_HI -/ ⟨0x80014, 1, 4, 1, 4, .tally, true, 0xFFFFFFFF, 0, 0, 0, 0, 0⟩,
   /- TAL_RANGEB_LO -/ ⟨0x80018, 1, 4, 1, 4, .tally, true, 0xFFFFFFFF, 0, 0, 0, 0, 0⟩,
   /- TAL_RANGEB_HI -/ ⟨0x8001C, 1, 4, 1, 4, .tally, true, 0xFFFFFFFF, 0, 0, 0, 0, 0⟩,
   /- TAL_EVT -/ ⟨0x80100, 8, 0x20, 1, 4, .tally, true, 0x7FFFF, 0, 0, 0x1F00, 0, 0⟩,
   /- TAL_CNT_LO -/ ⟨0x80104, 8, 0x20, 1, 4, .tally, true, 0xFFFFFFFF, 0, 0, 0, 0, 0⟩,
   /- TAL_CNT_HI -/ ⟨0x80108, 8, 0x20, 1, 4, .tally, true, 0xFFFF, 0, 0, 0, 0, 0⟩,
   /- TAL_SNAP_LO -/ ⟨0x8010C, 8, 0x20, 1, 4, .tally, true, 0, 0, 0, 0, 0, 0⟩,
   /- TAL_SNAP_HI -/ ⟨0x80110, 8, 0x20, 1, 4, .tally, true, 0, 0, 0, 0, 0, 0⟩,
   /- TAL_SAMP_CFG -/ ⟨0x80200, 1, 4, 1, 4, .tally, true, 0xFF1F03FF, 0, 0, 0xE0000, 0, 0⟩,
   /- TAL_SAMP_PC_LO -/ ⟨0x80204, 1, 4, 1, 4, .tally, true, 0xFFFFFFFF, 0, 0, 0, 0, 0⟩,
   /- TAL_SAMP_PC_HI -/ ⟨0x80208, 1, 4, 1, 4, .tally, true, 0xFFFFFFFF, 0, 0, 0, 0, 0⟩,
   /- TAL_TAG_CFG -/ ⟨0x8020C, 1, 4, 1, 4, .tally, true, 0x1FF3, 0, 0, 0xA0, 0, 0⟩,
   /- TAL_SAMP_WR -/ ⟨0x80210, 1, 4, 1, 4, .tally, true, 0, 0, 0, 0, 0, 0⟩,
   /- TAL_SAMP_RD -/ ⟨0x80214, 1, 4, 1, 4, .tally, true, 0x1FF, 0, 0, 0, 0, 0⟩,
   /- TAL_SAMP_STAT -/ ⟨0x80218, 1, 4, 1, 4, .tally, true, 0, 0, 0, 0, 0, 0⟩,
   /- TAL_SAMP_W -/ ⟨0x88000, 256, 0x20, 8, 4, .tally, true, 0, 0, 0, 0, 0, 0⟩]

/-- Register rows of 0x90000 to 0x9FFFF. -/
def dmaRows : List RegRow :=
  [/- DMA_GLOBAL_CFG -/ ⟨0x90000, 1, 4, 1, 4, .steward, true, 0x1F3F, 0, 0, 0x1020, 0, 0⟩,
   /- DMA_GLOBAL_STATUS -/ ⟨0x90004, 1, 4, 1, 4, .steward, true, 0, 0, 0, 0, 0, 0⟩,
   /- DMA_CH_LIST_LO -/ ⟨0x90100, 16, 0x40, 1, 4, .dmaCh, true, 0xFFFFFFE0, 0, 0, 0, 0, 0⟩,
   /- DMA_CH_LIST_HI -/ ⟨0x90104, 16, 0x40, 1, 4, .dmaCh, true, 0xFFFFFFFF, 0, 0, 0, 0, 0⟩,
   /- DMA_CH_CFG -/ ⟨0x90108, 16, 0x40, 1, 4, .dmaCh, true, 7, 0, 0, 0, 0, 0⟩,
   /- DMA_CH_CTRL -/ ⟨0x9010C, 16, 0x40, 1, 4, .dmaCh, true, 0, 0, 0, 0, 0, 0⟩,
   /- DMA_CH_STATE -/ ⟨0x90110, 16, 0x40, 1, 4, .dmaCh, true, 0, 0, 0, 0, 0, 0⟩,
   /- DMA_CH_CUR_LO -/ ⟨0x90114, 16, 0x40, 1, 4, .dmaCh, true, 0, 0, 0, 0, 0, 0⟩,
   /- DMA_CH_CUR_HI -/ ⟨0x90118, 16, 0x40, 1, 4, .dmaCh, true, 0, 0, 0, 0, 0, 0⟩,
   /- DMA_CH_LAST -/ ⟨0x9011C, 16, 0x40, 1, 4, .dmaCh, true, 0, 0, 0, 0, 0, 0⟩,
   /- DMA_CH_BADCNT -/ ⟨0x90120, 16, 0x40, 1, 4, .dmaCh, true, 0, 0, 0, 0, 0, 0⟩,
   /- DMA_CH_EVENT -/ ⟨0x90124, 16, 0x40, 1, 4, .dmaCh, true, 0, 0xF, 0, 0, 0, 0⟩]

/-- The rows of the block that holds an address (03 R82). -/
def rowsAt (a : Nat) : List RegRow :=
  if a < 0x2000 then devHpRows
  else if a < 0x3000 then clkRows
  else if a < 0xC000 then (if a < 0x8000 then [] else ctxRows)
  else if a < 0x18000 then (if a < 0x10000 then [] else axRows)
  else if a < 0x24000 then (if a < 0x20000 then [] else legRows)
  else if a < 0x30000 then giRows
  else if a < 0x38000 then fmRows
  else if a < 0x40000 then pmRows
  else if a < 0x48000 then piRows
  else if a < 0x50000 then safRows
  else if a < 0x60000 then redRows
  else if a < 0x70000 then vltRows
  else if a < 0x78000 then seamRows
  else if a < 0x80000 then evRows
  else if a < 0x90000 then talRows
  else if a < 0xA0000 then dmaRows
  else []

/-- The two indices of an address inside a row, where the row covers it. -/
def RegRow.index (r : RegRow) (a : Nat) : Option (Nat × Nat) :=
  if a < r.addr then none
  else
    let d := a - r.addr
    let i := d / r.s1
    let e := d % r.s1
    if i < r.n1 && e / r.s2 < r.n2 && e % r.s2 == 0 then some (i, e / r.s2) else none

/-- The row of an address and the indices in it; none where the address is reserved or unmapped (03 R80). -/
def findRow (a : Nat) : Option (RegRow × Nat × Nat) :=
  (rowsAt a).findSome? fun r => (r.index a).map fun ij => (r, ij.1, ij.2)

/-- The word a register holds after power-on reset (00 R17). -/
def resetWord (a : Nat) : Word :=
  match findRow a with
  | some (r, _, _) => BitVec.ofNat 32 r.reset
  | none => 0

def AX_BANKSEL__BANK (i : Nat) : FieldRef := ⟨0x10094 + 0x1000 * i, 0, 4⟩
def AX_BANKWIN (i : Nat) (j : Nat) : Nat := 0x10800 + 0x1000 * i + 4 * j
def AX_BIND (i : Nat) : Nat := 0x10008 + 0x1000 * i
def AX_BIND_LEG (i : Nat) : Nat := 0x1000C + 0x1000 * i
def AX_BIND_LEG__LEG_MASK (i : Nat) : FieldRef := ⟨0x1000C + 0x1000 * i, 0, 24⟩
def AX_BIND__MODE (i : Nat) : FieldRef := ⟨0x10008 + 0x1000 * i, 0, 1⟩
def AX_BIND__PI_EN (i : Nat) : FieldRef := ⟨0x10008 + 0x1000 * i, 6, 1⟩
def AX_BIND__PI_SEL (i : Nat) : FieldRef := ⟨0x10008 + 0x1000 * i, 4, 2⟩
def AX_BIND__PM (i : Nat) : FieldRef := ⟨0x10008 + 0x1000 * i, 1, 1⟩
def AX_CFG (i : Nat) : Nat := 0x10010 + 0x1000 * i
def AX_CFG__ACTIVE_SET (i : Nat) : FieldRef := ⟨0x10010 + 0x1000 * i, 1, 1⟩
def AX_CFG__ENGINE_PREF (i : Nat) : FieldRef := ⟨0x10010 + 0x1000 * i, 0, 1⟩
def AX_CFG__FF_MODE (i : Nat) : FieldRef := ⟨0x10010 + 0x1000 * i, 2, 2⟩
def AX_CFG__HOLD_OUT (i : Nat) : FieldRef := ⟨0x10010 + 0x1000 * i, 4, 1⟩
def AX_CFG__SEED_SPD (i : Nat) : FieldRef := ⟨0x10010 + 0x1000 * i, 8, 4⟩
def AX_CFG__XSEED (i : Nat) : FieldRef := ⟨0x10010 + 0x1000 * i, 5, 2⟩
def AX_CHECK (i : Nat) : Nat := 0x100AC + 0x1000 * i
def AX_COUNTS__OVERRUNS (i : Nat) : FieldRef := ⟨0x100B8 + 0x1000 * i, 16, 16⟩
def AX_COUNTS__SAT_SAMPLES (i : Nat) : FieldRef := ⟨0x100B8 + 0x1000 * i, 0, 16⟩
def AX_CTRL (i : Nat) : Nat := 0x10004 + 0x1000 * i
def AX_EVENT (i : Nat) : Nat := 0x100A4 + 0x1000 * i
def AX_EVENT__EVT (i : Nat) : FieldRef := ⟨0x100A4 + 0x1000 * i, 0, 10⟩
def AX_FE_CFG (i : Nat) : Nat := 0x1004C + 0x1000 * i
def AX_FE_CFG__FE_ACT (i : Nat) : FieldRef := ⟨0x1004C + 0x1000 * i, 8, 2⟩
def AX_FE_CFG__FE_REF (i : Nat) : FieldRef := ⟨0x1004C + 0x1000 * i, 5, 1⟩
def AX_FE_CFG__FE_SRC (i : Nat) : FieldRef := ⟨0x1004C + 0x1000 * i, 0, 5⟩
def AX_FE_ERR (i : Nat) : Nat := 0x100B0 + 0x1000 * i
def AX_FE_LIMIT (i : Nat) : Nat := 0x10050 + 0x1000 * i
def AX_FE_TIME__FE_TIME (i : Nat) : FieldRef := ⟨0x10054 + 0x1000 * i, 0, 16⟩
def AX_OUTDLY (i : Nat) : Nat := 0x10018 + 0x1000 * i
def AX_OUTDLY__OUT_DELAY (i : Nat) : FieldRef := ⟨0x10018 + 0x1000 * i, 0, 20⟩
def AX_R0 (i : Nat) : Nat := 0x100B4 + 0x1000 * i
def AX_RAMP (i : Nat) : Nat := 0x10048 + 0x1000 * i
def AX_REF1 (i : Nat) : Nat := 0x10044 + 0x1000 * i
def AX_SAMPLE_CNT (i : Nat) : Nat := 0x100A8 + 0x1000 * i
def AX_SAMPLE_CNT__COUNT (i : Nat) : FieldRef := ⟨0x100A8 + 0x1000 * i, 0, 32⟩
def AX_SETPOINT (i : Nat) : Nat := 0x10040 + 0x1000 * i
def AX_STATE (i : Nat) : Nat := 0x10000 + 0x1000 * i
def AX_STATE__ASC_ACTIVE (i : Nat) : FieldRef := ⟨0x10000 + 0x1000 * i, 11, 1⟩
def AX_STATE__CLOSING (i : Nat) : FieldRef := ⟨0x10000 + 0x1000 * i, 8, 1⟩
def AX_STATE__LAST_REQ (i : Nat) : FieldRef := ⟨0x10000 + 0x1000 * i, 16, 4⟩
def AX_STATE__LAST_TARGET (i : Nat) : FieldRef := ⟨0x10000 + 0x1000 * i, 20, 4⟩
def AX_STATE__PO_BLOCK (i : Nat) : FieldRef := ⟨0x10000 + 0x1000 * i, 12, 1⟩
def AX_STATE__RST_HOLD (i : Nat) : FieldRef := ⟨0x10000 + 0x1000 * i, 9, 1⟩
def AX_STATE__SAFE_CAUSE (i : Nat) : FieldRef := ⟨0x10000 + 0x1000 * i, 4, 4⟩
def AX_STATE__SAF_HOLD (i : Nat) : FieldRef := ⟨0x10000 + 0x1000 * i, 10, 1⟩
def AX_STATE__STATE (i : Nat) : FieldRef := ⟨0x10000 + 0x1000 * i, 0, 4⟩
def AX_STATUS (i : Nat) : Nat := 0x100A0 + 0x1000 * i
def AX_STATUS__CHK_RESULT (i : Nat) : FieldRef := ⟨0x100A0 + 0x1000 * i, 8, 4⟩
def AX_STATUS__CHK_VALID (i : Nat) : FieldRef := ⟨0x100A0 + 0x1000 * i, 12, 1⟩
def AX_STATUS__ENGINE (i : Nat) : FieldRef := ⟨0x100A0 + 0x1000 * i, 4, 1⟩
def AX_STATUS__E_SAT (i : Nat) : FieldRef := ⟨0x100A0 + 0x1000 * i, 2, 1⟩
def AX_STATUS__FF_LIM (i : Nat) : FieldRef := ⟨0x100A0 + 0x1000 * i, 3, 1⟩
def AX_STATUS__OVERRUN (i : Nat) : FieldRef := ⟨0x100A0 + 0x1000 * i, 5, 1⟩
def AX_STATUS__PARTIAL (i : Nat) : FieldRef := ⟨0x100A0 + 0x1000 * i, 14, 16⟩
def AX_STATUS__SET_IN_USE (i : Nat) : FieldRef := ⟨0x100A0 + 0x1000 * i, 13, 1⟩
def AX_STATUS__U_SAT (i : Nat) : FieldRef := ⟨0x100A0 + 0x1000 * i, 1, 1⟩
def AX_STATUS__X_SAT (i : Nat) : FieldRef := ⟨0x100A0 + 0x1000 * i, 0, 1⟩
def AX_TIMING (i : Nat) : Nat := 0x10014 + 0x1000 * i
def AX_TIMING__PERIOD (i : Nat) : FieldRef := ⟨0x10014 + 0x1000 * i, 0, 20⟩
def AX_TIMING__SYNC (i : Nat) : FieldRef := ⟨0x10014 + 0x1000 * i, 24, 2⟩
def AX_UDST0 (i : Nat) : Nat := 0x10028 + 0x1000 * i
def AX_UDST0__DST (i : Nat) (k : Nat) : FieldRef := ⟨0x10028 + 0x1000 * i, 0 + 8 * k, 8⟩
def AX_UDST1 (i : Nat) : Nat := 0x1002C + 0x1000 * i
def AX_UDST1__DST_4 (i : Nat) : FieldRef := ⟨0x1002C + 0x1000 * i, 0, 8⟩
def AX_UDST1__DST_5 (i : Nat) : FieldRef := ⟨0x1002C + 0x1000 * i, 8, 8⟩
def AX_XSEED (i : Nat) (j : Nat) : Nat := 0x10060 + 0x1000 * i + 4 * j
def AX_XSEED_EXP (i : Nat) : Nat := 0x10090 + 0x1000 * i
def AX_XSEED_EXP__EXP (i : Nat) : FieldRef := ⟨0x10090 + 0x1000 * i, 0, 8⟩
def AX_XSEED__MANT (i : Nat) (j : Nat) : FieldRef := ⟨0x10060 + 0x1000 * i + 4 * j, 0, 24⟩
def AX_YSRC (i : Nat) (j : Nat) : Nat := 0x10020 + 0x1000 * i + 4 * j
def AX_YSRC__SRC (i : Nat) (j : Nat) (k : Nat) : FieldRef := ⟨0x10020 + 0x1000 * i + 4 * j, 0 + 8 * k, 8⟩
def BIST_CFG : Nat := 0x58000
def BIST_CFG__KIND_EN : FieldRef := ⟨0x58000, 16, 9⟩
def BIST_CFG__PERIOD : FieldRef := ⟨0x58000, 0, 8⟩
def BIST_COUNTS__ABANDONED : FieldRef := ⟨0x5800C, 24, 8⟩
def BIST_COUNTS__CYCLES : FieldRef := ⟨0x5800C, 0, 16⟩
def BIST_COUNTS__FAILS : FieldRef := ⟨0x5800C, 16, 8⟩
def BIST_LAST_FAIL__KIND : FieldRef := ⟨0x58008, 0, 4⟩
def BIST_LAST_FAIL__UNIT : FieldRef := ⟨0x58008, 16, 16⟩
def BIST_LAST_FAIL__VALID : FieldRef := ⟨0x58008, 4, 1⟩
def CLK_CFG__XTAL_EN : FieldRef := ⟨0x2004, 0, 1⟩
def CLK_EVENT__PLLA_UNLOCK : FieldRef := ⟨0x2008, 2, 1⟩
def CLK_EVENT__PLLB_UNLOCK : FieldRef := ⟨0x2008, 3, 1⟩
def CLK_EVENT__XTAL_LOCKED : FieldRef := ⟨0x2008, 0, 1⟩
def CLK_EVENT__XTAL_LOST : FieldRef := ⟨0x2008, 1, 1⟩
def CLK_STATUS : Nat := 0x2000
def CLK_STATUS__AON_SRC : FieldRef := ⟨0x2000, 0, 1⟩
def CLK_STATUS__PLLA_LOCK : FieldRef := ⟨0x2000, 2, 1⟩
def CLK_STATUS__PLLB_LOCK : FieldRef := ⟨0x2000, 3, 1⟩
def CLK_STATUS__RC_TRIM : FieldRef := ⟨0x2000, 16, 8⟩
def CLK_STATUS__XTAL_RUN : FieldRef := ⟨0x2000, 1, 1⟩
def DEV_ID : Nat := 0
def DEV_ID__STEPPING : FieldRef := ⟨0, 16, 8⟩
def DEV_SERIAL_HI : Nat := 8
def DEV_SERIAL_LO : Nat := 4
def DEV_PCI_SUB : Nat := 0xC
def DEV_TEMP_CTL__TEMP : FieldRef := ⟨0x10, 0, 12⟩
def DEV_TEMP_CTL__VALID : FieldRef := ⟨0x10, 15, 1⟩
def DEV_TEMP_GI__TEMP (i : Nat) : FieldRef := ⟨0x20 + 4 * i, 0, 12⟩
def DEV_TEMP_GI__VALID (i : Nat) : FieldRef := ⟨0x20 + 4 * i, 15, 1⟩
def DIN_CFG__CHAT_MAX (i : Nat) : FieldRef := ⟨0x41000 + 4 * i, 24, 8⟩
def DIN_CFG__INV (i : Nat) : FieldRef := ⟨0x41000 + 4 * i, 8, 1⟩
def DIN_CFG__STALE (i : Nat) : FieldRef := ⟨0x41000 + 4 * i, 12, 12⟩
def DIN_CHATCNT__CNT (i : Nat) (k : Nat) : FieldRef := ⟨0x410A0 + 4 * i, 0 + 8 * k, 8⟩
def DIN_CHAT__CHAT : FieldRef := ⟨0x41088, 0, 24⟩
def DIN_EDGE : Nat := 0x41090
def DIN_EDGE__EDGE : FieldRef := ⟨0x41090, 0, 24⟩
def DIN_LEVEL__LEVEL : FieldRef := ⟨0x41080, 0, 24⟩
def DIN_RAW__RAW : FieldRef := ⟨0x41084, 0, 24⟩
def DIN_STALE : Nat := 0x4108C
def DIN_STALE__STALE : FieldRef := ⟨0x4108C, 0, 24⟩
def DMA_CH_BADCNT__BAD (i : Nat) : FieldRef := ⟨0x90120 + 0x40 * i, 0, 16⟩
def DMA_CH_CFG__HALT_ON_BAD (i : Nat) : FieldRef := ⟨0x90108 + 0x40 * i, 1, 1⟩
def DMA_CH_CFG__PRIO (i : Nat) : FieldRef := ⟨0x90108 + 0x40 * i, 0, 1⟩
def DMA_CH_CFG__LIST_SPACE (i : Nat) : FieldRef := ⟨0x90108 + 0x40 * i, 2, 1⟩
def DMA_CH_CTRL (i : Nat) : Nat := 0x9010C + 0x40 * i
def DMA_CH_CUR_HI (i : Nat) : Nat := 0x90118 + 0x40 * i
def DMA_CH_CUR_LO (i : Nat) : Nat := 0x90114 + 0x40 * i
def DMA_CH_EVENT (i : Nat) : Nat := 0x90124 + 0x40 * i
def DMA_CH_LAST__CODE (i : Nat) : FieldRef := ⟨0x9011C + 0x40 * i, 0, 8⟩
def DMA_CH_LAST__DETAIL (i : Nat) : FieldRef := ⟨0x9011C + 0x40 * i, 8, 8⟩
def DMA_CH_LAST__DONE (i : Nat) : FieldRef := ⟨0x9011C + 0x40 * i, 16, 13⟩
def DMA_CH_LAST__VALID (i : Nat) : FieldRef := ⟨0x9011C + 0x40 * i, 31, 1⟩
def DMA_CH_LIST_HI (i : Nat) : Nat := 0x90104 + 0x40 * i
def DMA_CH_LIST_LO (i : Nat) : Nat := 0x90100 + 0x40 * i
def DMA_CH_STATE__PAUSE_CAUSE (i : Nat) : FieldRef := ⟨0x90110 + 0x40 * i, 4, 4⟩
def DMA_CH_STATE__STATE (i : Nat) : FieldRef := ⟨0x90110 + 0x40 * i, 0, 3⟩
def DMA_GLOBAL_CFG : Nat := 0x90000
def DMA_GLOBAL_CFG__HOST_TAGS : FieldRef := ⟨0x90000, 0, 6⟩
def DMA_GLOBAL_CFG__LOW_EVERY : FieldRef := ⟨0x90000, 8, 5⟩
def DMA_GLOBAL_STATUS : Nat := 0x90004
def DMA_GLOBAL_STATUS__ACTIVE : FieldRef := ⟨0x90004, 0, 16⟩
def DMA_GLOBAL_STATUS__HALTED : FieldRef := ⟨0x90004, 16, 16⟩
def EV_COAL (i : Nat) (j : Nat) : Nat := 0x7A000 + 0x100 * i + 4 * j
def EV_COAL__COUNT (i : Nat) (j : Nat) : FieldRef := ⟨0x7A000 + 0x100 * i + 4 * j, 0, 8⟩
def EV_COAL__TIME (i : Nat) (j : Nat) : FieldRef := ⟨0x7A000 + 0x100 * i + 4 * j, 8, 16⟩
def EV_FWDETAIL : Nat := 0x79100
def EV_FWRAISE : Nat := 0x79104
def EV_RING_BASE_HI (i : Nat) : Nat := 0x79004 + 0x20 * i
def EV_RING_BASE_HI__BASE_HI (i : Nat) : FieldRef := ⟨0x79004 + 0x20 * i, 0, 32⟩
def EV_RING_BASE_LO (i : Nat) : Nat := 0x79000 + 0x20 * i
def EV_RING_BASE_LO__BASE_LO (i : Nat) : FieldRef := ⟨0x79000 + 0x20 * i, 12, 20⟩
def EV_RING_CFG (i : Nat) : Nat := 0x79008 + 0x20 * i
def EV_RING_CFG__EN (i : Nat) : FieldRef := ⟨0x79008 + 0x20 * i, 8, 1⟩
def EV_RING_CFG__SIZE_LOG2 (i : Nat) : FieldRef := ⟨0x79008 + 0x20 * i, 0, 4⟩
def EV_RING_HEAD (i : Nat) : Nat := 0x7900C + 0x20 * i
def EV_RING_HEAD__HEAD (i : Nat) : FieldRef := ⟨0x7900C + 0x20 * i, 0, 12⟩
def EV_RING_TAIL__FULL (i : Nat) : FieldRef := ⟨0x79010 + 0x20 * i, 31, 1⟩
def EV_RING_TAIL__TAIL (i : Nat) : FieldRef := ⟨0x79010 + 0x20 * i, 0, 12⟩
def EV_ROUTE__COUNT (i : Nat) (j : Nat) : FieldRef := ⟨0x78000 + 0x10 * i + 4 * j, 24, 8⟩
def EV_ROUTE__EN (i : Nat) (j : Nat) : FieldRef := ⟨0x78000 + 0x10 * i + 4 * j, 0, 1⟩
def EV_ROUTE__PEND (i : Nat) (j : Nat) : FieldRef := ⟨0x78000 + 0x10 * i + 4 * j, 16, 1⟩
def EV_ROUTE__VECTOR (i : Nat) (j : Nat) : FieldRef := ⟨0x78000 + 0x10 * i + 4 * j, 8, 6⟩
def FM_CH_BIND (i : Nat) : Nat := 0x31000 + 0x40 * i
def FM_CH_BIND__AXIS (i : Nat) : FieldRef := ⟨0x31000 + 0x40 * i, 0, 3⟩
def FM_CH_BIND__BOUND (i : Nat) : FieldRef := ⟨0x31000 + 0x40 * i, 3, 1⟩
def FM_CH_BIND__SHARED (i : Nat) : FieldRef := ⟨0x31000 + 0x40 * i, 4, 1⟩
def FM_CH_BIND__SHARE_MASK (i : Nat) : FieldRef := ⟨0x31000 + 0x40 * i, 8, 8⟩
def FM_CH_CAL__GAIN (i : Nat) : FieldRef := ⟨0x31008 + 0x40 * i, 16, 16⟩
def FM_CH_CAL__OFFSET (i : Nat) : FieldRef := ⟨0x31008 + 0x40 * i, 0, 8⟩
def FM_CH_CFG (i : Nat) : Nat := 0x31004 + 0x40 * i
def FM_CH_CFG__EN (i : Nat) : FieldRef := ⟨0x31004 + 0x40 * i, 0, 1⟩
def FM_CH_CFG__SMODE (i : Nat) : FieldRef := ⟨0x31004 + 0x40 * i, 1, 1⟩
def FM_CH_CFG__TRG_SEL (i : Nat) : FieldRef := ⟨0x31004 + 0x40 * i, 2, 1⟩
def FM_CH_CFG__TRG_LEG (i : Nat) : FieldRef := ⟨0x31004 + 0x40 * i, 4, 5⟩
def FM_CH_CFG__YMODE (i : Nat) : FieldRef := ⟨0x31004 + 0x40 * i, 3, 1⟩
def FM_CH_COUNTS__MASKED (i : Nat) : FieldRef := ⟨0x31028 + 0x40 * i, 0, 16⟩
def FM_CH_COUNTS__TRIG_DROP (i : Nat) : FieldRef := ⟨0x31028 + 0x40 * i, 16, 16⟩
def FM_CH_DATA (i : Nat) : Nat := 0x31020 + 0x40 * i
def FM_CH_DATA__RAW (i : Nat) : FieldRef := ⟨0x31020 + 0x40 * i, 0, 14⟩
def FM_CH_DATA__VALID (i : Nat) : FieldRef := ⟨0x31020 + 0x40 * i, 15, 1⟩
def FM_CH_EVENT__EVT (i : Nat) : FieldRef := ⟨0x3102C + 0x40 * i, 0, 4⟩
def FM_CH_STATUS__BLANKING (i : Nat) : FieldRef := ⟨0x31024 + 0x40 * i, 2, 1⟩
def FM_CH_STATUS__CLIP (i : Nat) : FieldRef := ⟨0x31024 + 0x40 * i, 3, 1⟩
def FM_CH_STATUS__FP (i : Nat) : FieldRef := ⟨0x31024 + 0x40 * i, 16, 6⟩
def FM_CH_STATUS__WA_COPIES (i : Nat) : FieldRef := ⟨0x31024 + 0x40 * i, 4, 2⟩
def FM_CH_STATUS__WA_OUT (i : Nat) : FieldRef := ⟨0x31024 + 0x40 * i, 0, 1⟩
def FM_CH_STATUS__WB_COPIES (i : Nat) : FieldRef := ⟨0x31024 + 0x40 * i, 6, 2⟩
def FM_CH_STATUS__WB_OUT (i : Nat) : FieldRef := ⟨0x31024 + 0x40 * i, 1, 1⟩
def FM_CH_STATUS__ZC_OUT (i : Nat) : FieldRef := ⟨0x31024 + 0x40 * i, 8, 1⟩
def FM_CH_WA (i : Nat) : Nat := 0x3100C + 0x40 * i
def FM_CH_WA__HI (i : Nat) : FieldRef := ⟨0x3100C + 0x40 * i, 16, 10⟩
def FM_CH_WB (i : Nat) : Nat := 0x31010 + 0x40 * i
def FM_CH_WB__HI (i : Nat) : FieldRef := ⟨0x31010 + 0x40 * i, 16, 10⟩
def FM_CH_WCTL (i : Nat) : Nat := 0x31014 + 0x40 * i
def FM_CH_WCTL__A_ACT (i : Nat) : FieldRef := ⟨0x31014 + 0x40 * i, 2, 1⟩
def FM_CH_WCTL__A_BLK (i : Nat) : FieldRef := ⟨0x31014 + 0x40 * i, 3, 1⟩
def FM_CH_WCTL__A_FILT (i : Nat) : FieldRef := ⟨0x31014 + 0x40 * i, 4, 3⟩
def FM_CH_WCTL__A_MODE (i : Nat) : FieldRef := ⟨0x31014 + 0x40 * i, 0, 2⟩
def FM_CH_WCTL__BLANK (i : Nat) : FieldRef := ⟨0x31014 + 0x40 * i, 16, 6⟩
def FM_CH_WCTL__B_ACT (i : Nat) : FieldRef := ⟨0x31014 + 0x40 * i, 10, 1⟩
def FM_CH_WCTL__B_BLK (i : Nat) : FieldRef := ⟨0x31014 + 0x40 * i, 11, 1⟩
def FM_CH_WCTL__B_FILT (i : Nat) : FieldRef := ⟨0x31014 + 0x40 * i, 12, 3⟩
def FM_CH_WCTL__B_MODE (i : Nat) : FieldRef := ⟨0x31014 + 0x40 * i, 8, 2⟩
def FM_FPSTAT (i : Nat) : Nat := 0x30030 + 4 * i
def FM_FPSTAT__STATE (i : Nat) (k : Nat) : FieldRef := ⟨0x30030 + 4 * i, 0 + 2 * k, 2⟩
def FM_PAIR (i : Nat) : Nat := 0x30100 + 4 * i
def FM_PAIR_STAT__MISMATCH : FieldRef := ⟨0x30180, 0, 16⟩
def FM_PAIR_TOL__TIME (i : Nat) : FieldRef := ⟨0x30140 + 4 * i, 16, 16⟩
def FM_PAIR_TOL__TOL (i : Nat) : FieldRef := ⟨0x30140 + 4 * i, 0, 14⟩
def FM_PAIR__CH_A (i : Nat) : FieldRef := ⟨0x30100 + 4 * i, 0, 5⟩
def FM_PAIR__CH_B (i : Nat) : FieldRef := ⟨0x30100 + 4 * i, 8, 5⟩
def FM_PAIR__EN (i : Nat) : FieldRef := ⟨0x30100 + 4 * i, 16, 1⟩
def FM_STATUS__CONV_RUN : FieldRef := ⟨0x30000, 0, 1⟩
def FM_STATUS__SHADOW : FieldRef := ⟨0x30000, 1, 1⟩
def FM_XBAR__FP (i : Nat) (k : Nat) : FieldRef := ⟨0x30010 + 4 * i, 0 + 8 * k, 6⟩
def GI_CFG (i : Nat) : Nat := 0x24004 + 0x400 * i
def GI_CFG__SERVICE (i : Nat) : FieldRef := ⟨0x24004 + 0x400 * i, 0, 1⟩
def GI_COUNTS__LINK_CRC (i : Nat) : FieldRef := ⟨0x2400C + 0x400 * i, 0, 16⟩
def GI_COUNTS__LINK_LOSS (i : Nat) : FieldRef := ⟨0x2400C + 0x400 * i, 16, 16⟩
def GI_DCPS (i : Nat) : Nat := 0x24010 + 0x400 * i
def GI_DCPS__VALID (i : Nat) : FieldRef := ⟨0x24010 + 0x400 * i, 15, 1⟩
def GI_DCPS__VDC (i : Nat) : FieldRef := ⟨0x24010 + 0x400 * i, 0, 14⟩
def GI_EVENT__EVT (i : Nat) : FieldRef := ⟨0x24008 + 0x400 * i, 0, 9⟩
def GI_L_BCFG (i : Nat) (j : Nat) : Nat := 0x24110 + 0x400 * i + 0x80 * j
def GI_L_BCFG__TEST_GATE (i : Nat) (j : Nat) : FieldRef := ⟨0x24110 + 0x400 * i + 0x80 * j, 0, 1⟩
def GI_L_BCFG__TEST_PHASE (i : Nat) (j : Nat) : FieldRef := ⟨0x24110 + 0x400 * i + 0x80 * j, 1, 1⟩
def GI_L_BCFG__TEST_WIND (i : Nat) (j : Nat) : FieldRef := ⟨0x24110 + 0x400 * i + 0x80 * j, 2, 1⟩
def GI_L_BCTRL (i : Nat) (j : Nat) : Nat := 0x24114 + 0x400 * i + 0x80 * j
def GI_L_BRES (i : Nat) (j : Nat) : Nat := 0x24118 + 0x400 * i + 0x80 * j
def GI_L_BRES__GATE_L (i : Nat) (j : Nat) : FieldRef := ⟨0x24118 + 0x400 * i + 0x80 * j, 3, 3⟩
def GI_L_BRES__GATE_U (i : Nat) (j : Nat) : FieldRef := ⟨0x24118 + 0x400 * i + 0x80 * j, 0, 3⟩
def GI_L_BRES__PHASE (i : Nat) (j : Nat) : FieldRef := ⟨0x24118 + 0x400 * i + 0x80 * j, 8, 3⟩
def GI_L_BRES__RUNNING (i : Nat) (j : Nat) : FieldRef := ⟨0x24118 + 0x400 * i + 0x80 * j, 16, 1⟩
def GI_L_BRES__STALE (i : Nat) (j : Nat) : FieldRef := ⟨0x24118 + 0x400 * i + 0x80 * j, 18, 1⟩
def GI_L_BRES__VALID (i : Nat) (j : Nat) : FieldRef := ⟨0x24118 + 0x400 * i + 0x80 * j, 17, 1⟩
def GI_L_BRES__WIND (i : Nat) (j : Nat) : FieldRef := ⟨0x24118 + 0x400 * i + 0x80 * j, 12, 3⟩
def GI_L_BVAL (i : Nat) (j : Nat) : Nat := 0x2411C + 0x400 * i + 0x80 * j
def GI_L_BVAL__DV_L (i : Nat) (j : Nat) : FieldRef := ⟨0x2411C + 0x400 * i + 0x80 * j, 8, 8⟩
def GI_L_BVAL__DV_U (i : Nat) (j : Nat) : FieldRef := ⟨0x2411C + 0x400 * i + 0x80 * j, 0, 8⟩
def GI_L_BVAL__V_SNK (i : Nat) (j : Nat) : FieldRef := ⟨0x2411C + 0x400 * i + 0x80 * j, 24, 8⟩
def GI_L_BVAL__V_SRC (i : Nat) (j : Nat) : FieldRef := ⟨0x2411C + 0x400 * i + 0x80 * j, 16, 8⟩
def GI_L_COUNTS__SC_TRIPS (i : Nat) (j : Nat) : FieldRef := ⟨0x24124 + 0x400 * i + 0x80 * j, 0, 8⟩
def GI_L_COUNTS__SHORT (i : Nat) (j : Nat) : FieldRef := ⟨0x24124 + 0x400 * i + 0x80 * j, 16, 16⟩
def GI_L_COUNTS__XCMD (i : Nat) (j : Nat) : FieldRef := ⟨0x24124 + 0x400 * i + 0x80 * j, 8, 8⟩
def GI_L_OFF (i : Nat) (j : Nat) : Nat := 0x24104 + 0x400 * i + 0x80 * j
def GI_L_ON (i : Nat) (j : Nat) : Nat := 0x24100 + 0x400 * i + 0x80 * j
def GI_L_SC (i : Nat) (j : Nat) : Nat := 0x24108 + 0x400 * i + 0x80 * j
def GI_L_SC__EN_L (i : Nat) (j : Nat) : FieldRef := ⟨0x24108 + 0x400 * i + 0x80 * j, 21, 1⟩
def GI_L_SC__EN_U (i : Nat) (j : Nat) : FieldRef := ⟨0x24108 + 0x400 * i + 0x80 * j, 20, 1⟩
def GI_L_SOFT (i : Nat) (j : Nat) : Nat := 0x2410C + 0x400 * i + 0x80 * j
def GI_L_STATUS (i : Nat) (j : Nat) : Nat := 0x24120 + 0x400 * i + 0x80 * j
def GI_L_STATUS__GATE_FAULT_L (i : Nat) (j : Nat) : FieldRef := ⟨0x24120 + 0x400 * i + 0x80 * j, 7, 1⟩
def GI_L_STATUS__GATE_FAULT_U (i : Nat) (j : Nat) : FieldRef := ⟨0x24120 + 0x400 * i + 0x80 * j, 6, 1⟩
def GI_L_STATUS__HOLD (i : Nat) (j : Nat) : FieldRef := ⟨0x24120 + 0x400 * i + 0x80 * j, 8, 2⟩
def GI_L_STATUS__LOWER_ON (i : Nat) (j : Nat) : FieldRef := ⟨0x24120 + 0x400 * i + 0x80 * j, 1, 1⟩
def GI_L_STATUS__RANK (i : Nat) (j : Nat) : FieldRef := ⟨0x24120 + 0x400 * i + 0x80 * j, 10, 3⟩
def GI_L_STATUS__SOFT_STEP (i : Nat) (j : Nat) : FieldRef := ⟨0x24120 + 0x400 * i + 0x80 * j, 3, 2⟩
def GI_L_STATUS__TRIP_LATCH (i : Nat) (j : Nat) : FieldRef := ⟨0x24120 + 0x400 * i + 0x80 * j, 2, 1⟩
def GI_L_STATUS__UPPER_ON (i : Nat) (j : Nat) : FieldRef := ⟨0x24120 + 0x400 * i + 0x80 * j, 0, 1⟩
def GI_L_STATUS__XCMD_LATCH (i : Nat) (j : Nat) : FieldRef := ⟨0x24120 + 0x400 * i + 0x80 * j, 5, 1⟩
def GI_STATUS (i : Nat) : Nat := 0x24000 + 0x400 * i
def GI_STATUS__CFG_SYNC (i : Nat) : FieldRef := ⟨0x24000 + 0x400 * i, 11, 1⟩
def GI_STATUS__FAST (i : Nat) : FieldRef := ⟨0x24000 + 0x400 * i, 10, 1⟩
def GI_STATUS__LINK_UP (i : Nat) : FieldRef := ⟨0x24000 + 0x400 * i, 9, 1⟩
def GI_STATUS__READY (i : Nat) : FieldRef := ⟨0x24000 + 0x400 * i, 12, 1⟩
def GI_STATUS__VDDI_OK (i : Nat) : FieldRef := ⟨0x24000 + 0x400 * i, 0, 1⟩
def GI_STATUS__VGNU_OK (i : Nat) : FieldRef := ⟨0x24000 + 0x400 * i, 6, 3⟩
def GI_STATUS__VGN_OK (i : Nat) : FieldRef := ⟨0x24000 + 0x400 * i, 2, 1⟩
def GI_STATUS__VGPU_OK (i : Nat) : FieldRef := ⟨0x24000 + 0x400 * i, 3, 3⟩
def GI_STATUS__VGP_OK (i : Nat) : FieldRef := ⟨0x24000 + 0x400 * i, 1, 1⟩
def HP_CFG (i : Nat) : Nat := 0x1110 + 0x40 * i
def HP_CFG__EN (i : Nat) : FieldRef := ⟨0x1110 + 0x40 * i, 0, 1⟩
def HP_CFG__RO_PORT (i : Nat) : FieldRef := ⟨0x1110 + 0x40 * i, 1, 1⟩
def HP_CTX_BASE_HI (i : Nat) : Nat := 0x8004 + 0x40 * i
def HP_CTX_BASE_HI__BASE_HI (i : Nat) : FieldRef := ⟨0x8004 + 0x40 * i, 0, 32⟩
def HP_CTX_BASE_LO (i : Nat) : Nat := 0x8000 + 0x40 * i
def HP_CTX_BASE_LO__BASE_LO (i : Nat) : FieldRef := ⟨0x8000 + 0x40 * i, 12, 20⟩
def HP_CTX_CFG (i : Nat) : Nat := 0x8008 + 0x40 * i
def HP_CTX_CFG__HWM (i : Nat) : FieldRef := ⟨0x8008 + 0x40 * i, 16, 12⟩
def HP_CTX_CFG__SIZE_LOG2 (i : Nat) : FieldRef := ⟨0x8008 + 0x40 * i, 0, 4⟩
def HP_CTX_CFG__WEIGHT_M1 (i : Nat) : FieldRef := ⟨0x8008 + 0x40 * i, 8, 6⟩
def HP_CTX_CTRL (i : Nat) : Nat := 0x8010 + 0x40 * i
def HP_CTX_CTRL__EN (i : Nat) : FieldRef := ⟨0x8010 + 0x40 * i, 0, 1⟩
def HP_CTX_EVENT__DB_BACK (i : Nat) : FieldRef := ⟨0x8018 + 0x40 * i, 2, 1⟩
def HP_CTX_EVENT__FETCH_ERR (i : Nat) : FieldRef := ⟨0x8018 + 0x40 * i, 5, 1⟩
def HP_CTX_EVENT__SAT (i : Nat) : FieldRef := ⟨0x8018 + 0x40 * i, 0, 1⟩
def HP_CTX_EVENT__SAT_END (i : Nat) : FieldRef := ⟨0x8018 + 0x40 * i, 1, 1⟩
def HP_CTX_EVENT__STOPPED (i : Nat) : FieldRef := ⟨0x8018 + 0x40 * i, 4, 1⟩
def HP_CTX_EVENT__WAIT_OWN (i : Nat) : FieldRef := ⟨0x8018 + 0x40 * i, 3, 1⟩
def HP_CTX_LEDGER0 (i : Nat) : Nat := 0x8020 + 0x40 * i
def HP_CTX_LEDGER0__DONE (i : Nat) : FieldRef := ⟨0x8020 + 0x40 * i, 25, 1⟩
def HP_CTX_LEDGER0__INDEX (i : Nat) : FieldRef := ⟨0x8020 + 0x40 * i, 0, 12⟩
def HP_CTX_LEDGER0__INTERRUPTED (i : Nat) : FieldRef := ⟨0x8020 + 0x40 * i, 26, 1⟩
def HP_CTX_LEDGER0__OPCODE (i : Nat) : FieldRef := ⟨0x8020 + 0x40 * i, 16, 8⟩
def HP_CTX_LEDGER0__RSAFE (i : Nat) : FieldRef := ⟨0x8020 + 0x40 * i, 24, 1⟩
def HP_CTX_LEDGER0__VALID (i : Nat) : FieldRef := ⟨0x8020 + 0x40 * i, 31, 1⟩
def HP_CTX_LEDGER1 (i : Nat) : Nat := 0x8024 + 0x40 * i
def HP_CTX_LEDGER1__STEPS (i : Nat) : FieldRef := ⟨0x8024 + 0x40 * i, 0, 24⟩
def HP_CTX_LEDGER2 (i : Nat) : Nat := 0x8028 + 0x40 * i
def HP_CTX_LEDGER2__CODE (i : Nat) : FieldRef := ⟨0x8028 + 0x40 * i, 0, 8⟩
def HP_CTX_LEDGER2__DETAIL (i : Nat) : FieldRef := ⟨0x8028 + 0x40 * i, 8, 8⟩
def HP_CTX_LEDGER3 (i : Nat) : Nat := 0x802C + 0x40 * i
def HP_CTX_LEDGER3__SEQ (i : Nat) : FieldRef := ⟨0x802C + 0x40 * i, 0, 32⟩
def HP_CTX_SAT (i : Nat) : Nat := 0x800C + 0x40 * i
def HP_CTX_SAT__SAT_TIME (i : Nat) : FieldRef := ⟨0x800C + 0x40 * i, 0, 20⟩
def HP_CTX_STATE (i : Nat) : Nat := 0x8014 + 0x40 * i
def HP_CTX_STATE__HEAD (i : Nat) : FieldRef := ⟨0x8014 + 0x40 * i, 0, 12⟩
def HP_CTX_STATE__PHASE (i : Nat) : FieldRef := ⟨0x8014 + 0x40 * i, 28, 3⟩
def HP_CTX_STATE__SATURATED (i : Nat) : FieldRef := ⟨0x8014 + 0x40 * i, 31, 1⟩
def HP_CTX_STATE__TAIL (i : Nat) : FieldRef := ⟨0x8014 + 0x40 * i, 16, 12⟩
def HP_DENY_ADDR (i : Nat) : Nat := 0x1108 + 0x40 * i
def HP_DENY_INFO (i : Nat) : Nat := 0x110C + 0x40 * i
def HP_DENY_INFO__BAR (i : Nat) : FieldRef := ⟨0x110C + 0x40 * i, 20, 1⟩
def HP_DENY_INFO__COUNT (i : Nat) : FieldRef := ⟨0x110C + 0x40 * i, 0, 16⟩
def HP_DENY_INFO__REASON (i : Nat) : FieldRef := ⟨0x110C + 0x40 * i, 16, 4⟩
def HP_DENY_INFO__VALID (i : Nat) : FieldRef := ⟨0x110C + 0x40 * i, 31, 1⟩
def HP_EVENT : Nat := 0x1200
def HP_EVENT__DENIED : FieldRef := ⟨0x1200, 12, 4⟩
def HP_EVENT__HOT_RESET : FieldRef := ⟨0x1200, 8, 4⟩
def HP_EVENT__LINK_DOWN : FieldRef := ⟨0x1200, 4, 4⟩
def HP_EVENT__LINK_UP : FieldRef := ⟨0x1200, 0, 4⟩
def HP_EVENT__OWN_CHANGED : FieldRef := ⟨0x1200, 16, 1⟩
def HP_EVENT__STEWARD_CHANGED : FieldRef := ⟨0x1200, 17, 1⟩
def HP_LINK__BME (i : Nat) : FieldRef := ⟨0x1100 + 0x40 * i, 8, 1⟩
def HP_LINK__DSTATE (i : Nat) : FieldRef := ⟨0x1100 + 0x40 * i, 4, 2⟩
def HP_LINK__LPM (i : Nat) : FieldRef := ⟨0x1100 + 0x40 * i, 9, 3⟩
def HP_LINK__SPEED (i : Nat) : FieldRef := ⟨0x1100 + 0x40 * i, 0, 2⟩
def HP_LINK__UP (i : Nat) : FieldRef := ⟨0x1100 + 0x40 * i, 2, 1⟩
def HP_OWN_AX (i : Nat) : Nat := 0x1020 + 4 * i
def HP_OWN_AX__DB_CTX (i : Nat) : FieldRef := ⟨0x1020 + 4 * i, 8, 8⟩
def HP_OWN_AX__LOSS_ACT (i : Nat) : FieldRef := ⟨0x1020 + 4 * i, 16, 3⟩
def HP_OWN_AX__OWNER (i : Nat) : FieldRef := ⟨0x1020 + 4 * i, 0, 4⟩
def HP_OWN_CTX (i : Nat) : Nat := 0x1040 + 4 * i
def HP_OWN_CTX__OWNER (i : Nat) (k : Nat) : FieldRef := ⟨0x1040 + 4 * i, 0 + 4 * k, 4⟩
def HP_OWN_DMA (i : Nat) : Nat := 0x1018 + 4 * i
def HP_OWN_DMA__OWNER (i : Nat) (k : Nat) : FieldRef := ⟨0x1018 + 4 * i, 0 + 4 * k, 4⟩
def HP_OWN_FUNC : Nat := 0x1014
def HP_OWN_FUNC__PM_OWNER : FieldRef := ⟨0x1014, 0, 4⟩
def HP_OWN_FUNC__TAL_OWNER : FieldRef := ⟨0x1014, 4, 4⟩
def HP_OWN_GEN : Nat := 0x1010
def HP_OWN_STATUS : Nat := 0x10C0
def HP_OWN_STATUS__LAST_REFUSE : FieldRef := ⟨0x10C0, 0, 4⟩
def HP_OWN_STATUS__REFUSE_OFFSET : FieldRef := ⟨0x10C0, 16, 12⟩
def HP_RESETCNT__DOWN (i : Nat) : FieldRef := ⟨0x1104 + 0x40 * i, 16, 16⟩
def HP_RESETCNT__HOT (i : Nat) : FieldRef := ⟨0x1104 + 0x40 * i, 0, 16⟩
def HP_SELF : Nat := 0x1000
def HP_STEWARD : Nat := 0x1004
def HP_STEWARD_ACCEPT : Nat := 0x100C
def HP_STEWARD_XFER : Nat := 0x1008
def HP_STEWARD__STEWARD : FieldRef := ⟨0x1004, 0, 4⟩
def HP_STEWARD__XFER_FAIL : FieldRef := ⟨0x1004, 9, 1⟩
def HP_STEWARD__XFER_PENDING : FieldRef := ⟨0x1004, 8, 1⟩
def HP_STEWARD__XFER_TARGET : FieldRef := ⟨0x1004, 12, 2⟩
def LEG_ACT_CMP (i : Nat) (j : Nat) : Nat := 0x2006C + 0x100 * i + 4 * j
def LEG_ACT_CMP__VALUE (i : Nat) (j : Nat) : FieldRef := ⟨0x2006C + 0x100 * i + 4 * j, 0, 32⟩
def LEG_ACT_PRD (i : Nat) : Nat := 0x20068 + 0x100 * i
def LEG_ACT_PRD__VALUE (i : Nat) : FieldRef := ⟨0x20068 + 0x100 * i, 0, 32⟩
def LEG_CFG (i : Nat) : Nat := 0x20000 + 0x100 * i
def LEG_CFG__CH_MODE (i : Nat) : FieldRef := ⟨0x20000 + 0x100 * i, 2, 2⟩
def LEG_CHOP (i : Nat) : Nat := 0x2003C + 0x100 * i
def LEG_CHOP_CNT (i : Nat) : Nat := 0x20084 + 0x100 * i
def LEG_CHOP_CNT__CONSEC (i : Nat) : FieldRef := ⟨0x20084 + 0x100 * i, 0, 8⟩
def LEG_CHOP_CNT__TOTAL (i : Nat) : FieldRef := ⟨0x20084 + 0x100 * i, 16, 16⟩
def LEG_CHOP_MON__IMIN (i : Nat) : FieldRef := ⟨0x20044 + 0x100 * i, 0, 14⟩
def LEG_CHOP_V (i : Nat) : Nat := 0x20040 + 0x100 * i
def LEG_CHOP_V__VOFF (i : Nat) : FieldRef := ⟨0x20040 + 0x100 * i, 16, 14⟩
def LEG_CHOP_V__VON (i : Nat) : FieldRef := ⟨0x20040 + 0x100 * i, 0, 14⟩
def LEG_CHOP__CHOP_MODE (i : Nat) : FieldRef := ⟨0x2003C + 0x100 * i, 0, 2⟩
def LEG_CHOP__ISRC (i : Nat) : FieldRef := ⟨0x2003C + 0x100 * i, 12, 5⟩
def LEG_CHOP__MON_EN (i : Nat) : FieldRef := ⟨0x2003C + 0x100 * i, 17, 1⟩
def LEG_CHOP__VSRC (i : Nat) : FieldRef := ⟨0x2003C + 0x100 * i, 4, 5⟩
def LEG_CMP (i : Nat) (j : Nat) : Nat := 0x2000C + 0x100 * i + 4 * j
def LEG_CMP__CMP (i : Nat) (j : Nat) : FieldRef := ⟨0x2000C + 0x100 * i + 4 * j, 0, 32⟩
def LEG_CNT (i : Nat) : Nat := 0x20060 + 0x100 * i
def LEG_CNT__C (i : Nat) : FieldRef := ⟨0x20060 + 0x100 * i, 0, 32⟩
def LEG_COUNTS__LATE (i : Nat) : FieldRef := ⟨0x20080 + 0x100 * i, 0, 12⟩
def LEG_COUNTS__MINP (i : Nat) : FieldRef := ⟨0x20080 + 0x100 * i, 12, 12⟩
def LEG_COUNTS__SLIPS (i : Nat) : FieldRef := ⟨0x20080 + 0x100 * i, 24, 8⟩
def LEG_CTRL (i : Nat) : Nat := 0x20004 + 0x100 * i
def LEG_CTRL__CNT_EN (i : Nat) : FieldRef := ⟨0x20004 + 0x100 * i, 0, 1⟩
def LEG_CTRL__OUT_EN (i : Nat) : FieldRef := ⟨0x20004 + 0x100 * i, 1, 1⟩
def LEG_DT (i : Nat) : Nat := 0x20020 + 0x100 * i
def LEG_DT__DT_FALL (i : Nat) : FieldRef := ⟨0x20020 + 0x100 * i, 16, 12⟩
def LEG_DT__DT_RISE (i : Nat) : FieldRef := ⟨0x20020 + 0x100 * i, 0, 12⟩
def LEG_EVENT__CHOP_NOCUR (i : Nat) : FieldRef := ⟨0x20088 + 0x100 * i, 2, 1⟩
def LEG_EVENT__LATE (i : Nat) : FieldRef := ⟨0x20088 + 0x100 * i, 0, 1⟩
def LEG_EVENT__MASK_BAD (i : Nat) : FieldRef := ⟨0x20088 + 0x100 * i, 3, 1⟩
def LEG_EVENT__MINP (i : Nat) : FieldRef := ⟨0x20088 + 0x100 * i, 1, 1⟩
def LEG_EVENT__SYNC_SLIP (i : Nat) : FieldRef := ⟨0x20088 + 0x100 * i, 4, 1⟩
def LEG_MASK (i : Nat) : Nat := 0x20034 + 0x100 * i
def LEG_MASK_STEP (i : Nat) : Nat := 0x20038 + 0x100 * i
def LEG_MASK_STEP__STEP (i : Nat) : FieldRef := ⟨0x20038 + 0x100 * i, 0, 3⟩
def LEG_MASK__ENTRY (i : Nat) (k : Nat) : FieldRef := ⟨0x20034 + 0x100 * i, 0 + 2 * k, 2⟩
def LEG_MASK__LEN_M1 (i : Nat) : FieldRef := ⟨0x20034 + 0x100 * i, 20, 3⟩
def LEG_MASK__REV (i : Nat) : FieldRef := ⟨0x20034 + 0x100 * i, 29, 1⟩
def LEG_MASK__SRC (i : Nat) : FieldRef := ⟨0x20034 + 0x100 * i, 16, 2⟩
def LEG_MASK__TRIG_LEG (i : Nat) : FieldRef := ⟨0x20034 + 0x100 * i, 24, 5⟩
def LEG_MINP (i : Nat) : Nat := 0x20024 + 0x100 * i
def LEG_MINP__MINP (i : Nat) : FieldRef := ⟨0x20024 + 0x100 * i, 0, 12⟩
def LEG_PHASE (i : Nat) : Nat := 0x2002C + 0x100 * i
def LEG_PHASE__PHASE (i : Nat) : FieldRef := ⟨0x2002C + 0x100 * i, 0, 32⟩
def LEG_PRD (i : Nat) : Nat := 0x20008 + 0x100 * i
def LEG_RESIDUE (i : Nat) : Nat := 0x2007C + 0x100 * i
def LEG_RESIDUE__LOWER (i : Nat) : FieldRef := ⟨0x2007C + 0x100 * i, 16, 16⟩
def LEG_RESIDUE__UPPER (i : Nat) : FieldRef := ⟨0x2007C + 0x100 * i, 0, 16⟩
def LEG_STATUS (i : Nat) : Nat := 0x20064 + 0x100 * i
def LEG_STATUS__DIR (i : Nat) : FieldRef := ⟨0x20064 + 0x100 * i, 0, 1⟩
def LEG_STATUS__LATCH (i : Nat) : FieldRef := ⟨0x20064 + 0x100 * i, 11, 1⟩
def LEG_STATUS__LATE_SLOT (i : Nat) : FieldRef := ⟨0x20064 + 0x100 * i, 5, 1⟩
def LEG_STATUS__LOWER (i : Nat) : FieldRef := ⟨0x20064 + 0x100 * i, 7, 1⟩
def LEG_STATUS__MASK_STEP (i : Nat) : FieldRef := ⟨0x20064 + 0x100 * i, 8, 3⟩
def LEG_STATUS__PENDING (i : Nat) : FieldRef := ⟨0x20064 + 0x100 * i, 4, 1⟩
def LEG_STATUS__RUNNING (i : Nat) : FieldRef := ⟨0x20064 + 0x100 * i, 1, 1⟩
def LEG_STATUS__STAGED (i : Nat) : FieldRef := ⟨0x20064 + 0x100 * i, 3, 1⟩
def LEG_STATUS__UPPER (i : Nat) : FieldRef := ⟨0x20064 + 0x100 * i, 6, 1⟩
def LEG_SYNC (i : Nat) : Nat := 0x20028 + 0x100 * i
def LEG_SYNC__MASTER (i : Nat) : FieldRef := ⟨0x20028 + 0x100 * i, 0, 5⟩
def LEG_SYNC__MODE (i : Nat) : FieldRef := ⟨0x20028 + 0x100 * i, 8, 2⟩
def LEG_SYNC__PH_DIR (i : Nat) : FieldRef := ⟨0x20028 + 0x100 * i, 12, 1⟩
def LEG_TRIG (i : Nat) : Nat := 0x20030 + 0x100 * i
def LEG_TRIG__TRG0_DIR (i : Nat) : FieldRef := ⟨0x20030 + 0x100 * i, 4, 2⟩
def LEG_TRIG__TRG0_DIV (i : Nat) : FieldRef := ⟨0x20030 + 0x100 * i, 8, 4⟩
def LEG_TRIG__TRG0_SRC (i : Nat) : FieldRef := ⟨0x20030 + 0x100 * i, 0, 3⟩
def PI_ANGLE (i : Nat) : Nat := 0x40044 + 0x100 * i
def PI_ANGLE__ANGLE (i : Nat) : FieldRef := ⟨0x40044 + 0x100 * i, 0, 16⟩
def PI_CFG (i : Nat) : Nat := 0x40000 + 0x100 * i
def PI_CFG__DIR_INV (i : Nat) : FieldRef := ⟨0x40000 + 0x100 * i, 4, 1⟩
def PI_CFG__FDIV (i : Nat) : FieldRef := ⟨0x40000 + 0x100 * i, 16, 3⟩
def PI_CFG__FILT_N (i : Nat) : FieldRef := ⟨0x40000 + 0x100 * i, 8, 8⟩
def PI_CFG__LIMIT_MODE (i : Nat) : FieldRef := ⟨0x40000 + 0x100 * i, 3, 1⟩
def PI_CFG__MODE (i : Nat) : FieldRef := ⟨0x40000 + 0x100 * i, 0, 3⟩
def PI_CFG__SPD_AVG (i : Nat) : FieldRef := ⟨0x40000 + 0x100 * i, 20, 3⟩
def PI_CFG__Z_CORR (i : Nat) : FieldRef := ⟨0x40000 + 0x100 * i, 26, 1⟩
def PI_CFG__Z_EN (i : Nat) : FieldRef := ⟨0x40000 + 0x100 * i, 24, 1⟩
def PI_CFG__Z_GATE (i : Nat) : FieldRef := ⟨0x40000 + 0x100 * i, 25, 1⟩
def PI_CNT (i : Nat) : Nat := 0x40040 + 0x100 * i
def PI_CNT__COUNT (i : Nat) : FieldRef := ⟨0x40040 + 0x100 * i, 0, 32⟩
def PI_COUNTS__ILLEGAL (i : Nat) : FieldRef := ⟨0x40050 + 0x100 * i, 16, 8⟩
def PI_COUNTS__INDEX_ERR (i : Nat) : FieldRef := ⟨0x40050 + 0x100 * i, 24, 8⟩
def PI_COUNTS__REJECTS (i : Nat) : FieldRef := ⟨0x40050 + 0x100 * i, 0, 16⟩
def PI_CPR (i : Nat) : Nat := 0x40004 + 0x100 * i
def PI_RATE (i : Nat) : Nat := 0x4001C + 0x100 * i
def PI_SPD_CFG (i : Nat) : Nat := 0x40018 + 0x100 * i
def PI_CPR__CPR (i : Nat) : FieldRef := ⟨0x40004 + 0x100 * i, 0, 32⟩
def PI_EVENT__EDGE_RATE (i : Nat) : FieldRef := ⟨0x40058 + 0x100 * i, 0, 1⟩
def PI_EVENT__EVT (i : Nat) : FieldRef := ⟨0x40058 + 0x100 * i, 3, 4⟩
def PI_LIM_HI (i : Nat) : Nat := 0x4000C + 0x100 * i
def PI_LIM_HI__LIM_HI (i : Nat) : FieldRef := ⟨0x4000C + 0x100 * i, 0, 32⟩
def PI_LIM_LO (i : Nat) : Nat := 0x40008 + 0x100 * i
def PI_LIM_LO__LIM_LO (i : Nat) : FieldRef := ⟨0x40008 + 0x100 * i, 0, 32⟩
def PI_RATE__MIN_INT (i : Nat) : FieldRef := ⟨0x4001C + 0x100 * i, 0, 16⟩
def PI_RATE__PSHIFT (i : Nat) : FieldRef := ⟨0x4001C + 0x100 * i, 24, 5⟩
def PI_RATE__REJ_MAX (i : Nat) : FieldRef := ⟨0x4001C + 0x100 * i, 16, 8⟩
def PI_RES (i : Nat) : Nat := 0x40028 + 0x100 * i
def PI_RES_AMP__AMP_HI (i : Nat) : FieldRef := ⟨0x40034 + 0x100 * i, 16, 12⟩
def PI_RES_AMP__AMP_LO (i : Nat) : FieldRef := ⟨0x40034 + 0x100 * i, 0, 12⟩
def PI_RES_PH (i : Nat) : Nat := 0x40030 + 0x100 * i
def PI_RES_T (i : Nat) : Nat := 0x4002C + 0x100 * i
def PI_RES__COS_CH (i : Nat) : FieldRef := ⟨0x40028 + 0x100 * i, 8, 5⟩
def PI_RES__SIN_CH (i : Nat) : FieldRef := ⟨0x40028 + 0x100 * i, 0, 5⟩
def PI_SPD_CFG__SPD_FS (i : Nat) : FieldRef := ⟨0x40018 + 0x100 * i, 0, 16⟩
def PI_SPD_CFG__TIMEOUT (i : Nat) : FieldRef := ⟨0x40018 + 0x100 * i, 16, 8⟩
def PI_SPEED (i : Nat) : Nat := 0x40048 + 0x100 * i
def PI_SPEED__SPEED (i : Nat) : FieldRef := ⟨0x40048 + 0x100 * i, 0, 24⟩
def PI_SSI (i : Nat) : Nat := 0x40020 + 0x100 * i
def PI_SSI_T (i : Nat) : Nat := 0x40024 + 0x100 * i
def PI_SSI_T__DLY (i : Nat) : FieldRef := ⟨0x40024 + 0x100 * i, 0, 8⟩
def PI_SSI_T__MONO (i : Nat) : FieldRef := ⟨0x40024 + 0x100 * i, 8, 8⟩
def PI_SSI_T__PERIOD (i : Nat) : FieldRef := ⟨0x40024 + 0x100 * i, 16, 16⟩
def PI_SSI__CLK_DIV (i : Nat) : FieldRef := ⟨0x40020 + 0x100 * i, 20, 8⟩
def PI_SSI__ERR_MODE (i : Nat) : FieldRef := ⟨0x40020 + 0x100 * i, 17, 2⟩
def PI_SSI__GRAY (i : Nat) : FieldRef := ⟨0x40020 + 0x100 * i, 16, 1⟩
def PI_SSI__ST_BITS (i : Nat) : FieldRef := ⟨0x40020 + 0x100 * i, 8, 5⟩
def PI_SSI__TURN_BITS (i : Nat) : FieldRef := ⟨0x40020 + 0x100 * i, 0, 5⟩
def PI_STATUS__ABZ (i : Nat) : FieldRef := ⟨0x4004C + 0x100 * i, 8, 3⟩
def PI_STATUS__AT_LIMIT (i : Nat) : FieldRef := ⟨0x4004C + 0x100 * i, 3, 1⟩
def PI_STATUS__DIR (i : Nat) : FieldRef := ⟨0x4004C + 0x100 * i, 2, 1⟩
def PI_STATUS__HALL (i : Nat) : FieldRef := ⟨0x4004C + 0x100 * i, 5, 3⟩
def PI_STATUS__INDEX_SEEN (i : Nat) : FieldRef := ⟨0x4004C + 0x100 * i, 4, 1⟩
def PI_STATUS__LOS (i : Nat) : FieldRef := ⟨0x4004C + 0x100 * i, 11, 1⟩
def PI_STATUS__POS_VALID (i : Nat) : FieldRef := ⟨0x4004C + 0x100 * i, 0, 1⟩
def PI_STATUS__RATE_CAUSE (i : Nat) : FieldRef := ⟨0x4004C + 0x100 * i, 12, 4⟩
def PI_STATUS__SPD_VALID (i : Nat) : FieldRef := ⟨0x4004C + 0x100 * i, 1, 1⟩
def PI_TIME__TIME (i : Nat) : FieldRef := ⟨0x40054 + 0x100 * i, 0, 32⟩
def PI_Z_POS__Z_POS (i : Nat) : FieldRef := ⟨0x40010 + 0x100 * i, 0, 32⟩
def PI_Z_TOL__Z_TOL (i : Nat) : FieldRef := ⟨0x40014 + 0x100 * i, 0, 16⟩
def PM_CAL_CTRL : Nat := 0x38018
def PM_CAL_F__MEAN : FieldRef := ⟨0x38028, 0, 24⟩
def PM_CAL_STATUS__PHASE : FieldRef := ⟨0x38020, 0, 3⟩
def PM_CAL_STATUS__RESULT : FieldRef := ⟨0x38020, 4, 4⟩
def PM_CAL_TARGET__TARGET : FieldRef := ⟨0x3801C, 0, 32⟩
def PM_CAL_Z__MEAN : FieldRef := ⟨0x38024, 0, 24⟩
def PM_CFG : Nat := 0x38000
def PM_CFG__EN : FieldRef := ⟨0x38000, 31, 1⟩
def PM_CFG__MAINS : FieldRef := ⟨0x38000, 0, 2⟩
def PM_CFG__MAINS_FB : FieldRef := ⟨0x38000, 2, 1⟩
def PM_CFG__TRK_CH : FieldRef := ⟨0x38000, 8, 5⟩
def PM_EVENT__EVT : FieldRef := ⟨0x3802C, 0, 7⟩
def PM_IN_BIND__AXIS (i : Nat) : FieldRef := ⟨0x3901C + 0x20 * i, 0, 3⟩
def PM_IN_BIND__BOUND (i : Nat) : FieldRef := ⟨0x3901C + 0x20 * i, 3, 1⟩
def PM_IN_CAL_GAIN__GAIN (i : Nat) : FieldRef := ⟨0x39008 + 0x20 * i, 0, 24⟩
def PM_IN_CAL_OFS__OFFSET (i : Nat) : FieldRef := ⟨0x39004 + 0x20 * i, 0, 24⟩
def PM_IN_CFG (i : Nat) : Nat := 0x39000 + 0x20 * i
def PM_IN_CFG__AVG_LOG2 (i : Nat) : FieldRef := ⟨0x39000 + 0x20 * i, 8, 4⟩
def PM_IN_CFG__EN (i : Nat) : FieldRef := ⟨0x39000 + 0x20 * i, 0, 1⟩
def PM_IN_CFG__OW_EVERY (i : Nat) : FieldRef := ⟨0x39000 + 0x20 * i, 16, 8⟩
def PM_IN_CFG__OW_MODE (i : Nat) : FieldRef := ⟨0x39000 + 0x20 * i, 2, 2⟩
def PM_IN_CFG__SHIFT (i : Nat) : FieldRef := ⟨0x39000 + 0x20 * i, 12, 4⟩
def PM_IN_CFG__WATCH (i : Nat) : FieldRef := ⟨0x39000 + 0x20 * i, 1, 1⟩
def PM_IN_HI__HI (i : Nat) : FieldRef := ⟨0x39010 + 0x20 * i, 0, 32⟩
def PM_IN_LAST (i : Nat) : Nat := 0x39014 + 0x20 * i
def PM_IN_LO__LO (i : Nat) : FieldRef := ⟨0x3900C + 0x20 * i, 0, 32⟩
def PM_IN_STATUS__ABOVE_HI (i : Nat) : FieldRef := ⟨0x39018 + 0x20 * i, 17, 1⟩
def PM_IN_STATUS__BELOW_LO (i : Nat) : FieldRef := ⟨0x39018 + 0x20 * i, 18, 1⟩
def PM_IN_STATUS__DROPPED (i : Nat) : FieldRef := ⟨0x39018 + 0x20 * i, 20, 12⟩
def PM_IN_STATUS__OPEN (i : Nat) : FieldRef := ⟨0x39018 + 0x20 * i, 16, 1⟩
def PM_IN_STATUS__SEQ (i : Nat) : FieldRef := ⟨0x39018 + 0x20 * i, 0, 16⟩
def PM_PERIOD : Nat := 0x38008
def PM_PERIOD__WINDOW : FieldRef := ⟨0x38008, 0, 32⟩
def PM_QCFG__QHWM : FieldRef := ⟨0x3800C, 0, 10⟩
def PM_QPOP (i : Nat) : Nat := 0x38030 + 4 * i
def PM_SEQ (i : Nat) : Nat := 0x38040 + 4 * i
def PM_SEQ_LEN : Nat := 0x38014
def PM_SEQ_LEN__LEN : FieldRef := ⟨0x38014, 0, 7⟩
def PM_SEQ__INPUT (i : Nat) (k : Nat) : FieldRef := ⟨0x38040 + 4 * i, 0 + 8 * k, 6⟩
def PM_STATUS : Nat := 0x38004
def PM_STATUS__CAL_BUSY : FieldRef := ⟨0x38004, 6, 1⟩
def PM_STATUS__MAINS_VALID : FieldRef := ⟨0x38004, 4, 1⟩
def PM_STATUS__PX0_STATE : FieldRef := ⟨0x38004, 0, 2⟩
def PM_STATUS__PX1_STATE : FieldRef := ⟨0x38004, 2, 2⟩
def PM_STATUS__QCOUNT : FieldRef := ⟨0x38004, 8, 10⟩
def PM_STATUS__READ_BUSY : FieldRef := ⟨0x38004, 5, 1⟩
def PM_STATUS__URG_PEND : FieldRef := ⟨0x38004, 20, 4⟩
def PM_URGENT : Nat := 0x38010
def PWR_BOOT_STATUS : Nat := 0x2038
def PWR_BOOT_STATUS__BOOT_PAIR : FieldRef := ⟨0x2038, 16, 4⟩
def PWR_BOOT_STATUS__FAIL_CODE : FieldRef := ⟨0x2038, 8, 8⟩
def PWR_BOOT_STATUS__PHASE : FieldRef := ⟨0x2038, 0, 4⟩
def PWR_BOOT_STATUS__SLOT : FieldRef := ⟨0x2038, 5, 1⟩
def PWR_BOOT_STATUS__SOURCE : FieldRef := ⟨0x2038, 4, 1⟩
def PWR_CTRL : Nat := 0x2014
def PWR_CTRL__TARGET : FieldRef := ⟨0x2014, 0, 2⟩
def PWR_DIN_WAKE__DIN_MASK : FieldRef := ⟨0x2024, 0, 24⟩
def PWR_RESET : Nat := 0x2028
def PWR_RESET_CAUSE : Nat := 0x202C
def PWR_RESET_CAUSE__POR_PIN : FieldRef := ⟨0x202C, 1, 1⟩
def PWR_RESET_CAUSE__SUPPLY : FieldRef := ⟨0x202C, 0, 1⟩
def PWR_STATE : Nat := 0x2010
def PWR_STATE__DESCENDING : FieldRef := ⟨0x2010, 8, 1⟩
def PWR_STATE__LAST_REFUSE : FieldRef := ⟨0x2010, 4, 4⟩
def PWR_STATE__STATE : FieldRef := ⟨0x2010, 0, 2⟩
def PWR_TIME_HI : Nat := 0x2034
def PWR_TIME_LO : Nat := 0x2030
def PWR_WAKE_CAUSE : Nat := 0x201C
def PWR_WAKE_CAUSE__SRC : FieldRef := ⟨0x201C, 0, 8⟩
def PWR_WAKE_CAUSE__TRIP : FieldRef := ⟨0x201C, 15, 1⟩
def PWR_WAKE_EN__SRC_EN : FieldRef := ⟨0x2018, 0, 8⟩
def PWR_WAKE_TIMER : Nat := 0x2020
def RED_ARRAYS__COEF_FREE : FieldRef := ⟨0x50020, 16, 4⟩
def RED_ARRAYS__ESC_FREE : FieldRef := ⟨0x50020, 8, 5⟩
def RED_ARRAYS__FUSE_FREE : FieldRef := ⟨0x50020, 24, 6⟩
def RED_ARRAYS__SRAM_FREE : FieldRef := ⟨0x50020, 0, 7⟩
def RED_AXSLOT : Nat := 0x50010
def RED_AXSLOT__SLOT (k : Nat) : FieldRef := ⟨0x50010, 0 + 2 * k, 2⟩
def RED_CE_STAT__LANES (i : Nat) : FieldRef := ⟨0x50100 + 4 * i, 20, 4⟩
def RED_CE_STAT__LANE_OK (i : Nat) : FieldRef := ⟨0x50100 + 4 * i, 4, 9⟩
def RED_CE_STAT__SPARE_FOR (i : Nat) : FieldRef := ⟨0x50100 + 4 * i, 16, 4⟩
def RED_CE_STAT__STATE (i : Nat) : FieldRef := ⟨0x50100 + 4 * i, 0, 2⟩
def RED_CFG : Nat := 0x50008
def RED_CFG__DSAFE_RST : FieldRef := ⟨0x50008, 12, 1⟩
def RED_CFG__ESC_WINDOW : FieldRef := ⟨0x50008, 16, 16⟩
def RED_LIMITS__REJOIN_SAMPLES : FieldRef := ⟨0x5000C, 0, 16⟩
def RED_LIMITS__CE_LIMIT : FieldRef := ⟨0x5000C, 24, 8⟩
def BIST_STATUS : Nat := 0x58004
def RED_CP_COUNTS__DISPLACED (i : Nat) : FieldRef := ⟨0x50048 + 0x10 * i, 24, 8⟩
def RED_CP_COUNTS__MISMATCH (i : Nat) : FieldRef := ⟨0x50048 + 0x10 * i, 0, 16⟩
def RED_CP_COUNTS__RESTART (i : Nat) : FieldRef := ⟨0x50048 + 0x10 * i, 16, 8⟩
def RED_CP_CTRL (i : Nat) : Nat := 0x50044 + 0x10 * i
def RED_CP_STAT__D_WAYS (i : Nat) : FieldRef := ⟨0x50040 + 0x10 * i, 12, 4⟩
def RED_CP_STAT__HAS_SLOT (i : Nat) : FieldRef := ⟨0x50040 + 0x10 * i, 6, 1⟩
def RED_CP_STAT__I_WAYS (i : Nat) : FieldRef := ⟨0x50040 + 0x10 * i, 8, 4⟩
def RED_CP_STAT__SLOT (i : Nat) : FieldRef := ⟨0x50040 + 0x10 * i, 4, 2⟩
def RED_CP_STAT__STATE (i : Nat) : FieldRef := ⟨0x50040 + 0x10 * i, 0, 3⟩
def RED_CP_STAT__YIELD_REQ (i : Nat) : FieldRef := ⟨0x50040 + 0x10 * i, 7, 1⟩
def RED_EVENT__EVT : FieldRef := ⟨0x50014, 0, 13⟩
def RED_FL_HEAD : Nat := 0x50024
def RED_FL_HEAD__NEXT : FieldRef := ⟨0x50024, 0, 8⟩
def RED_FL_HEAD__OPEN : FieldRef := ⟨0x50024, 8, 8⟩
def RED_FL_HEAD__SEQ : FieldRef := ⟨0x50024, 16, 16⟩
def RED_FL_W (i : Nat) (j : Nat) : Nat := 0x51000 + 0x10 * i + 4 * j
def RED_SLOTS : Nat := 0x50004
def RED_STATUS__DEBUG : FieldRef := ⟨0x50000, 7, 1⟩
def RED_STATUS__DMA_OUT : FieldRef := ⟨0x50000, 8, 1⟩
def RED_STATUS__DSAFE : FieldRef := ⟨0x50000, 6, 1⟩
def RED_STATUS__NO_RESERVE : FieldRef := ⟨0x50000, 5, 1⟩
def RED_STATUS__USABLE : FieldRef := ⟨0x50000, 0, 5⟩
def RED_SVC : Nat := 0x50018
def RED_SVC_STAT__BUSY : FieldRef := ⟨0x5001C, 8, 1⟩
def RED_SVC_STAT__RESULT : FieldRef := ⟨0x5001C, 12, 4⟩
def RED_SVC_STAT__STEPS : FieldRef := ⟨0x5001C, 0, 8⟩
def RED_WS_CKPT__COUNT (i : Nat) : FieldRef := ⟨0x50200 + 0x20 * i, 0, 16⟩
def RED_WS_CKPT__GOOD_A (i : Nat) : FieldRef := ⟨0x50200 + 0x20 * i, 16, 1⟩
def RED_WS_CKPT__GOOD_B (i : Nat) : FieldRef := ⟨0x50200 + 0x20 * i, 17, 1⟩
def RED_WS_CKPT__NEWEST (i : Nat) : FieldRef := ⟨0x50200 + 0x20 * i, 18, 1⟩
def RED_WS_RGN (i : Nat) (j : Nat) : Nat := 0x50204 + 0x20 * i + 4 * j
def RED_WS_RGN__BASE (i : Nat) (j : Nat) : FieldRef := ⟨0x50204 + 0x20 * i + 4 * j, 0, 16⟩
def RED_WS_RGN__LEN (i : Nat) (j : Nat) : FieldRef := ⟨0x50204 + 0x20 * i + 4 * j, 16, 9⟩
def SAF_ARM : Nat := 0x48004
def SAF_AX_CFG__ASC_SIDE (i : Nat) : FieldRef := ⟨0x48410 + 0x10 * i, 2, 1⟩
def SAF_AX_CFG__CT_LATCH (i : Nat) : FieldRef := ⟨0x48410 + 0x10 * i, 5, 1⟩
def SAF_AX_CFG__OV_LATCH (i : Nat) : FieldRef := ⟨0x48410 + 0x10 * i, 6, 1⟩
def SAF_AX_CFG__SS1_DIN (i : Nat) : FieldRef := ⟨0x48410 + 0x10 * i, 10, 5⟩
def SAF_AX_CFG__SS1_EN (i : Nat) : FieldRef := ⟨0x48410 + 0x10 * i, 8, 1⟩
def SAF_AX_CFG__SS1_MODE (i : Nat) : FieldRef := ⟨0x48410 + 0x10 * i, 9, 1⟩
def SAF_AX_CFG__SS1_TIME (i : Nat) : FieldRef := ⟨0x48410 + 0x10 * i, 16, 16⟩
def SAF_AX_CFG__SS_MODE (i : Nat) : FieldRef := ⟨0x48410 + 0x10 * i, 0, 2⟩
def SAF_AX_CFG__STO_EN (i : Nat) : FieldRef := ⟨0x48410 + 0x10 * i, 7, 1⟩
def SAF_AX_CFG__TMON_LATCH (i : Nat) : FieldRef := ⟨0x48410 + 0x10 * i, 4, 1⟩
def SAF_AX_CFG__WIN_LATCH (i : Nat) : FieldRef := ⟨0x48410 + 0x10 * i, 3, 1⟩
def SAF_AX_KM__KT_M (i : Nat) : FieldRef := ⟨0x4841C + 0x10 * i, 16, 16⟩
def SAF_AX_KM__KV_M (i : Nat) : FieldRef := ⟨0x4841C + 0x10 * i, 0, 16⟩
def SAF_AX_STAT (i : Nat) : Nat := 0x48040 + 4 * i
def SAF_AX_STAT__ASC_SIDE (i : Nat) : FieldRef := ⟨0x48040 + 4 * i, 8, 2⟩
def SAF_AX_STAT__CT_FLT (i : Nat) : FieldRef := ⟨0x48040 + 4 * i, 4, 1⟩
def SAF_AX_STAT__DIS_INJ (i : Nat) : FieldRef := ⟨0x48040 + 4 * i, 7, 1⟩
def SAF_AX_STAT__OV2 (i : Nat) : FieldRef := ⟨0x48040 + 4 * i, 5, 1⟩
def SAF_AX_STAT__SS1 (i : Nat) : FieldRef := ⟨0x48040 + 4 * i, 1, 1⟩
def SAF_AX_STAT__SS1_STO (i : Nat) : FieldRef := ⟨0x48040 + 4 * i, 2, 1⟩
def SAF_AX_STAT__STO (i : Nat) : FieldRef := ⟨0x48040 + 4 * i, 0, 1⟩
def SAF_AX_STAT__TLIM_ACT (i : Nat) : FieldRef := ⟨0x48040 + 4 * i, 6, 1⟩
def SAF_AX_STAT__TMON_FLT (i : Nat) : FieldRef := ⟨0x48040 + 4 * i, 3, 1⟩
def SAF_AX_STAT__WIN_IGN (i : Nat) : FieldRef := ⟨0x48040 + 4 * i, 10, 1⟩
def SAF_AX_TAU (i : Nat) : Nat := 0x48060 + 4 * i
def SAF_AX_TAU__TAU (i : Nat) : FieldRef := ⟨0x48060 + 4 * i, 0, 24⟩
def SAF_AX_TAU__VALID (i : Nat) : FieldRef := ⟨0x48060 + 4 * i, 24, 1⟩
def SAF_AX_TMON2__LEAK (i : Nat) : FieldRef := ⟨0x48418 + 0x10 * i, 12, 4⟩
def SAF_AX_TMON2__SPD_MIN (i : Nat) : FieldRef := ⟨0x48418 + 0x10 * i, 16, 8⟩
def SAF_AX_TMON2__SS1_MARGIN (i : Nat) : FieldRef := ⟨0x48418 + 0x10 * i, 24, 8⟩
def SAF_AX_TMON2__TMAX (i : Nat) : FieldRef := ⟨0x48418 + 0x10 * i, 0, 12⟩
def SAF_AX_TMON__EN (i : Nat) : FieldRef := ⟨0x48414 + 0x10 * i, 0, 1⟩
def SAF_AX_TMON__IA (i : Nat) : FieldRef := ⟨0x48414 + 0x10 * i, 1, 5⟩
def SAF_AX_TMON__IB (i : Nat) : FieldRef := ⟨0x48414 + 0x10 * i, 6, 5⟩
def SAF_AX_TMON__TOL (i : Nat) : FieldRef := ⟨0x48414 + 0x10 * i, 12, 12⟩
def SAF_CLEAR : Nat := 0x4800C
def SAF_CMPT_CFG__DIDT_EN : FieldRef := ⟨0x48404, 16, 1⟩
def SAF_CMPT_STAT__CYCLES : FieldRef := ⟨0x48024, 0, 16⟩
def SAF_CMPT_STAT__LAST_CH : FieldRef := ⟨0x48024, 16, 5⟩
def SAF_CMPT_STAT__LAST_COPY : FieldRef := ⟨0x48024, 22, 1⟩
def SAF_CMPT_STAT__LAST_WIN : FieldRef := ⟨0x48024, 21, 1⟩
def SAF_CMPT_STAT__SKIPPED : FieldRef := ⟨0x48024, 24, 8⟩
def SAF_CONFIRM : Nat := 0x48030
def SAF_COUNTS__CMP_FAIL : FieldRef := ⟨0x48020, 24, 8⟩
def SAF_COUNTS__VOTE_FAIL : FieldRef := ⟨0x48020, 16, 8⟩
def SAF_COUNTS__VOTE_FIX : FieldRef := ⟨0x48020, 0, 16⟩
def SAF_CT_CFG__AXMASK (i : Nat) : FieldRef := ⟨0x48510 + 4 * i, 16, 8⟩
def SAF_CT_CFG__EN (i : Nat) : FieldRef := ⟨0x48510 + 4 * i, 0, 1⟩
def SAF_CT_CFG__FB_POL (i : Nat) : FieldRef := ⟨0x48510 + 4 * i, 1, 1⟩
def SAF_CT_CFG__GROUP (i : Nat) : FieldRef := ⟨0x48510 + 4 * i, 12, 2⟩
def SAF_CT_CFG__OPEN_STO (i : Nat) : FieldRef := ⟨0x48510 + 4 * i, 24, 1⟩
def SAF_CT_CFG__ROLE (i : Nat) : FieldRef := ⟨0x48510 + 4 * i, 2, 2⟩
def SAF_CT_CMD : Nat := 0x48014
def SAF_CT_STAT__CMD : FieldRef := ⟨0x48018, 0, 8⟩
def SAF_CT_STAT__FAULT : FieldRef := ⟨0x48018, 16, 8⟩
def SAF_CT_STAT__FB : FieldRef := ⟨0x48018, 8, 8⟩
def SAF_CT_STAT__PRE_BUSY : FieldRef := ⟨0x48018, 24, 4⟩
def SAF_EVENT__EVT : FieldRef := ⟨0x48010, 0, 22⟩
def SAF_LINK_AX__GRID_MASK (i : Nat) : FieldRef := ⟨0x48498 + 0x20 * i, 8, 8⟩
def SAF_LINK_AX__MACH_MASK (i : Nat) : FieldRef := ⟨0x48498 + 0x20 * i, 0, 8⟩
def SAF_LINK_AX__MAIN_CT (i : Nat) : FieldRef := ⟨0x48498 + 0x20 * i, 16, 3⟩
def SAF_LINK_AX__PRE_CT (i : Nat) : FieldRef := ⟨0x48498 + 0x20 * i, 20, 3⟩
def SAF_LINK_AX__PRE_EN (i : Nat) : FieldRef := ⟨0x48498 + 0x20 * i, 23, 1⟩
def SAF_LINK_AX__PRE_V (i : Nat) : FieldRef := ⟨0x48498 + 0x20 * i, 24, 8⟩
def SAF_LINK_CFG__CHOP_EN (i : Nat) : FieldRef := ⟨0x48490 + 0x20 * i, 1, 1⟩
def SAF_LINK_CFG__CHOP_LEG (i : Nat) : FieldRef := ⟨0x48490 + 0x20 * i, 12, 5⟩
def SAF_LINK_CFG__CHOP_N (i : Nat) : FieldRef := ⟨0x48490 + 0x20 * i, 20, 4⟩
def SAF_LINK_CFG__DCPS_GI (i : Nat) : FieldRef := ⟨0x48490 + 0x20 * i, 2, 3⟩
def SAF_LINK_CFG__EN (i : Nat) : FieldRef := ⟨0x48490 + 0x20 * i, 0, 1⟩
def SAF_LINK_CFG__TRAMP (i : Nat) : FieldRef := ⟨0x48490 + 0x20 * i, 24, 8⟩
def SAF_LINK_CFG__VDC_CH (i : Nat) : FieldRef := ⟨0x48490 + 0x20 * i, 5, 5⟩
def SAF_LINK_DIS__DIS_AUTO (i : Nat) : FieldRef := ⟨0x4849C + 0x20 * i, 2, 1⟩
def SAF_LINK_DIS__DIS_AX (i : Nat) : FieldRef := ⟨0x4849C + 0x20 * i, 4, 3⟩
def SAF_LINK_DIS__DIS_DIN (i : Nat) : FieldRef := ⟨0x4849C + 0x20 * i, 8, 5⟩
def SAF_LINK_DIS__DIS_DONE (i : Nat) : FieldRef := ⟨0x4849C + 0x20 * i, 16, 8⟩
def SAF_LINK_DIS__DIS_MODE (i : Nat) : FieldRef := ⟨0x4849C + 0x20 * i, 0, 2⟩
def SAF_LINK_INJ__DIS_PSI (i : Nat) : FieldRef := ⟨0x484A0 + 0x20 * i, 0, 12⟩
def SAF_LINK_INJ__DIS_SPD (i : Nat) : FieldRef := ⟨0x484A0 + 0x20 * i, 16, 12⟩
def SAF_LINK_OV__OV1_HI (i : Nat) : FieldRef := ⟨0x48494 + 0x20 * i, 0, 10⟩
def SAF_LINK_OV__OV2_HI (i : Nat) : FieldRef := ⟨0x48494 + 0x20 * i, 16, 10⟩
def SAF_LINK_OV__OV_FILT (i : Nat) : FieldRef := ⟨0x48494 + 0x20 * i, 10, 3⟩
def SAF_LINK_STAT : Nat := 0x4801C
def SAF_LINK_STAT__GROUP (k : Nat) : FieldRef := ⟨0x4801C, 0 + 8 * k, 8⟩
def SAF_SPB_CRC : Nat := 0x48008
def SAF_STATUS : Nat := 0x48000
def SAF_STATUS__ARMED : FieldRef := ⟨0x48000, 0, 1⟩
def SAF_STATUS__ARM_REFUSE : FieldRef := ⟨0x48000, 8, 4⟩
def SAF_STATUS__CRC_VALID : FieldRef := ⟨0x48000, 2, 1⟩
def SAF_STATUS__SPB_MATCH : FieldRef := ⟨0x48000, 1, 1⟩
def SAF_STATUS__STO_A : FieldRef := ⟨0x48000, 4, 1⟩
def SAF_STATUS__STO_ACT : FieldRef := ⟨0x48000, 6, 1⟩
def SAF_STATUS__STO_B : FieldRef := ⟨0x48000, 5, 1⟩
def SAF_STATUS__STO_DISC : FieldRef := ⟨0x48000, 7, 1⟩
def SAF_TEMP_CFG__CTL_ALARM : FieldRef := ⟨0x48028, 8, 8⟩
def SAF_TEMP_CFG__CTL_WARN : FieldRef := ⟨0x48028, 0, 8⟩
def SAF_TEMP_CFG__GI_ALARM : FieldRef := ⟨0x48028, 24, 8⟩
def SAF_TEMP_CFG__GI_WARN : FieldRef := ⟨0x48028, 16, 8⟩
def SAF_TEMP_STAT__ALARM : FieldRef := ⟨0x4802C, 16, 9⟩
def SAF_TEMP_STAT__WARN : FieldRef := ⟨0x4802C, 0, 9⟩
def SEAM_CFG : Nat := 0x70004
def SEAM_CFG__DOMAIN : FieldRef := ⟨0x70004, 8, 8⟩
def SEAM_CFG__RING : FieldRef := ⟨0x70004, 1, 1⟩
def SEAM_CFG__ROOT : FieldRef := ⟨0x70004, 0, 1⟩
def SEAM_CFG__STEP_EN : FieldRef := ⟨0x70004, 2, 1⟩
def SEAM_EVENT : Nat := 0x7002C
def SEAM_EVENT__EVT : FieldRef := ⟨0x7002C, 0, 8⟩
def SEAM_NODE_INFO (i : Nat) : Nat := 0x74000 + 0x10 * i
def SEAM_NODE_SER_HI (i : Nat) : Nat := 0x74008 + 0x10 * i
def SEAM_NODE_SER_LO (i : Nat) : Nat := 0x74004 + 0x10 * i
def SEAM_PD_CFG__EN : FieldRef := ⟨0x70080, 0, 1⟩
def SEAM_PD_CFG__PERIOD : FieldRef := ⟨0x70080, 8, 16⟩
def SEAM_PD_CFG__WORDS_M1 : FieldRef := ⟨0x70080, 1, 3⟩
def SEAM_PD_RXCFG__EN (i : Nat) : FieldRef := ⟨0x70100 + 4 * i, 10, 1⟩
def SEAM_PD_RXCFG__ORIGIN (i : Nat) : FieldRef := ⟨0x70100 + 4 * i, 0, 10⟩
def SEAM_PD_RXCFG__WAKE (i : Nat) : FieldRef := ⟨0x70100 + 4 * i, 11, 1⟩
def SEAM_PD_RX_STAT (i : Nat) : Nat := 0x70200 + 0x40 * i
def SEAM_PD_RX_STAT__SEQ (i : Nat) : FieldRef := ⟨0x70200 + 0x40 * i, 0, 16⟩
def SEAM_PD_RX_STAT__STALE (i : Nat) : FieldRef := ⟨0x70200 + 0x40 * i, 17, 1⟩
def SEAM_PD_RX_STAT__VALID (i : Nat) : FieldRef := ⟨0x70200 + 0x40 * i, 16, 1⟩
def SEAM_PD_RX_W (i : Nat) (j : Nat) : Nat := 0x70204 + 0x40 * i + 4 * j
def SEAM_PD_SRC__SRC (i : Nat) (k : Nat) : FieldRef := ⟨0x70084 + 4 * i, 0 + 8 * k, 8⟩
def SEAM_PD_TX (i : Nat) : Nat := 0x700A0 + 4 * i
def SEAM_PORT_CFG__ASYM (i : Nat) : FieldRef := ⟨0x70030 + 4 * i, 8, 8⟩
def SEAM_PORT_CFG__EN (i : Nat) : FieldRef := ⟨0x70030 + 4 * i, 0, 1⟩
def SEAM_PORT_CNT__CODE_ERR (i : Nat) : FieldRef := ⟨0x70044 + 0x10 * i, 0, 8⟩
def SEAM_PORT_CNT__DOWN (i : Nat) : FieldRef := ⟨0x70044 + 0x10 * i, 16, 16⟩
def SEAM_PORT_CNT__PEER_DROP (i : Nat) : FieldRef := ⟨0x70044 + 0x10 * i, 8, 8⟩
def SEAM_PORT_STAT__ADMITTED (i : Nat) : FieldRef := ⟨0x70040 + 0x10 * i, 2, 1⟩
def SEAM_PORT_STAT__DELAY (i : Nat) : FieldRef := ⟨0x70040 + 0x10 * i, 8, 8⟩
def SEAM_PORT_STAT__DOMAIN_MISMATCH (i : Nat) : FieldRef := ⟨0x70040 + 0x10 * i, 4, 1⟩
def SEAM_PORT_STAT__LINK (i : Nat) : FieldRef := ⟨0x70040 + 0x10 * i, 0, 2⟩
def SEAM_PORT_STAT__TOO_LONG (i : Nat) : FieldRef := ⟨0x70040 + 0x10 * i, 3, 1⟩
def SEAM_STATUS__ALIGNED : FieldRef := ⟨0x70000, 2, 1⟩
def SEAM_STATUS__HOPS : FieldRef := ⟨0x70000, 12, 6⟩
def SEAM_STATUS__JOINED : FieldRef := ⟨0x70000, 0, 1⟩
def SEAM_STATUS__NODE : FieldRef := ⟨0x70000, 20, 10⟩
def SEAM_STATUS__PARENT : FieldRef := ⟨0x70000, 18, 2⟩
def SEAM_STATUS__REFUSE : FieldRef := ⟨0x70000, 8, 4⟩
def SEAM_STATUS__RING : FieldRef := ⟨0x70000, 3, 1⟩
def SEAM_STATUS__RING_BROKEN : FieldRef := ⟨0x70000, 4, 1⟩
def SEAM_STATUS__ROOT : FieldRef := ⟨0x70000, 1, 1⟩
def SEAM_TIME_OFS__OFFSET : FieldRef := ⟨0x70028, 0, 32⟩
def SEAM_TRIP_BUDGET__BUDGET : FieldRef := ⟨0x70008, 0, 16⟩
def SEAM_TRIP_CMD : Nat := 0x70020
def SEAM_TRIP_RX (i : Nat) : Nat := 0x70010 + 4 * i
def SEAM_TRIP_RX__AXMASK (i : Nat) : FieldRef := ⟨0x70010 + 4 * i, 0, 8⟩
def SEAM_TRIP_RX__LATCH (i : Nat) : FieldRef := ⟨0x70010 + 4 * i, 16, 8⟩
def SEAM_TRIP_RX__ON_LOSS (i : Nat) : FieldRef := ⟨0x70010 + 4 * i, 24, 1⟩
def SEAM_TRIP_RX__SOFT (i : Nat) : FieldRef := ⟨0x70010 + 4 * i, 8, 8⟩
def SEAM_TRIP_STAT__COUNT : FieldRef := ⟨0x70024, 18, 14⟩
def SEAM_TRIP_STAT__GROUPS : FieldRef := ⟨0x70024, 0, 4⟩
def SEAM_TRIP_STAT__ORIGIN : FieldRef := ⟨0x70024, 8, 10⟩
def SEAM_TRIP_STAT__SEQ : FieldRef := ⟨0x70024, 4, 4⟩
def SEAM_TRIP_TX__AXMASK : FieldRef := ⟨0x7000C, 8, 8⟩
def SEAM_TRIP_TX__GROUPS : FieldRef := ⟨0x7000C, 16, 4⟩
def SEAM_TRIP_TX__SRC_DSAFE : FieldRef := ⟨0x7000C, 2, 1⟩
def SEAM_TRIP_TX__SRC_PROT : FieldRef := ⟨0x7000C, 0, 1⟩
def SEAM_TRIP_TX__SRC_SAF : FieldRef := ⟨0x7000C, 1, 1⟩
def TAL_CNT_HI (i : Nat) : Nat := 0x80108 + 0x20 * i
def TAL_CNT_HI__COUNT_HI (i : Nat) : FieldRef := ⟨0x80108 + 0x20 * i, 0, 16⟩
def TAL_CNT_LO (i : Nat) : Nat := 0x80104 + 0x20 * i
def TAL_CNT_LO__COUNT_LO (i : Nat) : FieldRef := ⟨0x80104 + 0x20 * i, 0, 32⟩
def TAL_CTRL : Nat := 0x80000
def TAL_CTRL__RUN : FieldRef := ⟨0x80000, 0, 1⟩
def TAL_EVENT__EVT : FieldRef := ⟨0x80008, 0, 3⟩
def TAL_EVT (i : Nat) : Nat := 0x80100 + 0x20 * i
def TAL_EVT__ADDR_SEL (i : Nat) : FieldRef := ⟨0x80100 + 0x20 * i, 15, 2⟩
def TAL_EVT__EN (i : Nat) : FieldRef := ⟨0x80100 + 0x20 * i, 18, 1⟩
def TAL_EVT__EVENT (i : Nat) : FieldRef := ⟨0x80100 + 0x20 * i, 0, 8⟩
def TAL_EVT__MASTER (i : Nat) : FieldRef := ⟨0x80100 + 0x20 * i, 8, 5⟩
def TAL_EVT__PRIV (i : Nat) : FieldRef := ⟨0x80100 + 0x20 * i, 13, 2⟩
def TAL_EVT__OVF_STOP (i : Nat) : FieldRef := ⟨0x80100 + 0x20 * i, 17, 1⟩
def TAL_RANGEA_HI : Nat := 0x80014
def TAL_RANGEA_LO : Nat := 0x80010
def TAL_RANGEB_HI : Nat := 0x8001C
def TAL_RANGEB_LO : Nat := 0x80018
def TAL_SAMP_CFG : Nat := 0x80200
def TAL_SAMP_CFG__FULL_MODE : FieldRef := ⟨0x80200, 9, 1⟩
def TAL_SAMP_CFG__LEVEL : FieldRef := ⟨0x80200, 24, 8⟩
def TAL_SAMP_CFG__PC_EN : FieldRef := ⟨0x80200, 8, 1⟩
def TAL_SAMP_CFG__PRIV : FieldRef := ⟨0x80200, 6, 2⟩
def TAL_SAMP_CFG__SRC_EN : FieldRef := ⟨0x80200, 0, 6⟩
def TAL_SAMP_PC_HI : Nat := 0x80208
def TAL_SAMP_PC_LO : Nat := 0x80204
def TAL_SAMP_RD : Nat := 0x80214
def TAL_SAMP_RD__RD : FieldRef := ⟨0x80214, 0, 9⟩
def TAL_SAMP_STAT__LOST : FieldRef := ⟨0x80218, 16, 8⟩
def TAL_SAMP_STAT__OVERWRITTEN : FieldRef := ⟨0x80218, 24, 8⟩
def TAL_SAMP_STAT__SKIPPED : FieldRef := ⟨0x80218, 0, 16⟩
def TAL_SAMP_W (i : Nat) (j : Nat) : Nat := 0x88000 + 0x20 * i + 4 * j
def TAL_SAMP_WR__FULL : FieldRef := ⟨0x80210, 9, 1⟩
def TAL_SAMP_WR__WR : FieldRef := ⟨0x80210, 0, 9⟩
def TAL_SNAP_HI (i : Nat) : Nat := 0x80110 + 0x20 * i
def TAL_SNAP_LO (i : Nat) : Nat := 0x8010C + 0x20 * i
def TAL_STATUS__FROZEN : FieldRef := ⟨0x80004, 8, 1⟩
def TAL_STATUS__OVF : FieldRef := ⟨0x80004, 0, 8⟩
def TAL_TAG_CFG : Nat := 0x8020C
def TAL_TAG_CFG__AXIS : FieldRef := ⟨0x8020C, 9, 3⟩
def TAL_TAG_CFG__AXIS_EN : FieldRef := ⟨0x8020C, 12, 1⟩
def TAL_TAG_CFG__CORR : FieldRef := ⟨0x8020C, 8, 1⟩
def TAL_TAG_CFG__EN : FieldRef := ⟨0x8020C, 0, 2⟩
def TM_ANGLE (i : Nat) : Nat := 0x1049C + 0x1000 * i
def TM_ANGLE__ROTOR (i : Nat) : FieldRef := ⟨0x1049C + 0x1000 * i, 16, 16⟩
def TM_ANGLE__STATOR (i : Nat) : FieldRef := ⟨0x1049C + 0x1000 * i, 0, 16⟩
def TM_CATCH_CFG__ANG_TOL (i : Nat) : FieldRef := ⟨0x1044C + 0x1000 * i, 16, 12⟩
def TM_CATCH_CFG__TRIG_DIN (i : Nat) : FieldRef := ⟨0x1044C + 0x1000 * i, 8, 5⟩
def TM_CATCH_CFG__TRIG_EDGE (i : Nat) : FieldRef := ⟨0x1044C + 0x1000 * i, 14, 1⟩
def TM_CATCH_CFG__TRIG_EN (i : Nat) : FieldRef := ⟨0x1044C + 0x1000 * i, 13, 1⟩
def TM_CATCH_CFG__VERIFY (i : Nat) : FieldRef := ⟨0x1044C + 0x1000 * i, 0, 8⟩
def TM_CATCH_TOL__FLUX_TOL (i : Nat) : FieldRef := ⟨0x10450 + 0x1000 * i, 0, 12⟩
def TM_CFG__I3 (i : Nat) : FieldRef := ⟨0x10400 + 0x1000 * i, 1, 1⟩
def TM_CFG__SPD_AVG (i : Nat) : FieldRef := ⟨0x10400 + 0x1000 * i, 2, 2⟩
def TM_CFG__VMODE (i : Nat) : FieldRef := ⟨0x10400 + 0x1000 * i, 0, 1⟩
def TM_COAST_RAMP__TRAMP (i : Nat) : FieldRef := ⟨0x1045C + 0x1000 * i, 0, 24⟩
def TM_COMMUT (i : Nat) : Nat := 0x104A4 + 0x1000 * i
def TM_COUNTS__LIMITED_SAMPLES (i : Nat) : FieldRef := ⟨0x104A0 + 0x1000 * i, 16, 16⟩
def TM_COUNTS__ZC_GLITCH (i : Nat) : FieldRef := ⟨0x104A0 + 0x1000 * i, 0, 16⟩
def TM_DRIFT__EN (i : Nat) : FieldRef := ⟨0x10438 + 0x1000 * i, 16, 1⟩
def TM_DRIFT__GC (i : Nat) : FieldRef := ⟨0x10438 + 0x1000 * i, 0, 5⟩
def TM_DRIFT__GO (i : Nat) : FieldRef := ⟨0x10438 + 0x1000 * i, 8, 5⟩
def TM_EVENT__EVT (i : Nat) : FieldRef := ⟨0x104A8 + 0x1000 * i, 0, 10⟩
def TM_FLUXMAG__VALUE (i : Nat) : FieldRef := ⟨0x10498 + 0x1000 * i, 0, 24⟩
def TM_FLUX__FLUX_MIN (i : Nat) : FieldRef := ⟨0x10430 + 0x1000 * i, 16, 12⟩
def TM_FLUX__FLUX_VALID (i : Nat) : FieldRef := ⟨0x10430 + 0x1000 * i, 0, 12⟩
def TM_HYST__HF (i : Nat) : FieldRef := ⟨0x1042C + 0x1000 * i, 16, 12⟩
def TM_HYST__HT (i : Nat) : FieldRef := ⟨0x1042C + 0x1000 * i, 0, 12⟩
def TM_ISRC (i : Nat) : Nat := 0x10404 + 0x1000 * i
def TM_ISRC__IA (i : Nat) : FieldRef := ⟨0x10404 + 0x1000 * i, 0, 5⟩
def TM_ISRC__IB (i : Nat) : FieldRef := ⟨0x10404 + 0x1000 * i, 8, 5⟩
def TM_ISRC__IC (i : Nat) : FieldRef := ⟨0x10404 + 0x1000 * i, 16, 5⟩
def TM_ISRC__VDC (i : Nat) : FieldRef := ⟨0x10404 + 0x1000 * i, 24, 5⟩
def TM_KE__KE (i : Nat) : FieldRef := ⟨0x10424 + 0x1000 * i, 0, 24⟩
def TM_KL__KL (i : Nat) : FieldRef := ⟨0x10418 + 0x1000 * i, 0, 24⟩
def TM_KR__KR (i : Nat) : FieldRef := ⟨0x10410 + 0x1000 * i, 0, 24⟩
def TM_KT__KT (i : Nat) : FieldRef := ⟨0x10414 + 0x1000 * i, 0, 24⟩
def TM_KV__KV (i : Nat) : FieldRef := ⟨0x1040C + 0x1000 * i, 0, 24⟩
def TM_LOSS__LIMIT (i : Nat) : FieldRef := ⟨0x10454 + 0x1000 * i, 8, 12⟩
def TM_LOSS__RECATCH (i : Nat) : FieldRef := ⟨0x10454 + 0x1000 * i, 20, 1⟩
def TM_LOSS__RECOVER (i : Nat) : FieldRef := ⟨0x10454 + 0x1000 * i, 24, 8⟩
def TM_LOSS__WIN (i : Nat) : FieldRef := ⟨0x10454 + 0x1000 * i, 0, 8⟩
def TM_MOTOR__POLE_PAIRS (i : Nat) : FieldRef := ⟨0x10420 + 0x1000 * i, 0, 5⟩
def TM_MOTOR__SPD_FS (i : Nat) : FieldRef := ⟨0x10420 + 0x1000 * i, 16, 16⟩
def TM_PI_OFFSET__OFFSET (i : Nat) : FieldRef := ⟨0x10440 + 0x1000 * i, 0, 16⟩
def TM_POS_CFG__HANDOVER (i : Nat) : FieldRef := ⟨0x1043C + 0x1000 * i, 16, 16⟩
def TM_POS_CFG__SECT_MODE (i : Nat) : FieldRef := ⟨0x1043C + 0x1000 * i, 0, 2⟩
def TM_PSI_PM__PSI_PM (i : Nat) : FieldRef := ⟨0x1041C + 0x1000 * i, 0, 24⟩
def TM_SPEED__VALUE (i : Nat) : FieldRef := ⟨0x10490 + 0x1000 * i, 0, 24⟩
def TM_STATUS (i : Nat) : Nat := 0x10480 + 0x1000 * i
def TM_STATUS__CATCH_PHASE (i : Nat) : FieldRef := ⟨0x10480 + 0x1000 * i, 16, 3⟩
def TM_STATUS__CATCH_RESULT (i : Nat) : FieldRef := ⟨0x10480 + 0x1000 * i, 20, 4⟩
def TM_STATUS__FLUX_SAT (i : Nat) : FieldRef := ⟨0x10480 + 0x1000 * i, 5, 1⟩
def TM_STATUS__FLUX_VALID (i : Nat) : FieldRef := ⟨0x10480 + 0x1000 * i, 3, 1⟩
def TM_STATUS__LOSS_ACTION (i : Nat) : FieldRef := ⟨0x10480 + 0x1000 * i, 24, 4⟩
def TM_STATUS__POS_SRC (i : Nat) : FieldRef := ⟨0x10480 + 0x1000 * i, 6, 2⟩
def TM_STATUS__RECOVERING (i : Nat) : FieldRef := ⟨0x10480 + 0x1000 * i, 11, 1⟩
def TM_STATUS__SECTOR (i : Nat) : FieldRef := ⟨0x10480 + 0x1000 * i, 0, 3⟩
def TM_STATUS__SPD_VALID (i : Nat) : FieldRef := ⟨0x10480 + 0x1000 * i, 4, 1⟩
def TM_STATUS__SW_LIMITED (i : Nat) : FieldRef := ⟨0x10480 + 0x1000 * i, 12, 1⟩
def TM_STATUS__ZC_LOCK (i : Nat) : FieldRef := ⟨0x10480 + 0x1000 * i, 8, 1⟩
def TM_STATUS__ZC_REV (i : Nat) : FieldRef := ⟨0x10480 + 0x1000 * i, 10, 1⟩
def TM_STATUS__ZC_SLOW (i : Nat) : FieldRef := ⟨0x10480 + 0x1000 * i, 9, 1⟩
def TM_SWLIM__BURST (i : Nat) : FieldRef := ⟨0x10434 + 0x1000 * i, 8, 8⟩
def TM_SWLIM__FSW_MAX (i : Nat) : FieldRef := ⟨0x10434 + 0x1000 * i, 16, 16⟩
def TM_SWLIM__MIN_DWELL (i : Nat) : FieldRef := ⟨0x10434 + 0x1000 * i, 0, 8⟩
def TM_TABLE1 (i : Nat) : Nat := 0x10460 + 0x1000 * i
def TM_TORQUE__VALUE (i : Nat) : FieldRef := ⟨0x10494 + 0x1000 * i, 0, 24⟩
def TM_VLIM__VLIM (i : Nat) : FieldRef := ⟨0x10428 + 0x1000 * i, 0, 24⟩
def TM_VSRC (i : Nat) : Nat := 0x10408 + 0x1000 * i
def TM_VSRC__EN (i : Nat) : FieldRef := ⟨0x10408 + 0x1000 * i, 31, 1⟩
def TM_VSRC__VA (i : Nat) : FieldRef := ⟨0x10408 + 0x1000 * i, 0, 5⟩
def TM_VSRC__VB (i : Nat) : FieldRef := ⟨0x10408 + 0x1000 * i, 8, 5⟩
def TM_VSRC__VC (i : Nat) : FieldRef := ⟨0x10408 + 0x1000 * i, 16, 5⟩
def TM_WATCH__HI (i : Nat) : FieldRef := ⟨0x10448 + 0x1000 * i, 16, 16⟩
def TM_WATCH__LO (i : Nat) : FieldRef := ⟨0x10448 + 0x1000 * i, 0, 16⟩
def TM_ZC_ANGLE (i : Nat) : Nat := 0x10488 + 0x1000 * i
def TM_ZC_ANGLE__ANGLE (i : Nat) : FieldRef := ⟨0x10488 + 0x1000 * i, 0, 16⟩
def TM_ZC_ANGLE__INDEX (i : Nat) : FieldRef := ⟨0x10488 + 0x1000 * i, 16, 3⟩
def TM_ZC_CFG__ISPD_EN (i : Nat) : FieldRef := ⟨0x10444 + 0x1000 * i, 28, 1⟩
def TM_ZC_SPEED (i : Nat) : Nat := 0x10484 + 0x1000 * i
def TM_ZC_SPEED__SPEED (i : Nat) : FieldRef := ⟨0x10484 + 0x1000 * i, 0, 24⟩
def TM_ZC_TIME (i : Nat) : Nat := 0x1048C + 0x1000 * i
def VLT_ATT_BUF (i : Nat) : Nat := 0x64000 + 4 * i
def VLT_ATT_CTRL : Nat := 0x60120
def VLT_ATT_IDX__NEXT : FieldRef := ⟨0x60128, 0, 30⟩
def VLT_ATT_NONCE (i : Nat) : Nat := 0x60100 + 4 * i
def VLT_ATT_STAT__BUSY : FieldRef := ⟨0x60124, 1, 1⟩
def VLT_ATT_STAT__DONE : FieldRef := ⟨0x60124, 2, 1⟩
def VLT_ATT_STAT__EXHAUSTED : FieldRef := ⟨0x60124, 3, 1⟩
def VLT_ATT_STAT__READY : FieldRef := ⟨0x60124, 0, 1⟩
def VLT_BOOT_DIAG : Nat := 0x60038
def VLT_BOOT_DIAG__CODE_A : FieldRef := ⟨0x60038, 0, 8⟩
def VLT_BOOT_DIAG__CODE_B : FieldRef := ⟨0x60038, 8, 8⟩
def VLT_BOOT_DIAG__CODE_STG : FieldRef := ⟨0x60038, 16, 8⟩
def VLT_CFG__WEAR_WARN : FieldRef := ⟨0x60004, 0, 24⟩
def VLT_DBG_CHAL (i : Nat) : Nat := 0x60180 + 4 * i
def VLT_DBG_STAT : Nat := 0x601A0
def VLT_DBG_STAT__SCOPE : FieldRef := ⟨0x601A0, 8, 8⟩
def VLT_DBG_STAT__UNLOCKED : FieldRef := ⟨0x601A0, 0, 1⟩
def VLT_EVENT__EVT : FieldRef := ⟨0x60008, 0, 8⟩
def VLT_IDPUB (i : Nat) : Nat := 0x60140 + 4 * i
def VLT_IMG_INFO : Nat := 0x60060
def VLT_IMG_KEY__SLOT : FieldRef := ⟨0x60064, 0, 2⟩
def VLT_IMG_KEY__VALID : FieldRef := ⟨0x60064, 2, 1⟩
def VLT_KEY_REVOKE : Nat := 0x60014
def VLT_KEY_STAT : Nat := 0x60010
def VLT_KEY_STAT__DEBUG : FieldRef := ⟨0x60010, 12, 4⟩
def VLT_KEY_STAT__FW : FieldRef := ⟨0x60010, 8, 4⟩
def VLT_KEY_STAT__PRESENT : FieldRef := ⟨0x60010, 0, 4⟩
def VLT_KEY_STAT__REVOKED : FieldRef := ⟨0x60010, 4, 4⟩
def VLT_MEAS (i : Nat) : Nat := 0x60040 + 4 * i
def VLT_MIN_SVN : Nat := 0x6000C
def VLT_MIN_SVN__MIN_SVN : FieldRef := ⟨0x6000C, 0, 32⟩
def VLT_STATUS : Nat := 0x60000
def VLT_STATUS__FAIL_WORD : FieldRef := ⟨0x60000, 16, 11⟩
def VLT_STATUS__LAST_FAIL : FieldRef := ⟨0x60000, 5, 1⟩
def VLT_STATUS__LOADED : FieldRef := ⟨0x60000, 4, 1⟩
def VLT_STATUS__QUEUE : FieldRef := ⟨0x60000, 0, 4⟩
def VLT_STG_CTRL : Nat := 0x60030
def VLT_STG_LEN : Nat := 0x6002C
def VLT_STG_LEN__LEN : FieldRef := ⟨0x6002C, 12, 9⟩
def VLT_STG_OFS__OFS : FieldRef := ⟨0x60028, 12, 8⟩
def VLT_STG_SRC_HI__SRC_HI : FieldRef := ⟨0x60024, 0, 32⟩
def VLT_STG_SRC_LO__SRC_LO : FieldRef := ⟨0x60020, 12, 20⟩
def VLT_STG_STAT__ACTIVATE : FieldRef := ⟨0x60034, 2, 1⟩
def VLT_STG_STAT__BUSY : FieldRef := ⟨0x60034, 0, 1⟩
def VLT_STG_STAT__COPY_ERR : FieldRef := ⟨0x60034, 3, 1⟩
def VLT_STG_STAT__PAGES : FieldRef := ⟨0x60034, 16, 9⟩
def VLT_STG_STAT__RESULT : FieldRef := ⟨0x60034, 8, 8⟩
def VLT_STG_STAT__VERIFIED : FieldRef := ⟨0x60034, 1, 1⟩
def VLT_WEAR (i : Nat) : Nat := 0x6A000 + 4 * i
def VLT_WORD (i : Nat) : Nat := 0x68000 + 4 * i

end Sys2Proof.Machine
end

