-- ==== Sys2Proof/Config.lean ====
section
/-! DEFINITION. The values the spec leaves open, as constants with no body: nothing can be proved of them, so a
claim holds whatever they are (log 2). -/

namespace Sys2Proof

/-- The identifier that the PCI-SIG has assigned to the maker (03 R76). -/
opaque Config.vendorId : Nat

/-- A number the spec leaves open (a U reset value, a true random number); the argument is the model's own counter. -/
opaque Config.freeNat : Nat → Nat

/-- What the factory put into this device's fuses: the oscillator trim, serial number, key slots and identity root secret. -/
opaque Config.fuse : Nat → Nat

/-- The identifier and the seed of an identity tree, derived from the root secret (14 R436; the spec names no such function): tree 0
is the top one, tree k + 1 the bottom one under its leaf k. -/
opaque Config.treeKey : BitVec 256 → Nat → BitVec 384

/-- The randomizer of the one-time signature that a leaf of an identity tree makes, from the root secret (14 R436). -/
opaque Config.leafRandom : BitVec 256 → Nat → Nat → BitVec 256

/-- The value of a window's signature at its start, and what it becomes as it takes a request of the copy (13 R388; the spec names no
such function). -/
opaque Config.sigSeed : BitVec 64
opaque Config.sigFeed : BitVec 64 → List Nat → BitVec 64

/-- Whether an inexact product of the fast estimator is rounded up (the spec states no rounding there). -/
opaque Config.roundUp : Nat → Bool

end Sys2Proof
end

