-- ==== Sys2Proof/Machine/State.lean ====
section
/-! DEFINITION. The state of the block as plain data: the register window, the memories, and for every unit the
state that no register shows. Fields that hold one structure per unit are sparse lists keyed by the unit's number. -/

namespace Sys2Proof.Machine

/-- A value in block-floating form: mantissa `m` at exponent `e` is m * 2^(e - 23) (06 R176). -/
structure Flt where
  m : Int := 0
  e : Int := 0
  deriving DecidableEq, Repr

/-- A vector: mantissas and their shared exponent (06 R176). -/
structure Vec where
  m : List Int := []
  e : Int := -128
  deriving DecidableEq, Repr

/-- What leaves the device, in order (00 R2: hosts, islands' power stages and other devices lie outside). -/
inductive Out where
  | memWrite (port addr : Nat) (words : List Word)   -- a posted write to host memory
  | memRead (port addr bytes : Nat)                  -- a read request to host memory
  | flush (port : Nat)                               -- a zero-length read
  | msix (port vector : Nat)                         -- an MSI-X message
  | readDone (port : Nat) (value : Word)             -- completion of a host's register read
  | abort (port : Nat)                               -- Completer Abort
  | unsupported (port : Nat)                         -- Unsupported Request
  | cfgDone (port : Nat) (value : Word)              -- completion of a configuration read
  | tripWord (island legs : Nat)                     -- a trip word into an island's trip channel
  | alarm (island channels : Nat)                    -- an alarm word to the controller
  | tripClear (island legs : Nat)                    -- the trip clear of the keep-alive form
  | store (port addr : Nat) (be : BitVec 4) (v : Word)   -- a core's store to host memory
  | seam (port kind : Nat) (data : List Nat)         -- a frame sent on a seam port
  deriving DecidableEq, Repr

/-- A descriptor in execution on a context (04 R112, R123). -/
structure ExecS where
  words : List Word := []
  port : Nat := 0          -- owner code at the start (03 R89)
  idx : Nat := 0           -- ring index
  phase : Nat := 0         -- opcode's own progress
  flush : Nat := 0         -- host-memory steps delivered and not yet flushed (04 R115)
  result : Word := 0       -- OPERAND5 to write back
  done : Option (Nat × Nat) := none   -- completion code and detail, once decided
  deriving DecidableEq, Repr

/-- A context's state beside its registers (04 R102, R110, R119). -/
structure CtxS where
  deficit : Nat := 0
  reading : Bool := false
  known : Option (List Word) := none
  exec : Option ExecS := none
  stop : Nat := 0          -- stop cause of 04 R104 requested, 0 none
  stopAt : Nat := 0        -- steps committed when it was requested
  above : Bool := false    -- occupancy above HWM
  deriving DecidableEq, Repr

/-- A pending merged record of one source and host (04 R129). -/
structure Merged where
  unit : Nat := 0
  detail : Word := 0
  time : Nat := 0
  count : Nat := 0
  full : Bool := false     -- the cause was a full ring
  deriving DecidableEq, Repr

/-- A port's configuration space as far as its host sets it (03 R76, R78): the 64-bit BARs by their multiples of 1 MiB,
and the codes of the payload size, the read-request size and the completion timeout (reset values PRESUMED from PCI
Express, log 50). -/
structure CfgS where
  bar0 : Nat := 0
  bar2 : Nat := 0
  mps : Nat := 0           -- 128 bytes at 0, 256 at 1
  mrrs : Nat := 2          -- 128 * 2^code bytes
  cto : Nat := 0           -- 0: 50 ms
  deriving DecidableEq, Repr

/-- A host port's state beside its registers (03 R75 to R79, 04 R128). -/
structure PortS where
  cfg : CfgS := {}
  mse : Bool := false
  perst : Bool := false    -- HPp_PERST_N asserted
  training : Bool := false -- link training due or running
  wakeN : Bool := false    -- HPp_WAKE_N driven low
  phase : Bool := true     -- PHASE bit of the next event record
  wbHeld : List (Nat × List Word) := []   -- write-backs held in retention (02 R61)
  deriving DecidableEq, Repr

/-- What a close replaces at t2, given back where it is abandoned before t3 (06 R180, R183). -/
structure HeldS where
  set : Nat := 0
  x : Vec := {}
  r0 : Flt := {}
  cnt : Word := 0
  deriving DecidableEq, Repr

/-- An axis request in progress (06 R157): its target and the context whose descriptor made it. -/
structure ReqS where
  target : Nat
  ctx : Option Nat := none
  deriving DecidableEq, Repr

/-- An axis's state beside its registers (06 R170 to R184). -/
structure AxisS where
  x : Vec := {}
  u : Vec := {}
  uApplied : Vec := {}
  e : Vec := {}
  y : List Int := []
  r0 : Flt := {}
  r0Prev : Flt := {}
  r1 : Flt := {}           -- r[1] as latched at the sample instant (06 R165)
  r : Vec := {}
  time : Nat := 0
  stepDue : Nat := 0       -- 0 none, 1 full step, 2 correction step queued on the engine
  ready : Bool := false    -- u of the latest sample is ready
  outDue : Bool := false   -- an output instant is outstanding
  streak : Nat := 0        -- consecutive overruns
  feCount : Nat := 0
  feHold : Bool := false   -- HOLD ordered by FE_ACT = 1, pending
  eccHold : Bool := false
  satLast : Bool := false
  closing : Nat := 0       -- 0 none, 1 check due, 2 waiting for the sample, 3 waiting for the output
  closeSet : Nat := 0      -- set under close
  back : HeldS := {}
  ysrc : List Nat := []    -- as the last close took them (06 R178): measurement and output slots, engine, FF_MODE, PERIOD
  udst : List Nat := []
  pref : Nat := 0
  ff : Nat := 0
  period : Nat := 0
  sync : Nat := 0
  trg : Bool := false      -- TRG0 of its lowest-numbered leg has fired since the last sample (08 R244)
  holdOut : Bool := false  -- this HOLD stopped the legs
  req : Option ReqS := none
  snap : List Word := []   -- the latest completed step, 64 words
  latched : List Nat := [] -- causes that latched the axis
  winFired : List Nat := []   -- 2 * channel + comparator of each firing that sent the axis to SAFE
  prot : Bool := false     -- entered SAFE through the protection path
  safeDone : Bool := false -- the safe state is established
  didtLow : Bool := false  -- di/dt detectors that tripped in this SAFE
  didtHigh : Bool := false
  forced : Bool := false   -- the short circuit is forced by R212
  why : List Nat := []     -- what raised cause 4: 0 STO, 1 SS1, 2 torque monitor, 3 contactor, 4 OV2
  whyLatched : List Nat := []
  ov2Asc : Bool := false   -- the short circuit comes from OV2
  ov2Off : Bool := false   -- OV2 orders pulse-off
  lossOff : Bool := false  -- a loss of the rotor orders pulse-off (07 R221, case 3)
  causes : List Nat := []  -- causes since the axis last left SAFE
  hold : Nat := 0          -- hold state the sequencer sends: 0 OFF, 1 LOW_ON, 2 HIGH_ON (09 R263)
  clearDue : List Nat := []   -- islands to which the trip clear is still to be sent (09 R280)
  deriving DecidableEq, Repr

/-- A table-mode axis's state beside its registers (07). Flux in units of 2^-31, offsets in units of 2^-33, other
quantities in units of 2^-23. -/
structure TableS where
  psiA : Int := 0
  psiB : Int := 0
  oA : Int := 0
  oB : Int := 0
  iA : Int := 0
  iB : Int := 0
  tau : Int := 0
  mag : Int := 0
  cTau : Int := 0
  cPsi : Bool := true
  vec : Nat := 0           -- applied switch state
  started : Bool := false  -- switching
  lpA : Int := 0           -- flux and current latched at the sample instant
  lpB : Int := 0
  liA : Int := 0
  liB : Int := 0
  limNow : Bool := false   -- a decision of this sample was limited
  limPrev : Bool := false
  tauRef : Int := 0
  psiRef : Int := 0
  dwell : List Nat := [0, 0, 0]     -- decisions left per leg
  credit : List Nat := [0, 0, 0]    -- credit per leg, in units of 1/10^6 commutation
  commuts : Nat := 0       -- commutations since the last snapshot was taken
  thLast : Nat := 0        -- rotor angle at the previous sample
  thOk : Bool := false
  adv : List Int := []     -- advances of the last samples
  validRun : Nat := 0      -- consecutive samples with FLUX_VALID
  speed : Int := 0         -- estimator speed
  goodSpeed : Int := 0     -- last valid estimator speed before a loss window
  spds : List Int := []    -- the last valid estimator speed as of each sample, newest first
  below : Bool := false    -- since the loss the PI speed has been below HANDOVER
  seen : Bool := false     -- FLUX_VALID has been 1 since the start from OFF (R218)
  fell : Bool := false     -- it has fallen to 0 since the last sample, with the flux reference at or above the level (R220)
  tabMag : Int := 0        -- flux magnitude that the table uses (R203)
  lost : Bool := false     -- observer loss declared, PI serves
  recGood : Nat := 0       -- consecutive samples under LIMIT
  eps : List Int := []     -- |eps| of the window, newest first
  -- tracker
  idx : Nat := 0
  idxOk : Bool := false
  tLast : Nat := 0         -- time of the last accepted crossing
  ivals : List Nat := []   -- last six accepted intervals, newest first
  accepted : Nat := 0
  rejected : Nat := 0
  rev : Bool := false
  outside : Bool := false  -- |speed| left the watch window
  inCount : Nat := 0       -- accepted crossings since it returned
  tracking : Bool := false -- tracker serves
  -- catch
  catchPh : Nat := 0       -- 0 none, 1 waiting for clocks, 2 seeded, 3 verify, 5 waiting hand-over
  catchPi : Bool := false  -- the seed came from the PI
  seedSpeed : Int := 0
  seedAngle : Nat := 0     -- angle and time of the seed
  seedTime : Nat := 0
  verified : Nat := 0      -- verify samples done
  -- stop to COAST and recovery
  stopTo : Nat := 0        -- 0 none, 1 to COAST, 2 to OFF
  recov : Nat := 0         -- 0 none, 1 zero time, 2 acquiring, 3 catch, 4 ending in SAFE, 5 zero time then COAST or OFF
  deriving DecidableEq, Repr

/-- Values of a set for PRD and CMP0 to CMP3 that are present (08 R232). -/
structure SetS where
  prd : Option Nat := none
  cmp : List (Option Nat) := [none, none, none, none]
  deriving DecidableEq, Repr

/-- A leg's state beside its registers (08 R230 to R254). Counter clocks are counted in `clk`. -/
structure LegS where
  pend : SetS := {}
  late : SetS := {}
  staged : SetS := {}
  arr : List (Bool × SetS) := []   -- sets on their way to the leg, oldest first; true: the loop's
  cfg : Word := 2          -- LEG_CFG in effect (08 R259)
  trig : Word := 0         -- LEG_TRIG in effect (08 R244)
  clk : Nat := 0           -- counter clocks counted up to the present
  car : Nat := 0           -- of them, those at the counter's last event
  conv : Option Nat := none -- and at the last conversion that its latch judged
  h : Bool := false        -- H after the minimum-pulse rules
  drop : Bool := false     -- a short pulse is being omitted
  act : Bool := false      -- switching has started (08 R240)
  tOn : Nat := 0           -- clock at which the channel on, or due on, turns on
  tEnd : Nat := 0          -- clock before which a carried pulse does not end
  ext : Bool := false      -- the pulse was judged short and extended, or carried
  wait : Bool := false     -- the pulse's end is delayed
  div0 : Nat := 0
  div1 : Nat := 0
  synced : Bool := false   -- the MODE 1 load has taken place
  maskDue : Nat := 0       -- step changes to come
  mon : Bool := false      -- the no-current monitor is waiting
  dead : Nat := 0          -- turn-on waiting for its dead time: 0 none, 1 lower, 2 upper
  bast : List Nat := []    -- measurements of its basting check to come (09 R284): 0 and 1 gates U and L, 2 phase node, 3 winding
  sLate : Bool := false    -- in this sample: a late landing, an altered pulse, no-current pulses
  sAlt : Bool := false
  sNoCur : Nat := 0
  deriving DecidableEq, Repr

/-- A fast channel's state beside its registers (10 R294): the latest corrected conversion and the sum and count of
those since the last sample, in units of 2^-23. -/
structure FcS where
  c : Int := 0
  sum : Int := 0
  n : Nat := 0
  heldA : Bool := false    -- a firing of WA, of WB masked in this blanking window (10 R299)
  heldB : Bool := false
  due : Nat := 0           -- triggers that a TRIGGERED channel has not yet converted (10 R293)
  deriving DecidableEq, Repr

/-- A redundant pair (10 R304): channels converted since the last comparison, and consecutive apertures that count. -/
structure PairS where
  gotA : Bool := false
  gotB : Bool := false
  n : Nat := 0
  deriving DecidableEq, Repr

/-- A precision converter (10 R308, R309). Its job: 0 none, 1 list turn, 2 urgent, 3 calibration, 4 and 5 open-wire
test with pull-up and pull-down. -/
structure PxS where
  job : Nat := 0
  input : Nat := 0
  ofs : Nat := 0           -- coefficients in use
  gain : Nat := 0
  fixed : Bool := false
  restart : Bool := false
  start : Nat := 0         -- time of the start
  held : Option (Nat × Nat) := none   -- job and input of an aborted conversion
  deriving DecidableEq, Repr

/-- A precision input (10 R311, R317). -/
structure PmInS where
  sum : Int := 0
  n : Nat := 0
  sat : Bool := false
  restart : Bool := false
  fixed : Bool := false
  results : Nat := 0       -- since the last open-wire test
  owDue : List Nat := []   -- test conversions that its next list turns are: 4 pull-up, 5 pull-down
  owUp : Option Bool := none      -- what the two test conversions read
  owDown : Option Bool := none
  deriving DecidableEq, Repr

/-- The precision path (10 R307 to R319). -/
structure PmS where
  px : List PxS := [{}, {}]
  urg : List Nat := []     -- urgent requests not yet started
  pos : Nat := 0           -- next list entry
  per : List Nat := []     -- last periods of the mains, newest first
  last : Option Nat := none   -- time of the last mains crossing
  good : Nat := 0          -- consecutive valid periods
  calIn : Nat := 0
  calLeft : Nat := 0       -- calibration conversions still to start
  calRun : Nat := 0        -- and those not yet ended
  calLog2 : Nat := 0
  calSum : Nat := 0
  calPx : Nat := 0         -- converter of the next one
  calDue : Nat := 0        -- vault commits of a COMMIT still under way
  calFirst : Option (Nat × Word) := none   -- word and value of its first, which take effect with the second
  q : List (List Word) := []      -- result queue, oldest first
  readers : List Nat := []        -- contexts of the PM_READ descriptors in execution, first started first
  deriving DecidableEq, Repr

/-- A position interface's state beside its registers (11). -/
structure PiS where
  hist : List (Nat × Int) := []   -- times and counts since the last reversal, newest first
  cum : Int := 0           -- count of all motion
  ivl : Option Nat := none -- last measured interval
  good : Nat := 0          -- good edges, frames or periods since the last cause
  rejs : List Nat := []    -- times of the last rejects, newest first
  theta : Option Nat := none      -- angle of the previous excitation period
  frame : Option Int := none      -- count of the previous good frame
  missed : Bool := false          -- counts have been lost at a limit since the last index or write of PI_CNT
  held : Option (Word × Word) := none  -- PI_SPD_CFG and PI_RATE in effect until the next edge, frame or period (11 R325)
  ssiDue : Bool := false          -- the bound axis has had a sample instant since the last SSI read (11 R333)
  ssiEnd : Option Nat := none     -- end of the last SSI frame
  peak : Option (Int × Int) := none    -- c of the sine and cosine channels at t_pk (11 R334)
  deriving DecidableEq, Repr

/-- A link group's state beside SAF_LINK_STAT (12 R369 to R375). The torque limit is a level of `span` parts that moves
one part per 5 ns. -/
structure LinkS where
  lev : Nat := 0           -- level at `since`
  since : Nat := 0
  dir : Nat := 0           -- 0 at rest, 1 falling, 2 rising
  dis : Nat := 0           -- discharge: 0 none, 1 requested, 2 running
  dsch : Bool := false     -- it drives DSCH
  pre : Nat := 0           -- precharge: 0 none, 2 waiting for PRE_CT, 3 for PRE_V, 4 for MAIN_CT
  deriving DecidableEq, Repr

/-- An axis's part of the sequencer beside its registers (12 R364, R366). Flux in units of 2^-31. -/
structure SafS where
  ss1Speed : Nat := 0      -- speed and time at t1 of SS1
  ss1At : Nat := 0
  psiA : Int := 0
  psiB : Int := 0
  angs : List Nat := []    -- angles of the last updates, newest first
  speed : Int := 0
  sumA : Int := 0          -- conversions of IA and IB in this microsecond
  nA : Nat := 0
  sumB : Int := 0
  nB : Nat := 0
  deriving DecidableEq, Repr

/-- A DMA channel's state beside its registers (05): the descriptor in execution, none while it is being read. -/
structure DmaS where
  stop : Nat := 0          -- 0 none, 1 STOP, 2 RESET, 3 owner change
  fetchOut : Bool := false -- the read of a descriptor has been issued
  issued : Bool := false   -- the element's turn has come: its read is under way
  ixOut : Bool := false    -- a read of index entries has been issued
  words : List Word := []  -- the eight words of the descriptor
  port : Nat := 0          -- owner code at its fetch
  idx : Nat := 0           -- elements done
  ix : List Word := []     -- index entries read so far
  ixErr : Bool := false    -- a block of the index table failed
  snap : List Word := []   -- the snapshot as latched at the start
  axSafe : Bool := false   -- an axis of the descriptor has entered SAFE or FAULT during it
  sram : Bool := false     -- list space as of the fetch: shared SRAM
  fin : Option (Nat × Nat) := none   -- code and detail of its end, once decided
  next : Option Nat := none          -- where RESUME goes on after a host loss
  ended : Bool := false   -- the descriptor that a host loss ended was the last of its list
  w7 : Word := 0           -- word 7 of the descriptor last ended or read
  left : List Word := []   -- words of the element under way still to be written: one waits for the vault's queue
  whole : Bool := false    -- every word of it is written
  commits : Nat := 0       -- its writes of vault-backed registers not yet committed (14 R422)
  deriving DecidableEq, Repr

/-- An island's state beside its registers (09). Channel 2x is the upper and 2x + 1 the lower channel of leg x. -/
structure IslandS where
  lost : Bool := true      -- link-lost state of the island (R264)
  follow : Bool := false   -- follows the fast form (R262)
  sup : Nat := 0           -- supplies good, as GI_STATUS[8:0]
  chs : List Nat := [0, 0, 0, 0, 0, 0]   -- 0 off, 1 and 2 turn-on, 3 on, 4 and 5 turn-off, 6 and 7 soft turn-off
  heldOff : Nat := 0       -- channels held off after a gate fault (R270)
  gap : List Nat := [0, 0, 0]   -- channel that a hold-state change turns on: 0 none, 1 lower, 2 upper
  soft : Nat := 0          -- legs of the soft turn-off under way
  alarms : List Nat := []  -- alarm words sent: a channel (16 + channel while a short circuit is held), or 6 + leg for the cross-lock
  trips : List Nat := []   -- trip words on their way: masks of legs
  unheard : Bool := false  -- no status frame has come since a warm reset (R289)
  legW : List Word := []   -- GI_Lx_STATUS as the island holds it while a power-on reset of the controller hides it, else empty
  deriving DecidableEq, Repr

/-- A fault-ledger record (13 R413). -/
structure FlRec where
  slot : Nat
  seq : Nat
  parent : Option Nat
  depth : Nat
  cls : Nat
  st : Nat                 -- 0 open, 1 resolved, 2 superseded
  kind : Nat
  ut : Nat
  detail : Nat
  unit : Nat
  time : Nat
  axes : List Nat := []    -- axes whose safe state ends its handling (class 4)
  fin : Bool := false      -- its own handling has ended
  via : Option Nat := none -- ECC_UE: the pair whose restart or takeover is its handling
  deriving DecidableEq, Repr

/-- A vault word: its copies A and B, and which of them carries a SEC-DED code that is not good (14 R420, R421). -/
structure VWord where
  a : Word
  b : Word
  aBad : Bool := false
  bBad : Bool := false
  deriving DecidableEq, Repr

/-- A queued vault commit (14 R422): the word, its new value, and the VAULT_WRITE context or DMA channel that waits for
it. -/
structure VCommit where
  word : Nat
  value : Word
  ctx : Option Nat := none
  dma : Option Nat := none
  cal : Bool := false      -- a coefficient of a calibration (10 R318)
  deriving DecidableEq, Repr

/-- The vault block's state beside its registers (14). An action is VERIFY 0, ACTIVATE 1, CLEAR 2 or UNLOCK 3. -/
structure VaultS where
  act : Option (Nat × Option Nat) := none   -- the action under way and the FW_VERIFY context that waits for it
  stgCtx : Option Nat := none     -- the FW_STAGE context that uses the staging area
  copying : Bool := false         -- a COPY runs
  copyOfs : Nat := 0              -- its first page of the staging area
  copyLen : Nat := 0              -- its length in pages
  copySrc : Nat := 0              -- its address in the steward's memory
  build : List Word := []         -- BUILD_ID of the released image
  due : Nat := 0                  -- source the boot ROM tries next: 0 none, 1 slot A, 2 slot B, 3 staged
  boot : Nat := 0                 -- image found by the boot ROM: 0 none, 1 slot A, 2 slot B, 3 staged
  hdr : List Word := []           -- its header
  payload : List Word := []       -- its payload
  key : Nat := 0                  -- key slot that signed it
  resWord : Nat := 63             -- identity word last written (R437)
  idxLow : Bool := false          -- VLT_IDX_LOW has been raised
  lastGo : Option Nat := none     -- time of the last accepted GO
  staged : List Nat := []         -- pages of the staging area written since the last CLEAR
  report : List Word := []        -- the report being signed, words 0 to 63
  deriving DecidableEq, Repr

/-- The counter CSRs of a copy and their controls (16 R477, R478): cycles in units of 2^-5, retired instructions,
mcounteren and mcountinhibit. -/
structure CsrS where
  cyc : Nat := 0
  inst : Nat := 0
  cen : Word := 0
  inh : Word := 0
  deriving DecidableEq, Repr

/-- A write that a pair holds back (13 R389): of a register of BAR0, of shared SRAM or of a host's memory. -/
inductive HeldW where
  | reg (addr : Nat) (v : Word)
  | sram (addr : Nat) (be : BitVec 4) (v : Word)
  | host (port addr : Nat) (be : BitVec 4) (v : Word)
  deriving DecidableEq, Repr

/-- A core pair's state beside its registers (13 R385 to R400). A copy's registers stand as one list: x1 to x31, pc, then the CSRs of
`csrHeld`; what it does not hold is 0. -/
structure CpS where
  buf : List HeldW := []   -- release buffer: closed groups and single writes
  grp : List HeldW := []   -- the open commit group
  fed : List (List Nat) := []     -- the requests that the signatures of this window have taken, oldest first
  regs : List Word := []   -- registers of the main copy, and of the checker copy outside a debug halt
  chk : List Word := []    -- registers of the checker copy in a debug halt
  cache : Option Nat := none      -- its caches: none, all lines invalid; some k, lines of open contents, the free values from k on
  kgrp : Bool := false
  rs : Nat := 0            -- restart: 0 none, 1 recovery test due, 2 restoration due
  first : Bool := false    -- waiting for the first full window after a resumption
  lastEnd : Option Nat := none    -- time at which the last restart ended
  prev : Nat := 0          -- state before a debug halt
  haltReq : Bool := false  -- a debug halt waits for the end of a restart
  heirOf : Nat := 0        -- pair whose records its first window resolves
  log : List (DbgCmd × Nat) := []   -- replay log, each entry with the count of free values when it was made
  cmderr : Nat := 0
  csr : CsrS := {}
  cause : Nat := 0         -- mcause of the last exception that R390 or R478 raised
  data0 : Word := 0        -- what the last abstract command read
  deriving DecidableEq, Repr

/-- Redundancy state beside the registers (13). Units are (unit type, unit number) as R413 numbers them. -/
structure RedS where
  krst : List Nat := [0, 0, 0, 0]
  takes : List (Nat × Bool) := []   -- slots whose takeover is decided; true: at a YIELD
  rot : Nat := 0           -- slot of the next rotation
  rotReq : Option Nat := none       -- slot whose rotation is under way
  svcRot : Bool := false   -- it was forced by the ROTATE service code
  unus : List (Nat × Nat) := []     -- unusable units
  outs : List (Nat × Nat) := []     -- units out of service
  svc : Option (Nat × Nat × Nat) := none   -- service action under way: code, unit type, unit
  svcCtx : Option Nat := none       -- the SERVICE context that waits for it
  fuse : List Nat := []    -- spares whose repair is fused
  shadow : Nat := 0        -- samples that the unit in step 2 of its rejoin has run in shadow
  ces : List (Nat × Nat × Nat) := []   -- rows that gave corrected errors in this self-test cycle: array, row and count (R409)
  hartsel : Nat := 0       -- the debug module's selected hart and its program buffer (R399)
  progbuf : List Word := []
  homes : List (Nat × Nat) := []    -- converter and channel it served when it left service
  noConv : List Nat := []  -- fast channels without a converter (R408)
  deriving DecidableEq, Repr

/-- A peer frame (15 R461). -/
structure PeerFrame where
  origin : Nat
  seq : Nat
  period : Nat
  words : List Word
  deriving DecidableEq, Repr

/-- A seam port's state beside its registers (15): frames queued to be sent, and what discovery saw on it. -/
structure SeamPS where
  q : List PeerFrame := []
  hop : Option (Nat × Nat) := none   -- lowest hop count that arrived in the latest round, and when
  path : Bool := false       -- the neighbour leads to the root
  far : Option SeamFar := none       -- the far end of the link, as a hop frame named it
  deriving DecidableEq, Repr

/-- The seam's state beside its registers (15). -/
structure SeamS where
  rounds : Nat := 0        -- consecutive rounds that agree with `cand`
  cand : List SeamNode := []
  cur : List SeamNode := []      -- the table in effect
  ring : Bool := false     -- the candidate topology is a ring
  devs : List SeamDev := []      -- replies of this round
  last : List SeamDev := []      -- replies of the round before
  two : Bool := false      -- a second root was heard
  txSeq : Nat := 0
  pdSeq : Nat := 0
  due : List Nat := []     -- trips to originate: 0 protection path, 1 SAFE with cause 4, 2 device-SAFE
  trips : List (Nat × Nat × Nat) := []   -- origin, sequence and time of trips acted on
  seen : List (Nat × Nat) := []          -- origin and sequence of peer frames seen
  good : Nat := 0          -- consecutive exchanges with |offset| at most 2 ns
  bad : Nat := 0           -- and above 5 ns
  stepped : Bool := false  -- the step at join has been decided
  rx : List (Option (Nat × Nat)) := [none, none, none, none]   -- arrival time and period per slot
  deriving DecidableEq, Repr

/-- The tally's state beside its registers (16). -/
structure TalS where
  seq : Nat := 0           -- number of the next record
  fullRaised : Bool := false
  due : List Nat := []     -- counters whose overflow is still to be raised
  deriving DecidableEq, Repr

/-- The DMA engine's arbitration (05 R151): turns of level 0 since the last of level 1, and the channel last served on
each level. -/
structure ArbS where
  high : Nat := 0
  last0 : Nat := 15
  last1 : Nat := 15
  deriving DecidableEq, Repr

/-- The device-wide state beside its registers (02, 04 R110, 12 R360). -/
structure SysS where
  timeAcc : Nat := 0       -- time base, in units of 5 ns / 2^25
  timeHi : Word := 0       -- PWR_TIME_HI as latched
  slew : Int := 0          -- rate adjustment, in 2^-20 of the nominal rate (15 R457)
  relockA : Nat := 0       -- failed relock attempts
  relockB : Nat := 0
  lostA : Bool := false    -- PLL-A, PLL-B declared unlocked and not yet relocked
  lostB : Bool := false
  held : List (Nat × Access) := []   -- accesses held at a port, in order of arrival
  descent : Option (Option Nat) := none   -- a descent under way, and the POWER_REQ context it serves
  waking : Bool := false   -- power-up under way, or a descent to be abandoned
  wakeTimer : Bool := false
  entry : Bool := false    -- the boot ROM's warm entry is due (02 R63)
  xtal : Bool := false     -- the crystal oscillator was started at t2 (02 R69)
  released : Bool := false -- firmware released
  drr : Nat := 0           -- context whose visit is in progress
  drrOpen : Bool := false  -- its WEIGHT has been added
  dsch : Bool := false     -- DSCH pin
  cfb : Nat := 0           -- filtered levels of CFB0 to CFB7
  firings : List (Nat × Bool) := []   -- TRIP firings for the trip matrix: fast channel; true: WB
  pairsReset : Bool := false   -- every core pair held in reset (13 R415)
  pciSub : Word := 0       -- subsystem identifiers as of the last power-on reset (03 R76)
  arb : ArbS := {}
  deriving DecidableEq, Repr

/-- What stops the device: nothing. Every condition the spec gives is an effect on the state (see NOTES.md), so no
meaning raises a fault; safe. -/
inductive Fault where
  deriving DecidableEq, Repr

/-- Why a command has no meaning here. -/
inductive Refusal where
  /-- Raised by an arm of `exec` whose command is not modelled; safe. -/
  | notModelled (mnemonic : String)
  deriving DecidableEq, Repr

/-- The machine. `pending` is the queue of waiting commands; `out` logs what left the device; `free` counts the free
values drawn (these three are the model's own fields). -/
structure State where
  pending : List Instr := []
  regs : Sparse Word := []           -- BAR0 by byte address
  sram : List Host.Cell := []        -- shared SRAM, 4 MiB (00 R7)
  banks : Sparse Word := []          -- coefficient words by (16 * axis + selector) * 256 + word
  bankSeen : Sparse Bool := []       -- words written since the bank became partial, same key
  msix : Sparse Word := []           -- MSI-X table words by 256 * port + 4 * vector + word
  pba : Sparse Bool := []            -- pending bits by 64 * port + vector
  vecPend : Sparse Nat := []         -- records pending by 64 * port + vector
  merged : Sparse Merged := []       -- by 4 * source + host
  ports : Sparse PortS := []
  ctxs : Sparse CtxS := []
  axes : Sparse AxisS := []
  tms : Sparse TableS := []
  legs : Sparse LegS := []
  fcs : Sparse FcS := []
  pairs : Sparse PairS := []
  pis : Sparse PiS := []
  links : Sparse LinkS := []
  safs : Sparse SafS := []
  cmpFails : Sparse Nat := []        -- failed slices in succession by 4 * channel + 2 * comparator + copy
  voteFail : Sparse Bool := []       -- delay registers with no value by 96 * kind + 3 * unit + field
  pmIns : Sparse PmInS := []
  pm : PmS := {}
  dmas : Sparse DmaS := []
  isls : Sparse IslandS := []
  fl : List FlRec := []              -- fault ledger, oldest first
  vault : Sparse VWord := []         -- vault words
  wear : Sparse Word := []           -- wear words as VLT_WEARi shows them
  vq : List VCommit := []            -- commits, the running one first
  vheld : List (Writer × Nat × Word) := []   -- PV writes held while the queue is full
  vs : VaultS := {}
  cps : Sparse CpS := []
  escrow : Sparse (List Word) := []  -- words of the checkpoints, by 2 * slot + copy; what a copy does not hold is 0
  red : RedS := {}
  seams : Sparse SeamPS := []
  seam : SeamS := {}
  tal : TalS := {}
  sys : SysS := {}
  out : List Out := []
  free : Nat := 0
  deriving DecidableEq, Repr

/-- The machine right after power-on reset (00 R17): every register at its reset word, the memories as unlisted. -/
def State.reset : State := {}

end Sys2Proof.Machine
end

