-- ==== Sys2Proof/Machine/Ops.lean ====
section
/-! DEFINITION. The named operations every family uses: sparse maps, register words and fields, per-unit state, the
time base, free values, denials, event delivery, and the bookkeeping of contexts and descriptors. -/

namespace Sys2Proof.Machine

/-! ## Sparse maps -/

/-- What a sparse map reads at a key; `d` is what an unlisted key reads as. -/
def sget {α : Type} (d : Nat → α) : Sparse α → Nat → α
  | [], k => d k
  | (k', v) :: m, k => if k' = k then v else sget d m k

/-- Drop the entry of a key. -/
def sdel {α : Type} (m : Sparse α) (k : Nat) : Sparse α := m.filter fun e => e.1 != k

/-- Insert an entry before the first larger key. -/
def sins {α : Type} (k : Nat) (v : α) : Sparse α → Sparse α
  | [] => [(k, v)]
  | e :: m => if k < e.1 then (k, v) :: e :: m else e :: sins k v m

/-- Write a key; writing what an unlisted key reads as removes the entry. -/
def sset {α : Type} [DecidableEq α] (d : Nat → α) (m : Sparse α) (k : Nat) (v : α) : Sparse α :=
  if v = d k then sdel m k else sins k v (sdel m k)

/-- The canonical form: keys strictly rising, and no entry equal to what an unlisted key reads as. -/
abbrev swf {α : Type} (d : Nat → α) (m : Sparse α) : Prop :=
  (m.Pairwise fun a b => a.1 < b.1) ∧ ∀ e ∈ m, e.2 ≠ d e.1

/-! ## Bits of a word -/

/-- Bits [lo + n - 1 : lo] of a word as a number. -/
def fieldGet (w : Word) (lo n : Nat) : Nat := (w.extractLsb' lo n).toNat

/-- The mask of n bits from lo. -/
def fieldMask (lo n : Nat) : Word := BitVec.ofNat 32 (2 ^ n - 1) <<< lo

/-- A word with bits [lo + n - 1 : lo] replaced. -/
def fieldSet (w : Word) (lo n v : Nat) : Word :=
  (w &&& ~~~(fieldMask lo n)) ||| (BitVec.ofNat 32 (v % 2 ^ n) <<< lo)

/-- A number's bit. -/
def nbit (v i : Nat) : Bool := v.testBit i

/-- A number with a bit replaced. -/
def nbitSet (v i : Nat) (b : Bool) : Nat :=
  if b then v ||| 2 ^ i else if v.testBit i then v - 2 ^ i else v

/-- A two's-complement number of n bits. -/
def sgn (n v : Nat) : Int := if v % 2 ^ n < 2 ^ (n - 1) then (v % 2 ^ n : Nat) else (v % 2 ^ n : Nat) - (2 ^ n : Nat)

/-- The n-bit two's-complement pattern of an integer. -/
def unsgn (n : Nat) (v : Int) : Nat := (v % (2 ^ n : Nat)).toNat

/-- The bits set in a mask, in rising order, below n. -/
def bitsOf (n v : Nat) : List Nat := (List.range n).filter fun i => v.testBit i

def b2n (b : Bool) : Nat := if b then 1 else 0

/-- The list of n elements with element k replaced; d stands for one that the list does not hold. -/
def listPut {α : Type} (n : Nat) (d : α) (l : List α) (k : Nat) (v : α) : List α :=
  (List.range n).map fun j => if j = k then v else l.getD j d

/-! ## Registers and per-unit state -/

def State.rd (s : State) (a : Nat) : Word := sget resetWord s.regs a
def State.wr (s : State) (a : Nat) (w : Word) : State := { s with regs := sset resetWord s.regs a w }

/-- A field of a register. -/
def State.get (s : State) (f : FieldRef) : Nat := fieldGet (s.rd f.addr) f.lo f.width

/-- Write a field of a register. -/
def State.put (s : State) (f : FieldRef) (v : Nat) : State := s.wr f.addr (fieldSet (s.rd f.addr) f.lo f.width v)

def State.on (s : State) (f : FieldRef) : Bool := s.get f != 0
def State.putB (s : State) (f : FieldRef) (b : Bool) : State := s.put f (b2n b)

/-- Add to a count that saturates at its largest value. -/
def State.bump (s : State) (f : FieldRef) (n : Nat := 1) : State := s.put f (min (s.get f + n) (2 ^ f.width - 1))

/-- Set one bit of a field that holds a bit per unit. -/
def State.putBit (s : State) (f : FieldRef) (i : Nat) (b : Bool) : State := s.put f (nbitSet (s.get f) i b)

def State.ax (s : State) (a : Nat) : AxisS := sget (fun _ => {}) s.axes a
def State.setAx (s : State) (a : Nat) (x : AxisS) : State := { s with axes := sset (fun _ => {}) s.axes a x }
def State.upAx (s : State) (a : Nat) (f : AxisS → AxisS) : State := s.setAx a (f (s.ax a))

def State.tm (s : State) (a : Nat) : TableS := sget (fun _ => {}) s.tms a
def State.setTm (s : State) (a : Nat) (x : TableS) : State := { s with tms := sset (fun _ => {}) s.tms a x }
def State.upTm (s : State) (a : Nat) (f : TableS → TableS) : State := s.setTm a (f (s.tm a))

def State.ctx (s : State) (c : Nat) : CtxS := sget (fun _ => {}) s.ctxs c
def State.setCtx (s : State) (c : Nat) (x : CtxS) : State := { s with ctxs := sset (fun _ => {}) s.ctxs c x }
def State.upCtx (s : State) (c : Nat) (f : CtxS → CtxS) : State := s.setCtx c (f (s.ctx c))

def State.port (s : State) (p : Nat) : PortS := sget (fun _ => {}) s.ports p
def State.upPort (s : State) (p : Nat) (f : PortS → PortS) : State :=
  { s with ports := sset (fun _ => {}) s.ports p (f (s.port p)) }

def State.upSys (s : State) (f : SysS → SysS) : State := { s with sys := f s.sys }

/-- Log what leaves the device. -/
def State.emit (s : State) (o : Out) : State := { s with out := s.out ++ [o] }

/-- Run an action for each element in turn. -/
def State.each (s : State) (l : List Nat) (f : Nat → State → State) : State := l.foldl (fun s i => f i s) s

/-- Posted writes of words to a host's memory, no larger than the port's payload size (03 R76). -/
def hostWrites (p a k : Nat) : Nat → List Word → State → State
  | 0, _, s => s
  | n + 1, l, s => if l = [] then s else hostWrites p (a + 4 * k) k n (l.drop k) (s.emit (.memWrite p a (l.take k)))

def State.hostWrite (s : State) (p a : Nat) (l : List Word) : State :=
  hostWrites p a (if (s.port p).cfg.mps = 0 then 32 else 64) l.length l s

/-- Read requests to a host's memory, each of at most 512 bytes and of at most the port's read-request size (03 R76). -/
def hostReads (p a k : Nat) : Nat → Nat → State → State
  | 0, _, s => s
  | n + 1, left, s => if left = 0 then s else hostReads p (a + k) k n (left - k) (s.emit (.memRead p a (min k left)))

def State.hostRead (s : State) (p a bytes : Nat) : State :=
  let k := min 512 (128 * 2 ^ (s.port p).cfg.mrrs)
  hostReads p a k (bytes / k + 1) bytes s

/-- Do an action where a condition holds. -/
def State.when (s : State) (c : Bool) (f : State → State) : State := if c then f s else s

/-- The time base of 02 R58: a 64-bit count of 5 ns units. -/
def State.time (s : State) : Nat := s.sys.timeAcc / 2 ^ 25 % 2 ^ 64

/-- A free value, and the state with the count of drawn values advanced (log 2). -/
def State.fresh (s : State) : Nat × State := (Config.freeNat s.free, { s with free := s.free + 1 })

/-- Write a free value to a register (U reset values, 00 R17). -/
def State.wrFree (s : State) (a : Nat) : State := (s.fresh.2).wr a (BitVec.ofNat 32 s.fresh.1)

/-! ## Shared SRAM -/

def State.sramRd (s : State) (a : Nat) : Byte := sget (fun _ => 0) s.sram a
def State.sramWr (s : State) (a : Nat) (b : Byte) : State := { s with sram := sset (fun _ => (0 : Byte)) s.sram a b }

/-- The canonical form of the SRAM's cells. -/
abbrev Memory.wf (m : List Host.Cell) : Prop := swf (fun _ => (0 : Byte)) m

/-- A little-endian word of the SRAM (00 R18). -/
def State.sramWord (s : State) (a : Nat) : Word :=
  s.sramRd (a + 3) ++ s.sramRd (a + 2) ++ s.sramRd (a + 1) ++ s.sramRd a

/-- Write a little-endian word to the SRAM. -/
def State.sramWrWord (s : State) (a : Nat) (w : Word) : State :=
  (((s.sramWr a (w.extractLsb' 0 8)).sramWr (a + 1) (w.extractLsb' 8 8)).sramWr (a + 2) (w.extractLsb' 16 8)).sramWr
    (a + 3) (w.extractLsb' 24 8)

/-- Write consecutive words. -/
def State.sramWrWords (s : State) (a : Nat) : List Word → State
  | [] => s
  | w :: ws => (s.sramWrWord a w).sramWrWords (a + 4) ws

/-! ## Clocks of the command path -/

/-- The core pairs, the control engines, DMA and the command path run: PLL-A is locked and no descent is under way
(02 R57, R61). -/
def State.coreClk (s : State) : Bool := s.on CLK_STATUS__PLLA_LOCK && !s.on PWR_STATE__DESCENDING

/-- The table logic, carriers, interlock and the fast measurement run: PLL-B is locked and no descent is under way. -/
def State.fastClk (s : State) : Bool := s.on CLK_STATUS__PLLB_LOCK && !s.on PWR_STATE__DESCENDING

/-! ## Tally counts (16 R467 to R474) -/

/-- A counter as a number of 48 bits. -/
def State.talCnt (s : State) (i : Nat) : Nat := s.get (TAL_CNT_LO__COUNT_LO i) + 2 ^ 32 * s.get (TAL_CNT_HI__COUNT_HI i)
def State.putCnt (s : State) (i v : Nat) : State :=
  (s.put (TAL_CNT_LO__COUNT_LO i) v).put (TAL_CNT_HI__COUNT_HI i) (v / 2 ^ 32)

/-- The address filter of a counter (R474). -/
def State.talAddr (s : State) (i a : Nat) : Bool :=
  let inR := fun lo hi => lo ≤ a && a ≤ hi
  let ra := inR (s.rd TAL_RANGEA_LO).toNat (s.rd TAL_RANGEA_HI).toNat
  match s.get (TAL_EVT__ADDR_SEL i) with
  | 1 => ra
  | 2 => inR (s.rd TAL_RANGEB_LO).toNat (s.rd TAL_RANGEB_HI).toNat
  | 3 => !ra
  | _ => true

/-- A counter adds n; past 2^48 - 1 it wraps and its bit of OVF is set (R468). -/
def talBump (i n : Nat) (s : State) : State :=
  let v := s.talCnt i + n
  let s := s.putCnt i (v % 2 ^ 48)
  if v < 2 ^ 48 then s
  else { s.putBit TAL_STATUS__OVF i true with tal := { s.tal with due := s.tal.due ++ [i] } }

/-- n occurrences of an event of a source in one cycle, with the address they carry (R467), while PLL-A runs; counters with OVF_STOP that
overflow freeze all counters after the cycle. -/
def talCount (ev master n a : Nat) (s : State) : State :=
  if !s.on TAL_CTRL__RUN || s.on TAL_STATUS__FROZEN || !s.on CLK_STATUS__PLLA_LOCK then s
  else
    let before := s.tal.due.length
    let s := s.each (List.range 8) fun i s =>
      s.when (s.on (TAL_EVT__EN i) && s.get (TAL_EVT__EVENT i) == ev &&
        (s.get (TAL_EVT__MASTER i) == master || s.get (TAL_EVT__MASTER i) == 31) && s.talAddr i a) (talBump i n)
    s.when ((s.tal.due.drop before).any fun i => s.on (TAL_EVT__OVF_STOP i)) fun s => s.putB TAL_STATUS__FROZEN true

/-! ## Ownership (03 R84, R85) -/

def State.steward (s : State) : Nat := s.get HP_STEWARD__STEWARD
def State.ctxOwner (s : State) (c : Nat) : Nat := s.get (HP_OWN_CTX__OWNER (c / 8) (c % 8))
def State.dmaOwner (s : State) (n : Nat) : Nat := s.get (HP_OWN_DMA__OWNER (n / 8) (n % 8))
def State.axOwner (s : State) (a : Nat) : Nat := s.get (HP_OWN_AX__OWNER a)

/-- The axis a leg is bound to (06 R162). -/
def State.legAxis (s : State) (m : Nat) : Option Nat :=
  (List.range 8).find? fun a => nbit (s.get (AX_BIND_LEG__LEG_MASK a)) m

/-- The bound legs of an axis, in rising order. -/
def State.axLegs (s : State) (a : Nat) : List Nat := bitsOf 24 (s.get (AX_BIND_LEG__LEG_MASK a))

/-- The islands that carry a bound leg of an axis: leg 3i + x lies on island i (09 R289). -/
def State.axIslands (s : State) (a : Nat) : List Nat :=
  (List.range 8).filter fun i => (s.axLegs a).any fun m => m / 3 == i

/-! ## Events (04 R127 to R130) -/

/-- The records a ring of host p holds at most, a power of two. -/
def State.ringSize (s : State) (p : Nat) : Nat := 2 ^ s.get (EV_RING_CFG__SIZE_LOG2 p)

/-- The ring is full when TAIL + 1 equals HEAD modulo the size (04 R128). -/
def State.ringFull (s : State) (p : Nat) : Bool :=
  (s.get (EV_RING_TAIL__TAIL p) + 1) % s.ringSize p == s.get (EV_RING_HEAD__HEAD p) % s.ringSize p

/-- The port may issue requests to its host (03 R95). -/
def State.portIssues (s : State) (p : Nat) : Bool := decide (p < 4) && s.on (HP_LINK__UP p) && s.on (HP_LINK__BME p)

/-- The device is in READY or RUN (02 R59). -/
def State.awake (s : State) : Bool := decide (2 ≤ s.get PWR_STATE__STATE)

/-- The ring can be written: EN is 1, the link is up, the port may issue requests, and the device does not sleep (04 R129,
03 R95). -/
def State.ringLive (s : State) (p : Nat) : Bool := s.on (EV_RING_CFG__EN p) && s.portIssues p && s.awake

/-- A vector's message address and mask live in the port's MSI-X table; PRESUMED: masked after reset (log 4). -/
def msixReset (k : Nat) : Word := if k % 4 = 3 then 1 else 0
def State.msixRd (s : State) (k : Nat) : Word := sget msixReset s.msix k
def State.vecMasked (s : State) (p v : Nat) : Bool := fieldGet (s.msixRd (256 * p + 4 * v + 3)) 0 1 == 1

/-- Send a vector's message, or set its pending bit while it is masked (04 R130), the port may send none (03 R95) or the device
sleeps. -/
def sendMsix (p v : Nat) (s : State) : State :=
  let s := { s with vecPend := sset (fun _ => 0) s.vecPend (64 * p + v) 0 }
  if s.vecMasked p v || !s.portIssues p || !s.awake then { s with pba := sset (fun _ => false) s.pba (64 * p + v) true }
  else talCount 0x63 (8 + p) 1 0 (s.emit (.msix p v))

/-- Count a record on its vector and send the message when EV_COAL COUNT is reached (04 R130). -/
def coalesce (p v : Nat) (s : State) : State :=
  let n := sget (fun _ => 0) s.vecPend (64 * p + v) + 1
  let s := { s with vecPend := sset (fun _ => 0) s.vecPend (64 * p + v) n }
  s.when (max 1 (s.get (EV_COAL__COUNT p v)) ≤ n) (sendMsix p v)

/-- Write one record at TAIL of host p's ring (04 R128). -/
def writeRecord (p src unit count : Nat) (detail : Word) (time : Nat) (s : State) : State :=
  let t := s.get (EV_RING_TAIL__TAIL p)
  let ph := (s.port p).phase
  let base := s.get (EV_RING_BASE_LO__BASE_LO p) * 4096 + s.get (EV_RING_BASE_HI__BASE_HI p) * 2 ^ 32
  let w0 := BitVec.ofNat 32 (src + count * 2 ^ 8 + unit % 256 * 2 ^ 16 + b2n ph * 2 ^ 31)
  let t' := (t + 1) % s.ringSize p
  let s := s.emit (.memWrite p (base + 16 * t) [w0, detail, BitVec.ofNat 32 time, BitVec.ofNat 32 (time / 2 ^ 32)])
  let s := (s.put (EV_RING_TAIL__TAIL p) t').when (t' == 0) fun s => s.upPort p fun q => { q with phase := !ph }
  let s := s.putB (EV_RING_TAIL__FULL p) (s.ringFull p)
  coalesce p (s.get (EV_ROUTE__VECTOR src p)) s

/-- Merge an occurrence into the pending record of its source and host (04 R129). -/
def mergeRecord (p src unit : Nat) (detail : Word) (s : State) : State :=
  let k := 4 * src + p
  let m := sget (fun _ => ({} : Merged)) s.merged k
  let m' := if m.count = 0 then
      { unit := unit, detail := detail, time := s.time, count := 1, full := s.ringLive p && s.ringFull p }
    else { m with count := min 255 (m.count + 1), full := m.full || (s.ringLive p && s.ringFull p) }
  let s := { s with merged := sset (fun _ => {}) s.merged k m' }
  (s.putB (EV_ROUTE__PEND src p) true).put (EV_ROUTE__COUNT src p) m'.count

/-- Whether an occurrence goes to host p: its route is enabled, and for EVS16 to EVS23 the host owns the context or
the ring concerned (04 R129). -/
def State.routed (s : State) (p src unit : Nat) : Bool :=
  s.on (EV_ROUTE__EN src p) &&
    (if 16 ≤ src ∧ src ≤ 22 then s.ctxOwner unit == p else if src = 23 then unit == p else true)

/-- Deliver one occurrence to host p (04 R129). -/
def deliver (p src unit : Nat) (detail : Word) (s : State) : State :=
  if s.ringLive p && !s.ringFull p && (sget (fun _ => ({} : Merged)) s.merged (4 * src + p)).count == 0 then
    writeRecord p src unit 1 detail s.time s
  else mergeRecord p src unit detail s

/-- An occurrence of an event source (04 R129). -/
def raise (src unit : Nat) (detail : Nat) (s : State) : State :=
  s.each (List.range 4) fun p s => s.when (s.routed p src unit) (deliver p src unit (BitVec.ofNat 32 detail))

/-- An event whose DETAIL the spec does not name: a free value (log 2). -/
def raiseFree (src unit : Nat) (s : State) : State := raise src unit s.fresh.1 s.fresh.2

/-- A port takes memory requests: its link is up and it is in D0 (03 R77). -/
def State.portTakes (s : State) (p : Nat) : Bool := s.on (HP_LINK__UP p) && s.get (HP_LINK__DSTATE p) == 0

/-! ## Denials (03 R92) -/

/-- Record a refused access in the denial registers of its port. -/
def deny (p addr : Nat) (bar2 : Bool) (reason : Nat) (s : State) : State :=
  let s := talCount 0x62 (8 + p) 1 0 s
  if s.on (HP_DENY_INFO__VALID p) then s.bump (HP_DENY_INFO__COUNT p)
  else
    let s := (((s.wr (HP_DENY_ADDR p) (BitVec.ofNat 32 addr)).put (HP_DENY_INFO__COUNT p) 1).put (HP_DENY_INFO__REASON p) reason)
    let s := (s.putB (HP_DENY_INFO__BAR p) bar2).putB (HP_DENY_INFO__VALID p) true
    raiseFree 6 p (s.putBit HP_EVENT__DENIED p true)

/-- A refusal is recorded for a host only; firmware has no denial registers. -/
def denyW (w : Writer) (addr : Nat) (bar2 : Bool) (reason : Nat) (s : State) : State :=
  match w with
  | .host p => deny p.val addr bar2 reason s
  | .firmware _ => s

/-! ## Descriptors and the work ledger (04 R112 to R123) -/

/-- Change the descriptor in execution of a context. -/
def State.upExec (s : State) (c : Nat) (f : ExecS → ExecS) : State :=
  match (s.ctx c).exec with
  | some e => s.upCtx c fun x => { x with exec := some (f e) }
  | none => s

/-- Count committed steps in the ledger (04 R123). -/
def stepDone (c n : Nat) (s : State) : State :=
  talCount 0x53 12 n 0 <| s.put (HP_CTX_LEDGER1__STEPS c) (s.get (HP_CTX_LEDGER1__STEPS c) + n)

/-- Decide how the descriptor in execution completes; the first decision stands. -/
def descDone (c code detail : Nat) (s : State) : State :=
  s.upExec c fun e => if e.done.isSome then e else { e with done := some (code, detail) }

/-- Put an axis request's descriptor in its end. -/
def reqDone (r : Option ReqS) (code detail steps : Nat) (s : State) : State :=
  match r with
  | some { target := _, ctx := some c } => descDone c code detail (stepDone c steps s)
  | _ => s

/-- The opcode of a descriptor word 0, and its unit (04 R103). -/
def opOf (w : Word) : Nat := fieldGet w 16 8
def unitOf (w : Word) : Nat := fieldGet w 8 8

/-- Word i of a descriptor. -/
def dword (l : List Word) (i : Nat) : Word := l.getD i 0

/-- Opcodes whose steps read or write host memory (R112): BANK_LOAD, SNAPSHOT, PM_READ, VAULT_WRITE and FW_STAGE. -/
def hostOp (op : Nat) : Bool := [0x20, 0x30, 0x31, 0x50, 0x51].contains op

/-- The descriptor in execution of a context, where it has this opcode and no decided end and the command path runs. After
the loss of the host none reaches its memory (R120). -/
def State.running (s : State) (c op : Nat) : Option ExecS :=
  match (s.ctx c).exec with
  | some e => if opOf (dword e.words 0) = op ∧ e.done = none ∧ s.coreClk ∧ !((s.ctx c).stop == 3 && hostOp op) then some e else none
  | none => none

/-- The axis of descriptors in execution enters state `into`, SAFE or FAULT (04 R118): an AXIS_STATE whose target is SAFE has
reached it by an entry to SAFE; any other ends with AXIS_SAFE, a BANK_LOAD at once, since the banks refuse its next step. -/
def ctxAxisSafe (a into : Nat) (s : State) : State :=
  s.each (s.ctxs.map (·.1)) fun c s =>
    match (s.ctx c).exec with
    | none => s
    | some e =>
      let w := dword e.words 0
      if unitOf w ≠ a ∨ e.done.isSome then s
      else if opOf w = 0x11 then
        if fieldGet (dword e.words 1) 0 4 = 5 ∧ into = 5 then descDone c 0 0 (s.put (HP_CTX_LEDGER1__STEPS c) 2) else descDone c 7 0 s
      else if opOf w = 0x20 then
        descDone c 7 0 s
      else if opOf w = 0x10 ∨ opOf w = 0x21 ∨ opOf w = 0x30 then s.upExec c fun e => { e with phase := 9 }
      else s

/-! ## The vault (14 R420 to R425) -/

/-- Factory values of the words that have one (R425 and the chapters that own them; log 6). -/
def vaultReset (w : Nat) : Word :=
  if w = 161 then 0xFF
  else if 164 ≤ w ∧ w ≤ 171 then 0xF
  else if 162 ≤ w ∧ w ≤ 203 then 0xFFFFFFFF
  else if 204 ≤ w ∧ w ≤ 207 then 1
  else if w = 211 then 500000
  else if w = 289 then 0x786E786E
  else if w = 290 then 0x03E81400
  else if w = 291 then 0x080A03E8
  else if w = 292 then 0x5555
  else if w = 293 then 0x01FF6418
  else if 310 ≤ w ∧ w ≤ 469 ∧ ((w - 310) % 5 = 2 ∨ (w - 310) % 5 = 3) then 0x03FF0000
  else if 502 ≤ w ∧ w ≤ 693 ∧ (w - 502) % 3 = 1 then 0x400000
  else if 694 ≤ w ∧ w ≤ 717 then 8
  else 0

/-- A word whose two copies hold a value. -/
def VWord.of (v : Word) : VWord := { a := v, b := v }

/-- A read takes copy A when its code is good, and copy B otherwise (R420). -/
def VWord.read (x : VWord) : Word := if x.aBad then x.b else x.a

def vaultCell (w : Nat) : VWord := .of (vaultReset w)

def State.vaultAt (s : State) (w : Nat) : VWord := sget vaultCell s.vault w
def State.vaultRd (s : State) (w : Nat) : Word := (s.vaultAt w).read
def State.vaultSet (s : State) (w : Nat) (x : VWord) : State := { s with vault := sset vaultCell s.vault w x }

/-- Both copies of a word take a value, and verify. -/
def State.vaultWr (s : State) (w : Nat) (v : Word) : State := s.vaultSet w (.of v)

end Sys2Proof.Machine
end

