-- ==== Sys2Proof/Machine/AxisOps.lean ====
section
/-! DEFINITION. What every family does to an axis: its state changes, the pulse-off rule, the causes that are
present, the entry to SAFE, the fault ledger's records and device-SAFE (06 R155 to R161, R488, 07 R210 to R212,
12 R351 to R354, 13 R413 to R415). -/

namespace Sys2Proof.Machine

def State.leg (s : State) (m : Nat) : LegS := sget (fun _ => {}) s.legs m
def State.upLeg (s : State) (m : Nat) (f : LegS → LegS) : State :=
  { s with legs := sset (fun _ => {}) s.legs m (f (s.leg m)) }
def State.dma (s : State) (n : Nat) : DmaS := sget (fun _ => {}) s.dmas n
def State.upDma (s : State) (n : Nat) (f : DmaS → DmaS) : State :=
  { s with dmas := sset (fun _ => {}) s.dmas n (f (s.dma n)) }

/-! ## Reads of host memory (03 R76) and the axes of DMA descriptors (05 R138) -/

/-- The space and the address word of a DMA descriptor's source or destination, and the axis of a BANK or SNAP address. -/
def dmaSpace (l : List Word) (dst : Bool) : Nat := fieldGet (dword l 0) (if dst then 16 else 20) 4
def dmaAddrWord (l : List Word) (dst : Bool) : Word := dword l (if dst then 3 else 1)
def dmaAxis (l : List Word) (dst : Bool) : Nat :=
  fieldGet (dmaAddrWord l dst) (if dmaSpace l dst = 2 then 24 else 8) 3

/-- The axes of the descriptor's BANK and SNAP addresses. -/
def dmaAxes (l : List Word) : List Nat :=
  ([false, true].filter fun d => dmaSpace l d == 2 || dmaSpace l d == 3).map (dmaAxis l)

/-- The list of a channel lies in host memory: its list space as of the fetch. -/
def State.dmaListHost (s : State) (n : Nat) : Bool := !(s.dma n).sram && decide ((s.dma n).port ≤ 3)

/-- DMA reads outstanding at a port. -/
def State.dmaReads (s : State) (p : Nat) : Nat :=
  ((List.range 16).map fun n =>
    let d := s.dma n
    if d.port ≠ p then 0
    else b2n (s.dmaListHost n && d.fetchOut) + b2n (s.dmaListHost n && d.ixOut) + b2n (d.issued && dmaSpace d.words false == 0)).sum

/-- Reads of a port that are outstanding: of descriptors, of the DMA engine, the flushes of descriptors in execution, and the one
that a staging copy has under way (log 50). -/
def State.readsOut (s : State) (p : Nat) : Nat :=
  (s.ctxs.countP fun e => e.2.reading && s.ctxOwner e.1 == p) +
    (s.ctxs.countP fun e => match e.2.exec with | some x => x.port == p && x.flush != 0 | none => false) +
    s.dmaReads p + b2n (s.vs.copying && s.steward == p)

/-- The port may issue one more read: requests may go out, and fewer than 64 are outstanding (03 R76, R95). -/
def State.readGo (s : State) (p : Nat) : Bool := s.portIssues p && decide (s.readsOut p < 64)

/-! ## Rings and their reads (04 R98 to R102, R107) -/

def State.ctxSize (s : State) (c : Nat) : Nat := 2 ^ s.get (HP_CTX_CFG__SIZE_LOG2 c)
def State.ctxHead (s : State) (c : Nat) : Nat := s.get (HP_CTX_STATE__HEAD c)
def State.ctxPhase (s : State) (c : Nat) : Nat := s.get (HP_CTX_STATE__PHASE c)

/-- Occupancy (R99). -/
def State.occupancy (s : State) (c : Nat) : Nat := (s.get (HP_CTX_STATE__TAIL c) + s.ctxSize c - s.ctxHead c % s.ctxSize c) % s.ctxSize c

/-- The address of descriptor i. -/
def State.descAddr (s : State) (c i : Nat) : Nat :=
  s.get (HP_CTX_BASE_LO__BASE_LO c) * 4096 + s.get (HP_CTX_BASE_HI__BASE_HI c) * 2 ^ 32 + 32 * i

/-- An idle context reads the descriptor at HEAD (R102). -/
def fetchNext (c : Nat) (s : State) : State :=
  let x := s.ctx c
  if s.ctxPhase c = 1 && x.exec.isNone && x.known.isNone && !x.reading && s.occupancy c != 0 && s.on (HP_CTX_CTRL__EN c) && s.coreClk &&
      s.awake && s.readGo (s.ctxOwner c) then
    (s.emit (.memRead (s.ctxOwner c) (s.descAddr c (s.ctxHead c)) 32)).upCtx c fun x => { x with reading := true }
  else s

/-- Every context that waits for its descriptor reads it. -/
def fetchAll (s : State) : State := s.each (List.range 256) fetchNext

/-- An axis enters SAFE or FAULT: DMA descriptors under way with a BANK or SNAP address of it end at their next element boundary
(05 R145). -/
def dmaAxisSafe (a : Nat) (s : State) : State :=
  s.each (List.range 16) fun n s =>
    s.when ((s.dma n).words != [] && (dmaAxes (s.dma n).words).contains a) fun s => s.upDma n fun d => { d with axSafe := true }

/-- What the entry of an axis to SAFE or FAULT does to descriptors and to DMA (04 R118, 05 R145). -/
def unitsAxisSafe (a into : Nat) (s : State) : State := dmaAxisSafe a (ctxAxisSafe a into s)

/-- An axis event: its bit of AX_EVENT and its source (06 R185). -/
def axEvent (a b detail : Nat) (s : State) : State := raise (64 + b) a detail (s.putBit (AX_EVENT__EVT a) b true)

/-- A table-mode event (07 R226). -/
def tmEvent (a b detail : Nat) (s : State) : State := raise (80 + b) a detail (s.putBit (TM_EVENT__EVT a) b true)

/-- A safety event (12 R383). -/
def safEvent (b unit detail : Nat) (s : State) : State := raise (176 + b) unit detail (s.putBit SAF_EVENT__EVT b true)

def State.upRed (s : State) (f : RedS → RedS) : State := { s with red := f s.red }

/-- A redundancy event (13). -/
def redEvent (b unit detail : Nat) (s : State) : State := raise (208 + b) unit detail (s.putBit RED_EVENT__EVT b true)

/-- A unit is marked unusable; it raises RED_UNIT_OUT (R408, R418). -/
def markOut (ut unit : Nat) (s : State) : State :=
  let s := s.upRed fun r => { r with unus := if r.unus.contains (ut, unit) then r.unus else r.unus ++ [(ut, unit)] }
  redEvent 3 0 (ut + unit * 2 ^ 16) s

def State.axState (s : State) (a : Nat) : Nat := s.get (AX_STATE__STATE a)

/-- CATCH, RUN or HOLD. -/
def State.axLive (s : State) (a : Nat) : Bool := 2 ≤ s.axState a ∧ s.axState a ≤ 4

def State.tableMode (s : State) (a : Nat) : Bool := s.on (AX_BIND__MODE a)
def State.isPm (s : State) (a : Nat) : Bool := s.on (AX_BIND__PM a)

/-- A leg switches (08 R239). -/
def State.legSwitching (s : State) (m : Nat) : Bool :=
  s.on (LEG_CTRL__OUT_EN m) && s.on (LEG_CTRL__CNT_EN m) &&
    match s.legAxis m with
    | some a => !s.tableMode a && (s.axState a == 3 || (s.axState a == 4 && !(s.ax a).holdOut))
    | none => false

/-- READY and RUN follow the axes and the switching legs (02 R60). -/
def updatePower (s : State) : State :=
  let p := s.get PWR_STATE__STATE
  if p < 2 then s
  else
    let busy := (List.range 8).any s.axLive || (List.range 24).any s.legSwitching
    s.put PWR_STATE__STATE (if busy then 3 else 2)

/-- A wake source becomes valid (02 R62): it is latched, and where it is enabled power-up starts and HPp_WAKE_N is driven
on every port whose link is down (R72); a descent under way is to be abandoned (R61). A device in power-on reset latches nothing. -/
def wake (src : Nat) (s : State) : State :=
  if s.get PWR_BOOT_STATUS__PHASE = 0 then s else
  let s := if src = 15 then s.putB PWR_WAKE_CAUSE__TRIP true else s.putBit PWR_WAKE_CAUSE__SRC src true
  if (!s.awake || s.on PWR_STATE__DESCENDING) && (src == 15 || nbit (s.get PWR_WAKE_EN__SRC_EN) src) then
    let s := s.when (!s.awake) fun s => s.each (List.range 4) fun p s => s.when (!s.on (HP_LINK__UP p)) fun s => s.upPort p fun q => { q with wakeN := true }
    s.upSys fun y => { y with waking := true }
  else s

/-! ## The fault ledger (13 R413, R414) -/

/-- The slot the next record takes: the lowest unused one, else that of the oldest record that is not open. -/
def State.flNext (s : State) : Option Nat :=
  match (List.range 256).find? fun i => s.fl.all fun r => r.slot != i with
  | some i => some i
  | none => (s.fl.find? fun r => r.st != 0).map (·.slot)

/-- The unit that stands in for a unit of class 1. -/
def standIn (ut unit : Nat) : Nat × Nat :=
  if ut = 3 then (3, unit / 16 * 16 + 8) else if ut = 2 ∨ ut = 8 then (ut, 1 - unit) else if ut = 12 then (12, unit / 2 * 2 + (1 - unit % 2))
  else (ut, unit)

/-- The state of a physical fast converter as FM_FPSTAT shows it. -/
def fpStat (fp : Nat) : FieldRef := FM_FPSTAT__STATE (fp / 16) (fp % 16)

def pxState (x : Nat) : FieldRef := if x = 0 then PM_STATUS__PX0_STATE else PM_STATUS__PX1_STATE

/-- The stand-in of a unit of class 1 is in place (13 R408, R414). A pair's slots are served by others, and a cache way is disabled; an
engine, a precision converter and a comparator copy have the other, a lane the spare, and a fast converter a reserve, or it serves no
channel. DESIGN CHOICE (log 12): the record of a unit in whose place nothing serves stays open until the unit returns, or its stand-in. -/
def State.inPlace (s : State) (ut unit : Nat) : Bool :=
  match ut with
  | 2 => s.get (RED_CE_STAT__STATE (1 - unit)) == 0
  | 3 => unit % 16 == 8 || nbit (s.get (RED_CE_STAT__LANE_OK (unit / 16))) 8
  | 7 => (List.range 36).any fun p => s.get (fpStat p) == 1 || (p == unit && s.get (fpStat p) != 0)
  | 8 => s.get (pxState (1 - unit)) != 3
  | 9 => false
  | 12 => s.get (if nbit unit 1 then FM_CH_STATUS__WB_COPIES (unit / 4) else FM_CH_STATUS__WA_COPIES (unit / 4)) != 0
  | _ => true

/-- The handling set of an open record (13 R414). -/
def State.handles (s : State) (r : FlRec) (ut unit : Nat) : Bool :=
  (r.ut == ut && r.unit == unit) ||
  (r.cls == 1 && standIn r.ut r.unit == (ut, unit)) ||
  ((r.cls == 2 || r.cls == 3) && (ut == 5 || (ut == 1 && (s.get (RED_CP_STAT__STATE unit) == 1 ||
    (let c := sget (fun _ => ({} : CpS)) s.cps unit; c.first && c.heirOf == r.unit))))) ||
  (r.cls == 4 && r.axes.any fun a => (ut == 11 && (s.axLegs a).contains unit) || (ut == 15 && (s.axIslands a).contains unit))

/-- Refresh RED_FL_HEAD. -/
def flHead (s : State) : State :=
  let s := s.put RED_FL_HEAD__NEXT ((s.flNext).getD 0)
  s.put RED_FL_HEAD__OPEN (min 255 (s.fl.countP fun r => r.st == 0 && r.cls != 0))

/-- Word 1 of a record (13 R413). -/
def FlRec.word1 (r : FlRec) : Nat := r.kind + r.ut * 2 ^ 8 + r.detail * 2 ^ 12 + r.unit * 2 ^ 16

/-- The record's four words as RED_FL_W shows them. -/
def FlRec.words (r : FlRec) : List Nat :=
  [r.seq % 2 ^ 16 + r.parent.getD 0 * 2 ^ 16 + b2n r.parent.isSome * 2 ^ 24 + r.depth * 2 ^ 25 + r.cls * 2 ^ 27 + r.st * 2 ^ 30,
   r.word1, r.time % 2 ^ 32, r.time / 2 ^ 32 % 2 ^ 32]

/-- The axes that a class 4 record concerns: its axis, the axis of its leg, those of a comparator's channel, or those
bound to the slot of a halted pair. -/
def State.recAxes (s : State) (ut unit : Nat) : List Nat :=
  if ut = 10 then [unit]
  else if ut = 11 then (s.legAxis unit).toList
  else if ut = 12 then
    let k := unit / 4
    if s.on (FM_CH_BIND__BOUND k) then [s.get (FM_CH_BIND__AXIS k)]
    else if s.on (FM_CH_BIND__SHARED k) then bitsOf 8 (s.get (FM_CH_BIND__SHARE_MASK k)) else []
  else if ut = 1 && s.on (RED_CP_STAT__HAS_SLOT unit) then
    (List.range 8).filter fun a => s.get (RED_AXSLOT__SLOT a) == s.get (RED_CP_STAT__SLOT unit)
  else []

/-- Write a record, nested under the newest open record whose handling set holds its unit; answers whether its class
is 5 (13 R413, R414). A record that finds every slot open is not kept (log 12). -/
def flWrite (kind cls ut detail unit : Nat) (s : State) : State × Bool :=
  let par := if cls = 0 then none else (s.fl.filter fun r => r.st == 0 && r.cls != 0 && s.handles r ut unit).getLast?
  let depth := match par with | some r => min 2 (r.depth + 1) | none => 0
  let cls := if depth = 2 then 5 else cls
  match s.flNext with
  | none => (s, cls == 5)
  | some slot =>
    let seq := s.get RED_FL_HEAD__SEQ
    let r : FlRec := { slot := slot, seq := seq, parent := par.map (·.slot), depth := depth, cls := cls,
                       st := if cls = 0 then 1 else 0, kind := kind, ut := ut, detail := detail, unit := unit, time := s.time,
                       axes := if cls = 4 then s.recAxes ut unit else [] }
    let sup := fun (q : FlRec) => match par with
      | some p => if q.slot = p.slot ∧ p.cls < cls then { q with st := 2 } else q
      | none => q
    let s := { s with fl := ((s.fl.filter fun (q : FlRec) => q.slot != slot).map sup) ++ [r] }
    let s := flHead (s.put RED_FL_HEAD__SEQ ((seq + 1) % 2 ^ 16))
    (s.when (1 ≤ cls) (redEvent 7 slot r.word1), cls == 5)

/-- Open records whose own handling has ended resolve, unless a record nested under them is still open. -/
def flSweep (l : List FlRec) : List FlRec :=
  l.map fun r => if r.st = 0 ∧ r.fin ∧ !(l.any fun q => q.st == 0 && q.parent == some r.slot && q.depth == r.depth + 1) then { r with st := 1 } else r

/-- The handling of the open records that a test names has ended (R414). -/
def flResolve (p : FlRec → Bool) (s : State) : State :=
  let l := s.fl.map fun r => if r.st = 0 ∧ r.cls ≠ 5 ∧ p r then { r with fin := true } else r
  flHead { s with fl := flSweep (flSweep (flSweep l)) }

/-- Class 4 records end with the safe states of their axes; an axis outside SAFE has none to wait for. -/
def flSettle (s : State) : State :=
  flResolve (fun r => r.cls == 4 && r.axes.all fun a => s.get (AX_STATE__STATE a) != 5 || (s.ax a).safeDone) s

/-! ## Speed and the pulse-off rule (07 R203, R210, R211) -/

/-- The axis an interface is bound to. -/
def State.piAxis (s : State) (n : Nat) : Option Nat :=
  (List.range 8).find? fun a => s.on (AX_BIND__PI_EN a) && s.get (AX_BIND__PI_SEL a) == n

/-- The position interface bound to an axis, where its position is valid; in SATURATE mode it never serves as a
sector source (11 R327). -/
def State.axPi (s : State) (a : Nat) : Option Nat :=
  let n := s.get (AX_BIND__PI_SEL a)
  if s.on (AX_BIND__PI_EN a) && s.on (PI_STATUS__POS_VALID n) && !(s.tableMode a && s.on (PI_CFG__LIMIT_MODE n)) then some n
  else none

/-- π as a ratio, to 39 digits; speeds that use it are open in their last bit (log 9). -/
def piNum : Nat := 3141592653589793238462643383279502884197
def piDen : Nat := 10 ^ 39

def State.pi (s : State) (n : Nat) : PiS := sget (fun _ => {}) s.pis n
def State.upPi (s : State) (n : Nat) (f : PiS → PiS) : State := { s with pis := sset (fun _ => {}) s.pis n (f (s.pi n)) }

/-- PI_SPD_CFG and PI_RATE as they are in effect: a write waits for the next edge, frame or period (11 R325). -/
def State.piSpd (s : State) (n : Nat) : Word := ((s.pi n).held.map (·.1)).getD (s.rd (PI_SPD_CFG n))
def State.piRateCfg (s : State) (n : Nat) : Word := ((s.pi n).held.map (·.2)).getD (s.rd (PI_RATE n))

/-- PI_SPD_CFG or PI_RATE is to be written: what is in effect stays so until the next edge, frame or period. -/
def piHold (n : Nat) (s : State) : State := s.upPi n fun p => { p with held := some (s.piSpd n, s.piRateCfg n) }

/-- An edge, frame or period: what was written takes effect. -/
def piTake (n : Nat) (s : State) : State := s.upPi n fun p => { p with held := none }

/-- The time since the last counted edge, frame or period. -/
def State.piSince (s : State) (n : Nat) : Nat := s.time - (((s.pi n).hist.head?).map (·.1)).getD 0

/-- TIMEOUT has passed since the last counted edge (11 R338). -/
def State.piQuiet (s : State) (n : Nat) : Bool := decide (max 1 (fieldGet (s.piSpd n) 16 8) * 200000 < s.piSince n)

/-- The speed of dc counts in dt units of 5 ns, in units of 2^-23 of SPD_FS (11 R336, R340). -/
def State.piRate (s : State) (n : Nat) (dc : Int) (dt : Nat) : Int :=
  if dt = 0 then 0
  else
    let num := dc.natAbs * 2 * piNum * 2 ^ 23 * (2 * 10 ^ 8)
    let den := s.get (PI_CPR__CPR n) * dt * max 1 (fieldGet (s.piSpd n) 0 16) * piDen
    let q := num / den + (if dc ≠ 0 ∧ Config.roundUp s.free then 1 else 0)
    if dc < 0 then -(min q (2 ^ 23) : Nat) else (min q (2 ^ 23 - 1) : Nat)

/-- The speed of an interface as it reads now: bounded by the time since the last edge, and 0 after TIMEOUT or while it is
not valid (11 R338, R339). -/
def State.piSpeed (s : State) (n : Nat) : Int :=
  let v := sgn 24 (s.get (PI_SPEED__SPEED n))
  let e := s.piSince n
  if !s.on (PI_STATUS__SPD_VALID n) then 0
  else if s.get (PI_CFG__MODE n) = 3 ∨ s.get (PI_CFG__MODE n) = 4 then v
  else match (s.pi n).ivl with
    | none => v
    | some d =>
      if s.piQuiet n then 0
      else if d < e then s.piRate n (if v < 0 then -1 else if v = 0 then 0 else 1) e
      else v

/-- The tracker times edges: it serves while the gates are off (07 R203); while a short circuit is held, it times the phase
currents, with ISPD_EN = 1 only (R212). -/
def State.zcLive (s : State) (a : Nat) : Bool :=
  s.tableMode a && (s.tm a).tracking && (!s.on (AX_STATE__ASC_ACTIVE a) || s.on (TM_ZC_CFG__ISPD_EN a))

/-- The speed of the tracker: 0 while it is slow, none while it is neither slow nor locked (07 R207). -/
def State.zcSpd (s : State) (a : Nat) : Option Int :=
  if s.on (TM_STATUS__ZC_SLOW a) then some 0
  else if s.on (TM_STATUS__ZC_LOCK a) then some (sgn 24 (s.get (TM_ZC_SPEED__SPEED a))) else none

/-- The mechanical speed of an axis in units of 2^-23 of its full scale, from the source that serves (07 R203); none
where no valid speed is available (R211). A slow tracker reads 0. -/
def State.axSpeed (s : State) (a : Nat) : Option Int :=
  let t := s.tm a
  let trk := s.zcSpd a
  let pi : Option Int := match s.axPi a with
    | some n => if s.on (PI_STATUS__SPD_VALID n) then some (s.piSpeed n) else none
    | none => none
  let est : Option Int := if s.on (TM_STATUS__SPD_VALID a) then some t.speed else none
  let st := s.axState a
  if st = 0 then none
  else if st = 3 ∨ st = 4 ∨ st = 2 then
    if t.lost ∨ t.recov = 1 ∨ t.recov = 4 ∨ t.recov = 5 then (if t.lost ∧ pi.isSome then pi else some t.goodSpeed)
    else if t.recov = 2 then trk.orElse fun _ => pi
    else if t.recov ≠ 0 ∨ st = 2 then (est.orElse fun _ => trk).orElse fun _ => pi
    else if s.get (TM_STATUS__POS_SRC a) = 2 then pi.orElse fun _ => est
    else est.orElse fun _ => pi
  else (if s.zcLive a then trk else none).orElse fun _ => pi

/-- The source that POS_SRC shows changes (07 R203, R204). -/
def posSrc (a v : Nat) (s : State) : State :=
  if s.get (TM_STATUS__POS_SRC a) = v then s else tmEvent a 9 v (s.put (TM_STATUS__POS_SRC a) v)

/-- The tracker starts over (07 R207). -/
def trackerReset (a : Nat) (s : State) : State :=
  ((s.putB (TM_STATUS__ZC_LOCK a) false).putB (TM_STATUS__ZC_SLOW a) false).upTm a fun t =>
    { t with idxOk := false, ivals := [], accepted := 0, rejected := 0, tracking := true }

/-- The tracker takes over: one that serves already goes on without a new acquisition (06 R156). -/
def trackStart (a : Nat) (s : State) : State := if (s.tm a).tracking then s else trackerReset a s

/-! ## Torque limit and discharge of a link group (12 R369, R372, R373) -/

def State.lnk (s : State) (g : Nat) : LinkS := sget (fun _ => {}) s.links g
def State.upLnk (s : State) (g : Nat) (f : LinkS → LinkS) : State :=
  { s with links := sset (fun _ => {}) s.links g (f (s.lnk g)) }

/-- A bit of a group's SAF_LINK_STAT: 0 OV1, 1 OV2, 2 CHOP_FAIL, 3 TLIM, 4 discharge, 5 done, 6 failed, 7 injection. -/
def State.linkBit (s : State) (g b : Nat) : Bool := nbit (s.get (SAF_LINK_STAT__GROUP g)) b
def linkPut (g b : Nat) (v : Bool) (s : State) : State := s.putBit (SAF_LINK_STAT__GROUP g) b v

/-- Parts of τ_FS: TRAMP × 10 µs in units of 5 ns. -/
def State.tlimSpan (s : State) (g : Nat) : Nat := max 1 (s.get (SAF_LINK_CFG__TRAMP g)) * 2000

/-- The present level of a group's limit. -/
def State.tlimNow (s : State) (g : Nat) : Nat :=
  let l := s.lnk g
  if l.dir = 1 then l.lev - (s.time - l.since) else if l.dir = 2 then min (s.tlimSpan g) (l.lev + (s.time - l.since)) else l.lev

/-- Axes whose torque reference a group limits show TLIM_ACT; an injection limits its own axis. -/
def tlimShow (s : State) : State :=
  s.each (List.range 8) fun a s =>
    s.putB (SAF_AX_STAT__TLIM_ACT a) ((List.range 4).any fun g => s.linkBit g 3 && nbit (s.get (SAF_LINK_AX__MACH_MASK g)) a)

/-- The limit on an axis's torque reference in units of 2^-k of τ_FS, the lowest of its groups. -/
def State.axTlim (s : State) (a k : Nat) : Option Nat :=
  ((List.range 4).filter fun g => s.linkBit g 3 && nbit (s.get (SAF_LINK_AX__MACH_MASK g)) a).foldl (fun m g =>
    let v := s.tlimNow g * 2 ^ k / s.tlimSpan g
    some (match m with | some x => min x v | none => v)) none

/-- The limit moves to 0, from its present level or from τ_FS. -/
def tlimFall (g : Nat) (s : State) : State :=
  let lev := if s.linkBit g 3 then s.tlimNow g else s.tlimSpan g
  let was := s.linkBit g 3
  let s := (linkPut g 3 true s).upLnk g fun l => { l with lev := lev, since := s.time, dir := 1 }
  tlimShow (s.when (!was) (safEvent 5 g 1))

/-- The limit moves back to τ_FS once nothing holds it. -/
def tlimRise (g : Nat) (s : State) : State :=
  if !s.linkBit g 3 || s.linkBit g 0 || s.linkBit g 2 || s.linkBit g 7 then s
  else s.upLnk g fun l => { l with lev := s.tlimNow g, since := s.time, dir := 2 }

def dschUpdate (s : State) : State := s.upSys fun y => { y with dsch := (List.range 4).any fun g => (s.lnk g).dsch }

/-- The conditions of an injection (12 R372). -/
def State.injOk (s : State) (g : Nat) : Bool :=
  let a := s.get (SAF_LINK_DIS__DIS_AX g)
  (s.axState a == 3 || s.axState a == 4) &&
    (match s.axSpeed a with | some w => decide (w.natAbs ≤ s.get (SAF_LINK_INJ__DIS_SPD g) * 2 ^ 11) | none => false)

/-- Injection starts: TLIM is 0 and DIS_PSI replaces the flux reference. -/
def injStart (g : Nat) (s : State) : State :=
  let was := s.linkBit g 3
  let s := linkPut g 7 true (linkPut g 3 true (s.putB (SAF_AX_STAT__DIS_INJ (s.get (SAF_LINK_DIS__DIS_AX g))) true))
  let s := s.upLnk g fun l => { l with lev := 0, since := s.time, dir := 1 }
  tlimShow (s.when (!was) (safEvent 5 g 1))

/-- Injection stops. -/
def injStop (g : Nat) (s : State) : State :=
  if s.linkBit g 7 then tlimRise g (linkPut g 7 false (s.putB (SAF_AX_STAT__DIS_INJ (s.get (SAF_LINK_DIS__DIS_AX g))) false)) else s

def dschStart (g : Nat) (s : State) : State := dschUpdate (s.upLnk g fun l => { l with dsch := true })

/-- A discharge ends: done, or failed with its detail. -/
def disEnd (g : Nat) (fail : Option Nat) (s : State) : State :=
  let inj := s.linkBit g 7
  let s := injStop g (dschUpdate (s.upLnk g fun l => { l with dis := 0, dsch := false }))
  let s := linkPut g 6 fail.isSome (linkPut g 5 fail.isNone (linkPut g 4 false s))
  match fail with
  | some d => safEvent 10 g d s
  | none => safEvent 9 g (2 * b2n inj) s

/-- The axes of a group. -/
def State.groupAxes (s : State) (g : Nat) : Nat := s.get (SAF_LINK_AX__MACH_MASK g) ||| s.get (SAF_LINK_AX__GRID_MASK g)

/-- A requested discharge starts once its conditions hold; an injection whose conditions fail ends, or DSCH takes over. -/
def disEval (g : Nat) (s : State) : State :=
  let l := s.lnk g
  let mode := s.get (SAF_LINK_DIS__DIS_MODE g)
  if l.dis = 1 then
    if s.linkBit g 4 || nbit (s.get SAF_CT_STAT__FB) (s.get (SAF_LINK_AX__MAIN_CT g)) ||
        (bitsOf 8 (s.groupAxes g)).any (fun a => a != s.get (SAF_LINK_DIS__DIS_AX g) && s.axLive a) then s
    else
      let inj := 2 ≤ mode && s.injOk g
      if mode = 2 ∧ !inj then s
      else
        let s := linkPut g 4 true (s.upLnk g fun l => { l with dis := 2 })
        safEvent 9 g (1 + 2 * b2n inj) (if inj then injStart g s else dschStart g s)
  else if l.dis = 2 ∧ s.linkBit g 7 ∧ !s.injOk g then
    if mode = 3 then dschStart g (injStop g s) else disEnd g (some 3) s
  else s

def disAll (s : State) : State := s.each (List.range 4) disEval

/-- Requests of the leg interlock (08 R246): 0 both off, 1 lower on, 2 upper on. A turn-off leaves at once; a turn-on
waits for its dead time. -/
def legReq (m want : Nat) (s : State) : State :=
  let s := s.when (want != 2) fun s => s.putB (LEG_STATUS__UPPER m) false
  let s := s.when (want != 1) fun s => s.putB (LEG_STATUS__LOWER m) false
  let wait := if want = 2 then !s.on (LEG_STATUS__UPPER m) else if want = 1 then !s.on (LEG_STATUS__LOWER m) else false
  s.upLeg m fun l => { l with dead := if wait then want else 0 }

/-- Clear a short circuit that only the pulse-off rule forced (07 R212). -/
def releaseForced (a : Nat) (s : State) : State :=
  if (s.ax a).forced then
    let s := (s.upAx a fun x => { x with forced := false, hold := 0 }).putB (AX_STATE__ASC_ACTIVE a) false
    let s := s.put (SAF_AX_STAT__ASC_SIDE a) 0
    let s := s.each (s.axLegs a) fun m s => legReq m 0 s
    trackStart a (posSrc a 3 s)
  else s

/-- Judge PO_BLOCK anew (07 R210, R211). -/
def updatePo (a : Nat) (s : State) : State :=
  if s.axState a = 0 ∨ !s.isPm a then
    if s.on (AX_STATE__PO_BLOCK a) then tmEvent a 8 0 (s.putB (AX_STATE__PO_BLOCK a) false) else s
  else
    let old := s.on (AX_STATE__PO_BLOCK a)
    let ke := s.get (TM_KE__KE a)
    let lim := s.get (TM_VLIM__VLIM a) * 2 ^ 20
    let new := match s.axSpeed a with
      | none => true
      | some w => if ke * w.natAbs > lim then true else if ke * w.natAbs * 32 ≤ lim * 31 then false else old
    if new = old then s
    else
      let s := tmEvent a 8 (b2n new) (s.putB (AX_STATE__PO_BLOCK a) new)
      if !new && (s.axState a == 5 || s.axState a == 6) then releaseForced a s else s

/-! ## Causes present (06 R488) -/

/-- Every leg of the axis shows soft step 3 (09 R279). -/
def State.softDone (s : State) (a : Nat) : Bool :=
  (s.axLegs a).all fun m => s.get (GI_L_STATUS__SOFT_STEP (m / 3) (m % 3)) == 3

/-- A supply of a channel of the leg is low, as GI_STATUS shows it (09 R267). -/
def State.legSupplyLow (s : State) (m : Nat) : Bool :=
  let i := m / 3
  let x := m % 3
  !(s.on (GI_STATUS__VDDI_OK i) && s.on (GI_STATUS__VGP_OK i) && s.on (GI_STATUS__VGN_OK i) &&
    nbit (s.get (GI_STATUS__VGPU_OK i)) x && nbit (s.get (GI_STATUS__VGNU_OK i)) x)

def State.isl (s : State) (i : Nat) : IslandS := sget (fun _ => {}) s.isls i

/-- A condition of cause 4 stands (06 R488); the torque monitor judges no axis in SAFE or FAULT (12 R367). -/
def State.whyStands (s : State) (a w : Nat) : Bool :=
  if w = 0 then s.on SAF_STATUS__STO_ACT && s.on (SAF_AX_CFG__STO_EN a)
  else if w = 1 then s.on (SAF_AX_STAT__SS1 a) || s.on (SAF_AX_STAT__SS1_STO a)
  else if w = 3 then s.on (SAF_AX_STAT__CT_FLT a)
  else if w = 4 then s.on (SAF_AX_STAT__OV2 a)
  else false

/-- Whether a cause of R158 is present on an axis (06 R488). -/
def State.causePresent (s : State) (a c : Nat) : Bool :=
  let x := s.ax a
  if c = 2 then x.causes.contains 2 && (!s.softDone a || x.winFired.any fun k =>
    let ch := k / 2
    if k % 2 = 0 then s.on (FM_CH_STATUS__WA_OUT ch) || s.get (FM_CH_STATUS__WA_COPIES ch) == 0
    else s.on (FM_CH_STATUS__WB_OUT ch) || s.get (FM_CH_STATUS__WB_COPIES ch) == 0)
  else if c = 3 then x.causes.contains 3 && !s.softDone a
  else if c = 4 then x.why.any (s.whyStands a)
  else if c = 7 then !(s.on CLK_STATUS__PLLA_LOCK && s.on CLK_STATUS__PLLB_LOCK)
  else if c = 9 then
    (s.axIslands a).any (fun i => !s.on (GI_STATUS__LINK_UP i)) ||
      (s.axLegs a).any fun m => s.legSupplyLow m ||
        (let ch := fun c => (s.isl (m / 3)).chs.getD (2 * (m % 3) + c) 0
         (s.on (GI_L_STATUS__GATE_FAULT_U (m / 3) (m % 3)) && ch 0 != 0) || (s.on (GI_L_STATUS__GATE_FAULT_L (m / 3) (m % 3)) && ch 1 != 0) ||
          (s.on (GI_L_STATUS__XCMD_LATCH (m / 3) (m % 3)) && (ch 0 != 0 || ch 1 != 0)))
  else if c = 12 then s.get (RED_CE_STAT__STATE 0) != 0 && s.get (RED_CE_STAT__STATE 1) != 0
  else if c = 13 then s.on RED_STATUS__DSAFE
  else false

def State.anyCause (s : State) (a : Nat) : Bool := (List.range 16).any (s.causePresent a)

/-! ## State changes -/

/-- A condition of 08 R239 is lost: both channels off at once, the residues cleared (R249, R250). -/
def legStop (m : Nat) (s : State) : State :=
  if (s.leg m).act && !s.legSwitching m then
    let s := legReq m 0 ((s.put (LEG_RESIDUE__UPPER m) 0).put (LEG_RESIDUE__LOWER m) 0)
    s.upLeg m fun l => { l with act := false, wait := false, drop := false, ext := false, h := false }
  else s

/-- The bound legs of an axis hand their gates over and drop what waits (08 R242). -/
def legsDrop (a : Nat) (s : State) : State :=
  s.each (s.axLegs a) fun m s =>
    let s := s.upLeg m fun l => { l with pend := {}, late := {}, staged := {}, arr := l.arr.filter fun e => !e.1 }
    let s := ((s.putB (LEG_STATUS__STAGED m) false).putB (LEG_STATUS__PENDING m) false).putB (LEG_STATUS__LATE_SLOT m) false
    (s.put (LEG_RESIDUE__UPPER m) 0).put (LEG_RESIDUE__LOWER m) 0

/-- The axis takes a new state: AX_STATE, AX_STATE_CHANGE, the setpoint's return to 0 (06 R161), the trip clear at
OFF (09 R280), the discarded values of its legs at OFF, SAFE and FAULT (08 R242), and the completion of a request for that
state. At an entry to SAFE, PO_BLOCK is judged anew once the safe state is chosen (07 R212). -/
def axGoto (a new : Nat) (s : State) : State :=
  let old := s.axState a
  let s := s.put (AX_STATE__STATE a) new
  let s := s.each (s.axLegs a) legStop
  let s := s.when (new != 5 && new != 6) fun s =>
    (s.put (AX_STATE__SAFE_CAUSE a) 0).upAx a fun x =>
      { x with causes := [], latched := [], winFired := [], didtLow := false, didtHigh := false, prot := false, safeDone := false, ov2Asc := false, ov2Off := false,
                        lossOff := false, why := [], whyLatched := [] }
  let s := s.when (new != 5 && new != 6) fun s => s.putB (SAF_AX_STAT__TMON_FLT a) false
  let s := axEvent a 0 (new + old * 16 + s.get (AX_STATE__SAFE_CAUSE a) * 256) s
  let s := s.when (new ≤ 1 || new == 5 || new == 6) fun s =>
    ((s.wr (AX_SETPOINT a) 0).wr (AX_R0 a) 0).upAx a fun x =>
      { x with r0 := {}, r0Prev := {}, stepDue := 0, ready := false, outDue := false, feHold := false, eccHold := false }
  let s := s.when (new == 0) fun s =>
    let s := posSrc a 0 (s.putB (SAF_AX_STAT__WIN_IGN a) false)
    let s := s.when (s.tableMode a) fun s => (trackerReset a s).upTm a fun t => { t with tracking := false }
    s.upAx a fun x => { x with clearDue := s.axIslands a }
  let s := s.when (new == 0 || new == 5 || new == 6) (legsDrop a)
  let s := s.when (new == 3) fun s => s.upAx a fun x => { x with feCount := 0 }
  let s := s.when (new ≤ 2 || 5 ≤ new) fun s => s.upTm a fun t => { t with fell := false }
  let s := match (s.ax a).req with
    | some r => if r.target = new then (reqDone (some r) 0 0 1 s).upAx a fun x => { x with req := none } else s
    | none => s
  flSettle (updatePower (disAll (s.when (new != 5) (updatePo a))))

/-! ## The safe state and the entry to SAFE -/

/-- The side of an active short circuit at the entry (12 R351, R353): 1 lower, 2 upper. -/
def State.ascSide (s : State) (a : Nat) : Nat :=
  let x := s.ax a
  let cfg := if s.get (SAF_AX_CFG__SS_MODE a) = 0 then s.get (SAF_AX_CFG__ASC_SIDE a) + 1 else s.get (SAF_AX_CFG__SS_MODE a)
  if x.didtLow && !x.didtHigh then 2 else if x.didtHigh && !x.didtLow then 1 else cfg

/-- The safe state is an active short circuit: configured (R351), forced by the pulse-off rule (07 R212), or by OV2. -/
def State.wantAsc (s : State) (a : Nat) : Bool :=
  s.tableMode a && !(s.ax a).ov2Off && ((s.get (SAF_AX_CFG__SS_MODE a) != 0 && !(s.ax a).lossOff) || (s.isPm a && (s.on (AX_STATE__PO_BLOCK a) || (s.ax a).ov2Asc)))

/-- Put the safe state in place (12 R352): the hold state goes to the islands; without a trip the gates follow it
through the interlock, and with one the islands apply it after the soft turn-off. -/
def applySafe (a : Nat) (s : State) : State :=
  let asc := s.wantAsc a
  let side := if asc then s.ascSide a else 0
  let forced := asc && s.get (SAF_AX_CFG__SS_MODE a) == 0 && !(s.ax a).ov2Asc
  let s := s.upAx a fun x => { x with hold := side, forced := forced }
  let s := (s.putB (AX_STATE__ASC_ACTIVE a) asc).put (SAF_AX_STAT__ASC_SIDE a) side
  let s := s.when (s.tableMode a) fun s => trackStart a (posSrc a (if asc then 0 else 3) s)
  s.each (s.axLegs a) fun m s => legReq m (if (s.ax a).prot then 0 else side) s

/-- The result of a measurement of a basting check, numbered as in LegS.bast. -/
def bastField (m k : Nat) : FieldRef :=
  if k = 0 then GI_L_BRES__GATE_U (m / 3) (m % 3) else if k = 1 then GI_L_BRES__GATE_L (m / 3) (m % 3)
  else if k = 2 then GI_L_BRES__PHASE (m / 3) (m % 3) else GI_L_BRES__WIND (m / 3) (m % 3)

/-- A basting check on a leg is abandoned; its results that are still to come read 7 (09 R283). -/
def bastAbandon (m : Nat) (s : State) : State :=
  let i := m / 3
  let x := m % 3
  if s.on (GI_L_BRES__RUNNING i x) then
    let s := s.each (s.leg m).bast fun k s => s.put (bastField m k) 7
    let s := s.upLeg m fun l => { l with bast := [] }
    (s.putB (GI_L_BRES__RUNNING i x) false).putB (GI_L_BRES__VALID i x) true
  else s

/-- A trip is to be sent on the seam (15 R453): 0 protection path, 1 SAFE with cause 4, 2 device-SAFE. -/
def seamDue (k : Nat) (s : State) : State :=
  let src := if k = 0 then s.on SEAM_TRIP_TX__SRC_PROT else if k = 1 then s.on SEAM_TRIP_TX__SRC_SAF else s.on SEAM_TRIP_TX__SRC_DSAFE
  if src then { s with seam := { s.seam with due := s.seam.due ++ [k] } } else s

/-- A close that has passed t2 is abandoned: the set in use, x̂, the ramp and the sample count are as before it (06 R183). -/
def closeUndo (a : Nat) (s : State) : State :=
  let b := (s.ax a).back
  if (s.ax a).closing ≠ 3 then s
  else (((s.put (AX_STATUS__SET_IN_USE a) b.set).wr (AX_SAMPLE_CNT a) b.cnt).wr (AX_R0 a) (BitVec.ofNat 32 (unsgn 24 b.r0.m + unsgn 8 b.r0.e * 2 ^ 24))).upAx a
    fun x => { x with x := b.x, r0 := b.r0, r0Prev := b.r0 }

/-- A refused request: LAST_REQ holds its code, and its descriptor completes. -/
def reqRefuse (a code : Nat) (ctx : Option Nat) (s : State) : State :=
  let s := s.put (AX_STATE__LAST_REQ a) code
  match ctx with
  | some c => if code = 2 then descDone c 8 (s.get (AX_STATUS__CHK_RESULT a)) s else descDone c 4 (s.axState a) s
  | none => s

/-- A close, or a catch that waits for its clocks, ends in its state OFF or COAST, and its request is refused with a code. -/
def closeRefuse (a code : Nat) (s : State) : State :=
  if s.on (AX_STATE__CLOSING a) then
    let r := (s.ax a).req
    let s := ((closeUndo a s).putB (AX_STATE__CLOSING a) false).upAx a fun x =>
      { x with closing := 0, req := none, stepDue := 0, ready := false, outDue := false }
    let s := (s.put (TM_STATUS__CATCH_PHASE a) 0).upTm a fun t => { t with catchPh := 0 }
    reqRefuse a code (r.bind (·.ctx)) s
  else s

/-- SAFE turns into FAULT (06 R156). -/
def toFault (a : Nat) (s : State) : State :=
  let x := s.ax a
  let s := axGoto a 6 (unitsAxisSafe a 6 s)
  axEvent a 2 (s.get (AX_STATE__SAFE_CAUSE a)) (s.upAx a fun y => { y with causes := x.causes, latched := x.latched, winFired := x.winFired })

/-- The entry to SAFE on a cause (06 R158, R159, R161), with its record in the fault ledger; answers whether the
record took class 5. A further cause in SAFE or FAULT is recorded; one that latches turns SAFE into FAULT at once where the
safe state is established (R156). -/
def safeCore (a cause : Nat) (latch : Bool) (s : State) : State × Bool :=
  let st := s.axState a
  let s := s.upAx a fun x => { x with causes := if x.causes.contains cause then x.causes else x.causes ++ [cause],
                                       latched := if latch && !x.latched.contains cause then x.latched ++ [cause] else x.latched }
  let mine := nbit (s.get SEAM_TRIP_TX__AXMASK) a
  let s := s.when (mine && cause == 4 && st != 5 && st != 6) (seamDue 1)
  if st = 5 ∨ st = 6 then
    let r := flWrite 0x10 4 10 cause a s
    ((flSettle r.1).when (st == 5 && (s.ax a).safeDone && (s.ax a).latched != []) (toFault a), r.2)
  else
    let s := closeUndo a s
    let s := s.when (st == 2 || (s.tm a).recov == 3 || (s.tm a).catchPh != 0) fun s => s.put (TM_STATUS__CATCH_RESULT a) 4
    let s := (s.put (AX_STATE__SAFE_CAUSE a) cause).putB (AX_STATE__CLOSING a) false
    let s := s.when (cause == 15) fun s => s.putB (AX_STATE__RST_HOLD a) true
    let s := s.when (cause == 3 || cause == 9) fun s => s.each (s.axLegs a) fun m s => s.putB (GI_L_BRES__STALE (m / 3) (m % 3)) true
    let s := s.each (s.axLegs a) bastAbandon
    let s := (s.upAx a fun x => { x with closing := 0, stepDue := 0, outDue := false }).upTm a fun t =>
      { t with started := false, catchPh := 0, recov := 0, stopTo := 0, lost := false, tauRef := 0 }
    let s := (s.putB (TM_STATUS__RECOVERING a) false).put (TM_STATUS__CATCH_PHASE a) 0
    let s := unitsAxisSafe a 5 s
    let s := s.upAx a fun x => { x with req := none, safeDone := false }
    let keep := (s.ax a).causes
    let latched := (s.ax a).latched
    let s := axGoto a 5 s
    let s := s.upAx a fun x => { x with causes := keep, latched := latched }
    let s := updatePo a (applySafe a s)
    let s := axEvent a 1 cause s
    flWrite 0x10 4 10 cause a s

/-- Ask a context to stop for a cause of 04 R104 (04 R119); the loss of the host overrides an earlier cause (R120). -/
def ctxStopReq (c cause : Nat) (s : State) : State :=
  let x := s.ctx c
  if s.get (HP_CTX_STATE__PHASE c) = 7 ∨ (x.stop ≠ 0 ∧ cause ≠ 3) then s
  else (s.upCtx c fun x => { x with stop := cause, stopAt := s.get (HP_CTX_LEDGER1__STEPS c) }).put (HP_CTX_STATE__PHASE c) 6

/-- Device-SAFE (13 R415): every axis not in OFF or FAULT latches SAFE with cause 13, a close from OFF is refused, contexts and DMA
channels stop and the core pairs are held in reset. -/
def deviceSafe (s : State) : State :=
  if s.on RED_STATUS__DSAFE then s
  else
    let s := seamDue 2 (s.putB RED_STATUS__DSAFE true)
    let r := s.fl.getLast?
    let s := redEvent 8 ((r.map (·.slot)).getD 0) ((r.map FlRec.word1).getD 0) s
    let s := s.each (List.range 8) fun a s => if s.axState a = 0 then closeRefuse a 1 s else if s.axState a = 6 then s else (safeCore a 13 true s).1
    let s := s.each (List.range 256) fun c s => s.when (s.on (HP_CTX_CTRL__EN c)) (ctxStopReq c 4)
    let s := s.each (List.range 16) fun n s =>
      s.when (s.get (DMA_CH_STATE__STATE n) == 1) fun s => (s.put (DMA_CH_STATE__STATE n) 2).upDma n fun d => { d with stop := 1 }
    s.upSys fun y => { y with pairsReset := true }

/-- Write a ledger record and enter device-SAFE where it takes class 5. -/
def faultRecord (kind cls ut detail unit : Nat) (s : State) : State :=
  let r := flWrite kind cls ut detail unit s
  if r.2 then deviceSafe r.1 else r.1

/-- A record of class 1; it resolves at once where the unit's stand-in is in place. -/
def unitRecord (kind ut detail unit : Nat) (s : State) : State :=
  (faultRecord kind 1 ut detail unit s).when (s.inPlace ut unit) (flResolve fun r => r.cls == 1 && r.ut == ut && r.unit == unit)

/-- A unit is back: the records of class 1 that waited for it, as their unit or as their stand-in, resolve. -/
def unitBack (ut unit : Nat) (s : State) : State :=
  flResolve (fun r => r.cls == 1 && r.ut == ut && (r.unit == unit || standIn r.ut r.unit == (ut, unit))) s

/-- The entry to SAFE, with device-SAFE where its record takes class 5. While the sequencer is disarmed, and before firmware
is released, no axis leaves OFF (12 R358, 02 R71). -/
def enterSafe (a cause : Nat) (latch : Bool) (s : State) : State :=
  if s.axState a = 0 ∧ !(s.on SAF_STATUS__ARMED && s.sys.released) then s
  else
    let r := safeCore a cause latch s
    if r.2 then deviceSafe r.1 else r.1

/-- The sequencer sends an axis to SAFE with cause 4 for a reason. -/
def safeFor (a w : Nat) (latch : Bool) (s : State) : State :=
  let add := fun (l : List Nat) => if l.contains w then l else l ++ [w]
  let s := enterSafe a 4 latch s
  if s.axState a = 5 ∨ s.axState a = 6 then
    s.upAx a fun x => { x with why := add x.why, whyLatched := if latch then add x.whyLatched else x.whyLatched }
  else s

/-- The safe state of an axis is established (12 R352, 13 R414): its records resolve, and a latched cause moves the
axis to FAULT (06 R156). -/
def safeEstablished (a : Nat) (s : State) : State :=
  if s.axState a ≠ 5 then s
  else
    let s := s.upAx a fun x => { x with safeDone := true }
    let s := flSettle s
    s.when ((s.ax a).latched != []) (toFault a)

/-- A fast channel is bound to an axis or shared with it (10 R295). -/
def State.fcUsable (s : State) (k a : Nat) : Bool :=
  if s.on (FM_CH_BIND__BOUND k) then s.get (FM_CH_BIND__AXIS k) == a
  else s.on (FM_CH_BIND__SHARED k) && nbit (s.get (FM_CH_BIND__SHARE_MASK k)) a

/-- SAF_HOLD follows the conditions of 12 R354. -/
def updateSafHold (a : Nat) (s : State) : State :=
  let noCopy := (List.range 32).any fun k => s.fcUsable k a &&
      ((!s.on (FM_CH_WCTL__A_ACT k) && s.get (FM_CH_WCTL__A_MODE k) != 0 && s.get (FM_CH_STATUS__WA_COPIES k) == 0) ||
       (!s.on (FM_CH_WCTL__B_ACT k) && s.get (FM_CH_WCTL__B_MODE k) != 0 && s.get (FM_CH_STATUS__WB_COPIES k) == 0))
  s.putB (AX_STATE__SAF_HOLD a)
    ((s.on SAF_STATUS__STO_ACT && s.on (SAF_AX_CFG__STO_EN a)) || s.on (SAF_AX_STAT__SS1_STO a) || s.on (SAF_AX_STAT__OV2 a) ||
      s.on (SAF_AX_STAT__CT_FLT a) || noCopy)

end Sys2Proof.Machine
end

