-- ==== Sys2Proof/Machine/Flags.lean ====
section
/-! DEFINITION. Arithmetic and its flags: the block-floating arithmetic of the control engines with its saturation
flags (06 R176), integer roots and roundings, and the CRC-32 of 06 R173. -/

namespace Sys2Proof.Machine

/-! ## Integers -/

/-- The bits needed for a natural number, found by halving at most `fuel` times. -/
def bitLen (fuel n : Nat) : Nat :=
  match fuel with
  | 0 => 0
  | f + 1 => if n = 0 then 0 else bitLen f (n / 2) + 1

/-- An arithmetic shift to the right (floor), or to the left for a negative count. -/
def ashr (v : Int) (n : Int) : Int := if 0 ≤ n then v.fdiv (2 ^ n.toNat : Nat) else v * (2 ^ (-n).toNat : Nat)

/-- A shift to the right rounded to nearest, ties to even (06 R176). -/
def rne (v : Int) (n : Int) : Int :=
  if n ≤ 0 then v * (2 ^ (-n).toNat : Nat)
  else
    let d : Int := (2 ^ n.toNat : Nat)
    let q := v.fdiv d
    let r := v - q * d
    if 2 * r < d then q else if d < 2 * r then q + 1 else if q % 2 = 0 then q else q + 1

/-- A quotient rounded to nearest, ties to even; the divisor is positive. -/
def rneDiv (v : Int) (d : Nat) : Int :=
  let q := v.fdiv d
  let r := v - q * d
  if 2 * r < d then q else if (d : Int) < 2 * r then q + 1 else if q % 2 = 0 then q else q + 1

/-- The integer square root, bit by bit from bit `i - 1` down. -/
def isqrt (i n acc : Nat) : Nat :=
  match i with
  | 0 => acc
  | j + 1 => let t := acc + 2 ^ j; if t * t ≤ n then isqrt j n t else isqrt j n acc

/-- A number limited to [lo, hi]. -/
def clampI (lo hi v : Int) : Int := max lo (min hi v)

/-- ±(2^23 − 1). -/
def mantMax : Int := 2 ^ 23 - 1

/-! ## Block-floating arithmetic (06 R176) -/

/-- The exponent at which an accumulator's mantissa lies in [2^22, 2^23) or [−2^23, −2^22), its LSB weighing 2^w. -/
def normExp (w : Int) (a : Int) : Int :=
  if 0 < a then (bitLen 400 a.natAbs : Int) + w else (bitLen 400 (a.natAbs - 1) : Int) + w

/-- The mantissas of accumulators of LSB weight 2^w at exponent E. -/
def roundAt (w E : Int) (l : List Int) : List Int := l.map fun a => rne a (E - 23 - w)

/-- Normalise a result vector (06 R176): the exponent of its largest element, every element rounded there, and once
more one exponent up when rounding carries an element to 2^23; an underflow or a zero vector takes exponent −128. -/
def normalise (w : Int) (l : List Int) : Vec :=
  if l.all (· == 0) then { m := l.map fun _ => 0, e := -128 }
  else
    let E := (l.filter (· != 0)).foldl (fun m a => max m (normExp w a)) (-100000)
    let r := roundAt w E l
    let v : Vec := if r.any (· == 2 ^ 23) then { m := roundAt w (E + 1) l, e := E + 1 } else { m := r, e := E }
    if v.e < -128 then { m := l.map fun _ => 0, e := -128 } else v

/-- Hold a vector at a largest exponent (x̂ at E_XMAX, e at +127): its elements are rounded there and those beyond the
range are set to ±(2^23 − 1); answers whether it was held. -/
def holdExp (top : Int) (w : Int) (l : List Int) : Vec × Bool :=
  let v := normalise w l
  if v.e ≤ top then (v, false)
  else
    ({ m := (roundAt w top l).map fun m => if mantMax < m then mantMax else if m < -(2 ^ 23) then -mantMax else m, e := top }, true)

/-- Clamp u to ±(2^23 − 1) × 2^−23; answers whether an element was clamped (06 R176). -/
def clampU (v : Vec) : Vec × Bool :=
  if v.e < 0 then (v, false)
  else
    let l : List Int := v.m.map fun (m : Int) => m * ((2 ^ v.e.toNat : Nat) : Int)
    let c := l.map (clampI (-mantMax) mantMax)
    if c = l then (v, false) else ({ m := c, e := 0 }, true)

/-- One product in an accumulator of LSB weight 2^lsb: its weight is 2^w; a shift of more than 55 bits gives 0. -/
def accTerm (lsb w : Int) (p : Int) : Int := if 55 < lsb - w then 0 else ashr p (lsb - w)

/-- The value of a float as an integer of weight 2^w, exactly; w is at most its own weight. -/
def Flt.at (f : Flt) (w : Int) : Int := f.m * (2 ^ (f.e - 23 - w).toNat : Nat)

/-- The lower of two weights of floats. -/
def lowW (a b : Flt) : Int := min (a.e - 23) (b.e - 23)

/-- A single value normalised to a 24-bit mantissa with its own exponent. -/
def normFlt (w : Int) (a : Int) : Flt :=
  let v := normalise w [a]
  { m := v.m.headD 0, e := v.e }

/-- The exact difference of two floats, as an integer and its weight. -/
def subFlt (a b : Flt) : Int × Int := let w := lowW a b; (a.at w - b.at w, w)

/-- Order of two floats. -/
def ltFlt (a b : Flt) : Bool := (subFlt a b).1 < 0

/-- A register's mantissa and exponent (06 R186). -/
def wordFlt (w : Word) : Flt := { m := sgn 24 (fieldGet w 0 24), e := sgn 8 (fieldGet w 24 8) }
def fltWord (f : Flt) : Word := BitVec.ofNat 32 (unsgn 24 f.m + unsgn 8 f.e * 2 ^ 24)

/-- The ramp of 06 R170: SP where it is within RAMP or RAMP is 0, else one RAMP towards it, normalised. -/
def rampTo (prev sp ramp : Flt) : Flt :=
  let d := subFlt sp prev
  let w := min d.2 (ramp.e - 23)
  let dist := d.1 * (2 ^ (d.2 - w).toNat : Nat)
  let step := ramp.at w
  if ramp.m = 0 ∨ dist.natAbs ≤ step.natAbs then sp
  else
    let w' := min w (prev.e - 23)
    let st := step * (2 ^ (w - w').toNat : Nat)
    normFlt w' (prev.at w' + (if 0 < dist then st else -st))

/-- VNOM / max(y, VMIN) as a 24-bit mantissa and its exponent, rounded to nearest, ties to even (06 R171). -/
def ratio (num : Int) (den : Nat) : Flt :=
  if num = 0 ∨ den = 0 then { m := 0, e := -128 }
  else
    let up (k : Int) : Int := if 0 ≤ k then rneDiv (num * (2 ^ k.toNat : Nat)) den else rneDiv num (den * 2 ^ (-k).toNat)
    let k : Int := 24 + (bitLen 64 den : Int) - (bitLen 64 num.natAbs : Int)
    let m := up k
    if m.natAbs < 2 ^ 23 ∧ 2 ^ 22 ≤ m.natAbs then { m := m, e := 23 - k }
    else if 2 ^ 23 ≤ m.natAbs ∧ (up (k - 1)).natAbs < 2 ^ 23 then { m := up (k - 1), e := 24 - k }
    else if (up (k - 2)).natAbs < 2 ^ 23 then { m := up (k - 2), e := 25 - k }
    else { m := up (k - 3), e := 26 - k }

/-! ## CRC-32 (06 R173) -/

/-- One bit of the reflected CRC-32. -/
def crcBit (c : Nat) : Nat := if c % 2 = 1 then (c / 2) ^^^ 0xEDB88320 else c / 2

/-- One byte of the reflected CRC-32. -/
def crcByte (c b : Nat) : Nat := crcBit (crcBit (crcBit (crcBit (crcBit (crcBit (crcBit (crcBit (c ^^^ b))))))))

/-- One little-endian word. -/
def crcWord (c : Nat) (w : Word) : Nat :=
  crcByte (crcByte (crcByte (crcByte c (w.toNat % 256)) (w.toNat / 2 ^ 8 % 256)) (w.toNat / 2 ^ 16 % 256)) (w.toNat / 2 ^ 24)

/-- The CRC-32 of a list of words: reflected, initial value and final XOR all ones. -/
def crc32 (l : List Word) : Nat := (l.foldl crcWord 0xFFFFFFFF) ^^^ 0xFFFFFFFF

/-! ## Roundings the spec leaves open -/

/-- An inexact result of the fast estimator: the floor, or one more where the free choice says so (log 9). -/
def roundOpen (k : Nat) (v : Int) (d : Nat) : Int :=
  let q := v.fdiv d
  if q * d = v then q else if Config.roundUp k then q + 1 else q

/-! ## Angles in units of 2^-16 turn -/

/-- The next n bits of the angle of a vector of the first quadrant, in parts of the quadrant, and whether something is left
below them: squaring the vector as a complex number doubles its angle. -/
def angleBits : Nat → Nat → Nat → Nat → Nat × Bool
  | 0, _, y, acc => (acc, y != 0)
  | n + 1, x, y, acc =>
    if x * x ≤ y * y then angleBits n (2 * x * y) (y * y - x * x) (2 * acc + 1)
    else angleBits n (x * x - y * y) (2 * x * y) (2 * acc)

/-- The angle of a vector; the last bit of an inexact one is open, and so is the angle of the zero vector (log 9). -/
def angleOf (k : Nat) (a b : Int) : Nat :=
  if a = 0 ∧ b = 0 then Config.freeNat k % 65536
  else
    let x := a.natAbs
    let y := b.natAbs
    let q := if 0 < a ∧ 0 ≤ b then (0, angleBits 14 x y 0) else if a ≤ 0 ∧ 0 < b then (1, angleBits 14 y x 0)
      else if a < 0 then (2, angleBits 14 x y 0) else (3, angleBits 14 y x 0)
    (q.1 * 16384 + q.2.1 + b2n (q.2.2 && Config.roundUp k)) % 65536

/-- The series of the sine and the cosine from the term t of degree k, in units of 2^-120; x2 is the square of the arc. -/
def trigSum : Nat → Int → Int → Nat → Int → Int
  | 0, _, _, _, acc => acc
  | n + 1, x2, t, k, acc => trigSum n x2 (-(t * x2 / 2 ^ 120) / ((k + 1) * (k + 2) : Nat)) (k + 2) (acc + t)

/-- The cosine and the sine of an angle of the first eighth of a turn, in units of 2^-120. -/
def trigOct (f : Nat) : Int × Int :=
  let x : Int := (2 * piNum * f * 2 ^ 104 / piDen : Nat)
  (trigSum 15 (x * x / 2 ^ 120) (2 ^ 120) 0 0, trigSum 15 (x * x / 2 ^ 120) x 1 0)

/-- The cosine and the sine of an angle, in units of 2^-120. -/
def cosSin (th : Nat) : Int × Int :=
  let f := th % 16384
  let v := if f ≤ 8192 then trigOct f else (trigOct (16384 - f)).swap
  if th / 16384 % 4 = 0 then v else if th / 16384 % 4 = 1 then (-v.2, v.1) else if th / 16384 % 4 = 2 then (-v.1, -v.2) else (v.2, -v.1)

/-- The vector of a magnitude of 2^-23 at an angle, in units of 2^-31; the last bit of an inexact component is open. -/
def polar (k m th : Nat) : Int × Int :=
  let v := cosSin th
  (roundOpen k (m * 256 * v.1) (2 ^ 120), roundOpen (k + 1) (m * 256 * v.2) (2 ^ 120))

/-- The range of a flux component in units of 2^-31 (07 R192). -/
def fluxLim (v : Int) : Int := clampI (-(2 ^ 31)) (2 ^ 31 - 1) v

end Sys2Proof.Machine
end

