-- ==== Sys2Proof/Machine/Operands.lean ====
section
/-! DEFINITION. The operand codes the commands and registers name: bank selectors and coefficient words (06 R172 to
R175, R487), measurement slots (06 R163), output slots (06 R164), and the close check that judges them (06 R179). -/

namespace Sys2Proof.Machine

/-! ## Coefficient banks -/

/-- Words of a bank by its number (06 R172). -/
def bankSize (b : Nat) : Nat := [144, 72, 96, 96, 72, 12, 16, 16].getD (b % 8) 0

/-- Where a coefficient word is kept: selector `sel` carries the set in bit 3 and the bank in bits [2:0]. -/
def bankKey (a sel w : Nat) : Nat := (16 * a + sel) * 256 + w

def State.bankRd (s : State) (a sel w : Nat) : Word := sget (fun _ => (0 : Word)) s.banks (bankKey a sel w)

/-- Write a coefficient word; a partial bank whose every word has been written since becomes whole (06 R487). -/
def bankWr (a sel w : Nat) (v : Word) (s : State) : State :=
  let s := { s with banks := sset (fun _ => (0 : Word)) s.banks (bankKey a sel w) v }
  if nbit (s.get (AX_STATUS__PARTIAL a)) sel then
    let s := { s with bankSeen := sset (fun _ => false) s.bankSeen (bankKey a sel w) true }
    if (List.range (bankSize sel)).all fun i => sget (fun _ => false) s.bankSeen (bankKey a sel i) then
      (s.putBit (AX_STATUS__PARTIAL a) sel false)
    else s
  else s

/-- A bank becomes partial (06 R487). -/
def bankPartial (a sel : Nat) (s : State) : State :=
  let s := s.putBit (AX_STATUS__PARTIAL a) sel true
  { s with bankSeen := s.bankSeen.filter fun e => e.1 / 256 != 16 * a + sel }

/-- A BANK_LOAD of these words ended with a code other than OK after some blocks: its bank is partial, and the words of its
committed steps count as written (06 R118, R487). -/
def bankCut (l : List Word) (blocks : Nat) (s : State) : State :=
  let a := unitOf (dword l 0)
  let sel := fieldGet (dword l 1) 0 4
  let first := fieldGet (dword l 1) 8 12
  (bankPartial a sel s).each (List.range (min (64 * blocks) (dword l 4).toNat)) fun i s =>
    bankWr a sel (first + i) (s.bankRd a sel (first + i)) s

/-- Bank writes are accepted in OFF, COAST and HOLD, but for the set under close (06 R179, R183). -/
def State.bankOpen (s : State) (a sel : Nat) : Bool :=
  (s.axState a ≤ 1 || s.axState a == 4) && !(s.on (AX_STATE__CLOSING a) && (s.ax a).closeSet == sel / 8)

/-- A descriptor ends: a BANK_LOAD with any code other than OK leaves its bank partial, whatever it had written (R487). -/
def bankLoadEnd (l : List Word) (blocks code : Nat) (s : State) : State :=
  if opOf (dword l 0) = 0x20 ∧ code ≠ 0 ∧ unitOf (dword l 0) < 8 then bankCut l blocks s else s

/-- The DETAIL of a BANK_LOAD that its axis refuses: the axis's state, HOLD for the set under close (R179, R183). -/
def State.bankDetail (s : State) (a sel : Nat) : Nat :=
  if s.on (AX_STATE__CLOSING a) && (s.ax a).closeSet == sel / 8 then 4 else s.axState a

/-! ## A coefficient set -/

/-- A byte of a header word as a number and as a two's-complement exponent (06 R173). -/
def State.hdr (s : State) (a set w b : Nat) : Nat := fieldGet (s.bankRd a (set * 8 + 7) w) (8 * b) 8
def State.hdrE (s : State) (a set w b : Nat) : Int := sgn 8 (s.hdr a set w b)

def State.nx (s : State) (a set : Nat) : Nat := s.hdr a set 0 0
def State.nu (s : State) (a set : Nat) : Nat := s.hdr a set 0 1
def State.ny (s : State) (a set : Nat) : Nat := s.hdr a set 0 2
def State.nr (s : State) (a set : Nat) : Nat := s.hdr a set 0 3

/-- A mantissa of a bank. -/
def State.coef (s : State) (a set bank w : Nat) : Int := sgn 24 (fieldGet (s.bankRd a (set * 8 + bank) w) 0 24)

/-- Every word of a bank. -/
def State.bankWords (s : State) (a sel : Nat) : List Word := (List.range (bankSize sel)).map (s.bankRd a sel)

/-- The computed check word of a set: banks 0 to 6 and header words 0 to 14 (06 R173). -/
def State.setCrc (s : State) (a set : Nat) : Nat :=
  crc32 ((List.range 7).flatMap (fun b => s.bankWords a (set * 8 + b)) ++ (s.bankWords a (set * 8 + 7)).take 15)

/-- The elements of a matrix bank outside rows and columns are 0; its rows are `cols` words long. -/
def State.outsideZero (s : State) (a set bank cols rows used : Nat) : Bool :=
  (List.range (bankSize bank)).all fun w =>
    (w / cols < rows && w % cols < used) || s.bankRd a (set * 8 + bank) w == 0

/-! ## Measurement slots -/

def State.fc (s : State) (k : Nat) : FcS := sget (fun _ => {}) s.fcs k
def State.upFc (s : State) (k : Nat) (f : FcS → FcS) : State := { s with fcs := sset (fun _ => {}) s.fcs k (f (s.fc k)) }

/-- A channel named in TM_ISRC or TM_VSRC of an axis in CATCH, RUN or HOLD (10 R293). -/
def State.namedByTable (s : State) (k : Nat) : Bool :=
  (List.range 8).any fun a => s.tableMode a && s.axLive a &&
    ([TM_ISRC__IA a, TM_ISRC__IB a, TM_ISRC__IC a, TM_ISRC__VDC a].any (fun f => s.get f == k) ||
     (s.on (TM_VSRC__EN a) && [TM_VSRC__VA a, TM_VSRC__VB a, TM_VSRC__VC a].any (fun f => s.get f == k)))

/-- The channel converts on the grid (10 R293). -/
def State.onGrid (s : State) (k : Nat) : Bool := !s.on (FM_CH_CFG__SMODE k) || s.namedByTable k

/-- The code of a measurement slot. -/
def State.ySrc (s : State) (a j : Nat) : Nat := s.get (AX_YSRC__SRC a (j / 4) (j % 4))

/-- A source is valid and bound (06 R163). -/
def State.ySrcOk (s : State) (a c : Nat) : Bool :=
  if c < 0x20 then s.fcUsable c a
  else if c < 0x28 then s.on (AX_BIND__PI_EN a) && s.get (AX_BIND__PI_SEL a) == c % 4
  else if c < 0x2B then s.tableMode a
  else 0x30 ≤ c && c < 0x38

/-- A fast channel's value for the loop (10 R294): the latest conversion, or the mean since the last sample. -/
def State.fcY (s : State) (k : Nat) : Int :=
  let f := s.fc k
  if s.on (FM_CH_CFG__YMODE k) && !s.on (FM_CH_BIND__SHARED k) && f.n != 0 then rneDiv f.sum f.n else f.c

/-- A position interface's position for the loop (11 R340): the angle, or in SATURATE mode the shifted count. -/
def State.piPos (s : State) (n : Nat) : Int :=
  if s.on (PI_CFG__LIMIT_MODE n) then
    clampI (-(2 ^ 23)) mantMax (ashr (sgn 32 (s.get (PI_CNT__COUNT n))) (fieldGet (s.piRateCfg n) 24 5))
  else sgn 16 (s.get (PI_ANGLE__ANGLE n)) * 2 ^ 8

/-- The value of a source in units of 2^-23 (06 R163, 07 R189, 09 R266). -/
def State.yVal (s : State) (a c : Nat) : Int :=
  if c < 0x20 then s.fcY c
  else if c < 0x24 then s.piPos (c % 4)
  else if c < 0x28 then s.piSpeed (c % 4)
  else if c = 0x28 then clampI (-mantMax) mantMax ((s.axSpeed a).getD 0)
  else if c = 0x29 then clampI (-(2 ^ 23)) mantMax (s.tm a).tau
  else if c = 0x2A then clampI 0 mantMax (s.tm a).mag
  else if 0x30 ≤ c ∧ c < 0x38 then sgn 14 (s.get (GI_DCPS__VDC (c - 0x30))) * 2 ^ 10
  else 0

/-! ## Output slots -/

/-- The code of an output slot (06 R164). -/
def State.uDst (s : State) (a j : Nat) : Nat :=
  if j < 4 then s.get (AX_UDST0__DST a j) else if j = 4 then s.get (AX_UDST1__DST_4 a) else s.get (AX_UDST1__DST_5 a)

/-- The output slots in use are valid (06 R164). -/
def State.uDstOk (s : State) (a nu : Nat) : Bool :=
  let l := (List.range nu).map (s.uDst a)
  if s.tableMode a then
    l.count 1 == 1 && l.count 2 == 1 && l.all fun c => c == 0 || c == 1 || c == 2
  else l.all fun c => c == 0 || (0x10 ≤ c && c - 0x10 < min 6 (s.axLegs a).length && l.count c == 1)

/-! ## The close check (06 R179) -/

/-- The binding is complete (06 R162), on islands that are in service (09 R287). -/
def State.bindOk (s : State) (a : Nat) : Bool :=
  let n := (s.axLegs a).length
  (if s.tableMode a then n == 3 else 1 ≤ n && n ≤ 6) && (s.axIslands a).all fun i => !s.on (GI_CFG__SERVICE i)

/-- An exponent of a header lies from -48 to +47. -/
def expOk (e : Int) : Bool := -48 ≤ e && e ≤ 47

/-- A mantissa word repeats its bit 23 above. -/
def mantOk (w : Word) : Bool := fieldGet w 24 8 == if fieldGet w 23 1 = 1 then 0xFF else 0

/-- The constant interval of a leg's TRG0 in counter clocks, on the values that will govern; none where it is not
constant (08 R245). -/
def State.trg0Interval (s : State) (m : Nat) : Option Nat :=
  let l := s.leg m
  let mode := fieldGet l.cfg 0 2
  let prd := l.pend.prd.getD (s.get (LEG_ACT_PRD__VALUE m))
  let p := if mode = 2 then 2 * prd else prd + 1
  let src := s.get (LEG_TRIG__TRG0_SRC m)
  let dir := s.get (LEG_TRIG__TRG0_DIR m)
  let n := s.get (LEG_TRIG__TRG0_DIV m) + 1
  if src = 1 ∨ src = 2 then some (p * n)
  else if src = 3 then (if mode = 2 then some (prd * n) else none)
  else if src = 4 ∨ src = 5 then
    let c := ((l.pend.cmp.getD (src - 2) none).getD (s.get (LEG_ACT_CMP__VALUE m (src - 2))))
    if (mode = 2 ∧ (dir = 0 ∨ dir = 3 ∨ (dir = 1 ∧ c = prd) ∨ (dir = 2 ∧ c = 0))) ∨ prd < c then none else some (p * n)
  else none

/-- The clause on SYNC that carrier mode adds to code 8 (08 R245). -/
def State.syncOk (s : State) (a : Nat) : Bool :=
  let sync := s.get (AX_TIMING__SYNC a)
  if sync = 1 then
    !s.tableMode a && match (s.axLegs a).head? with
      | some m => s.on (LEG_CTRL__CNT_EN m) && s.trg0Interval m == some (s.get (AX_TIMING__PERIOD a))
      | none => false
  else sync != 3

/-- The close check: 0, or the code of the first check that fails. -/
def State.closeCheck (s : State) (a set : Nat) : Nat :=
  let nx := s.nx a set
  let nu := s.nu a set
  let ny := s.ny a set
  let nr := s.nr a set
  let w := fun bank i => s.bankRd a (set * 8 + bank) i
  let ff := s.get (AX_CFG__FF_MODE a)
  if !(1 ≤ nx && nx ≤ 12 && 1 ≤ nu && nu ≤ 6 && 1 ≤ ny && ny ≤ 8 && 1 ≤ nr && nr ≤ 2) then 1
  else if !((List.range 4).all (fun b => expOk (s.hdrE a set 1 b)) && (List.range 3).all (fun b => expOk (s.hdrE a set 2 b)) &&
      expOk (s.hdrE a set 3 0)) then 2
  else if !(s.outsideZero a set 0 12 nx nx && s.outsideZero a set 1 6 nx nu && s.outsideZero a set 2 12 ny nx &&
      s.outsideZero a set 3 8 nx ny && s.outsideZero a set 4 12 nu nx && s.outsideZero a set 5 2 nu nr &&
      s.hdr a set 2 3 == 0 && fieldGet (w 7 3) 8 24 == 0 && (List.range 11).all (fun i => w 7 (4 + i) == 0) &&
      (List.range 6).all (fun i => i < nu || w 6 i == 0) && fieldGet (w 6 8) 3 29 == 0 && fieldGet (w 6 9) 6 26 == 0 &&
      (List.range 6).all (fun i => w 6 (10 + i) == 0)) then 3
  else if !((List.range 6).all (fun b => (s.bankWords a (set * 8 + b)).all mantOk) && (List.range 8).all (fun i => mantOk (w 6 i))) then 4
  else if (w 7 15).toNat ≠ s.setCrc a set ∨ (s.get (AX_STATUS__PARTIAL a) / 2 ^ (8 * set)) % 256 ≠ 0 then 5
  else if !s.uDstOk a nu then 6
  else if !((List.range ny).all fun j => s.ySrcOk a (s.ySrc a j)) then 7
  else if !(2000 ≤ s.get (AX_TIMING__PERIOD a) && s.get (AX_TIMING__PERIOD a) ≤ 1000000 &&
      800 ≤ s.get (AX_OUTDLY__OUT_DELAY a) && s.get (AX_OUTDLY__OUT_DELAY a) ≤ s.get (AX_TIMING__PERIOD a) && s.syncOk a &&
      s.get (AX_CFG__XSEED a) != 3) then 8
  else if ff = 3 ∨ (ff = 1 ∧ (s.coef a set 6 7 ≤ 0 ∨ ny ≤ fieldGet (w 6 8) 0 3)) then 9
  else if !s.bindOk a then 10
  else 0

/-- Run the check and report it (06 R179): AX_STATUS, AX_CHECK, and AX_CHECK_FAIL on a failure. -/
def runCheck (a set : Nat) (s : State) : State × Nat :=
  let c := s.closeCheck a set
  let s := ((s.put (AX_STATUS__CHK_RESULT a) c).putB (AX_STATUS__CHK_VALID a) true).wr (AX_CHECK a) (BitVec.ofNat 32 (s.setCrc a set))
  (s.when (c != 0) (axEvent a 5 c), c)

/-! ## The block check of the safety parameter block (12 R355) -/

/-- The clauses on one axis. -/
def State.spbAxisOk (s : State) (a : Nat) : Bool :=
  let ss := s.get (SAF_AX_CFG__SS_MODE a)
  (ss == 0 || (ss != 3 && s.tableMode a)) &&
  (!s.on (SAF_AX_TMON__EN a) ||
    (s.tableMode a && s.fcUsable (s.get (SAF_AX_TMON__IA a)) a && s.fcUsable (s.get (SAF_AX_TMON__IB a)) a)) &&
  (!s.on (SAF_AX_CFG__SS1_MODE a) || s.tableMode a || s.on (AX_BIND__PI_EN a))

/-- The clauses on one link group. -/
def State.spbGroupOk (s : State) (g : Nat) : Bool :=
  let mach := s.get (SAF_LINK_AX__MACH_MASK g)
  let ct := fun k role => s.on (SAF_CT_CFG__EN k) && s.get (SAF_CT_CFG__GROUP k) == g && s.get (SAF_CT_CFG__ROLE k) == role
  let leg := s.get (SAF_LINK_CFG__CHOP_LEG g)
  let d := s.get (SAF_LINK_DIS__DIS_AX g)
  !s.on (SAF_LINK_CFG__EN g) ||
    ((bitsOf 8 (s.groupAxes g)).any (s.fcUsable (s.get (SAF_LINK_CFG__VDC_CH g))) &&
      decide (s.get (SAF_LINK_OV__OV1_HI g) < s.get (SAF_LINK_OV__OV2_HI g)) &&
      (bitsOf 8 mach).all s.tableMode && mach &&& s.get (SAF_LINK_AX__GRID_MASK g) == 0 &&
      (!s.on (SAF_LINK_CFG__CHOP_EN g) ||
        (decide (leg < 24) && (s.get (LEG_CFG__CH_MODE leg) == 1 || s.get (LEG_CFG__CH_MODE leg) == 2) && s.on (LEG_CHOP__MON_EN leg))) &&
      (!s.on (SAF_LINK_AX__PRE_EN g) || (ct (s.get (SAF_LINK_AX__MAIN_CT g)) 1 && ct (s.get (SAF_LINK_AX__PRE_CT g)) 2)) &&
      (s.get (SAF_LINK_DIS__DIS_MODE g) < 2 || (s.tableMode d && s.isPm d && nbit mach d)))

/-- The whole block check. -/
def State.spbOk (s : State) : Bool :=
  (List.range 8).all s.spbAxisOk && (List.range 4).all s.spbGroupOk && (List.range 8).all fun k => s.get (SAF_CT_CFG__ROLE k) != 3

/-- SS1 locks the setpoint of an axis from its t1 for as long as its request stands (12 R363). -/
def State.ss1Locks (s : State) (a : Nat) : Bool := s.on (SAF_AX_STAT__SS1 a) || s.on (SAF_AX_STAT__SS1_STO a)

/-- A request that would start switching is refused (12 R355, R360). -/
def State.startBlocked (s : State) (a : Nat) : Bool :=
  (s.on SAF_STATUS__STO_ACT && s.on (SAF_AX_CFG__STO_EN a)) || !s.spbAxisOk a ||
    (List.range 4).any fun g => nbit (s.groupAxes g) a && !s.spbGroupOk g

end Sys2Proof.Machine
end

