-- ==== Sys2Proof/Machine/Carrier.lean ====
section
/-! DEFINITION. Carrier mode (08): the counter's events, shadows, reload and commit, the duty from the loop, the
minimum pulse, the output masks, synchronised legs, triggers, dead time, and the chopper's latch and monitor. The
counter's value is known at its events, which arrive as commands (log 13). -/

namespace Sys2Proof.Machine

/-! ## The configuration in effect -/

def State.legMode (s : State) (m : Nat) : Nat := fieldGet (s.leg m).cfg 0 2
def State.legChMode (s : State) (m : Nat) : Nat := fieldGet (s.leg m).cfg 2 2
def State.legLoadMid (s : State) (m : Nat) : Bool := s.legMode m == 2 && fieldGet (s.leg m).cfg 4 1 == 1
def State.legGrouped (s : State) (m : Nat) : Bool := fieldGet (s.leg m).cfg 5 1 == 1
def State.legMinpMode (s : State) (m : Nat) : Nat := fieldGet (s.leg m).cfg 6 2
def State.legUmap (s : State) (m : Nat) : Bool := fieldGet (s.leg m).cfg 8 1 == 1

/-- A word in effect whose reserved mode codes stand for one of the defined codes; which one is open (log 2). -/
def cfgCodes (k : Nat) (w : Word) : Word :=
  let fix := fun (w : Word) (lo : Nat) => if fieldGet w lo 2 = 3 then fieldSet w lo 2 (k / 3 ^ (lo / 2) % 3) else w
  fix (fix w 0) 2

/-- A reserved mode code is present. -/
def cfgReserved (w : Word) : Bool := fieldGet w 0 2 == 3 || fieldGet w 2 2 == 3

/-- A new LEG_CFG takes effect; a change of MINP_MODE clears the residues (R250, R259). -/
def cfgEffect (m : Nat) (s : State) : State :=
  let w := s.rd (LEG_CFG m)
  let k := s.fresh.1
  let s := s.when (cfgReserved w) fun s => s.fresh.2
  let w := cfgCodes k w
  let s := s.when (fieldGet w 6 2 != s.legMinpMode m) fun s => (s.put (LEG_RESIDUE__UPPER m) 0).put (LEG_RESIDUE__LOWER m) 0
  s.upLeg m fun l => { l with cfg := w, trig := s.rd (LEG_TRIG m) }

/-! ## The counter (R229, R230) -/

/-- The period in counter clocks. -/
def periodClk (mode prd : Nat) : Nat := if mode = 2 then 2 * prd else prd + 1

def State.actPrd (s : State) (m : Nat) : Nat := s.get (LEG_ACT_PRD__VALUE m)
def State.actCmp (s : State) (m n : Nat) : Nat := s.get (LEG_ACT_CMP__VALUE m n)
def State.legPclk (s : State) (m : Nat) : Nat := periodClk (s.legMode m) (s.actPrd m)

/-- Clocks since the period start of a counter value. -/
def posOf (mode prd c : Nat) (down : Bool) : Nat :=
  if mode = 0 then c else if mode = 1 then prd - c else if down then 2 * prd - c else c

/-- Counter value and direction at a position; the valley counts as up, the peak as down. -/
def valueAt (mode prd q : Nat) : Nat × Bool :=
  if mode = 0 then (q, false) else if mode = 1 then (prd - q, true) else if q < prd then (q, false) else (2 * prd - q, true)

/-- H at a counter value (R229). -/
def hAt (mode c c0 c1 : Nat) (down : Bool) : Bool := if mode = 2 ∧ down then c ≤ c1 else c < c0

def State.legPos (s : State) (m : Nat) : Nat :=
  posOf (s.legMode m) (s.actPrd m) (s.get (LEG_CNT__C m)) (s.on (LEG_STATUS__DIR m))

/-- A chopper forms H from its latch (R253). -/
def State.chopMode (s : State) (m : Nat) : Nat :=
  if s.legChMode m = 1 ∨ s.legChMode m = 2 then s.get (LEG_CHOP__CHOP_MODE m) else 0

/-- H before the minimum-pulse rules. -/
def State.legH (s : State) (m : Nat) : Bool :=
  let h := hAt (s.legMode m) (s.get (LEG_CNT__C m)) (s.actCmp m 0) (s.actCmp m 1) (s.on (LEG_STATUS__DIR m))
  let k := s.chopMode m
  if k = 0 then h else s.on (LEG_STATUS__LATCH m) || (k == 2 && h)

/-- Put the counter at a value and direction. -/
def cntSet (m : Nat) (v : Nat × Bool) (s : State) : State :=
  (s.put (LEG_CNT__C m) v.1).putB (LEG_STATUS__DIR m) v.2

/-- Count clocks from the counter's last event up to a position of the period under way. -/
def cntAdvance (m q : Nat) (s : State) : State :=
  let d := if s.legPos m ≤ q then q - s.legPos m else q + s.legPclk m - s.legPos m
  s.upLeg m fun l => { l with car := l.car + d, clk := max l.clk (l.car + d) }

/-- Clocks from the counter's last event to its next: a compare match, an edge of H, ZERO or PERIOD, or a period start. -/
def State.cntGap (s : State) (m : Nat) : Nat :=
  let mode := s.legMode m
  let prd := s.actPrd m
  let cs := ((List.range 4).map (s.actCmp m)).filter fun c => c ≤ prd
  let l := prd :: (if mode = 2 then cs ++ cs.map (2 * prd - ·) else if mode = 1 then (prd + 1 - s.actCmp m 0) :: cs.map (prd - ·) else cs)
  ((l.filter fun q => s.legPos m < q && q < s.legPclk m).min?.getD (s.legPclk m)) - s.legPos m

/-- Clocks since the counter's last event at a moment that no event of it marks: open below those to its next event (log 13). -/
def State.cntLag (s : State) (m : Nat) : Nat :=
  let lo := (s.leg m).clk - (s.leg m).car
  lo + s.fresh.1 % max 1 (s.cntGap m - lo)

/-- The present is such a moment, or with `one` the clock after the counter's last event. -/
def legNow (m : Nat) (one : Bool) (s : State) : State :=
  let k := if one then 1 else s.cntLag m
  (s.when (!one) fun s => s.fresh.2).upLeg m fun l => { l with clk := max l.clk (l.car + k) }

/-! ## Sets (R232 to R236) -/

def optOr (new old : Option Nat) : Option Nat := match new with | some v => some v | none => old

/-- A set landing over another: the registers it carries replace the other's. -/
def SetS.over (new old : SetS) : SetS := { prd := optOr new.prd old.prd, cmp := List.zipWith optOr new.cmp old.cmp }

/-- The set of one register: 0 PRD, 1 to 4 CMP0 to CMP3. -/
def SetS.one (r v : Nat) : SetS :=
  if r = 0 then { prd := some v } else { cmp := (List.range 4).map fun n => if n + 1 = r then some v else none }

/-- Refresh LEG_STATUS STAGED, PENDING and LATE_SLOT. -/
def legFlags (m : Nat) (s : State) : State :=
  let l := s.leg m
  ((s.putB (LEG_STATUS__STAGED m) (l.staged != {})).putB (LEG_STATUS__PENDING m) (l.pend != {})).putB
    (LEG_STATUS__LATE_SLOT m) (l.late != {})

/-- A set sets out for its leg; it lands with SET_LANDING. -/
def setSend (m : Nat) (loop : Bool) (v : SetS) (s : State) : State :=
  if v = {} then s else s.upLeg m fun l => { l with arr := l.arr ++ [(loop, v)] }

/-- A write of PRD or a CMP by a host, firmware or DMA (R232). -/
def shadowWrite (m r v : Nat) (s : State) : State :=
  let s := s.wr (LEG_PRD m + 4 * r) (BitVec.ofNat 32 v)
  if s.legGrouped m then legFlags m (s.upLeg m fun l => { l with staged := (SetS.one r v).over l.staged })
  else setSend m false (SetS.one r v) s

/-- SET_LANDING (R234, R236): the oldest set on its way lands `dist` counter clocks before the next reload. -/
def execSetLanding (m : Fin 24) (dist : BitVec 32) (s : State) : Host.Outcome State Fault Refusal :=
  .next <|
    let m := m.val
    match (s.leg m).arr with
    | [] => s
    | (_, v) :: rest =>
      let s := s.upLeg m fun l => { l with arr := rest }
      if s.on (LEG_STATUS__RUNNING m) && decide (dist.toNat ≤ 4) then
        let s := s.upLeg m fun l => { l with late := v.over l.late, sLate := true }
        let was := s.on (LEG_EVENT__LATE m)
        let s := legFlags m ((s.bump (LEG_COUNTS__LATE m)).putB (LEG_EVENT__LATE m) true)
        s.when (!was) (raise 96 m dist.toNat)
      else legFlags m (s.upLeg m fun l => { l with pend := v.over l.pend })

/-- LEG_COMMIT (R236): the staged sets of a leg, or of every grouped leg of its axis, set out to land. -/
def legCommit (m : Nat) (s : State) : State :=
  let l := match s.legAxis m with
    | some a => (s.axLegs a).filter s.legGrouped
    | none => [m]
  s.each l fun m s => legFlags m ((setSend m false (s.leg m).staged s).upLeg m fun l => { l with staged := {} })

def execLegCommit (m : Fin 24) (s : State) : Host.Outcome State Fault Refusal := .next (legCommit m.val s)

/-- LEG_DISCARD (R236): the staged values of the leg alone are emptied. -/
def legDiscard (m : Nat) (s : State) : State := legFlags m (s.upLeg m fun l => { l with staged := {} })

def execLegDiscard (m : Fin 24) (s : State) : Host.Outcome State Fault Refusal := .next (legDiscard m.val s)

/-- The pending set, and after it the late slot, at a reload (R233, R234): active values (PRD, CMP0 to CMP3), and
what is then pending. -/
def reloadSets (act : List Nat) (pend late : SetS) (mid : Bool) : List Nat × SetS × SetS :=
  if mid ∧ pend.prd.isSome then (act, late.over pend, {})
  else (List.zipWith (fun v o => Option.getD o v) act (pend.prd :: pend.cmp), late, {})

def State.actVals (s : State) (m : Nat) : List Nat :=
  [s.actPrd m, s.actCmp m 0, s.actCmp m 1, s.actCmp m 2, s.actCmp m 3]

/-- The reload of a leg. -/
def reload (m : Nat) (mid : Bool) (s : State) : State :=
  let l := s.leg m
  let r := reloadSets (s.actVals m) l.pend l.late mid
  let s := s.put (LEG_ACT_PRD__VALUE m) (r.1.getD 0 0)
  let s := s.each [0, 1, 2, 3] fun n s => s.put (LEG_ACT_CMP__VALUE m n) (r.1.getD (n + 1) 0)
  legFlags m (s.upLeg m fun l => { l with pend := r.2.1, late := r.2.2 })

/-! ## Duty from the loop (R237, R238) -/

/-- The high width N of an output u of exponent e. -/
def dutyWidth (umap : Bool) (u e : Int) (p : Nat) : Int :=
  let one : Int := 2 ^ (23 - e).toNat
  if umap then rneDiv (max u 0 * p) (2 ^ (23 - e).toNat) else rneDiv ((u + one) * p) (2 ^ (24 - e).toNat)

/-- Land the duty of output element j on its leg. -/
def loopDuty (a j : Nat) (u : Vec) (s : State) : State :=
  let d := (s.ax a).udst.getD j 0
  if d < 0x10 then s
  else
    let m := (s.axLegs a).getD (d - 0x10) 0
    let prd := (s.leg m).pend.prd.getD (s.actPrd m)
    let n := (dutyWidth (s.legUmap m) (u.m.getD j 0) u.e (periodClk (s.legMode m) prd)).toNat
    let c := if s.legMode m = 2 then ((n + 1) / 2, n / 2) else (n, n)
    let s := (s.put (LEG_CMP__CMP m 0) c.1).put (LEG_CMP__CMP m 1) c.2
    setSend m true { cmp := [some c.1, some c.2, none, none] } s

/-- A leg is a destination of the loop of its axis, as its last close took the destinations (R238, 06 R178). -/
def State.loopDest (s : State) (m : Nat) : Bool :=
  match s.legAxis m with
  | some a => !s.tableMode a &&
      (List.range (s.nu a (s.get (AX_STATUS__SET_IN_USE a)))).any fun j =>
        let d := (s.ax a).udst.getD j 0
        0x10 ≤ d && (s.axLegs a).getD (d - 0x10) 24 == m
  | none => false

/-- The leg is bound to a table-mode axis: only its interlock and LEG_DT act (R228). -/
def State.legTable (s : State) (m : Nat) : Bool :=
  match s.legAxis m with
  | some a => s.tableMode a
  | none => false

/-! ## Requests, masks and the minimum pulse (R231, R246 to R253) -/

/-- The mask entry that applies. -/
def State.maskEntry (s : State) (m : Nat) : Nat :=
  let src := s.get (LEG_MASK__SRC m)
  let step := s.get (LEG_STATUS__MASK_STEP m)
  if src = 0 then 0 else if src = 1 ∧ (step = 0 ∨ step = 7) then 1 else s.get (LEG_MASK__ENTRY m step)

/-- The channel requested on for a value of H: 0 none, 1 lower, 2 upper. -/
def State.legWant (s : State) (m : Nat) (h : Bool) : Nat :=
  let k := s.legChMode m
  let base := if k = 0 then (if h then 2 else 1) else if k = 1 then (if h then 2 else 0) else if k = 2 then (if h then 1 else 0) else 0
  let e := s.maskEntry m
  if e = 1 then 0 else if e = 2 then 1 else if e = 3 then (if base = 2 then 2 else 0) else base

/-- Pass the requests of a switching leg to its interlock. -/
def legApply (m : Nat) (s : State) : State :=
  if (s.leg m).act then legReq m (s.legWant m (s.leg m).h) s else s

/-- A voted dead time in effect for the turn-on of a channel (R246); its maximum while the vote has no value (12 R380). -/
def State.deadClk (s : State) (m ch : Nat) : Nat :=
  let f := if ch = 2 then LEG_DT__DT_RISE m else LEG_DT__DT_FALL m
  if sget (fun _ => false) s.voteFail (3 * m + b2n (ch != 2)) then 2 ^ f.width - 1 else max 8 (s.get f)

def State.minpClk (s : State) (m : Nat) : Nat := max 1 (s.get (LEG_MINP__MINP m))

/-- The next position after q, before b, at which H differs from h0. -/
def nextEdge (mode prd c0 c1 q b : Nat) (h0 : Bool) : Option Nat :=
  let l := [c0, prd + 1 - c0, 2 * prd - c1].filter fun c => q < c && c < b &&
    (let v := valueAt mode prd c; hAt mode v.1 c0 c1 v.2 != h0)
  l.min?

/-- Clocks from position q to the next change of H, on the active values and those that the reloads on the way make
active; none where H does not change. -/
def pulseWidth (fuel mode : Nat) (midEn : Bool) (act : List Nat) (pend late : SetS) (q n : Nat) (h0 : Bool) : Option Nat :=
  match fuel with
  | 0 => none
  | f + 1 =>
    let prd := act.getD 0 0
    let c0 := act.getD 1 0
    let c1 := act.getD 2 0
    let mid := mode == 2 && decide (q < prd)
    let b := if mid then prd else periodClk mode prd
    match nextEdge mode prd c0 c1 q b h0 with
    | some c => some (n + c - q)
    | none =>
      let r := if !mid || midEn then reloadSets act pend late mid else (act, pend, late)
      let q' := if mid then prd else 0
      let v := valueAt mode (r.1.getD 0 0) q'
      if hAt mode v.1 (r.1.getD 1 0) (r.1.getD 2 0) v.2 != h0 then some (n + b - q)
      else pulseWidth f mode midEn r.1 r.2.1 r.2.2 q' (n + b - q) h0

/-- Count an altered pulse (R248). -/
def pulseAltered (m ch : Nat) (s : State) : State :=
  let was := s.on (LEG_EVENT__MINP m)
  let s := ((s.bump (LEG_COUNTS__MINP m)).putB (LEG_EVENT__MINP m) true).upLeg m fun l => { l with sAlt := true }
  s.when (!was) (raise 97 m (b2n (ch == 1) + s.legMinpMode m * 256))

/-- The residue of a channel. -/
def residue (m ch : Nat) : FieldRef := if ch = 2 then LEG_RESIDUE__UPPER m else LEG_RESIDUE__LOWER m

/-- H takes its new value; the channel it requests turns on after its dead time. -/
def pulseIssue (m : Nat) (h : Bool) (dt tEnd : Nat) (ext : Bool) (s : State) : State :=
  legApply m (s.upLeg m fun l => { l with h := h, tOn := l.clk + dt, tEnd := tEnd, ext := ext, wait := false })

/-- The pulse that H = `src` starts is judged, `w` clocks of H being left to it, none where H does not end it; its channel
turns on after `dt` (R248). A short pulse that is not extended leaves the requests to the previous value of H. -/
def pulseJudge (m : Nat) (src : Bool) (dt : Nat) (w : Option Nat) (s : State) : State :=
  let l := s.leg m
  let ch := s.legWant m src
  match w with
  | none => pulseIssue m src dt 0 false s
  | some w =>
    let mode := s.legMinpMode m
    let res := s.get (residue m ch)
    let total := if mode = 2 then w + res else w
    if total < dt + s.minpClk m then
      let s := pulseAltered m ch s
      if mode = 1 then pulseIssue m src dt 0 true s
      else
        let s := s.when (mode == 2) fun s => s.put (residue m ch) total
        legApply m (s.upLeg m fun l => { l with drop := true, h := !src })
    else if mode = 2 ∧ res ≠ 0 then
      pulseIssue m src dt (l.clk + total) true (pulseAltered m ch (s.put (residue m ch) 0))
    else pulseIssue m src dt 0 false s

/-- The values that govern the end of a pulse are those of the carrier: no hysteresis latch holds H (R248, R253). -/
def State.carrierEnds (s : State) (m : Nat) : Bool := s.chopMode m == 0 || (s.chopMode m == 2 && !s.on (LEG_STATUS__LATCH m))

/-- Clocks of H = `src` left. -/
def State.pulseLeft (s : State) (m : Nat) (src : Bool) : Option Nat :=
  let l := s.leg m
  if s.carrierEnds m then
    (pulseWidth 6 (s.legMode m) (s.legLoadMid m) (s.actVals m) l.pend l.late (s.legPos m) 0 src).map fun w => w - (l.clk - l.car)
  else none

/-- H has changed: the pulse that ends and the pulse that starts are judged (R248, R249). -/
def legEdge (m : Nat) (s : State) : State :=
  let l := s.leg m
  let src := s.legH m
  if !l.act || l.wait then s
  else if src = l.h then s.upLeg m fun l => { l with drop := false }
  else if l.drop then s
  else
    let ends := s.legWant m l.h
    let starts := s.legWant m src
    let live := l.ext || (ends == 2 && s.on (LEG_STATUS__UPPER m)) || (ends == 1 && s.on (LEG_STATUS__LOWER m))
    if ends ≠ 0 ∧ starts ≠ ends ∧ live ∧ l.clk < max (l.tOn + s.minpClk m) l.tEnd then
      (s.when (!l.ext) (pulseAltered m ends)).upLeg m fun l => { l with wait := true }
    else if starts = 0 then pulseIssue m src 0 0 false s
    else if starts = ends then s.upLeg m fun l => { l with h := src }
    else pulseJudge m src (if ends ≠ 0 then s.deadClk m starts else 0) (s.pulseLeft m src) s

/-- A change of the mask acts on a switching leg, whose request was `old` (R249, R252): a pulse that it ends ends at once, and
a pulse that it starts is judged. With `one` the leg's own TRG1 moved the step, which applies in the clock after it; the
moment of any other step is open between the counter's events (log 13). -/
def maskApply (m old : Nat) (one : Bool) (s : State) : State :=
  let l := s.leg m
  let src := s.legH m
  let new := s.legWant m src
  if !l.act || s.legWant m l.h == old then s
  else
    let s := (legNow m one s).upLeg m fun l => { l with wait := false, ext := false, drop := false, h := src, tEnd := 0 }
    let dt := if old ≠ 0 then s.deadClk m new else 0
    if new = 0 ∨ new = old then legApply m s
    else if s.maskEntry m = 2 then pulseIssue m src dt 0 false s
    else pulseJudge m src dt (s.pulseLeft m src) s

/-- MINIMUM_PULSE_EXPIRY (R248, R249): a channel held on has been on for its width. -/
def execMinimumPulseExpiry (m : Fin 24) (s : State) : Host.Outcome State Fault Refusal :=
  .next <|
    let m := m.val
    let l := s.leg m
    if !l.wait then s
    else
      legEdge m (s.upLeg m fun l => { l with wait := false, ext := false, clk := max l.clk (max (l.tOn + s.minpClk m) l.tEnd) })

/-- DEAD_TIME_EXPIRY (R246): the pending turn-on leaves the interlock; it starts the no-current monitor of a chopper's
active channel (R254). -/
def execDeadTimeExpiry (m : Fin 24) (s : State) : Host.Outcome State Fault Refusal :=
  .next <|
    let m := m.val
    let d := (s.leg m).dead
    if d = 0 then s
    else
      let s := s.upLeg m fun l => { l with dead := 0 }
      let s := s.putB (if d = 2 then LEG_STATUS__UPPER m else LEG_STATUS__LOWER m) true
      let k := s.legChMode m
      if !s.legTable m ∧ ((k = 1 ∧ d = 2) ∨ (k = 2 ∧ d = 1)) then s.upLeg m fun l => { l with mon := s.on (LEG_CHOP__MON_EN m) } else s

/-! ## Triggers (R244) -/

/-- A trigger fires (R244): it is due to the TRIGGERED channels that name it (10 R293); TRG0 is the sample instant of an axis
with SYNC = 1 whose lowest-numbered leg this is; TRG1 advances the masks of source 2 that name the leg (R252). -/
def trgFired (m t : Nat) (s : State) : State :=
  let s := s.each (List.range 32) fun k s =>
    s.when (s.on (FM_CH_CFG__EN k) && !s.onGrid k && s.get (FM_CH_CFG__TRG_SEL k) == t && s.get (FM_CH_CFG__TRG_LEG k) == m) fun s =>
      s.upFc k fun f => { f with due := f.due + 1 }
  if t = 0 then
    match s.legAxis m with
    | some a => if (s.axLegs a).head? = some m then s.upAx a fun x => { x with trg := true } else s
    | none => s
  else s.each (List.range 24) fun f s =>
    s.when (s.get (LEG_MASK__SRC f) == 2 && s.get (LEG_MASK__TRIG_LEG f) == m && (s.legAxis m).isSome && s.legAxis f == s.legAxis m) fun s =>
      s.upLeg f fun l => { l with maskDue := l.maskDue + 1 }

/-- Whether an occurrence of the source of a trigger comes: with the counter's event `e`, or with none named by the values of
this clock. -/
def State.trgHit (s : State) (m t : Nat) (e : Option CntEvent) : Bool :=
  let w := (s.leg m).trig
  let src := fieldGet w (16 * t) 3
  let dir := fieldGet w (16 * t + 4) 2
  let c := s.get (LEG_CNT__C m)
  let down := s.on (LEG_STATUS__DIR m)
  let dirOk := s.legMode m != 2 || (dir != 1 && dir != 2) || (dir == 1 && !down) || (dir == 2 && down)
  let prd := s.actPrd m
  match e with
  | some .zero => src == 1 || src == 3
  | some .period => src == 2 || src == 3
  | some (.cmp n _) => 2 ≤ n.val && src == n.val + 2 && dirOk
  | some (.h _) => false
  | none =>
    if src = 1 then c == 0 else if src = 2 then c == prd else if src = 3 then c == 0 || c == prd
    else if src = 4 then c == s.actCmp m 2 && dirOk else if src = 5 then c == s.actCmp m 3 && dirOk else false

/-- The triggers of one clock, each on every (DIV + 1)-th occurrence of its source. -/
def triggers (m : Nat) (e : Option CntEvent) (s : State) : State :=
  s.each [0, 1] fun t s =>
    if !s.trgHit m t e then s
    else
      let l := s.leg m
      let n := if t = 0 then l.div0 else l.div1
      let fire := decide (fieldGet l.trig (16 * t + 8) 4 ≤ n)
      let n' := if fire then 0 else n + 1
      let s := s.upLeg m fun l => if t = 0 then { l with div0 := n' } else { l with div1 := n' }
      s.when fire (trgFired m t)

/-! ## Start, reload and match of the counter -/

/-- A counter starts at its period start, with its pending set (R236, R240, R244). -/
def counterStart (m : Nat) (s : State) : State :=
  let s := reload m false (cfgEffect m s)
  let s := (s.upLeg m fun l => { l with div0 := 0, div1 := 0, synced := false, car := l.clk }).putB (LEG_STATUS__RUNNING m) true
  cntSet m (valueAt (s.legMode m) (s.actPrd m) 0) s

/-- What LEG_CNT reads while the counter runs: a value that it takes from its last event to its next (log 13). -/
def State.cntOpen (s : State) (m : Nat) : Nat := (valueAt (s.legMode m) (s.actPrd m) (s.legPos m + s.cntLag m)).1

/-- RUNNING follows CNT_EN and PLL-B (R228); a counter that stops keeps its value, open like that of one that runs. -/
def counterUpdate (m : Nat) (s : State) : State :=
  let run := s.on (LEG_CTRL__CNT_EN m) && s.on CLK_STATUS__PLLB_LOCK && !s.legTable m
  let was := s.on (LEG_STATUS__RUNNING m)
  if run && !was then counterStart m s
  else
    let s := s.when (was && !run) fun s =>
      cntSet m (s.cntOpen m, s.on (LEG_STATUS__DIR m)) s.fresh.2
    legStop m (s.putB (LEG_STATUS__RUNNING m) run)

/-- PLL-B stops or locks again (R256): staged, pending and late values are discarded. -/
def counterPllB (s : State) : State :=
  s.each (List.range 24) fun m s =>
    let s := s.when (s.on CLK_STATUS__PLLB_LOCK) fun s =>
      legFlags m (s.upLeg m fun l => { l with pend := {}, late := {}, staged := {}, arr := [] })
    counterUpdate m s

/-- The commanded high width of H on the active values (R229). -/
def State.highWidth (s : State) (m : Nat) : Nat :=
  if s.legMode m = 2 then min (s.actCmp m 0) (s.actPrd m) + min (s.actCmp m 1) (s.actPrd m) else min (s.actCmp m 0) (s.legPclk m)

/-- Switching starts at a period start; the first turn-on waits its dead time (R240), and the first pulse is judged (R248). -/
def switchStart (m : Nat) (s : State) : State :=
  let src := s.legH m
  let ch := s.legWant m src
  let s := s.upLeg m fun l =>
    { l with act := true, h := !src, drop := false, wait := false, ext := false, tEnd := 0, tOn := l.clk + s.deadClk m (s.legWant m !src) }
  if ch = 0 ∨ s.maskEntry m = 2 then pulseIssue m src (s.deadClk m ch) 0 false s
  else pulseJudge m src (s.deadClk m ch) (s.pulseLeft m src) s

/-- What a counter event brings in its clock: H, the pulses and the triggers. -/
def counterClock (m : Nat) (e : Option CntEvent) (s : State) : State := triggers m e (legEdge m s)

/-- What a period start, or with `mid` a mid-period reload, brings in its clock (R233, R240, R250, R259). -/
def counterReload (m : Nat) (mid : Bool) (s : State) : State :=
  let s := s.when (!mid) (cfgEffect m)
  let s := reload m mid s
  let s := cntSet m (valueAt (s.legMode m) (s.actPrd m) (if mid then s.actPrd m else 0)) s
  let s := if !mid && !(s.leg m).act && s.legSwitching m then triggers m none (switchStart m s) else counterClock m none s
  let w := s.highWidth m
  s.when (w == 0 || w == s.legPclk m) fun s => (s.put (LEG_RESIDUE__UPPER m) 0).put (LEG_RESIDUE__LOWER m) 0

/-- The load of a follower (R243, R244): `c` and `down` are its counter in this clock. A counter that the load moves has
the events, and the reload, of the value loaded; the valley counts as up and the peak as down (R230). -/
def followerLoad (f c : Nat) (down : Bool) (s : State) : State :=
  let mode := s.get (LEG_SYNC__MODE f)
  if mode = 1 ∧ (s.leg f).synced then s
  else
    let s := cntSet f (c, down) (cntAdvance f (posOf (s.legMode f) (s.actPrd f) c down) s)
    let ph := s.get (LEG_PHASE__PHASE f)
    let s := s.when (mode == 2 && ph != c) fun s =>
      raise 100 f c ((s.bump (LEG_COUNTS__SLIPS f)).putB (LEG_EVENT__SYNC_SLIP f) true)
    let dir := if s.legMode f = 2 then (s.on (LEG_SYNC__PH_DIR f) && ph != 0) || ph == s.actPrd f else s.legMode f == 1
    let s := s.upLeg f fun l => { l with synced := true, div0 := 0, div1 := 0 }
    if ph = c ∧ dir = down then s
    else
      let q := posOf (s.legMode f) (s.actPrd f) ph dir
      let s := cntSet f (ph, dir) s
      if q = 0 then counterReload f false s
      else if s.legLoadMid f ∧ q = s.actPrd f then counterReload f true s
      else counterClock f none s

/-- COUNTER_RELOAD (R233, R243, R244): a period start, or with `mid` a mid-period reload; `cs` gives the counters of
its followers in that clock. -/
def execCounterReload (m : Fin 24) (mid : Bool) (cs : List (Fin 24 × Word × Bool)) (s : State) : Host.Outcome State Fault Refusal :=
  .next <|
    let m := m.val
    if !s.on (LEG_STATUS__RUNNING m) || (mid && !s.legLoadMid m) then s
    else
      let s := counterReload m mid (cntAdvance m (if mid then s.actPrd m else s.legPclk m) s)
      if mid then s
      else s.each (List.range 24) fun f s =>
        s.when (f != m && s.get (LEG_SYNC__MODE f) != 0 && s.get (LEG_SYNC__MASTER f) == m && s.on (LEG_STATUS__RUNNING f)) fun s =>
          match cs.find? fun e => e.1.val == f with
          | some e => followerLoad f e.2.1.toNat e.2.2 s
          | none => followerLoad f (s.get (LEG_CNT__C f)) (s.on (LEG_STATUS__DIR f)) s

/-- The counter value and direction of an event, where the leg's counter raises it (R230). -/
def State.cntEvent (s : State) (m : Nat) (e : CntEvent) : Option (Nat × Bool) :=
  let mode := s.legMode m
  let prd := s.actPrd m
  match e with
  | .zero => if mode = 1 then some (0, true) else none
  | .period => if mode = 0 then some (prd, false) else if mode = 2 ∧ !s.legLoadMid m then some (prd, true) else none
  | .cmp n down =>
    let c := s.actCmp m n.val
    if prd < c ∨ (mode = 0 ∧ down) ∨ (mode = 1 ∧ !down) ∨ (mode = 2 ∧ ((down ∧ c = 0) ∨ (!down ∧ c = prd))) then none else some (c, down)
  | .h q => if q.toNat < s.legPclk m then some (valueAt mode prd q.toNat) else none

/-- The clock of a reload, whose events come with COUNTER_RELOAD. -/
def State.reloadClock (s : State) (m : Nat) (v : Nat × Bool) : Bool :=
  let q := posOf (s.legMode m) (s.actPrd m) v.1 v.2
  q == 0 || (s.legLoadMid m && q == s.actPrd m)

/-- COMPARE_MATCH (R230): an event of the counter that is no reload. -/
def execCompareMatch (m : Fin 24) (e : CntEvent) (s : State) : Host.Outcome State Fault Refusal :=
  .next <|
    let m := m.val
    if !s.on (LEG_STATUS__RUNNING m) then s
    else match s.cntEvent m e with
      | some v => if s.reloadClock m v then s else counterClock m (some e) (cntSet m v (cntAdvance m (posOf (s.legMode m) (s.actPrd m) v.1 v.2) s))
      | none => s

/-! ## Output masks (R252) -/

/-- The step of an axis's Hall interface, or none. -/
def State.hallStep (s : State) (m : Nat) : Option Nat :=
  match s.legAxis m with
  | some a =>
    let n := s.get (AX_BIND__PI_SEL a)
    if s.on (AX_BIND__PI_EN a) && s.get (PI_CFG__MODE n) == 2 then some (s.get (PI_STATUS__HALL n)) else none
  | none => none

/-- MASK_STEP_CHANGE (R252): the step takes its new value in the clock after its event. -/
def execMaskStepChange (m : Fin 24) (s : State) : Host.Outcome State Fault Refusal :=
  .next <|
    let m := m.val
    let src := s.get (LEG_MASK__SRC m)
    let due := (s.leg m).maskDue
    let old := s.legWant m (s.leg m).h
    if s.legTable m then s
    else if src = 1 then
      let c := (s.hallStep m).getD 7
      let s := s.put (LEG_STATUS__MASK_STEP m) c
      let s := s.when (c == 0 || c == 7) fun s => raise 99 m c (s.putB (LEG_EVENT__MASK_BAD m) true)
      maskApply m old false s
    else if src = 0 ∨ due = 0 then s
    else
      let n := s.get (LEG_MASK__LEN_M1 m) + 1
      let k := s.get (LEG_STATUS__MASK_STEP m)
      let k' := if src = 3 then s.get (LEG_MASK_STEP__STEP m) else if s.on (LEG_MASK__REV m) then (k + n - 1) % n else (k + 1) % n
      maskApply m old (src == 2 && s.get (LEG_MASK__TRIG_LEG m) == m) ((s.put (LEG_STATUS__MASK_STEP m) k').upLeg m fun l => { l with maskDue := if src = 3 then 0 else due - 1 })

/-- At a close, counters start (R240) and the steps of sources 2 and 3 return to STEP (R252). -/
def legsClose (a : Nat) (s : State) : State :=
  s.each (s.axLegs a) fun m s =>
    let s := s.when (2 ≤ s.get (LEG_MASK__SRC m) && !s.tableMode a) fun s =>
      let old := s.legWant m (s.leg m).h
      maskApply m old false ((s.put (LEG_STATUS__MASK_STEP m) (s.get (LEG_MASK_STEP__STEP m))).upLeg m fun l => { l with maskDue := 0 })
    if s.tableMode a then s else counterUpdate m (s.putB (LEG_CTRL__CNT_EN m) true)

/-! ## Chopper legs (R253, R254) -/

/-- The active channel of a chopper is on, and the monitor still waits for its current. -/
def State.chopWaits (s : State) (m : Nat) : Bool :=
  (s.leg m).mon && ((s.legChMode m == 1 && s.on (LEG_STATUS__UPPER m)) || (s.legChMode m == 2 && s.on (LEG_STATUS__LOWER m)))

/-- A conversion of a fast channel comes: 40 counter clocks after the one before, or where that one is none, or lies back
behind the counter, at a moment that is open between the counter's events (log 13). -/
def convClock (m : Nat) (s : State) : State :=
  let l := s.leg m
  let s := match l.conv with
    | some c => if l.clk ≤ c + 40 then s.upLeg m fun l => { l with clk := c + 40 } else legNow m false s
    | none => legNow m false s
  s.upLeg m fun l => { l with conv := some l.clk }

/-- A conversion of a fast channel is judged by the choppers that name it. -/
def chopConversion (k : Nat) (code : Int) (s : State) : State :=
  s.each (List.range 24) fun m s =>
    let s := if s.chopMode m ≠ 0 ∧ !s.legTable m ∧ s.get (LEG_CHOP__VSRC m) = k then
        let s := convClock m s
        let s := if sgn 14 (s.get (LEG_CHOP_V__VON m)) ≤ code then s.putB (LEG_STATUS__LATCH m) true
          else if code ≤ sgn 14 (s.get (LEG_CHOP_V__VOFF m)) then s.putB (LEG_STATUS__LATCH m) false else s
        legEdge m s
      else s
    if s.chopWaits m && s.get (LEG_CHOP__ISRC m) == k && decide (sgn 14 (s.get (LEG_CHOP_MON__IMIN m)) ≤ code) then
      (s.put (LEG_CHOP_CNT__CONSEC m) 0).upLeg m fun l => { l with mon := false }
    else s

/-- Count a no-current pulse (R254). -/
def chopNocur (m : Nat) (s : State) : State :=
  let s := ((s.bump (LEG_CHOP_CNT__CONSEC m)).bump (LEG_CHOP_CNT__TOTAL m)).upLeg m fun l => { l with mon := false, sNoCur := l.sNoCur + 1 }
  let was := s.on (LEG_EVENT__CHOP_NOCUR m)
  (s.putB (LEG_EVENT__CHOP_NOCUR m) true).when (!was) (raise 98 m (s.rd (LEG_CHOP_CNT m)).toNat)

/-! ## Snapshot words (R257) -/

/-- The drive-mode words 44 to 59 of a carrier-mode snapshot. -/
def State.carSnap (s : State) (a : Nat) : List Word :=
  let l := s.axLegs a
  let per : (Nat → Word) → List Word := fun f => (List.range 6).map fun b => match l[b]? with | some m => f m | none => 0
  let bits := fun (f : Nat → Bool) => ((List.range 6).map fun b => match l[b]? with | some m => if f m then 2 ^ b else 0 | none => 0).sum
  per (fun m => s.rd (LEG_ACT_CMP m 0)) ++ per (fun m => s.rd (LEG_ACT_CMP m 1)) ++
  [match l.head? with | some m => s.rd (LEG_ACT_PRD m) | none => 0,
   BitVec.ofNat 32 (bits (fun m => (s.leg m).sLate) + 256 * bits (fun m => (s.leg m).sAlt)),
   BitVec.ofNat 32 (bits s.legSwitching + 256 * bits (fun m => s.rd (LEG_RESIDUE m) != 0)),
   BitVec.ofNat 32 ((l.map fun m => (s.leg m).sNoCur).sum)]

/-- A new sample begins for the counts of R257. -/
def carSample (a : Nat) (s : State) : State :=
  s.each (s.axLegs a) fun m s => s.upLeg m fun l => { l with sLate := false, sAlt := false, sNoCur := 0 }

end Sys2Proof.Machine
end

