-- ==== Sys2Proof/Machine/Engine.lean ====
section
/-! DEFINITION. The control law of 06 R170 in the arithmetic of R176: the references, the innovation, the output with
feed-forward (R171), the observer, the seeds of a close (R181), following-error supervision (R177) and the snapshot
words (R184). -/

namespace Sys2Proof.Machine

/-- Element i of a vector. -/
def Vec.at (v : Vec) (i : Nat) : Int := v.m.getD i 0

/-- One row of a matrix times a vector in an accumulator, each product negated first where `neg` (06 R176). -/
def rowAcc (lsb w : Int) (neg : Bool) (n : Nat) (mat : Nat → Int) (v : Vec) : Int :=
  (List.range n).foldl (fun acc j => acc + accTerm lsb w (if neg then -(mat j * v.at j) else mat j * v.at j)) 0

/-- The reference vector of a step: r[0] and r[1] at one exponent (06 R170, R176). -/
def State.refVec (s : State) (a nr : Nat) (r0 : Flt) : Vec :=
  if nr = 1 then normalise (r0.e - 23) [r0.m]
  else
    let r1 := (s.ax a).r1
    let w := lowW r0 r1
    normalise w [r0.at w, r1.at w]

/-- The innovation e = y − C·x̂; the measurement enters as y_j times 1.0 at exponent 1 (06 R170, R176). -/
def State.innov (s : State) (a set : Nat) (x : Vec) (y : List Int) : Vec × Bool :=
  let ny := s.ny a set
  let nx := s.nx a set
  let wy : Int := 1 + 0 - 46
  let wc := s.hdrE a set 1 2 + x.e - 46
  let lsb := max wy wc - 3
  holdExp 127 lsb ((List.range ny).map fun i =>
    accTerm lsb wy (y.getD i 0 * 2 ^ 22) + rowAcc lsb wc true nx (fun j => s.coef a set 2 (12 * i + j)) x)

/-- The output u with feed-forward and clamp (06 R170, R171, R176), whether it was clamped, and whether y_VDC lies
below VMIN. -/
def State.output (s : State) (a set : Nat) (x r : Vec) (y : List Int) (dr : Flt) : Vec × Bool × Bool :=
  let nu := s.nu a set
  let nx := s.nx a set
  let nr := s.nr a set
  let ff := (s.ax a).ff
  let wk := s.hdrE a set 2 0 + x.e - 46
  let wn := s.hdrE a set 2 1 + r.e - 46
  let wf := s.hdrE a set 2 2 + dr.e - 46
  let lsb := (if ff = 2 then max (max wk wn) wf else max wk wn) - 3
  let acc := (List.range nu).map fun i =>
    rowAcc lsb wk true nx (fun j => s.coef a set 4 (12 * i + j)) x + rowAcc lsb wn false nr (fun j => s.coef a set 5 (2 * i + j)) r +
      (if ff = 2 then accTerm lsb wf (s.coef a set 6 i * dr.m) else 0)
  let vdc := y.getD (fieldGet (s.bankRd a (set * 8 + 6) 8) 0 3) 0
  let vmin := s.coef a set 6 7
  let lim := ff == 1 && decide (vdc < vmin)
  let v := if ff = 1 then
      let f := ratio (s.coef a set 6 6) (max vdc vmin).toNat
      let mask := fieldGet (s.bankRd a (set * 8 + 6) 9) 0 6
      let w2 := min lsb (lsb + f.e - 23)
      normalise w2 ((List.range nu).map fun j =>
        if nbit mask j then acc.getD j 0 * f.m * (2 ^ (lsb + f.e - 23 - w2).toNat : Nat) else acc.getD j 0 * (2 ^ (lsb - w2).toNat : Nat))
    else normalise lsb acc
  let c := clampU v
  (c.1, c.2, lim)

/-- The observer x̂[k + 1] = A·x̂ + B·u + L·e, held at E_XMAX (06 R170, R176). -/
def State.observe (s : State) (a set : Nat) (x u e : Vec) : Vec × Bool :=
  let nx := s.nx a set
  let wa := s.hdrE a set 1 0 + x.e - 46
  let wb := s.hdrE a set 1 1 + u.e - 46
  let wl := s.hdrE a set 1 3 + e.e - 46
  let lsb := max wa (max wb wl) - 3
  holdExp (s.hdrE a set 3 0) lsb ((List.range nx).map fun i =>
    rowAcc lsb wa false nx (fun j => s.coef a set 0 (12 * i + j)) x + rowAcc lsb wb false (s.nu a set) (fun j => s.coef a set 1 (6 * i + j)) u +
      rowAcc lsb wl false (s.ny a set) (fun j => s.coef a set 3 (8 * i + j)) e)

/-- The seed of x̂ at a close (06 R181), held at the set's E_XMAX (R176); a kept x̂ of the same NX stays at its exponent. `held`
says that the close comes from HOLD, or from a recovery. -/
def State.seed (s : State) (a set : Nat) (held : Bool) (speed : Int) : Vec :=
  let nx := s.nx a set
  let mode := s.get (AX_CFG__XSEED a)
  let x := (s.ax a).x
  if mode = 0 ∧ held then
    if x.m.length = nx then x else (holdExp (s.hdrE a set 3 0) (x.e - 23) ((List.range nx).map x.at)).1
  else
    let e := sgn 8 (s.get (AX_XSEED_EXP__EXP a))
    let w := min (e - 23) (-23)
    let base := (List.range nx).map fun i => sgn 24 (s.get (AX_XSEED__MANT a i)) * (2 ^ (e - 23 - w).toNat : Nat)
    let l := if mode = 2 then base.mapIdx fun i m => if i = s.get (AX_CFG__SEED_SPD a) then speed * (2 ^ (-23 - w).toNat : Nat) else m else base
    (holdExp (s.hdrE a set 3 0) w l).1

/-- The following error of R177, exactly: its magnitude and weight. -/
def State.followErr (s : State) (a : Nat) (x : Vec) (y : List Int) (r0 : Flt) : Int × Int :=
  let ref := if s.on (AX_FE_CFG__FE_REF a) then (s.ax a).r1 else r0
  let src := s.get (AX_FE_CFG__FE_SRC a)
  let v : Flt := if src < 12 then { m := x.at src, e := x.e } else { m := y.getD (src - 16) 0, e := 0 }
  let d := subFlt ref v
  (d.1.natAbs, d.2)

/-- Sign-extend a mantissa into a snapshot word. -/
def snapWord (v : Int) : Word := BitVec.ofInt 32 v

/-- Words 0 to 43 of a snapshot (06 R184), then the drive-mode words. -/
def State.snapWords (s : State) (a : Nat) (x u e r : Vec) (y : List Int) (vdc : Int) (drive : List Word) : List Word :=
  let t := (s.ax a).time
  let pad := fun (v : Vec) (n : Nat) => (List.range n).map fun i => snapWord (v.at i)
  [s.rd (AX_SAMPLE_CNT a), BitVec.ofNat 32 t, BitVec.ofNat 32 (t / 2 ^ 32), s.rd (AX_STATE a),
   BitVec.ofNat 32 (unsgn 8 x.e + unsgn 8 u.e * 2 ^ 8 + unsgn 8 e.e * 2 ^ 16 + unsgn 8 r.e * 2 ^ 24)] ++
  pad x 12 ++ pad u 6 ++ (List.range 8).map (fun i => snapWord (y.getD i 0)) ++ pad e 8 ++
  [snapWord (r.at 0), snapWord (r.at 1), snapWord vdc, BitVec.ofNat 32 (fieldGet (s.rd (AX_STATUS a)) 0 4), s.rd (AX_FE_ERR a)] ++
  (drive ++ List.replicate 20 0).take 20

end Sys2Proof.Machine
end

