-- ==== Sys2Proof/Machine/Table.lean ====
section
/-! DEFINITION. Table mode (07): the fast estimator, the hysteresis and switching table, the limiter, drift
correction, the position sources, the zero-crossing tracker, the catch, the stop to COAST and the recovery. -/

namespace Sys2Proof.Machine

/-! ## Angles and vectors -/

/-- The sector of a vector, exactly (07 R197). -/
def sectorOf (a b : Int) : Nat :=
  let flat := 3 * b * b < a * a
  if a = 0 ∧ b = 0 then 1
  else if 0 < a ∧ flat then 1 else if 0 < a ∧ 0 < b then 2 else if a ≤ 0 ∧ 0 < b ∧ !flat then 3
  else if a < 0 ∧ flat then 4 else if a < 0 then 5 else 6

/-- The sector of an angle in units of 2^-16 turn. -/
def sectorOfAngle (th : Nat) : Nat := (th * 12 + 65536) / 131072 % 6 + 1

/-- x / √3, the last bit open. -/
def divSqrt3 (k : Nat) (x : Int) : Int :=
  let q : Int := isqrt 64 (x.natAbs * x.natAbs / 3) 0
  let q := if x ≠ 0 ∧ Config.roundUp k then q + 1 else q
  if x < 0 then -q else q

/-- Legs of phases a, b and c (06 R162). -/
def State.phaseLeg (s : State) (a ph : Nat) : Nat := (s.axLegs a).getD ph 0

def State.polePairs (s : State) (a : Nat) : Nat := max 1 (s.get (TM_MOTOR__POLE_PAIRS a))
def State.spdFs (s : State) (a : Nat) : Nat := max 1 (s.get (TM_MOTOR__SPD_FS a))

/-- The electrical angle of the bound interface (07 R203). -/
def State.thetaPi (s : State) (a : Nat) : Nat :=
  (s.polePairs a * s.get (PI_ANGLE__ANGLE (s.get (AX_BIND__PI_SEL a))) + s.get (TM_PI_OFFSET__OFFSET a)) % 65536

/-- The rotor-flux vector ψ − KL·i (07 R190). -/
def rotorFlux (kl : Nat) (pA pB iA iB : Int) (k : Nat) : Int × Int :=
  (pA - roundOpen k (kl * iA) (2 ^ 12), pB - roundOpen (k + 1) (kl * iB) (2 ^ 12))

/-- The flux of the PI model (07 R203). -/
def State.piModel (s : State) (a : Nat) (iA iB : Int) : Int × Int :=
  let v := polar (s.free + 2) (s.get (TM_PSI_PM__PSI_PM a)) (s.thetaPi a)
  let kl := s.get (TM_KL__KL a)
  (v.1 + roundOpen s.free (kl * iA) (2 ^ 12), v.2 + roundOpen (s.free + 1) (kl * iB) (2 ^ 12))

/-! ## The estimator -/

/-- The α-β form of three phase values (07 R190, R191). -/
def alphaBeta3 (k : Nat) (a b c : Int) : Int × Int := (roundOpen k (2 * a - b - c) 3, divSqrt3 (k + 1) (b - c))

/-- A phase voltage in the reconstructed form (07 R191). -/
def State.phaseV (s : State) (m : Nat) (vdc i : Int) : Int :=
  if s.on (LEG_STATUS__UPPER m) then vdc
  else if s.on (LEG_STATUS__LOWER m) then 0
  else if i < -(2 ^ 13) then vdc else 0

/-- What the estimator of an axis reads from a channel: its latest conversion; a free value from a channel that is not usable by the axis
(10 R295, log 60). -/
def State.fcSrc (s : State) (a k : Nat) : Int :=
  if s.fcUsable k a then (s.fc k).c else sgn 24 (Config.freeNat (s.free + 10 + k))

/-- One update of flux, torque and sector (07 R190 to R192). -/
def estimate (a : Nat) (s : State) : State :=
  let t := s.tm a
  let c := fun k => s.fcSrc a k
  let ia := c (s.get (TM_ISRC__IA a))
  let ib := c (s.get (TM_ISRC__IB a))
  let ic := c (s.get (TM_ISRC__IC a))
  let vdc := c (s.get (TM_ISRC__VDC a))
  let f := s.free
  let i := if s.on (TM_CFG__I3 a) then alphaBeta3 f ia ib ic else (ia, divSqrt3 f (ia + 2 * ib))
  let v := if s.on (TM_CFG__VMODE a) then
      alphaBeta3 (f + 2) (c (s.get (TM_VSRC__VA a))) (c (s.get (TM_VSRC__VB a))) (c (s.get (TM_VSRC__VC a)))
    else alphaBeta3 (f + 2) (s.phaseV (s.phaseLeg a 0) vdc ia) (s.phaseV (s.phaseLeg a 1) vdc ib)
      (s.phaseV (s.phaseLeg a 2) vdc (if s.on (TM_CFG__I3 a) then ic else -ia - ib))
  let kv := s.get (TM_KV__KV a)
  let kr := s.get (TM_KR__KR a)
  let upd := fun (k : Nat) (p vv ii o : Int) => p + roundOpen k (kv * (vv * 2 ^ 23 - kr * ii) - o * 2 ^ 43) (2 ^ 45)
  let pA0 := upd (f + 4) t.psiA v.1 i.1 t.oA
  let pB0 := upd (f + 5) t.psiB v.2 i.2 t.oB
  let pA := fluxLim pA0
  let pB := fluxLim pB0
  let tau := roundOpen (f + 6) (s.get (TM_KT__KT a) * (pA * i.2 - pB * i.1)) (2 ^ 51)
  let root := isqrt 33 (pA * pA + pB * pB).toNat 0
  let mag : Int := root / 256 + b2n (root % 256 != 0 && Config.roundUp (f + 7))
  let r := rotorFlux (s.get (TM_KL__KL a)) pA pB i.1 i.2 (f + 8)
  let fv : Int := s.get (TM_FLUX__FLUX_VALID a) * 2 ^ 19
  let valid := decide (fv * fv ≤ r.1 * r.1 + r.2 * r.2)
  let s := { s with free := f + 42 }
  let s := s.setTm a { t with psiA := pA, psiB := pB, iA := i.1, iB := i.2, tau := clampI (-(2 ^ 23)) mantMax tau, mag := mag }
  let s := s.when (pA != pA0 || pB != pB0) fun s => s.putB (TM_STATUS__FLUX_SAT a) true
  let serves := (s.axState a == 3 || s.axState a == 4) && s.get (TM_STATUS__POS_SRC a) == 1 && t.recov == 0
  let s := s.when (serves && s.on (TM_STATUS__FLUX_VALID a) && !valid && decide ((s.get (TM_FLUX__FLUX_VALID a) * 2 ^ 11 : Nat) ≤ t.psiRef)) fun s =>
    s.upTm a fun t => { t with fell := true }
  let s := (s.putB (TM_STATUS__FLUX_VALID a) valid).when (!valid) fun s => s.putB (TM_STATUS__SPD_VALID a) false
  let model := s.get (TM_STATUS__POS_SRC a) == 2
  let f := s.free
  let mv := if model then s.piModel a i.1 i.2 else (pA, pB)
  let mvMag : Int := if model then isqrt 33 (mv.1 * mv.1 + mv.2 * mv.2).toNat 0 / 256 else mag
  let s := s.upTm a fun t => { t with seen := t.seen || valid, tabMag := mvMag }
  let sector := if valid then sectorOf mv.1 mv.2
    else if !s.isPm a && !t.seen && (s.axPi a).isSome then sectorOfAngle (s.thetaPi a) else 0
  let s := { s with free := f + 6 }
  let s := (s.put (TM_STATUS__SECTOR a) sector).put (TM_ANGLE__STATOR a) (angleOf (f + 4) mv.1 mv.2)
  s.put (TM_ANGLE__ROTOR a) (if model then s.thetaPi a else angleOf (f + 5) r.1 r.2)

/-! ## The decision -/

/-- The applied torque reference: 0 while a non-PM start waits for flux, and clamped to ±TLIM (07 R218, 12 R369). -/
def State.effTau (s : State) (a : Nat) : Int :=
  let t := (s.tm a).tauRef
  if !s.isPm a && !(s.tm a).seen then 0
  else match s.axTlim a 23 with
    | some l => clampI (-(l : Int)) l t
    | none => t

/-- The applied flux reference: replaced by DIS_PSI during an injection (12 R372). -/
def State.effPsi (s : State) (a : Nat) : Int :=
  if s.on (SAF_AX_STAT__DIS_INJ a) then
    match (List.range 4).find? fun g => s.get (SAF_LINK_DIS__DIS_AX g) == a && nbit (s.get (SAF_LINK_STAT__GROUP g)) 7 with
    | some g => s.get (SAF_LINK_INJ__DIS_PSI g) * 2 ^ 11
    | none => (s.tm a).psiRef
  else (s.tm a).psiRef

/-- The two hysteresis comparators (07 R198). -/
def State.hysteresis (s : State) (a : Nat) : Int × Bool :=
  let t := s.tm a
  let eT := s.effTau a - t.tau
  let eP := s.effPsi a - t.tabMag
  let ht : Int := s.get (TM_HYST__HT a) * 2 ^ 11
  let hf : Int := s.get (TM_HYST__HF a) * 2 ^ 11
  (if ht < eT then 1 else if eT < -ht then -1 else if (t.cTau = 1 ∧ eT ≤ 0) ∨ (t.cTau = -1 ∧ 0 ≤ eT) then 0 else t.cTau,
   if hf < eP then true else if eP < -hf then false else t.cPsi)

/-- The zero vector that changes one leg from the present one (07 R200). -/
def zeroAfter (started : Bool) (v : Nat) : Nat :=
  if !started then 0 else if v = 0 ∨ v = 7 then v else if v = 4 ∨ v = 2 ∨ v = 1 then 0 else 7

/-- The vector the table names (07 R199). -/
def State.tableVec (s : State) (a : Nat) (cT : Int) (cP : Bool) : Nat :=
  let t := s.tm a
  let sec := s.get (TM_STATUS__SECTOR a)
  if sec = 0 then zeroAfter t.started t.vec
  else
    let q := 3 * b2n cP + (cT + 1).toNat
    let w := s.rd (TM_TABLE1 a + 4 * (sec - 1))
    let e := fieldGet w (4 * q) 4
    if 8 ≤ e then zeroAfter t.started t.vec else e

/-- Bit of a switch state for phase 0 (a) to 2 (c). -/
def vecBit (v ph : Nat) : Bool := nbit v (2 - ph)

/-- The limiter (07 R202): refilled credits and dwell timers, and whether the vector passes. -/
def State.limiter (s : State) (a v : Nat) : Bool × List Nat × List Nat :=
  let t := s.tm a
  let fsw := s.get (TM_SWLIM__FSW_MAX a)
  let top := max 1 (s.get (TM_SWLIM__BURST a)) * 10 ^ 6
  let credit := t.credit.map fun c => min top (c + 2 * fsw)
  let dwell := t.dwell.map (· - 1)
  let chg := fun ph => t.started && vecBit v ph != vecBit t.vec ph
  let ok := (List.range 3).all fun ph => !chg ph || (dwell.getD ph 0 == 0 && (fsw == 0 || 10 ^ 6 ≤ credit.getD ph 0))
  if ok then
    (true, dwell.mapIdx (fun ph d => if chg ph then max 1 (s.get (TM_SWLIM__MIN_DWELL a)) else d),
      credit.mapIdx fun ph c => if chg ph ∧ fsw ≠ 0 then c - 10 ^ 6 else c)
  else (false, dwell, credit)

/-- Pass the applied vector to the leg interlock. -/
def driveVec (a v : Nat) (s : State) : State :=
  s.each (List.range 3) fun ph s => legReq (s.phaseLeg a ph) (if vecBit v ph then 2 else 1) s

/-- All gates of an axis off. -/
def gatesOff (a : Nat) (s : State) : State :=
  (s.each (s.axLegs a) fun m s => legReq m 0 s).upTm a fun t => { t with started := false }

/-- Start of switching (07 R198, R200): c_τ = 0, c_ψ = 1, full credit, COMMUT at 0. -/
def startSwitching (a : Nat) (s : State) : State :=
  (s.wr (TM_COMMUT a) 0).upTm a fun t =>
    { t with cTau := 0, cPsi := true, started := false, vec := 0, dwell := [0, 0, 0],
             credit := List.replicate 3 (max 1 (s.get (TM_SWLIM__BURST a)) * 10 ^ 6) }

/-- Hysteresis, table and limiter of one decision (07 R197 to R202). -/
def decide100 (a : Nat) (s : State) : State :=
  let h := s.hysteresis a
  let v := s.tableVec a h.1 h.2
  let l := s.limiter a v
  let t := s.tm a
  if l.1 then
    let n := if t.started then ((List.range 3).filter fun ph => vecBit v ph != vecBit t.vec ph).length else 0
    let s := s.setTm a { t with cTau := h.1, cPsi := h.2, vec := v, started := true, dwell := l.2.1, credit := l.2.2,
                                commuts := t.commuts + n }
    let s := s.wr (TM_COMMUT a) (s.rd (TM_COMMUT a) + BitVec.ofNat 32 n)
    driveVec a v (s.putB (TM_STATUS__SW_LIMITED a) false)
  else
    let s := s.setTm a { t with cTau := h.1, cPsi := h.2, dwell := l.2.1, credit := l.2.2, limNow := true }
    let s := (s.putB (TM_STATUS__SW_LIMITED a) true).when (!t.limNow) fun s => s.bump (TM_COUNTS__LIMITED_SAMPLES a)
    s.when (!t.limNow && !t.limPrev) fun s => tmEvent a 7 (s.get (TM_COUNTS__LIMITED_SAMPLES a)) s

/-- The end of a stop to COAST (07 R219): pulse-off, the tracker seeded with the crossing that the estimator's angle and speed put
last, and locked, COAST and then OFF where asked. -/
def pulseOff (a : Nat) (s : State) : State :=
  let t := s.tm a
  let s := posSrc a 3 (gatesOff a s)
  let w := t.speed
  let p6 := if w = 0 then 0 else (2 * piNum * 2 ^ 23 * (2 * 10 ^ 8)) / (piDen * w.natAbs * s.polePairs a * s.spdFs a) / 6
  let r := rotorFlux (s.get (TM_KL__KL a)) t.psiA t.psiB t.iA t.iB s.free
  let th := angleOf (s.free + 2) r.1 r.2
  let s := { s with free := s.free + 3 }
  let rev := decide (w < 0)
  let last := if rev then (th * 6 / 65536 + 1) % 6 else th * 6 / 65536
  let past := if rev then 65536 - th * 6 % 65536 else th * 6 % 65536
  let at0 := s.time - p6 * past / 65536
  let s := s.upTm a fun t => { t with tracking := true, rev := rev, ivals := List.replicate 6 p6, accepted := 7, rejected := 0,
                                       idx := if rev then (last + 3) % 6 else last, idxOk := true, tLast := at0 }
  let s := ((s.putB (TM_STATUS__ZC_LOCK a) true).putB (TM_STATUS__ZC_REV a) (w < 0)).putB (TM_STATUS__ZC_SLOW a) false
  let s := s.put (TM_ZC_SPEED__SPEED a) (unsgn 24 w)
  let s := ((s.put (TM_ZC_ANGLE__ANGLE a) ((roundOpen s.free (last * 65536) 6).toNat)).put (TM_ZC_ANGLE__INDEX a) last).wr (TM_ZC_TIME a)
    (BitVec.ofNat 32 at0)
  let s := axGoto a 1 (s.upTm a fun t => { t with stopTo := 0, recov := 0 })
  s.when (t.stopTo == 2) (axGoto a 0)

/-- The decision of a stop at which τ_ref = 0 and |τ| ≤ HT (07 R219). -/
def coastDecision (a : Nat) (s : State) : State :=
  let t := s.tm a
  if t.stopTo = 0 ∨ t.recov ≠ 0 ∨ t.tauRef ≠ 0 ∨ (s.get (TM_HYST__HT a) * 2 ^ 11 : Nat) < t.tau.natAbs then s
  else if s.on (AX_STATE__PO_BLOCK a) then
    let s := reqDone (s.ax a).req 4 (s.axState a) 0 (s.put (AX_STATE__LAST_REQ a) 3)
    (s.upAx a fun x => { x with req := none, r0 := {}, r0Prev := {} }).upTm a fun t => { t with stopTo := 0 }
  else pulseOff a s

/-- The first decision after the seed of a catch starts switching, t3 of 07 R215: the tracker is suspended. -/
def catchSwitch (a : Nat) (s : State) : State :=
  if (s.tm a).catchPh ≠ 2 then s
  else startSwitching a ((s.put (TM_STATUS__CATCH_PHASE a) 3).upTm a fun t => { t with catchPh := 3, verified := 0, tracking := false })

/-- The table logic of an axis has its clock and runs (07 R192, R193): in CATCH, RUN and HOLD, but not while a recovery has its
gates off. -/
def State.deciding (s : State) (a : Nat) : Bool := s.fastClk && s.tableMode a && s.axLive a && (s.tm a).recov != 2

/-- TABLE_DECISION (07 R190 to R202, R219). -/
def execTableDecision (a : Fin 8) (s : State) : Host.Outcome State Fault Refusal :=
  .next <|
    let a := a.val
    if !s.deciding a then s
    else
      let s := coastDecision a (estimate a (catchSwitch a s))
      if s.axLive a then decide100 a s else s

/-! ## Drift correction (07 R194) -/

/-- ψ and i are latched at the sample instant. -/
def tmLatch (a : Nat) (s : State) : State :=
  s.upTm a fun t => { t with lpA := t.psiA, lpB := t.psiB, liA := t.iA, liB := t.iB }

/-- The correction of a completed step; ψ saturates as in R192. -/
def driftCorrect (a : Nat) (s : State) : State :=
  if !s.tableMode a || !s.axLive a then s
  else
    let t := s.tm a
    let model := s.get (TM_STATUS__POS_SRC a) == 2
    let r := rotorFlux (s.get (TM_KL__KL a)) t.lpA t.lpB t.liA t.liB s.free
    let base := if s.isPm a then r else (t.lpA, t.lpB)
    let m : Int := if s.isPm a then s.get (TM_PSI_PM__PSI_PM a) * 256 else t.psiRef * 256
    let len := isqrt 34 (base.1 * base.1 + base.2 * base.2).toNat 0
    let mv := s.piModel a t.liA t.liB
    let e : Int × Int :=
      if model then (t.lpA - mv.1, t.lpB - mv.2)
      else if !s.on (TM_STATUS__FLUX_VALID a) ∨ len = 0 then (0, 0)
      else (base.1 - roundOpen (s.free + 2) (m * base.1) len, base.2 - roundOpen (s.free + 3) (m * base.2) len)
    let en := s.on (TM_DRIFT__EN a)
    let gc := s.get (TM_DRIFT__GC a)
    let go := s.get (TM_DRIFT__GO a)
    let f := s.free + 4
    let s := { s with free := f + 4 }
    let sub := fun (k : Nat) (x : Int) => if en ∧ 1 ≤ gc ∧ gc ≤ 24 then roundOpen k x (2 ^ gc) else 0
    let off := fun (k : Nat) (x : Int) => if en ∧ 1 ≤ go ∧ go ≤ 24 then roundOpen k (x * 4) (2 ^ go) else 0
    let mag : Int := (isqrt 34 (e.1 * e.1 + e.2 * e.2).toNat 0) / 256
    let pA := t.psiA - sub f e.1
    let pB := t.psiB - sub (f + 1) e.2
    let s := s.when (pA != fluxLim pA || pB != fluxLim pB) fun s => s.putB (TM_STATUS__FLUX_SAT a) true
    s.setTm a { t with psiA := fluxLim pA, psiB := fluxLim pB, oA := t.oA + off (f + 2) e.1, oB := t.oB + off (f + 3) e.2,
                       eps := (mag :: t.eps).take 255 }

/-! ## Sources, loss and recovery at a sample instant -/

/-- The mechanical speed of rotor advances (07 R196). -/
def State.estSpeed (s : State) (a : Nat) (adv : List Int) : Int :=
  let sum := adv.foldl (· + ·) 0
  let d := piDen * adv.length * (s.ax a).period * s.polePairs a * s.spdFs a
  if d = 0 then 0 else clampI (-mantMax) mantMax (roundOpen s.free (2 * piNum * sum * 2 ^ 7 * (4 * 10 ^ 8)) d)

/-- The source the present state gives (07 R203, R204). -/
def State.posSource (s : State) (a : Nat) : Nat :=
  let t := s.tm a
  let cur := s.get (TM_STATUS__POS_SRC a)
  let pi := s.axPi a
  let mode := if s.isPm a && pi.isSome then s.get (TM_POS_CFG__SECT_MODE a) else 0
  let ho := s.get (TM_POS_CFG__HANDOVER a) * 128
  if t.recov = 2 then 3
  else if t.lost && pi.isSome then (if mode = 1 ∧ t.below ∧ ho ≤ (s.piSpeed (pi.getD 0)).natAbs then 1 else 2)
  else if mode = 2 then 2
  else if mode = 1 then
    let wPi := (s.piSpeed (pi.getD 0)).natAbs
    if cur = 1 then (if t.speed.natAbs * 16 < ho * 15 then 2 else 1) else if ho ≤ wPi then 1 else 2
  else 1

/-- Source changes take effect at sample instants (07 R204); after a loss the estimator takes over at the next rise to HANDOVER. -/
def posSourceStep (a : Nat) (s : State) : State :=
  let n := s.posSource a
  let low := decide ((s.piSpeed ((s.axPi a).getD 0)).natAbs < s.get (TM_POS_CFG__HANDOVER a) * 128)
  let s := s.upTm a fun t => { t with below := t.lost && (t.below || low) }
  posSrc a n s

/-- The reaction to a loss of the rotor (07 R221). The speed that serves from then on is the last valid one at the sample before
the window that found the loss (R220), `back` samples ago. -/
def lossReact (a back : Nat) (s : State) : State :=
  let t := s.tm a
  let good := (t.spds[back]?).getD (t.spds.getLast?.getD 0)
  let s := updatePo a (s.setTm a { t with goodSpeed := good, recov := 4 })
  let po := s.on (AX_STATE__PO_BLOCK a)
  let act := if (s.axPi a).isSome && s.isPm a then 1 else if po then 4
    else if !s.on (TM_LOSS__RECATCH a) || s.axState a == 4 then 3 else 2
  let win := max 1 (s.get (TM_LOSS__WIN a))
  let s := tmEvent a 2 act (s.put (TM_STATUS__LOSS_ACTION a) act)
  let s := s.setTm a { t with goodSpeed := good, lost := act == 1, recGood := 0, below := false, eps := t.eps.drop win }
  if act = 1 then updatePo a s
  else
    let s := s.upTm a fun t => { t with tauRef := 0, recov := if act = 2 then 1 else 4 }
    s.when (act == 2) fun s => ((s.wr (AX_R0 a) 0).putB (TM_STATUS__RECOVERING a) true).upAx a fun x =>
      { x with r0 := {}, r0Prev := {}, feCount := 0 }

/-- |ε| over the loss window: the sum, and LIMIT times the number of its samples; none while no sample is in it. -/
def State.epsWindow (s : State) (a : Nat) : Option (Int × Int × Bool) :=
  let w := max 1 (s.get (TM_LOSS__WIN a))
  let l := (s.tm a).eps.take w
  if l = [] then none else some (l.foldl (· + ·) 0, s.get (TM_LOSS__LIMIT a) * 2 ^ 11 * l.length, l.length == w)

/-- Loss detection (07 R220), and the estimator's return after a loss that the PI model bridged (R221). -/
def lossStep (a : Nat) (s : State) : State :=
  let t := s.tm a
  let big := match s.epsWindow a with | some (m, lim, full) => full && decide (lim < m) | none => false
  if t.lost then
    let n := match s.epsWindow a with | some (m, lim, _) => if m < lim then t.recGood + 1 else 0 | none => 0
    if max 1 (s.get (TM_LOSS__RECOVER a)) ≤ n ∨ s.get (TM_STATUS__POS_SRC a) = 1 then
      tmEvent a 3 0 (s.setTm a { t with lost := false, recGood := 0 })
    else s.setTm a { t with recGood := n }
  else if t.recov ≠ 0 ∨ s.get (TM_STATUS__POS_SRC a) ≠ 1 then s
  else if big || s.on (TM_STATUS__FLUX_SAT a) || t.fell then
    lossReact a (if big then max 1 (s.get (TM_LOSS__WIN a)) + 1 else 1) s
  else s

/-- The table-mode part of a sample instant in CATCH, RUN or HOLD: latches, speed, source, loss, the fall of τ_ref on
a stop, and the measured values (07 R189, R194 to R196, R203, R204, R219 to R221). -/
def tmSample (a : Nat) (s : State) : State :=
  let t := s.tm a
  let r := rotorFlux (s.get (TM_KL__KL a)) t.psiA t.psiB t.iA t.iB s.free
  let th := angleOf (s.free + 3) r.1 r.2
  let adv := if t.thOk then (sgn 16 (th + 65536 - t.thLast) :: t.adv).take (2 ^ s.get (TM_CFG__SPD_AVG a)) else []
  let valid := s.on (TM_STATUS__FLUX_VALID a)
  let run := if valid then t.validRun + 1 else 0
  let sp := if adv = [] then t.speed else s.estSpeed a adv
  let s := { s with free := s.free + 4 }
  let s := s.setTm a { t with thLast := th, thOk := true, adv := adv, validRun := run, speed := sp, limPrev := t.limNow, limNow := false }
  let s := s.when (valid && adv != [] && decide (2 ^ s.get (TM_CFG__SPD_AVG a) ≤ run)) fun s => s.putB (TM_STATUS__SPD_VALID a) true
  let s := s.upTm a fun t => { t with spds := ((if s.on (TM_STATUS__SPD_VALID a) then sp else t.spds.headD 0) :: t.spds).take 258 }
  let s := tmLatch a s
  let s := s.when (s.axState a == 3 || s.axState a == 4) fun s =>
    (lossStep a (posSourceStep a s)).upTm a fun t => { t with fell := false }
  let s := s.when ((s.tm a).stopTo != 0) fun s => s.upTm a fun t =>
    let d : Int := s.get (TM_COAST_RAMP__TRAMP a)
    { t with tauRef := if d = 0 then 0 else if 0 ≤ t.tauRef then max 0 (t.tauRef - d) else min 0 (t.tauRef + d) }
  let s := (s.put (TM_SPEED__VALUE a) (unsgn 24 (s.yVal a 0x28))).put (TM_TORQUE__VALUE a) (unsgn 24 (s.yVal a 0x29))
  updatePo a (s.put (TM_FLUXMAG__VALUE a) (unsgn 24 (s.yVal a 0x2A)))

/-! ## The zero-crossing tracker -/

/-- The forward index of a comparator edge (07 R206). -/
def zcIndex (ph : Nat) (rising : Bool) : Nat :=
  if ph = 0 then (if rising then 3 else 0) else if ph = 1 then (if rising then 5 else 2) else if rising then 1 else 4

/-- The tracked mechanical speed (07 R207), from the sum of the last six intervals in units of 5 ns. -/
def State.zcSpeed (s : State) (a sum : Nat) (rev : Bool) : Int :=
  if sum = 0 then 0
  else
    let m := clampI 0 mantMax (roundOpen s.free (2 * piNum * 2 ^ 23 * (2 * 10 ^ 8) : Nat) (piDen * sum * s.polePairs a * s.spdFs a))
    if rev then -m else m

/-- The watch window in COAST (07 R209). -/
def watchStep (a : Nat) (crossing : Bool) (s : State) : State :=
  if s.axState a ≠ 1 ∨ !(s.on (TM_STATUS__ZC_LOCK a) || s.on (TM_STATUS__ZC_SLOW a)) then s
  else
    let slow := s.on (TM_STATUS__ZC_SLOW a)
    let w := (sgn 24 (s.get (TM_ZC_SPEED__SPEED a))).natAbs
    let above := !slow && decide (s.get (TM_WATCH__HI a) * 128 < w)
    let below := slow || decide (w < s.get (TM_WATCH__LO a) * 128)
    let t := s.tm a
    if above || below then
      let s := s.setTm a { t with outside := true, inCount := 0 }
      if t.outside then s else wake 4 (tmEvent a 6 ((if slow then 0 else w) + b2n above * 2 ^ 24) s)
    else
      let n := t.inCount + b2n crossing
      s.setTm a { t with inCount := n, outside := t.outside && decide (n < 16) }

/-- An accepted crossing. -/
def zcAccept (a i n : Nat) (rev : Bool) (ivals : List Nat) (s : State) : State :=
  let now := s.time
  let idx := if rev then (i + 3) % 6 else i
  let s := s.upTm a fun t => { t with idx := i, idxOk := true, tLast := now, ivals := ivals, accepted := n, rejected := 0, rev := rev }
  let s := (s.put (TM_ZC_ANGLE__ANGLE a) ((roundOpen s.free (idx * 65536) 6).toNat)).put (TM_ZC_ANGLE__INDEX a) idx
  let s := s.wr (TM_ZC_TIME a) (BitVec.ofNat 32 now)
  if 7 ≤ n then s.put (TM_ZC_SPEED__SPEED a) (unsgn 24 (s.zcSpeed a (ivals.foldl (· + ·) 0) rev)) else s

/-- Three consecutive rejections unlock the tracker (07 R207). -/
def zcReject (a : Nat) (s : State) : State :=
  let n := (s.tm a).rejected + 1
  if n < 3 then s.upTm a fun t => { t with rejected := n }
  else
    let slow := s.on (TM_STATUS__ZC_SLOW a)
    let s := trackerReset a s
    updatePo a (tmEvent a 5 (b2n slow) (s.putB (TM_STATUS__ZC_SLOW a) slow))

/-- Seed the estimator (07 R215, R217): ψ = PSI_PM at the angle, saturated as in R192, offsets 0; no speed is known yet. -/
def seedFlux (a th : Nat) (s : State) : State :=
  let v := polar s.free (s.get (TM_PSI_PM__PSI_PM a)) th
  let s := { s with free := s.free + 2 }
  let s := (s.putB (TM_STATUS__FLUX_SAT a) (v.1 != fluxLim v.1 || v.2 != fluxLim v.2)).putB (TM_STATUS__SPD_VALID a) false
  s.upTm a fun t =>
    { t with psiA := fluxLim v.1, psiB := fluxLim v.2, oA := 0, oB := 0, eps := [], thOk := false, adv := [], validRun := 0 }

/-- The tracker's angle between crossings, its advance limited to 60° (07 R208). -/
def State.zcAngle (s : State) (a : Nat) : Nat :=
  let t := s.tm a
  let base := s.get (TM_ZC_ANGLE__ANGLE a)
  let sum := t.ivals.foldl (· + ·) 0
  let adv := if sum = 0 ∨ s.on (TM_STATUS__ZC_SLOW a) then 0 else min 10922 ((s.time - t.tLast) * 65536 / sum)
  if t.rev then (base + 65536 - adv) % 65536 else (base + adv) % 65536

/-- TM_ANGLE, whose rotor angle comes from the tracker while it serves (07 R203). -/
def State.tmAngle (s : State) (a : Nat) : Word :=
  if s.get (TM_STATUS__POS_SRC a) = 3 then fieldSet (s.rd (TM_ANGLE a)) 16 16 (s.zcAngle a) else s.rd (TM_ANGLE a)

/-- The seed of a catch, t2 of 07 R215. -/
def catchStart (a : Nat) (s : State) : State :=
  let zc := s.zcSpd a
  let th := if zc.isSome then s.zcAngle a else s.thetaPi a
  let sp := zc.getD (s.piSpeed (s.get (AX_BIND__PI_SEL a)))
  let s := (seedFlux a th s).upTm a fun t =>
    { t with catchPh := 2, catchPi := zc.isNone, seedSpeed := sp, seedAngle := th, seedTime := s.time, verified := 0, tauRef := 0,
             psiRef := s.get (TM_PSI_PM__PSI_PM a), lost := false }
  posSrc a 1 (s.put (TM_STATUS__CATCH_PHASE a) 2)

/-- The fast channel whose zero-crossing comparator watches a phase (10 R301). -/
def State.zcChannel (s : State) (a ph : Nat) : Nat :=
  if s.on (AX_STATE__ASC_ACTIVE a) then s.get ([TM_ISRC__IA, TM_ISRC__IB, TM_ISRC__IC].getD ph TM_ISRC__IA a)
  else s.get ([TM_VSRC__VA, TM_VSRC__VB, TM_VSRC__VC].getD ph TM_VSRC__VA a)

/-- The comparators of a table-mode axis have a reference (10 R301): of its voltage channels, or of its current channels while a short
circuit is held. -/
def State.zcRef (s : State) (a : Nat) : Bool := s.tableMode a && (s.on (AX_STATE__ASC_ACTIVE a) || s.on (TM_VSRC__EN a))

/-- ZC_CROSSING (07 R205 to R211): the comparator's output changes, and the tracker of the axis takes the edge of a channel that the
axis may use (10 R295). -/
def execZcCrossing (a : Fin 8) (ph : Fin 3) (rising : Bool) (s : State) : Host.Outcome State Fault Refusal :=
  .next <|
    let a := a.val
    let k := s.zcChannel a ph.val
    let live := s.zcLive a && s.fcUsable k a
    let s := s.when (s.zcRef a) fun s => s.putB (FM_CH_STATUS__ZC_OUT k) rising
    if !live then s
    else
      let t := s.tm a
      let i := zcIndex ph.val rising
      let dt := s.time - t.tLast
      let s := s.putB (TM_STATUS__ZC_SLOW a) false
      if s.on (TM_STATUS__ZC_LOCK a) then
        let sum := t.ivals.foldl (· + ·) 0
        let next := if t.rev then (t.idx + 5) % 6 else (t.idx + 1) % 6
        if i = next ∧ 3 * sum ≤ 24 * dt ∧ 24 * dt ≤ 5 * sum ∧ 3125 ≤ 4 * dt then
          updatePo a (watchStep a true (zcAccept a i 7 t.rev ((dt :: t.ivals).take 6) s))
        else zcReject a (s.bump (TM_COUNTS__ZC_GLITCH a))
      else
        let fwd := t.idxOk && i == (t.idx + 1) % 6 && (t.accepted ≤ 1 || !t.rev)
        let bwd := t.idxOk && i == (t.idx + 5) % 6 && (t.accepted ≤ 1 || t.rev)
        if fwd || bwd then
          let n := t.accepted + 1
          let s := zcAccept a i n bwd ((dt :: t.ivals).take 6) s
          if n < 7 then updatePo a s
          else
            let s := (s.putB (TM_STATUS__ZC_LOCK a) true).putB (TM_STATUS__ZC_REV a) bwd
            let s := tmEvent a 4 (s.get (TM_ZC_SPEED__SPEED a)) s
            let s := updatePo a (watchStep a true s)
            if (s.tm a).recov = 2 then
              let s := s.upAx a fun x => { x with closeSet := s.get (AX_STATUS__SET_IN_USE a) }
              (catchStart a s).upTm a fun t => { t with recov := 3 }
            else s
        else updatePo a (zcAccept a i 1 false [] s)

/-- ZC_MISSING: 1.25 times the mean interval has passed; it counts as a rejection (07 R207). -/
def execZcMissing (a : Fin 8) (s : State) : Host.Outcome State Fault Refusal :=
  .next (if s.zcLive a.val && s.on (TM_STATUS__ZC_LOCK a.val) then zcReject a.val s else s)

/-- ZC_TIMEOUT: no comparator edge for TIMEOUT ms (07 R207, R209). -/
def execZcTimeout (a : Fin 8) (s : State) : Host.Outcome State Fault Refusal :=
  .next (if s.zcLive a.val then updatePo a.val (watchStep a.val false (s.putB (TM_STATUS__ZC_SLOW a.val) true)) else s)

/-! ## The catch -/

/-- A catch is begun (07 R214, R215 t0): the axis stays in COAST with CLOSING = 1. -/
def catchBegin (a : Nat) (s : State) : State :=
  let s := s.upAx a fun x => { x with closeSet := s.get (AX_CFG__ACTIVE_SET a) }
  ((s.putB (AX_STATE__CLOSING a) true).put (TM_STATUS__CATCH_PHASE a) 1).upTm a fun t => { t with catchPh := 1 }

/-- A trigger edge starts a catch, or is ignored (07 R214, 12 R360). -/
def catchTrigger (a : Nat) (s : State) : State :=
  if s.tableMode a && s.on (TM_CATCH_CFG__TRIG_EN a) && decide (s.get (TM_CATCH_CFG__TRIG_DIN a) < 24) && s.axState a == 1 &&
      (s.ax a).req.isNone && !s.on (AX_STATE__CLOSING a) && s.on SAF_STATUS__ARMED &&
      !(s.on SAF_STATUS__STO_ACT && s.on (SAF_AX_CFG__STO_EN a)) then catchBegin a s
  else s

/-- CATCH_TRIGGER (07 R214). -/
def execCatchTrigger (a : Fin 8) (s : State) : Host.Outcome State Fault Refusal := .next (catchTrigger a.val s)

/-- An owner's catch request ends without a catch. -/
def catchFail (a code detail : Nat) (s : State) : State :=
  let s := reqDone (s.ax a).req code detail 0 s
  let s := (s.upAx a fun x => { x with req := none }).upTm a fun t => { t with catchPh := 0 }
  (s.putB (AX_STATE__CLOSING a) false).put (TM_STATUS__CATCH_PHASE a) 0

/-- CATCH_CLOCKS_VALID (07 R215, t1 and t2): the close check and the seed; switching starts at the next decision. -/
def execCatchClocksValid (a : Fin 8) (s : State) : Host.Outcome State Fault Refusal :=
  .next <|
    let a := a.val
    if (s.tm a).catchPh ≠ 1 || !s.awake || !s.coreClk || !s.fastClk then s
    else
      let r := runCheck a (s.ax a).closeSet s
      let s := r.1
      if r.2 ≠ 0 then catchFail a 8 r.2 (s.put (AX_STATE__LAST_REQ a) 2)
      else if (s.zcSpd a).isNone && (s.axPi a).isNone then
        tmEvent a 1 1 (catchFail a 4 1 (s.put (TM_STATUS__CATCH_RESULT a) 1))
      else
        let s := ((s.putB (AX_STATE__CLOSING a) false).put (TM_STATUS__CATCH_RESULT a) 0).putB (TM_STATUS__SPD_VALID a) false
        catchStart a (axGoto a 2 s)

/-- Whether the estimator's angle agrees with the source of the seed (07 R216); the tracker's angle is carried on at
its speed from the seed. -/
def State.angleAgrees (s : State) (a : Nat) : Bool :=
  let t := s.tm a
  let r := rotorFlux (s.get (TM_KL__KL a)) t.lpA t.lpB t.liA t.liB s.free
  let sum := t.ivals.foldl (· + ·) 0
  let adv := if sum = 0 ∨ s.on (TM_STATUS__ZC_SLOW a) then 0 else (s.time - t.seedTime) * 65536 / sum % 65536
  let want := if t.catchPi then s.thetaPi a else if t.rev then (t.seedAngle + 65536 - adv) % 65536 else (t.seedAngle + adv) % 65536
  decide ((sgn 16 (angleOf (s.free + 2) r.1 r.2 + 65536 - want)).natAbs ≤ s.get (TM_CATCH_CFG__ANG_TOL a) * 16)

/-- CATCH_VERIFY (07 R216, R222). -/
def execCatchVerify (a : Fin 8) (s : State) : Host.Outcome State Fault Refusal :=
  .next <|
    let a := a.val
    let t := s.tm a
    if t.catchPh ≠ 3 ∨ t.verified < max 1 (s.get (TM_CATCH_CFG__VERIFY a)) then s
    else
      let l := t.eps.take t.verified
      let flux := decide (l.foldl (· + ·) 0 ≤ ((s.get (TM_CATCH_TOL__FLUX_TOL a) * 2 ^ 11 * max 1 l.length : Nat) : Int))
      let ang := s.angleAgrees a
      if ang && flux then s.upTm a fun t => { t with catchPh := 5 }
      else
        let code := if ang then 3 else 2
        let s := tmEvent a 1 code (s.put (TM_STATUS__CATCH_RESULT a) code)
        if t.recov = 3 ∨ s.on (AX_STATE__PO_BLOCK a) then
          (enterSafe a 11 false s).put (TM_STATUS__CATCH_RESULT a) code
        else
          let s := trackerReset a (gatesOff a s)
          axGoto a 1 (posSrc a 3 ((s.upTm a fun t => { t with catchPh := 0 }).put (TM_STATUS__CATCH_PHASE a) 0))

/-! ## Recovery -/

/-- RECOVERY_ZERO_TIME (07 R221 to R223): ZERO_TIME has elapsed. -/
def execRecoveryZeroTime (a : Fin 8) (s : State) : Host.Outcome State Fault Refusal :=
  .next <|
    let a := a.val
    let t := s.tm a
    if t.recov = 4 then
      let s := updatePo a s
      enterSafe a 11 false (s.when (s.get (TM_STATUS__LOSS_ACTION a) == 3) fun s => s.upAx a fun x => { x with lossOff := true })
    else if t.recov = 1 then
      let s := updatePo a s
      if s.on (AX_STATE__PO_BLOCK a) then enterSafe a 11 false (s.put (TM_STATUS__LOSS_ACTION a) 4)
      else if t.stopTo ≠ 0 then
        let s := trackerReset a (gatesOff a s)
        let s := (s.putB (TM_STATUS__RECOVERING a) false).upTm a fun t => { t with recov := 0, stopTo := 0 }
        (axGoto a 1 (posSrc a 3 s)).when (t.stopTo == 2) (axGoto a 0)
      else
        let s := trackerReset a (gatesOff a s)
        posSrc a 3 (s.upTm a fun t => { t with recov := 2 })
    else s

/-- RECATCH_TIMEOUT (07 R222): RECATCH_MAX passes without lock. -/
def execRecatchTimeout (a : Fin 8) (s : State) : Host.Outcome State Fault Refusal :=
  .next (if (s.tm a.val).recov = 2 then enterSafe a.val 11 false s else s)

/-- The drive-mode words 44 to 63 of a table-mode snapshot (07 R225). -/
def State.tmSnap (s : State) (a : Nat) : List Word :=
  let t := s.tm a
  let w := max 1 (s.get (TM_LOSS__WIN a))
  let l := t.eps.take w
  let mean : Int := if l = [] then 0 else l.foldl (· + ·) 0 / l.length
  let c2 := if t.cTau = 1 then 1 else if t.cTau = -1 then 3 else 0
  [snapWord (t.lpA.fdiv 256), snapWord (t.lpB.fdiv 256), snapWord t.mag, snapWord t.tau, snapWord ((s.axSpeed a).getD 0),
   s.tmAngle a, BitVec.ofNat 32 (s.get (TM_STATUS__SECTOR a) + c2 * 8 + b2n t.cPsi * 32 + t.vec * 64),
   snapWord t.oA, snapWord t.oB, snapWord mean, snapWord (sgn 24 (s.get (TM_ZC_SPEED__SPEED a))), s.rd (TM_ZC_ANGLE a),
   BitVec.ofNat 32 (s.thetaPi a + b2n (s.axPi a).isSome * 65536), s.rd (TM_STATUS a), BitVec.ofNat 32 t.commuts]

end Sys2Proof.Machine
end

