-- ==== Sys2Proof/Machine/Axis.lean ====
section
/-! DEFINITION. Axis requests, the close, samples, control steps and outputs, HOLD, and the axis opcodes (06). -/

namespace Sys2Proof.Machine

/-! ## Requests (R156, R157) -/

/-- An accepted request: the first step of its descriptor is committed. -/
def reqAccept (a target : Nat) (ctx : Option Nat) (s : State) : State :=
  let s := (s.put (AX_STATE__LAST_REQ a) 0).upAx a fun x => { x with req := some { target := target, ctx := ctx }, feHold := false }
  match ctx with
  | some c => stepDone c 1 s
  | none => s

/-- A close begins, t0 of R180. -/
def closeBegin (a : Nat) (s : State) : State :=
  (s.putB (AX_STATE__CLOSING a) true).upAx a fun x => { x with closing := 1, closeSet := s.get (AX_CFG__ACTIVE_SET a) }

/-- The islands' conditions on a start from OFF (09 R265, R287). -/
def State.islandsReady (s : State) (a : Nat) : Bool :=
  (s.axIslands a).all fun i => s.on (GI_STATUS__CFG_SYNC i) && !s.on (GI_CFG__SERVICE i)

/-- The work slot that supervises an axis is held by a pair (13 R386). -/
def State.slotFilled (s : State) (a : Nat) : Bool :=
  (s.rd RED_SLOTS).toNat / 2 ^ (4 * s.get (RED_AXSLOT__SLOT a)) % 8 != 7

/-- The position conditions of a table-mode start from OFF (07 R217). -/
def State.startPosOk (s : State) (a : Nat) : Bool :=
  !s.tableMode a || ((s.axPi a).isSome &&
    (!s.isPm a || s.get (TM_POS_CFG__SECT_MODE a) == 1 || s.get (TM_POS_CFG__SECT_MODE a) == 2))

/-- The axis leaves SAFE: the hold state ends, and with it a held short circuit (12 R354, 09 R263). -/
def leaveSafe (a new : Nat) (s : State) : State :=
  let s := (s.putB (AX_STATE__ASC_ACTIVE a) false).put (SAF_AX_STAT__ASC_SIDE a) 0
  let s := s.upAx a fun x => { x with hold := 0, forced := false }
  let s := s.each (s.axLegs a) fun m s => legReq m 0 s
  axGoto a new (s.when (s.tableMode a && new == 1) fun s => trackStart a (posSrc a 3 s))

/-- Leave SAFE for OFF or COAST (R156, R488). Of several conditions that fail, the spec orders only codes 4 and 8 of R157; the
order of the rest is the model's choice (log 55): the transition, its TM_VSRC, a cause present, SAF_HOLD, RST_HOLD, pulse-off. -/
def reqLeaveSafe (a target : Nat) (ctx : Option Nat) (s : State) : State :=
  let refuse := fun code => reqRefuse a code ctx s
  if target = 1 ∧ !s.tableMode a then refuse 1
  else if target = 1 ∧ !s.on (TM_VSRC__EN a) then refuse 6
  else if s.anyCause a then refuse (if s.on (AX_STATE__SAF_HOLD a) then 4 else 8)
  else if s.on (AX_STATE__SAF_HOLD a) then refuse 4
  else if s.on (AX_STATE__RST_HOLD a) then refuse 5
  else if s.on (AX_STATE__ASC_ACTIVE a) && s.on (AX_STATE__PO_BLOCK a) then refuse 3
  else leaveSafe a target (reqAccept a target ctx s)

/-- Leave OFF (R156, 07 R217, 12 R358, R360). Where several conditions fail, the order of their codes is the model's choice (log 55):
device-SAFE (1), another request (7) and a basting check (7) in axRequest, then disarmed (4), the transition (1), the binding (6), and STO or
the block check (4). -/
def reqLeaveOff (a target : Nat) (ctx : Option Nat) (s : State) : State :=
  let refuse := fun code => reqRefuse a code ctx s
  if !s.on SAF_STATUS__ARMED then refuse 4
  else if target = 2 ∨ target = 4 ∨ (target = 1 ∧ !s.tableMode a) then refuse 1
  else if target = 5 then enterSafe a 1 false (reqAccept a 5 ctx s)
  else if !s.bindOk a then refuse 6
  else if target = 1 then
    if !s.on (TM_VSRC__EN a) then refuse 6
    else axGoto a 1 (trackerReset a (posSrc a 3 (reqAccept a 1 ctx s)))
  else if !s.startPosOk a || !s.islandsReady a || !s.slotFilled a then refuse 6
  else if s.startBlocked a then refuse 4
  else closeBegin a (reqAccept a 3 ctx s)

/-- A close that waits for its output is given up. -/
def closeDrop (a : Nat) (s : State) : State :=
  (closeUndo a s).upAx a fun x => { x with closing := 0, stepDue := 0, outDue := false }

/-- A request for COAST or OFF during a recovery (07 R223). -/
def reqRecovery (a target : Nat) (ctx : Option Nat) (s : State) : State :=
  let s := reqAccept a target ctx s
  if (s.tm a).recov = 1 then s.upTm a fun t => { t with stopTo := if target = 0 then 2 else 1 }
  else
    let s := trackStart a ((gatesOff a s).upTm a fun t => { t with recov := 0, stopTo := 0, catchPh := 0 })
    let s := posSrc a 3 ((s.putB (TM_STATUS__RECOVERING a) false).put (TM_STATUS__CATCH_PHASE a) 0)
    let s := axGoto a 1 (closeDrop a s)
    s.when (target == 0) (axGoto a 0)

/-- A request from RUN or HOLD (R156, 07 R219, 12 R365). A stop to COAST ends the outer loop: outputs that wait are not applied. -/
def reqRunHold (a target : Nat) (ctx : Option Nat) (s : State) : State :=
  let refuse := fun code => reqRefuse a code ctx s
  let st := s.axState a
  if target = 2 ∨ (target = 1 ∧ !s.tableMode a) then refuse 1
  else if target = 4 then
    if (s.tm a).recov ≠ 0 ∧ (s.tm a).recov ≠ 4 then refuse 1
    else if s.on (SAF_AX_STAT__SS1 a) then refuse 4
    else reqAccept a 4 ctx s
  else if target = 3 then (if st = 4 then (if (s.ax a).holdOut && !s.islandsReady a then refuse 6 else if (s.ax a).holdOut && s.startBlocked a then refuse 4 else closeBegin a (reqAccept a 3 ctx s)) else refuse 1)
  else if target = 5 then enterSafe a 1 false (reqAccept a 5 ctx s)
  else if (s.tm a).recov ≠ 0 ∧ (s.tm a).recov ≠ 4 then reqRecovery a target ctx s
  else if !s.tableMode a then reqAccept a 0 ctx s
  else if s.on (AX_STATE__PO_BLOCK a) then refuse 3
  else ((reqAccept a target ctx s).upAx a fun x => { x with ready := false, outDue := false }).upTm a fun t =>
    { t with stopTo := if target = 0 then 2 else 1, tauRef := if s.get (TM_COAST_RAMP__TRAMP a) = 0 then 0 else t.tauRef }

/-- A request from COAST or CATCH. -/
def reqCoast (a target : Nat) (ctx : Option Nat) (s : State) : State :=
  let st := s.axState a
  if target = 5 then enterSafe a 1 false (reqAccept a 5 ctx s)
  else if target = 0 then
    let s := reqAccept a 0 ctx s
    let s := s.when (st == 2) fun s =>
      closeDrop a (((gatesOff a (s.put (TM_STATUS__CATCH_RESULT a) 4)).put (TM_STATUS__CATCH_PHASE a) 0).upTm a fun t => { t with catchPh := 0 })
    axGoto a 0 s
  else if target = 2 ∧ st = 1 then
    if s.startBlocked a || !s.islandsReady a || !s.slotFilled a then reqRefuse a (if s.startBlocked a then 4 else 6) ctx s
    else catchBegin a (reqAccept a 2 ctx s)
  else reqRefuse a 1 ctx s

/-- A basting check runs on a leg of the axis (09 R283). -/
def State.basting (s : State) (a : Nat) : Bool := (s.axLegs a).any fun m => s.on (GI_L_BRES__RUNNING (m / 3) (m % 3))

/-- A request for a state, by a write of AX_CTRL or by a descriptor of context `ctx` (R155 to R161). -/
def axRequest (a target : Nat) (ctx : Option Nat) (s : State) : State :=
  let s := s.put (AX_STATE__LAST_TARGET a) target
  let st := s.axState a
  let refuse := fun code => reqRefuse a code ctx s
  if 6 ≤ target then refuse 1
  else if st = 0 ∧ s.on RED_STATUS__DSAFE then refuse 1
  else if (s.ax a).req.isSome || s.on (AX_STATE__CLOSING a) then refuse 7
  else if target = st then
    let s := s.put (AX_STATE__LAST_REQ a) 0
    match ctx with
    | some c => descDone c 0 0 (stepDone c 2 s)
    | none => s
  else if st = 0 ∧ s.basting a then refuse 7
  else if st = 0 then reqLeaveOff a target ctx s
  else if st = 1 ∨ st = 2 then reqCoast a target ctx s
  else if st = 3 ∨ st = 4 then reqRunHold a target ctx s
  else if st = 5 ∧ target ≤ 1 then reqLeaveSafe a target ctx s
  else refuse 1

/-- FAULT_CLR (R156, R157, R488). -/
def faultClr (a : Nat) (s : State) : State :=
  let x := s.ax a
  if s.axState a ≠ 6 then s.put (AX_STATE__LAST_REQ a) 1
  else if x.latched.any (fun c => if c = 4 then x.whyLatched.any (s.whyStands a) else s.causePresent a c) then s.put (AX_STATE__LAST_REQ a) 8
  else (axGoto a 5 (unitsAxisSafe a 5 (s.put (AX_STATE__LAST_REQ a) 0))).upAx a fun y => { y with latched := [] }

/-- SAFE_STATE_ESTABLISHED (R156, 12 R352): the gates follow the hold state, and a latched cause moves on to FAULT. -/
def execSafeStateEstablished (a : Fin 8) (s : State) : Host.Outcome State Fault Refusal := .next (safeEstablished a.val s)

/-! ## The close (R179 to R181) -/

/-- CLOSE_CHECK_DONE, t1 of R180. -/
def execCloseCheckDone (a : Fin 8) (s : State) : Host.Outcome State Fault Refusal :=
  .next <|
    let a := a.val
    if (s.ax a).closing ≠ 1 || !s.coreClk then s
    else
      let r := runCheck a (s.ax a).closeSet s
      let s := r.1
      if r.2 = 0 then s.upAx a fun x => { x with closing := 2 }
      else
        let q := (s.ax a).req
        let s := (s.putB (AX_STATE__CLOSING a) false).upAx a fun x => { x with closing := 0, req := none }
        reqRefuse a 2 (q.bind ReqS.ctx) s

/-- The speed that seeds x̂ under XSEED = 2. -/
def State.closeSpeed (s : State) (a : Nat) : Int :=
  let t := s.tm a
  if s.axState a = 2 ∨ t.recov = 3 then t.seedSpeed
  else match s.axPi a with
    | some n => s.piSpeed n
    | none => t.seedSpeed

/-- t2 of R180: the set becomes active, x̂ is seeded, the ramp resumes, and a full step is due. -/
def closeStep (a : Nat) (s : State) : State :=
  let set := (s.ax a).closeSet
  let rec3 := (s.tm a).recov == 3
  let held := s.axState a == 4 || rec3
  let sp := wordFlt (s.rd (AX_SETPOINT a))
  let r0 := rampTo (s.ax a).r0 sp (wordFlt (s.rd (AX_RAMP a)))
  let x := s.seed a set held (s.closeSpeed a)
  let back : HeldS := { set := s.get (AX_STATUS__SET_IN_USE a), x := (s.ax a).x, r0 := (s.ax a).r0, cnt := s.rd (AX_SAMPLE_CNT a) }
  let s := (s.put (AX_STATUS__SET_IN_USE a) set).when (!rec3) fun s => s.wr (AX_SAMPLE_CNT a) 0
  let s := (s.wr (AX_R0 a) (fltWord r0)).upAx a fun y =>
    { y with x := x, r0 := r0, r0Prev := r0, closing := 3, stepDue := 1, ready := false, outDue := true, streak := 0, back := back }
  let s := legsClose a s
  if s.tableMode a && s.axState a == 0 then
    let s := s.upTm a fun t => { t with psiA := 0, psiB := 0, oA := 0, oB := 0, eps := [], thOk := false, adv := [], validRun := 0,
                                         lost := false, recov := 0, stopTo := 0, tauRef := 0, psiRef := 0, started := false, seen := false,
                                         fell := false, speed := 0, spds := [] }
    let s := (s.putB (TM_STATUS__FLUX_SAT a) false).putB (TM_STATUS__SPD_VALID a) false
    tmLatch a (s.when (s.isPm a) (seedFlux a (s.thetaPi a)))
  else s

/-! ## Samples (R165 to R170, R178) -/

/-- The engine that serves an axis (R168). -/
def State.engineFor (s : State) (a : Nat) : Option Nat :=
  let p := (s.ax a).pref
  if s.get (RED_CE_STAT__STATE p) = 0 then some p else if s.get (RED_CE_STAT__STATE (1 - p)) = 0 then some (1 - p) else none

/-- Take the configuration that a close takes (R178). -/
def takeCfg (a : Nat) (s : State) : State :=
  s.upAx a fun x => { x with ysrc := (List.range 8).map (s.ySrc a), udst := (List.range 6).map (s.uDst a), pref := s.get (AX_CFG__ENGINE_PREF a),
                             ff := s.get (AX_CFG__FF_MODE a), period := s.get (AX_TIMING__PERIOD a),
                             sync := s.get (AX_TIMING__SYNC a) }

/-- The carrier trigger that makes a sample instant of an axis with SYNC = 1 has fired (R165, 08 R244); a close that waits
for it, and a catch, follow AX_TIMING.SYNC (07 R215). -/
def State.sampleDue (s : State) (a : Nat) : Bool :=
  (if (s.ax a).closing = 2 ∨ s.axState a = 2 then s.get (AX_TIMING__SYNC a) else (s.ax a).sync) != 1 || (s.ax a).trg

/-- y, r[1], the time base and the table-mode values of a sample instant; the channels of the axis begin new means (10 R294), and
its SSI interface a read (11 R333). -/
def sampleLatch (a : Nat) (s : State) : State :=
  let s := s.when (s.tableMode a && s.axLive a) (tmSample a)
  let set := if (s.ax a).closing = 2 ∨ (s.tm a).catchPh = 5 then (s.ax a).closeSet else s.get (AX_STATUS__SET_IN_USE a)
  let y := (List.range (s.ny a set)).map fun j => s.yVal a ((s.ax a).ysrc.getD j 0xFF)
  let s := s.upAx a fun x => { x with y := y, r1 := wordFlt (s.rd (AX_REF1 a)), time := s.time, trg := false }
  let s := s.when (s.on (AX_BIND__PI_EN a)) fun s => s.upPi (s.get (AX_BIND__PI_SEL a)) fun p => { p with ssiDue := true }
  s.each (List.range 32) fun k s =>
    s.when (s.on (FM_CH_BIND__BOUND k) && s.get (FM_CH_BIND__AXIS k) == a) fun s => s.upFc k fun f => { f with sum := 0, n := 0 }

/-- HOLD is entered (R178). -/
def holdEntry (a : Nat) (s : State) : State :=
  axGoto a 4 (s.upAx a fun x => { x with feHold := false, eccHold := false, stepDue := if s.tableMode a then 2 else 0,
                                          holdOut := s.on (AX_CFG__HOLD_OUT a), outDue := false })

/-- y_VDC of a snapshot. -/
def State.snapVdc (s : State) (a set : Nat) : Int :=
  if (s.ax a).ff = 1 then (s.ax a).y.getD (fieldGet (s.bankRd a (set * 8 + 6) 8) 0 3) 0 else 0

/-- The latest completed step is latched for snapshots (R184, 07 R225, 08 R257). -/
def snapTake (a : Nat) (x : Vec) (s : State) : State :=
  let z := s.ax a
  let set := s.get (AX_STATUS__SET_IN_USE a)
  let w := s.snapWords a x z.u z.e z.r z.y (s.snapVdc a set) (if s.tableMode a then s.tmSnap a else s.carSnap a)
  (carSample a (s.upAx a fun q => { q with snap := w })).upTm a fun t => { t with commuts := 0 }

/-- A full step becomes due: the ramp moves r[0] (R170). -/
def stepBegin (a : Nat) (s : State) : State :=
  let old := (s.ax a).r0
  let r0 := rampTo old (wordFlt (s.rd (AX_SETPOINT a))) (wordFlt (s.rd (AX_RAMP a)))
  (s.wr (AX_R0 a) (fltWord r0)).upAx a fun x => { x with r0 := r0, r0Prev := old, stepDue := 1, ready := false, outDue := true }

/-- SAMPLE_INSTANT (R165). -/
def execSampleInstant (a : Fin 8) (s : State) : Host.Outcome State Fault Refusal :=
  .next <|
    let a := a.val
    let t2 := (s.ax a).closing == 2 || (s.tm a).catchPh == 5
    let live := s.axLive a
    if !s.coreClk || !s.sampleDue a || (!live && (s.ax a).closing < 2) then s
    else
      let s := s.when (t2 || s.axState a == 2) (takeCfg a)
      match s.engineFor a with
      | none => if live then enterSafe a 12 false s else s
      | some e =>
        let s := s.when (s.get (AX_STATUS__ENGINE a) != e) fun s => axEvent a 7 e (s.put (AX_STATUS__ENGINE a) e)
        let s := disAll (sampleLatch a s)
        let st := s.axState a
        let target := (s.ax a).req.map ReqS.target
        if t2 then
          let s := s.when ((s.tm a).recov == 3) fun s =>
            tmEvent a 3 0 ((s.putB (TM_STATUS__RECOVERING a) false).put (TM_STATUS__CATCH_PHASE a) 0)
          let rec3 := (s.tm a).recov == 3
          let s := closeStep a s
          s.upTm a fun t => { t with catchPh := if rec3 then 0 else t.catchPh, recov := 0 }
        else if (s.ax a).closing = 3 then s
        else if st = 3 ∧ ((s.ax a).feHold ∨ target = some 4) then holdEntry a s
        else if (st = 3 ∨ st = 4) ∧ !s.tableMode a ∧ target = some 0 then axGoto a 0 s
        else if st = 4 then
          if s.tableMode a then s.upAx a fun x => { x with stepDue := 2 } else snapTake a (s.ax a).x s
        else if st = 2 ∨ (s.tm a).stopTo ≠ 0 ∨ (s.tm a).recov ≠ 0 then s.upAx a fun x => { x with stepDue := 2, outDue := false }
        else if st = 3 then stepBegin a s
        else s

/-! ## Control steps (R170, R175 to R177) -/

/-- The first word of each bank of a coefficient set, its eight banks in order. -/
def bankBase (b : Nat) : Nat := ((List.range b).map bankSize).sum

/-- The row of coefficient memory that holds a word: the eight banks of each set of 06 R172 in order, in nine rows of 64 words. -/
def coefRow (a sel word : Nat) : Nat := 9 * (2 * a + sel / 8) + (bankBase (sel % 8) + word) / 64

/-- An uncorrectable coefficient error in the active set: the step's results are discarded and the axis is in HOLD; at
t2 of a close it stays where it is (R175, R183). -/
def coefHold (a sel word : Nat) (s : State) : State :=
  let s := axEvent a 9 (sel + word * 256) (s.upAx a fun x => { x with stepDue := 0, ready := false, outDue := false })
  if (s.ax a).closing = 3 ∧ s.axState a ≠ 3 then
    let q := (s.ax a).req
    let s := ((closeUndo a s).putB (AX_STATE__CLOSING a) false).upAx a fun x => { x with closing := 0, req := none }
    let s := s.put (AX_STATUS__CHK_RESULT a) 5
    let s := reqRefuse a 2 (q.bind ReqS.ctx) s
    if s.axState a = 2 then holdEntry a (s.upTm a fun t => { t with catchPh := 0 }) else s
  else holdEntry a ((closeUndo a s).upAx a fun x => { x with closing := 0 })

/-- The error reaches the ledger with the row that gave it; the row's repair resolves the record (13 R409, R413). -/
def coefEcc (a sel word : Nat) (s : State) : State := faultRecord 0x04 1 6 0 (coefRow a sel word) (coefHold a sel word s)

/-- Following-error supervision (R177). DESIGN CHOICE (log 28): a HOLD that FE_ACT = 1 orders while another request or a close is in
progress is dropped and leaves LAST_REQ as it was. -/
def followCheck (a : Nat) (x : Vec) (s : State) : State :=
  let z := s.ax a
  let fe := s.followErr a x z.y z.r0
  let s := s.wr (AX_FE_ERR a) (fltWord (normFlt fe.2 fe.1))
  let lim := wordFlt (s.rd (AX_FE_LIMIT a))
  if s.axState a ≠ 3 ∨ lim.m ≤ 0 then s
  else
    let w := min fe.2 (lim.e - 23)
    let big := decide (lim.at w < fe.1 * (2 ^ (fe.2 - w).toNat : Nat))
    let n := if big then z.feCount + 1 else 0
    if big ∧ max 1 (s.get (AX_FE_TIME__FE_TIME a)) ≤ n then
      let s := axEvent a 3 (s.rd (AX_FE_ERR a)).toNat (s.upAx a fun x => { x with feCount := 0 })
      let act := s.get (AX_FE_CFG__FE_ACT a)
      if act = 0 then s
      else if act = 1 then
        if z.req.isSome ∨ z.closing ≠ 0 then s
        else
          let s := s.put (AX_STATE__LAST_TARGET a) 4
          if s.on (SAF_AX_STAT__SS1 a) then s.put (AX_STATE__LAST_REQ a) 4
          else (s.put (AX_STATE__LAST_REQ a) 0).upAx a fun x => { x with feHold := true }
      else enterSafe a 5 (act == 3) s
    else s.upAx a fun x => { x with feCount := n }

/-- The results of a full step. -/
def fullStep (a : Nat) (s : State) : State :=
  let z := s.ax a
  let set := s.get (AX_STATUS__SET_IN_USE a)
  let r := s.refVec a (s.nr a set) z.r0
  let e := s.innov a set z.x z.y
  let w := lowW z.r0 z.r0Prev
  let dr := normFlt w (z.r0.at w - z.r0Prev.at w)
  let u := s.output a set z.x r z.y dr
  let x' := s.observe a set z.x u.1 e.1
  let s := (((s.putB (AX_STATUS__X_SAT a) x'.2).putB (AX_STATUS__U_SAT a) u.2.1).putB (AX_STATUS__E_SAT a) e.2).putB (AX_STATUS__FF_LIM a) u.2.2
  let s := s.wr (AX_SAMPLE_CNT a) (s.rd (AX_SAMPLE_CNT a) + 1)
  let sat := x'.2 || u.2.1 || e.2
  let s := s.when sat fun s => s.bump (AX_COUNTS__SAT_SAMPLES a)
  let s := s.when (sat && !z.satLast) (axEvent a 4 (fieldGet (s.rd (AX_STATUS a)) 0 4))
  let s := s.upAx a fun q => { q with x := x'.1, u := u.1, e := e.1, r := r, ready := true, satLast := sat, stepDue := 0 }
  let s := driftCorrect a s
  let s := followCheck a z.x s
  snapTake a z.x s

/-- CONTROL_STEP_DONE (R170): an engine completes the step that is due; `ecc` names an uncorrectable error met in the
active set, by bank selector and word. -/
def execControlStepDone (a : Fin 8) (ecc : Option (Fin 16 × Fin 256)) (s : State) : Host.Outcome State Fault Refusal :=
  .next <|
    let a := a.val
    let due := if s.coreClk then (s.ax a).stepDue else 0
    let ce := 6 + s.get (AX_STATUS__ENGINE a)
    if due = 1 then
      match ecc with
      | some (sel, w) => coefEcc a sel.val w.val s
      | none => talCount 0x30 ce 1 0 (fullStep a s)
    else if due = 2 then
      let s := talCount 0x31 ce 1 0 s
      let s := driftCorrect a (s.upAx a fun x => { x with stepDue := 0 })
      let s := s.when ((s.tm a).catchPh == 3) fun s => s.upTm a fun t => { t with verified := t.verified + 1 }
      snapTake a (s.ax a).x s
    else s

/-! ## Outputs (R164, R166, R169) -/

/-- u is applied: torque and flux references, the flux at least FLUX_MIN (07 R189), or duties. -/
def applyOut (a : Nat) (s : State) : State :=
  let u := (s.ax a).u
  let s := s.upAx a fun x => { x with uApplied := u }
  let nu := u.m.length
  let val := fun (j : Nat) => clampI (-mantMax) mantMax (rne (u.m.getD j 0) (-u.e))
  s.each (List.range nu) fun j s =>
    let d := (s.ax a).udst.getD j 0
    if s.tableMode a then
      if d = 1 then s.upTm a fun t => { t with tauRef := val j }
      else if d = 2 then s.upTm a fun t => { t with psiRef := max (val j) (s.get (TM_FLUX__FLUX_MIN a) * 2 ^ 11 : Nat) }
      else s
    else loopDuty a j u s

/-- t3 of R180, or t6 of 07 R215: the axis is in RUN. -/
def closeEnd (a : Nat) (s : State) : State :=
  let catching := s.axState a == 2
  let st := s.axState a
  let s := (s.putB (AX_STATE__CLOSING a) false).upAx a fun x => { x with closing := 0, holdOut := false }
  let s := s.when (s.tableMode a && st == 0) fun s => posSrc a (s.posSource a) (startSwitching a s)
  let s := if st = 3 then s else axGoto a 3 s
  if catching then
    tmEvent a 0 (unsgn 24 (s.tm a).seedSpeed) (((s.put (TM_STATUS__CATCH_PHASE a) 4).put (TM_STATUS__CATCH_RESULT a) 0).upTm a fun t => { t with catchPh := 0 })
  else s

/-- OUTPUT_INSTANT (R166, R169). -/
def execOutputInstant (a : Fin 8) (s : State) : Host.Outcome State Fault Refusal :=
  .next <|
    let a := a.val
    let x := s.ax a
    if !x.outDue || !s.coreClk then s
    else
      let s := s.upAx a fun x => { x with outDue := false }
      let s := if x.ready then applyOut a ((s.putB (AX_STATUS__OVERRUN a) false).upAx a fun x => { x with streak := 0 })
        else
          let s := talCount 0x35 (6 + s.get (AX_STATUS__ENGINE a)) 1 0 s
          let s := (s.putB (AX_STATUS__OVERRUN a) true).bump (AX_COUNTS__OVERRUNS a)
          axEvent a 8 (s.get (AX_COUNTS__OVERRUNS a)) (s.upAx a fun x => { x with streak := x.streak + 1 })
      let s := if x.closing = 3 then closeEnd a s else s
      if 4 ≤ (s.ax a).streak then enterSafe a 12 false s else s

/-- HOLD_TIMEOUT (R182). -/
def execHoldTimeout (a : Fin 8) (s : State) : Host.Outcome State Fault Refusal :=
  .next <|
    let a := a.val
    if s.axState a ≠ 4 then s
    else
      let s := axEvent a 6 0 s
      if 2 ≤ (s.ax a).closing then s else enterSafe a 6 false s

/-! ## Axis opcodes (04 R112, R113) -/

/-- Write the setpoint register (R161). -/
def setpointWrite (a : Nat) (v : Word) (s : State) : State := s.wr (AX_SETPOINT a) v

/-- OP_SETPOINT. -/
def execOpSetpoint (c : Fin 256) (s : State) : Host.Outcome State Fault Refusal :=
  .next <|
    match s.running c.val 0x10 with
    | none => s
    | some e =>
      let a := unitOf (dword e.words 0)
      if s.ss1Locks a then descDone c.val 9 0 s
      else descDone c.val (if e.phase = 9 then 7 else 0) 0 (stepDone c.val 1 (setpointWrite a (dword e.words 1) s))

/-- OP_AXIS_STATE: the request is made; the descriptor waits for the state. -/
def execOpAxisState (c : Fin 256) (s : State) : Host.Outcome State Fault Refusal :=
  .next <|
    match s.running c.val 0x11 with
    | none => s
    | some e =>
      if e.phase ≠ 0 then s
      else axRequest (unitOf (dword e.words 0)) (fieldGet (dword e.words 1) 0 4) (some c.val) (s.upExec c.val fun e => { e with phase := 1 })

/-- Write consecutive coefficient words. -/
def bankWrs (a sel w : Nat) : List Word → State → State
  | [], s => s
  | v :: l, s => bankWrs a sel (w + 1) l (bankWr a sel w v s)

/-- OP_BANK_LOAD: one block of at most 64 words; `data` is what host memory answers, none where the read fails. -/
def execOpBankLoad (c : Fin 256) (data : Option (List Word)) (s : State) : Host.Outcome State Fault Refusal :=
  .next <|
    let c := c.val
    match s.running c 0x20 with
    | none => s
    | some e =>
      let a := unitOf (dword e.words 0)
      let sel := fieldGet (dword e.words 1) 0 4
      let first := fieldGet (dword e.words 1) 8 12
      let len := (dword e.words 4).toNat
      if !s.bankOpen a sel then
        descDone c 4 (s.bankDetail a sel) s
      else if !s.readGo e.port then s
      else
        let n := min 64 (len - 64 * e.phase)
        let s := s.hostRead e.port ((dword e.words 2).toNat + 2 ^ 32 * (dword e.words 3).toNat + 256 * e.phase) (4 * n)
        match data with
        | none => descDone c 5 0 s
        | some l =>
          let s := bankWrs a sel (first + 64 * e.phase) ((l ++ List.replicate n 0).take n) s
          let s := stepDone c 1 (s.upExec c fun e => { e with phase := e.phase + 1 })
          if len ≤ 64 * (e.phase + 1) then descDone c 0 0 s else s

/-- OP_BANK_CHECK. -/
def execOpBankCheck (c : Fin 256) (s : State) : Host.Outcome State Fault Refusal :=
  .next <|
    let c := c.val
    match s.running c 0x21 with
    | none => s
    | some e =>
      let a := unitOf (dword e.words 0)
      let r := runCheck a (fieldGet (dword e.words 1) 3 1) s
      let s := stepDone c 1 (r.1.upExec c fun q => { q with result := r.1.rd (AX_CHECK a) })
      if e.phase = 9 then descDone c 7 0 s
      else if r.2 = 0 then descDone c 0 0 s else descDone c 8 r.2 s

/-- OP_SNAPSHOT: the latest completed step is written to host memory; HOST_FLUSH_DONE commits the step. -/
def execOpSnapshot (c : Fin 256) (s : State) : Host.Outcome State Fault Refusal :=
  .next <|
    let c := c.val
    match s.running c 0x30 with
    | none => s
    | some e =>
      if e.flush ≠ 0 || !s.readGo e.port then s
      else
        let a := unitOf (dword e.words 0)
        let l := ((s.ax a).snap ++ List.replicate 64 0).take (if dword e.words 1 = 1 then 17 else 64)
        let s := s.hostWrite e.port ((dword e.words 2).toNat + 2 ^ 32 * (dword e.words 3).toNat) l
        (s.emit (.flush e.port)).upExec c fun q => { q with flush := 1, result := BitVec.ofNat 32 (4 * l.length) }

end Sys2Proof.Machine
end

