-- ==== Sys2Proof/Machine/Hash.lean ====
section
/-! DEFINITION. SHA-256 over bytes, the verification of HSS signatures of 14 R428: RFC 8554 with two levels of
LMS_SHA256_M32_H10 over LMOTS_SHA256_N32_W4, and the identity key of R436 with its signatures, whose levels have height 15. The
spec names the standards; their constants and steps are PRESUMED from them (log 21). -/

namespace Sys2Proof.Machine

/-! ## Bytes -/

/-- The bytes of little-endian words (00 R18). -/
def wordBytes (l : List Word) : List Byte := l.flatMap fun w => [w.extractLsb' 0 8, w.extractLsb' 8 8, w.extractLsb' 16 8, w.extractLsb' 24 8]

/-- The last n bytes of a number, the most significant first. -/
def beBytes : Nat → Nat → List Byte
  | 0, _ => []
  | n + 1, v => BitVec.ofNat 8 (v / 256 ^ n) :: beBytes n v

/-- The number that bytes spell, the most significant first. -/
def beNat (l : List Byte) : Nat := l.foldl (fun v b => 256 * v + b.toNat) 0

/-- Words from groups of four bytes, the first byte the most significant; bytes that fill no word are dropped. -/
def beWords : List Byte → List Word
  | p :: q :: r :: z :: l => (p ++ q ++ r ++ z) :: beWords l
  | _ => []

/-- A word with its bytes in the other order. -/
def bswap (w : Word) : Word := w.extractLsb' 0 8 ++ w.extractLsb' 8 8 ++ w.extractLsb' 16 8 ++ w.extractLsb' 24 8

/-! ## SHA-256 -/

/-- The working state: the registers a to h, each 32 bits. -/
structure Digest where
  a : Word
  b : Word
  c : Word
  d : Word
  e : Word
  f : Word
  g : Word
  h : Word
  deriving DecidableEq, Repr

/-- Sixteen round constants per numeral, the first in the lowest bits. -/
def roundConsts : Nat → Nat
  | 0 => 0xc19bf1749bdc06a780deb1fe72be5d74550c7dc3243185be12835b01d807aa98ab1c5ed5923f82a459f111f13956c25be9b5dba5b5c0fbcf71374491428a2f98
  | 1 => 0x1429296706ca6351d5a79147c6e00bf3bf597fc7b00327c8a831c66d983e515276f988da5cb0a9dc4a7484aa2de92c6f240ca1cc0fc19dc6efbe4786e49b69c1
  | 2 => 0x106aa070f40e3585d6990624d192e819c76c51a3c24b8b70a81a664ba2bfe8a192722c8581c2c92e766a0abb650a735453380d134d2c6dfc2e1b213827b70a85
  | _ => 0xc67178f2bef9a3f7a4506ceb90befffa8cc7020884c8781478a5636f748f82ee682e6ff35b9cca4f4ed8aa4a391c0cb334b0bcb52748774c1e376c0819a4c116

/-- The constant of round i. -/
def roundConst (i : Nat) : Word := BitVec.ofNat 32 (roundConsts (i / 16) >>> (i % 16 * 32))

/-- Three rotations of a word, combined. -/
def spin (i j k : Nat) (w : Word) : Word := w.rotateRight i ^^^ (w.rotateRight j ^^^ w.rotateRight k)

/-- The word that joins the window: it depends on the first, second, tenth and fifteenth of the sixteen there. -/
def windowNext (w : List Word) : Word :=
  let y := dword w 14
  let x := dword w 1
  (dword w 9 + dword w 0) + (((x >>> 3) ^^^ (x.rotateRight 18 ^^^ x.rotateRight 7)) + ((y >>> 10) ^^^ (y.rotateRight 19 ^^^ y.rotateRight 17)))

/-- n rounds, the last of which is round 63, over a window of the next sixteen schedule words. -/
def rounds : Nat → List Word → Digest → Digest
  | 0, _, v => v
  | n + 1, w, v =>
    let sel := v.g ^^^ (v.e &&& (v.f ^^^ v.g))
    let maj := (v.a &&& v.b) ||| (v.c &&& (v.a ||| v.b))
    let x := roundConst (63 - n) + w.headD 0 + v.h + sel + spin 6 11 25 v.e
    rounds n (w.tail ++ [windowNext w])
      { h := v.g, g := v.f, f := v.e, e := v.d + x, d := v.c, c := v.b, b := v.a, a := x + maj + spin 2 13 22 v.a }

/-- A block of 64 bytes is taken into the digest. -/
def absorb (blk : List Byte) (v : Digest) : Digest :=
  let r := rounds 64 (beWords blk) v
  { a := v.a + r.a, b := v.b + r.b, c := v.c + r.c, d := v.d + r.d, e := v.e + r.e, f := v.f + r.f, g := v.g + r.g, h := v.h + r.h }

/-- n blocks of a padded message. -/
def absorbAll : Nat → List Byte → Digest → Digest
  | 0, _, v => v
  | n + 1, l, v => absorbAll n (l.drop 64) (absorb (l.take 64) v)

/-- The initial digest from one numeral of 256 bits, a the most significant. -/
def digestOf (n : Nat) : Digest :=
  let part := fun (k : Nat) => BitVec.ofNat 32 (n >>> (32 * k))
  { a := part 7, b := part 6, c := part 5, d := part 4, e := part 3, f := part 2, g := part 1, h := part 0 }

/-- SHA-256 of bytes: 32 bytes. The message is closed by a 1 bit, zeros, and its length in bits. -/
def shaBytes (l : List Byte) : List Byte :=
  let k := l.length
  let m := l ++ 0x80#8 :: (List.replicate ((119 - k % 64) % 64) 0 ++ beBytes 8 (8 * k))
  let v := absorbAll (k / 64 + 2 - b2n (k % 64 < 56)) m
    (digestOf 0x6a09e667bb67ae853c6ef372a54ff53a510e527f9b05688c1f83d9ab5be0cd19)
  [v.a, v.b, v.c, v.d, v.e, v.f, v.g, v.h].flatMap fun w => beBytes 4 w.toNat

/-- SHA-256 of the bytes of little-endian words; the digest as little-endian words of its bytes. -/
def sha256 (l : List Word) : List Word := (beWords (shaBytes (wordBytes l))).map bswap

/-! ## LMOTS_SHA256_N32_W4 -/

/-- The i-th nibble of bytes, the high nibble of a byte first. -/
def nibble (l : List Byte) (i : Nat) : Nat := let b := (l.getD (i / 2) 0).toNat; if i % 2 = 0 then b / 16 else b % 16

/-- What every hash of a tree starts with: its identifier, a node or leaf number, and a domain word. -/
def treeHash (I : List Byte) (q dom : Nat) (l : List Byte) : List Byte := shaBytes (I ++ beBytes 4 q ++ beBytes 2 dom ++ l)

/-- A chain of a one-time key from step j, n steps long. -/
def chainHash (I : List Byte) (q i : Nat) : Nat → Nat → List Byte → List Byte
  | 0, _, y => y
  | n + 1, j, y => chainHash I q i n (j + 1) (treeHash I q i (BitVec.ofNat 8 j :: y))

/-- The one-time public key that a one-time signature over a message leads to: `sig` holds its randomizer and 67 chain
values of 32 bytes. -/
def otsKey (I : List Byte) (q : Nat) (sig msg : List Byte) : List Byte :=
  let Q := treeHash I q 0x8181 (sig.take 32 ++ msg)
  let sum := ((List.range 64).map fun i => 15 - nibble Q i).sum
  let Q := Q ++ beBytes 2 (16 * sum)
  treeHash I q 0x8080 ((List.range 67).flatMap fun i => chainHash I q i (15 - nibble Q i) (nibble Q i) ((sig.drop (32 + 32 * i)).take 32))

/-! ## LMS_SHA256_M32_H10 -/

/-- From a node up n levels to the root, with the siblings in `path`. -/
def climb (I : List Byte) : Nat → Nat → List Byte → List Byte → List Byte
  | 0, _, v, _ => v
  | n + 1, node, v, path =>
    let o := path.take 32
    climb I n (node / 2) (treeHash I (node / 2) 0x8383 (if node % 2 = 1 then o ++ v else v ++ o)) (path.drop 32)

/-- An LMS signature of 2,508 bytes over a message verifies under an LMS public key of 56 bytes. -/
def lmsOk (pub sig msg : List Byte) : Bool :=
  let I := (pub.drop 8).take 16
  let q := beNat (sig.take 4)
  let kc := otsKey I q ((sig.drop 8).take 2176) msg
  pub.take 8 == beBytes 8 0x0000000600000003 && q < 1024 && (sig.drop 4).take 4 == beBytes 4 3 &&
    (sig.drop 2184).take 4 == beBytes 4 6 &&
    climb I 10 (1024 + q) (treeHash I (1024 + q) 0x8282 kc) ((sig.drop 2188).take 320) == (pub.drop 24).take 32

/-- An HSS signature of 5,076 bytes over a message verifies under an HSS public key of 60 bytes (R428): the top tree signs
the key of the bottom tree, which signs the message. -/
def hssOk (pub sig msg : List Byte) : Bool :=
  let low := (sig.drop 2512).take 56
  pub.take 4 == beBytes 4 2 && sig.take 4 == beBytes 4 1 && lmsOk (pub.drop 4) ((sig.drop 4).take 2508) low &&
    lmsOk low ((sig.drop 2568).take 2508) msg

/-! ## The identity key (R436, R437, R439) -/

/-- The bytes of a number of n bytes that a bit vector holds, the most significant first. -/
def bvBytes {w : Nat} (n : Nat) (v : BitVec w) : List Byte := beBytes n v.toNat

/-- Height of the trees of the identity key: LMS_SHA256_M32_H15. -/
def idHeight : Nat := 15

/-- A tree of the identity key: its identifier I and its secret seed. -/
structure LmsKey where
  I : List Byte
  seed : List Byte
  deriving DecidableEq, Repr

/-- A tree that the root secret gives. -/
def idTree (secret : BitVec 256) (k : Nat) : LmsKey :=
  let l := bvBytes 48 (Config.treeKey secret k)
  { I := l.take 16, seed := l.drop 16 }

/-- The secret start of chain i of leaf q, by the pseudo-random method of RFC 8554 Appendix A. -/
def LmsKey.start (t : LmsKey) (q i : Nat) : List Byte := treeHash t.I q i (0xFF#8 :: t.seed)

/-- The one-time public key of leaf q. -/
def LmsKey.leaf (t : LmsKey) (q : Nat) : List Byte :=
  treeHash t.I q 0x8080 ((List.range 67).flatMap fun i => chainHash t.I q i 15 0 (t.start q i))

/-- Node r of the tree, n levels above its leaves. -/
def LmsKey.node (t : LmsKey) : Nat → Nat → List Byte
  | 0, r => treeHash t.I r 0x8282 (t.leaf (r - 2 ^ idHeight))
  | n + 1, r => treeHash t.I r 0x8383 (t.node n (2 * r) ++ t.node n (2 * r + 1))

/-- The LMS public key: typecodes 7 and 3, the identifier and the root, 56 bytes. -/
def LmsKey.pub (t : LmsKey) : List Byte := beBytes 4 7 ++ beBytes 4 3 ++ t.I ++ t.node idHeight 1

/-- The LMS signature that leaf q makes over a message with randomizer `c`, 2,668 bytes. -/
def LmsKey.sign (t : LmsKey) (q : Nat) (c msg : List Byte) : List Byte :=
  let Q := treeHash t.I q 0x8181 (c ++ msg)
  let sum := ((List.range 64).map fun i => 15 - nibble Q i).sum
  let Q := Q ++ beBytes 2 (16 * sum)
  beBytes 4 q ++ beBytes 4 3 ++ c ++ (List.range 67).flatMap (fun i => chainHash t.I q i (nibble Q i) 0 (t.start q i)) ++
    beBytes 4 7 ++ (List.range idHeight).flatMap fun j => t.node j ((2 ^ idHeight + q) / 2 ^ j ^^^ 1)

/-- Words of bytes, little-endian; bytes that fill no word are dropped. -/
def leWords (l : List Byte) : List Word := (beWords l).map bswap

/-- The root secret that was burned at minting: no register shows it. -/
def rootSecret : BitVec 256 :=
  (List.range 8).foldl (fun v i => (v <<< 32) ||| BitVec.ofNat 256 (Config.fuse (51 + i) % 2 ^ 32)) 0

/-- The identity public key, 60 bytes. -/
def idPublic (secret : BitVec 256) : List Byte := beBytes 4 2 ++ (idTree secret 0).pub

/-- The HSS signature with index q over a message, 5,396 bytes: the top tree signs the public key of the bottom tree with leaf q >> 15, the
bottom tree signs the message with leaf q & 0x7FFF. -/
def idSign (secret : BitVec 256) (q : Nat) (msg : List Byte) : List Byte :=
  let hi := q / 2 ^ idHeight
  let lo := q % 2 ^ idHeight
  let low := idTree secret (hi + 1)
  beBytes 4 1 ++ (idTree secret 0).sign hi (bvBytes 32 (Config.leafRandom secret 0 hi)) low.pub ++ low.pub ++
    low.sign lo (bvBytes 32 (Config.leafRandom secret (hi + 1) lo)) msg

end Sys2Proof.Machine
end

