-- ==== Sys2Proof/Machine/Islands.lean ====
section
/-! DEFINITION. The gate-drive islands (09): the link, supplies, gate profiles, short-circuit detection, soft turn-off,
cross-lock, basting check and service; and the trip relay of the protection path (12 R347 to R353). -/

namespace Sys2Proof.Machine

def State.upIsl (s : State) (i : Nat) (f : IslandS → IslandS) : State :=
  { s with isls := sset (fun _ => {}) s.isls i (f (s.isl i)) }

/-- The AON domain runs (02 R69). -/
def State.aonRuns (s : State) : Bool := s.get PWR_BOOT_STATUS__PHASE != 0

/-- An island event; an island out of service raises none but GI_SERVICE (R287, R288), and a controller in reset hears none. -/
def giEvent (i b unit detail : Nat) (s : State) : State :=
  if (s.on (GI_CFG__SERVICE i) && b != 8) || !s.aonRuns then s else raise (112 + b) unit detail (s.putBit (GI_EVENT__EVT i) b true)

/-- READY: in service, link up and configuration synchronised (R265). -/
def giReady (i : Nat) (s : State) : State :=
  s.putB (GI_STATUS__READY i) (s.on (GI_STATUS__LINK_UP i) && s.on (GI_STATUS__CFG_SYNC i) && !s.on (GI_CFG__SERVICE i))

/-- The status channel reports supplies (R260). -/
def giStatus (i : Nat) (s : State) : State :=
  giReady i ((s.upIsl i fun l => { l with unheard := false }).wr (GI_STATUS i) (fieldSet (s.rd (GI_STATUS i)) 0 9 (s.isl i).sup))

/-- A configuration word changes: the island has not yet confirmed it (R265). -/
def giCfgChange (i : Nat) (s : State) : State := giReady i (s.putB (GI_STATUS__CFG_SYNC i) false)

/-- A field of a leg's status word as the island holds it: a power-on reset of the controller hides the words until the link is
back (02 R66). -/
def State.glGet (s : State) (f : Nat → Nat → FieldRef) (i x : Nat) : Nat :=
  if (s.isl i).legW = [] then s.get (f i x) else fieldGet ((s.isl i).legW.getD x 0) (f i x).lo (f i x).width
def glPut (f : Nat → Nat → FieldRef) (i x v : Nat) (s : State) : State :=
  if (s.isl i).legW = [] then s.put (f i x) v
  else s.upIsl i fun l => { l with legW := listPut 3 0 l.legW x (fieldSet (l.legW.getD x 0) (f i x).lo (f i x).width v) }

/-! ## Channels (R267 to R270) -/

def State.ch (s : State) (i c : Nat) : Nat := (s.isl i).chs.getD c 0
def chPut (i c v : Nat) (s : State) : State := s.upIsl i fun l => { l with chs := listPut 6 0 l.chs c v }

/-- UPPER_ON or LOWER_ON of a channel. -/
def chOnBit (i c : Nat) : FieldRef := if c % 2 = 0 then GI_L_STATUS__UPPER_ON i (c / 2) else GI_L_STATUS__LOWER_ON i (c / 2)

/-- The supplies permit a turn-on of the channel (R267). -/
def State.chSupply (s : State) (i c : Nat) : Bool :=
  let u := (s.isl i).sup
  nbit u 0 && nbit u 1 && (if c % 2 = 0 then nbit u (3 + c / 2) && nbit u (6 + c / 2) else nbit u 2)

/-- A turn-on is permitted; `hold` says that a hold state asks for it (R264, R265, R267, R270, R279, R282, R287). -/
def State.chMayOn (s : State) (i c : Nat) (hold : Bool) : Bool :=
  let l := s.isl i
  let x := c / 2
  !l.lost && s.chSupply i c && !nbit l.heldOff c && !s.on (GI_L_STATUS__XCMD_LATCH i x) && !s.on (GI_CFG__SERVICE i) &&
    (if hold then s.get (GI_L_STATUS__SOFT_STEP i x) == 0 || s.get (GI_L_STATUS__SOFT_STEP i x) == 3
     else !s.on (GI_L_STATUS__TRIP_LATCH i x))

/-- A turn-on profile starts (R269). -/
def chTurnOn (i c : Nat) (hold : Bool) (s : State) : State :=
  let p := s.ch i c
  if (p = 0 ∨ p = 4 ∨ p = 5) ∧ s.chMayOn i c hold then chPut i c 1 s else s

/-- A turn-off profile starts; its phase 1 is skipped from within a turn-on (R269). -/
def chTurnOff (i c : Nat) (s : State) : State :=
  let p := s.ch i c
  if p = 3 then chPut i c 4 s else if p = 1 ∨ p = 2 then chPut i c 5 s else s

/-- Both channels of a leg turn off. -/
def legTurnOff (i x : Nat) (s : State) : State := chTurnOff i (2 * x) (chTurnOff i (2 * x + 1) s)

/-! ## Hold states (R263) -/

/-- The hold state of a leg is applied: both channels off first, and the named channel after the gap. -/
def holdApply (i x : Nat) (s : State) : State :=
  let h := s.get (GI_L_STATUS__HOLD i x)
  let step := s.get (GI_L_STATUS__SOFT_STEP i x)
  if step = 1 ∨ step = 2 ∨ (s.isl i).lost then s
  else (legTurnOff i x s).upIsl i fun l => { l with gap := listPut 3 0 l.gap x h }

/-- The island applies hold states to a leg: the fast form is lost, or the leg carries a trip latch (R263, R279). -/
def State.holdGoverns (s : State) (i x : Nat) : Bool := !(s.isl i).follow || s.on (GI_L_STATUS__TRIP_LATCH i x)

/-- HOLD_STATE_GAP_END: the channel that the hold state names turns on through its profile. -/
def execHoldStateGapEnd (i : Fin 8) (x : Fin 3) (s : State) : Host.Outcome State Fault Refusal :=
  .next <|
    let i := i.val
    let x := x.val
    let g := (s.isl i).gap.getD x 0
    if g = 0 then s
    else
      let s := s.upIsl i fun l => { l with gap := listPut 3 0 l.gap x 0 }
      if s.holdGoverns i x then chTurnOn i (if g = 2 then 2 * x else 2 * x + 1) true s else s

/-- The hold state that the sequencer sends for a leg. -/
def State.holdSent (s : State) (m : Nat) : Nat :=
  match s.legAxis m with
  | some a => if s.axState a = 5 ∨ s.axState a = 6 then (s.ax a).hold else 0
  | none => 0

/-- The trip clear of R280 on one leg. -/
def tripClearLeg (i x : Nat) (s : State) : State :=
  let s := ((s.putB (GI_L_STATUS__TRIP_LATCH i x) false).putB (GI_L_STATUS__XCMD_LATCH i x) false).put (GI_L_STATUS__SOFT_STEP i x) 0
  let s := (s.putB (GI_L_STATUS__GATE_FAULT_U i x) false).putB (GI_L_STATUS__GATE_FAULT_L i x) false
  s.upIsl i fun l => { l with heldOff := nbitSet (nbitSet l.heldOff (2 * x) false) (2 * x + 1) false, soft := nbitSet l.soft x false }

/-- KEEPALIVE_FRAME (R263, R280): hold states, ranks, the trip clear; `good` is false where the frame fails its check. -/
def execKeepaliveFrame (i : Fin 8) (good : Bool) (s : State) : Host.Outcome State Fault Refusal :=
  .next <|
    let i := i.val
    if !good then s.bump (GI_COUNTS__LINK_CRC i)
    else if (s.isl i).lost then s
    else
      let s := s.each [0, 1, 2] fun x s =>
        let m := 3 * i + x
        let s := match s.legAxis m with
          | some a =>
            let s := s.put (GI_L_STATUS__RANK i x) ((s.axLegs a).countP (· < m))
            let step := s.get (GI_L_STATUS__SOFT_STEP i x)
            s.when ((s.ax a).clearDue.contains i && step != 1 && step != 2) (tripClearLeg i x)
          | none => s.put (GI_L_STATUS__RANK i x) 0
        let h := s.holdSent m
        if h = s.get (GI_L_STATUS__HOLD i x) then s
        else
          let s := s.put (GI_L_STATUS__HOLD i x) h
          s.when (s.holdGoverns i x) (holdApply i x)
      let s := s.each (List.range 8) fun a s =>
        s.when ((s.ax a).clearDue.contains i) fun s =>
          let mask := ((s.axLegs a).filter fun m => m / 3 == i).foldl (fun k m => k + 2 ^ (m % 3)) 0
          (s.emit (.tripClear i mask)).upAx a fun q => { q with clearDue := q.clearDue.filter (· != i) }
      giStatus i s

/-! ## The fast form (R261, R262, R281, R282) -/

/-- The cross-lock meets a frame that commands both channels of a leg on. -/
def crossLock (i x : Nat) (s : State) : State :=
  let s := (legTurnOff i x s).putB (GI_L_STATUS__XCMD_LATCH i x) true
  (s.bump (GI_L_COUNTS__XCMD i x)).upIsl i fun l => { l with alarms := l.alarms ++ [6 + x], gap := listPut 3 0 l.gap x 0 }

/-- FAST_FRAME: a good frame. `states` is what it commands, none where it is what the leg interlocks command; `short`
names channels whose interval is under 10 ns and not carried. -/
def execFastFrame (i : Fin 8) (states : Option (BitVec 6)) (short : BitVec 6) (s : State) : Host.Outcome State Fault Refusal :=
  .next <|
    let i := i.val
    if !(s.isl i).follow || (s.isl i).lost || s.on (GI_CFG__SERVICE i) || !s.on CLK_STATUS__PLLB_LOCK then s
    else
      s.each [0, 1, 2] fun x s =>
        let m := 3 * i + x
        let cmd := fun (c : Nat) => match states with
          | some w => w.getLsbD c
          | none => if c % 2 = 0 then s.on (LEG_STATUS__UPPER m) else s.on (LEG_STATUS__LOWER m)
        let cut := fun (c : Nat) => short.getLsbD c
        let s := s.bump (GI_L_COUNTS__SHORT i x) (b2n (cut (2 * x)) + b2n (cut (2 * x + 1)))
        if cmd (2 * x) && cmd (2 * x + 1) then crossLock i x s
        else if s.on (GI_L_STATUS__TRIP_LATCH i x) || s.get (GI_L_STATUS__SOFT_STEP i x) == 1 || s.get (GI_L_STATUS__SOFT_STEP i x) == 2 then s
        else s.each [2 * x, 2 * x + 1] fun c s =>
          if cut c then s else if cmd c then chTurnOn i c false s else chTurnOff i c s

/-- FAST_FRAME_CRC_FAIL: the states of the last good frame stay. -/
def execFastFrameCrcFail (i : Fin 8) (s : State) : Host.Outcome State Fault Refusal :=
  .next (s.bump (GI_COUNTS__LINK_CRC i.val))

/-- FAST_FORM_LOST: the island applies the hold states. -/
def fastLost (i : Nat) (s : State) : State :=
  if !(s.isl i).follow then s
  else
    let s := (s.upIsl i fun l => { l with follow := false }).putB (GI_STATUS__FAST i) false
    s.each [0, 1, 2] fun x s => if s.on (GI_L_STATUS__TRIP_LATCH i x) then s else holdApply i x s

/-- With PLL-B stopped the fast form runs on no island (R261). -/
def fastFormStop (s : State) : State := s.each (List.range 8) fastLost

def execFastFormLost (i : Fin 8) (s : State) : Host.Outcome State Fault Refusal := .next (fastLost i.val s)

/-- FAST_FORM_REGAINED: 64 good frames have followed one another. -/
def execFastFormRegained (i : Fin 8) (s : State) : Host.Outcome State Fault Refusal :=
  .next <|
    let i := i.val
    if (s.isl i).lost || !s.on CLK_STATUS__PLLB_LOCK then s
    else
      let keep := fun (x : Nat) (g : Nat) => if s.on (GI_L_STATUS__TRIP_LATCH i x) then g else 0
      (s.upIsl i fun l => { l with follow := true, gap := l.gap.mapIdx keep }).putB (GI_STATUS__FAST i) true

/-! ## Link loss, power-up and supplies (R264, R265, R267) -/

/-- Axes with a leg on the island enter SAFE with cause 9, which does not latch. -/
def islandAxesSafe (i : Nat) (p : Nat → Bool) (s : State) : State :=
  s.each (List.range 8) fun a s =>
    if (s.axLegs a).any (fun m => m / 3 == i) && p (s.axState a) then enterSafe a 9 false s else s

/-- Basting checks on the island's legs are abandoned (R283). -/
def islandBastAbandon (i : Nat) (s : State) : State :=
  s.each [0, 1, 2] fun x s =>
    let m := 3 * i + x
    if !s.on (GI_L_BRES__RUNNING i x) then s
    else match s.legAxis m with
      | some a => s.each (s.axLegs a) bastAbandon
      | none => bastAbandon m s

/-- ISLAND_LINK_LOST: every channel turns off and is held off; a soft turn-off runs on to its end. The island's temperature is not
current any more (DESIGN CHOICE, log 58: whichever end has declared the link lost). -/
def execIslandLinkLost (i : Fin 8) (s : State) : Host.Outcome State Fault Refusal :=
  .next <|
    let i := i.val
    if (s.isl i).lost then s
    else
      let s := (s.each (List.range 6) (chTurnOff i)).upIsl i fun l => { l with lost := true, follow := false, gap := [0, 0, 0] }
      let s := s.each [0, 1, 2] fun x s => s.put (GI_L_STATUS__HOLD i x) 0
      let s := (s.bump (GI_COUNTS__LINK_LOSS i)).putB (GI_STATUS__FAST i) false
      let s := (s.putB (GI_STATUS__CFG_SYNC i) false).putB (DEV_TEMP_GI__VALID i) false
      giEvent i 4 i 1 (islandBastAbandon i (giReady i s))

/-- STATUS_LINK_LOST: LINK_UP is cleared and the axes enter SAFE with cause 9. -/
def execStatusLinkLost (i : Fin 8) (s : State) : Host.Outcome State Fault Refusal :=
  .next <|
    let i := i.val
    if !s.on (GI_STATUS__LINK_UP i) then s
    else
      let s := giReady i (((s.bump (GI_COUNTS__LINK_LOSS i)).putB (GI_STATUS__LINK_UP i) false).putB (GI_DCPS__VALID i) false)
      let s := s.putB (DEV_TEMP_GI__VALID i) false
      islandAxesSafe i (fun _ => true) (giEvent i 4 i 0 (islandBastAbandon i s))

/-- The leg words that a power-on reset hid show again. -/
def legShow (i : Nat) (s : State) : State :=
  let l := s.isl i
  if l.legW = [] then s
  else
    let s := s.upIsl i fun l => { l with legW := [] }
    s.each [0, 1, 2] fun x s =>
      (s.wr (GI_L_STATUS i x) (l.legW.getD x 0)).each [2 * x, 2 * x + 1] fun c s => s.putB (chOnBit i c) (s.ch i c == 3 || s.ch i c == 4)

/-- The link is up and the configuration reloaded. -/
def islandUp (i : Nat) (s : State) : State :=
  let s := legShow i (s.upIsl i fun l => { l with lost := false })
  giEvent i 5 i 0 (giStatus i ((s.putB (GI_STATUS__LINK_UP i) true).putB (GI_STATUS__CFG_SYNC i) true))

/-- ISLAND_LINK_REGAINED. -/
def execIslandLinkRegained (i : Fin 8) (s : State) : Host.Outcome State Fault Refusal :=
  .next (if nbit (s.isl i.val).sup 0 && s.aonRuns && ((s.isl i.val).lost || !s.on (GI_STATUS__LINK_UP i.val)) then islandUp i.val s else s)

/-- ISLAND_POWER_UP: VDDI reaches its threshold; training and the reload follow while the AON domain runs, else with
ISLAND_LINK_REGAINED. -/
def execIslandPowerUp (i : Fin 8) (s : State) : Host.Outcome State Fault Refusal :=
  .next <|
    let i := i.val
    if nbit (s.isl i).sup 0 then s
    else
      let s := s.upIsl i fun l => { l with sup := nbitSet l.sup 0 true }
      if !s.aonRuns then s else
      let s := islandUp i s
      giEvent i 3 i (fieldGet (s.rd (GI_STATUS i)) 0 9) s

/-- ISLAND_CFG_SYNC: the island has confirmed every value written. -/
def execIslandCfgSync (i : Fin 8) (s : State) : Host.Outcome State Fault Refusal :=
  .next (if (s.isl i.val).lost then s else giReady i.val (s.putB (GI_STATUS__CFG_SYNC i.val) true))

/-- Island logic resets: every output off, no latch kept (R267, VDDI). -/
def islandReset (i : Nat) (s : State) : State :=
  let s := s.upIsl i fun l => { ({} : IslandS) with sup := l.sup }
  let s := s.each [0, 1, 2] fun x s => s.wr (GI_L_STATUS i x) 0
  giReady i (((s.putB (GI_STATUS__FAST i) false).putB (GI_STATUS__CFG_SYNC i) false).putB (DEV_TEMP_GI__VALID i) false)

/-- A supply has returned: a hold state that turns a channel of the leg on is applied again (R267). -/
def holdAgain (i x : Nat) (s : State) : State :=
  let h := s.get (GI_L_STATUS__HOLD i x)
  let p := s.ch i (if h = 2 then 2 * x else 2 * x + 1)
  s.when (h != 0 && s.holdGoverns i x && (p == 0 || p == 4 || p == 5)) (holdApply i x)

/-- Legs whose channels a supply serves. -/
def supplyLegs (k : Nat) : List Nat := if k < 3 then [0, 1, 2] else [k % 3]

/-- ISLAND_UNDERVOLTAGE: a supply, numbered as its bit of GI_STATUS, crosses its threshold. -/
def execIslandUndervoltage (i : Fin 8) (k : Fin 9) (good : Bool) (s : State) : Host.Outcome State Fault Refusal :=
  .next <|
    let i := i.val
    let k := k.val
    if nbit (s.isl i).sup k = good then s
    else
      let s := giStatus i (s.upIsl i fun l => { l with sup := nbitSet l.sup k good })
      let s := if good then s.each (supplyLegs k) (holdAgain i)
        else
          let s := islandBastAbandon i s
          if k = 0 then islandReset i s
          else if k = 1 then s.each (List.range 6) (chTurnOff i)
          else if k = 2 then s.each [1, 3, 5] (chTurnOff i)
          else chTurnOff i (2 * (k % 3)) s
      let s := giEvent i 3 i (fieldGet (s.rd (GI_STATUS i)) 0 9) s
      if good then s
      else s.each (List.range 8) fun a s =>
        let st := s.axState a
        if (s.axLegs a).any (fun m => m / 3 == i && (supplyLegs k).contains (m % 3)) && 2 ≤ st && st ≤ 5 then enterSafe a 9 false s else s

/-- DCPS_CONVERSION (R266). -/
def execDcpsConversion (i : Fin 8) (code : BitVec 14) (s : State) : Host.Outcome State Fault Refusal :=
  .next (if s.on (GI_STATUS__LINK_UP i.val) then (s.put (GI_DCPS__VDC i.val) code.toNat).putB (GI_DCPS__VALID i.val) true else s)

/-! ## Profiles and the gate monitor -/

/-- GATE_PHASE1_END (R268, R269). -/
def execGatePhase1End (i : Fin 8) (c : Fin 6) (s : State) : Host.Outcome State Fault Refusal :=
  .next <|
    let p := s.ch i.val c.val
    if p = 1 then chPut i.val c.val 2 s
    else if p = 4 then (chPut i.val c.val 5 s).putB (chOnBit i.val c.val) false
    else s

/-- The hold stage takes over. -/
def chSettle (i c : Nat) (s : State) : State :=
  let p := s.ch i c
  if p = 2 then (chPut i c 3 s).putB (chOnBit i c) true
  else if p = 5 then (chPut i c 0 s).putB (chOnBit i c) false
  else s

/-- GATE_PHASE2_END. -/
def execGatePhase2End (i : Fin 8) (c : Fin 6) (s : State) : Host.Outcome State Fault Refusal := .next (chSettle i.val c.val s)

/-- A gate fault (R270): the channel is turned off and held off, and the axis enters SAFE with a latching cause 9. -/
def gateFault (i c : Nat) (timeout : Bool) (s : State) : State :=
  let x := c / 2
  let m := 3 * i + x
  let s := (chTurnOff i c s).upIsl i fun l => { l with heldOff := nbitSet l.heldOff c true }
  let s := glPut (if c % 2 = 0 then GI_L_STATUS__GATE_FAULT_U else GI_L_STATUS__GATE_FAULT_L) i x 1 s
  let s := giEvent i 6 m (2 ^ (c % 2) + 4 * b2n timeout) s
  match s.legAxis m with
  | some a => enterSafe a 9 true s
  | none => s

/-- GATE_PHASE2_TIMEOUT (R268). -/
def execGatePhase2Timeout (i : Fin 8) (c : Fin 6) (s : State) : Host.Outcome State Fault Refusal :=
  .next <|
    let p := s.ch i.val c.val
    if p = 2 ∨ p = 5 then gateFault i.val c.val true (chSettle i.val c.val s) else s

/-- GATE_FAULT (R270); the monitor is suspended during a basting check. -/
def execGateFault (i : Fin 8) (c : Fin 6) (s : State) : Host.Outcome State Fault Refusal :=
  .next <|
    let p := s.ch i.val c.val
    if (p = 0 ∨ p = 3) ∧ !s.on (GI_L_BRES__RUNNING i.val (c.val / 2)) then gateFault i.val c.val false s else s

/-! ## Soft turn-off (R274 to R280) -/

/-- A leg is named by a trip: its on channels enter step 1; a leg already in soft turn-off only counts the trip. -/
def softStart (i x : Nat) (s : State) : State :=
  let step := s.glGet GI_L_STATUS__SOFT_STEP i x
  if step = 1 ∨ step = 2 then s.bump (GI_L_COUNTS__SC_TRIPS i x)
  else
    let s := s.each [2 * x, 2 * x + 1] fun c s =>
      let p := s.ch i c
      if 1 ≤ p ∧ p ≤ 4 then (chPut i c 6 s).putB (chOnBit i c) false else s
    let s := glPut GI_L_STATUS__TRIP_LATCH i x 1 (glPut GI_L_STATUS__SOFT_STEP i x 1 s)
    s.upIsl i fun l => { l with gap := listPut 3 0 l.gap x 0, soft := nbitSet l.soft x true }

/-- The controller puts a trip word into an island's trip channel. -/
def tripSend (i mask : Nat) (s : State) : State :=
  if mask = 0 then s else (s.emit (.tripWord i mask)).upIsl i fun l => { l with trips := l.trips ++ [mask] }

/-- The legs of an axis on an island, as a mask. -/
def State.islandMask (s : State) (a i : Nat) : Nat := ((s.axLegs a).filter fun m => m / 3 == i).foldl (fun k m => k + 2 ^ (m % 3)) 0

/-- The trip matrix (12 R347): one trip word per island, naming every leg of the axes on it, into each island but `own`. -/
def tripWords (as : List Nat) (own : Option Nat) (s : State) : State :=
  s.each (List.range 8) fun i s =>
    s.when (own != some i) (tripSend i (as.foldl (fun k a => k ||| s.islandMask a i) 0))

/-- TRIP_WORD: the oldest trip word arrives. -/
def execTripWord (i : Fin 8) (s : State) : Host.Outcome State Fault Refusal :=
  .next <|
    match (s.isl i.val).trips with
    | [] => s
    | mask :: rest =>
      let s := s.upIsl i.val fun l => { l with trips := rest }
      s.each (bitsOf 3 mask) (softStart i.val)

/-- SOFT_STEP1_END (R275). -/
def execSoftStep1End (i : Fin 8) (x : Fin 3) (s : State) : Host.Outcome State Fault Refusal :=
  .next <|
    let i := i.val
    let x := x.val
    if s.glGet GI_L_STATUS__SOFT_STEP i x ≠ 1 then s
    else
      let s := glPut GI_L_STATUS__SOFT_STEP i x 2 s
      s.each [2 * x, 2 * x + 1] fun c s => if s.ch i c = 6 then chPut i c 7 s else s

/-- A leg is held off after its soft turn-off (R277, R279): its hold state is applied, and GI_SOFT_OFF is raised once
every leg of its axis concerned on the island is there. -/
def softEnd (i x : Nat) (s : State) : State :=
  let s := glPut GI_L_STATUS__SOFT_STEP i x 3 s
  let s := s.each [2 * x, 2 * x + 1] fun c s => if s.ch i c = 7 then chPut i c 0 s else s
  let s := s.when (s.get (GI_L_STATUS__HOLD i x) != 0) (holdApply i x)
  let mine := (bitsOf 3 (s.isl i).soft).filter fun y => y == x || (s.legAxis (3 * i + y) == s.legAxis (3 * i + x) && (s.legAxis (3 * i + x)).isSome)
  if mine.all fun y => s.glGet GI_L_STATUS__SOFT_STEP i y == 3 then
    let mask := (mine.map (2 ^ ·)).sum
    let s := s.upIsl i fun q => { q with soft := q.soft - mask }
    s.when ((s.isl i).legW == []) (giEvent i 2 i mask)
  else s

/-- SOFT_STEP2_END (R274). -/
def execSoftStep2End (i : Fin 8) (x : Fin 3) (s : State) : Host.Outcome State Fault Refusal :=
  .next (if s.glGet GI_L_STATUS__SOFT_STEP i.val x.val = 2 then softEnd i.val x.val s else s)

/-- SOFT_STEP2_TIMEOUT (R274): the hold stage takes over, and the channel is treated as under R270. -/
def execSoftStep2Timeout (i : Fin 8) (x : Fin 3) (s : State) : Host.Outcome State Fault Refusal :=
  .next <|
    let i := i.val
    let x := x.val
    if s.glGet GI_L_STATUS__SOFT_STEP i x ≠ 2 then s
    else
      let late := [2 * x, 2 * x + 1].filter fun c => s.ch i c == 7
      let s := softEnd i x s
      s.each late fun c s => gateFault i c false s

/-! ## The protection path (12 R347 to R353) -/

/-- An axis whose trip words have gone out enters SAFE through the protection path: its gates are off. The trip of
an axis of SEAM_TRIP_TX.AXMASK is sent on the seam, whatever its state (15 R453). -/
def protectAxis (a cause : Nat) (latch : Bool) (detail : Nat) (s : State) : State :=
  let s := s.when (s.axState a != 0 || (s.on SAF_STATUS__ARMED && s.sys.released)) fun s =>
    s.upAx a fun x => { x with prot := true, safeDone := false, clearDue := [] }
  let s := s.when (nbit (s.get SEAM_TRIP_TX__AXMASK) a) (seamDue 0)
  let s := safEvent 0 a detail s
  let s := s.each (s.axLegs a) fun m s => legReq m 0 s
  enterSafe a cause latch s

/-- The side of a short circuit after a further di/dt trip (R353): one that is held is lost once both sides have tripped. -/
def ascSideChange (a : Nat) (held : Bool) (s : State) : State :=
  let x := s.ax a
  let side := s.get (SAF_AX_STAT__ASC_SIDE a)
  if !s.on (AX_STATE__ASC_ACTIVE a) then s
  else if held && x.didtLow && x.didtHigh then
    let s := ((s.putB (AX_STATE__ASC_ACTIVE a) false).put (SAF_AX_STAT__ASC_SIDE a) 3).upAx a fun x => { x with hold := 0, forced := false }
    safEvent 20 a 3 s
  else
    let new := s.ascSide a
    if new = side then s
    else safEvent 20 a new ((s.put (SAF_AX_STAT__ASC_SIDE a) new).upAx a fun x => { x with hold := new })

/-- The leg holds the short circuit of its axis: it is past its soft turn-off where the axis was tripped (12 R352, R353). -/
def State.ascHeld (s : State) (m : Nat) : Bool :=
  let step := s.get (GI_L_STATUS__SOFT_STEP (m / 3) (m % 3))
  match s.legAxis m with
  | some a => s.on (AX_STATE__ASC_ACTIVE a) && (if (s.ax a).prot then step == 3 else step != 1 && step != 2)
  | none => false

/-- DIDT_DETECT (R271, R273): soft turn-off starts on the legs of the axis on this island, and an alarm word leaves. -/
def execDidtDetect (i : Fin 8) (c : Fin 6) (s : State) : Host.Outcome State Fault Refusal :=
  .next <|
    let i := i.val
    let c := c.val
    let x := c / 2
    let en := if c % 2 = 0 then s.on (GI_L_SC__EN_U i x) else s.on (GI_L_SC__EN_L i x)
    let p := s.ch i c
    let step := s.glGet GI_L_STATUS__SOFT_STEP i x
    if !en || !(p == 1 || p == 2 || p == 3 || p == 6 || p == 7) then s
    else
      let held := s.ascHeld (3 * i + x)
      let s := s.when (step != 1 && step != 2) fun s => s.bump (GI_L_COUNTS__SC_TRIPS i x)
      let legs := match s.legAxis (3 * i + x) with
        | some a => ((s.axLegs a).filter fun m => m / 3 == i).map (· % 3)
        | none => [x]
      let s := if step = 1 ∨ step = 2 then s.bump (GI_L_COUNTS__SC_TRIPS i x) else s.each legs (softStart i)
      (s.emit (.alarm i (2 ^ c))).upIsl i fun l => { l with alarms := l.alarms ++ [c + 16 * b2n held] }

/-- ALARM_WORD (R273, R282): the oldest alarm word of an island reaches the controller. -/
def execAlarmWord (i : Fin 8) (s : State) : Host.Outcome State Fault Refusal :=
  .next <|
    let i := i.val
    match (s.isl i).alarms with
    | [] => s
    | w :: rest =>
      let s := s.upIsl i fun l => { l with alarms := rest }
      if 6 ≤ w % 16 then
        let m := 3 * i + (w % 16 - 6)
        let s := faultRecord 0x11 4 11 0 m (giEvent i 0 m 3 s)
        match s.legAxis m with
        | some a => flSettle (enterSafe a 9 true s)
        | none => flSettle s
      else
        let m := 3 * i + w % 16 / 2
        let s := wake 15 (giEvent i 1 m (2 ^ (w % 2)) s)
        match s.legAxis m with
        | none => s
        | some a =>
          let s := s.upAx a fun x => if w % 2 = 0 then { x with didtHigh := true } else { x with didtLow := true }
          let was := s.axState a == 5 || s.axState a == 6
          let s := protectAxis a 3 true (32 + m * 256) (tripWords [a] (some i) s)
          s.when was (ascSideChange a (decide (16 ≤ w)))

/-- An axis that holds an active short circuit ignores window trips (R350). -/
def State.winIgnored (s : State) (a : Nat) : Bool := s.on (AX_STATE__ASC_ACTIVE a) && (s.axState a == 5 || s.axState a == 6)

/-- A TRIP firing reaches an axis (R347, R350). -/
def windowTrip (a k : Nat) (wb : Bool) (s : State) : State :=
  if s.winIgnored a then
    safEvent 21 a k (s.putB (SAF_AX_STAT__WIN_IGN a) true)
  else
    let s := s.upAx a fun x => { x with winFired := if x.winFired.contains (2 * k + b2n wb) then x.winFired else x.winFired ++ [2 * k + b2n wb] }
    protectAxis a 2 (s.on (SAF_AX_CFG__WIN_LATCH a)) k s

/-- The axes named for a comparator of a channel: its own, or its share mask (10 R295). -/
def State.fcAxes (s : State) (k : Nat) : List Nat :=
  if s.on (FM_CH_BIND__BOUND k) then [s.get (FM_CH_BIND__AXIS k)]
  else if s.on (FM_CH_BIND__SHARED k) then bitsOf 8 (s.get (FM_CH_BIND__SHARE_MASK k)) else []

/-- PROTECTION_TRIP (12 R347): the trip matrix handles the oldest TRIP firing. -/
def execProtectionTrip (s : State) : Host.Outcome State Fault Refusal :=
  .next <|
    match s.sys.firings with
    | [] => s
    | (k, wb) :: rest =>
      let s := s.upSys fun y => { y with firings := rest }
      let named := s.fcAxes k
      let hit := named.filter fun a => !s.winIgnored a
      (((tripWords hit none s).each named) fun a s => windowTrip a k wb s).when (!hit.isEmpty) (wake 15)

/-! ## Basting check (R283 to R286) -/

/-- The legs of a check started on a leg. -/
def State.bastLegs (s : State) (m : Nat) : List Nat := match s.legAxis m with | some a => s.axLegs a | none => [m]

/-- START is accepted (R283). -/
def State.bastOk (s : State) (m : Nat) : Bool :=
  s.sys.released && (match s.legAxis m with | some a => s.axState a == 0 | none => true) &&
    (s.bastLegs m).all fun l => !s.legSwitching l && s.on (GI_STATUS__READY (l / 3))

/-- The measurements of a check on a leg, in the order of R284: those selected; windings on a table-mode axis alone. -/
def State.bastList (s : State) (m : Nat) : List Nat :=
  let i := m / 3
  let x := m % 3
  let table := match s.legAxis m with | some a => s.tableMode a | none => false
  (if s.on (GI_L_BCFG__TEST_GATE i x) then [0, 1] else []) ++ (if s.on (GI_L_BCFG__TEST_PHASE i x) then [2] else []) ++
    (if s.on (GI_L_BCFG__TEST_WIND i x) && table then [3] else [])

/-- ABORT. -/
def bastAbort (m : Nat) (s : State) : State := s.each (s.bastLegs m) bastAbandon

/-- The link carries 20 V or more: 20 / 1500 of 4,096. -/
def State.linkHot (s : State) (i : Nat) : Bool := (55 : Int) ≤ sgn 14 (s.get (GI_DCPS__VDC i))

/-- The turn of a measurement has come (R284): all gates at once, then the phase nodes and then the windings, each leg by leg. -/
def State.bastTurn (s : State) (m k : Nat) : Bool :=
  (s.leg m).bast.contains k && (s.bastLegs m).all fun l =>
    (s.leg l).bast.all fun j => if j < 2 then k < 2 else if k < 2 then true else if j = k then decide (m ≤ l) else decide (k < j)

/-- Judge one measurement on a leg (R285); where two criteria hold, or a winding meets none, the code is open (log 2). -/
def bastJudge (m : Nat) (b : BastMeas) (s : State) : State :=
  let i := m / 3
  let x := m % 3
  match b with
  | .gate upper clamp rest small dv =>
    let short := !rest || small
    let k := s.fresh.1
    let s := s.when (short && clamp) fun s => s.fresh.2
    let code := if short && clamp then 2 + k % 2 else if short then 3 else if clamp then 2 else 1
    if upper then (s.put (GI_L_BRES__GATE_U i x) code).put (GI_L_BVAL__DV_U i x) dv.toNat
    else (s.put (GI_L_BRES__GATE_L i x) code).put (GI_L_BVAL__DV_L i x) dv.toNat
  | .phase vSrc vSnk =>
    let lo := decide (vSrc.toNat < 25)
    let hi := decide (188 ≤ vSnk.toNat)
    let hot := s.linkHot i
    let k := s.fresh.1
    let s := s.when (lo && hi && hot) fun s => s.fresh.2
    let code := if !lo && !hi then 1 else if !hot then 4 else if lo && hi then 2 + k % 2 else if hi then 2 else 3
    ((s.put (GI_L_BRES__PHASE i x) code).put (GI_L_BVAL__V_SRC i x) vSrc.toNat).put (GI_L_BVAL__V_SNK i x) vSnk.toNat
  | .wind u v =>
    if u = .low ∧ v = .low then s.put (GI_L_BRES__WIND i x) 1
    else if u = .compliance ∧ v = .compliance then s.put (GI_L_BRES__WIND i x) 2
    else (s.fresh.2).put (GI_L_BRES__WIND i x) (s.fresh.1 % 8)

/-- The check ends: results valid, STALE cleared, GI_BAST_DONE once per island concerned. -/
def bastFinish (m : Nat) (s : State) : State :=
  let l := s.bastLegs m
  let s := s.each l fun k s =>
    ((s.putB (GI_L_BRES__RUNNING (k / 3) (k % 3)) false).putB (GI_L_BRES__VALID (k / 3) (k % 3)) true).putB (GI_L_BRES__STALE (k / 3) (k % 3)) false
  let bad := fun (k : Nat) => [GI_L_BRES__GATE_U, GI_L_BRES__GATE_L, GI_L_BRES__PHASE, GI_L_BRES__WIND].any fun f => 2 ≤ s.get (f (k / 3) (k % 3))
  s.each (List.range 8) fun i s =>
    if l.any fun k => k / 3 == i then giEvent i 7 i ((l.filter fun k => k / 3 == i && bad k).foldl (fun n k => n + 2 ^ (k % 3)) 0) s else s

/-- A check starts: the results of the legs concerned read as not tested. With no step selected it has ended. -/
def bastStart (m : Nat) (s : State) : State :=
  let s := s.each (s.bastLegs m) fun l s =>
    let i := l / 3
    let x := l % 3
    let stale := s.on (GI_L_BRES__STALE i x)
    let s := (((s.wr (GI_L_BRES i x) 0).putB (GI_L_BRES__STALE i x) stale).putB (GI_L_BRES__RUNNING i x) true).wr (GI_L_BVAL i x) 0
    s.upLeg l fun q => { q with bast := s.bastList l }
  s.when ((s.bastLegs m).all fun l => (s.leg l).bast == []) (bastFinish m)

/-- The measurement of a basting check, numbered as in LegS.bast. -/
def bastKind : BastMeas → Nat
  | .gate upper .. => if upper then 0 else 1
  | .phase .. => 2
  | .wind .. => 3

/-- A measurement has been made; a phase short leaves the windings out (R284). -/
def bastMade (m k : Nat) (s : State) : State :=
  let s := s.upLeg m fun l => { l with bast := l.bast.filter (· != k) }
  let short := (s.bastLegs m).any fun l => 2 ≤ s.get (GI_L_BRES__PHASE (l / 3) (l % 3))
  s.when short fun s => s.each (s.bastLegs m) fun l s => s.upLeg l fun q => { q with bast := q.bast.filter (· != 3) }

/-- A measurement is judged and done with. -/
def bastAfter (m : Nat) (b : BastMeas) (s : State) : State := bastMade m (bastKind b) (bastJudge m b s)

/-- The measurement is the last of its check. -/
def State.bastEnds (s : State) (m : Nat) (b : BastMeas) : Bool :=
  let t := bastAfter m b s
  (t.bastLegs m).all fun l => (t.leg l).bast == []

/-- BASTING_MEASUREMENT: the measurement whose turn has come completes on a leg; `last` says whether it is the check's last, and
the check ends with it. -/
def execBastingMeasurement (m : Fin 24) (b : BastMeas) (last : Bool) (s : State) : Host.Outcome State Fault Refusal :=
  .next <|
    let m := m.val
    if !s.on (GI_L_BRES__RUNNING (m / 3) (m % 3)) || !s.bastTurn m (bastKind b) || last != s.bastEnds m b then s
    else (bastAfter m b s).when last (bastFinish m)

/-! ## Service (R287) -/

/-- The write of GI_CFG.SERVICE is accepted. -/
def State.serviceOk (s : State) (i : Nat) (v : Bool) : Bool :=
  if v then (List.range 8).all fun a => !((s.axLegs a).any fun m => m / 3 == i) || s.axState a == 0 || s.axState a == 5 || s.axState a == 6
  else s.on (GI_STATUS__LINK_UP i) && s.on (GI_STATUS__CFG_SYNC i)

/-- SERVICE changes. -/
def islandService (i : Nat) (v : Bool) (s : State) : State :=
  if s.on (GI_CFG__SERVICE i) = v then s
  else
    let s := s.when v fun s => (s.each (List.range 6) (chTurnOff i)).upIsl i fun l => { l with gap := [0, 0, 0] }
    let s := s.putB (GI_CFG__SERVICE i) v
    let s := giReady i s
    let s := s.when (!v) fun s => s.each [0, 1, 2] fun x s => s.when (s.holdGoverns i x) (holdApply i x)
    giEvent i 8 i (b2n v) s

end Sys2Proof.Machine
end

