-- ==== Sys2Proof/Machine/Measure.lean ====
section
/-! DEFINITION. Fast and precision measurement (10): conversions and their users, window comparators and blanking, the
scan list and urgent requests, results and their queue, open-wire tests, mains tracking and system calibration. -/

namespace Sys2Proof.Machine

/-! ## Fast channels (R290 to R295) -/

def fmEvent (k b detail : Nat) (s : State) : State := raise (128 + b) k detail s

/-- The corrected value c of a code, in units of 2^-23 (R294). -/
def State.fcCorrect (s : State) (k : Nat) (raw : Int) : Int :=
  let g : Int := 2 ^ 17 + sgn 16 (s.get (FM_CH_CAL__GAIN k))
  clampI (-(2 ^ 23)) mantMax (rne ((raw + sgn 8 (s.get (FM_CH_CAL__OFFSET k))) * g) 7)

def State.pair (s : State) (p : Nat) : PairS := sget (fun _ => {}) s.pairs p
def State.upPair (s : State) (p : Nat) (f : PairS → PairS) : State :=
  { s with pairs := sset (fun _ => {}) s.pairs p (f (s.pair p)) }

/-- One comparison of a pair (R304). -/
def pairCompare (p : Nat) (s : State) : State :=
  let d := ((s.fc (s.get (FM_PAIR__CH_A p))).c - (s.fc (s.get (FM_PAIR__CH_B p))).c).natAbs
  let out := decide (s.get (FM_PAIR_TOL__TOL p) * 2 ^ 10 < d)
  let stands := nbit (s.get FM_PAIR_STAT__MISMATCH) p
  let n := if out = stands then 0 else (s.pair p).n + 1
  if max 1 (s.get (FM_PAIR_TOL__TIME p)) ≤ n then
    let s := (s.upPair p fun _ => {}).putBit FM_PAIR_STAT__MISMATCH p out
    if out then fmEvent p 2 (d / 2 ^ 10 % 2 ^ 14) s else s
  else s.upPair p fun _ => { n := n }

/-- A grid conversion of a channel reaches the pairs that hold it; a pair is compared once both channels of an
aperture have converted. -/
def pairStep (k : Nat) (s : State) : State :=
  s.each (List.range 16) fun p s =>
    if !s.on (FM_PAIR__EN p) then s
    else
      let s := s.when (s.get (FM_PAIR__CH_A p) == k) fun s => s.upPair p fun q => { q with gotA := true }
      let s := s.when (s.get (FM_PAIR__CH_B p) == k) fun s => s.upPair p fun q => { q with gotB := true }
      s.when ((s.pair p).gotA && (s.pair p).gotB) (pairCompare p)

def State.saf (s : State) (a : Nat) : SafS := sget (fun _ => {}) s.safs a
def State.upSaf (s : State) (a : Nat) (f : SafS → SafS) : State := { s with safs := sset (fun _ => {}) s.safs a (f (s.saf a)) }

/-- A conversion joins the microsecond's means of the torque monitors that use its channel (12 R366). -/
def tmonStep (k : Nat) (c : Int) (s : State) : State :=
  s.each (List.range 8) fun a s =>
    if !s.on (SAF_AX_TMON__EN a) then s
    else
      let s := s.when (s.get (SAF_AX_TMON__IA a) == k) fun s => s.upSaf a fun q => { q with sumA := q.sumA + c, nA := q.nA + 1 }
      s.when (s.get (SAF_AX_TMON__IB a) == k) fun s => s.upSaf a fun q => { q with sumB := q.sumB + c, nB := q.nB + 1 }


/-- The channel is enabled and has a converter that is in service (R290, 13 R408). -/
def State.fcConv (s : State) (k : Nat) : Bool :=
  s.on (FM_CH_CFG__EN k) && !s.red.noConv.contains k && s.get (fpStat (s.get (FM_CH_STATUS__FP k))) != 2

/-- FAST_CONVERSION: the channel's converter answers RAW (R291, R294); off the grid, a trigger must have called for it (R293). -/
def execFastConversion (k : Fin 32) (raw : BitVec 14) (s : State) : Host.Outcome State Fault Refusal :=
  .next <|
    let k := k.val
    if !s.on CLK_STATUS__PLLB_LOCK || !s.fcConv k || !(s.onGrid k || (s.fc k).due != 0) then s
    else
      let s := s.upFc k fun f => { f with due := if s.onGrid k then 0 else f.due - 1 }
      let v := raw.toInt
      let c := s.fcCorrect k v
      let s := (s.put (FM_CH_DATA__RAW k) raw.toNat).putB (FM_CH_DATA__VALID k) true
      let s := (s.putB FM_STATUS__CONV_RUN true).upFc k fun f => { f with c := c, sum := f.sum + c, n := f.n + 1 }
      let clip := decide (v = -(2 ^ 13)) || decide (v = 2 ^ 13 - 1)
      let was := nbit (s.get (FM_CH_EVENT__EVT k)) 2
      let s := s.putB (FM_CH_STATUS__CLIP k) clip
      let s := s.when clip fun s => (s.putBit (FM_CH_EVENT__EVT k) 2 true).when (!was) (fmEvent k 4 raw.toNat)
      let s := tmonStep k c (s.when (s.onGrid k) (pairStep k))
      chopConversion k v s

/-- While PLL-B is stopped no channel converts (R293). -/
def fastStop (s : State) : State :=
  (s.each (List.range 32) fun k s => (s.putB (FM_CH_DATA__VALID k) false).upFc k fun f => { f with due := 0 }).putB FM_STATUS__CONV_RUN false

/-- TRIGGER_DROPPED (R293). -/
def execTriggerDropped (k : Fin 32) (s : State) : Host.Outcome State Fault Refusal :=
  .next <|
    let k := k.val
    if !s.on (FM_CH_CFG__EN k) || s.onGrid k || !s.on CLK_STATUS__PLLB_LOCK || (s.fc k).due == 0 then s
    else
      let s := s.upFc k fun f => { f with due := f.due - 1 }
      let s := (s.bump (FM_CH_COUNTS__TRIG_DROP k)).putBit (FM_CH_EVENT__EVT k) 3 true
      fmEvent k 3 (s.get (FM_CH_COUNTS__TRIG_DROP k)) s

/-- A channel takes another physical converter, and converts again where it had none, with which its CONV_LOST record resolves (13 R414); the
converter it leaves is a reserve
unless it is unusable, under test, or serves another channel (R290, R292, 13 R406). -/
def xbarMove (k fp : Nat) (s : State) : State :=
  let old := s.get (FM_CH_STATUS__FP k)
  let s := s.when (s.red.noConv.contains k) (flResolve fun r => r.kind == 0x0A && r.unit == old)
  let s := { s with red := { s.red with noConv := s.red.noConv.filter (· != k) } }
  if old = fp then s.put (fpStat fp) 0
  else
    let s := (s.put (FM_CH_STATUS__FP k) fp).put (FM_XBAR__FP (k / 4) (k % 4)) fp
    let used := (List.range 32).any fun j => s.fcConv j && s.get (FM_CH_STATUS__FP j) == old
    let s := s.when (s.get (fpStat old) == 0 && !used) fun s => s.put (fpStat old) 1
    fmEvent k 5 (fp + old * 256) (s.put (fpStat fp) 0)

/-- XBAR_MOVE: a reserve converter takes over an enabled channel. -/
def execXbarMove (k : Fin 32) (fp : Fin 36) (s : State) : Host.Outcome State Fault Refusal :=
  .next (if s.on (FM_CH_CFG__EN k.val) && s.get (fpStat fp.val) == 1 then xbarMove k.val fp.val s else s)

/-- CONV_RUN: a fast converter delivers valid samples (R322). -/
def convShow (s : State) : State := s.putB FM_STATUS__CONV_RUN ((List.range 32).any fun k => s.on (FM_CH_DATA__VALID k))

/-! ## Window comparators and blanking (R296 to R299) -/

def winMode (k : Nat) (wb : Bool) : FieldRef := if wb then FM_CH_WCTL__B_MODE k else FM_CH_WCTL__A_MODE k
def winAct (k : Nat) (wb : Bool) : FieldRef := if wb then FM_CH_WCTL__B_ACT k else FM_CH_WCTL__A_ACT k
def winBlk (k : Nat) (wb : Bool) : FieldRef := if wb then FM_CH_WCTL__B_BLK k else FM_CH_WCTL__A_BLK k
def winOut (k : Nat) (wb : Bool) : FieldRef := if wb then FM_CH_STATUS__WB_OUT k else FM_CH_STATUS__WA_OUT k
def winCopies (k : Nat) (wb : Bool) : FieldRef := if wb then FM_CH_STATUS__WB_COPIES k else FM_CH_STATUS__WA_COPIES k

/-- A firing enters the protection path. -/
def tripFire (k : Nat) (wb : Bool) (s : State) : State := s.upSys fun y => { y with firings := y.firings ++ [(k, wb)] }

/-- A comparator fires. -/
def windowFire (k : Nat) (wb atClose : Bool) (s : State) : State :=
  let act := s.on (winAct k wb)
  let s := fmEvent k 0 (b2n wb + 2 * b2n act + 4 * b2n atClose) (s.putBit (FM_CH_EVENT__EVT k) 0 true)
  if act then s else tripFire k wb s

/-- WINDOW_FIRING: the condition of a comparator passes its filter in the copies named. -/
def execWindowFiring (k : Fin 32) (wb : Bool) (copies : BitVec 2) (s : State) : Host.Outcome State Fault Refusal :=
  .next <|
    let k := k.val
    if s.get (winMode k wb) = 0 ∨ s.on (winOut k wb) ∨ copies.toNat &&& s.get (winCopies k wb) = 0 then s
    else
      let s := s.putB (winOut k wb) true
      if s.on (FM_CH_STATUS__BLANKING k) && s.on (winBlk k wb) then
        let was := nbit (s.get (FM_CH_EVENT__EVT k)) 1
        let s := (s.bump (FM_CH_COUNTS__MASKED k)).putBit (FM_CH_EVENT__EVT k) 1 true
        let s := s.upFc k fun f => if wb then { f with heldB := true } else { f with heldA := true }
        s.when (!was) (fmEvent k 1 (b2n wb))
      else windowFire k wb false s

/-- The condition of a comparator ends. -/
def windowEnd (k : Nat) (wb : Bool) (s : State) : State :=
  (s.putB (winOut k wb) false).upFc k fun f => if wb then { f with heldB := false } else { f with heldA := false }

/-- BLANKING_OPEN: a gate-command edge of a bound leg opens the windows that are not open. -/
def execBlankingOpen (m : Fin 24) (s : State) : Host.Outcome State Fault Refusal :=
  .next <|
    match s.legAxis m.val with
    | none => s
    | some a => s.each (List.range 32) fun k s =>
        if s.fcUsable k a && s.get (FM_CH_WCTL__BLANK k) != 0 then s.putB (FM_CH_STATUS__BLANKING k) true else s

/-- BLANKING_CLOSE: a masked condition that still holds fires. -/
def execBlankingClose (k : Fin 32) (s : State) : Host.Outcome State Fault Refusal :=
  .next <|
    let k := k.val
    if !s.on (FM_CH_STATUS__BLANKING k) then s
    else
      let f := s.fc k
      let s := (s.putB (FM_CH_STATUS__BLANKING k) false).upFc k fun f => { f with heldA := false, heldB := false }
      let s := s.when f.heldA (windowFire k false true)
      s.when f.heldB (windowFire k true true)

/-! ## The precision converters (R305 to R310) -/

def State.pmIn (s : State) (j : Nat) : PmInS := sget (fun _ => {}) s.pmIns j
def State.upPmIn (s : State) (j : Nat) (f : PmInS → PmInS) : State :=
  { s with pmIns := sset (fun _ => {}) s.pmIns j (f (s.pmIn j)) }
def State.upPm (s : State) (f : PmS → PmS) : State := { s with pm := f s.pm }
def State.px (s : State) (x : Nat) : PxS := s.pm.px.getD x {}
def State.upPx (s : State) (x : Nat) (f : PxS → PxS) : State := s.upPm fun p => { p with px := listPut 2 {} p.px x (f (s.px x)) }

def pmEvent (b unit detail : Nat) (s : State) : State := raise (144 + b) unit detail (s.putBit PM_EVENT__EVT b true)


/-- A converter is powered and in service: both from READY, PX0 alone in COAST-WATCH (02 R59, R308). -/
def State.pxLive (s : State) (x : Nat) : Bool :=
  s.get (pxState x) != 3 && (2 ≤ s.get PWR_STATE__STATE || (s.get PWR_STATE__STATE == 1 && x == 0))

/-- PM_STATUS follows the converters and the requests. -/
def pmStatus (s : State) : State :=
  let st := fun (x : Nat) (s : State) =>
    if s.get (pxState x) = 3 then s
    else s.put (pxState x) (if (s.px x).job ≠ 0 then 2 else if s.pxLive x && s.on PM_CFG__EN then 1 else 0)
  let s := (st 1 (st 0 s)).put PM_STATUS__URG_PEND s.pm.urg.length
  (s.put PM_STATUS__QCOUNT s.pm.q.length).putB PM_STATUS__CAL_BUSY (s.pm.calLeft + s.pm.calRun != 0)

/-- A fixed fallback window serves (R307). -/
def State.pmFixed (s : State) : Bool := s.get PM_CFG__MAINS == 2 && !s.on PM_STATUS__MAINS_VALID

/-- PM_PERIOD: the window in use in 5 ns units (R306, R307). Where the spec gives a window that is no whole number of
units, and for the mean, the rounding is free (log 9). -/
def pmPeriod (s : State) : State :=
  let mode := if s.pmFixed then s.get PM_CFG__MAINS_FB else s.get PM_CFG__MAINS
  let w := if mode = 0 then 4000000
    else if mode = 1 then (if s.on CLK_STATUS__PLLB_LOCK then roundOpen 20 6666667 2 else roundOpen 21 (34133 * 3125) 32)
    else roundOpen 22 (s.pm.per.foldl (· + ·) 0 : Nat) 4
  s.put PM_PERIOD__WINDOW w.toNat

/-- A conversion starts on converter x. -/
def pxStart (x job input : Nat) (restart : Bool) (s : State) : State :=
  s.upPx x fun p => { p with job := job, input := input, restart := restart, fixed := s.pmFixed, start := s.time,
                             ofs := s.get (PM_IN_CAL_OFS__OFFSET input), gain := s.get (PM_IN_CAL_GAIN__GAIN input) }

/-- The running conversion of x, if any, is put aside. -/
def pxAbort (x : Nat) (s : State) : State :=
  s.upPx x fun p => if p.job = 0 then p else { p with job := 0, held := some (p.job, p.input) }

/-- A list turn or a test conversion, which an urgent request may abort. -/
def PxS.normal (p : PxS) : Bool := p.job == 1 || p.job == 4 || p.job == 5

/-- The converter that an urgent request takes (R309): one with nothing running, else the one whose normal conversion
started last, PX0 where both started at once. -/
def State.pxFor (s : State) : Option Nat :=
  let free := [0, 1].filter fun x => s.pxLive x && (s.px x).job == 0 && (s.px x).held.isNone
  let norm := [0, 1].filter fun x => s.pxLive x && (s.px x).normal
  match free, norm with
  | x :: _, _ => some x
  | [], [x] => some x
  | [], [x, y] => if (s.px x).start < (s.px y).start then some y else some x
  | _, _ => none

/-- Serve the oldest urgent request, where it can be served. -/
def pmUrgentServe (s : State) : State :=
  match s.pm.urg with
  | [] => s
  | j :: rest =>
    match [0, 1].find? fun x => (s.px x).job == 1 && (s.px x).input == j with
    | some x => (s.upPx x fun p => { p with job := 2 }).upPm fun p => { p with urg := rest }
    | none => match s.pxFor with
      | none => s
      | some x => pxStart x 2 j false ((pxAbort x s).upPm fun p => { p with urg := rest })

/-- The converter of the next calibration conversion: the first of a step as R309, the others in turn where both serve (R318). -/
def State.calFor (s : State) : Option Nat :=
  let turn := [s.pm.calPx, 1 - s.pm.calPx]
  if s.pm.calLeft = 2 ^ s.pm.calLog2 then s.pxFor
  else match turn.find? fun x => s.pxLive x && (s.px x).job == 0 && (s.px x).held.isNone with
    | some x => some x
    | none => turn.find? fun x => s.pxLive x && (s.px x).normal

/-- Start the next calibration conversion, one after another, as urgent requests (R309, R318). -/
def pmCalServe (s : State) : State :=
  let p := s.pm
  if p.calLeft = 0 ∨ p.calRun ≠ 0 ∨ p.urg ≠ [] then s
  else
    let next := fun (x : Nat) (s : State) => s.upPm fun p => { p with calLeft := p.calLeft - 1, calRun := 1, calPx := 1 - x }
    match [0, 1].find? fun x => (s.px x).job == 1 && (s.px x).input == p.calIn with
    | some x => next x (s.upPx x fun p => { p with job := 3 })
    | none => match s.calFor with
      | none => s
      | some x => pxStart x 3 p.calIn false (next x (pxAbort x s))

/-- The input of list entry i. -/
def State.pmSeq (s : State) (i : Nat) : Nat := s.get (PM_SEQ__INPUT (i / 4) (i % 4))

/-- The position of the next list entry to take, if any. -/
def State.pmNext (s : State) : Option Nat :=
  let len := s.get PM_SEQ_LEN__LEN
  ((List.range len).map fun i => (s.pm.pos + i) % len).find? fun i =>
    let j := s.pmSeq i
    s.on (PM_IN_CFG__EN j) && (2 ≤ s.get PWR_STATE__STATE || s.on (PM_IN_CFG__WATCH j))

/-- The periodic open-wire test of an input is selected (R317). -/
def State.pmOpenTest (s : State) (j : Nat) : Bool :=
  s.get (PM_IN_CFG__OW_MODE j) == 3 && s.get (PM_IN_CFG__OW_EVERY j) != 0

/-- A free converter serves its aborted input again, or takes the next list entry (R308, R309, R317). -/
def pxTake (x : Nat) (s : State) : State :=
  if !s.pxLive x || (s.px x).job != 0 then s
  else match (s.px x).held with
    | some (job, j) => pxStart x job j true (s.upPx x fun p => { p with held := none })
    | none =>
      if !s.on PM_CFG__EN then s
      else match s.pmNext with
        | none => s
        | some i =>
          let j := s.pmSeq i
          let due := if s.pmOpenTest j then (s.pmIn j).owDue else []
          pxStart x (due.headD 1) j false ((s.upPm fun p => { p with pos := i + 1 }).upPmIn j fun q => { q with owDue := due.tail })

/-- Converters take what waits: an aborted input first, then urgent and calibration requests, then the list. -/
def pmServe (s : State) : State :=
  let s := s.each [0, 1] fun x s => if (s.px x).held.isSome then pxTake x s else s
  let s := pmCalServe (pmUrgentServe (pmUrgentServe s))
  pmStatus (pxTake 1 (pxTake 0 s))

/-- A test conversion that is dropped is taken again, the pull-up first (R317). -/
def owAgain (job j : Nat) (s : State) : State :=
  s.upPmIn j fun q => { q with owDue := if job = 4 then 4 :: q.owDue else if job = 5 then q.owDue ++ [5] else q.owDue }

/-- Converters that lose their power drop what they convert; an urgent request waits again (02 R59), and a test conversion is due again. -/
def pmPower (s : State) : State :=
  let s := s.each [0, 1] fun x s =>
    if s.pxLive x then s
    else
      let p := s.px x
      let s := s.when (p.job == 2) fun s => s.upPm fun q => { q with urg := p.input :: q.urg }
      let s := s.when (p.job == 3) fun s => s.upPm fun q => { q with calLeft := q.calLeft + 1, calRun := 0 }
      let s := owAgain p.job p.input s
      let s := match p.held with | some (job, j) => owAgain job j s | none => s
      s.upPx x fun _ => {}
  pmServe (pmPeriod s)

/-- PM_URGENT: an urgent request, where fewer than eight wait (R309). -/
def pmUrgent (j : Nat) (s : State) : State := pmServe (s.upPm fun p => { p with urg := p.urg ++ [j] })

/-! ## Results (R311 to R315) -/

/-- A quotient rounded to nearest, halves away from zero. -/
def rhaz (v : Int) (d : Nat) : Int := if 0 ≤ v then (2 * v + d) / (2 * d) else -((-(2 * v) + d) / (2 * d))

/-- The calibrated value s of a raw code. -/
def PxS.calibrate (p : PxS) (raw : Nat) : Int := rhaz (((raw : Int) - p.ofs) * p.gain) (2 ^ 22)

/-- The sum in progress is discarded. -/
def pmSumDrop (j : Nat) (s : State) : State :=
  s.upPmIn j fun q => { q with sum := 0, n := 0, sat := false, restart := false, fixed := false }

/-- After every OW_EVERY results of the input its next two list turns are test conversions (R317). -/
def pmOpenCount (j : Nat) (s : State) : State :=
  if !s.pmOpenTest j then s
  else if (s.pmIn j).results + 1 < s.get (PM_IN_CFG__OW_EVERY j) then s.upPmIn j fun q => { q with results := q.results + 1 }
  else s.upPmIn j fun q => { q with results := 0, owDue := [4, 5], owUp := none, owDown := none }

/-- One result: limits, PM_INj_LAST, SEQ and the queue. -/
def pmResult (x j : Nat) (value : Int) (sat restart fixed urgent : Bool) (s : State) : State :=
  let v := clampI (-(2 ^ 31)) (2 ^ 31 - 1) value
  let sat := sat || v != value
  let hi := decide (sgn 32 (s.get (PM_IN_HI__HI j)) < v)
  let lo := decide (v < sgn 32 (s.get (PM_IN_LO__LO j)))
  let change := hi != s.on (PM_IN_STATUS__ABOVE_HI j) || lo != s.on (PM_IN_STATUS__BELOW_LO j)
  let s := (s.putB (PM_IN_STATUS__ABOVE_HI j) hi).putB (PM_IN_STATUS__BELOW_LO j) lo
  let s := s.put (PM_IN_STATUS__SEQ j) (s.get (PM_IN_STATUS__SEQ j) + 1)
  let s := s.wr (PM_IN_LAST j) (BitVec.ofInt 32 v)
  let s := s.when change fun s =>
    let s := pmEvent 0 j (b2n hi + 2 * b2n lo + 4 * s.get (PM_IN_BIND__AXIS j) + 32 * b2n (s.on (PM_IN_BIND__BOUND j))) s
    s.when (s.on (PM_IN_CFG__WATCH j)) (wake 5)
  let seq := s.get (PM_IN_STATUS__SEQ j)
  let s := if s.pm.q.length < 512 then
      let w0 := j + x * 2 ^ 6 + b2n urgent * 2 ^ 7 + b2n restart * 2 ^ 8 + b2n (s.on (PM_IN_STATUS__OPEN j)) * 2 ^ 9 +
        b2n sat * 2 ^ 10 + b2n fixed * 2 ^ 11 + b2n hi * 2 ^ 12 + b2n lo * 2 ^ 13 + 2 ^ 15 + seq * 2 ^ 16
      let s := s.upPm fun p => { p with q := p.q ++ [[BitVec.ofNat 32 w0, BitVec.ofInt 32 v, BitVec.ofNat 32 s.time, BitVec.ofNat 32 (s.time / 2 ^ 32)]] }
      let n := s.pm.q.length
      s.when (n == s.get PM_QCFG__QHWM) (pmEvent 3 0 n)
    else pmEvent 2 j seq (s.bump (PM_IN_STATUS__DROPPED j))
  pmOpenCount j (s.when urgent (pmEvent 6 j seq))

/-- A list conversion of an input joins its average (R311). -/
def pmListEnd (x raw : Nat) (s : State) : State :=
  let p := s.px x
  let j := p.input
  let s := s.upPmIn j fun q =>
    { q with sum := q.sum + p.calibrate raw, n := q.n + 1, sat := q.sat || raw == 0 || raw == 2 ^ 24 - 1,
             restart := q.restart || p.restart, fixed := q.fixed || p.fixed }
  let q := s.pmIn j
  if q.n < 2 ^ min 8 (s.get (PM_IN_CFG__AVG_LOG2 j)) then s
  else
    pmResult x j (ashr q.sum (min 8 (s.get (PM_IN_CFG__SHIFT j)))) q.sat q.restart q.fixed false (pmSumDrop j s)

/-- A calibration conversion ends; with the last one the mean is held (R318). -/
def pmCalEnd (raw : Nat) (s : State) : State :=
  let s := s.upPm fun p => { p with calSum := p.calSum + raw, calRun := 0 }
  if s.pm.calLeft ≠ 0 then s
  else
    let mean := (2 * s.pm.calSum + 2 ^ s.pm.calLog2) / 2 ^ (s.pm.calLog2 + 1)
    if s.get PM_CAL_STATUS__PHASE = 1 then (s.put PM_CAL_Z__MEAN mean).put PM_CAL_STATUS__PHASE 2
    else if s.get PM_CAL_STATUS__PHASE = 3 then (s.put PM_CAL_F__MEAN mean).put PM_CAL_STATUS__PHASE 4
    else s

/-- PRECISION_CONVERSION: converter x ends a list turn, an urgent or a calibration conversion with a raw code. -/
def execPrecisionConversion (x : Fin 2) (raw : BitVec 24) (s : State) : Host.Outcome State Fault Refusal :=
  .next <|
    let x := x.val
    let raw := raw.toNat
    let p := s.px x
    let free := fun (s : State) => s.upPx x fun p => { p with job := 0 }
    if p.job = 1 then pmServe (free (pmListEnd x raw s))
    else if p.job = 2 then
      pmServe (free (pmResult x p.input (p.calibrate raw) (raw == 0 || raw == 2 ^ 24 - 1) p.restart p.fixed true s))
    else if p.job = 3 then pmServe (free (pmCalEnd raw s))
    else s

/-- OPEN_WIRE_TEST: converter x ends a test conversion; the second of the pair judges the input (R317). -/
def execOpenWireTest (x : Fin 2) (raw : BitVec 24) (s : State) : Host.Outcome State Fault Refusal :=
  .next <|
    let p := s.px x.val
    let j := p.input
    if p.job ≠ 4 ∧ p.job ≠ 5 then s
    else
      let s := s.upPx x.val fun p => { p with job := 0 }
      let s := s.upPmIn j fun q => if p.job = 4 then { q with owUp := some (decide (0xFF0000 ≤ raw.toNat)) }
        else { q with owDown := some (decide (raw.toNat ≤ 0xFFFF)) }
      match (s.pmIn j).owUp, (s.pmIn j).owDown with
      | some u, some d =>
        let s := s.upPmIn j fun q => { q with owUp := none, owDown := none }
        let op := u && d
        pmServe (if op = s.on (PM_IN_STATUS__OPEN j) then s else pmEvent 1 j (b2n op) (s.putB (PM_IN_STATUS__OPEN j) op))
      | _, _ => pmServe s

/-! ## Mains tracking (R307) -/

/-- MAINS_VALID changes. -/
def mainsPut (v : Bool) (s : State) : State :=
  if s.on PM_STATUS__MAINS_VALID = v then s else pmEvent 5 0 (b2n v) (s.putB PM_STATUS__MAINS_VALID v)

/-- A period from 14.286 ms to 25.000 ms. -/
def mainsOk (t : Nat) : Bool := 2857200 ≤ t && t ≤ 5000000

/-- Tracking starts over: another channel, or another MAINS mode (R307). -/
def mainsRestart (s : State) : State :=
  (s.upPm fun p => { p with last := none, per := [], good := 0 }).putB PM_STATUS__MAINS_VALID false

/-- MAINS_CROSSING: the comparator of the tracking channel changes; a rising crossing ends a period. -/
def execMainsCrossing (rising : Bool) (s : State) : Host.Outcome State Fault Refusal :=
  .next <|
    if s.get PM_CFG__MAINS ≠ 2 then s
    else
      let s := s.putB (FM_CH_STATUS__ZC_OUT (s.get PM_CFG__TRK_CH)) rising
      if !rising then s
      else
        let now := s.time
        match s.pm.last with
        | none => s.upPm fun p => { p with last := some now }
        | some t =>
          let n := now - t
          let s := s.upPm fun p => { p with last := some now, per := (n :: p.per).take 4, good := if mainsOk n then p.good + 1 else 0 }
          let s := if !mainsOk n then mainsPut false s else s.when (8 ≤ s.pm.good) (mainsPut true)
          pmPeriod s

/-- MAINS_TIMEOUT. -/
def execMainsTimeout (s : State) : Host.Outcome State Fault Refusal :=
  .next (if s.get PM_CFG__MAINS ≠ 2 then s else pmPeriod (mainsPut false (s.upPm fun p => { p with good := 0 })))

/-! ## Leaving the queue (R316) -/

/-- A read of PM_QPOP0: its value and the state after it. -/
def pmPop (s : State) : Word × State :=
  match s.pm.readers, s.pm.q with
  | [], e :: rest =>
    let s := s.upPm fun p => { p with q := rest }
    let s := s.each [1, 2, 3] fun i s => s.wr (PM_QPOP i) (dword e i)
    (dword e 0, pmStatus s)
  | _, _ => (0, s)

/-- READ_BUSY follows the PM_READ descriptors in execution. -/
def pmReaders (l : List Nat) (s : State) : State :=
  (s.upPm fun p => { p with readers := l }).putB PM_STATUS__READ_BUSY (l != [])

/-- OP_PM_READ: the next batch of at most 16 entries is written, and its flush starts; HOST_FLUSH_DONE commits it. A
PM_READ that did not start first waits. -/
def execOpPmRead (c : Fin 256) (s : State) : Host.Outcome State Fault Refusal :=
  .next <|
    let c := c.val
    match s.running c 0x31 with
    | none => s
    | some e =>
      let steps := s.get (HP_CTX_LEDGER1__STEPS c)
      let n := min (min 16 s.pm.q.length) ((dword e.words 1).toNat - steps)
      if s.pm.readers.head? ≠ some c ∨ e.flush ≠ 0 ∨ n = 0 ∨ !s.readGo e.port then s
      else
        let base := (dword e.words 2).toNat + 2 ^ 32 * (dword e.words 3).toNat
        let s := s.hostWrite e.port (base + 16 * steps) (s.pm.q.take n).flatten
        (s.emit (.flush e.port)).upExec c fun q => { q with flush := n }

/-- The batch of a PM_READ is flushed: its entries leave the queue and count. -/
def pmReadCommit (c n : Nat) (e : ExecS) (s : State) : State :=
  let s := pmStatus ((stepDone c n s).upPm fun p => { p with q := p.q.drop n })
  let s := s.upExec c fun q => { q with flush := 0, result := BitVec.ofNat 32 s.pm.q.length }
  if (dword e.words 1).toNat ≤ s.get (HP_CTX_LEDGER1__STEPS c) then descDone c 0 0 s else s

/-! ## System calibration (R318, R319) -/

/-- Commits of a calibration leave the queue; one that has started, `running`, writes the word's old value again (R319). -/
def calDrop (running : Bool) (s : State) : State :=
  let k := b2n running
  let s := { s with vq := ((s.vq.take k).map fun (c : VCommit) => if c.cal then ({ word := c.word, value := s.vaultRd c.word } : VCommit) else c) ++
                          (s.vq.drop k).filter fun (c : VCommit) => !c.cal }
  s.put VLT_STATUS__QUEUE (min 8 s.vq.length)

/-- The procedure ends with a result. -/
def calEnd (result : Nat) (s : State) : State :=
  let s := s.when (s.pm.calDue != 0) (calDrop (result == 4))
  let s := s.upPm fun p => { p with calLeft := 0, calRun := 0, calDue := 0, calFirst := none,
                                    px := p.px.map fun q => if q.job = 3 then { q with job := 0 } else q }
  let s := (s.put PM_CAL_STATUS__PHASE 0).put PM_CAL_STATUS__RESULT result
  pmServe (pmEvent 4 s.pm.calIn result s)

/-- Start the conversions of a step. -/
def calConvert (j n phase : Nat) (s : State) : State :=
  let n := min 8 n
  pmServe ((s.put PM_CAL_STATUS__PHASE phase).upPm fun p => { p with calIn := j, calLeft := 2 ^ n, calRun := 0, calLog2 := n, calSum := 0 })

/-- STEP = 1, ZERO. -/
def calZero (j n : Nat) (s : State) : State :=
  if s.get PM_CAL_STATUS__PHASE = 0 then calConvert j n 1 s else calEnd 4 s

/-- STEP = 2, FULL. -/
def calFull (j n : Nat) (s : State) : State :=
  if s.get PM_CAL_STATUS__PHASE = 2 then calConvert j n 3 s else calEnd 4 s

/-- The check of COMMIT: the failing result, or the new offset and gain. One that comes while the commits of another run is a step
out of order (R318). -/
def State.calCheck (s : State) : Nat × Nat × Nat :=
  let z := s.get PM_CAL_Z__MEAN
  let d : Int := (s.get PM_CAL_F__MEAN : Int) - z
  let t := sgn 32 (s.get PM_CAL_TARGET__TARGET)
  let g := if d ≤ 0 then 0 else (2 * t * 2 ^ 22 + d) / (2 * d)
  if s.get PM_CAL_STATUS__PHASE = 5 then (4, 0, 0)
  else if s.get PM_CAL_STATUS__PHASE ≠ 4 then (1, 0, 0)
  else if d < 2 ^ 16 then (2, 0, 0)
  else if t ≤ 0 ∨ g ≤ 0 ∨ 2 ^ 24 ≤ g then (3, 0, 0)
  else (0, z, g.toNat)

end Sys2Proof.Machine
end

