-- ==== Sys2Proof/Machine/Position.lean ====
section
/-! DEFINITION. Position interfaces (11 R324 to R340): count, angle and limits, encoders, index, Hall switches, SSI
frames, resolvers, position and speed validity. -/

namespace Sys2Proof.Machine

/-- An interface event (R345): source EVS160 + b. -/
def piEvent (n b detail : Nat) (s : State) : State :=
  raise (160 + b) n detail (if b = 0 then s.putB (PI_EVENT__EDGE_RATE n) true else s.putBit (PI_EVENT__EVT n) (b - 3) true)

def State.piMode (s : State) (n : Nat) : Nat := s.get (PI_CFG__MODE n)

/-- The interface runs: it has its mode, and PLL-B is locked (R335). -/
def State.piRuns (s : State) (n m : Nat) : Bool := s.piMode n == m && s.on CLK_STATUS__PLLB_LOCK

/-- POS_VALID falls (R335). -/
def posInvalid (n cause : Nat) (s : State) : State :=
  let s' := s.putB (PI_STATUS__INDEX_SEEN n) false
  if s.on (PI_STATUS__POS_VALID n) then piEvent n 6 (s.piMode n + cause * 16) (s'.putB (PI_STATUS__POS_VALID n) false) else s'

/-- A cause of POS_EDGE_RATE (R339). -/
def edgeRate (n cause : Nat) (s : State) : State :=
  let s := (s.putB (PI_STATUS__SPD_VALID n) false).put (PI_STATUS__RATE_CAUSE n) cause
  piEvent n 0 cause (s.upPi n fun p => { p with good := 0 })

/-- The axes to which the interface is bound judge PO_BLOCK anew (07 R210). -/
def piPo (n : Nat) (s : State) : State :=
  s.each (List.range 8) fun a s => s.when (s.on (AX_BIND__PI_EN a) && s.get (AX_BIND__PI_SEL a) == n) (updatePo a)

/-! ## Count, angle and limits (R326, R327) -/

/-- The mechanical angle of a count. -/
def State.piAngle (s : State) (n : Nat) (c : Int) : Nat :=
  let cpr := max 4 (s.get (PI_CPR__CPR n))
  let r := (c % (cpr : Int)).toNat
  if s.piMode n = 2 then (2 * r + 1) * 2 ^ 16 / (2 * cpr) % 2 ^ 16 else r * 2 ^ 16 / cpr

def State.piCount (s : State) (n : Nat) : Int :=
  if s.on (PI_CFG__LIMIT_MODE n) then sgn 32 (s.get (PI_CNT__COUNT n)) else s.get (PI_CNT__COUNT n)

/-- PI_ANGLE follows the count. -/
def piAngleUpdate (n : Nat) (s : State) : State := s.put (PI_ANGLE__ANGLE n) (s.piAngle n (s.piCount n))

/-- The count takes a value: modulo CPR in WRAP mode, held at the limits in SATURATE mode. -/
def piCountPut (n : Nat) (c : Int) (s : State) : State :=
  if !s.on (PI_CFG__LIMIT_MODE n) then
    piAngleUpdate n (s.put (PI_CNT__COUNT n) (c % (max 4 (s.get (PI_CPR__CPR n)) : Nat)).toNat)
  else
    let lo := sgn 32 (s.get (PI_LIM_LO__LIM_LO n))
    let hi := sgn 32 (s.get (PI_LIM_HI__LIM_HI n))
    let v := clampI lo hi c
    let s := piAngleUpdate n (s.put (PI_CNT__COUNT n) (unsgn 32 v))
    if v = c then s.when (lo < v && v < hi) fun s => s.putB (PI_STATUS__AT_LIMIT n) false
    else
      let was := s.on (PI_STATUS__AT_LIMIT n)
      let s := posInvalid n 2 ((s.putB (PI_STATUS__AT_LIMIT n) true).upPi n fun p => { p with missed := true })
      s.when (!was) (piEvent n 5 (b2n (decide (hi < c))))

/-- In SATURATE mode counts have been lost since the last index or write of PI_CNT (R327). -/
def State.piMissed (s : State) (n : Nat) : Bool := s.on (PI_CFG__LIMIT_MODE n) && (s.pi n).missed

/-- A valid code, frame or period sets POS_VALID, but not after a lost count (R327, R335). -/
def posValid (n : Nat) (s : State) : State := s.when (!s.piMissed n) fun s => s.putB (PI_STATUS__POS_VALID n) true

/-- An index or a write of PI_CNT ends the effect of lost counts. -/
def posFound (n : Nat) (s : State) : State :=
  (s.upPi n fun p => { p with missed := false }).putB (PI_STATUS__POS_VALID n) true

/-! ## Speed (R336 to R339) -/

/-- The timestamp of an edge that passes its filter now (R328): the first of its FILT_N samples, which are taken at the
multiples of 2^FDIV units of 5 ns (log 59). -/
def State.edgeTime (s : State) (n : Nat) : Nat :=
  let q := 2 ^ s.get (PI_CFG__FDIV n)
  (s.time / q - (max 1 (s.get (PI_CFG__FILT_N n)) - 1)) * q

/-- One counted motion at the time `now`. An edge against the last direction is a reversal (R337). -/
def piMotion (n now : Nat) (dc : Int) (edge : Bool) (s : State) : State :=
  let p := s.pi n
  let rev := s.on (PI_STATUS__DIR n)
  let dir := if dc = 0 then rev else decide (dc < 0)
  let cum := p.cum + dc
  let s := (s.putB (PI_STATUS__DIR n) dir).put (PI_TIME__TIME n) now
  let close := match p.hist with
    | (t, _) :: _ => edge && s.get (PI_RATE__MIN_INT n) != 0 && decide (now - t < s.get (PI_RATE__MIN_INT n))
    | [] => false
  let s := if edge ∧ dir ≠ rev ∧ p.hist ≠ [] then
      (s.upPi n fun p => { p with hist := [(now, cum)], cum := cum, ivl := none, good := p.good + 1 }).put (PI_SPEED__SPEED n) 0
    else
      let hist := ((now, cum) :: p.hist).take 65
      let m := min (2 ^ min 6 (s.get (PI_CFG__SPD_AVG n))) (hist.length - 1)
      let s := s.upPi n fun p => { p with hist := hist, cum := cum, good := p.good + 1, ivl := p.hist.head?.map fun e => now - e.1 }
      match hist[m]? with
      | some (t, c) => if m = 0 then s else s.put (PI_SPEED__SPEED n) (unsgn 24 (s.piRate n (cum - c) (now - t)))
      | none => s
  s.when close (edgeRate n 1)

/-- The count moves at the time `now` (R326). -/
def piCountStep (n now : Nat) (dc : Int) (edge : Bool) (s : State) : State := piMotion n now dc edge (piCountPut n (s.piCount n + dc) s)

/-! ## Incremental encoders (R329, R330) -/

/-- The index at its qualified edge. -/
def piIndex (n : Nat) (s : State) : State :=
  let z : Int := if s.on (PI_CFG__LIMIT_MODE n) then sgn 32 (s.get (PI_Z_POS__Z_POS n)) else s.get (PI_Z_POS__Z_POS n)
  let c := s.piCount n
  if !s.on (PI_STATUS__INDEX_SEEN n) then
    let s := piCountPut n z s
    piEvent n 3 (unsgn 32 c) ((posFound n s).putB (PI_STATUS__INDEX_SEEN n) true)
  else
    let cpr : Int := max 4 (s.get (PI_CPR__CPR n))
    let e := if s.on (PI_CFG__LIMIT_MODE n) then c - z else (c - z + cpr / 2) % cpr - cpr / 2
    if e.natAbs ≤ s.get (PI_Z_TOL__Z_TOL n) then s
    else
      let s := piEvent n 4 (unsgn 32 e) (s.bump (PI_COUNTS__INDEX_ERR n))
      s.when (s.on (PI_CFG__Z_CORR n)) (piCountPut n z)

/-- The qualified index level of filtered levels A, B and Z. -/
def State.piGate (s : State) (n abz : Nat) : Bool := nbit abz 2 && (!s.on (PI_CFG__Z_GATE n) || (nbit abz 0 && nbit abz 1))

/-- New filtered levels: the index is taken at the qualified rising edge in forward motion, at the falling edge in
reverse. -/
def piLevels (n abz : Nat) (s : State) : State :=
  let was := s.piGate n (s.get (PI_STATUS__ABZ n))
  let s := s.put (PI_STATUS__ABZ n) abz
  let now := s.piGate n abz
  s.when (s.on (PI_CFG__Z_EN n) && was != now && now != s.on (PI_STATUS__DIR n)) (piIndex n)

/-- The count change of a quadrature edge: A leading B counts up, in the order 00, 10, 11, 01 of (A, B). -/
def quadStep (a b a' b' : Bool) : Int := if a != a' then (if a' != b then 1 else -1) else if b' = a' then 1 else -1

/-- ENCODER_EDGE: A and B take new filtered levels. -/
def execEncoderEdge (n : Fin 4) (a b : Bool) (s : State) : Host.Outcome State Fault Refusal :=
  .next <|
    let n := n.val
    let old := s.get (PI_STATUS__ABZ n)
    let abz := b2n a + 2 * b2n b + old / 4 * 4
    if !s.piRuns n 1 || abz == old then s
    else piPo n <|
      let s := piTake n s
      if nbit old 0 != a && nbit old 1 != b then
        edgeRate n 3 (posInvalid n 1 ((s.bump (PI_COUNTS__ILLEGAL n)).put (PI_STATUS__ABZ n) abz))
      else
        let d := quadStep (nbit old 0) (nbit old 1) a b
        piLevels n abz (piCountStep n (s.edgeTime n) (if s.on (PI_CFG__DIR_INV n) then -d else d) true s)

/-- ENCODER_INDEX: Z takes a new filtered level. -/
def execEncoderIndex (n : Fin 4) (z : Bool) (s : State) : Host.Outcome State Fault Refusal :=
  .next <|
    let n := n.val
    if !s.piRuns n 1 then s else piPo n (piLevels n (s.get (PI_STATUS__ABZ n) % 4 + 4 * b2n z) (piTake n s))

/-! ## Hall switches (R331) -/

/-- The sector of a Hall code. -/
def hallSector (code : Nat) : Option Nat := if code = 0 ∨ code = 7 then none else some ([0, 4, 2, 3, 0, 5, 1].getD code 0)

/-- HALL_TRANSITION: the filtered inputs show another code. -/
def execHallTransition (n : Fin 4) (code : Fin 8) (s : State) : Host.Outcome State Fault Refusal :=
  .next <|
    let n := n.val
    let code := code.val
    if !s.piRuns n 2 then s
    else piPo n <|
      let s := piTake n s
      let was := s.on (PI_STATUS__POS_VALID n)
      let old := hallSector (s.get (PI_STATUS__HALL n))
      let s := (s.put (PI_STATUS__HALL n) code).put (PI_STATUS__ABZ n) (code / 4 + code / 2 % 2 * 2 + code % 2 * 4)
      let c := s.piCount n
      match hallSector code with
      | none => posInvalid n 3 s
      | some k =>
        let here := c - c % 6 + (k : Int)
        if !was && !s.piMissed n then posValid n (piCountPut n here s)
        else match old with
          | none => posValid n (piCountPut n here s)
          | some o =>
            if k = o then s
            else if k = (o + 1) % 6 then piCountStep n (s.edgeTime n) 1 true s
            else if k = (o + 5) % 6 then piCountStep n (s.edgeTime n) (-1) true s
            else edgeRate n 3 (piCountPut n here (s.bump (PI_COUNTS__ILLEGAL n)))

/-- FILTER_REJECT (R328, R339): more than REJ_MAX rejects within one millisecond are a cause. -/
def execFilterReject (n : Fin 4) (s : State) : Host.Outcome State Fault Refusal :=
  .next <|
    let n := n.val
    if !(s.piRuns n 1 || s.piRuns n 2) then s
    else piPo n <|
      let now := s.time
      let most := fieldGet (s.piRateCfg n) 16 8
      let l := ((now :: (s.pi n).rejs).filter fun t => decide (now - t < 200000)).take 257
      let s := (s.bump (PI_COUNTS__REJECTS n)).upPi n fun p => { p with rejs := l }
      if most ≠ 0 ∧ most < l.length then edgeRate n 2 s else s

/-! ## SSI encoders (R332, R333) -/

/-- Gray code to binary: each bit is the XOR of the code's bits at and above it. -/
def grayDecode (n v : Nat) : Nat := (List.range n).foldl (fun r i => r ^^^ v >>> i) 0

/-- A rejected frame. -/
def ssiReject (n : Nat) (s : State) : State := posInvalid n 4 s

/-- The number of bits of a frame, and its length in units of 5 ns from its first falling clock edge to the sample of the
line one clock period after its last (R332). -/
def State.ssiBits (s : State) (n : Nat) : Nat :=
  let em := s.get (PI_SSI__ERR_MODE n)
  min 16 (s.get (PI_SSI__TURN_BITS n)) + min 24 (s.get (PI_SSI__ST_BITS n)) + (if em = 1 ∨ em = 2 then 1 else 0)
def State.ssiLen (s : State) (n : Nat) : Nat :=
  (2 * s.ssiBits n + 1) * (max 9 (s.get (PI_SSI__CLK_DIV n)) + 1) + s.get (PI_SSI_T__DLY n)

/-- A read is due (R333): of a bound interface at a sample instant of its axis, of another every PERIOD, where that is not 0. -/
def State.ssiAsked (s : State) (n : Nat) : Bool :=
  if (s.piAxis n).isSome then (s.pi n).ssiDue else s.get (PI_SSI_T__PERIOD n) != 0

/-- The frame began before the previous one and its MONO time had ended: the read is skipped (R333). -/
def State.ssiEarly (s : State) (n : Nat) : Bool :=
  match (s.pi n).ssiEnd with
  | some e => decide (s.time - s.ssiLen n < e + max 1 (s.get (PI_SSI_T__MONO n)) * 200)
  | none => false

/-- SSI_READ, at the end of a frame: its turn and single-turn bits, the error bit, and whether the line was high before the
first clock edge and low after the last sample. -/
def execSsiRead (n : Fin 4) (data : Word) (err lineOk : Bool) (s : State) : Host.Outcome State Fault Refusal :=
  .next <|
    let n := n.val
    if !s.piRuns n 3 || !s.ssiAsked n then s
    else if s.ssiEarly n then s.upPi n fun p => { p with ssiDue := false }
    else piPo n <|
      let s := (piTake n s).upPi n fun p => { p with ssiDue := false, ssiEnd := some s.time }
      let tb := min 16 (s.get (PI_SSI__TURN_BITS n))
      let sb := min 24 (s.get (PI_SSI__ST_BITS n))
      let em := s.get (PI_SSI__ERR_MODE n)
      if !lineOk || (em == 1 && !err) || (em == 2 && err) || decide (32 < tb + sb) || decide (sb < 8) then ssiReject n s
      else
        let dec := fun (k v : Nat) => if s.on (PI_SSI__GRAY n) then grayDecode k v else v
        let st := dec sb (data.toNat % 2 ^ sb)
        let turns := dec tb (data.toNat / 2 ^ sb % 2 ^ tb)
        let cpr : Int := max 4 (s.get (PI_CPR__CPR n))
        let sat := s.on (PI_CFG__LIMIT_MODE n)
        let c : Int := if sat then (turns * 2 ^ sb + st : Nat) else st
        let d := match (s.pi n).frame with
          | some f => if sat then c - f else (c - f + cpr / 2) % cpr - cpr / 2
          | none => 0
        if cpr < 4 * (d.natAbs : Int) then edgeRate n 4 (ssiReject n s)
        else
          let s := posValid n (s.upPi n fun p => { p with frame := some c })
          piMotion n (s.time - s.ssiLen n) d false (piCountPut n c s)

/-! ## Resolvers (R334) -/

/-- A channel of a resolver converts on the grid, and an axis that uses it is bound to the interface. -/
def State.resCh (s : State) (n k : Nat) : Bool :=
  s.fcConv k && s.onGrid k && (List.range 8).any fun a => s.on (AX_BIND__PI_EN a) && s.get (AX_BIND__PI_SEL a) == n && s.fcUsable k a

/-- The amplitude of a resolver lies within its limits, and both its channels serve it. -/
def State.resOk (s : State) (n : Nat) (si co : Int) : Bool :=
  let amp := si.natAbs * si.natAbs + co.natAbs * co.natAbs
  let lo := s.get (PI_RES_AMP__AMP_LO n) * 2 ^ 12
  let hi := s.get (PI_RES_AMP__AMP_HI n) * 2 ^ 12
  decide (lo * lo ≤ amp) && decide (amp ≤ hi * hi) && s.resCh n (s.get (PI_RES__SIN_CH n)) && s.resCh n (s.get (PI_RES__COS_CH n))

/-- c of the resolver's two channels, as last converted (R294). -/
def State.resPair (s : State) (n : Nat) : Int × Int := ((s.fc (s.get (PI_RES__SIN_CH n))).c, (s.fc (s.get (PI_RES__COS_CH n))).c)

/-- RESOLVER_PERIOD: the conversions nearest t_pk are in, or those nearest t_vl, which end the period (log 9). The angle lies
within 2 LSB of the vector's, where the spec leaves it open (log 9). A position that becomes valid again is that of the
resolver's angle. -/
def execResolverPeriod (n : Fin 4) (valley : Bool) (_ _ _ : Unit) (s : State) : Host.Outcome State Fault Refusal :=
  .next <|
    let n := n.val
    if !s.piRuns n 4 then s
    else if !valley then s.upPi n fun p => { p with peak := some (s.resPair n) }
    else match (s.pi n).peak with
    | none => s
    | some (sPk, cPk) => piPo n <|
      let s := piTake n s
      let si := sPk - (s.resPair n).1
      let co := cPk - (s.resPair n).2
      let th := (angleOf s.free co si + 65535 + Config.freeNat (s.free + 1) % 3) % 65536
      let s := { s with free := s.free + 2 }
      let prev := (s.pi n).theta
      let turn := fun (v : Nat) => sgn 16 (unsgn 16 ((th : Int) - v))
      let step := (prev.map turn).getD 0
      let again := prev.isNone || (!s.on (PI_STATUS__POS_VALID n) && !s.piMissed n)
      let d := if again then turn (s.get (PI_CNT__COUNT n) % 2 ^ 16) else step
      let s := s.upPi n fun p => { p with theta := some th, peak := none }
      if !s.resOk n si co then
        posInvalid n 5 (s.putB (PI_STATUS__LOS n) true)
      else if 2 ^ 14 < step.natAbs then edgeRate n 4 (posInvalid n 5 s)
      else piCountStep n s.time d false (posValid n (s.putB (PI_STATUS__LOS n) false))

/-! ## Validity -/

/-- SPEED_TIMEOUT (R338), of an incremental or Hall interface whose TIMEOUT has passed. -/
def execSpeedTimeout (n : Fin 4) (s : State) : Host.Outcome State Fault Refusal :=
  .next <|
    if (s.piRuns n.val 1 || s.piRuns n.val 2) && s.piQuiet n.val then piPo n.val ((s.put (PI_SPEED__SPEED n.val) 0).upPi n.val fun p => { p with ivl := none })
    else s

/-- SPD_VALID_RESTORED (R339): a millisecond without a cause, and enough good edges, frames or periods. -/
def execSpdValidRestored (n : Fin 4) (s : State) : Host.Outcome State Fault Refusal :=
  .next <|
    if 2 ^ min 6 (s.get (PI_CFG__SPD_AVG n.val)) + 1 ≤ (s.pi n.val).good ∧ s.piMode n.val ≠ 0 ∧ s.on CLK_STATUS__PLLB_LOCK then
      piPo n.val (s.putB (PI_STATUS__SPD_VALID n.val) true)
    else s

/-- The owner writes PI_CNT (R330, R346): POS_VALID is set in incremental and SATURATE use. -/
def piCntWrite (n : Nat) (v : Word) (s : State) : State :=
  let c : Int := if s.on (PI_CFG__LIMIT_MODE n) then v.toInt else v.toNat
  let s := piCountPut n c s
  piPo n (s.when (s.piMode n == 1 || s.on (PI_CFG__LIMIT_MODE n)) (posFound n))

/-- PLL-B stops: no interface runs, and no position is valid (R335). -/
def piClockStop (s : State) : State := s.each (List.range 4) fun n s => piPo n (posInvalid n 6 s)

/-- The mode of an interface changes (R335). -/
def piModeChange (n : Nat) (s : State) : State :=
  let s := (posInvalid n 7 s).upPi n fun _ => {}
  piPo n (piAngleUpdate n ((s.putB (PI_STATUS__SPD_VALID n) false).put (PI_SPEED__SPEED n) 0))

end Sys2Proof.Machine
end

