-- ==== Sys2Proof/Machine/Protect.lean ====
section
/-! DEFINITION. The safety sequencer (12): parameter block and arming, STO, SS1, torque monitoring, link groups, chopper
supervision, discharge, contactors, self-tests, delay registers and temperature events; and the digital inputs that feed
it (11 R341 to R344). -/

namespace Sys2Proof.Machine

def State.armed (s : State) : Bool := s.on SAF_STATUS__ARMED

/-- STO is requested for an axis (R360). -/
def State.stoOn (s : State) (a : Nat) : Bool := s.armed && s.on SAF_STATUS__STO_ACT && s.on (SAF_AX_CFG__STO_EN a)

/-- SAF_AXn_STAT and SAF_HOLD follow their conditions (R354, R384). -/
def safRefresh (s : State) : State :=
  let fault := s.get SAF_CT_STAT__FAULT
  s.each (List.range 8) fun a s =>
    let s := (s.putB (SAF_AX_STAT__STO a) (s.stoOn a)).putB (SAF_AX_STAT__CT_FLT a)
      ((List.range 8).any fun k => nbit fault k && nbit (s.get (SAF_CT_CFG__AXMASK k)) a)
    updateSafHold a s

/-! ## Parameter block and arming (R355 to R358) -/

/-- The CRC-32 of the 76 words of the block. -/
def State.spbCrc (s : State) : Nat := crc32 ((List.range 76).map fun i => s.rd (0x48400 + 4 * i))

def spbMatch (s : State) : State := s.putB SAF_STATUS__SPB_MATCH (s.rd SAF_SPB_CRC == s.rd SAF_CONFIRM)

/-- The block's CRC is computed anew. -/
def spbCompute (s : State) : State :=
  spbMatch ((s.wr SAF_SPB_CRC (BitVec.ofNat 32 s.spbCrc)).putB SAF_STATUS__CRC_VALID true)

/-- Feedback bits follow the filtered CFB levels and FB_POL (R374). -/
def ctFeedback (s : State) : State :=
  s.each (List.range 8) fun k s => s.putBit SAF_CT_STAT__FB k (nbit s.sys.cfb k != s.on (SAF_CT_CFG__FB_POL k))

/-- Why the sequencer cannot arm, as ARM_REFUSE; 0 where it can (R357). -/
def State.armRefuse (s : State) : Nat :=
  if !s.on SAF_STATUS__CRC_VALID then 1 else if s.rd SAF_SPB_CRC ≠ s.rd SAF_CONFIRM then 2 else if !s.spbOk then 3 else 0

/-! ## Contactors (R374, R375) -/

def State.ctCmd (s : State) (k : Nat) : Bool := nbit (s.get SAF_CT_STAT__CMD) k
def State.ctFb (s : State) (k : Nat) : Bool := nbit (s.get SAF_CT_STAT__FB) k
def State.ctFault (s : State) (k : Nat) : Bool := nbit (s.get SAF_CT_STAT__FAULT) k

/-- Drive CTO k; a disabled one stays open, and OPEN_STO keeps one open while STO is requested. -/
def ctDrive (k : Nat) (close : Bool) (s : State) : State :=
  if close && (!s.armed || !s.on (SAF_CT_CFG__EN k) || (s.on SAF_STATUS__STO_ACT && s.on (SAF_CT_CFG__OPEN_STO k))) then s
  else s.putBit SAF_CT_STAT__CMD k close

/-- A precharge ends: PRE_CT opens. -/
def preEnd (g : Nat) (s : State) : State :=
  (ctDrive (s.get (SAF_LINK_AX__PRE_CT g)) false (s.upLnk g fun l => { l with pre := 0 })).putBit SAF_CT_STAT__PRE_BUSY g false

/-- The link voltage of a group, as the code of GI_DCPS. -/
def State.linkCode (s : State) (g : Nat) : Int := sgn 14 (s.get (GI_DCPS__VDC (s.get (SAF_LINK_CFG__DCPS_GI g))))

/-- The precharge advances as its conditions come true; a contactor that cannot be driven ends it. -/
def preEval (g : Nat) (s : State) : State :=
  let pre := s.get (SAF_LINK_AX__PRE_CT g)
  let main := s.get (SAF_LINK_AX__MAIN_CT g)
  let ph := (s.lnk g).pre
  if ph = 0 then s
  else if !s.ctCmd pre || s.ctFault pre || (ph == 4 && (!s.ctCmd main || s.ctFault main)) then preEnd g s
  else if ph = 4 then (if s.ctFb main then safEvent 12 main 1 (preEnd g s) else s)
  else
    let ph := if s.ctFb pre then 3 else 2
    let s := s.upLnk g fun l => { l with pre := ph }
    if ph = 3 ∧ (16 * s.get (SAF_LINK_AX__PRE_V g) : Int) ≤ s.linkCode g then
      let s := ctDrive main true s
      if s.ctCmd main then
        let s := s.upLnk g fun l => { l with pre := 4 }
        if s.ctFb main then safEvent 12 main 1 (preEnd g s) else s
      else preEnd g s
    else s

def preAll (s : State) : State := s.each (List.range 4) preEval

/-- The group whose precharge sequence closes contactor k. -/
def State.preGroup (s : State) (k : Nat) : Option Nat :=
  (List.range 4).find? fun g => s.on (SAF_LINK_CFG__EN g) && s.on (SAF_LINK_AX__PRE_EN g) && s.get (SAF_LINK_AX__MAIN_CT g) == k

/-- A close command is refused (R375). A disabled contactor stays open. -/
def State.ctRefused (s : State) (k : Nat) : Bool :=
  !s.armed || s.ctFault k || (s.on SAF_STATUS__STO_ACT && s.on (SAF_CT_CFG__OPEN_STO k)) ||
    s.linkBit (s.get (SAF_CT_CFG__GROUP k)) 4

/-- A close command is carried out: PRE_CT first where the sequence is used. -/
def ctClose (k : Nat) (s : State) : State :=
  match s.preGroup k with
  | some g =>
    if s.ctCmd k || (s.lnk g).pre != 0 then s
    else preEval g (((ctDrive (s.get (SAF_LINK_AX__PRE_CT g)) true s).upLnk g fun l => { l with pre := 2 }).putBit SAF_CT_STAT__PRE_BUSY g true)
  | none => ctDrive k true s

/-- An open command; it also ends a precharge that was to close the contactor. -/
def ctOpen (k : Nat) (s : State) : State :=
  let s := ctDrive k false s
  let s := s.each (List.range 4) fun g s => s.when (s.preGroup k == some g && (s.lnk g).pre != 0) (preEnd g)
  preAll s

/-- CT_FEEDBACK_FAULT (R374): feedback has disagreed with the command for CT_TIME. -/
def execCtFeedbackFault (k : Fin 8) (s : State) : Host.Outcome State Fault Refusal :=
  .next <|
    let k := k.val
    if !s.on (SAF_CT_CFG__EN k) || s.ctFault k || s.ctFb k == s.ctCmd k then s
    else
      let closing := s.ctCmd k
      let s := safEvent 11 k (if closing then 1 else 2) (s.putBit SAF_CT_STAT__FAULT k true)
      let s := preAll (s.when closing (ctDrive k false))
      let s := safRefresh s
      s.each (bitsOf 8 (s.get (SAF_CT_CFG__AXMASK k))) fun a s => safeFor a 3 (s.on (SAF_AX_CFG__CT_LATCH a)) s

/-- PRECHARGE_VOLTAGE_REACHED. -/
def execPrechargeVoltageReached (g : Fin 4) (s : State) : Host.Outcome State Fault Refusal := .next (preEval g.val s)

/-- PRECHARGE_TIMEOUT: PRE_TMAX has passed without PRE_V. -/
def execPrechargeTimeout (g : Fin 4) (s : State) : Host.Outcome State Fault Refusal :=
  .next <|
    if (s.lnk g.val).pre = 2 ∨ (s.lnk g.val).pre = 3 then safEvent 11 (s.get (SAF_LINK_AX__PRE_CT g.val)) 3 (preEnd g.val s) else s

/-! ## Discharge (R372, R373) -/

/-- What requests a discharge of a group stands: DIS_DIN low, or with DIS_AUTO MAIN_CT confirmed open. -/
def State.disAsked (s : State) (g : Nat) : Bool :=
  let d := s.get (SAF_LINK_DIS__DIS_DIN g)
  (d < 24 && !nbit (s.get DIN_LEVEL__LEVEL) d) ||
    (s.on (SAF_LINK_DIS__DIS_AUTO g) && !s.ctFb (s.get (SAF_LINK_AX__MAIN_CT g)) && !s.ctCmd (s.get (SAF_LINK_AX__MAIN_CT g)))

/-- A request for a discharge. -/
def disRequest (g : Nat) (s : State) : State :=
  if !s.armed || !s.on (SAF_LINK_CFG__EN g) || s.get (SAF_LINK_DIS__DIS_MODE g) == 0 || (s.lnk g).dis != 0 then s
  else disEval g (linkPut g 6 false (linkPut g 5 false (s.upLnk g fun l => { l with dis := 1 })))

/-- DISCHARGE_REQUEST: a request that stands, or the conditions of one that waits. -/
def execDischargeRequest (g : Fin 4) (s : State) : Host.Outcome State Fault Refusal :=
  .next (if s.disAsked g.val then disEval g.val (disRequest g.val s) else disEval g.val s)

/-- DISCHARGE_DONE. -/
def execDischargeDone (g : Fin 4) (s : State) : Host.Outcome State Fault Refusal :=
  .next <|
    if (s.lnk g.val).dis = 2 ∧ s.linkCode g.val ≤ (16 * s.get (SAF_LINK_DIS__DIS_DONE g.val) : Nat) then disEnd g.val none s else s

/-- DISCHARGE_TIMEOUT. -/
def execDischargeTimeout (g : Fin 4) (s : State) : Host.Outcome State Fault Refusal :=
  .next <|
    if (s.lnk g.val).dis = 0 then s else disEnd g.val (some (if (s.lnk g.val).dis = 2 then 1 else 2)) s

/-- CONTACTOR_FEEDBACK_CHANGE: a filtered CFB level changes. Feedback that confirms a commanded opening raises SAF_CT_DONE with
DETAIL 0 (R383; DESIGN CHOICE, log 39). -/
def execContactorFeedbackChange (k : Fin 8) (level : Bool) (s : State) : Host.Outcome State Fault Refusal :=
  .next <|
    let k := k.val
    let closed := s.ctFb k
    let s := ctFeedback (s.upSys fun y => { y with cfb := nbitSet y.cfb k level })
    let s := s.when (s.on (SAF_CT_CFG__EN k) && closed && !s.ctFb k && !s.ctCmd k) (safEvent 12 k 0)
    let s := preAll s
    let s := s.each (List.range 4) fun g s =>
      s.when (s.get (SAF_LINK_AX__MAIN_CT g) == k && s.on (SAF_LINK_DIS__DIS_AUTO g) && !s.ctFb k && !s.ctCmd k) (disRequest g)
    disAll s

/-! ## Safe Torque Off (R360 to R362) -/

def State.stoDetail (s : State) : Nat := s.get SAF_STATUS__STO_ACT + 2 * s.get SAF_STATUS__STO_A + 4 * s.get SAF_STATUS__STO_B

/-- The effects of a requested STO. -/
def stoAct (s : State) : State :=
  if !(s.armed && s.on SAF_STATUS__STO_ACT) then s
  else
    let s := s.each (List.range 8) fun a s =>
      if !s.on (SAF_AX_CFG__STO_EN a) then s
      else if s.axLive a then safeFor a 0 false s else if s.axState a ≤ 1 then closeRefuse a 4 s else s
    preAll (s.each (List.range 8) fun k s => s.when (s.on (SAF_CT_CFG__OPEN_STO k)) (ctDrive k false))

/-- STO is requested while either filtered input is low. -/
def stoEval (s : State) : State :=
  let low := !(s.on SAF_STATUS__STO_A && s.on SAF_STATUS__STO_B)
  let s := if low && !s.on SAF_STATUS__STO_ACT then
      let s := s.putB SAF_STATUS__STO_ACT true
      safEvent 1 0 s.stoDetail s
    else s
  stoAct (safRefresh s)

/-- STO_INPUT_CHANGE: the filtered levels of STO_A and STO_B. -/
def execStoInputChange (a b : Bool) (s : State) : Host.Outcome State Fault Refusal :=
  .next <|
    if s.on SAF_STATUS__STO_A = a ∧ s.on SAF_STATUS__STO_B = b then s
    else stoEval (wake 3 ((s.putB SAF_STATUS__STO_A a).putB SAF_STATUS__STO_B b))

/-- STO_DISCREPANCY. -/
def execStoDiscrepancy (s : State) : Host.Outcome State Fault Refusal :=
  .next <|
    if !s.armed || s.on SAF_STATUS__STO_A == s.on SAF_STATUS__STO_B || s.on SAF_STATUS__STO_DISC then s
    else
      let s := s.putB SAF_STATUS__STO_DISC true
      safEvent 2 0 (s.get SAF_STATUS__STO_A + 2 * s.get SAF_STATUS__STO_B) s

/-- STO_RELEASE: both inputs have been high for STO_REL. -/
def execStoRelease (s : State) : Host.Outcome State Fault Refusal :=
  .next <|
    if !s.on SAF_STATUS__STO_ACT || s.on SAF_STATUS__STO_DISC || !s.on SAF_STATUS__STO_A || !s.on SAF_STATUS__STO_B then s
    else
      let s := s.putB SAF_STATUS__STO_ACT false
      safRefresh (safEvent 1 0 s.stoDetail s)

/-! ## Safe Stop 1 (R363 to R365) -/

/-- The SS1 input of an axis asks for the stop. -/
def State.ss1Asked (s : State) (a : Nat) : Bool :=
  let d := s.get (SAF_AX_CFG__SS1_DIN a)
  s.armed && s.on (SAF_AX_CFG__SS1_EN a) && decide (d < 24) && !nbit (s.get DIN_LEVEL__LEVEL) d

/-- The speed that SS1 checks (R364). -/
def State.ss1Speed (s : State) (a : Nat) : Option Int :=
  if s.tableMode a then s.axSpeed a
  else
    let n := s.get (AX_BIND__PI_SEL a)
    if s.on (AX_BIND__PI_EN a) && s.on (PI_STATUS__SPD_VALID n) then some (s.piSpeed n) else none

/-- t2: the STO phase. -/
def ss1Sto (a : Nat) (s : State) : State :=
  let s := safEvent 3 a 2 ((s.putB (SAF_AX_STAT__SS1 a) false).putB (SAF_AX_STAT__SS1_STO a) true)
  safeFor a 1 false (safRefresh s)

/-- The request ends: the setpoint stays 0. -/
def ss1Release (a : Nat) (s : State) : State :=
  if s.on (SAF_AX_STAT__SS1 a) || s.on (SAF_AX_STAT__SS1_STO a) then
    safRefresh (safEvent 3 a 3 ((s.putB (SAF_AX_STAT__SS1 a) false).putB (SAF_AX_STAT__SS1_STO a) false))
  else s

/-- The request begins or ends. -/
def ss1Eval (a : Nat) (s : State) : State :=
  if !s.ss1Asked a then ss1Release a s
  else if s.on (SAF_AX_STAT__SS1 a) || s.on (SAF_AX_STAT__SS1_STO a) then s
  else
    let s := safEvent 3 a 1 (setpointWrite a 0 (s.putB (SAF_AX_STAT__SS1 a) true))
    let w := s.ss1Speed a
    let s := s.upSaf a fun q => { q with ss1Speed := (w.getD 0).natAbs, ss1At := s.time }
    if s.axState a ≠ 3 ∨ (s.on (SAF_AX_CFG__SS1_MODE a) ∧ w = none) then ss1Sto a s else s

/-- SS1_REQUEST. -/
def execSs1Request (a : Fin 8) (s : State) : Host.Outcome State Fault Refusal :=
  .next (if s.ss1Asked a.val then ss1Eval a.val s else s)

/-- SS1_STO_PHASE: SS1_TIME has passed. -/
def execSs1StoPhase (a : Fin 8) (s : State) : Host.Outcome State Fault Refusal :=
  .next (if s.on (SAF_AX_STAT__SS1 a.val) then ss1Sto a.val s else s)

/-- SS1_SPEED_CHECK (R364). -/
def execSs1SpeedCheck (a : Fin 8) (s : State) : Host.Outcome State Fault Refusal :=
  .next <|
    let a := a.val
    if !s.on (SAF_AX_STAT__SS1 a) || !s.on (SAF_AX_CFG__SS1_MODE a) then s
    else match s.ss1Speed a with
      | none => ss1Sto a s
      | some w =>
        let q := s.saf a
        let span := max 1 (s.get (SAF_AX_CFG__SS1_TIME a)) * 200000
        let margin := s.get (SAF_AX_TMON2__SS1_MARGIN a) * 2 ^ 15
        let left := span - (s.time - q.ss1At)
        if q.ss1Speed * left + margin * span < w.natAbs * span ∨ w.natAbs ≤ margin then ss1Sto a s else s

/-! ## Torque monitoring (R366, R367) -/

/-- The monitor judges the axis. -/
def State.tmonJudges (s : State) (a : Nat) : Bool :=
  s.axLive a && decide (s.get (SAF_AX_TMON2__SPD_MIN a) * 2 ^ 15 ≤ (s.saf a).speed.natAbs)

/-- TMON_UPDATE: the clocks of the microsecond, of 400, in which each phase's upper channel was commanded on. -/
def execTmonUpdate (a : Fin 8) (da db dc : Fin 401) (s : State) : Host.Outcome State Fault Refusal :=
  .next <|
    let a := a.val
    if !s.armed || !s.on (SAF_AX_TMON__EN a) || !s.on CLK_STATUS__PLLB_LOCK then s
    else
      let q := s.saf a
      let f := s.free
      let vdc := sgn 14 (s.get (GI_DCPS__VDC (s.phaseLeg a 0 / 3)))
      let kv : Int := s.get (SAF_AX_KM__KV_M a)
      let leak : Int := (2 ^ max 8 (s.get (SAF_AX_TMON2__LEAK a)) : Nat)
      let vA : Int := vdc * (2 * (da.val : Int) - db.val - dc.val)
      let vB : Int := vdc * ((db.val : Int) - dc.val)
      let pA := roundOpen f (q.psiA * (leak - 1)) leak.toNat + roundOpen (f + 1) (kv * vA) 2400
      let pB := roundOpen (f + 2) (q.psiB * (leak - 1)) leak.toNat + roundOpen (f + 3) (divSqrt3 (f + 4) (kv * vB * 256)) 204800
      let ia := if q.nA = 0 then (s.fc (s.get (SAF_AX_TMON__IA a))).c else roundOpen (f + 5) q.sumA q.nA
      let ib := if q.nB = 0 then (s.fc (s.get (SAF_AX_TMON__IB a))).c else roundOpen (f + 6) q.sumB q.nB
      let iB := divSqrt3 (f + 7) (ia + 2 * ib)
      let tau := clampI (-(2 ^ 23)) mantMax (roundOpen (f + 8) (s.get (SAF_AX_KM__KT_M a) * (pA * iB - pB * ia)) (2 ^ 44))
      let angs := (angleOf (f + 10) pA pB :: q.angs).take 65
      let adv : Int := (List.zipWith (fun x y => sgn 16 (unsgn 16 ((x : Int) - (y : Nat)))) angs angs.tail).foldl (· + ·) 0
      let w := if angs.length < 65 then 0
        else roundOpen (f + 9) (adv * (4000000 * piNum : Nat)) (s.polePairs a * s.spdFs a * piDen)
      let s := { s with free := f + 11 }
      let s := s.upSaf a fun q => { q with psiA := pA, psiB := pB, angs := angs, speed := w, sumA := 0, nA := 0, sumB := 0, nB := 0 }
      let s := s.put (SAF_AX_TAU__TAU a) (unsgn 24 tau)
      s.putB (SAF_AX_TAU__VALID a) (s.tmonJudges a)

/-- The deviations of R367: from the reference, and above TMAX. -/
def State.tmonDev (s : State) (a : Nat) : Bool × Bool :=
  let t := sgn 24 (s.get (SAF_AX_TAU__TAU a))
  let m := s.get (SAF_AX_TMON2__TMAX a)
  (decide (s.get (SAF_AX_TMON__TOL a) * 2 ^ 11 < (t - s.effTau a).natAbs), m != 0 && decide (m * 2 ^ 11 < t.natAbs))

/-- TMON_FAULT: a deviation has held for TIME × 10 µs. -/
def execTmonFault (a : Fin 8) (s : State) : Host.Outcome State Fault Refusal :=
  .next <|
    let a := a.val
    let d := s.tmonDev a
    if !s.armed || !s.on (SAF_AX_TMON__EN a) || !s.tmonJudges a || !(d.1 || d.2) then s
    else
      let s := safEvent 4 a (b2n d.1 + 2 * b2n d.2) (s.putB (SAF_AX_STAT__TMON_FLT a) true)
      safeFor a 2 (s.on (SAF_AX_CFG__TMON_LATCH a)) s

/-! ## Link groups (R368 to R371) -/

/-- OV1 starts or ends. -/
def ov1Put (g : Nat) (v : Bool) (s : State) : State :=
  if s.linkBit g 0 = v then s
  else
    let s := safEvent 7 g (b2n v) (linkPut g 0 v s)
    if v then tlimFall g s else tlimRise g s

/-- OV1_FIRING. -/
def execOv1Firing (g : Fin 4) (s : State) : Host.Outcome State Fault Refusal :=
  .next <|
    if s.armed && s.on (SAF_LINK_CFG__EN g.val) && s.on (FM_CH_STATUS__WA_OUT (s.get (SAF_LINK_CFG__VDC_CH g.val))) then ov1Put g.val true s
    else s

/-- TLIM_RAMP_END: the limit rests at 0, or ends at τ_FS. -/
def execTlimRampEnd (g : Fin 4) (s : State) : Host.Outcome State Fault Refusal :=
  .next <|
    let g := g.val
    let d := (s.lnk g).dir
    if d = 1 then s.upLnk g fun l => { l with lev := 0, since := s.time, dir := 0 }
    else if d = 2 then
      tlimShow (safEvent 5 g 0 (linkPut g 3 false (s.upLnk g fun l => { l with lev := s.tlimSpan g, since := s.time, dir := 0 })))
    else s

/-- The safe state of an axis in SAFE or FAULT is put in place anew, unless both sides are lost (R353, R370). -/
def reSafe (a : Nat) (s : State) : State :=
  if (s.axState a = 5 ∨ s.axState a = 6) ∧ s.get (SAF_AX_STAT__ASC_SIDE a) ≠ 3 then applySafe a s else s

/-- SAF_AXn_STAT.OV2 follows the groups. -/
def ov2Show (s : State) : State :=
  safRefresh (s.each (List.range 8) fun a s =>
    s.putB (SAF_AX_STAT__OV2 a) ((List.range 4).any fun g => s.linkBit g 1 && nbit (s.groupAxes g) a))

/-- OV2_FIRING (R370): PM machines take the short circuit, every other axis of the group pulse-off. -/
def execOv2Firing (g : Fin 4) (s : State) : Host.Outcome State Fault Refusal :=
  .next <|
    let g := g.val
    if !s.armed || !s.on (SAF_LINK_CFG__EN g) || s.linkBit g 1 || !s.on (FM_CH_STATUS__WB_OUT (s.get (SAF_LINK_CFG__VDC_CH g))) then s
    else
      let s := ov2Show (safEvent 8 g 1 (linkPut g 1 true s))
      s.each (bitsOf 8 (s.groupAxes g)) fun a s =>
        let asc := nbit (s.get (SAF_LINK_AX__MACH_MASK g)) a && s.isPm a
        let was := s.axState a == 5 || s.axState a == 6
        let s := s.upAx a fun x => { x with ov2Asc := x.ov2Asc || asc, ov2Off := (x.ov2Off || !asc) && !(x.ov2Asc || asc) }
        let s := safeFor a 4 (s.on (SAF_AX_CFG__OV_LATCH a)) s
        s.when was (reSafe a)

/-- OV2 ends: the safe states follow R351 and R212 again. -/
def ov2End (g : Nat) (s : State) : State :=
  if !s.linkBit g 1 then s
  else
    let s := ov2Show (safEvent 8 g 0 (linkPut g 1 false s))
    s.each (bitsOf 8 (s.groupAxes g)) fun a s =>
      if s.on (SAF_AX_STAT__OV2 a) then s else reSafe a (s.upAx a fun x => { x with ov2Asc := false, ov2Off := false })

/-- WINDOW_CONDITION_END (10 R296, R369, R370). -/
def execWindowConditionEnd (k : Fin 32) (wb : Bool) (s : State) : Host.Outcome State Fault Refusal :=
  .next <|
    let k := k.val
    let s := windowEnd k wb s
    s.each (List.range 4) fun g s =>
      if s.get (SAF_LINK_CFG__VDC_CH g) = k then (if wb then ov2End g s else ov1Put g false s) else s

/-- CHOP_NOCUR_TIMEOUT (08 R254, R369). -/
def execChopNocurTimeout (m : Fin 24) (s : State) : Host.Outcome State Fault Refusal :=
  .next <|
    let m := m.val
    if !s.chopWaits m then s
    else
      let s := chopNocur m s
      s.each (List.range 4) fun g s =>
        if s.armed && s.on (SAF_LINK_CFG__EN g) && s.on (SAF_LINK_CFG__CHOP_EN g) && s.get (SAF_LINK_CFG__CHOP_LEG g) == m &&
            !s.linkBit g 2 && decide (max 1 (s.get (SAF_LINK_CFG__CHOP_N g)) ≤ s.get (LEG_CHOP_CNT__CONSEC m)) then
          tlimFall g (safEvent 6 g (s.rd (LEG_CHOP_CNT m)).toNat (linkPut g 2 true s))
        else s

/-! ## The keys (R358, R361, R369, R374); arming stands in VaultOps.lean -/

/-- The disarm key; answers whether it was refused. -/
def disarmKey (s : State) : State × Bool :=
  if !s.armed then (s, false)
  else if (List.range 8).any (fun a => s.axState a != 0) || s.get SAF_CT_STAT__CMD != 0 || (List.range 4).any (fun g => (s.lnk g).dis == 2) then
    (safEvent 17 0 (1 + 4 * 16) (s.put SAF_STATUS__ARM_REFUSE 4), true)
  else
    let s := s.each (List.range 8) ss1Release
    let s := s.each (List.range 4) fun g s =>
      let s := linkPut g 3 false (linkPut g 1 false (linkPut g 0 false s))
      preEnd g (s.upLnk g fun l => { l with dir := 0, dis := 0 })
    let s := (s.putB SAF_STATUS__ARMED false).put SAF_STATUS__ARM_REFUSE 0
    (ov2Show (tlimShow (safEvent 17 0 0 s)), false)

/-- The SAF_CLEAR key. -/
def safClear (s : State) : State :=
  let s := s.when (s.on SAF_STATUS__STO_A && s.on SAF_STATUS__STO_B) fun s => s.putB SAF_STATUS__STO_DISC false
  let s := s.each (List.range 4) fun g s =>
    if s.linkBit g 2 && decide (s.get (LEG_CHOP_CNT__CONSEC (s.get (SAF_LINK_CFG__CHOP_LEG g))) < max 1 (s.get (SAF_LINK_CFG__CHOP_N g))) then
      tlimRise g (linkPut g 2 false s)
    else s
  safRefresh (s.each (List.range 8) fun k s => s.when (s.ctFb k == s.ctCmd k) fun s => s.putBit SAF_CT_STAT__FAULT k false)

/-- SEQ_BUSY: SS1, a discharge, a precharge or a contactor timer runs (R384, 02 R61). -/
def State.seqBusy (s : State) : Bool :=
  (List.range 8).any (fun a => s.on (SAF_AX_STAT__SS1 a)) || (List.range 4).any (fun g => (s.lnk g).dis != 0) ||
    s.get SAF_CT_STAT__PRE_BUSY != 0 ||
    (List.range 8).any fun k => s.on (SAF_CT_CFG__EN k) && !s.ctFault k && s.ctFb k != s.ctCmd k

/-! ## Self-tests and delay registers (R376 to R380) -/

/-- A comparator has lost a copy: with none left, a TRIP comparator acts as a standing firing (R377). -/
def copyLost (k : Nat) (wb : Bool) (s : State) : State :=
  let s := s.each (List.range 8) updateSafHold
  if s.get (winCopies k wb) = 0 ∧ !s.on (winAct k wb) ∧ s.get (winMode k wb) ≠ 0 then tripFire k wb s else s

/-- Unit number of a comparator copy in the ledger. -/
def copyUnit (k : Nat) (wb : Bool) (c : Nat) : Nat := 4 * k + 2 * b2n wb + c

/-- COMPARATOR_TEST_SLICE (R376): a copy that fails twice in succession leaves service, and is marked unusable (13 R408). -/
def execComparatorTestSlice (k : Fin 32) (wb : Bool) (copy : Fin 2) (pass : Bool) (s : State) : Host.Outcome State Fault Refusal :=
  .next <|
    let k := k.val
    let c := copy.val
    let mine := nbit (s.get (winCopies k wb)) c
    let other := nbit (s.get (winCopies k wb)) (1 - c)
    let u := copyUnit k wb c
    let s := s.when (u == 127) fun s => s.put SAF_CMPT_STAT__CYCLES (s.get SAF_CMPT_STAT__CYCLES + 1)
    if !mine || !other || s.on (winOut k wb) then s
    else
      let s := ((s.put SAF_CMPT_STAT__LAST_CH k).putB SAF_CMPT_STAT__LAST_WIN wb).put SAF_CMPT_STAT__LAST_COPY c
      let n := if pass then 0 else sget (fun _ => 0) s.cmpFails u + 1
      let s := { s with cmpFails := sset (fun _ => 0) s.cmpFails u n }
      if n < 2 then s
      else
        let s := (s.putBit (winCopies k wb) c false).bump SAF_COUNTS__CMP_FAIL
        let s := safEvent 15 k (b2n wb + 2 * c + 4 * b2n (s.get (winCopies k wb) == 0)) s
        copyLost k wb (unitRecord 0x12 12 0 u (markOut 12 u s))

/-- DIDT_TEST (R378). -/
def execDidtTest (i : Fin 8) (c : Fin 6) (pass skipped : Bool) (s : State) : Host.Outcome State Fault Refusal :=
  .next <|
    let m := 3 * i.val + c.val / 2
    if !s.on SAF_CMPT_CFG__DIDT_EN then s
    else if skipped then s.bump SAF_CMPT_STAT__SKIPPED
    else if pass ∨ s.ch i.val c.val ≠ 0 then s
    else
      let s := safEvent 16 m (c.val % 2) s
      match s.legAxis m with
      | some a => enterSafe a 9 true s
      | none => s

/-- The axes that use a delay register: of a leg, or of a fast channel (R380). -/
def State.delayAxes (s : State) (kind u : Nat) : List Nat :=
  if kind = 2 then s.fcAxes u else (s.legAxis u).toList

/-- The delay registers (R379): DT_RISE and DT_FALL of a leg (kind 0), CLAMP, T1 and SOFT_STAGGER of one (1), and A_FILT,
B_FILT and BLANK of a fast channel (2). -/
def delayField (kind u field : Nat) : Bool := kind == 2 || (u < 24 && (kind == 1 || field < 2))

/-- DELAY_SCRUB (R379, R380): of kind 0 LEG_DT, 1 GI_Lx_SOFT, 2 FM_CHk_WCTL, unit u and field, one copy differs, or all
three do. -/
def execDelayScrub (kind : Fin 3) (u : Fin 32) (field : Fin 3) (copy : Option (Fin 3)) (s : State) : Host.Outcome State Fault Refusal :=
  .next <|
    let k := kind.val
    let u := u.val
    if !delayField k u field.val then s
    else match copy with
    | some c => safEvent 13 u (k + 4 * c.val) (s.bump SAF_COUNTS__VOTE_FIX)
    | none =>
      let s := { s with voteFail := sset (fun _ => false) s.voteFail (96 * k + 3 * u + field.val) true }
      let s := safEvent 14 u k (s.bump SAF_COUNTS__VOTE_FAIL)
      let s := faultRecord 0x13 4 (if k = 2 then 12 else 11) 0 (if k = 2 then copyUnit u false 0 else u) s
      flSettle (s.each (s.delayAxes k u) fun a s => enterSafe a 10 true s)

/-- A delay register is written: its copies agree again. -/
def voteClear (kind u : Nat) (s : State) : State :=
  { s with voteFail := s.voteFail.filter fun e => e.1 / 3 != 32 * kind + u }

/-! ## Temperature (R381) -/

/-- TEMP_UPDATE: a reading of the controller die (u = 0), or of island u − 1 while it is supplied and neither end has lost its link
(03, log 58). -/
def execTempUpdate (u : Fin 9) (temp : BitVec 12) (s : State) : Host.Outcome State Fault Refusal :=
  .next <|
    let u := u.val
    if u ≠ 0 ∧ !(s.on (GI_STATUS__LINK_UP (u - 1)) && nbit (s.isl (u - 1)).sup 0 && !(s.isl (u - 1)).lost) then s else
    let s := if u = 0 then (s.put DEV_TEMP_CTL__TEMP temp.toNat).putB DEV_TEMP_CTL__VALID true
      else (s.put (DEV_TEMP_GI__TEMP (u - 1)) temp.toNat).putB (DEV_TEMP_GI__VALID (u - 1)) true
    let judge := fun (th : FieldRef) (was : Bool) =>
      let l : Int := s.get th * 8
      if l ≤ temp.toInt then true else if temp.toInt ≤ l - 16 then false else was
    let w := nbit (s.get SAF_TEMP_STAT__WARN) u
    let al := nbit (s.get SAF_TEMP_STAT__ALARM) u
    let w' := judge (if u = 0 then SAF_TEMP_CFG__CTL_WARN else SAF_TEMP_CFG__GI_WARN) w
    let al' := judge (if u = 0 then SAF_TEMP_CFG__CTL_ALARM else SAF_TEMP_CFG__GI_ALARM) al
    if w' = w ∧ al' = al then s
    else
      let s := (s.putBit SAF_TEMP_STAT__WARN u w').putBit SAF_TEMP_STAT__ALARM u al'
      wake 6 (safEvent 19 u (b2n w' + 2 * b2n al') s)

/-! ## Digital inputs (11 R341 to R343) -/

/-- The effects of a filtered edge: wake, catch triggers, SS1 and discharge. -/
def dinFeed (d : Nat) (s : State) : State :=
  let level := nbit (s.get DIN_LEVEL__LEVEL) d
  let s := s.when (nbit (s.get PWR_DIN_WAKE__DIN_MASK) d) (wake 1)
  let s := s.each (List.range 8) fun a s =>
    let s := s.when (s.on (TM_CATCH_CFG__TRIG_EN a) && s.get (TM_CATCH_CFG__TRIG_DIN a) == d && s.on (TM_CATCH_CFG__TRIG_EDGE a) == !level) (catchTrigger a)
    s.when (s.get (SAF_AX_CFG__SS1_DIN a) == d) (ss1Eval a)
  s.each (List.range 4) fun g s => s.when (!level && s.get (SAF_LINK_DIS__DIS_DIN g) == d) (disRequest g)

/-- DIN_EDGE: input d passes its filter at a raw level. The inputs' filters run from t2 of the start-up (R344). -/
def execDinEdge (d : Fin 24) (level : Bool) (s : State) : Host.Outcome State Fault Refusal :=
  .next <|
    if !s.on VLT_STATUS__LOADED then s else
    let d := d.val
    let s := s.putBit DIN_RAW__RAW d level
    let new := level != s.on (DIN_CFG__INV d)
    if nbit (s.get DIN_LEVEL__LEVEL) d = new then s
    else
      let s := ((s.putBit DIN_LEVEL__LEVEL d new).putBit DIN_EDGE__EDGE d true).putBit DIN_STALE__STALE d false
      dinFeed d s

def dinCnt (d : Nat) : FieldRef := DIN_CHATCNT__CNT (d / 4) (d % 4)

/-- DIN_CHATTER: a raw excursion returns before it has passed. -/
def execDinChatter (d : Fin 24) (s : State) : Host.Outcome State Fault Refusal :=
  .next <|
    if !s.on VLT_STATUS__LOADED then s else
    let d := d.val
    let s := s.bump (dinCnt d)
    let most := s.get (DIN_CFG__CHAT_MAX d)
    if most = 0 ∨ s.get (dinCnt d) < most ∨ nbit (s.get DIN_CHAT__CHAT) d then s
    else raise 161 d (s.get (dinCnt d)) (s.putBit DIN_CHAT__CHAT d true)

/-- DIN_CHATTER_DECAY. -/
def execDinChatterDecay (s : State) : Host.Outcome State Fault Refusal :=
  .next <| s.each (List.range 24) fun d s =>
    let s := s.put (dinCnt d) (s.get (dinCnt d) - 1)
    s.when (s.get (dinCnt d) == 0) fun s => s.putBit DIN_CHAT__CHAT d false

/-- DIN_STALE: the stale timer of an input expires. -/
def execDinStale (d : Fin 24) (s : State) : Host.Outcome State Fault Refusal :=
  .next <|
    let d := d.val
    if !s.on VLT_STATUS__LOADED ∨ s.get (DIN_CFG__STALE d) = 0 ∨ nbit (s.get DIN_STALE__STALE) d then s
    else raise 162 d (b2n (nbit (s.get DIN_LEVEL__LEVEL) d)) (s.putBit DIN_STALE__STALE d true)

/-- New settings of an input apply: INV may change its level (R341). -/
def dinCommit (d : Nat) (s : State) : State :=
  let new := nbit (s.get DIN_RAW__RAW) d != s.on (DIN_CFG__INV d)
  if nbit (s.get DIN_LEVEL__LEVEL) d = new then s
  else dinFeed d (((s.putBit DIN_LEVEL__LEVEL d new).putBit DIN_EDGE__EDGE d true).putBit DIN_STALE__STALE d false)

end Sys2Proof.Machine
end

