-- ==== Sys2Proof/Machine/Dma.lean ====
section
/-! DEFINITION. The DMA engine (05): channels and lists, descriptors and their checks, the index table, the end of a
descriptor, stops, host loss and owner change. Elements move in Release.lean, since they use the register bus. -/

namespace Sys2Proof.Machine

/-- A channel takes a state, with its pause cause and its bits of DMA_GLOBAL_STATUS (R136, R153). -/
def dmaSet (n st cause : Nat) (s : State) : State :=
  let s := (s.put (DMA_CH_STATE__STATE n) st).put (DMA_CH_STATE__PAUSE_CAUSE n) cause
  (s.putBit DMA_GLOBAL_STATUS__ACTIVE n (st == 1 || st == 2)).putBit DMA_GLOBAL_STATUS__HALTED n (st == 4)

def State.dmaState (s : State) (n : Nat) : Nat := s.get (DMA_CH_STATE__STATE n)

/-- DMA_CHn_CUR. -/
def State.dmaCur (s : State) (n : Nat) : Nat := (s.rd (DMA_CH_CUR_LO n)).toNat + 2 ^ 32 * (s.rd (DMA_CH_CUR_HI n)).toNat
def dmaCurSet (n a : Nat) (s : State) : State :=
  (s.wr (DMA_CH_CUR_LO n) (BitVec.ofNat 32 a)).wr (DMA_CH_CUR_HI n) (BitVec.ofNat 32 (a / 2 ^ 32))

/-- A DMA event with its bit of DMA_CHn_EVENT: 0 LIST_DONE, 1 BAD, 2 STOPPED, 3 FETCH_ERR (R154). -/
def dmaEvent (n b : Nat) (detail : Nat) (s : State) : State :=
  raise (33 + b) n detail (s.wr (DMA_CH_EVENT n) (fieldSet (s.rd (DMA_CH_EVENT n)) b 1 1))

/-- The channel's descriptor is gone: nothing is outstanding, and commits that it queued no longer concern it. -/
def dmaClear (n port : Nat) (s : State) : State :=
  let s := s.upDma n fun d => { w7 := d.w7, port := port }
  { s with vq := s.vq.map fun c => if c.dma = some n then { c with dma := none } else c }

/-- The channel pauses (R136). -/
def dmaPause (n cause : Nat) (s : State) : State :=
  dmaEvent n 2 (s.dma n).w7.toNat (dmaSet n 3 cause (dmaClear n 0 s))

/-- The channel enters IDLE; HALTED while the engine is set aside (R136). -/
def dmaIdle (n : Nat) (s : State) : State :=
  let s := dmaClear n 0 s
  if s.on RED_STATUS__DMA_OUT then dmaSet n 4 0 s else dmaSet n 0 0 s

/-- The channel is to read the descriptor at CUR, for its present owner and from the present list space (R135, R148). -/
def dmaFetch (n : Nat) (s : State) : State :=
  (dmaSet n 1 0 (dmaClear n (s.dmaOwner n) s)).upDma n fun d => { d with sram := s.on (DMA_CH_CFG__LIST_SPACE n) }

/-- Start an IDLE channel at an address (R134). -/
def dmaGo (n a : Nat) (s : State) : State :=
  let s := (s.put (DMA_CH_BADCNT__BAD n) 0).putB (DMA_CH_LAST__VALID n) false
  dmaFetch n (dmaCurSet n a s)

def dmaStart (n : Nat) (s : State) : State :=
  if s.dmaState n = 0 ∧ s.dmaOwner n ≠ 0xF then
    dmaGo n ((s.rd (DMA_CH_LIST_LO n)).toNat + 2 ^ 32 * (s.rd (DMA_CH_LIST_HI n)).toNat) s
  else s

/-! ## Descriptors (R137 to R140) -/

/-- Bits of a descriptor's word 0. -/
def dmaPattern (l : List Word) : Nat := fieldGet (dword l 0) 24 4
def dmaElem (l : List Word) : Nat := 2 ^ fieldGet (dword l 0) 13 3
def dmaCount (l : List Word) : Nat := fieldGet (dword l 0) 0 13

/-- The byte position that the arithmetic of R139 starts from. -/
def dmaBase (l : List Word) (dst : Bool) : Nat :=
  let w := dmaAddrWord l dst
  match dmaSpace l dst with
  | 0 => w.toNat + 2 ^ 32 * (dword l (if dst then 4 else 2)).toNat
  | 2 => 4 * fieldGet w 0 12
  | 3 => fieldGet w 16 16
  | _ => w.toNat

def dmaSel (l : List Word) (dst : Bool) : Nat := fieldGet (dmaAddrWord l dst) 16 4

/-- The bytes a space holds, where positions are judged: the bank, the snapshot, or the SRAM below the staging area
(R140, 14 R433). -/
def dmaSpan (l : List Word) (dst : Bool) : Option Nat :=
  match dmaSpace l dst with
  | 2 => some (4 * bankSize (dmaSel l dst))
  | 3 => some (if fieldGet (dmaAddrWord l dst) 0 8 = 0 then 256 else if fieldGet (dmaAddrWord l dst) 0 8 = 1 then 68 else 0)
  | 4 => some 0x300000
  | _ => none

/-- This side takes its offset from the index table. -/
def dmaIndexed (l : List Word) (dst : Bool) : Bool := dmaPattern l == (if dst then 3 else 2)

/-- The byte position of element i (R139); x is its index entry. -/
def dmaPos (l : List Word) (dst : Bool) (i : Nat) (x : Word) : Int :=
  (dmaBase l dst : Int) +
    (if dmaIndexed l dst then (x.toNat : Int)
     else if dmaPattern l = 1 then (i : Int) * (dword l (if dst then 6 else 5)).toInt
     else (i * dmaElem l : Nat))

/-- An element lies wholly within its space. -/
def dmaFits (l : List Word) (dst : Bool) (p : Int) : Bool :=
  match dmaSpan l dst with
  | some n => 0 ≤ p && p + dmaElem l ≤ n
  | none => true

/-- The first bad word of a descriptor, by the checks at its start (R137, R138, R140). DESIGN CHOICE (log 35): of a LINK only the
alignment of its source is judged, and a REG address beyond BAR0 is judged at its access. In the list space of shared SRAM a LINK or an
index table that names the staging area is refused (14 R433). -/
def dmaBad (l : List Word) (owner : Nat) (sram : Bool) : Option Nat :=
  let e := dmaElem l
  let staged := fun (k len : Nat) =>
    let p := (dword l k).toNat + 2 ^ 32 * (dword l (k + 1)).toNat
    sram && decide (p < 0x400000) && decide (0x300000 < p + len)
  let space := fun sp => sp = 1 ∨ sp = 2 ∨ sp = 3 ∨ (sp = 0 ∧ owner ≤ 3) ∨ (sp = 4 ∧ owner = 8)
  if dmaPattern l = 7 then (if dword l 1 &&& 31 ≠ 0 ∨ staged 1 32 then some 1 else none)
  else if 3 < dmaPattern l ∨ e < 4 ∨ 64 < e ∨ dmaCount l = 0 ∨ dmaSpace l true = 3 ∨
      ¬ space (dmaSpace l false) ∨ ¬ space (dmaSpace l true) then some 0
  else
    let side := fun (dst : Bool) =>
      let out := !dmaIndexed l dst && (List.range (dmaCount l)).any fun i => !dmaFits l dst (dmaPos l dst i 0)
      let sel := dmaSpace l dst == 3 && 1 < fieldGet (dmaAddrWord l dst) 0 8
      let far := dmaSpace l dst == 4 && !dmaFits l dst (dmaBase l dst)
      decide (dmaBase l dst % e ≠ 0) || out || sel || far
    let high := fun (dst : Bool) => dmaSpace l dst != 0 && dword l (if dst then 4 else 2) != 0
    let checks := [(1, side false), (2, high false), (3, side true), (4, high true),
      (5, (dmaPattern l == 1 && (dword l 5).toNat % e != 0) || ((dmaPattern l == 2 || dmaPattern l == 3) && ((dword l 5).toNat % 4 != 0 || staged 5 (4 * dmaCount l)))),
      (6, dmaPattern l == 1 && (dword l 6).toNat % e != 0)]
    (checks.find? (·.2)).map (·.1)

/-- Decide how the descriptor ends; the first decision stands. -/
def dmaFin (n code detail : Nat) (s : State) : State :=
  s.upDma n fun d => if d.fin.isSome then d else { d with fin := some (code, detail) }

/-- An element is under way: its index entry, where it takes one, is at hand. -/
def State.dmaMoving (s : State) (n : Nat) : Bool :=
  let d := s.dma n
  let l := d.words
  s.coreClk && l != [] && d.fin == none && d.idx < dmaCount l && (!(dmaIndexed l false || dmaIndexed l true) || d.idx < d.ix.length)

/-- An element boundary: the descriptor is complete, a stop takes effect, or the next element's index entry is judged
(R140, R142, R145, R146). DESIGN CHOICE (log 35): a descriptor whose last element is done ends OK, even where its axis entered SAFE
or a stop came during that element; where a stop and an entry to SAFE stand at one boundary, the stop is judged first. -/
def dmaBoundary (n : Nat) (s : State) : State :=
  let d := s.dma n
  let l := d.words
  if l = [] ∨ d.fin.isSome then s
  else if dmaCount l ≤ d.idx then dmaFin n 0 0 s
  else if d.stop ≠ 0 then dmaFin n 6 (if d.stop = 3 then 2 else 1) s
  else if d.axSafe then dmaFin n 7 0 s
  else if dmaIndexed l false || dmaIndexed l true then
    let dst := dmaIndexed l true
    match d.ix[d.idx]? with
    | some x =>
      if x.toNat % dmaElem l ≠ 0 ∨ !dmaFits l dst (dmaPos l dst d.idx x) then dmaFin n 3 5 s else s
    | none => if d.ixErr then dmaFin n 5 0 s else s
  else s

/-- Command-path traffic is ready at a port (R150): a write-back or ledger write due, a merged event record that can be
written, or held write-backs. -/
def State.cmdReady (s : State) (p : Nat) : Bool :=
  (s.ctxs.any fun e => match e.2.exec with | some x => x.port == p && x.done.isSome && x.flush == 0 | none => false) ||
    (s.ringLive p && !s.ringFull p && s.merged.any fun e => e.1 % 4 == p && e.2.count != 0) || (s.port p).wbHeld != []

/-- A DMA request may go out at a port: the port may issue requests, and the command path goes first (R150). -/
def State.dmaPortGo (s : State) (p : Nat) : Bool := s.portIssues p && !s.cmdReady p

/-- The channel waits to write to its list: the list lies in host memory and the port takes no DMA request (R150, 03 R95). -/
def State.dmaPortWaits (s : State) (n : Nat) : Bool :=
  s.dmaListHost n && s.on (HP_LINK__UP (s.dma n).port) && !s.dmaPortGo (s.dma n).port

/-- The list of a channel can be read: host memory for a host whose link is up, SRAM below the staging area for firmware
(R135). DESIGN CHOICE (log 35): an index table outside it fails when it is read. -/
def State.dmaListOk (s : State) (n a len : Nat) : Bool :=
  if (s.dma n).sram then (s.dma n).port == 8 && a + len ≤ 0x300000
  else (s.dma n).port ≤ 3 && s.on (HP_LINK__UP (s.dma n).port)

/-- The words a list-space read answers: the host's, or the SRAM's. -/
def State.dmaListRead (s : State) (n a : Nat) (count : Nat) (r : Option (List Word)) : Option (List Word) :=
  if !s.dmaListOk n a (4 * count) then none
  else if (s.dma n).sram then r.map fun _ => (List.range count).map fun i => s.sramWord (a + 4 * i)
  else r.map fun l => (l ++ List.replicate count 0).take count

/-! ## Turns (R139, R150, R151) -/

/-- A DMA read may be issued at a port: HOST_TAGS bounds those outstanding (R150), and 64 all reads of the port (03 R76). -/
def State.dmaReadGo (s : State) (p : Nat) : Bool := s.dmaPortGo p && s.readGo p && decide (s.dmaReads p < s.get DMA_GLOBAL_CFG__HOST_TAGS)

/-- A read of the list space may be issued; one that can only fail needs no port. -/
def State.dmaListGo (s : State) (n : Nat) : Bool :=
  !s.dmaListHost n || !s.on (HP_LINK__UP (s.dma n).port) || s.dmaReadGo (s.dma n).port

/-- The channel has a descriptor to read. -/
def State.dmaFetching (s : State) (n : Nat) : Bool := (s.dmaState n == 1 || s.dmaState n == 2) && (s.dma n).words == []

/-- The channel has a block of its index table to read: the first, or the next once half of the current one is consumed
(R139). -/
def State.dmaIndexing (s : State) (n : Nat) : Bool :=
  let d := s.dma n
  d.words != [] && d.fin == none && !d.ixErr && (dmaIndexed d.words false || dmaIndexed d.words true) &&
    decide (d.ix.length < dmaCount d.words) && (d.ix == [] || decide (d.ix.length ≤ d.idx + 8))

/-- Issue a read of the list space. -/
def dmaListRequest (n a bytes : Nat) (s : State) : State :=
  s.when (s.dmaListHost n && s.on (HP_LINK__UP (s.dma n).port)) fun s => s.hostRead (s.dma n).port a bytes

/-- The address of the next block of index entries, and its entries. -/
def State.dmaIndexAt (s : State) (n : Nat) : Nat × Nat :=
  let d := s.dma n
  ((dword d.words 5).toNat + 2 ^ 32 * (dword d.words 6).toNat + 4 * d.ix.length, min 16 (dmaCount d.words - d.ix.length))

/-- The read of a descriptor and of index entries that a channel waits for are issued. -/
def dmaAsk (n : Nat) (s : State) : State :=
  let s := s.when (s.dmaFetching n && !(s.dma n).fetchOut && (s.dma n).stop == 0 && s.dmaListGo n) fun s =>
    (dmaListRequest n (s.dmaCur n) 32 s).upDma n fun d => { d with fetchOut := true }
  s.when (s.dmaIndexing n && !(s.dma n).ixOut && (s.dma n).stop == 0 && s.dmaListGo n) fun s =>
    (dmaListRequest n (s.dmaIndexAt n).1 (4 * (s.dmaIndexAt n).2) s).upDma n fun d => { d with ixOut := true }

/-- The channel waits for a turn that it can take: an element from host memory needs a read at its port, one from a device space
the engine's own path, which carries one element at a time. -/
def State.dmaDue (s : State) (n : Nat) : Bool :=
  let d := s.dma n
  s.dmaMoving n && !d.issued && d.stop == 0 &&
    (if dmaSpace d.words false = 0 then s.dmaReadGo d.port
     else (List.range 16).all fun k => !(s.dma k).issued || dmaSpace (s.dma k).words false == 0)

/-- The next of some channels after the one last served. -/
def dmaRound (last : Nat) (l : List Nat) : Option Nat := (l.find? fun n => decide (last < n)).orElse fun _ => l.head?

/-- The channel that takes the next turn: high priority first, round-robin within a level; after LOW_EVERY turns of high
priority a waiting channel of low priority (R151). -/
def State.dmaNext (s : State) : Option Nat :=
  let l := (List.range 16).filter s.dmaDue
  let hi := l.filter fun n => s.on (DMA_CH_CFG__PRIO n)
  let lo := l.filter fun n => !s.on (DMA_CH_CFG__PRIO n)
  if hi ≠ [] ∧ (lo = [] ∨ s.sys.arb.high < max 1 (s.get DMA_GLOBAL_CFG__LOW_EVERY)) then dmaRound s.sys.arb.last1 hi
  else dmaRound s.sys.arb.last0 lo

/-- A channel takes its turn: the read of its element is issued. -/
def dmaTurn (n : Nat) (s : State) : State :=
  let d := s.dma n
  let s := s.when (dmaSpace d.words false == 0) fun s =>
    s.hostRead d.port (dmaPos d.words false d.idx (d.ix.getD d.idx 0) % 2 ^ 64).toNat (dmaElem d.words)
  let s := s.upSys fun y =>
    { y with arb := if s.on (DMA_CH_CFG__PRIO n) then { y.arb with high := y.arb.high + 1, last1 := n }
                    else { y.arb with high := 0, last0 := n } }
  s.upDma n fun d => { d with issued := true }

/-- Turns, one after another, while a channel can take one. -/
def dmaTurns : Nat → State → State
  | 0, s => s
  | k + 1, s => match s.dmaNext with
    | some n => dmaTurns k (dmaTurn n s)
    | none => s

/-- The engine serves its channels: reads of descriptors and of index entries, high priority first, then elements. The model
takes the turns when the end of one is reported (DESIGN CHOICE, log 52). -/
def dmaServe (s : State) : State :=
  let pri := fun (h : Bool) => (List.range 16).filter fun n => s.on (DMA_CH_CFG__PRIO n) == h
  dmaTurns 16 (s.each (pri true ++ pri false) dmaAsk)

/-- A fetched descriptor starts: the checks of its fields, then its first boundary. -/
def dmaBegin (n : Nat) (l : List Word) (s : State) : State :=
  let s := s.upDma n fun d => { stop := d.stop, words := l, port := d.port, sram := d.sram, w7 := dword l 7 }
  match dmaBad l (s.dma n).port (s.dma n).sram with
  | some k => dmaFin n 3 k s
  | none =>
    if dmaPattern l = 7 then dmaFin n 0 0 s
    else
      let snap := if dmaSpace l false = 3 then (((s.ax (dmaAxis l false)).snap ++ List.replicate 64 0).take 64) else []
      dmaBoundary n (s.upDma n fun d => { d with snap := snap })

/-- A stop finds that the read of a descriptor has not been issued: the channel pauses at CUR, or enters IDLE for a RESET or a
change of owner. -/
def dmaUnread (n : Nat) (s : State) : State := if 2 ≤ (s.dma n).stop then dmaIdle n s else dmaPause n 1 s

/-- DMA_DESC_FETCH_DONE: `r` is what the read answers, none where it fails. DESIGN CHOICE (log 35): a STOP that came while the
descriptor was read leaves it neither begun nor written back, and the channel pauses (cause 1) with CUR at it; where a RESET or a
change of owner is pending the channel enters IDLE, without DMA_FETCH_ERR where the read fails. -/
def execDmaDescFetchDone (n : Fin 16) (r : Option (Vector Word 8)) (s : State) : Host.Outcome State Fault Refusal :=
  .next <|
    let n := n.val
    if !s.dmaFetching n ∨ !s.coreClk then s
    else
      let t := if (s.dma n).fetchOut then s else dmaServe s
      let d := t.dma n
      if !d.fetchOut then (if d.stop ≠ 0 then dmaUnread n s else s)
      else fetchAll <| match t.dmaListRead n (t.dmaCur n) 8 (r.map (·.toList)) with
      | none =>
        if 2 ≤ d.stop then dmaIdle n t
        else
          let s := dmaSet n 4 0 (dmaClear n 0 t)
          dmaEvent n 3 (s.rd (DMA_CH_CUR_LO n)).toNat s
      | some l =>
        let s := t.upDma n fun d => { d with w7 := dword l 7 }
        if 2 ≤ d.stop then dmaIdle n s
        else if d.stop = 1 then dmaPause n 1 s
        else if fieldGet (dword l 0) 31 1 = 0 then dmaPause n 2 s
        else dmaBegin n l s

/-- DMA_INDEX_READ_DONE: the next block of at most 16 entries, or a failed read, which takes effect when its first
entry is needed. -/
def execDmaIndexReadDone (n : Fin 16) (r : Option (List Word)) (s : State) : Host.Outcome State Fault Refusal :=
  .next <|
    let n := n.val
    if !s.dmaIndexing n ∨ !s.coreClk then s
    else
      let t := if (s.dma n).ixOut then s else dmaServe s
      let d := t.dma n
      if !d.ixOut then s
      else
        let waiting := d.ix.length ≤ d.idx
        let s := match t.dmaListRead n (t.dmaIndexAt n).1 (t.dmaIndexAt n).2 r with
          | some b => t.upDma n fun d => { d with ix := d.ix ++ b, ixOut := false }
          | none => t.upDma n fun d => { d with ixErr := true, ixOut := false }
        fetchAll (if waiting then dmaBoundary n s else s)

/-! ## The end of an element (R142) -/

/-- The element is done; the counts of the tally, then the next boundary. -/
def dmaElemEnd (n : Nat) (s : State) : State :=
  let d := s.dma n
  let l := d.words
  let i := d.idx
  let a := (dmaPos l true i (d.ix.getD i 0) % 2 ^ 64).toNat
  let host := b2n (dmaSpace l false == 0) + b2n (dmaSpace l true == 0)
  let s := s.upDma n fun d => { d with idx := i + 1, left := [], issued := false, whole := false }
  let s := talCount 0x40 5 1 a s
  let s := s.when (host != 0) (talCount 0x43 5 (host * dmaElem l / 4) 0)
  dmaBoundary n s

/-- A commit that the element waits for has ended (14 R422): the element is done with its last one, and ends the descriptor
where one fails. DESIGN CHOICE (log 35): R144 has no code for that; the model gives CHECK_FAILED (8) with DETAIL 1, which 14 R426 gives a
VAULT_WRITE. -/
def dmaCommitted (n : Nat) (ok : Bool) (s : State) : State :=
  let d := s.dma n
  let s := s.upDma n fun d => { d with commits := d.commits - 1 }
  if !ok then dmaFin n 8 1 (s.upDma n fun d => { d with left := [], issued := false, whole := false })
  else s.when (d.whole && d.commits == 1 && d.fin == none) (dmaElemEnd n)

/-! ## The end of a descriptor (R141 to R145, 06 R487) -/

/-- A bank that a descriptor with a BANK destination leaves partial where it does not end OK, whatever its code; the elements
counted in DONE count as written (R145, 06 R487). -/
def dmaBankPartial (n code : Nat) (s : State) : State :=
  let d := s.dma n
  let l := d.words
  if code = 0 ∨ dmaSpace l true ≠ 2 ∨ dmaPattern l = 7 then s
  else
    let a := dmaAxis l true
    let sel := dmaSel l true
    (bankPartial a sel s).each (List.range d.idx) fun i s =>
      let p := (dmaPos l true i (d.ix.getD i 0)).toNat / 4
      s.each (List.range (dmaElem l / 4)) fun j s => bankWr a sel (p + j) (s.bankRd a sel (p + j)) s

/-- LAST, the counts and the events of an ended descriptor (R141, R143). -/
def dmaEnded (n code detail : Nat) (s : State) : State :=
  let d := s.dma n
  let s := dmaBankPartial n code s
  let s := talCount 0x41 5 1 0 s
  let s := s.when (code != 0) (talCount 0x42 5 1 0)
  let w7 := BitVec.ofNat 32 (code + detail % 256 * 2 ^ 8 + d.idx * 2 ^ 16 + (if code = 0 then 0 else 2 ^ 31))
  let s := (((s.put (DMA_CH_LAST__CODE n) code).put (DMA_CH_LAST__DETAIL n) detail).put (DMA_CH_LAST__DONE n) d.idx).putB (DMA_CH_LAST__VALID n) true
  let s := s.upDma n fun d => { d with w7 := w7 }
  let s := s.when (fieldGet (dword d.words 0) 29 1 == 1) (raise 32 n w7.toNat)
  s.when (code != 0) fun s => dmaEvent n 1 w7.toNat (s.bump (DMA_CH_BADCNT__BAD n))

/-- A word written back to the channel's list. -/
def dmaListWrite (n a : Nat) (w : Word) (s : State) : State :=
  if (s.dma n).sram then s.when ((s.dma n).port == 8) fun s => s.sramWrWord (a % 2 ^ 22) w
  else if (s.dma n).port ≤ 3 then s.emit (.memWrite (s.dma n).port a [w]) else s

/-- DMA_DESC_END, once the commits that its writes queued have ended (R141). A stop of a channel that waits for its turn takes
effect here. -/
def execDmaDescEnd (n : Fin 16) (s : State) : Host.Outcome State Fault Refusal :=
  .next <|
    let n := n.val
    let s := s.when ((s.dma n).stop != 0 && !(s.dma n).issued) (dmaBoundary n)
    let d := s.dma n
    match (if s.coreClk && !s.dmaPortWaits n && d.commits == 0 then d.fin else none) with
    | none => s
    | some (code, detail) =>
      let l := d.words
      let cur := s.dmaCur n
      let w7 := BitVec.ofNat 32 (code + detail % 256 * 2 ^ 8 + d.idx * 2 ^ 16 + (if code = 0 then 0 else 2 ^ 31))
      let s := dmaListWrite n cur (fieldSet (dword l 0) 31 1 0) (dmaListWrite n (cur + 28) w7 s)
      let s := dmaEnded n code detail s
      if fieldGet (dword l 0) 30 1 = 1 then dmaEvent n 0 w7.toNat (dmaIdle n s)
      else
        let s := dmaCurSet n (if dmaPattern l = 7 ∧ code = 0 then (dword l 1).toNat + 2 ^ 32 * (dword l 2).toNat else cur + 32) s
        if 2 ≤ d.stop then dmaIdle n s
        else if d.stop = 1 then dmaPause n 1 s
        else if code ≠ 0 ∧ s.on (DMA_CH_CFG__HALT_ON_BAD n) then dmaPause n 4 s
        else dmaFetch n s

/-! ## Stops, host loss and ownership (R146 to R148), the engine set aside (R136, 13 R408) -/

/-- An active channel stops at its next element boundary; one whose element has not been issued stands at one, and one whose
descriptor's read has not been issued reads nothing more. -/
def dmaStopReq (n kind : Nat) (s : State) : State :=
  if s.dmaState n ≠ 1 ∧ s.dmaState n ≠ 2 then s
  else
    let s := dmaSet n 2 0 (s.upDma n fun d => { d with stop := max d.stop kind })
    if s.dmaFetching n && !(s.dma n).fetchOut then dmaUnread n s
    else if (s.dma n).issued then s else dmaBoundary n s

def dmaStop (n : Nat) (s : State) : State := dmaStopReq n 1 s

def dmaReset (n : Nat) (s : State) : State :=
  if s.dmaState n = 3 ∨ s.dmaState n = 4 then dmaIdle n s else dmaStopReq n 2 s

/-- RESUME goes on at CUR, after a host loss with the next descriptor. DESIGN CHOICE (log 35): where the lost descriptor was the
last of its list, the channel enters IDLE with DMA_LIST_DONE. -/
def dmaResume (n : Nat) (s : State) : State :=
  if s.dmaState n ≠ 3 then s
  else if (s.dma n).ended then dmaEvent n 0 (s.dma n).w7.toNat (dmaIdle n s)
  else match (s.dma n).next with
    | some a => dmaFetch n (dmaCurSet n a s)
    | none => dmaFetch n s

/-- DMA_CHn_CTRL: RESET is the only write accepted in HALTED. DESIGN CHOICE (log 35): of several bits in one write RESET acts
alone, else START, STOP and RESUME act in this order. -/
def dmaCtrl (n : Nat) (v : Word) (s : State) : State :=
  if fieldGet v 3 1 = 1 then dmaReset n s
  else if s.dmaState n = 4 then s
  else
    let s := s.when (fieldGet v 0 1 == 1) (dmaStart n)
    let s := s.when (fieldGet v 1 1 == 1) (dmaStop n)
    s.when (fieldGet v 2 1 == 1) (dmaResume n)

/-- Loss of the host whose list a channel works through (R147): the current descriptor ends as BUS_ERROR without a write-back.
Where a change of owner is pending the channel enters IDLE (R148). DESIGN CHOICE (log 35): where a RESET is pending the channel
pauses with cause 3 and the RESET is dropped. -/
def dmaHostLoss (p : Nat) (s : State) : State :=
  s.each (List.range 16) fun n s =>
    let d := s.dma n
    if d.port ≠ p ∨ (s.dmaState n ≠ 1 ∧ s.dmaState n ≠ 2) then s
    else if d.stop = 3 then dmaIdle n (s.when (d.words != []) (dmaEnded n 5 0))
    else if d.words = [] then dmaPause n 3 s
    else (dmaPause n 3 (dmaEnded n 5 0 s)).upDma n fun d' => { d' with next := some (s.dmaCur n + 32), ended := fieldGet (dword d.words 0) 30 1 == 1 }

/-- A committed change of the owner of a channel (R148). -/
def dmaOwnerChange (n : Nat) (s : State) : State :=
  if s.dmaState n = 3 ∨ s.dmaState n = 4 then dmaIdle n s else dmaStopReq n 3 s

/-- The engine is set aside: every channel enters HALTED (R136). -/
def dmaSetAside (s : State) : State :=
  (s.putB RED_STATUS__DMA_OUT true).each (List.range 16) fun n s => dmaSet n 4 0 (dmaClear n 0 s)

/-- It returns through a rejoin: every channel enters IDLE. -/
def dmaReturn (s : State) : State :=
  (s.putB RED_STATUS__DMA_OUT false).each (List.range 16) dmaIdle

/-- OP_DMA_START. -/
def execOpDmaStart (c : Fin 256) (s : State) : Host.Outcome State Fault Refusal :=
  .next <|
    let c := c.val
    match s.running c 0x40 with
    | none => s
    | some e =>
      let n := unitOf (dword e.words 0) % 16
      if s.dmaState n ≠ 0 then descDone c 4 (s.dmaState n) s
      else
        let s := (s.wr (DMA_CH_LIST_LO n) (fieldSet (dword e.words 1) 0 5 0)).wr (DMA_CH_LIST_HI n) (dword e.words 2)
        let s := dmaGo n ((s.rd (DMA_CH_LIST_LO n)).toNat + 2 ^ 32 * (s.rd (DMA_CH_LIST_HI n)).toNat) s
        descDone c 0 0 (stepDone c 1 s)

end Sys2Proof.Machine
end

