-- ==== Sys2Proof/Machine/VaultOps.lean ====
section
/-! DEFINITION. The vault (14 R420 to R425): its words and their factory values, the words behind registers, the commit
queue and wear; and the check of an ownership commit at its start (03 R90). -/

namespace Sys2Proof.Machine

/-- Every register row. -/
def allRows : List RegRow :=
  devHpRows ++ clkRows ++ ctxRows ++ axRows ++ legRows ++ giRows ++ fmRows ++ pmRows ++ piRows ++ safRows ++ redRows ++ vltRows ++
    seamRows ++ evRows ++ talRows ++ dmaRows

/-- The register instance of a row that a vault word backs (R425). -/
def RegRow.ofWord (r : RegRow) (w : Nat) : Option Nat :=
  if r.vault = 0 ∨ w < r.vault then none
  else if r.vstride = 0 then (if w = r.vault then some r.addr else none)
  else
    let i := (w - r.vault) / r.vstride
    if (w - r.vault) % r.vstride = 0 ∧ i < r.n1 then some (r.addr + r.s1 * i) else none

/-- The address of the register that a vault word backs. -/
def vaultAddr (w : Nat) : Option Nat := allRows.findSome? fun r => r.ofWord w

/-- The vault word behind a register (R423). -/
def vaultWord (a : Nat) : Option Nat :=
  match findRow a with
  | some (r, i, _) => if r.vault = 0 then none else some (r.vault + r.vstride * i)
  | none => none

/-- Bits of a register that live in the vault. -/
def pvMask (a : Nat) : Word :=
  match findRow a with
  | some (r, _, _) => BitVec.ofNat 32 r.pv
  | none => 0

/-- A commit of the word is queued or running. -/
def State.vqHas (s : State) (w : Nat) : Bool := s.vq.any fun c => c.word == w

/-- The words of the ownership table and the steward. -/
def ownWord (w : Nat) : Bool := 160 ≤ w && w ≤ 203

/-- VLT_STATUS.QUEUE (R422). -/
def vqShow (s : State) : State := s.put VLT_STATUS__QUEUE (min 8 s.vq.length)

/-- Record a refused ownership or steward write (03 R90). -/
def ownRefuse (addr code : Nat) (s : State) : State :=
  (s.put HP_OWN_STATUS__LAST_REFUSE code).put HP_OWN_STATUS__REFUSE_OFFSET addr

/-- Contexts whose owner a commit changes. -/
def State.ctxChanges (s : State) (c : VCommit) : List Nat :=
  if c.word < 172 ∨ 203 < c.word then []
  else ((List.range 8).filter fun k =>
    fieldGet c.value (4 * k) 4 != s.get (HP_OWN_CTX__OWNER (c.word - 172) k)).map fun k => 8 * (c.word - 172) + k

/-- A DMA channel's write of the ownership table is refused as its commit would start: the element ends the descriptor (05
R144). -/
def dmaRefused (n code : Nat) (s : State) : State :=
  dmaFin n 4 code (s.upDma n fun d => { d with commits := d.commits - 1, left := [], issued := false, whole := false })

/-- A commit starts: a change of a context's owner is refused where a descriptor of the context is in execution (03 R90);
the commit behind it then starts. -/
def vqStart : Nat → State → State
  | 0, s => s
  | n + 1, s =>
    match s.vq with
    | [] => vqShow s
    | c :: rest =>
      if (s.ctxChanges c).any fun k => (s.ctx k).exec.isSome then
        let s := ownRefuse (0x1040 + 4 * (c.word - 172)) 3 { s with vq := rest }
        let s := match c.ctx with | some x => descDone x 4 3 s | none => s
        let s := match c.dma with | some x => dmaRefused x 3 s | none => s
        vqStart n s
      else vqShow s

/-- A write enters the commit queue. The device's own writes always find a place. -/
def vqPush (w : Nat) (v : Word) (ctx : Option Nat) (s : State) : State :=
  let first := s.vq.isEmpty
  let s := { s with vq := s.vq ++ [{ word := w, value := v, ctx := ctx }] }
  if first then vqStart 1 s else vqShow s

/-- Wear of a word as VLT_WEARi shows it. -/
def State.wearRd (s : State) (w : Nat) : Word := sget (fun _ => (0 : Word)) s.wear w

/-- A vault event (R442). -/
def vltEvent (b detail : Nat) (s : State) : State := raise (48 + b) 0 detail (s.putBit VLT_EVENT__EVT b true)

/-- One commit of wear (R424), and whether copy B failed. -/
def wearAdd (w : Nat) (degraded : Option Bool) (s : State) : State :=
  let x := s.wearRd w
  let n := min (fieldGet x 0 24 + 1) (2 ^ 24 - 1)
  let x := fieldSet x 0 24 n
  let x := match degraded with | some d => fieldSet x 24 1 (b2n d) | none => x
  let warn := s.get VLT_CFG__WEAR_WARN < n && fieldGet x 25 1 == 0
  let s := { s with wear := sset (fun _ => (0 : Word)) s.wear w (if warn then fieldSet x 25 1 1 else x) }
  s.when warn (vltEvent 1 w)

/-! ## Arming (12 R357, R368) -/

/-- The device writes a vault-backed register: the word enters the commit queue. -/
def vaultPut (a : Nat) (v : Word) (s : State) : State :=
  match vaultWord a with
  | some w => vqPush w v none s
  | none => s

/-- FM_CHk_WCTL with both comparators in MODE 1, ACT = EVENT and BLK = 0, and FILT = f (12 R368). -/
def ovCtl (w : Word) (f : Nat) : Word :=
  fieldSet (fieldSet (fieldSet (fieldSet w 0 4 0b0101) 4 3 f) 8 4 0b0101) 12 3 f

/-- The over-voltage comparators of an enabled group are written through the vault (12 R368, 14 R422). -/
def ovWrite (g : Nat) (s : State) : State :=
  if !s.on (SAF_LINK_CFG__EN g) then s
  else
    let k := s.get (SAF_LINK_CFG__VDC_CH g)
    let ctl := ovCtl (s.rd (FM_CH_WCTL k)) (s.get (SAF_LINK_OV__OV_FILT g))
    vaultPut (FM_CH_WCTL k) ctl
      (vaultPut (FM_CH_WB k) (fieldSet 0 16 10 (s.get (SAF_LINK_OV__OV2_HI g)))
        (vaultPut (FM_CH_WA k) (fieldSet 0 16 10 (s.get (SAF_LINK_OV__OV1_HI g))) s))

/-- Arming succeeds. -/
def armNow (s : State) : State :=
  let s := s.each (List.range 4) ovWrite
  let s := safEvent 17 0 1 ((s.putB SAF_STATUS__ARMED true).put SAF_STATUS__ARM_REFUSE 0)
  let s := (stoEval s).each (List.range 8) ss1Eval
  s.each (List.range 4) fun g s => s.when (decide (s.get (SAF_LINK_DIS__DIS_DIN g) < 24) && s.disAsked g) (disRequest g)

/-- The arm key; answers whether it was refused. -/
def armKey (s : State) : State × Bool :=
  if s.armed then (s, false)
  else
    let r := s.armRefuse
    if r = 0 then (armNow s, false) else (safEvent 17 0 (r * 16) (s.put SAF_STATUS__ARM_REFUSE r), true)

/-- Arming at t2 of the start-up. -/
def armAtStart (s : State) : State :=
  if s.armRefuse = 0 then armNow s else stoEval (safEvent 18 0 (s.rd SAF_SPB_CRC).toNat s)

end Sys2Proof.Machine
end

