-- ==== Sys2Proof/Machine/Redundancy.lean ====
section
/-! DEFINITION. Redundancy (13): core pairs, work slots, checkpoints, restart and takeover, debug, engines and lanes,
self-test slices, units set aside, row repair and the service codes. What the instructions of a core compute lies outside the model: its
registers are open while it runs (log 20). -/

namespace Sys2Proof.Machine

/-! ## Pairs and slots (R385 to R387) -/

def State.cp (s : State) (n : Nat) : CpS := sget (fun _ => {}) s.cps n
def State.upCp (s : State) (n : Nat) (f : CpS → CpS) : State := { s with cps := sset (fun _ => {}) s.cps n (f (s.cp n)) }

def State.cpState (s : State) (n : Nat) : Nat := s.get (RED_CP_STAT__STATE n)

/-- The field of RED_SLOTS that holds a slot's pair; slot 4 is the reserve. -/
def slotPair (w : Nat) : FieldRef := { addr := RED_SLOTS, lo := 4 * w, width := 3 }

/-- The slot of a pair. -/
def State.slotOf (s : State) (n : Nat) : Option Nat :=
  if s.on (RED_CP_STAT__HAS_SLOT n) then some (s.get (RED_CP_STAT__SLOT n)) else none

/-- USABLE and NO_RESERVE follow the pairs (R419); where no pair is named as the reserve, one that waits as a reserve is. -/
def pairsShow (s : State) : State :=
  let s := s.when (s.get (slotPair 4) == 7) fun s =>
    s.put (slotPair 4) (((List.range 5).find? fun n => s.cpState n == 1 && s.slotOf n == none).getD 7)
  let s := s.each (List.range 5) fun n s => s.putBit RED_STATUS__USABLE n (s.cpState n < 6)
  s.putB RED_STATUS__NO_RESERVE (s.get (slotPair 4) == 7)

/-! ## The copies' registers (R385, R388, R392, R407) -/

/-- M-mode CSRs that a copy holds beside the counters and mcause, by number: mstatus, mie, mtvec, mscratch, mepc and mtval
(PRESUMED: the privileged architecture's, log 51). -/
def csrHeld : List Nat := [0x300, 0x304, 0x305, 0x340, 0x341, 0x343]

/-- Words of a copy's registers: x1 to x31, pc and those CSRs. -/
def coreWords : Nat := 38

/-- Registers of open contents: what a program leaves in them (log 20). -/
def openRegs (k : Nat) : List Word := (List.range coreWords).map fun i => BitVec.ofNat 32 (Config.freeNat (k + i))

/-- The pair has executed: its registers and the lines of its caches are open. -/
def coreRun (n : Nat) (s : State) : State :=
  { s with free := s.free + coreWords }.upCp n fun c => { c with regs := openRegs s.free, cache := some s.free }

/-- Every storage element of both copies is cleared (R407). -/
def coreClear (n : Nat) (s : State) : State := s.upCp n fun c => { c with regs := [], csr := {}, cause := 0, cache := none, fed := [] }

/-- The request of a held write as a signature takes it: its kind, address, data and byte enables. -/
def HeldW.code : HeldW → List Nat
  | .reg a v => [0, a, v.toNat, 15]
  | .sram a be v => [1, a, v.toNat, be.toNat]
  | .host p a be v => [2 + p, a, v.toNat, be.toNat]

/-- The signature of a pair's window so far, the same in both copies until one errs (R388); the retired instructions enter at its
end, with the comparison. -/
def State.signature (s : State) (n : Nat) : BitVec 64 := (s.cp n).fed.foldl Config.sigFeed Config.sigSeed

/-- A pair holds a slot, or gives its slot up. -/
def pairHold (n : Nat) (w : Option Nat) (s : State) : State :=
  (s.putB (RED_CP_STAT__HAS_SLOT n) w.isSome).put (RED_CP_STAT__SLOT n) (w.getD 0)

/-- A pair becomes the reserve, where none serves. -/
def pairReserve (n : Nat) (s : State) : State :=
  pairsShow ((s.put (RED_CP_STAT__STATE n) 1).when (s.get (slotPair 4) == 7) fun s => s.put (slotPair 4) n)

/-- Cache ways found faulty are disabled at the next restart or test of their pair; a cache with no ways makes the pair
unusable (R408). -/
def cacheWays (n : Nat) (s : State) : State :=
  s.red.unus.foldl (fun s u =>
    if u.1 = 0 ∧ u.2 / 16 = n then
      (if u.2 % 16 < 4 then s.putBit (RED_CP_STAT__I_WAYS n) (u.2 % 4) false else s.putBit (RED_CP_STAT__D_WAYS n) (u.2 % 4) false)
    else s) s

/-- Slots are assigned at firmware release (R386). -/
def assignSlots (s : State) : State :=
  let us := (List.range 5).filter fun n => s.cpState n < 6
  let s := s.each (List.range 5) (fun n => pairHold n none)
  let s := s.each (List.range 4) fun w s =>
    match us[w]? with
    | some n => pairHold n (some w) ((s.put (slotPair w) n).put (RED_CP_STAT__STATE n) 0)
    | none => s.put (slotPair w) 7
  match us[4]? with
  | some n => pairsShow ((s.put (slotPair 4) n).put (RED_CP_STAT__STATE n) 1)
  | none => pairsShow (s.put (slotPair 4) 7)

/-! ## Checkpoints (R392, R393, R397)

A copy of the escrow is a list of words. DESIGN CHOICE (log 20): x1 to x31, pc and CSRs from word 0, the region registers in words 250 to 253,
the check word in word 255, and from word 256 the regions one after another. -/

/-- The words of a region that a checkpoint holds: those outside the staging area, which the cores cannot reach (14 R433). -/
def rgnLen (rgn : Word) : Nat := min (16 * fieldGet rgn 16 9) ((0x300000 - 64 * fieldGet rgn 0 16) / 4)

def State.rgnWords (s : State) (rgn : Word) : List Word := (List.range (rgnLen rgn)).map fun i => s.sramWord (64 * fieldGet rgn 0 16 + 4 * i)

/-- A list of n words: what it does not hold is 0. -/
def padTo (n : Nat) (l : List Word) : List Word := (l ++ List.replicate n 0).take n

/-- A copy's registers and counter CSRs as a checkpoint holds them. -/
def archWords (regs : List Word) (q : CsrS) (cause : Nat) : List Word :=
  padTo coreWords regs ++ [BitVec.ofNat 32 (q.cyc / 32), BitVec.ofNat 32 (q.cyc / 32 / 2 ^ 32), BitVec.ofNat 32 q.inst,
    BitVec.ofNat 32 (q.inst / 2 ^ 32), q.cen, q.inh, BitVec.ofNat 32 cause]

/-- The words of a slot's checkpoint, with a check word. -/
def State.ckptWords (s : State) (w : Nat) (arch : List Word) (check : Word) : List Word :=
  let rgns := (List.range 4).map fun r => s.rd (RED_WS_RGN w r)
  padTo 250 arch ++ rgns ++ [0, check] ++ rgns.flatMap s.rgnWords

/-- The CRC-32 of a checkpoint's words, its check word aside. -/
def ckptCrc (l : List Word) : Word := BitVec.ofNat 32 (crc32 (l.take 255 ++ l.drop 256))

/-- The check word of a copy verifies. -/
def State.ckptOk (s : State) (w c : Nat) : Bool :=
  let l := sget (fun _ => []) s.escrow (2 * w + c)
  dword l 255 == ckptCrc l

def ckptGood (w c : Nat) : FieldRef := if c = 0 then RED_WS_CKPT__GOOD_A w else RED_WS_CKPT__GOOD_B w

/-- Write a checkpoint of a slot into a copy, newest and good. -/
def ckptWrite (w c : Nat) (arch : List Word) (s : State) : State :=
  let l := s.ckptWords w arch 0
  let s := { s with escrow := sset (fun _ => []) s.escrow (2 * w + c) (s.ckptWords w arch (ckptCrc l)) }
  (s.putB (ckptGood w c) true).put (RED_WS_CKPT__NEWEST w) c

/-- A checkpoint taken by a pair: into the copy that is not the newest; one that a mismatch ends before its check word leaves that
copy bad, and the older one newest. -/
def ckptTake (n : Nat) (whole : Bool) (s : State) : State :=
  match s.slotOf n with
  | none => s
  | some w =>
    let c := 1 - s.get (RED_WS_CKPT__NEWEST w)
    let p := s.cp n
    let arch := archWords p.regs p.csr p.cause
    if whole then (ckptWrite w c arch s).put (RED_WS_CKPT__COUNT w) (s.get (RED_WS_CKPT__COUNT w) + 1)
    else
      let old := dword (sget (fun _ => []) s.escrow (2 * w + c)) 255
      { s with escrow := sset (fun _ => []) s.escrow (2 * w + c) (s.ckptWords w arch old) }.putB (ckptGood w c) false

/-- The regions of a checkpoint, as byte address and words. -/
def ckptRegions (l : List Word) : List (Nat × List Word) :=
  let len := fun r => rgnLen (dword l (250 + r))
  (List.range 4).map fun r => (64 * fieldGet (dword l (250 + r)) 0 16,
    padTo (len r) (l.drop (256 + ((List.range r).map len).sum)))

/-- The counter CSRs of a checkpoint. -/
def ckptCsr (l : List Word) : CsrS :=
  let w := fun i => (dword l (coreWords + i)).toNat
  { cyc := 32 * (w 0 + 2 ^ 32 * w 1), inst := w 2 + 2 ^ 32 * w 3, cen := dword l (coreWords + 4), inh := dword l (coreWords + 5) }

/-- A copy's regions go back to shared SRAM, and its registers to the pair, whose caches are invalidated. -/
def ckptApply (w c n : Nat) (s : State) : State :=
  let l := sget (fun _ => []) s.escrow (2 * w + c)
  let s := (ckptRegions l).foldl (fun s r => s.sramWrWords r.1 r.2) s
  s.upCp n fun x => { x with regs := l.take coreWords, csr := ckptCsr l, cause := (dword l (coreWords + 6)).toNat, cache := none }

/-- Restore a slot's checkpoint for a pair: the newest copy, else the other where it is good, else device-SAFE. A copy is good where
its check word verifies, and no error that the operand reports stands in it. Answers whether a copy was restored. -/
def ckptRestore (w n : Nat) (newestOk otherOk : Bool) (s : State) : State × Bool :=
  let c := s.get (RED_WS_CKPT__NEWEST w)
  if s.on (ckptGood w c) && newestOk && s.ckptOk w c then (ckptApply w c n s, true)
  else
    let s := s.putB (ckptGood w c) false
    if s.on (ckptGood w (1 - c)) && otherOk && s.ckptOk w (1 - c) then
      (ckptApply w (1 - c) n ((unitRecord 0x06 1 0 n s).put (RED_WS_CKPT__NEWEST w) (1 - c)), true)
    else (faultRecord 0x06 5 1 0 n (s.putB (ckptGood w (1 - c)) false), false)

/-- A restoration of a slot counts in KRST (R398). -/
def krstCount (w : Nat) (s : State) : State := s.upRed fun r => { r with krst := r.krst.set w ((r.krst.getD w 0 + 1) % 2 ^ 16) }

/-- The slot has been restored on a pair, which now executes and waits for its first full window. -/
def pairResume (n w heir : Nat) (s : State) : State :=
  ((krstCount w s).put (RED_CP_STAT__STATE n) 0).upCp n fun c =>
    { c with rs := 0, first := true, heirOf := heir, buf := [], grp := [], kgrp := false, fed := [] }

/-! ## Mismatch, restart and takeover (R394 to R396) -/

/-- The held writes of a pair and its open group are discarded. -/
def pairDrop (n : Nat) (s : State) : State := s.upCp n fun c => { c with buf := [], grp := [], kgrp := false, fed := [] }

/-- A pair is marked unusable. -/
def pairUnusable (n : Nat) (s : State) : State :=
  let s := markOut 1 n (s.put (RED_CP_STAT__STATE n) 6)
  pairsShow (s.when (s.get (slotPair 4) == n) fun s => s.put (slotPair 4) 7)

/-! ## Service actions (R416, R417) -/

/-- A step of the running service action, and of the descriptor that waits for it. -/
def svcStep (s : State) : State :=
  let s := s.bump RED_SVC_STAT__STEPS
  match s.red.svcCtx with
  | some c => stepDone c 1 s
  | none => s

/-- The completion code of a RESULT (R417). -/
def svcCode (r : Nat) : Nat := [0, 3, 4, 4, 8, 6].getD r 0

/-- A unit that UNIT_OUT and REJOIN name exists. -/
def unitOk (ut unit : Nat) : Bool :=
  (ut == 1 && unit < 5) || ((ut == 2 || ut == 8) && unit < 2) || (ut == 3 && unit / 16 < 2 && unit % 16 < 9) || (ut == 7 && unit < 36) ||
    (ut == 12 && unit < 128)

/-- The code and unit of a service action exist. -/
def svcOk (code ut unit : Nat) : Bool :=
  match code with
  | 1 => unitOk ut unit
  | 2 => unitOk ut unit || (ut == 9 && unit == 0)
  | 3 => (ut != 12 && unitOk ut unit) || (ut == 9 && unit == 0) || (ut == 4 && unit < 8192) || (ut == 5 && unit < 512) || (ut == 6 && unit < 144)
  | 4 => unit ≤ 3
  | 5 => unit < 4
  | 6 => true
  | _ => false

/-- The first operand of SERVICE that its code's table refuses: the code, the unit type or the unit (04 R104). -/
def svcBad (code ut : Nat) : Nat := if code = 0 ∨ 6 < code then 1 else if code ≤ 3 ∧ !svcOk code ut 0 then 2 else 3

/-- A unit in step 2 of its rejoin shows that it rejoins, or that it is out of service again (R290, R411, R419). -/
def rejoinShow (ut unit : Nat) (shadow : Bool) (s : State) : State :=
  if ut = 1 then
    if shadow then pairsShow (s.put (RED_CP_STAT__STATE unit) 3)
    else pairsShow (s.when (s.cpState unit == 3) fun s => s.put (RED_CP_STAT__STATE unit) 7)
  else if ut = 2 then
    if shadow then s.put (RED_CE_STAT__STATE unit) 3
    else s.when (s.get (RED_CE_STAT__STATE unit) == 3) fun s => s.put (RED_CE_STAT__STATE unit) 1
  else if ut = 7 then
    (if shadow then s.put (fpStat unit) 3 else s.when (s.get (fpStat unit) == 3) fun s => s.put (fpStat unit) 2).putB FM_STATUS__SHADOW shadow
  else s

/-- The service action ends; a unit in shadow is out of service again. The stop cause of a skipped rotation is open: no stop has come. -/
def svcEnd (r : Nat) (s : State) : State :=
  let s := (s.put RED_SVC_STAT__RESULT r).putB RED_SVC_STAT__BUSY false
  let s := match s.red.svc with
    | some (2, ut, unit) => rejoinShow ut unit false s
    | _ => s
  let s := match s.red.svcCtx with
    | some c =>
      if r = 5 then descDone c 6 (s.fresh.1 % 256) s.fresh.2
      else descDone c (svcCode r) (match r, s.red.svc with | 1, some (k, ut, _) => svcBad k ut | _, _ => r) s
    | none => s
  s.upRed fun q => { q with svc := none, svcCtx := none, svcRot := false, shadow := 0 }

/-- A write of RED_SVC while no action runs. -/
def svcStart (code ut unit : Nat) (ctx : Option Nat) (s : State) : State :=
  let s := (s.put RED_SVC_STAT__STEPS 0).put RED_SVC_STAT__RESULT 0
  let s := s.upRed fun r => { r with svc := some (code, ut, unit), svcCtx := ctx }
  if svcOk code ut unit then s.putB RED_SVC_STAT__BUSY true else svcEnd 1 s

/-- The unit that the running action of a code names. -/
def State.svcUnit (s : State) (code : Nat) : Option (Nat × Nat) :=
  match s.red.svc with
  | some (k, ut, unit) => if k = code then some (ut, unit) else none
  | none => none

/-! ## Units that return (R411, R412) -/

/-- Usable lanes of an engine, and whether its spare is free. -/
def State.lanesOk (s : State) (e : Nat) : Nat := ((List.range 9).filter fun l => nbit (s.get (RED_CE_STAT__LANE_OK e)) l).length
def State.spareFree (s : State) (e : Nat) : Bool := nbit (s.get (RED_CE_STAT__LANE_OK e)) 8 && s.get (RED_CE_STAT__SPARE_FOR e) == 15

/-- Channels that stopped for want of a converter take the reserves there are (R408; log 57). -/
def convServe (s : State) : State :=
  s.each s.red.noConv fun k s =>
    match (List.range 36).find? fun p => s.get (fpStat p) == 1 with
    | some p => s.when (s.on (FM_CH_CFG__EN k)) (xbarMove k p)
    | none => s

/-- A unit takes its work back, or becomes the spare or reserve. -/
def unitServe (ut unit : Nat) (s : State) : State :=
  let s := s.upRed fun r => { r with outs := r.outs.filter fun u => u != (ut, unit) }
  if ut = 1 then pairReserve unit s
  else if ut = 2 then s.put (RED_CE_STAT__STATE unit) 0
  else if ut = 3 then
    let e := unit / 16
    let s := s.putBit (RED_CE_STAT__LANE_OK e) (unit % 16) true
    let s := s.when (s.get (RED_CE_STAT__SPARE_FOR e) == unit % 16) fun s => s.put (RED_CE_STAT__SPARE_FOR e) 15
    s.put (RED_CE_STAT__LANES e) (min 8 (s.lanesOk e))
  else if ut = 7 then
    let s := s.put (fpStat unit) 1
    let s := match s.red.homes.find? fun h => h.1 == unit with
      | some (_, k) =>
        let s := s.upRed fun r => { r with homes := r.homes.filter fun h => h.1 != unit }
        s.when (s.on (FM_CH_CFG__EN k) || s.get (FM_CH_STATUS__FP k) == unit) (xbarMove k unit)
      | none => s
    convServe s
  else if ut = 8 then pmPower (pmStatus (s.put (pxState unit) 0))
  else if ut = 9 then dmaReturn (s.upRed fun r => { r with unus := r.unus.filter fun u => u != (9, 0) })
  else
    let s := s.putBit (winCopies (unit / 4) (nbit unit 1)) (unit % 2) true
    s.each (List.range 8) updateSafHold

/-- Step 3 of R411: the unit is back, and the records that waited for it resolve (R414). -/
def unitReturn (ut unit : Nat) (s : State) : State := unitBack ut unit (unitServe ut unit s)

/-- DETAIL of RED_REJOIN (R418). -/
def rejoinDetail (ut unit step done : Nat) : Nat := ut + step * 2 ^ 4 + done * 2 ^ 6 + unit * 2 ^ 16

/-- The rejoin under way ends with its unit back at work; a unit that takes over in step 2 has that step behind it (R412). -/
def rejoinEnd (ut unit : Nat) (s : State) : State :=
  let s := s.when (s.get RED_SVC_STAT__STEPS == 1) svcStep
  svcEnd 0 (svcStep (redEvent 4 0 (rejoinDetail ut unit 3 1) (unitReturn ut unit s)))

/-- Unit r is rejoining, its slice has passed, and `unit` serves in its place (R412). -/
def State.standsFor (s : State) (ut unit r : Nat) : Bool :=
  if ut = 2 ∨ ut = 8 then r == 1 - unit
  else if ut = 3 then unit % 16 == 8 && unit / 16 == r / 16 && s.get (RED_CE_STAT__SPARE_FOR (r / 16)) == r % 16
  else if ut = 7 then s.red.homes.any fun h => h.1 == r && s.get (FM_CH_STATUS__FP h.2) == unit
  else if ut = 12 then r == unit / 2 * 2 + (1 - unit % 2)
  else false

/-- A unit that stands in for one in step 2 of its rejoin fails: that one takes over at once (R412). -/
def rejoinTake (ut unit : Nat) (s : State) : State :=
  match s.svcUnit 2 with
  | some (k, r) => s.when (k == ut && s.on RED_SVC_STAT__STEPS && s.standsFor ut unit r) (rejoinEnd ut r)
  | none => s

/-! ## Takeovers (R396, R412) -/

/-- A reserve pair is named that no takeover has taken. -/
def State.reserveFree (s : State) : Bool := s.get (slotPair 4) != 7 && s.red.takes.isEmpty

/-- A takeover of a slot is decided; a pair in step 2 of its rejoin serves as the reserve (R412), and with none left for it the
device goes to device-SAFE. -/
def takeoverDue (n w : Nat) (s : State) : State :=
  let s := s.upCp n fun c => { c with rs := 0, first := false }
  let s := match s.svcUnit 2 with
    | some (1, r) => s.when (!s.reserveFree && s.on RED_SVC_STAT__STEPS) (rejoinEnd 1 r)
    | _ => s
  if !s.reserveFree then faultRecord 0x03 5 1 0 n s
  else s.upRed fun r => { r with takes := r.takes ++ [(w, false)] }

/-- A takeover of the slot is decided and not yet done. -/
def State.takeDue (s : State) (w : Nat) : Bool := s.red.takes.any fun t => t.1 == w

/-- The pair executes its slot. -/
def State.pairRuns (s : State) (n : Nat) : Bool :=
  s.coreClk && !s.sys.entry && s.sys.released && !s.sys.pairsReset && s.cpState n == 0 && match s.slotOf n with | some w => !s.takeDue w | none => false

/-- Restart of a pair begins: its copies are held and its recovery test is due. -/
def restartBegin (n : Nat) (s : State) : State :=
  (pairDrop n (s.put (RED_CP_STAT__STATE n) 4)).upCp n fun c => { c with rs := 1, first := false }

/-- A restart of the pair is open: from the mismatch to the first full window after it. -/
def State.restartOpen (s : State) (n : Nat) : Bool :=
  (s.cp n).rs != 0 || ((s.cp n).first && (s.cp n).heirOf == n)

/-- A mismatch of the pair can come: it executes its slot, or restarts. -/
def State.mayMismatch (s : State) (n : Nat) : Bool :=
  match s.slotOf n with
  | none => false
  | some w => s.pairRuns n || (s.cpState n == 4 && s.sys.released && !s.sys.pairsReset && !s.takeDue w)

/-- The class of a mismatch (R394): 3 where it leads to a takeover, else 2. -/
def State.mismatchClass (s : State) (n : Nat) : Nat :=
  let esc := max 1 (s.get RED_CFG__ESC_WINDOW) * 200000
  let late := match (s.cp n).lastEnd with | some t => decide (s.time ≤ t + esc) | none => false
  if s.restartOpen n || late || 3 ≤ s.get (RED_CP_COUNTS__DISPLACED n) then 3 else 2

/-- A pair mismatches. -/
def pairMismatch (n : Nat) (s : State) : State :=
  match s.slotOf n with
  | none => s
  | some w =>
    if !s.mayMismatch n then s
    else
      let cls := s.mismatchClass n
      let worn := 3 ≤ s.get (RED_CP_COUNTS__DISPLACED n)
      let s := s.bump (RED_CP_COUNTS__MISMATCH n)
      let s := redEvent 0 n (s.get (RED_CP_COUNTS__MISMATCH n)) (pairDrop n s)
      let s := faultRecord 0x01 cls 1 0 n s
      let s := s.when worn (pairUnusable n)
      if s.on RED_STATUS__DSAFE then s else if cls = 3 then takeoverDue n w s else restartBegin n s

/-- WINDOW_MISMATCH. -/
def execWindowMismatch (n : Fin 5) (s : State) : Host.Outcome State Fault Refusal := .next (pairMismatch n.val s)

/-- RECOVERY_TEST_DONE. -/
def execRecoveryTestDone (n : Fin 5) (pass : Bool) (s : State) : Host.Outcome State Fault Refusal :=
  .next <|
    let n := n.val
    if s.cpState n ≠ 4 ∨ (s.cp n).rs ≠ 1 ∨ s.sys.pairsReset then s
    else if pass then (coreClear n s).upCp n fun c => { c with rs := 2 }
    else
      let s := pairUnusable n (faultRecord 0x02 3 1 0 n s)
      match s.slotOf n with
      | some w => if s.on RED_STATUS__DSAFE then s else takeoverDue n w s
      | none => if s.red.takes ≠ [] ∧ s.get (slotPair 4) = 7 then faultRecord 0x03 5 1 0 n s else s

/-- A debug halt of a pair (R399): its signature comparison is suspended, and the axes of its slot go to SAFE. -/
def pairHalt (n : Nat) (s : State) : State :=
  let s := coreRun n s
  let s := (s.upCp n fun c => { c with prev := s.cpState n, haltReq := false, log := [], cmderr := 0, chk := c.regs }).put (RED_CP_STAT__STATE n) 5
  let s := redEvent 9 n 1 s
  let axes := s.recAxes 1 n
  let s := faultRecord 0x0E (if axes = [] then 0 else 4) 1 0 n s
  flSettle (s.each axes fun a s => s.when (s.axLive a) (enterSafe a 1 false))

/-- A debug halt that waited for the end of a restart or takeover. -/
def haltDue (n : Nat) (s : State) : State := s.when (s.cp n).haltReq (pairHalt n)

/-- The debugger is detached: halt requests that still wait are gone, and the debug module is reset. DESIGN CHOICE (log 61): a halted pair
stays halted, until a debugger resumes it or a reset. -/
def debugDetach (s : State) : State :=
  ((s.putB RED_STATUS__DEBUG false).each (List.range 5) fun n s => s.upCp n fun c => { c with haltReq := false }).upRed fun r =>
    { r with hartsel := 0, progbuf := [] }

/-- A debugger is attached to an unlocked port, and the harts are in its scope (R399, 14 R440, R441). -/
def State.debugOn (s : State) : Bool := s.on RED_STATUS__DEBUG && s.on VLT_DBG_STAT__UNLOCKED && nbit (s.get VLT_DBG_STAT__SCOPE) 0

/-- PAIR_RESTART: the restoration of t3 and t4 of R395. A pair without a slot has nothing to restore. -/
def execPairRestart (n : Fin 5) (newestOk otherOk : Bool) (s : State) : Host.Outcome State Fault Refusal :=
  .next <|
    let n := n.val
    if s.cpState n ≠ 4 ∨ (s.cp n).rs ≠ 2 ∨ s.sys.pairsReset then s
    else
      let s := (cacheWays n s).bump (RED_CP_COUNTS__RESTART n)
      match s.slotOf n with
      | none => haltDue n ((s.put (RED_CP_STAT__STATE n) 1).upCp n fun c => { c with rs := 0, first := true, heirOf := n })
      | some w =>
        match ckptRestore w n newestOk otherOk s with
        | (s, false) => s
        | (s, true) =>
          let s := pairResume n w n s
          haltDue n (redEvent 1 n (s.red.krst.getD w 0) s)

/-- TAKEOVER (R396). The displaced pair's PAIR slice is then due, unless it is unusable or taken out. -/
def execTakeover (w : Fin 4) (newestOk otherOk : Bool) (s : State) : Host.Outcome State Fault Refusal :=
  .next <|
    let w := w.val
    let new := s.get (slotPair 4)
    let old := s.get (slotPair w)
    if !s.takeDue w || new == 7 || s.cpState new != 1 || s.sys.pairsReset then s
    else
      let rot := s.red.takes.any fun t => t == (w, true)
      let out := s.red.outs.contains (1, old)
      match ckptRestore w new newestOk otherOk s with
      | (s, false) => s
      | (s, true) =>
        let s := s.upRed fun r => { r with takes := r.takes.filter fun t => t.1 != w }
        let s := s.when (!rot) fun s => s.bump (RED_CP_COUNTS__DISPLACED old)
        let s := pairDrop old ((pairHold old none s).putB (RED_CP_STAT__YIELD_REQ old) false)
        let s := s.when (s.cpState old != 6) fun s => s.put (RED_CP_STAT__STATE old) (if out then 7 else 2)
        let s := pairHold new (some w) ((s.put (slotPair w) new).put (slotPair 4) 7)
        let s := pairsShow (pairResume new w old s)
        let s := redEvent 2 w (old + new * 16) s
        let s := s.when (rot && s.red.rotReq == some w) fun s =>
          let s := s.upRed fun r => { r with rotReq := none, rot := (w + 1) % 4 }
          let s := redEvent 12 w 1 s
          s.when s.red.svcRot fun s => svcEnd 0 (svcStep s)
        let s := s.when (out && s.svcUnit 1 == some (1, old)) fun s => svcEnd 0 (svcStep s)
        haltDue new s

/-! ## Rotation (R405) -/

/-- A YIELD write: the reserve takes the slot from here. -/
def yieldTake (n : Nat) (s : State) : State :=
  match s.slotOf n with
  | none => s
  | some w =>
    if !s.reserveFree then s
    else
      let s := (s.putB (RED_CP_STAT__YIELD_REQ n) false).upRed fun r => { r with takes := r.takes ++ [(w, true)] }
      s.when (s.red.svcRot && s.red.rotReq == some w) svcStep

/-- Ask the pair of a slot to yield. -/
def rotateAsk (w : Nat) (svc : Bool) (s : State) : State :=
  (s.putB (RED_CP_STAT__YIELD_REQ (s.get (slotPair w))) true).upRed fun r => { r with rotReq := some w, svcRot := svc }

/-- ROTATION: the next slot in turn that a pair holds. -/
def execRotation (s : State) : Host.Outcome State Fault Refusal :=
  .next <|
    if s.get BIST_CFG__PERIOD = 0 ∨ !nbit (s.get BIST_CFG__KIND_EN) 0 ∨ s.red.rotReq.isSome ∨ !s.reserveFree ∨ !s.sys.released then s
    else
      match ((List.range 4).map fun k => (s.red.rot + k) % 4).find? fun w => s.get (slotPair w) != 7 with
      | some w => rotateAsk w false s
      | none => s

/-- ROTATION_GRACE_EXPIRY. -/
def execRotationGraceExpiry (s : State) : Host.Outcome State Fault Refusal :=
  .next <|
    match s.red.rotReq with
    | none => s
    | some w =>
      if s.takeDue w then s
      else
        let s := (s.putB (RED_CP_STAT__YIELD_REQ (s.get (slotPair w))) false).upRed fun r => { r with rotReq := none }
        let s := redEvent 12 w 0 s
        s.when s.red.svcRot (svcEnd 5)

/-- KGRP opens a commit group, or closes it (R390). -/
def kgrpPut (n : Nat) (v : Bool) (s : State) : State :=
  s.upCp n fun c => if v then { c with kgrp := true } else { c with kgrp := false, buf := c.buf ++ c.grp, grp := [] }

/-- KGRP_WRITE (R390). -/
def execKgrpWrite (n : Fin 5) (v : Bool) (s : State) : Host.Outcome State Fault Refusal :=
  .next <|
    if !s.pairRuns n.val then s else kgrpPut n.val v s

/-! ## Debug (R399 to R401) -/

/-- DEBUGGER_ATTACH: the port is usable once it is unlocked. -/
def execDebuggerAttach (on : Bool) (s : State) : Host.Outcome State Fault Refusal :=
  .next (if !on then debugDetach s else s.when (s.on VLT_DBG_STAT__UNLOCKED) fun s => s.putB RED_STATUS__DEBUG true)

/-- The pair takes part in a takeover that is decided. -/
def State.inTakeover (s : State) (n : Nat) : Bool :=
  match s.slotOf n with
  | some w => s.takeDue w
  | none => !s.red.takes.isEmpty && s.get (slotPair 4) == n

/-- DEBUG_HALT, within the scope of the unlock (14 R441). -/
def execDebugHalt (n : Fin 5) (s : State) : Host.Outcome State Fault Refusal :=
  .next <|
    let n := n.val
    if !s.debugOn || s.sys.pairsReset then s
    else if s.cpState n = 4 ∨ s.inTakeover n then
      s.upCp n fun c => { c with haltReq := true }
    else if s.cpState n ≤ 1 then pairHalt n s
    else s

/-- A write of a held CSR, or of pc as dpc, among a copy's registers. -/
def regsCsr (k : Nat) (v : Word) (l : List Word) : List Word :=
  if k = 0x7B1 then listPut coreWords 0 l 31 v
  else match csrHeld.findIdx? (· == k) with
    | some i => listPut coreWords 0 l (32 + i) v
    | none => l

/-- What a command of the replay log does to a copy's registers; a program leaves open values. -/
def DbgCmd.onRegs (x : DbgCmd × Nat) (l : List Word) : List Word :=
  match x.1 with
  | .writeReg r v => if r.val = 0 then l else listPut coreWords 0 l (r.val - 1) v
  | .writeCsr k v => regsCsr k.toNat v l
  | .prog _ => openRegs x.2
  | _ => l

/-- DEBUG_RESUME: the replay log runs on the checker copy, its outputs discarded, and the registers of the two copies are compared; the
operand says whether the copies agreed in what the model does not hold. -/
def execDebugResume (n : Fin 5) (equal : Bool) (s : State) : Host.Outcome State Fault Refusal :=
  .next <|
    let n := n.val
    if s.cpState n ≠ 5 ∨ !s.debugOn then s
    else
      let same := equal && (s.cp n).log.foldl (fun l x => DbgCmd.onRegs x l) (s.cp n).chk == (s.cp n).regs
      let s := (s.put (RED_CP_STAT__STATE n) (s.cp n).prev).upCp n fun c => { c with log := [], chk := [], fed := [] }
      let s := redEvent 9 n 0 (s.upRed fun r => { r with hartsel := n })
      if same then s
      else
        let s := faultRecord 0x0F 2 1 0 n (redEvent 0 n (s.get (RED_CP_COUNTS__MISMATCH n)) s)
        if s.on RED_STATUS__DSAFE then s else restartBegin n s

/-! ## Units set aside (R402, R403, R408) -/

/-- An engine leaves service; with neither in service every axis in CATCH, RUN or HOLD enters SAFE (06 R168). -/
def engineOut (e : Nat) (s : State) : State :=
  let s := s.put (RED_CE_STAT__STATE e) 1
  if s.get (RED_CE_STAT__STATE (1 - e)) = 0 then s
  else s.each (List.range 8) fun a s => s.when (s.axLive a) (enterSafe a 12 false)

/-- A lane leaves service: the spare takes its position, or the engine runs with the lanes left; with fewer than six the
engine leaves service. -/
def laneOut (e l : Nat) (s : State) : State :=
  let spare := s.spareFree e
  let s := s.putBit (RED_CE_STAT__LANE_OK e) l false
  let s := if l = 8 then s.put (RED_CE_STAT__SPARE_FOR e) 15 else s.when spare fun s => s.put (RED_CE_STAT__SPARE_FOR e) l
  if s.lanesOk e < 6 then s.when (s.get (RED_CE_STAT__STATE e) == 0) fun s => engineOut e (rejoinTake 2 e s) else s.put (RED_CE_STAT__LANES e) (min 8 (s.lanesOk e))

/-- An axis in COAST, CATCH, RUN or HOLD names a fast channel as a source. -/
def State.axNames (s : State) (a k : Nat) : Bool :=
  1 ≤ s.axState a && s.axState a ≤ 4 &&
    ((List.range (s.ny a (s.get (AX_CFG__ACTIVE_SET a)))).any (fun j => s.ySrc a j == k) ||
     (s.tableMode a && ([TM_ISRC__IA a, TM_ISRC__IB a, TM_ISRC__IC a, TM_ISRC__VDC a].any (fun f => s.get f == k) ||
       (s.on (TM_VSRC__EN a) && [TM_VSRC__VA a, TM_VSRC__VB a, TM_VSRC__VC a].any (fun f => s.get f == k)))))

/-- A channel stops converting. -/
def channelStop (k : Nat) (s : State) : State :=
  convShow ((s.putB (FM_CH_DATA__VALID k) false).upRed fun r => { r with noConv := r.noConv ++ [k] })

/-- An enabled channel is given a converter in place of `fp` (R408): a reserve, or that of the highest-numbered channel that no
axis names. -/
def fpGive (k fp : Nat) (s : State) : State :=
  match (List.range 36).find? fun p => s.get (fpStat p) == 1 with
  | some p => xbarMove k p s
  | none =>
    match ((List.range 32).filter fun j => s.on (FM_CH_CFG__EN j) && (j == k || s.fcConv j) &&
        !(List.range 8).any fun a => s.axNames a j).getLast? with
    | some j => if j = k then channelStop k s else xbarMove k (s.get (FM_CH_STATUS__FP j)) (channelStop j s)
    | none =>
      let s := faultRecord 0x0A 1 7 0 fp (channelStop k s)
      s.each (List.range 8) fun a s => s.when (s.axNames a k) (enterSafe a 1 false)

/-- A fast converter leaves service. A channel that is not enabled is given another when it is (R290). -/
def fpOut (fp : Nat) (s : State) : State :=
  let ch := (List.range 32).find? fun k => s.get (FM_CH_STATUS__FP k) == fp && !s.red.noConv.contains k &&
    (s.on (FM_CH_CFG__EN k) || !(List.range 32).any fun j => s.on (FM_CH_CFG__EN j) && s.get (FM_CH_STATUS__FP j) == fp)
  let s := s.put (fpStat fp) 2
  match ch with
  | none => s
  | some k =>
    let s := s.upRed fun r => { r with homes := (r.homes.filter fun h => h.1 != fp) ++ [(fp, k)] }
    s.when (s.on (FM_CH_CFG__EN k)) (fpGive k fp)

/-- FM_CHk_CFG.EN has been written; `was` is what it was. A channel that is disabled converts no more, and one that is enabled
is given a converter where its own serves another or is not in service (R290, R408). -/
def fcEnable (k : Nat) (was : Bool) (s : State) : State :=
  if !s.on (FM_CH_CFG__EN k) then
    let s := (s.putB (FM_CH_DATA__VALID k) false).upFc k fun f => { f with due := 0 }
    convShow (s.upRed fun r => { r with noConv := r.noConv.filter (· != k) })
  else if was then s
  else
    let fp := s.get (FM_CH_STATUS__FP k)
    let used := (List.range 32).any fun j => j != k && s.fcConv j && s.get (FM_CH_STATUS__FP j) == fp
    if s.get (fpStat fp) = 1 then xbarMove k fp s
    else s.when (s.get (fpStat fp) != 0 || used) (fpGive k fp)

/-- A comparator copy leaves service. -/
def copyOut (u : Nat) (s : State) : State :=
  let k := u / 4
  let wb := nbit u 1
  copyLost k wb (s.putBit (winCopies k wb) (u % 2) false)

/-- What serves in place of a unit takes over. -/
def unitLeave (ut unit : Nat) (s : State) : State :=
  if ut = 1 then
    pairsShow ((s.put (RED_CP_STAT__STATE unit) 7).when (s.get (slotPair 4) == unit) fun s => s.put (slotPair 4) 7)
  else if ut = 2 then engineOut unit s
  else if ut = 3 then laneOut (unit / 16) (unit % 16) s
  else if ut = 7 then fpOut unit s
  else if ut = 8 then pmPower (pmStatus (s.put (pxState unit) 3))
  else if ut = 9 then dmaSetAside s
  else if ut = 12 then copyOut unit s
  else s

/-- A faulty unit is set aside. -/
def setAside (ut unit : Nat) (s : State) : State :=
  if ut = 1 then (if s.slotOf unit = none then pairUnusable unit s else s)
  else markOut ut unit (unitLeave ut unit (rejoinTake ut unit s))

/-- MAC_RESIDUE_FAIL (R402). -/
def execMacResidueFail (e : Fin 2) (lane : Fin 9) (s : State) : Host.Outcome State Fault Refusal :=
  .next <|
    if s.get (RED_CE_STAT__STATE e.val) ≠ 0 ∨ !nbit (s.get (RED_CE_STAT__LANE_OK e.val)) lane.val then s
    else
      let u := 16 * e.val + lane.val
      setAside 3 u (unitRecord 0x08 3 0 u s)

/-- ENGINE_SIG_FAIL (R403). -/
def execEngineSigFail (e : Fin 2) (s : State) : Host.Outcome State Fault Refusal :=
  .next <|
    if s.get (RED_CE_STAT__STATE e.val) ≠ 0 then s else setAside 2 e.val (unitRecord 0x09 2 0 e.val s)

/-! ## Self-test slices (R404, R406) -/

/-- The cover of a slice is in service; kinds are numbered as unit types (R404). -/
def State.covered (s : State) (kind unit : Nat) : Bool :=
  match kind with
  | 1 => unit < 5 && (s.cpState unit == 1 || s.cpState unit == 2) && !s.on (RED_CP_STAT__HAS_SLOT unit) &&
      (s.get (slotPair 4) != unit || s.red.takes.isEmpty)
  | 2 => unit < 2 && s.get (RED_CE_STAT__STATE (1 - unit)) == 0 && s.get (RED_CE_STAT__STATE unit) == 0
  | 3 => unit / 16 < 2 && unit % 16 < 9 && s.spareFree (unit / 16) && nbit (s.get (RED_CE_STAT__LANE_OK (unit / 16))) (unit % 16)
  | 4 => unit < 8192
  | 5 => unit < 512
  | 6 => unit < 144
  | 7 => unit < 36 && (s.get (fpStat unit) == 1 || (s.get (fpStat unit) == 0 && (List.range 36).any fun p => s.get (fpStat p) == 1))
  | 8 => unit < 2 && s.get (pxState unit) != 3 && s.get (pxState (1 - unit)) != 3
  | 9 => unit == 0 && !s.on RED_STATUS__DMA_OUT && (List.range 16).all fun n => s.dmaState n == 0 || s.dmaState n == 3
  | _ => false

/-- A failed slice: its event and counts. -/
def bistNote (kind unit : Nat) (s : State) : State :=
  let s := (s.bump BIST_COUNTS__FAILS).put BIST_LAST_FAIL__KIND kind
  let s := (s.putB BIST_LAST_FAIL__VALID true).put BIST_LAST_FAIL__UNIT unit
  redEvent 10 0 (kind + unit * 2 ^ 16) s

/-- A failed slice and its record; a row's record stays open until it is repaired. -/
def bistFail (kind unit : Nat) (s : State) : State :=
  let s := bistNote kind unit s
  if 4 ≤ kind ∧ kind ≤ 6 then faultRecord 0x07 1 kind kind unit s else unitRecord 0x07 kind kind unit s

/-- A cache of the pair has no ways left, which makes the pair unusable (R408). -/
def State.cacheBare (s : State) (n : Nat) : Bool := s.get (RED_CP_STAT__I_WAYS n) == 0 || s.get (RED_CP_STAT__D_WAYS n) == 0

/-- A cache way is found faulty (R404, R408). -/
def wayFail (u : Nat) (s : State) : State :=
  cacheWays (u / 16) (markOut 0 u (unitRecord 0x07 0 1 u (bistNote 1 (u / 16) s)))

/-- A slice of a covered unit ends; `way` is a cache way that a PAIR slice finds faulty. A PAIR slice clears the copies first (R407). -/
def sliceEnd (kind unit : Nat) (pass : Bool) (way : Option (Fin 8)) (s : State) : State :=
  let s := s.when (kind == 1) fun s =>
    match way with
    | some v => wayFail (16 * unit + v.val) (coreClear unit s)
    | none => cacheWays unit (coreClear unit s)
  let bare := kind == 1 && s.cacheBare unit
  if !pass then
    let s := bistFail kind unit s
    if 4 ≤ kind ∧ kind ≤ 6 then s else setAside kind unit s
  else if bare then pairUnusable unit s
  else s.when (kind == 1 && s.cpState unit == 2) (pairReserve unit)

/-- A slice of the kind can run on the unit: the scheduler's, or that of a displaced pair. -/
def State.sliceDue (s : State) (kind unit : Nat) : Bool :=
  (s.get BIST_CFG__PERIOD != 0 && nbit (s.get BIST_CFG__KIND_EN) (kind - 1)) || (kind == 1 && s.cpState unit == 2)

/-- BIST_SLICE. A displaced pair's PAIR slice runs whatever BIST_CFG holds (R396). -/
def execBistSlice (kind : Fin 10) (unit : BitVec 16) (pass last : Bool) (way : Option (Fin 8)) (s : State) :
    Host.Outcome State Fault Refusal :=
  .next <|
    let k := kind.val
    let u := unit.toNat
    if !s.sliceDue k u || !s.covered k u then s
    else
      let s := sliceEnd k u pass way s
      s.when last fun s =>
        let s := s.upRed fun r => { r with ces := [] }
        let s := s.put BIST_COUNTS__CYCLES (s.get BIST_COUNTS__CYCLES + 1)
        redEvent 11 0 (s.get BIST_COUNTS__CYCLES) s

/-- A unit that a kind names (R404). -/
def bistUnit (kind unit : Nat) : Bool :=
  (kind == 4 && unit < 8192) || (kind == 5 && unit < 512) || (kind == 6 && unit < 144) || (kind == 9 && unit == 0) || unitOk kind unit

/-- A slice can run on some unit: of the scheduler, of a displaced pair (R396) or of a service action. -/
def State.sliceAny (s : State) : Bool :=
  (s.get BIST_CFG__PERIOD != 0 && s.get BIST_CFG__KIND_EN != 0) || (List.range 5).any (fun n => s.cpState n == 2) ||
    match s.red.svc with
    | some (code, k, u) => (code == 3 || (code == 2 && !s.on RED_SVC_STAT__STEPS)) && 1 ≤ k && k ≤ 9 && bistUnit k u
    | none => false

/-- BIST_SLICE_ABANDONED: a slice that can run ends as its cover is needed elsewhere or leaves service; its unit is as it was, so that
which one it is makes no difference. -/
def execBistSliceAbandoned (s : State) : Host.Outcome State Fault Refusal :=
  .next (s.when (s.sys.released && s.sliceAny) fun s => s.bump BIST_COUNTS__ABANDONED)

/-! ## Row repair (R409, R410) -/

/-- Free spares of an array, 0 SRAM, 1 escrow, 2 coefficient. -/
def spareFree (array : Nat) : FieldRef :=
  if array = 0 then RED_ARRAYS__SRAM_FREE else if array = 1 then RED_ARRAYS__ESC_FREE else RED_ARRAYS__COEF_FREE

/-- The repair-record words of an array: the first and the count. -/
def spareWords (array : Nat) : Nat × Nat := if array = 0 then (64, 64) else if array = 1 then (128, 16) else (144, 8)

/-- An uncorrectable row is repaired with its spare set to 0; a coefficient set's banks lie in order in nine rows, and 64 rows hold a copy
of the escrow. A row of the staging area has been written then (14 R434). -/
def rowZero (array row : Nat) (s : State) : State :=
  if array = 0 then
    (s.sramWrWords (512 * row) (List.replicate 128 0)).when (decide (0x300000 ≤ 512 * row)) fun s => s.putB VLT_STG_STAT__VERIFIED false
  else if array = 1 then
    let l := sget (fun _ => []) s.escrow (row / 64)
    { s with escrow := sset (fun _ => []) s.escrow (row / 64) (l.mapIdx fun i v => if i / 128 = row % 64 then 0 else v) }
  else if array = 2 then
    let set := row / 9
    s.each (List.range 8) fun b s =>
      s.each (List.range (bankSize b)) fun w s =>
        if (bankBase b + w) / 64 = row % 9 then
          { s with banks := sset (fun _ => (0 : Word)) s.banks (bankKey (set / 2) (set % 2 * 8 + b) w) 0 }
        else s
  else s

/-- The free spares as the repair records show them. -/
def arraysShow (s : State) : State :=
  let s := s.each [0, 1, 2] fun k s =>
    let r := spareWords k
    s.put (spareFree k) ((List.range r.2).filter fun i => s.vaultRd (r.1 + i) == 0 && !s.vqHas (r.1 + i)).length
  s.put RED_ARRAYS__FUSE_FREE (48 - s.red.fuse.length)

/-- The row's repair: a spare takes it, or none is left. `zero`: with its spare set to 0. -/
def rowRepair (k row : Nat) (zero : Bool) (s : State) : State :=
  let r := spareWords k
  match (List.range r.2).find? fun i => s.vaultRd (r.1 + i) == 0 && !s.vqHas (r.1 + i) with
  | none => faultRecord 0x0C 1 (k + 4) 0 row s
  | some i =>
    let s := vqPush (r.1 + i) (BitVec.ofNat 32 (k + 1 + row * 4 + i * 2 ^ 16)) none s
    let s := arraysShow (s.when zero (rowZero k row))
    let s := redEvent 5 0 (k + 1 + row * 2 ^ 16) s
    let left := s.get (spareFree k)
    let s := s.when (left == 4) (redEvent 6 0 (k + 1 + left * 2 ^ 8))
    let s := faultRecord 0x0B 0 (k + 4) 0 row s
    flResolve (fun q => q.cls == 1 && q.ut == k + 4 && q.unit == row && q.kind != 0x0C) s

/-- A corrected error of a row is counted, for up to 32 rows in a self-test cycle; answers whether it reaches CE_LIMIT. -/
def ceCount (k row : Nat) (s : State) : State × Bool :=
  let n := ((s.red.ces.find? fun e => e.1 == k && e.2.1 == row).map (·.2.2)).getD 0 + 1
  let rest := s.red.ces.filter fun e => !(e.1 == k && e.2.1 == row)
  if max 1 (s.get RED_LIMITS__CE_LIMIT) ≤ n then (s.upRed fun r => { r with ces := rest }, true)
  else (s.upRed fun r => { r with ces := if 32 ≤ rest.length then r.ces else rest ++ [(k, row, n)] }, false)

/-- The ledger's record of an uncorrectable row, with the class of its effect (R413): a mismatch of the pair that read it, else 1. One
that a reader has left open stands for it. -/
def eccRecord (k row : Nat) (reader : Option Nat) (s : State) : State :=
  match reader with
  | some n =>
    let s := faultRecord 0x04 (s.mismatchClass n) (k + 4) 0 row s
    { s with fl := s.fl.map fun r => if r.kind = 4 ∧ r.ut = k + 4 ∧ r.unit = row ∧ r.st = 0 then { r with via := some n } else r }
  | none => if s.fl.any fun r => r.kind == 4 && r.ut == k + 4 && r.unit == row && r.st == 0 then s else faultRecord 0x04 1 (k + 4) 0 row s

/-- ROW_REPAIR: a row of an array (0 SRAM, 1 escrow, 2 coefficient) for a failed slice (0), a corrected error (1), with which it is
repaired where that reaches CE_LIMIT, or an uncorrectable error (2), with the pair that read it, which then mismatches (R394). -/
def execRowRepair (array : Fin 3) (row : BitVec 14) (cause : Fin 3 × Option (Fin 5)) (s : State) :
    Host.Outcome State Fault Refusal :=
  .next <|
    let k := array.val
    let row := row.toNat
    if [8192, 512, 144].getD k 0 ≤ row then s
    else if cause.1 = 0 then rowRepair k row false s
    else if cause.1 = 1 then
      match ceCount k row s with
      | (s, true) => rowRepair k row false (faultRecord 0x05 1 (k + 4) 0 row s)
      | (s, false) => s
    else
      let n := (cause.2.map Fin.val).filter s.mayMismatch
      let s := rowRepair k row true (eccRecord k row n s)
      match n with
      | some n => if s.on RED_STATUS__DSAFE then s else pairMismatch n s
      | none => s

/-! ## The service rows (R411, R412, R416) -/

/-- A unit is out of service; an engine also for want of lanes (R402). -/
def State.isOut (s : State) (ut unit : Nat) : Bool :=
  s.red.outs.contains (ut, unit) || (ut == 9 && s.on RED_STATUS__DMA_OUT) ||
    (ut == 2 && s.get (RED_CE_STAT__STATE unit) == 1 && !s.red.unus.contains (2, unit))

/-- A stand-in exists, or an engine keeps six lanes. A pair or converter that serves nothing needs none. -/
def State.standsIn (s : State) (ut unit : Nat) : Bool :=
  match ut with
  | 1 => (s.slotOf unit == none && (s.get (slotPair 4) != unit || s.red.takes.isEmpty)) || (s.reserveFree && s.cpState (s.get (slotPair 4)) == 1)
  | 2 => s.get (RED_CE_STAT__STATE (1 - unit)) == 0
  | 3 => unit % 16 == 8 && s.spareFree (unit / 16) || (unit % 16 != 8 && s.spareFree (unit / 16)) || 7 ≤ s.lanesOk (unit / 16)
  | 7 => s.get (fpStat unit) != 0 || (List.range 36).any fun p => s.get (fpStat p) == 1
  | 8 => s.get (pxState (1 - unit)) != 3
  | 12 => nbit (s.get (winCopies (unit / 4) (nbit unit 1))) (1 - unit % 2)
  | _ => false

/-- UNIT_OUT. -/
def execUnitOut (s : State) : Host.Outcome State Fault Refusal :=
  .next <|
    match s.svcUnit 1 with
    | none => s
    | some (ut, unit) =>
      if s.on RED_SVC_STAT__STEPS then s
      else if s.isOut ut unit ∨ s.red.unus.contains (ut, unit) then svcEnd 0 (svcStep (svcStep s))
      else if !s.standsIn ut unit then svcEnd 3 s
      else
        let s := redEvent 3 0 (ut + unit * 2 ^ 16) ((svcStep s).upRed fun r => { r with outs := r.outs ++ [(ut, unit)] })
        match (if ut = 1 then s.slotOf unit else none) with
        | some w => s.upRed fun r => { r with takes := r.takes ++ [(w, false)] }
        | none => svcEnd 0 (svcStep (unitLeave ut unit s))

/-- REJOIN: the unit's slice ends; then samples of its shadow comparison, until REJOIN_SAMPLES have agreed; then it takes its work back. -/
def execRejoin (slicePass : Bool) (shadow : Bool × BitVec 16) (s : State) : Host.Outcome State Fault Refusal :=
  .next <|
    match s.svcUnit 2 with
    | none => s
    | some (ut, unit) =>
      let fail := fun step s => svcEnd 4 (redEvent 4 0 (rejoinDetail ut unit step 0) (unitRecord 0x0D ut 0 unit s))
      if s.get RED_SVC_STAT__STEPS = 0 then
        if !s.isOut ut unit || (s.red.unus.contains (ut, unit) && ut != 9) then svcEnd 2 s
        else
          let s := s.when (ut == 1) (coreClear unit)
          if !slicePass || (ut == 2 && s.lanesOk unit < 6) then fail 0 (s.when (ut != 12) (bistFail ut unit))
          else (rejoinShow ut unit true (svcStep s)).upRed fun r => { r with shadow := 0 }
      else if s.get RED_SVC_STAT__STEPS = 1 then
        if !shadow.1 then fail 1 s
        else
          let n := s.red.shadow + shadow.2.toNat
          let s := s.upRed fun r => { r with shadow := n }
          s.when (max 1 (s.get RED_LIMITS__REJOIN_SAMPLES) ≤ n) svcStep
      else rejoinEnd ut unit s

/-- TEST. -/
def execTest (pass : Bool) (s : State) : Host.Outcome State Fault Refusal :=
  .next <|
    match s.svcUnit 3 with
    | none => s
    | some (kind, unit) =>
      if !s.covered kind unit then svcEnd 3 s
      else svcEnd (if pass then 0 else 4) (svcStep (sliceEnd kind unit pass none s))

/-- FUSE: one record is fused, or none is left. -/
def execFuse (s : State) : Host.Outcome State Fault Refusal :=
  .next <|
    match s.svcUnit 4 with
    | none => s
    | some (_, array) =>
      let idle := (List.range 8).all fun a => s.axState a ≤ 1 || 5 ≤ s.axState a
      if !idle || (List.range 24).any s.legSwitching then svcEnd 2 s
      else
        let rec? := (List.range 88).find? fun i =>
          let v := s.vaultRd (64 + i)
          fieldGet v 0 2 != 0 && fieldGet v 23 1 == 0 && !s.red.fuse.contains i && (array == 0 || fieldGet v 0 2 == array)
        match rec? with
        | none => svcEnd 0 s
        | some i =>
          if 48 ≤ s.red.fuse.length then svcEnd 3 s
          else
            let v := s.vaultRd (64 + i)
            let s := vqPush (64 + i) (fieldSet v 23 1 1) none (s.upRed fun r => { r with fuse := r.fuse ++ [i] })
            svcStep (redEvent 5 0 (fieldGet v 0 2 + 4 + fieldGet v 2 14 * 2 ^ 16) (arraysShow s))

/-- The self-test slice under way, as BIST_STATUS shows it: of a service action, or of a displaced pair (R396, R419). -/
def State.sliceNow (s : State) : Option (Nat × Nat) :=
  match s.red.svc with
  | some (3, ut, unit) => some (ut, unit)
  | some (2, ut, unit) => if s.on RED_SVC_STAT__STEPS ∨ ut = 12 then none else some (ut, unit)
  | _ => ((List.range 5).find? fun n => s.cpState n == 2).map fun n => (1, n)

/-- ROTATE: the rotation of the slot starts, once no other is under way. -/
def execRotate (s : State) : Host.Outcome State Fault Refusal :=
  .next <|
    match s.svcUnit 5 with
    | none => s
    | some (_, w) =>
      if s.red.rotReq.isSome then s
      else if !s.reserveFree then svcEnd 3 s
      else if s.get (slotPair w) = 7 then svcEnd 2 s
      else rotateAsk w true s

/-- FL_CLEAR. -/
def execFlClear (s : State) : Host.Outcome State Fault Refusal :=
  .next <|
    match s.svcUnit 6 with
    | none => s
    | some _ => svcEnd 0 (svcStep (flHead { s with fl := s.fl.filter fun r => r.st != 1 }))

/-! ## Device-SAFE (R415) -/

/-- DEVICE_SAFE: a cause of R57 or R404 outside the records of this file takes the device to device-SAFE. -/
def execDeviceSafe (s : State) : Host.Outcome State Fault Refusal := .next (faultRecord 0x16 5 14 0 0 s)

/-- SEQ_COPY_DISAGREE (R404). -/
def execSeqCopyDisagree (s : State) : Host.Outcome State Fault Refusal := .next (faultRecord 0x15 5 14 0 0 s)

end Sys2Proof.Machine
end

