-- ==== Sys2Proof/Machine/Vault.lean ====
section
/-! DEFINITION. The vault's commits and their effects (14 R421 to R424, 03 R89 to R91), the verification of images (R427 to
R431), staging (R433 to R435), attestation (R436 to R439) and debug unlock (R440, R441). -/

namespace Sys2Proof.Machine

/-! ## Commits (R421 to R424) and their effects -/

def State.upSeam (s : State) (f : SeamS → SeamS) : State := { s with seam := f s.seam }

/-- A seam event with its bit of SEAM_EVENT (R464). -/
def seamEvent (b unit detail : Nat) (s : State) : State := raise (232 + b) unit detail (s.putBit SEAM_EVENT__EVT b true)

/-- ALIGNED changes, with its event (R458). -/
def alignPut (v : Bool) (s : State) : State :=
  let s := s.upSeam fun m => { m with good := 0, bad := 0 }
  if s.on SEAM_STATUS__ALIGNED = v then s else seamEvent 5 0 (b2n v) (s.putB SEAM_STATUS__ALIGNED v)

/-- Alignment ends: the time base runs at its nominal rate. -/
def alignStop (s : State) : State := alignPut false (s.upSys fun y => { y with slew := 0 })

/-- Discovery starts again after a write to SEAM_CFG or to a port's EN; a port trains when it is enabled (15 R445, R465). -/
def seamRestart (s : State) : State :=
  let s := s.each (List.range 3) fun p s =>
    if s.on (SEAM_PORT_CFG__EN p) then (s.when (s.get (SEAM_PORT_STAT__LINK p) == 0 && s.sys.released) fun s => s.put (SEAM_PORT_STAT__LINK p) 1)
    else
      let s := (s.put (SEAM_PORT_STAT__LINK p) 0).putB (SEAM_PORT_STAT__ADMITTED p) false
      if s.on SEAM_STATUS__JOINED && !s.on SEAM_CFG__ROOT && s.get SEAM_STATUS__PARENT == p then alignStop s else s
  s.upSeam fun m => { m with rounds := 0, cand := [], devs := [], last := [], two := false }

/-- A context is disabled by a change of its owner (03 R90). -/
def ctxDisable (c : Nat) (s : State) : State :=
  let s := ((s.putB (HP_CTX_CTRL__EN c) false).put (HP_CTX_STATE__PHASE c) 0)
  s.upCtx c fun x => { above := x.above }

/-- Copy A of a word verifies in a commit, and copy B too or not; the code of a copy that does not verify is not good, and what it
holds is open. -/
def vaultDone (w : Nat) (v : Word) (b : Bool) (s : State) : State :=
  if b then s.vaultWr w v else s.fresh.2.vaultSet w { a := v, b := BitVec.ofNat 32 s.fresh.1, bBad := true }

/-- What a committed change of the ownership table or the steward does (03 R89 to R91). -/
def ownEffect (b : Bool) (c : VCommit) (changed : List Nat) (dmas : List Nat) (s : State) : State :=
  let gen := s.vaultRd 152 + 1
  let s := ((vaultDone 152 gen b s).wr HP_OWN_GEN gen).put HP_OWN_STATUS__LAST_REFUSE 0
  if c.word = 160 then
    let s := s.when (s.get HP_STEWARD__XFER_TARGET == s.get HP_STEWARD__STEWARD) fun s => s.putB HP_STEWARD__XFER_PENDING false
    raiseFree 8 0 (s.putB HP_EVENT__STEWARD_CHANGED true)
  else
    let s := (s.each changed ctxDisable).each dmas dmaOwnerChange
    raiseFree 7 0 (s.putB HP_EVENT__OWN_CHANGED true)

/-- DMA channels whose owner a commit changes. -/
def State.dmaChanges (s : State) (c : VCommit) : List Nat :=
  if c.word = 162 ∨ c.word = 163 then
    ((List.range 8).filter fun k => fieldGet c.value (4 * k) 4 != s.get (HP_OWN_DMA__OWNER (c.word - 162) k)).map fun k =>
      8 * (c.word - 162) + k
  else []

/-- What a committed word does beyond its register. -/
def commitEffect (w : Nat) (s : State) : State :=
  if 212 ≤ w ∧ w ≤ 287 then ctFeedback (spbCompute s)
  else if w = 288 then spbMatch s
  else if 310 ≤ w ∧ w ≤ 469 then
    let s := s.when ((w - 310) % 5 == 4) (voteClear 2 ((w - 310) / 5))
    s.each (List.range 8) updateSafHold
  else if 502 ≤ w ∧ w ≤ 693 then
    let j := (w - 502) / 3
    let s := s.when ((w - 502) % 3 != 2) (pmSumDrop j)
    if s.pm.calDue ≠ 0 ∧ s.pm.calIn = j ∧ (w - 502) % 3 ≠ 2 then
      let s := s.upPm fun p => { p with calDue := p.calDue - 1 }
      if s.pm.calDue = 0 then calEnd 0 s else s
    else s
  else if 694 ≤ w ∧ w ≤ 717 then dinCommit (w - 694) s
  else if w = 718 ∨ (725 ≤ w ∧ w ≤ 727) then seamRestart s
  else s

/-- A descriptor's word is committed: its step counts, and the last one ends it (R426). A REG_WRITE to a vault-backed
register ends with its commit (04 R113). -/
def vwStep (c : Nat) (s : State) : State :=
  match s.running c 0x50 with
  | none =>
    match s.running c 0x12 with
    | some _ => descDone c 0 0 (stepDone c 1 s)
    | none => s
  | some e =>
    let s := stepDone c 1 s
    if (dword e.words 2).toNat ≤ s.get (HP_CTX_LEDGER1__STEPS c) then descDone c 0 0 s else s

/-- Islands whose grouping a new AX_BIND_LEG changes (09 R265). -/
def regroup (old new : Nat) (s : State) : State :=
  s.each ((List.range 8).filter fun i => fieldGet (BitVec.ofNat 32 (old ^^^ new)) (3 * i) 3 != 0) giCfgChange

/-- The register that a word backs takes the word's PV bits. -/
def wordShow (w : Nat) (v : Word) (s : State) : State :=
  match vaultAddr w with
  | some a => s.wr a ((s.rd a &&& ~~~(pvMask a)) ||| (v &&& pvMask a))
  | none => s

/-- The first coefficient of a calibration takes effect with the second: where that one fails, nothing is written (10 R319). -/
def calBoth (s : State) : State :=
  match s.pm.calFirst with
  | some (w, v) => (wordShow w v (s.vaultWr w v)).upPm fun p => { p with calFirst := none }
  | none => s

/-- The commit completes: copy A verifies, and copy B where `b` says so. -/
def commitOk (b : Bool) (c : VCommit) (s : State) : State :=
  let s0 := s
  let ctxs := s.ctxChanges c
  let dmas := s.dmaChanges c
  let s := (vaultDone c.word c.value b s).when c.cal calBoth
  let s := wordShow c.word c.value s
  let s := s.when (decide (294 ≤ c.word) && decide (c.word ≤ 309) && c.word % 2 == 1) fun s' =>
    regroup (s0.get (AX_BIND_LEG__LEG_MASK ((c.word - 294) / 2))) (fieldGet c.value 0 24) s'
  let s := s.when (decide (294 ≤ c.word) && decide (c.word ≤ 309)) fun s => s.each (List.range 24) counterUpdate
  let s := if ownWord c.word then ownEffect b c ctxs dmas s else commitEffect c.word s
  let s := s.when (c.word < 64) fun s => { s with vs := { s.vs with resWord := c.word } }
  let s := match c.dma with | some n => dmaCommitted n true s | none => s
  match c.ctx with
  | some x => vwStep x s
  | none => s

/-- The commit fails: copy A does not verify, and the word keeps its old value. -/
def commitFail (c : VCommit) (s : State) : State :=
  let s := s.vaultSet c.word { a := (s.vaultAt c.word).a, b := s.vaultRd c.word, aBad := true }
  let s := (s.putB VLT_STATUS__LAST_FAIL true).put VLT_STATUS__FAIL_WORD c.word
  let s := vltEvent 0 c.word s
  let s := s.when (c.word < 64) fun s => s.putB VLT_ATT_STAT__BUSY false
  let s := s.when (s.pm.calDue != 0 && 502 + 3 * s.pm.calIn ≤ c.word && c.word ≤ 503 + 3 * s.pm.calIn) (calEnd 5)
  let s := match c.dma with | some n => dmaCommitted n false s | none => s
  match c.ctx with
  | some x => descDone x 8 1 s
  | none => s

/-- The running commit ends: whether copy A and copy B verify. The commit behind it starts. DESIGN CHOICE (log 34): the first
coefficient of a calibration is held until the second is committed. -/
def vaultCommit (a b : Bool) (s : State) : State :=
  match s.vq with
  | [] => s
  | c :: rest =>
    let s := { s with vq := rest }
    let d := if a then some (!b) else none
    let s := (wearAdd c.word d s).when (ownWord c.word) (wearAdd 152 d)
    let s := if !a then commitFail c s
      else if c.cal ∧ s.pm.calDue = 2 then s.upPm fun p => { p with calDue := 1, calFirst := some (c.word, c.value) }
      else commitOk b c s
    vqStart (s.vq.length + 1) s

/-! ## Images (R427 to R431) -/

/-- Words 4i of the staging area, the top 1 MiB of shared SRAM (R433). -/
def State.stageWord (s : State) (i : Nat) : Word := s.sramWord (0x300000 + 4 * i)

/-- The payload of the staged image, as far as the staging area holds it. -/
def State.stagePayload (s : State) (hdr : List Word) : List Word :=
  (List.range (min ((dword hdr 4).toNat / 4) 0x3FFC0)).map fun i => s.stageWord (64 + i)

def State.stageHdr (s : State) : List Word := (List.range 64).map s.stageWord

/-- PUBKEY and SIGNATURE of the staged image, at TRAILER_OFS. -/
def State.stageTrailer (s : State) (hdr : List Word) : List Word :=
  (List.range 1284).map fun i => s.stageWord ((dword hdr 7).toNat / 4 + i)

/-- Staged pages that follow one another from the first. -/
def State.stagedRun (s : State) : Nat := ((List.range 256).find? fun n => !s.vs.staged.contains n).getD 256

/-- The digest of key slot k as the factory burned it (R429), eight words. -/
def keyDigest (k : Nat) : List Word := (List.range 8).map fun j => BitVec.ofNat 32 (Config.fuse (19 + 8 * k + j))

/-- The slot whose key signed an image: present, not revoked, permitted for the image's TYPE, and with the digest of PUBKEY
(R429). -/
def State.keySlot (s : State) (type : Nat) (trailer : List Word) : Option Nat :=
  (List.range 4).find? fun k =>
    nbit (s.get VLT_KEY_STAT__PRESENT) k && !nbit (s.get VLT_KEY_STAT__REVOKED) k &&
      nbit (if type = 1 then s.get VLT_KEY_STAT__FW else s.get VLT_KEY_STAT__DEBUG) k && keyDigest k == sha256 (trailer.take 15)

/-- The HSS signature of an image over its header is valid (R428). -/
def sigValid (hdr trailer : List Word) : Bool :=
  hssOk (wordBytes (trailer.take 15)) (wordBytes (trailer.drop 15)) (wordBytes ((hdr ++ List.replicate 64 0).take 64))

/-- The image as the checks of R431 see it: `pages` is none for a QSPI slot. -/
def State.imageCode (s : State) (type : Nat) (hdr payload trailer : List Word) (pages : Option Nat) : Nat :=
  let w := fun i => (dword hdr i).toNat
  let len := w 4
  let load := w 5
  let step := s.get DEV_ID__STEPPING
  let token := (payload.take 2 == [s.rd DEV_SERIAL_LO, s.rd DEV_SERIAL_HI]) &&
    ((payload.drop 2).take 8 == (List.range 8).map fun i => s.rd (VLT_DBG_CHAL i)) && len == 48
  if w 0 ≠ 0x314C4B48 ∨ w 1 % 2 ^ 16 ≠ 1 then 2
  else if len < 4 ∨ len % 4 ≠ 0 ∨ w 7 % 4 ≠ 0 ∨ w 7 < 0x100 + len ∨ 2 ^ 20 < w 7 + 5136 ∨ !(hdr.drop 24).all (· == 0) then 3
  else if w 2 % 2 ^ 16 ≠ 0x4896 ∨ step < w 2 / 2 ^ 16 % 256 ∨ w 2 / 2 ^ 24 < step then 4
  else if w 1 / 2 ^ 16 ≠ type then 5
  else if s.keySlot type trailer = none then 6
  else if !sigValid hdr trailer then 7
  else if sha256 (payload.take (len / 4)) ≠ (hdr.drop 8).take 8 then 8
  else if type = 1 ∧ w 3 < s.get VLT_MIN_SVN__MIN_SVN then 9
  else if type = 1 ∧ (load % 4096 ≠ 0 ∨ 0x300000 < load + len ∨ len ≤ w 6 ∨ w 6 % 2 ≠ 0) then 10
  else if (match pages with | some n => n == 0 || 4096 * n < w 7 + 5136 | none => false) then 11
  else if type = 2 ∧ !token then 12
  else 0

/-- The boot ROM has found its image; FIRMWARE_RELEASE releases it. -/
def bootFound (src : Nat) (hdr payload trailer : List Word) (s : State) : State :=
  let s := s.put PWR_BOOT_STATUS__PHASE 4
  { s with vs := { s.vs with boot := src, due := 0, hdr := hdr, payload := payload.take ((dword hdr 4).toNat / 4),
                             key := (s.keySlot 1 trailer).getD 0 } }

/-- Every image has failed: wait for a host-staged one (02 R70). -/
def bootWait (code : Nat) (s : State) : State :=
  let s := (s.put PWR_BOOT_STATUS__PHASE 6).put PWR_BOOT_STATUS__FAIL_CODE code
  { s with vs := { s.vs with due := 0 } }

/-- The staged image under the checks of R431. -/
def State.stagedCode (s : State) (type : Nat) : Nat :=
  s.imageCode type s.stageHdr (s.stagePayload s.stageHdr) (s.stageTrailer s.stageHdr) (some s.stagedRun)

/-- The boot ROM has found the staged image. -/
def bootStaged (s : State) : State := bootFound 3 s.stageHdr (s.stagePayload s.stageHdr) (s.stageTrailer s.stageHdr) s

/-- IMAGE_FETCH_VERIFY: the boot ROM tries its next source: the staging area, or the slot whose contents `img` are. -/
def execImageFetchVerify (img : FlashImage) (s : State) : Host.Outcome State Fault Refusal :=
  .next <|
    let d := s.vs.due
    if d = 0 then s
    else if d = 3 then
      let code := s.stagedCode 1
      let s := ((s.putB VLT_STG_STAT__ACTIVATE false).put VLT_BOOT_DIAG__CODE_STG code).put VLT_STG_STAT__RESULT code
      let s := s.put PWR_BOOT_STATUS__FAIL_CODE code
      if code = 0 then bootStaged s
      else if s.on PWR_BOOT_STATUS__SOURCE then bootWait code s
      else { s with vs := { s.vs with due := 1 } }
    else
      let code := if img.short then 1 else s.imageCode 1 img.hdr img.payload img.trailer none
      let s := (s.put (if d = 1 then VLT_BOOT_DIAG__CODE_A else VLT_BOOT_DIAG__CODE_B) code).put PWR_BOOT_STATUS__FAIL_CODE code
      if code = 0 then bootFound d img.hdr img.payload img.trailer s
      else if d = 1 then { s with vs := { s.vs with due := 2 } }
      else bootWait code s

/-! ## Staging (R433 to R435) -/

/-- Write a page of 4 KiB to the staging area. -/
def stagePage (page : Nat) (l : List Word) (s : State) : State :=
  let s := s.sramWrWords (0x300000 + 4096 * (page % 256)) ((l ++ List.replicate 1024 0).take 1024)
  let l := if s.vs.staged.contains (page % 256) then s.vs.staged else s.vs.staged ++ [page % 256]
  let s := { s with vs := { s.vs with staged := l } }
  (s.putB VLT_STG_STAT__VERIFIED false).put VLT_STG_STAT__PAGES l.length

/-- Write pages one after another. -/
def stagePages : Nat → Nat → List Word → State → State
  | 0, _, _, s => s
  | n + 1, page, l, s => stagePages n (page + 1) (l.drop 1024) (stagePage page l s)

/-- A copy may start: nothing else uses the staging area, and the pages lie inside it. -/
def State.stageCopyOk (s : State) : Bool :=
  let n := s.get VLT_STG_LEN__LEN
  !s.on VLT_STG_STAT__BUSY && 1 ≤ n && s.get VLT_STG_OFS__OFS + n ≤ 256

/-- VLT_STG_CTRL.COPY. -/
def stageCopyGo (s : State) : State :=
  let s := s.putB VLT_STG_STAT__BUSY true
  { s with vs := { s.vs with copying := true, copyOfs := s.get VLT_STG_OFS__OFS, copyLen := s.get VLT_STG_LEN__LEN,
                             copySrc := s.get VLT_STG_SRC_LO__SRC_LO * 4096 + s.get VLT_STG_SRC_HI__SRC_HI * 2 ^ 32 } }

/-- The steward's port can read host memory. -/
def State.stewardReads (s : State) : Bool := s.portIssues s.steward

/-- STAGE_COPY_DONE: the words the reads answered, and whether one failed; the pages read whole stay written. Its reads go out one
after another, so one is outstanding at a time, and the model emits them as their answers are reported (DESIGN CHOICE, log 59). -/
def execStageCopyDone (data : List Word) (err : Bool) (s : State) : Host.Outcome State Fault Refusal :=
  .next <|
    if !s.vs.copying then s
    else
      let len := s.vs.copyLen
      let bad := err || !s.stewardReads
      let n := if !s.stewardReads then 0 else if err then min (data.length / 1024) (len - 1) else len
      let s := s.when s.stewardReads fun s => s.hostRead s.steward s.vs.copySrc (4096 * (n + b2n err))
      let s := stagePages n s.vs.copyOfs data s
      let s := (s.putB VLT_STG_STAT__BUSY false).when bad fun s => s.putB VLT_STG_STAT__COPY_ERR true
      let s := fetchAll { s with vs := { s.vs with copying := false } }
      vltEvent 2 (n + b2n bad * 2 ^ 16) s

/-- OP_FW_STAGE: one page, none where the read fails. It waits while the staging area is in use. -/
def execOpFwStage (c : Fin 256) (page : Option (List Word)) (s : State) : Host.Outcome State Fault Refusal :=
  .next <|
    let c := c.val
    match s.running c 0x51 with
    | none => s
    | some e =>
      if (e.phase = 0 && s.on VLT_STG_STAT__BUSY) || !s.readGo e.port then s
      else
        let s := s.hostRead e.port ((dword e.words 3).toNat + 2 ^ 32 * (dword e.words 4).toNat + 4096 * e.phase) 4096
        let s := s.when (e.phase == 0) fun s =>
          { s.putB VLT_STG_STAT__BUSY true with vs := { s.vs with stgCtx := some c } }
        let free := fun (s : State) => { s.putB VLT_STG_STAT__BUSY false with vs := { s.vs with stgCtx := none } }
        match page with
        | none => descDone c 5 0 (free s)
        | some l =>
          let s := stagePage ((dword e.words 1).toNat / 4096 + e.phase) l s
          let s := stepDone c 1 (s.upExec c fun e => { e with phase := e.phase + 1 })
          if (dword e.words 2).toNat ≤ 4096 * (e.phase + 1) then descDone c 0 0 (free s) else s

/-- An action on the staged image starts. -/
def stageAct (action : Nat) (ctx : Option Nat) (s : State) : State :=
  { s.putB VLT_STG_STAT__BUSY true with vs := { s.vs with act := some (action, ctx) } }

/-- OP_FW_VERIFY: the action starts; while the staging area is in use it is refused, as a COPY is (R435; log 17). -/
def execOpFwVerify (c : Fin 256) (s : State) : Host.Outcome State Fault Refusal :=
  .next <|
    match s.running c.val 0x52 with
    | none => s
    | some e =>
      if e.phase ≠ 0 then s
      else if s.on VLT_STG_STAT__BUSY then descDone c.val 4 1 s
      else stageAct (dword e.words 1).toNat (some c.val) (s.upExec c.val fun e => { e with phase := 1 })

/-- The action under way, where it is the one named. -/
def State.actIs (s : State) (k : Nat) : Bool := match s.vs.act with | some (a, _) => a == k | none => false

/-- An action ends with a code and a result (R435). -/
def actEnd (code : Nat) (result : Word) (s : State) : State :=
  match s.vs.act with
  | none => s
  | some (a, ctx) =>
    let s := { s.putB VLT_STG_STAT__BUSY false with vs := { s.vs with act := none } }
    let s := vltEvent 3 (code + a * 2 ^ 8) s
    match ctx with
    | some c => (s.upExec c fun e => { e with result := result }) |> stepDone c 1 |> descDone c (if code = 0 then 0 else 8) code
    | none => s

/-- VERIFY. -/
def execVerify (_ _ : Unit) (s : State) : Host.Outcome State Fault Refusal :=
  .next <|
    if !s.actIs 0 then s
    else
      let code := s.stagedCode 1
      let hdr := s.stageHdr
      let s := (s.putB VLT_STG_STAT__VERIFIED (code == 0)).put VLT_STG_STAT__RESULT code
      let boot := s.get PWR_BOOT_STATUS__PHASE == 6 && !s.sys.released
      let s := s.when boot fun s =>
        let s := s.put VLT_BOOT_DIAG__CODE_STG code
        if code = 0 then bootStaged s else s.put PWR_BOOT_STATUS__FAIL_CODE code
      actEnd code (dword (sha256 hdr) 0) s

/-- ACTIVATE. -/
def execActivate (s : State) : Host.Outcome State Fault Refusal :=
  .next <|
    if !s.actIs 1 then s
    else if s.on VLT_STG_STAT__VERIFIED then actEnd 0 0 (s.putB VLT_STG_STAT__ACTIVATE true)
    else actEnd 11 0 s

/-- CLEAR. -/
def execClear (s : State) : Host.Outcome State Fault Refusal :=
  .next <|
    if !s.actIs 2 then s
    else
      let s := { s with sram := s.sram.filter fun e => e.1 < 0x300000 || 0x400000 ≤ e.1 }
      let s := ((s.putB VLT_STG_STAT__VERIFIED false).putB VLT_STG_STAT__ACTIVATE false).put VLT_STG_STAT__PAGES 0
      actEnd 0 0 { s with vs := { s.vs with staged := [] } }

/-- A fresh challenge of the true random source (R440). -/
def newChallenge (s : State) : State := s.each (List.range 8) fun i s => s.wrFree (VLT_DBG_CHAL i)

/-- UNLOCK (R441). -/
def execUnlock (_ _ : Unit) (s : State) : Host.Outcome State Fault Refusal :=
  .next <|
    if !s.actIs 3 then s
    else
      let code := s.stagedCode 2
      let scope := fieldGet (dword (s.stagePayload s.stageHdr) 10) 0 8
      let s := newChallenge (s.put VLT_STG_STAT__RESULT code)
      let s := s.when (code == 0) fun s =>
        vltEvent 5 (1 + scope * 2 ^ 8) ((s.putB VLT_DBG_STAT__UNLOCKED true).put VLT_DBG_STAT__SCOPE scope)
      actEnd code (BitVec.ofNat 32 scope) s

/-- VLT_DBG_STAT.LOCK: the port locks and a debugger is detached, as a clearing of dmactive would (R441). -/
def dbgLock (s : State) : State :=
  debugDetach ((s.putB VLT_DBG_STAT__UNLOCKED false).put VLT_DBG_STAT__SCOPE 0)

/-! ## Keys (R429) -/

/-- Revocation of a slot is accepted: a key with FW permission stays, and the released image is not the slot's. -/
def State.revokeOk (s : State) (k : Nat) : Bool :=
  let left := (List.range 4).any fun i =>
    i != k && nbit (s.get VLT_KEY_STAT__PRESENT) i && !nbit (s.get VLT_KEY_STAT__REVOKED) i && nbit (s.get VLT_KEY_STAT__FW) i
  left && !(s.on VLT_IMG_KEY__VALID && s.get VLT_IMG_KEY__SLOT == k)

def keyRevoke (k : Nat) (s : State) : State := vltEvent 7 k (s.putBit VLT_KEY_STAT__REVOKED k true)

/-! ## Attestation (R436 to R439) -/

/-- RES: the largest value in the reservation words (R437). -/
def State.attRes (s : State) : Nat := (List.range 64).foldl (fun m i => max m (s.vaultRd i).toNat) 0

/-- A request for a report is accepted (R438). -/
def State.attOk (s : State) : Bool :=
  s.on VLT_ATT_STAT__READY && !s.on VLT_ATT_STAT__BUSY && !s.on VLT_ATT_STAT__EXHAUSTED &&
    match s.vs.lastGo with | some t => t + 200000000 ≤ s.time | none => true

/-- Bytes 0x000 to 0x0FF of the report (R439). -/
def State.attWords (s : State) : List Word :=
  [0x54414B48, 0x16140001, s.rd DEV_SERIAL_LO, s.rd DEV_SERIAL_HI, s.rd DEV_ID, BitVec.ofNat 32 (s.get VLT_ATT_IDX__NEXT),
    BitVec.ofNat 32 s.time, BitVec.ofNat 32 (s.time / 2 ^ 32)] ++
  ((List.range 8).map fun i => s.rd (VLT_ATT_NONCE i)) ++ ((List.range 8).map fun i => s.rd (VLT_MEAS i)) ++
  ((s.vs.build ++ List.replicate 8 0).take 8) ++
  [s.rd VLT_IMG_INFO, s.rd VLT_MIN_SVN, s.rd PWR_BOOT_STATUS,
    BitVec.ofNat 32 (s.get VLT_IMG_KEY__SLOT + s.get VLT_DBG_STAT__UNLOCKED * 2 ^ 8 + s.get VLT_DBG_STAT__SCOPE * 2 ^ 16)] ++
  sha256 ((List.range 864).map fun i => s.vaultRd (160 + i)) ++
  [s.rd SAF_SPB_CRC, s.rd SAF_CONFIRM, BitVec.ofNat 32 (s.get SAF_STATUS__ARMED + 2 * s.get RED_STATUS__DSAFE), s.rd HP_OWN_GEN,
    BitVec.ofNat 32 (s.get RED_FL_HEAD__SEQ)] ++ List.replicate 15 0

/-- VLT_ATT_CTRL.GO: with no reserved index left, 256 more are reserved first. -/
def attGo (s : State) : State :=
  let s := { s with vs := { s.vs with lastGo := some s.time, report := s.attWords } }
  let s := (s.putB VLT_ATT_STAT__BUSY true).putB VLT_ATT_STAT__DONE false
  let s := s.each (List.range 1413) fun i s => s.wr (VLT_ATT_BUF i) 0
  if s.get VLT_ATT_IDX__NEXT = s.attRes then vqPush ((s.vs.resWord + 1) % 64) (BitVec.ofNat 32 (s.attRes + 256)) none s else s

/-- Write consecutive words of the report buffer. -/
def attBuf (i : Nat) : List Word → State → State
  | [], s => s
  | w :: l, s => attBuf (i + 1) l (s.wr (VLT_ATT_BUF i) w)

/-- The next index is q: NEXT, EXHAUSTED, and VLT_IDX_LOW once (R437). -/
def attIndex (q : Nat) (s : State) : State :=
  let s := (s.put VLT_ATT_IDX__NEXT (q % 2 ^ 30)).putB VLT_ATT_STAT__EXHAUSTED (2 ^ 30 ≤ q)
  let left := 2 ^ 30 - q
  s.when (left < 2 ^ 24 && !s.vs.idxLow) fun s => vltEvent 6 left { s with vs := { s.vs with idxLow := true } }

/-- The words of a report: the signed ones, and the signature of 1,349 words that index q gives under the identity key (R439). -/
def reportWords (q : Nat) (l : List Word) : List Word := l ++ leWords (idSign rootSecret q (wordBytes l))

/-- ATT_REPORT_DONE: the report is signed, with a reserved index only. -/
def execAttReportDone (_ : Unit) (s : State) : Host.Outcome State Fault Refusal :=
  .next <|
    let q := s.get VLT_ATT_IDX__NEXT
    if !s.on VLT_ATT_STAT__BUSY || decide (s.attRes ≤ q) then s
    else
      let s := attBuf 0 (reportWords q s.vs.report) s
      vltEvent 4 q (attIndex (q + 1) ((s.putB VLT_ATT_STAT__BUSY false).putB VLT_ATT_STAT__DONE true))

/-- ATT_READY: the tree traversal state is built. -/
def execAttReady (s : State) : Host.Outcome State Fault Refusal :=
  .next (if s.sys.released then s.putB VLT_ATT_STAT__READY true else s)

end Sys2Proof.Machine
end

