-- ==== Sys2Proof/Machine/Seam.lean ====
section
/-! DEFINITION. The seam (15): ports, link measurement and time alignment, discovery and admission, trips, rings and peer
data. A frame's fields are operands; symbols and line coding lie below the model (log 23). -/

namespace Sys2Proof.Machine

def State.sp (s : State) (p : Nat) : SeamPS := sget (fun _ => {}) s.seams p
def State.upSp (s : State) (p : Nat) (f : SeamPS → SeamPS) : State := { s with seams := sset (fun _ => {}) s.seams p (f (s.sp p)) }

/-- The link of a port is up. -/
def State.seamUp (s : State) (p : Nat) : Bool := 2 ≤ s.get (SEAM_PORT_STAT__LINK p)

/-- The admitted ports. One that shows TOO_LONG carries discovery frames alone (R447). -/
def State.seamPorts (s : State) : List Nat :=
  (List.range 3).filter fun p => s.seamUp p && s.on (SEAM_PORT_STAT__ADMITTED p) && !s.on (SEAM_PORT_STAT__TOO_LONG p)

/-! ## Links (R445, R446) -/

/-- A link is admitted where both its ends are: the link to the parent, a child's link, or in a ring the further link to a device
of the table that is admitted. -/
def State.linkAdmitted (s : State) (t : List SeamNode) (self p : Nat) : Bool :=
  let n := t[self]?
  s.seamUp p && !s.on (SEAM_PORT_STAT__TOO_LONG p) && (n.any fun n => n.refuse == 0) &&
    ((self != 0 && n.any fun n => n.port == p) || (t.drop 1).any (fun m => m.parent == self && m.pport == p && m.refuse == 0) ||
      (s.seam.ring && (s.sp p).far.any fun f => t.any fun m => m.lo == f.lo && m.hi == f.hi && m.refuse == 0))

/-- The admission of a joined device's link follows the table in effect. -/
def linkJudge (p : Nat) (s : State) : State :=
  s.putB (SEAM_PORT_STAT__ADMITTED p) (s.on SEAM_STATUS__JOINED && s.linkAdmitted s.seam.cur (s.get SEAM_STATUS__NODE) p)

/-- SEAM_LINK_UP: training ends. A device that is joined keeps its admission through the loss of a link (R451): a link that its
table admits is admitted again. -/
def execSeamLinkUp (p : Fin 3) (s : State) : Host.Outcome State Fault Refusal :=
  .next <|
    let p := p.val
    if s.get (SEAM_PORT_STAT__LINK p) ≠ 1 then s
    else
      let s := s.put (SEAM_PORT_STAT__LINK p) (if s.get SEAM_STATUS__REFUSE = 0 then 2 else 3)
      seamEvent 0 p 0 (linkJudge p s)

/-- SEAM_LINK_DOWN: the port trains again at once. -/
def execSeamLinkDown (p : Fin 3) (s : State) : Host.Outcome State Fault Refusal :=
  .next <|
    let p := p.val
    if !s.seamUp p then s
    else
      let s := ((s.put (SEAM_PORT_STAT__LINK p) 1).putB (SEAM_PORT_STAT__ADMITTED p) false).bump (SEAM_PORT_CNT__DOWN p)
      let s := seamEvent 1 p (s.get (SEAM_PORT_CNT__DOWN p)) (s.upSp p fun _ => {})
      if s.on SEAM_STATUS__JOINED && !s.on SEAM_CFG__ROOT && s.get SEAM_STATUS__PARENT == p then alignStop s else s

/-! ## Measurement and alignment (R447, R457, R458) -/

/-- An axis in CATCH, RUN or HOLD with SYNC = 2. -/
def State.gridAxis (s : State) : Bool := (List.range 8).any fun a => s.axLive a && s.get (AX_TIMING__SYNC a) == 2

/-- An exchange on the parent port: `off` is the offset in units of 0.05 ns. -/
def timeAlign (off : Int) (s : State) : State :=
  let ofs := clampI (-(2 ^ 31)) (2 ^ 31 - 1) (roundOpen s.free (off * 8) 25)
  let s := s.put SEAM_TIME_OFS__OFFSET (unsgn 32 ofs)
  let step := s.on SEAM_CFG__STEP_EN && !s.seam.stepped && decide (20000 < off) && !s.gridAxis
  let s := s.upSeam fun m => { m with stepped := true }
  if step then s.upSys fun y => { y with timeAcc := y.timeAcc + off.toNat * 2 ^ 25 / 100 }
  else
    let s := s.upSys fun y => { y with slew := clampI (-10485) 10485 (roundOpen (s.free + 1) (off * 8) 625) }
    let m := s.seam
    let good := if off.natAbs ≤ 40 then m.good + 1 else 0
    let bad := if 100 < off.natAbs then m.bad + 1 else 0
    let s := s.upSeam fun m => { m with good := min 16 good, bad := min 4 bad }
    if !s.on SEAM_STATUS__ALIGNED && 16 ≤ good then alignPut true s
    else if s.on SEAM_STATUS__ALIGNED && 4 ≤ bad then alignPut false s
    else s

/-- LINK_MEASUREMENT: the four timestamps of an exchange in units of 0.8 ns. A link that shows TOO_LONG is not admitted (R447). -/
def execLinkMeasurement (p : Fin 3) (t1 t2 t3 t4 : BitVec 80) (s : State) : Host.Outcome State Fault Refusal :=
  .next <|
    let p := p.val
    if !s.seamUp p || !s.on CLK_STATUS__PLLB_LOCK || s.get PWR_STATE__STATE < 2 then s
    else
      let d : Int := 8 * (((t4.toNat : Int) - t1.toNat) - ((t3.toNat : Int) - t2.toNat)) + 5 * sgn 8 (s.get (SEAM_PORT_CFG__ASYM p))
      let off : Int := 16 * ((t2.toNat : Int) - t1.toNat) - d
      let s := s.put (SEAM_PORT_STAT__DELAY p) (clampI 0 255 (roundOpen s.free d 5)).toNat
      let s := s.when (s.on (SEAM_PORT_STAT__TOO_LONG p) != decide (400 < d)) fun s =>
        linkJudge p (s.putB (SEAM_PORT_STAT__TOO_LONG p) (decide (400 < d)))
      if s.on SEAM_STATUS__JOINED && !s.on SEAM_CFG__ROOT && s.get SEAM_STATUS__PARENT == p then timeAlign off s else s

/-! ## Discovery and admission (R448 to R451) -/

/-- Send a frame's summary on every up link but one: 0 hop, 1 reply, 2 table, 3 trip, 4 peer. -/
def seamFlood (skip : Option Nat) (kind : Nat) (data : List Nat) (s : State) : State :=
  s.each (List.range 3) fun p s => if s.seamUp p ∧ skip ≠ some p then s.emit (.seam p kind data) else s

/-- Send a hop frame with the root's serial and this end of the link on every up link but one. -/
def hopSend (skip : Option Nat) (h : Nat) (lo hi : Word) (s : State) : State :=
  s.each (List.range 3) fun p s =>
    s.when (s.seamUp p && skip != some p) fun s =>
      s.emit (.seam p 0 [h, lo.toNat, hi.toNat, (s.rd DEV_SERIAL_LO).toNat, (s.rd DEV_SERIAL_HI).toNat, p])

/-- The words of a reply: serial, TRIP_BUDGET, hop count, and each port's far end. -/
def seamReply (d : SeamDev) : List Nat :=
  [d.lo.toNat, d.hi.toNat, d.budget.toNat, d.h.toNat] ++ d.far.flatMap fun f =>
    match f with
    | none => [0]
    | some f => [1, f.lo.toNat, f.hi.toNat, f.port.val, b2n f.tooLong]

/-- This device's reply to a hop count. -/
def State.ownReply (s : State) (h : BitVec 6) : SeamDev :=
  { lo := s.rd DEV_SERIAL_LO, hi := s.rd DEV_SERIAL_HI, budget := BitVec.ofNat 16 (s.get SEAM_TRIP_BUDGET__BUDGET), h := h,
    far := (List.range 3).map fun p => (s.sp p).far.map fun f => { f with tooLong := s.on (SEAM_PORT_STAT__TOO_LONG p) } }

/-- The order of ports at equal parents: SP1, SP2, SP0 (R449). -/
def portRank (p : Nat) : Nat := if p = 1 then 0 else if p = 2 then 1 else 2

/-- Insert a node by its parent's number, then the parent's port. -/
def nodeInsert (n : SeamNode) : List SeamNode → List SeamNode
  | [] => [n]
  | m :: l =>
    if n.parent < m.parent ∨ (n.parent = m.parent ∧ portRank n.pport < portRank m.pport) then n :: m :: l else m :: nodeInsert n l

/-- A device as a node below the nodes at hop count h: the port with the lowest number serves on a tie. -/
def devNode (t : List SeamNode) (h : Nat) (d : SeamDev) : Option SeamNode :=
  if t.any fun n => n.lo == d.lo && n.hi == d.hi then none
  else (List.range 3).findSome? fun j =>
    match d.far.getD j none with
    | none => none
    | some f =>
      match t.findIdx? fun n => n.lo == f.lo && n.hi == f.hi && n.hops == h with
      | some i => some { hops := h + 1, port := j, parent := i, pport := f.port.val, refuse := 0, lo := d.lo, hi := d.hi }
      | none => none

/-- Number the devices in order of their hops (R449). -/
def numberNodes (devs : List SeamDev) : Nat → Nat → List SeamNode → List SeamNode
  | 0, _, t => t
  | n + 1, h, t => numberNodes devs n (h + 1) (t ++ (devs.filterMap (devNode t h)).foldl (fun l m => nodeInsert m l) [])

/-- Two nodes are neighbours: one is the other's parent, or a device's reply names the other at the far end of a link. -/
def nodeLinked (t : List SeamNode) (devs : List SeamDev) (i j : Nat) : Bool :=
  let one := fun (i j : Nat) =>
    match t[i]?, t[j]? with
    | some n, some m => (i != 0 && n.parent == j) ||
        devs.any fun d => d.lo == n.lo && d.hi == n.hi && d.far.any fun f => f.any fun f => f.lo == m.lo && f.hi == m.hi && !f.tooLong
    | _, _ => false
  one i j || one j i

/-- The largest number of links on a shortest path from the nodes reached to one of the rest; the fuel is above every limit. -/
def nodeReach (adj : Nat → Nat → Bool) : Nat → List Nat → List Nat → Nat
  | 0, _, _ => 0
  | _ + 1, _, [] => 0
  | k + 1, edge, rest =>
    let new := rest.filter fun j => edge.any fun i => adj i j
    1 + nodeReach adj k new (rest.filter fun j => !new.contains j)

/-- The largest number of links between any two of some nodes on their shortest path (R450). -/
def nodeDiameter (adj : Nat → Nat → Bool) (l : List Nat) : Nat :=
  (l.map fun i => nodeReach adj 64 [i] (l.filter fun j => j != i)).foldl max 0

/-- The REFUSE code of a node, given the numbers admitted before it (R450). -/
def refuseOf (t : List SeamNode) (ring : Bool) (budget : Nat) (devs : List SeamDev) (adm : List Nat) (i : Nat) (n : SeamNode) : Nat :=
  let diam := if ring then adm.length else nodeDiameter (nodeLinked t devs) (adm ++ [i])
  let dev := devs.find? fun d => d.lo == n.lo && d.hi == n.hi
  let far := dev.bind fun d => d.far.getD n.port none
  if min 63 (budget / 200) < diam then 1
  else if dev.any fun d => d.budget.toNat != budget then 2
  else if !adm.contains n.parent || far.any (·.tooLong) then 3
  else if 1024 ≤ adm.length then 5
  else 0

/-- Admit the nodes in order; the root is node 0. -/
def admitNodes (t : List SeamNode) (ring : Bool) (budget : Nat) (devs : List SeamDev) : Nat → List Nat → List SeamNode → List SeamNode
  | _, _, [] => []
  | i, adm, n :: l =>
    let r := if i = 0 then 0 else refuseOf t ring budget devs adm i n
    { n with refuse := r } :: admitNodes t ring budget devs (i + 1) (if r = 0 then adm ++ [i] else adm) l

/-- From a device's SP1 the chain leads, SP1 to SP0, back to the root's SP0; the fuel is the number of devices. -/
def ringWalk (devs : List SeamDev) (lo hi : Word) : Nat → Word → Word → Bool
  | 0, _, _ => false
  | k + 1, l, h =>
    match devs.find? fun d => (d.far.getD 0 none).any fun f => f.lo == l && f.hi == h && f.port.val == 1 with
    | none => false
    | some d => (d.far.getD 1 none).any (fun f => f.lo == lo && f.hi == hi && f.port.val == 0) || ringWalk devs lo hi k d.lo d.hi

/-- The chain closes on the root's SP0, with every link of it up (R459). -/
def State.ringFound (s : State) : Bool :=
  let lo := s.rd DEV_SERIAL_LO
  let hi := s.rd DEV_SERIAL_HI
  s.on SEAM_CFG__RING && ringWalk s.seam.devs lo hi s.seam.devs.length lo hi

/-- The root's table from the replies of a round. -/
def State.rootTable (s : State) : List SeamNode :=
  let root : SeamNode := { hops := 0, port := 0, parent := 0, pport := 0, refuse := 0, lo := s.rd DEV_SERIAL_LO, hi := s.rd DEV_SERIAL_HI }
  let t := numberNodes s.seam.devs s.seam.devs.length 0 [root]
  if s.seam.two then t.map fun n => { n with refuse := 4 }
  else admitNodes t s.ringFound (s.get SEAM_TRIP_BUDGET__BUDGET) s.seam.devs 0 [] t

/-- A round's table is compared with that of the rounds before. -/
def tableRound (t : List SeamNode) (ring : Bool) (s : State) : State :=
  s.upSeam fun m => { m with rounds := if m.cand = t ∧ m.ring = ring then m.rounds + 1 else 1, cand := t, ring := ring }

/-- DISCOVERY_SEND: the root closes a round and starts the next. -/
def execDiscoverySend (s : State) : Host.Outcome State Fault Refusal :=
  .next <|
    if !s.on SEAM_CFG__ROOT || !s.sys.released then s
    else
      let t := s.rootTable
      let s := tableRound t s.ringFound s
      let s := seamFlood none 2 (t.map fun n => n.lo.toNat) s
      let s := s.upSeam fun m => { m with devs := [], last := m.devs, two := false }
      hopSend none 0 (s.rd DEV_SERIAL_LO) (s.rd DEV_SERIAL_HI) s

/-- The hop count of a port in the latest round: a round lasts 1 ms, and what came longer than one and a half ago is of an
earlier one (log 24). -/
def State.spHop (s : State) (p : Nat) : Option Nat :=
  match (s.sp p).hop with
  | some (h, at_) => if s.time ≤ at_ + 300000 then some h else none
  | none => none

/-- A hop count arrives: the lowest of its round stands. -/
def hopTake (p h : Nat) (s : State) : State :=
  s.upSp p fun q =>
    { q with hop := match q.hop with
               | some (g, at_) => if s.time ≤ at_ + 100000 then some (min g h, at_) else some (h, s.time)
               | none => some (h, s.time) }

/-- The port on which the lowest hop count arrived, SP0 before SP1 before SP2. -/
def State.upPort? (s : State) : Option Nat :=
  ((List.range 3).filter fun p => (s.spHop p).isSome).foldl (fun b p =>
    match b with
    | none => some p
    | some q => if ((s.spHop p).getD 0) < ((s.spHop q).getD 0) then some p else b) none

/-- DISCOVERY_FRAME. One that changes the table of this device is a wake source (R451). -/
def execDiscoveryFrame (p : Fin 3) (domain : BitVec 8) (f : SeamDisc) (s : State) : Host.Outcome State Fault Refusal :=
  .next <|
    let p := p.val
    if !s.seamUp p then s
    else if domain.toNat ≠ s.get SEAM_CFG__DOMAIN then s.putB (SEAM_PORT_STAT__DOMAIN_MISMATCH p) true
    else
      let root := s.on SEAM_CFG__ROOT
      match f with
      | .hop h lo hi far =>
        let s := linkJudge p (s.upSp p fun q => { q with far := some far })
        if root then
          if lo = s.rd DEV_SERIAL_LO ∧ hi = s.rd DEV_SERIAL_HI then s
          else (s.when (!s.seam.two && s.seam.cur.any fun n => n.refuse != 4) (wake 7)).upSeam fun m => { m with two := true }
        else
          let s := (hopTake p h.toNat s).upSp p fun q => { q with path := true }
          let s := hopSend (some p) (h.toNat + 1) lo hi s
          s.emit (.seam p 1 (seamReply (s.ownReply h)))
      | .reply d =>
        if root then
          let s := s.when (!s.seam.last.contains d && !s.seam.devs.contains d) (wake 7)
          s.upSeam fun m => { m with devs := (m.devs.filter fun e => !(e.lo == d.lo && e.hi == d.hi)) ++ [d] }
        else match s.upPort? with
          | some q => s.emit (.seam q 1 (seamReply d))
          | none => s
      | .table ring nodes =>
        if root ∨ s.upPort? ≠ some p then s
        else
          let s := s.when (nodes != s.seam.cur) (wake 7)
          seamFlood (some p) 2 (nodes.map fun n => n.lo.toNat) (tableRound nodes ring s)

/-- Show the table in SEAM_NODEi, i from 0 to 1023. -/
def nodesShow (t : List SeamNode) (s : State) : State :=
  s.each (List.range (min 1024 (max t.length s.seam.cur.length))) fun i s =>
    match t[i]? with
    | some n =>
      let w := BitVec.ofNat 32 (n.hops % 64 + n.port % 4 * 2 ^ 6 + n.parent % 1024 * 2 ^ 8 + 2 ^ 18 + (if n.refuse = 0 then 2 ^ 19 else 0) +
        n.refuse % 16 * 2 ^ 20)
      ((s.wr (SEAM_NODE_INFO i) w).wr (SEAM_NODE_SER_LO i) n.lo).wr (SEAM_NODE_SER_HI i) n.hi
    | none => ((s.wr (SEAM_NODE_INFO i) 0).wr (SEAM_NODE_SER_LO i) 0).wr (SEAM_NODE_SER_HI i) 0

/-- The table and its admission take effect on this device. -/
def topoApply (t : List SeamNode) (s : State) : State :=
  let self := t.findIdx? fun n => n.lo == s.rd DEV_SERIAL_LO && n.hi == s.rd DEV_SERIAL_HI
  let s := (nodesShow t s).upSeam fun m => { m with cur := t }
  let was := s.on SEAM_STATUS__JOINED
  let refuse := match self.bind fun i => t[i]? with | some n => n.refuse | none => 4
  let s := (s.put SEAM_STATUS__REFUSE refuse).putB SEAM_STATUS__ROOT (s.on SEAM_CFG__ROOT)
  let s := s.putB SEAM_STATUS__RING_BROKEN ((s.on SEAM_STATUS__RING || s.on SEAM_STATUS__RING_BROKEN) && !s.seam.ring)
  let s := s.putB SEAM_STATUS__RING s.seam.ring
  match self.bind fun i => (t[i]?).map fun n => (i, n) with
  | none =>
    let s := ((s.putB SEAM_STATUS__JOINED false).put SEAM_STATUS__NODE 0x3FF).put SEAM_STATUS__HOPS 0
    seamEvent 3 0 4 (alignStop (s.each (List.range 3) fun p s => s.putB (SEAM_PORT_STAT__ADMITTED p) false))
  | some (i, n) =>
    let s := ((s.put SEAM_STATUS__NODE (min i 0x3FF)).put SEAM_STATUS__HOPS n.hops).put SEAM_STATUS__PARENT n.port
    let s := s.each (List.range 3) fun p s =>
      let s := s.putB (SEAM_PORT_STAT__ADMITTED p) (s.linkAdmitted t i p)
      if s.seamUp p then s.put (SEAM_PORT_STAT__LINK p) (if refuse = 0 then 2 else 3) else s
    if refuse = 0 then
      let s := s.when (!was) fun s => s.upSeam fun m => { m with stepped := false }
      seamEvent 2 0 (i + n.hops * 2 ^ 16) (s.putB SEAM_STATUS__JOINED true)
    else seamEvent 3 0 refuse (alignStop (s.putB SEAM_STATUS__JOINED false))

/-- TOPOLOGY_SETTLED: three rounds agree. A device that has heard no root is refused with code 4. -/
def execTopologySettled (s : State) : Host.Outcome State Fault Refusal :=
  .next <|
    if s.seam.rounds < 3 then
      if s.seam.cand = [] ∧ s.get SEAM_STATUS__REFUSE ≠ 4 ∧ (List.range 3).any s.seamUp ∧ !s.on SEAM_STATUS__JOINED then
        seamEvent 3 0 4 (s.put SEAM_STATUS__REFUSE 4)
      else s
    else if s.seam.cand = s.seam.cur ∧ s.on SEAM_STATUS__RING = s.seam.ring then s
    else topoApply s.seam.cand s

/-! ## Trips (R452 to R456) -/

/-- An axis turns off softly on the trip of a group (R454). -/
def State.seamSoft (s : State) (g a : Nat) : Bool :=
  nbit (s.get (SEAM_TRIP_RX__SOFT g)) a && s.axState a != 6 && s.axState a != 5 && (s.axState a != 0 || (s.on SAF_STATUS__ARMED && s.sys.released))

/-- An axis acts on a trip; an axis in FAULT ignores it (R454). -/
def seamTripAxis (a : Nat) (soft latch : Bool) (s : State) : State :=
  if s.axState a = 6 then s
  else
    let s := s.when soft fun s => (s.upAx a fun x => { x with prot := true }).each (s.axLegs a) fun m s => legReq m 0 s
    enterSafe a 14 latch s

/-- Act on the trip of a group: the SOFT axes get trip words. -/
def seamTripAct (g : Nat) (s : State) : State :=
  let named := bitsOf 8 (s.get (SEAM_TRIP_RX__AXMASK g))
  (tripWords (named.filter (s.seamSoft g)) none s).each named fun a s => seamTripAxis a (s.seamSoft g a) (nbit (s.get (SEAM_TRIP_RX__LATCH g)) a) s

/-- Send a trip of this device on every admitted port. -/
def seamSend (groups : Nat) (s : State) : State :=
  let ps := s.seamPorts
  if ps = [] then s
  else
    let q := s.seam.txSeq
    let n := s.get SEAM_STATUS__NODE
    let s := s.each ps fun p s => s.emit (.seam p 3 [groups + 16 * q, n])
    s.upSeam fun m => { m with txSeq := (q + 1) % 16, trips := m.trips ++ [(n, q, s.time)] }

/-- SEAM_TRIP_ORIGINATE: the oldest trip due leaves. -/
def execSeamTripOriginate (s : State) : Host.Outcome State Fault Refusal :=
  .next <|
    match s.seam.due with
    | [] => s
    | _ :: rest => seamSend (s.get SEAM_TRIP_TX__GROUPS) (s.upSeam fun m => { m with due := rest })

/-- A trip is taken (R454): it is remembered, forwarded on the admitted ports but one, shown, raised with a port as its unit and
acted on; it is a wake source. -/
def tripTake (skip : Option Nat) (p groups seq origin : Nat) (s : State) : State :=
  let live := s.seam.trips.filter fun t => s.time ≤ t.2.2 + 20000
  let s := s.upSeam fun m => { m with trips := live ++ [(origin, seq, s.time)] }
  let s := s.each s.seamPorts fun q s => s.when (skip != some q) fun s => s.emit (.seam q 3 [groups + 16 * seq, origin])
  let s := ((s.put SEAM_TRIP_STAT__GROUPS groups).put SEAM_TRIP_STAT__SEQ seq).put SEAM_TRIP_STAT__ORIGIN origin
  let s := seamEvent 4 p (groups + seq * 2 ^ 4 + origin * 2 ^ 16) (s.bump SEAM_TRIP_STAT__COUNT)
  wake 7 (s.each (bitsOf 4 groups) seamTripAct)

/-- SEAM_TRIP_RX: a good trip set arrives; a copy within 100 µs of the first is discarded. -/
def execSeamTripRx (p : Fin 3) (groups seq : BitVec 4) (origin : BitVec 10) (s : State) : Host.Outcome State Fault Refusal :=
  .next <|
    let p := p.val
    if !s.seamPorts.contains p ||
        s.seam.trips.any (fun t => decide (s.time ≤ t.2.2 + 20000) && t.1 == origin.toNat && t.2.1 == seq.toNat) then s
    else tripTake (some p) p groups.toNat seq.toNat origin.toNat s

/-- The groups whose trip a device cut off from the root acts on. -/
def State.lossGroups (s : State) : Nat := ((List.range 4).map fun g => 2 ^ g * s.get (SEAM_TRIP_RX__ON_LOSS g)).sum

/-- ROOT_PATH_LOST (R456): the device acts as if one trip of the groups with ON_LOSS had been received, on the port of its
parent; the sequence and the origin of that trip are open (log 42). -/
def execRootPathLost (s : State) : Host.Outcome State Fault Refusal :=
  .next <|
    if !s.on SEAM_STATUS__JOINED || (s.on SEAM_CFG__ROOT && !s.seamPorts.isEmpty) || s.lossGroups == 0 then s
    else
      let f := s.fresh
      let g := f.2.fresh
      tripTake none (s.get SEAM_STATUS__PARENT) s.lossGroups (f.1 % 16) (g.1 % 1024) g.2

/-- RING_REPARENT: the neighbour on a port that still leads to the root becomes the parent (R459). -/
def execRingReparent (p : Fin 3) (s : State) : Host.Outcome State Fault Refusal :=
  .next <|
    let p := p.val
    if !s.on SEAM_STATUS__JOINED || s.on SEAM_CFG__ROOT || !s.on SEAM_STATUS__RING || !s.seamPorts.contains p ||
        !(s.sp p).path || s.get SEAM_STATUS__PARENT == p then s
    else alignStop (s.put SEAM_STATUS__PARENT p)

/-! ## Peer data (R460 to R463) -/

/-- The value of a source code for word w. -/
def State.peerSrc (s : State) (c w : Nat) : Word :=
  if c = 0 then s.rd (SEAM_PD_TX w)
  else if 0x10 ≤ c ∧ c < 0x18 then (if (s.isl (c - 0x10)).unheard then 0 else s.rd (GI_DCPS (c - 0x10)))
  else if 0x20 ≤ c ∧ c < 0x40 then s.rd (FM_CH_DATA (c - 0x20))
  else if 0x40 ≤ c ∧ c < 0x48 then s.rd (AX_STATE (c - 0x40))
  else if 0x48 ≤ c ∧ c < 0x50 then s.rd (AX_R0 (c - 0x48))
  else if c = 0x50 then s.rd SAF_LINK_STAT
  else if c = 0x51 then s.rd PWR_STATE
  else 0

/-- The node on the far end of a port: the device that a hop frame named there, else what the table says. -/
def State.neighbour (s : State) (p : Nat) : Option Nat :=
  let self := s.get SEAM_STATUS__NODE
  match (s.sp p).far.bind fun f => s.seam.cur.findIdx? fun n => n.lo == f.lo && n.hi == f.hi with
  | some i => some i
  | none =>
    if self ≠ 0 ∧ (s.seam.cur[self]?).any (fun n => n.port == p) then (s.seam.cur[self]?).map (·.parent)
    else s.seam.cur.findIdx? fun n => n.hops != 0 && n.parent == self && n.pport == p

/-- A peer frame joins a port's queue; a full queue drops its oldest frame. -/
def peerQueue (f : PeerFrame) (p : Nat) (s : State) : State :=
  if 16 ≤ (s.sp p).q.length then
    let s := (s.bump (SEAM_PORT_CNT__PEER_DROP p)).upSp p fun q => { q with q := q.q.drop 1 ++ [f] }
    seamEvent 7 p (s.get (SEAM_PORT_CNT__PEER_DROP p)) s
  else s.upSp p fun q => { q with q := q.q ++ [f] }

/-- A frame is remembered; one half the sequence back is forgotten, as its number comes again (R463, log 23). -/
def peerSeen (origin seq : Nat) (s : State) : State :=
  s.upSeam fun m => { m with seen := (m.seen.filter fun e => !(e.1 == origin && 2 ^ 15 ≤ (seq + 2 ^ 16 - e.2) % 2 ^ 16)) ++ [(origin, seq)] }

/-- PEER_PUBLISH: this device's window is due. -/
def execPeerPublish (s : State) : Host.Outcome State Fault Refusal :=
  .next <|
    if !s.on SEAM_PD_CFG__EN || !s.on SEAM_STATUS__JOINED then s
    else
      let n := s.get SEAM_PD_CFG__WORDS_M1 + 1
      let f : PeerFrame := { origin := s.get SEAM_STATUS__NODE, seq := s.seam.pdSeq, period := max 10 (s.get SEAM_PD_CFG__PERIOD),
                             words := (List.range n).map fun w => s.peerSrc (s.get (SEAM_PD_SRC__SRC (w / 4) (w % 4))) w }
      let s := peerSeen f.origin f.seq (s.upSeam fun m => { m with pdSeq := (m.pdSeq + 1) % 2 ^ 16 })
      s.each s.seamPorts (peerQueue f)

/-- Write the words of a window into a slot. -/
def slotWrite (k i : Nat) : List Word → State → State
  | [], s => s
  | w :: l, s => slotWrite k (i + 1) l (if i < 8 then s.wr (SEAM_PD_RX_W k i) w else s)

/-- PEER_FRAME_RX. -/
def execPeerFrameRx (p : Fin 3) (crcOk : Bool) (origin : BitVec 10) (seq period : BitVec 16) (ws : List Word) (s : State) :
    Host.Outcome State Fault Refusal :=
  .next <|
    let p := p.val
    let o := origin.toNat
    if !s.seamUp p then s
    else if !crcOk then s.bump (SEAM_PORT_CNT__CODE_ERR p)
    else if !s.seamPorts.contains p || s.get SEAM_STATUS__NODE == o || s.seam.seen.contains (o, seq.toNat) then s
    else
      let f : PeerFrame := { origin := o, seq := seq.toNat, period := period.toNat, words := ws.take 8 }
      let s := peerSeen o seq.toNat s
      let s := s.each s.seamPorts fun q s => if q = p ∨ s.neighbour q = some o then s else peerQueue f q s
      s.each (List.range 4) fun k s =>
        if !s.on (SEAM_PD_RXCFG__EN k) || s.get (SEAM_PD_RXCFG__ORIGIN k) != o then s
        else
          let s := slotWrite k 0 f.words s
          let s := ((s.put (SEAM_PD_RX_STAT__SEQ k) seq.toNat).putB (SEAM_PD_RX_STAT__VALID k) true).putB (SEAM_PD_RX_STAT__STALE k) false
          let s := s.upSeam fun m => { m with rx := m.rx.set k (some (s.time, period.toNat)) }
          s.when (s.on (SEAM_PD_RXCFG__WAKE k)) (wake 7)

/-- PEER_STALE: four periods have passed without a window. -/
def execPeerStale (slot : Fin 4) (s : State) : Host.Outcome State Fault Refusal :=
  .next <|
    let k := slot.val
    if !s.on (SEAM_PD_RXCFG__EN k) || s.on (SEAM_PD_RX_STAT__STALE k) || !s.on (SEAM_PD_RX_STAT__VALID k) then s
    else seamEvent 6 k (s.get (SEAM_PD_RXCFG__ORIGIN k)) (s.putB (SEAM_PD_RX_STAT__STALE k) true)

/-- AGE of a slot's window in µs. -/
def State.peerAge (s : State) (k : Nat) : Nat :=
  match s.seam.rx.getD k none with
  | some (t, _) => min 0x3FFF ((s.time - t) / 200)
  | none => 0

/-- One AON clock of the time base: 97.656 25 units of 5 ns, slewed by the alignment (02 R58, 15 R457). -/
def timeTick (s : State) : State :=
  s.upSys fun y => { y with timeAcc := y.timeAcc + (3125 * (2 ^ 20 + y.slew)).toNat }

/-- Each admitted port sends its oldest peer frame; what waits on another port is discarded (log 23). -/
def seamDrain (s : State) : State :=
  s.each (List.range 3) fun p s =>
    if !s.seamPorts.contains p then s.upSp p fun q => { q with q := [] }
    else match (s.sp p).q with
    | [] => s
    | f :: rest =>
      (s.upSp p fun q => { q with q := rest }).emit (.seam p 4 ([f.origin, f.seq, f.period] ++ f.words.map (·.toNat)))

end Sys2Proof.Machine
end

