-- ==== Sys2Proof/Machine/Tally.lean ====
section
/-! DEFINITION. Tally (16): overflow, the snapshot, samples, tags and the sample buffer. Counting stands in Ops.lean. -/

namespace Sys2Proof.Machine

def State.upTal (s : State) (f : TalS → TalS) : State := { s with tal := f s.tal }

/-- A tally event (R485). -/
def talEvent (b unit detail : Nat) (s : State) : State := raise (40 + b) unit detail (s.putBit TAL_EVENT__EVT b true)

/-- Raise TAL_OVERFLOW for each counter that overflowed (R468). -/
def talRaise (s : State) : State :=
  let s' := s.each s.tal.due fun i s => talEvent 0 i (s.get TAL_STATUS__FROZEN) s
  s'.upTal fun t => { t with due := [] }

/-- Occurrences of a counter's event in one cycle that pass PRIV, of those in M-mode and in U-mode (R473); the mode filters
events of classes 0 and 1 alone. -/
def State.talPriv (s : State) (n m u : Nat) : Nat :=
  let p := s.get (TAL_EVT__PRIV n)
  if 0x20 ≤ s.get (TAL_EVT__EVENT n) ∨ p = 0 then m + u else (if nbit p 0 then m else 0) + (if nbit p 1 then u else 0)

/-- TAL_OVERFLOW: events of a cycle that the model does not see, in M-mode and in U-mode, which pass a counter's other filters
(log 25), are counted, and overflows are raised. -/
def execTalOverflow (n : Fin 8) (inc : TalInc) (s : State) : Host.Outcome State Fault Refusal :=
  .next <|
    let n := n.val
    let before := s.tal.due.length
    let s := s.when (s.on TAL_CTRL__RUN && s.on (TAL_EVT__EN n) && !s.on TAL_STATUS__FROZEN) fun s =>
      talBump n (s.talPriv n inc.m.toNat inc.u.toNat) s
    let s := s.when ((s.tal.due.drop before).any fun i => s.on (TAL_EVT__OVF_STOP i)) fun s => s.putB TAL_STATUS__FROZEN true
    talRaise s

/-- LATCH: all counters into their snapshots (R470). -/
def talLatch (s : State) : State :=
  s.each (List.range 8) fun i s =>
    (s.wr (TAL_SNAP_LO i) (s.rd (TAL_CNT_LO i))).wr (TAL_SNAP_HI i) (s.rd (TAL_CNT_HI i))

/-- CLEAR: every counter and every OVF bit to 0 (R469). -/
def talClear (s : State) : State :=
  ((s.each (List.range 8) fun i s => s.putCnt i 0).put TAL_STATUS__OVF 0).upTal fun t => { t with due := [] }

/-- Entries in the buffer (R483). -/
def State.sampEntries (s : State) : Nat := (s.get TAL_SAMP_WR__WR + 512 - s.get TAL_SAMP_RD__RD) % 512

/-- FULL follows the indices. -/
def sampShow (s : State) : State :=
  let full := s.sampEntries == 256
  (s.putB TAL_SAMP_WR__FULL full).upTal fun t => { t with fullRaised := t.fullRaised && full }

/-- The words of a record into the buffer's entry. -/
def sampWords (e q : Nat) : List Word → State → State
  | [], s => s
  | w :: l, s => sampWords e (q + 1) l (s.wr (TAL_SAMP_W e q) w)

/-- A record of eight words enters the buffer (R484); its word 0 takes SEQ. -/
def sampPut (w0 : Nat) (ws : List Word) (s : State) : State :=
  let n := s.sampEntries
  if n = 256 ∧ !s.on TAL_SAMP_CFG__FULL_MODE then
    let s := s.bump TAL_SAMP_STAT__LOST
    if s.tal.fullRaised then s else talEvent 2 0 (s.get TAL_SAMP_STAT__SKIPPED) (s.upTal fun t => { t with fullRaised := true })
  else
    let s := s.when (n == 256) fun s => (s.put TAL_SAMP_RD__RD (s.get TAL_SAMP_RD__RD + 1)).bump TAL_SAMP_STAT__OVERWRITTEN
    let wr := s.get TAL_SAMP_WR__WR
    let s := sampWords (wr % 256) 0 (BitVec.ofNat 32 (w0 + s.tal.seq * 2 ^ 16) :: ws) s
    let s := (s.put TAL_SAMP_WR__WR (wr + 1)).upTal fun t => { t with seq := (t.seq + 1) % 2 ^ 16 }
    let s := sampShow s
    let lvl := 2 * s.get TAL_SAMP_CFG__LEVEL
    s.when (lvl != 0 && n < 256 && s.sampEntries == lvl) (talEvent 1 0 s.sampEntries)

/-- A source that samples selects only instructions that pass the PRIV mask and, with PC_EN = 1, have a pc in the range (R479);
`user` is the mode of the instruction. The sample of a source whose SRC_EN has been cleared is not judged (R481). -/
def State.sampPasses (s : State) (src : Nat) (user : Bool) (pc : Word) : Bool :=
  let p := s.get TAL_SAMP_CFG__PRIV
  src == 5 || !nbit (s.get TAL_SAMP_CFG__SRC_EN) src ||
    ((p == 0 || nbit p (b2n user)) &&
      (!s.on TAL_SAMP_CFG__PC_EN || decide (s.rd TAL_SAMP_PC_LO ≤ pc ∧ pc ≤ s.rd TAL_SAMP_PC_HI)))

/-- SAMPLE_END (R480, R481): `bits` are bits [9:3] of word 0, `ws` words 1 to 6, `skips` the selections that fell while the
sample was in flight. What R479 could not have selected changes nothing (log 25). -/
def execSampleEnd (src : Fin 6) (lost : Bool) (bits : BitVec 7) (skips : BitVec 16) (ws : Vector Word 6) (s : State) :
    Host.Outcome State Fault Refusal :=
  .next <|
    if !lost && !s.sampPasses src.val (bits.getLsbD 0) ws[0] then s
    else
      let s := s.bump TAL_SAMP_STAT__SKIPPED skips.toNat
      if lost then s.bump TAL_SAMP_STAT__LOST else sampPut (src.val + bits.toNat * 8) (ws.toList ++ [0]) s

/-- TAG_RECORD (R482): a tagged step of an engine completed or was discarded; `rep`, `late` and `sat` are its bits, and the
rest are its counts of cycles, MACs and steps ahead. -/
def execTagRecord (e : Fin 2) (a : Fin 8) (corr done rep late sat : Bool) (macs wait urdy xrdy queue : BitVec 16) (s : State) :
    Host.Outcome State Fault Refusal :=
  .next <|
    let a := a.val
    if !nbit (s.get TAL_TAG_CFG__EN) e.val || (corr && !s.on TAL_TAG_CFG__CORR) ||
        (s.on TAL_TAG_CFG__AXIS_EN && s.get TAL_TAG_CFG__AXIS != a) then s
    else
      let x := s.ax a
      let set := s.get (AX_STATUS__SET_IN_USE a)
      let two := fun (lo hi : Nat) => BitVec.ofNat 32 (lo + hi * 2 ^ 16)
      let w0 := 6 + e.val + b2n done * 2 ^ 4 + b2n rep * 2 ^ 6 + b2n late * 2 ^ 7 + b2n sat * 2 ^ 8
      sampPut w0 [
        two (a + b2n corr * 8) (s.get (AX_SAMPLE_CNT__COUNT a) % 2 ^ 16),
        two (s.nx a set % 16 + s.nu a set % 16 * 2 ^ 4 + s.ny a set % 16 * 2 ^ 8 + s.get (RED_CE_STAT__LANES e.val) * 2 ^ 12) macs.toNat,
        two wait.toNat urdy.toNat, two xrdy.toNat queue.toNat,
        BitVec.ofNat 32 x.time, BitVec.ofNat 32 (x.time / 2 ^ 32),
        BitVec.ofNat 32 (unsgn 8 x.x.e + unsgn 8 x.u.e * 2 ^ 8 + unsgn 8 x.e.e * 2 ^ 16)] s

/-! ## CSRs (R477, R478, 13 R390, R398; the counters' numbers are those of the RISC-V privileged architecture, log 51) -/

/-- A copy's counter n as 64 bits: 0 cycle, 1 time, 2 instret, 3 to 10 the tally's, and 0 from 11. -/
def State.hpmCnt (s : State) (n k : Nat) : Nat :=
  let c := (s.cp n).csr
  if k = 0 then c.cyc / 32 else if k = 1 then s.time else if k = 2 then c.inst else if k < 11 then s.talCnt (k - 3) else 0

/-- The value of a CSR, none for one whose value the spec does not give. mcause holds the cause of R390 and of R478; MEIP of mip is the machine
external interrupt of a rotation, a level held outside the pair (R398, R405); dpc is pc. -/
def State.csrVal (s : State) (n k : Nat) : Option Nat :=
  let c := (s.cp n).csr
  if 0xC00 ≤ k ∧ k < 0xC20 ∨ 0xB00 ≤ k ∧ k < 0xB20 ∧ k ≠ 0xB01 then some (s.hpmCnt n (k % 32))
  else if 0xC80 ≤ k ∧ k < 0xCA0 ∨ 0xB80 ≤ k ∧ k < 0xBA0 ∧ k ≠ 0xB81 then some (s.hpmCnt n (k % 32) / 2 ^ 32)
  else if k = 0x320 then some c.inh.toNat
  else if k = 0x306 then some c.cen.toNat
  else if 0x323 ≤ k ∧ k < 0x340 then some 0
  else if k = 0x7C1 then (s.slotOf n).map fun w => s.red.krst.getD w 0
  else if k = 0x342 then some (s.cp n).cause
  else if k = 0x344 then some (2 ^ 11 * s.get (RED_CP_STAT__YIELD_REQ n))
  else if k = 0x7B1 then some (dword (s.cp n).regs 31).toNat
  else (csrHeld.findIdx? (· == k)).map fun i => (dword (s.cp n).regs (32 + i)).toNat

/-- A debugger reads a CSR; one that the spec does not describe is free (log 2). -/
def csrRead (n k : Nat) (s : State) : State :=
  match s.csrVal n k with
  | some v => s.upCp n fun c => { c with data0 := BitVec.ofNat 32 v }
  | none => s.fresh.2.upCp n fun c => { c with data0 := BitVec.ofNat 32 s.fresh.1 }

/-- A CSR is written: KGRP, mcycle, minstret and their high halves, mcountinhibit bits 0 and 2, mcounteren, mcause and the CSRs that a copy holds;
others ignore it. -/
def csrWrite (n k : Nat) (v : Word) (s : State) : State :=
  if k = 0x7C0 then kgrpPut n (v == 1) s
  else if k = 0x342 then s.upCp n fun c => { c with cause := v.toNat }
  else s.upCp n fun c =>
    let c := { c with regs := regsCsr k v c.regs }
    let q := c.csr
    let low := fun (x : Nat) => x / 2 ^ 32 % 2 ^ 32 * 2 ^ 32 + v.toNat
    let high := fun (x : Nat) => v.toNat * 2 ^ 32 + x % 2 ^ 32
    { c with csr :=
        if k = 0xB00 then { q with cyc := 32 * low (q.cyc / 32) + q.cyc % 32 }
        else if k = 0xB80 then { q with cyc := 32 * high (q.cyc / 32) + q.cyc % 32 }
        else if k = 0xB02 then { q with inst := low q.inst }
        else if k = 0xB82 then { q with inst := high q.inst }
        else if k = 0x320 then { q with inh := v &&& 5 }
        else if k = 0x306 then { q with cen := v }
        else q }

/-- A U-mode read of a CSR is allowed: a counter whose bit of mcounteren is 1 (R478). -/
def State.userMay (s : State) (n k : Nat) : Bool :=
  ((0xC00 ≤ k && k < 0xC20) || (0xC80 ≤ k && k < 0xCA0)) && ((s.cp n).csr.cen.getLsbD (k % 32))

/-- The counter CSRs over one AON clock: 9,375 / 32 cycles of PLL-A at 600 MHz, and as many retired instructions as the pair made
of them (a free value, log 51). -/
def csrTick (n : Nat) (s : State) : State :=
  if !s.coreClk then s
  else
    let k := s.fresh.1 % 294
    let runs := s.pairRuns n
    s.fresh.2.upCp n fun c =>
      let q := c.csr
      { c with csr := { q with cyc := if q.inh.getLsbD 0 then q.cyc else (q.cyc + 9375) % 2 ^ 69,
                               inst := if q.inh.getLsbD 2 || !runs then q.inst else (q.inst + k) % 2 ^ 64 } }

end Sys2Proof.Machine
end

