-- ==== Sys2Proof/Machine/Clocks.lean ====
section
/-! DEFINITION. Clocks, power states and resets (02), and the start of firmware (14 R432). The commands that carry out
register accesses held at a port stand in Release.lean. -/

namespace Sys2Proof.Machine

/-! ## The crystal (R51 to R53) -/

/-- The trim code follows the loop while it steers; its values are open (log 2). -/
def trimStep (s : State) : State :=
  if s.on CLK_STATUS__AON_SRC then s.fresh.2.put CLK_STATUS__RC_TRIM s.fresh.1 else s

/-- CRYSTAL_LOST. -/
def execCrystalLost (s : State) : Host.Outcome State Fault Refusal :=
  .next <|
    if !s.sys.xtal then s
    else
      let s := (trimStep s).putB CLK_STATUS__AON_SRC false
      raiseFree 0 0 ((s.putB CLK_STATUS__XTAL_RUN false).putB CLK_EVENT__XTAL_LOST true)

/-- XTAL_LOCKED. -/
def execXtalLocked (s : State) : Host.Outcome State Fault Refusal :=
  .next <|
    if !s.sys.xtal then s
    else ((s.putB CLK_STATUS__XTAL_RUN true).putB CLK_STATUS__AON_SRC true).putB CLK_EVENT__XTAL_LOCKED true

/-! ## Fast clocks (R55 to R57, 08 R256) -/

/-- What stops with PLL-B. -/
def pllBStop (s : State) : State :=
  fastFormStop (pmPeriod (alignStop (piClockStop (fastStop (counterPllB (s.putB CLK_STATUS__PLLB_LOCK false))))))

/-- What starts with PLL-B. -/
def pllBStart (s : State) : State := pmPeriod (counterPllB (s.putB CLK_STATUS__PLLB_LOCK true))

/-- Both PLLs have locked, at t3 of a start or of a wake (R63, R69). -/
def clocksStart (s : State) : State :=
  pllBStart ((s.putB CLK_STATUS__PLLA_LOCK true).upSys fun y => { y with relockA := 0, relockB := 0, lostA := false, lostB := false })

/-- t3 of the power-on sequence: both PLLs lock and the ports start to train (R69). -/
def startLock (s : State) : State :=
  (clocksStart s).each (List.range 4) fun p s => s.when (s.on (HP_CFG__EN p) && !(s.port p).perst && !s.on (HP_LINK__UP p)) fun s =>
    s.upPort p fun q => { q with training := true }

/-- t3 is still to come in the start under way. -/
def State.lockDue (s : State) : Bool :=
  s.get PWR_BOOT_STATUS__PHASE == 2 && !s.sys.lostA && !s.sys.lostB && !(s.on CLK_STATUS__PLLA_LOCK && s.on CLK_STATUS__PLLB_LOCK)

/-- t3 of the start has passed (R69). -/
def State.clocksRan (s : State) : Bool := decide (3 ≤ s.get PWR_BOOT_STATUS__PHASE) || (s.get PWR_BOOT_STATUS__PHASE == 2 && !s.lockDue)

/-- PLL_UNLOCK: the clock is withdrawn and every axis in CATCH, RUN or HOLD enters SAFE. -/
def execPllUnlock (pll : Pll) (s : State) : Host.Outcome State Fault Refusal :=
  .next <|
    let live := match pll with | .a => s.on CLK_STATUS__PLLA_LOCK | .b => s.on CLK_STATUS__PLLB_LOCK
    if !live || s.get PWR_STATE__STATE < 2 then s
    else
      let axes := (List.range 8).filter s.axLive
      let s := match pll with
        | .a => raiseFree 1 0 (((s.putB CLK_STATUS__PLLA_LOCK false).putB CLK_EVENT__PLLA_UNLOCK true).upSys fun y => { y with relockA := 0, lostA := true })
        | .b => raiseFree 2 0 ((s.putB CLK_STATUS__PLLB_LOCK false).putB CLK_EVENT__PLLB_UNLOCK true |>.upSys fun y => { y with relockB := 0, lostB := true })
      let s := s.each axes fun a s => enterSafe a 7 false s
      match pll with
      | .a => s
      | .b => pllBStop s

/-- A relock attempt ends; after three failures the device enters device-SAFE. Held accesses are carried out by the
caller. -/
def pllRelock (pll : Pll) (ok : Bool) (s : State) : State :=
  match pll with
  | .a =>
    if !s.sys.lostA || 3 ≤ s.sys.relockA then s
    else if ok then (s.putB CLK_STATUS__PLLA_LOCK true).upSys fun y => { y with relockA := 0, lostA := false }
    else
      let s := s.upSys fun y => { y with relockA := y.relockA + 1 }
      s.when (s.sys.relockA == 3) (faultRecord 0x14 5 13 0 0)
  | .b =>
    if !s.sys.lostB || 3 ≤ s.sys.relockB then s
    else if ok then (pllBStart s).upSys fun y => { y with relockB := 0, lostB := false }
    else
      let s := s.upSys fun y => { y with relockB := y.relockB + 1 }
      s.when (s.sys.relockB == 3) (faultRecord 0x14 5 13 0 1)

/-! ## Descent (R61) -/

/-- The first condition of a descent that fails; `c` is the context whose POWER_REQ asks for it. -/
def State.descentRefuse (s : State) (target : Nat) (c : Option Nat) : Nat :=
  let sleep := target == 0
  let quiet := (List.range 8).all fun a => s.axState a == 0 || 5 ≤ s.axState a || (s.axState a == 1 && !sleep)
  let rings := (List.range 256).all fun k =>
    let left := (s.get (HP_CTX_STATE__TAIL k) + 4096 - s.get (HP_CTX_STATE__HEAD k)) % 2 ^ s.get (HP_CTX_CFG__SIZE_LOG2 k)
    left == (if c == some k then 1 else 0)
  let dma := (List.range 16).all fun n => s.dmaState n != 1 && s.dmaState n != 2
  let ports := (List.range 4).all fun p => !s.on (HP_LINK__UP p) ||
    (if sleep then s.get (HP_LINK__LPM p) == 4 else (1 ≤ s.get (HP_LINK__LPM p) && s.get (HP_LINK__LPM p) ≤ 3))
  if !quiet || (List.range 24).any s.legSwitching then 1
  else if sleep && (List.range 3).any (fun p => s.on (SEAM_PORT_CFG__EN p)) then 2
  else if s.rd PWR_WAKE_CAUSE != 0 then 3
  else if !rings || !dma then 4
  else if s.vq != [] || s.vheld != [] then 5
  else if s.on RED_STATUS__DEBUG then 6
  else if s.seqBusy then 7
  else if !ports then (if sleep then 9 else 8)
  else 0

/-- The cores stop where they stand; what they held is lost with them. -/
def coresStop (s : State) : State := s.each (List.range 5) pairDrop

/-- A descent is abandoned: the cores restart from the checkpoint, as on a wake (R61). Contexts then fetch by the caller. -/
def descentAbandon (s : State) : State :=
  (coresStop (s.putB PWR_STATE__DESCENDING false)).upSys fun y => { y with descent := none, waking := false, entry := y.released }

/-- The descent ends in its target state. -/
def descentEnd (s : State) : State :=
  let s := pllBStop ((coresStop s).putB CLK_STATUS__PLLA_LOCK false)
  let s := (s.putB PWR_STATE__DESCENDING false).put PWR_STATE__STATE (s.get PWR_CTRL__TARGET)
  pmPower (s.upSys fun y => { y with descent := none, lostA := false, lostB := false })

/-! ## Wake (R62, R63) -/

/-- WAKE_SOURCE. -/
def execWakeSource (src : Fin 16) (s : State) : Host.Outcome State Fault Refusal :=
  .next (if 8 ≤ src.val ∧ src.val ≠ 15 then s else wake src.val s)

/-- Write-backs held at a port are made, where it may make them (R61). -/
def wbFlush (p : Nat) (s : State) : State :=
  if s.on (HP_LINK__UP p) && s.on (HP_LINK__BME p) && decide (s.get (HP_LINK__LPM p) < 4) then
    ((s.port p).wbHeld.foldl (fun s w => s.emit (.memWrite p w.1 w.2)) s).upPort p fun q => { q with wbHeld := [] }
  else s

/-- t3 of a wake: the clocks are released. Held accesses and descriptor reads are the caller's. -/
def wakeLocked (s : State) : State :=
  let s := clocksStart s
  let s := (s.put PWR_STATE__STATE 2).upSys fun y => { y with waking := false, entry := y.released }
  let s := pmPower (updatePower s)
  s.each (List.range 4) wbFlush

/-- WAKE_TIMER_EXPIRY: the timer is one-shot. -/
def execWakeTimerExpiry (s : State) : Host.Outcome State Fault Refusal :=
  .next <|
    if !s.sys.wakeTimer then s else wake 2 (s.upSys fun y => { y with wakeTimer := false })

/-! ## Warm reset (R67, R68, 04 R120, 05 R149, 06 R160) -/

/-- Registers outside the AON domain that show what a reset does not change: the islands' status, the interlock's
outputs, the comparators, converters and the crossbar (log 30). -/
def warmLive (a : Nat) : Bool :=
  (0x24000 ≤ a && a < 0x26000 && (a % 0x400 == 0 || a % 0x400 == 0x10 || (0x100 ≤ a % 0x400 && a % 0x80 == 0x20))) ||
    (0x30010 ≤ a && a ≤ 0x30038)

/-- A register's word after a warm reset: its reset word with its PV bits kept, for a register that the reset reaches. -/
def warmWord (a : Nat) (w : Word) : Word :=
  match findRow a with
  | some (r, _, _) =>
    if !r.warm || warmLive a then w
    else
      let keep := BitVec.ofNat 32 r.pv
      let keep := if 0x20000 ≤ a && a < 0x21800 && a % 0x100 == 0x64 then keep ||| 0xC0#32
        else if 0x31000 ≤ a && a < 0x31800 && a % 0x40 == 0x24 then keep ||| 0x3F01F7#32
        else if 0x10000 ≤ a && a < 0x18000 && a % 0x1000 == 0xA0 then keep ||| 0x3FFFC000#32 else keep
      (w &&& keep) ||| (resetWord a &&& ~~~keep)
  | none => w

/-- The contexts stop at the reset instant; descriptors in execution are marked INTERRUPTED (04 R120). -/
def ctxsReset (s : State) : State :=
  let s := s.each (s.ctxs.map (·.1)) fun c s =>
    match (s.ctx c).exec with
    | some e =>
      let s := bankLoadEnd e.words e.phase 6 s
      ((s.putB (HP_CTX_LEDGER0__INTERRUPTED c) true).put (HP_CTX_LEDGER2__CODE c) 6).put (HP_CTX_LEDGER2__DETAIL c) 5
    | none => s
  { s with ctxs := [] }

/-- What an axis keeps through a warm reset: its safe state, its causes and what the islands are still to be told. -/
def AxisS.warm (x : AxisS) : AxisS :=
  { latched := x.latched, winFired := x.winFired, prot := x.prot, safeDone := x.safeDone, didtLow := x.didtLow, didtHigh := x.didtHigh,
    forced := x.forced, why := x.why, whyLatched := x.whyLatched, ov2Asc := x.ov2Asc, ov2Off := x.ov2Off, lossOff := x.lossOff, causes := x.causes,
    hold := x.hold, clearDue := x.clearDue }

/-- A queued commit that nothing waits for. -/
def VCommit.untag (c : VCommit) : VCommit := { word := c.word, value := c.value }

/-- Every unit outside the AON domain and the seam takes its reset state. DESIGN CHOICE (log 35): a DMA descriptor that is cut
leaves the bank it wrote as it was. -/
def unitsReset (s : State) : State :=
  let s := s.when s.red.svc.isSome (svcEnd 5)
  let s := { s with regs := s.regs.foldl (fun m (e : Nat × Word) => sset resetWord m e.1 (warmWord e.1 e.2)) s.regs }
  let s := s.each (List.range 8) fun a s => s.upAx a AxisS.warm
  let s := { s with legs := s.legs.filterMap fun (e : Nat × LegS) =>
    if e.2.dead = 0 ∧ e.2.bast = [] then none else some (e.1, { dead := e.2.dead, bast := e.2.bast }) }
  let fcs := s.fcs.filterMap fun (e : Nat × FcS) => if e.2.heldA || e.2.heldB then some (e.1, ({ heldA := e.2.heldA, heldB := e.2.heldB } : FcS)) else none
  let s := { s with fcs := fcs }
  let s := { s with vq := s.vq.map VCommit.untag, pairs := [], pis := [], pmIns := [], pm := {}, dmas := [], tal := {}, cps := [], voteFail := [],
                    vheld := s.vheld.filter fun e => match e.1 with | .host _ => true | .firmware _ => false }
  let s := { s with red := { s.red with takes := [], rot := 0, rotReq := none } }
  let s := { s with vs := { s.vs with act := s.vs.act.map fun (a : Nat × Option Nat) => (a.1, none), stgCtx := none, boot := 0, due := 0, hdr := [], payload := [] } }
  let s := s.when (s.on VLT_STG_STAT__BUSY && s.vs.act.isNone && !s.vs.copying) fun s => s.putB VLT_STG_STAT__BUSY false
  let s := s.each (List.range 4) fun p s => s.upPort p fun q => { q with wbHeld := [], wakeN := false }
  s.upSys fun y => { y with held := y.held.filter fun h => h.1 < 8, lostA := false, lostB := false, arb := {}, descent := none, waking := false, entry := false, released := false, drr := 0, drrOpen := false,
                            pairsReset := false }

/-- A warm reset with its cause bit of PWR_RESET_CAUSE. The device goes on from t2 of the power-on sequence. -/
def warmDo (bit : Nat) (s : State) : State :=
  let s := s.wr PWR_RESET_CAUSE (fieldSet (s.rd PWR_RESET_CAUSE) bit 1 1)
  let s := ctxsReset s
  let s := s.each (List.range 8) fun a s => s.upAx a fun x => { x with req := none }
  let s := s.each (List.range 8) fun a s =>
    if 1 ≤ s.axState a ∧ s.axState a ≤ 4 then enterSafe a 15 false s
    else if s.axState a = 0 then (closeUndo a s).putB (AX_STATE__CLOSING a) false
    else s.when (s.axState a == 5 || s.axState a == 6) fun s => s.putB (AX_STATE__RST_HOLD a) true
  let s := unitsReset s
  let s := (s.putB RED_STATUS__DSAFE false).putB VLT_IMG_KEY__VALID false
  let s := s.each (List.range 5) fun n s => s.putB (RED_CP_STAT__YIELD_REQ n) false
  let s := s.when (s.on RED_STATUS__DMA_OUT) fun s => s.each (List.range 16) fun n s => dmaSet n 4 0 s
  let s := s.each (List.range 8) fun i s => (giCfgChange i s).upIsl i fun l => { l with unheard := true }
  let s := (s.put PWR_BOOT_STATUS__PHASE 1).put PWR_BOOT_STATUS__FAIL_CODE 0
  let s := (s.put PWR_STATE__STATE 2).putB PWR_STATE__DESCENDING false
  (pmPeriod s).each (List.range 8) updateSafHold

/-- WARM_ENTRY_CHECK: the cores resume from the escrow checkpoint, a restoration of each slot (13 R398), or the device performs a warm
reset. -/
def execWarmEntryCheck (checkpointOk imageOk : Bool) (s : State) : Host.Outcome State Fault Refusal :=
  .next <|
    if !s.sys.entry then s
    else if !(checkpointOk && imageOk && (List.range 4).all fun w => s.ckptOk w (s.get (RED_WS_CKPT__NEWEST w))) then warmDo 3 s
    else
      (s.each (List.range 4) fun w s => s.when (s.get (slotPair w) != 7) fun s =>
        krstCount w (ckptApply w (s.get (RED_WS_CKPT__NEWEST w)) (s.get (slotPair w)) s)).upSys fun y => { y with entry := false }

/-- DSAFE_DELAY_EXPIRY (13 R415). -/
def execDsafeDelayExpiry (s : State) : Host.Outcome State Fault Refusal :=
  .next (if s.on RED_STATUS__DSAFE && s.on RED_CFG__DSAFE_RST then warmDo 4 s else s)

/-! ## Power-on reset (R65, R66, 14 R421) -/

/-- A word after a commit of `v` that a power-on reset cut at a point n: in copy A, between the copies, in copy B, or after
both. -/
def VWord.cut (x : VWord) (n : Nat) (v : Word) : VWord :=
  if n = 1 then { a := x.a, b := x.read, aBad := true, bBad := x.aBad && x.bBad }
  else if n = 2 then { a := v, b := x.b, bBad := x.bBad }
  else if n = 3 then { a := v, b := x.b, bBad := true }
  else .of v

/-- A commit that a power-on reset cuts leaves the old value, where it had not begun or was in copy A, or the new one (R421). -/
def vaultCut (s : State) : State :=
  match s.vq with
  | [] => s
  | c :: _ =>
    let n := s.fresh.1 % 5
    let s := { s.fresh.2 with vq := [] }
    if n = 0 then s
    else
      let one := fun (w : Nat) (v : Word) (s : State) => wearAdd w none (s.vaultSet w ((s.vaultAt w).cut n v))
      (one c.word c.value s).when (ownWord c.word) fun s => one 152 (s.vaultRd 152 + 1) s

/-- An island that has lost its link to a controller in reset (R66, 09 R264, R278): channels that are on turn off through their
profile, and a turn-off under way runs on. Its leg words show again when its link is back; the hold states are gone. -/
def IslandS.cut (x : IslandS) (words : List Word) : IslandS :=
  if x.sup = 0 then {}
  else { legW := words, sup := x.sup, chs := x.chs.map fun c => if c = 3 then 4 else if c = 1 ∨ c = 2 then 5 else c, heldOff := x.heldOff, soft := x.soft }

/-- The leg words that an island goes on with: latches and soft turn-offs lie in the island. -/
def State.islandWords (s : State) (i : Nat) : List Word :=
  if (s.isl i).legW != [] then (s.isl i).legW
  else [0, 1, 2].map fun x => let f := GI_L_STATUS__HOLD i x; fieldSet (s.rd (GI_L_STATUS i x)) f.lo f.width 0

/-- Power-on reset: everything but the vault, the fuses, the islands and the pins takes its reset state. -/
def porDo (pin : Bool) (s : State) : State :=
  let s := vaultCut s
  let r : State :=
    { State.reset with
      pending := s.pending, vault := s.vault, wear := s.wear, out := s.out, free := s.free,
      ports := (s.ports.filter fun e => e.2.perst).map fun e => (e.1, { perst := true }),
      isls := (s.isls.map fun e => (e.1, e.2.cut (s.islandWords e.1))).filter fun e => e.2 != {},
      red := { fuse := s.red.fuse }
      vs := { resWord := s.vs.resWord, idxLow := s.vs.idxLow } }
  let r := r.wr VLT_KEY_STAT (s.rd VLT_KEY_STAT)
  r.putB (if pin then PWR_RESET_CAUSE__POR_PIN else PWR_RESET_CAUSE__SUPPLY) true

/-- POWER_ON_RESET: by the POR_N pin, or by the rail monitor. -/
def execPowerOnReset (pin : Bool) (s : State) : Host.Outcome State Fault Refusal := .next (porDo pin s)

/-- RAIL_UNDERVOLTAGE. -/
def execRailUndervoltage (s : State) : Host.Outcome State Fault Refusal := .next (porDo false s)

/-! ## Start-up (R69, R70) -/

/-- POR_RELEASE: the AON domain starts on its factory trim; BOOT_SEL is sampled. The device's own constants show. DESIGN CHOICE
(log 33): where no reset has set a cause, POR_PIN shows. -/
def execPorRelease (bootSel : Bool) (s : State) : Host.Outcome State Fault Refusal :=
  .next <|
    if s.get PWR_BOOT_STATUS__PHASE ≠ 0 then s
    else
      let s := (s.put PWR_BOOT_STATUS__PHASE 1).putB PWR_BOOT_STATUS__SOURCE bootSel
      let s := s.when (s.rd PWR_RESET_CAUSE == 0) fun s => s.putB PWR_RESET_CAUSE__POR_PIN true
      let s := s.put CLK_STATUS__RC_TRIM (Config.fuse 0)
      let s := (s.wr DEV_SERIAL_LO (BitVec.ofNat 32 (Config.fuse 1))).wr DEV_SERIAL_HI (BitVec.ofNat 32 (Config.fuse 2))
      let s := s.wr VLT_KEY_STAT (s.rd VLT_KEY_STAT ||| BitVec.ofNat 32 (Config.fuse 3 % 2 ^ 16))
      s.each (List.range 15) fun i s => s.wr (VLT_IDPUB i) (dword (leWords (idPublic rootSecret)) i)

/-- Load the registers of a row from the vault. -/
def loadRow (r : RegRow) (s : State) : State :=
  s.each (List.range (if r.vstride = 0 then 1 else r.n1)) fun i s =>
    let a := r.addr + r.s1 * i
    let keep := BitVec.ofNat 32 r.pv
    s.wr a ((s.rd a &&& ~~~keep) ||| (s.vaultRd (r.vault + r.vstride * i) &&& keep))

/-- Words whose copies differ while both are good are repaired: copy B is written from A, which counts one commit of wear (R421). -/
def vaultMend (s : State) : State :=
  (s.vault.filter fun e => !e.2.aBad && !e.2.bBad && e.2.a != e.2.b).foldl (fun s e => wearAdd e.1 none (s.vaultWr e.1 e.2.a)) s

/-- A report under way goes on after a warm reset: its index is reserved anew, or none is left. DESIGN CHOICE (log 35). -/
def attResume (s : State) : State :=
  if !s.on VLT_ATT_STAT__BUSY then s
  else if s.on VLT_ATT_STAT__EXHAUSTED then s.putB VLT_ATT_STAT__BUSY false
  else if s.vq.any fun c => c.word < 64 then s
  else vqPush ((s.vs.resWord + 1) % 64) (BitVec.ofNat 32 (s.attRes + 256)) none s

/-- VAULT_LOAD_DONE: t2. Every V field holds its value, words whose copies differ are repaired, the sequencer arms where
it may, and after a power-on reset the crystal is started. -/
def execVaultLoadDone (s : State) : Host.Outcome State Fault Refusal :=
  .next <|
    if s.get PWR_BOOT_STATUS__PHASE ≠ 1 then s
    else
      let cold := !s.on VLT_STATUS__LOADED
      let s := (allRows.filter fun r => r.vault != 0).foldl (fun s r => loadRow r s) s
      let s := vaultMend s
      let s := (s.wr HP_OWN_GEN (s.vaultRd 152)).putB VLT_STATUS__LOADED true
      let last := (List.range 64).find? fun i => s.attRes != 0 && (s.vaultRd i).toNat == s.attRes
      let s := attResume (attIndex s.attRes { s with vs := { s.vs with resWord := last.getD s.vs.resWord } })
      let s := s.when cold fun s => s.upSys fun y => { y with xtal := s.on CLK_CFG__XTAL_EN, pciSub := s.rd DEV_PCI_SUB }
      let s := (s.each (List.range 24) dinCommit).put PWR_BOOT_STATUS__PHASE 2
      let s := ctFeedback (spbCompute s)
      let s := if s.armed then s else armAtStart s
      arraysShow (s.each (List.range 8) updateSafHold)

/-- The crossbar at the start: each fast channel has its own converter, or where that failed a reserve one. -/
def xbarStart (bad : List Nat) (s : State) : State :=
  let s := s.each (List.range 36) fun f s => s.put (fpStat f) (if bad.contains f then 2 else if f < 32 then 0 else 1)
  s.each (List.range 32) fun k s =>
    let f := if bad.contains k then (List.range 36).find? fun f => s.get (fpStat f) == 1 else some k
    match f with
    | some f => ((s.put (FM_CH_STATUS__FP k) f).put (FM_XBAR__FP (k / 4) (k % 4)) f).put (fpStat f) 0
    | none => s.upRed fun r => { r with noConv := r.noConv ++ [k] }

/-- A unit that failed the start-up self-test is recorded and set aside; a faulty row waits for its repair. -/
def startFail (u : Nat × Nat) (s : State) : State :=
  if u.1 = 0 then (wayFail u.2 s).when ((wayFail u.2 s).cacheBare (u.2 / 16)) (pairUnusable (u.2 / 16))
  else if 9 < u.1 then s
  else
    let s := bistFail u.1 u.2 s
    if 4 ≤ u.1 ∧ u.1 ≤ 6 then s else if u.1 = 7 then markOut 7 u.2 s else setAside u.1 u.2 s

/-- Units that are in service before the test. -/
def unitsStart (s : State) : State :=
  let s := s.each [0, 1] fun x s => s.when (s.red.unus.contains (8, x) || s.red.outs.contains (8, x)) fun s => s.put (pxState x) 3
  let s := s.each (List.range 5) fun n s =>
    s.when (s.cpState n != 6 && s.cpState n != 7) fun s => pairHold n none (s.put (RED_CP_STAT__STATE n) 1)
  let s := s.each (List.range 5) fun w s => s.put (slotPair w) 7
  s.each (List.range 2) fun e s =>
    if s.red.unus.contains (2, e) || s.red.outs.contains (2, e) then s
    else
      let ok := (List.range 9).foldl (fun m l => if s.red.unus.contains (3, 16 * e + l) || s.red.outs.contains (3, 16 * e + l) then m else m + 2 ^ l) 0
      let s := s.put (RED_CE_STAT__LANE_OK e) ok
      s.put (RED_CE_STAT__STATE e) (if s.lanesOk e < 6 then 1 else 0)

/-- START_SELF_TEST_DONE: t4; both PLLs have locked at t3, at the latest now. The boot ROM then seeks its image, on the lowest usable pair. -/
def execStartSelfTestDone (bad : List (Fin 16 × BitVec 16)) (s : State) : Host.Outcome State Fault Refusal :=
  .next <|
    if s.get PWR_BOOT_STATUS__PHASE ≠ 2 then s
    else
      let bad := bad.map fun u => (u.1.val, u.2.toNat)
      let s := s.when s.lockDue startLock
      let fps := (bad.filter fun u => u.1 == 7).map (·.2) ++ ((s.red.unus ++ s.red.outs).filter fun u => u.1 == 7).map (·.2)
      let s := xbarStart fps ((unitsStart s).upRed fun r => { r with noConv := [] })
      let s := bad.foldl (fun s u => startFail u s) s
      let s := arraysShow (pairsShow (pmPower s))
      let s := s.put PWR_BOOT_STATUS__PHASE 3
      match (List.range 5).find? fun n => s.cpState n < 6 with
      | none => s
      | some n =>
        let s := (s.put PWR_BOOT_STATUS__BOOT_PAIR n).wr VLT_BOOT_DIAG 0xFFFFFF
        if s.on VLT_STG_STAT__ACTIVATE then { s with vs := { s.vs with due := 3 } }
        else if s.on PWR_BOOT_STATUS__SOURCE then s.put PWR_BOOT_STATUS__PHASE 6
        else { s with vs := { s.vs with due := 1 } }

/-- FIRMWARE_RELEASE (14 R432): the payload goes to LOAD_OFS, the pairs start in their slots with a first checkpoint, and
the measurement is recorded. -/
def execFirmwareRelease (s : State) : Host.Outcome State Fault Refusal :=
  .next <|
    let v := s.vs
    if v.boot = 0 ∨ s.get PWR_BOOT_STATUS__PHASE ≠ 4 then s
    else
      let s := s.sramWrWords (dword v.hdr 5).toNat v.payload
      let s := assignSlots s
      let pc := dword v.hdr 5 + dword v.hdr 6
      let entry := List.replicate 31 0 ++ [pc]
      let s := s.each (List.range 4) fun w s => (ckptWrite w 0 (archWords entry {} 0) s).put (RED_WS_CKPT__COUNT w) 0
      let s := s.each (List.range 4) fun w s => s.when (s.get (slotPair w) != 7) fun s =>
        s.upCp (s.get (slotPair w)) fun c => { c with regs := entry, cache := none }
      let s := (s.upRed fun r => { r with krst := [0, 0, 0, 0] })
      let s := (((List.range 8).zip (sha256 v.hdr)).foldl (fun s e => s.wr (VLT_MEAS e.1) e.2) s).wr VLT_IMG_INFO (dword v.hdr 3)
      let s := (s.put VLT_IMG_KEY__SLOT v.key).putB VLT_IMG_KEY__VALID true
      let s := s.when (v.boot != 3) fun s => s.putB PWR_BOOT_STATUS__SLOT (v.boot == 2)
      let s := (s.put PWR_BOOT_STATUS__FAIL_CODE 0).put PWR_BOOT_STATUS__PHASE 5
      let s := { s with vs := { s.vs with boot := 0, build := (v.hdr.drop 16).take 8, hdr := [], payload := [] } }
      let s := s.upSys fun y => { y with released := true }
      let s := newChallenge s
      s.each (List.range 3) fun p s =>
        s.when (s.on (SEAM_PORT_CFG__EN p) && s.get (SEAM_PORT_STAT__LINK p) == 0) fun s => s.put (SEAM_PORT_STAT__LINK p) 1

end Sys2Proof.Machine
end

