-- ==== Sys2Proof/Machine/Hosts.lean ====
section
/-! DEFINITION. Host ports: links and their loss, configuration requests, and the transfer of stewardship (03 R75 to
R77, R91, R95, R96). -/

namespace Sys2Proof.Machine

/-- An event of a port: its bit of HP_EVENT and its source. -/
def hpEvent (f : FieldRef) (p src : Nat) (s : State) : State := raiseFree src p (s.putBit f p true)

/-! ## Stewardship (R91) -/

/-- A pending transfer is abandoned, unless its commit is under way. -/
def xferAbandon (s : State) : State :=
  if !s.on HP_STEWARD__XFER_PENDING || s.vqHas 160 then s
  else
    let s := (s.putB HP_STEWARD__XFER_PENDING false).putB HP_STEWARD__XFER_FAIL true
    raiseFree 8 0 (s.putB HP_EVENT__STEWARD_CHANGED true)

/-- A write of HP_STEWARD_XFER by the steward; the link of the target is up. -/
def xferWrite (target : Nat) (go : Bool) (s : State) : State :=
  if !go then s
  else
    let s := xferAbandon s
    (s.putB HP_STEWARD__XFER_PENDING true).put HP_STEWARD__XFER_TARGET target

/-- A write of HP_STEWARD_ACCEPT by the target: the new steward is committed; its commit clears XFER_PENDING. -/
def xferAccept (p : Nat) (s : State) : State :=
  if s.on HP_STEWARD__XFER_PENDING && s.get HP_STEWARD__XFER_TARGET == p && !s.vqHas 160 then vqPush 160 (BitVec.ofNat 32 p) none s else s

/-- STEWARD_XFER_TIMEOUT: 1 s has passed; a commit under way decides the transfer. -/
def execStewardXferTimeout (s : State) : Host.Outcome State Fault Refusal :=
  .next (xferAbandon s)

/-! ## Losing a host (R95, R96) -/

/-- LOSS_ACT of an axis. -/
def lossAct (a : Nat) (s : State) : State :=
  let act := s.get (HP_OWN_AX__LOSS_ACT a)
  if s.axState a = 5 ∨ s.axState a = 6 ∨ act = 0 then s
  else if act = 1 then setpointWrite a 0 s
  else enterSafe a 8 false s

/-- The MSI-X table, the PBA and the vectors' counts of a port return to reset. -/
def msixClear (p : Nat) (s : State) : State :=
  { s with msix := s.msix.filter fun e => e.1 / 256 != p, pba := s.pba.filter fun e => e.1 / 64 != p,
           vecPend := s.vecPend.filter fun e => e.1 / 64 != p }

/-- A flush of the memory of host p that a descriptor waits for is treated as failed (R95 t1, 04 R120). -/
def flushFail (p c : Nat) (s : State) : State :=
  match (s.ctx c).exec with
  | some e => if e.port = p ∧ e.flush ≠ 0 then descDone c 5 0 (s.upExec c fun q => { q with flush := 0 }) else s
  | none => s

/-- Host p is lost: its port stops, and what happens to the port is latched in its sources, its own events too (R95). -/
def hostLoss (p : Nat) (kind : LossKind) (s : State) : State :=
  let s := s.when (kind == .perst) fun s => s.upPort p fun q => { q with perst := true, training := false }
  if !s.on (HP_LINK__UP p) then s
  else
    let hot := kind == .hotReset || kind == .flr
    let s := s.when (kind != .flr) fun s =>
      ((s.putB (HP_LINK__UP p) false).put (HP_LINK__SPEED p) 0).upPort p fun q =>
        { q with training := kind != .perst && s.on (HP_CFG__EN p) }
    let s := ((s.putB (HP_LINK__BME p) false).put (HP_LINK__DSTATE p) 0).put (HP_LINK__LPM p) 0
    let s := msixClear p (s.upPort p fun q => { q with mse := false, cfg := {}, wbHeld := [] })
    let s := s.upSys fun y => { y with held := y.held.filter fun h => h.1 != p }
    let s := s.putB (EV_RING_CFG__EN p) false
    let s := if hot then hpEvent HP_EVENT__HOT_RESET p 5 (s.bump (HP_RESETCNT__HOT p))
      else hpEvent HP_EVENT__LINK_DOWN p 4 (s.bump (HP_RESETCNT__DOWN p))
    let s := s.each (List.range 256) fun c s => s.when (s.ctxOwner c == p && (s.on (HP_CTX_CTRL__EN c) || (s.ctx c).stop != 0)) (ctxStopReq c 3)
    let s := s.each (s.ctxs.map (·.1)) (flushFail p)
    let s := dmaHostLoss p s
    let s := s.each (List.range 8) fun a s => s.when (s.axOwner a == p) (lossAct a)
    s.when (s.steward == p || s.get HP_STEWARD__XFER_TARGET == p) xferAbandon

/-- HOST_LOSS. -/
def execHostLoss (p : Fin 4) (kind : LossKind) (s : State) : Host.Outcome State Fault Refusal := .next (hostLoss p.val kind s)

/-- LINK_UP: an enabled port that trains; in SLEEP, in COAST-WATCH and during a descent no link comes up (02 R59). -/
def execLinkUp (p : Fin 4) (speed : Fin 4) (s : State) : Host.Outcome State Fault Refusal :=
  .next <|
    let p := p.val
    if !(s.port p).training || (s.port p).perst || !s.on (HP_CFG__EN p) || speed.val = 0 || !s.awake || s.on PWR_STATE__DESCENDING then s
    else
      let s := (s.putB (HP_LINK__UP p) true).put (HP_LINK__SPEED p) speed.val
      hpEvent HP_EVENT__LINK_UP p 3 (s.upPort p fun q => { q with training := false, wakeN := false })

/-- HPp_PERST_N rises: the port trains once the fast clocks have started, and a port with its link down wakes the
device (02 R62, R69). -/
def execPerstNDeassertion (p : Fin 4) (s : State) : Host.Outcome State Fault Refusal :=
  .next <|
    let p := p.val
    if !(s.port p).perst then s
    else
      let s := s.upPort p fun q => { q with perst := false, training := s.on (HP_CFG__EN p) && s.clocksRan }
      s.when ((!s.awake || s.on PWR_STATE__DESCENDING) && !s.on (HP_LINK__UP p)) (wake 0)

/-- A committed HP_CFG takes effect: a disabled port holds its link down, an enabled one trains. -/
def portCfg (p : Nat) (s : State) : State :=
  if !s.on (HP_CFG__EN p) then (hostLoss p .linkDown s).upPort p fun q => { q with training := false }
  else if s.on (HP_LINK__UP p) || (s.port p).perst then s
  else s.upPort p fun q => { q with training := s.clocksRan }

end Sys2Proof.Machine
end

