-- ==== Sys2Proof/Machine/Access.lean ====
section
/-! DEFINITION. Who may access what: the register windows (03 R78 to R82), the write rules of R85 to R87, and the clock
that a register needs (02 R57). A reason is a reason code of HP_DENY_INFO, 0 where the access is allowed. -/

namespace Sys2Proof.Machine

/-- The owner code a writer acts under. -/
def Writer.code : Writer → Nat
  | .host p => p.val
  | .firmware _ => 8

/-- The owner of the axis a unit is bound to; the steward for an unbound unit. -/
def State.unitReason (s : State) (p : Nat) (axis : Option Nat) : Nat :=
  match axis with
  | some a => if s.axOwner a = p then 0 else 1
  | none => if s.steward = p then 0 else 2

/-- R85 for host p and a register of class `cls` with instance numbers i and j. -/
def State.hostReason (s : State) (p : Nat) (cls : WrClass) (i j : Nat) : Nat :=
  let own := fun (b : Bool) => if b then 0 else 1
  let stw := if s.steward = p then 0 else 2
  match cls with
  | .steward | .safety | .spb | .vault | .ownTable => stw
  | .mMode | .pairCtrl => 3
  | .nobody | .hpEvent => 0
  | .accept => if s.get HP_STEWARD__XFER_TARGET = p then 0 else 2
  | .denial => own (i == p)
  | .ctx => own (s.ctxOwner i == p)
  | .evRoute => if j = p then 0 else stw
  | .evCoal | .evRing => if i = p then 0 else stw
  | .axis => own (s.axOwner i == p)
  | .leg => s.unitReason p (s.legAxis i)
  | .islandLeg => s.unitReason p (s.legAxis (3 * i + j))
  | .fastCh => s.unitReason p (if s.on (FM_CH_BIND__BOUND i) then some (s.get (FM_CH_BIND__AXIS i)) else none)
  | .pm => own (s.get HP_OWN_FUNC__PM_OWNER == p)
  | .pi => s.unitReason p (s.piAxis i)
  | .dmaCh => own (s.dmaOwner i == p)
  | .tally => own (s.get HP_OWN_FUNC__TAL_OWNER == p)

/-- The three restrictions of firmware on pair n (R87). -/
def State.fwReason (s : State) (n : Nat) (cls : WrClass) (i : Nat) : Nat :=
  match cls with
  | .safety | .spb => if s.steward = 8 then 0 else 2
  | .pairCtrl => if i = n then 0 else 3
  | .accept => 2
  | _ => 0

/-- The port's own MSI-X table and PBA (R81). -/
def msixAddr (a : Nat) : Bool := (0xF0000 ≤ a && a < 0xF0400) || (0xF0800 ≤ a && a < 0xF0808)

/-- Served before firmware release (02 R71, 14 R443). -/
def servedEarly (a : Nat) : Bool :=
  a < 0x1000 || (0x2000 ≤ a && a < 0x3000) || a == 0x60000 || (0x60020 ≤ a && a ≤ 0x60038) || msixAddr a

/-- The clock of the domain that an access needs (log 31). -/
def needsClock (bar2 : Bool) (a : Nat) : Option Pll :=
  if bar2 then some .a
  else if 0x8000 ≤ a ∧ a < 0xC000 then (if 0x20 ≤ a % 0x40 then none else some .a)
  else if 0x10000 ≤ a ∧ a < 0x18000 then
    let o := a % 0x1000
    if o = 0 ∨ o = 8 ∨ o = 0xC ∨ (0x400 ≤ o ∧ o < 0x800) then none else some .a
  else if 0x80000 ≤ a ∧ a < 0xA0000 then some .a
  else if (0x20000 ≤ a ∧ a < 0x21800) ∨ (0x40000 ≤ a ∧ a < 0x40400) then some .b
  else none

/-- The access waits: the device sleeps, or the clock it needs is withdrawn or stops in a descent (R57, R61). -/
def State.accessWaits (s : State) (bar2 : Bool) (a : Nat) : Bool :=
  !s.awake ||
    match needsClock bar2 a with
    | some .a => (!s.on CLK_STATUS__PLLA_LOCK || s.on PWR_STATE__DESCENDING) && s.sys.released
    | some .b => (!s.on CLK_STATUS__PLLB_LOCK || s.on PWR_STATE__DESCENDING) && s.sys.released
    | none => false

/-- The axis whose setpoint mirror a BAR2 offset is, where it is live (04 R108). -/
def State.mirrorAxis (s : State) (a : Nat) : Option Nat :=
  let o := a % 0x1000
  let n := (o - 0x800) / 4
  if 0x800 ≤ o ∧ o < 0x820 ∧ s.get (HP_OWN_AX__DB_CTX n) = a / 0x1000 then some n else none

/-- Reason 9 stands for a write that is discarded without a record (R71). -/
def quietDrop : Nat := 9

/-- The checks of a write before its register's own rules: the read-only port, the boot window, the map and ownership. -/
def State.writeReason (s : State) (w : Writer) (bar2 : Bool) (a : Nat) : Nat :=
  match w with
  | .firmware n =>
    if bar2 then 4
    else match findRow a with
      | some (r, i, _) => s.fwReason n.val r.cls i
      | none => 4
  | .host p =>
    if s.on (HP_CFG__RO_PORT p.val) && !(!bar2 && (msixAddr a || a == HP_DENY_INFO p.val)) then 8
    else if !s.sys.released && (bar2 || !servedEarly a) then quietDrop
    else if bar2 then
      if s.ctxOwner (a / 0x1000) ≠ p.val then 1
      else if a % 0x1000 ≤ 4 then 0
      else match s.mirrorAxis a with
        | some n => if s.axOwner n = p.val then 0 else 1
        | none => 4
    else if msixAddr a then 0
    else match findRow a with
      | some (r, i, j) => s.hostReason p.val r.cls i j
      | none => 4

/-- A register whose read has an effect (R85): the queue's pop register and the time base's low word. -/
def readEffect (a : Nat) : Bool := a == PM_QPOP 0 || a == PWR_TIME_LO

/-- The checks of a read: none but for a doorbell page, a read effect, and the boot window. -/
def State.readReason (s : State) (w : Writer) (bar2 : Bool) (a : Nat) : Nat :=
  match w with
  | .firmware _ => 0
  | .host p =>
    if !s.sys.released && (bar2 || !servedEarly a) then quietDrop
    else if bar2 then (if s.ctxOwner (a / 0x1000) = p.val then 0 else 1)
    else if readEffect a then
      match findRow a with
      | some (r, i, j) => if s.hostReason p.val r.cls i j = 0 then 0 else 5
      | none => 0
    else 0

end Sys2Proof.Machine
end

