-- ==== Sys2Proof/Machine/Rings.lean ====
section
/-! DEFINITION. Descriptor rings, the dispatcher, completion, stops, the opcodes of firmware, and events (04). REG_WRITE,
REG_READ and VAULT_WRITE stand in Release.lean, since they use the register bus. -/

namespace Sys2Proof.Machine

/-! ## Rings (R98 to R102, R107) -/

/-- Occupancy has changed: the end of an overload (R122). -/
def satStep (c : Nat) (s : State) : State :=
  let n := s.occupancy c
  let s := s.upCtx c fun x => { x with above := decide (s.get (HP_CTX_CFG__HWM c) < n) }
  if s.on (HP_CTX_STATE__SATURATED c) ∧ n ≤ s.get (HP_CTX_CFG__HWM c) / 2 then
    let s := s.putB (HP_CTX_STATE__SATURATED c) false
    s.when (s.get (HP_CTX_SAT__SAT_TIME c) != 0) fun s => raiseFree 18 c (s.putB (HP_CTX_EVENT__SAT_END c) true)
  else s

/-- A write of DB_TAIL (R107). -/
def dbTail (c : Nat) (v : Word) (s : State) : State :=
  let x := s.ctx c
  let size := s.ctxSize c
  let tail := v.toNat % 4096 % size
  let read := if x.exec.isSome || x.known.isSome || x.reading || s.ctxPhase c == 5 then 1 else 0
  if (tail + size - s.ctxHead c % size) % size < read then raiseFree 19 c (s.putB (HP_CTX_EVENT__DB_BACK c) true)
  else
    let s := satStep c (s.put (HP_CTX_STATE__TAIL c) tail)
    fetchNext c (s.when (s.ctxPhase c == 5) fun s => s.put (HP_CTX_STATE__PHASE c) 1)

/-- A context has stopped (R119 t3); what a read still under way answers is not taken. -/
def ctxHalted (c : Nat) (s : State) : State :=
  let s := (s.upCtx c fun x => { x with stop := 0, known := none, reading := false }).put (HP_CTX_STATE__PHASE c) 7
  raiseFree 20 c (s.putB (HP_CTX_EVENT__STOPPED c) true)

/-- DESCRIPTOR_READ_DONE: what the read answers, none where it fails. -/
def execDescriptorReadDone (c : Fin 256) (r : Option (Vector Word 8)) (s : State) : Host.Outcome State Fault Refusal :=
  .next <|
    let c := c.val
    if !(s.ctx c).reading then s
    else
      let s := s.upCtx c fun x => { x with reading := false }
      fetchAll <|
        if s.ctxPhase c ≠ 1 then s
        else match r with
          | none => ctxHalted c (s.putB (HP_CTX_EVENT__FETCH_ERR c) true)
          | some l =>
            if fieldGet (dword l.toList 0) 31 1 = 1 then (s.upCtx c fun x => { x with known := some l.toList }).put (HP_CTX_STATE__PHASE c) 2
            else raiseFree 21 c ((s.putB (HP_CTX_EVENT__WAIT_OWN c) true).put (HP_CTX_STATE__PHASE c) 5)

/-! ## Start checks (R88, R105, R112, R113) -/

/-- Cost in slots of an opcode (R112); none for an opcode that is not defined. -/
def opCost (op : Nat) : Option Nat :=
  match op with
  | 0x00 | 0x10 | 0x11 | 0x12 | 0x13 | 0x40 | 0x60 | 0x70 => some 1
  | 0x21 | 0x30 | 0x31 | 0x50 | 0x52 | 0x71 | 0x72 => some 2
  | 0x51 => some 4
  | 0x20 => some 8
  | _ => none

/-- Restart safety at the start (R112); FW_CALL's is set by firmware. -/
def opRsafe (op a : Nat) : Bool :=
  match op with
  | 0x12 | 0x31 | 0x40 | 0x60 | 0x71 | 0x72 => false
  | 0x13 => !readEffect a
  | _ => true

/-- The opcode writes a result into word 5. -/
def opResult (op : Nat) : Bool := [0x13, 0x21, 0x30, 0x31, 0x52, 0x71, 0x72].contains op

/-- UNIT lies in the range of the opcode. -/
def unitRange (op u : Nat) : Bool :=
  match op with
  | 0x10 | 0x11 | 0x20 | 0x21 | 0x30 => u < 8
  | 0x40 => u < 16
  | 0x71 => true
  | _ => u == 0

/-- The ownership check: the reason, 0 where it passes. -/
def State.ownCheck (s : State) (p op u a : Nat) (w : Writer) : Nat :=
  match op with
  | 0x10 | 0x11 | 0x20 | 0x21 | 0x30 => if s.axOwner u = p then 0 else 1
  | 0x40 => if s.dmaOwner u = p then 0 else 1
  | 0x31 => if s.get HP_OWN_FUNC__PM_OWNER = p then 0 else 1
  | 0x12 => s.writeReason w false a
  | 0x13 => s.readReason w false a
  | 0x50 | 0x51 | 0x52 | 0x70 | 0x72 => if s.steward = p then 0 else 2
  | _ => 0

/-- A vault word that the steward may write: in no region of the device alone or of nobody (14 R425). The reserved words of the safety
parameter block are written as the block is (12 R355, R356). -/
def vaultOpen (w : Nat) : Bool :=
  160 ≤ w && w < 2048 && !(768 ≤ w && w < 1024) && (1024 ≤ w || (212 ≤ w && w ≤ 287) || (vaultAddr w).isSome)

/-- The other operands: the first bad one. DESIGN CHOICE (log 17): the spec names no operand for a VAULT_WRITE whose range passes word
2,048 or holds a word that the steward may not write; the model names operand 1, and judges the count, operand 2, before it. -/
def operandBad (op : Nat) (l : List Word) : Option Nat :=
  let o := fun i => (dword l i).toNat
  match op with
  | 0x11 => if 7 ≤ fieldGet (dword l 1) 0 4 then some 1 else none
  | 0x20 =>
    let size := bankSize (fieldGet (dword l 1) 0 4)
    let first := fieldGet (dword l 1) 8 12
    if size ≤ first then some 1 else if o 4 = 0 ∨ size - first < o 4 then some 4 else none
  | 0x21 => if fieldGet (dword l 1) 0 3 = 0 then none else some 1
  | 0x30 => if o 1 ≤ 1 then none else some 1
  | 0x31 => if 1 ≤ o 1 ∧ o 1 ≤ 512 then none else some 1
  | 0x50 =>
    let w := fieldGet (dword l 1) 0 11
    if o 2 = 0 ∨ 64 < o 2 then some 2
    else if 2048 < w + o 2 ∨ !(List.range (o 2)).all fun i => vaultOpen (w + i) then some 1 else none
  | 0x51 =>
    if o 1 % 4096 ≠ 0 ∨ 2 ^ 20 ≤ o 1 then some 1 else if o 2 = 0 ∨ o 2 % 4096 ≠ 0 ∨ 2 ^ 20 < o 1 + o 2 then some 2 else none
  | 0x52 => if o 1 ≤ 3 then none else some 1
  | 0x70 => if fieldGet (dword l 1) 0 2 ≤ 1 then none else some 1
  | _ => none

/-- The unit's state that refuses a start, as the DETAIL of STATE_REFUSED: a bank that is not open, a channel that is not
idle. -/
def State.unitState (s : State) (op u : Nat) (l : List Word) : Option Nat :=
  if op = 0x20 then
    let sel := fieldGet (dword l 1) 0 4
    if s.bankOpen u sel then none else some (s.bankDetail u sel)
  else if op = 0x40 then (if s.dmaState u = 0 then none else some (s.dmaState u))
  else if op = 0x52 then (if s.on VLT_STG_STAT__BUSY then some 1 else none)
  else none

/-- The first check that fails at the start of a descriptor of host p: its code and detail, and whether it is recorded
as a refused access of the port. The state of an axis that AXIS_STATE asks for a state, and of a unit that changes after
the start, is judged at the step. -/
def State.startCheck (s : State) (p : Nat) (l : List Word) : Option (Nat × Nat × Bool) :=
  let op := opOf (dword l 0)
  let a := (dword l 1).toNat
  let reg := op == 0x12 || op == 0x13
  if (opCost op).isNone then some (2, 0, false)
  else if !unitRange op (unitOf (dword l 0)) then some (3, 0, false)
  else if reg && (a % 4 != 0 || decide (2 ^ 20 ≤ a)) then some (3, 1, false)
  else
    let r := s.ownCheck p op (unitOf (dword l 0)) a (.host (Fin.ofNat 4 p))
    if r ≠ 0 then some (1, r, reg)
    else match operandBad op l with
      | some k => some (3, k, false)
      | none => (s.unitState op (unitOf (dword l 0)) l).map fun d => (4, d, false)

/-- A descriptor starts (R105, R123): the ledger entry, then the checks. -/
def descStart (c : Nat) (l : List Word) (s : State) : State :=
  let p := s.ctxOwner c
  let op := opOf (dword l 0)
  let s := s.upCtx c fun x =>
    { x with known := none, exec := some { words := l, port := p, idx := s.ctxHead c, result := dword l 5 } }
  let s := (s.put (HP_CTX_LEDGER0__INDEX c) (s.ctxHead c)).put (HP_CTX_LEDGER0__OPCODE c) op
  let s := (s.putB (HP_CTX_LEDGER0__RSAFE c) (opRsafe op (dword l 1).toNat)).putB (HP_CTX_LEDGER0__DONE c) false
  let s := (s.putB (HP_CTX_LEDGER0__INTERRUPTED c) false).putB (HP_CTX_LEDGER0__VALID c) true
  let s := (s.put (HP_CTX_LEDGER1__STEPS c) 0).put (HP_CTX_STATE__PHASE c) 3
  let s := s.when (op == 0x31 && (s.startCheck p l).isNone) fun s => pmReaders (s.pm.readers ++ [c]) s
  match s.startCheck p l with
  | some (code, detail, rec) => descDone c code detail (s.when rec (deny p (dword l 1).toNat false detail))
  | none => s

/-! ## The dispatcher (R109, R110) -/

/-- A context is backlogged; a change of its owner whose commit runs holds it back (03 R90). -/
def State.backlogged (s : State) (c : Nat) : Bool :=
  s.on (HP_CTX_CTRL__EN c) && s.occupancy c != 0 && (s.ctx c).exec.isNone && (s.ctx c).known.isSome && s.ctxPhase c == 2 &&
    !(match s.vq with | v :: _ => (s.ctxChanges v).contains c | [] => false)

/-- The cost of the next descriptor; an undefined opcode costs one slot. -/
def State.nextCost (s : State) (c : Nat) : Nat :=
  match (s.ctx c).known with
  | some l => (opCost (opOf (dword l 0))).getD 1
  | none => 1

/-- The context that the slot serves: the visit in progress goes on while the deficit lasts, then the next backlogged
contexts in increasing order are visited, each with its WEIGHT added. -/
def drrPick (l : List Nat) : Nat → State → State × Option Nat
  | 0, s => (s, none)
  | n + 1, s =>
    let d := s.sys.drr
    if s.sys.drrOpen && l.contains d && decide (s.nextCost d ≤ (s.ctx d).deficit) then (s, some d)
    else
      let next := match l.find? fun c => if s.sys.drrOpen then d < c else d ≤ c with
        | some c => c
        | none => l.headD 0
      let s := (s.upSys fun y => { y with drr := next, drrOpen := true }).upCtx next fun x =>
        { x with deficit := x.deficit + s.get (HP_CTX_CFG__WEIGHT_M1 next) + 1 }
      drrPick l n s

/-- DESCRIPTOR_START: one start slot. DESIGN CHOICE (log 53): the deficit of a context that is not backlogged becomes 0 at
the slot, so one that starts a descriptor and is backlogged again before the next slot keeps its deficit and its visit. -/
def execDescriptorStart (s : State) : Host.Outcome State Fault Refusal :=
  .next <|
    if !s.coreClk then s
    else
      let l := (List.range 256).filter s.backlogged
      let s := s.each (s.ctxs.map (·.1)) fun c s =>
        if l.contains c || (s.ctx c).deficit == 0 then s else s.upCtx c fun x => { x with deficit := 0 }
      if l = [] then talCount 0x52 12 1 0 s
      else match drrPick l (9 * l.length + 1) s with
        | (s, none) => s
        | (s, some c) =>
          let k := s.nextCost c
          let s := s.upCtx c fun x => { x with deficit := x.deficit - k }
          let s := talCount 0x51 12 k 0 (talCount 0x50 12 1 0 s)
          match (s.ctx c).known with
          | some d => descStart c d s
          | none => s

/-! ## Completion and stops (R116 to R120) -/

/-- What still refers to a descriptor that ends is detached from it. -/
def descDetach (c : Nat) (s : State) : State :=
  let s := s.each (List.range 8) fun a s =>
    match (s.ax a).req with
    | some r => if r.ctx = some c then s.upAx a fun x => { x with req := some { r with ctx := none } } else s
    | none => s
  let s := s.when (s.pm.readers.contains c) (pmReaders (s.pm.readers.filter (· != c)))
  let s : State := match s.vs.act with
    | some (k, some x) => if x = c then { s with vs := { s.vs with act := some (k, none) } } else s
    | _ => s
  let s : State := if s.vs.stgCtx = some c then { s.putB VLT_STG_STAT__BUSY false with vs := { s.vs with stgCtx := none } } else s
  let s := s.upSys fun y => if y.descent = some (some c) then { y with descent := some none } else y
  if s.red.svcCtx = some c then svcEnd 5 (s.upRed fun r => { r with svcCtx := none }) else s

/-- The descriptor is on the way to a further committed step, which a stop awaits (R119): every step but one that waits on
the state of an axis, on entries of a queue, on a busy unit or on firmware that device-SAFE holds in reset. -/
def State.stepComing (s : State) (c : Nat) (e : ExecS) : Bool :=
  match opOf (dword e.words 0) with
  | 0x11 => e.phase == 0
  | 0x70 | 0x71 => !s.sys.pairsReset
  | 0x31 => s.pm.readers.head? == some c && !s.pm.q.isEmpty
  | 0x51 | 0x52 => !(e.phase == 0 && s.on VLT_STG_STAT__BUSY)
  | 0x72 => !(e.phase == 0 && (s.on RED_SVC_STAT__BUSY || s.sys.pairsReset)) && !(s.red.svcCtx == some c && s.svcUnit 2 != none)
  | _ => true

/-- How the descriptor in execution ends now: its code and detail, and whether it completes; none while it goes on. A
failure caused by the loss of the host is an interruption, and a step that needs the lost host is not awaited (R120). -/
def State.descOutcome (s : State) (c : Nat) (e : ExecS) : Option (Nat × Nat × Bool) :=
  let stop := (s.ctx c).stop
  match e.done with
  | some (5, d) => if stop = 3 then some (6, 3, false) else some (5, d, true)
  | some (6, d) => some (6, d, false)
  | some (code, d) => some (code, d, true)
  | none => if stop = 0 ∨ e.flush ≠ 0 ∨ s.vq.any (fun v => v.ctx == some c) ∨
      (!(stop == 3 && hostOp (opOf (dword e.words 0))) ∧ s.stepComing c e ∧ s.get (HP_CTX_LEDGER1__STEPS c) ≤ (s.ctx c).stopAt) then none
    else some (6, stop, false)

/-- The writes that hand a descriptor back, as addresses and words. -/
def State.writeBack (s : State) (c : Nat) (e : ExecS) (code detail : Nat) : List (Nat × List Word) :=
  let w0 := dword e.words 0
  let w5 := if opResult (opOf w0) then e.result else dword e.words 5
  let a := s.descAddr c e.idx
  [(a + 20, [w5, BitVec.ofNat 32 (s.get (HP_CTX_LEDGER1__STEPS c)),
    BitVec.ofNat 32 (code + detail % 256 * 2 ^ 8 + s.get (HP_CTX_LEDGER0__RSAFE c) * 2 ^ 16)]),
   (a, [w0 &&& 0x7FFFFFFF#32])]

/-- The descriptor in execution ends (R116): ledger, write-back, HEAD, event. A write-back that the port cannot take is
held, as a descent holds it (02 R61), and is not made after the loss of the host. -/
def descEnd (c : Nat) (e : ExecS) (code detail : Nat) (completes : Bool) (s : State) : State :=
  let s := bankLoadEnd e.words e.phase code s
  let s := (s.put (HP_CTX_LEDGER2__CODE c) code).put (HP_CTX_LEDGER2__DETAIL c) detail
  let s := if completes then (s.putB (HP_CTX_LEDGER0__DONE c) true).put (HP_CTX_LEDGER3__SEQ c) (s.get (HP_CTX_LEDGER3__SEQ c) + 1)
    else s.putB (HP_CTX_LEDGER0__INTERRUPTED c) true
  let w := s.writeBack c e code detail
  let s := if (s.ctx c).stop = 3 then s
    else if s.portIssues e.port && decide (s.get (HP_LINK__LPM e.port) < 4) then w.foldl (fun s x => s.emit (.memWrite e.port x.1 x.2)) s
    else s.when (decide (e.port < 4)) fun s => s.upPort e.port fun q => { q with wbHeld := q.wbHeld ++ w }
  let s := s.put (HP_CTX_STATE__HEAD c) ((s.ctxHead c + 1) % s.ctxSize c)
  let s := s.when (fieldGet (dword e.words 0) 0 1 == 1) (raise 16 c (e.idx + code * 2 ^ 16))
  let s := satStep c (descDetach c (s.upCtx c fun x => { x with exec := none }))
  let s := s.when (completes && code != 0 && fieldGet (dword e.words 0) 1 1 == 1) (ctxStopReq c 1)
  if (s.ctx c).stop ≠ 0 then s else fetchNext c (s.when (s.ctxPhase c == 3) fun s => s.put (HP_CTX_STATE__PHASE c) 1)

/-- End the descriptor in execution, where it ends now. -/
def descFinish (c : Nat) (s : State) : State :=
  match (s.ctx c).exec with
  | none => s
  | some e =>
    match s.descOutcome c e with
    | some (code, detail, completes) => descEnd c e code detail completes s
    | none => s

/-- DESCRIPTOR_COMPLETE. -/
def execDescriptorComplete (c : Fin 256) (s : State) : Host.Outcome State Fault Refusal :=
  .next (if s.coreClk then descFinish c.val s else s)

/-- CTX_STOPPED. -/
def execCtxStopped (c : Fin 256) (s : State) : Host.Outcome State Fault Refusal :=
  .next <|
    let c := c.val
    if (s.ctx c).stop = 0 || !s.coreClk then s
    else
      let s := descFinish c s
      if (s.ctx c).exec.isSome then s else fetchAll (ctxHalted c s)

/-- RING_SATURATED. -/
def execRingSaturated (c : Fin 256) (s : State) : Host.Outcome State Fault Refusal :=
  .next <|
    let c := c.val
    if !(s.ctx c).above || s.get (HP_CTX_SAT__SAT_TIME c) == 0 || s.on (HP_CTX_STATE__SATURATED c) then s
    else raiseFree 17 c ((s.putB (HP_CTX_STATE__SATURATED c) true).putB (HP_CTX_EVENT__SAT c) true)

/-- A write of HP_CTX_CTRL (R119). INIT is judged on the state that the write finds. DESIGN CHOICE (log 18): of several bits in one
write INIT acts first, then EN, STOP and RESUME, so a write of STOP and RESUME to a stopped context resumes it. -/
def ctxCtrl (c : Nat) (v : Word) (s : State) : State :=
  let was := s.on (HP_CTX_CTRL__EN c)
  let en := fieldGet v 0 1 == 1
  let s := s.when (fieldGet v 3 1 == 1 && (s.ctxPhase c == 0 || s.ctxPhase c == 7) && (s.ctx c).exec.isNone) fun s =>
    let s := (s.put (HP_CTX_STATE__HEAD c) 0).put (HP_CTX_STATE__TAIL c) 0
    let s := (((s.wr (HP_CTX_LEDGER0 c) 0).wr (HP_CTX_LEDGER1 c) 0).wr (HP_CTX_LEDGER2 c) 0).wr (HP_CTX_LEDGER3 c) 0
    satStep c (s.upCtx c fun x => { x with deficit := 0, known := none, reading := false })
  let s := s.putB (HP_CTX_CTRL__EN c) en
  let s := s.when (en && !was && (s.ctxPhase c == 0 || s.ctxPhase c == 7)) fun s => s.put (HP_CTX_STATE__PHASE c) 1
  let s := s.when (!en && was) (ctxStopReq c 2)
  let s := s.when (fieldGet v 1 1 == 1 && en) (ctxStopReq c 1)
  let s := s.when (fieldGet v 2 1 == 1 && en && s.ctxPhase c == 7) fun s => s.put (HP_CTX_STATE__PHASE c) 1
  fetchAll s

/-- HOST_FLUSH_DONE: the flush of a SNAPSHOT, a PM_READ or a step of an FW_CALL ends (R115). -/
def execHostFlushDone (c : Fin 256) (ok : Bool) (s : State) : Host.Outcome State Fault Refusal :=
  .next <|
    let c := c.val
    match (s.ctx c).exec with
    | none => s
    | some e =>
      if e.flush = 0 ∨ e.done.isSome then s
      else fetchAll <|
        if !ok then descDone c 5 0 (s.upExec c fun q => { q with flush := 0 })
      else if opOf (dword e.words 0) = 0x31 then pmReadCommit c e.flush e s
      else if opOf (dword e.words 0) = 0x71 then stepDone c 1 (s.upExec c fun q => { q with flush := 0 })
      else descDone c (if e.phase = 9 then 7 else 0) 0 (stepDone c 1 (s.upExec c fun q => { q with flush := 0 }))

/-! ## Opcodes of the context itself and of firmware (R112, R125) -/

/-- OP_NOP. -/
def execOpNop (c : Fin 256) (s : State) : Host.Outcome State Fault Refusal :=
  .next <|
    match s.running c.val 0x00 with
    | none => s
    | some _ => descDone c.val 0 0 (stepDone c.val 1 s)

/-- OP_EVENT_MARK. -/
def execOpEventMark (c : Fin 256) (s : State) : Host.Outcome State Fault Refusal :=
  .next <|
    match s.running c.val 0x60 with
    | none => s
    | some e => descDone c.val 0 0 (stepDone c.val 1 (raise 22 c.val (dword e.words 1).toNat s))

/-- The pair that holds the command role executes (13 R386). -/
def State.commandPair (s : State) : Bool := s.get (slotPair 0) != 7 && s.pairRuns (s.get (slotPair 0))

/-- OP_POWER_REQ: the request is passed to firmware. -/
def execOpPowerReq (c : Fin 256) (s : State) : Host.Outcome State Fault Refusal :=
  .next <|
    match s.running c.val 0x70 with
    | none => s
    | some e =>
      if e.phase ≠ 0 ∨ !s.commandPair then s
      else stepDone c.val 1 (s.upExec c.val fun e => { e with phase := 1 })

/-- OP_FW_CALL: firmware sets RSAFE, commits its steps and completes the descriptor. A step that has written host memory
is counted once its flush ends (R115); after the loss of the host such a step fails (R120). -/
def execOpFwCall (c : Fin 256) (act : FwAct) (s : State) : Host.Outcome State Fault Refusal :=
  .next <|
    let c := c.val
    match s.running c 0x71 with
    | none => s
    | some e =>
      if !s.commandPair then s
      else match act with
        | .start rsafe =>
          if e.phase ≠ 0 then s else (s.upExec c fun e => { e with phase := 1 }).putB (HP_CTX_LEDGER0__RSAFE c) rsafe
        | .commit mem =>
          if e.phase = 0 ∨ e.flush ≠ 0 then s
          else if !mem then stepDone c 1 s
          else if (s.ctx c).stop = 3 then descDone c 5 0 s
          else if s.readGo e.port then (s.emit (.flush e.port)).upExec c fun e => { e with flush := 1 } else s
        | .finish code detail result =>
          if e.flush ≠ 0 then s else descDone c code.toNat detail.toNat (s.upExec c fun e => { e with result := result })

/-- OP_SERVICE: firmware writes RED_SVC once no action runs (13 R416). -/
def execOpService (c : Fin 256) (s : State) : Host.Outcome State Fault Refusal :=
  .next <|
    match s.running c.val 0x72 with
    | none => s
    | some e =>
      if e.phase ≠ 0 ∨ !s.commandPair ∨ s.on RED_SVC_STAT__BUSY then s
      else
        svcStart (fieldGet (dword e.words 1) 0 8) (fieldGet (dword e.words 2) 0 4) (fieldGet (dword e.words 3) 0 16) (some c.val)
          (s.upExec c.val fun e => { e with phase := 1 })

/-! ## Events (R127 to R130) -/

/-- Sources that an event name maps to. -/
def sourceNamed (n : Nat) : Bool :=
  n ≤ 8 || (16 ≤ n && n ≤ 23) || (32 ≤ n && n ≤ 36) || (40 ≤ n && n ≤ 42) || (48 ≤ n && n ≤ 55) || (64 ≤ n && n ≤ 73) ||
    (80 ≤ n && n ≤ 89) || (96 ≤ n && n ≤ 100) || (112 ≤ n && n ≤ 120) || (128 ≤ n && n ≤ 133) || (144 ≤ n && n ≤ 150) ||
    (160 ≤ n && n ≤ 166) || (176 ≤ n && n ≤ 197) || (208 ≤ n && n ≤ 220) || (232 ≤ n && n ≤ 239) || 240 ≤ n

/-- EVENT_OCCURRENCE. -/
def execEventOccurrence (src : Fin 256) (unit : BitVec 8) (detail : Word) (s : State) : Host.Outcome State Fault Refusal :=
  .next (if sourceNamed src.val then raise src.val unit.toNat detail.toNat s else s)

/-- MERGED_RECORD_WRITE. -/
def execMergedRecordWrite (src : Fin 256) (p : Fin 4) (s : State) : Host.Outcome State Fault Refusal :=
  .next <|
    let src := src.val
    let p := p.val
    let m := sget (fun _ => ({} : Merged)) s.merged (4 * src + p)
    if m.count = 0 || !s.ringLive p || s.ringFull p then s
    else
      let s := { s with merged := sset (fun _ => {}) s.merged (4 * src + p) {} }
      let s := (s.putB (EV_ROUTE__PEND src p) false).put (EV_ROUTE__COUNT src p) 0
      let s := writeRecord p src m.unit m.count m.detail m.time s
      if m.full && src != 23 then raise 23 p (src + m.count * 2 ^ 8) s else s

/-- MSIX_COALESCE_TIMEOUT. -/
def execMsixCoalesceTimeout (p : Fin 4) (v : Fin 64) (s : State) : Host.Outcome State Fault Refusal :=
  .next <|
    if s.get (EV_COAL__TIME p.val v.val) = 0 ∨ sget (fun _ => 0) s.vecPend (64 * p.val + v.val) = 0 then s else sendMsix p.val v.val s

/-! ## Configuration space (03 R76 to R78, R81, R95) -/

/-- A pending vector that is not masked sends its message. -/
def msixDue (p v : Nat) (s : State) : State :=
  if sget (fun _ => false) s.pba (64 * p + v) && !s.vecMasked p v then
    sendMsix p v { s with pba := sset (fun _ => false) s.pba (64 * p + v) false }
  else s

/-- Bits that a double word of the header states, and their values. BAR4 and BAR5 hold nothing (log 50). -/
def State.cfgHeader (s : State) (p i : Nat) : Nat × Nat :=
  let q := s.port p
  match i with
  | 0 => (2 ^ 32 - 1, 0x4896 * 2 ^ 16 + Config.vendorId % 2 ^ 16)
  | 1 => (6, 2 * b2n q.mse + 4 * s.get (HP_LINK__BME p))
  | 2 => (2 ^ 32 - 1, 0x118000 * 2 ^ 8 + s.get DEV_ID__STEPPING)
  | 4 => (2 ^ 32 - 1, q.cfg.bar0 % 2 ^ 12 * 2 ^ 20 + 4)
  | 5 => (2 ^ 32 - 1, q.cfg.bar0 / 2 ^ 12)
  | 6 => (2 ^ 32 - 1, q.cfg.bar2 % 2 ^ 12 * 2 ^ 20 + 4)
  | 7 => (2 ^ 32 - 1, q.cfg.bar2 / 2 ^ 12)
  | 8 | 9 => (2 ^ 32 - 1, 0)
  | 11 => (2 ^ 32 - 1, s.sys.pciSub.toNat)
  | 15 => (0xFF00, 0)
  | _ => (0, 0)

/-- Bits that a double word of a capability states, and their values (R76, R77, R81; places PRESUMED from PCI Express, log
50). -/
def State.cfgCap (s : State) (p : Nat) (c : CfgCap) (i : Nat) : Nat × Nat :=
  let q := (s.port p).cfg
  match c, i with
  | .pcie, 1 => (7 + 2 ^ 5 + 2 ^ 28, 1 + 2 ^ 5 + 2 ^ 28)
  | .pcie, 2 => (0x70E0, q.mps * 2 ^ 5 + q.mrrs * 2 ^ 12)
  | .pcie, 3 => (0xFFF, 3 + 2 ^ 4 + 2 * 2 ^ 10)
  | .pcie, 4 => (0x3F * 2 ^ 20 + 0xF * 2 ^ 16, (s.get (HP_LINK__SPEED p) + 2 ^ 4) * 2 ^ 16)
  | .pcie, 9 => (0xF, 3)
  | .pcie, 10 => (0xF, q.cto)
  | .pm, 1 => (3, s.get (HP_LINK__DSTATE p))
  | .msix, 0 => (0x7FF * 2 ^ 16, 63 * 2 ^ 16)
  | .msix, 1 => (2 ^ 32 - 1, 0xF0000)
  | .msix, 2 => (2 ^ 32 - 1, 0xF0800)
  | .aer, 6 => (5 * 2 ^ 5, 5 * 2 ^ 5)
  | .serial, 1 => (2 ^ 32 - 1, (s.rd DEV_SERIAL_LO).toNat)
  | .serial, 2 => (2 ^ 32 - 1, (s.rd DEV_SERIAL_HI).toNat)
  | _, _ => (0, 0)

/-- A configuration read is answered; bits that the spec does not state are free (log 2). -/
def cfgRead (p : Nat) (r : CfgReg) (s : State) : State :=
  let x := match r with | .header i => s.cfgHeader p i.val | .cap c i => s.cfgCap p c i.val
  let f := BitVec.ofNat 32 s.fresh.1
  s.fresh.2.emit (.cfgDone p ((f &&& ~~~(BitVec.ofNat 32 x.1)) ||| (BitVec.ofNat 32 x.2 &&& BitVec.ofNat 32 x.1)))

/-- A write of BAR n: the 64-bit BARs hold multiples of 1 MiB, and BAR1 and BAR3 are their upper halves (R78). -/
def barWrite (n : Nat) (v : Word) (q : CfgS) : CfgS :=
  match n with
  | 0 => { q with bar0 := q.bar0 / 2 ^ 12 * 2 ^ 12 + v.toNat / 2 ^ 20 }
  | 1 => { q with bar0 := q.bar0 % 2 ^ 12 + v.toNat * 2 ^ 12 }
  | 2 => { q with bar2 := q.bar2 / 2 ^ 12 * 2 ^ 12 + v.toNat / 2 ^ 20 }
  | 3 => { q with bar2 := q.bar2 % 2 ^ 12 + v.toNat * 2 ^ 12 }
  | _ => q

/-- CONFIGURATION_REQUEST: the port wakes the device where it sleeps; with Bus Master Enable set, messages, write-backs and
reads that waited are issued. Codes that R76 does not support are not taken (log 50). -/
def execConfigurationRequest (p : Fin 4) (r : CfgReq) (s : State) : Host.Outcome State Fault Refusal :=
  .next <|
    let p := p.val
    if !s.on (HP_LINK__UP p) then s
    else
      let exit := match r with | .linkPower l => s.get (HP_LINK__LPM p) == 3 && l.val == 0 | _ => true
      let s := s.when (exit && (!s.awake || s.on PWR_STATE__DESCENDING)) (wake 0)
      let up := fun (f : CfgS → CfgS) => s.upPort p fun q => { q with cfg := f q.cfg }
      match r with
      | .busMaster on =>
        let s := s.putB (HP_LINK__BME p) on
        if !on then s else fetchAll ((wbFlush p s).each (List.range 64) (msixDue p))
      | .memorySpace on => s.upPort p fun q => { q with mse := on }
      | .dState d3 => s.put (HP_LINK__DSTATE p) (if d3 then 3 else 0)
      | .linkPower l => wbFlush p (s.put (HP_LINK__LPM p) l.val)
      | .bar n v => up (barWrite n.val v)
      | .maxPayload k => if k.val ≤ 1 then up fun q => { q with mps := k.val } else s
      | .maxRead k => if k.val ≤ 5 then up fun q => { q with mrrs := k.val } else s
      | .timeout k => if [0, 1, 2, 5, 6].contains k.val then up fun q => { q with cto := k.val } else s
      | .read r => cfgRead p r s

end Sys2Proof.Machine
end

