-- ==== Sys2Proof/Machine/Rules.lean ====
section
/-! DEFINITION. The rules of each register on what may be written and when: the "only while" conditions and the value
ranges of every chapter. An answer is a reason code of HP_DENY_INFO, 0 where the write is allowed, or `ownBad` for a value
that the ownership table refuses (03 R90). Registers are named by their row's first address. -/

namespace Sys2Proof.Machine

/-- A reserved owner code: refused in HP_OWN_STATUS with code 2 (03 R84). -/
def ownBad : Nat := 16

/-- A transfer to a port whose link is down: refused in HP_OWN_STATUS with code 5 (03 R91). -/
def xferBad : Nat := 17

/-- Owner codes (03 R84). -/
def ownerOk (v : Nat) : Bool := v ≤ 3 || v == 8 || v == 15

/-- Reason 4 unless a condition holds. -/
def r4 (ok : Bool) : Nat := if ok then 0 else 4

/-- HP_ registers (03 R84, R91). -/
def State.checkHp (s : State) (w : Writer) (b i : Nat) (v : Word) : Nat :=
  let nib := fun n => ownerOk (fieldGet v (4 * n) 4)
  if b = HP_STEWARD then
    (match w with | .host _ => 0 | .firmware _ => if fieldGet v 0 4 ≤ 3 ∨ fieldGet v 0 4 = 8 then 0 else ownBad)
  else if b = HP_STEWARD_XFER then
    (match w with
     | .host _ => if fieldGet v 8 1 = 1 && !s.on (HP_LINK__UP (fieldGet v 0 2)) then xferBad else 0
     | .firmware _ => 0)
  else if b = HP_OWN_FUNC then (if nib 0 && nib 1 then 0 else ownBad)
  else if b = HP_OWN_AX 0 then (if nib 0 then 0 else ownBad)
  else if b = HP_OWN_DMA 0 ∨ b = HP_OWN_CTX 0 then (if (List.range 8).all nib then 0 else ownBad)
  else if b = HP_CFG 0 then r4 (fieldGet v 0 1 == 1 || s.steward != i)
  else 0

/-- Context and event registers (04). DESIGN CHOICE (log 10): SIZE_LOG2 of EV_RING_CFG is writable while EN is 0 (R133), and a write
that carries another one while EN is 1 is refused whole, even where it clears EN. -/
def State.checkRing (s : State) (b i : Nat) (v : Word) : Nat :=
  let size := 4 ≤ fieldGet v 0 4 && fieldGet v 0 4 ≤ 12
  if b = HP_CTX_BASE_LO 0 ∨ b = HP_CTX_BASE_HI 0 ∨ b = HP_CTX_SAT 0 then r4 (!s.on (HP_CTX_CTRL__EN i))
  else if b = HP_CTX_CFG 0 then r4 (!s.on (HP_CTX_CTRL__EN i) && size)
  else if b = EV_RING_BASE_LO 0 ∨ b = EV_RING_BASE_HI 0 then r4 (!s.on (EV_RING_CFG__EN i))
  else if b = EV_RING_CFG 0 then
    r4 (size && (!s.on (EV_RING_CFG__EN i) || fieldGet v 0 4 == s.get (EV_RING_CFG__SIZE_LOG2 i)))
  else 0

/-- DMA registers (05 R153). -/
def State.checkDma (s : State) (b i : Nat) (v : Word) : Nat :=
  if b = DMA_GLOBAL_CFG then r4 (1 ≤ fieldGet v 0 6 && fieldGet v 0 6 ≤ 48)
  else if b = DMA_CH_LIST_LO 0 ∨ b = DMA_CH_LIST_HI 0 then r4 (s.dmaState i == 0)
  else 0

/-- The channel is bound to the axis or shared (07 R227). -/
def State.chBound (s : State) (k a : Nat) : Bool := (s.fcAxes k).contains a || s.on (FM_CH_BIND__SHARED k)

/-- The channel is the tracking channel, or an axis names it in TM_VSRC (10 R301). -/
def State.tracking (s : State) (k : Nat) : Bool := s.get PM_CFG__MAINS == 2 && s.get PM_CFG__TRK_CH == k
def State.vsrcNames (s : State) (k : Nat) : Bool :=
  (List.range 8).any fun a => s.on (TM_VSRC__EN a) &&
    [TM_VSRC__VA a, TM_VSRC__VB a, TM_VSRC__VC a].any fun f => s.get f == k

/-- Axis registers (06 R161, R162, R179, R186). -/
def State.checkAx (s : State) (b a j : Nat) (v : Word) : Nat :=
  let st := s.axState a
  if b = AX_BIND 0 then r4 (st == 0 && !s.on (AX_STATE__CLOSING a))
  else if b = AX_BIND_LEG 0 then
    r4 (st == 0 && !s.on (AX_STATE__CLOSING a) && (List.range 8).all fun k =>
      k == a || s.get (AX_BIND_LEG__LEG_MASK k) &&& fieldGet v 0 24 == 0)
  else if b = AX_CFG 0 ∨ b = AX_TIMING 0 ∨ b = AX_OUTDLY 0 ∨ b = AX_YSRC 0 0 ∨ b = AX_UDST0 0 ∨ b = AX_UDST1 0 ∨
      b = AX_XSEED 0 0 ∨ b = AX_XSEED_EXP 0 then r4 (st ≤ 1 || st == 4)
  else if b = AX_SETPOINT 0 then (if s.ss1Locks a then 7 else 0)
  else if b = AX_RAMP 0 ∨ b = AX_FE_LIMIT 0 then r4 (fieldGet v 23 1 == 0)
  else if b = AX_FE_CFG 0 then r4 (fieldGet v 0 5 ≤ 11 || (16 ≤ fieldGet v 0 5 && fieldGet v 0 5 ≤ 23))
  else if b = AX_BANKWIN 0 0 then
    let sel := s.get (AX_BANKSEL__BANK a)
    r4 (s.bankOpen a sel && j < bankSize sel)
  else 0

/-- Table-mode registers (07 R199, R201, R227). -/
def State.checkTm (s : State) (b a : Nat) (v : Word) : Nat :=
  let st := s.axState a
  let ch := fun lo => fieldGet v lo 5
  if b = TM_ISRC 0 then
    r4 (st == 0 && s.chBound (ch 0) a && s.chBound (ch 8) a && s.chBound (ch 16) a && s.chBound (ch 24) a)
  else if b = TM_VSRC 0 then
    r4 (st == 0 && ([0, 8, 16].all fun lo => s.chBound (ch lo) a) &&
      (fieldGet v 31 1 == 0 || [0, 8, 16].all fun lo => !s.tracking (ch lo)))
  else if 0x10460 ≤ b ∧ b ≤ 0x10474 then
    r4 (st ≤ 1 && (List.range 6).all fun q => fieldGet v (4 * q) 4 ≤ 8)
  else if [0x1042C, 0x10434, 0x10448, 0x10454, 0x10458, 0x1045C].contains b then 0
  else if b < 0x10480 then r4 (st ≤ 1)
  else 0

/-- The leg is unbound, or its axis is in OFF or COAST. -/
def State.legStill (s : State) (m : Nat) : Bool :=
  match s.legAxis m with
  | some a => s.axState a ≤ 1
  | none => true

/-- The axis of a leg is in CATCH, RUN or HOLD. -/
def State.legLive (s : State) (m : Nat) : Bool :=
  match s.legAxis m with
  | some a => s.axLive a
  | none => false

/-- The leg is the lowest of an axis with SYNC = 1 that is in CATCH or RUN (08 R245). -/
def State.legSyncs (s : State) (m : Nat) : Bool :=
  match s.legAxis m with
  | some a => s.get (AX_TIMING__SYNC a) == 1 && (s.axState a == 2 || s.axState a == 3) && (s.axLegs a).head? == some m
  | none => false

/-- LEG_SYNC: a follower's master is another leg with MODE 0, and a leg that follows is the master of none (08 R243). -/
def State.followOk (s : State) (m : Nat) (v : Word) : Bool :=
  let mode := fieldGet v 8 2
  let master := fieldGet v 0 5
  mode == 0 || (mode != 3 && master < 24 && master != m && s.get (LEG_SYNC__MODE master) == 0 &&
    (List.range 24).all fun f => f == m || s.get (LEG_SYNC__MODE f) == 0 || s.get (LEG_SYNC__MASTER f) != m)

/-- Leg registers (08 R229, R238, R242 to R247, R252, R253, R259). -/
def State.checkLeg (s : State) (b m j : Nat) (v : Word) : Nat :=
  if b = LEG_CFG 0 then r4 (s.legStill m && fieldGet v 6 2 != 3)
  else if b = LEG_DT 0 ∨ b = LEG_MINP 0 ∨ b = LEG_PHASE 0 then r4 (s.legStill m)
  else if b = LEG_SYNC 0 then r4 (s.legStill m && s.followOk m v)
  else if b = LEG_CHOP 0 then r4 (s.legStill m && fieldGet v 0 2 != 3)
  else if b = LEG_CTRL 0 then r4 (fieldGet v 0 1 == 1 || !s.legSwitching m)
  else if b = LEG_PRD 0 then r4 (64 ≤ v.toNat && v.toNat ≤ 0xFFFFFFFE && !s.legSyncs m)
  else if b = LEG_CMP 0 0 then r4 (!(j < 2 && s.legLive m && s.loopDest m))
  else if b = LEG_TRIG 0 then r4 (fieldGet v 0 3 ≤ 5 && fieldGet v 16 3 ≤ 5 && !s.legSyncs m)
  else if b = LEG_MASK 0 then r4 (s.legStill m || (match s.legAxis m with | some a => s.axState a == 4 | none => true))
  else if b = LEG_MASK_STEP 0 then r4 (s.get (LEG_MASK__SRC m) != 1)
  else if b = LEG_CHOP_V 0 then r4 (decide (sgn 14 (fieldGet v 16 14) < sgn 14 (fieldGet v 0 14)))
  else 0

/-- Island registers (09 R283, R287, R289). -/
def State.checkGi (s : State) (b i x : Nat) (v : Word) : Nat :=
  let m := 3 * i + x
  if b = GI_CFG 0 then
    r4 (s.serviceOk i (fieldGet v 0 1 == 1))
  else if b = GI_L_ON 0 0 ∨ b = GI_L_OFF 0 0 ∨ b = GI_L_SC 0 0 ∨ b = GI_L_SOFT 0 0 then r4 (s.legStill m)
  else if b = GI_L_BCFG 0 0 then r4 (!s.on (GI_L_BRES__RUNNING i x))
  else if b = GI_L_BCTRL 0 0 then r4 (fieldGet v 0 1 == 0 || s.bastOk m)
  else 0

/-- The channel is VDC_CH of an enabled link group of the armed sequencer (12 R368). -/
def State.vdcArmed (s : State) (k : Nat) : Bool :=
  s.armed && (List.range 4).any fun g => s.on (SAF_LINK_CFG__EN g) && s.get (SAF_LINK_CFG__VDC_CH g) == k

/-- Two different grid channels of one axis, or shared among the same axes (10 R303). -/
def State.pairOk (s : State) (a b : Nat) : Bool :=
  a != b && s.onGrid a && s.onGrid b &&
    ((s.on (FM_CH_BIND__BOUND a) && s.on (FM_CH_BIND__BOUND b) && s.get (FM_CH_BIND__AXIS a) == s.get (FM_CH_BIND__AXIS b)) ||
     (s.on (FM_CH_BIND__SHARED a) && s.on (FM_CH_BIND__SHARED b) && s.get (FM_CH_BIND__SHARE_MASK a) == s.get (FM_CH_BIND__SHARE_MASK b)))

/-- Fast-measurement registers (10 R295, R300, R303, R322, 12 R368). -/
def State.checkFm (s : State) (b k : Nat) (v : Word) : Nat :=
  if b = FM_PAIR 0 then r4 (s.pairOk (fieldGet v 0 5) (fieldGet v 8 5))
  else if b = FM_CH_BIND 0 then
    let new := if fieldGet v 3 1 = 1 then [fieldGet v 0 3] else if fieldGet v 4 1 = 1 then bitsOf 8 (fieldGet v 8 8) else []
    r4 (!(fieldGet v 3 1 == 1 && fieldGet v 4 1 == 1) && (s.fcAxes k ++ new).all fun a => s.axState a == 0)
  else if b = FM_CH_CFG 0 then r4 ((s.fcAxes k).all fun a => !s.axLive a)
  else if b = FM_CH_WA 0 ∨ b = FM_CH_WB 0 then (if s.vdcArmed k then 7 else 0)
  else if b = FM_CH_WCTL 0 then (if s.vdcArmed k then 7 else r4 ((s.fcAxes k).all fun a => s.axState a ≤ 1))
  else 0

/-- Precision-measurement registers (10 R301, R306, R309, R323). -/
def State.checkPm (s : State) (b : Nat) (v : Word) : Nat :=
  if b = PM_CFG then
    let same := fieldGet v 0 2 == s.get PM_CFG__MAINS && fieldGet v 8 5 == s.get PM_CFG__TRK_CH
    r4 (fieldGet v 0 2 != 3 && (same || (!s.on PM_CFG__EN && !(fieldGet v 0 2 == 2 && s.vsrcNames (fieldGet v 8 5)))))
  else if b = PM_SEQ_LEN then r4 (!s.on PM_CFG__EN && fieldGet v 0 7 ≤ 64)
  else if b = PM_SEQ 0 then r4 (!s.on PM_CFG__EN)
  else if b = PM_URGENT then r4 (s.pm.urg.length < 8)
  else 0

/-- The interface is unbound, or its axis does not run (11 R325). -/
def State.piStill (s : State) (n : Nat) : Bool :=
  match s.piAxis n with
  | some a => !s.axLive a
  | none => true

/-- Position registers (11 R325 to R327, R334). -/
def State.checkPi (s : State) (b n : Nat) (v : Word) : Nat :=
  if b = PI_CFG 0 then r4 (s.piStill n && fieldGet v 0 3 ≤ 4)
  else if b = PI_CPR 0 then r4 (s.piStill n && 4 ≤ v.toNat)
  else if b = PI_LIM_LO 0 then r4 (s.piStill n && decide (v.toInt < sgn 32 (s.get (PI_LIM_HI__LIM_HI n))))
  else if b = PI_LIM_HI 0 then r4 (s.piStill n && decide (sgn 32 (s.get (PI_LIM_LO__LIM_LO n)) < v.toInt))
  else if b = PI_RES_T 0 then r4 (s.piStill n && 10000 ≤ fieldGet v 0 17 && fieldGet v 0 17 ≤ 100000)
  else if b = PI_SSI 0 ∨ b = PI_SSI_T 0 ∨ b = PI_RES 0 ∨ b = PI_RES_PH 0 ∨ b = PI_CNT 0 then r4 (s.piStill n)
  else 0

/-- Safety registers (12 R356). -/
def State.checkSaf (s : State) (b : Nat) : Nat :=
  if (b = SAF_CONFIRM ∨ 0x48400 ≤ b) ∧ s.armed then 7 else 0

/-- Redundancy registers (13 R387, R416, R419). -/
def State.checkRed (s : State) (b i j : Nat) (v : Word) : Nat :=
  if b = RED_CFG then r4 (64 ≤ fieldGet v 0 12)
  else if b = RED_AXSLOT then
    r4 ((List.range 8).all fun a => fieldGet v (2 * a) 2 == s.get (RED_AXSLOT__SLOT a) || s.axState a == 0)
  else if b = RED_WS_RGN 0 0 then
    r4 (((List.range 4).map fun r => if r = j then fieldGet v 16 9 else s.get (RED_WS_RGN__LEN i r)).sum ≤ 496)
  else if b = RED_SVC then r4 (!s.on RED_SVC_STAT__BUSY)
  else 0

/-- Vault registers: a write that the chapter does not permit has reason 4 (14 R429, R430, R434, R438, R443). M-mode firmware writes the
words of the user area (R425); the spec names no register for that, and the model takes the word's VLT_WORD (DESIGN CHOICE, log 34). -/
def State.checkVlt (s : State) (w : Writer) (r : RegRow) (i : Nat) (v : Word) : Nat :=
  let b := r.addr
  if b = VLT_WORD 0 then (match w with | .host _ => 4 | .firmware _ => r4 (1024 ≤ i && s.sys.released))
  else if b = VLT_MIN_SVN then
    r4 ((s.vq.filter fun c => c.word == 210).all (fun c => c.value.toNat ≤ v.toNat) && s.get VLT_MIN_SVN__MIN_SVN ≤ v.toNat)
  else if b = VLT_STG_LEN then r4 (1 ≤ fieldGet v 12 9 && fieldGet v 12 9 ≤ 256)
  else if b = VLT_KEY_REVOKE then r4 (fieldGet v 16 16 == 0x5256 && s.revokeOk (fieldGet v 0 2))
  else if b = VLT_STG_CTRL then
    r4 ((fieldGet v 0 1 == 0 || s.stageCopyOk) && (fieldGet v 1 1 == 0 || (!s.on VLT_STG_STAT__BUSY && fieldGet v 0 1 == 0)))
  else if b = VLT_ATT_CTRL then r4 (fieldGet v 0 1 == 0 || s.attOk)
  else if b = VLT_DBG_STAT then 0
  else r4 (r.rw != 0 || r.w1c != 0 || r.pv != 0)

/-- Masters that an event of the tally allows (16 R471, R472); none for an undefined event. -/
def talMasters (ev : Nat) : Option (Nat → Bool) :=
  let pairs := fun m => m ≤ 4 || (16 ≤ m && m ≤ 19) || m == 31
  if ev ≤ 0x0C ∨ (0x10 ≤ ev ∧ ev ≤ 0x14) then some pairs
  else if 0x20 ≤ ev ∧ ev ≤ 0x23 then some fun m => m ≤ 12 || (16 ≤ m && m ≤ 19) || m == 31
  else if 0x30 ≤ ev ∧ ev ≤ 0x35 then some fun m => m == 6 || m == 7 || m == 31
  else if 0x40 ≤ ev ∧ ev ≤ 0x43 then some fun m => m == 5 || m == 31
  else if 0x50 ≤ ev ∧ ev ≤ 0x53 then some fun m => m == 12 || m == 31
  else if 0x60 ≤ ev ∧ ev ≤ 0x63 then some fun m => (8 ≤ m && m ≤ 11) || m == 31
  else none

/-- The event carries an address (R471). -/
def talHasAddr (ev : Nat) : Bool :=
  (6 ≤ ev && ev ≤ 9) || ev == 0xC || (0x10 ≤ ev && ev ≤ 0x13) || (0x20 ≤ ev && ev ≤ 0x23) || ev == 0x40

/-- Tally registers (16 R469, R472, R474, R484, R486). -/
def State.checkTal (s : State) (b i : Nat) (v : Word) : Nat :=
  let idle := s.get TAL_SAMP_CFG__SRC_EN == 0 && s.get TAL_TAG_CFG__EN == 0
  if b = TAL_EVT 0 then
    let ev := fieldGet v 0 8
    r4 ((!s.on (TAL_EVT__EN i) || fieldGet v 18 1 == 0) &&
      (match talMasters ev with | some ok => ok (fieldGet v 8 5) | none => false) && (fieldGet v 15 2 == 0 || talHasAddr ev))
  else if b = TAL_CNT_LO 0 ∨ b = TAL_CNT_HI 0 then r4 (!s.on (TAL_EVT__EN i) || !s.on TAL_CTRL__RUN)
  else if b = TAL_SAMP_CFG then r4 (idle || fieldGet v 0 6 == 0)
  else if b = TAL_TAG_CFG then r4 (idle || fieldGet v 0 2 == 0)
  else if b = TAL_SAMP_PC_LO ∨ b = TAL_SAMP_PC_HI then r4 idle
  else if b = TAL_SAMP_RD then r4 ((s.get TAL_SAMP_WR__WR + 512 - fieldGet v 0 9) % 512 ≤ 256)
  else 0

/-- The rules of the register that a write reaches: row r, instance numbers i and j. -/
def State.valueReason (s : State) (w : Writer) (r : RegRow) (i j : Nat) (v : Word) : Nat :=
  let b := r.addr
  if b < 0x2000 then s.checkHp w b i v
  else if b = PWR_CTRL then 0
  else if 0x8000 ≤ b ∧ b < 0xC000 ∨ 0x78000 ≤ b ∧ b < 0x80000 then s.checkRing b i v
  else if 0x10400 ≤ b ∧ b < 0x10800 then s.checkTm b i v
  else if 0x10000 ≤ b ∧ b < 0x18000 then s.checkAx b i j v
  else if 0x20000 ≤ b ∧ b < 0x24000 then s.checkLeg b i j v
  else if 0x24000 ≤ b ∧ b < 0x30000 then s.checkGi b i j v
  else if 0x30000 ≤ b ∧ b < 0x38000 then s.checkFm b i v
  else if 0x38000 ≤ b ∧ b < 0x40000 then s.checkPm b v
  else if 0x40000 ≤ b ∧ b < 0x48000 then s.checkPi b i v
  else if 0x48000 ≤ b ∧ b < 0x50000 then s.checkSaf b
  else if 0x50000 ≤ b ∧ b < 0x60000 then s.checkRed b i j v
  else if 0x60000 ≤ b ∧ b < 0x70000 then s.checkVlt w r i v
  else if 0x80000 ≤ b ∧ b < 0x90000 then s.checkTal b i v
  else if 0x90000 ≤ b ∧ b < 0xA0000 then s.checkDma b i v
  else 0

end Sys2Proof.Machine
end

