-- ==== Sys2Proof/Machine/Bus.lean ====
section
/-! DEFINITION. The register bus: what a read answers and a write does, once allowed, for every register; the host's
accesses with their refusals (03 R78 to R92); and accesses that wait for a clock (02 R57, R62) or a place in the vault's
queue (14 R422). -/

namespace Sys2Proof.Machine

/-! ## Reads -/

/-- A descriptor in execution that waits on the state of an axis, on entries, on a busy unit or on host memory: PHASE 4. -/
def State.ctxWaits (s : State) (c : Nat) : Bool :=
  match (s.ctx c).exec with
  | some e =>
    let op := opOf (dword e.words 0)
    e.done.isNone && (e.flush != 0 || (op == 0x11 && e.phase == 1) || op == 0x20 || op == 0x50 ||
      (op == 0x31 && (s.pm.readers.head? != some c || s.pm.q.isEmpty)) ||
      op == 0x51 || (op == 0x52 && e.phase == 0 && s.on VLT_STG_STAT__BUSY) || (op == 0x72 && e.phase == 0 && s.on RED_SVC_STAT__BUSY))
  | none => false

/-- A word of a port's MSI-X table or of its pending bits (03 R81). -/
def State.msixWord (s : State) (p a : Nat) : Word :=
  if a < 0xF0800 then s.msixRd (256 * p + (a - 0xF0000) / 4)
  else BitVec.ofNat 32 (((List.range 32).filter fun v => sget (fun _ => false) s.pba (64 * p + 8 * (a - 0xF0800) + v)).map (2 ^ ·)).sum

/-- The zero-crossing comparator of a channel is on (10 R301); one that is off reads 0 (log 60). -/
def State.zcOn (s : State) (k : Nat) : Bool :=
  s.tracking k || (List.range 8).any fun a => s.tableMode a &&
    ((s.on (TM_VSRC__EN a) && [TM_VSRC__VA a, TM_VSRC__VB a, TM_VSRC__VC a].any fun f => s.get f == k) ||
      (s.on (AX_STATE__ASC_ACTIVE a) && [TM_ISRC__IA a, TM_ISRC__IB a, TM_ISRC__IC a].any fun f => s.get f == k))

/-- The word that a register shows, but for the effects of a read. -/
def State.regValue (s : State) (w : Writer) (a : Nat) : Word :=
  match findRow a with
  | none => (match w with | .host p => if msixAddr a then s.msixWord p.val a else 0 | .firmware _ => 0)
  | some (r, i, j) =>
    let b := r.addr
    if b = HP_SELF then
      BitVec.ofNat 32 ((match w with | .host p => p.val | .firmware _ => Config.freeNat s.free % 4) + b2n (s.steward == Writer.code w) * 16)
    else if b = PWR_TIME_LO then BitVec.ofNat 32 s.time
    else if b = PWR_TIME_HI then s.sys.timeHi
    else if b = HP_CTX_STATE 0 then
      (if s.ctxPhase i = 3 ∧ s.ctxWaits i then fieldSet (s.rd a) 28 3 4 else s.rd a)
    else if b = AX_BANKWIN 0 0 then
      (let sel := s.get (AX_BANKSEL__BANK i)
       if j < bankSize sel then s.bankRd i sel j else 0)
    else if b = 0x31024 then fieldSet (s.rd a) 8 1 (s.get (FM_CH_STATUS__ZC_OUT i) * b2n (s.zcOn i))
    else if b = TM_ANGLE 0 then s.tmAngle i
    else if b = LEG_MASK_STEP 0 then BitVec.ofNat 32 (s.get (LEG_STATUS__MASK_STEP i))
    else if b = LEG_STATUS 0 then
      fieldSet (s.rd a) 2 1 (b2n (s.legSwitching i))
    else if (b = GI_STATUS 0 ∨ b = GI_DCPS 0 ∨ b = GI_L_STATUS 0 0) ∧ (s.isl i).unheard then resetWord a
    else if b = LEG_CNT 0 then (if s.on (LEG_STATUS__RUNNING i) then BitVec.ofNat 32 (s.cntOpen i) else s.rd a)
    else if b = PI_SPEED 0 then BitVec.ofNat 32 (unsgn 24 (s.piSpeed i))
    else if b = SAF_STATUS then fieldSet (s.rd a) 3 1 (b2n s.seqBusy)
    else if b = SAF_AX_STAT 0 then fieldSet (s.rd a) 16 12 (min 0xFFF ((s.axTlim i 12).getD 0))
    else if b = SAF_AX_TAU 0 then fieldSet (s.rd a) 24 1 (b2n (s.on (SAF_AX_TAU__VALID i) && s.armed && s.on (SAF_AX_TMON__EN i) && s.axLive i))
    else if b = BIST_STATUS then
      (match s.sliceNow with | some (k, u) => BitVec.ofNat 32 (k + u * 2 ^ 16) | none => 0)
    else if b = RED_FL_W 0 0 then
      BitVec.ofNat 32 (((s.fl.find? fun f => f.slot == i).map fun f => f.words.getD j 0).getD 0)
    else if b = VLT_WORD 0 then (if s.on VLT_STATUS__LOADED then s.vaultRd i else 0)
    else if b = VLT_WEAR 0 then (if s.on VLT_STATUS__LOADED then s.wearRd i else 0)
    else if b = SEAM_PD_RX_STAT 0 then fieldSet (s.rd a) 18 14 (s.peerAge i)
    else s.rd a

/-- A register is read: its word, and the state after the read effects (00 R16). -/
def readReg (w : Writer) (a : Nat) (s : State) : Word × State :=
  if a = PM_QPOP 0 then pmPop s
  else
    let s := s.when (a == CLK_STATUS) trimStep
    let v := s.regValue w a
    let s := { s with free := s.free + 1 }
    (v, if a = PWR_TIME_LO then s.upSys fun y => { y with timeHi := BitVec.ofNat 32 (s.time / 2 ^ 32) } else s)

/-- A read of a PV field is answered once the commits of its word have ended (14 R422). -/
def State.readWaits (s : State) (a : Nat) : Bool :=
  match vaultWord a with
  | some w => s.vqHas w
  | none => false

/-! ## POWER_GO (02 R61) -/

/-- The context whose POWER_REQ has been passed to firmware for a target. -/
def State.powerCtx (s : State) (target : Nat) : Option Nat :=
  (List.range 256).find? fun c =>
    match s.running c 0x70 with
    | some e => e.phase == 1 && fieldGet (dword e.words 1) 0 2 == target
    | none => false

/-- PWR_CTRL.GO. -/
def powerGo (s : State) : State :=
  let target := s.get PWR_CTRL__TARGET
  if 2 ≤ target ∨ s.get PWR_STATE__STATE < 2 ∨ s.on PWR_STATE__DESCENDING then s
  else
    let c := s.powerCtx target
    let code := s.descentRefuse target c
    if code ≠ 0 then
      let s := s.put PWR_STATE__LAST_REFUSE code
      match c with
      | some c => descDone c 4 code s
      | none => s
    else
      let s := ((s.put PWR_STATE__LAST_REFUSE 0).putB PWR_STATE__DESCENDING true).upSys fun y => { y with descent := some none }
      match c with
      | some c => descFinish c (descDone c 0 0 (stepDone c 1 s))
      | none => s

/-! ## Writes -/

/-- The word of a register after a write of its RW and W1C bits (00 R13). -/
def RegRow.stored (r : RegRow) (old v : Word) : Word :=
  let rw := BitVec.ofNat 32 r.rw
  ((old &&& ~~~rw) ||| (v &&& rw)) &&& ~~~(v &&& BitVec.ofNat 32 r.w1c)

/-- A write: RW and W1C bits at once, PV bits through the vault. -/
def regStore (r : RegRow) (a : Nat) (v : Word) (ctx : Option Nat) (s : State) : State :=
  let s := s.wr a (r.stored (s.rd a) v)
  if r.pv = 0 then s
  else match vaultWord a with
    | some w => vqPush w (v &&& BitVec.ofNat 32 r.pv) ctx s
    | none => s

/-- HP_ registers with effects of their own; some where the register is one of them: the state and a late reason. -/
def effHp (w : Writer) (r : RegRow) (a i : Nat) (v : Word) (ctx : Option Nat) (s : State) : Option (State × Nat) :=
  let b := r.addr
  if b = HP_STEWARD then
    let s := s.wr a (r.stored (s.rd a) v)
    match w with
    | .host _ =>
      if fieldGet v 0 4 ≠ s.steward then some (s, 3)
      else some ((match ctx with | some c => vwStep c s | none => s), 0)
    | .firmware _ => some (vqPush 160 (v &&& 0xF) ctx s, 0)
  else if b = HP_STEWARD_XFER then
    some ((match w with | .host _ => xferWrite (fieldGet v 0 2) (fieldGet v 8 1 == 1) s | .firmware _ => s), 0)
  else if b = HP_STEWARD_ACCEPT then
    some ((match w with | .host p => if fieldGet v 0 1 = 1 then xferAccept p.val s else s | .firmware _ => s), 0)
  else if b = HP_DENY_INFO 0 then
    some (s.when (fieldGet v 31 1 == 1) fun s => (s.putB (HP_DENY_INFO__VALID i) false).put (HP_DENY_INFO__COUNT i) 0, 0)
  else if b = HP_EVENT then
    let mine : Word := match w with
      | .host p => if s.steward = p.val then 0xFFFFFFFF else 0x1111#32 <<< p.val
      | .firmware _ => 0xFFFFFFFF
    some (regStore r a (v &&& mine) none s, 0)
  else none

/-- PWR_ registers with effects of their own. -/
def effPwr (r : RegRow) (a : Nat) (v : Word) (s : State) : Option (State × Nat) :=
  let b := r.addr
  if b = PWR_CTRL then some ((regStore r a v none s).when (fieldGet v 8 1 == 1) powerGo, 0)
  else if b = PWR_WAKE_TIMER then
    some ((regStore r a v none s).upSys fun y => { y with wakeTimer := fieldGet v 0 24 != 0 }, 0)
  else if b = PWR_RESET then some (s.when (fieldGet v 0 16 == 0x4B52) (warmDo 2), 0)
  else none

/-- Event-ring head and enable (04 R128, R133). -/
def ringHead (p : Nat) (v : Nat) (s : State) : State :=
  let s := s.put (EV_RING_HEAD__HEAD p) (v % s.ringSize p)
  s.putB (EV_RING_TAIL__FULL p) (s.ringFull p)

def ringEnable (p : Nat) (s : State) : State :=
  let s := (s.put (EV_RING_TAIL__TAIL p) 0).upPort p fun q => { q with phase := true }
  ringHead p 0 s

/-- HP_CTX_LEDGER1 written by firmware for an F-agent descriptor in execution (04 R125). -/
def ledgerWrite (c v : Nat) (s : State) : State :=
  match (s.ctx c).exec with
  | some e =>
    let n := s.get (HP_CTX_LEDGER1__STEPS c)
    if [0x70, 0x71, 0x72].contains (opOf (dword e.words 0)) && e.done.isNone then
      (s.put (HP_CTX_LEDGER1__STEPS c) v).when (n < v) (talCount 0x53 12 (v - n) 0)
    else s
  | none => s

/-- Context, event and DMA registers with effects of their own. -/
def effRing (w : Writer) (r : RegRow) (a i : Nat) (v : Word) (s : State) : Option (State × Nat) :=
  let b := r.addr
  if b = HP_CTX_CTRL 0 then some (ctxCtrl i v s, 0)
  else if b = HP_CTX_CFG 0 then some (satStep i (regStore r a v none s), 0)
  else if b = HP_CTX_LEDGER1 0 then
    some ((match w with | .firmware _ => ledgerWrite i (fieldGet v 0 24) s | .host _ => s), 0)
  else if b = EV_RING_CFG 0 then
    let was := s.on (EV_RING_CFG__EN i)
    some ((regStore r a v none s).when (!was && fieldGet v 8 1 == 1) (ringEnable i), 0)
  else if b = EV_RING_HEAD 0 then some (ringHead i (fieldGet v 0 12) s, 0)
  else if b = EV_FWRAISE then some (raise (240 + fieldGet v 0 4) (fieldGet v 8 8) (s.rd EV_FWDETAIL).toNat s, 0)
  else if b = DMA_CH_CTRL 0 then some (dmaCtrl i v s, 0)
  else none

/-- Axis, leg and island registers with effects of their own. Of several bits of one write of AX_CTRL, FAULT_CLR acts first, then
GO, then FW_RELEASE: the model's choice (log 55). -/
def effAxis (w : Writer) (r : RegRow) (a i j : Nat) (v : Word) (s : State) : Option (State × Nat) :=
  let b := r.addr
  if b = AX_CTRL 0 then
    let s := s.when (fieldGet v 8 1 == 1) (faultClr i)
    let s := s.when (fieldGet v 4 1 == 1) (axRequest i (fieldGet v 0 4) none)
    if fieldGet v 9 1 = 0 then some (s, 0)
    else match w with
      | .host _ => some (s, 3)
      | .firmware _ => some (s.putB (AX_STATE__RST_HOLD i) false, 0)
  else if b = AX_SETPOINT 0 then some (setpointWrite i v s, 0)
  else if b = AX_BANKWIN 0 0 then some (bankWr i (s.get (AX_BANKSEL__BANK i)) j v s, 0)
  else if 0x10400 ≤ b ∧ b < 0x10480 then some (updatePo i (regStore r a v none s), 0)
  else if b = LEG_CFG 0 then
    some ((regStore r a v none s).when (!s.on (LEG_STATUS__RUNNING i)) (cfgEffect i), 0)
  else if b = LEG_CTRL 0 then
    let s := s.when (fieldGet v 2 1 == 1) (legCommit i)
    let s := s.when (fieldGet v 3 1 == 1) (legDiscard i)
    some (updatePower (counterUpdate i (regStore r a v none s)), 0)
  else if b = LEG_PRD 0 then some (shadowWrite i 0 v.toNat s, 0)
  else if b = LEG_CMP 0 0 then some (shadowWrite i (j + 1) v.toNat s, 0)
  else if b = LEG_DT 0 then some (voteClear 0 i (regStore r a v none s), 0)
  else if b = LEG_MASK 0 then
    let src := fieldGet v 16 2
    let s' := (regStore r a v none s).when (src != s.get (LEG_MASK__SRC i)) fun s => s.upLeg i fun l => { l with maskDue := b2n (src == 3) }
    some (maskApply i (s.legWant i (s.leg i).h) false s', 0)
  else if b = LEG_MASK_STEP 0 then
    let s := regStore r a v none s
    match s.get (LEG_MASK__SRC i) with
    | 3 => some (s.upLeg i fun l => { l with maskDue := 1 }, 0)
    | _ => some (maskApply i (s.legWant i (s.leg i).h) false (s.put (LEG_STATUS__MASK_STEP i) (fieldGet v 0 3)), 0)
  else if b = GI_CFG 0 then some (islandService i (fieldGet v 0 1 == 1) s, 0)
  else if b = GI_L_ON 0 0 ∨ b = GI_L_OFF 0 0 ∨ b = GI_L_SC 0 0 then some (giCfgChange i (regStore r a v none s), 0)
  else if b = GI_L_SOFT 0 0 then some (giCfgChange i (voteClear 1 (3 * i + j) (regStore r a v none s)), 0)
  else if b = GI_L_BCTRL 0 0 then
    let s := s.when (fieldGet v 1 1 == 1) (bastAbort (3 * i + j))
    some (s.when (fieldGet v 0 1 == 1) (bastStart (3 * i + j)), 0)
  else none

/-- A coefficient of a calibration enters the commit queue. -/
def calPush (w v : Nat) (s : State) : State :=
  let s := vqPush w (BitVec.ofNat 32 v) none s
  { s with vq := s.vq.dropLast ++ (s.vq.getLast?.toList.map fun c => { c with cal := true }) }

/-- PM_CAL_CTRL.STEP (10 R318, R319). -/
def calStep (v : Word) (s : State) : State :=
  let j := fieldGet v 0 6
  match fieldGet v 16 3 with
  | 0 => s
  | 1 => calZero j (fieldGet v 8 4) s
  | 2 => calFull j (fieldGet v 8 4) s
  | 3 =>
    match s.calCheck with
    | (0, z, g) =>
      let j := s.pm.calIn
      let s := (s.put PM_CAL_STATUS__PHASE 5).upPm fun p => { p with calDue := 2 }
      calPush (503 + 3 * j) g (calPush (502 + 3 * j) z s)
    | (k, _, _) => calEnd k s
  | _ => calEnd 4 s

/-- Measurement and position registers with effects of their own. -/
def effMeas (r : RegRow) (a i : Nat) (v : Word) (s : State) : Option (State × Nat) :=
  let b := r.addr
  if b = FM_CH_CFG 0 then
    let was := s.on (FM_CH_CFG__EN i)
    some (fcEnable i was (regStore r a v none s), 0)
  else if b = PM_CFG then
    let same := fieldGet v 0 2 == s.get PM_CFG__MAINS && fieldGet v 8 5 == s.get PM_CFG__TRK_CH
    some (pmStatus (pmServe (pmPeriod ((regStore r a v none s).when (!same) mainsRestart))), 0)
  else if b = PM_URGENT then some (pmUrgent (fieldGet v 0 6) s, 0)
  else if b = PM_CAL_CTRL then some (calStep v (regStore r a v none s), 0)
  else if b = PM_IN_CFG 0 then some (pmServe (pmSumDrop i (regStore r a v none s)), 0)
  else if b = PI_CFG 0 then
    let was := s.piMode i
    let s := regStore r a v none s
    some (if s.piMode i = was then piAngleUpdate i s else piModeChange i s, 0)
  else if b = PI_SPD_CFG 0 ∨ b = PI_RATE 0 then some (regStore r a v none (piHold i s), 0)
  else if b = PI_CPR 0 then some (piAngleUpdate i (regStore r a v none s), 0)
  else if b = PI_CNT 0 then some (piCntWrite i v s, 0)
  else none

/-- SAF_CT_CMD: OPEN is taken where both name a contactor; a refused close has reason 7 (12 R375). -/
def ctCmd (v : Word) (s : State) : State × Nat :=
  let s := s.each (bitsOf 8 (fieldGet v 8 8)) ctOpen
  let l := (bitsOf 8 (fieldGet v 0 8)).filter fun k => !nbit (fieldGet v 8 8) k
  let bad := l.any s.ctRefused
  ((s.each (l.filter fun k => !s.ctRefused k) ctClose), if bad then 7 else 0)

/-- A key of SAF_ARM. -/
def safKey (k : Nat) (s : State) : State × Nat :=
  let r := if k = 0x5341 then armKey s else if k = 0x4453 then disarmKey s else (s, false)
  (r.1, if r.2 then 7 else 0)

/-- Safety, redundancy, vault and seam registers with effects of their own. -/
def effSafe (r : RegRow) (a i : Nat) (v : Word) (s : State) : Option (State × Nat) :=
  let b := r.addr
  if b = SAF_ARM then some (safKey (fieldGet v 0 16) s)
  else if b = SAF_CLEAR then some (s.when (fieldGet v 0 16 == 0x434C) safClear, 0)
  else if b = SAF_CT_CMD then some (ctCmd v s)
  else if b = RED_SVC then some (svcStart (fieldGet v 0 8) (fieldGet v 8 4) (fieldGet v 16 16) none s, 0)
  else if b = RED_CP_CTRL 0 then
    let s := s.when (fieldGet v 0 1 == 1) (ckptTake i true)
    some (s.when (fieldGet v 1 1 == 1) (yieldTake i), 0)
  else if b = VLT_KEY_REVOKE then some (keyRevoke (fieldGet v 0 2) s, 0)
  else if b = VLT_STG_CTRL then
    let s := s.when (fieldGet v 0 1 == 1) stageCopyGo
    some (s.when (fieldGet v 1 1 == 1) (stageAct (fieldGet v 4 2) none), 0)
  else if b = VLT_ATT_CTRL then some (s.when (fieldGet v 0 1 == 1) attGo, 0)
  else if b = VLT_DBG_STAT then some (s.when (fieldGet v 1 1 == 1) dbgLock, 0)
  else if b = SEAM_TRIP_CMD then
    some (s.when (fieldGet v 16 16 == 0x5452) (seamSend (fieldGet v 0 4)), 0)
  else if b = TAL_CTRL then
    let s := (regStore r a v none s).when (fieldGet v 0 1 == 1) fun s => s.putB TAL_STATUS__FROZEN false
    let s := s.when (fieldGet v 1 1 == 1) talLatch
    some (s.when (fieldGet v 2 1 == 1) talClear, 0)
  else if b = TAL_SAMP_RD then some (sampShow (regStore r a v none s), 0)
  else none

/-- What an allowed write of a register does, and the reason of a part that it refuses. -/
def regEffect (w : Writer) (r : RegRow) (a i j : Nat) (v : Word) (ctx : Option Nat) (s : State) : State × Nat :=
  let b := r.addr
  let own :=
    if b < 0x2000 then effHp w r a i v ctx s
    else if b < 0x3000 then effPwr r a v s
    else if b < 0x10000 ∨ 0x78000 ≤ b ∧ b < 0x80000 ∨ 0x90000 ≤ b then effRing w r a i v s
    else if b < 0x30000 then effAxis w r a i j v s
    else if b < 0x48000 then effMeas r a i v s
    else if b = VLT_WORD 0 then some (vqPush i v ctx s, 0)
    else effSafe r a i v s
  own.getD (regStore r a v ctx s, 0)

/-- The write commits through the vault. -/
def RegRow.commits (r : RegRow) (w : Writer) : Bool :=
  r.addr == VLT_WORD 0 || (r.pv != 0 && !(r.addr == HP_STEWARD && (match w with | .host _ => true | .firmware _ => false)))

/-- Registers without PV bits whose write may put commits in the queue: an accepted stewardship, arming, a calibration and a
reservation of signatures. -/
def RegRow.mayCommit (r : RegRow) : Bool := [HP_STEWARD_ACCEPT, SAF_ARM, PM_CAL_CTRL, VLT_ATT_CTRL].contains r.addr

/-- The queue of the vault has no place for a write: it is full, or a write that came before waits for a place (14 R422). -/
def State.vqFull (s : State) : Bool := decide (8 ≤ s.vq.length) || s.vheld != []

/-- How a write of BAR0 ends: done, with the reason of a refused part; refused; or waiting for a place in the queue. -/
inductive WriteRes where
  | done (s : State) (reason : Nat)
  | refused (reason : Nat)
  | full
  deriving DecidableEq, Repr

/-- A write whose writer has passed the checks of R85 to R87: the register's own rules, then its effect. A write that finds the queue
full and would put a commit in it waits for a place (14 R422); the further commits of one write, and those of row repairs, find no
bus access to hold, and wait behind the eight (log 34). -/
def ruledWrite (w : Writer) (a : Nat) (v : Word) (ctx : Option Nat) (s : State) : WriteRes :=
  match findRow a with
    | none => .refused 4
    | some (r, i, j) =>
      let q := s.valueReason w r i j v
      if q ≠ 0 then .refused q
      else if r.commits w && s.vqFull then .full
      else
        let x := regEffect w r a i j v ctx s
        if r.mayCommit && s.vqFull && decide (s.vq.length < x.1.vq.length) then .full
        else .done x.1 x.2

/-- A single-word write of BAR0: the checks of R85 to R87, then the register's own rules. -/
def busWrite (w : Writer) (a : Nat) (v : Word) (ctx : Option Nat) (s : State) : WriteRes :=
  let k := s.writeReason w false a
  if k ≠ 0 then .refused k else ruledWrite w a v ctx s

/-- A refusal leaves its record in the port's denial registers; a reserved owner code, a transfer to a port whose link is down and a
writer that is not the steward in HP_OWN_STATUS too. DESIGN CHOICE (log 10): the first two have reason 4 there, as a value that a field
does not take. -/
def refuseRecord (w : Writer) (a : Nat) (reason : Nat) (s : State) : State :=
  if reason = ownBad ∨ reason = xferBad then denyW w a false 4 (ownRefuse a (if reason = ownBad then 2 else 5) s)
  else
    let table := match findRow a with | some (r, _, _) => r.cls == .ownTable | none => false
    let s := s.when (reason == 2 && table) (ownRefuse a 1)
    s.when (reason != 0 && reason != quietDrop) (denyW w a false reason)

/-- A write of the port's own MSI-X table; unmasking a vector whose bit is pending sends its message (04 R130). -/
def msixWrite (p a : Nat) (v : Word) (s : State) : State :=
  if 0xF0800 ≤ a then s
  else
    let k := (a - 0xF0000) / 4
    let x := k / 4
    let s := { s with msix := sset msixReset s.msix (256 * p + k) v }
    if k % 4 = 3 then msixDue p x s else s

/-- A write of a doorbell page: DB_TAIL, or a live setpoint mirror (04 R106 to R108, 06 R161). -/
def pageWrite (w : Writer) (a : Nat) (v : Word) (s : State) : State :=
  if a % 0x1000 = 0 then dbTail (a / 0x1000) v s
  else match s.mirrorAxis a with
    | some n => if s.ss1Locks n then denyW w a true 7 s else setpointWrite n v s
    | none => s

/-- A single-word write, its checks and its records. A write that finds the vault's queue full is held. -/
def doWrite (w : Writer) (bar2 : Bool) (a : Nat) (v : Word) (s : State) : State :=
  if bar2 then
    let k := s.writeReason w true a
    if k ≠ 0 then s.when (k != quietDrop) (denyW w a true k) else pageWrite w a v s
  else if msixAddr a then
    let k := s.writeReason w false a
    if k ≠ 0 then s.when (k != quietDrop) (denyW w a false k)
    else match w with | .host p => msixWrite p.val a v s | .firmware _ => s
  else match busWrite w a v none s with
    | .done s k => refuseRecord w a k s
    | .refused k => refuseRecord w a k s
    | .full => { s with vheld := s.vheld ++ [(w, a, v)] }

/-- A single-word read of a doorbell page. -/
def State.pageRead (s : State) (a : Nat) : Word :=
  if a % 0x1000 = 4 then BitVec.ofNat 32 (s.ctxHead (a / 0x1000))
  else match s.mirrorAxis a with
    | some n => s.rd (AX_SETPOINT n)
    | none => 0

/-- A single-word read by a host. A read with effect that its host may not make answers 0 (03 R85). -/
def doRead (p : Fin 4) (bar2 : Bool) (a : Nat) (s : State) : Word × State :=
  let k := s.readReason (.host p) bar2 a
  if k = quietDrop then (0, s)
  else if k ≠ 0 then (0, deny p.val a bar2 k s)
  else if bar2 then (s.pageRead a, s)
  else readReg (.host p) a s

/-- The number under which a writer's access is held, and back. -/
def Writer.slot : Writer → Nat
  | .host p => p.val
  | .firmware n => 8 + n.val
def slotWriter (k : Nat) : Writer := if k < 4 then .host (Fin.ofNat 4 k) else .firmware (Fin.ofNat 5 (k - 8))

/-- An access is held at its port, or in its pair. -/
def holdAccess (w : Writer) (x : Access) (s : State) : State := s.upSys fun y => { y with held := y.held ++ [(Writer.slot w, x)] }

/-- A host's request of more than two double words (03 R79). -/
def longAccess (p : Nat) (x : Access) (s : State) : State :=
  match x.value with
  | some _ => deny p x.addr.toNat x.bar2 6 s
  | none => s.emit (.abort p)

/-- An access reaches the register bus, or is held while its clock is withdrawn or its word is being committed. A write
with a byte enable clear is discarded (00 R15). Firmware's reads have their read effects (03 R87). -/
def access (w : Writer) (x : Access) (s : State) : State :=
  let a := x.addr.toNat
  if s.accessWaits x.bar2 a then holdAccess w x s
  else match x.value with
    | some v => if x.be ≠ 0xF#4 ∨ a % 4 ≠ 0 then s else doWrite w x.bar2 a v s
    | none =>
      let a := a / 4 * 4
      if !x.bar2 && s.readWaits a then holdAccess w x s
      else match w with
        | .host p =>
          let r := doRead p x.bar2 a s
          r.2.emit (.readDone p.val r.1)
        | .firmware _ => if x.bar2 then s else (readReg w a s).2

/-- A memory request at a host's port: it wakes a sleeping device and is held there (02 R62). The port takes it while its link
is up and it is in D0; in D3hot it answers configuration requests only (03 R77). A request while Memory Space Enable is 0 is
unsupported (R79). DESIGN CHOICE (log 54): a request to a device that is awake latches source 0 in a descent alone. -/
def hostAccess (p : Fin 4) (x : Access) (s : State) : State :=
  if !s.on (HP_LINK__UP p.val) then s
  else if !s.awake then holdAccess (.host p) x (wake 0 s)
  else
    let s := s.when (s.on PWR_STATE__DESCENDING) (wake 0)
    if !s.portTakes p.val then s
    else if !(s.port p.val).mse then s.emit (.unsupported p.val)
    else if x.long then longAccess p.val x s
    else access (.host p) x s

/-- A held access goes on, a host's through its port. -/
def heldGo (h : Nat × Access) (s : State) : State :=
  match slotWriter h.1 with
  | .host p => hostAccess p h.2 s
  | .firmware n => access (.firmware n) h.2 s

/-- The accesses held so far are carried out in order of arrival. -/
def heldRun (s : State) : State := s.sys.held.foldl (fun s h => heldGo h s) (s.upSys fun y => { y with held := [] })

/-- Fast clocks run again: the accesses held for them, then the descriptor reads that waited. -/
def clocksBack (s : State) : State := fetchAll (heldRun s)

/-- Writes held for a place in the vault's queue take the places that are free, in order of arrival. -/
def vheldRun (s : State) : State := s.vheld.foldl (fun s (x : Writer × Nat × Word) => doWrite x.1 false x.2.1 x.2.2 s) { s with vheld := [] }

/-- A commit has ended: HP_CFG takes effect on its port, held writes take the place, and held reads are answered. -/
def commitEnd (a b : Bool) (s : State) : State :=
  let w := (s.vq.head?.map (·.word)).getD 0
  let s := vaultCommit a b s
  let s := s.when (a && decide (204 ≤ w) && decide (w ≤ 207)) (portCfg (w - 204))
  let s := vheldRun s
  s.when (s.sys.held.any fun h => h.2.value.isNone) heldRun

/-- A write command: a host's request, or a firmware write at the instant it is released (13 R389). -/
def writeCmd (w : Writer) (bar2 : Bool) (a : Nat) (v : Word) (s : State) : State :=
  let x : Access := { bar2 := bar2, addr := BitVec.ofNat 20 a, be := 0xF#4, value := some v }
  match w with
  | .host p => hostAccess p x s
  | .firmware n => if s.pairRuns n.val then access w x s else s

end Sys2Proof.Machine
end

