-- ==== Sys2Proof/Machine/Release.lean ====
section
/-! DEFINITION. The commands that are register accesses: host requests, descriptors and DMA elements that read or write
registers, firmware writes as they are released, held accesses, and the commits of the vault. A firmware write with a row of
its own acts at once: the command is the instant at which the pair's release buffer lets the write go (13 R389). -/

namespace Sys2Proof.Machine

/-! ## Register writes and long requests (03 R79, R85; 13 R388 to R390) -/

/-- A held write leaves its pair: to the register bus, to shared SRAM, or to host memory where the port may issue requests. -/
def heldOut (n : Nat) (h : HeldW) (s : State) : State :=
  match h with
  | .reg a v => access (.firmware (Fin.ofNat 5 n)) { bar2 := false, addr := BitVec.ofNat 20 a, be := 0xF#4, value := some v } s
  | .sram a be v =>
    s.each (List.range 4) fun i s => s.when (be.getLsbD i) fun s => s.sramWr (a + i) (v.extractLsb' (8 * i) 8)
  | .host p a be v => s.when (s.portIssues p) fun s => s.emit (.store p a be v)

/-- Held writes leave the pair in order. -/
def releaseWrites (n : Nat) : List HeldW → State → State
  | [], s => s
  | h :: l, s => releaseWrites n l (heldOut n h s)

/-- A window has compared equal: the pair has executed, its signatures are back at their seed, the held writes and closed groups go
out, and an open restart or takeover record of the pair resolves with the first window after the resumption (R413). -/
def windowEqual (n : Nat) (s : State) : State :=
  let buf := (s.cp n).buf
  let s := releaseWrites n buf ((coreRun n s).upCp n fun c => { c with buf := [], fed := [] })
  if !(s.cp n).first then s
  else
    let h := (s.cp n).heirOf
    let s := flResolve (fun r => (r.cls == 2 || r.cls == 3) && ((r.ut == 1 && r.unit == h) || r.via == some h)) s
    let t := s.time
    s.upCp n fun c => { c with first := false, lastEnd := if h = n then some t else c.lastEnd }

/-- A store that closes an open group: to HP_CTX_LEDGER1 of a context (R390). -/
def HeldW.closes : HeldW → Bool
  | .reg a _ => match findRow a with | some (r, _, _) => r.addr == HP_CTX_LEDGER1 0 | none => false
  | _ => false

/-- A pair issues a write: its signatures take it, and it enters the release buffer of 64 entries, or the open group. With the buffer
full the window ends first, and the pair, which goes on, has compared equal. The 64th write of a group faults in the pair. -/
def bufferWrite (n : Nat) (h : HeldW) (s : State) : State :=
  if (s.cp n).kgrp && decide (63 ≤ (s.cp n).grp.length) then s.upCp n fun c => { c with cause := 7 }
  else
    let s := s.when (decide (64 ≤ (s.cp n).buf.length + (s.cp n).grp.length)) (windowEqual n)
    s.upCp n fun c =>
      let c := { c with fed := c.fed ++ [h.code] }
      if !c.kgrp then { c with buf := c.buf ++ [h] }
      else if h.closes then { c with kgrp := false, buf := c.buf ++ c.grp ++ [h], grp := [] }
      else { c with grp := c.grp ++ [h] }

/-- RED_CPn_CTRL, which firmware on pair n alone may write (13 R419). -/
def pairCtrlAddr (a : Nat) : Bool := match findRow a with | some (r, _, _) => r.cls == .pairCtrl | none => false

/-- A write of RED_CPn_CTRL ends the window; in an open commit group it is held with the group (R389, R390). -/
def ctrlWrite (n : Nat) (h : HeldW) (s : State) : State :=
  let s := windowEqual n s
  if (s.cp n).kgrp then bufferWrite n h s else heldOut n h s

/-- A store of a core that is no register write; the cores cannot reach the staging area, where it faults (14 R433). -/
def coreStore (n : Nat) (st : CoreStore) (be : BitVec 4) (v : Word) (s : State) : State :=
  match st with
  | .sram a => if 0x300000 ≤ a.toNat then s.upCp n fun c => { c with cause := 7 } else bufferWrite n (.sram (a.toNat / 4 * 4) be v) s
  | .host p a => bufferWrite n (.host p.val (a.toNat / 4 * 4) be v) s

/-- REGISTER_WRITE: a write of a host or of firmware; its second part names the place of a core's store to shared SRAM or host memory, which waits in
the same release buffer (13 R389). -/
def execRegisterWrite (w : Writer) (bar2 : Bool) (addr : BitVec 20) (be : BitVec 4) (v : Word × Option CoreStore) (s : State) :
    Host.Outcome State Fault Refusal :=
  .next <|
    match w with
    | .host p => hostAccess p { bar2 := bar2, addr := addr, be := be, value := some v.1 } s
    | .firmware n =>
      if !s.pairRuns n.val then s
      else match v.2 with
        | some st => coreStore n.val st be v.1 s
        | none =>
          if bar2 || be != 0xF#4 || addr.toNat % 4 != 0 then s
          else if pairCtrlAddr addr.toNat then ctrlWrite n.val (.reg addr.toNat v.1) s
          else bufferWrite n.val (.reg addr.toNat v.1) s

/-- LONG_REQUEST. -/
def execLongRequest (p : Fin 4) (bar2 : Bool) (addr : BitVec 20) (isWrite : Bool) (s : State) : Host.Outcome State Fault Refusal :=
  .next <|
    hostAccess p { bar2 := bar2, addr := addr, be := 0xF#4, value := if isWrite then some 0 else none, long := true } s

/-! ## Held accesses (02 R57, R62, R63) -/

/-- A held access is given up. -/
def heldGiveUp (h : Nat × Access) (s : State) : State :=
  match h.2.value with
  | none => s.emit (.readDone h.1 0)
  | some _ => denyW (slotWriter h.1) h.2.addr.toNat h.2.bar2 4 s

/-- HELD_ACCESS_TIMEOUT: every access that still waits for a withdrawn clock is given up. -/
def execHeldAccessTimeout (s : State) : Host.Outcome State Fault Refusal :=
  .next <|
    if !s.awake then s
    else
      let out := s.sys.held.filter fun h => s.accessWaits h.2.bar2 h.2.addr.toNat
      let keep := s.sys.held.filter fun h => !s.accessWaits h.2.bar2 h.2.addr.toNat
      out.foldl (fun s h => heldGiveUp h s) (s.upSys fun y => { y with held := keep })

/-- PLL_RELOCK. -/
def execPllRelock (pll : Pll) (ok : Bool) (s : State) : Host.Outcome State Fault Refusal :=
  .next (clocksBack (pllRelock pll ok s))

/-- Messages that waited for the device to wake are sent (04 R130). -/
def vectorsDue (s : State) : State := s.each (List.range 4) fun p s => s.each (List.range 64) (msixDue p)

/-- WAKE_CLOCKS_LOCKED: t3 of a start, or of a wake. -/
def execWakeClocksLocked (s : State) : Host.Outcome State Fault Refusal :=
  .next <|
    if s.lockDue then startLock s
    else if s.sys.waking && !s.awake then vectorsDue (clocksBack (wakeLocked s)) else s

/-- HELD_PORT_REQUEST: a request at the port of a sleeping device is held, and wakes it. -/
def execHeldPortRequest (p : Fin 4) (x : Access) (s : State) : Host.Outcome State Fault Refusal :=
  .next (if s.awake then s else hostAccess p x s)

/-- A descent is abandoned at its next step: held accesses and descriptor reads go on (02 R61). -/
def descentBack (s : State) : State := clocksBack (descentAbandon s)

/-- DESCENT_COMPLETE; a wake source that arrived meanwhile abandons the descent. -/
def execDescentComplete (s : State) : Host.Outcome State Fault Refusal :=
  .next <|
    if !s.on PWR_STATE__DESCENDING then s
    else if s.sys.waking then descentBack s
    else descentEnd s

/-- DESCENT_ABANDONED: a wake source arrives during the descent. -/
def execDescentAbandoned (src : Fin 16) (s : State) : Host.Outcome State Fault Refusal :=
  .next <|
    if !s.on PWR_STATE__DESCENDING ∨ (8 ≤ src.val ∧ src.val ≠ 15) then s
    else
      let s := wake src.val s
      if s.sys.waking then descentBack s else s

/-- POWER_GO. -/
def execPowerGo (pair : Fin 5) (s : State) : Host.Outcome State Fault Refusal :=
  .next (writeCmd (.firmware pair) false PWR_CTRL (fieldSet (s.rd PWR_CTRL) 8 1 1) s)

/-- WARM_RESET. The key is taken from firmware and from the steward only (R74). -/
def execWarmReset (cause : WarmCause) (s : State) : Host.Outcome State Fault Refusal :=
  .next <|
    match cause with
    | .key w v => writeCmd w false PWR_RESET v s
    | .check => if s.sys.entry then warmDo 3 s else s
    | .escalation => if s.on RED_STATUS__DSAFE && s.on RED_CFG__DSAFE_RST then warmDo 4 s else s

/-! ## Ownership and stewardship (03 R87 to R91) -/

/-- A register of the ownership table. -/
def ownTableAddr (a : Nat) : Bool := match findRow a with | some (r, _, _) => r.cls == .ownTable | none => false

/-- OWNERSHIP_WRITE. -/
def execOwnershipWrite (p : Fin 4) (addr : BitVec 20) (v : Word) (s : State) : Host.Outcome State Fault Refusal :=
  .next (if ownTableAddr addr.toNat then writeCmd (.host p) false addr.toNat v s else s)

/-- OWNERSHIP_COMMIT: the running commit is one of the ownership table or the steward. -/
def execOwnershipCommit (ok : Bool) (s : State) : Host.Outcome State Fault Refusal :=
  .next <|
    match s.vq with
    | c :: _ => if ownWord c.word then commitEnd ok true s else s
    | [] => s

/-- STEWARD_XFER. -/
def execStewardXfer (p : Fin 4) (target : Fin 4) (go : Bool) (s : State) : Host.Outcome State Fault Refusal :=
  .next (writeCmd (.host p) false HP_STEWARD_XFER (BitVec.ofNat 32 (target.val + 256 * b2n go)) s)

/-- STEWARD_ACCEPT. -/
def execStewardAccept (p : Fin 4) (accept : Bool) (s : State) : Host.Outcome State Fault Refusal :=
  .next (writeCmd (.host p) false HP_STEWARD_ACCEPT (BitVec.ofNat 32 (b2n accept)) s)

/-- The lowest pair that executes. -/
def State.runner (s : State) : Option (Fin 5) := (List.finRange 5).find? fun n => s.pairRuns n.val

/-- STEWARD_SET_BY_FIRMWARE. -/
def execStewardSetByFirmware (code : BitVec 4) (s : State) : Host.Outcome State Fault Refusal :=
  .next <|
    match s.runner with
    | some n => writeCmd (.firmware n) false HP_STEWARD (code.setWidth 32) s
    | none => s

/-! ## Doorbells and contexts (04 R107, R108, R119) -/

/-- DB_TAIL_WRITE. -/
def execDbTailWrite (p : Fin 4) (c : Fin 256) (v : Word) (s : State) : Host.Outcome State Fault Refusal :=
  .next (writeCmd (.host p) true (0x1000 * c.val) v s)

/-- SETPOINT_MIRROR_WRITE. -/
def execSetpointMirrorWrite (p : Fin 4) (c : Fin 256) (a : Fin 8) (v : Word) (s : State) : Host.Outcome State Fault Refusal :=
  .next (writeCmd (.host p) true (0x1000 * c.val + 0x800 + 4 * a.val) v s)

/-- A write of HP_CTX_CTRL that keeps EN. -/
def ctxCmd (w : Writer) (c bit : Nat) (s : State) : State :=
  writeCmd w false (HP_CTX_CTRL c) (BitVec.ofNat 32 (s.get (HP_CTX_CTRL__EN c) + 2 ^ bit)) s

/-- CTX_STOP. -/
def execCtxStop (w : Writer) (c : Fin 256) (s : State) : Host.Outcome State Fault Refusal := .next (ctxCmd w c.val 1 s)

/-- CTX_RESUME. -/
def execCtxResume (w : Writer) (c : Fin 256) (s : State) : Host.Outcome State Fault Refusal := .next (ctxCmd w c.val 2 s)

/-- CTX_INIT. -/
def execCtxInit (w : Writer) (c : Fin 256) (s : State) : Host.Outcome State Fault Refusal := .next (ctxCmd w c.val 3 s)

/-! ## Event rings (04 R128, R133) -/

/-- EV_RING_ENABLE. -/
def execEvRingEnable (w : Writer) (p : Fin 4) (s : State) : Host.Outcome State Fault Refusal :=
  .next (writeCmd w false (EV_RING_CFG p.val) (fieldSet (s.rd (EV_RING_CFG p.val)) 8 1 1) s)

/-- EV_RING_HEAD_WRITE. -/
def execEvRingHeadWrite (w : Writer) (p : Fin 4) (v : Word) (s : State) : Host.Outcome State Fault Refusal :=
  .next (writeCmd w false (EV_RING_HEAD p.val) v s)

/-- FW_EVENT_RAISE. -/
def execFwEventRaise (pair : Fin 5) (v : Word) (s : State) : Host.Outcome State Fault Refusal :=
  .next (writeCmd (.firmware pair) false EV_FWRAISE v s)

/-! ## Words written and read for a descriptor or a DMA element -/

/-- A word write that a descriptor or the DMA engine makes; `checked` where its writer has passed the checks of R85 to
R87 before. A firmware-owned DMA channel is on no pair (R87). -/
def wordWrite (w : Writer) (checked : Bool) (a : Nat) (v : Word) (ctx : Option Nat) (s : State) : WriteRes :=
  let k := if checked then 0 else s.writeReason w false a
  if k ≠ 0 then .refused k
  else match w with
    | .host p => if msixAddr a then .done (msixWrite p.val a v s) 0 else ruledWrite w a v ctx s
    | .firmware _ => if msixAddr a then .refused 4 else if pairCtrlAddr a then .refused 3 else ruledWrite w a v ctx s

/-- The completion code and detail of a refused register write (04 R104, 14 R426). DESIGN CHOICE (log 35): a reserved owner code,
which the ownership table alone refuses, is STATE_REFUSED with LAST_REFUSE. -/
def refusedCode (k : Nat) (s : State) : Nat × Nat :=
  if k = 7 then (9, 0) else if k = ownBad ∨ k = xferBad then (4, s.get HP_OWN_STATUS__LAST_REFUSE) else (1, k)

/-- A descriptor ends on a refused write, which is recorded as a host's access. -/
def descRefused (c : Nat) (w : Writer) (a k : Nat) (s : State) : State :=
  let s := refuseRecord w a k s
  let x := refusedCode k s
  descDone c x.1 x.2 s

/-- The owner code of a descriptor or channel as a writer of registers. -/
def ownerWriter (code : Nat) : Writer := if code < 4 then .host (Fin.ofNat 4 code) else .firmware 0

/-- A register's row commits through the vault for this writer. -/
def addrCommits (w : Writer) (a : Nat) : Bool := match findRow a with | some (r, _, _) => r.commits w | none => false

/-- The word that REG_WRITE writes: masked bits take the value, other stored bits keep theirs, and other command bits
stay 0. -/
def State.maskedWord (s : State) (w : Writer) (a : Nat) (v mask : Word) : Word :=
  let keep : Word := match findRow a with
    | some (r, _, _) => if r.addr = VLT_WORD 0 then 0xFFFFFFFF else BitVec.ofNat 32 (r.rw ||| r.pv)
    | none => 0xFFFFFFFF
  (s.regValue w a &&& keep &&& ~~~mask) ||| (v &&& mask)

/-- OP_REG_WRITE. A vault-backed register ends the descriptor at its commit. -/
def execOpRegWrite (c : Fin 256) (s : State) : Host.Outcome State Fault Refusal :=
  .next <|
    let c := c.val
    match s.running c 0x12 with
    | none => s
    | some e =>
      let a := (dword e.words 1).toNat
      if e.phase ≠ 0 ∨ s.accessWaits false a then s
      else
        let w := ownerWriter e.port
        let v := s.maskedWord w a (dword e.words 2) (dword e.words 3)
        let pv := addrCommits w a
        match wordWrite w true a v (if pv then some c else none) (if pv then s.upExec c fun e => { e with phase := 1 } else s) with
        | .full => s
        | .refused k => descRefused c w a k s
        | .done t k => if k ≠ 0 then descRefused c w a k t else if pv then t else descDone c 0 0 (stepDone c 1 t)

/-- OP_REG_READ. -/
def execOpRegRead (c : Fin 256) (s : State) : Host.Outcome State Fault Refusal :=
  .next <|
    let c := c.val
    match s.running c 0x13 with
    | none => s
    | some e =>
      let a := (dword e.words 1).toNat
      if s.accessWaits false a || s.readWaits a then s
      else
        let r := readReg (ownerWriter e.port) a s
        descDone c 0 0 (stepDone c 1 (r.2.upExec c fun e => { e with result := r.1 }))

/-- OP_VAULT_WRITE: the next word, as host memory answers it, none where the read fails. The steward is checked at the start
alone: the descriptor runs on under the ownership that it started with (03 R89). A reserved word of the safety parameter block takes 0
(00 R14), where the block may be written. -/
def execOpVaultWrite (c : Fin 256) (data : Option Word) (s : State) : Host.Outcome State Fault Refusal :=
  .next <|
    let c := c.val
    match s.running c 0x50 with
    | none => s
    | some e =>
      if (s.vq.any fun q => q.ctx == some c) || !s.readGo e.port then s
      else
        let i := s.get (HP_CTX_LEDGER1__STEPS c)
        let s' := s.hostRead e.port ((dword e.words 3).toNat + 2 ^ 32 * (dword e.words 4).toNat + 4 * i) 4
        match data with
        | none => descDone c 5 0 s'
        | some v =>
          let k := fieldGet (dword e.words 1) 0 11 + i
          let w := ownerWriter e.port
          match vaultAddr k with
          | none =>
            let spb := decide (212 ≤ k) && decide (k ≤ 287)
            if spb && s.armed then descRefused c w (0x48400 + 4 * (k - 212)) 7 s'
            else if s.vqFull then s
            else vqPush k (if spb then 0 else v) (some c) s'
          | some a =>
            if s.accessWaits false a then s
            else match ruledWrite w a v (some c) s' with
              | .full => s
              | .refused k => descRefused c w a k s'
              | .done t k => if k ≠ 0 then descRefused c w a k t else t

/-! ## DMA (05 R134, R138 to R146) -/

/-- A write of DMA_CHn_CTRL with one bit. -/
def dmaCmd (w : Writer) (n bit : Nat) (s : State) : State := writeCmd w false (DMA_CH_CTRL n) (BitVec.ofNat 32 (2 ^ bit)) s

/-- DMA_CH_START. -/
def execDmaChStart (w : Writer) (n : Fin 16) (s : State) : Host.Outcome State Fault Refusal := .next (dmaCmd w n.val 0 s)

/-- DMA_CH_STOP. -/
def execDmaChStop (w : Writer) (n : Fin 16) (s : State) : Host.Outcome State Fault Refusal := .next (dmaCmd w n.val 1 s)

/-- DMA_CH_RESUME. -/
def execDmaChResume (w : Writer) (n : Fin 16) (s : State) : Host.Outcome State Fault Refusal := .next (dmaCmd w n.val 2 s)

/-- DMA_CH_RESET. -/
def execDmaChReset (w : Writer) (n : Fin 16) (s : State) : Host.Outcome State Fault Refusal := .next (dmaCmd w n.val 3 s)

/-- Read consecutive registers for a channel; a refused word is answered by its reason. -/
def dmaRegReads (w : Writer) (a : Nat) : Nat → State → Except Nat (List Word) × State
  | 0, s => (.ok [], s)
  | k + 1, s =>
    let r := s.readReason w false a
    if r ≠ 0 then (.error r, s)
    else
      let x := readReg w a s
      match dmaRegReads w (a + 4) k x.2 with
      | (.ok l, t) => (.ok (x.1 :: l), t)
      | (.error r, t) => (.error r, t)

/-- A register access of the element waits for a clock, or for a commit. -/
def State.dmaRegWaits (s : State) (a k : Nat) (read : Bool) : Bool :=
  (List.range k).any fun i => s.accessWaits false (a + 4 * i) || (read && s.readWaits (a + 4 * i))

/-- The element ends the descriptor. -/
def dmaElemFail (n code detail : Nat) (s : State) : State :=
  dmaFin n code detail (s.upDma n fun d => { d with left := [], issued := false, whole := false })

/-- The commit that a channel's write has queued is the channel's; one that was refused as it started ends the descriptor
(R144). -/
def dmaTag (n queued : Nat) (s : State) : State :=
  match s.vq.getLast? with
  | some c =>
    if queued < s.vq.length then
      { s with vq := s.vq.dropLast ++ [{ c with dma := some n }] }.upDma n fun d => { d with commits := d.commits + 1 }
    else dmaElemFail n 4 (s.get HP_OWN_STATUS__LAST_REFUSE) s
  | none => dmaElemFail n 4 (s.get HP_OWN_STATUS__LAST_REFUSE) s

/-- Write an element's words to consecutive registers; words that find the vault's queue full stay, and give way to BAR0's
(R150). The element ends with the last commit that it queued (14 R422). -/
def dmaRegWrites (n : Nat) (w : Writer) (a : Nat) : List Word → State → State
  | [], s =>
    let s := s.upDma n fun d => { d with left := [], whole := true }
    s.when ((s.dma n).commits == 0) (dmaElemEnd n)
  | v :: l, s =>
    let bad := fun (k : Nat) (s : State) =>
      let s := refuseRecord (.firmware 0) a k s
      let x := refusedCode k s
      dmaElemFail n x.1 x.2 s
    match wordWrite w false a v none s with
      | .full => s.upDma n fun d => { d with left := v :: l }
      | .refused k => bad k s
      | .done t k =>
        if k ≠ 0 then bad k t
        else
          let t := t.when (addrCommits w a) (dmaTag n s.vq.length)
          if (t.dma n).fin.isSome then t else dmaRegWrites n w (a + 4) l t

/-- The element's words go to its destination. -/
def dmaStore (n : Nat) (ws : List Word) (s : State) : State :=
  let d := s.dma n
  let l := d.words
  let p := (dmaPos l true d.idx (d.ix.getD d.idx 0) % 2 ^ 64).toNat
  match dmaSpace l true with
  | 0 => dmaElemEnd n (s.emit (.memWrite d.port p ws))
  | 1 => dmaRegWrites n (ownerWriter d.port) (p + dmaElem l - 4 * ws.length) ws s
  | 2 =>
    let a := dmaAxis l true
    let sel := dmaSel l true
    if s.axOwner a ≠ d.port then dmaElemFail n 1 1 s
    else if !s.bankOpen a sel then (if d.axSafe then dmaElemFail n 7 0 s else dmaElemFail n 4 (s.axState a) s)
    else dmaElemEnd n (bankWrs a sel (p / 4) ws s)
  | _ => dmaElemEnd n (s.sramWrWords p ws)

/-- The element's words are read from its source: `data` is what host memory answers, and `ok` that the read of host memory
or SRAM has no error. -/
def dmaLoad (n : Nat) (ok : Bool) (data : List Word) (s : State) : State :=
  let d := s.dma n
  let l := d.words
  let k := dmaElem l / 4
  let p := (dmaPos l false d.idx (d.ix.getD d.idx 0) % 2 ^ 64).toNat
  let mine := s.axOwner (dmaAxis l false) == d.port
  match dmaSpace l false with
  | 0 => if ok then dmaStore n ((data ++ List.replicate k 0).take k) s else dmaElemFail n 5 0 s
  | 1 =>
    if s.dmaRegWaits p k true then s
    else match dmaRegReads (ownerWriter d.port) p k s with
      | (.ok ws, t) => dmaStore n ws t
      | (.error r, t) => dmaElemFail n 1 r t
  | 2 => if mine then dmaStore n ((List.range k).map fun i => s.bankRd (dmaAxis l false) (dmaSel l false) (p / 4 + i)) s else dmaElemFail n 1 1 s
  | 3 => if mine then dmaStore n ((List.range k).map fun i => dword d.snap (p / 4 + i)) s else dmaElemFail n 1 1 s
  | _ => if ok then dmaStore n ((List.range k).map fun i => s.sramWord (p + 4 * i)) s else dmaElemFail n 5 0 s

/-- DMA_ELEMENT_DONE: the channel's element, issued before or in the turn that it takes now, is read and written; nothing
happens where its turn has not come (R151). -/
def execDmaElementDone (n : Fin 16) (ok : Bool) (data : List Word) (s : State) : Host.Outcome State Fault Refusal :=
  .next <|
    let n := n.val
    let d := s.dma n
    let l := d.words
    let q := (dmaPos l true d.idx (d.ix.getD d.idx 0) % 2 ^ 64).toNat
    if !s.dmaMoving n || d.whole || (dmaSpace l true == 1 && s.dmaRegWaits q (dmaElem l / 4) false) then s
    else if d.left ≠ [] then dmaStore n d.left s
    else
      let t := if d.issued then s else dmaServe s
      if !(t.dma n).issued || (dmaSpace l true == 0 && !t.dmaPortGo d.port) then s else fetchAll (dmaLoad n ok data t)

/-! ## Axes and islands (06 R156 to R161, R487; 09 R283, R287) -/

/-- AX_REQUEST. -/
def execAxRequest (w : Writer) (a : Fin 8) (target : Fin 16) (s : State) : Host.Outcome State Fault Refusal :=
  .next (writeCmd w false (AX_CTRL a.val) (BitVec.ofNat 32 (target.val + 16)) s)

/-- AX_FAULT_CLR. -/
def execAxFaultClr (w : Writer) (a : Fin 8) (s : State) : Host.Outcome State Fault Refusal :=
  .next (writeCmd w false (AX_CTRL a.val) 0x100 s)

/-- AX_FW_RELEASE. -/
def execAxFwRelease (w : Writer) (a : Fin 8) (s : State) : Host.Outcome State Fault Refusal :=
  .next (writeCmd w false (AX_CTRL a.val) 0x200 s)

/-- BANKWIN_WRITE. -/
def execBankwinWrite (w : Writer) (a : Fin 8) (word : Fin 256) (v : Word) (s : State) : Host.Outcome State Fault Refusal :=
  .next (writeCmd w false (AX_BANKWIN a.val word.val) v s)

/-- BASTING_START. -/
def execBastingStart (w : Writer) (m : Fin 24) (s : State) : Host.Outcome State Fault Refusal :=
  .next (writeCmd w false (GI_L_BCTRL (m.val / 3) (m.val % 3)) 1 s)

/-- BASTING_ABORT. -/
def execBastingAbort (w : Writer) (m : Fin 24) (s : State) : Host.Outcome State Fault Refusal :=
  .next (writeCmd w false (GI_L_BCTRL (m.val / 3) (m.val % 3)) 2 s)

/-- ISLAND_SERVICE. -/
def execIslandService (w : Writer) (i : Fin 8) (v : Bool) (s : State) : Host.Outcome State Fault Refusal :=
  .next (writeCmd w false (GI_CFG i.val) (fieldSet (s.rd (GI_CFG i.val)) 0 1 (b2n v)) s)

/-! ## Measurement and position (10 R309, R316 to R319; 11 R330, R341) -/

/-- PM_URGENT. -/
def execPmUrgent (w : Writer) (j : Fin 64) (s : State) : Host.Outcome State Fault Refusal :=
  .next (writeCmd w false PM_URGENT (BitVec.ofNat 32 j.val) s)

/-- PM_QPOP: a host reads the pop register. -/
def execPmQpop (p : Fin 4) (s : State) : Host.Outcome State Fault Refusal :=
  .next (hostAccess p { bar2 := false, addr := BitVec.ofNat 20 (PM_QPOP 0), be := 0xF#4, value := none } s)

/-- PM_CAL_ZERO. -/
def execPmCalZero (w : Writer) (j : Fin 64) (n : Fin 16) (s : State) : Host.Outcome State Fault Refusal :=
  .next (writeCmd w false PM_CAL_CTRL (BitVec.ofNat 32 (j.val + 2 ^ 8 * n.val + 2 ^ 16)) s)

/-- PM_CAL_FULL. -/
def execPmCalFull (w : Writer) (j : Fin 64) (n : Fin 16) (s : State) : Host.Outcome State Fault Refusal :=
  .next (writeCmd w false PM_CAL_CTRL (BitVec.ofNat 32 (j.val + 2 ^ 8 * n.val + 2 * 2 ^ 16)) s)

/-- PM_CAL_COMMIT. -/
def execPmCalCommit (w : Writer) (s : State) : Host.Outcome State Fault Refusal :=
  .next (writeCmd w false PM_CAL_CTRL (fieldSet (s.rd PM_CAL_CTRL) 16 3 3) s)

/-- PM_CAL_ABORT. -/
def execPmCalAbort (w : Writer) (s : State) : Host.Outcome State Fault Refusal :=
  .next (writeCmd w false PM_CAL_CTRL (fieldSet (s.rd PM_CAL_CTRL) 16 3 4) s)

/-- PI_CNT_WRITE. -/
def execPiCntWrite (w : Writer) (n : Fin 4) (v : Word) (s : State) : Host.Outcome State Fault Refusal :=
  .next (writeCmd w false (PI_CNT n.val) v s)

/-- DIN_CFG_COMMIT: the running commit is that of the input's settings. -/
def execDinCfgCommit (d : Fin 24) (s : State) : Host.Outcome State Fault Refusal :=
  .next <|
    match s.vq with
    | c :: _ => if c.word = 694 + d.val then commitEnd true true s else s
    | [] => s

/-! ## Safety (12 R355 to R361, R375) -/

/-- CT_CLOSE. -/
def execCtClose (w : Writer) (k : Fin 8) (s : State) : Host.Outcome State Fault Refusal :=
  .next (writeCmd w false SAF_CT_CMD (BitVec.ofNat 32 (2 ^ k.val)) s)

/-- CT_OPEN. -/
def execCtOpen (w : Writer) (k : Fin 8) (s : State) : Host.Outcome State Fault Refusal :=
  .next (writeCmd w false SAF_CT_CMD (BitVec.ofNat 32 (2 ^ (8 + k.val))) s)

/-- SPB_WRITE: word k of the safety parameter block. -/
def execSpbWrite (w : Writer) (word : Fin 76) (v : Word) (s : State) : Host.Outcome State Fault Refusal :=
  .next (writeCmd w false (0x48400 + 4 * word.val) v s)

/-- SAF_ARM. -/
def execSafArm (w : Writer) (s : State) : Host.Outcome State Fault Refusal := .next (writeCmd w false SAF_ARM 0x5341 s)

/-- SAF_DISARM. -/
def execSafDisarm (w : Writer) (s : State) : Host.Outcome State Fault Refusal := .next (writeCmd w false SAF_ARM 0x4453 s)

/-- SAF_CLEAR. -/
def execSafClear (w : Writer) (s : State) : Host.Outcome State Fault Refusal := .next (writeCmd w false SAF_CLEAR 0x434C s)

/-! ## Core pairs (13 R389 to R393, R396, R400, R405) -/

/-- WINDOW_COMPARE_EQUAL, of a pair that executes or of the reserve after a restart. -/
def execWindowCompareEqual (n : Fin 5) (s : State) : Host.Outcome State Fault Refusal :=
  .next (if s.pairRuns n.val || (s.cpState n.val == 1 && (s.cp n.val).first) then windowEqual n.val s else s)

/-- CKPT: the write of RED_CPn_CTRL ends its window. In an open commit group it is held with the group (R390). The second part: no mismatch
ends the checkpoint before its check word (R393). -/
def execCkpt (n : Fin 5 × Bool) (s : State) : Host.Outcome State Fault Refusal :=
  .next <|
    if !s.pairRuns n.1.val then s
    else
      let s := windowEqual n.1.val s
      if (s.cp n.1.val).kgrp then bufferWrite n.1.val (.reg (RED_CP_CTRL n.1.val) 1) s else ckptTake n.1.val n.2 s

/-- YIELD, as CKPT. -/
def execYield (n : Fin 5) (s : State) : Host.Outcome State Fault Refusal :=
  .next <|
    if !s.pairRuns n.val then s
    else
      let s := windowEqual n.val s
      if (s.cp n.val).kgrp then bufferWrite n.val (.reg (RED_CP_CTRL n.val) 2) s else yieldTake n.val s

/-- A command on the main copy of a halted pair (16 R477, R478): a CSR or register access, one stepped U-mode read, a write that leaves the
main copy at once, or a program, which leaves its registers open (log 20). -/
def debugDo (n : Fin 5) (c : DbgCmd) (s : State) : State :=
  match c with
  | .readCsr k => csrRead n.val k.toNat s
  | .writeCsr k v => csrWrite n.val k.toNat v s
  | .stepCsr k => if s.userMay n.val k.toNat then csrRead n.val k.toNat s else s.upCp n.val fun c => { c with cause := 2 }
  | .store a v => access (.firmware n) { bar2 := false, addr := a, be := 0xF#4, value := some v } s
  | .readReg r => s.upCp n.val fun c => { c with data0 := if r.val = 0 then 0 else dword c.regs (r.val - 1) }
  | .writeReg r v => s.upCp n.val fun p => { p with regs := DbgCmd.onRegs (.writeReg r v, 0) p.regs }
  | .prog l => ((coreRun n.val s).upRed fun r => { r with progbuf := l })

/-- ABSTRACT_COMMAND: an entry of the replay log (13 R400). -/
def execAbstractCommand (n : Fin 5) (c : DbgCmd) (s : State) : Host.Outcome State Fault Refusal :=
  .next <|
    if s.cpState n.val ≠ 5 ∨ !s.debugOn then s
    else
      let s := s.upRed fun r => { r with hartsel := n.val }
      if 256 ≤ (s.cp n.val).log.length then s.upCp n.val fun c => { c with cmderr := 7 }
      else debugDo n c (s.upCp n.val fun p => { p with log := p.log ++ [(c, s.free)] })

/-! ## The vault (14 R421, R422, R429, R430, R434, R438, R441), the seam (15 R453) and the tally (16 R467 to R484) -/

/-- VAULT_COMMIT_DONE: whether copies A and B of the running commit verify. -/
def execVaultCommitDone (a b : Bool) (s : State) : Host.Outcome State Fault Refusal := .next (commitEnd a b s)

/-- VAULT_WRITE_QUEUED: a write of a register with PV bits, or of a word of the user area (14 R425). -/
def execVaultWriteQueued (w : Writer) (addr : BitVec 20) (v : Word) (s : State) : Host.Outcome State Fault Refusal :=
  .next (if pvMask addr.toNat ≠ 0 ∨ (0x69000 ≤ addr.toNat ∧ addr.toNat < 0x6A000) then writeCmd w false addr.toNat v s else s)

/-- KEY_REVOKE. -/
def execKeyRevoke (w : Writer) (v : Word) (s : State) : Host.Outcome State Fault Refusal := .next (writeCmd w false VLT_KEY_REVOKE v s)

/-- MIN_SVN_WRITE. -/
def execMinSvnWrite (w : Writer) (v : Word) (s : State) : Host.Outcome State Fault Refusal := .next (writeCmd w false VLT_MIN_SVN v s)

/-- STAGE_COPY. -/
def execStageCopy (w : Writer) (s : State) : Host.Outcome State Fault Refusal := .next (writeCmd w false VLT_STG_CTRL 1 s)

/-- ATT_GO. -/
def execAttGo (w : Writer) (s : State) : Host.Outcome State Fault Refusal := .next (writeCmd w false VLT_ATT_CTRL 1 s)

/-- DBG_LOCK. -/
def execDbgLock (w : Writer) (s : State) : Host.Outcome State Fault Refusal := .next (writeCmd w false VLT_DBG_STAT 2 s)

/-- SEAM_TRIP_CMD. -/
def execSeamTripCmd (w : Writer) (v : Word) (s : State) : Host.Outcome State Fault Refusal := .next (writeCmd w false SEAM_TRIP_CMD v s)

/-- TAL_RUN. -/
def execTalRun (w : Writer) (on : Bool) (s : State) : Host.Outcome State Fault Refusal :=
  .next (writeCmd w false TAL_CTRL (BitVec.ofNat 32 (b2n on)) s)

/-- TAL_LATCH, with RUN as it is. -/
def execTalLatch (w : Writer) (s : State) : Host.Outcome State Fault Refusal :=
  .next (writeCmd w false TAL_CTRL (BitVec.ofNat 32 (s.get TAL_CTRL__RUN + 2)) s)

/-- TAL_CLEAR, with RUN as it is. -/
def execTalClear (w : Writer) (s : State) : Host.Outcome State Fault Refusal :=
  .next (writeCmd w false TAL_CTRL (BitVec.ofNat 32 (s.get TAL_CTRL__RUN + 4)) s)

/-- TAL_SAMP_RD_WRITE. -/
def execTalSampRdWrite (w : Writer) (v : Word) (s : State) : Host.Outcome State Fault Refusal :=
  .next (writeCmd w false TAL_SAMP_RD v s)

end Sys2Proof.Machine
end

