-- ==== Sys2Proof/Machine/Pins.lean ====
section
/-! DEFINITION. What the device drives on its lands in each phase (02 R72), as a function of the state. The symbols on a pin that
carries a stream (PCI Express, the seam, a clock) are not modelled. -/

namespace Sys2Proof.Machine

/-- What an output does. `firmware` is what the released firmware sets; `passive` is an output that its pull-down holds. -/
inductive Pin where
  | highZ
  | undriven
  | idle
  | active
  | low
  | high
  | passive
  | firmware
  deriving DecidableEq, Repr

/-- A driven level. -/
def level (b : Bool) : Pin := if b then .high else .low

/-- The device is between a warm reset and the release of its firmware, or between t0 and that release. -/
def State.preRelease (s : State) : Bool := !s.sys.released

/-- GCH c: the pull-down holds it where its island has no VDDI; with its positive supply low, the hold stage where the negative supply
is good and else the pull-down, and it never sources (01 R33, 09 R267). Else it is driven on from phase 1 of a turn-on to the end of
phase 1 of a turn-off (09 R268, R269), and off otherwise. -/
def State.gchPin (s : State) (c : Nat) : Pin :=
  let u := (s.isl (c / 6)).sup
  let x := c % 6 / 2
  let pos := nbit u 1 && (c % 2 == 1 || nbit u (3 + x))
  let neg := if c % 2 = 0 then nbit u (6 + x) else nbit u 2
  let p := s.ch (c / 6) (c % 6)
  if !nbit u 0 || (!pos && !neg) then .passive else level (pos && 1 ≤ p && p ≤ 4)

/-- CTO k and DSCH: high impedance until t1, then as the safety sequencer drives them. -/
def State.ctoPin (s : State) (k : Nat) : Pin := if !s.aonRuns then .highZ else level (nbit (s.get SAF_CT_STAT__CMD) k)
def State.dschPin (s : State) : Pin := if !s.aonRuns then .highZ else level s.sys.dsch

/-- HPp_TXP/N: in SLEEP and COAST-WATCH a port is in L1.2 or electrical idle. -/
def State.hpTxPin (s : State) (p : Nat) : Pin :=
  if !s.aonRuns then .undriven
  else if !s.awake then .idle
  else if s.on (HP_LINK__UP p) && decide (s.get (HP_LINK__LPM p) < 3) then .active
  else if (s.port p).training then .active else .idle

/-- HPp_WAKE_N: driven low from a wake event until the link of the port is up, and by nothing else. -/
def State.wakePin (s : State) (p : Nat) : Pin := if (s.port p).wakeN then .low else .highZ

/-- SPs_TXP/N: the seam runs once its port is enabled and trains, in every power state but SLEEP (15 R445). -/
def State.spTxPin (s : State) (p : Nat) : Pin :=
  if !s.aonRuns then .undriven
  else if s.get (SEAM_PORT_STAT__LINK p) = 0 ∨ s.get PWR_STATE__STATE = 0 then .highZ else .active

/-- PIn_CKP/N: a clock or an excitation in modes 3 and 4, while the device is awake and released. -/
def State.piCkPin (s : State) (n : Nat) : Pin :=
  if !s.aonRuns then .undriven
  else if s.preRelease || !s.awake then .highZ
  else if s.piMode n = 3 ∨ s.piMode n = 4 then .active else .highZ

/-- QSPI_CLK and QSPI_CS_N: active while the boot ROM fetches an image, firmware's once it is released. DESIGN CHOICE (log 58): while
nothing is fetched QSPI_CLK is low, of which R72 says nothing. -/
def State.qspiClkPin (s : State) : Pin :=
  if !s.aonRuns then .highZ
  else if s.vs.due ≠ 0 ∧ s.vs.due ≠ 3 then .active
  else if s.preRelease || !s.awake then .low else .firmware
def State.qspiCsPin (s : State) : Pin :=
  if !s.aonRuns then .highZ
  else if s.vs.due ≠ 0 ∧ s.vs.due ≠ 3 then .active
  else if s.preRelease || !s.awake then .high else .firmware

/-- TDO: high impedance but for the bits that an attached debugger shifts. -/
def State.tdoPin (s : State) : Pin := if s.aonRuns && s.on RED_STATUS__DEBUG then .active else .highZ

end Sys2Proof.Machine
end

