-- ==== Sys2Proof/Machine/Dispatch.lean ====
section
/-! DEFINITION. The command's effect on everything but the queue: one arm per command. -/

namespace Sys2Proof.Machine

def exec (i : Instr) (s : State) : Host.Outcome State Fault Refusal :=
  match i with
  | .registerWrite w bar2 addr be v => Sys2Proof.Machine.execRegisterWrite w bar2 addr be v s
  | .longRequest p bar2 addr isWrite => Sys2Proof.Machine.execLongRequest p bar2 addr isWrite s
  | .heldAccessTimeout => Sys2Proof.Machine.execHeldAccessTimeout s
  | .crystalLost => Sys2Proof.Machine.execCrystalLost s
  | .xtalLocked => Sys2Proof.Machine.execXtalLocked s
  | .pllUnlock pll => Sys2Proof.Machine.execPllUnlock pll s
  | .pllRelock pll ok => Sys2Proof.Machine.execPllRelock pll ok s
  | .powerGo pair => Sys2Proof.Machine.execPowerGo pair s
  | .descentComplete => Sys2Proof.Machine.execDescentComplete s
  | .descentAbandoned src => Sys2Proof.Machine.execDescentAbandoned src s
  | .wakeSource src => Sys2Proof.Machine.execWakeSource src s
  | .heldPortRequest p a => Sys2Proof.Machine.execHeldPortRequest p a s
  | .wakeClocksLocked => Sys2Proof.Machine.execWakeClocksLocked s
  | .warmEntryCheck checkpointOk imageOk => Sys2Proof.Machine.execWarmEntryCheck checkpointOk imageOk s
  | .wakeTimerExpiry => Sys2Proof.Machine.execWakeTimerExpiry s
  | .railUndervoltage => Sys2Proof.Machine.execRailUndervoltage s
  | .powerOnReset pin => Sys2Proof.Machine.execPowerOnReset pin s
  | .porRelease bootSel => Sys2Proof.Machine.execPorRelease bootSel s
  | .vaultLoadDone => Sys2Proof.Machine.execVaultLoadDone s
  | .startSelfTestDone bad => Sys2Proof.Machine.execStartSelfTestDone bad s
  | .imageFetchVerify img => Sys2Proof.Machine.execImageFetchVerify img s
  | .firmwareRelease => Sys2Proof.Machine.execFirmwareRelease s
  | .warmReset cause => Sys2Proof.Machine.execWarmReset cause s
  | .hostLoss p kind => Sys2Proof.Machine.execHostLoss p kind s
  | .linkUp p speed => Sys2Proof.Machine.execLinkUp p speed s
  | .ownershipWrite p addr v => Sys2Proof.Machine.execOwnershipWrite p addr v s
  | .ownershipCommit ok => Sys2Proof.Machine.execOwnershipCommit ok s
  | .stewardXfer p target go => Sys2Proof.Machine.execStewardXfer p target go s
  | .stewardAccept p accept => Sys2Proof.Machine.execStewardAccept p accept s
  | .stewardXferTimeout => Sys2Proof.Machine.execStewardXferTimeout s
  | .stewardSetByFirmware code => Sys2Proof.Machine.execStewardSetByFirmware code s
  | .dbTailWrite p c v => Sys2Proof.Machine.execDbTailWrite p c v s
  | .descriptorReadDone c r => Sys2Proof.Machine.execDescriptorReadDone c r s
  | .descriptorStart => Sys2Proof.Machine.execDescriptorStart s
  | .opNop c => Sys2Proof.Machine.execOpNop c s
  | .opSetpoint c => Sys2Proof.Machine.execOpSetpoint c s
  | .opAxisState c => Sys2Proof.Machine.execOpAxisState c s
  | .opRegWrite c => Sys2Proof.Machine.execOpRegWrite c s
  | .opRegRead c => Sys2Proof.Machine.execOpRegRead c s
  | .opBankLoad c data => Sys2Proof.Machine.execOpBankLoad c data s
  | .opBankCheck c => Sys2Proof.Machine.execOpBankCheck c s
  | .opSnapshot c => Sys2Proof.Machine.execOpSnapshot c s
  | .opPmRead c => Sys2Proof.Machine.execOpPmRead c s
  | .opDmaStart c => Sys2Proof.Machine.execOpDmaStart c s
  | .opVaultWrite c data => Sys2Proof.Machine.execOpVaultWrite c data s
  | .opFwStage c page => Sys2Proof.Machine.execOpFwStage c page s
  | .opFwVerify c => Sys2Proof.Machine.execOpFwVerify c s
  | .opEventMark c => Sys2Proof.Machine.execOpEventMark c s
  | .opPowerReq c => Sys2Proof.Machine.execOpPowerReq c s
  | .opFwCall c act => Sys2Proof.Machine.execOpFwCall c act s
  | .opService c => Sys2Proof.Machine.execOpService c s
  | .hostFlushDone c ok => Sys2Proof.Machine.execHostFlushDone c ok s
  | .descriptorComplete c => Sys2Proof.Machine.execDescriptorComplete c s
  | .ringSaturated c => Sys2Proof.Machine.execRingSaturated c s
  | .ctxStop w c => Sys2Proof.Machine.execCtxStop w c s
  | .ctxStopped c => Sys2Proof.Machine.execCtxStopped c s
  | .ctxResume w c => Sys2Proof.Machine.execCtxResume w c s
  | .ctxInit w c => Sys2Proof.Machine.execCtxInit w c s
  | .setpointMirrorWrite p c a v => Sys2Proof.Machine.execSetpointMirrorWrite p c a v s
  | .eventOccurrence src unit detail => Sys2Proof.Machine.execEventOccurrence src unit detail s
  | .mergedRecordWrite src p => Sys2Proof.Machine.execMergedRecordWrite src p s
  | .msixCoalesceTimeout p v => Sys2Proof.Machine.execMsixCoalesceTimeout p v s
  | .evRingEnable w p => Sys2Proof.Machine.execEvRingEnable w p s
  | .evRingHeadWrite w p v => Sys2Proof.Machine.execEvRingHeadWrite w p v s
  | .fwEventRaise pair v => Sys2Proof.Machine.execFwEventRaise pair v s
  | .dmaChStart w n => Sys2Proof.Machine.execDmaChStart w n s
  | .dmaDescFetchDone n r => Sys2Proof.Machine.execDmaDescFetchDone n r s
  | .dmaElementDone n ok data => Sys2Proof.Machine.execDmaElementDone n ok data s
  | .dmaIndexReadDone n r => Sys2Proof.Machine.execDmaIndexReadDone n r s
  | .dmaDescEnd n => Sys2Proof.Machine.execDmaDescEnd n s
  | .dmaChStop w n => Sys2Proof.Machine.execDmaChStop w n s
  | .dmaChResume w n => Sys2Proof.Machine.execDmaChResume w n s
  | .dmaChReset w n => Sys2Proof.Machine.execDmaChReset w n s
  | .axRequest w a target => Sys2Proof.Machine.execAxRequest w a target s
  | .axFaultClr w a => Sys2Proof.Machine.execAxFaultClr w a s
  | .axFwRelease w a => Sys2Proof.Machine.execAxFwRelease w a s
  | .safeStateEstablished a => Sys2Proof.Machine.execSafeStateEstablished a s
  | .sampleInstant a => Sys2Proof.Machine.execSampleInstant a s
  | .controlStepDone a ecc => Sys2Proof.Machine.execControlStepDone a ecc s
  | .outputInstant a => Sys2Proof.Machine.execOutputInstant a s
  | .closeCheckDone a => Sys2Proof.Machine.execCloseCheckDone a s
  | .holdTimeout a => Sys2Proof.Machine.execHoldTimeout a s
  | .bankwinWrite w a word v => Sys2Proof.Machine.execBankwinWrite w a word v s
  | .tableDecision a => Sys2Proof.Machine.execTableDecision a s
  | .zcCrossing a ph rising => Sys2Proof.Machine.execZcCrossing a ph rising s
  | .zcMissing a => Sys2Proof.Machine.execZcMissing a s
  | .zcTimeout a => Sys2Proof.Machine.execZcTimeout a s
  | .catchTrigger a => Sys2Proof.Machine.execCatchTrigger a s
  | .catchClocksValid a => Sys2Proof.Machine.execCatchClocksValid a s
  | .catchVerify a => Sys2Proof.Machine.execCatchVerify a s
  | .recoveryZeroTime a => Sys2Proof.Machine.execRecoveryZeroTime a s
  | .recatchTimeout a => Sys2Proof.Machine.execRecatchTimeout a s
  | .counterReload m mid cs => Sys2Proof.Machine.execCounterReload m mid cs s
  | .setLanding m dist => Sys2Proof.Machine.execSetLanding m dist s
  | .legCommit m => Sys2Proof.Machine.execLegCommit m s
  | .legDiscard m => Sys2Proof.Machine.execLegDiscard m s
  | .chopNocurTimeout m => Sys2Proof.Machine.execChopNocurTimeout m s
  | .maskStepChange m => Sys2Proof.Machine.execMaskStepChange m s
  | .fastFrame gi states short => Sys2Proof.Machine.execFastFrame gi states short s
  | .fastFrameCrcFail gi => Sys2Proof.Machine.execFastFrameCrcFail gi s
  | .fastFormLost gi => Sys2Proof.Machine.execFastFormLost gi s
  | .fastFormRegained gi => Sys2Proof.Machine.execFastFormRegained gi s
  | .keepaliveFrame gi good => Sys2Proof.Machine.execKeepaliveFrame gi good s
  | .islandLinkLost gi => Sys2Proof.Machine.execIslandLinkLost gi s
  | .statusLinkLost gi => Sys2Proof.Machine.execStatusLinkLost gi s
  | .islandLinkRegained gi => Sys2Proof.Machine.execIslandLinkRegained gi s
  | .islandPowerUp gi => Sys2Proof.Machine.execIslandPowerUp gi s
  | .islandCfgSync gi => Sys2Proof.Machine.execIslandCfgSync gi s
  | .islandUndervoltage gi k good => Sys2Proof.Machine.execIslandUndervoltage gi k good s
  | .dcpsConversion gi code => Sys2Proof.Machine.execDcpsConversion gi code s
  | .gatePhase1End gi c => Sys2Proof.Machine.execGatePhase1End gi c s
  | .gatePhase2End gi c => Sys2Proof.Machine.execGatePhase2End gi c s
  | .gatePhase2Timeout gi c => Sys2Proof.Machine.execGatePhase2Timeout gi c s
  | .gateFault gi c => Sys2Proof.Machine.execGateFault gi c s
  | .didtDetect gi c => Sys2Proof.Machine.execDidtDetect gi c s
  | .alarmWord gi => Sys2Proof.Machine.execAlarmWord gi s
  | .tripWord gi => Sys2Proof.Machine.execTripWord gi s
  | .softStep1End gi x => Sys2Proof.Machine.execSoftStep1End gi x s
  | .softStep2End gi x => Sys2Proof.Machine.execSoftStep2End gi x s
  | .softStep2Timeout gi x => Sys2Proof.Machine.execSoftStep2Timeout gi x s
  | .bastingStart w m => Sys2Proof.Machine.execBastingStart w m s
  | .bastingAbort w m => Sys2Proof.Machine.execBastingAbort w m s
  | .bastingMeasurement m b last => Sys2Proof.Machine.execBastingMeasurement m b last s
  | .islandService w gi v => Sys2Proof.Machine.execIslandService w gi v s
  | .fastConversion k raw => Sys2Proof.Machine.execFastConversion k raw s
  | .triggerDropped k => Sys2Proof.Machine.execTriggerDropped k s
  | .xbarMove k fp => Sys2Proof.Machine.execXbarMove k fp s
  | .windowFiring k wb copies => Sys2Proof.Machine.execWindowFiring k wb copies s
  | .blankingOpen m => Sys2Proof.Machine.execBlankingOpen m s
  | .blankingClose k => Sys2Proof.Machine.execBlankingClose k s
  | .protectionTrip => Sys2Proof.Machine.execProtectionTrip s
  | .precisionConversion x raw => Sys2Proof.Machine.execPrecisionConversion x raw s
  | .openWireTest x raw => Sys2Proof.Machine.execOpenWireTest x raw s
  | .mainsCrossing rising => Sys2Proof.Machine.execMainsCrossing rising s
  | .mainsTimeout => Sys2Proof.Machine.execMainsTimeout s
  | .pmUrgent w j => Sys2Proof.Machine.execPmUrgent w j s
  | .pmQpop p => Sys2Proof.Machine.execPmQpop p s
  | .pmCalZero w j n => Sys2Proof.Machine.execPmCalZero w j n s
  | .pmCalFull w j n => Sys2Proof.Machine.execPmCalFull w j n s
  | .pmCalCommit w => Sys2Proof.Machine.execPmCalCommit w s
  | .pmCalAbort w => Sys2Proof.Machine.execPmCalAbort w s
  | .encoderEdge n a b => Sys2Proof.Machine.execEncoderEdge n a b s
  | .encoderIndex n z => Sys2Proof.Machine.execEncoderIndex n z s
  | .hallTransition n code => Sys2Proof.Machine.execHallTransition n code s
  | .filterReject n => Sys2Proof.Machine.execFilterReject n s
  | .ssiRead n data err lineOk => Sys2Proof.Machine.execSsiRead n data err lineOk s
  | .resolverPeriod n valley u v w => Sys2Proof.Machine.execResolverPeriod n valley u v w s
  | .speedTimeout n => Sys2Proof.Machine.execSpeedTimeout n s
  | .spdValidRestored n => Sys2Proof.Machine.execSpdValidRestored n s
  | .piCntWrite w n v => Sys2Proof.Machine.execPiCntWrite w n v s
  | .dinEdge d level => Sys2Proof.Machine.execDinEdge d level s
  | .dinChatter d => Sys2Proof.Machine.execDinChatter d s
  | .dinChatterDecay => Sys2Proof.Machine.execDinChatterDecay s
  | .dinStale d => Sys2Proof.Machine.execDinStale d s
  | .dinCfgCommit d => Sys2Proof.Machine.execDinCfgCommit d s
  | .stoInputChange a b => Sys2Proof.Machine.execStoInputChange a b s
  | .stoDiscrepancy => Sys2Proof.Machine.execStoDiscrepancy s
  | .stoRelease => Sys2Proof.Machine.execStoRelease s
  | .ss1Request a => Sys2Proof.Machine.execSs1Request a s
  | .ss1StoPhase a => Sys2Proof.Machine.execSs1StoPhase a s
  | .ss1SpeedCheck a => Sys2Proof.Machine.execSs1SpeedCheck a s
  | .tmonUpdate a da db dc => Sys2Proof.Machine.execTmonUpdate a da db dc s
  | .tmonFault a => Sys2Proof.Machine.execTmonFault a s
  | .ov1Firing g => Sys2Proof.Machine.execOv1Firing g s
  | .tlimRampEnd g => Sys2Proof.Machine.execTlimRampEnd g s
  | .ov2Firing g => Sys2Proof.Machine.execOv2Firing g s
  | .dischargeRequest g => Sys2Proof.Machine.execDischargeRequest g s
  | .dischargeDone g => Sys2Proof.Machine.execDischargeDone g s
  | .dischargeTimeout g => Sys2Proof.Machine.execDischargeTimeout g s
  | .ctClose w k => Sys2Proof.Machine.execCtClose w k s
  | .ctOpen w k => Sys2Proof.Machine.execCtOpen w k s
  | .ctFeedbackFault k => Sys2Proof.Machine.execCtFeedbackFault k s
  | .prechargeVoltageReached g => Sys2Proof.Machine.execPrechargeVoltageReached g s
  | .prechargeTimeout g => Sys2Proof.Machine.execPrechargeTimeout g s
  | .comparatorTestSlice k wb copy pass => Sys2Proof.Machine.execComparatorTestSlice k wb copy pass s
  | .didtTest gi c pass skipped => Sys2Proof.Machine.execDidtTest gi c pass skipped s
  | .delayScrub kind u field copy => Sys2Proof.Machine.execDelayScrub kind u field copy s
  | .tempUpdate u temp => Sys2Proof.Machine.execTempUpdate u temp s
  | .spbWrite w word v => Sys2Proof.Machine.execSpbWrite w word v s
  | .safArm w => Sys2Proof.Machine.execSafArm w s
  | .safDisarm w => Sys2Proof.Machine.execSafDisarm w s
  | .safClear w => Sys2Proof.Machine.execSafClear w s
  | .windowMismatch n => Sys2Proof.Machine.execWindowMismatch n s
  | .windowCompareEqual n => Sys2Proof.Machine.execWindowCompareEqual n s
  | .pairRestart n newestOk otherOk => Sys2Proof.Machine.execPairRestart n newestOk otherOk s
  | .recoveryTestDone n pass => Sys2Proof.Machine.execRecoveryTestDone n pass s
  | .takeover w newestOk otherOk => Sys2Proof.Machine.execTakeover w newestOk otherOk s
  | .ckpt n => Sys2Proof.Machine.execCkpt n s
  | .yield n => Sys2Proof.Machine.execYield n s
  | .kgrpWrite n v => Sys2Proof.Machine.execKgrpWrite n v s
  | .debugHalt n => Sys2Proof.Machine.execDebugHalt n s
  | .debugResume n equal => Sys2Proof.Machine.execDebugResume n equal s
  | .macResidueFail e lane => Sys2Proof.Machine.execMacResidueFail e lane s
  | .engineSigFail e => Sys2Proof.Machine.execEngineSigFail e s
  | .bistSlice kind unit pass last way => Sys2Proof.Machine.execBistSlice kind unit pass last way s
  | .bistSliceAbandoned => Sys2Proof.Machine.execBistSliceAbandoned s
  | .rotation => Sys2Proof.Machine.execRotation s
  | .rotationGraceExpiry => Sys2Proof.Machine.execRotationGraceExpiry s
  | .rowRepair array row cause => Sys2Proof.Machine.execRowRepair array row cause s
  | .unitOut => Sys2Proof.Machine.execUnitOut s
  | .rejoin slicePass shadow => Sys2Proof.Machine.execRejoin slicePass shadow s
  | .test pass => Sys2Proof.Machine.execTest pass s
  | .fuse => Sys2Proof.Machine.execFuse s
  | .rotate => Sys2Proof.Machine.execRotate s
  | .flClear => Sys2Proof.Machine.execFlClear s
  | .deviceSafe => Sys2Proof.Machine.execDeviceSafe s
  | .dsafeDelayExpiry => Sys2Proof.Machine.execDsafeDelayExpiry s
  | .seqCopyDisagree => Sys2Proof.Machine.execSeqCopyDisagree s
  | .vaultCommitDone a b => Sys2Proof.Machine.execVaultCommitDone a b s
  | .vaultWriteQueued w addr v => Sys2Proof.Machine.execVaultWriteQueued w addr v s
  | .keyRevoke w v => Sys2Proof.Machine.execKeyRevoke w v s
  | .minSvnWrite w v => Sys2Proof.Machine.execMinSvnWrite w v s
  | .stageCopy w => Sys2Proof.Machine.execStageCopy w s
  | .stageCopyDone data err => Sys2Proof.Machine.execStageCopyDone data err s
  | .verify u v => Sys2Proof.Machine.execVerify u v s
  | .activate => Sys2Proof.Machine.execActivate s
  | .clear => Sys2Proof.Machine.execClear s
  | .unlock u v => Sys2Proof.Machine.execUnlock u v s
  | .attGo w => Sys2Proof.Machine.execAttGo w s
  | .attReportDone u => Sys2Proof.Machine.execAttReportDone u s
  | .attReady => Sys2Proof.Machine.execAttReady s
  | .dbgLock w => Sys2Proof.Machine.execDbgLock w s
  | .seamLinkUp p => Sys2Proof.Machine.execSeamLinkUp p s
  | .seamLinkDown p => Sys2Proof.Machine.execSeamLinkDown p s
  | .linkMeasurement p t1 t2 t3 t4 => Sys2Proof.Machine.execLinkMeasurement p t1 t2 t3 t4 s
  | .discoverySend => Sys2Proof.Machine.execDiscoverySend s
  | .discoveryFrame p domain f => Sys2Proof.Machine.execDiscoveryFrame p domain f s
  | .topologySettled => Sys2Proof.Machine.execTopologySettled s
  | .seamTripOriginate => Sys2Proof.Machine.execSeamTripOriginate s
  | .seamTripCmd w v => Sys2Proof.Machine.execSeamTripCmd w v s
  | .seamTripRx p groups seq origin => Sys2Proof.Machine.execSeamTripRx p groups seq origin s
  | .rootPathLost => Sys2Proof.Machine.execRootPathLost s
  | .ringReparent p => Sys2Proof.Machine.execRingReparent p s
  | .peerPublish => Sys2Proof.Machine.execPeerPublish s
  | .peerFrameRx p crcOk origin seq period ws => Sys2Proof.Machine.execPeerFrameRx p crcOk origin seq period ws s
  | .peerStale slot => Sys2Proof.Machine.execPeerStale slot s
  | .talRun w on => Sys2Proof.Machine.execTalRun w on s
  | .talLatch w => Sys2Proof.Machine.execTalLatch w s
  | .talClear w => Sys2Proof.Machine.execTalClear w s
  | .talOverflow n inc => Sys2Proof.Machine.execTalOverflow n inc s
  | .sampleEnd src lost bits skips ws => Sys2Proof.Machine.execSampleEnd src lost bits skips ws s
  | .tagRecord e a corr done rep late sat macs wait urdy xrdy queue => Sys2Proof.Machine.execTagRecord e a corr done rep late sat macs wait urdy xrdy queue s
  | .talSampRdWrite w v => Sys2Proof.Machine.execTalSampRdWrite w v s
  | .windowConditionEnd k wb => Sys2Proof.Machine.execWindowConditionEnd k wb s
  | .contactorFeedbackChange k level => Sys2Proof.Machine.execContactorFeedbackChange k level s
  | .compareMatch m e => Sys2Proof.Machine.execCompareMatch m e s
  | .deadTimeExpiry m => Sys2Proof.Machine.execDeadTimeExpiry m s
  | .minimumPulseExpiry m => Sys2Proof.Machine.execMinimumPulseExpiry m s
  | .holdStateGapEnd gi x => Sys2Proof.Machine.execHoldStateGapEnd gi x s
  | .configurationRequest p r => Sys2Proof.Machine.execConfigurationRequest p r s
  | .perstNDeassertion p => Sys2Proof.Machine.execPerstNDeassertion p s
  | .debuggerAttach on => Sys2Proof.Machine.execDebuggerAttach on s
  | .abstractCommand n c => Sys2Proof.Machine.execAbstractCommand n c s

end Sys2Proof.Machine
end

