-- ==== Sys2Proof/Machine/Step.lean ====
section
/-! DEFINITION. One step: the command at the front of the queue, or one AON clock while the queue is empty. -/

namespace Sys2Proof.Machine

/-- An idle step: one AON clock (02 R58) with the counters that run by it, and each seam port sends its oldest peer frame; nothing
while the power-on reset holds the device (DESIGN CHOICE, log 1). -/
def idle (s : State) : State := if s.get PWR_BOOT_STATUS__PHASE = 0 then s else seamDrain ((timeTick s).each (List.range 5) csrTick)

/-- The block takes the command at the front of its queue. -/
def step (s : State) : Host.Outcome State Fault Refusal :=
  match s.pending with
  | [] => .next (idle s)
  | c :: rest => exec c { s with pending := rest }

/-- The command that a word spells goes to the front of the queue. -/
def State.withFetchWord (s : State) (nbits w : Nat) : State :=
  match decodeTableWord nbits w with
  | some c => { s with pending := c :: s.pending }
  | none => s

end Sys2Proof.Machine
end

