-- ==== Sys2Proof/Safety.lean ====
section
/-! DEFINITION. The terms in which claims speak of a run: what two states share, which registers a command may change, and
the canonical form of the memory. -/

namespace Sys2Proof.Machine

/-- Every byte of the shared SRAM reads as before. -/
def SameMem (s t : State) : Prop := ∀ a, t.sramRd a = s.sramRd a

/-- Every committed vault word reads as before. -/
def SameVault (s t : State) : Prop := ∀ w, t.vaultRd w = s.vaultRd w

/-- Every register outside the list reads as before. -/
def OnlyRegs (l : List Nat) (s t : State) : Prop := ∀ a, a ∉ l → t.rd a = s.rd a

/-- Every register below the bound and outside the list reads as before. The event rings, the tally and DMA lie from 0x78000
upwards, so a command that raises an event changes there what the delivery of events changes. -/
def OnlyRegsBelow (bound : Nat) (l : List Nat) (s t : State) : Prop := ∀ a, a < bound → a ∉ l → t.rd a = s.rd a

/-- The start of the registers in which the delivery of events shows (03 R82). -/
def evBase : Nat := 0x78000

/-- A write command reaches its register: the port takes requests, or the pair executes; the register's clock runs; and the
checks of R85 to R87 and the register's own rules pass. -/
def State.may (s : State) (w : Writer) (a : Nat) (v : Word) : Bool :=
  (match w with
   | .host p => s.portTakes p.val && (s.port p.val).mse
   | .firmware n => s.pairRuns n.val) &&
  !s.accessWaits false a && s.writeReason w false a == 0 &&
  (match findRow a with
   | some (r, i, j) => s.valueReason w r i j v == 0
   | none => false)

/-- A write of a doorbell page reaches it: the port takes requests, the device is awake, the clock of the ring logic runs, and
the checks of R85 pass. -/
def State.mayPage (s : State) (p : Fin 4) (a : Nat) : Bool :=
  s.portTakes p.val && (s.port p.val).mse && !s.accessWaits true a && s.writeReason (.host p) true a == 0

end Sys2Proof.Machine
end

