-- ==== Sys2Proof/Certificates/Slice0/Obligations.lean ====
section
/-! DEFINITION. The statements for the provers. Commands are grouped by family; each clause names its command, the conditions
on the state and the operands, and what the next state holds. PWR_WAKE_CAUSE stands in the frame of every command that a host may
send: a host's access in a descent latches its wake source there (R61, R62). -/

open Sys2Proof Sys2Proof.Machine

/-- The command at the front of the queue is taken, and carried out with the rest of the queue (first in, first out). -/
def Obligations.StepRunsTheFrontCommand : Prop :=
  ∀ (s : State) (c : Instr) (rest : List Instr), s.pending = c :: rest → step s = exec c { s with pending := rest }

/-- With no command waiting, the block idles: where the power-on reset has been released, the time base advances by one AON
clock of 500 ns at the rate in force, and no register, byte of memory or vault word changes; before that, nothing changes. The
model's choice (log 1). -/
def Obligations.IdleStepAdvancesTheTimeBase : Prop :=
  ∀ s : State, s.pending = [] →
    (s.get PWR_BOOT_STATUS__PHASE = 0 → step s = .next s) ∧
    (s.get PWR_BOOT_STATUS__PHASE ≠ 0 → ∃ t, step s = .next t ∧ t.pending = [] ∧
      t.sys.timeAcc = s.sys.timeAcc + (3125 * (2 ^ 20 + s.sys.slew)).toNat ∧ OnlyRegs [] s t ∧ SameMem s t ∧ SameVault s t)

/-- Every command leaves the commands that wait behind it alone. -/
def Obligations.NoCommandChangesTheQueue : Prop :=
  ∀ (c : Instr) (s t : State), exec c s = .next t → t.pending = s.pending

/-- No command faults and none is refused: the spec gives every command an effect in every state. -/
def Obligations.EveryCommandCompletes : Prop :=
  ∀ (c : Instr) (s : State), ∃ t, exec c s = .next t

/-- The canonical form of the shared SRAM is kept by every step, whatever command waits. -/
def Obligations.EveryStepKeepsTheMemoryCanonical : Prop :=
  ∀ s t : State, Memory.wf s.sram → step s = .next t → Memory.wf t.sram

/-- The state after power-on reset: no command waits, the memory is canonical and reads 0 (log 5), registers hold their reset
words, and neither PLL has locked. -/
def Obligations.ResetState : Prop :=
  State.reset.pending = [] ∧ Memory.wf State.reset.sram ∧ (∀ a, State.reset.sramRd a = 0) ∧
    (∀ a, State.reset.rd a = resetWord a) ∧ State.reset.get PWR_BOOT_STATUS__PHASE = 0 ∧
    State.reset.on CLK_STATUS__PLLA_LOCK = false ∧ State.reset.on CLK_STATUS__PLLB_LOCK = false

/-- The committed vault words change only where a queued commit ends or a power-on reset cuts one: no other command of the
table, a register write included, changes any of them. -/
def Obligations.VaultChangesOnlyByCommits : Prop :=
  ∀ (c : Instr) (s t : State), exec c s = .next t →
    (∀ a b, c ≠ .vaultCommitDone a b) → (∀ ok, c ≠ .ownershipCommit ok) → (∀ d, c ≠ .dinCfgCommit d) →
    (∀ pin, c ≠ .powerOnReset pin) → c ≠ .railUndervoltage → SameVault s t

/-- Only the commands that move a payload, a checkpoint, a staging page, a repaired row or a DMA element, and those that end a core
pair's window with its held stores (R389), write the shared SRAM,
and a power-on reset clears it; every other command leaves every byte of it alone. -/
def Obligations.OnlyMoversWriteTheMemory : Prop :=
  ∀ (c : Instr) (s t : State), exec c s = .next t →
    (match c with
     | .firmwareRelease | .warmEntryCheck _ _ | .pairRestart _ _ _ | .takeover _ _ _ | .rowRepair _ _ _ | .opFwStage _ _
     | .stageCopyDone _ _ | .clear | .dmaElementDone _ _ _ | .dmaDescEnd _ | .powerOnReset _ | .railUndervoltage
     | .registerWrite (.firmware _) _ _ _ _ | .windowCompareEqual _ | .ckpt _ | .yield _ => False
     | _ => True) → SameMem s t

/-- The crystal (R53). While the crystal oscillator is started, its loss switches the AON domain to the RC oscillator and is
latched in CLK_EVENT, and changes no register below the event rings but CLK_STATUS and CLK_EVENT; its lock switches the AON
domain to the crystal and is latched, and changes no register but those two. While it is not started, neither changes anything. -/
def Obligations.CrystalLossAndLock : Prop :=
  (∀ s : State, s.sys.xtal = true → ∃ t, exec .crystalLost s = .next t ∧ t.on CLK_STATUS__AON_SRC = false ∧
    t.on CLK_STATUS__XTAL_RUN = false ∧ t.on CLK_EVENT__XTAL_LOST = true ∧
    OnlyRegsBelow evBase [CLK_STATUS, 0x2008] s t ∧ SameMem s t ∧ SameVault s t) ∧
  (∀ s : State, s.sys.xtal = true → ∃ t, exec .xtalLocked s = .next t ∧ t.on CLK_STATUS__AON_SRC = true ∧
    t.on CLK_STATUS__XTAL_RUN = true ∧ t.on CLK_EVENT__XTAL_LOCKED = true ∧
    OnlyRegs [CLK_STATUS, 0x2008] s t ∧ SameMem s t ∧ SameVault s t) ∧
  (∀ s : State, s.sys.xtal = false → exec .crystalLost s = .next s ∧ exec .xtalLocked s = .next s)

/-- The unlock of a PLL (R57). Of a locked PLL, in READY and above: its lock bit is cleared, its event bit is set, its failed
attempts count from 0 again, the other PLL's lock bit stays, and every axis in CATCH, RUN or HOLD is then in SAFE with cause 7.
Of a PLL that is not locked, and in a state below READY, it changes nothing. -/
def Obligations.PllUnlockClearsTheLock : Prop :=
  (∀ s : State, s.on CLK_STATUS__PLLA_LOCK = true → 2 ≤ s.get PWR_STATE__STATE → ∃ t, exec (.pllUnlock .a) s = .next t ∧ t.on
    CLK_STATUS__PLLA_LOCK = false ∧ t.on CLK_EVENT__PLLA_UNLOCK = true ∧ t.on CLK_STATUS__PLLB_LOCK = s.on CLK_STATUS__PLLB_LOCK ∧
    t.sys.lostA = true ∧ t.sys.relockA = 0 ∧ (∀ a : Fin 8, s.axLive a.val = true → t.axState a.val = 5 ∧ t.get
    (AX_STATE__SAFE_CAUSE a.val) = 7) ∧ SameMem s t ∧ SameVault s t) ∧
  (∀ s : State, s.on CLK_STATUS__PLLB_LOCK = true → 2 ≤ s.get PWR_STATE__STATE → ∃ t, exec (.pllUnlock .b) s = .next t ∧ t.on
    CLK_STATUS__PLLB_LOCK = false ∧ t.on CLK_EVENT__PLLB_UNLOCK = true ∧ t.on CLK_STATUS__PLLA_LOCK = s.on CLK_STATUS__PLLA_LOCK ∧
    t.sys.lostB = true ∧ t.sys.relockB = 0 ∧ (∀ a : Fin 8, s.axLive a.val = true → t.axState a.val = 5 ∧ t.get
    (AX_STATE__SAFE_CAUSE a.val) = 7) ∧ SameMem s t ∧ SameVault s t) ∧
  (∀ s : State, s.on CLK_STATUS__PLLA_LOCK = false → exec (.pllUnlock .a) s = .next s) ∧
  (∀ s : State, s.on CLK_STATUS__PLLB_LOCK = false → exec (.pllUnlock .b) s = .next s) ∧
  (∀ (s : State) (p : Pll), s.get PWR_STATE__STATE < 2 → exec (.pllUnlock p) s = .next s)

/-- Relocking a PLL whose clock was withdrawn (R57), with no access held. An attempt that succeeds, while fewer than three have
failed, sets the lock bit and ends the loss; the first and the second failure leave the bit clear and are counted, and change
no register; the third takes a device that is not in device-SAFE there. With no loss, or after the third failure, an attempt
leaves both lock bits and the counts as they are. -/
def Obligations.PllRelock : Prop :=
  (∀ s : State, s.sys.lostA = true → s.sys.relockA < 3 → s.sys.held = [] → ∃ t, exec (.pllRelock .a true) s = .next t ∧
    t.on CLK_STATUS__PLLA_LOCK = true ∧ t.sys.lostA = false ∧ t.sys.relockA = 0 ∧
    t.on CLK_STATUS__PLLB_LOCK = s.on CLK_STATUS__PLLB_LOCK ∧ OnlyRegsBelow evBase [CLK_STATUS] s t ∧ SameMem s t ∧ SameVault s t) ∧
  (∀ s : State, s.sys.lostB = true → s.sys.relockB < 3 → s.sys.held = [] → ∃ t, exec (.pllRelock .b true) s = .next t ∧
    t.on CLK_STATUS__PLLB_LOCK = true ∧ t.sys.lostB = false ∧ t.sys.relockB = 0 ∧
    t.on CLK_STATUS__PLLA_LOCK = s.on CLK_STATUS__PLLA_LOCK ∧ SameMem s t ∧ SameVault s t) ∧
  (∀ s : State, s.sys.lostA = true → s.sys.relockA < 2 → s.sys.held = [] → ∃ t, exec (.pllRelock .a false) s = .next t ∧
    t.on CLK_STATUS__PLLA_LOCK = s.on CLK_STATUS__PLLA_LOCK ∧ t.sys.lostA = true ∧ t.sys.relockA = s.sys.relockA + 1 ∧
    OnlyRegsBelow evBase [] s t ∧ SameMem s t ∧ SameVault s t) ∧
  (∀ s : State, s.sys.lostB = true → s.sys.relockB < 2 → s.sys.held = [] → ∃ t, exec (.pllRelock .b false) s = .next t ∧
    t.on CLK_STATUS__PLLB_LOCK = s.on CLK_STATUS__PLLB_LOCK ∧ t.sys.lostB = true ∧ t.sys.relockB = s.sys.relockB + 1 ∧
    OnlyRegsBelow evBase [] s t ∧ SameMem s t ∧ SameVault s t) ∧
  (∀ s : State, s.sys.lostA = true → s.sys.relockA = 2 → s.sys.held = [] → s.on RED_STATUS__DSAFE = false →
    ∃ t, exec (.pllRelock .a false) s = .next t ∧ t.on RED_STATUS__DSAFE = true ∧ t.sys.relockA = 3 ∧ SameMem s t ∧ SameVault s t) ∧
  (∀ s : State, s.sys.lostB = true → s.sys.relockB = 2 → s.sys.held = [] → s.on RED_STATUS__DSAFE = false →
    ∃ t, exec (.pllRelock .b false) s = .next t ∧ t.on RED_STATUS__DSAFE = true ∧ t.sys.relockB = 3 ∧ SameMem s t ∧ SameVault s t) ∧
  (∀ (s : State) (ok : Bool), s.sys.lostA = false ∨ 3 ≤ s.sys.relockA → s.sys.held = [] → ∃ t, exec (.pllRelock .a ok) s = .next t ∧
    t.rd CLK_STATUS = s.rd CLK_STATUS ∧ t.sys.lostA = s.sys.lostA ∧ t.sys.relockA = s.sys.relockA ∧ SameMem s t ∧ SameVault s t) ∧
  (∀ (s : State) (ok : Bool), s.sys.lostB = false ∨ 3 ≤ s.sys.relockB → s.sys.held = [] → ∃ t, exec (.pllRelock .b ok) s = .next t ∧
    t.rd CLK_STATUS = s.rd CLK_STATUS ∧ t.sys.lostB = s.sys.lostB ∧ t.sys.relockB = s.sys.relockB ∧ SameMem s t ∧ SameVault s t)

/-- POWER_GO (R61) of firmware, for COAST-WATCH or SLEEP, from READY or RUN with no descent under way. With no POWER_REQ for
that state in execution: LAST_REFUSE takes the code of the first condition that fails, 0 where none does, the descent begins
just where it is 0, and the state stays. With such a POWER_REQ: a descent that is refused ends its descriptor with code 4 and
that detail. A live axis is a condition that fails, with code 1. GO for READY or RUN changes nothing. -/
def Obligations.PowerGoIsCheckedAndAccepted : Prop :=
  (∀ (s : State) (n : Fin 5) (code : Nat), s.may (.firmware n) PWR_CTRL (fieldSet (s.rd PWR_CTRL) 8 1 1) = true →
    s.get PWR_CTRL__TARGET < 2 → 2 ≤ s.get PWR_STATE__STATE → s.on PWR_STATE__DESCENDING = false →
    s.powerCtx (s.get PWR_CTRL__TARGET) = none → code = s.descentRefuse (s.get PWR_CTRL__TARGET) none →
    ∃ t, exec (.powerGo n) s = .next t ∧ t.get PWR_STATE__LAST_REFUSE = code ∧ t.on PWR_STATE__DESCENDING = decide (code = 0) ∧
      t.get PWR_STATE__STATE = s.get PWR_STATE__STATE ∧ OnlyRegs [PWR_STATE] s t ∧ SameMem s t ∧ SameVault s t) ∧
  (∀ (s : State) (n : Fin 5) (c code : Nat), s.may (.firmware n) PWR_CTRL (fieldSet (s.rd PWR_CTRL) 8 1 1) = true →
    s.get PWR_CTRL__TARGET < 2 → 2 ≤ s.get PWR_STATE__STATE → s.on PWR_STATE__DESCENDING = false →
    s.powerCtx (s.get PWR_CTRL__TARGET) = some c → code = s.descentRefuse (s.get PWR_CTRL__TARGET) (some c) → code ≠ 0 →
    ∃ t, exec (.powerGo n) s = .next t ∧ t.get PWR_STATE__LAST_REFUSE = code ∧ t.on PWR_STATE__DESCENDING = false ∧
      t.get PWR_STATE__STATE = s.get PWR_STATE__STATE ∧ (t.ctx c).exec.bind (·.done) = some (4, code) ∧
      OnlyRegs [PWR_STATE] s t ∧ SameMem s t ∧ SameVault s t) ∧
  (∀ (s : State) (a : Fin 8) (target : Nat) (c : Option Nat), s.axLive a.val = true → s.descentRefuse target c = 1) ∧
  (∀ (s : State) (n : Fin 5), s.may (.firmware n) PWR_CTRL (fieldSet (s.rd PWR_CTRL) 8 1 1) = true → 2 ≤ s.get PWR_CTRL__TARGET →
    ∃ t, exec (.powerGo n) s = .next t ∧ OnlyRegs [] s t ∧ SameMem s t ∧ SameVault s t)

/-- The end of a descent (R61). DESCENT_COMPLETE, with no wake under way, ends it: both PLLs stop, and the state is the one
that PWR_CTRL asks for. A wake source that is enabled, arriving in the descent, is latched, abandons it, and the state stays;
one that has arrived before makes DESCENT_COMPLETE abandon it. With no descent under way, neither changes anything. -/
def Obligations.DescentEnds : Prop :=
  (∀ s : State, s.on PWR_STATE__DESCENDING = true → s.sys.waking = false → ∃ t, exec .descentComplete s = .next t ∧
    t.on PWR_STATE__DESCENDING = false ∧ t.get PWR_STATE__STATE = s.get PWR_CTRL__TARGET ∧ t.on CLK_STATUS__PLLA_LOCK = false ∧
    t.on CLK_STATUS__PLLB_LOCK = false ∧ SameMem s t ∧ SameVault s t) ∧
  (∀ s : State, s.on PWR_STATE__DESCENDING = true → s.sys.waking = true → s.sys.held = [] → ∃ t, exec .descentComplete s = .next t ∧
    t.on PWR_STATE__DESCENDING = false ∧ t.get PWR_STATE__STATE = s.get PWR_STATE__STATE ∧ t.sys.waking = false ∧
    t.rd CLK_STATUS = s.rd CLK_STATUS ∧ SameMem s t ∧ SameVault s t) ∧
  (∀ (s : State) (src : Fin 16), s.on PWR_STATE__DESCENDING = true → src.val < 8 → s.sys.held = [] → nbit (s.get
    PWR_WAKE_EN__SRC_EN) src.val = true → s.get PWR_BOOT_STATUS__PHASE ≠ 0 → ∃ t, exec (.descentAbandoned src) s = .next t ∧ t.on
    PWR_STATE__DESCENDING = false ∧ t.get PWR_STATE__STATE = s.get PWR_STATE__STATE ∧ t.sys.waking = false ∧ nbit (t.get
    PWR_WAKE_CAUSE__SRC) src.val = true ∧ SameMem s t ∧ SameVault s t) ∧
  (∀ s : State, s.on PWR_STATE__DESCENDING = false → exec .descentComplete s = .next s) ∧
  (∀ (s : State) (src : Fin 16), s.on PWR_STATE__DESCENDING = false → exec (.descentAbandoned src) s = .next s)

/-- Wake sources (R62). A source of the bits 0 to 7 sets its bit of PWR_WAKE_CAUSE, and a protection trip sets TRIP; while the
device sleeps, or in a descent, power-up begins where the source is enabled, the trip's always, and else not. The
timer, while it runs, does the same for bit 2 and then no longer runs; while it does not, it changes nothing. A memory request
at a port whose link is up, of a sleeping device, does the same for bit 0 and is held behind those held before; of a device
that is awake (log 54), or at a port whose link is down, it is no such event and changes nothing. Nothing is latched before
the boot sequence has begun (PHASE 0, where the core domain is in reset). No other register changes. -/
def Obligations.WakeSourcesAreLatched : Prop :=
  (∀ (s : State) (src : Fin 16), src.val < 8 → s.get PWR_BOOT_STATUS__PHASE ≠ 0 → ∃ t, exec (.wakeSource src) s = .next t ∧
    t.rd PWR_WAKE_CAUSE = s.rd PWR_WAKE_CAUSE ||| BitVec.ofNat 32 (2 ^ src.val) ∧
    t.sys.waking = (s.sys.waking || ((decide (s.get PWR_STATE__STATE < 2) || s.on PWR_STATE__DESCENDING) &&
      nbit (s.get PWR_WAKE_EN__SRC_EN) src.val)) ∧ OnlyRegs [PWR_WAKE_CAUSE] s t ∧ SameMem s t ∧ SameVault s t) ∧
  (∀ s : State, s.get PWR_BOOT_STATUS__PHASE ≠ 0 → ∃ t, exec (.wakeSource 15) s = .next t ∧ t.rd PWR_WAKE_CAUSE = s.rd
    PWR_WAKE_CAUSE ||| 0x8000 ∧ t.sys.waking = (s.sys.waking || (decide (s.get PWR_STATE__STATE < 2) || s.on
    PWR_STATE__DESCENDING)) ∧ OnlyRegs [PWR_WAKE_CAUSE] s t ∧ SameMem s t ∧ SameVault s t) ∧
  (∀ s : State, s.sys.wakeTimer = true → s.get PWR_BOOT_STATUS__PHASE ≠ 0 → ∃ t, exec .wakeTimerExpiry s = .next t ∧
    t.rd PWR_WAKE_CAUSE = s.rd PWR_WAKE_CAUSE ||| 4 ∧ t.sys.wakeTimer = false ∧
    t.sys.waking = (s.sys.waking || ((decide (s.get PWR_STATE__STATE < 2) || s.on PWR_STATE__DESCENDING) &&
      nbit (s.get PWR_WAKE_EN__SRC_EN) 2)) ∧ OnlyRegs [PWR_WAKE_CAUSE] s t ∧ SameMem s t ∧ SameVault s t) ∧
  (∀ s : State, s.sys.wakeTimer = false → exec .wakeTimerExpiry s = .next s) ∧
  (∀ (s : State) (p : Fin 4) (x : Access), s.get PWR_STATE__STATE < 2 → s.on (HP_LINK__UP p.val) = true → s.get
    PWR_BOOT_STATUS__PHASE ≠ 0 → ∃ t, exec (.heldPortRequest p x) s = .next t ∧ t.sys.held = s.sys.held ++ [(p.val, x)] ∧ t.rd
    PWR_WAKE_CAUSE = s.rd PWR_WAKE_CAUSE ||| 1 ∧ t.sys.waking = (s.sys.waking || nbit (s.get PWR_WAKE_EN__SRC_EN) 0) ∧ t.out =
    s.out ∧ OnlyRegs [PWR_WAKE_CAUSE] s t ∧ SameMem s t ∧ SameVault s t) ∧
  (∀ (s : State) (src : Fin 16), s.get PWR_BOOT_STATUS__PHASE = 0 → exec (.wakeSource src) s = .next s) ∧
  (∀ (s : State) (p : Fin 4) (x : Access), 2 ≤ s.get PWR_STATE__STATE ∨ s.on (HP_LINK__UP p.val) = false →
    exec (.heldPortRequest p x) s = .next s)

/-- The wake (R60, R63). Of a sleeping device with power-up under way and no request held, WAKE_CLOCKS_LOCKED locks both PLLs
and takes it to READY, or to RUN where an axis works or a leg switches; power-up is then over, and memory and vault stay. In a
start whose clocks are still to lock it locks both PLLs and leaves PHASE. In neither it changes nothing. The warm entry that
finds the image good and every newest checkpoint good, its check word among them, ends with no reset, and changes no register
and no vault word; one that finds one of them bad sets WARM_CHECK in PWR_RESET_CAUSE and takes the device to PHASE 1, with
memory and vault as they were; with no entry due the check changes nothing. -/
def Obligations.WakeReachesReady : Prop :=
  (∀ s : State, s.lockDue = false → s.sys.waking = true → s.get PWR_STATE__STATE < 2 → s.sys.held = [] →
    ∃ t, exec .wakeClocksLocked s = .next t ∧
    t.get PWR_STATE__STATE = (if (List.range 8).any t.axLive || (List.range 24).any t.legSwitching then 3 else 2) ∧
    t.on CLK_STATUS__PLLA_LOCK = true ∧ t.on CLK_STATUS__PLLB_LOCK = true ∧ t.sys.waking = false ∧
    SameMem s t ∧ SameVault s t) ∧
  (∀ s : State, s.lockDue = true → ∃ t, exec .wakeClocksLocked s = .next t ∧ t.on CLK_STATUS__PLLA_LOCK = true ∧
    t.on CLK_STATUS__PLLB_LOCK = true ∧ t.get PWR_BOOT_STATUS__PHASE = s.get PWR_BOOT_STATUS__PHASE ∧ SameMem s t ∧ SameVault s t) ∧
  (∀ s : State, s.lockDue = false → s.sys.waking = false ∨ 2 ≤ s.get PWR_STATE__STATE → exec .wakeClocksLocked s = .next s) ∧
  (∀ s : State, s.sys.entry = true → (∀ w : Fin 4, s.ckptOk w.val (s.get (RED_WS_CKPT__NEWEST w.val)) = true) → ∃ t, exec
    (.warmEntryCheck true true) s = .next t ∧ t.sys.entry = false ∧
    OnlyRegs [] s t ∧ SameVault s t) ∧
  (∀ (s : State) (checkpoint image : Bool), s.sys.entry = true → (checkpoint && image) = false ∨ (∃ w : Fin 4, s.ckptOk w.val
    (s.get (RED_WS_CKPT__NEWEST w.val)) = false) → ∃ t, exec (.warmEntryCheck checkpoint image) s = .next t ∧ t.sys.entry = false
    ∧ fieldGet (t.rd PWR_RESET_CAUSE) 3 1 = 1 ∧ t.get PWR_BOOT_STATUS__PHASE = 1 ∧ SameMem s t ∧ SameVault s t) ∧
  (∀ (s : State) (checkpoint image : Bool), s.sys.entry = false → exec (.warmEntryCheck checkpoint image) s = .next s)

/-- An access that still waits for a withdrawn clock when its time has passed is given up (R57), in a device that is awake: a
read, of a host or of a pair, is answered with 0; a host's write is discarded and recorded in its port's denial registers with
reason 4 and its address, or counted there where a denial already stands; a pair's write is discarded. It is then no longer
held. Where nothing that is held waits for a clock, and in a device that sleeps, nothing changes. -/
def Obligations.HeldAccessesAreGivenUp : Prop :=
  (∀ (s : State) (k : Nat) (x : Access), 2 ≤ s.get PWR_STATE__STATE → s.sys.held = [(k, x)] → x.value = none →
    s.accessWaits x.bar2 x.addr.toNat = true → ∃ t, exec .heldAccessTimeout s = .next t ∧ t.sys.held = [] ∧
      t.out = s.out ++ [.readDone k 0] ∧ OnlyRegs [] s t ∧ SameMem s t ∧ SameVault s t) ∧
  (∀ (s : State) (p : Fin 4) (x : Access) (v : Word), 2 ≤ s.get PWR_STATE__STATE → s.sys.held = [(p.val, x)] → x.value = some v →
    s.accessWaits x.bar2 x.addr.toNat = true → s.on (HP_DENY_INFO__VALID p.val) = false → ∃ t, exec .heldAccessTimeout s = .next t
    ∧ t.sys.held = [] ∧ t.on (HP_DENY_INFO__VALID p.val) = true ∧ t.get (HP_DENY_INFO__REASON p.val) = 4 ∧ t.rd (HP_DENY_ADDR
    p.val) = x.addr.setWidth 32 ∧ OnlyRegsBelow evBase [HP_DENY_INFO p.val, HP_DENY_ADDR p.val, HP_EVENT__DENIED.addr] s t ∧
    SameMem s t ∧ SameVault s t) ∧
  (∀ (s : State) (p : Fin 4) (x : Access) (v : Word), 2 ≤ s.get PWR_STATE__STATE → s.sys.held = [(p.val, x)] → x.value = some v →
    s.accessWaits x.bar2 x.addr.toNat = true → s.on (HP_DENY_INFO__VALID p.val) = true → ∃ t, exec .heldAccessTimeout s = .next t
    ∧ t.sys.held = [] ∧ t.get (HP_DENY_INFO__COUNT p.val) = min (s.get (HP_DENY_INFO__COUNT p.val) + 1) 65535 ∧ t.rd (HP_DENY_ADDR
    p.val) = s.rd (HP_DENY_ADDR p.val) ∧ OnlyRegsBelow evBase [HP_DENY_INFO p.val] s t ∧ SameMem s t ∧ SameVault s t) ∧
  (∀ (s : State) (n : Fin 5) (x : Access) (v : Word), 2 ≤ s.get PWR_STATE__STATE → s.sys.held = [(8 + n.val, x)] → x.value = some v →
    s.accessWaits x.bar2 x.addr.toNat = true → ∃ t, exec .heldAccessTimeout s = .next t ∧ t.sys.held = [] ∧ t.out = s.out ∧
      OnlyRegs [] s t ∧ SameMem s t ∧ SameVault s t) ∧
  (∀ s : State, 2 ≤ s.get PWR_STATE__STATE → (s.sys.held.any fun h => s.accessWaits h.2.bar2 h.2.addr.toNat) = false →
    exec .heldAccessTimeout s = .next s) ∧
  (∀ s : State, s.get PWR_STATE__STATE < 2 → exec .heldAccessTimeout s = .next s)

/-- A power-on reset (R65, R66), by the pin or by the rail monitor: every register but those of the reset cause and the key fuses
holds its reset word, the memory is cleared (log 5), and with no commit under way the committed vault words stay. -/
def Obligations.PowerOnResetClearsTheDevice : Prop :=
  (∀ (s : State) (pin : Bool), ∃ t, exec (.powerOnReset pin) s = .next t ∧
    (∀ a, a ≠ PWR_RESET_CAUSE → a ≠ VLT_KEY_STAT → t.rd a = resetWord a) ∧ t.rd VLT_KEY_STAT = s.rd VLT_KEY_STAT ∧
    t.on PWR_RESET_CAUSE__POR_PIN = pin ∧ t.on PWR_RESET_CAUSE__SUPPLY = !pin ∧ t.sram = [] ∧ (s.vq = [] → SameVault s t)) ∧
  (∀ s : State, ∃ t, exec .railUndervoltage s = .next t ∧
    (∀ a, a ≠ PWR_RESET_CAUSE → a ≠ VLT_KEY_STAT → t.rd a = resetWord a) ∧ t.on PWR_RESET_CAUSE__SUPPLY = true ∧
    t.on PWR_RESET_CAUSE__POR_PIN = false ∧ t.sram = [] ∧ (s.vq = [] → SameVault s t))

/-- A warm reset (R67, R63, R415) sets its bit of PWR_RESET_CAUSE, returns the device to PHASE 1 (the load of the vault) in
READY with no descent under way, and leaves the shared SRAM and the committed vault words alone: by the key from a writer that
may write it, by a failed warm-entry check where an entry is due, and, in device-SAFE with DSAFE_RST set, by the escalation or
the end of its delay. Another key from such a writer changes no register but PWR_WAKE_CAUSE (a host's access in a descent,
R61), and no memory; a check with no entry due, and an escalation or a delay outside device-SAFE or with DSAFE_RST clear,
change nothing. -/
def Obligations.WarmResetKeepsMemoryAndVault : Prop :=
  (∀ (s : State) (w : Writer) (v : Word), s.may w PWR_RESET v = true → fieldGet v 0 16 = 0x4B52 →
    ∃ t, exec (.warmReset (.key w v)) s = .next t ∧ fieldGet (t.rd PWR_RESET_CAUSE) 2 1 = 1 ∧ t.get PWR_BOOT_STATUS__PHASE = 1 ∧
      t.get PWR_STATE__STATE = 2 ∧ t.on PWR_STATE__DESCENDING = false ∧ SameMem s t ∧ SameVault s t) ∧
  (∀ s : State, s.sys.entry = true → ∃ t, exec (.warmReset .check) s = .next t ∧ fieldGet (t.rd PWR_RESET_CAUSE) 3 1 = 1 ∧ t.get
    PWR_BOOT_STATUS__PHASE = 1 ∧ t.get PWR_STATE__STATE = 2 ∧ t.on PWR_STATE__DESCENDING = false ∧ SameMem s t ∧ SameVault s t) ∧
  (∀ s : State, s.on RED_STATUS__DSAFE = true → s.on RED_CFG__DSAFE_RST = true → ∃ t, exec (.warmReset .escalation) s = .next t ∧
      fieldGet (t.rd PWR_RESET_CAUSE) 4 1 = 1 ∧ t.get PWR_BOOT_STATUS__PHASE = 1 ∧ t.get PWR_STATE__STATE = 2 ∧
      t.on PWR_STATE__DESCENDING = false ∧ SameMem s t ∧ SameVault s t) ∧
  (∀ s : State, s.on RED_STATUS__DSAFE = true → s.on RED_CFG__DSAFE_RST = true → ∃ t, exec .dsafeDelayExpiry s = .next t ∧
      fieldGet (t.rd PWR_RESET_CAUSE) 4 1 = 1 ∧ t.get PWR_BOOT_STATUS__PHASE = 1 ∧ t.get PWR_STATE__STATE = 2 ∧
      t.on PWR_STATE__DESCENDING = false ∧ SameMem s t ∧ SameVault s t) ∧
  (∀ (s : State) (w : Writer) (v : Word), s.may w PWR_RESET v = true → fieldGet v 0 16 ≠ 0x4B52 →
    ∃ t, exec (.warmReset (.key w v)) s = .next t ∧ OnlyRegs [PWR_WAKE_CAUSE] s t ∧ SameMem s t ∧ SameVault s t) ∧
  (∀ s : State, s.sys.entry = false → exec (.warmReset .check) s = .next s) ∧
  (∀ s : State, s.on RED_STATUS__DSAFE = false ∨ s.on RED_CFG__DSAFE_RST = false →
    exec (.warmReset .escalation) s = .next s ∧ exec .dsafeDelayExpiry s = .next s)

/-- The start (R69). In PHASE 0, POR_RELEASE samples BOOT_SEL into SOURCE and begins the load of the vault, PHASE 1. In PHASE
1, its end marks the words as loaded, shows the generation that word 152 holds, and passes on to the self-test, PHASE 2. In
PHASE 2, with no PLL lost, the self-test's end shows both PLLs locked, and passes on to the boot ROM, PHASE 3, where the image
comes from the flash or a staged image is activated; where it comes from the host and none is activated, it waits for one in
PHASE 6 (shown for a test that finds no unit bad, with pair 0 usable). In another phase none of the three changes anything. -/
def Obligations.StartSequence : Prop :=
  (∀ (s : State) (sel : Bool), s.get PWR_BOOT_STATUS__PHASE = 0 → ∃ t, exec (.porRelease sel) s = .next t ∧
    t.get PWR_BOOT_STATUS__PHASE = 1 ∧ t.on PWR_BOOT_STATUS__SOURCE = sel ∧ SameMem s t ∧ SameVault s t) ∧
  (∀ s : State, s.get PWR_BOOT_STATUS__PHASE = 1 → ∃ t, exec .vaultLoadDone s = .next t ∧ t.get PWR_BOOT_STATUS__PHASE = 2 ∧ t.on
    VLT_STATUS__LOADED = true ∧ t.rd HP_OWN_GEN = s.vaultRd 152 ∧ SameMem s t ∧ SameVault s t) ∧
  (∀ (s : State) (bad : List (Fin 16 × BitVec 16)), s.get PWR_BOOT_STATUS__PHASE = 2 → s.sys.lostA = false → s.sys.lostB = false →
    (s.on PWR_BOOT_STATUS__SOURCE = false ∨ s.on VLT_STG_STAT__ACTIVATE = true) → ∃ t, exec (.startSelfTestDone bad) s = .next t ∧
    t.get PWR_BOOT_STATUS__PHASE = 3 ∧ t.on CLK_STATUS__PLLA_LOCK = true ∧ t.on CLK_STATUS__PLLB_LOCK = true ∧
    SameMem s t ∧ SameVault s t) ∧
  (∀ s : State, s.get PWR_BOOT_STATUS__PHASE = 2 → s.sys.lostA = false → s.sys.lostB = false → s.on PWR_BOOT_STATUS__SOURCE = true →
    s.on VLT_STG_STAT__ACTIVATE = false → s.cpState 0 < 6 → ∃ t, exec (.startSelfTestDone []) s = .next t ∧
    t.get PWR_BOOT_STATUS__PHASE = 6 ∧ t.get PWR_BOOT_STATUS__BOOT_PAIR = 0 ∧ t.on CLK_STATUS__PLLA_LOCK = true ∧
    t.on CLK_STATUS__PLLB_LOCK = true ∧ SameMem s t ∧ SameVault s t) ∧
  (∀ (s : State) (sel : Bool), s.get PWR_BOOT_STATUS__PHASE ≠ 0 → exec (.porRelease sel) s = .next s) ∧
  (∀ s : State, s.get PWR_BOOT_STATUS__PHASE ≠ 1 → exec .vaultLoadDone s = .next s) ∧
  (∀ (s : State) (bad : List (Fin 16 × BitVec 16)), s.get PWR_BOOT_STATUS__PHASE ≠ 2 → exec (.startSelfTestDone bad) s = .next s)

/-- The boot ROM (R70, R427 to R432). The image it tries next, of slot A, of slot B or staged, is judged by the checks of R431,
code 1 standing for a slot that the flash does not give in full; the code shows in that source's diagnosis and in the boot
status. With code 0 the image is found, PHASE 4. Else slot A is followed by slot B, slot B by the wait of PHASE 6, and a staged
image, whose activation ends in either case, by slot A or, where the host boots the device, by PHASE 6. With no image due
nothing changes. The release of a found image starts firmware, PHASE 5, shows the image's key slot, SVN and measurement, and
puts the payload at LOAD_OFS, with every byte outside it unchanged. -/
def Obligations.ImageIsVerifiedAndReleased : Prop :=
  (∀ (s : State) (img : FlashImage) (code : Nat), s.vs.due = 1 →
    code = (if img.short then 1 else s.imageCode 1 img.hdr img.payload img.trailer none) →
    ∃ t, exec (.imageFetchVerify img) s = .next t ∧ t.get VLT_BOOT_DIAG__CODE_A = code ∧ t.get PWR_BOOT_STATUS__FAIL_CODE = code ∧
    t.vs.due = (if code = 0 then 0 else 2) ∧ t.vs.boot = (if code = 0 then 1 else s.vs.boot) ∧
    t.get PWR_BOOT_STATUS__PHASE = (if code = 0 then 4 else s.get PWR_BOOT_STATUS__PHASE) ∧
    OnlyRegs [VLT_BOOT_DIAG, PWR_BOOT_STATUS] s t ∧ SameMem s t ∧ SameVault s t) ∧
  (∀ (s : State) (img : FlashImage) (code : Nat), s.vs.due = 2 →
    code = (if img.short then 1 else s.imageCode 1 img.hdr img.payload img.trailer none) →
    ∃ t, exec (.imageFetchVerify img) s = .next t ∧ t.get VLT_BOOT_DIAG__CODE_B = code ∧ t.get PWR_BOOT_STATUS__FAIL_CODE = code ∧
    t.vs.due = 0 ∧ t.vs.boot = (if code = 0 then 2 else s.vs.boot) ∧ t.get PWR_BOOT_STATUS__PHASE = (if code = 0 then 4 else 6) ∧
    OnlyRegs [VLT_BOOT_DIAG, PWR_BOOT_STATUS] s t ∧ SameMem s t ∧ SameVault s t) ∧
  (∀ (s : State) (img : FlashImage) (code : Nat), s.vs.due = 3 → code = s.stagedCode 1 →
    ∃ t, exec (.imageFetchVerify img) s = .next t ∧ t.get VLT_BOOT_DIAG__CODE_STG = code ∧ t.get PWR_BOOT_STATUS__FAIL_CODE = code ∧
    t.on VLT_STG_STAT__ACTIVATE = false ∧ t.vs.due = (if code = 0 ∨ s.on PWR_BOOT_STATUS__SOURCE = true then 0 else 1) ∧
    t.vs.boot = (if code = 0 then 3 else s.vs.boot) ∧ t.get PWR_BOOT_STATUS__PHASE =
      (if code = 0 then 4 else if s.on PWR_BOOT_STATUS__SOURCE = true then 6 else s.get PWR_BOOT_STATUS__PHASE) ∧
    OnlyRegs [VLT_BOOT_DIAG, PWR_BOOT_STATUS, 0x60034] s t ∧ SameMem s t ∧ SameVault s t) ∧
  (∀ (s : State) (img : FlashImage), s.vs.due = 0 → exec (.imageFetchVerify img) s = .next s) ∧
  (∀ s : State, s.vs.boot ≠ 0 → s.get PWR_BOOT_STATUS__PHASE = 4 → ∃ t, exec .firmwareRelease s = .next t ∧
    t.get PWR_BOOT_STATUS__PHASE = 5 ∧ t.get PWR_BOOT_STATUS__FAIL_CODE = 0 ∧ t.sys.released = true ∧
    t.on VLT_IMG_KEY__VALID = true ∧ t.get VLT_IMG_KEY__SLOT = s.vs.key % 4 ∧ t.rd VLT_IMG_INFO = dword s.vs.hdr 3 ∧
    (∀ j : Fin 8, t.rd (VLT_MEAS j.val) = dword (sha256 s.vs.hdr) j.val) ∧ SameVault s t ∧
    (∀ i : Fin 262144, i.val < s.vs.payload.length → t.sramWord ((dword s.vs.hdr 5).toNat + 4 * i.val) = dword s.vs.payload i.val) ∧
    (∀ a, a < (dword s.vs.hdr 5).toNat ∨ (dword s.vs.hdr 5).toNat + 4 * s.vs.payload.length ≤ a → t.sramRd a = s.sramRd a))

/-- A vault commit ends (R421, R422), whatever waits behind it. Where copy A verifies, the word takes its new value, the
register it backs shows that value in its vault-backed bits where nothing waits, and no other word changes but the generation,
word 152, with a word of the ownership table or the steward. Where copy A does not verify, every word keeps its value, and the
failure and the word's number are latched. With no commit queued, and nothing held, nothing changes. -/
def Obligations.VaultCommitEnds : Prop :=
  (∀ (s : State) (b : Bool) (c : VCommit) (rest : List VCommit), s.vq = c :: rest → c.word ≠ 152 →
    ∃ t, exec (.vaultCommitDone true b) s = .next t ∧ t.vaultRd c.word = c.value ∧
      (∀ w, w ≠ c.word → w ≠ 152 → t.vaultRd w = s.vaultRd w) ∧
      (ownWord c.word = false → t.vaultRd 152 = s.vaultRd 152) ∧ SameMem s t) ∧
  (∀ (s : State) (b : Bool) (c : VCommit) (a : Nat), s.vq = [c] → s.vheld = [] → s.sys.held = [] → vaultAddr c.word = some a →
    ∃ t, exec (.vaultCommitDone true b) s = .next t ∧ t.rd a &&& pvMask a = c.value &&& pvMask a ∧ t.vq = [] ∧ SameMem s t) ∧
  (∀ (s : State) (b : Bool) (c : VCommit) (rest : List VCommit), s.vq = c :: rest → s.vheld = [] → s.sys.held = [] →
    ∃ t, exec (.vaultCommitDone false b) s = .next t ∧ t.on VLT_STATUS__LAST_FAIL = true ∧
      t.get VLT_STATUS__FAIL_WORD = c.word % 2 ^ 11 ∧ SameVault s t ∧ SameMem s t) ∧
  (∀ (s : State) (a b : Bool), s.vq = [] → s.vheld = [] → s.sys.held = [] → exec (.vaultCommitDone a b) s = .next s)

/-- Staging (R433 to R435). COPY, from a writer that may start it, marks the staging area busy and keeps OFS and LEN as they
are. The end of a copy frees it; a copy without error puts its LEN pages at its OFS, with every byte outside them unchanged, and
the image is then not verified; one that failed sets COPY_ERR and writes nothing below the staging area; with no copy under way
nothing changes. FW_VERIFY's actions end with their result, free the area, and end the descriptor that asked for them, with code
0, or with code 8 and the check's code as detail: VERIFY shows the code of R431, VERIFIED where it is 0, and, in PHASE 6, the
image is then found; ACTIVATE sets ACTIVATE for a verified image and else leaves it, with check code 11; CLEAR empties the
staging area and no other byte. -/
def Obligations.StagingActions : Prop :=
  (∀ (s : State) (w : Writer), s.may w VLT_STG_CTRL 1 = true → ∃ t, exec (.stageCopy w) s = .next t ∧
    t.on VLT_STG_STAT__BUSY = true ∧ t.vs.copying = true ∧ t.vs.copyOfs = s.get VLT_STG_OFS__OFS ∧
    t.vs.copyLen = s.get VLT_STG_LEN__LEN ∧ OnlyRegs [PWR_WAKE_CAUSE, 0x60034] s t ∧ SameMem s t ∧ SameVault s t) ∧
  (∀ (s : State) (data : List Word), s.vs.copying = true → s.stewardReads = true → 1 ≤ s.vs.copyLen →
    s.vs.copyOfs + s.vs.copyLen ≤ 256 → ∃ t, exec (.stageCopyDone data false) s = .next t ∧
    t.on VLT_STG_STAT__BUSY = false ∧ t.on VLT_STG_STAT__VERIFIED = false ∧ t.vs.copying = false ∧
    (∀ i : Fin 262144, i.val < 1024 * s.vs.copyLen → t.stageWord (1024 * s.vs.copyOfs + i.val) = dword data i.val) ∧
    (∀ a, a < 0x300000 + 4096 * s.vs.copyOfs ∨ 0x300000 + 4096 * (s.vs.copyOfs + s.vs.copyLen) ≤ a →
      t.sramRd a = s.sramRd a) ∧ SameVault s t) ∧
  (∀ (s : State) (data : List Word), s.vs.copying = true → ∃ t, exec (.stageCopyDone data true) s = .next t ∧
    t.on VLT_STG_STAT__BUSY = false ∧ t.on VLT_STG_STAT__COPY_ERR = true ∧ t.vs.copying = false ∧
    (∀ a, a < 0x300000 → t.sramRd a = s.sramRd a) ∧ SameVault s t) ∧
  (∀ (s : State) (data : List Word) (err : Bool), s.vs.copying = false → exec (.stageCopyDone data err) s = .next s) ∧
  (∀ (s : State) (ctx : Option Nat), s.vs.act = some (0, ctx) → ∃ t, exec (.verify () ()) s = .next t ∧
    t.get VLT_STG_STAT__RESULT = s.stagedCode 1 ∧ t.on VLT_STG_STAT__VERIFIED = decide (s.stagedCode 1 = 0) ∧
    t.on VLT_STG_STAT__BUSY = false ∧ t.vs.act = none ∧ t.get PWR_BOOT_STATUS__PHASE =
      (if s.get PWR_BOOT_STATUS__PHASE = 6 ∧ s.sys.released = false ∧ s.stagedCode 1 = 0 then 4 else s.get PWR_BOOT_STATUS__PHASE) ∧
    SameMem s t ∧ SameVault s t) ∧
  (∀ (s : State) (c : Nat) (e : ExecS) (code : Nat), s.vs.act = some (0, some c) → (s.ctx c).exec = some e → e.done = none →
    code = s.stagedCode 1 → ∃ t, exec (.verify () ()) s = .next t ∧
    (t.ctx c).exec.bind (·.done) = some (if code = 0 then 0 else 8, code) ∧ SameMem s t ∧ SameVault s t) ∧
  (∀ (s : State) (ctx : Option Nat), s.vs.act = some (1, ctx) → ∃ t, exec .activate s = .next t ∧
    t.on VLT_STG_STAT__ACTIVATE = (s.on VLT_STG_STAT__ACTIVATE || s.on VLT_STG_STAT__VERIFIED) ∧ t.on VLT_STG_STAT__BUSY = false ∧
    t.vs.act = none ∧ SameMem s t ∧ SameVault s t) ∧
  (∀ (s : State) (c : Nat) (e : ExecS), s.vs.act = some (1, some c) → (s.ctx c).exec = some e → e.done = none → ∃ t, exec
    .activate s = .next t ∧ (t.ctx c).exec.bind (·.done) = some (if s.on VLT_STG_STAT__VERIFIED = true then (0, 0) else (8, 11)) ∧
    SameMem s t ∧ SameVault s t) ∧
  (∀ (s : State) (ctx : Option Nat), s.vs.act = some (2, ctx) → ∃ t, exec .clear s = .next t ∧ t.get VLT_STG_STAT__PAGES = 0 ∧
    t.on VLT_STG_STAT__VERIFIED = false ∧ t.on VLT_STG_STAT__ACTIVATE = false ∧ t.on VLT_STG_STAT__BUSY = false ∧ t.vs.act = none ∧
    (∀ a, t.sramRd a = if 0x300000 ≤ a ∧ a < 0x400000 then 0 else s.sramRd a) ∧ SameVault s t) ∧
  (∀ (s : State) (c : Nat) (e : ExecS), s.vs.act = some (2, some c) → (s.ctx c).exec = some e → e.done = none →
    ∃ t, exec .clear s = .next t ∧ (t.ctx c).exec.bind (·.done) = some (0, 0) ∧ SameVault s t)

/-- Keys, the security version and the debug port (R429, R430, R441). A revocation from a writer that may make it sets the
slot's bit of REVOKED and leaves every other slot's. A write of VLT_MIN_SVN that is accepted, with a place in the queue, does
not lower it, and is queued for its commit. LOCK locks the port, clears its scope and detaches a debugger. UNLOCK ends with the
code of R431 in RESULT: with code 0 the port is unlocked with the token's scope; with another it stays as it was; and it ends
the descriptor that asked for it, with code 0, or with code 8 and that code as detail. -/
def Obligations.KeysAndDebugPort : Prop :=
  (∀ (s : State) (w : Writer) (v : Word), s.may w VLT_KEY_REVOKE v = true → ∃ t, exec (.keyRevoke w v) s = .next t ∧
    nbit (t.get VLT_KEY_STAT__REVOKED) (fieldGet v 0 2) = true ∧
    (∀ k : Fin 4, k.val ≠ fieldGet v 0 2 → nbit (t.get VLT_KEY_STAT__REVOKED) k.val = nbit (s.get VLT_KEY_STAT__REVOKED) k.val) ∧
    OnlyRegsBelow evBase [PWR_WAKE_CAUSE, VLT_KEY_STAT, VLT_EVENT__EVT.addr] s t ∧ SameMem s t ∧ SameVault s t) ∧
  (∀ (s : State) (w : Writer) (v : Word), s.may w VLT_MIN_SVN v = true → s.vqFull = false → ∃ t, exec (.minSvnWrite w v) s = .next
    t ∧ s.get VLT_MIN_SVN__MIN_SVN ≤ v.toNat ∧ (s.vq = [] → t.vq.map (fun c => c.value) = [v]) ∧ (s.vq ≠ [] → t.vq.map (fun c =>
    c.value) = s.vq.map (fun c => c.value) ++ [v]) ∧ t.get VLT_MIN_SVN__MIN_SVN = s.get VLT_MIN_SVN__MIN_SVN ∧ OnlyRegs
    [PWR_WAKE_CAUSE, VLT_STATUS] s t ∧ SameMem s t ∧ SameVault s t) ∧
  (∀ (s : State) (w : Writer), s.may w VLT_DBG_STAT 2 = true → ∃ t, exec (.dbgLock w) s = .next t ∧
    t.on VLT_DBG_STAT__UNLOCKED = false ∧ t.get VLT_DBG_STAT__SCOPE = 0 ∧ t.on RED_STATUS__DEBUG = false ∧
    OnlyRegs [PWR_WAKE_CAUSE, VLT_DBG_STAT, RED_STATUS__DEBUG.addr] s t ∧ SameMem s t ∧ SameVault s t) ∧
  (∀ (s : State) (ctx : Option Nat) (code : Nat), s.vs.act = some (3, ctx) → code = s.stagedCode 2 → ∃ t, exec (.unlock () ()) s =
    .next t ∧ t.get VLT_STG_STAT__RESULT = code ∧ t.on VLT_DBG_STAT__UNLOCKED = (s.on VLT_DBG_STAT__UNLOCKED || code == 0) ∧ t.get
    VLT_DBG_STAT__SCOPE = (if code = 0 then fieldGet (dword (s.stagePayload s.stageHdr) 10) 0 8 else s.get VLT_DBG_STAT__SCOPE) ∧
    t.on VLT_STG_STAT__BUSY = false ∧ SameMem s t ∧ SameVault s t) ∧
  (∀ (s : State) (c : Nat) (e : ExecS) (code : Nat), s.vs.act = some (3, some c) → (s.ctx c).exec = some e → e.done = none →
    code = s.stagedCode 2 → ∃ t, exec (.unlock () ()) s = .next t ∧
    (t.ctx c).exec.bind (·.done) = some (if code = 0 then 0 else 8, code) ∧ SameMem s t ∧ SameVault s t)

/-- Attestation (R438, R439). A GO from a writer that may give it makes the report busy with its words 0 to 63 as the state
gives them. The end of a report under way whose index is reserved puts those words and, behind them, their HSS signature with
that index under the device's identity key into the buffer, is done, no longer busy, and uses the index, and sets EXHAUSTED with
the last one; one whose index is not reserved, or with none under way, changes nothing. The state of the signature tree is ready
once firmware is released, and not before. -/
def Obligations.AttestationReport : Prop :=
  (∀ (s : State) (w : Writer), s.may w VLT_ATT_CTRL 1 = true → s.vqFull = false → ∃ t, exec (.attGo w) s = .next t ∧
    t.on VLT_ATT_STAT__BUSY = true ∧ t.on VLT_ATT_STAT__DONE = false ∧ t.vs.report = s.attWords ∧ SameMem s t ∧ SameVault s t) ∧
  (∀ s : State, s.on VLT_ATT_STAT__BUSY = true → s.get VLT_ATT_IDX__NEXT < s.attRes → s.get VLT_ATT_IDX__NEXT + 1 < 2 ^ 30 →
    s.vs.report.length = 64 → ∃ t, exec (.attReportDone ()) s = .next t ∧ t.on VLT_ATT_STAT__BUSY = false ∧ t.on VLT_ATT_STAT__DONE =
    true ∧ t.get VLT_ATT_IDX__NEXT = s.get VLT_ATT_IDX__NEXT + 1 ∧ t.on VLT_ATT_STAT__EXHAUSTED = s.on VLT_ATT_STAT__EXHAUSTED ∧
    (∀ i : Fin 1413, t.rd (VLT_ATT_BUF i.val) = dword (reportWords (s.get VLT_ATT_IDX__NEXT) s.vs.report) i.val) ∧ SameMem s t ∧
    SameVault s t) ∧
  (∀ s : State, s.on VLT_ATT_STAT__BUSY = true → s.get VLT_ATT_IDX__NEXT < s.attRes →
    s.get VLT_ATT_IDX__NEXT + 1 = 2 ^ 30 → ∃ t, exec (.attReportDone ()) s = .next t ∧ t.on VLT_ATT_STAT__BUSY = false ∧
    t.on VLT_ATT_STAT__DONE = true ∧ t.on VLT_ATT_STAT__EXHAUSTED = true ∧ SameMem s t ∧ SameVault s t) ∧
  (∀ s : State, s.on VLT_ATT_STAT__BUSY = false ∨ s.attRes ≤ s.get VLT_ATT_IDX__NEXT →
    exec (.attReportDone ()) s = .next s) ∧
  (∀ s : State, s.sys.released = true → ∃ t, exec .attReady s = .next t ∧ t.on VLT_ATT_STAT__READY = true ∧
    OnlyRegs [0x60124] s t ∧ SameMem s t ∧ SameVault s t) ∧
  (∀ s : State, s.sys.released = false → exec .attReady s = .next s)

/-- The tally (R467 to R470, R473, R484), by writes that are accepted. RUN follows the write. LATCH copies every counter into
its snapshot and leaves it. CLEAR zeroes every counter and every overflow bit. A running counter that is enabled and not frozen
adds the occurrences that its PRIV passes: below 2^48 it holds the sum and no overflow bit changes; past that it holds the sum
less 2^48 and its overflow bit is set; and no register below the events changes. A counter that is stopped, disabled or frozen
keeps its value. The read index of the sample buffer follows its write. -/
def Obligations.TallyCommands : Prop :=
  (∀ (s : State) (w : Writer) (on : Bool), s.may w TAL_CTRL (BitVec.ofNat 32 (b2n on)) = true → ∃ t, exec (.talRun w on) s = .next t ∧
    t.on TAL_CTRL__RUN = on ∧ OnlyRegs [PWR_WAKE_CAUSE, 0x80000, 0x80004] s t ∧ SameMem s t ∧ SameVault s t) ∧
  (∀ (s : State) (w : Writer) (i : Fin 8), s.may w TAL_CTRL (BitVec.ofNat 32 (s.get TAL_CTRL__RUN + 2)) = true →
    ∃ t, exec (.talLatch w) s = .next t ∧ t.rd (TAL_SNAP_LO i.val) = s.rd (TAL_CNT_LO i.val) ∧
      t.rd (TAL_SNAP_HI i.val) = s.rd (TAL_CNT_HI i.val) ∧ t.talCnt i.val = s.talCnt i.val ∧ SameMem s t ∧ SameVault s t) ∧
  (∀ (s : State) (w : Writer) (i : Fin 8), s.may w TAL_CTRL (BitVec.ofNat 32 (s.get TAL_CTRL__RUN + 4)) = true →
    ∃ t, exec (.talClear w) s = .next t ∧ t.talCnt i.val = 0 ∧ t.get TAL_STATUS__OVF = 0 ∧ SameMem s t ∧ SameVault s t) ∧
  (∀ (s : State) (n : Fin 8) (inc : TalInc), s.on TAL_CTRL__RUN = true → s.on (TAL_EVT__EN n.val) = true → s.on TAL_STATUS__FROZEN
    = false → s.talCnt n.val + s.talPriv n.val inc.m.toNat inc.u.toNat < 2 ^ 48 → s.tal.due = [] → ∃ t, exec (.talOverflow n inc)
    s = .next t ∧ t.talCnt n.val = s.talCnt n.val + s.talPriv n.val inc.m.toNat inc.u.toNat ∧ t.get TAL_STATUS__OVF = s.get
    TAL_STATUS__OVF ∧ OnlyRegsBelow evBase [] s t ∧ SameMem s t ∧ SameVault s t) ∧
  (∀ (s : State) (n : Fin 8) (inc : TalInc), s.on TAL_CTRL__RUN = true → s.on (TAL_EVT__EN n.val) = true → s.on TAL_STATUS__FROZEN
    = false → 2 ^ 48 ≤ s.talCnt n.val + s.talPriv n.val inc.m.toNat inc.u.toNat → ∃ t, exec (.talOverflow n inc) s = .next t ∧
    t.talCnt n.val = s.talCnt n.val + s.talPriv n.val inc.m.toNat inc.u.toNat - 2 ^ 48 ∧ nbit (t.get TAL_STATUS__OVF) n.val = true
    ∧ OnlyRegsBelow evBase [] s t ∧ SameMem s t ∧ SameVault s t) ∧
  (∀ (s : State) (n : Fin 8) (inc : TalInc), s.on TAL_CTRL__RUN = false ∨ s.on (TAL_EVT__EN n.val) = false ∨ s.on
    TAL_STATUS__FROZEN = true → s.tal.due = [] → exec (.talOverflow n inc) s = .next s) ∧
  (∀ (s : State) (w : Writer) (v : Word), s.may w TAL_SAMP_RD v = true → ∃ t, exec (.talSampRdWrite w v) s = .next t ∧
    t.get TAL_SAMP_RD__RD = fieldGet v 0 9 ∧ OnlyRegs [PWR_WAKE_CAUSE, 0x80210, 0x80214] s t ∧ SameMem s t ∧ SameVault s t)

/-- Records of the sample buffer (R480 to R484). A finished sample that its source selects (R479: the PRIV mask and, with PC_EN,
the pc range) enters a buffer with room with its words, SEQ moves on, and the selections that fell while it was in flight are
counted as skipped; its lost form counts one lost sample and enters nothing; one that its source does not select changes nothing
(log 25). A full buffer that does not overwrite counts a loss and keeps its indices; one that overwrites loses its oldest entry,
counts it, and takes the record. A tagged step whose engine, step kind and axis are enabled enters a buffer with room; one whose
engine is not enabled changes nothing. -/
def Obligations.SampleRecords : Prop :=
  (∀ (s : State) (src : Fin 6) (bits : BitVec 7) (skips : BitVec 16) (ws : Vector Word 6), s.sampEntries < 256 →
    s.sampPasses src.val (bits.getLsbD 0) ws[0] = true → ∃ t, exec (.sampleEnd src false bits skips ws) s = .next t ∧
    t.get TAL_SAMP_WR__WR = (s.get TAL_SAMP_WR__WR + 1) % 512 ∧ t.tal.seq = (s.tal.seq + 1) % 2 ^ 16 ∧
    t.get TAL_SAMP_STAT__SKIPPED = min (s.get TAL_SAMP_STAT__SKIPPED + skips.toNat) 65535 ∧
    (∀ q : Fin 6, t.rd (TAL_SAMP_W (s.get TAL_SAMP_WR__WR % 256) (q.val + 1)) = dword ws.toList q.val) ∧
    OnlyRegsBelow evBase [] s t ∧ SameMem s t ∧ SameVault s t) ∧
  (∀ (s : State) (src : Fin 6) (bits : BitVec 7) (skips : BitVec 16) (ws : Vector Word 6), ∃ t, exec (.sampleEnd src true bits
    skips ws) s = .next t ∧ t.get TAL_SAMP_STAT__LOST = min (s.get TAL_SAMP_STAT__LOST + 1) 255 ∧ t.get TAL_SAMP_STAT__SKIPPED =
    min (s.get TAL_SAMP_STAT__SKIPPED + skips.toNat) 65535 ∧ t.get TAL_SAMP_WR__WR = s.get TAL_SAMP_WR__WR ∧ OnlyRegs [0x80218] s
    t ∧ SameMem s t ∧ SameVault s t) ∧
  (∀ (s : State) (src : Fin 6) (bits : BitVec 7) (skips : BitVec 16) (ws : Vector Word 6), s.sampEntries = 256 → s.on
    TAL_SAMP_CFG__FULL_MODE = false → s.sampPasses src.val (bits.getLsbD 0) ws[0] = true → ∃ t, exec (.sampleEnd src false bits
    skips ws) s = .next t ∧ t.get TAL_SAMP_STAT__LOST = min (s.get TAL_SAMP_STAT__LOST + 1) 255 ∧ t.get TAL_SAMP_WR__WR = s.get
    TAL_SAMP_WR__WR ∧ t.get TAL_SAMP_RD__RD = s.get TAL_SAMP_RD__RD ∧ OnlyRegsBelow evBase [] s t ∧ SameMem s t ∧ SameVault s t) ∧
  (∀ (s : State) (src : Fin 6) (bits : BitVec 7) (skips : BitVec 16) (ws : Vector Word 6), s.sampEntries = 256 → s.on
    TAL_SAMP_CFG__FULL_MODE = true → s.sampPasses src.val (bits.getLsbD 0) ws[0] = true → ∃ t, exec (.sampleEnd src false bits
    skips ws) s = .next t ∧ t.get TAL_SAMP_STAT__OVERWRITTEN = min (s.get TAL_SAMP_STAT__OVERWRITTEN + 1) 255 ∧ t.get
    TAL_SAMP_WR__WR = (s.get TAL_SAMP_WR__WR + 1) % 512 ∧ t.get TAL_SAMP_RD__RD = (s.get TAL_SAMP_RD__RD + 1) % 512 ∧
    OnlyRegsBelow evBase [] s t ∧ SameMem s t ∧ SameVault s t) ∧
  (∀ (s : State) (e : Fin 2) (a : Fin 8) (corr done rep late sat : Bool) (m w u x q : BitVec 16), nbit (s.get TAL_TAG_CFG__EN)
    e.val = true → (corr = true → s.on TAL_TAG_CFG__CORR = true) → (s.on TAL_TAG_CFG__AXIS_EN = true → s.get TAL_TAG_CFG__AXIS =
    a.val) → s.sampEntries < 256 → ∃ t, exec (.tagRecord e a corr done rep late sat m w u x q) s = .next t ∧ t.get TAL_SAMP_WR__WR
    = (s.get TAL_SAMP_WR__WR + 1) % 512 ∧ t.tal.seq = (s.tal.seq + 1) % 2 ^ 16 ∧ OnlyRegsBelow evBase [] s t ∧ SameMem s t ∧
    SameVault s t) ∧
  (∀ (s : State) (e : Fin 2) (a : Fin 8) (corr done rep late sat : Bool) (m w u x q : BitVec 16), nbit (s.get TAL_TAG_CFG__EN)
    e.val = false → exec (.tagRecord e a corr done rep late sat m w u x q) s = .next s) ∧
  (∀ (s : State) (src : Fin 6) (bits : BitVec 7) (skips : BitVec 16) (ws : Vector Word 6),
    s.sampPasses src.val (bits.getLsbD 0) ws[0] = false → exec (.sampleEnd src false bits skips ws) s = .next s)

/-- Links and their loss (R95, R69). In READY or ACTIVE with no descent under way, an enabled port that trains, out of reset, is up
at the speed it reaches and drives WAKE_N no more; otherwise, or with no speed reached, nothing changes. The loss of a link that is
up takes it down, an FLR leaves it up; in each, Bus Master Enable, Memory Space Enable and the event ring's enable are 0, an
axis of that host in COAST to HOLD with LOSS_ACT 2 enters SAFE with cause 8, and a context of that host that is enabled and not
stopped stops. PERST_N puts its port into reset; with the link down, another loss changes nothing. PERST_N's release ends the
port's reset, and an enabled port trains where the clocks of the start have run. -/
def Obligations.HostLinkUpAndLoss : Prop :=
  (∀ (s : State) (p : Fin 4) (speed : Fin 4), (s.port p.val).training = true → (s.port p.val).perst = false → s.on (HP_CFG__EN
    p.val) = true → speed.val ≠ 0 → 2 ≤ s.get PWR_STATE__STATE → s.on PWR_STATE__DESCENDING = false → ∃ t, exec (.linkUp p speed)
    s = .next t ∧ t.on (HP_LINK__UP p.val) = true ∧ t.get (HP_LINK__SPEED p.val) = speed.val ∧ (t.port p.val).training = false ∧
    (t.port p.val).wakeN = false ∧ nbit (t.get HP_EVENT__LINK_UP) p.val = true ∧ OnlyRegsBelow evBase [(HP_LINK__UP p.val).addr,
    HP_EVENT] s t ∧ SameMem s t ∧ SameVault s t) ∧
  (∀ (s : State) (p : Fin 4) (speed : Fin 4), (s.port p.val).training = false ∨ (s.port p.val).perst = true ∨
    s.on (HP_CFG__EN p.val) = false ∨ speed.val = 0 ∨ s.get PWR_STATE__STATE < 2 ∨ s.on PWR_STATE__DESCENDING = true → exec
    (.linkUp p speed) s = .next s) ∧
  (∀ (s : State) (p : Fin 4) (kind : LossKind), s.on (HP_LINK__UP p.val) = true → ∃ t, exec (.hostLoss p kind) s = .next t ∧
      t.on (HP_LINK__UP p.val) = decide (kind = .flr) ∧ t.on (HP_LINK__BME p.val) = false ∧ (t.port p.val).mse = false ∧
      t.on (EV_RING_CFG__EN p.val) = false ∧ SameMem s t ∧ SameVault s t) ∧
  (∀ (s : State) (p : Fin 4) (kind : LossKind) (a : Fin 8), s.on (HP_LINK__UP p.val) = true → s.axOwner a.val = p.val →
    s.get (HP_OWN_AX__LOSS_ACT a.val) = 2 → 1 ≤ s.axState a.val → s.axState a.val ≤ 4 → ∃ t, exec (.hostLoss p kind) s = .next t ∧
      t.axState a.val = 5 ∧ t.get (AX_STATE__SAFE_CAUSE a.val) = 8 ∧ SameMem s t ∧ SameVault s t) ∧
  (∀ (s : State) (p : Fin 4) (kind : LossKind) (c : Fin 256), s.on (HP_LINK__UP p.val) = true → s.ctxOwner c.val = p.val →
    s.on (HP_CTX_CTRL__EN c.val) = true → s.ctxPhase c.val ≠ 7 → ∃ t, exec (.hostLoss p kind) s = .next t ∧
      t.ctxPhase c.val = 6 ∧ (t.ctx c.val).stop = 3 ∧ SameMem s t ∧ SameVault s t) ∧
  (∀ (s : State) (p : Fin 4), ∃ t, exec (.hostLoss p .perst) s = .next t ∧ (t.port p.val).perst = true ∧
      (t.port p.val).training = false ∧ t.on (HP_LINK__UP p.val) = false ∧ SameMem s t ∧ SameVault s t) ∧
  (∀ (s : State) (p : Fin 4) (kind : LossKind), s.on (HP_LINK__UP p.val) = false → kind ≠ .perst → exec (.hostLoss p kind) s =
    .next s) ∧
  (∀ (s : State) (p : Fin 4), (s.port p.val).perst = true → ∃ t, exec (.perstNDeassertion p) s = .next t ∧
      (t.port p.val).perst = false ∧ (t.port p.val).training = (s.on (HP_CFG__EN p.val) && s.clocksRan) ∧
      OnlyRegs [PWR_WAKE_CAUSE] s t ∧ SameMem s t ∧ SameVault s t) ∧
  (∀ (s : State) (p : Fin 4), (s.port p.val).perst = false → exec (.perstNDeassertion p) s = .next s)

/-- Configuration requests (R76 to R78, R95, log 50) to a port whose link is up, whatever the power state: the write of Memory
Space Enable, Bus Master Enable, the power state, the link's power state, a BAR, and a supported payload size, read-request
size or completion timeout takes effect on the port; an unsupported code leaves its field; a read is answered. A write of Bus
Master Enable may change the event registers, since messages that waited are sent; no other register changes but
PWR_WAKE_CAUSE. With the link down nothing changes. -/
def Obligations.ConfigurationRequests : Prop :=
  (∀ (s : State) (p : Fin 4) (on : Bool), s.on (HP_LINK__UP p.val) = true → ∃ t, exec (.configurationRequest p (.memorySpace on))
    s = .next t ∧ (t.port p.val).mse = on ∧ OnlyRegs [PWR_WAKE_CAUSE] s t ∧ SameMem s t ∧ SameVault s t) ∧
  (∀ (s : State) (p : Fin 4), s.on (HP_LINK__UP p.val) = true → ∃ t, exec (.configurationRequest p (.busMaster false)) s = .next t ∧
    t.on (HP_LINK__BME p.val) = false ∧ OnlyRegs [PWR_WAKE_CAUSE, (HP_LINK__BME p.val).addr] s t ∧ SameMem s t ∧ SameVault s t) ∧
  (∀ (s : State) (p : Fin 4), s.on (HP_LINK__UP p.val) = true → ∃ t, exec (.configurationRequest p (.busMaster true)) s = .next t
    ∧ t.on (HP_LINK__BME p.val) = true ∧ OnlyRegsBelow evBase [PWR_WAKE_CAUSE, (HP_LINK__BME p.val).addr] s t ∧ SameMem s t ∧
    SameVault s t) ∧
  (∀ (s : State) (p : Fin 4) (d3 : Bool), s.on (HP_LINK__UP p.val) = true → ∃ t, exec (.configurationRequest p (.dState d3)) s =
    .next t ∧ t.get (HP_LINK__DSTATE p.val) = (if d3 then 3 else 0) ∧ OnlyRegs [PWR_WAKE_CAUSE, (HP_LINK__BME p.val).addr] s t ∧
    SameMem s t ∧ SameVault s t) ∧
  (∀ (s : State) (p : Fin 4) (l : Fin 5), s.on (HP_LINK__UP p.val) = true → ∃ t, exec (.configurationRequest p (.linkPower l)) s =
    .next t ∧ t.get (HP_LINK__LPM p.val) = l.val ∧ OnlyRegs [PWR_WAKE_CAUSE, (HP_LINK__BME p.val).addr] s t ∧ SameMem s t ∧
    SameVault s t) ∧
  (∀ (s : State) (p : Fin 4) (n : Fin 6) (v : Word), s.on (HP_LINK__UP p.val) = true → ∃ t, exec (.configurationRequest p (.bar n
    v)) s = .next t ∧ (t.port p.val).cfg = barWrite n.val v (s.port p.val).cfg ∧ OnlyRegs [PWR_WAKE_CAUSE] s t ∧ SameMem s t ∧
    SameVault s t) ∧
  (∀ (s : State) (p : Fin 4) (k : Fin 8), s.on (HP_LINK__UP p.val) = true → ∃ t, exec (.configurationRequest p (.maxPayload k)) s
    = .next t ∧ (t.port p.val).cfg.mps = (if k.val ≤ 1 then k.val else (s.port p.val).cfg.mps) ∧ OnlyRegs [PWR_WAKE_CAUSE] s t ∧
    SameMem s t ∧ SameVault s t) ∧
  (∀ (s : State) (p : Fin 4) (k : Fin 8), s.on (HP_LINK__UP p.val) = true → ∃ t, exec (.configurationRequest p (.maxRead k)) s =
    .next t ∧ (t.port p.val).cfg.mrrs = (if k.val ≤ 5 then k.val else (s.port p.val).cfg.mrrs) ∧ OnlyRegs [PWR_WAKE_CAUSE] s t ∧
    SameMem s t ∧ SameVault s t) ∧
  (∀ (s : State) (p : Fin 4) (k : Fin 16), s.on (HP_LINK__UP p.val) = true → ∃ t, exec (.configurationRequest p (.timeout k)) s =
    .next t ∧ (t.port p.val).cfg.cto = (if [0, 1, 2, 5, 6].contains k.val then k.val else (s.port p.val).cfg.cto) ∧ OnlyRegs
    [PWR_WAKE_CAUSE] s t ∧ SameMem s t ∧ SameVault s t) ∧
  (∀ (s : State) (p : Fin 4) (r : CfgReg), s.on (HP_LINK__UP p.val) = true → ∃ t, exec (.configurationRequest p (.read r)) s =
    .next t ∧ t.out.length = s.out.length + 1 ∧ (t.port p.val).cfg = (s.port p.val).cfg ∧ OnlyRegs [PWR_WAKE_CAUSE] s t ∧ SameMem
    s t ∧ SameVault s t) ∧
  (∀ (s : State) (p : Fin 4) (r : CfgReq), s.on (HP_LINK__UP p.val) = false → exec (.configurationRequest p r) s = .next s)

/-- Stewardship (R87, R91). A transfer that the steward starts towards a port whose link is up is pending towards it; one that
was pending before, with no commit under way, is abandoned first and marked as failed; towards a port whose link is down it is
refused with code 5, and what was pending stays; without GO nothing happens. The target's acceptance of a pending transfer, and
firmware's own write, queue the commit of the new steward, who is not yet the steward. The end of its time abandons a pending
transfer with no commit under way and marks it as failed, and changes nothing else. -/
def Obligations.StewardshipTransfer : Prop :=
  (∀ (s : State) (p g : Fin 4), s.may (.host p) HP_STEWARD_XFER (BitVec.ofNat 32 (g.val + 256)) = true →
    s.on (HP_LINK__UP g.val) = true → s.on HP_STEWARD__XFER_PENDING = false → ∃ t, exec (.stewardXfer p g true) s = .next t ∧
      t.on HP_STEWARD__XFER_PENDING = true ∧ t.get HP_STEWARD__XFER_TARGET = g.val ∧ t.steward = s.steward ∧
      OnlyRegs [PWR_WAKE_CAUSE, HP_STEWARD] s t ∧ SameMem s t ∧ SameVault s t) ∧
  (∀ (s : State) (p g : Fin 4), s.may (.host p) HP_STEWARD_XFER (BitVec.ofNat 32 (g.val + 256)) = true →
    s.on (HP_LINK__UP g.val) = true → s.on HP_STEWARD__XFER_PENDING = true → s.vqHas 160 = false →
    ∃ t, exec (.stewardXfer p g true) s = .next t ∧ t.on HP_STEWARD__XFER_PENDING = true ∧ t.get HP_STEWARD__XFER_TARGET = g.val ∧
      t.on HP_STEWARD__XFER_FAIL = true ∧ t.steward = s.steward ∧
      OnlyRegsBelow evBase [PWR_WAKE_CAUSE, HP_STEWARD, HP_EVENT] s t ∧ SameMem s t ∧ SameVault s t) ∧
  (∀ (s : State) (p g : Fin 4), s.portTakes p.val = true → (s.port p.val).mse = true → s.accessWaits false HP_STEWARD_XFER = false
    → s.writeReason (.host p) false HP_STEWARD_XFER = 0 → s.on (HP_LINK__UP g.val) = false → s.on (HP_DENY_INFO__VALID p.val) =
    false → ∃ t, exec (.stewardXfer p g true) s = .next t ∧ t.get HP_OWN_STATUS__LAST_REFUSE = 5 ∧ t.rd HP_STEWARD = s.rd
    HP_STEWARD ∧ t.on (HP_DENY_INFO__VALID p.val) = true ∧ t.get (HP_DENY_INFO__COUNT p.val) = 1 ∧ t.rd (HP_DENY_ADDR p.val) =
    BitVec.ofNat 32 HP_STEWARD_XFER ∧ OnlyRegsBelow evBase [PWR_WAKE_CAUSE, HP_EVENT, HP_OWN_STATUS__LAST_REFUSE.addr,
    HP_DENY_INFO p.val, HP_DENY_ADDR p.val] s t ∧ SameMem s t ∧ SameVault s t) ∧
  (∀ (s : State) (p g : Fin 4), s.may (.host p) HP_STEWARD_XFER (BitVec.ofNat 32 g.val) = true → ∃ t, exec (.stewardXfer p g
    false) s = .next t ∧ OnlyRegs [PWR_WAKE_CAUSE] s t ∧ SameMem s t ∧ SameVault s t) ∧
  (∀ (s : State) (p : Fin 4), s.may (.host p) HP_STEWARD_ACCEPT 1 = true → s.on HP_STEWARD__XFER_PENDING = true → s.vqHas 160 =
    false → s.vqFull = false → ∃ t, exec (.stewardAccept p true) s = .next t ∧ t.vq.map (fun c => (c.word, c.value)) = s.vq.map
    (fun c => (c.word, c.value)) ++ [(160, BitVec.ofNat 32 p.val)] ∧ t.steward = s.steward ∧ OnlyRegs [PWR_WAKE_CAUSE, VLT_STATUS]
    s t ∧ SameMem s t ∧ SameVault s t) ∧
  (∀ (s : State) (p : Fin 4), s.may (.host p) HP_STEWARD_ACCEPT 0 = true → ∃ t, exec (.stewardAccept p false) s = .next t ∧
      t.vq = s.vq ∧ OnlyRegs [PWR_WAKE_CAUSE] s t ∧ SameMem s t ∧ SameVault s t) ∧
  (∀ s : State, s.on HP_STEWARD__XFER_PENDING = true → s.vqHas 160 = false → ∃ t, exec .stewardXferTimeout s = .next t ∧
      t.on HP_STEWARD__XFER_PENDING = false ∧ t.on HP_STEWARD__XFER_FAIL = true ∧ t.steward = s.steward ∧
      OnlyRegsBelow evBase [HP_STEWARD, HP_EVENT] s t ∧ SameMem s t ∧ SameVault s t) ∧
  (∀ s : State, s.on HP_STEWARD__XFER_PENDING = false ∨ s.vqHas 160 = true → exec .stewardXferTimeout s = .next s) ∧
  (∀ (s : State) (n : Fin 5) (code : BitVec 4), s.runner = some n → s.may (.firmware n) HP_STEWARD (code.setWidth 32) = true →
    s.vqFull = false → ∃ t, exec (.stewardSetByFirmware code) s = .next t ∧
      t.vq.map (fun c => (c.word, c.value)) = s.vq.map (fun c => (c.word, c.value)) ++ [(160, code.setWidth 32)] ∧
      t.steward = s.steward ∧ SameMem s t ∧ SameVault s t) ∧
  (∀ (s : State) (code : BitVec 4), s.runner = none → exec (.stewardSetByFirmware code) s = .next s)

/-- The ownership table (R89, R90). A write that is accepted, of any register of the table, with a place in the queue and,
where it starts at once, no change of the owner of a context that executes a descriptor, queues the commit of its word and
changes no register yet but the queue's count. One that would start at once and change such an owner is refused with code 3 and
queues nothing. The commit of a word of the table or of the steward that verifies, with nothing behind it, shows the word in
its register, counts the generation and shows it; the commit that fails changes no vault word and leaves the register. With
another commit at the front, or none, nothing changes. -/
def Obligations.OwnershipCommits : Prop :=
  (∀ (s : State) (p : Fin 4) (a : BitVec 20) (w : Nat) (v : Word), s.may (.host p) a.toNat v = true → ownTableAddr a.toNat = true
    → vaultWord a.toNat = some w → s.vqFull = false → (s.vq = [] → (s.ctxChanges
    { word := w, value := v &&& pvMask a.toNat, ctx := none }).all (fun k => (s.ctx k).exec = none) = true) → ∃ t, exec
    (.ownershipWrite p a v) s = .next t ∧ t.vq.map (fun c => (c.word, c.value)) = s.vq.map (fun c => (c.word, c.value)) ++ [(w, v
    &&& pvMask a.toNat)] ∧ OnlyRegs [PWR_WAKE_CAUSE, VLT_STATUS] s t ∧ SameMem s t ∧ SameVault s t) ∧
  (∀ (s : State) (p : Fin 4) (a : BitVec 20) (w k : Nat) (v : Word), s.may (.host p) a.toNat v = true → ownTableAddr a.toNat =
    true → vaultWord a.toNat = some w → s.vq = [] → s.vheld = [] → k ∈ s.ctxChanges
    { word := w, value := v &&& pvMask a.toNat, ctx := none } → (s.ctx k).exec.isSome = true → ∃ t, exec (.ownershipWrite p a v) s
    = .next t ∧ t.vq = [] ∧ t.get HP_OWN_STATUS__LAST_REFUSE = 3 ∧ OnlyRegs [PWR_WAKE_CAUSE, VLT_STATUS,
    HP_OWN_STATUS__LAST_REFUSE.addr] s t ∧ SameMem s t ∧ SameVault s t) ∧
  (∀ (s : State) (c : VCommit) (a : Nat), s.vq = [c] → ownWord c.word = true → vaultAddr c.word = some a → c.cal = false → s.vheld
    = [] → s.sys.held = [] → ∃ t, exec (.ownershipCommit true) s = .next t ∧ t.rd a &&& pvMask a = c.value &&& pvMask a ∧
    t.vaultRd c.word = c.value ∧ t.vaultRd 152 = s.vaultRd 152 + 1 ∧ t.rd HP_OWN_GEN = s.vaultRd 152 + 1 ∧ t.vq = [] ∧ SameMem s
    t) ∧
  (∀ (s : State) (c : VCommit) (a : Nat), s.vq = [c] → ownWord c.word = true → vaultAddr c.word = some a → s.vheld = [] →
    s.sys.held = [] → ∃ t, exec (.ownershipCommit false) s = .next t ∧ t.rd a = s.rd a ∧ t.rd HP_OWN_GEN = s.rd HP_OWN_GEN ∧ t.vq
    = [] ∧ SameMem s t ∧ SameVault s t) ∧
  (∀ (s : State) (ok : Bool), (s.vq.head?.any fun c => ownWord c.word) = false → exec (.ownershipCommit ok) s = .next s)

/-- Host accesses that are not carried out (R62, R77, R79, R85, R92). At a port whose link is down nothing happens. Of a
sleeping device they are held. In D3hot none is carried out. While Memory Space Enable is 0 they are an Unsupported Request. A
long read is a Completer Abort; a long write is refused with reason 6. A write whose checks give a reason of HP_DENY_INFO is
refused with it. A refused write leaves its register, is recorded in the port's denial registers with its reason and address
where none stands there, and is else only counted; one whose checks drop it without a record (R71) changes nothing but
PWR_WAKE_CAUSE. A write of the steward's register 0x48028 by another host is refused with reason 2. -/
def Obligations.AccessesThatAreRefused : Prop :=
  (∀ (s : State) (p : Fin 4) (bar2 wr : Bool) (a : BitVec 20) (be : BitVec 4) (v : Word) (st : Option CoreStore), s.on
    (HP_LINK__UP p.val) = false → exec (.registerWrite (.host p) bar2 a be (v, st)) s = .next s ∧ exec (.longRequest p bar2 a wr) s =
    .next s) ∧
  (∀ (s : State) (p : Fin 4) (bar2 : Bool) (a : BitVec 20) (be : BitVec 4) (v : Word) (st : Option CoreStore), s.on (HP_LINK__UP
    p.val) = true → s.get PWR_STATE__STATE < 2 → ∃ t, exec (.registerWrite (.host p) bar2 a be (v, st)) s = .next t ∧ t.sys.held =
    s.sys.held ++ [(p.val, { bar2 := bar2, addr := a, be := be, value := some v })] ∧ OnlyRegs [PWR_WAKE_CAUSE] s t ∧ SameMem s t
    ∧ SameVault s t) ∧
  (∀ (s : State) (p : Fin 4) (bar2 wr : Bool) (a : BitVec 20), s.on (HP_LINK__UP p.val) = true →
    s.get PWR_STATE__STATE < 2 → ∃ t, exec (.longRequest p bar2 a wr) s = .next t ∧ t.sys.held.length = s.sys.held.length + 1 ∧
      t.out = s.out ∧ OnlyRegs [PWR_WAKE_CAUSE] s t ∧ SameMem s t ∧ SameVault s t) ∧
  (∀ (s : State) (p : Fin 4) (bar2 : Bool) (a : BitVec 20) (be : BitVec 4) (v : Word) (st : Option CoreStore), s.portTakes p.val =
    false → 2 ≤ s.get PWR_STATE__STATE → ∃ t, exec (.registerWrite (.host p) bar2 a be (v, st)) s = .next t ∧ t.out = s.out ∧
    OnlyRegs [PWR_WAKE_CAUSE] s t ∧ SameMem s t ∧ SameVault s t) ∧
  (∀ (s : State) (p : Fin 4) (bar2 wr : Bool) (a : BitVec 20), s.portTakes p.val = false →
    2 ≤ s.get PWR_STATE__STATE → ∃ t, exec (.longRequest p bar2 a wr) s = .next t ∧ t.out = s.out ∧
      OnlyRegs [PWR_WAKE_CAUSE] s t ∧ SameMem s t ∧ SameVault s t) ∧
  (∀ (s : State) (p : Fin 4) (bar2 : Bool) (a : BitVec 20) (be : BitVec 4) (v : Word) (st : Option CoreStore), s.portTakes p.val =
    true → 2 ≤ s.get PWR_STATE__STATE → (s.port p.val).mse = false → ∃ t, exec (.registerWrite (.host p) bar2 a be (v, st)) s = .next
    t ∧ t.out = s.out ++ [.unsupported p.val] ∧ OnlyRegs [PWR_WAKE_CAUSE] s t ∧ SameMem s t ∧ SameVault s t) ∧
  (∀ (s : State) (p : Fin 4) (bar2 wr : Bool) (a : BitVec 20), s.portTakes p.val = true →
    2 ≤ s.get PWR_STATE__STATE → (s.port p.val).mse = false → ∃ t, exec (.longRequest p bar2 a wr) s = .next t ∧
      t.out = s.out ++ [.unsupported p.val] ∧ OnlyRegs [PWR_WAKE_CAUSE] s t ∧ SameMem s t ∧ SameVault s t) ∧
  (∀ (s : State) (p : Fin 4) (bar2 : Bool) (a : BitVec 20), s.portTakes p.val = true → 2 ≤ s.get PWR_STATE__STATE →
    (s.port p.val).mse = true → ∃ t, exec (.longRequest p bar2 a false) s = .next t ∧ t.out = s.out ++ [.abort p.val] ∧
      OnlyRegs [PWR_WAKE_CAUSE] s t ∧ SameMem s t ∧ SameVault s t) ∧
  (∀ (s : State) (p : Fin 4) (bar2 : Bool) (a : BitVec 20), s.portTakes p.val = true → 2 ≤ s.get PWR_STATE__STATE →
    (s.port p.val).mse = true → s.on (HP_DENY_INFO__VALID p.val) = false → ∃ t, exec (.longRequest p bar2 a true) s = .next t ∧
      t.on (HP_DENY_INFO__VALID p.val) = true ∧ t.get (HP_DENY_INFO__REASON p.val) = 6 ∧ t.get (HP_DENY_INFO__COUNT p.val) = 1 ∧
      t.on (HP_DENY_INFO__BAR p.val) = bar2 ∧ t.rd (HP_DENY_ADDR p.val) = a.setWidth 32 ∧
      OnlyRegsBelow evBase [PWR_WAKE_CAUSE, HP_EVENT, HP_DENY_INFO p.val, HP_DENY_ADDR p.val] s t ∧ SameMem s t ∧ SameVault s t) ∧
  (∀ (s : State) (p : Fin 4) (bar2 : Bool) (a : BitVec 20), s.portTakes p.val = true → 2 ≤ s.get PWR_STATE__STATE →
    (s.port p.val).mse = true → s.on (HP_DENY_INFO__VALID p.val) = true → ∃ t, exec (.longRequest p bar2 a true) s = .next t ∧
      t.get (HP_DENY_INFO__COUNT p.val) = min (s.get (HP_DENY_INFO__COUNT p.val) + 1) 65535 ∧
      OnlyRegsBelow evBase [PWR_WAKE_CAUSE, HP_DENY_INFO p.val] s t ∧ SameMem s t ∧ SameVault s t) ∧
  (∀ (s : State) (p : Fin 4) (bar2 : Bool) (a : BitVec 20) (v : Word) (st : Option CoreStore) (k : Nat), s.portTakes p.val = true
    → (s.port p.val).mse = true → s.accessWaits bar2 a.toNat = false → a.toNat % 4 = 0 → s.writeReason (.host p) bar2 a.toNat = k
    → k ≠ 0 → k ≠ quietDrop → s.on (HP_DENY_INFO__VALID p.val) = false → ∃ t, exec (.registerWrite (.host p) bar2 a 0xF (v, st)) s =
    .next t ∧ t.on (HP_DENY_INFO__VALID p.val) = true ∧ t.get (HP_DENY_INFO__REASON p.val) = k ∧ t.rd (HP_DENY_ADDR p.val) =
    a.setWidth 32 ∧ OnlyRegsBelow evBase [PWR_WAKE_CAUSE, HP_EVENT, HP_OWN_STATUS__LAST_REFUSE.addr, HP_DENY_INFO p.val,
    HP_DENY_ADDR p.val] s t ∧ SameMem s t ∧ SameVault s t) ∧
  (∀ (s : State) (p : Fin 4) (bar2 : Bool) (a : BitVec 20) (v : Word) (st : Option CoreStore), s.portTakes p.val = true → (s.port
    p.val).mse = true → s.accessWaits bar2 a.toNat = false → s.writeReason (.host p) bar2 a.toNat = quietDrop → ∃ t, exec
    (.registerWrite (.host p) bar2 a 0xF (v, st)) s = .next t ∧ OnlyRegs [PWR_WAKE_CAUSE] s t ∧ SameMem s t ∧ SameVault s t) ∧
  (∀ (s : State) (p : Fin 4) (v : Word) (st : Option CoreStore), s.portTakes p.val = true → (s.port p.val).mse = true → 2 ≤ s.get
    PWR_STATE__STATE → s.sys.released = true → s.on (HP_CFG__RO_PORT p.val) = false → s.steward ≠ p.val → s.on
    (HP_DENY_INFO__VALID p.val) = false → ∃ t, exec (.registerWrite (.host p) false (BitVec.ofNat 20 0x48028) 0xF (v, st)) s = .next
    t ∧ t.rd 0x48028 = s.rd 0x48028 ∧ t.on (HP_DENY_INFO__VALID p.val) = true ∧ t.get (HP_DENY_INFO__REASON p.val) = 2 ∧ t.rd
    (HP_DENY_ADDR p.val) = 0x48028 ∧ SameMem s t ∧ SameVault s t)

/-- Register writes that go through. A host's write of the axis reference AX_REF1 that is accepted stores the word and changes
no other register but PWR_WAKE_CAUSE; one with a byte enable clear is discarded (R15). An aligned write that a running pair
issues waits in its release buffer, or in its open group, which a write of HP_CTX_LEDGER1 closes, and changes no register; so
does its store to shared SRAM or to host memory; the 64th write of a group, and a store to the staging area, faults in the pair
with cause 7. A write that finds the buffer full ends the window, whose writes go out, and then waits. A write of another
pair's RED_CPn_CTRL ends the window and has no other effect. A write of a pair that does not run, or a register write that is
not of an aligned whole word of BAR0, changes nothing. -/
def Obligations.RegisterWrites : Prop :=
  (∀ (s : State) (p : Fin 4) (a : Fin 8) (v : Word) (st : Option CoreStore), s.may (.host p) (0x10044 + 0x1000 * a.val) v = true →
    ∃ t, exec (.registerWrite (.host p) false (BitVec.ofNat 20 (0x10044 + 0x1000 * a.val)) 0xF (v, st)) s = .next t ∧
      t.rd (0x10044 + 0x1000 * a.val) = v ∧ OnlyRegs [PWR_WAKE_CAUSE, 0x10044 + 0x1000 * a.val] s t ∧ SameMem s t ∧ SameVault s t) ∧
  (∀ (s : State) (p : Fin 4) (bar2 : Bool) (a : BitVec 20) (be : BitVec 4) (v : Word) (st : Option CoreStore), s.portTakes p.val =
    true → (s.port p.val).mse = true → s.accessWaits bar2 a.toNat = false → be ≠ 0xF → ∃ t, exec (.registerWrite (.host p) bar2 a
    be (v, st)) s = .next t ∧ OnlyRegs [PWR_WAKE_CAUSE] s t ∧ SameMem s t ∧ SameVault s t) ∧
  (∀ (s : State) (n : Fin 5) (a : BitVec 20) (v : Word), s.pairRuns n.val = true → a.toNat % 4 = 0 → pairCtrlAddr a.toNat = false
    → (s.cp n.val).kgrp = false → (s.cp n.val).buf.length + (s.cp n.val).grp.length < 64 → ∃ t, exec (.registerWrite (.firmware n)
    false a 0xF (v, none)) s = .next t ∧ (t.cp n.val).buf = (s.cp n.val).buf ++ [.reg a.toNat v] ∧ OnlyRegs [] s t ∧ SameMem s t ∧
    SameVault s t) ∧
  (∀ (s : State) (n : Fin 5) (a : BitVec 20) (v : Word), s.pairRuns n.val = true → a.toNat % 4 = 0 → (s.cp n.val).kgrp = true →
    (s.cp n.val).grp.length < 63 → (s.cp n.val).buf.length + (s.cp n.val).grp.length < 64 → (∀ c : Fin 256, a.toNat ≠
    HP_CTX_LEDGER1 c.val) → pairCtrlAddr a.toNat = false → ∃ t, exec (.registerWrite (.firmware n) false a 0xF (v, none)) s = .next t
    ∧ (t.cp n.val).grp = (s.cp n.val).grp ++ [.reg a.toNat v] ∧ (t.cp n.val).buf = (s.cp n.val).buf ∧ OnlyRegs [] s t ∧ SameMem s
    t ∧ SameVault s t) ∧
  (∀ (s : State) (n : Fin 5) (c : Fin 256) (v : Word), s.pairRuns n.val = true → (s.cp n.val).kgrp = true → (s.cp
    n.val).grp.length < 63 → (s.cp n.val).buf.length + (s.cp n.val).grp.length < 64 → ∃ t, exec (.registerWrite (.firmware n)
    false (BitVec.ofNat 20 (HP_CTX_LEDGER1 c.val)) 0xF (v, none)) s = .next t ∧ (t.cp n.val).kgrp = false ∧ (t.cp n.val).buf = (s.cp
    n.val).buf ++ (s.cp n.val).grp ++ [.reg (HP_CTX_LEDGER1 c.val) v] ∧ (t.cp n.val).grp = [] ∧ OnlyRegs [] s t ∧ SameMem s t ∧
    SameVault s t) ∧
  (∀ (s : State) (n : Fin 5) (a : BitVec 20) (v : Word), s.pairRuns n.val = true → a.toNat % 4 = 0 → pairCtrlAddr a.toNat = false
    → (s.cp n.val).kgrp = true → 63 ≤ (s.cp n.val).grp.length → ∃ t, exec (.registerWrite (.firmware n) false a 0xF (v, none)) s =
    .next t ∧ (t.cp n.val).cause = 7 ∧ (t.cp n.val).grp = (s.cp n.val).grp ∧ OnlyRegs [] s t ∧ SameMem s t ∧ SameVault s t) ∧
  (∀ (s : State) (n : Fin 5) (a : BitVec 20) (v : Word) (x : BitVec 22) (y : Word), s.pairRuns n.val = true → a.toNat % 4 = 0 →
    pairCtrlAddr a.toNat = false → (s.cp n.val).kgrp = false → (s.cp n.val).grp = [] → (s.cp n.val).buf = List.replicate 64 (.sram
    (x.toNat / 4 * 4) 0xF y) → ∃ t, exec (.registerWrite (.firmware n) false a 0xF (v, none)) s = .next t ∧ (t.cp n.val).buf = [.reg
    a.toNat v] ∧ t.sramWord (x.toNat / 4 * 4) = y ∧ (∀ k, k / 4 ≠ x.toNat / 4 → t.sramRd k = s.sramRd k) ∧ SameVault s t) ∧
  (∀ (s : State) (n : Fin 5) (bar2 : Bool) (a : BitVec 20) (be : BitVec 4) (v : Word) (x : BitVec 22), s.pairRuns n.val = true →
    x.toNat < 0x300000 → (s.cp n.val).kgrp = false → (s.cp n.val).buf.length + (s.cp n.val).grp.length < 64 →
    ∃ t, exec (.registerWrite (.firmware n) bar2 a be (v, some (.sram x))) s = .next t ∧
      (t.cp n.val).buf = (s.cp n.val).buf ++ [.sram (x.toNat / 4 * 4) be v] ∧ OnlyRegs [] s t ∧ SameMem s t ∧ SameVault s t) ∧
  (∀ (s : State) (n : Fin 5) (bar2 : Bool) (a : BitVec 20) (be : BitVec 4) (v : Word) (p : Fin 4) (x : BitVec 64), s.pairRuns
    n.val = true → (s.cp n.val).kgrp = false → (s.cp n.val).buf.length + (s.cp n.val).grp.length < 64 → ∃ t, exec (.registerWrite
    (.firmware n) bar2 a be (v, some (.host p x))) s = .next t ∧ (t.cp n.val).buf = (s.cp n.val).buf ++ [.host p.val (x.toNat / 4 *
    4) be v] ∧ t.out = s.out ∧ OnlyRegs [] s t ∧ SameMem s t ∧ SameVault s t) ∧
  (∀ (s : State) (n : Fin 5) (bar2 : Bool) (a : BitVec 20) (be : BitVec 4) (v : Word) (x : BitVec 22), s.pairRuns n.val = true →
    0x300000 ≤ x.toNat → ∃ t, exec (.registerWrite (.firmware n) bar2 a be (v, some (.sram x))) s = .next t ∧ (t.cp n.val).cause = 7 ∧
      (t.cp n.val).buf = (s.cp n.val).buf ∧ (t.cp n.val).grp = (s.cp n.val).grp ∧ OnlyRegs [] s t ∧ SameMem s t ∧ SameVault s t) ∧
  (∀ (s : State) (n : Fin 5) (m : Fin 5) (v : Word), s.pairRuns n.val = true → (s.cp n.val).kgrp = false → (s.cp n.val).buf = [] →
    (s.cp n.val).first = false → m ≠ n → ∃ t, exec (.registerWrite (.firmware n) false (BitVec.ofNat 20 (RED_CP_CTRL m.val)) 0xF
    (v, none)) s = .next t ∧ (t.cp n.val).buf = [] ∧ (t.cp n.val).fed = [] ∧ OnlyRegsBelow evBase [] s t ∧ SameMem s t ∧ SameVault
    s t) ∧
  (∀ (s : State) (n : Fin 5) (bar2 : Bool) (a : BitVec 20) (be : BitVec 4) (v : Word) (st : Option CoreStore), s.pairRuns n.val =
    false → exec (.registerWrite (.firmware n) bar2 a be (v, st)) s = .next s) ∧
  (∀ (s : State) (n : Fin 5) (bar2 : Bool) (a : BitVec 20) (be : BitVec 4) (v : Word), s.pairRuns n.val = false ∨ bar2 = true ∨ be
    ≠ 0xF ∨ a.toNat % 4 ≠ 0 → exec (.registerWrite (.firmware n) bar2 a be (v, none)) s = .next s)

/-- Descriptor rings (R99, R102, R105, R107, R109, R110, R112, R122, R123). A doorbell that reaches its page moves TAIL to its
value modulo the ring's size and leaves HEAD; where that would take back the descriptor in hand, TAIL stays and DB_BACK is set.
What the read of a descriptor answers makes an idle context ready where the ownership bit is set, else the context waits with
WAIT_OWN; a failed read stops it with FETCH_ERR; an answer that finds the context not idle is dropped, and with no read under
way nothing happens. A start slot serves the context whose visit is open while its deficit covers its descriptor; the visit
over, it gives the next backlogged context its weight. The context served starts its descriptor: the ledger entry is opened
with 0 steps, the cost is taken from the deficit, and a start check that fails decides the end by its code and detail. A slot
starts nothing where no context is backlogged, or the command path's clock stands. RING_SATURATED latches an overload of a ring
above its mark with SAT_TIME set, once; of another ring it changes nothing. -/
def Obligations.DescriptorRings : Prop :=
  (∀ (s : State) (p : Fin 4) (c : Fin 256) (v : Word) (d : Nat), s.mayPage p (0x1000 * c.val) = true → d = v.toNat % 4096 %
    s.ctxSize c.val → (d + s.ctxSize c.val - s.ctxHead c.val % s.ctxSize c.val) % s.ctxSize c.val ≠ 0 ∨ (s.ctx c.val).exec = none ∧
    (s.ctx c.val).known = none ∧ (s.ctx c.val).reading = false → ∃ t, exec (.dbTailWrite p c v) s = .next t ∧ t.get
    (HP_CTX_STATE__TAIL c.val) = d ∧ t.ctxHead c.val = s.ctxHead c.val ∧ OnlyRegsBelow evBase [PWR_WAKE_CAUSE, HP_CTX_STATE c.val,
    0x8018 + 0x40 * c.val] s t ∧ SameMem s t ∧ SameVault s t) ∧
  (∀ (s : State) (p : Fin 4) (c : Fin 256) (v : Word), s.mayPage p (0x1000 * c.val) = true → (v.toNat % 4096 % s.ctxSize c.val +
    s.ctxSize c.val - s.ctxHead c.val % s.ctxSize c.val) % s.ctxSize c.val = 0 → (s.ctx c.val).exec ≠ none ∨ (s.ctx c.val).known ≠
    none ∨ (s.ctx c.val).reading = true → ∃ t, exec (.dbTailWrite p c v) s = .next t ∧ t.on (HP_CTX_EVENT__DB_BACK c.val) = true ∧
    OnlyRegsBelow evBase [PWR_WAKE_CAUSE, 0x8018 + 0x40 * c.val] s t ∧ SameMem s t ∧ SameVault s t) ∧
  (∀ (s : State) (c : Fin 256) (l : Vector Word 8), (s.ctx c.val).reading = true → s.ctxPhase c.val = 1 → fieldGet (dword l.toList
    0) 31 1 = 1 → ∃ t, exec (.descriptorReadDone c (some l)) s = .next t ∧ t.ctxPhase c.val = 2 ∧ (t.ctx c.val).known = some
    l.toList ∧ OnlyRegs [HP_CTX_STATE c.val] s t ∧ SameMem s t ∧ SameVault s t) ∧
  (∀ (s : State) (c : Fin 256) (l : Vector Word 8), (s.ctx c.val).reading = true → s.ctxPhase c.val = 1 → fieldGet (dword l.toList
    0) 31 1 = 0 → ∃ t, exec (.descriptorReadDone c (some l)) s = .next t ∧ t.ctxPhase c.val = 5 ∧ t.on (HP_CTX_EVENT__WAIT_OWN
    c.val) = true ∧ OnlyRegsBelow evBase [HP_CTX_STATE c.val, 0x8018 + 0x40 * c.val] s t ∧ SameMem s t ∧ SameVault s t) ∧
  (∀ (s : State) (c : Fin 256), (s.ctx c.val).reading = true → s.ctxPhase c.val = 1 → ∃ t, exec (.descriptorReadDone c none) s =
    .next t ∧ t.ctxPhase c.val = 7 ∧ t.on (HP_CTX_EVENT__FETCH_ERR c.val) = true ∧ t.on (HP_CTX_EVENT__STOPPED c.val) = true ∧
    OnlyRegsBelow evBase [HP_CTX_STATE c.val, 0x8018 + 0x40 * c.val] s t ∧ SameMem s t ∧ SameVault s t) ∧
  (∀ (s : State) (c : Fin 256) (r : Option (Vector Word 8)), (s.ctx c.val).reading = true → s.ctxPhase c.val ≠ 1 → ∃ t, exec
    (.descriptorReadDone c r) s = .next t ∧ (t.ctx c.val).reading = false ∧ (t.ctx c.val).known = (s.ctx c.val).known ∧ OnlyRegs []
    s t ∧ SameMem s t ∧ SameVault s t) ∧
  (∀ (s : State) (c : Fin 256) (r : Option (Vector Word 8)), (s.ctx c.val).reading = false → exec (.descriptorReadDone c r) s =
    .next s) ∧
  (∀ (s : State) (c : Fin 256) (l : List Word), s.coreClk = true → s.backlogged c.val = true → s.sys.drr = c.val → s.sys.drrOpen =
    true → (s.ctx c.val).known = some l → s.nextCost c.val ≤ (s.ctx c.val).deficit → s.startCheck (s.ctxOwner c.val) l = none → ∃
    t, exec .descriptorStart s = .next t ∧ t.ctxPhase c.val = 3 ∧ (t.ctx c.val).known = none ∧ (t.ctx c.val).exec.map (fun e =>
    (e.words, e.idx, e.done)) = some (l, s.ctxHead c.val, none) ∧ (t.ctx c.val).deficit = (s.ctx c.val).deficit - s.nextCost c.val
    ∧ t.get (HP_CTX_LEDGER0__INDEX c.val) = s.ctxHead c.val ∧ t.get (HP_CTX_LEDGER0__OPCODE c.val) = opOf (dword l 0) ∧ t.on
    (HP_CTX_LEDGER0__VALID c.val) = true ∧ t.on (HP_CTX_LEDGER0__DONE c.val) = false ∧ t.get (HP_CTX_LEDGER1__STEPS c.val) = 0 ∧
    OnlyRegsBelow evBase [HP_CTX_STATE c.val, HP_CTX_LEDGER0 c.val, HP_CTX_LEDGER1 c.val, PM_STATUS] s t ∧ SameMem s t ∧ SameVault
    s t) ∧
  (∀ (s : State) (c : Fin 256) (l : List Word) (code detail : Nat) (rec : Bool), s.coreClk = true → s.backlogged c.val = true →
    s.sys.drr = c.val → s.sys.drrOpen = true → (s.ctx c.val).known = some l → s.nextCost c.val ≤ (s.ctx c.val).deficit →
    s.startCheck (s.ctxOwner c.val) l = some (code, detail, rec) → ∃ t, exec .descriptorStart s = .next t ∧ (t.ctx c.val).exec.bind
    (·.done) = some (code, detail) ∧ t.get (HP_CTX_LEDGER1__STEPS c.val) = 0 ∧ t.on (HP_CTX_LEDGER0__VALID c.val) = true ∧
    OnlyRegsBelow evBase [HP_CTX_STATE c.val, HP_CTX_LEDGER0 c.val, HP_CTX_LEDGER1 c.val, HP_DENY_ADDR (s.ctxOwner c.val),
    (HP_DENY_INFO__VALID (s.ctxOwner c.val)).addr, HP_EVENT] s t ∧ SameMem s t ∧ SameVault s t) ∧
  (∀ (s : State) (c : Fin 256) (l : List Word), s.coreClk = true → s.sys.drrOpen = true → s.sys.drr < 256 → s.backlogged s.sys.drr
    = false ∨ (s.ctx s.sys.drr).deficit < s.nextCost s.sys.drr → s.backlogged c.val = true → (∀ b : Fin 256, s.backlogged b.val =
    true → b ≠ c → (c.val + 255 - s.sys.drr) % 256 < (b.val + 255 - s.sys.drr) % 256) → (s.ctx c.val).known = some l → s.nextCost
    c.val ≤ (s.ctx c.val).deficit + s.get (HP_CTX_CFG__WEIGHT_M1 c.val) + 1 → ∃ t, exec .descriptorStart s = .next t ∧ t.sys.drr =
    c.val ∧ t.ctxPhase c.val = 3 ∧ (t.ctx c.val).exec.map (·.words) = some l ∧ (t.ctx c.val).deficit = (s.ctx c.val).deficit +
    s.get (HP_CTX_CFG__WEIGHT_M1 c.val) + 1 - s.nextCost c.val ∧ SameMem s t ∧ SameVault s t) ∧
  (∀ s : State, s.coreClk = true → (∀ c : Fin 256, s.backlogged c.val = false) → ∃ t, exec .descriptorStart s = .next t ∧ (∀ c :
    Fin 256, (t.ctx c.val).exec = (s.ctx c.val).exec) ∧ OnlyRegsBelow evBase [] s t ∧ SameMem s t ∧ SameVault s t) ∧
  (∀ s : State, s.coreClk = false → exec .descriptorStart s = .next s) ∧
  (∀ (s : State) (c : Fin 256), (s.ctx c.val).above = true → s.get (HP_CTX_SAT__SAT_TIME c.val) ≠ 0 → s.on (HP_CTX_STATE__SATURATED
    c.val) = false → ∃ t, exec (.ringSaturated c) s = .next t ∧ t.on (HP_CTX_STATE__SATURATED c.val) = true ∧ t.on
    (HP_CTX_EVENT__SAT c.val) = true ∧ t.ctxPhase c.val = s.ctxPhase c.val ∧ OnlyRegsBelow evBase [HP_CTX_STATE c.val, 0x8018 +
    0x40 * c.val] s t ∧ SameMem s t ∧ SameVault s t) ∧
  (∀ (s : State) (c : Fin 256), (s.ctx c.val).above = false ∨ s.get (HP_CTX_SAT__SAT_TIME c.val) = 0 ∨ s.on
    (HP_CTX_STATE__SATURATED c.val) = true → exec (.ringSaturated c) s = .next s)

/-- Stops, the end of a descriptor, flushes, and the start over (R115, R116, R119, R120). STOP of an enabled context that has
not stopped puts it into its drain with cause 1, and of one that is stopping or has stopped changes nothing; RESUME makes an
enabled context that has stopped idle, and any other stays; INIT, of a context that is off or has stopped with no descriptor in
execution, clears the indices, the ledger and the deficit, and leaves any other. CTX_STOPPED ends a stop: at once where no
descriptor is in execution; else the descriptor first ends, where it ends now; while a committed step is awaited, nothing
happens. With no further step coming, it ends INTERRUPTED with code 6 and the stop's cause. DESCRIPTOR_COMPLETE of a descriptor
whose end is decided and does not interrupt it leaves code and detail in the ledger, sets DONE, counts SEQ, and moves HEAD on;
with no end decided and no stop asked for it changes nothing. A flush that ends commits its step: SNAPSHOT then ends with code
0 (7 where its axis entered SAFE), PM_READ takes its entries from the queue and ends with its last, FW_CALL goes on; a flush
that fails ends the descriptor with code 5; with none outstanding nothing happens. -/
def Obligations.ContextControl : Prop :=
  (∀ (s : State) (w : Writer) (c : Fin 256), s.get (HP_CTX_CTRL__EN c.val) = 1 → s.may w (HP_CTX_CTRL c.val) 3 = true → s.ctxPhase
    c.val ≠ 7 → (s.ctx c.val).stop = 0 → ∃ t, exec (.ctxStop w c) s = .next t ∧ t.ctxPhase c.val = 6 ∧ (t.ctx c.val).stop = 1 ∧
    OnlyRegs [PWR_WAKE_CAUSE, HP_CTX_STATE c.val] s t ∧ SameMem s t ∧ SameVault s t) ∧
  (∀ (s : State) (w : Writer) (c : Fin 256), s.get (HP_CTX_CTRL__EN c.val) = 1 → s.may w (HP_CTX_CTRL c.val) 3 = true → s.ctxPhase
    c.val = 7 ∨ s.ctxPhase c.val = 6 ∧ (s.ctx c.val).stop ≠ 0 → ∃ t, exec (.ctxStop w c) s = .next t ∧ (t.ctx c.val).stop = (s.ctx
    c.val).stop ∧ OnlyRegs [PWR_WAKE_CAUSE] s t ∧ SameMem s t ∧ SameVault s t) ∧
  (∀ (s : State) (c : Fin 256), (s.ctx c.val).stop ≠ 0 → (s.ctx c.val).exec = none → s.coreClk = true → ∃ t, exec (.ctxStopped c) s
    = .next t ∧ t.ctxPhase c.val = 7 ∧ (t.ctx c.val).stop = 0 ∧ t.on (HP_CTX_EVENT__STOPPED c.val) = true ∧ OnlyRegsBelow evBase
    [HP_CTX_STATE c.val, 0x8018 + 0x40 * c.val] s t ∧ SameMem s t ∧ SameVault s t) ∧
  (∀ (s : State) (c : Fin 256) (e : ExecS) (code detail : Nat) (ends : Bool), (s.ctx c.val).stop ≠ 0 → (s.ctx c.val).exec = some e
    → s.coreClk = true → s.descOutcome c.val e = some (code, detail, ends) → s.get (HP_CTX_CFG__SIZE_LOG2 c.val) ≤ 12 → ∃ t, exec
    (.ctxStopped c) s = .next t ∧ t.ctxPhase c.val = 7 ∧ (t.ctx c.val).stop = 0 ∧ (t.ctx c.val).exec = none ∧ t.on
    (HP_CTX_EVENT__STOPPED c.val) = true ∧ t.get (HP_CTX_LEDGER2__CODE c.val) = code % 256 ∧ t.get (HP_CTX_LEDGER2__DETAIL c.val) =
    detail % 256 ∧ t.on (if ends then HP_CTX_LEDGER0__DONE c.val else HP_CTX_LEDGER0__INTERRUPTED c.val) = true ∧ t.ctxHead c.val =
    (s.ctxHead c.val + 1) % s.ctxSize c.val ∧ (s.red.svcCtx ≠ some c.val → OnlyRegsBelow evBase [HP_CTX_STATE c.val, HP_CTX_LEDGER0
    c.val, HP_CTX_LEDGER2 c.val, HP_CTX_LEDGER3 c.val, 0x8018 + 0x40 * c.val, AX_STATUS (unitOf (dword e.words 0)), PM_STATUS,
    VLT_STG_STAT__BUSY.addr] s t) ∧ SameMem s t ∧ SameVault s t) ∧
  (∀ (s : State) (c : Fin 256) (e : ExecS), (s.ctx c.val).exec = some e → s.descOutcome c.val e = none → exec (.ctxStopped c) s =
    .next s) ∧
  (∀ (s : State) (c : Fin 256), (s.ctx c.val).stop = 0 ∨ s.coreClk = false → exec (.ctxStopped c) s = .next s) ∧
  (∀ (s : State) (c : Nat) (e : ExecS), (s.ctx c).stop ≠ 0 → e.done = none → e.flush = 0 → (∀ v ∈ s.vq, v.ctx ≠ some c) →
    s.stepComing c e = false ∨ (s.ctx c).stopAt < s.get (HP_CTX_LEDGER1__STEPS c) → s.descOutcome c e = some (6, (s.ctx c).stop,
    false)) ∧
  (∀ (s : State) (w : Writer) (c : Fin 256), s.get (HP_CTX_CTRL__EN c.val) = 1 → s.may w (HP_CTX_CTRL c.val) 5 = true → s.ctxPhase
    c.val = 7 → ∃ t, exec (.ctxResume w c) s = .next t ∧ t.ctxPhase c.val = 1 ∧ OnlyRegs [PWR_WAKE_CAUSE, HP_CTX_STATE c.val] s t ∧
    SameMem s t ∧ SameVault s t) ∧
  (∀ (s : State) (w : Writer) (c : Fin 256), s.get (HP_CTX_CTRL__EN c.val) = 1 → s.may w (HP_CTX_CTRL c.val) 5 = true → s.ctxPhase
    c.val ≠ 7 → ∃ t, exec (.ctxResume w c) s = .next t ∧ OnlyRegs [PWR_WAKE_CAUSE] s t ∧ SameMem s t ∧ SameVault s t) ∧
  (∀ (s : State) (w : Writer) (c : Fin 256), s.may w (HP_CTX_CTRL c.val) (BitVec.ofNat 32 (s.get (HP_CTX_CTRL__EN c.val) + 8)) =
    true → s.ctxPhase c.val = 0 ∨ s.ctxPhase c.val = 7 → (s.ctx c.val).exec = none → ∃ t, exec (.ctxInit w c) s = .next t ∧
    t.ctxHead c.val = 0 ∧ t.get (HP_CTX_STATE__TAIL c.val) = 0 ∧ t.rd (HP_CTX_LEDGER0 c.val) = 0 ∧ t.rd (HP_CTX_LEDGER1 c.val) = 0
    ∧ t.rd (HP_CTX_LEDGER2 c.val) = 0 ∧ t.rd (HP_CTX_LEDGER3 c.val) = 0 ∧ (t.ctx c.val).deficit = 0 ∧ t.ctxPhase c.val = s.ctxPhase
    c.val ∧ OnlyRegsBelow evBase [PWR_WAKE_CAUSE, HP_CTX_STATE c.val, 0x8018 + 0x40 * c.val, HP_CTX_LEDGER0 c.val, HP_CTX_LEDGER1
    c.val, HP_CTX_LEDGER2 c.val, HP_CTX_LEDGER3 c.val] s t ∧ SameMem s t ∧ SameVault s t) ∧
  (∀ (s : State) (w : Writer) (c : Fin 256), s.may w (HP_CTX_CTRL c.val) (BitVec.ofNat 32 (s.get (HP_CTX_CTRL__EN c.val) + 8)) =
    true → s.ctxPhase c.val ≠ 0 ∧ s.ctxPhase c.val ≠ 7 ∨ (s.ctx c.val).exec ≠ none → ∃ t, exec (.ctxInit w c) s = .next t ∧
    OnlyRegs [PWR_WAKE_CAUSE] s t ∧ SameMem s t ∧ SameVault s t) ∧
  (∀ (s : State) (c : Fin 256) (e : ExecS) (code detail : Nat), s.coreClk = true → (s.ctx c.val).exec = some e → e.done = some
    (code, detail) → code ≠ 6 → code ≠ 5 ∨ (s.ctx c.val).stop ≠ 3 → s.get (HP_CTX_CFG__SIZE_LOG2 c.val) ≤ 12 → ∃ t, exec
    (.descriptorComplete c) s = .next t ∧ (t.ctx c.val).exec = none ∧ t.get (HP_CTX_LEDGER2__CODE c.val) = code % 256 ∧ t.get
    (HP_CTX_LEDGER2__DETAIL c.val) = detail % 256 ∧ t.on (HP_CTX_LEDGER0__DONE c.val) = true ∧ t.rd (HP_CTX_LEDGER3 c.val) = s.rd
    (HP_CTX_LEDGER3 c.val) + 1 ∧ t.ctxHead c.val = (s.ctxHead c.val + 1) % s.ctxSize c.val ∧ (s.red.svcCtx ≠ some c.val →
    OnlyRegsBelow evBase [HP_CTX_STATE c.val, HP_CTX_LEDGER0 c.val, HP_CTX_LEDGER2 c.val, HP_CTX_LEDGER3 c.val, 0x8018 + 0x40 *
    c.val, AX_STATUS (unitOf (dword e.words 0)), PM_STATUS, VLT_STG_STAT__BUSY.addr] s t) ∧ SameMem s t ∧ SameVault s t) ∧
  (∀ (s : State) (c : Fin 256), (s.ctx c.val).stop = 0 → (s.ctx c.val).exec.bind (·.done) = none → exec (.descriptorComplete c) s =
    .next s) ∧
  (∀ (s : State) (c : Fin 256) (e : ExecS), (s.ctx c.val).exec = some e → e.flush ≠ 0 → e.done = none → opOf (dword e.words 0) =
    0x30 → ∃ t, exec (.hostFlushDone c true) s = .next t ∧ (t.ctx c.val).exec.bind (·.done) = some (if e.phase = 9 then 7 else 0,
    0) ∧ t.get (HP_CTX_LEDGER1__STEPS c.val) = (s.get (HP_CTX_LEDGER1__STEPS c.val) + 1) % 2 ^ 24 ∧ OnlyRegsBelow evBase
    [HP_CTX_LEDGER1 c.val] s t ∧ SameMem s t ∧ SameVault s t) ∧
  (∀ (s : State) (c : Fin 256) (e : ExecS), (s.ctx c.val).exec = some e → e.flush ≠ 0 → e.done = none → opOf (dword e.words 0) =
    0x31 → s.get (HP_CTX_LEDGER1__STEPS c.val) + e.flush < 2 ^ 24 → ∃ t, exec (.hostFlushDone c true) s = .next t ∧ t.pm.q =
    s.pm.q.drop e.flush ∧ t.get (HP_CTX_LEDGER1__STEPS c.val) = s.get (HP_CTX_LEDGER1__STEPS c.val) + e.flush ∧ (t.ctx
    c.val).exec.map (fun e => (e.flush, e.done)) = some (0, if (dword e.words 1).toNat ≤ s.get (HP_CTX_LEDGER1__STEPS c.val) +
    e.flush then some (0, 0) else none) ∧ OnlyRegsBelow evBase [HP_CTX_LEDGER1 c.val, PM_STATUS] s t ∧ SameMem s t ∧ SameVault s t) ∧
  (∀ (s : State) (c : Fin 256) (e : ExecS), (s.ctx c.val).exec = some e → e.flush ≠ 0 → e.done = none → opOf (dword e.words 0) =
    0x71 → ∃ t, exec (.hostFlushDone c true) s = .next t ∧ (t.ctx c.val).exec.map (fun e => (e.flush, e.done)) = some (0, none) ∧
    t.get (HP_CTX_LEDGER1__STEPS c.val) = (s.get (HP_CTX_LEDGER1__STEPS c.val) + 1) % 2 ^ 24 ∧ OnlyRegsBelow evBase [HP_CTX_LEDGER1
    c.val] s t ∧ SameMem s t ∧ SameVault s t) ∧
  (∀ (s : State) (c : Fin 256) (e : ExecS), (s.ctx c.val).exec = some e → e.flush ≠ 0 → e.done = none → ∃ t, exec (.hostFlushDone c
    false) s = .next t ∧ (t.ctx c.val).exec.bind (·.done) = some (5, 0) ∧ OnlyRegs [] s t ∧ SameMem s t ∧ SameVault s t) ∧
  (∀ (s : State) (c : Fin 256) (e : ExecS) (ok : Bool), (s.ctx c.val).exec = some e → e.flush = 0 ∨ e.done ≠ none → exec
    (.hostFlushDone c ok) s = .next s)

/-- The opcodes of one or two steps (R112, R113, R118, R157, R161, R61, R416), on a descriptor in execution. NOP and EVENT_MARK
commit their step and end with code 0. SETPOINT writes its axis's setpoint, commits its step and ends with code 0, or 7 where
the axis entered SAFE; while SS1 locks the setpoint it ends with code 9 and writes nothing. A live setpoint mirror writes the
setpoint too where SS1 does not lock it. AXIS_STATE makes the request of its target: the state the axis is in ends it with code
0 and two steps; a reserved state, OFF in device-SAFE, or a request or close in progress, refuses it with LAST_REQ 1, 1 or 7,
and it ends with code 4 and the axis's state; HOLD asked of an axis in RUN is accepted, its first step commits, and it waits.
POWER_REQ, FW_CALL and SERVICE are taken by the pair that holds the command role, and by none they do not move: POWER_REQ
commits its step; firmware sets RSAFE at the start of FW_CALL, commits its steps, of which one that writes host memory waits for
its flush and fails once the host is lost, and ends it with its code, detail and result; SERVICE starts its action where none
runs, and one whose operands name no such action ends with code 3. -/
def Obligations.ShortOpcodes : Prop :=
  (∀ (s : State) (c : Fin 256) (e : ExecS), s.running c.val 0x00 = some e → ∃ t, exec (.opNop c) s = .next t ∧ (t.ctx
    c.val).exec.bind (·.done) = some (0, 0) ∧ t.get (HP_CTX_LEDGER1__STEPS c.val) = (s.get (HP_CTX_LEDGER1__STEPS c.val) + 1) % 2 ^
    24 ∧ OnlyRegsBelow evBase [HP_CTX_LEDGER1 c.val] s t ∧ SameMem s t ∧ SameVault s t) ∧
  (∀ (s : State) (c : Fin 256) (e : ExecS), s.running c.val 0x60 = some e → ∃ t, exec (.opEventMark c) s = .next t ∧ (t.ctx
    c.val).exec.bind (·.done) = some (0, 0) ∧ t.get (HP_CTX_LEDGER1__STEPS c.val) = (s.get (HP_CTX_LEDGER1__STEPS c.val) + 1) % 2 ^
    24 ∧ OnlyRegsBelow evBase [HP_CTX_LEDGER1 c.val] s t ∧ SameMem s t ∧ SameVault s t) ∧
  (∀ (s : State) (c : Fin 256) (e : ExecS) (a : Fin 8), s.running c.val 0x10 = some e → unitOf (dword e.words 0) = a.val →
    s.ss1Locks a.val = false → ∃ t, exec (.opSetpoint c) s = .next t ∧ t.rd (AX_SETPOINT a.val) = dword e.words 1 ∧ (t.ctx
    c.val).exec.bind (·.done) = some (if e.phase = 9 then 7 else 0, 0) ∧ t.get (HP_CTX_LEDGER1__STEPS c.val) = (s.get
    (HP_CTX_LEDGER1__STEPS c.val) + 1) % 2 ^ 24 ∧ OnlyRegsBelow evBase [HP_CTX_LEDGER1 c.val, AX_SETPOINT a.val] s t ∧ SameMem s t
    ∧ SameVault s t) ∧
  (∀ (s : State) (c : Fin 256) (e : ExecS), s.running c.val 0x10 = some e → s.ss1Locks (unitOf (dword e.words 0)) =
    true → ∃ t, exec (.opSetpoint c) s = .next t ∧ (t.ctx c.val).exec.bind (·.done) = some (9, 0) ∧ OnlyRegs [] s t ∧ SameMem s t ∧
    SameVault s t) ∧
  (∀ (s : State) (p : Fin 4) (c : Fin 256) (a : Fin 8) (v : Word), s.mayPage p (0x1000 * c.val + 0x800 + 4 * a.val) = true →
    s.ss1Locks a.val = false → ∃ t, exec (.setpointMirrorWrite p c a v) s = .next t ∧ t.rd (AX_SETPOINT a.val) = v ∧
    OnlyRegs [PWR_WAKE_CAUSE, AX_SETPOINT a.val] s t ∧ SameMem s t ∧ SameVault s t) ∧
  (∀ (s : State) (c : Fin 256) (e : ExecS) (a : Fin 8), s.running c.val 0x11 = some e → e.phase = 0 → unitOf (dword e.words 0) =
    a.val → (s.ax a.val).req = none → s.on (AX_STATE__CLOSING a.val) = false → s.axState a.val < 6 → s.axState a.val ≠ 0 ∨ s.on
    RED_STATUS__DSAFE = false → fieldGet (dword e.words 1) 0 4 = s.axState a.val → ∃ t, exec (.opAxisState c) s = .next t ∧ t.get
    (AX_STATE__LAST_REQ a.val) = 0 ∧ t.axState a.val = s.axState a.val ∧ (t.ctx c.val).exec.bind (·.done) = some (0, 0) ∧ t.get
    (HP_CTX_LEDGER1__STEPS c.val) = (s.get (HP_CTX_LEDGER1__STEPS c.val) + 2) % 2 ^ 24 ∧ OnlyRegsBelow evBase [HP_CTX_LEDGER1
    c.val, AX_STATE a.val] s t ∧ SameMem s t ∧ SameVault s t) ∧
  (∀ (s : State) (c : Fin 256) (e : ExecS) (a : Fin 8), s.running c.val 0x11 = some e → e.phase = 0 → unitOf (dword e.words 0) =
    a.val → 6 ≤ fieldGet (dword e.words 1) 0 4 → ∃ t, exec (.opAxisState c) s = .next t ∧ t.get (AX_STATE__LAST_REQ a.val) = 1 ∧
    (t.ctx c.val).exec.bind (·.done) = some (4, s.axState a.val) ∧ OnlyRegs [AX_STATE a.val] s t ∧ SameMem s t ∧ SameVault s t) ∧
  (∀ (s : State) (c : Fin 256) (e : ExecS) (a : Fin 8), s.running c.val 0x11 = some e → e.phase = 0 → unitOf (dword e.words 0) =
    a.val → fieldGet (dword e.words 1) 0 4 < 6 → s.axState a.val ≠ 0 ∨ s.on RED_STATUS__DSAFE = false → (s.ax a.val).req ≠ none ∨
    s.on (AX_STATE__CLOSING a.val) = true → ∃ t, exec
    (.opAxisState c) s = .next t ∧ t.get (AX_STATE__LAST_REQ a.val) = 7 ∧ (t.ctx c.val).exec.bind (·.done) = some (4, s.axState
    a.val) ∧ OnlyRegs [AX_STATE a.val] s t ∧ SameMem s t ∧ SameVault s t) ∧
  (∀ (s : State) (c : Fin 256) (e : ExecS) (a : Fin 8), s.running c.val 0x11 = some e → e.phase = 0 → unitOf (dword e.words 0) =
    a.val → s.axState a.val = 0 → s.on RED_STATUS__DSAFE = true → ∃ t, exec (.opAxisState c) s = .next t ∧ t.get
    (AX_STATE__LAST_REQ a.val) = 1 ∧ (t.ctx c.val).exec.bind (·.done) = some (4, 0) ∧ OnlyRegs [AX_STATE a.val] s t ∧ SameMem s t ∧
    SameVault s t) ∧
  (∀ (s : State) (c : Fin 256) (e : ExecS) (a : Fin 8), s.running c.val 0x11 = some e → e.phase = 0 → unitOf (dword e.words 0) =
    a.val → fieldGet (dword e.words 1) 0 4 = 4 → s.axState a.val = 3 → (s.ax a.val).req = none → s.on (AX_STATE__CLOSING a.val) =
    false → (s.tm a.val).recov = 0 → s.on (SAF_AX_STAT__SS1 a.val) = false → ∃ t, exec (.opAxisState c) s = .next t ∧ t.get
    (AX_STATE__LAST_REQ a.val) = 0 ∧ (t.ax a.val).req = some { target := 4, ctx := some c.val } ∧ (t.ctx c.val).exec.map (fun e =>
    (e.phase, e.done)) = some (1, none) ∧ t.get (HP_CTX_LEDGER1__STEPS c.val) = (s.get (HP_CTX_LEDGER1__STEPS c.val) + 1) % 2 ^ 24
    ∧ OnlyRegsBelow evBase [HP_CTX_LEDGER1 c.val, AX_STATE a.val] s t ∧ SameMem s t ∧ SameVault s t) ∧
  (∀ (s : State) (c : Fin 256) (e : ExecS), s.running c.val 0x70 = some e → e.phase = 0 → s.commandPair = true → ∃ t, exec
    (.opPowerReq c) s = .next t ∧ (t.ctx c.val).exec.map (·.phase) = some 1 ∧ t.get (HP_CTX_LEDGER1__STEPS c.val) = (s.get
    (HP_CTX_LEDGER1__STEPS c.val) + 1) % 2 ^ 24 ∧ OnlyRegsBelow evBase [HP_CTX_LEDGER1 c.val] s t ∧ SameMem s t ∧ SameVault s t) ∧
  (∀ (s : State) (c : Fin 256) (e : ExecS) (rsafe : Bool), s.running c.val 0x71 = some e → s.commandPair = true → e.phase = 0 → ∃
    t, exec (.opFwCall c (.start rsafe)) s = .next t ∧ t.on (HP_CTX_LEDGER0__RSAFE c.val) = rsafe ∧ (t.ctx c.val).exec.map
    (·.phase) = some 1 ∧ OnlyRegs [HP_CTX_LEDGER0 c.val] s t ∧ SameMem s t ∧ SameVault s t) ∧
  (∀ (s : State) (c : Fin 256) (e : ExecS), s.running c.val 0x71 = some e → s.commandPair = true → e.phase ≠ 0 → e.flush = 0 → ∃ t,
    exec (.opFwCall c (.commit false)) s = .next t ∧ (t.ctx c.val).exec = some e ∧ t.get (HP_CTX_LEDGER1__STEPS c.val) = (s.get
    (HP_CTX_LEDGER1__STEPS c.val) + 1) % 2 ^ 24 ∧ OnlyRegsBelow evBase [HP_CTX_LEDGER1 c.val] s t ∧ SameMem s t ∧ SameVault s t) ∧
  (∀ (s : State) (c : Fin 256) (e : ExecS), s.running c.val 0x71 = some e → s.commandPair = true → e.phase ≠ 0 → e.flush = 0 →
    (s.ctx c.val).stop ≠ 3 → s.readGo e.port = true → ∃ t, exec (.opFwCall c (.commit true)) s = .next t ∧ t.out = s.out ++ [.flush
    e.port] ∧ (t.ctx c.val).exec.map (·.flush) = some 1 ∧ OnlyRegs [] s t ∧ SameMem s t ∧ SameVault s t) ∧
  (∀ (s : State) (c : Fin 256) (e : ExecS), s.running c.val 0x71 = some e → s.commandPair = true → e.phase ≠ 0 → e.flush = 0 →
    (s.ctx c.val).stop = 3 → ∃ t, exec (.opFwCall c (.commit true)) s = .next t ∧ (t.ctx c.val).exec.bind (·.done) = some (5, 0) ∧
    t.out = s.out ∧ OnlyRegs [] s t ∧ SameMem s t ∧ SameVault s t) ∧
  (∀ (s : State) (c : Fin 256) (e : ExecS), (s.ctx c.val).exec = some e → (s.ctx c.val).stop ≠ 3 → s.readGo e.port = false → exec
    (.opFwCall c (.commit true)) s = .next s) ∧
  (∀ (s : State) (c : Fin 256) (e : ExecS) (code detail : BitVec 8) (result : Word), s.running c.val 0x71 = some e → s.commandPair
    = true → e.flush = 0 → ∃ t, exec (.opFwCall c (.finish code detail result)) s = .next t ∧ (t.ctx c.val).exec.map (fun e =>
    (e.done, e.result)) = some (some (code.toNat, detail.toNat), result) ∧ OnlyRegs [] s t ∧ SameMem s t ∧ SameVault s t) ∧
  (∀ (s : State) (c : Fin 256) (e : ExecS), s.running c.val 0x72 = some e → e.phase = 0 → s.commandPair = true → s.on
    RED_SVC_STAT__BUSY = false → svcOk (fieldGet (dword e.words 1) 0 8) (fieldGet (dword e.words 2) 0 4) (fieldGet (dword e.words
    3) 0 16) = true → ∃ t, exec (.opService c) s = .next t ∧ t.on RED_SVC_STAT__BUSY = true ∧ t.get RED_SVC_STAT__STEPS = 0 ∧
    t.red.svc = some (fieldGet (dword e.words 1) 0 8, fieldGet (dword e.words 2) 0 4, fieldGet (dword e.words 3) 0 16) ∧
    t.red.svcCtx = some c.val ∧ (t.ctx c.val).exec.map (·.phase) = some 1 ∧ OnlyRegs [RED_SVC_STAT__BUSY.addr] s t ∧ SameMem s t ∧
    SameVault s t) ∧
  (∀ (s : State) (c : Fin 256) (e : ExecS), s.running c.val 0x72 = some e → e.phase = 0 → s.commandPair = true → s.on
    RED_SVC_STAT__BUSY = false → svcOk (fieldGet (dword e.words 1) 0 8) (fieldGet (dword e.words 2) 0 4) (fieldGet (dword e.words
    3) 0 16) = false → ∃ t, exec (.opService c) s = .next t ∧ t.on RED_SVC_STAT__BUSY = false ∧ ((t.ctx c.val).exec.bind
    (·.done)).map (·.1) = some 3 ∧ SameMem s t ∧ SameVault s t) ∧
  (∀ (s : State) (c : Fin 256) (act : FwAct), s.commandPair = false → exec (.opPowerReq c) s = .next s ∧ exec (.opFwCall c act) s =
    .next s ∧ exec (.opService c) s = .next s)

/-- The opcodes that move data (R113, R115, R134, R179, R184, R316, R426, R434, R435), on a descriptor in execution. REG_WRITE
of AX_REF1 writes its masked word and ends with code 0; of the settings of an input, with no commit under way, it queues the
masked word in the vault and waits; a value that the register's own rules refuse ends it with code 9 for reason 7, else with
code 1 and the reason, and commits no step. REG_READ returns the word the register shows, but for PM_QPOP, which pops the queue,
and CLK_STATUS. BANK_LOAD of an open bank writes its block of at most 64 words, commits a step, and ends with its last block; a
failed read ends it with code 5, and a bank that is not open with code 4. BANK_CHECK runs the close check and ends with code 0,
with code 8 and its result where it fails, or with 7 where the axis entered SAFE. SNAPSHOT and PM_READ write to host memory and
wait for the flush, and wait while the port cannot. DMA_START starts an idle channel, and ends with code 4 at another.
VAULT_WRITE, with no commit under way, queues its next word where that is a free word (0 at a word reserved in the safety
parameter block), and ends with code 5 where its read failed. FW_STAGE, where no action runs, writes its next page, and with the
last one frees the staging area and ends; a failed read ends it with code 5, and it waits while the area is in use. The three
read host memory at the place that their operands give, and wait while the port may issue no read. FW_VERIFY starts its action
where none runs; while one does it ends with code 4 and DETAIL 1, the model's choice (log 17). -/
def Obligations.DataOpcodes : Prop :=
  (∀ (s : State) (c : Fin 256) (e : ExecS) (a : Fin 8), s.running c.val 0x12 = some e → e.phase = 0 → e.port < 4 → (dword e.words
    1).toNat = 0x10044 + 0x1000 * a.val → s.accessWaits false (0x10044 + 0x1000 * a.val) = false → ∃ t, exec (.opRegWrite c) s =
    .next t ∧ t.rd (0x10044 + 0x1000 * a.val) = (s.rd (0x10044 + 0x1000 * a.val) &&& ~~~(dword e.words 3)) ||| (dword e.words 2 &&&
    dword e.words 3) ∧ (t.ctx c.val).exec.bind (·.done) = some (0, 0) ∧ t.get (HP_CTX_LEDGER1__STEPS c.val) = (s.get
    (HP_CTX_LEDGER1__STEPS c.val) + 1) % 2 ^ 24 ∧ OnlyRegsBelow evBase [HP_CTX_LEDGER1 c.val, 0x10044 + 0x1000 * a.val] s t ∧
    SameMem s t ∧ SameVault s t) ∧
  (∀ (s : State) (c : Fin 256) (e : ExecS) (d : Fin 24), s.running c.val 0x12 = some e → e.phase = 0 → (dword e.words 1).toNat =
    0x41000 + 4 * d.val → s.accessWaits false ((0x41000 + 4 * d.val)) = false → s.vq = [] → s.vheld = [] → ∃ t, exec (.opRegWrite
    c) s = .next t ∧ t.vq =
    [{ word := 694 + d.val, value := ((s.rd ((0x41000 + 4 * d.val)) &&& 0xFFFFF1FF &&& ~~~(dword e.words 3)) ||| (dword e.words 2 &&& dword e.words 3)) &&& 0xFFFFF1FF, ctx := some c.val }]
    ∧ (t.ctx c.val).exec.map (fun e => (e.phase, e.done)) = some (1, none) ∧ OnlyRegs [VLT_STATUS] s t ∧ SameMem s t ∧ SameVault s
    t) ∧
  (∀ (s : State) (c : Fin 256) (e : ExecS) (v : Word) (k : Nat), s.running c.val 0x12 = some e → e.phase = 0 → pairCtrlAddr (dword
    e.words 1).toNat = false → s.accessWaits false (dword e.words 1).toNat = false → v = s.maskedWord (ownerWriter e.port) (dword
    e.words 1).toNat (dword e.words 2) (dword e.words 3) → (findRow (dword e.words 1).toNat).map (fun x => s.valueReason
    (ownerWriter e.port) x.1 x.2.1 x.2.2 v) = some k → k ≠ 0 → k ≠ ownBad → ∃ t, exec (.opRegWrite c) s = .next t ∧ (t.ctx
    c.val).exec.bind (·.done) = some (if k = 7 then (9, 0) else (1, k)) ∧ t.get (HP_CTX_LEDGER1__STEPS c.val) = s.get
    (HP_CTX_LEDGER1__STEPS c.val) ∧ SameMem s t ∧ SameVault s t) ∧
  (∀ (s : State) (c : Fin 256) (e : ExecS), s.running c.val 0x13 = some e → (dword e.words 1).toNat ≠ PM_QPOP 0 → (dword e.words
    1).toNat ≠ CLK_STATUS → s.accessWaits false (dword e.words 1).toNat = false → s.readWaits (dword e.words 1).toNat = false → ∃
    t, exec (.opRegRead c) s = .next t ∧ (t.ctx c.val).exec.map (fun e => (e.done, e.result)) = some (some (0, 0), s.regValue
    (ownerWriter e.port) (dword e.words 1).toNat) ∧ t.get (HP_CTX_LEDGER1__STEPS c.val) = (s.get (HP_CTX_LEDGER1__STEPS c.val) + 1)
    % 2 ^ 24 ∧ OnlyRegsBelow evBase [HP_CTX_LEDGER1 c.val] s t ∧ SameMem s t ∧ SameVault s t) ∧
  (∀ (s : State) (c : Fin 256) (e : ExecS) (x : List Word) (q : List (List Word)), s.running c.val 0x13 = some e → (dword e.words
    1).toNat = PM_QPOP 0 → s.accessWaits false (dword e.words 1).toNat = false → s.pm.readers = [] → s.pm.q = x :: q → ∃ t, exec
    (.opRegRead c) s = .next t ∧ (t.ctx c.val).exec.map (fun e => (e.done, e.result)) = some (some (0, 0), dword x 0) ∧ t.pm.q = q
    ∧ SameMem s t ∧ SameVault s t) ∧
  (∀ (s : State) (c : Fin 256) (e : ExecS) (l : List Word) (a : Fin 8) (n : Nat), s.running c.val 0x20 = some e → unitOf (dword
    e.words 0) = a.val → s.bankOpen a.val (fieldGet (dword e.words 1) 0 4) = true → s.readGo e.port = true → n = min 64 ((dword
    e.words 4).toNat - 64 * e.phase) → l.length = n → fieldGet (dword e.words 1) 8 12 + 64 * e.phase + n ≤ 256 → ∃ t, exec
    (.opBankLoad c (some l)) s = .next t ∧ t.out = (s.hostRead e.port ((dword e.words 2).toNat + 2 ^ 32 * (dword e.words 3).toNat
    + 256 * e.phase) (4 * n)).out ∧ (∀ i : Fin 64, i.val < n → t.bankRd a.val (fieldGet (dword e.words 1) 0 4) (fieldGet (dword
    e.words 1) 8 12 + 64 * e.phase + i.val) = dword l i.val) ∧ (t.ctx c.val).exec.map (fun e => (e.phase, e.done)) = some (e.phase
    + 1, if (dword e.words 4).toNat ≤ 64 * (e.phase + 1) then some (0, 0) else none) ∧ t.get (HP_CTX_LEDGER1__STEPS c.val) =
    (s.get (HP_CTX_LEDGER1__STEPS c.val) + 1) % 2 ^ 24 ∧ OnlyRegsBelow evBase [HP_CTX_LEDGER1 c.val, AX_STATUS a.val] s t ∧
    SameMem s t ∧ SameVault s t) ∧
  (∀ (s : State) (c : Fin 256) (e : ExecS), s.running c.val 0x20 = some e → s.bankOpen (unitOf (dword e.words 0)) (fieldGet (dword
    e.words 1) 0 4) = true → s.readGo e.port = true → ∃ t, exec (.opBankLoad c none) s = .next t ∧ (t.ctx c.val).exec.bind
    (·.done) = some (5, 0) ∧ t.banks = s.banks ∧ OnlyRegs [] s t ∧ SameMem s t ∧ SameVault s t) ∧
  (∀ (s : State) (c : Fin 256) (e : ExecS) (data : Option (List Word)), s.running c.val 0x20 = some e → s.bankOpen (unitOf (dword
    e.words 0)) (fieldGet (dword e.words 1) 0 4) = false → ∃ t, exec (.opBankLoad c data) s = .next t ∧ (t.ctx c.val).exec.bind
    (·.done) = some (4, s.bankDetail (unitOf (dword e.words 0)) (fieldGet (dword e.words 1) 0 4)) ∧ t.banks = s.banks ∧ OnlyRegs []
    s t ∧ SameMem s t ∧ SameVault s t) ∧
  (∀ (s : State) (c : Fin 256) (e : ExecS) (a : Fin 8), s.running c.val 0x21 = some e → unitOf (dword e.words 0) = a.val → ∃ t,
    exec (.opBankCheck c) s = .next t ∧ t.get (AX_STATUS__CHK_RESULT a.val) = s.closeCheck a.val (fieldGet (dword e.words 1) 3 1) ∧
    t.on (AX_STATUS__CHK_VALID a.val) = true ∧ t.rd (AX_CHECK a.val) = BitVec.ofNat 32 (s.setCrc a.val (fieldGet (dword e.words 1)
    3 1)) ∧ (t.ctx c.val).exec.bind (·.done) = (if e.phase = 9 then some (7, 0) else if s.closeCheck a.val (fieldGet (dword e.words
    1) 3 1) = 0 then some (0, 0) else some (8, s.closeCheck a.val (fieldGet (dword e.words 1) 3 1))) ∧ t.get (HP_CTX_LEDGER1__STEPS
    c.val) = (s.get (HP_CTX_LEDGER1__STEPS c.val) + 1) % 2 ^ 24 ∧ OnlyRegsBelow evBase [HP_CTX_LEDGER1 c.val, AX_STATUS a.val,
    AX_CHECK a.val, 0x100A4 + 0x1000 * a.val] s t ∧ SameMem s t ∧ SameVault s t) ∧
  (∀ (s : State) (c : Fin 256) (e : ExecS), s.running c.val 0x30 = some e → e.flush = 0 → s.readGo e.port = true → ∃ t, exec
    (.opSnapshot c) s = .next t ∧ t.out = (s.hostWrite e.port ((dword e.words 2).toNat + 2 ^ 32 * (dword e.words 3).toNat) (((s.ax
    (unitOf (dword e.words 0))).snap ++ List.replicate 64 0).take (if dword e.words 1 = 1 then 17 else 64))).out ++ [.flush e.port]
    ∧ (t.ctx c.val).exec.map (fun e => (e.flush, e.result)) = some (1, if dword e.words 1 = 1 then 68 else 256) ∧ OnlyRegs [] s t ∧
    SameMem s t ∧ SameVault s t) ∧
  (∀ (s : State) (c : Fin 256) (e : ExecS) (k n : Nat), s.running c.val 0x31 = some e → e.flush = 0 → s.readGo e.port = true →
    s.pm.readers.head? = some c.val → k = s.get (HP_CTX_LEDGER1__STEPS c.val) → n = min (min 16 s.pm.q.length) ((dword e.words
    1).toNat - k) → n ≠ 0 → ∃ t, exec (.opPmRead c) s = .next t ∧ t.out = (s.hostWrite e.port ((dword e.words 2).toNat + 2 ^ 32 *
    (dword e.words 3).toNat + 16 * k) (s.pm.q.take n).flatten).out ++ [.flush e.port] ∧ (t.ctx c.val).exec.map (·.flush) = some n ∧
    t.pm.q = s.pm.q ∧ OnlyRegs [] s t ∧ SameMem s t ∧ SameVault s t) ∧
  (∀ (s : State) (c : Fin 256) (e : ExecS), (s.ctx c.val).exec = some e → s.readGo e.port = false → exec (.opSnapshot c) s =
    .next s ∧ exec (.opPmRead c) s = .next s) ∧
  (∀ (s : State) (c : Fin 256) (e : ExecS) (n : Fin 16), s.running c.val 0x40 = some e → unitOf (dword e.words 0) = n.val →
    s.dmaState n.val = 0 → ∃ t, exec (.opDmaStart c) s = .next t ∧ t.dmaState n.val = 1 ∧ t.dmaCur n.val = (fieldSet (dword e.words
    1) 0 5 0).toNat + 2 ^ 32 * (dword e.words 2).toNat ∧ t.rd (DMA_CH_LIST_LO n.val) = fieldSet (dword e.words 1) 0 5 0 ∧ t.rd
    (DMA_CH_LIST_HI n.val) = dword e.words 2 ∧ (t.ctx c.val).exec.bind (·.done) = some (0, 0) ∧ t.get (HP_CTX_LEDGER1__STEPS c.val)
    = (s.get (HP_CTX_LEDGER1__STEPS c.val) + 1) % 2 ^ 24 ∧ OnlyRegsBelow evBase [HP_CTX_LEDGER1 c.val] s t ∧ SameMem s t ∧
    SameVault s t) ∧
  (∀ (s : State) (c : Fin 256) (e : ExecS) (n : Fin 16), s.running c.val 0x40 = some e → unitOf (dword e.words 0) = n.val →
    s.dmaState n.val ≠ 0 → ∃ t, exec (.opDmaStart c) s = .next t ∧ (t.ctx c.val).exec.bind (·.done) = some (4, s.dmaState n.val) ∧
    OnlyRegs [] s t ∧ SameMem s t ∧ SameVault s t) ∧
  (∀ (s : State) (c : Fin 256) (e : ExecS) (v : Word) (k : Nat), s.running c.val 0x50 = some e → s.vq = [] → s.vheld = [] →
    s.readGo e.port = true → k = fieldGet (dword e.words 1) 0 11 + s.get (HP_CTX_LEDGER1__STEPS c.val) → vaultAddr k = none → k <
    2048 → k < 212 ∨ 287 < k ∨ s.armed = false → ∃ t, exec (.opVaultWrite c (some v)) s = .next t ∧ t.vq =
    [{ word := k, value := (if 212 ≤ k ∧ k ≤ 287 then 0 else v), ctx := some c.val }] ∧ t.out = (s.hostRead e.port ((dword e.words
    3).toNat + 2 ^ 32 * (dword e.words 4).toNat + 4 * s.get (HP_CTX_LEDGER1__STEPS c.val)) 4).out ∧ OnlyRegs [VLT_STATUS] s t ∧
    SameMem s t ∧ SameVault s t) ∧
  (∀ (s : State) (c : Fin 256) (e : ExecS), s.running c.val 0x50 = some e → s.vq = [] → s.readGo e.port = true → ∃ t, exec
    (.opVaultWrite c none) s = .next t ∧ (t.ctx c.val).exec.bind (·.done) = some (5, 0) ∧ t.vq = [] ∧ OnlyRegs [] s t ∧ SameMem s
    t ∧ SameVault s t) ∧
  (∀ (s : State) (c : Fin 256) (e : ExecS) (l : List Word) (i : Fin 1024), s.running c.val 0x51 = some e → e.phase ≠ 0 ∨ s.on
    VLT_STG_STAT__BUSY = false → s.readGo e.port = true → l.length = 1024 → (dword e.words 1).toNat / 4096 + e.phase < 256 → ∃ t,
    exec (.opFwStage c (some l)) s = .next t ∧ t.out = (s.hostRead e.port ((dword e.words 3).toNat + 2 ^ 32 * (dword e.words
    4).toNat + 4096 * e.phase) 4096).out ∧ t.sramWord (0x300000 + 4096 * ((dword e.words 1).toNat / 4096 + e.phase) + 4 * i.val) =
    dword l i.val ∧ (∀ a, a < 0x300000 + 4096 * ((dword e.words 1).toNat / 4096 + e.phase) ∨ 0x301000 + 4096 * ((dword e.words
    1).toNat / 4096 + e.phase) ≤ a → t.sramRd a = s.sramRd a) ∧ t.on VLT_STG_STAT__VERIFIED = false ∧ (t.ctx c.val).exec.map (fun
    e => (e.phase, e.done)) = some (e.phase + 1, if (dword e.words 2).toNat ≤ 4096 * (e.phase + 1) then some (0, 0) else none) ∧
    ((dword e.words 2).toNat ≤ 4096 * (e.phase + 1) → t.on VLT_STG_STAT__BUSY = false) ∧ t.get (HP_CTX_LEDGER1__STEPS c.val) =
    (s.get (HP_CTX_LEDGER1__STEPS c.val) + 1) % 2 ^ 24 ∧ OnlyRegsBelow evBase [HP_CTX_LEDGER1 c.val, VLT_STG_STAT__BUSY.addr] s t
    ∧ SameVault s t) ∧
  (∀ (s : State) (c : Fin 256) (e : ExecS), s.running c.val 0x51 = some e → e.phase ≠ 0 ∨ s.on VLT_STG_STAT__BUSY = false →
    s.readGo e.port = true → ∃ t, exec (.opFwStage c none) s = .next t ∧ (t.ctx c.val).exec.bind (·.done) = some (5, 0) ∧ t.on
    VLT_STG_STAT__BUSY = false ∧ OnlyRegs [VLT_STG_STAT__BUSY.addr] s t ∧ SameMem s t ∧ SameVault s t) ∧
  (∀ (s : State) (c : Fin 256) (e : ExecS), s.running c.val 0x52 = some e → e.phase = 0 → s.on VLT_STG_STAT__BUSY = false → ∃ t,
    exec (.opFwVerify c) s = .next t ∧ t.on VLT_STG_STAT__BUSY = true ∧ t.vs.act = some ((dword e.words 1).toNat, some c.val) ∧
    (t.ctx c.val).exec.map (·.phase) = some 1 ∧ OnlyRegs [VLT_STG_STAT__BUSY.addr] s t ∧ SameMem s t ∧ SameVault s t) ∧
  (∀ (s : State) (c : Fin 256) (e : ExecS) (page : Option (List Word)), (s.ctx c.val).exec = some e → e.phase = 0 → s.on
    VLT_STG_STAT__BUSY = true → exec (.opFwStage c page) s = .next s) ∧
  (∀ (s : State) (c : Fin 256) (e : ExecS), s.running c.val 0x52 = some e → e.phase = 0 → s.on VLT_STG_STAT__BUSY = true → ∃ t,
    exec (.opFwVerify c) s = .next t ∧ (t.ctx c.val).exec.bind (·.done) = some (4, 1) ∧ OnlyRegs [] s t ∧ SameMem s t ∧
    SameVault s t) ∧
  (∀ (s : State) (c : Fin 256) (e : ExecS) (l : Option (List Word)) (v : Option Word), (s.ctx c.val).exec = some e → s.readGo e.port =
    false → s.bankOpen (unitOf (dword e.words 0)) (fieldGet (dword e.words 1) 0 4) = true → exec (.opBankLoad c l) s = .next s ∧ exec
    (.opVaultWrite c v) s = .next s ∧ exec (.opFwStage c l) s = .next s)

/-- Events (R127 to R130, R133). An occurrence of a source that no event name maps to changes nothing, and one that no host's
route takes changes no register. One for a host whose ring can be written, has room and holds no merged record of that source
is written at TAIL, with source, unit, PHASE, detail and time; any other is merged, which sets PEND and counts. A merged record
is written once its ring can be written and has room, and waits until then; it may be followed by the record of the full ring.
A coalescing time that has passed sends the vector's message, or sets its pending bit while the vector is masked, the port may
send none or the device sleeps; it does nothing with no time set or no record counted. Enabling a ring that was off starts it
at 0, and one that is on stays; HEAD follows the write. FW_EVENT_RAISE is an occurrence of its firmware source, delivered in
the same two ways. -/
def Obligations.EventDelivery : Prop :=
  (∀ (s : State) (src : Fin 256) (unit : BitVec 8) (detail : Word), sourceNamed src.val = false → exec (.eventOccurrence src unit
    detail) s = .next s) ∧
  (∀ (s : State) (src : Fin 256) (unit : BitVec 8) (detail : Word), (∀ p : Fin 4, s.routed p.val src.val unit.toNat = false) → ∃ t,
    exec (.eventOccurrence src unit detail) s = .next t ∧ OnlyRegs [] s t ∧ t.out = s.out ∧ SameMem s t ∧ SameVault s t) ∧
  (∀ (s : State) (p : Fin 4) (src : Fin 256) (unit : BitVec 8) (detail : Word), sourceNamed src.val = true → s.routed p.val src.val
    unit.toNat = true → s.ringLive p.val = false ∨ s.ringFull p.val = true ∨ (sget (fun _ => ({} : Merged)) s.merged (4 * src.val +
    p.val)).count ≠ 0 → ∃ t, exec (.eventOccurrence src unit detail) s = .next t ∧ t.on (EV_ROUTE__PEND src.val p.val) = true ∧
    t.get (EV_ROUTE__COUNT src.val p.val) = min 255 ((sget (fun _ => ({} : Merged)) s.merged (4 * src.val + p.val)).count + 1) ∧
    t.get (EV_RING_TAIL__TAIL p.val) = s.get (EV_RING_TAIL__TAIL p.val) ∧ OnlyRegsBelow evBase [] s t ∧ SameMem s t ∧ SameVault s t) ∧
  (∀ (s : State) (p : Fin 4) (src : Fin 256) (unit : BitVec 8) (detail : Word), sourceNamed src.val = true → s.routed p.val src.val
    unit.toNat = true → s.ringLive p.val = true → s.ringFull p.val = false → s.get (EV_RING_CFG__SIZE_LOG2 p.val) ≤ 12 → (sget (fun
    _ => ({} : Merged)) s.merged (4 * src.val + p.val)).count = 0 → ∃ t, exec (.eventOccurrence src unit detail) s = .next t ∧
    t.get (EV_RING_TAIL__TAIL p.val) = (s.get (EV_RING_TAIL__TAIL p.val) + 1) % s.ringSize p.val ∧ Out.memWrite p.val (s.get
    (EV_RING_BASE_LO__BASE_LO p.val) * 4096 + s.get (EV_RING_BASE_HI__BASE_HI p.val) * 2 ^ 32 + 16 * s.get (EV_RING_TAIL__TAIL
    p.val)) [BitVec.ofNat 32 (src.val + 2 ^ 8 + unit.toNat * 2 ^ 16 + b2n (s.port p.val).phase * 2 ^ 31), detail, BitVec.ofNat 32
    s.time, BitVec.ofNat 32 (s.time / 2 ^ 32)] ∈ t.out ∧ t.on (EV_RING_TAIL__FULL p.val) = t.ringFull p.val ∧ OnlyRegsBelow evBase
    [] s t ∧ SameMem s t ∧ SameVault s t) ∧
  (∀ (s : State) (src : Fin 256) (p : Fin 4), (sget (fun _ => ({} : Merged)) s.merged (4 * src.val + p.val)).count ≠ 0 → (sget (fun
    _ => ({} : Merged)) s.merged (4 * src.val + p.val)).full = false → s.ringLive p.val = true → s.ringFull p.val = false → s.get
    (EV_RING_CFG__SIZE_LOG2 p.val) ≤ 12 → ∃ t, exec (.mergedRecordWrite src p) s = .next t ∧ t.on (EV_ROUTE__PEND src.val p.val) =
    false ∧ t.get (EV_ROUTE__COUNT src.val p.val) = 0 ∧ t.get (EV_RING_TAIL__TAIL p.val) = (s.get (EV_RING_TAIL__TAIL p.val) + 1) %
    s.ringSize p.val ∧ OnlyRegsBelow evBase [] s t ∧ SameMem s t ∧ SameVault s t) ∧
  (∀ (s : State) (src : Fin 256) (p : Fin 4), (sget (fun _ => ({} : Merged)) s.merged (4 * src.val + p.val)).count ≠ 0 → (sget (fun
    _ => ({} : Merged)) s.merged (4 * src.val + p.val)).full = true → src.val ≠ 23 → s.ringLive p.val = true → s.ringFull p.val =
    false → s.get (EV_RING_CFG__SIZE_LOG2 p.val) ≤ 12 → ∃ t, exec (.mergedRecordWrite src p) s = .next t ∧ t.on (EV_ROUTE__PEND
    src.val p.val) = false ∧ t.get (EV_ROUTE__COUNT src.val p.val) = 0 ∧ s.out.length < t.out.length ∧ OnlyRegsBelow evBase [] s t
    ∧ SameMem s t ∧ SameVault s t) ∧
  (∀ (s : State) (src : Fin 256) (p : Fin 4), (sget (fun _ => ({} : Merged)) s.merged (4 * src.val + p.val)).count = 0 ∨ s.ringLive
    p.val = false ∨ s.ringFull p.val = true → exec (.mergedRecordWrite src p) s = .next s) ∧
  (∀ (s : State) (p : Fin 4) (v : Fin 64), s.get (EV_COAL__TIME p.val v.val) ≠ 0 → sget (fun _ => 0) s.vecPend (64 * p.val + v.val)
    ≠ 0 → s.vecMasked p.val v.val = false → s.portIssues p.val = true → s.awake = true → ∃ t, exec (.msixCoalesceTimeout p v) s =
    .next t ∧ t.out = s.out ++ [.msix p.val v.val] ∧ sget (fun _ => 0) t.vecPend (64 * p.val + v.val) = 0 ∧ OnlyRegsBelow evBase []
    s t ∧ SameMem s t ∧ SameVault s t) ∧
  (∀ (s : State) (p : Fin 4) (v : Fin 64), s.get (EV_COAL__TIME p.val v.val) ≠ 0 → sget (fun _ => 0) s.vecPend (64 * p.val + v.val)
    ≠ 0 → s.vecMasked p.val v.val = true ∨ s.portIssues p.val = false ∨ s.awake = false → ∃ t, exec (.msixCoalesceTimeout p v) s =
    .next t ∧ t.out = s.out ∧ sget (fun _ => false) t.pba (64 * p.val + v.val) = true ∧ sget (fun _ => 0) t.vecPend (64 * p.val +
    v.val) = 0 ∧ OnlyRegs [] s t ∧ SameMem s t ∧ SameVault s t) ∧
  (∀ (s : State) (p : Fin 4) (v : Fin 64), s.get (EV_COAL__TIME p.val v.val) = 0 ∨ sget (fun _ => 0) s.vecPend (64 * p.val + v.val)
    = 0 → exec (.msixCoalesceTimeout p v) s = .next s) ∧
  (∀ (s : State) (w : Writer) (p : Fin 4), s.may w (EV_RING_CFG p.val) (fieldSet (s.rd (EV_RING_CFG p.val)) 8 1 1) = true → s.on
    (EV_RING_CFG__EN p.val) = false → ∃ t, exec (.evRingEnable w p) s = .next t ∧ t.on (EV_RING_CFG__EN p.val) = true ∧ t.get
    (EV_RING_TAIL__TAIL p.val) = 0 ∧ t.get (EV_RING_HEAD__HEAD p.val) = 0 ∧ (t.port p.val).phase = true ∧ OnlyRegs [PWR_WAKE_CAUSE,
    EV_RING_CFG p.val, EV_RING_HEAD p.val, 0x79010 + 0x20 * p.val] s t ∧ SameMem s t ∧ SameVault s t) ∧
  (∀ (s : State) (w : Writer) (p : Fin 4), s.may w (EV_RING_CFG p.val) (fieldSet (s.rd (EV_RING_CFG p.val)) 8 1 1) = true → s.on
    (EV_RING_CFG__EN p.val) = true → ∃ t, exec (.evRingEnable w p) s = .next t ∧ OnlyRegs [PWR_WAKE_CAUSE] s t ∧ SameMem s t ∧
    SameVault s t) ∧
  (∀ (s : State) (w : Writer) (p : Fin 4) (v : Word), s.may w (EV_RING_HEAD p.val) v = true → ∃ t, exec (.evRingHeadWrite w p v) s
    = .next t ∧ t.get (EV_RING_HEAD__HEAD p.val) = fieldGet v 0 12 % s.ringSize p.val ∧ t.on (EV_RING_TAIL__FULL p.val) =
    t.ringFull p.val ∧ OnlyRegs [PWR_WAKE_CAUSE, EV_RING_HEAD p.val, 0x79010 + 0x20 * p.val] s t ∧ SameMem s t ∧ SameVault s t) ∧
  (∀ (s : State) (n : Fin 5) (p : Fin 4) (v : Word), s.may (.firmware n) EV_FWRAISE v = true → s.on (EV_ROUTE__EN (240 + fieldGet v
    0 4) p.val) = true → s.ringLive p.val = false ∨ s.ringFull p.val = true ∨ (sget (fun _ => ({} : Merged)) s.merged (4 * (240 +
    fieldGet v 0 4) + p.val)).count ≠ 0 → ∃ t, exec (.fwEventRaise n v) s = .next t ∧ t.on (EV_ROUTE__PEND (240 + fieldGet v 0 4)
    p.val) = true ∧ t.get (EV_ROUTE__COUNT (240 + fieldGet v 0 4) p.val) = min 255 ((sget (fun _ => ({} : Merged)) s.merged (4 *
    (240 + fieldGet v 0 4) + p.val)).count + 1) ∧ OnlyRegsBelow evBase [] s t ∧ SameMem s t ∧ SameVault s t) ∧
  (∀ (s : State) (n : Fin 5) (p : Fin 4) (v : Word), s.may (.firmware n) EV_FWRAISE v = true → s.on (EV_ROUTE__EN (240 + fieldGet v
    0 4) p.val) = true → s.ringLive p.val = true → s.ringFull p.val = false → s.get (EV_RING_CFG__SIZE_LOG2 p.val) ≤ 12 → (sget
    (fun _ => ({} : Merged)) s.merged (4 * (240 + fieldGet v 0 4) + p.val)).count = 0 → ∃ t, exec (.fwEventRaise n v) s = .next t ∧
    t.get (EV_RING_TAIL__TAIL p.val) = (s.get (EV_RING_TAIL__TAIL p.val) + 1) % s.ringSize p.val ∧ Out.memWrite p.val (s.get
    (EV_RING_BASE_LO__BASE_LO p.val) * 4096 + s.get (EV_RING_BASE_HI__BASE_HI p.val) * 2 ^ 32 + 16 * s.get (EV_RING_TAIL__TAIL
    p.val)) [BitVec.ofNat 32 (240 + fieldGet v 0 4 + 2 ^ 8 + fieldGet v 8 8 * 2 ^ 16 + b2n (s.port p.val).phase * 2 ^ 31), s.rd
    EV_FWDETAIL, BitVec.ofNat 32 s.time, BitVec.ofNat 32 (s.time / 2 ^ 32)] ∈ t.out ∧ OnlyRegsBelow evBase [] s t ∧ SameMem s t ∧
    SameVault s t)

/-- DMA channels (R134 to R147). START makes an idle channel with an owner read its list from its start, with LAST invalid and
BADCNT 0. The read of a descriptor, once issued, loads it, marks a bad one with code 3, pauses the channel while the descriptor
is not its own or a STOP waits, ends in IDLE where RESET or a change of owner waits, or halts the channel where it fails; one
that is not issued, and that the engine cannot issue, does nothing. An element whose turn has come goes from host memory to
host memory, from SRAM to SRAM, from host memory to an open bank of its owner's axis or to AX_REF1, or from a register to host
memory, and counts; a failed read ends the descriptor with code 5, a bank of another's axis with code 1, a bank that is not
open with code 4 and the axis's state, or 7 after SAFE. A block of the index table joins those before, and a failed one is
remembered. The end of a descriptor leaves code and detail in LAST; the last of its list makes the channel idle with
DMA_LIST_DONE, RESET or a change of owner makes it idle, STOP pauses it with cause 1, and HALT_ON_BAD after another code than 0
with cause 4; else it goes on with the next descriptor, or where a LINK points. A stop of a descriptor whose element has not
been issued ends it with code 6. STOP makes an active channel stop, RESUME of a paused one reads on, RESET makes a paused or
halted one idle and stops an active one; in another state each changes nothing. A channel whose descriptor's read has not been
issued pauses at once for STOP, and is idle at once for RESET (log 35). -/
def Obligations.DmaChannels : Prop :=
  (∀ (s : State) (w : Writer) (n : Fin 16), s.may w (DMA_CH_CTRL n.val) 1 = true → s.dmaState n.val = 0 → s.dmaOwner n.val ≠ 15 → ∃
    t, exec (.dmaChStart w n) s = .next t ∧ t.dmaState n.val = 1 ∧ t.rd (DMA_CH_CUR_LO n.val) = s.rd (DMA_CH_LIST_LO n.val) ∧ t.rd
    (DMA_CH_CUR_HI n.val) = s.rd (DMA_CH_LIST_HI n.val) ∧ t.on (DMA_CH_LAST__VALID n.val) = false ∧ t.get (DMA_CH_BADCNT__BAD
    n.val) = 0 ∧ OnlyRegs [PWR_WAKE_CAUSE, DMA_GLOBAL_STATUS, 0x90110 + 0x40 * n.val, DMA_CH_CUR_LO n.val, DMA_CH_CUR_HI n.val,
    0x9011C + 0x40 * n.val, 0x90120 + 0x40 * n.val] s t ∧ SameMem s t ∧ SameVault s t) ∧
  (∀ (s : State) (w : Writer) (n : Fin 16), s.may w (DMA_CH_CTRL n.val) 1 = true → s.dmaState n.val ≠ 0 ∨ s.dmaOwner n.val = 15 → ∃
    t, exec (.dmaChStart w n) s = .next t ∧ OnlyRegs [PWR_WAKE_CAUSE] s t ∧ SameMem s t ∧ SameVault s t) ∧
  (∀ (s : State) (n : Fin 16) (l : Vector Word 8) (k : List Word), s.dmaFetching n.val = true → s.coreClk = true → (s.dma
    n.val).fetchOut = true → (s.dma n.val).stop = 0 → s.dmaListRead n.val (s.dmaCur n.val) 8 (some l.toList) = some k → fieldGet
    (dword k 0) 31 1 = 1 → dmaBad k (s.dma n.val).port (s.dma n.val).sram = none → ∃ t, exec (.dmaDescFetchDone n (some l)) s =
    .next t ∧ (t.dma n.val).words = k ∧ (t.dma n.val).idx = 0 ∧ (t.dma n.val).port = (s.dma n.val).port ∧ OnlyRegs [] s t ∧
    SameMem s t ∧ SameVault s t) ∧
  (∀ (s : State) (n : Fin 16) (l : Vector Word 8) (k : List Word) (j : Nat), s.dmaFetching n.val = true → s.coreClk = true →
    (s.dma n.val).fetchOut = true → (s.dma n.val).stop = 0 → s.dmaListRead n.val (s.dmaCur n.val) 8 (some l.toList) = some k →
    fieldGet (dword k 0) 31 1 = 1 → dmaBad k (s.dma n.val).port (s.dma n.val).sram = some j → ∃ t, exec (.dmaDescFetchDone n (some
    l)) s = .next t ∧ (t.dma n.val).words = k ∧ (t.dma n.val).fin = some (3, j) ∧ OnlyRegs [] s t ∧ SameMem s t ∧ SameVault s t) ∧
  (∀ (s : State) (n : Fin 16) (l : Vector Word 8) (k : List Word), s.dmaFetching n.val = true → s.coreClk = true → (s.dma
    n.val).fetchOut = true → (s.dma n.val).stop = 0 → s.dmaListRead n.val (s.dmaCur n.val) 8 (some l.toList) = some k → fieldGet
    (dword k 0) 31 1 = 0 → ∃ t, exec (.dmaDescFetchDone n (some l)) s = .next t ∧ t.dmaState n.val = 3 ∧ t.get
    (DMA_CH_STATE__PAUSE_CAUSE n.val) = 2 ∧ OnlyRegsBelow evBase [] s t ∧ SameMem s t ∧ SameVault s t) ∧
  (∀ (s : State) (n : Fin 16) (l : Vector Word 8) (k : List Word), s.dmaFetching n.val = true → s.coreClk = true → (s.dma
    n.val).fetchOut = true → (s.dma n.val).stop = 1 → s.dmaListRead n.val (s.dmaCur n.val) 8 (some l.toList) = some k → ∃ t, exec
    (.dmaDescFetchDone n (some l)) s = .next t ∧ t.dmaState n.val = 3 ∧ t.get (DMA_CH_STATE__PAUSE_CAUSE n.val) = 1 ∧ OnlyRegsBelow
    evBase [] s t ∧ SameMem s t ∧ SameVault s t) ∧
  (∀ (s : State) (n : Fin 16) (r : Option (Vector Word 8)), s.dmaFetching n.val = true → s.coreClk = true → (s.dma n.val).fetchOut
    = true → 2 ≤ (s.dma n.val).stop → ∃ t, exec (.dmaDescFetchDone n r) s = .next t ∧ t.dmaState n.val = (if s.on
    RED_STATUS__DMA_OUT then 4 else 0) ∧ OnlyRegsBelow evBase [] s t ∧ SameMem s t ∧ SameVault s t) ∧
  (∀ (s : State) (n : Fin 16) (r : Option (Vector Word 8)), s.dmaFetching n.val = true → s.coreClk = true → (s.dma n.val).fetchOut
    = true → (s.dma n.val).stop < 2 → s.dmaListRead n.val (s.dmaCur n.val) 8 (r.map (·.toList)) = none → ∃ t, exec
    (.dmaDescFetchDone n r) s = .next t ∧ t.dmaState n.val = 4 ∧ OnlyRegsBelow evBase [] s t ∧ SameMem s t ∧ SameVault s t) ∧
  (∀ (s : State) (n : Fin 16) (r : Option (Vector Word 8)), s.dmaFetching n.val = false ∨ s.coreClk = false ∨ (s.dma
    n.val).fetchOut = false ∧ (s.dma n.val).stop = 0 ∧ ((dmaServe s).dma n.val).fetchOut = false → exec (.dmaDescFetchDone n r) s
    = .next s) ∧
  (∀ (s : State) (n : Fin 16) (r : Option (Vector Word 8)), s.dmaFetching n.val = true → s.coreClk = true →
    (s.dma n.val).fetchOut = false → (s.dma n.val).stop = 1 → ∃ t, exec (.dmaDescFetchDone n r) s = .next t ∧ t.dmaState n.val = 3 ∧
    t.get (DMA_CH_STATE__PAUSE_CAUSE n.val) = 1 ∧ OnlyRegsBelow evBase [] s t ∧ SameMem s t ∧ SameVault s t) ∧
  (∀ (s : State) (n : Fin 16) (r : Option (Vector Word 8)), s.dmaFetching n.val = true → s.coreClk = true →
    (s.dma n.val).fetchOut = false → 2 ≤ (s.dma n.val).stop → ∃ t, exec (.dmaDescFetchDone n r) s = .next t ∧
    t.dmaState n.val = (if s.on RED_STATUS__DMA_OUT then 4 else 0) ∧ OnlyRegsBelow evBase [] s t ∧ SameMem s t ∧ SameVault s t) ∧
  (∀ (s : State) (n : Fin 16) (data : List Word), s.dmaMoving n.val = true → (s.dma n.val).issued = true → (s.dma n.val).whole =
    false → (s.dma n.val).left = [] → dmaSpace (s.dma n.val).words false = 0 → dmaSpace (s.dma n.val).words true = 0 → s.dmaPortGo
    (s.dma n.val).port = true → ∃ t, exec (.dmaElementDone n true data) s = .next t ∧ (t.dma n.val).idx = (s.dma n.val).idx + 1 ∧
    t.out = s.out ++ [.memWrite (s.dma n.val).port ((dmaPos (s.dma n.val).words true (s.dma n.val).idx ((s.dma n.val).ix.getD
    (s.dma n.val).idx 0) % 2 ^ 64).toNat) ((data ++ List.replicate (dmaElem (s.dma n.val).words / 4) 0).take (dmaElem (s.dma
    n.val).words / 4))] ∧ OnlyRegsBelow evBase [] s t ∧ SameMem s t ∧ SameVault s t) ∧
  (∀ (s : State) (n : Fin 16) (data : List Word), s.dmaMoving n.val = true → (s.dma n.val).issued = true → (s.dma n.val).whole =
    false → (s.dma n.val).left = [] → dmaSpace (s.dma n.val).words false = 0 → dmaSpace (s.dma n.val).words true ≠ 1 → dmaSpace
    (s.dma n.val).words true ≠ 0 ∨ s.dmaPortGo (s.dma n.val).port = true → ∃ t, exec (.dmaElementDone n false data) s = .next t ∧
    (t.dma n.val).fin = some (5, 0) ∧ (t.dma n.val).idx = (s.dma n.val).idx ∧ OnlyRegs [] s t ∧ SameMem s t ∧ SameVault s t) ∧
  (∀ (s : State) (n : Fin 16) (data : List Word) (p q : Nat), s.dmaMoving n.val = true → (s.dma n.val).issued = true → (s.dma
    n.val).whole = false → (s.dma n.val).left = [] → dmaSpace (s.dma n.val).words false = 4 → dmaSpace (s.dma n.val).words true = 4
    → p = (dmaPos (s.dma n.val).words false (s.dma n.val).idx ((s.dma n.val).ix.getD (s.dma n.val).idx 0) % 2 ^ 64).toNat → q =
    (dmaPos (s.dma n.val).words true (s.dma n.val).idx ((s.dma n.val).ix.getD (s.dma n.val).idx 0) % 2 ^ 64).toNat → ∃ t, exec
    (.dmaElementDone n true data) s = .next t ∧ (t.dma n.val).idx = (s.dma n.val).idx + 1 ∧ (∀ i : Fin 16, 4 * i.val < dmaElem
    (s.dma n.val).words → t.sramWord (q + 4 * i.val) = s.sramWord (p + 4 * i.val)) ∧ (∀ a, a < q ∨ q + 4 * (dmaElem (s.dma
    n.val).words / 4) ≤ a → t.sramRd a = s.sramRd a) ∧ OnlyRegsBelow evBase [] s t ∧ SameVault s t) ∧
  (∀ (s : State) (n : Fin 16) (data : List Word) (a sel k : Nat), s.dmaMoving n.val = true → (s.dma n.val).issued = true → (s.dma
    n.val).whole = false → (s.dma n.val).left = [] → dmaSpace (s.dma n.val).words false = 0 → dmaSpace (s.dma n.val).words true = 2
    → a = dmaAxis (s.dma n.val).words true → sel = dmaSel (s.dma n.val).words true → k = (dmaPos (s.dma n.val).words true (s.dma
    n.val).idx ((s.dma n.val).ix.getD (s.dma n.val).idx 0) % 2 ^ 64).toNat / 4 → dmaElem (s.dma n.val).words = 4 → k < 256 →
    s.axOwner a = (s.dma n.val).port → s.bankOpen a sel = true → ∃ t, exec (.dmaElementDone n true data) s = .next t ∧ (t.dma
    n.val).idx = (s.dma n.val).idx + 1 ∧ t.bankRd a sel k = dword data 0 ∧ OnlyRegsBelow evBase [AX_STATUS a] s t ∧ SameMem s t ∧
    SameVault s t) ∧
  (∀ (s : State) (n : Fin 16) (data : List Word) (a sel : Nat), s.dmaMoving n.val = true → (s.dma n.val).issued = true → (s.dma
    n.val).whole = false → (s.dma n.val).left = [] → dmaSpace (s.dma n.val).words false = 0 → dmaSpace (s.dma n.val).words true = 2
    → a = dmaAxis (s.dma n.val).words true → sel = dmaSel (s.dma n.val).words true → s.axOwner a ≠ (s.dma n.val).port ∨ s.bankOpen
    a sel = false → ∃ t, exec (.dmaElementDone n true data) s = .next t ∧ (t.dma n.val).fin = some (if s.axOwner a ≠ (s.dma
    n.val).port then (1, 1) else if (s.dma n.val).axSafe then (7, 0) else (4, s.axState a)) ∧ (t.dma n.val).idx = (s.dma n.val).idx ∧
    t.banks = s.banks ∧ OnlyRegs [] s t ∧ SameMem s t ∧ SameVault s t) ∧
  (∀ (s : State) (n : Fin 16) (p : Fin 4) (a : Fin 8) (data : List Word), s.dmaMoving n.val = true → (s.dma n.val).issued = true →
    (s.dma n.val).whole = false → (s.dma n.val).left = [] → dmaSpace (s.dma n.val).words false = 0 → dmaSpace (s.dma n.val).words
    true = 1 → (s.dma n.val).port = p.val → dmaElem (s.dma n.val).words = 4 → (dmaPos (s.dma n.val).words true (s.dma n.val).idx
    ((s.dma n.val).ix.getD (s.dma n.val).idx 0) % 2 ^ 64).toNat = 0x10044 + 0x1000 * a.val → (s.dma n.val).commits = 0 →
    s.accessWaits false (0x10044 + 0x1000 * a.val) = false → s.writeReason (.host p) false (0x10044 + 0x1000 * a.val) = 0 → ∃ t,
    exec (.dmaElementDone n true data) s = .next t ∧ (t.dma n.val).idx = (s.dma n.val).idx + 1 ∧ t.rd (0x10044 + 0x1000 * a.val) =
    dword data 0 ∧ OnlyRegsBelow evBase [0x10044 + 0x1000 * a.val] s t ∧ SameMem s t ∧ SameVault s t) ∧
  (∀ (s : State) (n : Fin 16) (p : Fin 4) (a : Fin 8) (ok : Bool) (data : List Word), s.dmaMoving n.val = true → (s.dma
    n.val).issued = true → (s.dma n.val).whole = false → (s.dma n.val).left = [] → dmaSpace (s.dma n.val).words false = 1 →
    dmaSpace (s.dma n.val).words true = 0 → (s.dma n.val).port = p.val → dmaElem (s.dma n.val).words = 4 → (dmaPos (s.dma
    n.val).words false (s.dma n.val).idx ((s.dma n.val).ix.getD (s.dma n.val).idx 0) % 2 ^ 64).toNat = 0x10044 + 0x1000 * a.val →
    s.dmaPortGo (s.dma n.val).port = true → s.accessWaits false (0x10044 + 0x1000 * a.val) = false → s.readReason (.host p) false
    (0x10044 + 0x1000 * a.val) = 0 → ∃ t, exec (.dmaElementDone n ok data) s = .next t ∧ (t.dma n.val).idx = (s.dma n.val).idx + 1
    ∧ t.out = s.out ++ [.memWrite p.val ((dmaPos (s.dma n.val).words true (s.dma n.val).idx ((s.dma n.val).ix.getD (s.dma
    n.val).idx 0) % 2 ^ 64).toNat) [s.rd (0x10044 + 0x1000 * a.val)]] ∧ OnlyRegsBelow evBase [] s t ∧ SameMem s t ∧ SameVault s t) ∧
  (∀ (s : State) (n : Fin 16) (ok : Bool) (data : List Word), s.dmaMoving n.val = false ∨ (s.dma n.val).whole = true ∨ (s.dma
    n.val).left = [] ∧ (s.dma n.val).issued = false ∧ ((dmaServe s).dma n.val).issued = false → exec (.dmaElementDone n ok data) s
    = .next s) ∧
  (∀ (s : State) (n : Fin 16) (l b : List Word), s.dmaIndexing n.val = true → s.coreClk = true → (s.dma n.val).ixOut = true →
    s.dmaListRead n.val (s.dmaIndexAt n.val).1 (s.dmaIndexAt n.val).2 (some l) = some b → ∃ t, exec (.dmaIndexReadDone n (some l))
    s = .next t ∧ (t.dma n.val).ix = (s.dma n.val).ix ++ b ∧ (t.dma n.val).ixOut = false ∧ OnlyRegs [] s t ∧ SameMem s t ∧
    SameVault s t) ∧
  (∀ (s : State) (n : Fin 16) (r : Option (List Word)), s.dmaIndexing n.val = true → s.coreClk = true → (s.dma n.val).ixOut = true
    → s.dmaListRead n.val (s.dmaIndexAt n.val).1 (s.dmaIndexAt n.val).2 r = none → ∃ t, exec (.dmaIndexReadDone n r) s = .next t ∧
    (t.dma n.val).ixErr = true ∧ (t.dma n.val).ix = (s.dma n.val).ix ∧ OnlyRegs [] s t ∧ SameMem s t ∧ SameVault s t) ∧
  (∀ (s : State) (n : Fin 16) (r : Option (List Word)), s.dmaIndexing n.val = false ∨ s.coreClk = false ∨ (s.dma n.val).ixOut =
    false ∧ ((dmaServe s).dma n.val).ixOut = false → exec (.dmaIndexReadDone n r) s = .next s) ∧
  (∀ (s : State) (n : Fin 16) (code detail : Nat), s.coreClk = true → s.dmaPortWaits n.val = false → (s.dma n.val).commits = 0 →
    (s.dma n.val).fin = some (code, detail) → fieldGet (dword (s.dma n.val).words 0) 30 1 = 1 → ∃ t, exec (.dmaDescEnd n) s =
    .next t ∧ t.dmaState n.val = (if s.on RED_STATUS__DMA_OUT then 4 else 0) ∧ t.get (DMA_CH_LAST__CODE n.val) = code % 256 ∧
    t.get (DMA_CH_LAST__DETAIL n.val) = detail % 256 ∧ t.on (DMA_CH_LAST__VALID n.val) = true ∧ fieldGet (t.rd (DMA_CH_EVENT
    n.val)) 0 1 = 1 ∧ OnlyRegsBelow evBase [AX_STATUS (dmaAxis (s.dma n.val).words true)] s t ∧ ((s.dma n.val).sram = false →
    SameMem s t) ∧ SameVault s t) ∧
  (∀ (s : State) (n : Fin 16) (code detail : Nat), s.coreClk = true → s.dmaPortWaits n.val = false → (s.dma n.val).commits = 0 →
    (s.dma n.val).fin = some (code, detail) → fieldGet (dword (s.dma n.val).words 0) 30 1 = 0 → 2 ≤ (s.dma n.val).stop → ∃ t, exec
    (.dmaDescEnd n) s = .next t ∧ t.dmaState n.val = (if s.on RED_STATUS__DMA_OUT then 4 else 0) ∧ t.get (DMA_CH_LAST__CODE n.val)
    = code % 256 ∧ t.get (DMA_CH_LAST__DETAIL n.val) = detail % 256 ∧ t.on (DMA_CH_LAST__VALID n.val) = true ∧ OnlyRegsBelow
    evBase [AX_STATUS (dmaAxis (s.dma n.val).words true)] s t ∧ ((s.dma n.val).sram = false → SameMem s t) ∧ SameVault s t) ∧
  (∀ (s : State) (n : Fin 16) (code detail : Nat), s.coreClk = true → s.dmaPortWaits n.val = false → (s.dma n.val).commits = 0 →
    (s.dma n.val).fin = some (code, detail) → fieldGet (dword (s.dma n.val).words 0) 30 1 = 0 → (s.dma n.val).stop = 1 ∨ (s.dma
    n.val).stop = 0 ∧ code ≠ 0 ∧ s.on (DMA_CH_CFG__HALT_ON_BAD n.val) = true → ∃ t, exec (.dmaDescEnd n) s = .next t ∧ t.dmaState
    n.val = 3 ∧ t.get (DMA_CH_STATE__PAUSE_CAUSE n.val) = (if (s.dma n.val).stop = 1 then 1 else 4) ∧ t.get (DMA_CH_LAST__CODE
    n.val) = code % 256 ∧ t.get (DMA_CH_LAST__DETAIL n.val) = detail % 256 ∧ t.on (DMA_CH_LAST__VALID n.val) = true ∧
    OnlyRegsBelow evBase [AX_STATUS (dmaAxis (s.dma n.val).words true)] s t ∧ ((s.dma n.val).sram = false → SameMem s t) ∧
    SameVault s t) ∧
  (∀ (s : State) (n : Fin 16) (code detail : Nat), s.coreClk = true → s.dmaPortWaits n.val = false → (s.dma n.val).commits = 0 →
    (s.dma n.val).fin = some (code, detail) → fieldGet (dword (s.dma n.val).words 0) 30 1 = 0 → (s.dma n.val).stop = 0 → code = 0
    ∨ s.on (DMA_CH_CFG__HALT_ON_BAD n.val) = false → ∃ t, exec (.dmaDescEnd n) s = .next t ∧ t.dmaState n.val = 1 ∧ (t.dma
    n.val).words = [] ∧ t.dmaCur n.val = (if dmaPattern (s.dma n.val).words = 7 ∧ code = 0 then (dword (s.dma n.val).words
    1).toNat + 2 ^ 32 * (dword (s.dma n.val).words 2).toNat else s.dmaCur n.val + 32) % 2 ^ 64 ∧ t.get (DMA_CH_LAST__CODE n.val) =
    code % 256 ∧ t.get (DMA_CH_LAST__DETAIL n.val) = detail % 256 ∧ t.on (DMA_CH_LAST__VALID n.val) = true ∧ OnlyRegsBelow evBase
    [AX_STATUS (dmaAxis (s.dma n.val).words true)] s t ∧ ((s.dma n.val).sram = false → SameMem s t) ∧ SameVault s t) ∧
  (∀ (s : State) (n : Fin 16), s.coreClk = true → s.dmaPortWaits n.val = false → (s.dma n.val).commits = 0 → (s.dma n.val).fin =
    none → (s.dma n.val).stop ≠ 0 → (s.dma n.val).issued = false → (s.dma n.val).words ≠ [] → (s.dma n.val).idx < dmaCount (s.dma
    n.val).words → ∃ t, exec (.dmaDescEnd n) s = .next t ∧ t.get (DMA_CH_LAST__CODE n.val) = 6 ∧ t.get (DMA_CH_LAST__DETAIL n.val)
    = (if (s.dma n.val).stop = 3 then 2 else 1) ∧ t.on (DMA_CH_LAST__VALID n.val) = true ∧ OnlyRegsBelow evBase [AX_STATUS
    (dmaAxis (s.dma n.val).words true)] s t ∧ ((s.dma n.val).sram = false → SameMem s t) ∧ SameVault s t) ∧
  (∀ (s : State) (n : Fin 16), (s.dma n.val).fin = none ∨ s.coreClk = false ∨ s.dmaPortWaits n.val = true ∨ (s.dma n.val).commits
    ≠ 0 → (s.dma n.val).stop = 0 ∨ (s.dma n.val).issued = true → exec (.dmaDescEnd n) s = .next s) ∧
  (∀ (s : State) (w : Writer) (n : Fin 16), s.may w (DMA_CH_CTRL n.val) 2 = true → s.dmaState n.val = 1 ∨ s.dmaState n.val = 2 →
    s.dmaFetching n.val = false ∨ (s.dma n.val).fetchOut = true → ∃
    t, exec (.dmaChStop w n) s = .next t ∧ t.dmaState n.val = 2 ∧ (t.dma n.val).stop = max (s.dma n.val).stop 1 ∧ OnlyRegs
    [PWR_WAKE_CAUSE, DMA_GLOBAL_STATUS, 0x90110 + 0x40 * n.val] s t ∧ SameMem s t ∧ SameVault s t) ∧
  (∀ (s : State) (w : Writer) (n : Fin 16), s.may w (DMA_CH_CTRL n.val) 2 = true → s.dmaFetching n.val = true →
    (s.dma n.val).fetchOut = false → (s.dma n.val).stop < 2 → ∃ t, exec (.dmaChStop w n) s = .next t ∧ t.dmaState n.val = 3 ∧
    t.get (DMA_CH_STATE__PAUSE_CAUSE n.val) = 1 ∧ OnlyRegsBelow evBase [PWR_WAKE_CAUSE] s t ∧ SameMem s t ∧ SameVault s t) ∧
  (∀ (s : State) (w : Writer) (n : Fin 16), s.may w (DMA_CH_CTRL n.val) 8 = true → s.dmaFetching n.val = true → (s.dma
    n.val).fetchOut = false → ∃ t, exec (.dmaChReset w n) s = .next t ∧ t.dmaState n.val = (if s.on RED_STATUS__DMA_OUT then 4
    else 0) ∧ OnlyRegsBelow evBase [PWR_WAKE_CAUSE] s t ∧ SameMem s t ∧ SameVault s t) ∧
  (∀ (s : State) (w : Writer) (n : Fin 16), s.may w (DMA_CH_CTRL n.val) 2 = true → s.dmaState n.val ≠ 1 → s.dmaState n.val ≠ 2 → ∃
    t, exec (.dmaChStop w n) s = .next t ∧ OnlyRegs [PWR_WAKE_CAUSE] s t ∧ SameMem s t ∧ SameVault s t) ∧
  (∀ (s : State) (w : Writer) (n : Fin 16), s.may w (DMA_CH_CTRL n.val) 4 = true → s.dmaState n.val = 3 → (s.dma n.val).ended =
    false → ∃ t, exec (.dmaChResume w n) s = .next t ∧ t.dmaState n.val = 1 ∧ t.dmaCur n.val = ((s.dma n.val).next.getD (s.dmaCur
    n.val)) % 2 ^ 64 ∧ OnlyRegs [PWR_WAKE_CAUSE, DMA_GLOBAL_STATUS, 0x90110 + 0x40 * n.val, DMA_CH_CUR_LO n.val, DMA_CH_CUR_HI
    n.val] s t ∧ SameMem s t ∧ SameVault s t) ∧
  (∀ (s : State) (w : Writer) (n : Fin 16), s.may w (DMA_CH_CTRL n.val) 4 = true → s.dmaState n.val ≠ 3 → ∃ t, exec (.dmaChResume w
    n) s = .next t ∧ OnlyRegs [PWR_WAKE_CAUSE] s t ∧ SameMem s t ∧ SameVault s t) ∧
  (∀ (s : State) (w : Writer) (n : Fin 16), s.may w (DMA_CH_CTRL n.val) 8 = true → s.dmaState n.val = 3 ∨ s.dmaState n.val = 4 → ∃
    t, exec (.dmaChReset w n) s = .next t ∧ t.dmaState n.val = (if s.on RED_STATUS__DMA_OUT then 4 else 0) ∧ (t.dma n.val).words =
    [] ∧ OnlyRegs [PWR_WAKE_CAUSE, DMA_GLOBAL_STATUS, 0x90110 + 0x40 * n.val] s t ∧ SameMem s t ∧ SameVault s t) ∧
  (∀ (s : State) (w : Writer) (n : Fin 16), s.may w (DMA_CH_CTRL n.val) 8 = true → s.dmaState n.val = 1 ∨ s.dmaState n.val = 2 →
    s.dmaFetching n.val = false ∨ (s.dma n.val).fetchOut = true → ∃
    t, exec (.dmaChReset w n) s = .next t ∧ t.dmaState n.val = 2 ∧ (t.dma n.val).stop = max (s.dma n.val).stop 2 ∧ OnlyRegs
    [PWR_WAKE_CAUSE, DMA_GLOBAL_STATUS, 0x90110 + 0x40 * n.val] s t ∧ SameMem s t ∧ SameVault s t) ∧
  (∀ (s : State) (w : Writer) (n : Fin 16), s.may w (DMA_CH_CTRL n.val) 8 = true → s.dmaState n.val = 0 → ∃ t, exec (.dmaChReset w
    n) s = .next t ∧ OnlyRegs [PWR_WAKE_CAUSE] s t ∧ SameMem s t ∧ SameVault s t)

/-- Axis requests (R156 to R161, R217, R219, R352, R358, R488). LAST_REQ answers each: 1 for a reserved target, 1 in OFF in
device-SAFE, 7 while a request or a close is in progress, 0 at once for the state that the axis is in. Of the others: SAFE
from OFF (armed and released, with no basting check), COAST, CATCH, RUN or HOLD is entered with cause 1, and returns the
setpoint to 0; leaving OFF gets 4 while disarmed, and 7 during a basting check; RUN from OFF with every condition of its start
begins a close; COAST from OFF of a table-mode axis with its voltages is entered, and with no conditions missing CATCH from
COAST is; OFF from COAST is taken at once, and no other axis changes its state; HOLD from RUN waits for the sample; RUN from a
HOLD with its outputs on begins a close; OFF from RUN or HOLD in carrier mode waits for the sample, and COAST or OFF in table
mode, with no recovery, waits for zero torque, or gets 3 while pulse-off is blocked; OFF from SAFE is entered where no cause is
present and nothing holds it, and gets 8 or, held by the sequencer, 4 otherwise; any target in FAULT, RUN or HOLD from COAST,
and CATCH, RUN or HOLD from SAFE get 1. FAULT_CLR moves FAULT to SAFE once its latched causes have gone, with 8 before and 1 in
another state; only firmware releases RST_HOLD, and a host's attempt is recorded; an established safe state moves a latched
axis to FAULT, keeps another in SAFE, and concerns no axis outside SAFE. -/
def Obligations.AxisRequests : Prop :=
  (∀ (s : State) (w : Writer) (a : Fin 8) (k : Fin 16), s.may w (AX_CTRL a.val) (BitVec.ofNat 32 (k.val + 16)) = true → 6 ≤ k.val →
    ∃ t, exec (.axRequest w a k) s = .next t ∧ t.get (AX_STATE__LAST_REQ a.val) = 1 ∧ t.get (AX_STATE__LAST_TARGET a.val) = k.val ∧
    t.axState a.val = s.axState a.val ∧ OnlyRegs [PWR_WAKE_CAUSE, AX_STATE a.val] s t ∧ SameMem s t ∧ SameVault s t) ∧
  (∀ (s : State) (w : Writer) (a : Fin 8) (k : Fin 16), s.may w (AX_CTRL a.val) (BitVec.ofNat 32 (k.val + 16)) = true → k.val < 6 →
    s.axState a.val ≠ 0 ∨ s.on RED_STATUS__DSAFE = false → (s.ax a.val).req ≠ none ∨ s.on (AX_STATE__CLOSING a.val) = true → ∃ t,
    exec (.axRequest w a k) s = .next t ∧ t.get
    (AX_STATE__LAST_REQ a.val) = 7 ∧ t.axState a.val = s.axState a.val ∧ OnlyRegs [PWR_WAKE_CAUSE, AX_STATE a.val] s t ∧ SameMem s
    t ∧ SameVault s t) ∧
  (∀ (s : State) (w : Writer) (a : Fin 8) (k : Fin 16), s.may w (AX_CTRL a.val) (BitVec.ofNat 32 (k.val + 16)) = true → k.val < 6 →
    s.axState a.val = 0 → s.on RED_STATUS__DSAFE = true → ∃ t,
    exec (.axRequest w a k) s = .next t ∧ t.get (AX_STATE__LAST_REQ a.val) = 1 ∧ t.axState a.val = s.axState a.val ∧ OnlyRegs
    [PWR_WAKE_CAUSE, AX_STATE a.val] s t ∧ SameMem s t ∧ SameVault s t) ∧
  (∀ (s : State) (w : Writer) (a : Fin 8) (k : Fin 16), s.may w (AX_CTRL a.val) (BitVec.ofNat 32 (k.val + 16)) = true → k.val < 6 →
    (s.ax a.val).req = none → s.on (AX_STATE__CLOSING a.val) = false → s.axState a.val = k.val → k.val ≠ 0 ∨ s.on RED_STATUS__DSAFE
    = false → ∃ t, exec (.axRequest w a k) s = .next t ∧ t.get (AX_STATE__LAST_REQ a.val) = 0 ∧ (t.ax a.val).req = none ∧ t.axState
    a.val = s.axState a.val ∧ OnlyRegs [PWR_WAKE_CAUSE, AX_STATE a.val] s t ∧ SameMem s t ∧ SameVault s t) ∧
  (∀ (s : State) (w : Writer) (a : Fin 8) (k : Fin 16), s.may w (AX_CTRL a.val) (BitVec.ofNat 32 (k.val + 16)) = true → 1 ≤ k.val →
    k.val < 6 → (s.ax a.val).req = none → s.on (AX_STATE__CLOSING a.val) = false → s.axState a.val = 0 → s.on RED_STATUS__DSAFE =
    false → s.basting a.val = true ∨ s.on SAF_STATUS__ARMED = false → ∃ t, exec (.axRequest w a k) s = .next t ∧ t.get
    (AX_STATE__LAST_REQ a.val) = (if s.basting a.val then 7 else 4) ∧ t.axState a.val = s.axState a.val ∧ OnlyRegs [PWR_WAKE_CAUSE,
    AX_STATE a.val] s t ∧ SameMem s t ∧ SameVault s t) ∧
  (∀ (s : State) (w : Writer) (a : Fin 8), s.may w (AX_CTRL a.val) 21 = true → s.axState a.val = 0 ∧ s.on RED_STATUS__DSAFE = false
    ∧ s.basting a.val = false ∧ s.on SAF_STATUS__ARMED = true ∧ s.sys.released = true ∨ 1 ≤ s.axState a.val ∧ s.axState a.val ≤ 4 →
    (s.ax a.val).req = none → s.on (AX_STATE__CLOSING a.val) = false → ∃ t, exec (.axRequest w a 5) s = .next t ∧ t.axState a.val =
    5 ∧ t.get (AX_STATE__SAFE_CAUSE a.val) = 1 ∧ t.get (AX_STATE__LAST_REQ a.val) = 0 ∧ t.rd (AX_SETPOINT a.val) = 0 ∧
    OnlyRegsBelow 0x2000 [PWR_WAKE_CAUSE] s t ∧ SameMem s t ∧ SameVault s t) ∧
  (∀ (s : State) (w : Writer) (a : Fin 8), s.may w (AX_CTRL a.val) 19 = true → s.axState a.val = 0 → (s.ax a.val).req = none → s.on
    (AX_STATE__CLOSING a.val) = false → s.on RED_STATUS__DSAFE = false → s.basting a.val = false → s.on SAF_STATUS__ARMED = true →
    s.bindOk a.val = true → s.startPosOk a.val = true → s.islandsReady a.val = true → s.slotFilled a.val = true → s.startBlocked
    a.val = false → ∃ t, exec (.axRequest w a 3) s = .next t ∧ t.get (AX_STATE__LAST_REQ a.val) = 0 ∧ t.on (AX_STATE__CLOSING
    a.val) = true ∧ (t.ax a.val).req = some { target := 3 } ∧ (t.ax a.val).closeSet = s.get (AX_CFG__ACTIVE_SET a.val) ∧ t.axState
    a.val = s.axState a.val ∧ OnlyRegs [PWR_WAKE_CAUSE, AX_STATE a.val] s t ∧ SameMem s t ∧ SameVault s t) ∧
  (∀ (s : State) (w : Writer) (a : Fin 8), s.may w (AX_CTRL a.val) 17 = true → s.axState a.val = 0 → (s.ax a.val).req = none → s.on
    (AX_STATE__CLOSING a.val) = false → s.on RED_STATUS__DSAFE = false → s.basting a.val = false → s.on SAF_STATUS__ARMED = true →
    s.tableMode a.val = true → s.bindOk a.val = true → s.on (TM_VSRC__EN a.val) = true → ∃ t, exec (.axRequest w a 1) s = .next t ∧
    t.get (AX_STATE__LAST_REQ a.val) = 0 ∧ t.axState a.val = 1 ∧ (t.ax a.val).req = none ∧ t.get (TM_STATUS__POS_SRC a.val) = 3 ∧
    OnlyRegsBelow 0x2000 [PWR_WAKE_CAUSE] s t ∧ SameMem s t ∧ SameVault s t) ∧
  (∀ (s : State) (w : Writer) (a : Fin 8), s.may w (AX_CTRL a.val) 16 = true → s.axState a.val = 1 → (s.ax a.val).req = none → s.on
    (AX_STATE__CLOSING a.val) = false → ∃ t, exec (.axRequest w a 0) s = .next t ∧ t.axState a.val = 0 ∧ t.get (AX_STATE__LAST_REQ
    a.val) = 0 ∧ (t.ax a.val).req = none ∧ t.rd (AX_SETPOINT a.val) = 0 ∧ (∀ b : Fin 8, b ≠ a → t.axState b.val = s.axState b.val)
    ∧ OnlyRegsBelow 0x2000 [PWR_WAKE_CAUSE] s t ∧ SameMem s t ∧ SameVault s t) ∧
  (∀ (s : State) (w : Writer) (a : Fin 8), s.may w (AX_CTRL a.val) 18 = true → s.axState a.val = 1 → (s.ax a.val).req = none →
    s.on (AX_STATE__CLOSING a.val) = false → s.startBlocked a.val = false → s.islandsReady a.val = true → s.slotFilled a.val =
    true → ∃ t, exec (.axRequest w a 2) s = .next t ∧ t.get (AX_STATE__LAST_REQ a.val) = 0 ∧ (t.ax a.val).req.map (·.target) =
    some 2 ∧ t.on (AX_STATE__CLOSING a.val) = true ∧ t.get (TM_STATUS__CATCH_PHASE a.val) = 1 ∧ OnlyRegsBelow 0x2000
    [PWR_WAKE_CAUSE] s t ∧ SameMem s t ∧ SameVault s t) ∧
  (∀ (s : State) (w : Writer) (a : Fin 8), s.may w (AX_CTRL a.val) 20 = true → s.axState a.val = 3 → (s.ax a.val).req = none → s.on
    (AX_STATE__CLOSING a.val) = false → (s.tm a.val).recov = 0 → s.on (SAF_AX_STAT__SS1 a.val) = false → ∃ t, exec (.axRequest w a
    4) s = .next t ∧ t.get (AX_STATE__LAST_REQ a.val) = 0 ∧ (t.ax a.val).req = some { target := 4 } ∧ t.axState a.val = s.axState
    a.val ∧ OnlyRegs [PWR_WAKE_CAUSE, AX_STATE a.val] s t ∧ SameMem s t ∧ SameVault s t) ∧
  (∀ (s : State) (w : Writer) (a : Fin 8), s.may w (AX_CTRL a.val) 19 = true → s.axState a.val = 4 → (s.ax a.val).req = none → s.on
    (AX_STATE__CLOSING a.val) = false → (s.ax a.val).holdOut = false → ∃ t, exec (.axRequest w a 3) s = .next t ∧ t.get
    (AX_STATE__LAST_REQ a.val) = 0 ∧ t.on (AX_STATE__CLOSING a.val) = true ∧ (t.ax a.val).req = some { target := 3 } ∧ t.axState
    a.val = s.axState a.val ∧ OnlyRegs [PWR_WAKE_CAUSE, AX_STATE a.val] s t ∧ SameMem s t ∧ SameVault s t) ∧
  (∀ (s : State) (w : Writer) (a : Fin 8), s.may w (AX_CTRL a.val) 16 = true → s.axState a.val = 3 ∨ s.axState a.val = 4 → (s.ax
    a.val).req = none → s.on (AX_STATE__CLOSING a.val) = false → s.tableMode a.val = false → (s.tm a.val).recov = 0 → ∃ t, exec
    (.axRequest w a 0) s = .next t ∧ t.get (AX_STATE__LAST_REQ a.val) = 0 ∧ (t.ax a.val).req = some { target := 0 } ∧ t.axState
    a.val = s.axState a.val ∧ OnlyRegs [PWR_WAKE_CAUSE, AX_STATE a.val] s t ∧ SameMem s t ∧ SameVault s t) ∧
  (∀ (s : State) (w : Writer) (a : Fin 8) (k : Fin 16), s.may w (AX_CTRL a.val) (BitVec.ofNat 32 (k.val + 16)) = true → k.val ≤ 1 →
    (s.ax a.val).req = none → s.on (AX_STATE__CLOSING a.val) = false → s.axState a.val = 3 ∨ s.axState a.val = 4 → s.tableMode
    a.val = true → (s.tm a.val).recov = 0 → ∃ t, exec (.axRequest w a k) s = .next t ∧ t.get (AX_STATE__LAST_REQ a.val) = (if s.on
    (AX_STATE__PO_BLOCK a.val) then 3 else 0) ∧ (t.tm a.val).stopTo = (if s.on (AX_STATE__PO_BLOCK a.val) then (s.tm a.val).stopTo
    else if k.val = 0 then 2 else 1) ∧ t.axState a.val = s.axState a.val ∧ OnlyRegs [PWR_WAKE_CAUSE, AX_STATE a.val] s t ∧ SameMem
    s t ∧ SameVault s t) ∧
  (∀ (s : State) (w : Writer) (a : Fin 8), s.may w (AX_CTRL a.val) 16 = true → s.axState a.val = 5 → (s.ax a.val).req = none → s.on
    (AX_STATE__CLOSING a.val) = false → s.anyCause a.val = false → s.on (AX_STATE__SAF_HOLD a.val) = false → s.on
    (AX_STATE__RST_HOLD a.val) = false → s.on (AX_STATE__ASC_ACTIVE a.val) = false → ∃ t, exec (.axRequest w a 0) s = .next t ∧
    t.get (AX_STATE__LAST_REQ a.val) = 0 ∧ t.axState a.val = 0 ∧ (t.ax a.val).req = none ∧ (t.ax a.val).hold = 0 ∧ OnlyRegsBelow
    0x2000 [PWR_WAKE_CAUSE] s t ∧ SameMem s t ∧ SameVault s t) ∧
  (∀ (s : State) (w : Writer) (a : Fin 8), s.may w (AX_CTRL a.val) 16 = true → s.axState a.val = 5 → (s.ax a.val).req = none → s.on
    (AX_STATE__CLOSING a.val) = false → s.anyCause a.val = true → ∃ t, exec (.axRequest w a 0) s = .next t ∧ t.get
    (AX_STATE__LAST_REQ a.val) = (if s.on (AX_STATE__SAF_HOLD a.val) then 4 else 8) ∧ t.axState a.val = s.axState a.val ∧ OnlyRegs
    [PWR_WAKE_CAUSE, AX_STATE a.val] s t ∧ SameMem s t ∧ SameVault s t) ∧
  (∀ (s : State) (w : Writer) (a : Fin 8) (k : Fin 16), s.may w (AX_CTRL a.val) (BitVec.ofNat 32 (k.val + 16)) = true → k.val < 6 →
    (s.ax a.val).req = none → s.on (AX_STATE__CLOSING a.val) = false → s.axState a.val = 6 ∨ s.axState a.val = 5 ∧ 2 ≤ k.val ∧
    k.val ≤ 4 ∨ s.axState a.val = 1 ∧ (k.val = 3 ∨ k.val = 4) → ∃ t, exec (.axRequest w a k) s = .next t ∧ t.get
    (AX_STATE__LAST_REQ a.val) = 1 ∧ t.axState a.val = s.axState a.val ∧ OnlyRegs [PWR_WAKE_CAUSE, AX_STATE a.val] s t ∧ SameMem s
    t ∧ SameVault s t) ∧
  (∀ (s : State) (w : Writer) (a : Fin 8), s.may w (AX_CTRL a.val) 256 = true → s.axState a.val = 6 → (s.ax a.val).latched.any (fun
    c => if c = 4 then (s.ax a.val).whyLatched.any (s.whyStands a.val) else s.causePresent a.val c) = false → ∃ t, exec
    (.axFaultClr w a) s = .next t ∧ t.axState a.val = 5 ∧ (t.ax a.val).latched = [] ∧ t.get (AX_STATE__LAST_REQ a.val) = 0 ∧
    OnlyRegsBelow 0x2000 [PWR_WAKE_CAUSE] s t ∧ SameMem s t ∧ SameVault s t) ∧
  (∀ (s : State) (w : Writer) (a : Fin 8), s.may w (AX_CTRL a.val) 256 = true → s.axState a.val ≠ 6 ∨ (s.ax a.val).latched.any (fun
    c => if c = 4 then (s.ax a.val).whyLatched.any (s.whyStands a.val) else s.causePresent a.val c) = true → ∃ t, exec (.axFaultClr
    w a) s = .next t ∧ t.get (AX_STATE__LAST_REQ a.val) = (if s.axState a.val = 6 then 8 else 1) ∧ t.axState a.val = s.axState
    a.val ∧ OnlyRegs [PWR_WAKE_CAUSE, AX_STATE a.val] s t ∧ SameMem s t ∧ SameVault s t) ∧
  (∀ (s : State) (n : Fin 5) (a : Fin 8), s.may (.firmware n) (AX_CTRL a.val) 512 = true → ∃ t, exec (.axFwRelease (.firmware n) a)
    s = .next t ∧ t.on (AX_STATE__RST_HOLD a.val) = false ∧ OnlyRegs [AX_STATE a.val] s t ∧ SameMem s t ∧ SameVault s t) ∧
  (∀ (s : State) (p : Fin 4) (a : Fin 8), s.may (.host p) (AX_CTRL a.val) 512 = true → ∃ t, exec (.axFwRelease (.host p) a) s =
    .next t ∧ t.rd (AX_STATE a.val) = s.rd (AX_STATE a.val) ∧ t.on (HP_DENY_INFO__VALID p.val) = true ∧ OnlyRegsBelow evBase
    [PWR_WAKE_CAUSE, HP_DENY_ADDR p.val, (HP_DENY_INFO__VALID p.val).addr, HP_EVENT] s t ∧ SameMem s t ∧ SameVault s t) ∧
  (∀ (s : State) (a : Fin 8), s.axState a.val = 5 → (s.ax a.val).latched = [] → ∃ t, exec (.safeStateEstablished a) s = .next t ∧
    t.axState a.val = 5 ∧ (t.ax a.val).safeDone = true ∧ OnlyRegs [RED_FL_HEAD] s t ∧ SameMem s t ∧ SameVault s t) ∧
  (∀ (s : State) (a : Fin 8), s.axState a.val = 5 → (s.ax a.val).latched ≠ [] → ∃ t, exec (.safeStateEstablished a) s = .next t ∧
    t.axState a.val = 6 ∧ (t.ax a.val).latched = (s.ax a.val).latched ∧ OnlyRegsBelow 0x2000 [] s t ∧ SameMem s t ∧ SameVault s t) ∧
  (∀ (s : State) (a : Fin 8), s.axState a.val ≠ 5 → exec (.safeStateEstablished a) s = .next s)

/-- Samples, control steps and outputs (R164 to R170, R175 to R183, R487). With the engines' clock, a due sample instant of an
axis in RUN makes a full step and an output due, on the engine that serves it, unless a loss of the rotor that the same sample
finds begins a recovery; it enters HOLD on a request for it or a following error that ordered it, and OFF on a request in
carrier mode; in table-mode HOLD a correction step becomes due, and in carrier-mode HOLD the state stays; at t2 of a close the
set becomes active; while a close waits for its output, no step is added. An axis in CATCH, RUN or HOLD with no engine goes to
SAFE with cause 12; an instant that is not due, or of another axis with no close so far, does nothing. A full step counts and
readies its output; with supervision off, or an error at most its limit, or FE_ACT 0, the state stays; an error above it for
FE_TIME with FE_ACT 2 or 3 is SAFE with cause 5; an uncorrectable coefficient error takes the axis from RUN to HOLD, and
abandons a close from OFF with code 2; a correction step ends with the state as it is; without a step due nothing happens. The
output instant applies a ready output, else counts an overrun; it ends a close in RUN, and the fourth overrun in succession is
SAFE with cause 12; without one outstanding nothing happens. The close check lets the close go on, or refuses the request with
code 2. The end of HOLD's time is SAFE with cause 6, but of a close that waits for its sample only an event. A word written
through the window of an open bank is in the bank. -/
def Obligations.SamplesAndSteps : Prop :=
  (∀ (s : State) (a : Fin 8) (e : Nat), s.coreClk = true → s.sampleDue a.val = true → s.axState a.val = 3 → (s.ax a.val).closing =
    0 → (s.tm a.val).catchPh = 0 → (s.tm a.val).stopTo = 0 → (s.tm a.val).recov = 0 → (s.ax a.val).feHold = false → (s.ax
    a.val).req.map (·.target) ≠ some 4 → s.tableMode a.val = false → (s.ax a.val).req.map (·.target) ≠ some 0 → s.engineFor a.val =
    some e → ∃ t, exec (.sampleInstant a) s = .next t ∧ (t.ax a.val).stepDue = 1 ∧ (t.ax a.val).outDue = true ∧ (t.ax a.val).ready
    = false ∧ t.axState a.val = 3 ∧ t.get (AX_STATUS__ENGINE a.val) = e ∧ (t.ax a.val).r1 = wordFlt (s.rd (AX_REF1 a.val)) ∧ (t.ax
    a.val).time = s.time ∧ OnlyRegsBelow 0x10000 [] s t ∧ SameMem s t ∧ SameVault s t) ∧
  (∀ (s : State) (a : Fin 8) (e : Nat), s.coreClk = true → s.sampleDue a.val = true → s.axState a.val = 3 → (s.ax a.val).closing =
    0 → (s.tm a.val).catchPh = 0 → (s.tm a.val).stopTo = 0 → (s.tm a.val).recov = 0 → (s.ax a.val).feHold = false → (s.ax
    a.val).req.map (·.target) ≠ some 4 → s.tableMode a.val = true → s.engineFor a.val = some e → ∃ t, exec (.sampleInstant a) s =
    .next t ∧ ((t.tm a.val).recov = 0 → (t.tm a.val).stopTo = 0 → (t.ax a.val).stepDue = 1 ∧ (t.ax a.val).outDue = true ∧ (t.ax
    a.val).ready = false) ∧ t.get (AX_STATUS__ENGINE a.val) = e ∧ (t.ax a.val).r1 = wordFlt (s.rd (AX_REF1 a.val)) ∧ (t.ax
    a.val).time = s.time ∧ OnlyRegsBelow 0x8000 [PWR_STATE] s t ∧ SameMem s t ∧ SameVault s t) ∧
  (∀ (s : State) (a : Fin 8), s.coreClk = true → s.sampleDue a.val = true → s.axState a.val = 3 → (s.ax a.val).closing = 0 → (s.tm
    a.val).catchPh = 0 → (s.ax a.val).feHold = true ∨ (s.ax a.val).req.map (·.target) = some 4 → s.engineFor a.val ≠ none → ∃ t,
    exec (.sampleInstant a) s = .next t ∧ t.axState a.val = 4 ∧ (t.ax a.val).outDue = false ∧ OnlyRegsBelow 0x8000 [PWR_STATE] s t
    ∧ SameMem s t ∧ SameVault s t) ∧
  (∀ (s : State) (a : Fin 8), s.coreClk = true → s.sampleDue a.val = true → s.axState a.val = 3 ∨ s.axState a.val = 4 → (s.ax
    a.val).closing = 0 → (s.tm a.val).catchPh = 0 → (s.ax a.val).feHold = false → s.tableMode a.val = false → (s.ax a.val).req.map
    (·.target) = some 0 → s.engineFor a.val ≠ none → ∃ t, exec (.sampleInstant a) s = .next t ∧ t.axState a.val = 0 ∧ (t.ax
    a.val).req = none ∧ t.rd (AX_SETPOINT a.val) = 0 ∧ OnlyRegsBelow 0x8000 [PWR_STATE] s t ∧ SameMem s t ∧ SameVault s t) ∧
  (∀ (s : State) (a : Fin 8), s.coreClk = true → s.sampleDue a.val = true → s.axState a.val = 4 → (s.ax a.val).closing = 0 → (s.tm
    a.val).catchPh = 0 → s.tableMode a.val = true ∨ (s.ax a.val).req.map (·.target) ≠ some 0 → s.engineFor a.val ≠ none → ∃ t, exec
    (.sampleInstant a) s = .next t ∧ t.axState a.val = 4 ∧ (s.tableMode a.val = true → (t.ax a.val).stepDue = 2) ∧ OnlyRegsBelow
    0x10000 [] s t ∧ SameMem s t ∧ SameVault s t) ∧
  (∀ (s : State) (a : Fin 8), s.coreClk = true → s.sampleDue a.val = true → (s.ax a.val).closing = 2 → s.engineFor a.val ≠ none →
    (s.ax a.val).closeSet < 2 → ∃ t, exec (.sampleInstant a) s = .next t ∧ (t.ax a.val).closing = 3 ∧ t.get (AX_STATUS__SET_IN_USE
    a.val) = (s.ax a.val).closeSet ∧ (t.ax a.val).stepDue = 1 ∧ (t.ax a.val).outDue = true ∧ t.axState a.val = s.axState a.val ∧
    OnlyRegsBelow 0x10000 [] s t ∧ SameMem s t ∧ SameVault s t) ∧
  (∀ (s : State) (a : Fin 8), s.coreClk = true → s.sampleDue a.val = true → (s.ax a.val).closing = 3 → (s.tm a.val).catchPh ≠ 5 →
    s.engineFor a.val ≠ none → ∃ t, exec (.sampleInstant a) s = .next t ∧ (t.ax a.val).closing = 3 ∧ (t.ax a.val).stepDue = (s.ax
    a.val).stepDue ∧ (t.ax a.val).outDue = (s.ax a.val).outDue ∧ t.axState a.val = s.axState a.val ∧ OnlyRegsBelow 0x10000 [] s t ∧
    SameMem s t ∧ SameVault s t) ∧
  (∀ (s : State) (a : Fin 8), s.coreClk = true → s.sampleDue a.val = true → s.axLive a.val = true → s.engineFor a.val = none → ∃ t,
    exec (.sampleInstant a) s = .next t ∧ t.axState a.val = 5 ∧ t.get (AX_STATE__SAFE_CAUSE a.val) = 12 ∧ SameMem s t ∧ SameVault s
    t) ∧
  (∀ (s : State) (a : Fin 8), s.coreClk = false ∨ s.sampleDue a.val = false ∨ s.axLive a.val = false ∧ (s.ax a.val).closing < 2 →
    exec (.sampleInstant a) s = .next s) ∧
  (∀ (s : State) (a : Fin 8), s.coreClk = true → (s.ax a.val).stepDue = 1 → (wordFlt (s.rd (AX_FE_LIMIT a.val))).m ≤ 0 ∨ s.get
    (AX_FE_CFG__FE_ACT a.val) = 0 ∨ s.axState a.val ≠ 3 → ∃ t, exec (.controlStepDone a none) s = .next t ∧ t.rd (AX_SAMPLE_CNT
    a.val) = s.rd (AX_SAMPLE_CNT a.val) + 1 ∧ (t.ax a.val).stepDue = 0 ∧ (t.ax a.val).ready = true ∧ t.axState a.val = s.axState
    a.val ∧ OnlyRegsBelow 0x10000 [] s t ∧ SameMem s t ∧ SameVault s t) ∧
  (∀ (s : State) (a : Fin 8) (fe : Int × Int) (lim : Flt), s.coreClk = true → (s.ax a.val).stepDue = 1 → s.axState a.val = 3 → fe =
    s.followErr a.val (s.ax a.val).x (s.ax a.val).y (s.ax a.val).r0 → lim = wordFlt (s.rd (AX_FE_LIMIT a.val)) → 0 < lim.m → lim.at
    (min fe.2 (lim.e - 23)) < fe.1 * (2 ^ (fe.2 - min fe.2 (lim.e - 23)).toNat : Nat) → max 1 (s.get (AX_FE_TIME__FE_TIME a.val)) ≤
    (s.ax a.val).feCount + 1 → 2 ≤ s.get (AX_FE_CFG__FE_ACT a.val) → ∃ t, exec (.controlStepDone a none) s = .next t ∧ t.axState
    a.val = 5 ∧ t.get (AX_STATE__SAFE_CAUSE a.val) = 5 ∧ ((s.ax a.val).closing ≠ 3 → t.rd (AX_SAMPLE_CNT a.val) = s.rd
    (AX_SAMPLE_CNT a.val) + 1) ∧ (5 ∈ (t.ax a.val).latched ↔ s.get (AX_FE_CFG__FE_ACT a.val) = 3 ∨ 5 ∈ (s.ax a.val).latched) ∧
    SameMem s t ∧ SameVault s t) ∧
  (∀ (s : State) (a : Fin 8) (b : Fin 16) (k : Fin 256), s.coreClk = true → (s.ax a.val).stepDue = 1 → s.axState a.val = 3 → ∃ t,
    exec (.controlStepDone a (some (b, k))) s = .next t ∧ t.axState a.val = 4 ∧ (t.ax a.val).ready = false ∧ (t.ax a.val).x = (if
    (s.ax a.val).closing = 3 then (s.ax a.val).back.x else (s.ax a.val).x) ∧ OnlyRegsBelow 0x2000 [] s t ∧ SameMem s t ∧ SameVault
    s t) ∧
  (∀ (s : State) (a : Fin 8) (b : Fin 16) (k : Fin 256), s.coreClk = true → (s.ax a.val).stepDue = 1 → s.axState a.val = 0 → (s.ax
    a.val).closing = 3 → ∃ t, exec (.controlStepDone a (some (b, k))) s = .next t ∧ t.axState a.val = 0 ∧ t.on (AX_STATE__CLOSING
    a.val) = false ∧ t.get (AX_STATE__LAST_REQ a.val) = 2 ∧ t.get (AX_STATUS__CHK_RESULT a.val) = 5 ∧ (t.ax a.val).x = (s.ax
    a.val).back.x ∧ OnlyRegsBelow 0x8000 [] s t ∧ SameMem s t ∧ SameVault s t) ∧
  (∀ (s : State) (a : Fin 8) (ecc : Option (Fin 16 × Fin 256)), s.coreClk = true → (s.ax a.val).stepDue = 2 → ∃ t, exec
    (.controlStepDone a ecc) s = .next t ∧ (t.ax a.val).stepDue = 0 ∧ t.axState a.val = s.axState a.val ∧ t.rd (AX_SAMPLE_CNT
    a.val) = s.rd (AX_SAMPLE_CNT a.val) ∧ OnlyRegsBelow 0x10000 [] s t ∧ SameMem s t ∧ SameVault s t) ∧
  (∀ (s : State) (a : Fin 8) (ecc : Option (Fin 16 × Fin 256)), (s.ax a.val).stepDue = 0 ∨ s.coreClk = false → exec
    (.controlStepDone a ecc) s = .next s) ∧
  (∀ (s : State) (a : Fin 8), s.coreClk = true → (s.ax a.val).outDue = true → (s.ax a.val).ready = true → (s.ax a.val).closing = 0
    → ∃ t, exec (.outputInstant a) s = .next t ∧ (t.ax a.val).outDue = false ∧ (t.ax a.val).uApplied = (s.ax a.val).u ∧ (t.ax
    a.val).streak = 0 ∧ t.on (AX_STATUS__OVERRUN a.val) = false ∧ t.axState a.val = s.axState a.val ∧ OnlyRegsBelow 0x10000 [] s t
    ∧ SameMem s t ∧ SameVault s t) ∧
  (∀ (s : State) (a : Fin 8), s.coreClk = true → (s.ax a.val).outDue = true → (s.ax a.val).ready = false → (s.ax a.val).closing = 0
    → (s.ax a.val).streak < 3 → ∃ t, exec (.outputInstant a) s = .next t ∧ (t.ax a.val).outDue = false ∧ (t.ax a.val).streak =
    (s.ax a.val).streak + 1 ∧ t.on (AX_STATUS__OVERRUN a.val) = true ∧ t.get (AX_COUNTS__OVERRUNS a.val) = min 65535 (s.get
    (AX_COUNTS__OVERRUNS a.val) + 1) ∧ (t.ax a.val).uApplied = (s.ax a.val).uApplied ∧ OnlyRegsBelow evBase [AX_STATUS a.val,
    0x100B8 + 0x1000 * a.val, 0x100A4 + 0x1000 * a.val] s t ∧ SameMem s t ∧ SameVault s t) ∧
  (∀ (s : State) (a : Fin 8), s.coreClk = true → (s.ax a.val).outDue = true → (s.ax a.val).ready = false → 3 ≤ (s.ax a.val).streak
    → s.axState a.val = 3 → ∃ t, exec (.outputInstant a) s = .next t ∧ t.axState a.val = 5 ∧ t.get (AX_STATE__SAFE_CAUSE a.val) =
    12 ∧ SameMem s t ∧ SameVault s t) ∧
  (∀ (s : State) (a : Fin 8), s.coreClk = true → (s.ax a.val).outDue = true → (s.ax a.val).closing = 3 → (s.ax a.val).ready = true
    → ∃ t, exec (.outputInstant a) s = .next t ∧ t.axState a.val = 3 ∧ t.on (AX_STATE__CLOSING a.val) = false ∧ (t.ax
    a.val).closing = 0 ∧ (t.ax a.val).uApplied = (s.ax a.val).u ∧ OnlyRegsBelow 0x8000 [PWR_STATE] s t ∧ SameMem s t ∧ SameVault s
    t) ∧
  (∀ (s : State) (a : Fin 8), (s.ax a.val).outDue = false ∨ s.coreClk = false → exec (.outputInstant a) s = .next s) ∧
  (∀ (s : State) (a : Fin 8), s.coreClk = true → (s.ax a.val).closing = 1 → s.closeCheck a.val (s.ax a.val).closeSet = 0 → ∃ t,
    exec (.closeCheckDone a) s = .next t ∧ (t.ax a.val).closing = 2 ∧ t.get (AX_STATUS__CHK_RESULT a.val) = 0 ∧ OnlyRegs [AX_STATUS
    a.val, AX_CHECK a.val] s t ∧ SameMem s t ∧ SameVault s t) ∧
  (∀ (s : State) (a : Fin 8), s.coreClk = true → (s.ax a.val).closing = 1 → s.closeCheck a.val (s.ax a.val).closeSet ≠ 0 → ∃ t,
    exec (.closeCheckDone a) s = .next t ∧ (t.ax a.val).closing = 0 ∧ (t.ax a.val).req = none ∧ t.on (AX_STATE__CLOSING a.val) =
    false ∧ t.get (AX_STATE__LAST_REQ a.val) = 2 ∧ t.get (AX_STATUS__CHK_RESULT a.val) = s.closeCheck a.val (s.ax a.val).closeSet ∧
    t.axState a.val = s.axState a.val ∧ OnlyRegsBelow evBase [AX_STATE a.val, AX_STATUS a.val, AX_CHECK a.val, 0x100A4 + 0x1000 *
    a.val] s t ∧ SameMem s t ∧ SameVault s t) ∧
  (∀ (s : State) (a : Fin 8), (s.ax a.val).closing ≠ 1 ∨ s.coreClk = false → exec (.closeCheckDone a) s = .next s) ∧
  (∀ (s : State) (a : Fin 8), s.axState a.val = 4 → (s.ax a.val).closing < 2 → ∃ t, exec (.holdTimeout a) s = .next t ∧ t.axState
    a.val = 5 ∧ t.get (AX_STATE__SAFE_CAUSE a.val) = 6 ∧ t.rd (AX_SETPOINT a.val) = 0 ∧ OnlyRegsBelow 0x2000 [] s t ∧ SameMem s t ∧
    SameVault s t) ∧
  (∀ (s : State) (a : Fin 8), s.axState a.val = 4 → 2 ≤ (s.ax a.val).closing → ∃ t, exec (.holdTimeout a) s = .next t ∧
    OnlyRegsBelow evBase [0x100A4 + 0x1000 * a.val] s t ∧ SameMem s t ∧ SameVault s t) ∧
  (∀ (s : State) (a : Fin 8), s.axState a.val ≠ 4 → exec (.holdTimeout a) s = .next s) ∧
  (∀ (s : State) (w : Writer) (a : Fin 8) (k : Fin 256) (v : Word), s.may w (AX_BANKWIN a.val k.val) v = true → ∃ t, exec
    (.bankwinWrite w a k v) s = .next t ∧ t.bankRd a.val (s.get (AX_BANKSEL__BANK a.val)) k.val = v ∧ OnlyRegs [PWR_WAKE_CAUSE,
    AX_STATUS a.val] s t ∧ SameMem s t ∧ SameVault s t)

/-- The table's decision and the zero-crossing tracker (R193 to R202, R205 to R209, R219). In CATCH, RUN and HOLD, with the
fast clock and no recovery that waits for its lock, a decision applies a vector: the first one starts the switching and limits
nothing; a later one changes at most three legs, and none where the limiter holds it; the first one after the seed of a catch
ends the tracker's watch and starts the commutation count at 0. The decision of a stop at which the torque reference is 0 and
the torque is within HT ends in COAST, with the tracker locked, or in OFF, or, where the pulse-off is not allowed, refuses the
request with code 3. An axis that makes no decision is left as it is. While the tracker is live and unlocked, an edge next in
order of either direction is accepted; the seventh in succession locks it, and in a recovery starts the new catch; any other
edge places the index anew. While it is locked, an edge next in order and in time is accepted, and any other counts as a glitch
and a rejection; a missing edge is a rejection; the third rejection in succession unlocks the tracker; the timeout without
edges marks the rotor as slow. A tracker that is not live ignores
missing edge and timeout, and an unlocked one the missing edge; an edge at a tracker that is not live, or of a channel that the axis
may not use, changes the comparator's output alone, where the axis switches it on. -/
def Obligations.TableDecisionAndTracker : Prop :=
  (∀ (s : State) (a : Fin 8), s.deciding a.val = true → (s.tm a.val).stopTo = 0 → (s.tm a.val).catchPh ≠ 2 → (s.tm a.val).started =
    false → ∃ t, exec (.tableDecision a) s = .next t ∧ (t.tm a.val).started = true ∧ t.on (TM_STATUS__SW_LIMITED a.val) = false ∧
    t.rd (TM_COMMUT a.val) = s.rd (TM_COMMUT a.val) ∧ (t.tm a.val).vec = ((estimate a.val s).tableVec a.val ((estimate a.val
    s).hysteresis a.val).1 ((estimate a.val s).hysteresis a.val).2) ∧ t.axState a.val = s.axState a.val ∧ OnlyRegsBelow 0x10000 []
    s t ∧ SameMem s t ∧ SameVault s t) ∧
  (∀ (s : State) (a : Fin 8), s.deciding a.val = true → (s.tm a.val).stopTo = 0 → (s.tm a.val).catchPh ≠ 2 → (s.tm a.val).started =
    true → ∃ t, exec (.tableDecision a) s = .next t ∧ (t.tm a.val).started = true ∧ (∃ n : Fin 4, t.rd (TM_COMMUT a.val) = s.rd
    (TM_COMMUT a.val) + BitVec.ofNat 32 n.val ∧ (t.on (TM_STATUS__SW_LIMITED a.val) = true → n = 0 ∧ (t.tm a.val).vec = (s.tm
    a.val).vec)) ∧ t.axState a.val = s.axState a.val ∧ OnlyRegsBelow 0x8000 [] s t ∧ SameMem s t ∧ SameVault s t) ∧
  (∀ (s : State) (a : Fin 8), s.deciding a.val = true → (s.tm a.val).stopTo = 0 → (s.tm a.val).catchPh = 2 → ∃ t, exec
    (.tableDecision a) s = .next t ∧ (t.tm a.val).started = true ∧ (t.tm a.val).catchPh = 3 ∧ (t.tm a.val).verified = 0 ∧ (t.tm
    a.val).tracking = false ∧ t.get (TM_STATUS__CATCH_PHASE a.val) = 3 ∧ t.rd (TM_COMMUT a.val) = 0 ∧ t.axState a.val = s.axState
    a.val ∧ OnlyRegsBelow 0x10000 [] s t ∧ SameMem s t ∧ SameVault s t) ∧
  (∀ (s : State) (a : Fin 8), s.deciding a.val = true → (s.tm a.val).stopTo ≠ 0 → (s.tm a.val).stopTo ≠ 2 → (s.tm a.val).recov = 0
    → (s.tm a.val).catchPh ≠ 2 → (s.tm a.val).tauRef = 0 → ((estimate a.val s).tm a.val).tau.natAbs ≤ s.get (TM_HYST__HT a.val) * 2
    ^ 11 → s.on (AX_STATE__PO_BLOCK a.val) = false → ∃ t, exec (.tableDecision a) s = .next t ∧ t.axState a.val = 1 ∧ t.on
    (TM_STATUS__ZC_LOCK a.val) = true ∧ t.get (TM_STATUS__POS_SRC a.val) = 3 ∧ (t.tm a.val).stopTo = 0 ∧ (t.tm a.val).started =
    false ∧ t.rd (AX_SETPOINT a.val) = 0 ∧ SameMem s t ∧ SameVault s t) ∧
  (∀ (s : State) (a : Fin 8), s.deciding a.val = true → (s.tm a.val).stopTo = 2 → (s.tm a.val).recov = 0 → (s.tm a.val).catchPh ≠ 2
    → (s.tm a.val).tauRef = 0 → ((estimate a.val s).tm a.val).tau.natAbs ≤ s.get (TM_HYST__HT a.val) * 2 ^ 11 → s.on
    (AX_STATE__PO_BLOCK a.val) = false → ∃ t, exec (.tableDecision a) s = .next t ∧ t.axState a.val = 0 ∧ (t.tm a.val).stopTo = 0 ∧
    (t.tm a.val).started = false ∧ t.rd (AX_SETPOINT a.val) = 0 ∧ SameMem s t ∧ SameVault s t) ∧
  (∀ (s : State) (a : Fin 8), s.deciding a.val = true → (s.tm a.val).stopTo ≠ 0 → (s.tm a.val).recov = 0 → (s.tm a.val).catchPh ≠ 2
    → (s.tm a.val).tauRef = 0 → ((estimate a.val s).tm a.val).tau.natAbs ≤ s.get (TM_HYST__HT a.val) * 2 ^ 11 → s.on
    (AX_STATE__PO_BLOCK a.val) = true → ∃ t, exec (.tableDecision a) s = .next t ∧ t.axState a.val = s.axState a.val ∧ t.get
    (AX_STATE__LAST_REQ a.val) = 3 ∧ (t.tm a.val).stopTo = 0 ∧ (t.ax a.val).req = none ∧ OnlyRegsBelow 0x2000 [] s t ∧ SameMem s t
    ∧ SameVault s t) ∧
  (∀ (s : State) (a : Fin 8), s.deciding a.val = true → (s.tm a.val).stopTo ≠ 0 → (s.tm a.val).catchPh ≠ 2 → (s.tm a.val).recov ≠ 0
    ∨ (s.tm a.val).tauRef ≠ 0 ∨ s.get (TM_HYST__HT a.val) * 2 ^ 11 < ((estimate a.val s).tm a.val).tau.natAbs → ∃ t, exec
    (.tableDecision a) s = .next t ∧ t.axState a.val = s.axState a.val ∧ (t.tm a.val).stopTo = (s.tm a.val).stopTo ∧ OnlyRegsBelow
    0x8000 [] s t ∧ SameMem s t ∧ SameVault s t) ∧
  (∀ (s : State) (a : Fin 8), s.deciding a.val = false → exec (.tableDecision a) s = .next s) ∧
  (∀ (s : State) (a : Fin 8) (ph : Fin 3) (rising : Bool) (i d : Nat), s.zcLive a.val = true → s.fcUsable (s.zcChannel a.val
    ph.val) a.val = true → i = zcIndex ph.val rising → d = s.time - (s.tm a.val).tLast → s.on (TM_STATUS__ZC_LOCK a.val) = false →
    ((s.tm a.val).idxOk && i == ((s.tm a.val).idx + 1) % 6 && (decide ((s.tm a.val).accepted ≤ 1) || !(s.tm a.val).rev)) = true ∨
    ((s.tm a.val).idxOk && i == ((s.tm a.val).idx + 5) % 6 && (decide ((s.tm a.val).accepted ≤ 1) || (s.tm a.val).rev)) = true →
    (s.tm a.val).accepted + 1 < 7 → ∃ t, exec (.zcCrossing a ph rising) s = .next t ∧ (t.tm a.val).idx = i ∧ (t.tm a.val).accepted
    = (s.tm a.val).accepted + 1 ∧ (t.tm a.val).rev = ((s.tm a.val).idxOk && i == ((s.tm a.val).idx + 5) % 6 && (decide ((s.tm
    a.val).accepted ≤ 1) || (s.tm a.val).rev)) ∧ (t.tm a.val).tLast = s.time ∧ t.on (TM_STATUS__ZC_LOCK a.val) = false ∧ t.on
    (TM_STATUS__ZC_SLOW a.val) = false ∧ t.rd (TM_ZC_TIME a.val) = BitVec.ofNat 32 s.time ∧ OnlyRegsBelow evBase [AX_STATE a.val,
    TM_STATUS a.val, TM_ZC_ANGLE a.val, TM_ZC_TIME a.val, (FM_CH_STATUS__ZC_OUT (s.zcChannel a.val ph.val)).addr, (TM_EVENT__EVT
    a.val).addr] s t ∧ t.axState a.val = s.axState a.val ∧ SameMem s t ∧ SameVault s t) ∧
  (∀ (s : State) (a : Fin 8) (ph : Fin 3) (rising : Bool) (i d : Nat), s.zcLive a.val = true → s.fcUsable (s.zcChannel a.val
    ph.val) a.val = true → i = zcIndex ph.val rising → d = s.time - (s.tm a.val).tLast → s.on (TM_STATUS__ZC_LOCK a.val) = false →
    ((s.tm a.val).idxOk && i == ((s.tm a.val).idx + 1) % 6 && (decide ((s.tm a.val).accepted ≤ 1) || !(s.tm a.val).rev)) = true ∨
    ((s.tm a.val).idxOk && i == ((s.tm a.val).idx + 5) % 6 && (decide ((s.tm a.val).accepted ≤ 1) || (s.tm a.val).rev)) = true → 7
    ≤ (s.tm a.val).accepted + 1 → (s.tm a.val).recov ≠ 2 → ∃ t, exec (.zcCrossing a ph rising) s = .next t ∧ (t.tm a.val).idx = i
    ∧ (t.tm a.val).rev = ((s.tm a.val).idxOk && i == ((s.tm a.val).idx + 5) % 6 && (decide ((s.tm a.val).accepted ≤ 1) || (s.tm
    a.val).rev)) ∧ t.on (TM_STATUS__ZC_LOCK a.val) = true ∧ t.on (TM_STATUS__ZC_REV a.val) = ((s.tm a.val).idxOk && i == ((s.tm
    a.val).idx + 5) % 6 && (decide ((s.tm a.val).accepted ≤ 1) || (s.tm a.val).rev)) ∧ t.on (TM_STATUS__ZC_SLOW a.val) = false ∧
    t.axState a.val = s.axState a.val ∧ OnlyRegsBelow 0x8000 [PWR_WAKE_CAUSE, PWR_STATE] s t ∧ SameMem s t ∧ SameVault s t) ∧
  (∀ (s : State) (a : Fin 8) (ph : Fin 3) (rising : Bool) (i d : Nat), s.zcLive a.val = true → s.fcUsable (s.zcChannel a.val
    ph.val) a.val = true → i = zcIndex ph.val rising → d = s.time - (s.tm a.val).tLast → s.on (TM_STATUS__ZC_LOCK a.val) = false →
    ((s.tm a.val).idxOk && i == ((s.tm a.val).idx + 1) % 6 && (decide ((s.tm a.val).accepted ≤ 1) || !(s.tm a.val).rev)) = true ∨
    ((s.tm a.val).idxOk && i == ((s.tm a.val).idx + 5) % 6 && (decide ((s.tm a.val).accepted ≤ 1) || (s.tm a.val).rev)) = true → 7
    ≤ (s.tm a.val).accepted + 1 → (s.tm a.val).recov = 2 → ∃ t, exec (.zcCrossing a ph rising) s = .next t ∧ t.on
    (TM_STATUS__ZC_LOCK a.val) = true ∧ (t.tm a.val).recov = 3 ∧ (t.tm a.val).catchPh = 2 ∧ t.get (TM_STATUS__CATCH_PHASE a.val) =
    2 ∧ t.get (TM_STATUS__POS_SRC a.val) = 1 ∧ (t.tm a.val).tauRef = 0 ∧ t.axState a.val = s.axState a.val ∧ OnlyRegsBelow 0x8000
    [PWR_WAKE_CAUSE, PWR_STATE] s t ∧ SameMem s t ∧ SameVault s t) ∧
  (∀ (s : State) (a : Fin 8) (ph : Fin 3) (rising : Bool) (i d : Nat), s.zcLive a.val = true → s.fcUsable (s.zcChannel a.val
    ph.val) a.val = true → i = zcIndex ph.val rising → d = s.time - (s.tm a.val).tLast → s.on (TM_STATUS__ZC_LOCK a.val) = false →
    ((s.tm a.val).idxOk && i == ((s.tm a.val).idx + 1) % 6 && (decide ((s.tm a.val).accepted ≤ 1) || !(s.tm a.val).rev)) = false →
    ((s.tm a.val).idxOk && i == ((s.tm a.val).idx + 5) % 6 && (decide ((s.tm a.val).accepted ≤ 1) || (s.tm a.val).rev)) = false →
    ∃ t, exec (.zcCrossing a ph rising) s = .next t ∧ (t.tm a.val).idxOk = true ∧ (t.tm a.val).idx = i ∧ (t.tm a.val).accepted = 1
    ∧ (t.tm a.val).rev = false ∧ (t.tm a.val).ivals = [] ∧ t.on (TM_STATUS__ZC_SLOW a.val) = false ∧ t.on (TM_STATUS__ZC_LOCK
    a.val) = false ∧ t.get (TM_ZC_ANGLE__INDEX a.val) = i ∧ t.rd (TM_ZC_TIME a.val) = BitVec.ofNat 32 s.time ∧ OnlyRegsBelow
    evBase [AX_STATE a.val, TM_STATUS a.val, TM_ZC_ANGLE a.val, TM_ZC_TIME a.val, (FM_CH_STATUS__ZC_OUT (s.zcChannel a.val
    ph.val)).addr, (TM_EVENT__EVT a.val).addr] s t ∧ t.axState a.val = s.axState a.val ∧ SameMem s t ∧ SameVault s t) ∧
  (∀ (s : State) (a : Fin 8) (ph : Fin 3) (rising : Bool) (i d : Nat), s.zcLive a.val = true → s.fcUsable (s.zcChannel a.val
    ph.val) a.val = true → i = zcIndex ph.val rising → d = s.time - (s.tm a.val).tLast → s.on (TM_STATUS__ZC_LOCK a.val) = true →
    i = (if (s.tm a.val).rev then (s.tm a.val).idx + 5 else (s.tm a.val).idx + 1) % 6 → (3 * (s.tm a.val).ivals.foldl (· + ·) 0 ≤
    24 * d ∧ 24 * d ≤ 5 * (s.tm a.val).ivals.foldl (· + ·) 0 ∧ 3125 ≤ 4 * d) → ∃ t, exec (.zcCrossing a ph rising) s = .next t ∧
    (t.tm a.val).idx = i ∧ (t.tm a.val).rejected = 0 ∧ (t.tm a.val).ivals = (d :: (s.tm a.val).ivals).take 6 ∧ t.on
    (TM_STATUS__ZC_LOCK a.val) = true ∧ t.on (TM_STATUS__ZC_SLOW a.val) = false ∧ t.axState a.val = s.axState a.val ∧
    OnlyRegsBelow 0x8000 [PWR_WAKE_CAUSE, PWR_STATE] s t ∧ SameMem s t ∧ SameVault s t) ∧
  (∀ (s : State) (a : Fin 8) (ph : Fin 3) (rising : Bool) (i d : Nat), s.zcLive a.val = true → s.fcUsable (s.zcChannel a.val
    ph.val) a.val = true → i = zcIndex ph.val rising → d = s.time - (s.tm a.val).tLast → s.on (TM_STATUS__ZC_LOCK a.val) = true →
    i ≠ (if (s.tm a.val).rev then (s.tm a.val).idx + 5 else (s.tm a.val).idx + 1) % 6 ∨ ¬ (3 * (s.tm a.val).ivals.foldl (· + ·) 0
    ≤ 24 * d ∧ 24 * d ≤ 5 * (s.tm a.val).ivals.foldl (· + ·) 0 ∧ 3125 ≤ 4 * d) → (s.tm a.val).rejected < 2 → ∃ t, exec
    (.zcCrossing a ph rising) s = .next t ∧ (t.tm a.val).rejected = (s.tm a.val).rejected + 1 ∧ (t.tm a.val).idx = (s.tm
    a.val).idx ∧ t.on (TM_STATUS__ZC_LOCK a.val) = true ∧ t.get (TM_COUNTS__ZC_GLITCH a.val) = min 65535 (s.get
    (TM_COUNTS__ZC_GLITCH a.val) + 1) ∧ OnlyRegs [TM_STATUS a.val, (TM_COUNTS__ZC_GLITCH a.val).addr, (FM_CH_STATUS__ZC_OUT
    (s.zcChannel a.val ph.val)).addr] s t ∧ SameMem s t ∧ SameVault s t) ∧
  (∀ (s : State) (a : Fin 8) (ph : Fin 3) (rising : Bool) (i d : Nat), s.zcLive a.val = true → s.fcUsable (s.zcChannel a.val
    ph.val) a.val = true → i = zcIndex ph.val rising → d = s.time - (s.tm a.val).tLast → s.on (TM_STATUS__ZC_LOCK a.val) = true →
    i ≠ (if (s.tm a.val).rev then (s.tm a.val).idx + 5 else (s.tm a.val).idx + 1) % 6 ∨ ¬ (3 * (s.tm a.val).ivals.foldl (· + ·) 0
    ≤ 24 * d ∧ 24 * d ≤ 5 * (s.tm a.val).ivals.foldl (· + ·) 0 ∧ 3125 ≤ 4 * d) → 2 ≤ (s.tm a.val).rejected → ∃ t, exec
    (.zcCrossing a ph rising) s = .next t ∧ (t.tm a.val).rejected = 0 ∧ (t.tm a.val).accepted = 0 ∧ (t.tm a.val).idxOk = false ∧
    t.on (TM_STATUS__ZC_LOCK a.val) = false ∧ t.on (TM_STATUS__ZC_SLOW a.val) = false ∧ t.get (TM_COUNTS__ZC_GLITCH a.val) = min
    65535 (s.get (TM_COUNTS__ZC_GLITCH a.val) + 1) ∧ t.axState a.val = s.axState a.val ∧ OnlyRegsBelow 0x8000 [PWR_WAKE_CAUSE,
    PWR_STATE] s t ∧ SameMem s t ∧ SameVault s t) ∧
  (∀ (s : State) (a : Fin 8), s.zcLive a.val = true → s.on (TM_STATUS__ZC_LOCK a.val) = true → (s.tm a.val).rejected < 2 → ∃ t,
    exec (.zcMissing a) s = .next t ∧ (t.tm a.val).rejected = (s.tm a.val).rejected + 1 ∧ OnlyRegs [] s t ∧ SameMem s t ∧ SameVault
    s t) ∧
  (∀ (s : State) (a : Fin 8), s.zcLive a.val = true → s.on (TM_STATUS__ZC_LOCK a.val) = true → 2 ≤ (s.tm a.val).rejected → ∃ t,
    exec (.zcMissing a) s = .next t ∧ t.on (TM_STATUS__ZC_LOCK a.val) = false ∧ t.on (TM_STATUS__ZC_SLOW a.val) = s.on
    (TM_STATUS__ZC_SLOW a.val) ∧ (t.tm a.val).accepted = 0 ∧ (t.tm a.val).rejected = 0 ∧ (t.tm a.val).idxOk = false ∧ t.axState
    a.val = s.axState a.val ∧ OnlyRegsBelow 0x8000 [PWR_WAKE_CAUSE, PWR_STATE] s t ∧ SameMem s t ∧ SameVault s t) ∧
  (∀ (s : State) (a : Fin 8), s.zcLive a.val = false ∨ s.on (TM_STATUS__ZC_LOCK a.val) = false → exec (.zcMissing a) s = .next s) ∧
  (∀ (s : State) (a : Fin 8), s.zcLive a.val = true → ∃ t, exec (.zcTimeout a) s = .next t ∧ t.on (TM_STATUS__ZC_SLOW a.val) = true
    ∧ t.on (TM_STATUS__ZC_LOCK a.val) = s.on (TM_STATUS__ZC_LOCK a.val) ∧ t.axState a.val = s.axState a.val ∧ OnlyRegsBelow 0x8000
    [PWR_WAKE_CAUSE, PWR_STATE] s t ∧ SameMem s t ∧ SameVault s t) ∧
  (∀ (s : State) (a : Fin 8) (ph : Fin 3) (rising : Bool), s.zcLive a.val = false ∨ s.fcUsable (s.zcChannel a.val ph.val) a.val =
    false → exec (.zcCrossing a ph rising) s = .next (s.when (s.zcRef a.val) fun s => s.putB (FM_CH_STATUS__ZC_OUT (s.zcChannel a.val
    ph.val)) rising)) ∧
  (∀ (s : State) (a : Fin 8), s.zcLive a.val = false → exec (.zcTimeout a) s = .next s)

/-- Catch and recovery (R214 to R223). A trigger starts a catch of an axis in COAST that waits for none, and does nothing where
the trigger is not enabled or any other condition of a catch is missing. With both clocks there and the device awake, a close
check that fails refuses the request with code 2; one that passes takes an axis with a source of its angle to CATCH and seeds
the estimator, and one without ends with result 1. The verification waits for its samples; where angle and flux agree it waits
for the hand-over, where the flux or the angle is wrong it returns to COAST with result 3 or 2, and where the pulse-off is not
allowed or a recovery runs, it ends in SAFE with cause 11. The end of the zero time of a recovery starts the acquisition, ends a
stop in COAST or OFF, or is SAFE with cause 11, with loss action 4 where the pulse-off is not allowed; a loss without recovery
is SAFE with cause 11, and so is the time limit of the acquisition. Each does nothing outside its phase. -/
def Obligations.CatchAndRecovery : Prop :=
  (∀ (s : State) (a : Fin 8), (s.tableMode a.val && s.on (TM_CATCH_CFG__TRIG_EN a.val) && decide (s.get (TM_CATCH_CFG__TRIG_DIN
    a.val) < 24) && (s.axState a.val == 1) && (s.ax a.val).req.isNone && !s.on (AX_STATE__CLOSING a.val) && s.on SAF_STATUS__ARMED
    && !(s.on SAF_STATUS__STO_ACT && s.on (SAF_AX_CFG__STO_EN a.val))) = true → ∃ t, exec (.catchTrigger a) s = .next t ∧ t.on
    (AX_STATE__CLOSING a.val) = true ∧ t.get (TM_STATUS__CATCH_PHASE a.val) = 1 ∧ (t.tm a.val).catchPh = 1 ∧ (t.ax a.val).closeSet
    = s.get (AX_CFG__ACTIVE_SET a.val) ∧ t.axState a.val = 1 ∧ OnlyRegs [AX_STATE a.val, TM_STATUS a.val] s t ∧ SameMem s t ∧
    SameVault s t) ∧
  (∀ (s : State) (a : Fin 8), (s.tableMode a.val && s.on (TM_CATCH_CFG__TRIG_EN a.val) && decide (s.get (TM_CATCH_CFG__TRIG_DIN
    a.val) < 24) && (s.axState a.val == 1) && (s.ax a.val).req.isNone && !s.on (AX_STATE__CLOSING a.val) && s.on SAF_STATUS__ARMED
    && !(s.on SAF_STATUS__STO_ACT && s.on (SAF_AX_CFG__STO_EN a.val))) = false → exec (.catchTrigger a) s = .next s) ∧
  (∀ (s : State) (a : Fin 8), (s.tm a.val).catchPh = 1 → s.awake = true → s.coreClk = true → s.fastClk = true → s.closeCheck a.val
    (s.ax a.val).closeSet ≠ 0 → ∃ t, exec (.catchClocksValid a) s = .next t ∧ t.get (AX_STATE__LAST_REQ a.val) = 2 ∧ t.on
    (AX_STATE__CLOSING a.val) = false ∧ t.get (AX_STATUS__CHK_RESULT a.val) = s.closeCheck a.val (s.ax a.val).closeSet ∧ t.get
    (TM_STATUS__CATCH_PHASE a.val) = 0 ∧ (t.tm a.val).catchPh = 0 ∧ (t.ax a.val).req = none ∧ t.axState a.val = s.axState a.val ∧
    ((s.ax a.val).req = none → OnlyRegsBelow evBase [AX_STATE a.val, AX_STATUS a.val, AX_CHECK a.val, AX_EVENT a.val, TM_STATUS
    a.val] s t) ∧ SameMem s t ∧ SameVault s t) ∧
  (∀ (s : State) (a : Fin 8), (s.tm a.val).catchPh = 1 → s.awake = true → s.coreClk = true → s.fastClk = true → s.closeCheck a.val
    (s.ax a.val).closeSet = 0 → s.zcSpd a.val = none → s.axPi a.val = none → ∃ t, exec (.catchClocksValid a) s = .next t ∧ t.get
    (TM_STATUS__CATCH_RESULT a.val) = 1 ∧ t.on (AX_STATE__CLOSING a.val) = false ∧ t.get (TM_STATUS__CATCH_PHASE a.val) = 0 ∧
    (t.tm a.val).catchPh = 0 ∧ (t.ax a.val).req = none ∧ t.axState a.val = s.axState a.val ∧ ((s.ax a.val).req = none →
    OnlyRegsBelow evBase [AX_STATE a.val, AX_STATUS a.val, AX_CHECK a.val, (TM_EVENT__EVT a.val).addr, TM_STATUS a.val] s t) ∧
    SameMem s t ∧ SameVault s t) ∧
  (∀ (s : State) (a : Fin 8), (s.tm a.val).catchPh = 1 → s.awake = true → s.coreClk = true → s.fastClk = true → s.closeCheck a.val
    (s.ax a.val).closeSet = 0 → (s.zcSpd a.val).isSome = true ∨ (s.axPi a.val).isSome = true → ∃ t, exec (.catchClocksValid a) s =
    .next t ∧ t.axState a.val = 2 ∧ t.on (AX_STATE__CLOSING a.val) = false ∧ t.get (TM_STATUS__CATCH_RESULT a.val) = 0 ∧ t.get
    (TM_STATUS__CATCH_PHASE a.val) = 2 ∧ t.get (TM_STATUS__POS_SRC a.val) = 1 ∧ (t.tm a.val).catchPh = 2 ∧ (t.tm a.val).tauRef = 0
    ∧ (t.tm a.val).psiRef = (s.get (TM_PSI_PM__PSI_PM a.val) : Nat) ∧ SameMem s t ∧ SameVault s t) ∧
  (∀ (s : State) (a : Fin 8), (s.tm a.val).catchPh ≠ 1 ∨ s.awake = false ∨ s.coreClk = false ∨ s.fastClk = false → exec
    (.catchClocksValid a) s = .next s) ∧
  (∀ (s : State) (a : Fin 8), (s.tm a.val).catchPh = 3 → max 1 (s.get (TM_CATCH_CFG__VERIFY a.val)) ≤ (s.tm a.val).verified →
    ((s.tm a.val).eps.take (s.tm a.val).verified).foldl (· + ·) 0 ≤ ((s.get (TM_CATCH_TOL__FLUX_TOL a.val) * 2 ^ 11 * max 1 ((s.tm
    a.val).eps.take (s.tm a.val).verified).length : Nat) : Int) → s.angleAgrees a.val = true → ∃ t, exec (.catchVerify a) s = .next
    t ∧ (t.tm a.val).catchPh = 5 ∧ t.axState a.val = s.axState a.val ∧ OnlyRegs [] s t ∧ SameMem s t ∧ SameVault s t) ∧
  (∀ (s : State) (a : Fin 8), (s.tm a.val).catchPh = 3 → max 1 (s.get (TM_CATCH_CFG__VERIFY a.val)) ≤ (s.tm a.val).verified →
    (((s.get (TM_CATCH_TOL__FLUX_TOL a.val) * 2 ^ 11 * max 1 ((s.tm a.val).eps.take (s.tm a.val).verified).length : Nat) : Int) <
    ((s.tm a.val).eps.take (s.tm a.val).verified).foldl (· + ·) 0) → s.angleAgrees a.val = true → (s.tm a.val).recov ≠ 3 → s.on
    (AX_STATE__PO_BLOCK a.val) = false → ∃ t, exec (.catchVerify a) s = .next t ∧ t.axState a.val = 1 ∧ t.get
    (TM_STATUS__CATCH_RESULT a.val) = 3 ∧ t.get (TM_STATUS__CATCH_PHASE a.val) = 0 ∧ t.get (TM_STATUS__POS_SRC a.val) = 3 ∧ (t.tm
    a.val).catchPh = 0 ∧ (t.tm a.val).started = false ∧ (t.tm a.val).tracking = true ∧ SameMem s t ∧ SameVault s t) ∧
  (∀ (s : State) (a : Fin 8), (s.tm a.val).catchPh = 3 → max 1 (s.get (TM_CATCH_CFG__VERIFY a.val)) ≤ (s.tm a.val).verified →
    s.angleAgrees a.val = false → (s.tm a.val).recov ≠ 3 → s.on (AX_STATE__PO_BLOCK a.val) = false → ∃ t, exec (.catchVerify a) s =
    .next t ∧ t.axState a.val = 1 ∧ t.get (TM_STATUS__CATCH_RESULT a.val) = 2 ∧ t.get (TM_STATUS__CATCH_PHASE a.val) = 0 ∧ t.get
    (TM_STATUS__POS_SRC a.val) = 3 ∧ (t.tm a.val).catchPh = 0 ∧ (t.tm a.val).started = false ∧ (t.tm a.val).tracking = true ∧
    SameMem s t ∧ SameVault s t) ∧
  (∀ (s : State) (a : Fin 8), (s.tm a.val).catchPh = 3 → max 1 (s.get (TM_CATCH_CFG__VERIFY a.val)) ≤ (s.tm a.val).verified →
    (((s.get (TM_CATCH_TOL__FLUX_TOL a.val) * 2 ^ 11 * max 1 ((s.tm a.val).eps.take (s.tm a.val).verified).length : Nat) : Int) <
    ((s.tm a.val).eps.take (s.tm a.val).verified).foldl (· + ·) 0) ∨ s.angleAgrees a.val = false → (s.tm a.val).recov = 3 ∨ s.on
    (AX_STATE__PO_BLOCK a.val) = true → s.axLive a.val = true → ∃ t, exec (.catchVerify a) s = .next t ∧ t.axState a.val = 5 ∧
    t.get (AX_STATE__SAFE_CAUSE a.val) = 11 ∧ t.get (TM_STATUS__CATCH_RESULT a.val) = (if s.angleAgrees a.val then 3 else 2) ∧
    t.get (TM_STATUS__CATCH_PHASE a.val) = 0 ∧ SameMem s t ∧ SameVault s t) ∧
  (∀ (s : State) (a : Fin 8), (s.tm a.val).catchPh ≠ 3 ∨ (s.tm a.val).verified < max 1 (s.get (TM_CATCH_CFG__VERIFY a.val)) → exec
    (.catchVerify a) s = .next s) ∧
  (∀ (s : State) (a : Fin 8), (s.tm a.val).recov = 4 → s.axLive a.val = true → ∃ t, exec (.recoveryZeroTime a) s = .next t ∧
    t.axState a.val = 5 ∧ t.get (AX_STATE__SAFE_CAUSE a.val) = 11 ∧ (t.tm a.val).recov = 0 ∧ SameMem s t ∧ SameVault s t) ∧
  (∀ (s : State) (a : Fin 8), (s.tm a.val).recov = 1 → s.axLive a.val = true → (updatePo a.val s).on (AX_STATE__PO_BLOCK a.val) =
    true → ∃ t, exec (.recoveryZeroTime a) s = .next t ∧ t.axState a.val = 5 ∧ t.get (AX_STATE__SAFE_CAUSE a.val) = 11 ∧ t.get
    (TM_STATUS__LOSS_ACTION a.val) = 4 ∧ (t.tm a.val).recov = 0 ∧ SameMem s t ∧ SameVault s t) ∧
  (∀ (s : State) (a : Fin 8), (s.tm a.val).recov = 1 → (updatePo a.val s).on (AX_STATE__PO_BLOCK a.val) = false → (s.tm
    a.val).stopTo ≠ 0 → ∃ t, exec (.recoveryZeroTime a) s = .next t ∧ t.axState a.val = (if (s.tm a.val).stopTo = 2 then 0 else 1)
    ∧ (t.tm a.val).recov = 0 ∧ (t.tm a.val).stopTo = 0 ∧ t.on (TM_STATUS__RECOVERING a.val) = false ∧ SameMem s t ∧ SameVault s t) ∧
  (∀ (s : State) (a : Fin 8), (s.tm a.val).recov = 1 → (updatePo a.val s).on (AX_STATE__PO_BLOCK a.val) = false → (s.tm
    a.val).stopTo = 0 → ∃ t, exec (.recoveryZeroTime a) s = .next t ∧ (t.tm a.val).recov = 2 ∧ t.get (TM_STATUS__POS_SRC a.val) = 3
    ∧ t.on (TM_STATUS__ZC_LOCK a.val) = false ∧ (t.tm a.val).tracking = true ∧ (t.tm a.val).started = false ∧ t.axState a.val =
    s.axState a.val ∧ SameMem s t ∧ SameVault s t) ∧
  (∀ (s : State) (a : Fin 8), (s.tm a.val).recov ≠ 1 → (s.tm a.val).recov ≠ 4 → exec (.recoveryZeroTime a) s = .next s) ∧
  (∀ (s : State) (a : Fin 8), (s.tm a.val).recov = 2 → s.axLive a.val = true → ∃ t, exec (.recatchTimeout a) s = .next t ∧
    t.axState a.val = 5 ∧ t.get (AX_STATE__SAFE_CAUSE a.val) = 11 ∧ (t.tm a.val).recov = 0 ∧ SameMem s t ∧ SameVault s t) ∧
  (∀ (s : State) (a : Fin 8), (s.tm a.val).recov ≠ 2 → exec (.recatchTimeout a) s = .next s)

/-- Carrier mode (R228 to R254). A reload of a running counter makes the pending set active and the late slot pending; a
mid-period reload with a new period keeps the values and pends the sets together; a counter that does not run reloads nothing.
A set that lands in time, or on a stopped counter, is pending, and one that lands within four counter clocks of the reload
takes the late slot and is counted; with none on its way nothing lands. COMMIT sends the staged sets of the leg, or of all
grouped legs of its axis, on their way and DISCARD empties the leg's; a counter event that is no reload puts the counter at its
value, and any other does nothing. The monitor's time without current counts where it waits; a mask of source 1 takes the Hall
step, of source 2 the next step and of source 3 the step written, where one is due and the axis is not in table mode; a dead
time's end turns its channel on; a delayed pulse end is issued. -/
def Obligations.CarrierLegs : Prop :=
  (∀ (s : State) (m : Fin 24) (mid : Bool) (cs : List (Fin 24 × Word × Bool)), s.on (LEG_STATUS__RUNNING m.val) = true → mid =
    false ∨ s.legLoadMid m.val = true → ∃ t, exec (.counterReload m mid cs) s = .next t ∧ t.actPrd m.val = (reloadSets (s.actVals
    m.val) (s.leg m.val).pend (s.leg m.val).late mid).1.getD 0 0 % 2 ^ 32 ∧ (∀ n : Fin 4, t.actCmp m.val n.val = (reloadSets
    (s.actVals m.val) (s.leg m.val).pend (s.leg m.val).late mid).1.getD (n.val + 1) 0 % 2 ^ 32) ∧ (t.leg m.val).pend = (reloadSets
    (s.actVals m.val) (s.leg m.val).pend (s.leg m.val).late mid).2.1 ∧ (t.leg m.val).late = (reloadSets (s.actVals m.val) (s.leg
    m.val).pend (s.leg m.val).late mid).2.2 ∧ t.on (LEG_STATUS__RUNNING m.val) = true ∧ OnlyRegsBelow 0x20000 [] s t ∧ SameMem s t
    ∧ SameVault s t) ∧
  (∀ (s : State) (m : Fin 24) (cs : List (Fin 24 × Word × Bool)), s.on (LEG_STATUS__RUNNING m.val) = true → ∃ t, exec
    (.counterReload m false cs) s = .next t ∧ t.actPrd m.val = (s.leg m.val).pend.prd.getD (s.actPrd m.val) % 2 ^ 32 ∧ (t.leg
    m.val).pend = (s.leg m.val).late ∧ (t.leg m.val).late = {}) ∧
  (∀ (s : State) (m : Fin 24) (mid : Bool) (cs : List (Fin 24 × Word × Bool)), s.on (LEG_STATUS__RUNNING m.val) = false ∨ (mid =
    true ∧ s.legLoadMid m.val = false) → exec (.counterReload m mid cs) s = .next s) ∧
  (∀ (s : State) (m : Fin 24) (d : BitVec 32) (b : Bool) (v : SetS) (l : List (Bool × SetS)), (s.leg m.val).arr = (b, v) :: l → 4 <
    d.toNat ∨ s.on (LEG_STATUS__RUNNING m.val) = false → ∃ t, exec (.setLanding m d) s = .next t ∧ (t.leg m.val).pend = v.over
    (s.leg m.val).pend ∧ (t.leg m.val).late = (s.leg m.val).late ∧ (t.leg m.val).arr = l ∧ OnlyRegs [LEG_STATUS m.val] s t ∧
    SameMem s t ∧ SameVault s t) ∧
  (∀ (s : State) (m : Fin 24) (d : BitVec 32) (b : Bool) (v : SetS) (l : List (Bool × SetS)), (s.leg m.val).arr = (b, v) :: l →
    d.toNat ≤ 4 → s.on (LEG_STATUS__RUNNING m.val) = true → ∃ t, exec (.setLanding m d) s = .next t ∧ (t.leg m.val).late = v.over
    (s.leg m.val).late ∧ (t.leg m.val).pend = (s.leg m.val).pend ∧ (t.leg m.val).arr = l ∧ t.get (LEG_COUNTS__LATE m.val) = min
    4095 (s.get (LEG_COUNTS__LATE m.val) + 1) ∧ t.on (LEG_EVENT__LATE m.val) = true ∧ OnlyRegsBelow evBase [LEG_STATUS m.val,
    (LEG_EVENT__LATE m.val).addr, (LEG_COUNTS__LATE m.val).addr] s t ∧ SameMem s t ∧ SameVault s t) ∧
  (∀ (s : State) (m : Fin 24) (d : BitVec 32), (s.leg m.val).arr = [] → exec (.setLanding m d) s = .next s) ∧
  (∀ (s : State) (m : Fin 24), s.legAxis m.val = none → ∃ t, exec (.legCommit m) s = .next t ∧ (t.leg m.val).arr = (s.leg
    m.val).arr ++ (if (s.leg m.val).staged = {} then [] else [(false, (s.leg m.val).staged)]) ∧ (t.leg m.val).staged = {} ∧ t.on
    (LEG_STATUS__STAGED m.val) = false ∧ OnlyRegs [LEG_STATUS m.val] s t ∧ SameMem s t ∧ SameVault s t) ∧
  (∀ (s : State) (m k : Fin 24) (a : Nat), s.legAxis m.val = some a → ((s.axLegs a).filter s.legGrouped).contains k.val = true → ∃
    t, exec (.legCommit m) s = .next t ∧ (t.leg k.val).arr = (s.leg k.val).arr ++ (if (s.leg k.val).staged = {} then [] else
    [(false, (s.leg k.val).staged)]) ∧ (t.leg k.val).staged = {} ∧ t.on (LEG_STATUS__STAGED k.val) = false ∧ OnlyRegs ((List.range
    24).map LEG_STATUS) s t ∧ SameMem s t ∧ SameVault s t) ∧
  (∀ (s : State) (m k : Fin 24) (a : Nat), s.legAxis m.val = some a → ((s.axLegs a).filter s.legGrouped).contains k.val = false → ∃
    t, exec (.legCommit m) s = .next t ∧ t.leg k.val = s.leg k.val ∧ t.rd (LEG_STATUS k.val) = s.rd (LEG_STATUS k.val) ∧ OnlyRegs
    ((List.range 24).map LEG_STATUS) s t ∧ SameMem s t ∧ SameVault s t) ∧
  (∀ (s : State) (m : Fin 24), ∃ t, exec (.legDiscard m) s = .next t ∧ (t.leg m.val).staged = {} ∧ t.on (LEG_STATUS__STAGED m.val)
    = false ∧ (t.leg m.val).pend = (s.leg m.val).pend ∧ (t.leg m.val).arr = (s.leg m.val).arr ∧ OnlyRegs [LEG_STATUS m.val] s t ∧
    SameMem s t ∧ SameVault s t) ∧
  (∀ (s : State) (m : Fin 24) (c : CntEvent) (v : Nat × Bool), s.on (LEG_STATUS__RUNNING m.val) = true → s.cntEvent m.val c = some
    v → s.reloadClock m.val v = false → ∃ t, exec (.compareMatch m c) s = .next t ∧ t.get (LEG_CNT__C m.val) = v.1 % 2 ^ 32 ∧ t.on
    (LEG_STATUS__DIR m.val) = v.2 ∧ t.actPrd m.val = s.actPrd m.val ∧ (t.leg m.val).pend = (s.leg m.val).pend ∧ OnlyRegsBelow
    0x20000 [] s t ∧ SameMem s t ∧ SameVault s t) ∧
  (∀ (s : State) (m : Fin 24) (c : CntEvent), s.on (LEG_STATUS__RUNNING m.val) = false ∨ s.cntEvent m.val c = none ∨ (s.cntEvent
    m.val c).map (s.reloadClock m.val) = some true → exec (.compareMatch m c) s = .next s) ∧
  (∀ (s : State) (m : Fin 24), s.chopWaits m.val = true → ∃ t, exec (.chopNocurTimeout m) s = .next t ∧ t.get (LEG_CHOP_CNT__CONSEC
    m.val) = min 255 (s.get (LEG_CHOP_CNT__CONSEC m.val) + 1) ∧ t.get (LEG_CHOP_CNT__TOTAL m.val) = min 65535 (s.get
    (LEG_CHOP_CNT__TOTAL m.val) + 1) ∧ (t.leg m.val).mon = false ∧ t.on (LEG_EVENT__CHOP_NOCUR m.val) = true ∧ SameMem s t ∧
    SameVault s t) ∧
  (∀ (s : State) (m : Fin 24), s.chopWaits m.val = false → exec (.chopNocurTimeout m) s = .next s) ∧
  (∀ (s : State) (m : Fin 24), s.legTable m.val = false → s.get (LEG_MASK__SRC m.val) = 1 → ∃ t, exec (.maskStepChange m) s = .next
    t ∧ t.get (LEG_STATUS__MASK_STEP m.val) = (s.hallStep m.val).getD 7 % 8 ∧ (((s.hallStep m.val).getD 7 = 0 ∨ (s.hallStep
    m.val).getD 7 = 7) → t.on (LEG_EVENT__MASK_BAD m.val) = true) ∧ OnlyRegsBelow 0x20000 [] s t ∧ SameMem s t ∧ SameVault s t) ∧
  (∀ (s : State) (m : Fin 24), s.legTable m.val = false → s.get (LEG_MASK__SRC m.val) = 2 → (s.leg m.val).maskDue ≠ 0 → ∃ t, exec
    (.maskStepChange m) s = .next t ∧ t.get (LEG_STATUS__MASK_STEP m.val) = (if s.on (LEG_MASK__REV m.val) then s.get
    (LEG_STATUS__MASK_STEP m.val) + s.get (LEG_MASK__LEN_M1 m.val) else s.get (LEG_STATUS__MASK_STEP m.val) + 1) % (s.get
    (LEG_MASK__LEN_M1 m.val) + 1) ∧ (t.leg m.val).maskDue = (s.leg m.val).maskDue - 1 ∧ OnlyRegsBelow 0x20000 [] s t ∧ SameMem s t
    ∧ SameVault s t) ∧
  (∀ (s : State) (m : Fin 24), s.legTable m.val = false → s.get (LEG_MASK__SRC m.val) = 3 → (s.leg m.val).maskDue ≠ 0 → ∃ t, exec
    (.maskStepChange m) s = .next t ∧ t.get (LEG_STATUS__MASK_STEP m.val) = s.get (LEG_MASK_STEP__STEP m.val) ∧ (t.leg
    m.val).maskDue = 0 ∧ OnlyRegsBelow 0x20000 [] s t ∧ SameMem s t ∧ SameVault s t) ∧
  (∀ (s : State) (m : Fin 24), s.legTable m.val = true ∨ s.get (LEG_MASK__SRC m.val) = 0 ∨ (s.get (LEG_MASK__SRC m.val) ≠ 1 ∧
    (s.leg m.val).maskDue = 0) → exec (.maskStepChange m) s = .next s) ∧
  (∀ (s : State) (m : Fin 24), (s.leg m.val).dead ≠ 0 → (s.leg m.val).dead ≠ 2 → ∃ t, exec (.deadTimeExpiry m) s = .next t ∧ t.on
    (LEG_STATUS__LOWER m.val) = true ∧ (t.leg m.val).dead = 0 ∧ t.on (LEG_STATUS__UPPER m.val) = s.on (LEG_STATUS__UPPER m.val) ∧
    OnlyRegs [LEG_STATUS m.val] s t ∧ SameMem s t ∧ SameVault s t) ∧
  (∀ (s : State) (m : Fin 24), (s.leg m.val).dead = 2 → ∃ t, exec (.deadTimeExpiry m) s = .next t ∧ t.on (LEG_STATUS__UPPER m.val)
    = true ∧ (t.leg m.val).dead = 0 ∧ t.on (LEG_STATUS__LOWER m.val) = s.on (LEG_STATUS__LOWER m.val) ∧ OnlyRegs [LEG_STATUS m.val]
    s t ∧ SameMem s t ∧ SameVault s t) ∧
  (∀ (s : State) (m : Fin 24), (s.leg m.val).dead = 0 → exec (.deadTimeExpiry m) s = .next s) ∧
  (∀ (s : State) (m : Fin 24), (s.leg m.val).wait = true → ∃ t, exec (.minimumPulseExpiry m) s = .next t ∧ (t.leg m.val).wait =
    false ∧ (t.leg m.val).clk = max (s.leg m.val).clk (max ((s.leg m.val).tOn + s.minpClk m.val) (s.leg m.val).tEnd) ∧
    OnlyRegsBelow 0x20000 [] s t ∧ SameMem s t ∧ SameVault s t) ∧
  (∀ (s : State) (m : Fin 24), (s.leg m.val).wait = false → exec (.minimumPulseExpiry m) s = .next s)

/-- The island links (R261 to R267, R281). While an island follows the fast form, with PLL-B and in service, a good frame, of
the states named or of those the leg interlocks command, starts the turn-off of a channel that it does not command and the
turn-on of one that it commands where that is permitted; a frame that commands both channels of a leg meets the cross-lock;
intervals cut short are counted; any other island ignores it. A frame that fails its check counts. The fast form is lost, which
applies the hold states, and regained; the keep-alive form carries the hold states and the trip clear; a lost link turns every
channel off, ends the validity of the island's temperature and is counted; the status channel's loss takes the axis with a leg
there to SAFE with cause 9; the link comes back with its configuration, and with the leg words that a power-on reset hid, once
the device runs; a supply's threshold shows in the status, and a lost supply turns off the channels it serves and takes the axis
in CATCH, RUN or HOLD to SAFE with cause 9; the isolated conversion gives the link voltage. What is already so changes nothing.
-/
def Obligations.IslandLinks : Prop :=
  (∀ (s : State) (i : Fin 8) (w : Option (BitVec 6)) (sh : BitVec 6) (c : Fin 6), (s.isl i.val).follow = true → (s.isl i.val).lost
    = false → s.on (GI_CFG__SERVICE i.val) = false → s.on CLK_STATUS__PLLB_LOCK = true → ((w.map (·.getLsbD (c.val))).getD (s.on
    (if c.val % 2 = 0 then LEG_STATUS__UPPER (3 * i.val + (c.val / 2)) else LEG_STATUS__LOWER (3 * i.val + (c.val / 2))))) = false
    → sh.getLsbD c.val = false → s.on (GI_L_STATUS__TRIP_LATCH i.val (c.val / 2)) = false → s.get (GI_L_STATUS__SOFT_STEP i.val
    (c.val / 2)) ≠ 1 → s.get (GI_L_STATUS__SOFT_STEP i.val (c.val / 2)) ≠ 2 → ∃ t, exec (.fastFrame i w sh) s = .next t ∧ t.ch
    i.val c.val = (if s.ch i.val c.val = 3 then 4 else if s.ch i.val c.val = 1 ∨ s.ch i.val c.val = 2 then 5 else s.ch i.val c.val)
    ∧ OnlyRegs [GI_L_STATUS i.val 0, GI_L_STATUS i.val 1, GI_L_STATUS i.val 2, (GI_L_COUNTS__XCMD i.val 0).addr, (GI_L_COUNTS__XCMD
    i.val 1).addr, (GI_L_COUNTS__XCMD i.val 2).addr] s t ∧ SameMem s t ∧ SameVault s t) ∧
  (∀ (s : State) (i : Fin 8) (w : Option (BitVec 6)) (sh : BitVec 6) (c : Fin 6), (s.isl i.val).follow = true → (s.isl i.val).lost
    = false → s.on (GI_CFG__SERVICE i.val) = false → s.on CLK_STATUS__PLLB_LOCK = true → ((w.map (·.getLsbD (c.val))).getD (s.on
    (if c.val % 2 = 0 then LEG_STATUS__UPPER (3 * i.val + (c.val / 2)) else LEG_STATUS__LOWER (3 * i.val + (c.val / 2))))) = true →
    ((w.map (·.getLsbD (c.val + 1 - 2 * (c.val % 2)))).getD (s.on (if c.val % 2 = 1 then LEG_STATUS__UPPER (3 * i.val + (c.val /
    2)) else LEG_STATUS__LOWER (3 * i.val + (c.val / 2))))) = false → sh.getLsbD c.val = false → s.on (GI_L_STATUS__TRIP_LATCH
    i.val (c.val / 2)) = false → s.get (GI_L_STATUS__SOFT_STEP i.val (c.val / 2)) ≠ 1 → s.get (GI_L_STATUS__SOFT_STEP i.val (c.val
    / 2)) ≠ 2 → s.chMayOn i.val c.val false = true → s.ch i.val c.val = 0 ∨ s.ch i.val c.val = 4 ∨ s.ch i.val c.val = 5 → ∃ t, exec
    (.fastFrame i w sh) s = .next t ∧ t.ch i.val c.val = 1 ∧ OnlyRegs [GI_L_STATUS i.val 0, GI_L_STATUS i.val 1, GI_L_STATUS i.val
    2, (GI_L_COUNTS__XCMD i.val 0).addr, (GI_L_COUNTS__XCMD i.val 1).addr, (GI_L_COUNTS__XCMD i.val 2).addr] s t ∧ SameMem s t ∧
    SameVault s t) ∧
  (∀ (s : State) (i : Fin 8) (w : Option (BitVec 6)) (sh : BitVec 6) (x : Fin 3), (s.isl i.val).follow = true → (s.isl i.val).lost
    = false → s.on (GI_CFG__SERVICE i.val) = false → s.on CLK_STATUS__PLLB_LOCK = true → ((w.map (·.getLsbD (2 * x.val))).getD
    (s.on (if True then LEG_STATUS__UPPER (3 * i.val + x.val) else LEG_STATUS__LOWER (3 * i.val + x.val)))) = true → ((w.map
    (·.getLsbD (2 * x.val + 1))).getD (s.on (if False then LEG_STATUS__UPPER (3 * i.val + x.val) else LEG_STATUS__LOWER (3 * i.val
    + x.val)))) = true → ∃ t, exec (.fastFrame i w sh) s = .next t ∧ t.on (GI_L_STATUS__XCMD_LATCH i.val x.val) = true ∧ t.get
    (GI_L_COUNTS__XCMD i.val x.val) = min 255 (s.get (GI_L_COUNTS__XCMD i.val x.val) + 1) ∧ (t.isl i.val).alarms.contains (6 +
    x.val) = true ∧ OnlyRegs [GI_L_STATUS i.val 0, GI_L_STATUS i.val 1, GI_L_STATUS i.val 2, (GI_L_COUNTS__XCMD i.val 0).addr,
    (GI_L_COUNTS__XCMD i.val 1).addr, (GI_L_COUNTS__XCMD i.val 2).addr] s t ∧ SameMem s t ∧ SameVault s t) ∧
  (∀ (s : State) (i : Fin 8) (w : Option (BitVec 6)) (sh : BitVec 6) (x : Fin 3), (s.isl i.val).follow = true → (s.isl i.val).lost
    = false → s.on (GI_CFG__SERVICE i.val) = false → s.on CLK_STATUS__PLLB_LOCK = true → ∃ t, exec (.fastFrame i w sh) s = .next t
    ∧ t.get (GI_L_COUNTS__SHORT i.val x.val) = min 65535 (s.get (GI_L_COUNTS__SHORT i.val x.val) + (b2n (sh.getLsbD (2 * x.val)) +
    b2n (sh.getLsbD (2 * x.val + 1)))) ∧ OnlyRegs [GI_L_STATUS i.val 0, GI_L_STATUS i.val 1, GI_L_STATUS i.val 2,
    (GI_L_COUNTS__XCMD i.val 0).addr, (GI_L_COUNTS__XCMD i.val 1).addr, (GI_L_COUNTS__XCMD i.val 2).addr] s t ∧ SameMem s t ∧
    SameVault s t) ∧
  (∀ (s : State) (i : Fin 8) (w : Option (BitVec 6)) (sh : BitVec 6), (s.isl i.val).follow = false ∨ (s.isl i.val).lost = true ∨
    s.on (GI_CFG__SERVICE i.val) = true ∨ s.on CLK_STATUS__PLLB_LOCK = false → exec (.fastFrame i w sh) s = .next s) ∧
  (∀ (s : State) (i : Fin 8), ∃ t, exec (.fastFrameCrcFail i) s = .next t ∧ t.get (GI_COUNTS__LINK_CRC i.val) = min 65535 (s.get
    (GI_COUNTS__LINK_CRC i.val) + 1) ∧ t.get (GI_COUNTS__LINK_LOSS i.val) = s.get (GI_COUNTS__LINK_LOSS i.val) ∧ OnlyRegs
    [(GI_COUNTS__LINK_CRC i.val).addr] s t ∧ SameMem s t ∧ SameVault s t) ∧
  (∀ (s : State) (i : Fin 8), (s.isl i.val).follow = true → ∃ t, exec (.fastFormLost i) s = .next t ∧ (t.isl i.val).follow = false
    ∧ t.on (GI_STATUS__FAST i.val) = false ∧ (∀ x : Fin 3, (s.isl i.val).lost = false → s.on (GI_L_STATUS__TRIP_LATCH i.val x.val)
    = false → s.get (GI_L_STATUS__SOFT_STEP i.val x.val) = 0 → (t.isl i.val).gap.getD x.val 0 = s.get (GI_L_STATUS__HOLD i.val
    x.val) ∧ t.ch i.val (2 * x.val) ≠ 3 ∧ t.ch i.val (2 * x.val + 1) ≠ 3) ∧ OnlyRegs [GI_STATUS i.val] s t ∧ SameMem s t ∧
    SameVault s t) ∧
  (∀ (s : State) (i : Fin 8), (s.isl i.val).follow = false → exec (.fastFormLost i) s = .next s) ∧
  (∀ (s : State) (i : Fin 8), (s.isl i.val).lost = false → s.on CLK_STATUS__PLLB_LOCK = true → ∃ t, exec (.fastFormRegained i) s =
    .next t ∧ (t.isl i.val).follow = true ∧ t.on (GI_STATUS__FAST i.val) = true ∧ OnlyRegs [GI_STATUS i.val] s t ∧ SameMem s t ∧
    SameVault s t) ∧
  (∀ (s : State) (i : Fin 8), (s.isl i.val).lost = true ∨ s.on CLK_STATUS__PLLB_LOCK = false → exec (.fastFormRegained i) s = .next
    s) ∧
  (∀ (s : State) (i : Fin 8), ∃ t, exec (.keepaliveFrame i false) s = .next t ∧ t.get (GI_COUNTS__LINK_CRC i.val) = min 65535
    (s.get (GI_COUNTS__LINK_CRC i.val) + 1) ∧ OnlyRegs [(GI_COUNTS__LINK_CRC i.val).addr] s t ∧ SameMem s t ∧ SameVault s t) ∧
  (∀ (s : State) (i : Fin 8), (s.isl i.val).lost = false → ∃ t, exec (.keepaliveFrame i true) s = .next t ∧ (∀ x : Fin 3, t.get
    (GI_L_STATUS__HOLD i.val x.val) = s.holdSent (3 * i.val + x.val) % 4) ∧ ((∀ b : Fin 8, (s.ax b.val).clearDue = []) → t.out =
    s.out) ∧ (∀ b : Fin 8, (t.ax b.val).clearDue.contains i.val = false) ∧ OnlyRegs [GI_STATUS i.val, GI_L_STATUS i.val 0,
    GI_L_STATUS i.val 1, GI_L_STATUS i.val 2] s t ∧ SameMem s t ∧ SameVault s t) ∧
  (∀ (s : State) (i a : Fin 8) (x : Fin 3), (s.isl i.val).lost = false → s.legAxis (3 * i.val + x.val) = some a.val → (s.ax
    a.val).clearDue.contains i.val = true → s.get (GI_L_STATUS__SOFT_STEP i.val x.val) = 0 ∨ s.get (GI_L_STATUS__SOFT_STEP i.val
    x.val) = 3 → ∃ t, exec (.keepaliveFrame i true) s = .next t ∧ t.on (GI_L_STATUS__TRIP_LATCH i.val x.val) = false ∧ t.on
    (GI_L_STATUS__XCMD_LATCH i.val x.val) = false ∧ t.get (GI_L_STATUS__SOFT_STEP i.val x.val) = 0 ∧ OnlyRegs [GI_STATUS i.val,
    GI_L_STATUS i.val 0, GI_L_STATUS i.val 1, GI_L_STATUS i.val 2] s t ∧ SameMem s t ∧ SameVault s t) ∧
  (∀ (s : State) (i : Fin 8), (s.isl i.val).lost = true → exec (.keepaliveFrame i true) s = .next s) ∧
  (∀ (s : State) (i : Fin 8), (s.isl i.val).lost = false → ∃ t, exec (.islandLinkLost i) s = .next t ∧ (t.isl i.val).lost = true ∧
    (t.isl i.val).follow = false ∧ t.on (GI_STATUS__FAST i.val) = false ∧ t.on (GI_STATUS__CFG_SYNC i.val) = false ∧ t.on
    (GI_STATUS__READY i.val) = false ∧ (∀ c : Fin 6, t.ch i.val c.val = (if s.ch i.val c.val = 3 then 4 else if s.ch i.val c.val =
    1 ∨ s.ch i.val c.val = 2 then 5 else s.ch i.val c.val)) ∧ t.get (GI_COUNTS__LINK_LOSS i.val) = min 65535 (s.get
    (GI_COUNTS__LINK_LOSS i.val) + 1) ∧ (∀ x : Fin 3, t.get (GI_L_STATUS__HOLD i.val x.val) = 0) ∧ t.on
    (DEV_TEMP_GI__VALID i.val) = false ∧ OnlyRegsBelow 0x24000 [(DEV_TEMP_GI__VALID i.val).addr] s t ∧ SameMem s t ∧ SameVault s t) ∧
  (∀ (s : State) (i : Fin 8), (s.isl i.val).lost = true → exec (.islandLinkLost i) s = .next s) ∧
  (∀ (s : State) (i : Fin 8), s.on (GI_STATUS__LINK_UP i.val) = true → (∀ b : Fin 8, (s.axLegs b.val).any (fun m => m / 3 == i.val)
    = false) → ∃ t, exec (.statusLinkLost i) s = .next t ∧ t.on (GI_STATUS__LINK_UP i.val) = false ∧ t.on (GI_STATUS__READY i.val)
    = false ∧ t.on (GI_DCPS__VALID i.val) = false ∧ t.on (DEV_TEMP_GI__VALID i.val) = false ∧ t.get (GI_COUNTS__LINK_LOSS i.val) =
    min 65535 (s.get (GI_COUNTS__LINK_LOSS i.val) + 1) ∧ OnlyRegsBelow 0x24000 [(DEV_TEMP_GI__VALID i.val).addr] s t ∧ SameMem s t
    ∧ SameVault s t) ∧
  (∀ (s : State) (i a : Fin 8), s.on (GI_STATUS__LINK_UP i.val) = true → (s.axLegs a.val).any (fun m => m / 3 == i.val) = true → (∀
    b : Fin 8, b ≠ a → (s.axLegs b.val).any (fun m => m / 3 == i.val) = false) → s.axLive a.val = true → ∃ t, exec (.statusLinkLost
    i) s = .next t ∧ t.axState a.val = 5 ∧ t.get (AX_STATE__SAFE_CAUSE a.val) = 9 ∧ t.on (GI_STATUS__LINK_UP i.val) = false ∧
    SameMem s t ∧ SameVault s t) ∧
  (∀ (s : State) (i : Fin 8), s.on (GI_STATUS__LINK_UP i.val) = false → exec (.statusLinkLost i) s = .next s) ∧
  (∀ (s : State) (i : Fin 8), nbit (s.isl i.val).sup 0 = true → s.aonRuns = true → (s.isl i.val).lost = true ∨ s.on
    (GI_STATUS__LINK_UP i.val) = false → ∃ t, exec (.islandLinkRegained i) s = .next t ∧ (t.isl i.val).lost = false ∧ t.on
    (GI_STATUS__LINK_UP i.val) = true ∧ t.on (GI_STATUS__CFG_SYNC i.val) = true ∧ t.on (GI_STATUS__READY i.val) = !s.on
    (GI_CFG__SERVICE i.val) ∧ OnlyRegsBelow evBase ([GI_STATUS i.val, (GI_EVENT__EVT i.val).addr] ++ if (s.isl i.val).legW = []
    then [] else [0, 1, 2].map (GI_L_STATUS i.val)) s t ∧ SameMem s t ∧ SameVault s t) ∧
  (∀ (s : State) (i : Fin 8), nbit (s.isl i.val).sup 0 = false ∨ s.aonRuns = false ∨ ((s.isl i.val).lost = false ∧ s.on
    (GI_STATUS__LINK_UP i.val) = true) → exec (.islandLinkRegained i) s = .next s) ∧
  (∀ (s : State) (i : Fin 8), nbit (s.isl i.val).sup 0 = false → s.aonRuns = true → ∃ t, exec (.islandPowerUp i) s = .next t ∧
    nbit (t.isl i.val).sup 0 = true ∧ (t.isl i.val).lost = false ∧ t.on (GI_STATUS__LINK_UP i.val) = true ∧ t.on
    (GI_STATUS__CFG_SYNC i.val) = true ∧ t.on (GI_STATUS__VDDI_OK i.val) = true ∧ OnlyRegsBelow evBase ([GI_STATUS i.val,
    (GI_EVENT__EVT i.val).addr] ++ if (s.isl i.val).legW = [] then [] else [0, 1, 2].map (GI_L_STATUS i.val)) s t ∧ SameMem s t ∧
    SameVault s t) ∧
  (∀ (s : State) (i : Fin 8), nbit (s.isl i.val).sup 0 = false → s.aonRuns = false → ∃ t, exec (.islandPowerUp i) s = .next t ∧
    nbit (t.isl i.val).sup 0 = true ∧ (t.isl i.val).lost = (s.isl i.val).lost ∧ OnlyRegs [] s t ∧ SameMem s t ∧ SameVault s t) ∧
  (∀ (s : State) (i : Fin 8), nbit (s.isl i.val).sup 0 = true → exec (.islandPowerUp i) s = .next s) ∧
  (∀ (s : State) (i : Fin 8), (s.isl i.val).lost = false → ∃ t, exec (.islandCfgSync i) s = .next t ∧ t.on (GI_STATUS__CFG_SYNC
    i.val) = true ∧ t.on (GI_STATUS__READY i.val) = (s.on (GI_STATUS__LINK_UP i.val) && !s.on (GI_CFG__SERVICE i.val)) ∧ OnlyRegs
    [GI_STATUS i.val] s t ∧ SameMem s t ∧ SameVault s t) ∧
  (∀ (s : State) (i : Fin 8), (s.isl i.val).lost = true → exec (.islandCfgSync i) s = .next s) ∧
  (∀ (s : State) (i : Fin 8) (k : Fin 9), nbit (s.isl i.val).sup k.val = false → ∃ t, exec (.islandUndervoltage i k true) s = .next
    t ∧ nbit (t.isl i.val).sup k.val = true ∧ nbit (fieldGet (t.rd (GI_STATUS i.val)) 0 9) k.val = true ∧ OnlyRegsBelow evBase
    [GI_STATUS i.val, (GI_EVENT__EVT i.val).addr] s t ∧ SameMem s t ∧ SameVault s t) ∧
  (∀ (s : State) (i : Fin 8), nbit (s.isl i.val).sup 0 = true → (∀ b : Fin 8, (s.axLegs b.val).any (fun m => m / 3 == i.val) =
    false) → ∃ t, exec (.islandUndervoltage i 0 false) s = .next t ∧ (t.isl i.val).lost = true ∧ (t.isl i.val).chs = [0, 0, 0, 0,
    0, 0] ∧ (∀ x : Fin 3, t.rd (GI_L_STATUS i.val x.val) = 0) ∧ t.on (GI_STATUS__VDDI_OK i.val) = false ∧ OnlyRegsBelow 0x24000
    [(DEV_TEMP_GI__VALID i.val).addr] s t ∧ SameMem s t ∧ SameVault s t) ∧
  (∀ (s : State) (i : Fin 8) (k : Fin 9) (c : Fin 6), nbit (s.isl i.val).sup k.val = true → (∀ b : Fin 8, (s.axLegs b.val).any (fun
    m => m / 3 == i.val) = false) → k.val = 1 ∨ (k.val = 2 ∧ c.val % 2 = 1) ∨ (3 ≤ k.val ∧ c.val = 2 * (k.val % 3)) → ∃ t, exec
    (.islandUndervoltage i k false) s = .next t ∧ nbit (t.isl i.val).sup k.val = false ∧ t.ch i.val c.val = (if s.ch i.val c.val =
    3 then 4 else if s.ch i.val c.val = 1 ∨ s.ch i.val c.val = 2 then 5 else s.ch i.val c.val) ∧ nbit (fieldGet (t.rd (GI_STATUS
    i.val)) 0 9) k.val = false ∧ OnlyRegsBelow 0x24000 [] s t ∧ SameMem s t ∧ SameVault s t) ∧
  (∀ (s : State) (i a : Fin 8) (k : Fin 9), nbit (s.isl i.val).sup k.val = true → (s.axLegs a.val).any (fun m => m / 3 == i.val &&
    (supplyLegs k.val).contains (m % 3)) = true → (∀ b : Fin 8, b ≠ a → (s.axLegs b.val).any (fun m => m / 3 == i.val) = false) →
    s.axLive a.val = true → ∃ t, exec (.islandUndervoltage i k false) s = .next t ∧ t.axState a.val = 5 ∧ t.get
    (AX_STATE__SAFE_CAUSE a.val) = 9 ∧ nbit (t.isl i.val).sup k.val = false ∧ SameMem s t ∧ SameVault s t) ∧
  (∀ (s : State) (i : Fin 8) (k : Fin 9) (good : Bool), nbit (s.isl i.val).sup k.val = good → exec (.islandUndervoltage i k good) s
    = .next s) ∧
  (∀ (s : State) (i : Fin 8) (d : BitVec 14), s.on (GI_STATUS__LINK_UP i.val) = true → ∃ t, exec (.dcpsConversion i d) s = .next t
    ∧ t.get (GI_DCPS__VDC i.val) = d.toNat ∧ t.on (GI_DCPS__VALID i.val) = true ∧ OnlyRegs [GI_DCPS i.val] s t ∧ SameMem s t ∧
    SameVault s t) ∧
  (∀ (s : State) (i : Fin 8) (d : BitVec 14), s.on (GI_STATUS__LINK_UP i.val) = false → exec (.dcpsConversion i d) s = .next s)

/-- Gates, trips and the soft turn-off (R263, R268 to R282, R347). A profile's phase ends take the channel to its next phase,
and its hold stage shows it on or off; a phase 2 that times out and a gate fault turn the channel off and hold it off, and the
axis enters SAFE with a latched cause 9; the monitor is suspended during a basting check. A short circuit detected on a channel
starts the soft turn-off of the legs of its axis on the island, or of its own leg, and sends an alarm; in a soft turn-off it is
counted and sent. An alarm that arrives wakes the device and takes the axis to SAFE with a latched cause 3, or with a latched
cause 9 where it reports the cross-lock. A trip word starts the soft turn-off on the legs it names that are not in one; its two
steps end with the leg held off, and a step 2 that times out is a gate fault besides; a hold state's channel turns on after its
gap where it is permitted. A command that finds its channel or leg in another phase, or none of its words waiting, changes
nothing. -/
def Obligations.GatesAndSoftTurnOff : Prop :=
  (∀ (s : State) (i : Fin 8) (c : Fin 6), s.ch i.val c.val = 1 → ∃ t, exec (.gatePhase1End i c) s = .next t ∧ t.ch i.val c.val = 2
    ∧ OnlyRegs [] s t ∧ SameMem s t ∧ SameVault s t) ∧
  (∀ (s : State) (i : Fin 8) (c : Fin 6), s.ch i.val c.val = 4 → ∃ t, exec (.gatePhase1End i c) s = .next t ∧ t.ch i.val c.val = 5
    ∧ t.on (chOnBit i.val c.val) = false ∧ OnlyRegs [GI_L_STATUS i.val (c.val / 2)] s t ∧ SameMem s t ∧ SameVault s t) ∧
  (∀ (s : State) (i : Fin 8) (c : Fin 6), s.ch i.val c.val ≠ 1 → s.ch i.val c.val ≠ 4 → exec (.gatePhase1End i c) s = .next s) ∧
  (∀ (s : State) (i : Fin 8) (c : Fin 6), s.ch i.val c.val = 2 → ∃ t, exec (.gatePhase2End i c) s = .next t ∧ t.ch i.val c.val = 3
    ∧ t.on (chOnBit i.val c.val) = true ∧ OnlyRegs [GI_L_STATUS i.val (c.val / 2)] s t ∧ SameMem s t ∧ SameVault s t) ∧
  (∀ (s : State) (i : Fin 8) (c : Fin 6), s.ch i.val c.val = 5 → ∃ t, exec (.gatePhase2End i c) s = .next t ∧ t.ch i.val c.val = 0
    ∧ t.on (chOnBit i.val c.val) = false ∧ OnlyRegs [GI_L_STATUS i.val (c.val / 2)] s t ∧ SameMem s t ∧ SameVault s t) ∧
  (∀ (s : State) (i : Fin 8) (c : Fin 6), s.ch i.val c.val ≠ 2 → s.ch i.val c.val ≠ 5 → exec (.gatePhase2End i c) s = .next s) ∧
  (∀ (s : State) (i : Fin 8) (c : Fin 6), s.ch i.val c.val = 2 ∨ s.ch i.val c.val = 5 → s.legAxis (3 * i.val + c.val / 2) = none →
    ∃ t, exec (.gatePhase2Timeout i c) s = .next t ∧ t.ch i.val c.val = (if s.ch i.val c.val = 2 then 4 else 0) ∧ nbit (t.isl
    i.val).heldOff c.val = true ∧ t.glGet (if c.val % 2 = 0 then GI_L_STATUS__GATE_FAULT_U else GI_L_STATUS__GATE_FAULT_L) i.val
    (c.val / 2) = 1 ∧ OnlyRegsBelow evBase [GI_L_STATUS i.val (c.val / 2), (GI_EVENT__EVT i.val).addr] s t ∧ SameMem s t ∧
    SameVault s t) ∧
  (∀ (s : State) (i a : Fin 8) (c : Fin 6), s.ch i.val c.val = 2 ∨ s.ch i.val c.val = 5 → s.legAxis (3 * i.val + c.val / 2) = some
    a.val → s.axState a.val < 5 → s.axState a.val ≠ 0 ∨ (s.on SAF_STATUS__ARMED = true ∧ s.sys.released = true) → ∃ t, exec
    (.gatePhase2Timeout i c) s = .next t ∧ t.axState a.val = 5 ∧ t.get (AX_STATE__SAFE_CAUSE a.val) = 9 ∧ (t.ax
    a.val).latched.contains 9 = true ∧ nbit (t.isl i.val).heldOff c.val = true ∧ SameMem s t ∧ SameVault s t) ∧
  (∀ (s : State) (i : Fin 8) (c : Fin 6), s.ch i.val c.val ≠ 2 → s.ch i.val c.val ≠ 5 → exec (.gatePhase2Timeout i c) s = .next s) ∧
  (∀ (s : State) (i : Fin 8) (c : Fin 6), s.ch i.val c.val = 0 ∨ s.ch i.val c.val = 3 → s.on (GI_L_BRES__RUNNING i.val (c.val /
    2)) = false → s.legAxis (3 * i.val + c.val / 2) = none → ∃ t, exec (.gateFault i c) s = .next t ∧ t.ch i.val c.val = (if s.ch
    i.val c.val = 3 then 4 else 0) ∧ nbit (t.isl i.val).heldOff c.val = true ∧ t.glGet (if c.val % 2 = 0 then
    GI_L_STATUS__GATE_FAULT_U else GI_L_STATUS__GATE_FAULT_L) i.val (c.val / 2) = 1 ∧ OnlyRegsBelow evBase [GI_L_STATUS i.val
    (c.val / 2), (GI_EVENT__EVT i.val).addr] s t ∧ SameMem s t ∧ SameVault s t) ∧
  (∀ (s : State) (i a : Fin 8) (c : Fin 6), s.ch i.val c.val = 0 ∨ s.ch i.val c.val = 3 → s.on (GI_L_BRES__RUNNING i.val (c.val /
    2)) = false → s.legAxis (3 * i.val + c.val / 2) = some a.val → s.axState a.val < 5 → s.axState a.val ≠ 0 ∨ (s.on
    SAF_STATUS__ARMED = true ∧ s.sys.released = true) → ∃ t, exec (.gateFault i c) s = .next t ∧ t.axState a.val = 5 ∧ t.get
    (AX_STATE__SAFE_CAUSE a.val) = 9 ∧ (t.ax a.val).latched.contains 9 = true ∧ nbit (t.isl i.val).heldOff c.val = true ∧ SameMem s
    t ∧ SameVault s t) ∧
  (∀ (s : State) (i : Fin 8) (c : Fin 6), (s.ch i.val c.val ≠ 0 ∧ s.ch i.val c.val ≠ 3) ∨ s.on (GI_L_BRES__RUNNING i.val (c.val /
    2)) = true → exec (.gateFault i c) s = .next s) ∧
  (∀ (s : State) (i : Fin 8) (c : Fin 6), (s.on (if c.val % 2 = 0 then GI_L_SC__EN_U i.val (c.val / 2) else GI_L_SC__EN_L i.val
    (c.val / 2))) = true → s.ch i.val c.val = 1 ∨ s.ch i.val c.val = 2 ∨ s.ch i.val c.val = 3 → s.glGet GI_L_STATUS__SOFT_STEP
    i.val (c.val / 2) = 0 ∨ s.glGet GI_L_STATUS__SOFT_STEP i.val (c.val / 2) = 3 → s.legAxis (3 * i.val + c.val / 2) = none → ∃ t,
    exec (.didtDetect i c) s = .next t ∧ t.ch i.val c.val = 6 ∧ t.glGet GI_L_STATUS__SOFT_STEP i.val (c.val / 2) = 1 ∧ t.glGet
    GI_L_STATUS__TRIP_LATCH i.val (c.val / 2) = 1 ∧ t.on (chOnBit i.val c.val) = false ∧ t.get (GI_L_COUNTS__SC_TRIPS i.val (c.val
    / 2)) = min 255 (s.get (GI_L_COUNTS__SC_TRIPS i.val (c.val / 2)) + 1) ∧ (t.isl i.val).alarms = (s.isl i.val).alarms ++ [c.val
    + 16 * b2n (s.ascHeld (3 * i.val + c.val / 2))] ∧ t.out = s.out ++ [.alarm i.val (2 ^ c.val)] ∧ OnlyRegs [GI_L_STATUS i.val
    (c.val / 2), (GI_L_COUNTS__SC_TRIPS i.val (c.val / 2)).addr] s t ∧ SameMem s t ∧ SameVault s t) ∧
  (∀ (s : State) (i a : Fin 8) (c : Fin 6), (s.on (if c.val % 2 = 0 then GI_L_SC__EN_U i.val (c.val / 2) else GI_L_SC__EN_L i.val
    (c.val / 2))) = true → s.ch i.val c.val = 1 ∨ s.ch i.val c.val = 2 ∨ s.ch i.val c.val = 3 → s.glGet GI_L_STATUS__SOFT_STEP
    i.val (c.val / 2) = 0 ∨ s.glGet GI_L_STATUS__SOFT_STEP i.val (c.val / 2) = 3 → s.legAxis (3 * i.val + c.val / 2) = some a.val
    → ∃ t, exec (.didtDetect i c) s = .next t ∧ t.ch i.val c.val = 6 ∧ (∀ x : Fin 3, s.legAxis (3 * i.val + x.val) = some a.val →
    s.glGet GI_L_STATUS__SOFT_STEP i.val x.val = 0 ∨ s.glGet GI_L_STATUS__SOFT_STEP i.val x.val = 3 → t.glGet
    GI_L_STATUS__SOFT_STEP i.val x.val = 1 ∧ t.glGet GI_L_STATUS__TRIP_LATCH i.val x.val = 1) ∧ (t.isl i.val).alarms = (s.isl
    i.val).alarms ++ [c.val + 16 * b2n (s.ascHeld (3 * i.val + c.val / 2))] ∧ t.out = s.out ++ [.alarm i.val (2 ^ c.val)] ∧
    OnlyRegs [GI_L_STATUS i.val 0, GI_L_STATUS i.val 1, GI_L_STATUS i.val 2, (GI_L_COUNTS__SC_TRIPS i.val 0).addr,
    (GI_L_COUNTS__SC_TRIPS i.val 1).addr, (GI_L_COUNTS__SC_TRIPS i.val 2).addr] s t ∧ SameMem s t ∧ SameVault s t) ∧
  (∀ (s : State) (i : Fin 8) (c : Fin 6), (s.on (if c.val % 2 = 0 then GI_L_SC__EN_U i.val (c.val / 2) else GI_L_SC__EN_L i.val
    (c.val / 2))) = true → s.ch i.val c.val = 1 ∨ s.ch i.val c.val = 2 ∨ s.ch i.val c.val = 3 ∨ s.ch i.val c.val = 6 ∨ s.ch i.val
    c.val = 7 → s.glGet GI_L_STATUS__SOFT_STEP i.val (c.val / 2) = 1 ∨ s.glGet GI_L_STATUS__SOFT_STEP i.val (c.val / 2) = 2 → ∃ t,
    exec (.didtDetect i c) s = .next t ∧ t.ch i.val c.val = s.ch i.val c.val ∧ t.get (GI_L_COUNTS__SC_TRIPS i.val (c.val / 2)) =
    min 255 (s.get (GI_L_COUNTS__SC_TRIPS i.val (c.val / 2)) + 1) ∧ (t.isl i.val).alarms = (s.isl i.val).alarms ++ [c.val + 16 *
    b2n (s.ascHeld (3 * i.val + c.val / 2))] ∧ t.out = s.out ++ [.alarm i.val (2 ^ c.val)] ∧ OnlyRegs [(GI_L_COUNTS__SC_TRIPS i.val
    (c.val / 2)).addr] s t ∧ SameMem s t ∧ SameVault s t) ∧
  (∀ (s : State) (i : Fin 8) (c : Fin 6), (s.on (if c.val % 2 = 0 then GI_L_SC__EN_U i.val (c.val / 2) else GI_L_SC__EN_L i.val
    (c.val / 2))) = false ∨ (s.ch i.val c.val ≠ 1 ∧ s.ch i.val c.val ≠ 2 ∧ s.ch i.val c.val ≠ 3 ∧ s.ch i.val c.val ≠ 6 ∧ s.ch i.val
    c.val ≠ 7) → exec (.didtDetect i c) s = .next s) ∧
  (∀ (s : State) (i a : Fin 8) (w : Nat) (l : List Nat), (s.isl i.val).alarms = w :: l → w % 16 < 6 → s.legAxis (3 * i.val + w %
    16 / 2) = some a.val → s.axState a.val < 5 → s.axState a.val ≠ 0 ∨ (s.on SAF_STATUS__ARMED = true ∧ s.sys.released = true) →
    s.get PWR_BOOT_STATUS__PHASE ≠ 0 → ∃ t, exec (.alarmWord i) s = .next t ∧ t.axState a.val = 5 ∧ t.get (AX_STATE__SAFE_CAUSE
    a.val) = 3 ∧ (t.ax a.val).latched.contains 3 = true ∧ t.on PWR_WAKE_CAUSE__TRIP = true ∧ (t.isl i.val).alarms = l ∧ SameMem s
    t ∧ SameVault s t) ∧
  (∀ (s : State) (i a : Fin 8) (w : Nat) (l : List Nat), (s.isl i.val).alarms = w :: l → w % 16 < 6 → s.legAxis (3 * i.val + w %
    16 / 2) = some a.val → s.axState a.val = 5 ∨ s.axState a.val = 6 → s.get PWR_BOOT_STATUS__PHASE ≠ 0 → ∃ t, exec (.alarmWord i)
    s = .next t ∧ (t.axState a.val = 5 ∨ t.axState a.val = 6) ∧ (t.ax a.val).latched.contains 3 = true ∧ t.on PWR_WAKE_CAUSE__TRIP
    = true ∧ (t.isl i.val).alarms = l ∧ SameMem s t ∧ SameVault s t) ∧
  (∀ (s : State) (i : Fin 8) (w : Nat) (l : List Nat), (s.isl i.val).alarms = w :: l → w % 16 < 6 → s.legAxis (3 * i.val + w % 16
    / 2) = none → s.get PWR_BOOT_STATUS__PHASE ≠ 0 → ∃ t, exec (.alarmWord i) s = .next t ∧ t.on PWR_WAKE_CAUSE__TRIP = true ∧
    (t.isl i.val).alarms = l ∧ OnlyRegsBelow evBase [PWR_WAKE_CAUSE, (GI_EVENT__EVT i.val).addr] s t ∧ SameMem s t ∧ SameVault s
    t) ∧
  (∀ (s : State) (i a : Fin 8) (w : Nat) (l : List Nat), (s.isl i.val).alarms = w :: l → 6 ≤ w % 16 → s.legAxis (3 * i.val + (w %
    16 - 6)) = some a.val → s.axState a.val < 5 → s.axState a.val ≠ 0 ∨ (s.on SAF_STATUS__ARMED = true ∧ s.sys.released = true) → ∃
    t, exec (.alarmWord i) s = .next t ∧ t.axState a.val = 5 ∧ (t.ax a.val).latched.contains 9 = true ∧ (t.isl i.val).alarms = l ∧
    SameMem s t ∧ SameVault s t) ∧
  (∀ (s : State) (i : Fin 8) (w : Nat) (l : List Nat), (s.isl i.val).alarms = w :: l → ∃ t, exec (.alarmWord i) s = .next t ∧
    (t.isl i.val).alarms = l ∧ SameMem s t ∧ SameVault s t) ∧
  (∀ (s : State) (i : Fin 8), (s.isl i.val).alarms = [] → exec (.alarmWord i) s = .next s) ∧
  (∀ (s : State) (i : Fin 8) (w : Nat) (l : List Nat), (s.isl i.val).trips = w :: l → ∃ t, exec (.tripWord i) s = .next t ∧ (∀ x :
    Fin 3, t.glGet GI_L_STATUS__SOFT_STEP i.val x.val = (if nbit w x.val = true ∧ s.glGet GI_L_STATUS__SOFT_STEP i.val x.val ≠ 2
    then 1 else s.glGet GI_L_STATUS__SOFT_STEP i.val x.val) ∧ t.glGet GI_L_STATUS__TRIP_LATCH i.val x.val = (if nbit w x.val =
    true ∧ (s.glGet GI_L_STATUS__SOFT_STEP i.val x.val = 0 ∨ s.glGet GI_L_STATUS__SOFT_STEP i.val x.val = 3) then 1 else s.glGet
    GI_L_STATUS__TRIP_LATCH i.val x.val)) ∧ (t.isl i.val).trips = l ∧ OnlyRegs [GI_L_STATUS i.val 0, GI_L_STATUS i.val 1,
    GI_L_STATUS i.val 2, (GI_L_COUNTS__SC_TRIPS i.val 0).addr, (GI_L_COUNTS__SC_TRIPS i.val 1).addr, (GI_L_COUNTS__SC_TRIPS i.val
    2).addr] s t ∧ SameMem s t ∧ SameVault s t) ∧
  (∀ (s : State) (i : Fin 8) (w : Nat) (l : List Nat) (c : Fin 6), (s.isl i.val).trips = w :: l → nbit w (c.val / 2) = true →
    s.glGet GI_L_STATUS__SOFT_STEP i.val (c.val / 2) = 0 ∨ s.glGet GI_L_STATUS__SOFT_STEP i.val (c.val / 2) = 3 → 1 ≤ s.ch i.val
    c.val → s.ch i.val c.val ≤ 4 → ∃ t, exec (.tripWord i) s = .next t ∧ t.ch i.val c.val = 6 ∧ t.on (chOnBit i.val c.val) =
    false) ∧
  (∀ (s : State) (i : Fin 8), (s.isl i.val).trips = [] → exec (.tripWord i) s = .next s) ∧
  (∀ (s : State) (i : Fin 8) (x : Fin 3), s.glGet GI_L_STATUS__SOFT_STEP i.val x.val = 1 → ∃ t, exec (.softStep1End i x) s = .next
    t ∧ t.glGet GI_L_STATUS__SOFT_STEP i.val x.val = 2 ∧ (∀ c : Fin 6, t.ch i.val c.val = (if c.val / 2 = x.val ∧ s.ch i.val c.val
    = 6 then 7 else s.ch i.val c.val)) ∧ OnlyRegs [GI_L_STATUS i.val x.val] s t ∧ SameMem s t ∧ SameVault s t) ∧
  (∀ (s : State) (i : Fin 8) (x : Fin 3), s.glGet GI_L_STATUS__SOFT_STEP i.val x.val ≠ 1 → exec (.softStep1End i x) s = .next s) ∧
  (∀ (s : State) (i : Fin 8) (x : Fin 3), s.glGet GI_L_STATUS__SOFT_STEP i.val x.val = 2 → ∃ t, exec (.softStep2End i x) s = .next
    t ∧ t.glGet GI_L_STATUS__SOFT_STEP i.val x.val = 3 ∧ (∀ c : Fin 6, c.val / 2 = x.val → s.ch i.val c.val = 7 → t.ch i.val c.val
    = 0) ∧ OnlyRegsBelow evBase [GI_L_STATUS i.val x.val, (GI_EVENT__EVT i.val).addr] s t ∧ SameMem s t ∧ SameVault s t) ∧
  (∀ (s : State) (i : Fin 8) (x : Fin 3), s.glGet GI_L_STATUS__SOFT_STEP i.val x.val ≠ 2 → exec (.softStep2End i x) s = .next s ∧
    exec (.softStep2Timeout i x) s = .next s) ∧
  (∀ (s : State) (i : Fin 8) (x : Fin 3), s.glGet GI_L_STATUS__SOFT_STEP i.val x.val = 2 → s.legAxis (3 * i.val + x.val) = none →
    ∃ t, exec (.softStep2Timeout i x) s = .next t ∧ t.glGet GI_L_STATUS__SOFT_STEP i.val x.val = 3 ∧ (∀ c : Fin 6, c.val / 2 =
    x.val → s.ch i.val c.val = 7 → t.ch i.val c.val = 0 ∧ nbit (t.isl i.val).heldOff c.val = true ∧ t.glGet (if c.val % 2 = 0 then
    GI_L_STATUS__GATE_FAULT_U else GI_L_STATUS__GATE_FAULT_L) i.val (c.val / 2) = 1) ∧ OnlyRegsBelow evBase [GI_L_STATUS i.val
    x.val, (GI_EVENT__EVT i.val).addr] s t ∧ SameMem s t ∧ SameVault s t) ∧
  (∀ (s : State) (i a : Fin 8) (x : Fin 3), s.glGet GI_L_STATUS__SOFT_STEP i.val x.val = 2 → s.legAxis (3 * i.val + x.val) = some
    a.val → s.ch i.val (2 * x.val) = 7 ∨ s.ch i.val (2 * x.val + 1) = 7 → s.axState a.val < 5 → s.axState a.val ≠ 0 ∨ (s.on
    SAF_STATUS__ARMED = true ∧ s.sys.released = true) → ∃ t, exec (.softStep2Timeout i x) s = .next t ∧ t.glGet
    GI_L_STATUS__SOFT_STEP i.val x.val = 3 ∧ t.axState a.val = 5 ∧ t.get (AX_STATE__SAFE_CAUSE a.val) = 9 ∧ (t.ax
    a.val).latched.contains 9 = true ∧ SameMem s t ∧ SameVault s t) ∧
  (∀ (s : State) (i : Fin 8) (x : Fin 3) (g k : Nat), g = (s.isl i.val).gap.getD x.val 0 → g ≠ 0 → k = (if g = 2 then 2 * x.val
    else 2 * x.val + 1) → s.holdGoverns i.val x.val = true → s.ch i.val k = 0 ∨ s.ch i.val k = 4 ∨ s.ch i.val k = 5 → s.chMayOn
    i.val k true = true → ∃ t, exec (.holdStateGapEnd i x) s = .next t ∧ t.ch i.val k = 1 ∧ (t.isl i.val).gap.getD x.val 0 = 0 ∧
    OnlyRegs [] s t ∧ SameMem s t ∧ SameVault s t) ∧
  (∀ (s : State) (i : Fin 8) (x : Fin 3) (g k : Nat), g = (s.isl i.val).gap.getD x.val 0 → g ≠ 0 → k = (if g = 2 then 2 * x.val
    else 2 * x.val + 1) → s.holdGoverns i.val x.val = false ∨ (s.ch i.val k ≠ 0 ∧ s.ch i.val k ≠ 4 ∧ s.ch i.val k ≠ 5) ∨ s.chMayOn
    i.val k true = false → ∃ t, exec (.holdStateGapEnd i x) s = .next t ∧ (t.isl i.val).chs = (s.isl i.val).chs ∧ (t.isl
    i.val).gap.getD x.val 0 = 0 ∧ OnlyRegs [] s t ∧ SameMem s t ∧ SameVault s t) ∧
  (∀ (s : State) (i : Fin 8) (x : Fin 3), (s.isl i.val).gap.getD x.val 0 = 0 → exec (.holdStateGapEnd i x) s = .next s)

/-- The basting check and the service of an island (R283 to R288). START, where it is accepted, makes the results of the legs
concerned read as not tested and the check run on them, or, with no test selected, ends it at once; ABORT ends the check on
them, and what was still to come reads 7. The measurement whose turn has come gives its leg its code and its value; the last
one ends the check on all its legs, and a measurement out of turn is none. SERVICE is set, which turns the island's channels
off, and cleared, which makes it ready again; a write of the value it has changes nothing. -/
def Obligations.BastingAndService : Prop :=
  (∀ (s : State) (w : Writer) (m k : Fin 24), s.may w (GI_L_BCTRL (m.val / 3) (m.val % 3)) 1 = true → (s.bastLegs m.val).contains
    k.val = true → (s.bastLegs m.val).all (fun l => s.bastList l == []) = false → ∃ t, exec (.bastingStart w m) s = .next t ∧ t.on
    (GI_L_BRES__RUNNING (k.val / 3) (k.val % 3)) = true ∧ t.on (GI_L_BRES__VALID (k.val / 3) (k.val % 3)) = false ∧ t.get
    (GI_L_BRES__GATE_U (k.val / 3) (k.val % 3)) = 0 ∧ t.get (GI_L_BRES__GATE_L (k.val / 3) (k.val % 3)) = 0 ∧ t.get
    (GI_L_BRES__PHASE (k.val / 3) (k.val % 3)) = 0 ∧ t.get (GI_L_BRES__WIND (k.val / 3) (k.val % 3)) = 0 ∧ t.rd (GI_L_BVAL (k.val /
    3) (k.val % 3)) = 0 ∧ (t.leg k.val).bast = s.bastList k.val ∧ t.on (GI_L_BRES__STALE (k.val / 3) (k.val % 3)) = s.on
    (GI_L_BRES__STALE (k.val / 3) (k.val % 3)) ∧ OnlyRegs (PWR_WAKE_CAUSE :: (List.range 24).flatMap fun k => [GI_L_BRES (k / 3) (k
    % 3), GI_L_BVAL (k / 3) (k % 3)]) s t ∧ SameMem s t ∧ SameVault s t) ∧
  (∀ (s : State) (w : Writer) (m k : Fin 24), s.may w (GI_L_BCTRL (m.val / 3) (m.val % 3)) 1 = true → (s.bastLegs m.val).contains
    k.val = true → (s.bastLegs m.val).all (fun l => s.bastList l == []) = true → ∃ t, exec (.bastingStart w m) s = .next t ∧ t.on
    (GI_L_BRES__RUNNING (k.val / 3) (k.val % 3)) = false ∧ t.on (GI_L_BRES__VALID (k.val / 3) (k.val % 3)) = true ∧ t.on
    (GI_L_BRES__STALE (k.val / 3) (k.val % 3)) = false ∧ t.get (GI_L_BRES__GATE_U (k.val / 3) (k.val % 3)) = 0 ∧ OnlyRegsBelow
    evBase (PWR_WAKE_CAUSE :: (List.range 24).flatMap fun k => [GI_L_BRES (k / 3) (k % 3), GI_L_BVAL (k / 3) (k % 3),
    (GI_EVENT__EVT (k / 3)).addr]) s t ∧ SameMem s t ∧ SameVault s t) ∧
  (∀ (s : State) (w : Writer) (m k : Fin 24), s.may w (GI_L_BCTRL (m.val / 3) (m.val % 3)) 2 = true → (s.bastLegs m.val).contains
    k.val = true → s.on (GI_L_BRES__RUNNING (k.val / 3) (k.val % 3)) = true → ∃ t, exec (.bastingAbort w m) s = .next t ∧ t.on
    (GI_L_BRES__RUNNING (k.val / 3) (k.val % 3)) = false ∧ t.on (GI_L_BRES__VALID (k.val / 3) (k.val % 3)) = true ∧ (t.leg
    k.val).bast = [] ∧ (∀ j : Fin 4, (s.leg k.val).bast.contains j.val = true → t.get (bastField k.val j.val) = 7) ∧ OnlyRegs
    (PWR_WAKE_CAUSE :: (List.range 24).flatMap fun k => [GI_L_BRES (k / 3) (k % 3), GI_L_BVAL (k / 3) (k % 3)]) s t ∧ SameMem s t ∧
    SameVault s t) ∧
  (∀ (s : State) (w : Writer) (m k : Fin 24), s.may w (GI_L_BCTRL (m.val / 3) (m.val % 3)) 2 = true → (s.bastLegs m.val).contains
    k.val = true → s.on (GI_L_BRES__RUNNING (k.val / 3) (k.val % 3)) = false → ∃ t, exec (.bastingAbort w m) s = .next t ∧ t.rd
    (GI_L_BRES (k.val / 3) (k.val % 3)) = s.rd (GI_L_BRES (k.val / 3) (k.val % 3)) ∧ OnlyRegs (PWR_WAKE_CAUSE :: (List.range
    24).flatMap fun k => [GI_L_BRES (k / 3) (k % 3), GI_L_BVAL (k / 3) (k % 3)]) s t ∧ SameMem s t ∧ SameVault s t) ∧
  (∀ (s : State) (m : Fin 24) (up clamp rest small : Bool) (d : BitVec 8) (last : Bool), s.on (GI_L_BRES__RUNNING (m.val / 3)
    (m.val % 3)) = true → s.bastTurn m.val (bastKind (.gate up clamp rest small d)) = true → last = s.bastEnds m.val (.gate up
    clamp rest small d) → ∃ t, exec (.bastingMeasurement m (.gate up clamp rest small d) last) s = .next t ∧ t.get (if up then
    GI_L_BVAL__DV_U (m.val / 3) (m.val % 3) else GI_L_BVAL__DV_L (m.val / 3) (m.val % 3)) = d.toNat ∧ (rest = false ∨ small = true
    → clamp = false → t.get (if up then GI_L_BRES__GATE_U (m.val / 3) (m.val % 3) else GI_L_BRES__GATE_L (m.val / 3) (m.val % 3)) =
    3) ∧ (rest = false ∨ small = true → clamp = true → t.get (if up then GI_L_BRES__GATE_U (m.val / 3) (m.val % 3) else
    GI_L_BRES__GATE_L (m.val / 3) (m.val % 3)) = 2 ∨ t.get (if up then GI_L_BRES__GATE_U (m.val / 3) (m.val % 3) else
    GI_L_BRES__GATE_L (m.val / 3) (m.val % 3)) = 3) ∧ (rest = true → small = false → t.get (if up then GI_L_BRES__GATE_U (m.val /
    3) (m.val % 3) else GI_L_BRES__GATE_L (m.val / 3) (m.val % 3)) = (if clamp then 2 else 1)) ∧ (last = false → t.on
    (GI_L_BRES__RUNNING (m.val / 3) (m.val % 3)) = true) ∧ OnlyRegsBelow evBase (PWR_WAKE_CAUSE :: (List.range 24).flatMap fun k =>
    [GI_L_BRES (k / 3) (k % 3), GI_L_BVAL (k / 3) (k % 3), (GI_EVENT__EVT (k / 3)).addr]) s t ∧ SameMem s t ∧ SameVault s t) ∧
  (∀ (s : State) (m : Fin 24) (v u : BitVec 8) (last : Bool), s.on (GI_L_BRES__RUNNING (m.val / 3) (m.val % 3)) = true → s.bastTurn
    m.val (bastKind (.phase v u)) = true → last = s.bastEnds m.val (.phase v u) → ∃ t, exec (.bastingMeasurement m (.phase v u)
    last) s = .next t ∧ t.get (GI_L_BVAL__V_SRC (m.val / 3) (m.val % 3)) = v.toNat ∧ t.get (GI_L_BVAL__V_SNK (m.val / 3) (m.val %
    3)) = u.toNat ∧ (25 ≤ v.toNat → u.toNat < 188 → t.get (GI_L_BRES__PHASE (m.val / 3) (m.val % 3)) = 1) ∧ (v.toNat < 25 ∨ 188 ≤
    u.toNat → s.linkHot (m.val / 3) = false → t.get (GI_L_BRES__PHASE (m.val / 3) (m.val % 3)) = 4) ∧ (v.toNat < 25 → u.toNat < 188
    → s.linkHot (m.val / 3) = true → t.get (GI_L_BRES__PHASE (m.val / 3) (m.val % 3)) = 3) ∧ (25 ≤ v.toNat → 188 ≤ u.toNat →
    s.linkHot (m.val / 3) = true → t.get (GI_L_BRES__PHASE (m.val / 3) (m.val % 3)) = 2) ∧ (v.toNat < 25 → 188 ≤ u.toNat →
    s.linkHot (m.val / 3) = true → t.get (GI_L_BRES__PHASE (m.val / 3) (m.val % 3)) = 2 ∨ t.get (GI_L_BRES__PHASE (m.val / 3)
    (m.val % 3)) = 3) ∧ (last = false → t.on (GI_L_BRES__RUNNING (m.val / 3) (m.val % 3)) = true) ∧ OnlyRegsBelow evBase
    (PWR_WAKE_CAUSE :: (List.range 24).flatMap fun k => [GI_L_BRES (k / 3) (k % 3), GI_L_BVAL (k / 3) (k % 3), (GI_EVENT__EVT (k /
    3)).addr]) s t ∧ SameMem s t ∧ SameVault s t) ∧
  (∀ (s : State) (m : Fin 24) (u v : WindV) (last : Bool), s.on (GI_L_BRES__RUNNING (m.val / 3) (m.val % 3)) = true → s.bastTurn
    m.val (bastKind (.wind u v)) = true → last = s.bastEnds m.val (.wind u v) → ∃ t, exec (.bastingMeasurement m (.wind u v) last)
    s = .next t ∧ (u = .low → v = .low → t.get (GI_L_BRES__WIND (m.val / 3) (m.val % 3)) = 1) ∧ (u = .compliance → v = .compliance
    → t.get (GI_L_BRES__WIND (m.val / 3) (m.val % 3)) = 2) ∧ (last = false → t.on (GI_L_BRES__RUNNING (m.val / 3) (m.val % 3)) =
    true) ∧ OnlyRegsBelow evBase (PWR_WAKE_CAUSE :: (List.range 24).flatMap fun k => [GI_L_BRES (k / 3) (k % 3), GI_L_BVAL (k / 3)
    (k % 3), (GI_EVENT__EVT (k / 3)).addr]) s t ∧ SameMem s t ∧ SameVault s t) ∧
  (∀ (s : State) (m k : Fin 24) (b : BastMeas), s.on (GI_L_BRES__RUNNING (m.val / 3) (m.val % 3)) = true → s.bastTurn m.val
    (bastKind b) = true → s.bastEnds m.val b = true → (s.bastLegs m.val).contains k.val = true → ∃ t, exec (.bastingMeasurement m b
    true) s = .next t ∧ t.on (GI_L_BRES__RUNNING (k.val / 3) (k.val % 3)) = false ∧ t.on (GI_L_BRES__VALID (k.val / 3) (k.val % 3))
    = true ∧ t.on (GI_L_BRES__STALE (k.val / 3) (k.val % 3)) = false ∧ OnlyRegsBelow evBase (PWR_WAKE_CAUSE :: (List.range
    24).flatMap fun k => [GI_L_BRES (k / 3) (k % 3), GI_L_BVAL (k / 3) (k % 3), (GI_EVENT__EVT (k / 3)).addr]) s t ∧ SameMem s t ∧
    SameVault s t) ∧
  (∀ (s : State) (m : Fin 24) (b : BastMeas) (last : Bool), s.on (GI_L_BRES__RUNNING (m.val / 3) (m.val % 3)) = false ∨ s.bastTurn
    m.val (bastKind b) = false ∨ last ≠ s.bastEnds m.val b → exec (.bastingMeasurement m b last) s = .next s) ∧
  (∀ (s : State) (w : Writer) (i : Fin 8), s.may w (GI_CFG i.val) (fieldSet (s.rd (GI_CFG i.val)) 0 1 1) = true → s.on
    (GI_CFG__SERVICE i.val) = false → ∃ t, exec (.islandService w i true) s = .next t ∧ t.on (GI_CFG__SERVICE i.val) = true ∧ t.on
    (GI_STATUS__READY i.val) = false ∧ (∀ c : Fin 6, t.ch i.val c.val = (if s.ch i.val c.val = 3 then 4 else if s.ch i.val c.val =
    1 ∨ s.ch i.val c.val = 2 then 5 else s.ch i.val c.val)) ∧ OnlyRegsBelow evBase [PWR_WAKE_CAUSE, GI_CFG i.val, GI_STATUS i.val,
    (GI_EVENT__EVT i.val).addr] s t ∧ SameMem s t ∧ SameVault s t) ∧
  (∀ (s : State) (w : Writer) (i : Fin 8), s.may w (GI_CFG i.val) (fieldSet (s.rd (GI_CFG i.val)) 0 1 0) = true → s.on
    (GI_CFG__SERVICE i.val) = true → ∃ t, exec (.islandService w i false) s = .next t ∧ t.on (GI_CFG__SERVICE i.val) = false ∧ t.on
    (GI_STATUS__READY i.val) = true ∧ OnlyRegsBelow evBase [PWR_WAKE_CAUSE, GI_CFG i.val, GI_STATUS i.val, (GI_EVENT__EVT
    i.val).addr] s t ∧ SameMem s t ∧ SameVault s t) ∧
  (∀ (s : State) (w : Writer) (i : Fin 8) (v : Bool), s.may w (GI_CFG i.val) (fieldSet (s.rd (GI_CFG i.val)) 0 1 (b2n v)) = true →
    s.on (GI_CFG__SERVICE i.val) = v → ∃ t, exec (.islandService w i v) s = .next t ∧ t.on (GI_CFG__SERVICE i.val) = v ∧ t.isl
    i.val = s.isl i.val ∧ OnlyRegs [PWR_WAKE_CAUSE, GI_CFG i.val, GI_STATUS i.val] s t ∧ SameMem s t ∧ SameVault s t)

/-- Fast measurement and the window comparators (R290 to R299, R347, R350). While PLL-B runs, a conversion of an enabled
channel with a converter in service, on the grid or due by a trigger, gives the code, its corrected value and the clip flag; a
dropped trigger counts; a channel takes a reserve converter; any other conversion, drop or move does nothing. A comparator that
fires reaches the trip matrix, unless it only acts, or is masked in an open blanking window, when it counts and fires at the
close where its condition still stands; a comparator that is off, already out or has no copy left does not fire; the end of a
condition clears it. A gate-command edge opens the windows of the channels that its axis may use. The trip matrix takes the
oldest firing: the axis that its channel names goes to SAFE with cause 2, latched where so configured, and the device wakes; an
axis that holds a short circuit ignores it; a firing that names no axis is dropped. -/
def Obligations.FastMeasurement : Prop :=
  (∀ (s : State) (k : Fin 32) (d : BitVec 14), s.on CLK_STATUS__PLLB_LOCK = true → s.fcConv k.val = true → (s.onGrid k.val ||
    ((s.fc k.val).due != 0)) = true → ∃ t, exec (.fastConversion k d) s = .next t ∧ t.get (FM_CH_DATA__RAW k.val) = d.toNat ∧ t.on
    (FM_CH_DATA__VALID k.val) = true ∧ (t.fc k.val).c = s.fcCorrect k.val d.toInt ∧ t.on (FM_CH_STATUS__CLIP k.val) = (decide (d =
    0x2000) || decide (d = 0x1FFF)) ∧ (d = 0x2000 ∨ d = 0x1FFF → nbit (t.get (FM_CH_EVENT__EVT k.val)) 2 = true) ∧ t.on
    FM_STATUS__CONV_RUN = true ∧ (t.fc k.val).due = (if s.onGrid k.val then 0 else (s.fc k.val).due - 1) ∧ OnlyRegsBelow 0x20000 []
    s t ∧ SameMem s t ∧ SameVault s t) ∧
  (∀ (s : State) (k : Fin 32) (d : BitVec 14), s.on CLK_STATUS__PLLB_LOCK = false ∨ s.fcConv k.val = false ∨ (s.onGrid k.val =
    false ∧ (s.fc k.val).due = 0) → exec (.fastConversion k d) s = .next s) ∧
  (∀ (s : State) (k : Fin 32), s.on (FM_CH_CFG__EN k.val) = true → s.onGrid k.val = false → s.on CLK_STATUS__PLLB_LOCK = true →
    (s.fc k.val).due ≠ 0 → ∃ t, exec (.triggerDropped k) s = .next t ∧ t.get (FM_CH_COUNTS__TRIG_DROP k.val) = min 65535 (s.get
    (FM_CH_COUNTS__TRIG_DROP k.val) + 1) ∧ nbit (t.get (FM_CH_EVENT__EVT k.val)) 3 = true ∧ (t.fc k.val).due = (s.fc k.val).due - 1
    ∧ OnlyRegsBelow evBase [(FM_CH_COUNTS__TRIG_DROP k.val).addr, (FM_CH_EVENT__EVT k.val).addr] s t ∧ SameMem s t ∧ SameVault s t) ∧
  (∀ (s : State) (k : Fin 32), s.on (FM_CH_CFG__EN k.val) = false ∨ s.onGrid k.val = true ∨ s.on CLK_STATUS__PLLB_LOCK = false ∨
    (s.fc k.val).due = 0 → exec (.triggerDropped k) s = .next s) ∧
  (∀ (s : State) (k : Fin 32) (f : Fin 36), s.on (FM_CH_CFG__EN k.val) = true → s.get (fpStat f.val) = 1 → ∃ t, exec (.xbarMove k
    f) s = .next t ∧ t.get (FM_CH_STATUS__FP k.val) = f.val ∧ (s.get (FM_CH_STATUS__FP k.val) ≠ f.val → t.get (FM_XBAR__FP (k.val /
    4) (k.val % 4)) = f.val) ∧ t.get (fpStat f.val) = 0 ∧ t.red.noConv.contains k.val = false ∧ OnlyRegsBelow evBase
    [(FM_CH_STATUS__FP k.val).addr, (FM_XBAR__FP (k.val / 4) 0).addr, (fpStat f.val).addr, (fpStat (s.get (FM_CH_STATUS__FP
    k.val))).addr] s t ∧ SameMem s t ∧ SameVault s t) ∧
  (∀ (s : State) (k : Fin 32) (f : Fin 36), s.on (FM_CH_CFG__EN k.val) = false ∨ s.get (fpStat f.val) ≠ 1 → exec (.xbarMove k f) s
    = .next s) ∧
  (∀ (s : State) (k : Fin 32) (b : Bool) (c : BitVec 2), s.get (winMode k.val b) ≠ 0 → s.on (winOut k.val b) = false → c.toNat &&&
    s.get (winCopies k.val b) ≠ 0 → s.on (FM_CH_STATUS__BLANKING k.val) = false ∨ s.on (winBlk k.val b) = false → ∃ t, exec
    (.windowFiring k b c) s = .next t ∧ t.on (winOut k.val b) = true ∧ nbit (t.get (FM_CH_EVENT__EVT k.val)) 0 = true ∧
    t.sys.firings = s.sys.firings ++ (if s.on (winAct k.val b) then [] else [(k.val, b)]) ∧ OnlyRegsBelow evBase [(winOut k.val
    b).addr, (FM_CH_EVENT__EVT k.val).addr] s t ∧ SameMem s t ∧ SameVault s t) ∧
  (∀ (s : State) (k : Fin 32) (b : Bool) (c : BitVec 2), s.get (winMode k.val b) ≠ 0 → s.on (winOut k.val b) = false → c.toNat &&&
    s.get (winCopies k.val b) ≠ 0 → s.on (FM_CH_STATUS__BLANKING k.val) = true → s.on (winBlk k.val b) = true → ∃ t, exec
    (.windowFiring k b c) s = .next t ∧ t.on (winOut k.val b) = true ∧ nbit (t.get (FM_CH_EVENT__EVT k.val)) 1 = true ∧
    t.sys.firings = s.sys.firings ∧ t.get (FM_CH_COUNTS__MASKED k.val) = min 65535 (s.get (FM_CH_COUNTS__MASKED k.val) + 1) ∧ (if b
    then (t.fc k.val).heldB else (t.fc k.val).heldA) = true ∧ OnlyRegsBelow evBase [(winOut k.val b).addr, (FM_CH_COUNTS__MASKED
    k.val).addr, (FM_CH_EVENT__EVT k.val).addr] s t ∧ SameMem s t ∧ SameVault s t) ∧
  (∀ (s : State) (k : Fin 32) (b : Bool) (c : BitVec 2), s.get (winMode k.val b) = 0 ∨ s.on (winOut k.val b) = true ∨ c.toNat &&&
    s.get (winCopies k.val b) = 0 → exec (.windowFiring k b c) s = .next s) ∧
  (∀ (s : State) (k : Fin 32) (b : Bool), (∀ g : Fin 4, s.get (SAF_LINK_CFG__VDC_CH g.val) ≠ k.val) → ∃ t, exec
    (.windowConditionEnd k b) s = .next t ∧ t.on (winOut k.val b) = false ∧ (if b then (t.fc k.val).heldB else (t.fc k.val).heldA)
    = false ∧ OnlyRegs [(winOut k.val b).addr] s t ∧ SameMem s t ∧ SameVault s t) ∧
  (∀ (s : State) (k : Fin 32) (b : Bool) (g : Fin 4), s.get (SAF_LINK_CFG__VDC_CH g.val) = k.val → ∃ t, exec (.windowConditionEnd k
    b) s = .next t ∧ t.on (winOut k.val b) = false ∧ (if b then (t.fc k.val).heldB else (t.fc k.val).heldA) = false ∧ t.linkBit
    g.val (b2n b) = false ∧ SameMem s t ∧ SameVault s t) ∧
  (∀ (s : State) (m : Fin 24) (k : Fin 32), ∃ t, exec (.blankingOpen m) s = .next t ∧ t.on (FM_CH_STATUS__BLANKING k.val) =
    (((s.legAxis m.val).map fun a => s.fcUsable k.val a && (s.get (FM_CH_WCTL__BLANK k.val) != 0)) == some true || s.on
    (FM_CH_STATUS__BLANKING k.val)) ∧ OnlyRegs ((List.range 32).map fun j => (FM_CH_STATUS__BLANKING j).addr) s t ∧ SameMem s t ∧
    SameVault s t) ∧
  (∀ (s : State) (k : Fin 32), s.on (FM_CH_STATUS__BLANKING k.val) = true → ∃ t, exec (.blankingClose k) s = .next t ∧ t.on
    (FM_CH_STATUS__BLANKING k.val) = false ∧ (t.fc k.val).heldA = false ∧ (t.fc k.val).heldB = false ∧ t.sys.firings =
    s.sys.firings ++ (if (s.fc k.val).heldA = true ∧ s.on (winAct k.val false) = false then [(k.val, false)] else []) ++ (if (s.fc
    k.val).heldB = true ∧ s.on (winAct k.val true) = false then [(k.val, true)] else []) ∧ ((s.fc k.val).heldA = true ∨ (s.fc
    k.val).heldB = true → nbit (t.get (FM_CH_EVENT__EVT k.val)) 0 = true) ∧ OnlyRegsBelow evBase [(FM_CH_STATUS__BLANKING
    k.val).addr, (FM_CH_EVENT__EVT k.val).addr] s t ∧ SameMem s t ∧ SameVault s t) ∧
  (∀ (s : State) (k : Fin 32), s.on (FM_CH_STATUS__BLANKING k.val) = false → exec (.blankingClose k) s = .next s) ∧
  (∀ (s : State) (k : Nat) (b : Bool) (l : List (Nat × Bool)) (a : Fin 8), s.sys.firings = (k, b) :: l → s.fcAxes k = [a.val] →
    s.winIgnored a.val = false → s.get PWR_BOOT_STATUS__PHASE ≠ 0 →  s.axState a.val < 5 → s.axState a.val ≠ 0 ∨ (s.on
    SAF_STATUS__ARMED = true ∧ s.sys.released = true) → ∃ t, exec .protectionTrip s = .next t ∧ t.axState a.val = 5 ∧ t.get
    (AX_STATE__SAFE_CAUSE a.val) = 2 ∧ ((t.ax a.val).latched.contains 2 = (s.on (SAF_AX_CFG__WIN_LATCH a.val) || (s.ax
    a.val).latched.contains 2)) ∧ (t.ax a.val).winFired.contains (2 * k + b2n b) = true ∧ t.sys.firings = l ∧ t.on
    PWR_WAKE_CAUSE__TRIP = true ∧ SameMem s t ∧ SameVault s t) ∧
  (∀ (s : State) (k : Nat) (b : Bool) (l : List (Nat × Bool)) (a : Fin 8), s.sys.firings = (k, b) :: l → (s.fcAxes k).contains
    a.val = true → s.winIgnored a.val = false → s.get PWR_BOOT_STATUS__PHASE ≠ 0 →  s.axState a.val < 5 → s.axState a.val ≠ 0 ∨
    (s.on SAF_STATUS__ARMED = true ∧ s.sys.released = true) → ∃ t, exec .protectionTrip s = .next t ∧ t.axState a.val = 5 ∧
    t.sys.firings = l ∧ t.on PWR_WAKE_CAUSE__TRIP = true ∧ SameMem s t ∧ SameVault s t) ∧
  (∀ (s : State) (k : Nat) (b : Bool) (l : List (Nat × Bool)) (a : Fin 8), s.sys.firings = (k, b) :: l → s.fcAxes k = [a.val] →
    s.winIgnored a.val = true → ∃ t, exec .protectionTrip s = .next t ∧ t.axState a.val = s.axState a.val ∧ t.on
    (SAF_AX_STAT__WIN_IGN a.val) = true ∧ t.sys.firings = l ∧ OnlyRegsBelow evBase [(SAF_AX_STAT__WIN_IGN a.val).addr,
    SAF_EVENT__EVT.addr] s t ∧ SameMem s t ∧ SameVault s t) ∧
  (∀ (s : State) (k : Nat) (b : Bool) (l : List (Nat × Bool)), s.sys.firings = (k, b) :: l → s.fcAxes k = [] → ∃ t, exec
    .protectionTrip s = .next t ∧ t.sys.firings = l ∧ OnlyRegs [] s t ∧ SameMem s t ∧ SameVault s t) ∧
  (∀ (s : State), s.sys.firings = [] → exec .protectionTrip s = .next s)

/-- The precision path (R305 to R319). A list conversion joins its input's average, and the last of an average is a result; an
urgent one is a result at once; a calibration conversion adds to its mean, and the last of its step holds it; a converter that
runs none of these ends none. The two test conversions judge an input. While the mains are tracked, a rising crossing starts a
period, and ends the one before it: eight valid periods in succession make it valid and one outside the limits ends that, as
does their absence. An urgent request takes a free converter, the list conversion of its own input, or the converter of the
normal conversion started last, or waits; a host's read pops the queue, and reads 0 where it is empty or read by a context. The
steps of a calibration follow one another; a COMMIT that passes its check sends both coefficients to the vault, one that fails
ends with its result, and a step out of order or ABORT ends the calibration with result 4; what it has sent and has not started
is dropped. -/
def Obligations.PrecisionPath : Prop :=
  (∀ (s : State) (x : Fin 2) (d : BitVec 24), (s.px x.val).job = 1 → (s.pmIn (s.px x.val).input).n + 1 < 2 ^ min 8 (s.get
    (PM_IN_CFG__AVG_LOG2 ((s.px x.val).input))) → ∃ t, exec (.precisionConversion x d) s = .next t ∧ (t.pmIn (s.px x.val).input).n
    = (s.pmIn (s.px x.val).input).n + 1 ∧ (t.pmIn (s.px x.val).input).sum = (s.pmIn (s.px x.val).input).sum + (s.px
    x.val).calibrate d.toNat ∧ t.pm.q = s.pm.q ∧ OnlyRegs [PM_STATUS] s t ∧ SameMem s t ∧ SameVault s t) ∧
  (∀ (s : State) (x : Fin 2) (d : BitVec 24), (s.px x.val).job = 1 → 2 ^ min 8 (s.get (PM_IN_CFG__AVG_LOG2 ((s.px x.val).input))) ≤
    (s.pmIn (s.px x.val).input).n + 1 → ∃ t, exec (.precisionConversion x d) s = .next t ∧ t.rd (PM_IN_LAST ((s.px x.val).input)) =
    BitVec.ofInt 32 (clampI (-(2 ^ 31)) (2 ^ 31 - 1) (ashr ((s.pmIn (s.px x.val).input).sum + (s.px x.val).calibrate d.toNat) (min
    8 (s.get (PM_IN_CFG__SHIFT ((s.px x.val).input)))))) ∧ t.get (PM_IN_STATUS__SEQ ((s.px x.val).input)) = (s.get
    (PM_IN_STATUS__SEQ ((s.px x.val).input)) + 1) % 65536 ∧ t.pm.q.length = (if s.pm.q.length < 512 then s.pm.q.length + 1 else
    s.pm.q.length) ∧ (t.pmIn (s.px x.val).input).n = 0 ∧ (t.pmIn (s.px x.val).input).sum = 0 ∧ OnlyRegsBelow 0x2000
    [PWR_WAKE_CAUSE, PWR_STATE] s t ∧ SameMem s t ∧ SameVault s t) ∧
  (∀ (s : State) (x : Fin 2) (d : BitVec 24), (s.px x.val).job = 2 → ∃ t, exec (.precisionConversion x d) s = .next t ∧ t.rd
    (PM_IN_LAST ((s.px x.val).input)) = BitVec.ofInt 32 (clampI (-(2 ^ 31)) (2 ^ 31 - 1) ((s.px x.val).calibrate d.toNat)) ∧ t.get
    (PM_IN_STATUS__SEQ ((s.px x.val).input)) = (s.get (PM_IN_STATUS__SEQ ((s.px x.val).input)) + 1) % 65536 ∧ t.pm.q.length = (if
    s.pm.q.length < 512 then s.pm.q.length + 1 else s.pm.q.length) ∧ (t.pmIn (s.px x.val).input).n = (s.pmIn (s.px x.val).input).n
    ∧ OnlyRegsBelow 0x2000 [PWR_WAKE_CAUSE, PWR_STATE] s t ∧ SameMem s t ∧ SameVault s t) ∧
  (∀ (s : State) (x : Fin 2) (d : BitVec 24), (s.px x.val).job = 3 → s.pm.calLeft ≠ 0 → ∃ t, exec (.precisionConversion x d) s =
    .next t ∧ t.pm.calSum = s.pm.calSum + d.toNat ∧ t.get PM_CAL_STATUS__PHASE = s.get PM_CAL_STATUS__PHASE ∧ OnlyRegs [PM_STATUS]
    s t ∧ SameMem s t ∧ SameVault s t) ∧
  (∀ (s : State) (x : Fin 2) (d : BitVec 24), (s.px x.val).job = 3 → s.pm.calLeft = 0 → s.get PM_CAL_STATUS__PHASE = 1 → ∃ t, exec
    (.precisionConversion x d) s = .next t ∧ t.get PM_CAL_STATUS__PHASE = 2 ∧ t.get PM_CAL_Z__MEAN = (2 * (s.pm.calSum + d.toNat) +
    2 ^ s.pm.calLog2) / 2 ^ (s.pm.calLog2 + 1) % 2 ^ 24 ∧ OnlyRegs [PM_CAL_STATUS__PHASE.addr, PM_CAL_Z__MEAN.addr, PM_STATUS] s t
    ∧ SameMem s t ∧ SameVault s t) ∧
  (∀ (s : State) (x : Fin 2) (d : BitVec 24), (s.px x.val).job = 3 → s.pm.calLeft = 0 → s.get PM_CAL_STATUS__PHASE = 3 → ∃ t, exec
    (.precisionConversion x d) s = .next t ∧ t.get PM_CAL_STATUS__PHASE = 4 ∧ t.get PM_CAL_F__MEAN = (2 * (s.pm.calSum + d.toNat) +
    2 ^ s.pm.calLog2) / 2 ^ (s.pm.calLog2 + 1) % 2 ^ 24 ∧ OnlyRegs [PM_CAL_STATUS__PHASE.addr, PM_CAL_F__MEAN.addr, PM_STATUS] s t
    ∧ SameMem s t ∧ SameVault s t) ∧
  (∀ (s : State) (x : Fin 2) (d : BitVec 24), (s.px x.val).job = 0 ∨ 4 ≤ (s.px x.val).job → exec (.precisionConversion x d) s =
    .next s) ∧
  (∀ (s : State) (x : Fin 2) (d : BitVec 24), (s.px x.val).job = 4 → (s.pmIn (s.px x.val).input).owDown = none → ∃ t, exec
    (.openWireTest x d) s = .next t ∧ (t.pmIn (s.px x.val).input).owUp = some (decide (0xFF0000 ≤ d.toNat)) ∧ (t.pmIn (s.px
    x.val).input).owDown = none ∧ OnlyRegs [PM_STATUS] s t ∧ SameMem s t ∧ SameVault s t) ∧
  (∀ (s : State) (x : Fin 2) (d : BitVec 24), (s.px x.val).job = 5 → (s.pmIn (s.px x.val).input).owUp = none → ∃ t, exec
    (.openWireTest x d) s = .next t ∧ (t.pmIn (s.px x.val).input).owDown = some (decide (d.toNat ≤ 0xFFFF)) ∧ (t.pmIn (s.px
    x.val).input).owUp = none ∧ OnlyRegs [PM_STATUS] s t ∧ SameMem s t ∧ SameVault s t) ∧
  (∀ (s : State) (x : Fin 2) (d : BitVec 24) (u : Bool), (s.px x.val).job = 5 → (s.pmIn (s.px x.val).input).owUp = some u → ∃ t,
    exec (.openWireTest x d) s = .next t ∧ t.on (PM_IN_STATUS__OPEN ((s.px x.val).input)) = (u && decide (d.toNat ≤ 0xFFFF)) ∧
    (t.pmIn (s.px x.val).input).owUp = none ∧ (t.pmIn (s.px x.val).input).owDown = none ∧ OnlyRegsBelow evBase [(PM_IN_STATUS__OPEN
    ((s.px x.val).input)).addr, PM_EVENT__EVT.addr, PM_STATUS] s t ∧ SameMem s t ∧ SameVault s t) ∧
  (∀ (s : State) (x : Fin 2) (d : BitVec 24) (u : Bool), (s.px x.val).job = 4 → (s.pmIn (s.px x.val).input).owDown = some u → ∃ t,
    exec (.openWireTest x d) s = .next t ∧ t.on (PM_IN_STATUS__OPEN ((s.px x.val).input)) = (u && decide (0xFF0000 ≤ d.toNat)) ∧
    (t.pmIn (s.px x.val).input).owUp = none ∧ (t.pmIn (s.px x.val).input).owDown = none ∧ OnlyRegsBelow evBase [(PM_IN_STATUS__OPEN
    ((s.px x.val).input)).addr, PM_EVENT__EVT.addr, PM_STATUS] s t ∧ SameMem s t ∧ SameVault s t) ∧
  (∀ (s : State) (x : Fin 2) (d : BitVec 24), (s.px x.val).job ≠ 4 → (s.px x.val).job ≠ 5 → exec (.openWireTest x d) s = .next s) ∧
  (∀ (s : State) (r : Bool), s.get PM_CFG__MAINS = 2 → r = false ∨ s.pm.last = none → ∃ t, exec (.mainsCrossing r) s = .next t ∧
    t.pm.last = (if r then some s.time else s.pm.last) ∧ t.on (FM_CH_STATUS__ZC_OUT (s.get PM_CFG__TRK_CH)) = r ∧ t.pm.good =
    s.pm.good ∧ OnlyRegs [(FM_CH_STATUS__ZC_OUT (s.get PM_CFG__TRK_CH)).addr] s t ∧ SameMem s t ∧ SameVault s t) ∧
  (∀ (s : State) (n : Nat), s.get PM_CFG__MAINS = 2 → s.pm.last = some n → mainsOk (s.time - n) = true → ∃ t, exec (.mainsCrossing
    true) s = .next t ∧ t.on PM_STATUS__MAINS_VALID = (decide (8 ≤ s.pm.good + 1) || s.on PM_STATUS__MAINS_VALID) ∧ t.pm.good =
    s.pm.good + 1 ∧ t.pm.last = some s.time ∧ t.pm.per = ((s.time - n) :: s.pm.per).take 4 ∧ OnlyRegsBelow evBase
    [(FM_CH_STATUS__ZC_OUT (s.get PM_CFG__TRK_CH)).addr, PM_STATUS, PM_PERIOD, PM_EVENT__EVT.addr] s t ∧ SameMem s t ∧ SameVault s
    t) ∧
  (∀ (s : State) (n : Nat), s.get PM_CFG__MAINS = 2 → s.pm.last = some n → mainsOk (s.time - n) = false → ∃ t, exec (.mainsCrossing
    true) s = .next t ∧ t.on PM_STATUS__MAINS_VALID = false ∧ t.pm.good = 0 ∧ t.pm.last = some s.time ∧ OnlyRegsBelow evBase
    [(FM_CH_STATUS__ZC_OUT (s.get PM_CFG__TRK_CH)).addr, PM_STATUS, PM_PERIOD, PM_EVENT__EVT.addr] s t ∧ SameMem s t ∧ SameVault s
    t) ∧
  (∀ (s : State), s.get PM_CFG__MAINS = 2 → ∃ t, exec .mainsTimeout s = .next t ∧ t.on PM_STATUS__MAINS_VALID = false ∧ t.pm.good =
    0 ∧ OnlyRegsBelow evBase [PM_STATUS, PM_PERIOD, PM_EVENT__EVT.addr] s t ∧ SameMem s t ∧ SameVault s t) ∧
  (∀ (s : State) (r : Bool), s.get PM_CFG__MAINS ≠ 2 → exec (.mainsCrossing r) s = .next s ∧ exec .mainsTimeout s = .next s) ∧
  (∀ (s : State) (w : Writer) (j : Fin 64), s.may w PM_URGENT (BitVec.ofNat 32 j.val) = true → s.pm.urg = [] → (s.px 0).held = none
    → (s.px 1).held = none → s.pxLive 0 = true → (s.px 0).job = 0 → (s.px 1).job ≠ 1 ∨ (s.px 1).input ≠ j.val → ∃ t, exec
    (.pmUrgent w j) s = .next t ∧ (t.px 0).job = 2 ∧ (t.px 0).input = j.val ∧ t.pm.urg = [] ∧ OnlyRegs [PWR_WAKE_CAUSE, PM_STATUS]
    s t ∧ SameMem s t ∧ SameVault s t) ∧
  (∀ (s : State) (w : Writer) (j : Fin 64), s.may w PM_URGENT (BitVec.ofNat 32 j.val) = true → s.pm.urg = [] → (s.px 0).held = none
    → (s.px 1).held = none → ((s.px 0).job = 1 ∧ (s.px 0).input = j.val) ∨ ((s.px 0).job ≠ 1 ∧ (s.px 1).job = 1 ∧ (s.px 1).input =
    j.val) → ∃ t, exec (.pmUrgent w j) s = .next t ∧ t.pm.urg = [] ∧ (if (s.px 0).job = 1 then (t.px 0).job = 2 ∧ (t.px 0).input =
    j.val else (t.px 1).job = 2 ∧ (t.px 1).input = j.val) ∧ OnlyRegs [PWR_WAKE_CAUSE, PM_STATUS] s t ∧ SameMem s t ∧ SameVault s t) ∧
  (∀ (s : State) (w : Writer) (j : Fin 64), s.may w PM_URGENT (BitVec.ofNat 32 j.val) = true → s.pm.urg = [] → (s.px 0).held = none
    → (s.px 1).held = none → (s.px 0).job = 2 ∨ (s.px 0).job = 3 → s.pxLive 1 = true → (s.px 1).normal = true → (s.px 1).job ≠ 1 ∨
    (s.px 1).input ≠ j.val → ∃ t, exec (.pmUrgent w j) s = .next t ∧ (t.px 1).job = 2 ∧ (t.px 1).input = j.val ∧ (t.px 1).held =
    some ((s.px 1).job, (s.px 1).input) ∧ t.pm.urg = [] ∧ OnlyRegs [PWR_WAKE_CAUSE, PM_STATUS] s t ∧ SameMem s t ∧ SameVault s t) ∧
  (∀ (s : State) (w : Writer) (j : Fin 64), s.may w PM_URGENT (BitVec.ofNat 32 j.val) = true → s.pm.urg = [] → (s.px 0).held = none
    → (s.px 1).held = none → (s.px 0).job = 2 → (s.px 1).job = 2 → ∃ t, exec (.pmUrgent w j) s = .next t ∧ t.pm.urg = [j.val] ∧
    t.get PM_STATUS__URG_PEND = 1 ∧ OnlyRegs [PWR_WAKE_CAUSE, PM_STATUS] s t ∧ SameMem s t ∧ SameVault s t) ∧
  (∀ (s : State) (p : Fin 4) (e : List Word) (l : List (List Word)), s.portTakes p.val = true → (s.port p.val).mse = true → 2 ≤
    s.get PWR_STATE__STATE → s.accessWaits false (PM_QPOP 0) = false → s.readReason (.host p) false (PM_QPOP 0) = 0 → s.pm.readers
    = [] → s.pm.q = e :: l → ∃ t, exec (.pmQpop p) s = .next t ∧ t.pm.q = l ∧ t.out = s.out ++ [.readDone p.val (dword e 0)] ∧ t.rd
    (PM_QPOP 1) = dword e 1 ∧ t.rd (PM_QPOP 2) = dword e 2 ∧ t.rd (PM_QPOP 3) = dword e 3 ∧ OnlyRegs [PWR_WAKE_CAUSE, PM_QPOP 1,
    PM_QPOP 2, PM_QPOP 3, PM_STATUS] s t ∧ SameMem s t ∧ SameVault s t) ∧
  (∀ (s : State) (p : Fin 4), s.portTakes p.val = true → (s.port p.val).mse = true → 2 ≤ s.get PWR_STATE__STATE → s.accessWaits
    false (PM_QPOP 0) = false → s.readReason (.host p) false (PM_QPOP 0) = 0 → s.pm.readers ≠ [] ∨ s.pm.q = [] → ∃ t, exec (.pmQpop
    p) s = .next t ∧ t.pm.q = s.pm.q ∧ t.out = s.out ++ [.readDone p.val 0] ∧ OnlyRegs [PWR_WAKE_CAUSE] s t ∧ SameMem s t ∧
    SameVault s t) ∧
  (∀ (s : State) (w : Writer) (j : Fin 64) (n : Fin 16), s.may w PM_CAL_CTRL (BitVec.ofNat 32 (j.val + 2 ^ 8 * n.val + 2 ^ 16)) =
    true → s.get PM_CAL_STATUS__PHASE = 0 → ∃ t, exec (.pmCalZero w j n) s = .next t ∧ t.get PM_CAL_STATUS__PHASE = 1 ∧ t.pm.calIn
    = j.val ∧ t.pm.calLeft + t.pm.calRun = 2 ^ min 8 n.val ∧ t.pm.calSum = 0 ∧ t.on PM_STATUS__CAL_BUSY = true ∧ OnlyRegs
    [PWR_WAKE_CAUSE, PM_CAL_CTRL, PM_CAL_STATUS__PHASE.addr, PM_STATUS] s t ∧ SameMem s t ∧ SameVault s t) ∧
  (∀ (s : State) (w : Writer) (j : Fin 64) (n : Fin 16), s.may w PM_CAL_CTRL (BitVec.ofNat 32 (j.val + 2 ^ 8 * n.val + 2 ^ 16)) =
    true → s.get PM_CAL_STATUS__PHASE ≠ 0 → ∃ t, exec (.pmCalZero w j n) s = .next t ∧ t.get PM_CAL_STATUS__PHASE = 0 ∧ t.get
    PM_CAL_STATUS__RESULT = 4 ∧ (s.pm.calDue ≠ 0 → ((t.vq.drop 1).any fun c => c.cal) = false) ∧ OnlyRegsBelow evBase
    [PWR_WAKE_CAUSE, PM_CAL_CTRL, PM_CAL_STATUS__PHASE.addr, PM_STATUS, VLT_STATUS, PM_EVENT__EVT.addr] s t ∧ SameMem s t ∧
    SameVault s t) ∧
  (∀ (s : State) (w : Writer) (j : Fin 64) (n : Fin 16), s.may w PM_CAL_CTRL (BitVec.ofNat 32 (j.val + 2 ^ 8 * n.val + 2 * 2 ^ 16))
    = true → s.get PM_CAL_STATUS__PHASE = 2 → ∃ t, exec (.pmCalFull w j n) s = .next t ∧ t.get PM_CAL_STATUS__PHASE = 3 ∧
    t.pm.calIn = j.val ∧ t.pm.calLeft + t.pm.calRun = 2 ^ min 8 n.val ∧ t.pm.calSum = 0 ∧ OnlyRegs [PWR_WAKE_CAUSE, PM_CAL_CTRL,
    PM_CAL_STATUS__PHASE.addr, PM_STATUS] s t ∧ SameMem s t ∧ SameVault s t) ∧
  (∀ (s : State) (w : Writer) (j : Fin 64) (n : Fin 16), s.may w PM_CAL_CTRL (BitVec.ofNat 32 (j.val + 2 ^ 8 * n.val + 2 * 2 ^ 16))
    = true → s.get PM_CAL_STATUS__PHASE ≠ 2 → ∃ t, exec (.pmCalFull w j n) s = .next t ∧ t.get PM_CAL_STATUS__PHASE = 0 ∧ t.get
    PM_CAL_STATUS__RESULT = 4 ∧ (s.pm.calDue ≠ 0 → ((t.vq.drop 1).any fun c => c.cal) = false) ∧ OnlyRegsBelow evBase
    [PWR_WAKE_CAUSE, PM_CAL_CTRL, PM_CAL_STATUS__PHASE.addr, PM_STATUS, VLT_STATUS, PM_EVENT__EVT.addr] s t ∧ SameMem s t ∧
    SameVault s t) ∧
  (∀ (s : State) (w : Writer) (z g : Nat), s.may w PM_CAL_CTRL (fieldSet (s.rd PM_CAL_CTRL) 16 3 3) = true → s.calCheck = (0, z,
    g) → s.vqFull = false → ∃ t, exec (.pmCalCommit w) s = .next t ∧ t.get PM_CAL_STATUS__PHASE = 5 ∧ t.pm.calDue = 2 ∧
    t.vq.length = s.vq.length + 2 ∧ SameMem s t ∧ SameVault s t) ∧
  (∀ (s : State) (w : Writer), s.may w PM_CAL_CTRL (fieldSet (s.rd PM_CAL_CTRL) 16 3 3) = true → s.calCheck.1 ≠ 0 → ∃ t, exec
    (.pmCalCommit w) s = .next t ∧ t.get PM_CAL_STATUS__PHASE = 0 ∧ t.get PM_CAL_STATUS__RESULT = s.calCheck.1 ∧ (s.pm.calDue = 0 →
    t.vq = s.vq) ∧ (s.pm.calDue ≠ 0 → (t.vq.any fun c => c.cal) = false) ∧ OnlyRegsBelow evBase [PWR_WAKE_CAUSE, PM_CAL_CTRL,
    PM_CAL_STATUS__PHASE.addr, PM_STATUS, VLT_STATUS, PM_EVENT__EVT.addr] s t ∧ SameMem s t ∧ SameVault s t) ∧
  (∀ (s : State) (w : Writer), s.may w PM_CAL_CTRL (fieldSet (s.rd PM_CAL_CTRL) 16 3 4) = true → ∃ t, exec (.pmCalAbort w) s =
    .next t ∧ t.get PM_CAL_STATUS__PHASE = 0 ∧ t.get PM_CAL_STATUS__RESULT = 4 ∧ (s.pm.calDue = 0 → t.vq = s.vq) ∧ (s.pm.calDue ≠ 0
    → ((t.vq.drop 1).any fun c => c.cal) = false) ∧ OnlyRegsBelow evBase [PWR_WAKE_CAUSE, PM_CAL_CTRL, PM_CAL_STATUS__PHASE.addr,
    PM_STATUS, VLT_STATUS, PM_EVENT__EVT.addr] s t ∧ SameMem s t ∧ SameVault s t)

/-- Position interfaces and digital inputs (R326 to R346). Of an interface that runs: an encoder's edge of one phase counts by
the order of the phases, modulo the counts of a turn or held at the limits, and an edge of both at once is illegal and leaves the
count; the first
index at its qualified edge sets the count, a later one is checked against the tolerance and corrects where it may, and any
other level of Z takes no index; a Hall transition to the next or previous sector counts, the first one and one that skips
sectors set the count, the skip as illegal, and a code that names none ends the validity; rejects are counted, and more than
the limit are a cause; an SSI frame that is asked for and not early with a bad line, error bit or width, or with a step of more
than a quarter turn, is rejected, and a good one gives the count, while an early one is skipped; a resolver holds its channels
at the peak, and at the valley one without amplitude or channel is lost, a good one gives its angle, and a step of more than a
quarter turn is a cause; the timeout of a quiet interface makes the speed 0, and the speed is valid again where enough has been
good. An interface that does not run ignores them; a written count is taken in either limit mode. Once the vault is loaded, an
input's filtered edge shows its level and, where it has changed, its edge and ends its staleness; chatter counts, and decays;
the stale time marks it; its settings apply with their commit. -/
def Obligations.PositionAndInputs : Prop :=
  (∀ (s : State) (n : Fin 4) (a b : Bool) (d : Int), s.piRuns n.val 1 = true → (nbit (s.get (PI_STATUS__ABZ n.val)) 0 = a) ≠ (nbit
    (s.get (PI_STATUS__ABZ n.val)) 1 = b) → d = (if s.on (PI_CFG__DIR_INV n.val) then -quadStep (nbit (s.get (PI_STATUS__ABZ
    n.val)) 0) (nbit (s.get (PI_STATUS__ABZ n.val)) 1) a b else quadStep (nbit (s.get (PI_STATUS__ABZ n.val)) 0) (nbit (s.get
    (PI_STATUS__ABZ n.val)) 1) a b) → s.on (PI_CFG__Z_EN n.val) = false ∨ s.piGate n.val (s.get (PI_STATUS__ABZ n.val)) = s.piGate
    n.val (b2n a + 2 * b2n b + s.get (PI_STATUS__ABZ n.val) / 4 * 4) → ∃ t, exec (.encoderEdge n a b) s = .next t ∧ t.piCount n.val
    = (if s.on (PI_CFG__LIMIT_MODE n.val) then clampI (sgn 32 (s.get (PI_LIM_LO__LIM_LO n.val))) (sgn 32 (s.get (PI_LIM_HI__LIM_HI
    n.val))) (s.piCount n.val + d) else (s.piCount n.val + d) % (max 4 (s.get (PI_CPR__CPR n.val)) : Nat)) ∧ t.on (PI_STATUS__DIR
    n.val) = decide (d < 0) ∧ t.get (PI_STATUS__ABZ n.val) = (b2n a + 2 * b2n b + s.get (PI_STATUS__ABZ n.val) / 4 * 4) ∧
    OnlyRegsBelow 0x8000 [PWR_STATE] s t ∧ ((∀ a : Fin 8, s.on (AX_BIND__PI_EN a.val) = false) → OnlyRegsBelow evBase [PI_CNT
    n.val, PI_ANGLE n.val, PI_SPEED n.val, (PI_STATUS__ABZ n.val).addr, (PI_TIME__TIME n.val).addr, (PI_COUNTS__ILLEGAL
    n.val).addr, (PI_EVENT__EDGE_RATE n.val).addr] s t) ∧ SameMem s t ∧ SameVault s t) ∧
  (∀ (s : State) (n : Fin 4) (a b : Bool) (d : Int), s.piRuns n.val 1 = true → (nbit (s.get (PI_STATUS__ABZ n.val)) 0 = a) ≠ (nbit
    (s.get (PI_STATUS__ABZ n.val)) 1 = b) → d = (if s.on (PI_CFG__DIR_INV n.val) then -quadStep (nbit (s.get (PI_STATUS__ABZ
    n.val)) 0) (nbit (s.get (PI_STATUS__ABZ n.val)) 1) a b else quadStep (nbit (s.get (PI_STATUS__ABZ n.val)) 0) (nbit (s.get
    (PI_STATUS__ABZ n.val)) 1) a b) → s.on (PI_CFG__Z_EN n.val) = true → s.piGate n.val (s.get (PI_STATUS__ABZ n.val)) ≠ s.piGate
    n.val (b2n a + 2 * b2n b + s.get (PI_STATUS__ABZ n.val) / 4 * 4) → s.piGate n.val (b2n a + 2 * b2n b + s.get (PI_STATUS__ABZ
    n.val) / 4 * 4) ≠ decide (d < 0) → s.on (PI_STATUS__INDEX_SEEN n.val) = false → ∃ t, exec (.encoderEdge n a b) s = .next t ∧
    t.piCount n.val = (if s.on (PI_CFG__LIMIT_MODE n.val) then clampI (sgn 32 (s.get (PI_LIM_LO__LIM_LO n.val))) (sgn 32 (s.get
    (PI_LIM_HI__LIM_HI n.val))) ((if s.on (PI_CFG__LIMIT_MODE n.val) then sgn 32 (s.get (PI_Z_POS__Z_POS n.val)) else s.get
    (PI_Z_POS__Z_POS n.val))) else ((if s.on (PI_CFG__LIMIT_MODE n.val) then sgn 32 (s.get (PI_Z_POS__Z_POS n.val)) else s.get
    (PI_Z_POS__Z_POS n.val))) % (max 4 (s.get (PI_CPR__CPR n.val)) : Nat)) ∧ t.on (PI_STATUS__INDEX_SEEN n.val) = true ∧ t.on
    (PI_STATUS__POS_VALID n.val) = true ∧ OnlyRegsBelow 0x8000 [PWR_STATE] s t ∧ ((∀ a : Fin 8, s.on (AX_BIND__PI_EN a.val) =
    false) → OnlyRegsBelow evBase [PI_CNT n.val, PI_ANGLE n.val, PI_SPEED n.val, (PI_STATUS__ABZ n.val).addr, (PI_TIME__TIME
    n.val).addr, (PI_COUNTS__ILLEGAL n.val).addr, (PI_EVENT__EDGE_RATE n.val).addr] s t) ∧ SameMem s t ∧ SameVault s t) ∧
  (∀ (s : State) (n : Fin 4) (a b : Bool), s.piRuns n.val 1 = true → nbit (s.get (PI_STATUS__ABZ n.val)) 0 ≠ a → nbit (s.get
    (PI_STATUS__ABZ n.val)) 1 ≠ b → ∃ t, exec (.encoderEdge n a b) s = .next t ∧ t.get (PI_COUNTS__ILLEGAL n.val) = min 255 (s.get
    (PI_COUNTS__ILLEGAL n.val) + 1) ∧ t.rd (PI_CNT n.val) = s.rd (PI_CNT n.val) ∧ t.on (PI_STATUS__POS_VALID n.val) = false ∧ t.on
    (PI_STATUS__SPD_VALID n.val) = false ∧ t.get (PI_STATUS__RATE_CAUSE n.val) = 3 ∧ OnlyRegsBelow 0x8000 [PWR_STATE] s t ∧ ((∀ a
    : Fin 8, s.on (AX_BIND__PI_EN a.val) = false) → OnlyRegsBelow evBase [PI_CNT n.val, PI_ANGLE n.val, PI_SPEED n.val,
    (PI_STATUS__ABZ n.val).addr, (PI_TIME__TIME n.val).addr, (PI_COUNTS__ILLEGAL n.val).addr, (PI_EVENT__EDGE_RATE n.val).addr] s
    t) ∧ SameMem s t ∧ SameVault s t) ∧
  (∀ (s : State) (n : Fin 4) (a b : Bool), s.piRuns n.val 1 = false ∨ (nbit (s.get (PI_STATUS__ABZ n.val)) 0 = a ∧ nbit (s.get
    (PI_STATUS__ABZ n.val)) 1 = b) → exec (.encoderEdge n a b) s = .next s) ∧
  (∀ (s : State) (n : Fin 4) (z : Bool), s.piRuns n.val 1 = true → s.on (PI_CFG__Z_EN n.val) = true → s.piGate n.val (s.get
    (PI_STATUS__ABZ n.val)) ≠ s.piGate n.val (s.get (PI_STATUS__ABZ n.val) % 4 + 4 * b2n z) → s.piGate n.val (s.get (PI_STATUS__ABZ
    n.val) % 4 + 4 * b2n z) ≠ s.on (PI_STATUS__DIR n.val) → s.on (PI_STATUS__INDEX_SEEN n.val) = false → ∃ t, exec (.encoderIndex n
    z) s = .next t ∧ t.piCount n.val = (if s.on (PI_CFG__LIMIT_MODE n.val) then clampI (sgn 32 (s.get (PI_LIM_LO__LIM_LO n.val)))
    (sgn 32 (s.get (PI_LIM_HI__LIM_HI n.val))) ((if s.on (PI_CFG__LIMIT_MODE n.val) then sgn 32 (s.get (PI_Z_POS__Z_POS n.val))
    else s.get (PI_Z_POS__Z_POS n.val))) else ((if s.on (PI_CFG__LIMIT_MODE n.val) then sgn 32 (s.get (PI_Z_POS__Z_POS n.val)) else
    s.get (PI_Z_POS__Z_POS n.val))) % (max 4 (s.get (PI_CPR__CPR n.val)) : Nat)) ∧ t.on (PI_STATUS__POS_VALID n.val) = true ∧ t.on
    (PI_STATUS__INDEX_SEEN n.val) = true ∧ OnlyRegsBelow 0x8000 [PWR_STATE] s t ∧ ((∀ a : Fin 8, s.on (AX_BIND__PI_EN a.val) =
    false) → OnlyRegsBelow evBase [PI_CNT n.val, PI_ANGLE n.val, PI_SPEED n.val, (PI_STATUS__ABZ n.val).addr, (PI_TIME__TIME
    n.val).addr, (PI_COUNTS__ILLEGAL n.val).addr, (PI_EVENT__EDGE_RATE n.val).addr] s t) ∧ SameMem s t ∧ SameVault s t) ∧
  (∀ (s : State) (n : Fin 4) (z : Bool) (e : Int), s.piRuns n.val 1 = true → s.on (PI_CFG__Z_EN n.val) = true → s.piGate n.val
    (s.get (PI_STATUS__ABZ n.val)) ≠ s.piGate n.val (s.get (PI_STATUS__ABZ n.val) % 4 + 4 * b2n z) → s.piGate n.val (s.get
    (PI_STATUS__ABZ n.val) % 4 + 4 * b2n z) ≠ s.on (PI_STATUS__DIR n.val) → s.on (PI_STATUS__INDEX_SEEN n.val) = true → e = (if
    s.on (PI_CFG__LIMIT_MODE n.val) then s.piCount n.val - (if s.on (PI_CFG__LIMIT_MODE n.val) then sgn 32 (s.get (PI_Z_POS__Z_POS
    n.val)) else s.get (PI_Z_POS__Z_POS n.val)) else (s.piCount n.val - (if s.on (PI_CFG__LIMIT_MODE n.val) then sgn 32 (s.get
    (PI_Z_POS__Z_POS n.val)) else s.get (PI_Z_POS__Z_POS n.val)) + (max 4 (s.get (PI_CPR__CPR n.val)) : Nat) / 2) % (max 4 (s.get
    (PI_CPR__CPR n.val)) : Nat) - (max 4 (s.get (PI_CPR__CPR n.val)) : Nat) / 2) → s.get (PI_Z_TOL__Z_TOL n.val) < e.natAbs → ∃ t,
    exec (.encoderIndex n z) s = .next t ∧ t.get (PI_COUNTS__INDEX_ERR n.val) = min 255 (s.get (PI_COUNTS__INDEX_ERR n.val) + 1) ∧
    t.piCount n.val = (if s.on (PI_CFG__Z_CORR n.val) then (if s.on (PI_CFG__LIMIT_MODE n.val) then clampI (sgn 32 (s.get
    (PI_LIM_LO__LIM_LO n.val))) (sgn 32 (s.get (PI_LIM_HI__LIM_HI n.val))) ((if s.on (PI_CFG__LIMIT_MODE n.val) then sgn 32 (s.get
    (PI_Z_POS__Z_POS n.val)) else s.get (PI_Z_POS__Z_POS n.val))) else ((if s.on (PI_CFG__LIMIT_MODE n.val) then sgn 32 (s.get
    (PI_Z_POS__Z_POS n.val)) else s.get (PI_Z_POS__Z_POS n.val))) % (max 4 (s.get (PI_CPR__CPR n.val)) : Nat)) else s.piCount
    n.val) ∧ OnlyRegsBelow 0x8000 [PWR_STATE] s t ∧ ((∀ a : Fin 8, s.on (AX_BIND__PI_EN a.val) = false) → OnlyRegsBelow evBase
    [PI_CNT n.val, PI_ANGLE n.val, PI_SPEED n.val, (PI_STATUS__ABZ n.val).addr, (PI_TIME__TIME n.val).addr, (PI_COUNTS__ILLEGAL
    n.val).addr, (PI_EVENT__EDGE_RATE n.val).addr] s t) ∧ SameMem s t ∧ SameVault s t) ∧
  (∀ (s : State) (n : Fin 4) (z : Bool) (e : Int), s.piRuns n.val 1 = true → s.on (PI_CFG__Z_EN n.val) = true → s.piGate n.val
    (s.get (PI_STATUS__ABZ n.val)) ≠ s.piGate n.val (s.get (PI_STATUS__ABZ n.val) % 4 + 4 * b2n z) → s.piGate n.val (s.get
    (PI_STATUS__ABZ n.val) % 4 + 4 * b2n z) ≠ s.on (PI_STATUS__DIR n.val) → s.on (PI_STATUS__INDEX_SEEN n.val) = true → e = (if
    s.on (PI_CFG__LIMIT_MODE n.val) then s.piCount n.val - (if s.on (PI_CFG__LIMIT_MODE n.val) then sgn 32 (s.get (PI_Z_POS__Z_POS
    n.val)) else s.get (PI_Z_POS__Z_POS n.val)) else (s.piCount n.val - (if s.on (PI_CFG__LIMIT_MODE n.val) then sgn 32 (s.get
    (PI_Z_POS__Z_POS n.val)) else s.get (PI_Z_POS__Z_POS n.val)) + (max 4 (s.get (PI_CPR__CPR n.val)) : Nat) / 2) % (max 4 (s.get
    (PI_CPR__CPR n.val)) : Nat) - (max 4 (s.get (PI_CPR__CPR n.val)) : Nat) / 2) → e.natAbs ≤ s.get (PI_Z_TOL__Z_TOL n.val) → ∃ t,
    exec (.encoderIndex n z) s = .next t ∧ t.rd (PI_CNT n.val) = s.rd (PI_CNT n.val) ∧ t.get (PI_COUNTS__INDEX_ERR n.val) = s.get
    (PI_COUNTS__INDEX_ERR n.val) ∧ OnlyRegsBelow 0x8000 [PWR_STATE] s t ∧ ((∀ a : Fin 8, s.on (AX_BIND__PI_EN a.val) = false) →
    OnlyRegsBelow evBase [PI_CNT n.val, PI_ANGLE n.val, PI_SPEED n.val, (PI_STATUS__ABZ n.val).addr, (PI_TIME__TIME n.val).addr,
    (PI_COUNTS__ILLEGAL n.val).addr, (PI_EVENT__EDGE_RATE n.val).addr] s t) ∧ SameMem s t ∧ SameVault s t) ∧
  (∀ (s : State) (n : Fin 4) (z : Bool), s.piRuns n.val 1 = true → s.on (PI_CFG__Z_EN n.val) = false ∨ s.piGate n.val (s.get
    (PI_STATUS__ABZ n.val)) = s.piGate n.val (s.get (PI_STATUS__ABZ n.val) % 4 + 4 * b2n z) ∨ s.piGate n.val (s.get (PI_STATUS__ABZ
    n.val) % 4 + 4 * b2n z) = s.on (PI_STATUS__DIR n.val) → ∃ t, exec (.encoderIndex n z) s = .next t ∧ t.rd (PI_CNT n.val) = s.rd
    (PI_CNT n.val) ∧ t.get (PI_STATUS__ABZ n.val) = (s.get (PI_STATUS__ABZ n.val) % 4 + 4 * b2n z) ∧ OnlyRegsBelow 0x8000
    [PWR_STATE] s t ∧ ((∀ a : Fin 8, s.on (AX_BIND__PI_EN a.val) = false) → OnlyRegsBelow evBase [PI_CNT n.val, PI_ANGLE n.val,
    PI_SPEED n.val, (PI_STATUS__ABZ n.val).addr, (PI_TIME__TIME n.val).addr, (PI_COUNTS__ILLEGAL n.val).addr, (PI_EVENT__EDGE_RATE
    n.val).addr] s t) ∧ SameMem s t ∧ SameVault s t) ∧
  (∀ (s : State) (n : Fin 4) (z : Bool), s.piRuns n.val 1 = false → exec (.encoderIndex n z) s = .next s) ∧
  (∀ (s : State) (n : Fin 4) (c : Fin 8) (o k : Nat), s.piRuns n.val 2 = true → (s.on (PI_STATUS__POS_VALID n.val) = true ∨
    s.piMissed n.val = true) → hallSector (s.get (PI_STATUS__HALL n.val)) = some o → hallSector c.val = some k → k = (o + 1) % 6 ∨
    k = (o + 5) % 6 → ∃ t, exec (.hallTransition n c) s = .next t ∧ t.get (PI_STATUS__HALL n.val) = c.val ∧ t.piCount n.val = (if
    s.on (PI_CFG__LIMIT_MODE n.val) then clampI (sgn 32 (s.get (PI_LIM_LO__LIM_LO n.val))) (sgn 32 (s.get (PI_LIM_HI__LIM_HI
    n.val))) (s.piCount n.val + (if k = (o + 1) % 6 then 1 else -1)) else (s.piCount n.val + (if k = (o + 1) % 6 then 1 else -1)) %
    (max 4 (s.get (PI_CPR__CPR n.val)) : Nat)) ∧ t.on (PI_STATUS__DIR n.val) = decide (k ≠ (o + 1) % 6) ∧ OnlyRegsBelow 0x8000
    [PWR_STATE] s t ∧ ((∀ a : Fin 8, s.on (AX_BIND__PI_EN a.val) = false) → OnlyRegsBelow evBase [PI_CNT n.val, PI_ANGLE n.val,
    PI_SPEED n.val, (PI_STATUS__ABZ n.val).addr, (PI_TIME__TIME n.val).addr, (PI_COUNTS__ILLEGAL n.val).addr, (PI_EVENT__EDGE_RATE
    n.val).addr] s t) ∧ SameMem s t ∧ SameVault s t) ∧
  (∀ (s : State) (n : Fin 4) (c : Fin 8) (k : Nat), s.piRuns n.val 2 = true → (s.on (PI_STATUS__POS_VALID n.val) = false ∧
    s.piMissed n.val = false) ∨ hallSector (s.get (PI_STATUS__HALL n.val)) = none → hallSector c.val = some k → ∃ t, exec
    (.hallTransition n c) s = .next t ∧ t.get (PI_STATUS__HALL n.val) = c.val ∧ t.piCount n.val = (if s.on (PI_CFG__LIMIT_MODE
    n.val) then clampI (sgn 32 (s.get (PI_LIM_LO__LIM_LO n.val))) (sgn 32 (s.get (PI_LIM_HI__LIM_HI n.val))) (s.piCount n.val -
    s.piCount n.val % 6 + (k : Int)) else (s.piCount n.val - s.piCount n.val % 6 + (k : Int)) % (max 4 (s.get (PI_CPR__CPR n.val))
    : Nat)) ∧ (s.on (PI_CFG__LIMIT_MODE n.val) = false → t.on (PI_STATUS__POS_VALID n.val) = true) ∧ OnlyRegsBelow 0x8000
    [PWR_STATE] s t ∧ ((∀ a : Fin 8, s.on (AX_BIND__PI_EN a.val) = false) → OnlyRegsBelow evBase [PI_CNT n.val, PI_ANGLE n.val,
    PI_SPEED n.val, (PI_STATUS__ABZ n.val).addr, (PI_TIME__TIME n.val).addr, (PI_COUNTS__ILLEGAL n.val).addr, (PI_EVENT__EDGE_RATE
    n.val).addr] s t) ∧ SameMem s t ∧ SameVault s t) ∧
  (∀ (s : State) (n : Fin 4) (c : Fin 8) (o k : Nat), s.piRuns n.val 2 = true → (s.on (PI_STATUS__POS_VALID n.val) = true ∨
    s.piMissed n.val = true) → hallSector (s.get (PI_STATUS__HALL n.val)) = some o → hallSector c.val = some k → k ≠ o → k ≠ (o +
    1) % 6 → k ≠ (o + 5) % 6 → ∃ t, exec (.hallTransition n c) s = .next t ∧ t.get (PI_STATUS__HALL n.val) = c.val ∧ t.piCount
    n.val = (if s.on (PI_CFG__LIMIT_MODE n.val) then clampI (sgn 32 (s.get (PI_LIM_LO__LIM_LO n.val))) (sgn 32 (s.get
    (PI_LIM_HI__LIM_HI n.val))) (s.piCount n.val - s.piCount n.val % 6 + (k : Int)) else (s.piCount n.val - s.piCount n.val % 6 +
    (k : Int)) % (max 4 (s.get (PI_CPR__CPR n.val)) : Nat)) ∧ t.get (PI_COUNTS__ILLEGAL n.val) = min 255 (s.get (PI_COUNTS__ILLEGAL
    n.val) + 1) ∧ t.on (PI_STATUS__SPD_VALID n.val) = false ∧ t.get (PI_STATUS__RATE_CAUSE n.val) = 3 ∧ OnlyRegsBelow 0x8000
    [PWR_STATE] s t ∧ ((∀ a : Fin 8, s.on (AX_BIND__PI_EN a.val) = false) → OnlyRegsBelow evBase [PI_CNT n.val, PI_ANGLE n.val,
    PI_SPEED n.val, (PI_STATUS__ABZ n.val).addr, (PI_TIME__TIME n.val).addr, (PI_COUNTS__ILLEGAL n.val).addr, (PI_EVENT__EDGE_RATE
    n.val).addr] s t) ∧ SameMem s t ∧ SameVault s t) ∧
  (∀ (s : State) (n : Fin 4) (c : Fin 8) (o : Nat), s.piRuns n.val 2 = true → (s.on (PI_STATUS__POS_VALID n.val) = true ∨
    s.piMissed n.val = true) → hallSector (s.get (PI_STATUS__HALL n.val)) = some o → hallSector c.val = some o → ∃ t, exec
    (.hallTransition n c) s = .next t ∧ t.get (PI_STATUS__HALL n.val) = c.val ∧ t.rd (PI_CNT n.val) = s.rd (PI_CNT n.val) ∧
    OnlyRegsBelow 0x8000 [PWR_STATE] s t ∧ ((∀ a : Fin 8, s.on (AX_BIND__PI_EN a.val) = false) → OnlyRegsBelow evBase [PI_CNT
    n.val, PI_ANGLE n.val, PI_SPEED n.val, (PI_STATUS__ABZ n.val).addr, (PI_TIME__TIME n.val).addr, (PI_COUNTS__ILLEGAL
    n.val).addr, (PI_EVENT__EDGE_RATE n.val).addr] s t) ∧ SameMem s t ∧ SameVault s t) ∧
  (∀ (s : State) (n : Fin 4) (c : Fin 8), s.piRuns n.val 2 = true → hallSector c.val = none → ∃ t, exec (.hallTransition n c) s =
    .next t ∧ t.get (PI_STATUS__HALL n.val) = c.val ∧ t.on (PI_STATUS__POS_VALID n.val) = false ∧ t.rd (PI_CNT n.val) = s.rd
    (PI_CNT n.val) ∧ OnlyRegsBelow 0x8000 [PWR_STATE] s t ∧ ((∀ a : Fin 8, s.on (AX_BIND__PI_EN a.val) = false) → OnlyRegsBelow
    evBase [PI_CNT n.val, PI_ANGLE n.val, PI_SPEED n.val, (PI_STATUS__ABZ n.val).addr, (PI_TIME__TIME n.val).addr,
    (PI_COUNTS__ILLEGAL n.val).addr, (PI_EVENT__EDGE_RATE n.val).addr] s t) ∧ SameMem s t ∧ SameVault s t) ∧
  (∀ (s : State) (n : Fin 4) (c : Fin 8), s.piRuns n.val 2 = false → exec (.hallTransition n c) s = .next s) ∧
  (∀ (s : State) (n : Fin 4), s.piRuns n.val 1 = true ∨ s.piRuns n.val 2 = true → ∃ t, exec (.filterReject n) s = .next t ∧ t.get
    (PI_COUNTS__REJECTS n.val) = min 65535 (s.get (PI_COUNTS__REJECTS n.val) + 1) ∧ (fieldGet (s.piRateCfg n.val) 16 8 ≠ 0 →
    fieldGet (s.piRateCfg n.val) 16 8 < (t.pi n.val).rejs.length → t.on (PI_STATUS__SPD_VALID n.val) = false ∧ t.get
    (PI_STATUS__RATE_CAUSE n.val) = 2) ∧ OnlyRegsBelow 0x8000 [PWR_STATE] s t ∧ SameMem s t ∧ SameVault s t) ∧
  (∀ (s : State) (n : Fin 4), s.piRuns n.val 1 = false → s.piRuns n.val 2 = false → exec (.filterReject n) s = .next s ∧ exec
    (.speedTimeout n) s = .next s) ∧
  (∀ (s : State) (n : Fin 4) (d : Word) (e l : Bool), s.piRuns n.val 3 = true → s.ssiAsked n.val = true → s.ssiEarly n.val = false
    → (l = false ∨ (s.get (PI_SSI__ERR_MODE n.val) = 1 ∧ e = false) ∨ (s.get (PI_SSI__ERR_MODE n.val) = 2 ∧ e = true) ∨ 32 < min
    16 (s.get (PI_SSI__TURN_BITS n.val)) + min 24 (s.get (PI_SSI__ST_BITS n.val)) ∨ min 24 (s.get (PI_SSI__ST_BITS n.val)) < 8) →
    ∃ t, exec (.ssiRead n d e l) s = .next t ∧ t.on (PI_STATUS__POS_VALID n.val) = false ∧ t.on (PI_STATUS__INDEX_SEEN n.val) =
    false ∧ t.rd (PI_CNT n.val) = s.rd (PI_CNT n.val) ∧ OnlyRegsBelow 0x8000 [PWR_STATE] s t ∧ ((∀ a : Fin 8, s.on (AX_BIND__PI_EN
    a.val) = false) → OnlyRegsBelow evBase [PI_CNT n.val, PI_ANGLE n.val, PI_SPEED n.val, (PI_STATUS__ABZ n.val).addr,
    (PI_TIME__TIME n.val).addr, (PI_COUNTS__ILLEGAL n.val).addr, (PI_EVENT__EDGE_RATE n.val).addr] s t) ∧ SameMem s t ∧ SameVault
    s t) ∧
  (∀ (s : State) (n : Fin 4) (d : Word) (e l : Bool) (c q : Int), s.piRuns n.val 3 = true → s.ssiAsked n.val = true → s.ssiEarly
    n.val = false → ¬ (l = false ∨ (s.get (PI_SSI__ERR_MODE n.val) = 1 ∧ e = false) ∨ (s.get (PI_SSI__ERR_MODE n.val) = 2 ∧ e =
    true) ∨ 32 < min 16 (s.get (PI_SSI__TURN_BITS n.val)) + min 24 (s.get (PI_SSI__ST_BITS n.val)) ∨ min 24 (s.get
    (PI_SSI__ST_BITS n.val)) < 8) → c = (if s.on (PI_CFG__LIMIT_MODE n.val) then (((if s.on (PI_SSI__GRAY n.val) then grayDecode
    (min 16 (s.get (PI_SSI__TURN_BITS n.val))) (d.toNat / 2 ^ (min 24 (s.get (PI_SSI__ST_BITS n.val))) % 2 ^ (min 16 (s.get
    (PI_SSI__TURN_BITS n.val)))) else d.toNat / 2 ^ (min 24 (s.get (PI_SSI__ST_BITS n.val))) % 2 ^ (min 16 (s.get
    (PI_SSI__TURN_BITS n.val)))) * 2 ^ (min 24 (s.get (PI_SSI__ST_BITS n.val))) + (if s.on (PI_SSI__GRAY n.val) then grayDecode
    (min 24 (s.get (PI_SSI__ST_BITS n.val))) (d.toNat % 2 ^ (min 24 (s.get (PI_SSI__ST_BITS n.val)))) else d.toNat % 2 ^ (min 24
    (s.get (PI_SSI__ST_BITS n.val)))) : Nat) : Int) else (((if s.on (PI_SSI__GRAY n.val) then grayDecode (min 24 (s.get
    (PI_SSI__ST_BITS n.val))) (d.toNat % 2 ^ (min 24 (s.get (PI_SSI__ST_BITS n.val)))) else d.toNat % 2 ^ (min 24 (s.get
    (PI_SSI__ST_BITS n.val)))) : Nat) : Int)) → q = (((s.pi n.val).frame.map fun f => if s.on (PI_CFG__LIMIT_MODE n.val) then c -
    f else (c - f + ((max 4 (s.get (PI_CPR__CPR n.val)) : Nat) : Int) / 2) % ((max 4 (s.get (PI_CPR__CPR n.val)) : Nat) : Int) -
    ((max 4 (s.get (PI_CPR__CPR n.val)) : Nat) : Int) / 2).getD 0) → 4 * (q.natAbs : Int) ≤ ((max 4 (s.get (PI_CPR__CPR n.val)) :
    Nat) : Int) → ∃ t, exec (.ssiRead n d e l) s = .next t ∧ t.piCount n.val = (if s.on (PI_CFG__LIMIT_MODE n.val) then clampI
    (sgn 32 (s.get (PI_LIM_LO__LIM_LO n.val))) (sgn 32 (s.get (PI_LIM_HI__LIM_HI n.val))) (c) else (c) % (max 4 (s.get
    (PI_CPR__CPR n.val)) : Nat)) ∧ (t.pi n.val).frame = some c ∧ (s.on (PI_CFG__LIMIT_MODE n.val) = false → t.on
    (PI_STATUS__POS_VALID n.val) = true) ∧ OnlyRegsBelow 0x8000 [PWR_STATE] s t ∧ ((∀ a : Fin 8, s.on (AX_BIND__PI_EN a.val) =
    false) → OnlyRegsBelow evBase [PI_CNT n.val, PI_ANGLE n.val, PI_SPEED n.val, (PI_STATUS__ABZ n.val).addr, (PI_TIME__TIME
    n.val).addr, (PI_COUNTS__ILLEGAL n.val).addr, (PI_EVENT__EDGE_RATE n.val).addr] s t) ∧ SameMem s t ∧ SameVault s t) ∧
  (∀ (s : State) (n : Fin 4) (d : Word) (e l : Bool) (c q : Int), s.piRuns n.val 3 = true → s.ssiAsked n.val = true → s.ssiEarly
    n.val = false → ¬ (l = false ∨ (s.get (PI_SSI__ERR_MODE n.val) = 1 ∧ e = false) ∨ (s.get (PI_SSI__ERR_MODE n.val) = 2 ∧ e =
    true) ∨ 32 < min 16 (s.get (PI_SSI__TURN_BITS n.val)) + min 24 (s.get (PI_SSI__ST_BITS n.val)) ∨ min 24 (s.get
    (PI_SSI__ST_BITS n.val)) < 8) → c = (if s.on (PI_CFG__LIMIT_MODE n.val) then (((if s.on (PI_SSI__GRAY n.val) then grayDecode
    (min 16 (s.get (PI_SSI__TURN_BITS n.val))) (d.toNat / 2 ^ (min 24 (s.get (PI_SSI__ST_BITS n.val))) % 2 ^ (min 16 (s.get
    (PI_SSI__TURN_BITS n.val)))) else d.toNat / 2 ^ (min 24 (s.get (PI_SSI__ST_BITS n.val))) % 2 ^ (min 16 (s.get
    (PI_SSI__TURN_BITS n.val)))) * 2 ^ (min 24 (s.get (PI_SSI__ST_BITS n.val))) + (if s.on (PI_SSI__GRAY n.val) then grayDecode
    (min 24 (s.get (PI_SSI__ST_BITS n.val))) (d.toNat % 2 ^ (min 24 (s.get (PI_SSI__ST_BITS n.val)))) else d.toNat % 2 ^ (min 24
    (s.get (PI_SSI__ST_BITS n.val)))) : Nat) : Int) else (((if s.on (PI_SSI__GRAY n.val) then grayDecode (min 24 (s.get
    (PI_SSI__ST_BITS n.val))) (d.toNat % 2 ^ (min 24 (s.get (PI_SSI__ST_BITS n.val)))) else d.toNat % 2 ^ (min 24 (s.get
    (PI_SSI__ST_BITS n.val)))) : Nat) : Int)) → q = (((s.pi n.val).frame.map fun f => if s.on (PI_CFG__LIMIT_MODE n.val) then c -
    f else (c - f + ((max 4 (s.get (PI_CPR__CPR n.val)) : Nat) : Int) / 2) % ((max 4 (s.get (PI_CPR__CPR n.val)) : Nat) : Int) -
    ((max 4 (s.get (PI_CPR__CPR n.val)) : Nat) : Int) / 2).getD 0) → ((max 4 (s.get (PI_CPR__CPR n.val)) : Nat) : Int) < 4 *
    (q.natAbs : Int) → ∃ t, exec (.ssiRead n d e l) s = .next t ∧ t.on (PI_STATUS__POS_VALID n.val) = false ∧ t.on
    (PI_STATUS__SPD_VALID n.val) = false ∧ t.get (PI_STATUS__RATE_CAUSE n.val) = 4 ∧ t.rd (PI_CNT n.val) = s.rd (PI_CNT n.val) ∧
    OnlyRegsBelow 0x8000 [PWR_STATE] s t ∧ ((∀ a : Fin 8, s.on (AX_BIND__PI_EN a.val) = false) → OnlyRegsBelow evBase [PI_CNT
    n.val, PI_ANGLE n.val, PI_SPEED n.val, (PI_STATUS__ABZ n.val).addr, (PI_TIME__TIME n.val).addr, (PI_COUNTS__ILLEGAL
    n.val).addr, (PI_EVENT__EDGE_RATE n.val).addr] s t) ∧ SameMem s t ∧ SameVault s t) ∧
  (∀ (s : State) (n : Fin 4) (d : Word) (e l : Bool), s.piRuns n.val 3 = false ∨ s.ssiAsked n.val = false →
    exec (.ssiRead n d e l) s = .next s) ∧
  (∀ (s : State) (n : Fin 4) (d : Word) (e l : Bool), s.piRuns n.val 3 = true → s.ssiAsked n.val = true → s.ssiEarly n.val = true →
    ∃ t, exec (.ssiRead n d e l) s = .next t ∧ (t.pi n.val).ssiDue = false ∧ (t.pi n.val).frame = (s.pi n.val).frame ∧
    OnlyRegs [] s t ∧ SameMem s t ∧ SameVault s t) ∧
  (∀ (s : State) (n : Fin 4) (pk : Int × Int) (si co : Int), s.piRuns n.val 4 = true → (s.pi n.val).peak = some pk → si = pk.1 -
    (s.resPair n.val).1 → co = pk.2 - (s.resPair n.val).2 → s.resOk n.val si co = false → ∃ t, exec (.resolverPeriod n true () ()
    ()) s = .next t ∧ t.on (PI_STATUS__LOS n.val) = true ∧ t.on (PI_STATUS__POS_VALID n.val) = false ∧ t.rd (PI_CNT n.val) = s.rd
    (PI_CNT n.val) ∧ OnlyRegsBelow 0x8000 [PWR_STATE] s t ∧ ((∀ a : Fin 8, s.on (AX_BIND__PI_EN a.val) = false) → OnlyRegsBelow
    evBase [PI_CNT n.val, PI_ANGLE n.val, PI_SPEED n.val, (PI_STATUS__ABZ n.val).addr, (PI_TIME__TIME n.val).addr,
    (PI_COUNTS__ILLEGAL n.val).addr, (PI_EVENT__EDGE_RATE n.val).addr] s t) ∧ SameMem s t ∧ SameVault s t) ∧
  (∀ (s : State) (n : Fin 4) (pk : Int × Int) (si co : Int), s.piRuns n.val 4 = true → (s.pi n.val).peak = some pk → si = pk.1 -
    (s.resPair n.val).1 → co = pk.2 - (s.resPair n.val).2 → s.resOk n.val si co = true → (s.pi n.val).theta = none ∨ (s.on
    (PI_STATUS__POS_VALID n.val) = false ∧ s.piMissed n.val = false ∧ (s.pi n.val).theta = some 0 ∧ (∀ e : Fin 3, (sgn 16
    ((angleOf s.free co si + 65535 + e.val) % 65536)).natAbs ≤ 2 ^ 14)) → ∃ t, exec (.resolverPeriod n true () () ()) s = .next t
    ∧ t.on (PI_STATUS__LOS n.val) = false ∧ (∃ e : Fin 3, (t.pi n.val).theta = some ((angleOf s.free co si + 65535 + e.val) %
    65536)) ∧ (s.on (PI_CFG__LIMIT_MODE n.val) = false → t.on (PI_STATUS__POS_VALID n.val) = true) ∧ OnlyRegsBelow 0x8000
    [PWR_STATE] s t ∧ ((∀ a : Fin 8, s.on (AX_BIND__PI_EN a.val) = false) → OnlyRegsBelow evBase [PI_CNT n.val, PI_ANGLE n.val,
    PI_SPEED n.val, (PI_STATUS__ABZ n.val).addr, (PI_TIME__TIME n.val).addr, (PI_COUNTS__ILLEGAL n.val).addr, (PI_EVENT__EDGE_RATE
    n.val).addr] s t) ∧ SameMem s t ∧ SameVault s t) ∧
  (∀ (s : State) (n : Fin 4) (pk : Int × Int) (si co : Int) (v : Nat), s.piRuns n.val 4 = true → (s.pi n.val).peak = some pk → si
    = pk.1 - (s.resPair n.val).1 → co = pk.2 - (s.resPair n.val).2 → s.resOk n.val si co = true → (s.pi n.val).theta = some v → (∀
    e : Fin 3, 2 ^ 14 < (sgn 16 (unsgn 16 ((((angleOf s.free co si + 65535 + e.val) % 65536) : Nat) - v))).natAbs) → ∃ t, exec
    (.resolverPeriod n true () () ()) s = .next t ∧ t.on (PI_STATUS__POS_VALID n.val) = false ∧ t.on (PI_STATUS__SPD_VALID n.val)
    = false ∧ t.get (PI_STATUS__RATE_CAUSE n.val) = 4 ∧ t.rd (PI_CNT n.val) = s.rd (PI_CNT n.val) ∧ OnlyRegsBelow 0x8000
    [PWR_STATE] s t ∧ ((∀ a : Fin 8, s.on (AX_BIND__PI_EN a.val) = false) → OnlyRegsBelow evBase [PI_CNT n.val, PI_ANGLE n.val,
    PI_SPEED n.val, (PI_STATUS__ABZ n.val).addr, (PI_TIME__TIME n.val).addr, (PI_COUNTS__ILLEGAL n.val).addr, (PI_EVENT__EDGE_RATE
    n.val).addr] s t) ∧ SameMem s t ∧ SameVault s t) ∧
  (∀ (s : State) (n : Fin 4) (valley : Bool), s.piRuns n.val 4 = false ∨ valley = true ∧ (s.pi n.val).peak = none →
    exec (.resolverPeriod n valley () () ()) s = .next s) ∧
  (∀ (s : State) (n : Fin 4), s.piRuns n.val 4 = true → ∃ t, exec (.resolverPeriod n false () () ()) s = .next t ∧ (t.pi
    n.val).peak = some (s.resPair n.val) ∧ (t.pi n.val).theta = (s.pi n.val).theta ∧ OnlyRegs [] s t ∧ SameMem s t ∧ SameVault s
    t) ∧
  (∀ (s : State) (n : Fin 4), s.piQuiet n.val = false → exec (.speedTimeout n) s = .next s) ∧
  (∀ (s : State) (n : Fin 4), s.piRuns n.val 1 = true ∨ s.piRuns n.val 2 = true → s.piQuiet n.val = true → ∃ t, exec
    (.speedTimeout n) s = .next t ∧ t.get (PI_SPEED__SPEED n.val) = 0 ∧ (t.pi n.val).ivl = none ∧ OnlyRegsBelow 0x8000 [PWR_STATE]
    s t ∧ ((∀ a : Fin 8, s.on (AX_BIND__PI_EN a.val) = false) → OnlyRegs [PI_SPEED n.val] s t) ∧ SameMem s t ∧ SameVault s t) ∧
  (∀ (s : State) (n : Fin 4), 2 ^ min 6 (s.get (PI_CFG__SPD_AVG n.val)) + 1 ≤ (s.pi n.val).good → s.piMode n.val ≠ 0 → s.on
    CLK_STATUS__PLLB_LOCK = true → ∃ t, exec (.spdValidRestored n) s = .next t ∧ t.on (PI_STATUS__SPD_VALID n.val) = true ∧
    OnlyRegsBelow 0x8000 [PWR_STATE] s t ∧ ((∀ a : Fin 8, s.on (AX_BIND__PI_EN a.val) = false) → OnlyRegs [(PI_STATUS__ABZ
    n.val).addr] s t) ∧ SameMem s t ∧ SameVault s t) ∧
  (∀ (s : State) (n : Fin 4), (s.pi n.val).good < 2 ^ min 6 (s.get (PI_CFG__SPD_AVG n.val)) + 1 ∨ s.piMode n.val = 0 ∨ s.on
    CLK_STATUS__PLLB_LOCK = false → exec (.spdValidRestored n) s = .next s) ∧
  (∀ (s : State) (w : Writer) (n : Fin 4) (v : Word), s.may w (PI_CNT n.val) v = true → ∃ t, exec (.piCntWrite w n v) s = .next t ∧
    t.piCount n.val = (if s.on (PI_CFG__LIMIT_MODE n.val) then clampI (sgn 32 (s.get (PI_LIM_LO__LIM_LO n.val))) (sgn 32 (s.get
    (PI_LIM_HI__LIM_HI n.val))) (if s.on (PI_CFG__LIMIT_MODE n.val) then v.toInt else v.toNat) else (if s.on (PI_CFG__LIMIT_MODE
    n.val) then v.toInt else v.toNat) % (max 4 (s.get (PI_CPR__CPR n.val)) : Nat)) ∧ (s.piMode n.val = 1 ∨ s.on (PI_CFG__LIMIT_MODE
    n.val) = true → t.on (PI_STATUS__POS_VALID n.val) = true) ∧ OnlyRegsBelow 0x8000 [PWR_STATE, PWR_WAKE_CAUSE] s t ∧ SameMem s t
    ∧ SameVault s t) ∧
  (∀ (s : State) (d : Fin 24) (b : Bool), s.on VLT_STATUS__LOADED = true → nbit (s.get DIN_LEVEL__LEVEL) d.val ≠ (b != s.on
    (DIN_CFG__INV d.val)) → ∃ t, exec (.dinEdge d b) s = .next t ∧ nbit (t.get DIN_RAW__RAW) d.val = b ∧ nbit (t.get
    DIN_LEVEL__LEVEL) d.val = (b != s.on (DIN_CFG__INV d.val)) ∧ nbit (t.get DIN_EDGE__EDGE) d.val = true ∧ nbit (t.get
    DIN_STALE__STALE) d.val = false ∧ SameMem s t ∧ SameVault s t) ∧
  (∀ (s : State) (d : Fin 24) (b : Bool), s.on VLT_STATUS__LOADED = true → nbit (s.get DIN_LEVEL__LEVEL) d.val ≠ (b != s.on
    (DIN_CFG__INV d.val)) → nbit (s.get PWR_DIN_WAKE__DIN_MASK) d.val = false → (∀ a : Fin 8, s.get (TM_CATCH_CFG__TRIG_DIN a.val)
    ≠ d.val) → (∀ a : Fin 8, s.get (SAF_AX_CFG__SS1_DIN a.val) ≠ d.val) → (∀ g : Fin 4, s.get (SAF_LINK_DIS__DIS_DIN g.val) ≠
    d.val) → ∃ t, exec (.dinEdge d b) s = .next t ∧ OnlyRegs [DIN_LEVEL__LEVEL.addr, DIN_RAW__RAW.addr, DIN_EDGE, DIN_STALE] s t) ∧
  (∀ (s : State) (d : Fin 24) (a : Fin 8) (b : Bool), s.on VLT_STATUS__LOADED = true → nbit (s.get DIN_LEVEL__LEVEL) d.val = true →
    (b != s.on (DIN_CFG__INV d.val)) = false → s.armed = true → s.on (SAF_AX_CFG__SS1_EN a.val) = true → s.get (SAF_AX_CFG__SS1_DIN
    a.val) = d.val → ∃ t, exec (.dinEdge d b) s = .next t ∧ nbit (t.get DIN_LEVEL__LEVEL) d.val = false ∧ (t.on (SAF_AX_STAT__SS1
    a.val) || t.on (SAF_AX_STAT__SS1_STO a.val)) = true ∧ SameMem s t ∧ SameVault s t) ∧
  (∀ (s : State) (d : Fin 24) (b : Bool), s.on VLT_STATUS__LOADED = true → nbit (s.get DIN_LEVEL__LEVEL) d.val = (b != s.on
    (DIN_CFG__INV d.val)) → ∃ t, exec (.dinEdge d b) s = .next t ∧ nbit (t.get DIN_RAW__RAW) d.val = b ∧ OnlyRegs
    [DIN_RAW__RAW.addr] s t ∧ SameMem s t ∧ SameVault s t) ∧
  (∀ (s : State) (d : Fin 24) (b : Bool), s.on VLT_STATUS__LOADED = false → exec (.dinEdge d b) s = .next s ∧ exec (.dinChatter d)
    s = .next s ∧ exec (.dinStale d) s = .next s) ∧
  (∀ (s : State) (d : Fin 24), s.on VLT_STATUS__LOADED = true → ∃ t, exec (.dinChatter d) s = .next t ∧ t.get (dinCnt d.val) = min
    255 (s.get (dinCnt d.val) + 1) ∧ nbit (t.get DIN_CHAT__CHAT) d.val = (nbit (s.get DIN_CHAT__CHAT) d.val || (s.get
    (DIN_CFG__CHAT_MAX d.val) != 0) && decide (s.get (DIN_CFG__CHAT_MAX d.val) ≤ min 255 (s.get (dinCnt d.val) + 1))) ∧
    OnlyRegsBelow evBase [(dinCnt d.val).addr, DIN_CHAT__CHAT.addr] s t ∧ SameMem s t ∧ SameVault s t) ∧
  (∀ (s : State) (d : Fin 24), ∃ t, exec .dinChatterDecay s = .next t ∧ t.get (dinCnt d.val) = s.get (dinCnt d.val) - 1 ∧ nbit
    (t.get DIN_CHAT__CHAT) d.val = (nbit (s.get DIN_CHAT__CHAT) d.val && decide (1 < s.get (dinCnt d.val))) ∧ OnlyRegs
    (DIN_CHAT__CHAT.addr :: (List.range 6).map fun i => (DIN_CHATCNT__CNT i 0).addr) s t ∧ SameMem s t ∧ SameVault s t) ∧
  (∀ (s : State) (d : Fin 24), s.on VLT_STATUS__LOADED = true → s.get (DIN_CFG__STALE d.val) ≠ 0 → nbit (s.get DIN_STALE__STALE)
    d.val = false → ∃ t, exec (.dinStale d) s = .next t ∧ nbit (t.get DIN_STALE__STALE) d.val = true ∧ OnlyRegsBelow evBase
    [DIN_STALE] s t ∧ SameMem s t ∧ SameVault s t) ∧
  (∀ (s : State) (d : Fin 24), s.get (DIN_CFG__STALE d.val) = 0 ∨ nbit (s.get DIN_STALE__STALE) d.val = true → exec (.dinStale d) s
    = .next s) ∧
  (∀ (s : State) (d : Fin 24) (c : VCommit) (l : List VCommit), s.vq = c :: l → c.word = 694 + d.val → s.vheld = [] → s.sys.held =
    [] → ∃ t, exec (.dinCfgCommit d) s = .next t ∧ vaultWord (DIN_CFG__INV d.val).addr = some c.word ∧ t.vaultRd c.word = c.value ∧
    fieldGet (t.rd (DIN_CFG__INV d.val).addr) 0 27 = fieldGet ((s.rd (DIN_CFG__INV d.val).addr &&& ~~~(pvMask (DIN_CFG__INV
    d.val).addr)) ||| (c.value &&& pvMask (DIN_CFG__INV d.val).addr)) 0 27 ∧ SameMem s t) ∧
  (∀ (s : State) (d : Fin 24), s.vq.head?.map (·.word) ≠ some (694 + d.val) → exec (.dinCfgCommit d) s = .next s)

/-- Safe Torque Off, Safe Stop 1 and torque monitoring (R360 to R367). An edge of an STO input shows its levels and requests
STO where either is low; a requested STO takes an enabled axis in CATCH, RUN or HOLD to SAFE with cause 4, refuses the close of
one in OFF or COAST and opens the contactors that open for it, and leaves every other axis; the same levels again change
nothing. The discrepancy is recorded and holds the release back, which needs both inputs high. SS1 sets the setpoint to 0 and
keeps its start; in RUN it ramps, and outside RUN, or in its speed mode without a speed, it enters its STO phase at once: the
axis goes to SAFE with cause 4. The phase ends the ramp at SS1_TIME; the check enters it where there is no speed, where the
speed is above the ramp and its margin, or is within the margin. An update of the torque monitor starts a new microsecond and
shows whether its estimate is judged; a deviation takes the axis to SAFE with cause 4. What is not armed, enabled or requested
changes nothing. -/
def Obligations.SafetyStops : Prop :=
  (∀ (s : State), exec (.stoInputChange (s.on SAF_STATUS__STO_A) (s.on SAF_STATUS__STO_B)) s = .next s) ∧
  (∀ (s : State) (a b : Bool), s.on SAF_STATUS__STO_A ≠ a ∨ s.on SAF_STATUS__STO_B ≠ b → ∃ t, exec (.stoInputChange a b) s = .next
    t ∧ t.on SAF_STATUS__STO_A = a ∧ t.on SAF_STATUS__STO_B = b ∧ t.on SAF_STATUS__STO_ACT = (s.on SAF_STATUS__STO_ACT || !(a &&
    b)) ∧ (∀ x : Fin 8, t.on (SAF_AX_STAT__STO x.val) = t.stoOn x.val) ∧ (s.get PWR_BOOT_STATUS__PHASE ≠ 0 → nbit (t.get
    PWR_WAKE_CAUSE__SRC) 3 = true) ∧ OnlyRegsBelow 0x2000 [] s t ∧ SameMem s t ∧ SameVault s t) ∧
  (∀ (s : State) (a b : Bool) (k : Fin 8), s.on SAF_STATUS__STO_A ≠ a ∨ s.on SAF_STATUS__STO_B ≠ b → s.armed = true → s.on
    SAF_STATUS__STO_ACT = true ∨ (a && b) = false → s.on (SAF_CT_CFG__OPEN_STO k.val) = true → ∃ t, exec (.stoInputChange a b) s =
    .next t ∧ t.ctCmd k.val = false) ∧
  (∀ (s : State) (a b : Bool) (x : Fin 8), s.on SAF_STATUS__STO_A ≠ a ∨ s.on SAF_STATUS__STO_B ≠ b → s.armed = true → s.on
    SAF_STATUS__STO_ACT = true ∨ (a && b) = false → s.on (SAF_AX_CFG__STO_EN x.val) = true → s.axLive x.val = true → ∃ t, exec
    (.stoInputChange a b) s = .next t ∧ t.axState x.val = 5 ∧ (t.on RED_STATUS__DSAFE = s.on RED_STATUS__DSAFE → t.get
    (AX_STATE__SAFE_CAUSE x.val) = 4) ∧ SameMem s t ∧ SameVault s t) ∧
  (∀ (s : State) (a b : Bool) (x : Fin 8), s.on SAF_STATUS__STO_A ≠ a ∨ s.on SAF_STATUS__STO_B ≠ b → s.armed = true → s.on
    SAF_STATUS__STO_ACT = true ∨ (a && b) = false → s.on (SAF_AX_CFG__STO_EN x.val) = true → s.axState x.val ≤ 1 → ∃ t, exec
    (.stoInputChange a b) s = .next t ∧ t.on (AX_STATE__CLOSING x.val) = false ∧ (t.on RED_STATUS__DSAFE = s.on RED_STATUS__DSAFE →
    t.axState x.val = s.axState x.val) ∧ SameMem s t ∧ SameVault s t) ∧
  (∀ (s : State) (a b : Bool) (x : Fin 8), s.on SAF_STATUS__STO_A ≠ a ∨ s.on SAF_STATUS__STO_B ≠ b → s.armed = false ∨ s.on
    (SAF_AX_CFG__STO_EN x.val) = false ∨ 5 ≤ s.axState x.val ∨ (s.on SAF_STATUS__STO_ACT = false ∧ a = true ∧ b = true) → ∃ t, exec
    (.stoInputChange a b) s = .next t ∧ (t.on RED_STATUS__DSAFE = s.on RED_STATUS__DSAFE → t.axState x.val = s.axState x.val ∧ t.on
    (AX_STATE__CLOSING x.val) = s.on (AX_STATE__CLOSING x.val)) ∧ SameMem s t ∧ SameVault s t) ∧
  (∀ (s : State), s.armed = true → s.on SAF_STATUS__STO_A ≠ s.on SAF_STATUS__STO_B → s.on SAF_STATUS__STO_DISC = false → ∃ t, exec
    .stoDiscrepancy s = .next t ∧ t.on SAF_STATUS__STO_DISC = true ∧ OnlyRegsBelow evBase [SAF_STATUS, SAF_EVENT__EVT.addr] s t ∧
    SameMem s t ∧ SameVault s t) ∧
  (∀ (s : State), s.armed = false ∨ s.on SAF_STATUS__STO_A = s.on SAF_STATUS__STO_B ∨ s.on SAF_STATUS__STO_DISC = true → exec
    .stoDiscrepancy s = .next s) ∧
  (∀ (s : State), s.on SAF_STATUS__STO_ACT = true → s.on SAF_STATUS__STO_DISC = false → s.on SAF_STATUS__STO_A = true → s.on
    SAF_STATUS__STO_B = true → ∃ t, exec .stoRelease s = .next t ∧ t.on SAF_STATUS__STO_ACT = false ∧ (∀ x : Fin 8, t.on
    (SAF_AX_STAT__STO x.val) = false ∧ t.axState x.val = s.axState x.val) ∧ OnlyRegsBelow evBase ([SAF_STATUS, SAF_EVENT__EVT.addr]
    ++ (List.range 8).map AX_STATE ++ (List.range 8).map SAF_AX_STAT) s t ∧ SameMem s t ∧ SameVault s t) ∧
  (∀ (s : State), s.on SAF_STATUS__STO_ACT = false ∨ s.on SAF_STATUS__STO_DISC = true ∨ s.on SAF_STATUS__STO_A = false ∨ s.on
    SAF_STATUS__STO_B = false → exec .stoRelease s = .next s) ∧
  (∀ (s : State) (x : Fin 8), s.ss1Asked x.val = true → s.on (SAF_AX_STAT__SS1 x.val) = false → s.on (SAF_AX_STAT__SS1_STO x.val) =
    false → s.axState x.val = 3 → s.on (SAF_AX_CFG__SS1_MODE x.val) = false ∨ (s.ss1Speed x.val) ≠ none → ∃ t, exec (.ss1Request x)
    s = .next t ∧ t.on (SAF_AX_STAT__SS1 x.val) = true ∧ t.on (SAF_AX_STAT__SS1_STO x.val) = false ∧ t.rd (AX_SETPOINT x.val) = 0 ∧
    t.axState x.val = 3 ∧ (t.saf x.val).ss1At = s.time ∧ (t.saf x.val).ss1Speed = ((s.ss1Speed x.val).getD 0).natAbs ∧
    OnlyRegsBelow evBase [SAF_AX_STAT x.val, AX_SETPOINT x.val, SAF_EVENT__EVT.addr] s t ∧ SameMem s t ∧ SameVault s t) ∧
  (∀ (s : State) (x : Fin 8), s.ss1Asked x.val = true → s.on (SAF_AX_STAT__SS1 x.val) = false → s.on (SAF_AX_STAT__SS1_STO x.val) =
    false → s.axState x.val ≠ 3 ∨ (s.on (SAF_AX_CFG__SS1_MODE x.val) = true ∧ (s.ss1Speed x.val) = none) → ∃ t, exec (.ss1Request
    x) s = .next t ∧ t.on (SAF_AX_STAT__SS1_STO x.val) = true ∧ t.on (SAF_AX_STAT__SS1 x.val) = false ∧ t.rd (AX_SETPOINT x.val) =
    0 ∧ (s.axLive x.val = true ∨ (s.axState x.val ≤ 1 ∧ (s.axState x.val = 1 ∨ (s.armed = true ∧ s.sys.released = true))) →
    t.axState x.val = 5 ∧ t.get (AX_STATE__SAFE_CAUSE x.val) = 4) ∧ (s.axState x.val = 6 → t.axState x.val = 6) ∧ (s.axState x.val
    = 0 → s.armed = false ∨ s.sys.released = false → t.axState x.val = 0) ∧ OnlyRegsBelow 0x2000 [] s t ∧ SameMem s t ∧ SameVault s
    t) ∧
  (∀ (s : State) (x : Fin 8), s.ss1Asked x.val = false ∨ s.on (SAF_AX_STAT__SS1 x.val) = true ∨ s.on (SAF_AX_STAT__SS1_STO x.val) =
    true → exec (.ss1Request x) s = .next s) ∧
  (∀ (s : State) (x : Fin 8), s.on (SAF_AX_STAT__SS1 x.val) = true → ∃ t, exec (.ss1StoPhase x) s = .next t ∧ t.on
    (SAF_AX_STAT__SS1_STO x.val) = true ∧ t.on (SAF_AX_STAT__SS1 x.val) = false ∧ (s.axLive x.val = true ∨ (s.axState x.val ≤ 1 ∧
    (s.axState x.val = 1 ∨ (s.armed = true ∧ s.sys.released = true))) → t.axState x.val = 5 ∧ t.get (AX_STATE__SAFE_CAUSE x.val) =
    4) ∧ (s.axState x.val = 6 → t.axState x.val = 6) ∧ (s.axState x.val = 0 → s.armed = false ∨ s.sys.released = false → t.axState
    x.val = 0) ∧ OnlyRegsBelow 0x2000 [] s t ∧ SameMem s t ∧ SameVault s t) ∧
  (∀ (s : State) (x : Fin 8), s.on (SAF_AX_STAT__SS1 x.val) = false → exec (.ss1StoPhase x) s = .next s) ∧
  (∀ (s : State) (x : Fin 8), s.on (SAF_AX_STAT__SS1 x.val) = true → s.on (SAF_AX_CFG__SS1_MODE x.val) = true → (s.ss1Speed x.val)
    = none ∨ (∃ w, (s.ss1Speed x.val) = some w ∧ ((s.saf x.val).ss1Speed * (max 1 (s.get (SAF_AX_CFG__SS1_TIME x.val)) * 200000 -
    (s.time - (s.saf x.val).ss1At)) + s.get (SAF_AX_TMON2__SS1_MARGIN x.val) * 2 ^ 15 * (max 1 (s.get (SAF_AX_CFG__SS1_TIME x.val))
    * 200000) < w.natAbs * (max 1 (s.get (SAF_AX_CFG__SS1_TIME x.val)) * 200000) ∨ w.natAbs ≤ s.get (SAF_AX_TMON2__SS1_MARGIN
    x.val) * 2 ^ 15)) → ∃ t, exec (.ss1SpeedCheck x) s = .next t ∧ t.on (SAF_AX_STAT__SS1_STO x.val) = true ∧ t.on
    (SAF_AX_STAT__SS1 x.val) = false ∧ (s.axLive x.val = true ∨ (s.axState x.val ≤ 1 ∧ (s.axState x.val = 1 ∨ (s.armed = true ∧
    s.sys.released = true))) → t.axState x.val = 5 ∧ t.get (AX_STATE__SAFE_CAUSE x.val) = 4) ∧ (s.axState x.val = 6 → t.axState
    x.val = 6) ∧ (s.axState x.val = 0 → s.armed = false ∨ s.sys.released = false → t.axState x.val = 0) ∧ OnlyRegsBelow 0x2000 [] s
    t ∧ SameMem s t ∧ SameVault s t) ∧
  (∀ (s : State) (x : Fin 8) (w : Int), (s.ss1Speed x.val) = some w → ¬ ((s.saf x.val).ss1Speed * (max 1 (s.get
    (SAF_AX_CFG__SS1_TIME x.val)) * 200000 - (s.time - (s.saf x.val).ss1At)) + s.get (SAF_AX_TMON2__SS1_MARGIN x.val) * 2 ^ 15 *
    (max 1 (s.get (SAF_AX_CFG__SS1_TIME x.val)) * 200000) < w.natAbs * (max 1 (s.get (SAF_AX_CFG__SS1_TIME x.val)) * 200000) ∨
    w.natAbs ≤ s.get (SAF_AX_TMON2__SS1_MARGIN x.val) * 2 ^ 15) → exec (.ss1SpeedCheck x) s = .next s) ∧
  (∀ (s : State) (x : Fin 8), s.on (SAF_AX_STAT__SS1 x.val) = false ∨ s.on (SAF_AX_CFG__SS1_MODE x.val) = false → exec
    (.ss1SpeedCheck x) s = .next s) ∧
  (∀ (s : State) (x : Fin 8) (da db dc : Fin 401), s.armed = true → s.on (SAF_AX_TMON__EN x.val) = true → s.on
    CLK_STATUS__PLLB_LOCK = true → ∃ t, exec (.tmonUpdate x da db dc) s = .next t ∧ (t.saf x.val).nA = 0 ∧ (t.saf x.val).nB = 0 ∧
    (t.saf x.val).sumA = 0 ∧ (t.saf x.val).sumB = 0 ∧ (t.saf x.val).angs.length = min 65 ((s.saf x.val).angs.length + 1) ∧ t.on
    (SAF_AX_TAU__VALID x.val) = t.tmonJudges x.val ∧ OnlyRegs [(SAF_AX_TAU__TAU x.val).addr] s t ∧ SameMem s t ∧ SameVault s t) ∧
  (∀ (s : State) (x : Fin 8) (da db dc : Fin 401), s.armed = false ∨ s.on (SAF_AX_TMON__EN x.val) = false ∨ s.on
    CLK_STATUS__PLLB_LOCK = false → exec (.tmonUpdate x da db dc) s = .next s) ∧
  (∀ (s : State) (x : Fin 8), s.armed = true → s.on (SAF_AX_TMON__EN x.val) = true → s.tmonJudges x.val = true → ((s.tmonDev
    x.val).1 || (s.tmonDev x.val).2) = true → ∃ t, exec (.tmonFault x) s = .next t ∧ t.on (SAF_AX_STAT__TMON_FLT x.val) = true ∧
    t.axState x.val = 5 ∧ t.get (AX_STATE__SAFE_CAUSE x.val) = 4 ∧ (t.ax x.val).latched.contains 4 = (s.on (SAF_AX_CFG__TMON_LATCH
    x.val) || (s.ax x.val).latched.contains 4) ∧ OnlyRegsBelow 0x2000 [] s t ∧ SameMem s t ∧ SameVault s t) ∧
  (∀ (s : State) (x : Fin 8), s.armed = false ∨ s.on (SAF_AX_TMON__EN x.val) = false ∨ s.tmonJudges x.val = false ∨ ((s.tmonDev
    x.val).1 || (s.tmonDev x.val).2) = false → exec (.tmonFault x) s = .next s)

/-- Link groups, discharge and contactors (R368 to R375). OV1 lowers the torque limit of its group from its present level; the
end of a ramp rests at 0, or ends the limit. OV2 takes every axis of the group in CATCH, RUN or HOLD to SAFE with cause 4, a PM
machine's safe state then being the short circuit and any other's pulse-off. A discharge that is asked for waits for its
conditions, then injects where its mode and its axis allow or drives DSCH; an injection whose conditions fail ends failed or
leaves the rest to DSCH; it ends done at its voltage, or failed at its time limit. A contactor closes and opens by command and
leaves the others; a refused close leaves it and is recorded with reason 7; a disabled one stays open; a main contactor with a
precharge closes its precharge contactor first, and itself once the feedback agrees and the voltage is reached; its feedback,
or the time limit, or a contactor that fails ends the precharge, and so does an open command. Feedback is shown by its
polarity; feedback that disagrees is a fault, opens the contactor and takes its axes to SAFE with cause 4. What is not armed,
enabled or running changes nothing. -/
def Obligations.LinksAndContactors : Prop :=
  (∀ (s : State) (g : Fin 4), s.armed = true → s.on (SAF_LINK_CFG__EN g.val) = true → s.on (FM_CH_STATUS__WA_OUT (s.get
    (SAF_LINK_CFG__VDC_CH g.val))) = true → s.linkBit g.val 0 = false → ∃ t, exec (.ov1Firing g) s = .next t ∧ t.linkBit g.val 0 =
    true ∧ t.linkBit g.val 3 = true ∧ (t.lnk g.val).dir = 1 ∧ (t.lnk g.val).since = s.time ∧ (t.lnk g.val).lev = (if s.linkBit
    g.val 3 then s.tlimNow g.val else s.tlimSpan g.val) ∧ OnlyRegsBelow evBase ([SAF_LINK_STAT, SAF_EVENT__EVT.addr] ++ (List.range
    8).map SAF_AX_STAT) s t ∧ SameMem s t ∧ SameVault s t) ∧
  (∀ (s : State) (g : Fin 4), s.armed = false ∨ s.on (SAF_LINK_CFG__EN g.val) = false ∨ s.on (FM_CH_STATUS__WA_OUT (s.get
    (SAF_LINK_CFG__VDC_CH g.val))) = false ∨ s.linkBit g.val 0 = true → exec (.ov1Firing g) s = .next s) ∧
  (∀ (s : State) (g : Fin 4), (s.lnk g.val).dir = 1 → ∃ t, exec (.tlimRampEnd g) s = .next t ∧ (t.lnk g.val).lev = 0 ∧ (t.lnk
    g.val).dir = 0 ∧ OnlyRegs [] s t ∧ SameMem s t ∧ SameVault s t) ∧
  (∀ (s : State) (g : Fin 4), (s.lnk g.val).dir = 2 → ∃ t, exec (.tlimRampEnd g) s = .next t ∧ (t.lnk g.val).lev = s.tlimSpan g.val
    ∧ (t.lnk g.val).dir = 0 ∧ t.linkBit g.val 3 = false ∧ OnlyRegsBelow evBase ([SAF_LINK_STAT, SAF_EVENT__EVT.addr] ++ (List.range
    8).map SAF_AX_STAT) s t ∧ SameMem s t ∧ SameVault s t) ∧
  (∀ (s : State) (g : Fin 4), (s.lnk g.val).dir ≠ 1 → (s.lnk g.val).dir ≠ 2 → exec (.tlimRampEnd g) s = .next s) ∧
  (∀ (s : State) (g : Fin 4) (x : Fin 8), s.armed = true → s.on (SAF_LINK_CFG__EN g.val) = true → s.linkBit g.val 1 = false → s.on
    (FM_CH_STATUS__WB_OUT (s.get (SAF_LINK_CFG__VDC_CH g.val))) = true → nbit (s.groupAxes g.val) x.val = true → s.axLive x.val =
    true → ∃ t, exec (.ov2Firing g) s = .next t ∧ t.linkBit g.val 1 = true ∧ t.on (SAF_AX_STAT__OV2 x.val) = true ∧ t.axState x.val
    = 5 ∧ (t.on RED_STATUS__DSAFE = s.on RED_STATUS__DSAFE → t.get (AX_STATE__SAFE_CAUSE x.val) = 4) ∧ ((s.ax x.val).ov2Asc = false
    → t.on (AX_STATE__ASC_ACTIVE x.val) = (s.tableMode x.val && nbit (s.get (SAF_LINK_AX__MACH_MASK g.val)) x.val && s.isPm x.val))
    ∧ OnlyRegsBelow 0x2000 [] s t ∧ SameMem s t ∧ SameVault s t) ∧
  (∀ (s : State) (g : Fin 4) (x : Fin 8), s.armed = true → s.on (SAF_LINK_CFG__EN g.val) = true → s.linkBit g.val 1 = false → s.on
    (FM_CH_STATUS__WB_OUT (s.get (SAF_LINK_CFG__VDC_CH g.val))) = true → nbit (s.groupAxes g.val) x.val = false ∨ s.axState x.val =
    6 → ∃ t, exec (.ov2Firing g) s = .next t ∧ t.linkBit g.val 1 = true ∧ (t.on RED_STATUS__DSAFE = s.on RED_STATUS__DSAFE →
    t.axState x.val = s.axState x.val) ∧ SameMem s t ∧ SameVault s t) ∧
  (∀ (s : State) (g : Fin 4), s.armed = false ∨ s.on (SAF_LINK_CFG__EN g.val) = false ∨ s.linkBit g.val 1 = true ∨ s.on
    (FM_CH_STATUS__WB_OUT (s.get (SAF_LINK_CFG__VDC_CH g.val))) = false → exec (.ov2Firing g) s = .next s) ∧
  (∀ (s : State) (g : Fin 4), ((s.lnk g.val).dis = 1 ∨ ((s.lnk g.val).dis = 0 ∧ s.disAsked g.val = true ∧ s.armed = true ∧ s.on
    (SAF_LINK_CFG__EN g.val) = true)) → s.get (SAF_LINK_DIS__DIS_MODE g.val) ≠ 0 → ¬ (s.linkBit g.val 4 = false ∧ s.ctFb (s.get
    (SAF_LINK_AX__MAIN_CT g.val)) = false ∧ ∀ x : Fin 8, nbit (s.groupAxes g.val) x.val = true → x.val ≠ s.get
    (SAF_LINK_DIS__DIS_AX g.val) → s.axLive x.val = false) ∨ (s.get (SAF_LINK_DIS__DIS_MODE g.val) = 2 ∧ s.injOk g.val = false) → ∃
    t, exec (.dischargeRequest g) s = .next t ∧ (t.lnk g.val).dis = 1 ∧ (t.lnk g.val).dsch = (s.lnk g.val).dsch ∧ t.linkBit g.val 4
    = s.linkBit g.val 4 ∧ ((s.lnk g.val).dis = 0 → t.linkBit g.val 5 = false ∧ t.linkBit g.val 6 = false) ∧ OnlyRegs
    [SAF_LINK_STAT] s t ∧ SameMem s t ∧ SameVault s t) ∧
  (∀ (s : State) (g : Fin 4), ((s.lnk g.val).dis = 1 ∨ ((s.lnk g.val).dis = 0 ∧ s.disAsked g.val = true ∧ s.armed = true ∧ s.on
    (SAF_LINK_CFG__EN g.val) = true)) → s.linkBit g.val 7 = false → (s.linkBit g.val 4 = false ∧ s.ctFb (s.get
    (SAF_LINK_AX__MAIN_CT g.val)) = false ∧ ∀ x : Fin 8, nbit (s.groupAxes g.val) x.val = true → x.val ≠ s.get
    (SAF_LINK_DIS__DIS_AX g.val) → s.axLive x.val = false) → s.get (SAF_LINK_DIS__DIS_MODE g.val) = 1 ∨ (s.get
    (SAF_LINK_DIS__DIS_MODE g.val) = 3 ∧ s.injOk g.val = false) → ∃ t, exec (.dischargeRequest g) s = .next t ∧ (t.lnk g.val).dis =
    2 ∧ (t.lnk g.val).dsch = true ∧ t.sys.dsch = true ∧ t.linkBit g.val 4 = true ∧ t.linkBit g.val 7 = false ∧ OnlyRegsBelow evBase
    [SAF_LINK_STAT, SAF_EVENT__EVT.addr] s t ∧ SameMem s t ∧ SameVault s t) ∧
  (∀ (s : State) (g : Fin 4), ((s.lnk g.val).dis = 1 ∨ ((s.lnk g.val).dis = 0 ∧ s.disAsked g.val = true ∧ s.armed = true ∧ s.on
    (SAF_LINK_CFG__EN g.val) = true)) → (s.linkBit g.val 4 = false ∧ s.ctFb (s.get (SAF_LINK_AX__MAIN_CT g.val)) = false ∧ ∀ x :
    Fin 8, nbit (s.groupAxes g.val) x.val = true → x.val ≠ s.get (SAF_LINK_DIS__DIS_AX g.val) → s.axLive x.val = false) → 2 ≤ s.get
    (SAF_LINK_DIS__DIS_MODE g.val) → s.injOk g.val = true → ∃ t, exec (.dischargeRequest g) s = .next t ∧ (t.lnk g.val).dis = 2 ∧
    (t.lnk g.val).dsch = (s.lnk g.val).dsch ∧ t.linkBit g.val 4 = true ∧ t.linkBit g.val 7 = true ∧ t.linkBit g.val 3 = true ∧
    (t.lnk g.val).lev = 0 ∧ t.on (SAF_AX_STAT__DIS_INJ (s.get (SAF_LINK_DIS__DIS_AX g.val))) = true ∧ OnlyRegsBelow evBase
    ([SAF_LINK_STAT, SAF_EVENT__EVT.addr] ++ (List.range 8).map SAF_AX_STAT) s t ∧ SameMem s t ∧ SameVault s t) ∧
  (∀ (s : State) (g : Fin 4), (s.lnk g.val).dis = 2 → s.linkBit g.val 7 = true → s.injOk g.val = false → s.get
    (SAF_LINK_DIS__DIS_MODE g.val) = 3 → ∃ t, exec (.dischargeRequest g) s = .next t ∧ (t.lnk g.val).dis = 2 ∧ (t.lnk g.val).dsch =
    true ∧ t.linkBit g.val 7 = false ∧ t.linkBit g.val 4 = s.linkBit g.val 4 ∧ OnlyRegs (SAF_LINK_STAT :: (List.range 8).map
    SAF_AX_STAT) s t ∧ SameMem s t ∧ SameVault s t) ∧
  (∀ (s : State) (g : Fin 4), (s.lnk g.val).dis = 2 → s.linkBit g.val 7 = true → s.injOk g.val = false → s.get
    (SAF_LINK_DIS__DIS_MODE g.val) ≠ 3 → ∃ t, exec (.dischargeRequest g) s = .next t ∧ (t.lnk g.val).dis = 0 ∧ (t.lnk g.val).dsch =
    false ∧ t.linkBit g.val 7 = false ∧ t.linkBit g.val 4 = false ∧ t.linkBit g.val 5 = false ∧ t.linkBit g.val 6 = true ∧
    OnlyRegsBelow evBase ([SAF_LINK_STAT, SAF_EVENT__EVT.addr] ++ (List.range 8).map SAF_AX_STAT) s t ∧ SameMem s t ∧ SameVault s t) ∧
  (∀ (s : State) (g : Fin 4), ((s.lnk g.val).dis = 0 ∧ (s.disAsked g.val = false ∨ s.armed = false ∨ s.on (SAF_LINK_CFG__EN g.val)
    = false ∨ s.get (SAF_LINK_DIS__DIS_MODE g.val) = 0)) ∨ ((s.lnk g.val).dis = 2 ∧ (s.linkBit g.val 7 = false ∨ s.injOk g.val =
    true)) → exec (.dischargeRequest g) s = .next s) ∧
  (∀ (s : State) (g : Fin 4), (s.lnk g.val).dis = 2 → s.linkCode g.val ≤ (16 * s.get (SAF_LINK_DIS__DIS_DONE g.val) : Nat) → ∃ t,
    exec (.dischargeDone g) s = .next t ∧ (t.lnk g.val).dis = 0 ∧ (t.lnk g.val).dsch = false ∧ t.sys.dsch = ((List.range 4).any fun
    h => h != g.val && (s.lnk h).dsch) ∧ t.linkBit g.val 4 = false ∧ t.linkBit g.val 5 = true ∧ t.linkBit g.val 6 = false ∧
    t.linkBit g.val 7 = false ∧ OnlyRegsBelow evBase ([SAF_LINK_STAT, SAF_EVENT__EVT.addr] ++ (List.range 8).map SAF_AX_STAT) s t ∧
    SameMem s t ∧ SameVault s t) ∧
  (∀ (s : State) (g : Fin 4), (s.lnk g.val).dis ≠ 2 ∨ (16 * s.get (SAF_LINK_DIS__DIS_DONE g.val) : Nat) < s.linkCode g.val → exec
    (.dischargeDone g) s = .next s) ∧
  (∀ (s : State) (g : Fin 4), (s.lnk g.val).dis ≠ 0 → ∃ t, exec (.dischargeTimeout g) s = .next t ∧ (t.lnk g.val).dis = 0 ∧ (t.lnk
    g.val).dsch = false ∧ t.sys.dsch = ((List.range 4).any fun h => h != g.val && (s.lnk h).dsch) ∧ t.linkBit g.val 4 = false ∧
    t.linkBit g.val 5 = false ∧ t.linkBit g.val 6 = true ∧ t.linkBit g.val 7 = false ∧ OnlyRegsBelow evBase ([SAF_LINK_STAT,
    SAF_EVENT__EVT.addr] ++ (List.range 8).map SAF_AX_STAT) s t ∧ SameMem s t ∧ SameVault s t) ∧
  (∀ (s : State) (g : Fin 4), (s.lnk g.val).dis = 0 → exec (.dischargeTimeout g) s = .next s) ∧
  (∀ (s : State) (w : Writer) (k : Fin 8), s.may w SAF_CT_CMD (BitVec.ofNat 32 (2 ^ k.val)) = true → s.ctRefused k.val = false →
    s.preGroup k.val = none → ∃ t, exec (.ctClose w k) s = .next t ∧ t.ctCmd k.val = (s.on (SAF_CT_CFG__EN k.val) || s.ctCmd k.val)
    ∧ (∀ j : Fin 8, j ≠ k → t.ctCmd j.val = s.ctCmd j.val) ∧ OnlyRegs [PWR_WAKE_CAUSE, SAF_CT_STAT__CMD.addr] s t ∧ SameMem s t ∧
    SameVault s t) ∧
  (∀ (s : State) (w : Writer) (k : Fin 8), s.may w SAF_CT_CMD (BitVec.ofNat 32 (2 ^ k.val)) = true → s.ctRefused k.val = true → ∃
    t, exec (.ctClose w k) s = .next t ∧ (∀ j : Fin 8, t.ctCmd j.val = s.ctCmd j.val) ∧ OnlyRegsBelow evBase ([PWR_WAKE_CAUSE,
    HP_EVENT__DENIED.addr] ++ (List.range 4).map HP_DENY_INFO ++ (List.range 4).map HP_DENY_ADDR) s t ∧ SameMem s t ∧ SameVault s t) ∧
  (∀ (s : State) (p : Fin 4) (k : Fin 8), s.may (.host p) SAF_CT_CMD (BitVec.ofNat 32 (2 ^ k.val)) = true → s.ctRefused k.val =
    true → s.on (HP_DENY_INFO__VALID p.val) = false → ∃ t, exec (.ctClose (.host p) k) s = .next t ∧ t.on (HP_DENY_INFO__VALID
    p.val) = true ∧ t.get (HP_DENY_INFO__REASON p.val) = 7 ∧ t.rd (HP_DENY_ADDR p.val) = BitVec.ofNat 32 SAF_CT_CMD) ∧
  (∀ (s : State) (w : Writer) (k : Fin 8) (g : Fin 4), s.may w SAF_CT_CMD (BitVec.ofNat 32 (2 ^ k.val)) = true → s.ctRefused k.val
    = false → s.preGroup k.val = some g.val → s.ctCmd k.val = false → (s.lnk g.val).pre = 0 → s.on (SAF_CT_CFG__EN (s.get
    (SAF_LINK_AX__PRE_CT g.val))) = true → ¬ (s.on SAF_STATUS__STO_ACT = true ∧ s.on (SAF_CT_CFG__OPEN_STO (s.get
    (SAF_LINK_AX__PRE_CT g.val))) = true) → s.ctFault (s.get (SAF_LINK_AX__PRE_CT g.val)) = false → (s.get (SAF_LINK_AX__PRE_CT
    g.val)) ≠ k.val → s.ctFb (s.get (SAF_LINK_AX__PRE_CT g.val)) = false → ∃ t, exec (.ctClose w k) s = .next t ∧ (t.lnk g.val).pre
    = 2 ∧ t.ctCmd (s.get (SAF_LINK_AX__PRE_CT g.val)) = true ∧ nbit (t.get SAF_CT_STAT__PRE_BUSY) g.val = true ∧ (∀ j : Fin 8,
    j.val ≠ (s.get (SAF_LINK_AX__PRE_CT g.val)) → t.ctCmd j.val = s.ctCmd j.val) ∧ OnlyRegs [PWR_WAKE_CAUSE, SAF_CT_STAT__CMD.addr]
    s t ∧ SameMem s t ∧ SameVault s t) ∧
  (∀ (s : State) (w : Writer) (k : Fin 8) (g : Fin 4), s.may w SAF_CT_CMD (BitVec.ofNat 32 (2 ^ k.val)) = true → s.ctRefused k.val
    = false → s.preGroup k.val = some g.val → s.ctCmd k.val = false → (s.lnk g.val).pre = 0 → s.on (SAF_CT_CFG__EN (s.get
    (SAF_LINK_AX__PRE_CT g.val))) = true → ¬ (s.on SAF_STATUS__STO_ACT = true ∧ s.on (SAF_CT_CFG__OPEN_STO (s.get
    (SAF_LINK_AX__PRE_CT g.val))) = true) → s.ctFault (s.get (SAF_LINK_AX__PRE_CT g.val)) = false → (s.get (SAF_LINK_AX__PRE_CT
    g.val)) ≠ k.val → s.ctFb (s.get (SAF_LINK_AX__PRE_CT g.val)) = true → ¬ (16 * s.get (SAF_LINK_AX__PRE_V g.val) : Int) ≤
    s.linkCode g.val → ∃ t, exec (.ctClose w k) s = .next t ∧ (t.lnk g.val).pre = 3 ∧ t.ctCmd (s.get (SAF_LINK_AX__PRE_CT g.val)) =
    true ∧ nbit (t.get SAF_CT_STAT__PRE_BUSY) g.val = true ∧ t.ctCmd k.val = false ∧ OnlyRegs [PWR_WAKE_CAUSE,
    SAF_CT_STAT__CMD.addr] s t ∧ SameMem s t ∧ SameVault s t) ∧
  (∀ (s : State) (w : Writer) (k : Fin 8) (g : Fin 4), s.may w SAF_CT_CMD (BitVec.ofNat 32 (2 ^ k.val)) = true → s.ctRefused k.val
    = false → s.preGroup k.val = some g.val → s.ctCmd k.val = false → (s.lnk g.val).pre = 0 → s.on (SAF_CT_CFG__EN (s.get
    (SAF_LINK_AX__PRE_CT g.val))) = true → ¬ (s.on SAF_STATUS__STO_ACT = true ∧ s.on (SAF_CT_CFG__OPEN_STO (s.get
    (SAF_LINK_AX__PRE_CT g.val))) = true) → s.ctFault (s.get (SAF_LINK_AX__PRE_CT g.val)) = false → (s.get (SAF_LINK_AX__PRE_CT
    g.val)) ≠ k.val → s.ctFb (s.get (SAF_LINK_AX__PRE_CT g.val)) = true → (16 * s.get (SAF_LINK_AX__PRE_V g.val) : Int) ≤
    s.linkCode g.val → s.on (SAF_CT_CFG__EN k.val) = true → s.ctFb k.val = false → ∃ t, exec (.ctClose w k) s = .next t ∧ (t.lnk
    g.val).pre = 4 ∧ t.ctCmd (s.get (SAF_LINK_AX__PRE_CT g.val)) = true ∧ nbit (t.get SAF_CT_STAT__PRE_BUSY) g.val = true ∧ t.ctCmd
    k.val = true ∧ OnlyRegs [PWR_WAKE_CAUSE, SAF_CT_STAT__CMD.addr] s t ∧ SameMem s t ∧ SameVault s t) ∧
  (∀ (s : State) (w : Writer) (k : Fin 8) (g : Fin 4), s.may w SAF_CT_CMD (BitVec.ofNat 32 (2 ^ k.val)) = true → s.ctRefused k.val
    = false → s.preGroup k.val = some g.val → s.ctCmd k.val = true ∨ (s.lnk g.val).pre ≠ 0 → ∃ t, exec (.ctClose w k) s = .next t ∧
    (t.lnk g.val).pre = (s.lnk g.val).pre ∧ OnlyRegs [PWR_WAKE_CAUSE] s t ∧ SameMem s t ∧ SameVault s t) ∧
  (∀ (s : State) (w : Writer) (k : Fin 8) (g : Fin 4), s.may w SAF_CT_CMD (BitVec.ofNat 32 (2 ^ k.val)) = true → s.ctRefused k.val
    = false → s.preGroup k.val = some g.val → s.ctCmd k.val = false → (s.lnk g.val).pre = 0 → s.on (SAF_CT_CFG__EN (s.get
    (SAF_LINK_AX__PRE_CT g.val))) = false ∨ (s.on SAF_STATUS__STO_ACT = true ∧ s.on (SAF_CT_CFG__OPEN_STO (s.get
    (SAF_LINK_AX__PRE_CT g.val))) = true) ∨ s.ctFault (s.get (SAF_LINK_AX__PRE_CT g.val)) = true → s.ctCmd (s.get
    (SAF_LINK_AX__PRE_CT g.val)) = false → ∃ t, exec (.ctClose w k) s = .next t ∧ (t.lnk g.val).pre = 0 ∧ t.ctCmd k.val = false ∧
    t.ctCmd (s.get (SAF_LINK_AX__PRE_CT g.val)) = false ∧ nbit (t.get SAF_CT_STAT__PRE_BUSY) g.val = false ∧ OnlyRegs
    [PWR_WAKE_CAUSE, SAF_CT_STAT__CMD.addr] s t ∧ SameMem s t ∧ SameVault s t) ∧
  (∀ (s : State) (w : Writer) (k : Fin 8), s.may w SAF_CT_CMD (BitVec.ofNat 32 (2 ^ (8 + k.val))) = true → (∀ h : Fin 4, (s.lnk
    h.val).pre = 0) → ∃ t, exec (.ctOpen w k) s = .next t ∧ t.ctCmd k.val = false ∧ (∀ j : Fin 8, j ≠ k → t.ctCmd j.val = s.ctCmd
    j.val) ∧ OnlyRegs [PWR_WAKE_CAUSE, SAF_CT_STAT__CMD.addr] s t ∧ SameMem s t ∧ SameVault s t) ∧
  (∀ (s : State) (w : Writer) (k : Fin 8) (g : Fin 4), s.may w SAF_CT_CMD (BitVec.ofNat 32 (2 ^ (8 + k.val))) = true → s.preGroup
    k.val = some g.val → (s.lnk g.val).pre ≠ 0 → (∀ h : Fin 4, h ≠ g → (s.lnk h.val).pre = 0) → ∃ t, exec (.ctOpen w k) s = .next t
    ∧ t.ctCmd k.val = false ∧ (t.lnk g.val).pre = 0 ∧ t.ctCmd (s.get (SAF_LINK_AX__PRE_CT g.val)) = false ∧ nbit (t.get
    SAF_CT_STAT__PRE_BUSY) g.val = false ∧ OnlyRegs [PWR_WAKE_CAUSE, SAF_CT_STAT__CMD.addr] s t ∧ SameMem s t ∧ SameVault s t) ∧
  (∀ (s : State) (k x : Fin 8), s.on (SAF_CT_CFG__EN k.val) = true → s.ctFault k.val = false → s.ctFb k.val ≠
    s.ctCmd k.val → (∀ h : Fin 4, (s.lnk h.val).pre = 0) → nbit (s.get (SAF_CT_CFG__AXMASK k.val)) x.val = true → s.axLive x.val =
    true → ∃ t, exec (.ctFeedbackFault k) s = .next t ∧ t.ctFault k.val = true ∧ t.ctCmd k.val = false ∧ t.axState x.val = 5 ∧
    (t.on RED_STATUS__DSAFE = s.on RED_STATUS__DSAFE → t.get (AX_STATE__SAFE_CAUSE x.val) = 4) ∧ (t.on RED_STATUS__DSAFE = s.on
    RED_STATUS__DSAFE → (t.ax x.val).latched.contains 4 = (s.on (SAF_AX_CFG__CT_LATCH x.val) || (s.ax x.val).latched.contains 4)) ∧
    OnlyRegsBelow 0x2000 [] s t ∧ SameMem s t ∧ SameVault s t) ∧
  (∀ (s : State) (k x : Fin 8), s.on (SAF_CT_CFG__EN k.val) = true → s.ctFault k.val = false → s.ctFb k.val ≠
    s.ctCmd k.val → (∀ h : Fin 4, (s.lnk h.val).pre = 0) → nbit (s.get (SAF_CT_CFG__AXMASK k.val)) x.val = false → ∃ t, exec
    (.ctFeedbackFault k) s = .next t ∧ t.ctFault k.val = true ∧ t.ctCmd k.val = false ∧ (t.on RED_STATUS__DSAFE = s.on
    RED_STATUS__DSAFE → t.axState x.val = s.axState x.val) ∧ SameMem s t ∧ SameVault s t) ∧
  (∀ (s : State) (k : Fin 8), s.on (SAF_CT_CFG__EN k.val) = false ∨ s.ctFault k.val = true ∨ s.ctFb k.val =
    s.ctCmd k.val → exec (.ctFeedbackFault k) s = .next s) ∧
  (∀ (s : State) (k : Fin 8) (v : Bool), (∀ h : Fin 4, (s.lnk h.val).pre = 0 ∧ (s.lnk h.val).dis = 0) → (∀ h : Fin 4, s.on
    (SAF_LINK_DIS__DIS_AUTO h.val) = false) → ∃ t, exec (.contactorFeedbackChange k v) s = .next t ∧ t.ctFb k.val = (v != s.on
    (SAF_CT_CFG__FB_POL k.val)) ∧ (∀ j : Fin 8, t.ctCmd j.val = s.ctCmd j.val) ∧ OnlyRegs [SAF_CT_STAT__CMD.addr] s t ∧ SameMem s t
    ∧ SameVault s t) ∧
  (∀ (s : State) (k : Fin 8) (g : Fin 4) (v : Bool), (∀ h : Fin 4, (s.lnk h.val).pre = 0) → (s.get (SAF_LINK_AX__MAIN_CT g.val)) =
    k.val → s.on (SAF_LINK_DIS__DIS_AUTO g.val) = true → v = s.on (SAF_CT_CFG__FB_POL k.val) → s.ctCmd k.val = false → s.armed =
    true → s.on (SAF_LINK_CFG__EN g.val) = true → s.get (SAF_LINK_DIS__DIS_MODE g.val) = 1 → (s.lnk g.val).dis = 0 → s.linkBit
    g.val 7 = false → ∃ t, exec (.contactorFeedbackChange k v) s = .next t ∧ t.ctFb k.val = false ∧ ((t.lnk g.val).dis = 1 ∨
    ((t.lnk g.val).dis = 2 ∧ (t.lnk g.val).dsch = true ∧ t.linkBit g.val 4 = true)) ∧ SameMem s t ∧ SameVault s t) ∧
  (∀ (s : State) (g : Fin 4), (s.lnk g.val).pre = 2 ∨ (s.lnk g.val).pre = 3 → s.ctCmd (s.get (SAF_LINK_AX__PRE_CT g.val)) = true →
    s.ctFault (s.get (SAF_LINK_AX__PRE_CT g.val)) = false → s.ctFb (s.get (SAF_LINK_AX__PRE_CT g.val)) = true → (16 * s.get
    (SAF_LINK_AX__PRE_V g.val) : Int) ≤ s.linkCode g.val → s.armed = true → s.on (SAF_CT_CFG__EN (s.get (SAF_LINK_AX__MAIN_CT
    g.val))) = true → ¬ (s.on SAF_STATUS__STO_ACT = true ∧ s.on (SAF_CT_CFG__OPEN_STO (s.get (SAF_LINK_AX__MAIN_CT g.val))) = true)
    → s.ctFb (s.get (SAF_LINK_AX__MAIN_CT g.val)) = false → ∃ t, exec (.prechargeVoltageReached g) s = .next t ∧ (t.lnk g.val).pre
    = 4 ∧ t.ctCmd (s.get (SAF_LINK_AX__MAIN_CT g.val)) = true ∧ OnlyRegs [SAF_CT_STAT__CMD.addr] s t ∧ SameMem s t ∧ SameVault s t) ∧
  (∀ (s : State) (g : Fin 4), (s.lnk g.val).pre = 2 ∨ (s.lnk g.val).pre = 3 → s.ctCmd (s.get (SAF_LINK_AX__PRE_CT g.val)) = true →
    s.ctFault (s.get (SAF_LINK_AX__PRE_CT g.val)) = false → s.ctFb (s.get (SAF_LINK_AX__PRE_CT g.val)) = true → (16 * s.get
    (SAF_LINK_AX__PRE_V g.val) : Int) ≤ s.linkCode g.val → s.armed = true → s.on (SAF_CT_CFG__EN (s.get (SAF_LINK_AX__MAIN_CT
    g.val))) = true → ¬ (s.on SAF_STATUS__STO_ACT = true ∧ s.on (SAF_CT_CFG__OPEN_STO (s.get (SAF_LINK_AX__MAIN_CT g.val))) = true)
    → s.ctFb (s.get (SAF_LINK_AX__MAIN_CT g.val)) = true → (s.get (SAF_LINK_AX__MAIN_CT g.val)) ≠ (s.get (SAF_LINK_AX__PRE_CT
    g.val)) → ∃ t, exec (.prechargeVoltageReached g) s = .next t ∧ (t.lnk g.val).pre = 0 ∧ t.ctCmd (s.get (SAF_LINK_AX__PRE_CT
    g.val)) = false ∧ nbit (t.get SAF_CT_STAT__PRE_BUSY) g.val = false ∧ t.ctCmd (s.get (SAF_LINK_AX__MAIN_CT g.val)) = true ∧
    OnlyRegsBelow evBase [SAF_CT_STAT__CMD.addr, SAF_EVENT__EVT.addr] s t ∧ SameMem s t ∧ SameVault s t) ∧
  (∀ (s : State) (g : Fin 4), (s.lnk g.val).pre = 2 ∨ (s.lnk g.val).pre = 3 → s.ctCmd (s.get (SAF_LINK_AX__PRE_CT g.val)) = true →
    s.ctFault (s.get (SAF_LINK_AX__PRE_CT g.val)) = false → s.ctFb (s.get (SAF_LINK_AX__PRE_CT g.val)) = false ∨ ¬ (16 * s.get
    (SAF_LINK_AX__PRE_V g.val) : Int) ≤ s.linkCode g.val → ∃ t, exec (.prechargeVoltageReached g) s = .next t ∧ (t.lnk g.val).pre =
    (if s.ctFb (s.get (SAF_LINK_AX__PRE_CT g.val)) then 3 else 2) ∧ OnlyRegs [] s t ∧ SameMem s t ∧ SameVault s t) ∧
  (∀ (s : State) (g : Fin 4), (s.lnk g.val).pre ≠ 0 → s.ctCmd (s.get (SAF_LINK_AX__PRE_CT g.val)) = false ∨ s.ctFault (s.get
    (SAF_LINK_AX__PRE_CT g.val)) = true ∨ ((s.lnk g.val).pre = 4 ∧ (s.ctCmd (s.get (SAF_LINK_AX__MAIN_CT g.val)) = false ∨
    s.ctFault (s.get (SAF_LINK_AX__MAIN_CT g.val)) = true)) → ∃ t, exec (.prechargeVoltageReached g) s = .next t ∧ (t.lnk
    g.val).pre = 0 ∧ t.ctCmd (s.get (SAF_LINK_AX__PRE_CT g.val)) = false ∧ nbit (t.get SAF_CT_STAT__PRE_BUSY) g.val = false ∧
    OnlyRegs [SAF_CT_STAT__CMD.addr] s t ∧ SameMem s t ∧ SameVault s t) ∧
  (∀ (s : State) (g : Fin 4), (s.lnk g.val).pre = 4 → s.ctCmd (s.get (SAF_LINK_AX__PRE_CT g.val)) = true → s.ctFault (s.get
    (SAF_LINK_AX__PRE_CT g.val)) = false → s.ctCmd (s.get (SAF_LINK_AX__MAIN_CT g.val)) = true → s.ctFault (s.get
    (SAF_LINK_AX__MAIN_CT g.val)) = false → s.ctFb (s.get (SAF_LINK_AX__MAIN_CT g.val)) = true → ∃ t, exec
    (.prechargeVoltageReached g) s = .next t ∧ (t.lnk g.val).pre = 0 ∧ t.ctCmd (s.get (SAF_LINK_AX__PRE_CT g.val)) = false ∧ nbit
    (t.get SAF_CT_STAT__PRE_BUSY) g.val = false ∧ OnlyRegsBelow evBase [SAF_CT_STAT__CMD.addr, SAF_EVENT__EVT.addr] s t ∧ SameMem s
    t ∧ SameVault s t) ∧
  (∀ (s : State) (g : Fin 4), (s.lnk g.val).pre = 0 ∨ ((s.lnk g.val).pre = 4 ∧ s.ctCmd (s.get (SAF_LINK_AX__PRE_CT g.val)) = true ∧
    s.ctFault (s.get (SAF_LINK_AX__PRE_CT g.val)) = false ∧ s.ctCmd (s.get (SAF_LINK_AX__MAIN_CT g.val)) = true ∧ s.ctFault (s.get
    (SAF_LINK_AX__MAIN_CT g.val)) = false ∧ s.ctFb (s.get (SAF_LINK_AX__MAIN_CT g.val)) = false) → exec (.prechargeVoltageReached
    g) s = .next s) ∧
  (∀ (s : State) (g : Fin 4), (s.lnk g.val).pre = 2 ∨ (s.lnk g.val).pre = 3 → ∃ t, exec (.prechargeTimeout g) s = .next t ∧ (t.lnk
    g.val).pre = 0 ∧ t.ctCmd (s.get (SAF_LINK_AX__PRE_CT g.val)) = false ∧ nbit (t.get SAF_CT_STAT__PRE_BUSY) g.val = false ∧
    OnlyRegsBelow evBase [SAF_CT_STAT__CMD.addr, SAF_EVENT__EVT.addr] s t ∧ SameMem s t ∧ SameVault s t) ∧
  (∀ (s : State) (g : Fin 4), (s.lnk g.val).pre ≠ 2 → (s.lnk g.val).pre ≠ 3 → exec (.prechargeTimeout g) s = .next s)

/-- Self-tests, delay registers, temperature, and the keys and words of the sequencer (R355 to R358, R374, R376 to R381, R422).
A slice is recorded; a pass clears the failures of its copy, a first failure is counted, and a second in succession takes the
copy out of service; a slice of a copy out of service, of one without the other copy, or during a condition tests nothing; the
last slice of all counts a cycle. A skipped detector test counts; a failed one, of a channel that is off, takes the axis of the
leg to SAFE with cause 9; any other changes nothing. A delay register's copy that differs is repaired and counted; three that
differ take the axes that use it to SAFE with cause 10 and leave the others. A reading is shown and judged by its thresholds,
with two degrees of hysteresis; that of an island without supply or link is not taken. A word of the block waits for its
commit, or for a place in the queue; while armed it is refused with reason 7. A write of a register with bits in the vault is
queued, or held while the queue is full. The keys arm, refuse to arm, disarm, refuse to disarm and clear. -/
def Obligations.SelfTestsAndKeys : Prop :=
  (∀ (s : State) (k : Fin 32) (b : Bool) (c : Fin 2), nbit (s.get (winCopies k.val b)) c.val = true → nbit (s.get (winCopies k.val
    b)) (1 - c.val) = true → s.on (winOut k.val b) = false → ∃ t, exec (.comparatorTestSlice k b c true) s = .next t ∧ t.get
    SAF_CMPT_STAT__LAST_CH = k.val ∧ t.on SAF_CMPT_STAT__LAST_WIN = b ∧ t.get SAF_CMPT_STAT__LAST_COPY = c.val ∧ sget (fun _ => 0)
    t.cmpFails (copyUnit k.val b c.val) = 0 ∧ t.get (winCopies k.val b) = s.get (winCopies k.val b) ∧ t.get SAF_CMPT_STAT__CYCLES =
    (s.get SAF_CMPT_STAT__CYCLES + (if (copyUnit k.val b c.val) = 127 then 1 else 0)) % 65536 ∧ OnlyRegs
    [SAF_CMPT_STAT__CYCLES.addr] s t ∧ SameMem s t ∧ SameVault s t) ∧
  (∀ (s : State) (k : Fin 32) (b : Bool) (c : Fin 2), nbit (s.get (winCopies k.val b)) c.val = true → nbit (s.get (winCopies k.val
    b)) (1 - c.val) = true → s.on (winOut k.val b) = false → sget (fun _ => 0) s.cmpFails (copyUnit k.val b c.val) = 0 → ∃ t, exec
    (.comparatorTestSlice k b c false) s = .next t ∧ t.get SAF_CMPT_STAT__LAST_CH = k.val ∧ t.on SAF_CMPT_STAT__LAST_WIN = b ∧
    t.get SAF_CMPT_STAT__LAST_COPY = c.val ∧ sget (fun _ => 0) t.cmpFails (copyUnit k.val b c.val) = 1 ∧ t.get (winCopies k.val b)
    = s.get (winCopies k.val b) ∧ t.get SAF_CMPT_STAT__CYCLES = (s.get SAF_CMPT_STAT__CYCLES + (if (copyUnit k.val b c.val) = 127
    then 1 else 0)) % 65536 ∧ OnlyRegs [SAF_CMPT_STAT__CYCLES.addr] s t ∧ SameMem s t ∧ SameVault s t) ∧
  (∀ (s : State) (k : Fin 32) (b : Bool) (c : Fin 2), nbit (s.get (winCopies k.val b)) c.val = true → nbit (s.get (winCopies k.val
    b)) (1 - c.val) = true → s.on (winOut k.val b) = false → 1 ≤ sget (fun _ => 0) s.cmpFails (copyUnit k.val b c.val) → ∃ t, exec
    (.comparatorTestSlice k b c false) s = .next t ∧ t.get SAF_CMPT_STAT__LAST_CH = k.val ∧ t.on SAF_CMPT_STAT__LAST_WIN = b ∧
    t.get SAF_CMPT_STAT__LAST_COPY = c.val ∧ nbit (t.get (winCopies k.val b)) c.val = false ∧ nbit (t.get (winCopies k.val b)) (1 -
    c.val) = true ∧ t.get SAF_COUNTS__CMP_FAIL = min 255 (s.get SAF_COUNTS__CMP_FAIL + 1) ∧ t.get SAF_CMPT_STAT__CYCLES = (s.get
    SAF_CMPT_STAT__CYCLES + (if (copyUnit k.val b c.val) = 127 then 1 else 0)) % 65536 ∧ (∀ x : Fin 8, t.on RED_STATUS__DSAFE =
    s.on RED_STATUS__DSAFE → t.axState x.val = s.axState x.val) ∧ OnlyRegsBelow 0x10000 [] s t ∧ SameMem s t ∧ SameVault s t) ∧
  (∀ (s : State) (k : Fin 32) (b : Bool) (c : Fin 2) (p : Bool), nbit (s.get (winCopies k.val b)) c.val = false ∨ nbit (s.get
    (winCopies k.val b)) (1 - c.val) = false ∨ s.on (winOut k.val b) = true → ∃ t, exec (.comparatorTestSlice k b c p) s = .next t
    ∧ t.cmpFails = s.cmpFails ∧ t.get (winCopies k.val b) = s.get (winCopies k.val b) ∧ t.get SAF_CMPT_STAT__LAST_CH = s.get
    SAF_CMPT_STAT__LAST_CH ∧ t.get SAF_CMPT_STAT__CYCLES = (s.get SAF_CMPT_STAT__CYCLES + (if (copyUnit k.val b c.val) = 127 then 1
    else 0)) % 65536 ∧ OnlyRegs [SAF_CMPT_STAT__CYCLES.addr] s t ∧ SameMem s t ∧ SameVault s t) ∧
  (∀ (s : State) (i : Fin 8) (c : Fin 6) (b : Bool), s.on SAF_CMPT_CFG__DIDT_EN = true → ∃ t, exec (.didtTest i c b true) s = .next
    t ∧ t.get SAF_CMPT_STAT__SKIPPED = min 255 (s.get SAF_CMPT_STAT__SKIPPED + 1) ∧ OnlyRegs [SAF_CMPT_STAT__CYCLES.addr] s t ∧
    SameMem s t ∧ SameVault s t) ∧
  (∀ (s : State) (i : Fin 8) (c : Fin 6) (x : Fin 8), s.on SAF_CMPT_CFG__DIDT_EN = true → s.ch i.val c.val = 0 → s.legAxis (3 *
    i.val + c.val / 2) = some x.val → ∃ t, exec (.didtTest i c false false) s = .next t ∧ (s.axLive x.val = true ∨ s.axState x.val
    = 1 ∨ (s.axState x.val = 0 ∧ s.armed = true ∧ s.sys.released = true) → t.axState x.val = 5 ∧ (t.on RED_STATUS__DSAFE = s.on
    RED_STATUS__DSAFE → t.get (AX_STATE__SAFE_CAUSE x.val) = 9) ∧ (t.ax x.val).latched.contains 9 = true) ∧ (s.axState x.val = 6 →
    t.axState x.val = 6) ∧ (s.axState x.val = 0 → s.armed = false ∨ s.sys.released = false → t.axState x.val = 0) ∧ OnlyRegsBelow
    0x2000 [] s t ∧ SameMem s t ∧ SameVault s t) ∧
  (∀ (s : State) (i : Fin 8) (c : Fin 6), s.on SAF_CMPT_CFG__DIDT_EN = true → s.ch i.val c.val = 0 → s.legAxis (3 * i.val + c.val /
    2) = none → ∃ t, exec (.didtTest i c false false) s = .next t ∧ OnlyRegsBelow evBase [SAF_EVENT__EVT.addr] s t ∧ SameMem s t ∧
    SameVault s t) ∧
  (∀ (s : State) (i : Fin 8) (c : Fin 6) (b d : Bool), s.on SAF_CMPT_CFG__DIDT_EN = false ∨ (d = false ∧ (b = true ∨ s.ch i.val
    c.val ≠ 0)) → exec (.didtTest i c b d) s = .next s) ∧
  (∀ (s : State) (k : Fin 3) (u : Fin 32) (f c : Fin 3), delayField k.val u.val f.val = true → ∃ t, exec (.delayScrub k u f (some
    c)) s = .next t ∧ t.get SAF_COUNTS__VOTE_FIX = min 65535 (s.get SAF_COUNTS__VOTE_FIX + 1) ∧ t.voteFail = s.voteFail ∧
    OnlyRegsBelow evBase [SAF_COUNTS__VOTE_FIX.addr, SAF_EVENT__EVT.addr] s t ∧ SameMem s t ∧ SameVault s t) ∧
  (∀ (s : State) (k : Fin 3) (u : Fin 32) (f : Fin 3) (x : Fin 8), delayField k.val u.val f.val = true →
    (s.delayAxes k.val u.val).contains x.val = true → ∃ t, exec
    (.delayScrub k u f none) s = .next t ∧ sget (fun _ => false) t.voteFail (96 * k.val + 3 * u.val + f.val) = true ∧ t.get
    SAF_COUNTS__VOTE_FAIL = min 255 (s.get SAF_COUNTS__VOTE_FAIL + 1) ∧ (t.on RED_STATUS__DSAFE = s.on RED_STATUS__DSAFE →
    (s.axLive x.val = true ∨ s.axState x.val = 1 ∨ (s.axState x.val = 0 ∧ s.armed = true ∧ s.sys.released = true) → t.axState x.val
    = 5 ∧ (t.on RED_STATUS__DSAFE = s.on RED_STATUS__DSAFE → t.get (AX_STATE__SAFE_CAUSE x.val) = 10) ∧ (t.ax
    x.val).latched.contains 10 = true)) ∧ (s.axState x.val = 6 → t.axState x.val = 6) ∧ (s.axState x.val = 0 → s.armed = false ∨
    s.sys.released = false → t.axState x.val = 0) ∧ OnlyRegsBelow 0x2000 [] s t ∧ SameMem s t ∧ SameVault s t) ∧
  (∀ (s : State) (k : Fin 3) (u : Fin 32) (f : Fin 3) (x : Fin 8), delayField k.val u.val f.val = true →
    (s.delayAxes k.val u.val).contains x.val = false → ∃ t, exec
    (.delayScrub k u f none) s = .next t ∧ sget (fun _ => false) t.voteFail (96 * k.val + 3 * u.val + f.val) = true ∧ (t.on
    RED_STATUS__DSAFE = s.on RED_STATUS__DSAFE → t.axState x.val = s.axState x.val) ∧ OnlyRegsBelow 0x2000 [] s t ∧ SameMem s t ∧
    SameVault s t) ∧
  (∀ (s : State) (d : BitVec 12), ∃ t, exec (.tempUpdate 0 d) s = .next t ∧ t.get DEV_TEMP_CTL__TEMP = d.toNat ∧ t.on
    DEV_TEMP_CTL__VALID = true ∧ nbit (t.get SAF_TEMP_STAT__WARN) 0 = (if ((s.get SAF_TEMP_CFG__CTL_WARN * 8 : Nat) : Int) ≤
    d.toInt then true else if d.toInt ≤ ((s.get SAF_TEMP_CFG__CTL_WARN * 8 : Nat) : Int) - 16 then false else nbit (s.get
    SAF_TEMP_STAT__WARN) 0) ∧ nbit (t.get SAF_TEMP_STAT__ALARM) 0 = (if ((s.get SAF_TEMP_CFG__CTL_ALARM * 8 : Nat) : Int) ≤ d.toInt
    then true else if d.toInt ≤ ((s.get SAF_TEMP_CFG__CTL_ALARM * 8 : Nat) : Int) - 16 then false else nbit (s.get
    SAF_TEMP_STAT__ALARM) 0) ∧ OnlyRegsBelow 0x2000 [DEV_TEMP_CTL__TEMP.addr] s t ∧ SameMem s t ∧ SameVault s t) ∧
  (∀ (s : State) (i : Fin 8) (d : BitVec 12), s.on (GI_STATUS__LINK_UP i.val) = true → nbit (s.isl i.val).sup 0 = true → (s.isl
    i.val).lost = false → ∃ t, exec (.tempUpdate i.succ d) s = .next t ∧ t.get (DEV_TEMP_GI__TEMP i.val) = d.toNat ∧ t.on
    (DEV_TEMP_GI__VALID i.val) = true ∧ nbit (t.get SAF_TEMP_STAT__WARN) (i.val + 1) = (if ((s.get SAF_TEMP_CFG__GI_WARN * 8 :
    Nat) : Int) ≤ d.toInt then true else if d.toInt ≤ ((s.get SAF_TEMP_CFG__GI_WARN * 8 : Nat) : Int) - 16 then false else nbit
    (s.get SAF_TEMP_STAT__WARN) (i.val + 1)) ∧ nbit (t.get SAF_TEMP_STAT__ALARM) (i.val + 1) = (if ((s.get SAF_TEMP_CFG__GI_ALARM
    * 8 : Nat) : Int) ≤ d.toInt then true else if d.toInt ≤ ((s.get SAF_TEMP_CFG__GI_ALARM * 8 : Nat) : Int) - 16 then false else
    nbit (s.get SAF_TEMP_STAT__ALARM) (i.val + 1)) ∧ OnlyRegsBelow 0x2000 [(DEV_TEMP_GI__TEMP i.val).addr] s t ∧ SameMem s t ∧
    SameVault s t) ∧
  (∀ (s : State) (i : Fin 8) (d : BitVec 12), s.on (GI_STATUS__LINK_UP i.val) = false ∨ nbit (s.isl i.val).sup 0 = false → exec
    (.tempUpdate i.succ d) s = .next s) ∧
  (∀ (s : State) (w : Writer) (k : Fin 76) (v : Word) (n : Nat), s.may w (0x48400 + 4 * k.val) v = true → s.vqFull = false →
    vaultWord (0x48400 + 4 * k.val) = some n → ∃ t, exec (.spbWrite w k v) s = .next t ∧ t.vq = s.vq ++
    [{ word := n, value := (v &&& pvMask (0x48400 + 4 * k.val)) }] ∧ OnlyRegs [PWR_WAKE_CAUSE, VLT_STATUS__QUEUE.addr] s t ∧
    SameMem s t ∧ SameVault s t) ∧
  (∀ (s : State) (w : Writer) (k : Fin 76) (v : Word), s.may w (0x48400 + 4 * k.val) v = true → s.vqFull = true → pvMask (0x48400 +
    4 * k.val) ≠ 0 → ∃ t, exec (.spbWrite w k v) s = .next t ∧ t.vheld = s.vheld ++ [(w, (0x48400 + 4 * k.val), v)] ∧ t.vq = s.vq ∧
    OnlyRegs [PWR_WAKE_CAUSE] s t ∧ SameMem s t ∧ SameVault s t) ∧
  (∀ (s : State) (p : Fin 4) (k : Fin 76) (v : Word), s.portTakes p.val = true → (s.port p.val).mse = true → s.accessWaits false
    (0x48400 + 4 * k.val) = false → s.writeReason (.host p) false (0x48400 + 4 * k.val) = 0 → s.armed = true → pvMask (0x48400 + 4
    * k.val) ≠ 0 → s.on (HP_DENY_INFO__VALID p.val) = false → ∃ t, exec (.spbWrite (.host p) k v) s = .next t ∧ t.on
    (HP_DENY_INFO__VALID p.val) = true ∧ t.get (HP_DENY_INFO__REASON p.val) = 7 ∧ t.rd (0x48400 + 4 * k.val) = s.rd (0x48400 + 4 *
    k.val) ∧ t.vq = s.vq ∧ SameMem s t ∧ SameVault s t) ∧
  (∀ (s : State) (w : Writer) (a : BitVec 20) (v : Word) (n : Nat), s.may w a.toNat v = true → s.vqFull = false → vaultWord
    a.toNat = some n → 204 ≤ n → ∃ t, exec (.vaultWriteQueued w a v) s = .next t ∧ t.vq = s.vq ++
    [{ word := n, value := (v &&& pvMask a.toNat) }] ∧ SameMem s t ∧ SameVault s t) ∧
  (∀ (s : State) (w : Writer) (a : BitVec 20) (v : Word), s.may w a.toNat v = true → s.vqFull = true → pvMask a.toNat ≠ 0 →
    vaultWord a.toNat ≠ some 152 → ∃ t, exec (.vaultWriteQueued w a v) s = .next t ∧ t.vheld = s.vheld ++ [(w, a.toNat, v)] ∧ t.vq
    = s.vq ∧ OnlyRegs [PWR_WAKE_CAUSE] s t ∧ SameMem s t ∧ SameVault s t) ∧
  (∀ (s : State) (w : Writer) (a : BitVec 20) (v : Word), pvMask a.toNat = 0 → exec (.vaultWriteQueued w a v) s = .next s) ∧
  (∀ (s : State) (w : Writer), s.may w SAF_ARM 0x5341 = true → s.armed = false → s.armRefuse = 0 → s.vqFull = false ∨ (∀ g : Fin 4,
    s.on (SAF_LINK_CFG__EN g.val) = false) → ∃ t, exec (.safArm w) s = .next
    t ∧ t.armed = true ∧ t.get SAF_STATUS__ARM_REFUSE = 0 ∧ OnlyRegsBelow 0x2000 [PWR_WAKE_CAUSE] s t ∧ SameMem s t ∧ SameVault s t) ∧
  (∀ (s : State) (w : Writer), s.may w SAF_ARM 0x5341 = true → s.armed = false → s.armRefuse ≠ 0 → ∃ t, exec (.safArm w) s = .next
    t ∧ t.armed = false ∧ t.get SAF_STATUS__ARM_REFUSE = s.armRefuse ∧ OnlyRegsBelow evBase ([PWR_WAKE_CAUSE,
    HP_EVENT__DENIED.addr] ++ (List.range 4).map HP_DENY_INFO ++ (List.range 4).map HP_DENY_ADDR ++ [SAF_STATUS,
    SAF_EVENT__EVT.addr]) s t ∧ SameMem s t ∧ SameVault s t) ∧
  (∀ (s : State) (p : Fin 4), s.may (.host p) SAF_ARM 0x5341 = true → s.armed = false → s.armRefuse ≠ 0 → s.on (HP_DENY_INFO__VALID
    p.val) = false → ∃ t, exec (.safArm (.host p)) s = .next t ∧ t.on (HP_DENY_INFO__VALID p.val) = true ∧ t.get
    (HP_DENY_INFO__REASON p.val) = 7 ∧ t.rd (HP_DENY_ADDR p.val) = BitVec.ofNat 32 SAF_ARM) ∧
  (∀ (s : State) (w : Writer), s.may w SAF_ARM 0x5341 = true → s.armed = true → ∃ t, exec (.safArm w) s = .next t ∧ OnlyRegs
    [PWR_WAKE_CAUSE] s t ∧ SameMem s t ∧ SameVault s t) ∧
  (∀ (s : State) (w : Writer), s.may w SAF_ARM 0x4453 = true → s.armed = true → (∀ x : Fin 8, s.axState x.val = 0) → s.get
    SAF_CT_STAT__CMD = 0 → (∀ g : Fin 4, (s.lnk g.val).dis ≠ 2) → ∃ t, exec (.safDisarm w) s = .next t ∧ t.armed = false ∧ t.get
    SAF_STATUS__ARM_REFUSE = 0 ∧ (∀ g : Fin 4, (t.lnk g.val).dis = 0 ∧ (t.lnk g.val).pre = 0 ∧ t.linkBit g.val 0 = false ∧
    t.linkBit g.val 1 = false ∧ t.linkBit g.val 3 = false) ∧ (∀ x : Fin 8, t.axState x.val = 0 ∧ t.on (SAF_AX_STAT__SS1 x.val) =
    false) ∧ SameMem s t ∧ SameVault s t) ∧
  (∀ (s : State) (w : Writer), s.may w SAF_ARM 0x4453 = true → s.armed = true → (∃ x : Fin 8, s.axState x.val ≠ 0) ∨ s.get
    SAF_CT_STAT__CMD ≠ 0 ∨ (∃ g : Fin 4, (s.lnk g.val).dis = 2) → ∃ t, exec (.safDisarm w) s = .next t ∧ t.armed = true ∧ t.get
    SAF_STATUS__ARM_REFUSE = 4 ∧ OnlyRegsBelow evBase ([PWR_WAKE_CAUSE, HP_EVENT__DENIED.addr] ++ (List.range 4).map HP_DENY_INFO
    ++ (List.range 4).map HP_DENY_ADDR ++ [SAF_STATUS, SAF_EVENT__EVT.addr]) s t ∧ SameMem s t ∧ SameVault s t) ∧
  (∀ (s : State) (p : Fin 4), s.may (.host p) SAF_ARM 0x4453 = true → s.armed = true → (∃ x : Fin 8, s.axState x.val ≠ 0) ∨ s.get
    SAF_CT_STAT__CMD ≠ 0 ∨ (∃ g : Fin 4, (s.lnk g.val).dis = 2) → s.on (HP_DENY_INFO__VALID p.val) = false → ∃ t, exec (.safDisarm
    (.host p)) s = .next t ∧ t.on (HP_DENY_INFO__VALID p.val) = true ∧ t.get (HP_DENY_INFO__REASON p.val) = 7 ∧ t.rd (HP_DENY_ADDR
    p.val) = BitVec.ofNat 32 SAF_ARM) ∧
  (∀ (s : State) (w : Writer), s.may w SAF_ARM 0x4453 = true → s.armed = false → ∃ t, exec (.safDisarm w) s = .next t ∧ OnlyRegs
    [PWR_WAKE_CAUSE] s t ∧ SameMem s t ∧ SameVault s t) ∧
  (∀ (s : State) (w : Writer), s.may w SAF_CLEAR 0x434C = true → ∃ t, exec (.safClear w) s = .next t ∧ t.on SAF_STATUS__STO_DISC =
    (s.on SAF_STATUS__STO_DISC && !(s.on SAF_STATUS__STO_A && s.on SAF_STATUS__STO_B)) ∧ (∀ k : Fin 8, t.ctFault k.val = (s.ctFault
    k.val && s.ctFb k.val != s.ctCmd k.val)) ∧ (∀ g : Fin 4, t.linkBit g.val 2 = (s.linkBit g.val 2 && !decide (s.get
    (LEG_CHOP_CNT__CONSEC (s.get (SAF_LINK_CFG__CHOP_LEG g.val))) < max 1 (s.get (SAF_LINK_CFG__CHOP_N g.val)))) ∧ t.linkBit g.val
    3 = s.linkBit g.val 3) ∧ (∀ x : Fin 8, t.axState x.val = s.axState x.val) ∧ t.armed = s.armed ∧ OnlyRegsBelow evBase
    ([PWR_WAKE_CAUSE, SAF_STATUS, SAF_LINK_STAT, SAF_CT_STAT__CMD.addr, SAF_EVENT__EVT.addr] ++ (List.range 8).map AX_STATE ++
    (List.range 8).map SAF_AX_STAT) s t ∧ SameMem s t ∧ SameVault s t) ∧
  (∀ (s : State) (k : Fin 3) (u : Fin 32) (f : Fin 3) (c : Option (Fin 3)), delayField k.val u.val f.val = false →
    exec (.delayScrub k u f c) s = .next s)

/-- The core pairs (R386 to R401, R405, R477, R478). A mismatch of a pair that executes or restarts discards what it holds: the
first holds the copies and begins the restart; one with the restart still open, or within the escalation window after one, or
of a pair displaced three times decides a takeover of its slot, and the device goes to device-SAFE where no reserve is left. An
equal window lets the held writes go, and the first full one ends the restart. The recovery test leads to the restoration, or
makes the pair unusable; the restoration takes the newest checkpoint, the other where the newest is not good, and ends in
device-SAFE where neither is; a pair without a slot is the reserve again. At a takeover the reserve takes the displaced pair's
slot and its checkpoint in the same way. A checkpoint is written beside the newest; a yield gives the slot to the reserve where
there is one; in an open commit group both are held with it; a group opens, and closes into the release buffer. The debugger
halts a pair that serves, whose axes go to SAFE, or one in a restart or takeover when that ends; a resumption with equal copies
goes on, and one with unequal copies restarts; each abstract command is logged and does its effect, until the log is full. -/
def Obligations.CorePairs : Prop :=
  (∀ (s : State) (n : Fin 5), s.pairRuns n.val = true → s.fl = [] → s.on RED_STATUS__DSAFE = false → s.restartOpen n.val = false →
    ¬ (∃ e, (s.cp n.val).lastEnd = some e ∧ s.time ≤ e + max 1 (s.get RED_CFG__ESC_WINDOW) * 200000) → s.get
    (RED_CP_COUNTS__DISPLACED n.val) < 3 → ∃ t, exec (.windowMismatch n) s = .next t ∧ t.cpState n.val = 4 ∧ (t.cp n.val).rs = 1 ∧
    (t.cp n.val).buf = [] ∧ (t.cp n.val).grp = [] ∧ t.fl.length = 1 ∧ t.get (RED_CP_COUNTS__MISMATCH n.val) = min 65535 (s.get
    (RED_CP_COUNTS__MISMATCH n.val) + 1) ∧ OnlyRegsBelow evBase [(RED_CP_STAT__STATE n.val).addr, (RED_CP_COUNTS__MISMATCH
    n.val).addr, RED_EVENT__EVT.addr, RED_FL_HEAD] s t ∧ SameMem s t ∧ SameVault s t) ∧
  (∀ (s : State) (n : Fin 5) (w : Fin 4), (s.pairRuns n.val = true ∨ (s.cpState n.val = 4 ∧ s.sys.released = true ∧
    s.sys.pairsReset = false ∧ s.takeDue w.val = false)) → s.slotOf n.val = some w.val → s.fl = [] → s.on RED_STATUS__DSAFE = false
    → s.restartOpen n.val = true ∨ (∃ e, (s.cp n.val).lastEnd = some e ∧ s.time ≤ e + max 1 (s.get RED_CFG__ESC_WINDOW) * 200000) ∨
    3 ≤ s.get (RED_CP_COUNTS__DISPLACED n.val) → s.get (slotPair 4) ≠ 7 → s.red.takes = [] → s.get (RED_CP_COUNTS__DISPLACED n.val)
    < 3 → ∃ t, exec (.windowMismatch n) s = .next t ∧ t.takeDue w.val = true ∧ t.cpState n.val = s.cpState n.val ∧ (t.cp n.val).rs
    = 0 ∧ (t.cp n.val).first = false ∧ (t.cp n.val).buf = [] ∧ (t.cp n.val).grp = [] ∧ t.get (RED_CP_COUNTS__MISMATCH n.val) = min
    65535 (s.get (RED_CP_COUNTS__MISMATCH n.val) + 1) ∧ OnlyRegsBelow evBase [(RED_CP_STAT__STATE n.val).addr,
    (RED_CP_COUNTS__MISMATCH n.val).addr, RED_EVENT__EVT.addr, RED_FL_HEAD] s t ∧ SameMem s t ∧ SameVault s t) ∧
  (∀ (s : State) (n : Fin 5) (w : Fin 4), (s.pairRuns n.val = true ∨ (s.cpState n.val = 4 ∧ s.sys.released = true ∧
    s.sys.pairsReset = false ∧ s.takeDue w.val = false)) → s.slotOf n.val = some w.val → s.fl = [] → s.on RED_STATUS__DSAFE = false
    → s.get (slotPair 4) ≠ 7 → s.red.takes = [] → s.get (slotPair 4) ≠ n.val → 3 ≤ s.get (RED_CP_COUNTS__DISPLACED n.val) → ∃ t,
    exec (.windowMismatch n) s = .next t ∧ t.takeDue w.val = true ∧ t.cpState n.val = 6 ∧ nbit (t.get RED_STATUS__USABLE) n.val =
    false ∧ (t.cp n.val).buf = [] ∧ (t.cp n.val).grp = [] ∧ t.get (RED_CP_COUNTS__MISMATCH n.val) = min 65535 (s.get
    (RED_CP_COUNTS__MISMATCH n.val) + 1) ∧ SameMem s t ∧ SameVault s t) ∧
  (∀ (s : State) (n : Fin 5) (w : Fin 4), (s.pairRuns n.val = true ∨ (s.cpState n.val = 4 ∧ s.sys.released = true ∧
    s.sys.pairsReset = false ∧ s.takeDue w.val = false)) → s.slotOf n.val = some w.val → s.fl = [] → s.on RED_STATUS__DSAFE = false
    → s.restartOpen n.val = true ∨ (∃ e, (s.cp n.val).lastEnd = some e ∧ s.time ≤ e + max 1 (s.get RED_CFG__ESC_WINDOW) * 200000) ∨
    3 ≤ s.get (RED_CP_COUNTS__DISPLACED n.val) → (s.svcUnit 2).map (·.1) ≠ some 1 → s.get (RED_CP_COUNTS__DISPLACED n.val) < 3 →
    s.get (slotPair 4) = 7 → ∃ t, exec (.windowMismatch n) s = .next t ∧ t.on RED_STATUS__DSAFE = true ∧ t.takeDue w.val =
    s.takeDue w.val ∧ t.get (RED_CP_COUNTS__MISMATCH n.val) = min 65535 (s.get (RED_CP_COUNTS__MISMATCH n.val) + 1) ∧ SameMem s t ∧
    SameVault s t) ∧
  (∀ (s : State) (n : Fin 5), s.slotOf n.val = none ∨ (s.pairRuns n.val = false ∧ (s.cpState n.val ≠ 4 ∨ s.sys.released = false ∨
    s.sys.pairsReset = true)) → exec (.windowMismatch n) s = .next s) ∧
  (∀ (s : State) (n : Fin 5) (a : Fin 8) (v : Word), s.pairRuns n.val = true → (s.cp n.val).first = false → (s.cp n.val).buf =
    [.reg (AX_SETPOINT a.val) v] → s.may (.firmware n) (AX_SETPOINT a.val) v = true → ∃ t, exec (.windowCompareEqual n) s = .next t ∧
    t.rd (AX_SETPOINT a.val) = v ∧ (t.cp n.val).buf = [] ∧ OnlyRegs [AX_SETPOINT a.val] s t ∧ SameMem s t ∧ SameVault s t) ∧
  (∀ (s : State) (n : Fin 5), s.pairRuns n.val = true → (s.cp n.val).first = true → (s.cp n.val).buf = [] → s.fl = [] → ∃ t, exec
    (.windowCompareEqual n) s = .next t ∧ (t.cp n.val).first = false ∧ (t.cp n.val).lastEnd = (if (s.cp n.val).heirOf = n.val then
    some s.time else (s.cp n.val).lastEnd) ∧ OnlyRegs [RED_FL_HEAD] s t ∧ SameMem s t ∧ SameVault s t) ∧
  (∀ (s : State) (n : Fin 5), s.pairRuns n.val = true → (s.cp n.val).buf = [] → (s.cp n.val).first = false → ∃ t, exec
    (.windowCompareEqual n) s = .next t ∧ (t.cp n.val).buf = [] ∧ OnlyRegs [] s t ∧ SameMem s t ∧ SameVault s t) ∧
  (∀ (s : State) (n : Fin 5), s.pairRuns n.val = false → s.cpState n.val ≠ 1 ∨ (s.cp n.val).first = false → exec
    (.windowCompareEqual n) s = .next s) ∧
  (∀ (s : State) (n : Fin 5), s.cpState n.val = 4 → (s.cp n.val).rs = 1 → s.sys.pairsReset = false → ∃ t, exec (.recoveryTestDone
    n true) s = .next t ∧ (t.cp n.val).rs = 2 ∧ t.cpState n.val = 4 ∧ (t.cp n.val).regs = [] ∧ (t.cp n.val).csr = {} ∧ (t.cp
    n.val).cache = none ∧ OnlyRegs [] s t ∧ SameMem s t ∧ SameVault s t) ∧
  (∀ (s : State) (n : Fin 5) (w : Fin 4), s.cpState n.val = 4 → (s.cp n.val).rs = 1 → s.sys.pairsReset = false → s.slotOf n.val =
    some w.val → s.fl = [] → s.on RED_STATUS__DSAFE = false → s.get (slotPair 4) ≠ 7 → s.red.takes = [] → s.get (slotPair 4) ≠
    n.val → ∃ t, exec (.recoveryTestDone n false) s = .next t ∧ t.cpState n.val = 6 ∧ t.takeDue w.val = true ∧ nbit (t.get
    RED_STATUS__USABLE) n.val = false ∧ SameMem s t ∧ SameVault s t) ∧
  (∀ (s : State) (n : Fin 5) (w : Fin 4), s.cpState n.val = 4 → (s.cp n.val).rs = 1 → s.sys.pairsReset = false → s.slotOf n.val =
    some w.val → s.fl = [] → s.on RED_STATUS__DSAFE = false → (s.svcUnit 2).map (·.1) ≠ some 1 → (∀ z : Fin 5, s.cpState z.val ≠ 1)
    → s.get (slotPair 4) = 7 → ∃ t, exec (.recoveryTestDone n false) s = .next t ∧ t.cpState n.val = 6 ∧ t.on RED_STATUS__DSAFE =
    true ∧ SameMem s t ∧ SameVault s t) ∧
  (∀ (s : State) (n : Fin 5), s.cpState n.val = 4 → (s.cp n.val).rs = 1 → s.sys.pairsReset = false → s.slotOf n.val = none → s.fl =
    [] → s.red.takes = [] → ∃ t, exec (.recoveryTestDone n false) s = .next t ∧ t.cpState n.val = 6 ∧ nbit (t.get
    RED_STATUS__USABLE) n.val = false ∧ t.red.takes = [] ∧ SameMem s t ∧ SameVault s t) ∧
  (∀ (s : State) (n : Fin 5) (b : Bool), s.cpState n.val ≠ 4 ∨ (s.cp n.val).rs ≠ 1 ∨ s.sys.pairsReset = true → exec
    (.recoveryTestDone n b) s = .next s) ∧
  (∀ (s : State) (n : Fin 5) (w : Fin 4) (b o : Bool), s.cpState n.val = 4 → (s.cp n.val).rs = 2 → s.sys.pairsReset = false →
    s.slotOf n.val = some w.val → (s.cp n.val).haltReq = false → s.red.unus = [] → s.on (if s.get (RED_WS_CKPT__NEWEST w.val) = 0
    then RED_WS_CKPT__GOOD_A w.val else RED_WS_CKPT__GOOD_B w.val) = true → b = true → s.ckptOk w.val (s.get (RED_WS_CKPT__NEWEST
    w.val)) = true → ∃ t, exec (.pairRestart n b o) s = .next t ∧ t.cpState n.val = 0 ∧ (t.cp n.val).rs = 0 ∧ (t.cp n.val).first =
    true ∧ (t.cp n.val).heirOf = n.val ∧ (t.cp n.val).buf = [] ∧ t.get (RED_CP_COUNTS__RESTART n.val) = min 255 (s.get
    (RED_CP_COUNTS__RESTART n.val) + 1) ∧ (t.cp n.val).regs = (sget (fun _ => []) s.escrow (2 * w.val + s.get (RED_WS_CKPT__NEWEST
    w.val))).take coreWords ∧ (t.cp n.val).cache = none ∧ (t.cp n.val).csr = ckptCsr (sget (fun _ => []) s.escrow (2 * w.val +
    s.get (RED_WS_CKPT__NEWEST w.val))) ∧ t.sram = (ckptApply w.val (s.get (RED_WS_CKPT__NEWEST w.val)) n.val s).sram ∧
    OnlyRegsBelow evBase [(RED_CP_STAT__STATE n.val).addr, (RED_CP_COUNTS__MISMATCH n.val).addr, RED_EVENT__EVT.addr] s t ∧
    SameVault s t) ∧
  (∀ (s : State) (n : Fin 5) (w : Fin 4) (b o : Bool), s.cpState n.val = 4 → (s.cp n.val).rs = 2 → s.sys.pairsReset = false →
    s.slotOf n.val = some w.val → (s.cp n.val).haltReq = false → s.fl = [] → s.red.unus = [] → s.on (if s.get (RED_WS_CKPT__NEWEST
    w.val) = 0 then RED_WS_CKPT__GOOD_A w.val else RED_WS_CKPT__GOOD_B w.val) = false ∨ b = false ∨ s.ckptOk w.val (s.get
    (RED_WS_CKPT__NEWEST w.val)) = false → s.on (if s.get (RED_WS_CKPT__NEWEST w.val) = 0 then RED_WS_CKPT__GOOD_B w.val else
    RED_WS_CKPT__GOOD_A w.val) = true → o = true → s.ckptOk w.val (1 - s.get (RED_WS_CKPT__NEWEST w.val)) = true → ∃ t, exec
    (.pairRestart n b o) s = .next t ∧ t.cpState n.val = 0 ∧ (t.cp n.val).rs = 0 ∧ (t.cp n.val).first = true ∧ (t.cp n.val).heirOf
    = n.val ∧ (t.cp n.val).buf = [] ∧ t.get (RED_CP_COUNTS__RESTART n.val) = min 255 (s.get (RED_CP_COUNTS__RESTART n.val) + 1) ∧
    t.get (RED_WS_CKPT__NEWEST w.val) = 1 - s.get (RED_WS_CKPT__NEWEST w.val) ∧ t.on (if s.get (RED_WS_CKPT__NEWEST w.val) = 0
    then RED_WS_CKPT__GOOD_A w.val else RED_WS_CKPT__GOOD_B w.val) = false ∧ (t.cp n.val).regs = (sget (fun _ => []) s.escrow (2 *
    w.val + (1 - s.get (RED_WS_CKPT__NEWEST w.val)))).take coreWords ∧ (t.cp n.val).cache = none ∧ (t.cp n.val).csr = ckptCsr
    (sget (fun _ => []) s.escrow (2 * w.val + (1 - s.get (RED_WS_CKPT__NEWEST w.val)))) ∧ t.sram = (ckptApply w.val (1 - s.get
    (RED_WS_CKPT__NEWEST w.val)) n.val s).sram ∧ SameVault s t) ∧
  (∀ (s : State) (n : Fin 5) (w : Fin 4) (b o : Bool), s.cpState n.val = 4 → (s.cp n.val).rs = 2 → s.sys.pairsReset = false →
    s.slotOf n.val = some w.val → s.on RED_STATUS__DSAFE = false → s.on (if s.get (RED_WS_CKPT__NEWEST w.val) = 0 then
    RED_WS_CKPT__GOOD_A w.val else RED_WS_CKPT__GOOD_B w.val) = false ∨ b = false ∨ s.ckptOk w.val (s.get (RED_WS_CKPT__NEWEST
    w.val)) = false → s.on (if s.get (RED_WS_CKPT__NEWEST w.val) = 0 then RED_WS_CKPT__GOOD_B w.val else RED_WS_CKPT__GOOD_A
    w.val) = false ∨ o = false ∨ s.ckptOk w.val (1 - s.get (RED_WS_CKPT__NEWEST w.val)) = false → ∃ t, exec (.pairRestart n b o) s
    = .next t ∧ t.on RED_STATUS__DSAFE = true ∧ t.cpState n.val = 4 ∧ t.on (if s.get (RED_WS_CKPT__NEWEST w.val) = 0 then
    RED_WS_CKPT__GOOD_A w.val else RED_WS_CKPT__GOOD_B w.val) = false ∧ t.on (if s.get (RED_WS_CKPT__NEWEST w.val) = 0 then
    RED_WS_CKPT__GOOD_B w.val else RED_WS_CKPT__GOOD_A w.val) = false ∧ SameMem s t ∧ SameVault s t) ∧
  (∀ (s : State) (n : Fin 5) (b o : Bool), s.cpState n.val = 4 → (s.cp n.val).rs = 2 → s.sys.pairsReset = false → s.slotOf n.val =
    none → (s.cp n.val).haltReq = false → ∃ t, exec (.pairRestart n b o) s = .next t ∧ t.cpState n.val = 1 ∧ (t.cp n.val).rs = 0 ∧
    (t.cp n.val).first = true ∧ t.get (RED_CP_COUNTS__RESTART n.val) = min 255 (s.get (RED_CP_COUNTS__RESTART n.val) + 1) ∧ SameMem
    s t ∧ SameVault s t) ∧
  (∀ (s : State) (n : Fin 5) (w : Fin 4) (b o : Bool), s.cpState n.val = 4 → (s.cp n.val).rs = 2 → s.sys.pairsReset = false →
    s.slotOf n.val = some w.val → (s.cp n.val).haltReq = true → s.red.unus = [] → s.on (if s.get (RED_WS_CKPT__NEWEST w.val) = 0
    then RED_WS_CKPT__GOOD_A w.val else RED_WS_CKPT__GOOD_B w.val) = true → b = true → s.ckptOk w.val (s.get (RED_WS_CKPT__NEWEST
    w.val)) = true → ∃ t, exec (.pairRestart n b o) s = .next t ∧ t.cpState n.val = 5 ∧ (t.cp n.val).prev = 0 ∧ (t.cp
    n.val).haltReq = false ∧ SameVault s t) ∧
  (∀ (s : State) (n : Fin 5) (b o : Bool), s.cpState n.val ≠ 4 ∨ (s.cp n.val).rs ≠ 2 ∨ s.sys.pairsReset = true → exec (.pairRestart
    n b o) s = .next s) ∧
  (∀ (s : State) (w : Fin 4) (x y : Fin 5) (b o : Bool), s.takeDue w.val = true → s.get (slotPair 4) = x.val → s.get (slotPair
    w.val) = y.val → x ≠ y → s.cpState x.val = 1 → (∀ z : Fin 5, z ≠ x → s.cpState z.val ≠ 1) → s.sys.pairsReset = false → (s.cp
    x.val).haltReq = false → s.cpState y.val < 7 → s.red.takes.contains (w.val, true) = false → s.red.outs.contains (1, y.val) =
    false → s.on (if s.get (RED_WS_CKPT__NEWEST w.val) = 0 then RED_WS_CKPT__GOOD_A w.val else RED_WS_CKPT__GOOD_B w.val) = true →
    b = true → s.ckptOk w.val (s.get (RED_WS_CKPT__NEWEST w.val)) = true → ∃ t, exec (.takeover w b o) s = .next t ∧ t.get
    (slotPair w.val) = x.val ∧ t.get (slotPair 4) = 7 ∧ t.cpState x.val = 0 ∧ (t.cp x.val).rs = 0 ∧ (t.cp x.val).first = true ∧
    (t.cp x.val).heirOf = y.val ∧ (t.cp x.val).buf = [] ∧ t.slotOf x.val = some w.val ∧ t.slotOf y.val = none ∧ t.takeDue w.val =
    false ∧ t.cpState y.val = (if s.cpState y.val = 6 then 6 else 2) ∧ t.get (RED_CP_COUNTS__DISPLACED y.val) = min 255 (s.get
    (RED_CP_COUNTS__DISPLACED y.val) + 1) ∧ (t.cp x.val).regs = (sget (fun _ => []) s.escrow (2 * w.val + s.get
    (RED_WS_CKPT__NEWEST w.val))).take coreWords ∧ (t.cp x.val).cache = none ∧ (t.cp x.val).csr = ckptCsr (sget (fun _ => [])
    s.escrow (2 * w.val + s.get (RED_WS_CKPT__NEWEST w.val))) ∧ t.sram = (ckptApply w.val (s.get (RED_WS_CKPT__NEWEST w.val))
    x.val s).sram ∧ OnlyRegsBelow 0x50000 [] s t ∧ SameVault s t) ∧
  (∀ (s : State) (w : Fin 4) (x y : Fin 5) (b o : Bool), s.takeDue w.val = true → s.get (slotPair 4) = x.val → s.get (slotPair
    w.val) = y.val → x ≠ y → s.cpState x.val = 1 → (∀ z : Fin 5, z ≠ x → s.cpState z.val ≠ 1) → s.sys.pairsReset = false → (s.cp
    x.val).haltReq = false → s.cpState y.val < 7 → s.red.takes.contains (w.val, true) = false → s.red.outs.contains (1, y.val) =
    false → s.fl = [] → s.on (if s.get (RED_WS_CKPT__NEWEST w.val) = 0 then RED_WS_CKPT__GOOD_A w.val else RED_WS_CKPT__GOOD_B
    w.val) = false ∨ b = false ∨ s.ckptOk w.val (s.get (RED_WS_CKPT__NEWEST w.val)) = false → s.on (if s.get (RED_WS_CKPT__NEWEST
    w.val) = 0 then RED_WS_CKPT__GOOD_B w.val else RED_WS_CKPT__GOOD_A w.val) = true → o = true → s.ckptOk w.val (1 - s.get
    (RED_WS_CKPT__NEWEST w.val)) = true → ∃ t, exec (.takeover w b o) s = .next t ∧ t.get (slotPair w.val) = x.val ∧ t.get
    (slotPair 4) = 7 ∧ t.cpState x.val = 0 ∧ (t.cp x.val).rs = 0 ∧ (t.cp x.val).first = true ∧ (t.cp x.val).heirOf = y.val ∧ (t.cp
    x.val).buf = [] ∧ t.slotOf x.val = some w.val ∧ t.slotOf y.val = none ∧ t.takeDue w.val = false ∧ t.cpState y.val = (if
    s.cpState y.val = 6 then 6 else 2) ∧ t.get (RED_CP_COUNTS__DISPLACED y.val) = min 255 (s.get (RED_CP_COUNTS__DISPLACED y.val)
    + 1) ∧ t.get (RED_WS_CKPT__NEWEST w.val) = 1 - s.get (RED_WS_CKPT__NEWEST w.val) ∧ (t.cp x.val).regs = (sget (fun _ => [])
    s.escrow (2 * w.val + (1 - s.get (RED_WS_CKPT__NEWEST w.val)))).take coreWords ∧ (t.cp x.val).cache = none ∧ (t.cp x.val).csr
    = ckptCsr (sget (fun _ => []) s.escrow (2 * w.val + (1 - s.get (RED_WS_CKPT__NEWEST w.val)))) ∧ t.sram = (ckptApply w.val (1 -
    s.get (RED_WS_CKPT__NEWEST w.val)) x.val s).sram ∧ SameVault s t) ∧
  (∀ (s : State) (w : Fin 4) (x y : Fin 5) (b o : Bool), s.takeDue w.val = true → s.get (slotPair 4) = x.val → s.get (slotPair
    w.val) = y.val → x ≠ y → s.cpState x.val = 1 → (∀ z : Fin 5, z ≠ x → s.cpState z.val ≠ 1) → s.sys.pairsReset = false → (s.cp
    x.val).haltReq = false → s.cpState y.val < 7 → s.red.takes.contains (w.val, true) = true → s.red.outs.contains (1, y.val) =
    false → s.red.svc = none → s.on (if s.get (RED_WS_CKPT__NEWEST w.val) = 0 then RED_WS_CKPT__GOOD_A w.val else
    RED_WS_CKPT__GOOD_B w.val) = true → b = true → s.ckptOk w.val (s.get (RED_WS_CKPT__NEWEST w.val)) = true → ∃ t, exec
    (.takeover w b o) s = .next t ∧ t.get (slotPair w.val) = x.val ∧ t.get (slotPair 4) = 7 ∧ t.cpState x.val = 0 ∧ (t.cp
    x.val).rs = 0 ∧ (t.cp x.val).first = true ∧ (t.cp x.val).heirOf = y.val ∧ (t.cp x.val).buf = [] ∧ t.slotOf x.val = some w.val
    ∧ t.slotOf y.val = none ∧ t.takeDue w.val = false ∧ t.cpState y.val = (if s.cpState y.val = 6 then 6 else 2) ∧ t.get
    (RED_CP_COUNTS__DISPLACED y.val) = s.get (RED_CP_COUNTS__DISPLACED y.val) ∧ (s.red.rotReq = some w.val → t.red.rotReq = none ∧
    t.red.rot = (w.val + 1) % 4) ∧ SameVault s t) ∧
  (∀ (s : State) (w : Fin 4) (x y : Fin 5) (b o : Bool), s.takeDue w.val = true → s.get (slotPair 4) = x.val → s.get (slotPair
    w.val) = y.val → x ≠ y → s.cpState x.val = 1 → (∀ z : Fin 5, z ≠ x → s.cpState z.val ≠ 1) → s.sys.pairsReset = false → (s.cp
    x.val).haltReq = false → s.cpState y.val < 7 → s.red.outs.contains (1, y.val) = true → s.red.takes.contains (w.val, true) =
    false → s.red.svcCtx = none → s.on (if s.get (RED_WS_CKPT__NEWEST w.val) = 0 then RED_WS_CKPT__GOOD_A w.val else
    RED_WS_CKPT__GOOD_B w.val) = true → b = true → s.ckptOk w.val (s.get (RED_WS_CKPT__NEWEST w.val)) = true → ∃ t, exec
    (.takeover w b o) s = .next t ∧ t.get (slotPair w.val) = x.val ∧ t.get (slotPair 4) = 7 ∧ t.cpState x.val = 0 ∧ (t.cp
    x.val).rs = 0 ∧ (t.cp x.val).first = true ∧ (t.cp x.val).heirOf = y.val ∧ (t.cp x.val).buf = [] ∧ t.slotOf x.val = some w.val
    ∧ t.slotOf y.val = none ∧ t.takeDue w.val = false ∧ t.cpState y.val = (if s.cpState y.val = 6 then 6 else 7) ∧ (s.red.svc =
    some (1, 1, y.val) → t.red.svc = none ∧ t.get RED_SVC_STAT__RESULT = 0) ∧ SameVault s t) ∧
  (∀ (s : State) (w : Fin 4) (x y : Fin 5) (b o : Bool), s.takeDue w.val = true → s.get (slotPair 4) = x.val → s.get (slotPair
    w.val) = y.val → x ≠ y → s.cpState x.val = 1 → (∀ z : Fin 5, z ≠ x → s.cpState z.val ≠ 1) → s.sys.pairsReset = false → (s.cp
    x.val).haltReq = false → s.cpState y.val < 7 → s.on RED_STATUS__DSAFE = false → s.on (if s.get (RED_WS_CKPT__NEWEST w.val) = 0
    then RED_WS_CKPT__GOOD_A w.val else RED_WS_CKPT__GOOD_B w.val) = false ∨ b = false ∨ s.ckptOk w.val (s.get
    (RED_WS_CKPT__NEWEST w.val)) = false → s.on (if s.get (RED_WS_CKPT__NEWEST w.val) = 0 then RED_WS_CKPT__GOOD_B w.val else
    RED_WS_CKPT__GOOD_A w.val) = false ∨ o = false ∨ s.ckptOk w.val (1 - s.get (RED_WS_CKPT__NEWEST w.val)) = false → ∃ t, exec
    (.takeover w b o) s = .next t ∧ t.on RED_STATUS__DSAFE = true ∧ t.takeDue w.val = true ∧ t.cpState x.val = 1 ∧ t.slotOf y.val
    = s.slotOf y.val ∧ SameMem s t ∧ SameVault s t) ∧
  (∀ (s : State) (w : Fin 4) (b o : Bool), s.takeDue w.val = false ∨ s.get (slotPair 4) = 7 ∨ s.cpState (s.get (slotPair 4)) ≠ 1 ∨
    s.sys.pairsReset = true → exec (.takeover w b o) s = .next s) ∧
  (∀ (s : State) (n : Fin 5) (w : Fin 4), s.pairRuns n.val = true → s.slotOf n.val = some w.val → (s.cp n.val).buf = [] → (s.cp
    n.val).first = false → (s.cp n.val).kgrp = false → ∃ t, exec (.ckpt (n, true)) s = .next t ∧ t.get (RED_WS_CKPT__NEWEST w.val) =
    1 - s.get (RED_WS_CKPT__NEWEST w.val) ∧ t.get (RED_WS_CKPT__COUNT w.val) = (s.get (RED_WS_CKPT__COUNT w.val) + 1) % 65536 ∧
    t.ckptOk w.val (1 - s.get (RED_WS_CKPT__NEWEST w.val)) = true ∧ sget (fun _ => []) t.escrow (2 * w.val + (1 - s.get
    (RED_WS_CKPT__NEWEST w.val))) = s.ckptWords w.val (archWords (t.cp n.val).regs (s.cp n.val).csr (s.cp n.val).cause) (dword
    (sget (fun _ => []) t.escrow (2 * w.val + (1 - s.get (RED_WS_CKPT__NEWEST w.val)))) 255) ∧ t.on (if s.get (RED_WS_CKPT__NEWEST
    w.val) = 0 then RED_WS_CKPT__GOOD_B w.val else RED_WS_CKPT__GOOD_A w.val) = true ∧ OnlyRegs [(RED_WS_CKPT__COUNT w.val).addr]
    s t ∧ SameMem s t ∧ SameVault s t) ∧
  (∀ (s : State) (n : Fin 5) (w : Fin 4), s.pairRuns n.val = true → s.slotOf n.val = some w.val → (s.cp n.val).buf = [] → (s.cp
    n.val).first = false → (s.cp n.val).kgrp = false → ∃ t, exec (.ckpt (n, false)) s = .next t ∧ t.get (RED_WS_CKPT__NEWEST w.val) =
    s.get (RED_WS_CKPT__NEWEST w.val) ∧ t.get (RED_WS_CKPT__COUNT w.val) = s.get (RED_WS_CKPT__COUNT w.val) ∧ sget (fun _ => [])
    t.escrow (2 * w.val + s.get (RED_WS_CKPT__NEWEST w.val)) = sget (fun _ => []) s.escrow (2 * w.val + s.get (RED_WS_CKPT__NEWEST
    w.val)) ∧ t.on (if s.get (RED_WS_CKPT__NEWEST w.val) = 0 then RED_WS_CKPT__GOOD_B w.val else RED_WS_CKPT__GOOD_A w.val) =
    false ∧ OnlyRegs [(RED_WS_CKPT__COUNT w.val).addr] s t ∧ SameMem s t ∧ SameVault s t) ∧
  (∀ (s : State) (n : Fin 5) (whole : Bool), s.pairRuns n.val = true → (s.cp n.val).kgrp = true → (s.cp n.val).grp.length < 63 →
    (s.cp n.val).buf.length + (s.cp n.val).grp.length < 64 → (s.cp n.val).buf = [] → (s.cp n.val).first = false → ∃ t, exec (.ckpt
    (n, whole)) s = .next t ∧ (t.cp n.val).grp = (s.cp n.val).grp ++ [.reg (RED_CP_CTRL n.val) 1] ∧ (t.cp n.val).kgrp = true ∧
    OnlyRegs [] s t ∧ SameMem s t ∧ SameVault s t) ∧
  (∀ (s : State) (n : Fin 5) (w : Fin 4), s.pairRuns n.val = true → s.slotOf n.val = some w.val → (s.cp n.val).buf = [] → (s.cp
    n.val).first = false → (s.cp n.val).kgrp = false → s.get (slotPair 4) ≠ 7 → s.red.takes = [] → s.red.svcRot = false → ∃ t, exec
    (.yield n) s = .next t ∧ t.red.takes = [(w.val, true)] ∧ t.on (RED_CP_STAT__YIELD_REQ n.val) = false ∧ OnlyRegs
    [(RED_CP_STAT__STATE n.val).addr] s t ∧ SameMem s t ∧ SameVault s t) ∧
  (∀ (s : State) (n : Fin 5) (w : Fin 4), s.pairRuns n.val = true → s.slotOf n.val = some w.val → (s.cp n.val).buf = [] → (s.cp
    n.val).first = false → (s.cp n.val).kgrp = false → s.reserveFree = false → ∃ t, exec (.yield n) s = .next t ∧ t.red.takes =
    s.red.takes ∧ OnlyRegs [] s t ∧ SameMem s t ∧ SameVault s t) ∧
  (∀ (s : State) (n : Fin 5), s.pairRuns n.val = true → (s.cp n.val).kgrp = true → (s.cp n.val).grp.length < 63 → (s.cp
    n.val).buf.length + (s.cp n.val).grp.length < 64 → (s.cp n.val).buf = [] → (s.cp n.val).first = false → ∃ t, exec (.yield n) s
    = .next t ∧ (t.cp n.val).grp = (s.cp n.val).grp ++ [.reg (RED_CP_CTRL n.val) 2] ∧ (t.cp n.val).kgrp = true ∧ OnlyRegs [] s t ∧
    SameMem s t ∧ SameVault s t) ∧
  (∀ (s : State) (n : Fin 5) (whole : Bool), s.pairRuns n.val = false → exec (.ckpt (n, whole)) s = .next s ∧ exec (.yield n) s =
    .next s ∧ exec (.kgrpWrite n true) s = .next s ∧ exec (.kgrpWrite n false) s = .next s) ∧
  (∀ (s : State) (n : Fin 5), s.pairRuns n.val = true → ∃ t, exec (.kgrpWrite n true) s = .next t ∧ (t.cp n.val).kgrp = true ∧
    (t.cp n.val).buf = (s.cp n.val).buf ∧ (t.cp n.val).grp = (s.cp n.val).grp ∧ OnlyRegs [] s t ∧ SameMem s t ∧ SameVault s t) ∧
  (∀ (s : State) (n : Fin 5), s.pairRuns n.val = true → ∃ t, exec (.kgrpWrite n false) s = .next t ∧ (t.cp n.val).kgrp = false ∧
    (t.cp n.val).buf = (s.cp n.val).buf ++ (s.cp n.val).grp ∧ (t.cp n.val).grp = [] ∧ OnlyRegs [] s t ∧ SameMem s t ∧ SameVault s t) ∧
  (∀ (s : State) (n : Fin 5) (w : Fin 4) (x : Fin 8), s.debugOn = true →
    s.sys.pairsReset = false → s.slotOf n.val = some w.val → s.cpState n.val ≤ 1 → s.takeDue w.val = false → s.fl = [] → s.get
    (RED_AXSLOT__SLOT x.val) = w.val → s.axLive x.val = true → ∃ t, exec (.debugHalt n) s = .next t ∧ t.cpState n.val = 5 ∧ (t.cp
    n.val).prev = s.cpState n.val ∧ (t.cp n.val).log = [] ∧ (t.cp n.val).cmderr = 0 ∧ t.axState x.val = 5 ∧ SameMem s t ∧ SameVault
    s t) ∧
  (∀ (s : State) (n : Fin 5), s.debugOn = true → s.sys.pairsReset = false
    → s.cpState n.val = 4 ∨ s.inTakeover n.val = true → ∃ t, exec (.debugHalt n) s = .next t ∧ (t.cp n.val).haltReq = true ∧
    t.cpState n.val = s.cpState n.val ∧ OnlyRegs [] s t ∧ SameMem s t ∧ SameVault s t) ∧
  (∀ (s : State) (n : Fin 5), s.debugOn = false ∨ s.sys.pairsReset = true
    ∨ (2 ≤ s.cpState n.val ∧ s.cpState n.val ≠ 4 ∧ s.inTakeover n.val = false) → exec (.debugHalt n) s = .next s) ∧
  (∀ (s : State) (n : Fin 5), s.cpState n.val = 5 → s.debugOn = true → (s.cp n.val).prev < 8 → (s.cp n.val).log.foldl (fun l x =>
    DbgCmd.onRegs x l) (s.cp n.val).chk = (s.cp n.val).regs → ∃ t, exec (.debugResume n true) s = .next t ∧ t.cpState n.val =
    (s.cp n.val).prev ∧ (t.cp n.val).log = [] ∧ OnlyRegsBelow evBase [(RED_CP_STAT__STATE n.val).addr, RED_EVENT__EVT.addr] s t ∧
    SameMem s t ∧ SameVault s t) ∧
  (∀ (s : State) (n : Fin 5) (e : Bool), s.cpState n.val = 5 → s.debugOn = true → s.fl = [] → s.on RED_STATUS__DSAFE = false → e =
    false ∨ (s.cp n.val).log.foldl (fun l x => DbgCmd.onRegs x l) (s.cp n.val).chk ≠ (s.cp n.val).regs → ∃ t, exec (.debugResume n
    e) s = .next t ∧ t.cpState n.val = 4 ∧ (t.cp n.val).rs = 1 ∧ (t.cp n.val).log = [] ∧ (t.cp n.val).buf = [] ∧ (t.cp n.val).grp
    = [] ∧ SameMem s t ∧ SameVault s t) ∧
  (∀ (s : State) (n : Fin 5) (b : Bool), s.cpState n.val ≠ 5 ∨ s.debugOn = false → exec (.debugResume n b) s = .next s) ∧
  (∀ (s : State), s.on VLT_DBG_STAT__UNLOCKED = true → ∃ t, exec (.debuggerAttach true) s = .next t ∧ t.on RED_STATUS__DEBUG = true
    ∧ OnlyRegs [RED_STATUS__DEBUG.addr] s t ∧ SameMem s t ∧ SameVault s t) ∧
  (∀ (s : State), s.on VLT_DBG_STAT__UNLOCKED = false → exec (.debuggerAttach true) s = .next s) ∧
  (∀ (s : State), ∃ t, exec (.debuggerAttach false) s = .next t ∧ t.on RED_STATUS__DEBUG = false ∧ OnlyRegs
    [RED_STATUS__DEBUG.addr] s t ∧ SameMem s t ∧ SameVault s t) ∧
  (∀ (s : State) (n : Fin 5) (r : Fin 32) (v : Word), s.cpState n.val = 5 → s.debugOn = true → (s.cp n.val).log.length < 256 →
    r.val ≠ 0 → ∃ t, exec (.abstractCommand n (.writeReg r v)) s = .next t ∧ (t.cp n.val).log.length = (s.cp n.val).log.length + 1
    ∧ dword (t.cp n.val).regs (r.val - 1) = v ∧ (∀ q : Fin 31, q.val ≠ r.val - 1 → dword (t.cp n.val).regs q.val = dword (s.cp
    n.val).regs q.val) ∧ (t.cp n.val).chk = (s.cp n.val).chk ∧ OnlyRegs [] s t ∧ SameMem s t ∧ SameVault s t) ∧
  (∀ (s : State) (n : Fin 5) (r : Fin 32), s.cpState n.val = 5 → s.debugOn = true → (s.cp n.val).log.length < 256 → ∃ t, exec
    (.abstractCommand n (.readReg r)) s = .next t ∧ (t.cp n.val).log.length = (s.cp n.val).log.length + 1 ∧ (t.cp n.val).data0 =
    (if r.val = 0 then 0 else dword (s.cp n.val).regs (r.val - 1)) ∧ OnlyRegs [] s t ∧ SameMem s t ∧ SameVault s t) ∧
  (∀ (s : State) (n : Fin 5) (l : List Word), s.cpState n.val = 5 → s.debugOn = true → (s.cp n.val).log.length < 256 → ∃ t, exec
    (.abstractCommand n (.prog l)) s = .next t ∧ (t.cp n.val).log.length = (s.cp n.val).log.length + 1 ∧ OnlyRegs [] s t ∧ SameMem
    s t ∧ SameVault s t) ∧
  (∀ (s : State) (n : Fin 5) (k : BitVec 12) (v : Nat), s.cpState n.val = 5 → s.debugOn = true → (s.cp n.val).log.length < 256 →
    s.csrVal n.val k.toNat = some v → ∃ t, exec (.abstractCommand n (.readCsr k)) s = .next t ∧ (t.cp n.val).log.length = (s.cp
    n.val).log.length + 1 ∧ (t.cp n.val).data0 = BitVec.ofNat 32 v ∧ OnlyRegs [] s t ∧ SameMem s t ∧ SameVault s t) ∧
  (∀ (s : State) (n : Fin 5) (k : BitVec 12) (v : Nat), s.cpState n.val = 5 → s.debugOn = true → (s.cp n.val).log.length < 256 →
    s.userMay n.val k.toNat = true → s.csrVal n.val k.toNat = some v → ∃ t, exec (.abstractCommand n (.stepCsr k)) s = .next t ∧
    (t.cp n.val).log.length = (s.cp n.val).log.length + 1 ∧ (t.cp n.val).data0 = BitVec.ofNat 32 v ∧ OnlyRegs [] s t ∧ SameMem s t
    ∧ SameVault s t) ∧
  (∀ (s : State) (n : Fin 5) (k : BitVec 12), s.cpState n.val = 5 → s.debugOn = true → (s.cp n.val).log.length < 256 → s.userMay
    n.val k.toNat = false → ∃ t, exec (.abstractCommand n (.stepCsr k)) s = .next t ∧ (t.cp n.val).log.length = (s.cp
    n.val).log.length + 1 ∧ (t.cp n.val).cause = 2 ∧ (t.cp n.val).data0 = (s.cp n.val).data0 ∧ OnlyRegs [] s t ∧ SameMem s t ∧
    SameVault s t) ∧
  (∀ (s : State) (n : Fin 5) (v : Word), s.cpState n.val = 5 → s.debugOn = true → (s.cp n.val).log.length < 256 → ∃ t, exec
    (.abstractCommand n (.writeCsr 0x306 v)) s = .next t ∧ (t.cp n.val).log.length = (s.cp n.val).log.length + 1 ∧ (t.cp
    n.val).csr.cen = v ∧ (t.cp n.val).csr.inh = (s.cp n.val).csr.inh ∧ OnlyRegs [] s t ∧ SameMem s t ∧ SameVault s t) ∧
  (∀ (s : State) (n : Fin 5) (v : Word), s.cpState n.val = 5 → s.debugOn = true → (s.cp n.val).log.length < 256 → ∃ t, exec
    (.abstractCommand n (.writeCsr 0x320 v)) s = .next t ∧ (t.cp n.val).log.length = (s.cp n.val).log.length + 1 ∧ (t.cp
    n.val).csr.inh = (v &&& 5) ∧ (t.cp n.val).csr.cen = (s.cp n.val).csr.cen ∧ OnlyRegs [] s t ∧ SameMem s t ∧ SameVault s t) ∧
  (∀ (s : State) (n : Fin 5) (v : Word), s.cpState n.val = 5 → s.debugOn = true → (s.cp n.val).log.length < 256 → ∃ t, exec
    (.abstractCommand n (.writeCsr 0xB02 v)) s = .next t ∧ (t.cp n.val).log.length = (s.cp n.val).log.length + 1 ∧ (t.cp
    n.val).csr.inst % 2 ^ 32 = v.toNat ∧ (t.cp n.val).csr.cyc = (s.cp n.val).csr.cyc ∧ OnlyRegs [] s t ∧ SameMem s t ∧ SameVault s
    t) ∧
  (∀ (s : State) (n : Fin 5) (a : Fin 8) (v : Word), s.cpState n.val = 5 → s.debugOn = true → (s.cp n.val).log.length < 256 →
    s.accessWaits false (AX_SETPOINT a.val) = false → s.writeReason (.firmware n) false (AX_SETPOINT a.val) = 0 → (match findRow
    (AX_SETPOINT a.val) with | some (r, i, j) => s.valueReason (.firmware n) r i j v == 0 | none => false) = true → ∃ t, exec
    (.abstractCommand n (.store (BitVec.ofNat 20 (AX_SETPOINT a.val)) v)) s = .next t ∧ (t.cp n.val).log.length = (s.cp
    n.val).log.length + 1 ∧ t.rd (AX_SETPOINT a.val) = v ∧ OnlyRegs [AX_SETPOINT a.val] s t ∧ SameMem s t ∧ SameVault s t) ∧
  (∀ (s : State) (n : Fin 5) (c : DbgCmd), s.cpState n.val = 5 → s.debugOn = true → 256 ≤ (s.cp n.val).log.length → ∃ t, exec
    (.abstractCommand n c) s = .next t ∧ (t.cp n.val).cmderr = 7 ∧ (t.cp n.val).log = (s.cp n.val).log ∧ OnlyRegs [] s t ∧ SameMem
    s t ∧ SameVault s t) ∧
  (∀ (s : State) (n : Fin 5) (c : DbgCmd), s.cpState n.val ≠ 5 ∨ s.debugOn = false → exec (.abstractCommand n c) s = .next s)

/-- Units, self-tests, repair and device-SAFE (R402 to R410, R413, R415). With the ledger empty and no service action under way:
a lane that fails is replaced by the free spare, or leaves the engine with one lane fewer, and the engine with fewer than six
lanes leaves service; an engine that fails leaves service, and with the other out of service the axes in CATCH, RUN or HOLD
enter SAFE with cause 12 and no other does. A slice that passes changes nothing but a pair, whose copies it clears and which,
displaced, becomes the reserve; one that fails is counted, keeps a row's record open, and sets aside a pair, an engine, a lane
or a converter; a way that a pair's slice finds is disabled, and a pair without ways is unusable; the last slice counts a cycle;
an uncovered slice tests nothing, and one that can run may be abandoned, which is counted. The rotation asks the next slot's
pair in turn to yield, and gives up at the end of its grace. A row in need takes the first free spare, and an uncorrectable one
reads as 0, a pair that read it mismatches; a corrected error below the limit is counted; with no spare, or outside the array,
nothing is repaired. Device-SAFE takes every axis but those in OFF and FAULT to SAFE with cause 13, which latches, stops
contexts and DMA channels and holds the pairs in reset, once. -/
def Obligations.UnitsAndSelfTests : Prop :=
  (∀ (s : State) (e : Fin 2) (l : Fin 9), s.get (RED_CE_STAT__STATE e.val) = 0 → nbit (s.get (RED_CE_STAT__LANE_OK e.val)) l.val =
    true → s.fl = [] → s.red.svc = none → l.val ≠ 8 → s.spareFree e.val = true → 7 ≤ s.lanesOk e.val → ∃ t, exec (.macResidueFail e
    l) s = .next t ∧ nbit (t.get (RED_CE_STAT__LANE_OK e.val)) l.val = false ∧ t.red.unus.contains (3, 16 * e.val + l.val) = true ∧
    t.get (RED_CE_STAT__SPARE_FOR e.val) = l.val ∧ t.get (RED_CE_STAT__LANES e.val) = min 8 (s.lanesOk e.val - 1) ∧ t.get
    (RED_CE_STAT__STATE e.val) = 0 ∧ OnlyRegsBelow evBase [(RED_CE_STAT__STATE e.val).addr, RED_EVENT__EVT.addr, RED_FL_HEAD] s t ∧
    SameMem s t ∧ SameVault s t) ∧
  (∀ (s : State) (e : Fin 2) (l : Fin 9), s.get (RED_CE_STAT__STATE e.val) = 0 → nbit (s.get (RED_CE_STAT__LANE_OK e.val)) l.val =
    true → s.fl = [] → s.red.svc = none → l.val ≠ 8 → s.spareFree e.val = false → 7 ≤ s.lanesOk e.val → ∃ t, exec (.macResidueFail
    e l) s = .next t ∧ nbit (t.get (RED_CE_STAT__LANE_OK e.val)) l.val = false ∧ t.red.unus.contains (3, 16 * e.val + l.val) = true
    ∧ t.get (RED_CE_STAT__SPARE_FOR e.val) = s.get (RED_CE_STAT__SPARE_FOR e.val) ∧ t.get (RED_CE_STAT__LANES e.val) = min 8
    (s.lanesOk e.val - 1) ∧ t.get (RED_CE_STAT__STATE e.val) = 0 ∧ OnlyRegsBelow evBase [(RED_CE_STAT__STATE e.val).addr,
    RED_EVENT__EVT.addr, RED_FL_HEAD] s t ∧ SameMem s t ∧ SameVault s t) ∧
  (∀ (s : State) (e : Fin 2) (l : Fin 9), s.get (RED_CE_STAT__STATE e.val) = 0 → nbit (s.get (RED_CE_STAT__LANE_OK e.val)) l.val =
    true → s.fl = [] → s.red.svc = none → l.val = 8 → 7 ≤ s.lanesOk e.val → ∃ t, exec (.macResidueFail e l) s = .next t ∧ nbit
    (t.get (RED_CE_STAT__LANE_OK e.val)) l.val = false ∧ t.red.unus.contains (3, 16 * e.val + l.val) = true ∧ t.get
    (RED_CE_STAT__SPARE_FOR e.val) = 15 ∧ t.get (RED_CE_STAT__LANES e.val) = min 8 (s.lanesOk e.val - 1) ∧ t.get
    (RED_CE_STAT__STATE e.val) = 0 ∧ OnlyRegsBelow evBase [(RED_CE_STAT__STATE e.val).addr, RED_EVENT__EVT.addr, RED_FL_HEAD] s t ∧
    SameMem s t ∧ SameVault s t) ∧
  (∀ (s : State) (e : Fin 2) (l : Fin 9), s.get (RED_CE_STAT__STATE e.val) = 0 → nbit (s.get (RED_CE_STAT__LANE_OK e.val)) l.val =
    true → s.fl = [] → s.red.svc = none → s.lanesOk e.val ≤ 6 → s.get (RED_CE_STAT__STATE (1 - e.val)) = 0 → ∃ t, exec
    (.macResidueFail e l) s = .next t ∧ nbit (t.get (RED_CE_STAT__LANE_OK e.val)) l.val = false ∧ t.red.unus.contains (3, 16 *
    e.val + l.val) = true ∧ t.get (RED_CE_STAT__STATE e.val) = 1 ∧ t.get (RED_CE_STAT__STATE (1 - e.val)) = 0 ∧ OnlyRegsBelow
    evBase [(RED_CE_STAT__STATE e.val).addr, RED_EVENT__EVT.addr, RED_FL_HEAD] s t ∧ SameMem s t ∧ SameVault s t) ∧
  (∀ (s : State) (e : Fin 2) (l : Fin 9), s.get (RED_CE_STAT__STATE e.val) ≠ 0 ∨ nbit (s.get (RED_CE_STAT__LANE_OK e.val)) l.val =
    false → exec (.macResidueFail e l) s = .next s) ∧
  (∀ (s : State) (e : Fin 2), s.get (RED_CE_STAT__STATE e.val) = 0 → s.get (RED_CE_STAT__STATE (1 - e.val)) = 0 → s.fl = [] →
    s.red.svc = none → ∃ t, exec (.engineSigFail e) s = .next t ∧ t.get (RED_CE_STAT__STATE e.val) = 1 ∧ t.get (RED_CE_STAT__STATE
    (1 - e.val)) = 0 ∧ t.red.unus.contains (2, e.val) = true ∧ OnlyRegsBelow evBase [(RED_CE_STAT__STATE e.val).addr,
    RED_EVENT__EVT.addr, RED_FL_HEAD] s t ∧ SameMem s t ∧ SameVault s t) ∧
  (∀ (s : State) (e : Fin 2) (x : Fin 8), s.get (RED_CE_STAT__STATE e.val) = 0 → s.get (RED_CE_STAT__STATE (1 - e.val)) ≠ 0 → s.fl
    = [] → s.red.svc = none → s.axLive x.val = true → ∃ t, exec (.engineSigFail e) s = .next t ∧ t.get (RED_CE_STAT__STATE e.val) =
    1 ∧ t.red.unus.contains (2, e.val) = true ∧ t.axState x.val = 5 ∧ (t.on RED_STATUS__DSAFE = s.on RED_STATUS__DSAFE → t.get
    (AX_STATE__SAFE_CAUSE x.val) = 12) ∧ SameMem s t ∧ SameVault s t) ∧
  (∀ (s : State) (e : Fin 2) (x : Fin 8), s.get (RED_CE_STAT__STATE e.val) = 0 → s.fl = [] → s.red.svc = none → s.axLive x.val =
    false → ∃ t, exec (.engineSigFail e) s = .next t ∧ t.get (RED_CE_STAT__STATE e.val) = 1 ∧ t.red.unus.contains (2, e.val) = true
    ∧ (t.on RED_STATUS__DSAFE = s.on RED_STATUS__DSAFE → t.axState x.val = s.axState x.val) ∧ SameMem s t ∧ SameVault s t) ∧
  (∀ (s : State) (e : Fin 2), s.get (RED_CE_STAT__STATE e.val) ≠ 0 → exec (.engineSigFail e) s = .next s) ∧
  (∀ (s : State) (k : Fin 10) (u : BitVec 16), k ≠ 1 → exec (.bistSlice k u true false none) s = .next s) ∧
  (∀ (s : State) (n : Fin 5), s.cpState n.val = 1 → s.on (RED_CP_STAT__HAS_SLOT n.val) = false → s.red.takes = [] →
    s.get BIST_CFG__PERIOD ≠ 0 → nbit (s.get BIST_CFG__KIND_EN) 0 = true → s.red.unus = [] → s.get (RED_CP_STAT__I_WAYS n.val) ≠ 0 →
    s.get (RED_CP_STAT__D_WAYS n.val) ≠ 0 → ∃ t, exec (.bistSlice 1 (BitVec.ofNat 16 n.val) true false none) s = .next t ∧
    (t.cp n.val).regs = [] ∧ (t.cp n.val).csr = {} ∧ (t.cp n.val).cache = none ∧ OnlyRegs [] s t ∧ SameMem s t ∧ SameVault s t) ∧
  (∀ (s : State) (n : Fin 5), s.cpState n.val = 2 → s.on (RED_CP_STAT__HAS_SLOT n.val) = false → s.red.takes = [] → s.red.unus = []
    → s.get (RED_CP_STAT__I_WAYS n.val) ≠ 0 → s.get (RED_CP_STAT__D_WAYS n.val) ≠ 0 → s.get (slotPair 4) = 7 → ∃ t, exec
    (.bistSlice 1 (BitVec.ofNat 16 n.val) true false none) s = .next t ∧ t.cpState n.val = 1 ∧ t.get (slotPair 4) = n.val ∧ t.on
    RED_STATUS__NO_RESERVE = false ∧ OnlyRegs [(RED_CP_STAT__STATE n.val).addr, RED_SLOTS, RED_STATUS__USABLE.addr] s t ∧ SameMem s
    t ∧ SameVault s t) ∧
  (∀ (s : State) (n : Fin 5) (v : Fin 4), (s.get BIST_CFG__PERIOD ≠ 0 ∧ nbit (s.get BIST_CFG__KIND_EN) 0 = true) ∨ s.cpState n.val
    = 2 → (s.cpState n.val = 1 ∨ s.cpState n.val = 2) → s.on (RED_CP_STAT__HAS_SLOT n.val) = false → s.red.takes = [] → s.red.unus
    = [] → s.fl = [] → s.get (RED_CP_STAT__I_WAYS n.val) ≠ 2 ^ v.val → s.get (RED_CP_STAT__I_WAYS n.val) ≠ 0 → s.get
    (RED_CP_STAT__D_WAYS n.val) ≠ 0 → ∃ t, exec (.bistSlice 1 (BitVec.ofNat 16 n.val) true false (some ⟨v.val, by omega⟩)) s =
    .next t ∧ nbit (t.get (RED_CP_STAT__I_WAYS n.val)) v.val = false ∧ t.red.unus = [(0, 16 * n.val + v.val)] ∧ t.get
    BIST_COUNTS__FAILS = min 255 (s.get BIST_COUNTS__FAILS + 1) ∧ t.get BIST_LAST_FAIL__KIND = 1 ∧ t.get BIST_LAST_FAIL__UNIT =
    n.val ∧ t.on BIST_LAST_FAIL__VALID = true ∧ SameMem s t ∧ SameVault s t) ∧
  (∀ (s : State) (n : Fin 5), (s.get BIST_CFG__PERIOD ≠ 0 ∧ nbit (s.get BIST_CFG__KIND_EN) 0 = true) ∨ s.cpState n.val = 2 →
    (s.cpState n.val = 1 ∨ s.cpState n.val = 2) → s.on (RED_CP_STAT__HAS_SLOT n.val) = false → s.red.takes = [] → s.fl = [] →
    s.red.svc = none → ∃ t, exec (.bistSlice 1 (BitVec.ofNat 16 n.val) false false none) s = .next t ∧ t.cpState n.val = 6 ∧ nbit
    (t.get RED_STATUS__USABLE) n.val = false ∧ t.get BIST_COUNTS__FAILS = min 255 (s.get BIST_COUNTS__FAILS + 1) ∧ t.get
    BIST_LAST_FAIL__KIND = 1 ∧ t.get BIST_LAST_FAIL__UNIT = n.val ∧ t.on BIST_LAST_FAIL__VALID = true ∧ SameMem s t ∧ SameVault s t) ∧
  (∀ (s : State) (n : Fin 5), (s.get BIST_CFG__PERIOD ≠ 0 ∧ nbit (s.get BIST_CFG__KIND_EN) 0 = true) ∨ s.cpState n.val = 2 →
    (s.cpState n.val = 1 ∨ s.cpState n.val = 2) → s.on (RED_CP_STAT__HAS_SLOT n.val) = false → s.red.takes = [] → s.red.unus = [] →
    s.get (RED_CP_STAT__I_WAYS n.val) = 0 ∨ s.get (RED_CP_STAT__D_WAYS n.val) = 0 → ∃ t, exec (.bistSlice 1 (BitVec.ofNat 16 n.val)
    true false none) s = .next t ∧ t.cpState n.val = 6 ∧ nbit (t.get RED_STATUS__USABLE) n.val = false ∧ SameMem s t ∧ SameVault s
    t) ∧
  (∀ (s : State) (k : Fin 10) (u : BitVec 16), s.get BIST_CFG__PERIOD ≠ 0 → nbit (s.get BIST_CFG__KIND_EN) (k.val - 1) = true → 4 ≤
    k.val → k.val ≤ 6 → s.covered k.val u.toNat = true → s.fl = [] → ∃ t, exec (.bistSlice k u false false none) s = .next t ∧
    t.get BIST_COUNTS__FAILS = min 255 (s.get BIST_COUNTS__FAILS + 1) ∧ t.get BIST_LAST_FAIL__KIND = k.val ∧ t.get
    BIST_LAST_FAIL__UNIT = u.toNat ∧ t.on BIST_LAST_FAIL__VALID = true ∧ t.fl.length = 1 ∧ t.get RED_FL_HEAD__OPEN = 1 ∧
    OnlyRegsBelow evBase [BIST_COUNTS__FAILS.addr, BIST_LAST_FAIL__KIND.addr, RED_EVENT__EVT.addr, RED_FL_HEAD] s t ∧ SameMem s t ∧
    SameVault s t) ∧
  (∀ (s : State) (e : Fin 2), s.get BIST_CFG__PERIOD ≠ 0 → nbit (s.get BIST_CFG__KIND_EN) (2 - 1) = true → s.get
    (RED_CE_STAT__STATE e.val) = 0 → s.get (RED_CE_STAT__STATE (1 - e.val)) = 0 → s.fl = [] → s.red.svc = none → ∃ t, exec
    (.bistSlice 2 (BitVec.ofNat 16 e.val) false false none) s = .next t ∧ t.get (RED_CE_STAT__STATE e.val) = 1 ∧ t.get
    (RED_CE_STAT__STATE (1 - e.val)) = 0 ∧ t.red.unus.contains (2, e.val) = true ∧ t.get BIST_COUNTS__FAILS = min 255 (s.get
    BIST_COUNTS__FAILS + 1) ∧ t.get BIST_LAST_FAIL__KIND = 2 ∧ t.get BIST_LAST_FAIL__UNIT = e.val ∧ t.on BIST_LAST_FAIL__VALID =
    true ∧ SameMem s t ∧ SameVault s t) ∧
  (∀ (s : State) (e : Fin 2) (l : Fin 8), s.get BIST_CFG__PERIOD ≠ 0 → nbit (s.get BIST_CFG__KIND_EN) (3 - 1) = true → s.spareFree
    e.val = true → nbit (s.get (RED_CE_STAT__LANE_OK e.val)) l.val = true → 7 ≤ s.lanesOk e.val → s.fl = [] → s.red.svc = none → ∃
    t, exec (.bistSlice 3 (BitVec.ofNat 16 (16 * e.val + l.val)) false false none) s = .next t ∧ nbit (t.get (RED_CE_STAT__LANE_OK
    e.val)) l.val = false ∧ t.get (RED_CE_STAT__SPARE_FOR e.val) = l.val ∧ t.get BIST_COUNTS__FAILS = min 255 (s.get
    BIST_COUNTS__FAILS + 1) ∧ t.get BIST_LAST_FAIL__KIND = 3 ∧ t.get BIST_LAST_FAIL__UNIT = (16 * e.val + l.val) ∧ t.on
    BIST_LAST_FAIL__VALID = true ∧ SameMem s t ∧ SameVault s t) ∧
  (∀ (s : State) (p : Fin 36), s.get BIST_CFG__PERIOD ≠ 0 → nbit (s.get BIST_CFG__KIND_EN) (7 - 1) = true → s.covered 7 p.val =
    true → s.fl = [] → s.red.svc = none → ∃ t, exec (.bistSlice 7 (BitVec.ofNat 16 p.val) false false none) s = .next t ∧ t.get
    (fpStat p.val) = 2 ∧ t.get BIST_COUNTS__FAILS = min 255 (s.get BIST_COUNTS__FAILS + 1) ∧ t.get BIST_LAST_FAIL__KIND = 7 ∧ t.get
    BIST_LAST_FAIL__UNIT = p.val ∧ t.on BIST_LAST_FAIL__VALID = true ∧ SameMem s t ∧ SameVault s t) ∧
  (∀ (s : State) (x : Fin 2), s.get BIST_CFG__PERIOD ≠ 0 → nbit (s.get BIST_CFG__KIND_EN) (8 - 1) = true → s.covered 8 x.val = true
    → s.fl = [] → s.red.svc = none → ∃ t, exec (.bistSlice 8 (BitVec.ofNat 16 x.val) false false none) s = .next t ∧ t.get (pxState
    x.val) = 3 ∧ t.get BIST_COUNTS__FAILS = min 255 (s.get BIST_COUNTS__FAILS + 1) ∧ t.get BIST_LAST_FAIL__KIND = 8 ∧ t.get
    BIST_LAST_FAIL__UNIT = x.val ∧ t.on BIST_LAST_FAIL__VALID = true ∧ SameMem s t ∧ SameVault s t) ∧
  (∀ (s : State), s.get BIST_CFG__PERIOD ≠ 0 → nbit (s.get BIST_CFG__KIND_EN) (9 - 1) = true → s.covered 9 0 = true → s.fl = [] →
    s.red.svc = none → ∃ t, exec (.bistSlice 9 0 false false none) s = .next t ∧ t.on RED_STATUS__DMA_OUT = true ∧ t.get
    BIST_COUNTS__FAILS = min 255 (s.get BIST_COUNTS__FAILS + 1) ∧ t.get BIST_LAST_FAIL__KIND = 9 ∧ t.get BIST_LAST_FAIL__UNIT = 0 ∧
    t.on BIST_LAST_FAIL__VALID = true ∧ SameMem s t ∧ SameVault s t) ∧
  (∀ (s : State) (k : Fin 10) (u : BitVec 16), s.get BIST_CFG__PERIOD ≠ 0 → nbit (s.get BIST_CFG__KIND_EN) (k.val - 1) = true → k ≠
    1 → s.covered k.val u.toNat = true → ∃ t, exec (.bistSlice k u true true none) s = .next t ∧ t.get BIST_COUNTS__CYCLES = (s.get
    BIST_COUNTS__CYCLES + 1) % 65536 ∧ OnlyRegsBelow evBase [BIST_COUNTS__CYCLES.addr, RED_EVENT__EVT.addr] s t ∧ SameMem s t ∧
    SameVault s t) ∧
  (∀ (s : State) (k : Fin 10) (u : BitVec 16) (b l : Bool) (v : Option (Fin 8)), s.covered k.val u.toNat = false ∨ ((s.get
    BIST_CFG__PERIOD = 0 ∨ nbit (s.get BIST_CFG__KIND_EN) (k.val - 1) = false) ∧ (k ≠ 1 ∨ s.cpState u.toNat ≠ 2)) → exec
    (.bistSlice k u b l v) s = .next s) ∧
  (∀ (s : State) (k : Fin 10) (u : BitVec 16), k ≠ 0 → bistUnit k.val u.toNat = true → s.sys.released = true → s.sliceDue k.val
    u.toNat = true ∨ s.svcUnit 3 = some (k.val, u.toNat) ∨ (s.svcUnit 2 = some (k.val, u.toNat) ∧ s.get RED_SVC_STAT__STEPS = 0) →
    ∃ t, exec .bistSliceAbandoned s = .next t ∧ t.get BIST_COUNTS__ABANDONED = min 255 (s.get BIST_COUNTS__ABANDONED + 1) ∧
    OnlyRegs [BIST_COUNTS__ABANDONED.addr] s t ∧ SameMem s t ∧ SameVault s t) ∧
  (∀ s : State, s.sys.released = false ∨ (s.red.svc = none ∧ (s.get BIST_CFG__PERIOD = 0 ∨ s.get BIST_CFG__KIND_EN = 0) ∧ ∀ n : Fin 5,
    s.cpState n.val ≠ 2) → exec .bistSliceAbandoned s = .next s) ∧
  (∀ (s : State) (w : Fin 4) (n : Fin 5) (d : Fin 4), s.get BIST_CFG__PERIOD ≠ 0 → nbit (s.get BIST_CFG__KIND_EN) 0 = true →
    s.red.rotReq = none → s.get (slotPair 4) ≠ 7 → s.red.takes = [] → s.sys.released = true → (∀ j : Fin 4, j < d → s.get (slotPair
    ((s.red.rot + j.val) % 4)) = 7) → w.val = (s.red.rot + d.val) % 4 → s.get (slotPair w.val) = n.val → ∃ t, exec .rotation s =
    .next t ∧ t.red.rotReq = some w.val ∧ t.red.svcRot = false ∧ t.on (RED_CP_STAT__YIELD_REQ n.val) = true ∧ OnlyRegs
    [(RED_CP_STAT__STATE n.val).addr] s t ∧ SameMem s t ∧ SameVault s t) ∧
  (∀ (s : State), s.get BIST_CFG__PERIOD = 0 ∨ nbit (s.get BIST_CFG__KIND_EN) 0 = false ∨ s.red.rotReq ≠ none ∨ s.get (slotPair 4)
    = 7 ∨ s.red.takes ≠ [] ∨ s.sys.released = false ∨ (∀ w : Fin 4, s.get (slotPair w.val) = 7) → exec .rotation s = .next s) ∧
  (∀ (s : State) (w : Fin 4) (n : Fin 5), s.red.rotReq = some w.val → s.takeDue w.val = false → s.red.svcRot = false → s.get
    (slotPair w.val) = n.val → ∃ t, exec .rotationGraceExpiry s = .next t ∧ t.red.rotReq = none ∧ t.on (RED_CP_STAT__YIELD_REQ
    n.val) = false ∧ OnlyRegsBelow evBase [(RED_CP_STAT__STATE n.val).addr, RED_EVENT__EVT.addr] s t ∧ SameMem s t ∧ SameVault s t) ∧
  (∀ (s : State) (w : Fin 4) (n : Fin 5), s.red.rotReq = some w.val → s.takeDue w.val = false → s.red.svcRot = true → s.red.svc =
    some (5, 0, w.val) → s.red.svcCtx = none → s.get (slotPair w.val) = n.val → ∃ t, exec .rotationGraceExpiry s = .next t ∧
    t.red.rotReq = none ∧ t.on (RED_CP_STAT__YIELD_REQ n.val) = false ∧ t.get RED_SVC_STAT__RESULT = 5 ∧ t.on RED_SVC_STAT__BUSY =
    false ∧ t.red.svc = none ∧ SameMem s t ∧ SameVault s t) ∧
  (∀ (s : State), (∀ w : Nat, s.red.rotReq = some w → s.takeDue w = true) → exec .rotationGraceExpiry s = .next s) ∧
  (∀ (s : State) (k : Fin 3) (r : BitVec 14) (c : Fin 3) (rd : Option (Fin 5)) (i : Nat), r.toNat < [8192, 512, 144].getD k.val 0
    → (c = 1 → max 1 (s.get RED_LIMITS__CE_LIMIT) = 1) → (c = 2 → rd = none) → s.vq = [] → s.fl = [] → i < (spareWords k.val).2 →
    (∀ j ∈ List.range i, s.vaultRd ((spareWords k.val).1 + j) ≠ 0) → s.vaultRd ((spareWords k.val).1 + i) = 0 → ∃ t, exec
    (.rowRepair k r (c, rd)) s = .next t ∧ t.vq =
    [{ word := (spareWords k.val).1 + i, value := (BitVec.ofNat 32 (k.val + 1 + r.toNat * 4 + i * 2 ^ 16)) }] ∧ t.get
    RED_FL_HEAD__OPEN = 0 ∧ (k ≠ 0 ∨ c ≠ 2 → SameMem s t) ∧ SameVault s t) ∧
  (∀ (s : State) (r : BitVec 14) (j : Fin 128), r.toNat < 8192 → s.vaultRd 64 = 0 → s.vq = [] → s.fl = [] → ∃ t, exec (.rowRepair
    0 r (2, none)) s = .next t ∧ t.sramWord (512 * r.toNat + 4 * j.val) = 0 ∧ SameVault s t) ∧
  (∀ (s : State) (k : Fin 3) (r : BitVec 14) (rd : Option (Fin 5)), r.toNat < [8192, 512, 144].getD k.val 0 → s.red.ces = [] → 1 <
    s.get RED_LIMITS__CE_LIMIT → ∃ t, exec (.rowRepair k r (1, rd)) s = .next t ∧ t.red.ces = [(k.val, r.toNat, 1)] ∧ t.vq = s.vq
    ∧ OnlyRegs [] s t ∧ SameMem s t ∧ SameVault s t) ∧
  (∀ (s : State) (r : BitVec 14) (n : Fin 5), r.toNat < 8192 → s.mayMismatch n.val = true → s.vaultRd 64 = 0 → s.vq = [] → s.fl = [] →
    s.on RED_STATUS__DSAFE = false → s.mismatchClass n.val = 2 → ∃ t, exec (.rowRepair 0 r (2, some n)) s = .next t ∧
    t.cpState n.val = 4 ∧ (t.cp n.val).rs = 1 ∧ (t.cp n.val).buf = [] ∧
    t.get (RED_CP_COUNTS__MISMATCH n.val) = min 65535 (s.get (RED_CP_COUNTS__MISMATCH n.val) + 1) ∧ SameVault s t) ∧
  (∀ (s : State) (k : Fin 3) (r : BitVec 14) (c : Fin 3) (rd : Option (Fin 5)), r.toNat < [8192, 512, 144].getD k.val 0 → (c = 1 →
    max 1 (s.get RED_LIMITS__CE_LIMIT) = 1) → (c = 2 → rd = none) → s.vq = [] → s.fl = [] → (∀ j ∈ List.range (spareWords
    k.val).2, s.vaultRd ((spareWords k.val).1 + j) ≠ 0) → ∃ t, exec (.rowRepair k r (c, rd)) s = .next t ∧ t.vq = [] ∧ 0 < t.get
    RED_FL_HEAD__OPEN ∧ OnlyRegsBelow evBase [RED_EVENT__EVT.addr, RED_FL_HEAD] s t ∧ SameMem s t ∧ SameVault s t) ∧
  (∀ (s : State) (k : Fin 3) (r : BitVec 14) (c : Fin 3) (rd : Option (Fin 5)), [8192, 512, 144].getD k.val 0 ≤ r.toNat →
    exec (.rowRepair k r (c, rd)) s = .next s) ∧
  (∀ (s : State) (x : Fin 8), s.on RED_STATUS__DSAFE = false → 1 ≤ s.axState x.val → s.axState x.val ≤ 4 → ∃ t, exec .deviceSafe s
    = .next t ∧ t.on RED_STATUS__DSAFE = true ∧ t.sys.pairsReset = true ∧ t.axState x.val = 5 ∧ t.get (AX_STATE__SAFE_CAUSE x.val)
    = 13 ∧ (t.ax x.val).latched.contains 13 = true ∧ SameMem s t ∧ SameVault s t) ∧
  (∀ (s : State) (x : Fin 8), s.on RED_STATUS__DSAFE = false → 1 ≤ s.axState x.val → s.axState x.val ≤ 4 → ∃ t, exec
    .seqCopyDisagree s = .next t ∧ t.on RED_STATUS__DSAFE = true ∧ t.sys.pairsReset = true ∧ t.axState x.val = 5 ∧ t.get
    (AX_STATE__SAFE_CAUSE x.val) = 13 ∧ (t.ax x.val).latched.contains 13 = true ∧ SameMem s t ∧ SameVault s t) ∧
  (∀ (s : State) (x : Fin 8), s.axState x.val = 0 ∨ s.axState x.val = 6 ∨ s.on RED_STATUS__DSAFE = true → ∃ t, exec .deviceSafe s =
    .next t ∧ t.axState x.val = s.axState x.val ∧ t.on RED_STATUS__DSAFE = true ∧ SameMem s t ∧ SameVault s t) ∧
  (∀ (s : State) (x : Fin 8), s.axState x.val = 0 ∨ s.axState x.val = 6 ∨ s.on RED_STATUS__DSAFE = true → ∃ t, exec
    .seqCopyDisagree s = .next t ∧ t.axState x.val = s.axState x.val ∧ t.on RED_STATUS__DSAFE = true ∧ SameMem s t ∧ SameVault s t) ∧
  (∀ (s : State) (x : Fin 8), s.on RED_STATUS__DSAFE = false → s.axState x.val = 5 → ∃ t, exec .deviceSafe s = .next t ∧ 5 ≤
    t.axState x.val ∧ (t.ax x.val).latched.contains 13 = true ∧ SameMem s t ∧ SameVault s t) ∧
  (∀ (s : State) (c : Fin 256), s.on RED_STATUS__DSAFE = false → s.on (HP_CTX_CTRL__EN c.val) = true → s.ctxPhase c.val ≠ 7 →
    (s.ctx c.val).stop = 0 → (∀ x : Fin 8, s.axState x.val = 0) → ∃ t, exec .deviceSafe s = .next t ∧ t.ctxPhase c.val = 6) ∧
  (∀ (s : State) (n : Fin 16), s.on RED_STATUS__DSAFE = false → s.get (DMA_CH_STATE__STATE n.val) = 1 → ∃ t, exec .deviceSafe s =
    .next t ∧ t.get (DMA_CH_STATE__STATE n.val) = 2 ∧ (t.dma n.val).stop = 1 ∧ SameMem s t ∧ SameVault s t)

/-- The service actions (R411, R412, R416, R417). UNIT_OUT takes a unit out where another stands in, in two steps: an engine, a
lane, a converter, a copy or a pair without a slot at once, a pair with a slot by a takeover; it ends with result 3 where
nothing stands in, and with result 0 for a unit that is out already. REJOIN needs its unit out of service, or ends with result
2: a slice that passes puts the unit in shadow, whose agreeing samples are counted up to REJOIN_SAMPLES, and the last step
returns it; a slice or a sample that fails, or an engine of fewer than six lanes, ends with result 4 and leaves the unit out.
TEST ends with its slice's result, or with 3 where the unit is not covered. FUSE needs the axes at rest, or ends with result 2;
it marks the first repair record to be fused, ends with 3 where 48 are fused and with 0 where none is left. ROTATE asks the
slot's pair to yield, waits for another rotation, and ends with 3 without a reserve and with 2 where no pair holds the slot;
FL_CLEAR removes the resolved records. Each ends the action's BUSY, and where no such action runs changes nothing. -/
def Obligations.ServiceActions : Prop :=
  (∀ (s : State) (k u : Fin 512), s.red.svc = some (1, k.val, u.val) → s.red.svcCtx = none → s.get RED_SVC_STAT__STEPS = 0 →
    s.isOut k.val u.val = false → s.red.unus.contains (k.val, u.val) = false → s.standsIn k.val u.val = true → k.val ≠ 1 ∨ s.slotOf
    u.val = none → ∃ t, exec .unitOut s = .next t ∧ t.red.outs = s.red.outs ++ [(k.val, u.val)] ∧ t.get RED_SVC_STAT__RESULT = 0 ∧
    t.on RED_SVC_STAT__BUSY = false ∧ t.red.svc = none ∧ t.get RED_SVC_STAT__STEPS = min 255 (s.get RED_SVC_STAT__STEPS + 2) ∧
    OnlyRegsBelow 0x2000 [] s t ∧ SameMem s t ∧ SameVault s t) ∧
  (∀ (s : State) (e : Fin 2), s.red.svc = some (1, 2, e.val) → s.red.svcCtx = none → s.get RED_SVC_STAT__STEPS = 0 →
    s.red.outs.contains (2, e.val) = false → s.red.unus.contains (2, e.val) = false → s.get (RED_CE_STAT__STATE (1 - e.val)) = 0 →
    ∃ t, exec .unitOut s = .next t ∧ t.get (RED_CE_STAT__STATE e.val) = 1 ∧ OnlyRegsBelow evBase [(RED_CE_STAT__STATE e.val).addr,
    RED_SVC_STAT__STEPS.addr, RED_EVENT__EVT.addr] s t ∧ SameMem s t ∧ SameVault s t) ∧
  (∀ (s : State) (x : Fin 2), s.red.svc = some (1, 8, x.val) → s.red.svcCtx = none → s.get RED_SVC_STAT__STEPS = 0 →
    s.red.outs.contains (8, x.val) = false → s.red.unus.contains (8, x.val) = false → s.get (pxState (1 - x.val)) ≠ 3 → ∃ t, exec
    .unitOut s = .next t ∧ t.get (pxState x.val) = 3 ∧ SameMem s t ∧ SameVault s t) ∧
  (∀ (s : State) (p : Fin 36), s.red.svc = some (1, 7, p.val) → s.red.svcCtx = none → s.get RED_SVC_STAT__STEPS = 0 →
    s.red.outs.contains (7, p.val) = false → s.red.unus.contains (7, p.val) = false → s.standsIn 7 p.val = true → ∃ t, exec
    .unitOut s = .next t ∧ t.get (fpStat p.val) = 2 ∧ SameMem s t ∧ SameVault s t) ∧
  (∀ (s : State) (n : Fin 5) (w : Fin 4), s.red.svc = some (1, 1, n.val) → s.red.svcCtx = none → s.get RED_SVC_STAT__STEPS = 0 →
    s.red.outs.contains (1, n.val) = false → s.red.unus.contains (1, n.val) = false → s.slotOf n.val = some w.val → s.standsIn 1
    n.val = true → ∃ t, exec .unitOut s = .next t ∧ t.red.takes = s.red.takes ++ [(w.val, false)] ∧ t.red.outs = s.red.outs ++ [(1,
    n.val)] ∧ t.red.svc = s.red.svc ∧ t.get RED_SVC_STAT__STEPS = min 255 (s.get RED_SVC_STAT__STEPS + 1) ∧ OnlyRegsBelow evBase
    [RED_SVC_STAT__STEPS.addr, RED_EVENT__EVT.addr] s t ∧ SameMem s t ∧ SameVault s t) ∧
  (∀ (s : State) (k u : Fin 512), s.red.svc = some (1, k.val, u.val) → s.red.svcCtx = none → s.get RED_SVC_STAT__STEPS = 0 →
    s.isOut k.val u.val = false → s.red.unus.contains (k.val, u.val) = false → s.standsIn k.val u.val = false → ∃ t, exec .unitOut
    s = .next t ∧ t.get RED_SVC_STAT__RESULT = 3 ∧ t.on RED_SVC_STAT__BUSY = false ∧ t.red.svc = none ∧ t.red.outs = s.red.outs ∧
    OnlyRegs [RED_SVC_STAT__STEPS.addr] s t ∧ SameMem s t ∧ SameVault s t) ∧
  (∀ (s : State) (k u : Fin 512), s.red.svc = some (1, k.val, u.val) → s.red.svcCtx = none → s.get RED_SVC_STAT__STEPS = 0 →
    s.isOut k.val u.val = true ∨ s.red.unus.contains (k.val, u.val) = true → ∃ t, exec .unitOut s = .next t ∧ t.get
    RED_SVC_STAT__RESULT = 0 ∧ t.on RED_SVC_STAT__BUSY = false ∧ t.red.svc = none ∧ t.get RED_SVC_STAT__STEPS = min 255 (s.get
    RED_SVC_STAT__STEPS + 2) ∧ t.red.outs = s.red.outs ∧ OnlyRegs [RED_SVC_STAT__STEPS.addr] s t ∧ SameMem s t ∧ SameVault s t) ∧
  (∀ (s : State), s.svcUnit 1 = none ∨ s.get RED_SVC_STAT__STEPS ≠ 0 → exec .unitOut s = .next s) ∧
  (∀ (s : State) (k u : Fin 512) (b : Bool) (q : BitVec 16), s.red.svc = some (2, k.val, u.val) → s.red.svcCtx = none → s.isOut
    k.val u.val = true → s.red.unus.contains (k.val, u.val) = false ∨ k.val = 9 → s.get RED_SVC_STAT__STEPS = 0 → k.val ≠ 2 ∨ 6 ≤
    s.lanesOk u.val → ∃ t, exec (.rejoin true (b, q)) s = .next t ∧ t.red.svc = s.red.svc ∧ t.get RED_SVC_STAT__STEPS = min 255
    (s.get RED_SVC_STAT__STEPS + 1) ∧ t.red.outs = s.red.outs ∧ (k.val = 2 → u.val < 2 → t.get (RED_CE_STAT__STATE u.val) = 3) ∧
    (k.val = 1 → u.val < 5 → t.cpState u.val = 3) ∧ (k.val = 7 → u.val < 36 → t.get (fpStat u.val) = 3) ∧ SameMem s t ∧ SameVault
    s t) ∧
  (∀ (s : State) (k u : Fin 512) (b : Bool) (q : BitVec 16), s.red.svc = some (2, k.val, u.val) → s.red.svcCtx = none →
    s.get RED_SVC_STAT__STEPS = 1 → ∃ t, exec (.rejoin b (true, q)) s = .next t ∧ t.red.shadow = s.red.shadow + q.toNat ∧
    t.get RED_SVC_STAT__STEPS = (if max 1 (s.get RED_LIMITS__REJOIN_SAMPLES) ≤ s.red.shadow + q.toNat then 2 else 1) ∧
    t.red.svc = s.red.svc ∧ t.red.outs = s.red.outs ∧ OnlyRegs [RED_SVC_STAT__STEPS.addr] s t ∧ SameMem s t ∧ SameVault s t) ∧
  (∀ (s : State) (k u : Fin 512) (b : Bool) (q : BitVec 16), s.red.svc = some (2, k.val, u.val) → s.red.svcCtx = none → s.isOut
    k.val u.val = true → s.red.unus.contains (k.val, u.val) = false ∨ k.val = 9 → s.get RED_SVC_STAT__STEPS = 0 → s.fl = [] → ∃ t,
    exec (.rejoin false (b, q)) s = .next t ∧ t.get RED_SVC_STAT__RESULT = 4 ∧ t.on RED_SVC_STAT__BUSY = false ∧ t.red.svc = none ∧
    t.red.outs = s.red.outs ∧ (k.val ≠ 12 → t.on BIST_LAST_FAIL__VALID = true) ∧ SameMem s t ∧ SameVault s t) ∧
  (∀ (s : State) (e : Fin 2) (a b : Bool) (q : BitVec 16), s.red.svc = some (2, 2, e.val) → s.red.svcCtx = none → s.red.outs =
    [(2, e.val)] → s.red.unus.contains (2, e.val) = false → s.get RED_SVC_STAT__STEPS = 0 → s.lanesOk e.val < 6 → s.fl = [] → ∃ t,
    exec (.rejoin a (b, q)) s = .next t ∧ t.get RED_SVC_STAT__RESULT = 4 ∧ t.on RED_SVC_STAT__BUSY = false ∧ t.red.svc = none ∧
    t.red.outs = s.red.outs ∧ SameMem s t ∧ SameVault s t) ∧
  (∀ (s : State) (k u : Fin 512) (b c : Bool) (q : BitVec 16), s.red.svc = some (2, k.val, u.val) → s.red.svcCtx = none → s.isOut
    k.val u.val = true → s.red.unus.contains (k.val, u.val) = false ∨ k.val = 9 → 2 ≤ s.get RED_SVC_STAT__STEPS → ∃ t, exec
    (.rejoin b (c, q)) s = .next t ∧ t.get RED_SVC_STAT__RESULT = 0 ∧ t.on RED_SVC_STAT__BUSY = false ∧ t.red.svc = none ∧
    t.red.outs.contains (k.val, u.val) = false ∧ t.get RED_SVC_STAT__STEPS = min 255 (s.get RED_SVC_STAT__STEPS + 1) ∧
    OnlyRegsBelow 0x2000 [] s t ∧ SameMem s t ∧ SameVault s t) ∧
  (∀ (s : State) (e : Fin 2) (b c : Bool) (q : BitVec 16), s.red.svc = some (2, 2, e.val) → s.red.svcCtx = none → s.red.outs =
    [(2, e.val)] → s.red.unus.contains (2, e.val) = false → 2 ≤ s.get RED_SVC_STAT__STEPS → ∃ t, exec (.rejoin b (c, q)) s = .next t
    ∧ t.get (RED_CE_STAT__STATE e.val) = 0 ∧ t.red.outs = [] ∧ OnlyRegsBelow evBase [(RED_CE_STAT__STATE e.val).addr,
    RED_SVC_STAT__STEPS.addr, RED_FL_HEAD, RED_EVENT__EVT.addr] s t ∧ SameMem s t ∧ SameVault s t) ∧
  (∀ (s : State) (n : Fin 5) (b c : Bool) (q : BitVec 16), s.red.svc = some (2, 1, n.val) → s.red.svcCtx = none →
    s.red.outs.contains (1, n.val) = true → s.red.unus.contains (1, n.val) = false → 2 ≤ s.get RED_SVC_STAT__STEPS → s.get
    (slotPair 4) = 7 → (∀ z : Fin 5, s.cpState z.val ≠ 1) → ∃ t, exec (.rejoin b (c, q)) s = .next t ∧ t.cpState n.val = 1 ∧ t.get
    (slotPair 4) = n.val ∧ t.on RED_STATUS__NO_RESERVE = false ∧ SameMem s t ∧ SameVault s t) ∧
  (∀ (s : State) (b c : Bool) (q : BitVec 16), s.red.svc = some (2, 9, 0) → s.red.svcCtx = none → s.on RED_STATUS__DMA_OUT = true
    → 2 ≤ s.get RED_SVC_STAT__STEPS → ∃ t, exec (.rejoin b (c, q)) s = .next t ∧ t.on RED_STATUS__DMA_OUT = false ∧ (∀ n : Fin 16,
    t.get (DMA_CH_STATE__STATE n.val) = 0) ∧ SameMem s t ∧ SameVault s t) ∧
  (∀ (s : State) (k u : Fin 512) (b : Bool) (q : BitVec 16), s.red.svc = some (2, k.val, u.val) → s.red.svcCtx = none → s.isOut
    k.val u.val = true → s.red.unus.contains (k.val, u.val) = false ∨ k.val = 9 → s.get RED_SVC_STAT__STEPS = 1 → s.fl = [] → ∃ t,
    exec (.rejoin b (false, q)) s = .next t ∧ t.get RED_SVC_STAT__RESULT = 4 ∧ t.on RED_SVC_STAT__BUSY = false ∧ t.red.svc = none ∧
    t.red.outs = s.red.outs ∧ (k.val = 2 → u.val < 2 → t.get (RED_CE_STAT__STATE u.val) ≠ 3) ∧ OnlyRegsBelow evBase
    [(RED_CE_STAT__STATE u.val).addr, (RED_CP_STAT__STATE u.val).addr, RED_SLOTS, RED_STATUS__USABLE.addr, (fpStat u.val).addr,
    FM_STATUS__SHADOW.addr, RED_SVC_STAT__STEPS.addr, RED_EVENT__EVT.addr, RED_FL_HEAD] s t ∧ SameMem s t ∧ SameVault s t) ∧
  (∀ (s : State) (k u : Fin 512) (a b : Bool) (q : BitVec 16), s.red.svc = some (2, k.val, u.val) → s.red.svcCtx = none → s.get
    RED_SVC_STAT__STEPS = 0 → s.isOut k.val u.val = false ∨ (s.red.unus.contains (k.val, u.val) = true ∧ k.val ≠ 9) → ∃ t, exec
    (.rejoin a (b, q)) s = .next t ∧ t.get RED_SVC_STAT__RESULT = 2 ∧ t.on RED_SVC_STAT__BUSY = false ∧ t.red.svc = none ∧ t.red.outs
    = s.red.outs ∧ SameMem s t ∧ SameVault s t) ∧
  (∀ (s : State) (a b : Bool) (q : BitVec 16), s.svcUnit 2 = none → exec (.rejoin a (b, q)) s = .next s) ∧
  (∀ (s : State) (k u : Fin 8192), s.red.svc = some (3, k.val, u.val) → s.red.svcCtx = none → k.val ≠ 1 → s.covered k.val u.val =
    true → ∃ t, exec (.test true) s = .next t ∧ t.get RED_SVC_STAT__RESULT = 0 ∧ t.on RED_SVC_STAT__BUSY = false ∧ t.red.svc = none
    ∧ t.get RED_SVC_STAT__STEPS = min 255 (s.get RED_SVC_STAT__STEPS + 1) ∧ OnlyRegs [RED_SVC_STAT__STEPS.addr] s t ∧ SameMem s t ∧
    SameVault s t) ∧
  (∀ (s : State) (k u : Fin 8192), s.red.svc = some (3, k.val, u.val) → s.red.svcCtx = none → 4 ≤ k.val → k.val ≤ 6 → s.covered
    k.val u.val = true → s.fl = [] → ∃ t, exec (.test false) s = .next t ∧ t.get RED_SVC_STAT__RESULT = 4 ∧ t.on RED_SVC_STAT__BUSY
    = false ∧ t.red.svc = none ∧ t.get RED_SVC_STAT__STEPS = min 255 (s.get RED_SVC_STAT__STEPS + 1) ∧ t.get BIST_LAST_FAIL__KIND =
    k.val ∧ t.get BIST_LAST_FAIL__UNIT = u.val ∧ t.on BIST_LAST_FAIL__VALID = true ∧ t.get RED_FL_HEAD__OPEN = 1 ∧ SameMem s t ∧
    SameVault s t) ∧
  (∀ (s : State) (n : Fin 5), s.red.svc = some (3, 1, n.val) → s.red.svcCtx = none → s.covered 1 n.val = true → s.cpState n.val = 1
    → s.red.unus = [] → s.get (RED_CP_STAT__I_WAYS n.val) ≠ 0 → s.get (RED_CP_STAT__D_WAYS n.val) ≠ 0 → ∃ t, exec (.test true) s =
    .next t ∧ t.get RED_SVC_STAT__RESULT = 0 ∧ t.on RED_SVC_STAT__BUSY = false ∧ t.red.svc = none ∧ t.cpState n.val = 1 ∧ OnlyRegs
    [RED_SVC_STAT__STEPS.addr] s t ∧ SameMem s t ∧ SameVault s t) ∧
  (∀ (s : State) (k u : Fin 8192) (b : Bool), s.red.svc = some (3, k.val, u.val) → s.red.svcCtx = none → s.covered k.val u.val =
    false → ∃ t, exec (.test b) s = .next t ∧ t.get RED_SVC_STAT__RESULT = 3 ∧ t.on RED_SVC_STAT__BUSY = false ∧ t.red.svc = none ∧
    OnlyRegs [RED_SVC_STAT__STEPS.addr] s t ∧ SameMem s t ∧ SameVault s t) ∧
  (∀ (s : State) (b : Bool), s.svcUnit 3 = none → exec (.test b) s = .next s) ∧
  (∀ (s : State) (k : Fin 512) (r : Fin 4), s.red.svc = some (4, k.val, r.val) → s.red.svcCtx = none → (∃ x : Fin 8, s.axLive x.val
    = true) ∨ (∃ m : Fin 24, s.legSwitching m.val = true) → ∃ t, exec .fuse s = .next t ∧ t.get RED_SVC_STAT__RESULT = 2 ∧ t.on
    RED_SVC_STAT__BUSY = false ∧ t.red.svc = none ∧ t.vq = s.vq ∧ OnlyRegs [RED_SVC_STAT__STEPS.addr] s t ∧ SameMem s t ∧ SameVault
    s t) ∧
  (∀ (s : State) (k : Fin 512) (r : Fin 4) (i : Fin 88), s.red.svc = some (4, k.val, r.val) → s.red.svcCtx = none → (∀ x : Fin 8,
    s.axLive x.val = false) → (∀ m : Fin 24, s.legSwitching m.val = false) → s.red.fuse.length < 48 → s.vq = [] → fieldGet
    (s.vaultRd (64 + i.val)) 0 2 ≠ 0 ∧ fieldGet (s.vaultRd (64 + i.val)) 23 1 = 0 ∧ s.red.fuse.contains i.val = false ∧ (r.val = 0
    ∨ fieldGet (s.vaultRd (64 + i.val)) 0 2 = r.val) → (∀ j ∈ List.range i.val, ¬ (fieldGet (s.vaultRd (64 + j)) 0 2 ≠ 0 ∧
    fieldGet (s.vaultRd (64 + j)) 23 1 = 0 ∧ s.red.fuse.contains j = false ∧ (r.val = 0 ∨ fieldGet (s.vaultRd (64 + j)) 0 2 =
    r.val))) → ∃ t, exec .fuse s = .next t ∧ t.red.fuse = s.red.fuse ++ [i.val] ∧ t.vq =
    [{ word := 64 + i.val, value := (fieldSet (s.vaultRd (64 + i.val)) 23 1 1) }] ∧ t.get RED_ARRAYS__FUSE_FREE = 47 -
    s.red.fuse.length ∧ t.red.svc = s.red.svc ∧ t.get RED_SVC_STAT__STEPS = min 255 (s.get RED_SVC_STAT__STEPS + 1) ∧ SameMem s t
    ∧ SameVault s t) ∧
  (∀ (s : State) (k : Fin 512) (r : Fin 4), s.red.svc = some (4, k.val, r.val) → s.red.svcCtx = none → (∀ x : Fin 8, s.axLive x.val
    = false) → (∀ m : Fin 24, s.legSwitching m.val = false) → 48 ≤ s.red.fuse.length → (∃ i ∈ List.range 88, fieldGet (s.vaultRd
    (64 + i)) 0 2 ≠ 0 ∧ fieldGet (s.vaultRd (64 + i)) 23 1 = 0 ∧ s.red.fuse.contains i = false ∧ (r.val = 0 ∨ fieldGet (s.vaultRd
    (64 + i)) 0 2 = r.val)) → ∃ t, exec .fuse s = .next t ∧ t.get RED_SVC_STAT__RESULT = 3 ∧ t.on RED_SVC_STAT__BUSY = false ∧
    t.red.svc = none ∧ t.vq = s.vq ∧ OnlyRegs [RED_SVC_STAT__STEPS.addr] s t ∧ SameMem s t ∧ SameVault s t) ∧
  (∀ (s : State) (k : Fin 512) (r : Fin 4), s.red.svc = some (4, k.val, r.val) → s.red.svcCtx = none → (∀ x : Fin 8, s.axLive x.val
    = false) → (∀ m : Fin 24, s.legSwitching m.val = false) → (∀ i ∈ List.range 88, ¬ (fieldGet (s.vaultRd (64 + i)) 0 2 ≠ 0 ∧
    fieldGet (s.vaultRd (64 + i)) 23 1 = 0 ∧ s.red.fuse.contains i = false ∧ (r.val = 0 ∨ fieldGet (s.vaultRd (64 + i)) 0 2 =
    r.val))) → ∃ t, exec .fuse s = .next t ∧ t.get RED_SVC_STAT__RESULT = 0 ∧ t.on RED_SVC_STAT__BUSY = false ∧ t.red.svc = none ∧
    t.vq = s.vq ∧ OnlyRegs [RED_SVC_STAT__STEPS.addr] s t ∧ SameMem s t ∧ SameVault s t) ∧
  (∀ (s : State), s.svcUnit 4 = none → exec .fuse s = .next s) ∧
  (∀ (s : State) (k : Fin 512) (w : Fin 4) (n : Fin 5), s.red.svc = some (5, k.val, w.val) → s.red.rotReq = none → s.get (slotPair
    4) ≠ 7 → s.red.takes = [] → s.get (slotPair w.val) = n.val → ∃ t, exec .rotate s = .next t ∧ t.red.rotReq = some w.val ∧
    t.red.svcRot = true ∧ t.on (RED_CP_STAT__YIELD_REQ n.val) = true ∧ OnlyRegs [(RED_CP_STAT__STATE n.val).addr] s t ∧ SameMem s t
    ∧ SameVault s t) ∧
  (∀ (s : State) (k : Fin 512) (w : Fin 4), s.red.svc = some (5, k.val, w.val) → s.red.svcCtx = none → s.red.rotReq = none →
    s.reserveFree = false → ∃ t, exec .rotate s = .next t ∧ t.get RED_SVC_STAT__RESULT = 3 ∧ t.on RED_SVC_STAT__BUSY = false ∧
    t.red.svc = none ∧ OnlyRegs [RED_SVC_STAT__STEPS.addr] s t ∧ SameMem s t ∧ SameVault s t) ∧
  (∀ (s : State) (k : Fin 512) (w : Fin 4), s.red.svc = some (5, k.val, w.val) → s.red.svcCtx = none → s.red.rotReq = none →
    s.reserveFree = true → s.get (slotPair w.val) = 7 → ∃ t, exec .rotate s = .next t ∧ t.get RED_SVC_STAT__RESULT = 2 ∧ t.on
    RED_SVC_STAT__BUSY = false ∧ t.red.svc = none ∧ OnlyRegs [RED_SVC_STAT__STEPS.addr] s t ∧ SameMem s t ∧ SameVault s t) ∧
  (∀ (s : State), s.svcUnit 5 = none ∨ s.red.rotReq ≠ none → exec .rotate s = .next s) ∧
  (∀ (s : State) (k u : Nat), s.red.svc = some (6, k, u) → ∃ t, exec .flClear s = .next t ∧ t.fl = s.fl.filter (fun r => r.st != 1)
    ∧ t.get RED_SVC_STAT__RESULT = 0 ∧ t.on RED_SVC_STAT__BUSY = false ∧ t.red.svc = none ∧ OnlyRegsBelow 0x2000 [] s t ∧ SameMem s
    t ∧ SameVault s t) ∧
  (∀ (s : State), s.svcUnit 6 = none → exec .flClear s = .next s)

/-- Links, time alignment and discovery (R445 to R451, R457 to R459). A port that trains comes up, in use or held where
admission was refused, and admitted where the device is joined and its table admits the link; a link that goes down trains
again, is no longer admitted, forgets its queue and ends the alignment where it led to the parent, and no other. A measurement
on an up link while PLL-B is locked and the power state is READY or RUN gives DELAY and TOO_LONG with the port's asymmetry; on
the link to the parent it gives the offset too, which steps the time base once at the join or sets its slew, and 16 offsets
within 2 ns in a row set ALIGNED and 4 above 5 ns clear it, and no other number changes it. The root, once released, closes a
discovery round on DISCOVERY_SEND and starts the next; a frame of another domain is discarded and shown; a device answers a hop
frame with its serial, budget, hop count and ports and passes it on with its own end of the link, a reply goes on whole towards
the root, which keeps the latest of each device and notes a second root, waking at a change, and a table is counted where it
came from the port to the root. A link whose TOO_LONG changes, and one whose far end a hop frame names, is admitted anew. Three
rounds that agree put the table in effect where it differs: a device named in it takes its node, hops, parent and admission and
joins or is refused with the table's code, and one that is not named, or that hears no root, is refused with code 4. A broken
ring's device takes the neighbour that still leads to the root as its parent and ends its alignment. Each command changes
nothing in every other case. -/
def Obligations.SeamLinks : Prop :=
  (∀ (s : State) (p : Fin 3), s.get (SEAM_PORT_STAT__LINK p.val) = 1 → ∃ t, exec (.seamLinkUp p) s = .next t ∧ t.get
    (SEAM_PORT_STAT__LINK p.val) = (if s.get SEAM_STATUS__REFUSE = 0 then 2 else 3) ∧ t.on (SEAM_PORT_STAT__ADMITTED p.val) =
    (s.on SEAM_STATUS__JOINED && t.linkAdmitted s.seam.cur (s.get SEAM_STATUS__NODE) p.val) ∧ OnlyRegsBelow evBase
    [(SEAM_PORT_STAT__LINK p.val).addr, SEAM_EVENT] s t ∧ SameMem s t ∧ SameVault s t) ∧
  (∀ (s : State) (p : Fin 3), s.get (SEAM_PORT_STAT__LINK p.val) ≠ 1 → exec (.seamLinkUp p) s = .next s) ∧
  (∀ (s : State) (p : Fin 3), s.seamUp p.val = true → s.on SEAM_STATUS__JOINED = true → s.on SEAM_CFG__ROOT = false → s.get
    SEAM_STATUS__PARENT = p.val → ∃ t, exec (.seamLinkDown p) s = .next t ∧ t.get (SEAM_PORT_STAT__LINK p.val) = 1 ∧ t.on
    (SEAM_PORT_STAT__ADMITTED p.val) = false ∧ t.get (SEAM_PORT_CNT__DOWN p.val) = min 65535 (s.get (SEAM_PORT_CNT__DOWN p.val) +
    1) ∧ t.sp p.val = {} ∧ t.on SEAM_STATUS__ALIGNED = false ∧ t.sys.slew = 0 ∧ OnlyRegsBelow evBase [(SEAM_PORT_STAT__LINK
    p.val).addr, (SEAM_PORT_CNT__DOWN p.val).addr, SEAM_STATUS__JOINED.addr, SEAM_EVENT] s t ∧ SameMem s t ∧ SameVault s t) ∧
  (∀ (s : State) (p : Fin 3), s.seamUp p.val = true → (s.on SEAM_STATUS__JOINED = false ∨ s.on SEAM_CFG__ROOT = true ∨ s.get
    SEAM_STATUS__PARENT ≠ p.val) → ∃ t, exec (.seamLinkDown p) s = .next t ∧ t.get (SEAM_PORT_STAT__LINK p.val) = 1 ∧ t.on
    (SEAM_PORT_STAT__ADMITTED p.val) = false ∧ t.get (SEAM_PORT_CNT__DOWN p.val) = min 65535 (s.get (SEAM_PORT_CNT__DOWN p.val) +
    1) ∧ t.sp p.val = {} ∧ t.sys.slew = s.sys.slew ∧ OnlyRegsBelow evBase [(SEAM_PORT_STAT__LINK p.val).addr, (SEAM_PORT_CNT__DOWN
    p.val).addr, SEAM_EVENT] s t ∧ SameMem s t ∧ SameVault s t) ∧
  (∀ (s : State) (p : Fin 3), s.seamUp p.val = false → exec (.seamLinkDown p) s = .next s) ∧
  (∀ (s : State) (p : Fin 3) (t1 t2 t3 t4 : BitVec 80), s.seamUp p.val = true → s.on CLK_STATUS__PLLB_LOCK = true → 2 ≤ s.get
    PWR_STATE__STATE → (s.on SEAM_STATUS__JOINED = false ∨ s.on SEAM_CFG__ROOT = true ∨ s.get SEAM_STATUS__PARENT ≠ p.val) → ∃ t,
    exec (.linkMeasurement p t1 t2 t3 t4) s = .next t ∧ t.on (SEAM_PORT_STAT__TOO_LONG p.val) = decide (400 < (8 * (((t4.toNat :
    Int) - t1.toNat) - ((t3.toNat : Int) - t2.toNat)) + 5 * sgn 8 (s.get (SEAM_PORT_CFG__ASYM p.val)))) ∧ (∃ k ∈ [(8 * (((t4.toNat
    : Int) - t1.toNat) - ((t3.toNat : Int) - t2.toNat)) + 5 * sgn 8 (s.get (SEAM_PORT_CFG__ASYM p.val))) / 5, (8 * (((t4.toNat :
    Int) - t1.toNat) - ((t3.toNat : Int) - t2.toNat)) + 5 * sgn 8 (s.get (SEAM_PORT_CFG__ASYM p.val))) / 5 + 1], t.get
    (SEAM_PORT_STAT__DELAY p.val) = (clampI 0 255 k).toNat ∧ (5 ∣ (8 * (((t4.toNat : Int) - t1.toNat) - ((t3.toNat : Int) -
    t2.toNat)) + 5 * sgn 8 (s.get (SEAM_PORT_CFG__ASYM p.val))) → k = (8 * (((t4.toNat : Int) - t1.toNat) - ((t3.toNat : Int) -
    t2.toNat)) + 5 * sgn 8 (s.get (SEAM_PORT_CFG__ASYM p.val))) / 5)) ∧ t.sys.slew = s.sys.slew ∧
    t.on (SEAM_PORT_STAT__ADMITTED p.val) = (if t.on (SEAM_PORT_STAT__TOO_LONG p.val) = s.on (SEAM_PORT_STAT__TOO_LONG p.val)
      then s.on (SEAM_PORT_STAT__ADMITTED p.val)
      else s.on SEAM_STATUS__JOINED && t.linkAdmitted s.seam.cur (s.get SEAM_STATUS__NODE) p.val) ∧
    OnlyRegs [(SEAM_PORT_STAT__DELAY p.val).addr] s t ∧ SameMem s t ∧ SameVault s t) ∧
  (∀ (s : State) (p : Fin 3) (t1 t2 t3 t4 : BitVec 80), s.seamUp p.val = true → s.on CLK_STATUS__PLLB_LOCK = true → 2 ≤ s.get
    PWR_STATE__STATE → s.on SEAM_STATUS__JOINED = true → s.on SEAM_CFG__ROOT = false → s.get SEAM_STATUS__PARENT = p.val → (s.on
    SEAM_CFG__STEP_EN = true ∧ s.seam.stepped = false ∧ 20000 < (16 * ((t2.toNat : Int) - t1.toNat) - (8 * (((t4.toNat : Int) -
    t1.toNat) - ((t3.toNat : Int) - t2.toNat)) + 5 * sgn 8 (s.get (SEAM_PORT_CFG__ASYM p.val)))) ∧ s.gridAxis = false) → ∃ t, exec
    (.linkMeasurement p t1 t2 t3 t4) s = .next t ∧ t.on (SEAM_PORT_STAT__TOO_LONG p.val) = decide (400 < (8 * (((t4.toNat : Int) -
    t1.toNat) - ((t3.toNat : Int) - t2.toNat)) + 5 * sgn 8 (s.get (SEAM_PORT_CFG__ASYM p.val)))) ∧ (∃ k ∈ [(8 * (((t4.toNat : Int)
    - t1.toNat) - ((t3.toNat : Int) - t2.toNat)) + 5 * sgn 8 (s.get (SEAM_PORT_CFG__ASYM p.val))) / 5, (8 * (((t4.toNat : Int) -
    t1.toNat) - ((t3.toNat : Int) - t2.toNat)) + 5 * sgn 8 (s.get (SEAM_PORT_CFG__ASYM p.val))) / 5 + 1], t.get
    (SEAM_PORT_STAT__DELAY p.val) = (clampI 0 255 k).toNat ∧ (5 ∣ (8 * (((t4.toNat : Int) - t1.toNat) - ((t3.toNat : Int) -
    t2.toNat)) + 5 * sgn 8 (s.get (SEAM_PORT_CFG__ASYM p.val))) → k = (8 * (((t4.toNat : Int) - t1.toNat) - ((t3.toNat : Int) -
    t2.toNat)) + 5 * sgn 8 (s.get (SEAM_PORT_CFG__ASYM p.val))) / 5)) ∧ (∃ k ∈ [(16 * ((t2.toNat : Int) - t1.toNat) - (8 *
    (((t4.toNat : Int) - t1.toNat) - ((t3.toNat : Int) - t2.toNat)) + 5 * sgn 8 (s.get (SEAM_PORT_CFG__ASYM p.val)))) * 8 / 25, (16
    * ((t2.toNat : Int) - t1.toNat) - (8 * (((t4.toNat : Int) - t1.toNat) - ((t3.toNat : Int) - t2.toNat)) + 5 * sgn 8 (s.get
    (SEAM_PORT_CFG__ASYM p.val)))) * 8 / 25 + 1], sgn 32 (t.get SEAM_TIME_OFS__OFFSET) = clampI (-2147483648) 2147483647 k ∧ (25 ∣
    (16 * ((t2.toNat : Int) - t1.toNat) - (8 * (((t4.toNat : Int) - t1.toNat) - ((t3.toNat : Int) - t2.toNat)) + 5 * sgn 8 (s.get
    (SEAM_PORT_CFG__ASYM p.val)))) * 8 → k = (16 * ((t2.toNat : Int) - t1.toNat) - (8 * (((t4.toNat : Int) - t1.toNat) - ((t3.toNat
    : Int) - t2.toNat)) + 5 * sgn 8 (s.get (SEAM_PORT_CFG__ASYM p.val)))) * 8 / 25)) ∧ t.sys.timeAcc = s.sys.timeAcc + (16 *
    ((t2.toNat : Int) - t1.toNat) - (8 * (((t4.toNat : Int) - t1.toNat) - ((t3.toNat : Int) - t2.toNat)) + 5 * sgn 8 (s.get
    (SEAM_PORT_CFG__ASYM p.val)))).toNat * 33554432 / 100 ∧ t.seam.stepped = true ∧ t.sys.slew = s.sys.slew ∧ t.on
    SEAM_STATUS__ALIGNED = s.on SEAM_STATUS__ALIGNED ∧ OnlyRegsBelow evBase [(SEAM_PORT_STAT__DELAY p.val).addr,
    SEAM_TIME_OFS__OFFSET.addr, SEAM_STATUS__ALIGNED.addr, SEAM_EVENT] s t ∧ SameMem s t ∧ SameVault s t) ∧
  (∀ (s : State) (p : Fin 3) (t1 t2 t3 t4 : BitVec 80), s.seamUp p.val = true → s.on CLK_STATUS__PLLB_LOCK = true → 2 ≤ s.get
    PWR_STATE__STATE → s.on SEAM_STATUS__JOINED = true → s.on SEAM_CFG__ROOT = false → s.get SEAM_STATUS__PARENT = p.val → ¬ (s.on
    SEAM_CFG__STEP_EN = true ∧ s.seam.stepped = false ∧ 20000 < (16 * ((t2.toNat : Int) - t1.toNat) - (8 * (((t4.toNat : Int) -
    t1.toNat) - ((t3.toNat : Int) - t2.toNat)) + 5 * sgn 8 (s.get (SEAM_PORT_CFG__ASYM p.val)))) ∧ s.gridAxis = false) → ∃ t, exec
    (.linkMeasurement p t1 t2 t3 t4) s = .next t ∧ t.on (SEAM_PORT_STAT__TOO_LONG p.val) = decide (400 < (8 * (((t4.toNat : Int) -
    t1.toNat) - ((t3.toNat : Int) - t2.toNat)) + 5 * sgn 8 (s.get (SEAM_PORT_CFG__ASYM p.val)))) ∧ (∃ k ∈ [(8 * (((t4.toNat : Int)
    - t1.toNat) - ((t3.toNat : Int) - t2.toNat)) + 5 * sgn 8 (s.get (SEAM_PORT_CFG__ASYM p.val))) / 5, (8 * (((t4.toNat : Int) -
    t1.toNat) - ((t3.toNat : Int) - t2.toNat)) + 5 * sgn 8 (s.get (SEAM_PORT_CFG__ASYM p.val))) / 5 + 1], t.get
    (SEAM_PORT_STAT__DELAY p.val) = (clampI 0 255 k).toNat ∧ (5 ∣ (8 * (((t4.toNat : Int) - t1.toNat) - ((t3.toNat : Int) -
    t2.toNat)) + 5 * sgn 8 (s.get (SEAM_PORT_CFG__ASYM p.val))) → k = (8 * (((t4.toNat : Int) - t1.toNat) - ((t3.toNat : Int) -
    t2.toNat)) + 5 * sgn 8 (s.get (SEAM_PORT_CFG__ASYM p.val))) / 5)) ∧ (∃ k ∈ [(16 * ((t2.toNat : Int) - t1.toNat) - (8 *
    (((t4.toNat : Int) - t1.toNat) - ((t3.toNat : Int) - t2.toNat)) + 5 * sgn 8 (s.get (SEAM_PORT_CFG__ASYM p.val)))) * 8 / 25, (16
    * ((t2.toNat : Int) - t1.toNat) - (8 * (((t4.toNat : Int) - t1.toNat) - ((t3.toNat : Int) - t2.toNat)) + 5 * sgn 8 (s.get
    (SEAM_PORT_CFG__ASYM p.val)))) * 8 / 25 + 1], sgn 32 (t.get SEAM_TIME_OFS__OFFSET) = clampI (-2147483648) 2147483647 k ∧ (25 ∣
    (16 * ((t2.toNat : Int) - t1.toNat) - (8 * (((t4.toNat : Int) - t1.toNat) - ((t3.toNat : Int) - t2.toNat)) + 5 * sgn 8 (s.get
    (SEAM_PORT_CFG__ASYM p.val)))) * 8 → k = (16 * ((t2.toNat : Int) - t1.toNat) - (8 * (((t4.toNat : Int) - t1.toNat) - ((t3.toNat
    : Int) - t2.toNat)) + 5 * sgn 8 (s.get (SEAM_PORT_CFG__ASYM p.val)))) * 8 / 25)) ∧ (∃ k ∈ [(16 * ((t2.toNat : Int) - t1.toNat)
    - (8 * (((t4.toNat : Int) - t1.toNat) - ((t3.toNat : Int) - t2.toNat)) + 5 * sgn 8 (s.get (SEAM_PORT_CFG__ASYM p.val)))) * 8 /
    625, (16 * ((t2.toNat : Int) - t1.toNat) - (8 * (((t4.toNat : Int) - t1.toNat) - ((t3.toNat : Int) - t2.toNat)) + 5 * sgn 8
    (s.get (SEAM_PORT_CFG__ASYM p.val)))) * 8 / 625 + 1], t.sys.slew = clampI (-10485) 10485 k ∧ (625 ∣ (16 * ((t2.toNat : Int) -
    t1.toNat) - (8 * (((t4.toNat : Int) - t1.toNat) - ((t3.toNat : Int) - t2.toNat)) + 5 * sgn 8 (s.get (SEAM_PORT_CFG__ASYM
    p.val)))) * 8 → k = (16 * ((t2.toNat : Int) - t1.toNat) - (8 * (((t4.toNat : Int) - t1.toNat) - ((t3.toNat : Int) - t2.toNat))
    + 5 * sgn 8 (s.get (SEAM_PORT_CFG__ASYM p.val)))) * 8 / 625)) ∧ t.sys.timeAcc = s.sys.timeAcc ∧ OnlyRegsBelow evBase
    [(SEAM_PORT_STAT__DELAY p.val).addr, SEAM_TIME_OFS__OFFSET.addr, SEAM_STATUS__ALIGNED.addr, SEAM_EVENT] s t ∧ SameMem s t ∧
    SameVault s t) ∧
  (∀ (s : State) (p : Fin 3) (t1 t2 t3 t4 : BitVec 80), s.seamUp p.val = true → s.on CLK_STATUS__PLLB_LOCK = true → 2 ≤ s.get
    PWR_STATE__STATE → s.on SEAM_STATUS__JOINED = true → s.on SEAM_CFG__ROOT = false → s.get SEAM_STATUS__PARENT = p.val → ¬ (s.on
    SEAM_CFG__STEP_EN = true ∧ s.seam.stepped = false ∧ 20000 < (16 * ((t2.toNat : Int) - t1.toNat) - (8 * (((t4.toNat : Int) -
    t1.toNat) - ((t3.toNat : Int) - t2.toNat)) + 5 * sgn 8 (s.get (SEAM_PORT_CFG__ASYM p.val)))) ∧ s.gridAxis = false) → s.on
    SEAM_STATUS__ALIGNED = false → (16 * ((t2.toNat : Int) - t1.toNat) - (8 * (((t4.toNat : Int) - t1.toNat) - ((t3.toNat : Int) -
    t2.toNat)) + 5 * sgn 8 (s.get (SEAM_PORT_CFG__ASYM p.val)))).natAbs ≤ 40 → 15 ≤ s.seam.good → ∃ t, exec (.linkMeasurement p t1
    t2 t3 t4) s = .next t ∧ t.on SEAM_STATUS__ALIGNED = true ∧ SameMem s t ∧ SameVault s t) ∧
  (∀ (s : State) (p : Fin 3) (t1 t2 t3 t4 : BitVec 80), s.seamUp p.val = true → s.on CLK_STATUS__PLLB_LOCK = true → 2 ≤ s.get
    PWR_STATE__STATE → s.on SEAM_STATUS__JOINED = true → s.on SEAM_CFG__ROOT = false → s.get SEAM_STATUS__PARENT = p.val → ¬ (s.on
    SEAM_CFG__STEP_EN = true ∧ s.seam.stepped = false ∧ 20000 < (16 * ((t2.toNat : Int) - t1.toNat) - (8 * (((t4.toNat : Int) -
    t1.toNat) - ((t3.toNat : Int) - t2.toNat)) + 5 * sgn 8 (s.get (SEAM_PORT_CFG__ASYM p.val)))) ∧ s.gridAxis = false) → s.on
    SEAM_STATUS__ALIGNED = false → (16 * ((t2.toNat : Int) - t1.toNat) - (8 * (((t4.toNat : Int) - t1.toNat) - ((t3.toNat : Int) -
    t2.toNat)) + 5 * sgn 8 (s.get (SEAM_PORT_CFG__ASYM p.val)))).natAbs ≤ 40 → s.seam.good < 15 → ∃ t, exec (.linkMeasurement p t1
    t2 t3 t4) s = .next t ∧ t.on SEAM_STATUS__ALIGNED = false ∧ t.seam.good = s.seam.good + 1 ∧ SameMem s t ∧ SameVault s t) ∧
  (∀ (s : State) (p : Fin 3) (t1 t2 t3 t4 : BitVec 80), s.seamUp p.val = true → s.on CLK_STATUS__PLLB_LOCK = true → 2 ≤ s.get
    PWR_STATE__STATE → s.on SEAM_STATUS__JOINED = true → s.on SEAM_CFG__ROOT = false → s.get SEAM_STATUS__PARENT = p.val → ¬ (s.on
    SEAM_CFG__STEP_EN = true ∧ s.seam.stepped = false ∧ 20000 < (16 * ((t2.toNat : Int) - t1.toNat) - (8 * (((t4.toNat : Int) -
    t1.toNat) - ((t3.toNat : Int) - t2.toNat)) + 5 * sgn 8 (s.get (SEAM_PORT_CFG__ASYM p.val)))) ∧ s.gridAxis = false) → s.on
    SEAM_STATUS__ALIGNED = false → 40 < (16 * ((t2.toNat : Int) - t1.toNat) - (8 * (((t4.toNat : Int) - t1.toNat) - ((t3.toNat :
    Int) - t2.toNat)) + 5 * sgn 8 (s.get (SEAM_PORT_CFG__ASYM p.val)))).natAbs → ∃ t, exec (.linkMeasurement p t1 t2 t3 t4) s =
    .next t ∧ t.on SEAM_STATUS__ALIGNED = false ∧ t.seam.good = 0 ∧ SameMem s t ∧ SameVault s t) ∧
  (∀ (s : State) (p : Fin 3) (t1 t2 t3 t4 : BitVec 80), s.seamUp p.val = true → s.on CLK_STATUS__PLLB_LOCK = true → 2 ≤ s.get
    PWR_STATE__STATE → s.on SEAM_STATUS__JOINED = true → s.on SEAM_CFG__ROOT = false → s.get SEAM_STATUS__PARENT = p.val → ¬ (s.on
    SEAM_CFG__STEP_EN = true ∧ s.seam.stepped = false ∧ 20000 < (16 * ((t2.toNat : Int) - t1.toNat) - (8 * (((t4.toNat : Int) -
    t1.toNat) - ((t3.toNat : Int) - t2.toNat)) + 5 * sgn 8 (s.get (SEAM_PORT_CFG__ASYM p.val)))) ∧ s.gridAxis = false) → s.on
    SEAM_STATUS__ALIGNED = true → 100 < (16 * ((t2.toNat : Int) - t1.toNat) - (8 * (((t4.toNat : Int) - t1.toNat) - ((t3.toNat :
    Int) - t2.toNat)) + 5 * sgn 8 (s.get (SEAM_PORT_CFG__ASYM p.val)))).natAbs → 3 ≤ s.seam.bad → ∃ t, exec (.linkMeasurement p t1
    t2 t3 t4) s = .next t ∧ t.on SEAM_STATUS__ALIGNED = false ∧ SameMem s t ∧ SameVault s t) ∧
  (∀ (s : State) (p : Fin 3) (t1 t2 t3 t4 : BitVec 80), s.seamUp p.val = true → s.on CLK_STATUS__PLLB_LOCK = true → 2 ≤ s.get
    PWR_STATE__STATE → s.on SEAM_STATUS__JOINED = true → s.on SEAM_CFG__ROOT = false → s.get SEAM_STATUS__PARENT = p.val → ¬ (s.on
    SEAM_CFG__STEP_EN = true ∧ s.seam.stepped = false ∧ 20000 < (16 * ((t2.toNat : Int) - t1.toNat) - (8 * (((t4.toNat : Int) -
    t1.toNat) - ((t3.toNat : Int) - t2.toNat)) + 5 * sgn 8 (s.get (SEAM_PORT_CFG__ASYM p.val)))) ∧ s.gridAxis = false) → s.on
    SEAM_STATUS__ALIGNED = true → 100 < (16 * ((t2.toNat : Int) - t1.toNat) - (8 * (((t4.toNat : Int) - t1.toNat) - ((t3.toNat :
    Int) - t2.toNat)) + 5 * sgn 8 (s.get (SEAM_PORT_CFG__ASYM p.val)))).natAbs → s.seam.bad < 3 → ∃ t, exec (.linkMeasurement p t1
    t2 t3 t4) s = .next t ∧ t.on SEAM_STATUS__ALIGNED = true ∧ t.seam.bad = s.seam.bad + 1 ∧ SameMem s t ∧ SameVault s t) ∧
  (∀ (s : State) (p : Fin 3) (t1 t2 t3 t4 : BitVec 80), s.seamUp p.val = true → s.on CLK_STATUS__PLLB_LOCK = true → 2 ≤ s.get
    PWR_STATE__STATE → s.on SEAM_STATUS__JOINED = true → s.on SEAM_CFG__ROOT = false → s.get SEAM_STATUS__PARENT = p.val → ¬ (s.on
    SEAM_CFG__STEP_EN = true ∧ s.seam.stepped = false ∧ 20000 < (16 * ((t2.toNat : Int) - t1.toNat) - (8 * (((t4.toNat : Int) -
    t1.toNat) - ((t3.toNat : Int) - t2.toNat)) + 5 * sgn 8 (s.get (SEAM_PORT_CFG__ASYM p.val)))) ∧ s.gridAxis = false) → s.on
    SEAM_STATUS__ALIGNED = true → (16 * ((t2.toNat : Int) - t1.toNat) - (8 * (((t4.toNat : Int) - t1.toNat) - ((t3.toNat : Int) -
    t2.toNat)) + 5 * sgn 8 (s.get (SEAM_PORT_CFG__ASYM p.val)))).natAbs ≤ 100 → ∃ t, exec (.linkMeasurement p t1 t2 t3 t4) s =
    .next t ∧ t.on SEAM_STATUS__ALIGNED = true ∧ t.seam.bad = 0 ∧ SameMem s t ∧ SameVault s t) ∧
  (∀ (s : State) (p : Fin 3) (t1 t2 t3 t4 : BitVec 80), s.seamUp p.val = false ∨ s.on CLK_STATUS__PLLB_LOCK = false ∨ s.get
    PWR_STATE__STATE < 2 → exec (.linkMeasurement p t1 t2 t3 t4) s = .next s) ∧
  (∀ (s : State), s.on SEAM_CFG__ROOT = true → s.sys.released = true → ∃ t, exec .discoverySend s = .next t ∧ t.seam.rounds = (if
    s.seam.cand = s.rootTable ∧ s.seam.ring = s.ringFound then s.seam.rounds + 1 else 1) ∧ t.seam.cand = s.rootTable ∧ t.seam.ring
    = s.ringFound ∧ t.seam.devs = [] ∧ t.seam.last = s.seam.devs ∧ t.seam.two = false ∧ (∀ p : Fin 3, s.seamUp p.val = true →
    t.out.contains (.seam p.val 2 (s.rootTable.map fun n => n.lo.toNat)) = true ∧ t.out.contains (.seam p.val 0 [0, (s.rd
    DEV_SERIAL_LO).toNat, (s.rd DEV_SERIAL_HI).toNat, (s.rd DEV_SERIAL_LO).toNat, (s.rd DEV_SERIAL_HI).toNat, p.val]) = true) ∧
    OnlyRegs [] s t ∧ SameMem s t ∧ SameVault s t) ∧
  (∀ (s : State), s.on SEAM_CFG__ROOT = false ∨ s.sys.released = false → exec .discoverySend s = .next s) ∧
  (∀ (s : State) (p : Fin 3) (d : BitVec 8) (f : SeamDisc), s.seamUp p.val = false → exec (.discoveryFrame p d f) s = .next s) ∧
  (∀ (s : State) (p : Fin 3) (d : BitVec 8) (f : SeamDisc), s.seamUp p.val = true → d.toNat ≠ s.get SEAM_CFG__DOMAIN → ∃ t, exec
    (.discoveryFrame p d f) s = .next t ∧ t.on (SEAM_PORT_STAT__DOMAIN_MISMATCH p.val) = true ∧ t.seam = s.seam ∧ t.out = s.out ∧
    OnlyRegs [(SEAM_PORT_STAT__LINK p.val).addr] s t ∧ SameMem s t ∧ SameVault s t) ∧
  (∀ (s : State) (p : Fin 3) (d : BitVec 8) (h : BitVec 6) (lo hi : Word) (f : SeamFar), s.seamUp p.val = true → d.toNat = s.get
    SEAM_CFG__DOMAIN → s.on SEAM_CFG__ROOT = false → ∃ t, exec (.discoveryFrame p d (.hop h lo hi f)) s = .next t ∧
    (t.sp p.val).hop = (match (s.sp p.val).hop with
      | some (g, a) => if s.time ≤ a + 100000 then some (min g h.toNat, a) else some (h.toNat, s.time)
      | none => some (h.toNat, s.time)) ∧ (t.sp p.val).far = some f ∧ (t.sp p.val).path = true ∧ t.out.getLast? =
    some (.seam p.val 1 (seamReply (t.ownReply h))) ∧ (∀ q : Fin 3, q ≠ p → s.seamUp q.val = true → t.out.contains (.seam q.val 0
    [h.toNat + 1, lo.toNat, hi.toNat, (s.rd DEV_SERIAL_LO).toNat, (s.rd DEV_SERIAL_HI).toNat, q.val]) = true) ∧ OnlyRegs
    [(SEAM_PORT_STAT__LINK p.val).addr] s t ∧ SameMem s t ∧ SameVault s t) ∧
  (∀ (s : State) (p : Fin 3) (d : BitVec 8) (h : BitVec 6) (lo hi : Word) (f : SeamFar), s.seamUp p.val = true → d.toNat = s.get
    SEAM_CFG__DOMAIN → s.on SEAM_CFG__ROOT = true → lo = s.rd DEV_SERIAL_LO ∧ hi = s.rd DEV_SERIAL_HI → ∃ t, exec (.discoveryFrame
    p d (.hop h lo hi f)) s = .next t ∧ (t.sp p.val).far = some f ∧ t.on (SEAM_PORT_STAT__ADMITTED p.val) = (s.on
    SEAM_STATUS__JOINED && t.linkAdmitted s.seam.cur (s.get SEAM_STATUS__NODE) p.val) ∧ t.seam = s.seam ∧ t.out = s.out ∧ OnlyRegs
    [(SEAM_PORT_STAT__LINK p.val).addr] s t ∧ SameMem s t ∧ SameVault s t) ∧
  (∀ (s : State) (p : Fin 3) (d : BitVec 8) (h : BitVec 6) (lo hi : Word) (f : SeamFar), s.seamUp p.val = true → d.toNat = s.get
    SEAM_CFG__DOMAIN → s.on SEAM_CFG__ROOT = true → ¬ (lo = s.rd DEV_SERIAL_LO ∧ hi = s.rd DEV_SERIAL_HI) → ∃ t, exec
    (.discoveryFrame p d (.hop h lo hi f)) s = .next t ∧ t.seam.two = true ∧ t.seam.devs = s.seam.devs ∧ t.out = s.out ∧
    (s.seam.two = false → (∃ n ∈ s.seam.cur, n.refuse ≠ 4) → s.get PWR_BOOT_STATUS__PHASE ≠ 0 → nbit (t.get PWR_WAKE_CAUSE__SRC) 7
    = true) ∧ OnlyRegs [(SEAM_PORT_STAT__LINK p.val).addr, PWR_WAKE_CAUSE] s t ∧ SameMem s t ∧ SameVault s t) ∧
  (∀ (s : State) (p : Fin 3) (d : BitVec 8) (e : SeamDev), s.seamUp p.val = true → d.toNat = s.get SEAM_CFG__DOMAIN → s.on
    SEAM_CFG__ROOT = true → ∃ t, exec (.discoveryFrame p d (.reply e)) s = .next t ∧ t.seam.devs.getLast? = some e ∧
    (t.seam.devs.countP fun x => x.lo == e.lo && x.hi == e.hi) = 1 ∧ (∀ x ∈ s.seam.devs, (x.lo == e.lo && x.hi == e.hi) = false →
    t.seam.devs.contains x = true) ∧ t.out = s.out ∧
    (s.seam.last.contains e = false → s.seam.devs.contains e = false → s.get PWR_BOOT_STATUS__PHASE ≠ 0 →
      nbit (t.get PWR_WAKE_CAUSE__SRC) 7 = true) ∧ OnlyRegs [PWR_WAKE_CAUSE] s t ∧ SameMem s t ∧ SameVault s t) ∧
  (∀ (s : State) (p : Fin 3) (d : BitVec 8) (e : SeamDev) (q : Fin 3), s.seamUp p.val = true → d.toNat = s.get SEAM_CFG__DOMAIN →
    s.on SEAM_CFG__ROOT = false → s.upPort? = some q.val → ∃ t, exec (.discoveryFrame p d (.reply e)) s = .next t ∧ t.seam = s.seam
    ∧ t.out = s.out ++ [.seam q.val 1 (seamReply e)] ∧ OnlyRegs [] s t ∧ SameMem s t ∧ SameVault s t) ∧
  (∀ (s : State) (p : Fin 3) (d : BitVec 8) (e : SeamDev), s.seamUp p.val = true → d.toNat = s.get SEAM_CFG__DOMAIN → s.on
    SEAM_CFG__ROOT = false → s.upPort? = none → exec (.discoveryFrame p d (.reply e)) s = .next s) ∧
  (∀ (s : State) (p : Fin 3) (d : BitVec 8) (r : Bool) (l : List SeamNode), s.seamUp p.val = true → d.toNat = s.get
    SEAM_CFG__DOMAIN → s.on SEAM_CFG__ROOT = false → s.upPort? = some p.val → ∃ t, exec (.discoveryFrame p d (.table r l)) s =
    .next t ∧ t.seam.rounds = (if s.seam.cand = l ∧ s.seam.ring = r then s.seam.rounds + 1 else 1) ∧ t.seam.cand = l ∧ t.seam.ring
    = r ∧ t.seam.cur = s.seam.cur ∧ (l ≠ s.seam.cur → s.get PWR_BOOT_STATUS__PHASE ≠ 0 → nbit (t.get PWR_WAKE_CAUSE__SRC) 7 =
    true) ∧ (∀ q : Fin 3, q ≠ p → s.seamUp q.val = true → t.out.contains (.seam q.val 2 (l.map fun n => n.lo.toNat)) = true) ∧
    SameMem s t ∧ SameVault s t) ∧
  (∀ (s : State) (p : Fin 3) (d : BitVec 8) (r : Bool) (l : List SeamNode), s.seamUp p.val = true → d.toNat = s.get
    SEAM_CFG__DOMAIN → s.on SEAM_CFG__ROOT = true ∨ s.upPort? ≠ some p.val → exec (.discoveryFrame p d (.table r l)) s = .next s) ∧
  (∀ (s : State) (i : Fin 1024), 3 ≤ s.seam.rounds → s.seam.cand ≠ s.seam.cur ∨ s.on SEAM_STATUS__RING ≠ s.seam.ring →
    s.seam.cand.length ≤ 1024 → (s.seam.cand.findIdx? fun n => n.lo == s.rd DEV_SERIAL_LO && n.hi == s.rd DEV_SERIAL_HI) = some
    i.val → (s.seam.cand[i.val]?.map fun n => n.refuse) = some 0 → ∃ t, exec .topologySettled s = .next t ∧ t.on
    SEAM_STATUS__JOINED = true ∧ t.get SEAM_STATUS__REFUSE = 0 ∧ t.get SEAM_STATUS__NODE = i.val ∧ (s.seam.cand[i.val]?.map fun n
    => (n.hops % 64, n.port % 4)) = some (t.get SEAM_STATUS__HOPS, t.get SEAM_STATUS__PARENT) ∧ t.on SEAM_STATUS__ROOT = s.on
    SEAM_CFG__ROOT ∧ t.on SEAM_STATUS__RING = s.seam.ring ∧ t.on SEAM_STATUS__RING_BROKEN = ((s.on SEAM_STATUS__RING || s.on
    SEAM_STATUS__RING_BROKEN) && !s.seam.ring) ∧ t.on SEAM_STATUS__ALIGNED = s.on SEAM_STATUS__ALIGNED ∧ (∀ p : Fin 3, t.on
    (SEAM_PORT_STAT__ADMITTED p.val) = s.linkAdmitted s.seam.cand i.val p.val ∧ (s.seamUp p.val = true → t.get
    (SEAM_PORT_STAT__LINK p.val) = 2)) ∧ t.seam.cur = s.seam.cand ∧ (∀ j : Fin 1024, s.seam.cand[j.val]?.all (fun n => t.rd
    (SEAM_NODE_SER_LO j.val) == n.lo && t.rd (SEAM_NODE_SER_HI j.val) == n.hi) = true) ∧ SameMem s t ∧ SameVault s t) ∧
  (∀ (s : State) (i : Fin 1024) (r : Fin 16), 3 ≤ s.seam.rounds → s.seam.cand ≠ s.seam.cur ∨ s.on SEAM_STATUS__RING ≠ s.seam.ring →
    s.seam.cand.length ≤ 1024 → (s.seam.cand.findIdx? fun n => n.lo == s.rd DEV_SERIAL_LO && n.hi == s.rd DEV_SERIAL_HI) = some
    i.val → (s.seam.cand[i.val]?.map fun n => n.refuse) = some r.val → r.val ≠ 0 → ∃ t, exec .topologySettled s = .next t ∧ t.on
    SEAM_STATUS__JOINED = false ∧ t.get SEAM_STATUS__REFUSE = r.val ∧ t.get SEAM_STATUS__NODE = i.val ∧ t.on SEAM_STATUS__ALIGNED =
    false ∧ t.sys.slew = 0 ∧ (∀ p : Fin 3, t.on (SEAM_PORT_STAT__ADMITTED p.val) = false ∧ (s.seamUp p.val = true → t.get
    (SEAM_PORT_STAT__LINK p.val) = 3)) ∧ t.seam.cur = s.seam.cand ∧ (∀ j : Fin 1024, s.seam.cand[j.val]?.all (fun n => t.rd
    (SEAM_NODE_SER_LO j.val) == n.lo && t.rd (SEAM_NODE_SER_HI j.val) == n.hi) = true) ∧ SameMem s t ∧ SameVault s t) ∧
  (∀ (s : State), 3 ≤ s.seam.rounds → s.seam.cand ≠ s.seam.cur ∨ s.on SEAM_STATUS__RING ≠ s.seam.ring → s.seam.cand.length ≤ 1024 →
    (s.seam.cand.findIdx? fun n => n.lo == s.rd DEV_SERIAL_LO && n.hi == s.rd DEV_SERIAL_HI) = none → ∃ t, exec .topologySettled s
    = .next t ∧ t.on SEAM_STATUS__JOINED = false ∧ t.get SEAM_STATUS__REFUSE = 4 ∧ t.get SEAM_STATUS__NODE = 1023 ∧ t.get
    SEAM_STATUS__HOPS = 0 ∧ t.on SEAM_STATUS__ALIGNED = false ∧ t.sys.slew = 0 ∧ (∀ p : Fin 3, t.on (SEAM_PORT_STAT__ADMITTED
    p.val) = false) ∧ t.seam.cur = s.seam.cand ∧ (∀ j : Fin 1024, s.seam.cand[j.val]?.all (fun n => t.rd (SEAM_NODE_SER_LO j.val)
    == n.lo && t.rd (SEAM_NODE_SER_HI j.val) == n.hi) = true) ∧ SameMem s t ∧ SameVault s t) ∧
  (∀ (s : State), s.seam.rounds < 3 → s.seam.cand = [] → s.get SEAM_STATUS__REFUSE ≠ 4 → (∃ p ∈ List.range 3, s.seamUp p = true) →
    s.on SEAM_STATUS__JOINED = false → ∃ t, exec .topologySettled s = .next t ∧ t.get SEAM_STATUS__REFUSE = 4 ∧ OnlyRegsBelow
    evBase [SEAM_STATUS__REFUSE.addr, SEAM_EVENT] s t ∧ SameMem s t ∧ SameVault s t) ∧
  (∀ (s : State), (s.seam.rounds < 3 ∧ (s.seam.cand ≠ [] ∨ s.get SEAM_STATUS__REFUSE = 4 ∨ (∀ p ∈ List.range 3, s.seamUp p = false)
    ∨ s.on SEAM_STATUS__JOINED = true)) ∨ (3 ≤ s.seam.rounds ∧ s.seam.cand = s.seam.cur ∧ s.on SEAM_STATUS__RING = s.seam.ring) →
    exec .topologySettled s = .next s) ∧
  (∀ (s : State) (p : Fin 3), s.on SEAM_STATUS__JOINED = true → s.on SEAM_CFG__ROOT = false → s.on SEAM_STATUS__RING = true →
    s.seamPorts.contains p.val = true → (s.sp p.val).path = true → s.get SEAM_STATUS__PARENT ≠ p.val → ∃ t, exec (.ringReparent p)
    s = .next t ∧ t.get SEAM_STATUS__PARENT = p.val ∧ t.on SEAM_STATUS__ALIGNED = false ∧ t.sys.slew = 0 ∧ t.on SEAM_STATUS__JOINED
    = true ∧ OnlyRegsBelow evBase [SEAM_STATUS__PARENT.addr, SEAM_EVENT] s t ∧ SameMem s t ∧ SameVault s t) ∧
  (∀ (s : State) (p : Fin 3), s.on SEAM_STATUS__JOINED = false ∨ s.on SEAM_CFG__ROOT = true ∨ s.on SEAM_STATUS__RING = false ∨
    s.seamPorts.contains p.val = false ∨ (s.sp p.val).path = false ∨ s.get SEAM_STATUS__PARENT = p.val → exec (.ringReparent p) s =
    .next s)

/-- Trips and peer data over the seam (R452 to R456, R460 to R463). A trip that is due, or commanded with its key, leaves on
every admitted port with the next sequence and is remembered; without an admitted port nothing leaves. A trip that arrives on an
admitted port is recorded, wakes the device, goes on to the other admitted ports and acts, and its copies within 100 µs are
discarded: an axis of a named group, with SOFT or without it, enters SAFE with cause 14, latched where LATCH says so and then
passing from an established SAFE to FAULT; one in FAULT stays there, one in OFF is left while axes are not armed and released,
and an axis of no named group is left. The loss of the root acts as one received trip of the groups with ON_LOSS (log 42). A
window joins the queue of each admitted port, and a full queue drops its oldest frame and counts it; a good frame that is new is
queued on the other admitted ports but not towards its origin, and a subscribed slot takes its words with SEQ, VALID and a wake
where it asks for one; a frame with a bad CRC is counted and discarded, and an own or repeated frame is discarded; a window that
stays away is STALE. Each command changes nothing in every other case. -/
def Obligations.SeamTripsAndPeers : Prop :=
  (∀ (s : State) (c : Nat) (r : List Nat), s.seam.due = c :: r → s.seamPorts ≠ [] → ∃ t, exec .seamTripOriginate s = .next t ∧
    t.seam.due = r ∧ (∀ p : Fin 3, s.seamPorts.contains p.val = true → t.out.contains (.seam p.val 3 [s.get SEAM_TRIP_TX__GROUPS +
    16 * s.seam.txSeq, s.get SEAM_STATUS__NODE]) = true) ∧ t.seam.txSeq = (s.seam.txSeq + 1) % 16 ∧ t.seam.trips = s.seam.trips ++
    [(s.get SEAM_STATUS__NODE, s.seam.txSeq, s.time)] ∧ OnlyRegs [] s t ∧ SameMem s t ∧ SameVault s t) ∧
  (∀ (s : State) (c : Nat) (r : List Nat), s.seam.due = c :: r → s.seamPorts = [] → exec .seamTripOriginate s = .next { s with
    seam := { s.seam with due := r } }) ∧
  (∀ (s : State), s.seam.due = [] → exec .seamTripOriginate s = .next s) ∧
  (∀ (s : State) (w : Writer) (v : Word), s.may w SEAM_TRIP_CMD v = true → fieldGet v 16 16 = 0x5452 → s.seamPorts ≠ [] → ∃ t,
    exec (.seamTripCmd w v) s = .next t ∧ (∀ p : Fin 3, s.seamPorts.contains p.val = true → t.out.contains (.seam p.val 3
    [fieldGet v 0 4 + 16 * s.seam.txSeq, s.get SEAM_STATUS__NODE]) = true) ∧ t.seam.txSeq = (s.seam.txSeq + 1) % 16 ∧ t.seam.trips
    = s.seam.trips ++ [(s.get SEAM_STATUS__NODE, s.seam.txSeq, s.time)] ∧ OnlyRegs [PWR_WAKE_CAUSE] s t ∧ SameMem s t ∧ SameVault
    s t) ∧
  (∀ (s : State) (w : Writer) (v : Word), s.may w SEAM_TRIP_CMD v = true → fieldGet v 16 16 ≠ 0x5452 ∨ s.seamPorts = [] → ∃ t,
    exec (.seamTripCmd w v) s = .next t ∧ t.seam = s.seam ∧ t.out = s.out ∧ OnlyRegs [PWR_WAKE_CAUSE] s t ∧ SameMem s t ∧
    SameVault s t) ∧
  (∀ (s : State) (p : Fin 3) (g q : BitVec 4) (o : BitVec 10), s.seamPorts.contains p.val = true → (∀ e ∈ s.seam.trips, e.1 =
    o.toNat → e.2.1 = q.toNat → e.2.2 + 20000 < s.time) → ∃ t, exec (.seamTripRx p g q o) s = .next t ∧ t.get
    SEAM_TRIP_STAT__GROUPS = g.toNat ∧ t.get SEAM_TRIP_STAT__SEQ = q.toNat ∧ t.get SEAM_TRIP_STAT__ORIGIN = o.toNat ∧ t.get
    SEAM_TRIP_STAT__COUNT = min 16383 (s.get SEAM_TRIP_STAT__COUNT + 1) ∧ (s.get PWR_BOOT_STATUS__PHASE ≠ 0 → nbit (t.get
    PWR_WAKE_CAUSE__SRC) 7 = true) ∧ t.seam.trips.contains (o.toNat, q.toNat, s.time) = true ∧ (∀ r : Fin 3, r ≠ p →
    s.seamPorts.contains r.val = true → t.out.contains (.seam r.val 3 [g.toNat + 16 * q.toNat, o.toNat]) = true) ∧ SameMem s t ∧
    SameVault s t) ∧
  (∀ (s : State) (p : Fin 3) (g q : BitVec 4) (o : BitVec 10) (a : Fin 8) (k : Fin 4), s.seamPorts.contains p.val = true → (∀ e ∈
    s.seam.trips, e.1 = o.toNat → e.2.1 = q.toNat → e.2.2 + 20000 < s.time) → nbit g.toNat k.val = true → nbit (s.get
    (SEAM_TRIP_RX__AXMASK k.val)) a.val = true → ((1 ≤ s.axState a.val ∧ s.axState a.val ≤ 4) ∨ (s.axState a.val = 0 ∧ s.on
    SAF_STATUS__ARMED = true ∧ s.sys.released = true)) → ∃ t, exec (.seamTripRx p g q o) s = .next t ∧ t.axState a.val = 5 ∧ (t.on
    RED_STATUS__DSAFE = s.on RED_STATUS__DSAFE → t.get (AX_STATE__SAFE_CAUSE a.val) = 14 ∧ (nbit (s.get (SEAM_TRIP_RX__LATCH
    k.val)) a.val = true → (t.ax a.val).latched.contains 14 = true)) ∧ SameMem s t ∧ SameVault s t) ∧
  (∀ (s : State) (p : Fin 3) (g q : BitVec 4) (o : BitVec 10) (a : Fin 8) (k : Fin 4), s.seamPorts.contains p.val = true → (∀ e ∈
    s.seam.trips, e.1 = o.toNat → e.2.1 = q.toNat → e.2.2 + 20000 < s.time) → nbit g.toNat k.val = true → nbit (s.get
    (SEAM_TRIP_RX__AXMASK k.val)) a.val = true → s.axState a.val = 5 → nbit (s.get (SEAM_TRIP_RX__LATCH k.val)) a.val = true →
    (s.ax a.val).safeDone = true → ∃ t, exec (.seamTripRx p g q o) s = .next t ∧ t.axState a.val = 6 ∧ SameMem s t ∧ SameVault s t) ∧
  (∀ (s : State) (p : Fin 3) (g q : BitVec 4) (o : BitVec 10) (a : Fin 8), s.seamPorts.contains p.val = true → (∀ e ∈ s.seam.trips,
    e.1 = o.toNat → e.2.1 = q.toNat → e.2.2 + 20000 < s.time) → s.axState a.val = 6 → ∃ t, exec (.seamTripRx p g q o) s = .next t ∧
    t.axState a.val = 6 ∧ SameMem s t ∧ SameVault s t) ∧
  (∀ (s : State) (p : Fin 3) (g q : BitVec 4) (o : BitVec 10) (a : Fin 8), s.seamPorts.contains p.val = true → (∀ e ∈ s.seam.trips,
    e.1 = o.toNat → e.2.1 = q.toNat → e.2.2 + 20000 < s.time) → s.axState a.val = 0 → s.on SAF_STATUS__ARMED = false ∨
    s.sys.released = false → ∃ t, exec (.seamTripRx p g q o) s = .next t ∧ t.axState a.val = 0 ∧ SameMem s t ∧ SameVault s t) ∧
  (∀ (s : State) (p : Fin 3) (g q : BitVec 4) (o : BitVec 10) (a : Fin 8), s.seamPorts.contains p.val = true → (∀ e ∈ s.seam.trips,
    e.1 = o.toNat → e.2.1 = q.toNat → e.2.2 + 20000 < s.time) → (∀ k : Fin 4, nbit g.toNat k.val = false ∨ nbit (s.get
    (SEAM_TRIP_RX__AXMASK k.val)) a.val = false) → ∃ t, exec (.seamTripRx p g q o) s = .next t ∧ (t.on RED_STATUS__DSAFE = s.on
    RED_STATUS__DSAFE → t.axState a.val = s.axState a.val) ∧ SameMem s t ∧ SameVault s t) ∧
  (∀ (s : State) (p : Fin 3) (g q : BitVec 4) (o : BitVec 10), s.seamPorts.contains p.val = false ∨ (∃ e ∈ s.seam.trips, e.1 =
    o.toNat ∧ e.2.1 = q.toNat ∧ s.time ≤ e.2.2 + 20000) → exec (.seamTripRx p g q o) s = .next s) ∧
  (∀ (s : State) (k : Fin 4) (a : Fin 8), s.on SEAM_STATUS__JOINED = true → s.on SEAM_CFG__ROOT = false ∨ s.seamPorts = [] → s.on
    (SEAM_TRIP_RX__ON_LOSS k.val) = true → nbit (s.get (SEAM_TRIP_RX__AXMASK k.val)) a.val = true → ((1 ≤ s.axState a.val ∧
    s.axState a.val ≤ 4) ∨ (s.axState a.val = 0 ∧ s.on SAF_STATUS__ARMED = true ∧ s.sys.released = true)) → ∃ t, exec .rootPathLost
    s = .next t ∧ t.axState a.val = 5 ∧ (t.on RED_STATUS__DSAFE = s.on RED_STATUS__DSAFE → t.get (AX_STATE__SAFE_CAUSE a.val) = 14
    ∧ (nbit (s.get (SEAM_TRIP_RX__LATCH k.val)) a.val = true → (t.ax a.val).latched.contains 14 = true)) ∧ SameMem s t ∧ SameVault
    s t) ∧
  (∀ (s : State) (k : Fin 4) (a : Fin 8), s.on SEAM_STATUS__JOINED = true → s.on SEAM_CFG__ROOT = false ∨ s.seamPorts = [] → s.on
    (SEAM_TRIP_RX__ON_LOSS k.val) = true → nbit (s.get (SEAM_TRIP_RX__AXMASK k.val)) a.val = true → s.axState a.val = 5 → nbit
    (s.get (SEAM_TRIP_RX__LATCH k.val)) a.val = true → (s.ax a.val).safeDone = true → ∃ t, exec .rootPathLost s = .next t ∧
    t.axState a.val = 6 ∧ SameMem s t ∧ SameVault s t) ∧
  (∀ (s : State) (a : Fin 8), s.on SEAM_STATUS__JOINED = true → s.on SEAM_CFG__ROOT = false ∨ s.seamPorts = [] → s.axState a.val =
    6 → ∃ t, exec .rootPathLost s = .next t ∧ t.axState a.val = 6 ∧ SameMem s t ∧ SameVault s t) ∧
  (∀ (s : State) (a : Fin 8), s.on SEAM_STATUS__JOINED = true → s.on SEAM_CFG__ROOT = false ∨ s.seamPorts = [] → (∀ k : Fin 4, s.on
    (SEAM_TRIP_RX__ON_LOSS k.val) = false ∨ nbit (s.get (SEAM_TRIP_RX__AXMASK k.val)) a.val = false) → ∃ t, exec .rootPathLost s =
    .next t ∧ (t.on RED_STATUS__DSAFE = s.on RED_STATUS__DSAFE → t.axState a.val = s.axState a.val) ∧ SameMem s t ∧ SameVault s t) ∧
  (∀ (s : State), s.on SEAM_STATUS__JOINED = true → s.on SEAM_CFG__ROOT = false ∨ s.seamPorts = [] → s.lossGroups ≠ 0 →
    ∃ t, exec .rootPathLost s = .next t ∧ t.get SEAM_TRIP_STAT__GROUPS = s.lossGroups ∧ t.get SEAM_TRIP_STAT__COUNT = min 16383
    (s.get SEAM_TRIP_STAT__COUNT + 1) ∧ (s.get PWR_BOOT_STATUS__PHASE ≠ 0 → nbit (t.get PWR_WAKE_CAUSE__SRC) 7 = true) ∧
    (∀ r : Fin 3, s.seamPorts.contains r.val = true → t.out.contains (.seam r.val 3 [s.lossGroups + 16 * t.get SEAM_TRIP_STAT__SEQ,
    t.get SEAM_TRIP_STAT__ORIGIN]) = true) ∧ SameMem s t ∧ SameVault s t) ∧
  (∀ (s : State), s.on SEAM_STATUS__JOINED = false ∨ (s.on SEAM_CFG__ROOT = true ∧ s.seamPorts ≠ []) ∨ (∀ k : Fin 4, s.on
    (SEAM_TRIP_RX__ON_LOSS k.val) = false) → exec .rootPathLost s = .next s) ∧
  (∀ (s : State), s.on SEAM_PD_CFG__EN = true → s.on SEAM_STATUS__JOINED = true → ∃ t, exec .peerPublish s = .next t ∧
    t.seam.pdSeq = (s.seam.pdSeq + 1) % 65536 ∧ t.seam.seen.contains (s.get SEAM_STATUS__NODE, s.seam.pdSeq) = true ∧ (∀ j : Fin
    3, s.seamPorts.contains j.val = true → (t.sp j.val).q = (if (s.sp j.val).q.length < 16 then (s.sp j.val).q else (s.sp
    j.val).q.drop 1) ++
    [{ origin := (s.get SEAM_STATUS__NODE), seq := s.seam.pdSeq, period := (max 10 (s.get SEAM_PD_CFG__PERIOD)), words := ((List.range (s.get SEAM_PD_CFG__WORDS_M1 + 1)).map fun w => s.peerSrc (s.get (SEAM_PD_SRC__SRC (w / 4) (w % 4))) w) }]
    ∧ t.get (SEAM_PORT_CNT__PEER_DROP j.val) = (if (s.sp j.val).q.length < 16 then s.get (SEAM_PORT_CNT__PEER_DROP j.val) else min
    255 (s.get (SEAM_PORT_CNT__PEER_DROP j.val) + 1))) ∧ (∀ j : Fin 3, s.seamPorts.contains j.val = false → (t.sp j.val).q = (s.sp
    j.val).q ∧ t.get (SEAM_PORT_CNT__PEER_DROP j.val) = s.get (SEAM_PORT_CNT__PEER_DROP j.val)) ∧ OnlyRegsBelow evBase (SEAM_EVENT
    :: (List.range 3).map fun p => (SEAM_PORT_CNT__PEER_DROP p).addr) s t ∧ SameMem s t ∧ SameVault s t) ∧
  (∀ (s : State), s.on SEAM_PD_CFG__EN = false ∨ s.on SEAM_STATUS__JOINED = false → exec .peerPublish s = .next s) ∧
  (∀ (s : State) (p : Fin 3) (o : BitVec 10) (q e : BitVec 16) (ws : List Word), s.seamPorts.contains p.val = true → s.get
    SEAM_STATUS__NODE ≠ o.toNat → s.seam.seen.contains (o.toNat, q.toNat) = false → ∃ t, exec (.peerFrameRx p true o q e ws) s =
    .next t ∧ t.seam.seen.contains (o.toNat, q.toNat) = true ∧ (∀ j : Fin 3, s.seamPorts.contains j.val = true → j ≠ p →
    s.neighbour j.val ≠ some o.toNat → (t.sp j.val).q = (if (s.sp j.val).q.length < 16 then (s.sp j.val).q else (s.sp j.val).q.drop
    1) ++ [{ origin := o.toNat, seq := q.toNat, period := e.toNat, words := (ws.take 8) }] ∧ t.get (SEAM_PORT_CNT__PEER_DROP j.val)
    = (if (s.sp j.val).q.length < 16 then s.get (SEAM_PORT_CNT__PEER_DROP j.val) else min 255 (s.get (SEAM_PORT_CNT__PEER_DROP
    j.val) + 1))) ∧ (∀ j : Fin 3, s.seamPorts.contains j.val = false ∨ j = p ∨ s.neighbour j.val = some o.toNat → (t.sp j.val).q =
    (s.sp j.val).q ∧ t.get (SEAM_PORT_CNT__PEER_DROP j.val) = s.get (SEAM_PORT_CNT__PEER_DROP j.val)) ∧ SameMem s t ∧ SameVault s t) ∧
  (∀ (s : State) (p : Fin 3) (o : BitVec 10) (q e : BitVec 16) (ws : List Word) (k : Fin 4), s.seamPorts.contains p.val = true →
    s.get SEAM_STATUS__NODE ≠ o.toNat → s.seam.seen.contains (o.toNat, q.toNat) = false → s.on (SEAM_PD_RXCFG__EN k.val) = true →
    s.get (SEAM_PD_RXCFG__ORIGIN k.val) = o.toNat → ∃ t, exec (.peerFrameRx p true o q e ws) s = .next t ∧ (∀ w : Fin 8, t.rd
    (SEAM_PD_RX_W k.val w.val) = ws[w.val]?.getD (s.rd (SEAM_PD_RX_W k.val w.val))) ∧ t.get (SEAM_PD_RX_STAT__SEQ k.val) = q.toNat
    ∧ t.on (SEAM_PD_RX_STAT__VALID k.val) = true ∧ t.on (SEAM_PD_RX_STAT__STALE k.val) = false ∧ (s.on (SEAM_PD_RXCFG__WAKE k.val)
    = true → s.get PWR_BOOT_STATUS__PHASE ≠ 0 → nbit (t.get PWR_WAKE_CAUSE__SRC) 7 = true) ∧ SameMem s t ∧ SameVault s t) ∧
  (∀ (s : State) (p : Fin 3) (o : BitVec 10) (q e : BitVec 16) (ws : List Word) (k : Fin 4), s.seamPorts.contains p.val = true →
    s.get SEAM_STATUS__NODE ≠ o.toNat → s.seam.seen.contains (o.toNat, q.toNat) = false → s.on (SEAM_PD_RXCFG__EN k.val) = false ∨
    s.get (SEAM_PD_RXCFG__ORIGIN k.val) ≠ o.toNat → ∃ t, exec (.peerFrameRx p true o q e ws) s = .next t ∧ (∀ w : Fin 8, t.rd
    (SEAM_PD_RX_W k.val w.val) = s.rd (SEAM_PD_RX_W k.val w.val)) ∧ t.rd (SEAM_PD_RX_STAT k.val) = s.rd (SEAM_PD_RX_STAT k.val) ∧
    SameMem s t ∧ SameVault s t) ∧
  (∀ (s : State) (p : Fin 3) (o : BitVec 10) (q e : BitVec 16) (ws : List Word), s.seamUp p.val = true → ∃ t, exec (.peerFrameRx p
    false o q e ws) s = .next t ∧ t.get (SEAM_PORT_CNT__CODE_ERR p.val) = min 255 (s.get (SEAM_PORT_CNT__CODE_ERR p.val) + 1) ∧
    t.seam = s.seam ∧ (∀ j : Fin 3, t.sp j.val = s.sp j.val) ∧ OnlyRegs [(SEAM_PORT_CNT__CODE_ERR p.val).addr] s t ∧ SameMem s t ∧
    SameVault s t) ∧
  (∀ (s : State) (p : Fin 3) (o : BitVec 10) (q e : BitVec 16) (ws : List Word) (b : Bool), s.seamUp p.val = false ∨ (b = true ∧
    (s.seamPorts.contains p.val = false ∨ s.get SEAM_STATUS__NODE = o.toNat ∨ s.seam.seen.contains (o.toNat, q.toNat) = true)) →
    exec (.peerFrameRx p b o q e ws) s = .next s) ∧
  (∀ (s : State) (k : Fin 4), s.on (SEAM_PD_RXCFG__EN k.val) = true → s.on (SEAM_PD_RX_STAT__STALE k.val) = false → s.on
    (SEAM_PD_RX_STAT__VALID k.val) = true → ∃ t, exec (.peerStale k) s = .next t ∧ t.on (SEAM_PD_RX_STAT__STALE k.val) = true ∧
    OnlyRegsBelow evBase [SEAM_PD_RX_STAT k.val, SEAM_EVENT] s t ∧ SameMem s t ∧ SameVault s t) ∧
  (∀ (s : State) (k : Fin 4), s.on (SEAM_PD_RXCFG__EN k.val) = false ∨ s.on (SEAM_PD_RX_STAT__STALE k.val) = true ∨ s.on
    (SEAM_PD_RX_STAT__VALID k.val) = false → exec (.peerStale k) s = .next s)

/-- R430: VLT_MIN_SVN holds the lowest SVN accepted for firmware, and a write that would lower it is refused with reason 4. A firmware
image with a smaller SVN never verifies, and one whose SVN is not smaller never fails for its SVN; the refused write of the steward is
recorded with reason 4 and leaves the register, the vault and its queue alone, and firmware's leaves the whole state; a write that
does not lower it is queued for its commit. -/
def Obligations.MinSvnIsNeverLowered : Prop :=
  (∀ (s : State) (hdr payload trailer : List Word) (pages : Option Nat),
    (dword hdr 3).toNat < s.get VLT_MIN_SVN__MIN_SVN → s.imageCode 1 hdr payload trailer pages ≠ 0) ∧
  (∀ (s : State) (hdr payload trailer : List Word) (pages : Option Nat),
    s.get VLT_MIN_SVN__MIN_SVN ≤ (dword hdr 3).toNat → s.imageCode 1 hdr payload trailer pages ≠ 9) ∧
  (∀ (s : State) (p : Fin 4) (v : Word), s.portTakes p.val = true → (s.port p.val).mse = true →
    s.accessWaits false VLT_MIN_SVN = false → s.sys.released = true → s.on (HP_CFG__RO_PORT p.val) = false → s.steward = p.val →
    s.on (HP_DENY_INFO__VALID p.val) = false → v.toNat < s.get VLT_MIN_SVN__MIN_SVN →
    ∃ t, exec (.minSvnWrite (.host p) v) s = .next t ∧ t.on (HP_DENY_INFO__VALID p.val) = true ∧
    t.get (HP_DENY_INFO__REASON p.val) = 4 ∧ t.rd (HP_DENY_ADDR p.val) = BitVec.ofNat 32 VLT_MIN_SVN ∧
    t.rd VLT_MIN_SVN = s.rd VLT_MIN_SVN ∧ t.vq = s.vq ∧ t.vheld = s.vheld ∧ SameMem s t ∧ SameVault s t) ∧
  (∀ (s : State) (n : Fin 5) (v : Word), s.accessWaits false VLT_MIN_SVN = false → v.toNat < s.get VLT_MIN_SVN__MIN_SVN →
    exec (.minSvnWrite (.firmware n) v) s = .next s) ∧
  (∀ (s : State) (w : Writer) (v : Word), s.may w VLT_MIN_SVN v = true → s.vq = [] → s.vheld = [] →
    ∃ t, exec (.minSvnWrite w v) s = .next t ∧ s.get VLT_MIN_SVN__MIN_SVN ≤ v.toNat ∧
    t.vq.map (fun c => c.value) = [v] ∧ SameMem s t ∧ SameVault s t)

/-- R117: a descriptor that completes with a code other than OK and has ERR_STOP set (code 6, INTERRUPTED, is the end of one that does
not complete, R116) stops its context before the next descriptor starts: the context is stopping with no descriptor in execution and
starts no read of one; while it is stopping it is not backlogged, so that DESCRIPTOR_START does not pick it; and CTX_STOPPED takes it
to phase 7. -/
def Obligations.ErrorStopsTheContext : Prop :=
  (∀ (s : State) (c : Fin 256) (e : ExecS) (code detail : Nat), s.coreClk = true → (s.ctx c.val).exec = some e →
    e.done = some (code, detail) → code ≠ 0 → code ≠ 6 → (s.ctx c.val).stop = 0 → s.ctxPhase c.val ≠ 7 →
    nbit (dword e.words 0).toNat 1 = true → s.get (HP_CTX_CFG__SIZE_LOG2 c.val) ≤ 12 →
    ∃ t, exec (.descriptorComplete c) s = .next t ∧ (t.ctx c.val).exec = none ∧ (t.ctx c.val).stop = 1 ∧ t.ctxPhase c.val = 6 ∧
    (t.ctx c.val).reading = (s.ctx c.val).reading ∧ SameMem s t ∧ SameVault s t) ∧
  (∀ (s : State) (c : Fin 256), s.ctxPhase c.val = 6 → s.backlogged c.val = false) ∧
  (∀ (s : State) (c : Fin 256), (s.ctx c.val).stop = 1 → (s.ctx c.val).exec = none → s.coreClk = true →
    ∃ t, exec (.ctxStopped c) s = .next t ∧ t.ctxPhase c.val = 7 ∧ (t.ctx c.val).exec = none ∧ SameMem s t ∧ SameVault s t)

/-- The descriptors that end or hand over at one commit, and the live setpoint mirror, run to their next state (R112, R113,
R120, R157, R416). Of a descriptor in execution whose command path has its clock, NOP and EVENT_MARK commit one step and end
with code 0; SETPOINT of an axis whose setpoint SS1 does not lock writes operand 1 to AX_SETPOINT, commits one step and ends
with code 0; AXIS_STATE of the state that its axis is in, with no request or close in progress and no device-SAFE, commits two
steps and ends with code 0. While the pair of the command role executes, POWER_REQ commits its step and passes to firmware,
FW_CALL ends as its firmware ends it, and SERVICE starts its action. A write of a setpoint mirror that the checks of R85 pass
writes AX_SETPOINT. Nothing else changes but the ledger, the axis's state register at a request and what these write. -/
def Obligations.CommandDescriptorsComplete : Prop :=
  (∀ (s : State) (c : Fin 256) (e : ExecS), (s.ctx c.val).exec = some e → opOf (dword e.words 0) = 0x00 → e.done = none →
    s.coreClk = true → ∃ t, exec (.opNop c) s = .next t ∧ (t.ctx c.val).exec = some { e with done := some (0, 0) } ∧ t.get
    (HP_CTX_LEDGER1__STEPS c.val) = (s.get (HP_CTX_LEDGER1__STEPS c.val) + 1) % 2 ^ 24 ∧ (∀ k : Fin 256, k ≠ c → t.ctx k.val =
    s.ctx k.val) ∧ OnlyRegsBelow evBase [HP_CTX_LEDGER1 c.val] s t ∧ SameMem s t ∧ SameVault s t) ∧
  (∀ (s : State) (c : Fin 256) (e : ExecS), (s.ctx c.val).exec = some e → opOf (dword e.words 0) = 0x60 → e.done = none →
    s.coreClk = true → ∃ t, exec (.opEventMark c) s = .next t ∧ (t.ctx c.val).exec = some { e with done := some (0, 0) } ∧ t.get
    (HP_CTX_LEDGER1__STEPS c.val) = (s.get (HP_CTX_LEDGER1__STEPS c.val) + 1) % 2 ^ 24 ∧ (∀ k : Fin 256, k ≠ c → t.ctx k.val =
    s.ctx k.val) ∧ OnlyRegsBelow evBase [HP_CTX_LEDGER1 c.val] s t ∧ SameMem s t ∧ SameVault s t) ∧
  (∀ (s : State) (c : Fin 256) (e : ExecS) (a : Fin 8), (s.ctx c.val).exec = some e → opOf (dword e.words 0) = 0x10 → e.done = none →
    e.phase = 0 → s.coreClk = true → unitOf (dword e.words 0) = a.val → s.ss1Locks a.val = false →
    ∃ t, exec (.opSetpoint c) s = .next t ∧ t.rd (AX_SETPOINT a.val) = dword e.words 1 ∧
      (t.ctx c.val).exec = some { e with done := some (0, 0) } ∧
      t.get (HP_CTX_LEDGER1__STEPS c.val) = (s.get (HP_CTX_LEDGER1__STEPS c.val) + 1) % 2 ^ 24 ∧
      OnlyRegsBelow evBase [HP_CTX_LEDGER1 c.val, AX_SETPOINT a.val] s t ∧ SameMem s t ∧ SameVault s t) ∧
  (∀ (s : State) (c : Fin 256) (e : ExecS) (a : Fin 8), (s.ctx c.val).exec = some e → opOf (dword e.words 0) = 0x11 → e.done =
    none → e.phase = 0 → s.coreClk = true → unitOf (dword e.words 0) = a.val → (s.ax a.val).req = none → s.on (AX_STATE__CLOSING
    a.val) = false → s.on RED_STATUS__DSAFE = false → s.axState a.val < 6 → fieldGet (dword e.words 1) 0 4 = s.axState a.val → ∃
    t, exec (.opAxisState c) s = .next t ∧ t.axState a.val = s.axState a.val ∧ t.get (AX_STATE__LAST_REQ a.val) = 0 ∧ (t.ctx
    c.val).exec.bind (·.done) = some (0, 0) ∧ t.get (HP_CTX_LEDGER1__STEPS c.val) = (s.get (HP_CTX_LEDGER1__STEPS c.val) + 2) % 2
    ^ 24 ∧ OnlyRegsBelow evBase [HP_CTX_LEDGER1 c.val, AX_STATE a.val] s t ∧ SameMem s t ∧ SameVault s t) ∧
  (∀ (s : State) (c : Fin 256) (e : ExecS), (s.ctx c.val).exec = some e → opOf (dword e.words 0) = 0x70 → e.done = none → e.phase
    = 0 → s.coreClk = true → s.commandPair = true → ∃ t, exec (.opPowerReq c) s = .next t ∧ (t.ctx c.val).exec = some
    { e with phase := 1 } ∧ t.get (HP_CTX_LEDGER1__STEPS c.val) = (s.get (HP_CTX_LEDGER1__STEPS c.val) + 1) % 2 ^ 24 ∧
    OnlyRegsBelow evBase [HP_CTX_LEDGER1 c.val] s t ∧ SameMem s t ∧ SameVault s t) ∧
  (∀ (s : State) (c : Fin 256) (e : ExecS) (code detail : BitVec 8) (result : Word), (s.ctx c.val).exec = some e →
    opOf (dword e.words 0) = 0x71 → e.done = none → e.flush = 0 → (s.ctx c.val).stop ≠ 3 → s.coreClk = true → s.commandPair = true →
    ∃ t, exec (.opFwCall c (.finish code detail result)) s = .next t ∧
      (t.ctx c.val).exec = some { e with done := some (code.toNat, detail.toNat), result := result } ∧
      OnlyRegs [] s t ∧ SameMem s t ∧ SameVault s t) ∧
  (∀ (s : State) (c : Fin 256) (e : ExecS) (k u r : Nat), (s.ctx c.val).exec = some e → opOf (dword e.words 0) = 0x72 → e.done =
    none → e.phase = 0 → s.coreClk = true → s.commandPair = true → s.on RED_SVC_STAT__BUSY = false → k = fieldGet (dword e.words
    1) 0 8 → u = fieldGet (dword e.words 2) 0 4 → r = fieldGet (dword e.words 3) 0 16 → svcOk k u r = true → ∃ t, exec (.opService
    c) s = .next t ∧ t.on RED_SVC_STAT__BUSY = true ∧ t.red.svc = some (k, u, r) ∧ t.red.svcCtx = some c.val ∧ OnlyRegs
    [RED_SVC_STAT__BUSY.addr] s t ∧ SameMem s t ∧ SameVault s t) ∧
  (∀ (s : State) (p : Fin 4) (c : Fin 256) (a : Fin 8) (v : Word), s.mayPage p (0x1000 * c.val + 0x800 + 4 * a.val) = true →
    s.ss1Locks a.val = false → ∃ t, exec (.setpointMirrorWrite p c a v) s = .next t ∧ t.rd (AX_SETPOINT a.val) = v ∧
      OnlyRegs [PWR_WAKE_CAUSE, AX_SETPOINT a.val] s t ∧ SameMem s t ∧ SameVault s t)
end

