-- ==== Sys2Proof/Laws/Sparse.lean ====
section
/-! SUPPORT. What the sparse maps do: a read after a write, and the canonical form. -/

namespace Sys2Proof.Laws

open Sys2Proof.Machine

variable {α : Type}

theorem sget_sdel (d : Nat → α) (m : Sparse α) (k j : Nat) :
    sget d (sdel m k) j = if j = k then d k else sget d m j := by
  induction m with
  | nil => by_cases h : j = k <;> simp [sdel, sget, h]
  | cons e m ih =>
    obtain ⟨k', v⟩ := e
    by_cases h : k' = k
    · subst h
      have : sdel ((k', v) :: m) k' = sdel m k' := by simp [sdel]
      rw [this, ih]
      by_cases hj : j = k'
      · simp [hj]
      · simp [hj, sget, Ne.symm hj]
    · have : sdel ((k', v) :: m) k = (k', v) :: sdel m k := by simp [sdel, h]
      rw [this]
      by_cases hj : k' = j
      · subst hj; simp [sget, h]
      · simp [sget, hj, ih]

theorem sget_none (d : Nat → α) (m : Sparse α) (k : Nat) (h : ∀ e ∈ m, e.1 ≠ k) : sget d m k = d k := by
  induction m with
  | nil => rfl
  | cons e m ih =>
    have h1 : e.1 ≠ k := h e (by simp)
    simp [sget, h1, ih fun x hx => h x (by simp [hx])]

theorem mem_sdel (m : Sparse α) (k : Nat) : ∀ e ∈ sdel m k, e.1 ≠ k := by
  intro e he
  simpa using (List.mem_filter.mp he).2

theorem sget_sins (d : Nat → α) (m : Sparse α) (k j : Nat) (v : α) (h : ∀ e ∈ m, e.1 ≠ k) :
    sget d (sins k v m) j = if j = k then v else sget d m j := by
  induction m with
  | nil =>
    by_cases hj : k = j
    · simp [sins, sget, hj]
    · simp [sins, sget, hj, Ne.symm hj]
  | cons e m ih =>
    have h1 : e.1 ≠ k := h e (by simp)
    have ih := ih fun x hx => h x (by simp [hx])
    unfold sins
    split
    · by_cases hj : j = k
      · simp [sget, hj]
      · simp [sget, hj, Ne.symm hj]
    · by_cases hj : e.1 = j
      · subst hj; simp [sget, h1]
      · simp [sget, hj, ih]

/-- A read after a write gives the value written at its key and leaves every other key alone. -/
theorem sget_sset [DecidableEq α] (d : Nat → α) (m : Sparse α) (k j : Nat) (v : α) :
    sget d (sset d m k v) j = if j = k then v else sget d m j := by
  unfold sset
  split
  · rename_i h; rw [sget_sdel, h]
  · rw [sget_sins _ _ _ _ _ (mem_sdel m k), sget_sdel]
    by_cases hj : j = k <;> simp [hj]

theorem swf_sdel (d : Nat → α) (m : Sparse α) (k : Nat) (h : swf d m) : swf d (sdel m k) :=
  ⟨h.1.filter _, fun e he => h.2 e (List.mem_filter.mp he).1⟩

theorem mem_sins (k : Nat) (v : α) (m : Sparse α) (e : Nat × α) : e ∈ sins k v m ↔ e = (k, v) ∨ e ∈ m := by
  induction m with
  | nil => simp [sins]
  | cons x m ih =>
    unfold sins
    split
    · simp
    · simp only [List.mem_cons, ih]; tauto

theorem swf_sins (d : Nat → α) (m : Sparse α) (k : Nat) (v : α) (h : swf d m) (hk : ∀ e ∈ m, e.1 ≠ k) (hv : v ≠ d k) :
    swf d (sins k v m) := by
  refine ⟨?_, fun e he => ?_⟩
  · induction m with
    | nil => simp [sins]
    | cons x m ih =>
      have hx := List.pairwise_cons.mp h.1
      unfold sins
      split
      · rename_i hlt
        refine List.pairwise_cons.mpr ⟨fun e he => ?_, h.1⟩
        rcases List.mem_cons.mp he with rfl | he
        · exact hlt
        · exact lt_trans hlt (hx.1 e he)
      · rename_i hlt
        refine List.pairwise_cons.mpr ⟨fun e he => ?_, ih ⟨hx.2, fun e he => h.2 e (by simp [he])⟩ fun e he => hk e (by simp [he])⟩
        rcases (mem_sins k v m e).mp he with rfl | he
        · have := hk x (by simp); simp only; omega
        · exact hx.1 e he
  · rcases (mem_sins k v m e).mp he with rfl | he
    · exact hv
    · exact h.2 e he

/-- A write keeps the canonical form. -/
theorem swf_sset [DecidableEq α] (d : Nat → α) (m : Sparse α) (k : Nat) (v : α) (h : swf d m) : swf d (sset d m k v) := by
  unfold sset
  split
  · exact swf_sdel d m k h
  · rename_i hv
    exact swf_sins d _ k v (swf_sdel d m k h) (mem_sdel m k) hv

/-- An empty map has the canonical form. -/
theorem swf_nil (d : Nat → α) : swf d ([] : Sparse α) := by simp [swf]

/-- Writing what an unlisted key reads as, to an empty map, lists nothing. -/
theorem sset_nil_same [DecidableEq α] (d : Nat → α) (k : Nat) : sset d ([] : Sparse α) k (d k) = [] := by simp [sset, sdel]

end Sys2Proof.Laws
end

