-- ==== Sys2Proof/Laws/Word.lean ====
section
/-! SUPPORT. What the bit-field operations do. -/

namespace Sys2Proof.Laws

open Sys2Proof.Machine

theorem fieldMask_bit (lo n i : Nat) (hn : lo + n ≤ 32) :
    (fieldMask lo n).getLsbD i = (decide (lo ≤ i) && decide (i < lo + n)) := by
  unfold fieldMask
  rw [BitVec.getLsbD_shiftLeft, BitVec.getLsbD_ofNat, Nat.testBit_two_pow_sub_one]
  rw [Bool.eq_iff_iff]
  simp only [Bool.and_eq_true, Bool.not_eq_true', decide_eq_true_eq, decide_eq_false_iff_not]
  omega

theorem fieldSet_bit (w : Word) (lo n v i : Nat) (hn : lo + n ≤ 32) :
    (fieldSet w lo n v).getLsbD i =
      if lo ≤ i ∧ i < lo + n then v.testBit (i - lo) else w.getLsbD i := by
  unfold fieldSet
  rw [BitVec.getLsbD_or, BitVec.getLsbD_and, BitVec.getLsbD_not, fieldMask_bit _ _ _ hn, BitVec.getLsbD_shiftLeft,
    BitVec.getLsbD_ofNat, Nat.testBit_mod_two_pow]
  by_cases h1 : lo ≤ i <;> by_cases h2 : i < lo + n
  · have h3 : i < 32 := by omega
    have h4 : i - lo < n := by omega
    have h5 : i - lo < 32 := by omega
    simp [h1, h2, h3, h4, h5, show ¬ i < lo by omega]
  · have h4 : ¬ i - lo < n := by omega
    by_cases h3 : i < 32
    · simp [h1, h2, h3, h4]
    · have : w.getLsbD i = false := BitVec.getLsbD_of_ge w i (by omega)
      simp [h2, h3, this]
  · by_cases h3 : i < 32
    · simp [h1, h3, show i < lo by omega]
    · omega
  · omega

theorem fieldGet_bit (w : Word) (lo n i : Nat) : (fieldGet w lo n).testBit i = (decide (i < n) && w.getLsbD (lo + i)) := by
  unfold fieldGet
  rw [← BitVec.getLsbD, BitVec.getLsbD_extractLsb']

/-- A field reads back what was written, cut to its width. -/
@[simp] theorem fieldGet_fieldSet (w : Word) (lo n v : Nat) (hn : lo + n ≤ 32) : fieldGet (fieldSet w lo n v) lo n = v % 2 ^ n := by
  apply Nat.eq_of_testBit_eq
  intro i
  rw [fieldGet_bit, fieldSet_bit _ _ _ _ _ hn, Nat.testBit_mod_two_pow]
  by_cases h : i < n <;> simp [h]

/-- Writing a field leaves every field apart from it alone. -/
@[simp] theorem fieldGet_fieldSet_ne (w : Word) (lo n v lo' n' : Nat) (hn : lo + n ≤ 32) (h : lo' + n' ≤ lo ∨ lo + n ≤ lo') :
    fieldGet (fieldSet w lo n v) lo' n' = fieldGet w lo' n' := by
  apply Nat.eq_of_testBit_eq
  intro i
  rw [fieldGet_bit, fieldGet_bit, fieldSet_bit _ _ _ _ _ hn]
  by_cases hi : i < n'
  · rw [if_neg (by omega)]
  · simp [hi]

/-- A field is below two to its width. -/
theorem fieldGet_lt (w : Word) (lo n : Nat) : fieldGet w lo n < 2 ^ n := BitVec.isLt _

end Sys2Proof.Laws
end

