-- ==== Sys2Proof/Laws/State.lean ====
section
/-! SUPPORT. What each update of the state leaves alone, field by field, and what it reads back. -/

namespace Sys2Proof.Laws

open Sys2Proof.Machine

variable (s : State)

/-- `wr` changes `regs` alone. -/
@[simp] theorem wr_other (a : Nat) (w : Word) :
    (s.wr a w).pending = s.pending ∧ (s.wr a w).sram = s.sram ∧ (s.wr a w).banks = s.banks ∧
    (s.wr a w).bankSeen = s.bankSeen ∧ (s.wr a w).msix = s.msix ∧ (s.wr a w).pba = s.pba ∧
    (s.wr a w).vecPend = s.vecPend ∧ (s.wr a w).merged = s.merged ∧ (s.wr a w).ports = s.ports ∧
    (s.wr a w).ctxs = s.ctxs ∧ (s.wr a w).axes = s.axes ∧ (s.wr a w).tms = s.tms ∧ (s.wr a w).legs = s.legs ∧
    (s.wr a w).fcs = s.fcs ∧ (s.wr a w).pairs = s.pairs ∧ (s.wr a w).pis = s.pis ∧ (s.wr a w).links = s.links ∧
    (s.wr a w).safs = s.safs ∧ (s.wr a w).cmpFails = s.cmpFails ∧ (s.wr a w).voteFail = s.voteFail ∧
    (s.wr a w).pmIns = s.pmIns ∧ (s.wr a w).pm = s.pm ∧ (s.wr a w).dmas = s.dmas ∧ (s.wr a w).isls = s.isls ∧
    (s.wr a w).fl = s.fl ∧ (s.wr a w).vault = s.vault ∧ (s.wr a w).wear = s.wear ∧ (s.wr a w).vq = s.vq ∧
    (s.wr a w).vheld = s.vheld ∧ (s.wr a w).vs = s.vs ∧ (s.wr a w).cps = s.cps ∧ (s.wr a w).escrow = s.escrow ∧
    (s.wr a w).red = s.red ∧ (s.wr a w).seams = s.seams ∧ (s.wr a w).seam = s.seam ∧ (s.wr a w).tal = s.tal ∧
    (s.wr a w).sys = s.sys ∧ (s.wr a w).out = s.out ∧ (s.wr a w).free = s.free := by
  refine ⟨?_, ?_, ?_, ?_, ?_, ?_, ?_, ?_, ?_, ?_, ?_, ?_, ?_, ?_, ?_, ?_, ?_, ?_, ?_, ?_, ?_, ?_, ?_, ?_, ?_, ?_, ?_, ?_, ?_, ?_, ?_, ?_, ?_, ?_, ?_, ?_, ?_, ?_, ?_⟩ <;> rfl

/-- `put` changes `regs` alone. -/
@[simp] theorem put_other (f : FieldRef) (v : Nat) :
    (s.put f v).pending = s.pending ∧ (s.put f v).sram = s.sram ∧ (s.put f v).banks = s.banks ∧
    (s.put f v).bankSeen = s.bankSeen ∧ (s.put f v).msix = s.msix ∧ (s.put f v).pba = s.pba ∧
    (s.put f v).vecPend = s.vecPend ∧ (s.put f v).merged = s.merged ∧ (s.put f v).ports = s.ports ∧
    (s.put f v).ctxs = s.ctxs ∧ (s.put f v).axes = s.axes ∧ (s.put f v).tms = s.tms ∧ (s.put f v).legs = s.legs ∧
    (s.put f v).fcs = s.fcs ∧ (s.put f v).pairs = s.pairs ∧ (s.put f v).pis = s.pis ∧ (s.put f v).links = s.links ∧
    (s.put f v).safs = s.safs ∧ (s.put f v).cmpFails = s.cmpFails ∧ (s.put f v).voteFail = s.voteFail ∧
    (s.put f v).pmIns = s.pmIns ∧ (s.put f v).pm = s.pm ∧ (s.put f v).dmas = s.dmas ∧ (s.put f v).isls = s.isls ∧
    (s.put f v).fl = s.fl ∧ (s.put f v).vault = s.vault ∧ (s.put f v).wear = s.wear ∧ (s.put f v).vq = s.vq ∧
    (s.put f v).vheld = s.vheld ∧ (s.put f v).vs = s.vs ∧ (s.put f v).cps = s.cps ∧ (s.put f v).escrow = s.escrow ∧
    (s.put f v).red = s.red ∧ (s.put f v).seams = s.seams ∧ (s.put f v).seam = s.seam ∧ (s.put f v).tal = s.tal ∧
    (s.put f v).sys = s.sys ∧ (s.put f v).out = s.out ∧ (s.put f v).free = s.free := by
  refine ⟨?_, ?_, ?_, ?_, ?_, ?_, ?_, ?_, ?_, ?_, ?_, ?_, ?_, ?_, ?_, ?_, ?_, ?_, ?_, ?_, ?_, ?_, ?_, ?_, ?_, ?_, ?_, ?_, ?_, ?_, ?_, ?_, ?_, ?_, ?_, ?_, ?_, ?_, ?_⟩ <;> rfl

/-- `putB` changes `regs` alone. -/
@[simp] theorem putB_other (f : FieldRef) (b : Bool) :
    (s.putB f b).pending = s.pending ∧ (s.putB f b).sram = s.sram ∧ (s.putB f b).banks = s.banks ∧
    (s.putB f b).bankSeen = s.bankSeen ∧ (s.putB f b).msix = s.msix ∧ (s.putB f b).pba = s.pba ∧
    (s.putB f b).vecPend = s.vecPend ∧ (s.putB f b).merged = s.merged ∧ (s.putB f b).ports = s.ports ∧
    (s.putB f b).ctxs = s.ctxs ∧ (s.putB f b).axes = s.axes ∧ (s.putB f b).tms = s.tms ∧ (s.putB f b).legs = s.legs ∧
    (s.putB f b).fcs = s.fcs ∧ (s.putB f b).pairs = s.pairs ∧ (s.putB f b).pis = s.pis ∧ (s.putB f b).links = s.links ∧
    (s.putB f b).safs = s.safs ∧ (s.putB f b).cmpFails = s.cmpFails ∧ (s.putB f b).voteFail = s.voteFail ∧
    (s.putB f b).pmIns = s.pmIns ∧ (s.putB f b).pm = s.pm ∧ (s.putB f b).dmas = s.dmas ∧ (s.putB f b).isls = s.isls ∧
    (s.putB f b).fl = s.fl ∧ (s.putB f b).vault = s.vault ∧ (s.putB f b).wear = s.wear ∧ (s.putB f b).vq = s.vq ∧
    (s.putB f b).vheld = s.vheld ∧ (s.putB f b).vs = s.vs ∧ (s.putB f b).cps = s.cps ∧ (s.putB f b).escrow = s.escrow ∧
    (s.putB f b).red = s.red ∧ (s.putB f b).seams = s.seams ∧ (s.putB f b).seam = s.seam ∧ (s.putB f b).tal = s.tal ∧
    (s.putB f b).sys = s.sys ∧ (s.putB f b).out = s.out ∧ (s.putB f b).free = s.free := by
  refine ⟨?_, ?_, ?_, ?_, ?_, ?_, ?_, ?_, ?_, ?_, ?_, ?_, ?_, ?_, ?_, ?_, ?_, ?_, ?_, ?_, ?_, ?_, ?_, ?_, ?_, ?_, ?_, ?_, ?_, ?_, ?_, ?_, ?_, ?_, ?_, ?_, ?_, ?_, ?_⟩ <;> rfl

/-- `bump` changes `regs` alone. -/
@[simp] theorem bump_other (f : FieldRef) (n : Nat) :
    (s.bump f n).pending = s.pending ∧ (s.bump f n).sram = s.sram ∧ (s.bump f n).banks = s.banks ∧
    (s.bump f n).bankSeen = s.bankSeen ∧ (s.bump f n).msix = s.msix ∧ (s.bump f n).pba = s.pba ∧
    (s.bump f n).vecPend = s.vecPend ∧ (s.bump f n).merged = s.merged ∧ (s.bump f n).ports = s.ports ∧
    (s.bump f n).ctxs = s.ctxs ∧ (s.bump f n).axes = s.axes ∧ (s.bump f n).tms = s.tms ∧ (s.bump f n).legs = s.legs ∧
    (s.bump f n).fcs = s.fcs ∧ (s.bump f n).pairs = s.pairs ∧ (s.bump f n).pis = s.pis ∧ (s.bump f n).links = s.links ∧
    (s.bump f n).safs = s.safs ∧ (s.bump f n).cmpFails = s.cmpFails ∧ (s.bump f n).voteFail = s.voteFail ∧
    (s.bump f n).pmIns = s.pmIns ∧ (s.bump f n).pm = s.pm ∧ (s.bump f n).dmas = s.dmas ∧ (s.bump f n).isls = s.isls ∧
    (s.bump f n).fl = s.fl ∧ (s.bump f n).vault = s.vault ∧ (s.bump f n).wear = s.wear ∧ (s.bump f n).vq = s.vq ∧
    (s.bump f n).vheld = s.vheld ∧ (s.bump f n).vs = s.vs ∧ (s.bump f n).cps = s.cps ∧ (s.bump f n).escrow = s.escrow ∧
    (s.bump f n).red = s.red ∧ (s.bump f n).seams = s.seams ∧ (s.bump f n).seam = s.seam ∧ (s.bump f n).tal = s.tal ∧
    (s.bump f n).sys = s.sys ∧ (s.bump f n).out = s.out ∧ (s.bump f n).free = s.free := by
  refine ⟨?_, ?_, ?_, ?_, ?_, ?_, ?_, ?_, ?_, ?_, ?_, ?_, ?_, ?_, ?_, ?_, ?_, ?_, ?_, ?_, ?_, ?_, ?_, ?_, ?_, ?_, ?_, ?_, ?_, ?_, ?_, ?_, ?_, ?_, ?_, ?_, ?_, ?_, ?_⟩ <;> rfl

/-- `putBit` changes `regs` alone. -/
@[simp] theorem putBit_other (f : FieldRef) (i : Nat) (b : Bool) :
    (s.putBit f i b).pending = s.pending ∧ (s.putBit f i b).sram = s.sram ∧ (s.putBit f i b).banks = s.banks ∧
    (s.putBit f i b).bankSeen = s.bankSeen ∧ (s.putBit f i b).msix = s.msix ∧ (s.putBit f i b).pba = s.pba ∧
    (s.putBit f i b).vecPend = s.vecPend ∧ (s.putBit f i b).merged = s.merged ∧ (s.putBit f i b).ports = s.ports ∧
    (s.putBit f i b).ctxs = s.ctxs ∧ (s.putBit f i b).axes = s.axes ∧ (s.putBit f i b).tms = s.tms ∧
    (s.putBit f i b).legs = s.legs ∧ (s.putBit f i b).fcs = s.fcs ∧ (s.putBit f i b).pairs = s.pairs ∧
    (s.putBit f i b).pis = s.pis ∧ (s.putBit f i b).links = s.links ∧ (s.putBit f i b).safs = s.safs ∧
    (s.putBit f i b).cmpFails = s.cmpFails ∧ (s.putBit f i b).voteFail = s.voteFail ∧
    (s.putBit f i b).pmIns = s.pmIns ∧ (s.putBit f i b).pm = s.pm ∧ (s.putBit f i b).dmas = s.dmas ∧
    (s.putBit f i b).isls = s.isls ∧ (s.putBit f i b).fl = s.fl ∧ (s.putBit f i b).vault = s.vault ∧
    (s.putBit f i b).wear = s.wear ∧ (s.putBit f i b).vq = s.vq ∧ (s.putBit f i b).vheld = s.vheld ∧
    (s.putBit f i b).vs = s.vs ∧ (s.putBit f i b).cps = s.cps ∧ (s.putBit f i b).escrow = s.escrow ∧
    (s.putBit f i b).red = s.red ∧ (s.putBit f i b).seams = s.seams ∧ (s.putBit f i b).seam = s.seam ∧
    (s.putBit f i b).tal = s.tal ∧ (s.putBit f i b).sys = s.sys ∧ (s.putBit f i b).out = s.out ∧
    (s.putBit f i b).free = s.free := by
  refine ⟨?_, ?_, ?_, ?_, ?_, ?_, ?_, ?_, ?_, ?_, ?_, ?_, ?_, ?_, ?_, ?_, ?_, ?_, ?_, ?_, ?_, ?_, ?_, ?_, ?_, ?_, ?_, ?_, ?_, ?_, ?_, ?_, ?_, ?_, ?_, ?_, ?_, ?_, ?_⟩ <;> rfl

/-- `putCnt` changes `regs` alone. -/
@[simp] theorem putCnt_other (i v : Nat) :
    (s.putCnt i v).pending = s.pending ∧ (s.putCnt i v).sram = s.sram ∧ (s.putCnt i v).banks = s.banks ∧
    (s.putCnt i v).bankSeen = s.bankSeen ∧ (s.putCnt i v).msix = s.msix ∧ (s.putCnt i v).pba = s.pba ∧
    (s.putCnt i v).vecPend = s.vecPend ∧ (s.putCnt i v).merged = s.merged ∧ (s.putCnt i v).ports = s.ports ∧
    (s.putCnt i v).ctxs = s.ctxs ∧ (s.putCnt i v).axes = s.axes ∧ (s.putCnt i v).tms = s.tms ∧
    (s.putCnt i v).legs = s.legs ∧ (s.putCnt i v).fcs = s.fcs ∧ (s.putCnt i v).pairs = s.pairs ∧
    (s.putCnt i v).pis = s.pis ∧ (s.putCnt i v).links = s.links ∧ (s.putCnt i v).safs = s.safs ∧
    (s.putCnt i v).cmpFails = s.cmpFails ∧ (s.putCnt i v).voteFail = s.voteFail ∧ (s.putCnt i v).pmIns = s.pmIns ∧
    (s.putCnt i v).pm = s.pm ∧ (s.putCnt i v).dmas = s.dmas ∧ (s.putCnt i v).isls = s.isls ∧ (s.putCnt i v).fl = s.fl ∧
    (s.putCnt i v).vault = s.vault ∧ (s.putCnt i v).wear = s.wear ∧ (s.putCnt i v).vq = s.vq ∧
    (s.putCnt i v).vheld = s.vheld ∧ (s.putCnt i v).vs = s.vs ∧ (s.putCnt i v).cps = s.cps ∧
    (s.putCnt i v).escrow = s.escrow ∧ (s.putCnt i v).red = s.red ∧ (s.putCnt i v).seams = s.seams ∧
    (s.putCnt i v).seam = s.seam ∧ (s.putCnt i v).tal = s.tal ∧ (s.putCnt i v).sys = s.sys ∧
    (s.putCnt i v).out = s.out ∧ (s.putCnt i v).free = s.free := by
  refine ⟨?_, ?_, ?_, ?_, ?_, ?_, ?_, ?_, ?_, ?_, ?_, ?_, ?_, ?_, ?_, ?_, ?_, ?_, ?_, ?_, ?_, ?_, ?_, ?_, ?_, ?_, ?_, ?_, ?_, ?_, ?_, ?_, ?_, ?_, ?_, ?_, ?_, ?_, ?_⟩ <;> rfl

/-- `setAx` changes `axes` alone. -/
@[simp] theorem setAx_other (a : Nat) (x : AxisS) :
    (s.setAx a x).pending = s.pending ∧ (s.setAx a x).regs = s.regs ∧ (s.setAx a x).sram = s.sram ∧
    (s.setAx a x).banks = s.banks ∧ (s.setAx a x).bankSeen = s.bankSeen ∧ (s.setAx a x).msix = s.msix ∧
    (s.setAx a x).pba = s.pba ∧ (s.setAx a x).vecPend = s.vecPend ∧ (s.setAx a x).merged = s.merged ∧
    (s.setAx a x).ports = s.ports ∧ (s.setAx a x).ctxs = s.ctxs ∧ (s.setAx a x).tms = s.tms ∧
    (s.setAx a x).legs = s.legs ∧ (s.setAx a x).fcs = s.fcs ∧ (s.setAx a x).pairs = s.pairs ∧
    (s.setAx a x).pis = s.pis ∧ (s.setAx a x).links = s.links ∧ (s.setAx a x).safs = s.safs ∧
    (s.setAx a x).cmpFails = s.cmpFails ∧ (s.setAx a x).voteFail = s.voteFail ∧ (s.setAx a x).pmIns = s.pmIns ∧
    (s.setAx a x).pm = s.pm ∧ (s.setAx a x).dmas = s.dmas ∧ (s.setAx a x).isls = s.isls ∧ (s.setAx a x).fl = s.fl ∧
    (s.setAx a x).vault = s.vault ∧ (s.setAx a x).wear = s.wear ∧ (s.setAx a x).vq = s.vq ∧
    (s.setAx a x).vheld = s.vheld ∧ (s.setAx a x).vs = s.vs ∧ (s.setAx a x).cps = s.cps ∧
    (s.setAx a x).escrow = s.escrow ∧ (s.setAx a x).red = s.red ∧ (s.setAx a x).seams = s.seams ∧
    (s.setAx a x).seam = s.seam ∧ (s.setAx a x).tal = s.tal ∧ (s.setAx a x).sys = s.sys ∧ (s.setAx a x).out = s.out ∧
    (s.setAx a x).free = s.free := by
  refine ⟨?_, ?_, ?_, ?_, ?_, ?_, ?_, ?_, ?_, ?_, ?_, ?_, ?_, ?_, ?_, ?_, ?_, ?_, ?_, ?_, ?_, ?_, ?_, ?_, ?_, ?_, ?_, ?_, ?_, ?_, ?_, ?_, ?_, ?_, ?_, ?_, ?_, ?_, ?_⟩ <;> rfl

/-- `upAx` changes `axes` alone. -/
@[simp] theorem upAx_other (a : Nat) (g : AxisS → AxisS) :
    (s.upAx a g).pending = s.pending ∧ (s.upAx a g).regs = s.regs ∧ (s.upAx a g).sram = s.sram ∧
    (s.upAx a g).banks = s.banks ∧ (s.upAx a g).bankSeen = s.bankSeen ∧ (s.upAx a g).msix = s.msix ∧
    (s.upAx a g).pba = s.pba ∧ (s.upAx a g).vecPend = s.vecPend ∧ (s.upAx a g).merged = s.merged ∧
    (s.upAx a g).ports = s.ports ∧ (s.upAx a g).ctxs = s.ctxs ∧ (s.upAx a g).tms = s.tms ∧ (s.upAx a g).legs = s.legs ∧
    (s.upAx a g).fcs = s.fcs ∧ (s.upAx a g).pairs = s.pairs ∧ (s.upAx a g).pis = s.pis ∧ (s.upAx a g).links = s.links ∧
    (s.upAx a g).safs = s.safs ∧ (s.upAx a g).cmpFails = s.cmpFails ∧ (s.upAx a g).voteFail = s.voteFail ∧
    (s.upAx a g).pmIns = s.pmIns ∧ (s.upAx a g).pm = s.pm ∧ (s.upAx a g).dmas = s.dmas ∧ (s.upAx a g).isls = s.isls ∧
    (s.upAx a g).fl = s.fl ∧ (s.upAx a g).vault = s.vault ∧ (s.upAx a g).wear = s.wear ∧ (s.upAx a g).vq = s.vq ∧
    (s.upAx a g).vheld = s.vheld ∧ (s.upAx a g).vs = s.vs ∧ (s.upAx a g).cps = s.cps ∧ (s.upAx a g).escrow = s.escrow ∧
    (s.upAx a g).red = s.red ∧ (s.upAx a g).seams = s.seams ∧ (s.upAx a g).seam = s.seam ∧ (s.upAx a g).tal = s.tal ∧
    (s.upAx a g).sys = s.sys ∧ (s.upAx a g).out = s.out ∧ (s.upAx a g).free = s.free := by
  refine ⟨?_, ?_, ?_, ?_, ?_, ?_, ?_, ?_, ?_, ?_, ?_, ?_, ?_, ?_, ?_, ?_, ?_, ?_, ?_, ?_, ?_, ?_, ?_, ?_, ?_, ?_, ?_, ?_, ?_, ?_, ?_, ?_, ?_, ?_, ?_, ?_, ?_, ?_, ?_⟩ <;> rfl

/-- `setTm` changes `tms` alone. -/
@[simp] theorem setTm_other (a : Nat) (x : TableS) :
    (s.setTm a x).pending = s.pending ∧ (s.setTm a x).regs = s.regs ∧ (s.setTm a x).sram = s.sram ∧
    (s.setTm a x).banks = s.banks ∧ (s.setTm a x).bankSeen = s.bankSeen ∧ (s.setTm a x).msix = s.msix ∧
    (s.setTm a x).pba = s.pba ∧ (s.setTm a x).vecPend = s.vecPend ∧ (s.setTm a x).merged = s.merged ∧
    (s.setTm a x).ports = s.ports ∧ (s.setTm a x).ctxs = s.ctxs ∧ (s.setTm a x).axes = s.axes ∧
    (s.setTm a x).legs = s.legs ∧ (s.setTm a x).fcs = s.fcs ∧ (s.setTm a x).pairs = s.pairs ∧
    (s.setTm a x).pis = s.pis ∧ (s.setTm a x).links = s.links ∧ (s.setTm a x).safs = s.safs ∧
    (s.setTm a x).cmpFails = s.cmpFails ∧ (s.setTm a x).voteFail = s.voteFail ∧ (s.setTm a x).pmIns = s.pmIns ∧
    (s.setTm a x).pm = s.pm ∧ (s.setTm a x).dmas = s.dmas ∧ (s.setTm a x).isls = s.isls ∧ (s.setTm a x).fl = s.fl ∧
    (s.setTm a x).vault = s.vault ∧ (s.setTm a x).wear = s.wear ∧ (s.setTm a x).vq = s.vq ∧
    (s.setTm a x).vheld = s.vheld ∧ (s.setTm a x).vs = s.vs ∧ (s.setTm a x).cps = s.cps ∧
    (s.setTm a x).escrow = s.escrow ∧ (s.setTm a x).red = s.red ∧ (s.setTm a x).seams = s.seams ∧
    (s.setTm a x).seam = s.seam ∧ (s.setTm a x).tal = s.tal ∧ (s.setTm a x).sys = s.sys ∧ (s.setTm a x).out = s.out ∧
    (s.setTm a x).free = s.free := by
  refine ⟨?_, ?_, ?_, ?_, ?_, ?_, ?_, ?_, ?_, ?_, ?_, ?_, ?_, ?_, ?_, ?_, ?_, ?_, ?_, ?_, ?_, ?_, ?_, ?_, ?_, ?_, ?_, ?_, ?_, ?_, ?_, ?_, ?_, ?_, ?_, ?_, ?_, ?_, ?_⟩ <;> rfl

/-- `upTm` changes `tms` alone. -/
@[simp] theorem upTm_other (a : Nat) (g : TableS → TableS) :
    (s.upTm a g).pending = s.pending ∧ (s.upTm a g).regs = s.regs ∧ (s.upTm a g).sram = s.sram ∧
    (s.upTm a g).banks = s.banks ∧ (s.upTm a g).bankSeen = s.bankSeen ∧ (s.upTm a g).msix = s.msix ∧
    (s.upTm a g).pba = s.pba ∧ (s.upTm a g).vecPend = s.vecPend ∧ (s.upTm a g).merged = s.merged ∧
    (s.upTm a g).ports = s.ports ∧ (s.upTm a g).ctxs = s.ctxs ∧ (s.upTm a g).axes = s.axes ∧
    (s.upTm a g).legs = s.legs ∧ (s.upTm a g).fcs = s.fcs ∧ (s.upTm a g).pairs = s.pairs ∧ (s.upTm a g).pis = s.pis ∧
    (s.upTm a g).links = s.links ∧ (s.upTm a g).safs = s.safs ∧ (s.upTm a g).cmpFails = s.cmpFails ∧
    (s.upTm a g).voteFail = s.voteFail ∧ (s.upTm a g).pmIns = s.pmIns ∧ (s.upTm a g).pm = s.pm ∧
    (s.upTm a g).dmas = s.dmas ∧ (s.upTm a g).isls = s.isls ∧ (s.upTm a g).fl = s.fl ∧ (s.upTm a g).vault = s.vault ∧
    (s.upTm a g).wear = s.wear ∧ (s.upTm a g).vq = s.vq ∧ (s.upTm a g).vheld = s.vheld ∧ (s.upTm a g).vs = s.vs ∧
    (s.upTm a g).cps = s.cps ∧ (s.upTm a g).escrow = s.escrow ∧ (s.upTm a g).red = s.red ∧
    (s.upTm a g).seams = s.seams ∧ (s.upTm a g).seam = s.seam ∧ (s.upTm a g).tal = s.tal ∧ (s.upTm a g).sys = s.sys ∧
    (s.upTm a g).out = s.out ∧ (s.upTm a g).free = s.free := by
  refine ⟨?_, ?_, ?_, ?_, ?_, ?_, ?_, ?_, ?_, ?_, ?_, ?_, ?_, ?_, ?_, ?_, ?_, ?_, ?_, ?_, ?_, ?_, ?_, ?_, ?_, ?_, ?_, ?_, ?_, ?_, ?_, ?_, ?_, ?_, ?_, ?_, ?_, ?_, ?_⟩ <;> rfl

/-- `setCtx` changes `ctxs` alone. -/
@[simp] theorem setCtx_other (c : Nat) (x : CtxS) :
    (s.setCtx c x).pending = s.pending ∧ (s.setCtx c x).regs = s.regs ∧ (s.setCtx c x).sram = s.sram ∧
    (s.setCtx c x).banks = s.banks ∧ (s.setCtx c x).bankSeen = s.bankSeen ∧ (s.setCtx c x).msix = s.msix ∧
    (s.setCtx c x).pba = s.pba ∧ (s.setCtx c x).vecPend = s.vecPend ∧ (s.setCtx c x).merged = s.merged ∧
    (s.setCtx c x).ports = s.ports ∧ (s.setCtx c x).axes = s.axes ∧ (s.setCtx c x).tms = s.tms ∧
    (s.setCtx c x).legs = s.legs ∧ (s.setCtx c x).fcs = s.fcs ∧ (s.setCtx c x).pairs = s.pairs ∧
    (s.setCtx c x).pis = s.pis ∧ (s.setCtx c x).links = s.links ∧ (s.setCtx c x).safs = s.safs ∧
    (s.setCtx c x).cmpFails = s.cmpFails ∧ (s.setCtx c x).voteFail = s.voteFail ∧ (s.setCtx c x).pmIns = s.pmIns ∧
    (s.setCtx c x).pm = s.pm ∧ (s.setCtx c x).dmas = s.dmas ∧ (s.setCtx c x).isls = s.isls ∧ (s.setCtx c x).fl = s.fl ∧
    (s.setCtx c x).vault = s.vault ∧ (s.setCtx c x).wear = s.wear ∧ (s.setCtx c x).vq = s.vq ∧
    (s.setCtx c x).vheld = s.vheld ∧ (s.setCtx c x).vs = s.vs ∧ (s.setCtx c x).cps = s.cps ∧
    (s.setCtx c x).escrow = s.escrow ∧ (s.setCtx c x).red = s.red ∧ (s.setCtx c x).seams = s.seams ∧
    (s.setCtx c x).seam = s.seam ∧ (s.setCtx c x).tal = s.tal ∧ (s.setCtx c x).sys = s.sys ∧
    (s.setCtx c x).out = s.out ∧ (s.setCtx c x).free = s.free := by
  refine ⟨?_, ?_, ?_, ?_, ?_, ?_, ?_, ?_, ?_, ?_, ?_, ?_, ?_, ?_, ?_, ?_, ?_, ?_, ?_, ?_, ?_, ?_, ?_, ?_, ?_, ?_, ?_, ?_, ?_, ?_, ?_, ?_, ?_, ?_, ?_, ?_, ?_, ?_, ?_⟩ <;> rfl

/-- `upCtx` changes `ctxs` alone. -/
@[simp] theorem upCtx_other (c : Nat) (g : CtxS → CtxS) :
    (s.upCtx c g).pending = s.pending ∧ (s.upCtx c g).regs = s.regs ∧ (s.upCtx c g).sram = s.sram ∧
    (s.upCtx c g).banks = s.banks ∧ (s.upCtx c g).bankSeen = s.bankSeen ∧ (s.upCtx c g).msix = s.msix ∧
    (s.upCtx c g).pba = s.pba ∧ (s.upCtx c g).vecPend = s.vecPend ∧ (s.upCtx c g).merged = s.merged ∧
    (s.upCtx c g).ports = s.ports ∧ (s.upCtx c g).axes = s.axes ∧ (s.upCtx c g).tms = s.tms ∧
    (s.upCtx c g).legs = s.legs ∧ (s.upCtx c g).fcs = s.fcs ∧ (s.upCtx c g).pairs = s.pairs ∧
    (s.upCtx c g).pis = s.pis ∧ (s.upCtx c g).links = s.links ∧ (s.upCtx c g).safs = s.safs ∧
    (s.upCtx c g).cmpFails = s.cmpFails ∧ (s.upCtx c g).voteFail = s.voteFail ∧ (s.upCtx c g).pmIns = s.pmIns ∧
    (s.upCtx c g).pm = s.pm ∧ (s.upCtx c g).dmas = s.dmas ∧ (s.upCtx c g).isls = s.isls ∧ (s.upCtx c g).fl = s.fl ∧
    (s.upCtx c g).vault = s.vault ∧ (s.upCtx c g).wear = s.wear ∧ (s.upCtx c g).vq = s.vq ∧
    (s.upCtx c g).vheld = s.vheld ∧ (s.upCtx c g).vs = s.vs ∧ (s.upCtx c g).cps = s.cps ∧
    (s.upCtx c g).escrow = s.escrow ∧ (s.upCtx c g).red = s.red ∧ (s.upCtx c g).seams = s.seams ∧
    (s.upCtx c g).seam = s.seam ∧ (s.upCtx c g).tal = s.tal ∧ (s.upCtx c g).sys = s.sys ∧ (s.upCtx c g).out = s.out ∧
    (s.upCtx c g).free = s.free := by
  refine ⟨?_, ?_, ?_, ?_, ?_, ?_, ?_, ?_, ?_, ?_, ?_, ?_, ?_, ?_, ?_, ?_, ?_, ?_, ?_, ?_, ?_, ?_, ?_, ?_, ?_, ?_, ?_, ?_, ?_, ?_, ?_, ?_, ?_, ?_, ?_, ?_, ?_, ?_, ?_⟩ <;> rfl

/-- `upPort` changes `ports` alone. -/
@[simp] theorem upPort_other (p : Nat) (g : PortS → PortS) :
    (s.upPort p g).pending = s.pending ∧ (s.upPort p g).regs = s.regs ∧ (s.upPort p g).sram = s.sram ∧
    (s.upPort p g).banks = s.banks ∧ (s.upPort p g).bankSeen = s.bankSeen ∧ (s.upPort p g).msix = s.msix ∧
    (s.upPort p g).pba = s.pba ∧ (s.upPort p g).vecPend = s.vecPend ∧ (s.upPort p g).merged = s.merged ∧
    (s.upPort p g).ctxs = s.ctxs ∧ (s.upPort p g).axes = s.axes ∧ (s.upPort p g).tms = s.tms ∧
    (s.upPort p g).legs = s.legs ∧ (s.upPort p g).fcs = s.fcs ∧ (s.upPort p g).pairs = s.pairs ∧
    (s.upPort p g).pis = s.pis ∧ (s.upPort p g).links = s.links ∧ (s.upPort p g).safs = s.safs ∧
    (s.upPort p g).cmpFails = s.cmpFails ∧ (s.upPort p g).voteFail = s.voteFail ∧ (s.upPort p g).pmIns = s.pmIns ∧
    (s.upPort p g).pm = s.pm ∧ (s.upPort p g).dmas = s.dmas ∧ (s.upPort p g).isls = s.isls ∧ (s.upPort p g).fl = s.fl ∧
    (s.upPort p g).vault = s.vault ∧ (s.upPort p g).wear = s.wear ∧ (s.upPort p g).vq = s.vq ∧
    (s.upPort p g).vheld = s.vheld ∧ (s.upPort p g).vs = s.vs ∧ (s.upPort p g).cps = s.cps ∧
    (s.upPort p g).escrow = s.escrow ∧ (s.upPort p g).red = s.red ∧ (s.upPort p g).seams = s.seams ∧
    (s.upPort p g).seam = s.seam ∧ (s.upPort p g).tal = s.tal ∧ (s.upPort p g).sys = s.sys ∧
    (s.upPort p g).out = s.out ∧ (s.upPort p g).free = s.free := by
  refine ⟨?_, ?_, ?_, ?_, ?_, ?_, ?_, ?_, ?_, ?_, ?_, ?_, ?_, ?_, ?_, ?_, ?_, ?_, ?_, ?_, ?_, ?_, ?_, ?_, ?_, ?_, ?_, ?_, ?_, ?_, ?_, ?_, ?_, ?_, ?_, ?_, ?_, ?_, ?_⟩ <;> rfl

/-- `upSys` changes `sys` alone. -/
@[simp] theorem upSys_other (g : SysS → SysS) :
    (s.upSys g).pending = s.pending ∧ (s.upSys g).regs = s.regs ∧ (s.upSys g).sram = s.sram ∧
    (s.upSys g).banks = s.banks ∧ (s.upSys g).bankSeen = s.bankSeen ∧ (s.upSys g).msix = s.msix ∧
    (s.upSys g).pba = s.pba ∧ (s.upSys g).vecPend = s.vecPend ∧ (s.upSys g).merged = s.merged ∧
    (s.upSys g).ports = s.ports ∧ (s.upSys g).ctxs = s.ctxs ∧ (s.upSys g).axes = s.axes ∧ (s.upSys g).tms = s.tms ∧
    (s.upSys g).legs = s.legs ∧ (s.upSys g).fcs = s.fcs ∧ (s.upSys g).pairs = s.pairs ∧ (s.upSys g).pis = s.pis ∧
    (s.upSys g).links = s.links ∧ (s.upSys g).safs = s.safs ∧ (s.upSys g).cmpFails = s.cmpFails ∧
    (s.upSys g).voteFail = s.voteFail ∧ (s.upSys g).pmIns = s.pmIns ∧ (s.upSys g).pm = s.pm ∧
    (s.upSys g).dmas = s.dmas ∧ (s.upSys g).isls = s.isls ∧ (s.upSys g).fl = s.fl ∧ (s.upSys g).vault = s.vault ∧
    (s.upSys g).wear = s.wear ∧ (s.upSys g).vq = s.vq ∧ (s.upSys g).vheld = s.vheld ∧ (s.upSys g).vs = s.vs ∧
    (s.upSys g).cps = s.cps ∧ (s.upSys g).escrow = s.escrow ∧ (s.upSys g).red = s.red ∧ (s.upSys g).seams = s.seams ∧
    (s.upSys g).seam = s.seam ∧ (s.upSys g).tal = s.tal ∧ (s.upSys g).out = s.out ∧ (s.upSys g).free = s.free := by
  refine ⟨?_, ?_, ?_, ?_, ?_, ?_, ?_, ?_, ?_, ?_, ?_, ?_, ?_, ?_, ?_, ?_, ?_, ?_, ?_, ?_, ?_, ?_, ?_, ?_, ?_, ?_, ?_, ?_, ?_, ?_, ?_, ?_, ?_, ?_, ?_, ?_, ?_, ?_, ?_⟩ <;> rfl

/-- `emit` changes `out` alone. -/
@[simp] theorem emit_other (o : Out) :
    (s.emit o).pending = s.pending ∧ (s.emit o).regs = s.regs ∧ (s.emit o).sram = s.sram ∧ (s.emit o).banks = s.banks ∧
    (s.emit o).bankSeen = s.bankSeen ∧ (s.emit o).msix = s.msix ∧ (s.emit o).pba = s.pba ∧
    (s.emit o).vecPend = s.vecPend ∧ (s.emit o).merged = s.merged ∧ (s.emit o).ports = s.ports ∧
    (s.emit o).ctxs = s.ctxs ∧ (s.emit o).axes = s.axes ∧ (s.emit o).tms = s.tms ∧ (s.emit o).legs = s.legs ∧
    (s.emit o).fcs = s.fcs ∧ (s.emit o).pairs = s.pairs ∧ (s.emit o).pis = s.pis ∧ (s.emit o).links = s.links ∧
    (s.emit o).safs = s.safs ∧ (s.emit o).cmpFails = s.cmpFails ∧ (s.emit o).voteFail = s.voteFail ∧
    (s.emit o).pmIns = s.pmIns ∧ (s.emit o).pm = s.pm ∧ (s.emit o).dmas = s.dmas ∧ (s.emit o).isls = s.isls ∧
    (s.emit o).fl = s.fl ∧ (s.emit o).vault = s.vault ∧ (s.emit o).wear = s.wear ∧ (s.emit o).vq = s.vq ∧
    (s.emit o).vheld = s.vheld ∧ (s.emit o).vs = s.vs ∧ (s.emit o).cps = s.cps ∧ (s.emit o).escrow = s.escrow ∧
    (s.emit o).red = s.red ∧ (s.emit o).seams = s.seams ∧ (s.emit o).seam = s.seam ∧ (s.emit o).tal = s.tal ∧
    (s.emit o).sys = s.sys ∧ (s.emit o).free = s.free := by
  refine ⟨?_, ?_, ?_, ?_, ?_, ?_, ?_, ?_, ?_, ?_, ?_, ?_, ?_, ?_, ?_, ?_, ?_, ?_, ?_, ?_, ?_, ?_, ?_, ?_, ?_, ?_, ?_, ?_, ?_, ?_, ?_, ?_, ?_, ?_, ?_, ?_, ?_, ?_, ?_⟩ <;> rfl

/-- `sramWr` changes `sram` alone. -/
@[simp] theorem sramWr_other (a : Nat) (b : Byte) :
    (s.sramWr a b).pending = s.pending ∧ (s.sramWr a b).regs = s.regs ∧ (s.sramWr a b).banks = s.banks ∧
    (s.sramWr a b).bankSeen = s.bankSeen ∧ (s.sramWr a b).msix = s.msix ∧ (s.sramWr a b).pba = s.pba ∧
    (s.sramWr a b).vecPend = s.vecPend ∧ (s.sramWr a b).merged = s.merged ∧ (s.sramWr a b).ports = s.ports ∧
    (s.sramWr a b).ctxs = s.ctxs ∧ (s.sramWr a b).axes = s.axes ∧ (s.sramWr a b).tms = s.tms ∧
    (s.sramWr a b).legs = s.legs ∧ (s.sramWr a b).fcs = s.fcs ∧ (s.sramWr a b).pairs = s.pairs ∧
    (s.sramWr a b).pis = s.pis ∧ (s.sramWr a b).links = s.links ∧ (s.sramWr a b).safs = s.safs ∧
    (s.sramWr a b).cmpFails = s.cmpFails ∧ (s.sramWr a b).voteFail = s.voteFail ∧ (s.sramWr a b).pmIns = s.pmIns ∧
    (s.sramWr a b).pm = s.pm ∧ (s.sramWr a b).dmas = s.dmas ∧ (s.sramWr a b).isls = s.isls ∧ (s.sramWr a b).fl = s.fl ∧
    (s.sramWr a b).vault = s.vault ∧ (s.sramWr a b).wear = s.wear ∧ (s.sramWr a b).vq = s.vq ∧
    (s.sramWr a b).vheld = s.vheld ∧ (s.sramWr a b).vs = s.vs ∧ (s.sramWr a b).cps = s.cps ∧
    (s.sramWr a b).escrow = s.escrow ∧ (s.sramWr a b).red = s.red ∧ (s.sramWr a b).seams = s.seams ∧
    (s.sramWr a b).seam = s.seam ∧ (s.sramWr a b).tal = s.tal ∧ (s.sramWr a b).sys = s.sys ∧
    (s.sramWr a b).out = s.out ∧ (s.sramWr a b).free = s.free := by
  refine ⟨?_, ?_, ?_, ?_, ?_, ?_, ?_, ?_, ?_, ?_, ?_, ?_, ?_, ?_, ?_, ?_, ?_, ?_, ?_, ?_, ?_, ?_, ?_, ?_, ?_, ?_, ?_, ?_, ?_, ?_, ?_, ?_, ?_, ?_, ?_, ?_, ?_, ?_, ?_⟩ <;> rfl

/-- `upLeg` changes `legs` alone. -/
@[simp] theorem upLeg_other (m : Nat) (g : LegS → LegS) :
    (s.upLeg m g).pending = s.pending ∧ (s.upLeg m g).regs = s.regs ∧ (s.upLeg m g).sram = s.sram ∧
    (s.upLeg m g).banks = s.banks ∧ (s.upLeg m g).bankSeen = s.bankSeen ∧ (s.upLeg m g).msix = s.msix ∧
    (s.upLeg m g).pba = s.pba ∧ (s.upLeg m g).vecPend = s.vecPend ∧ (s.upLeg m g).merged = s.merged ∧
    (s.upLeg m g).ports = s.ports ∧ (s.upLeg m g).ctxs = s.ctxs ∧ (s.upLeg m g).axes = s.axes ∧
    (s.upLeg m g).tms = s.tms ∧ (s.upLeg m g).fcs = s.fcs ∧ (s.upLeg m g).pairs = s.pairs ∧ (s.upLeg m g).pis = s.pis ∧
    (s.upLeg m g).links = s.links ∧ (s.upLeg m g).safs = s.safs ∧ (s.upLeg m g).cmpFails = s.cmpFails ∧
    (s.upLeg m g).voteFail = s.voteFail ∧ (s.upLeg m g).pmIns = s.pmIns ∧ (s.upLeg m g).pm = s.pm ∧
    (s.upLeg m g).dmas = s.dmas ∧ (s.upLeg m g).isls = s.isls ∧ (s.upLeg m g).fl = s.fl ∧
    (s.upLeg m g).vault = s.vault ∧ (s.upLeg m g).wear = s.wear ∧ (s.upLeg m g).vq = s.vq ∧
    (s.upLeg m g).vheld = s.vheld ∧ (s.upLeg m g).vs = s.vs ∧ (s.upLeg m g).cps = s.cps ∧
    (s.upLeg m g).escrow = s.escrow ∧ (s.upLeg m g).red = s.red ∧ (s.upLeg m g).seams = s.seams ∧
    (s.upLeg m g).seam = s.seam ∧ (s.upLeg m g).tal = s.tal ∧ (s.upLeg m g).sys = s.sys ∧ (s.upLeg m g).out = s.out ∧
    (s.upLeg m g).free = s.free := by
  refine ⟨?_, ?_, ?_, ?_, ?_, ?_, ?_, ?_, ?_, ?_, ?_, ?_, ?_, ?_, ?_, ?_, ?_, ?_, ?_, ?_, ?_, ?_, ?_, ?_, ?_, ?_, ?_, ?_, ?_, ?_, ?_, ?_, ?_, ?_, ?_, ?_, ?_, ?_, ?_⟩ <;> rfl

/-- `upDma` changes `dmas` alone. -/
@[simp] theorem upDma_other (n : Nat) (g : DmaS → DmaS) :
    (s.upDma n g).pending = s.pending ∧ (s.upDma n g).regs = s.regs ∧ (s.upDma n g).sram = s.sram ∧
    (s.upDma n g).banks = s.banks ∧ (s.upDma n g).bankSeen = s.bankSeen ∧ (s.upDma n g).msix = s.msix ∧
    (s.upDma n g).pba = s.pba ∧ (s.upDma n g).vecPend = s.vecPend ∧ (s.upDma n g).merged = s.merged ∧
    (s.upDma n g).ports = s.ports ∧ (s.upDma n g).ctxs = s.ctxs ∧ (s.upDma n g).axes = s.axes ∧
    (s.upDma n g).tms = s.tms ∧ (s.upDma n g).legs = s.legs ∧ (s.upDma n g).fcs = s.fcs ∧
    (s.upDma n g).pairs = s.pairs ∧ (s.upDma n g).pis = s.pis ∧ (s.upDma n g).links = s.links ∧
    (s.upDma n g).safs = s.safs ∧ (s.upDma n g).cmpFails = s.cmpFails ∧ (s.upDma n g).voteFail = s.voteFail ∧
    (s.upDma n g).pmIns = s.pmIns ∧ (s.upDma n g).pm = s.pm ∧ (s.upDma n g).isls = s.isls ∧ (s.upDma n g).fl = s.fl ∧
    (s.upDma n g).vault = s.vault ∧ (s.upDma n g).wear = s.wear ∧ (s.upDma n g).vq = s.vq ∧
    (s.upDma n g).vheld = s.vheld ∧ (s.upDma n g).vs = s.vs ∧ (s.upDma n g).cps = s.cps ∧
    (s.upDma n g).escrow = s.escrow ∧ (s.upDma n g).red = s.red ∧ (s.upDma n g).seams = s.seams ∧
    (s.upDma n g).seam = s.seam ∧ (s.upDma n g).tal = s.tal ∧ (s.upDma n g).sys = s.sys ∧ (s.upDma n g).out = s.out ∧
    (s.upDma n g).free = s.free := by
  refine ⟨?_, ?_, ?_, ?_, ?_, ?_, ?_, ?_, ?_, ?_, ?_, ?_, ?_, ?_, ?_, ?_, ?_, ?_, ?_, ?_, ?_, ?_, ?_, ?_, ?_, ?_, ?_, ?_, ?_, ?_, ?_, ?_, ?_, ?_, ?_, ?_, ?_, ?_, ?_⟩ <;> rfl

/-- `upPi` changes `pis` alone. -/
@[simp] theorem upPi_other (n : Nat) (g : PiS → PiS) :
    (s.upPi n g).pending = s.pending ∧ (s.upPi n g).regs = s.regs ∧ (s.upPi n g).sram = s.sram ∧
    (s.upPi n g).banks = s.banks ∧ (s.upPi n g).bankSeen = s.bankSeen ∧ (s.upPi n g).msix = s.msix ∧
    (s.upPi n g).pba = s.pba ∧ (s.upPi n g).vecPend = s.vecPend ∧ (s.upPi n g).merged = s.merged ∧
    (s.upPi n g).ports = s.ports ∧ (s.upPi n g).ctxs = s.ctxs ∧ (s.upPi n g).axes = s.axes ∧ (s.upPi n g).tms = s.tms ∧
    (s.upPi n g).legs = s.legs ∧ (s.upPi n g).fcs = s.fcs ∧ (s.upPi n g).pairs = s.pairs ∧
    (s.upPi n g).links = s.links ∧ (s.upPi n g).safs = s.safs ∧ (s.upPi n g).cmpFails = s.cmpFails ∧
    (s.upPi n g).voteFail = s.voteFail ∧ (s.upPi n g).pmIns = s.pmIns ∧ (s.upPi n g).pm = s.pm ∧
    (s.upPi n g).dmas = s.dmas ∧ (s.upPi n g).isls = s.isls ∧ (s.upPi n g).fl = s.fl ∧ (s.upPi n g).vault = s.vault ∧
    (s.upPi n g).wear = s.wear ∧ (s.upPi n g).vq = s.vq ∧ (s.upPi n g).vheld = s.vheld ∧ (s.upPi n g).vs = s.vs ∧
    (s.upPi n g).cps = s.cps ∧ (s.upPi n g).escrow = s.escrow ∧ (s.upPi n g).red = s.red ∧
    (s.upPi n g).seams = s.seams ∧ (s.upPi n g).seam = s.seam ∧ (s.upPi n g).tal = s.tal ∧ (s.upPi n g).sys = s.sys ∧
    (s.upPi n g).out = s.out ∧ (s.upPi n g).free = s.free := by
  refine ⟨?_, ?_, ?_, ?_, ?_, ?_, ?_, ?_, ?_, ?_, ?_, ?_, ?_, ?_, ?_, ?_, ?_, ?_, ?_, ?_, ?_, ?_, ?_, ?_, ?_, ?_, ?_, ?_, ?_, ?_, ?_, ?_, ?_, ?_, ?_, ?_, ?_, ?_, ?_⟩ <;> rfl

/-- `upLnk` changes `links` alone. -/
@[simp] theorem upLnk_other (n : Nat) (g : LinkS → LinkS) :
    (s.upLnk n g).pending = s.pending ∧ (s.upLnk n g).regs = s.regs ∧ (s.upLnk n g).sram = s.sram ∧
    (s.upLnk n g).banks = s.banks ∧ (s.upLnk n g).bankSeen = s.bankSeen ∧ (s.upLnk n g).msix = s.msix ∧
    (s.upLnk n g).pba = s.pba ∧ (s.upLnk n g).vecPend = s.vecPend ∧ (s.upLnk n g).merged = s.merged ∧
    (s.upLnk n g).ports = s.ports ∧ (s.upLnk n g).ctxs = s.ctxs ∧ (s.upLnk n g).axes = s.axes ∧
    (s.upLnk n g).tms = s.tms ∧ (s.upLnk n g).legs = s.legs ∧ (s.upLnk n g).fcs = s.fcs ∧
    (s.upLnk n g).pairs = s.pairs ∧ (s.upLnk n g).pis = s.pis ∧ (s.upLnk n g).safs = s.safs ∧
    (s.upLnk n g).cmpFails = s.cmpFails ∧ (s.upLnk n g).voteFail = s.voteFail ∧ (s.upLnk n g).pmIns = s.pmIns ∧
    (s.upLnk n g).pm = s.pm ∧ (s.upLnk n g).dmas = s.dmas ∧ (s.upLnk n g).isls = s.isls ∧ (s.upLnk n g).fl = s.fl ∧
    (s.upLnk n g).vault = s.vault ∧ (s.upLnk n g).wear = s.wear ∧ (s.upLnk n g).vq = s.vq ∧
    (s.upLnk n g).vheld = s.vheld ∧ (s.upLnk n g).vs = s.vs ∧ (s.upLnk n g).cps = s.cps ∧
    (s.upLnk n g).escrow = s.escrow ∧ (s.upLnk n g).red = s.red ∧ (s.upLnk n g).seams = s.seams ∧
    (s.upLnk n g).seam = s.seam ∧ (s.upLnk n g).tal = s.tal ∧ (s.upLnk n g).sys = s.sys ∧ (s.upLnk n g).out = s.out ∧
    (s.upLnk n g).free = s.free := by
  refine ⟨?_, ?_, ?_, ?_, ?_, ?_, ?_, ?_, ?_, ?_, ?_, ?_, ?_, ?_, ?_, ?_, ?_, ?_, ?_, ?_, ?_, ?_, ?_, ?_, ?_, ?_, ?_, ?_, ?_, ?_, ?_, ?_, ?_, ?_, ?_, ?_, ?_, ?_, ?_⟩ <;> rfl

/-- `upIsl` changes `isls` alone. -/
@[simp] theorem upIsl_other (i : Nat) (g : IslandS → IslandS) :
    (s.upIsl i g).pending = s.pending ∧ (s.upIsl i g).regs = s.regs ∧ (s.upIsl i g).sram = s.sram ∧
    (s.upIsl i g).banks = s.banks ∧ (s.upIsl i g).bankSeen = s.bankSeen ∧ (s.upIsl i g).msix = s.msix ∧
    (s.upIsl i g).pba = s.pba ∧ (s.upIsl i g).vecPend = s.vecPend ∧ (s.upIsl i g).merged = s.merged ∧
    (s.upIsl i g).ports = s.ports ∧ (s.upIsl i g).ctxs = s.ctxs ∧ (s.upIsl i g).axes = s.axes ∧
    (s.upIsl i g).tms = s.tms ∧ (s.upIsl i g).legs = s.legs ∧ (s.upIsl i g).fcs = s.fcs ∧
    (s.upIsl i g).pairs = s.pairs ∧ (s.upIsl i g).pis = s.pis ∧ (s.upIsl i g).links = s.links ∧
    (s.upIsl i g).safs = s.safs ∧ (s.upIsl i g).cmpFails = s.cmpFails ∧ (s.upIsl i g).voteFail = s.voteFail ∧
    (s.upIsl i g).pmIns = s.pmIns ∧ (s.upIsl i g).pm = s.pm ∧ (s.upIsl i g).dmas = s.dmas ∧ (s.upIsl i g).fl = s.fl ∧
    (s.upIsl i g).vault = s.vault ∧ (s.upIsl i g).wear = s.wear ∧ (s.upIsl i g).vq = s.vq ∧
    (s.upIsl i g).vheld = s.vheld ∧ (s.upIsl i g).vs = s.vs ∧ (s.upIsl i g).cps = s.cps ∧
    (s.upIsl i g).escrow = s.escrow ∧ (s.upIsl i g).red = s.red ∧ (s.upIsl i g).seams = s.seams ∧
    (s.upIsl i g).seam = s.seam ∧ (s.upIsl i g).tal = s.tal ∧ (s.upIsl i g).sys = s.sys ∧ (s.upIsl i g).out = s.out ∧
    (s.upIsl i g).free = s.free := by
  refine ⟨?_, ?_, ?_, ?_, ?_, ?_, ?_, ?_, ?_, ?_, ?_, ?_, ?_, ?_, ?_, ?_, ?_, ?_, ?_, ?_, ?_, ?_, ?_, ?_, ?_, ?_, ?_, ?_, ?_, ?_, ?_, ?_, ?_, ?_, ?_, ?_, ?_, ?_, ?_⟩ <;> rfl

/-- `upPair` changes `pairs` alone. -/
@[simp] theorem upPair_other (p : Nat) (g : PairS → PairS) :
    (s.upPair p g).pending = s.pending ∧ (s.upPair p g).regs = s.regs ∧ (s.upPair p g).sram = s.sram ∧
    (s.upPair p g).banks = s.banks ∧ (s.upPair p g).bankSeen = s.bankSeen ∧ (s.upPair p g).msix = s.msix ∧
    (s.upPair p g).pba = s.pba ∧ (s.upPair p g).vecPend = s.vecPend ∧ (s.upPair p g).merged = s.merged ∧
    (s.upPair p g).ports = s.ports ∧ (s.upPair p g).ctxs = s.ctxs ∧ (s.upPair p g).axes = s.axes ∧
    (s.upPair p g).tms = s.tms ∧ (s.upPair p g).legs = s.legs ∧ (s.upPair p g).fcs = s.fcs ∧
    (s.upPair p g).pis = s.pis ∧ (s.upPair p g).links = s.links ∧ (s.upPair p g).safs = s.safs ∧
    (s.upPair p g).cmpFails = s.cmpFails ∧ (s.upPair p g).voteFail = s.voteFail ∧ (s.upPair p g).pmIns = s.pmIns ∧
    (s.upPair p g).pm = s.pm ∧ (s.upPair p g).dmas = s.dmas ∧ (s.upPair p g).isls = s.isls ∧ (s.upPair p g).fl = s.fl ∧
    (s.upPair p g).vault = s.vault ∧ (s.upPair p g).wear = s.wear ∧ (s.upPair p g).vq = s.vq ∧
    (s.upPair p g).vheld = s.vheld ∧ (s.upPair p g).vs = s.vs ∧ (s.upPair p g).cps = s.cps ∧
    (s.upPair p g).escrow = s.escrow ∧ (s.upPair p g).red = s.red ∧ (s.upPair p g).seams = s.seams ∧
    (s.upPair p g).seam = s.seam ∧ (s.upPair p g).tal = s.tal ∧ (s.upPair p g).sys = s.sys ∧
    (s.upPair p g).out = s.out ∧ (s.upPair p g).free = s.free := by
  refine ⟨?_, ?_, ?_, ?_, ?_, ?_, ?_, ?_, ?_, ?_, ?_, ?_, ?_, ?_, ?_, ?_, ?_, ?_, ?_, ?_, ?_, ?_, ?_, ?_, ?_, ?_, ?_, ?_, ?_, ?_, ?_, ?_, ?_, ?_, ?_, ?_, ?_, ?_, ?_⟩ <;> rfl

/-- `upSaf` changes `safs` alone. -/
@[simp] theorem upSaf_other (a : Nat) (g : SafS → SafS) :
    (s.upSaf a g).pending = s.pending ∧ (s.upSaf a g).regs = s.regs ∧ (s.upSaf a g).sram = s.sram ∧
    (s.upSaf a g).banks = s.banks ∧ (s.upSaf a g).bankSeen = s.bankSeen ∧ (s.upSaf a g).msix = s.msix ∧
    (s.upSaf a g).pba = s.pba ∧ (s.upSaf a g).vecPend = s.vecPend ∧ (s.upSaf a g).merged = s.merged ∧
    (s.upSaf a g).ports = s.ports ∧ (s.upSaf a g).ctxs = s.ctxs ∧ (s.upSaf a g).axes = s.axes ∧
    (s.upSaf a g).tms = s.tms ∧ (s.upSaf a g).legs = s.legs ∧ (s.upSaf a g).fcs = s.fcs ∧
    (s.upSaf a g).pairs = s.pairs ∧ (s.upSaf a g).pis = s.pis ∧ (s.upSaf a g).links = s.links ∧
    (s.upSaf a g).cmpFails = s.cmpFails ∧ (s.upSaf a g).voteFail = s.voteFail ∧ (s.upSaf a g).pmIns = s.pmIns ∧
    (s.upSaf a g).pm = s.pm ∧ (s.upSaf a g).dmas = s.dmas ∧ (s.upSaf a g).isls = s.isls ∧ (s.upSaf a g).fl = s.fl ∧
    (s.upSaf a g).vault = s.vault ∧ (s.upSaf a g).wear = s.wear ∧ (s.upSaf a g).vq = s.vq ∧
    (s.upSaf a g).vheld = s.vheld ∧ (s.upSaf a g).vs = s.vs ∧ (s.upSaf a g).cps = s.cps ∧
    (s.upSaf a g).escrow = s.escrow ∧ (s.upSaf a g).red = s.red ∧ (s.upSaf a g).seams = s.seams ∧
    (s.upSaf a g).seam = s.seam ∧ (s.upSaf a g).tal = s.tal ∧ (s.upSaf a g).sys = s.sys ∧ (s.upSaf a g).out = s.out ∧
    (s.upSaf a g).free = s.free := by
  refine ⟨?_, ?_, ?_, ?_, ?_, ?_, ?_, ?_, ?_, ?_, ?_, ?_, ?_, ?_, ?_, ?_, ?_, ?_, ?_, ?_, ?_, ?_, ?_, ?_, ?_, ?_, ?_, ?_, ?_, ?_, ?_, ?_, ?_, ?_, ?_, ?_, ?_, ?_, ?_⟩ <;> rfl

/-- `upPmIn` changes `pmIns` alone. -/
@[simp] theorem upPmIn_other (j : Nat) (g : PmInS → PmInS) :
    (s.upPmIn j g).pending = s.pending ∧ (s.upPmIn j g).regs = s.regs ∧ (s.upPmIn j g).sram = s.sram ∧
    (s.upPmIn j g).banks = s.banks ∧ (s.upPmIn j g).bankSeen = s.bankSeen ∧ (s.upPmIn j g).msix = s.msix ∧
    (s.upPmIn j g).pba = s.pba ∧ (s.upPmIn j g).vecPend = s.vecPend ∧ (s.upPmIn j g).merged = s.merged ∧
    (s.upPmIn j g).ports = s.ports ∧ (s.upPmIn j g).ctxs = s.ctxs ∧ (s.upPmIn j g).axes = s.axes ∧
    (s.upPmIn j g).tms = s.tms ∧ (s.upPmIn j g).legs = s.legs ∧ (s.upPmIn j g).fcs = s.fcs ∧
    (s.upPmIn j g).pairs = s.pairs ∧ (s.upPmIn j g).pis = s.pis ∧ (s.upPmIn j g).links = s.links ∧
    (s.upPmIn j g).safs = s.safs ∧ (s.upPmIn j g).cmpFails = s.cmpFails ∧ (s.upPmIn j g).voteFail = s.voteFail ∧
    (s.upPmIn j g).pm = s.pm ∧ (s.upPmIn j g).dmas = s.dmas ∧ (s.upPmIn j g).isls = s.isls ∧ (s.upPmIn j g).fl = s.fl ∧
    (s.upPmIn j g).vault = s.vault ∧ (s.upPmIn j g).wear = s.wear ∧ (s.upPmIn j g).vq = s.vq ∧
    (s.upPmIn j g).vheld = s.vheld ∧ (s.upPmIn j g).vs = s.vs ∧ (s.upPmIn j g).cps = s.cps ∧
    (s.upPmIn j g).escrow = s.escrow ∧ (s.upPmIn j g).red = s.red ∧ (s.upPmIn j g).seams = s.seams ∧
    (s.upPmIn j g).seam = s.seam ∧ (s.upPmIn j g).tal = s.tal ∧ (s.upPmIn j g).sys = s.sys ∧
    (s.upPmIn j g).out = s.out ∧ (s.upPmIn j g).free = s.free := by
  refine ⟨?_, ?_, ?_, ?_, ?_, ?_, ?_, ?_, ?_, ?_, ?_, ?_, ?_, ?_, ?_, ?_, ?_, ?_, ?_, ?_, ?_, ?_, ?_, ?_, ?_, ?_, ?_, ?_, ?_, ?_, ?_, ?_, ?_, ?_, ?_, ?_, ?_, ?_, ?_⟩ <;> rfl

/-- `upPm` changes `pm` alone. -/
@[simp] theorem upPm_other (g : PmS → PmS) :
    (s.upPm g).pending = s.pending ∧ (s.upPm g).regs = s.regs ∧ (s.upPm g).sram = s.sram ∧ (s.upPm g).banks = s.banks ∧
    (s.upPm g).bankSeen = s.bankSeen ∧ (s.upPm g).msix = s.msix ∧ (s.upPm g).pba = s.pba ∧
    (s.upPm g).vecPend = s.vecPend ∧ (s.upPm g).merged = s.merged ∧ (s.upPm g).ports = s.ports ∧
    (s.upPm g).ctxs = s.ctxs ∧ (s.upPm g).axes = s.axes ∧ (s.upPm g).tms = s.tms ∧ (s.upPm g).legs = s.legs ∧
    (s.upPm g).fcs = s.fcs ∧ (s.upPm g).pairs = s.pairs ∧ (s.upPm g).pis = s.pis ∧ (s.upPm g).links = s.links ∧
    (s.upPm g).safs = s.safs ∧ (s.upPm g).cmpFails = s.cmpFails ∧ (s.upPm g).voteFail = s.voteFail ∧
    (s.upPm g).pmIns = s.pmIns ∧ (s.upPm g).dmas = s.dmas ∧ (s.upPm g).isls = s.isls ∧ (s.upPm g).fl = s.fl ∧
    (s.upPm g).vault = s.vault ∧ (s.upPm g).wear = s.wear ∧ (s.upPm g).vq = s.vq ∧ (s.upPm g).vheld = s.vheld ∧
    (s.upPm g).vs = s.vs ∧ (s.upPm g).cps = s.cps ∧ (s.upPm g).escrow = s.escrow ∧ (s.upPm g).red = s.red ∧
    (s.upPm g).seams = s.seams ∧ (s.upPm g).seam = s.seam ∧ (s.upPm g).tal = s.tal ∧ (s.upPm g).sys = s.sys ∧
    (s.upPm g).out = s.out ∧ (s.upPm g).free = s.free := by
  refine ⟨?_, ?_, ?_, ?_, ?_, ?_, ?_, ?_, ?_, ?_, ?_, ?_, ?_, ?_, ?_, ?_, ?_, ?_, ?_, ?_, ?_, ?_, ?_, ?_, ?_, ?_, ?_, ?_, ?_, ?_, ?_, ?_, ?_, ?_, ?_, ?_, ?_, ?_, ?_⟩ <;> rfl

/-- `upPx` changes `pm` alone. -/
@[simp] theorem upPx_other (x : Nat) (g : PxS → PxS) :
    (s.upPx x g).pending = s.pending ∧ (s.upPx x g).regs = s.regs ∧ (s.upPx x g).sram = s.sram ∧
    (s.upPx x g).banks = s.banks ∧ (s.upPx x g).bankSeen = s.bankSeen ∧ (s.upPx x g).msix = s.msix ∧
    (s.upPx x g).pba = s.pba ∧ (s.upPx x g).vecPend = s.vecPend ∧ (s.upPx x g).merged = s.merged ∧
    (s.upPx x g).ports = s.ports ∧ (s.upPx x g).ctxs = s.ctxs ∧ (s.upPx x g).axes = s.axes ∧ (s.upPx x g).tms = s.tms ∧
    (s.upPx x g).legs = s.legs ∧ (s.upPx x g).fcs = s.fcs ∧ (s.upPx x g).pairs = s.pairs ∧ (s.upPx x g).pis = s.pis ∧
    (s.upPx x g).links = s.links ∧ (s.upPx x g).safs = s.safs ∧ (s.upPx x g).cmpFails = s.cmpFails ∧
    (s.upPx x g).voteFail = s.voteFail ∧ (s.upPx x g).pmIns = s.pmIns ∧ (s.upPx x g).dmas = s.dmas ∧
    (s.upPx x g).isls = s.isls ∧ (s.upPx x g).fl = s.fl ∧ (s.upPx x g).vault = s.vault ∧ (s.upPx x g).wear = s.wear ∧
    (s.upPx x g).vq = s.vq ∧ (s.upPx x g).vheld = s.vheld ∧ (s.upPx x g).vs = s.vs ∧ (s.upPx x g).cps = s.cps ∧
    (s.upPx x g).escrow = s.escrow ∧ (s.upPx x g).red = s.red ∧ (s.upPx x g).seams = s.seams ∧
    (s.upPx x g).seam = s.seam ∧ (s.upPx x g).tal = s.tal ∧ (s.upPx x g).sys = s.sys ∧ (s.upPx x g).out = s.out ∧
    (s.upPx x g).free = s.free := by
  refine ⟨?_, ?_, ?_, ?_, ?_, ?_, ?_, ?_, ?_, ?_, ?_, ?_, ?_, ?_, ?_, ?_, ?_, ?_, ?_, ?_, ?_, ?_, ?_, ?_, ?_, ?_, ?_, ?_, ?_, ?_, ?_, ?_, ?_, ?_, ?_, ?_, ?_, ?_, ?_⟩ <;> rfl

/-- `upFc` changes `fcs` alone. -/
@[simp] theorem upFc_other (k : Nat) (g : FcS → FcS) :
    (s.upFc k g).pending = s.pending ∧ (s.upFc k g).regs = s.regs ∧ (s.upFc k g).sram = s.sram ∧
    (s.upFc k g).banks = s.banks ∧ (s.upFc k g).bankSeen = s.bankSeen ∧ (s.upFc k g).msix = s.msix ∧
    (s.upFc k g).pba = s.pba ∧ (s.upFc k g).vecPend = s.vecPend ∧ (s.upFc k g).merged = s.merged ∧
    (s.upFc k g).ports = s.ports ∧ (s.upFc k g).ctxs = s.ctxs ∧ (s.upFc k g).axes = s.axes ∧ (s.upFc k g).tms = s.tms ∧
    (s.upFc k g).legs = s.legs ∧ (s.upFc k g).pairs = s.pairs ∧ (s.upFc k g).pis = s.pis ∧
    (s.upFc k g).links = s.links ∧ (s.upFc k g).safs = s.safs ∧ (s.upFc k g).cmpFails = s.cmpFails ∧
    (s.upFc k g).voteFail = s.voteFail ∧ (s.upFc k g).pmIns = s.pmIns ∧ (s.upFc k g).pm = s.pm ∧
    (s.upFc k g).dmas = s.dmas ∧ (s.upFc k g).isls = s.isls ∧ (s.upFc k g).fl = s.fl ∧ (s.upFc k g).vault = s.vault ∧
    (s.upFc k g).wear = s.wear ∧ (s.upFc k g).vq = s.vq ∧ (s.upFc k g).vheld = s.vheld ∧ (s.upFc k g).vs = s.vs ∧
    (s.upFc k g).cps = s.cps ∧ (s.upFc k g).escrow = s.escrow ∧ (s.upFc k g).red = s.red ∧
    (s.upFc k g).seams = s.seams ∧ (s.upFc k g).seam = s.seam ∧ (s.upFc k g).tal = s.tal ∧ (s.upFc k g).sys = s.sys ∧
    (s.upFc k g).out = s.out ∧ (s.upFc k g).free = s.free := by
  refine ⟨?_, ?_, ?_, ?_, ?_, ?_, ?_, ?_, ?_, ?_, ?_, ?_, ?_, ?_, ?_, ?_, ?_, ?_, ?_, ?_, ?_, ?_, ?_, ?_, ?_, ?_, ?_, ?_, ?_, ?_, ?_, ?_, ?_, ?_, ?_, ?_, ?_, ?_, ?_⟩ <;> rfl

/-- `upCp` changes `cps` alone. -/
@[simp] theorem upCp_other (n : Nat) (g : CpS → CpS) :
    (s.upCp n g).pending = s.pending ∧ (s.upCp n g).regs = s.regs ∧ (s.upCp n g).sram = s.sram ∧
    (s.upCp n g).banks = s.banks ∧ (s.upCp n g).bankSeen = s.bankSeen ∧ (s.upCp n g).msix = s.msix ∧
    (s.upCp n g).pba = s.pba ∧ (s.upCp n g).vecPend = s.vecPend ∧ (s.upCp n g).merged = s.merged ∧
    (s.upCp n g).ports = s.ports ∧ (s.upCp n g).ctxs = s.ctxs ∧ (s.upCp n g).axes = s.axes ∧ (s.upCp n g).tms = s.tms ∧
    (s.upCp n g).legs = s.legs ∧ (s.upCp n g).fcs = s.fcs ∧ (s.upCp n g).pairs = s.pairs ∧ (s.upCp n g).pis = s.pis ∧
    (s.upCp n g).links = s.links ∧ (s.upCp n g).safs = s.safs ∧ (s.upCp n g).cmpFails = s.cmpFails ∧
    (s.upCp n g).voteFail = s.voteFail ∧ (s.upCp n g).pmIns = s.pmIns ∧ (s.upCp n g).pm = s.pm ∧
    (s.upCp n g).dmas = s.dmas ∧ (s.upCp n g).isls = s.isls ∧ (s.upCp n g).fl = s.fl ∧ (s.upCp n g).vault = s.vault ∧
    (s.upCp n g).wear = s.wear ∧ (s.upCp n g).vq = s.vq ∧ (s.upCp n g).vheld = s.vheld ∧ (s.upCp n g).vs = s.vs ∧
    (s.upCp n g).escrow = s.escrow ∧ (s.upCp n g).red = s.red ∧ (s.upCp n g).seams = s.seams ∧
    (s.upCp n g).seam = s.seam ∧ (s.upCp n g).tal = s.tal ∧ (s.upCp n g).sys = s.sys ∧ (s.upCp n g).out = s.out ∧
    (s.upCp n g).free = s.free := by
  refine ⟨?_, ?_, ?_, ?_, ?_, ?_, ?_, ?_, ?_, ?_, ?_, ?_, ?_, ?_, ?_, ?_, ?_, ?_, ?_, ?_, ?_, ?_, ?_, ?_, ?_, ?_, ?_, ?_, ?_, ?_, ?_, ?_, ?_, ?_, ?_, ?_, ?_, ?_, ?_⟩ <;> rfl

/-- `upRed` changes `red` alone. -/
@[simp] theorem upRed_other (g : RedS → RedS) :
    (s.upRed g).pending = s.pending ∧ (s.upRed g).regs = s.regs ∧ (s.upRed g).sram = s.sram ∧
    (s.upRed g).banks = s.banks ∧ (s.upRed g).bankSeen = s.bankSeen ∧ (s.upRed g).msix = s.msix ∧
    (s.upRed g).pba = s.pba ∧ (s.upRed g).vecPend = s.vecPend ∧ (s.upRed g).merged = s.merged ∧
    (s.upRed g).ports = s.ports ∧ (s.upRed g).ctxs = s.ctxs ∧ (s.upRed g).axes = s.axes ∧ (s.upRed g).tms = s.tms ∧
    (s.upRed g).legs = s.legs ∧ (s.upRed g).fcs = s.fcs ∧ (s.upRed g).pairs = s.pairs ∧ (s.upRed g).pis = s.pis ∧
    (s.upRed g).links = s.links ∧ (s.upRed g).safs = s.safs ∧ (s.upRed g).cmpFails = s.cmpFails ∧
    (s.upRed g).voteFail = s.voteFail ∧ (s.upRed g).pmIns = s.pmIns ∧ (s.upRed g).pm = s.pm ∧
    (s.upRed g).dmas = s.dmas ∧ (s.upRed g).isls = s.isls ∧ (s.upRed g).fl = s.fl ∧ (s.upRed g).vault = s.vault ∧
    (s.upRed g).wear = s.wear ∧ (s.upRed g).vq = s.vq ∧ (s.upRed g).vheld = s.vheld ∧ (s.upRed g).vs = s.vs ∧
    (s.upRed g).cps = s.cps ∧ (s.upRed g).escrow = s.escrow ∧ (s.upRed g).seams = s.seams ∧ (s.upRed g).seam = s.seam ∧
    (s.upRed g).tal = s.tal ∧ (s.upRed g).sys = s.sys ∧ (s.upRed g).out = s.out ∧ (s.upRed g).free = s.free := by
  refine ⟨?_, ?_, ?_, ?_, ?_, ?_, ?_, ?_, ?_, ?_, ?_, ?_, ?_, ?_, ?_, ?_, ?_, ?_, ?_, ?_, ?_, ?_, ?_, ?_, ?_, ?_, ?_, ?_, ?_, ?_, ?_, ?_, ?_, ?_, ?_, ?_, ?_, ?_, ?_⟩ <;> rfl

/-- `upSp` changes `seams` alone. -/
@[simp] theorem upSp_other (p : Nat) (g : SeamPS → SeamPS) :
    (s.upSp p g).pending = s.pending ∧ (s.upSp p g).regs = s.regs ∧ (s.upSp p g).sram = s.sram ∧
    (s.upSp p g).banks = s.banks ∧ (s.upSp p g).bankSeen = s.bankSeen ∧ (s.upSp p g).msix = s.msix ∧
    (s.upSp p g).pba = s.pba ∧ (s.upSp p g).vecPend = s.vecPend ∧ (s.upSp p g).merged = s.merged ∧
    (s.upSp p g).ports = s.ports ∧ (s.upSp p g).ctxs = s.ctxs ∧ (s.upSp p g).axes = s.axes ∧ (s.upSp p g).tms = s.tms ∧
    (s.upSp p g).legs = s.legs ∧ (s.upSp p g).fcs = s.fcs ∧ (s.upSp p g).pairs = s.pairs ∧ (s.upSp p g).pis = s.pis ∧
    (s.upSp p g).links = s.links ∧ (s.upSp p g).safs = s.safs ∧ (s.upSp p g).cmpFails = s.cmpFails ∧
    (s.upSp p g).voteFail = s.voteFail ∧ (s.upSp p g).pmIns = s.pmIns ∧ (s.upSp p g).pm = s.pm ∧
    (s.upSp p g).dmas = s.dmas ∧ (s.upSp p g).isls = s.isls ∧ (s.upSp p g).fl = s.fl ∧ (s.upSp p g).vault = s.vault ∧
    (s.upSp p g).wear = s.wear ∧ (s.upSp p g).vq = s.vq ∧ (s.upSp p g).vheld = s.vheld ∧ (s.upSp p g).vs = s.vs ∧
    (s.upSp p g).cps = s.cps ∧ (s.upSp p g).escrow = s.escrow ∧ (s.upSp p g).red = s.red ∧ (s.upSp p g).seam = s.seam ∧
    (s.upSp p g).tal = s.tal ∧ (s.upSp p g).sys = s.sys ∧ (s.upSp p g).out = s.out ∧ (s.upSp p g).free = s.free := by
  refine ⟨?_, ?_, ?_, ?_, ?_, ?_, ?_, ?_, ?_, ?_, ?_, ?_, ?_, ?_, ?_, ?_, ?_, ?_, ?_, ?_, ?_, ?_, ?_, ?_, ?_, ?_, ?_, ?_, ?_, ?_, ?_, ?_, ?_, ?_, ?_, ?_, ?_, ?_, ?_⟩ <;> rfl

/-- `upSeam` changes `seam` alone. -/
@[simp] theorem upSeam_other (g : SeamS → SeamS) :
    (s.upSeam g).pending = s.pending ∧ (s.upSeam g).regs = s.regs ∧ (s.upSeam g).sram = s.sram ∧
    (s.upSeam g).banks = s.banks ∧ (s.upSeam g).bankSeen = s.bankSeen ∧ (s.upSeam g).msix = s.msix ∧
    (s.upSeam g).pba = s.pba ∧ (s.upSeam g).vecPend = s.vecPend ∧ (s.upSeam g).merged = s.merged ∧
    (s.upSeam g).ports = s.ports ∧ (s.upSeam g).ctxs = s.ctxs ∧ (s.upSeam g).axes = s.axes ∧ (s.upSeam g).tms = s.tms ∧
    (s.upSeam g).legs = s.legs ∧ (s.upSeam g).fcs = s.fcs ∧ (s.upSeam g).pairs = s.pairs ∧ (s.upSeam g).pis = s.pis ∧
    (s.upSeam g).links = s.links ∧ (s.upSeam g).safs = s.safs ∧ (s.upSeam g).cmpFails = s.cmpFails ∧
    (s.upSeam g).voteFail = s.voteFail ∧ (s.upSeam g).pmIns = s.pmIns ∧ (s.upSeam g).pm = s.pm ∧
    (s.upSeam g).dmas = s.dmas ∧ (s.upSeam g).isls = s.isls ∧ (s.upSeam g).fl = s.fl ∧ (s.upSeam g).vault = s.vault ∧
    (s.upSeam g).wear = s.wear ∧ (s.upSeam g).vq = s.vq ∧ (s.upSeam g).vheld = s.vheld ∧ (s.upSeam g).vs = s.vs ∧
    (s.upSeam g).cps = s.cps ∧ (s.upSeam g).escrow = s.escrow ∧ (s.upSeam g).red = s.red ∧
    (s.upSeam g).seams = s.seams ∧ (s.upSeam g).tal = s.tal ∧ (s.upSeam g).sys = s.sys ∧ (s.upSeam g).out = s.out ∧
    (s.upSeam g).free = s.free := by
  refine ⟨?_, ?_, ?_, ?_, ?_, ?_, ?_, ?_, ?_, ?_, ?_, ?_, ?_, ?_, ?_, ?_, ?_, ?_, ?_, ?_, ?_, ?_, ?_, ?_, ?_, ?_, ?_, ?_, ?_, ?_, ?_, ?_, ?_, ?_, ?_, ?_, ?_, ?_, ?_⟩ <;> rfl

/-- `upTal` changes `tal` alone. -/
@[simp] theorem upTal_other (g : TalS → TalS) :
    (s.upTal g).pending = s.pending ∧ (s.upTal g).regs = s.regs ∧ (s.upTal g).sram = s.sram ∧
    (s.upTal g).banks = s.banks ∧ (s.upTal g).bankSeen = s.bankSeen ∧ (s.upTal g).msix = s.msix ∧
    (s.upTal g).pba = s.pba ∧ (s.upTal g).vecPend = s.vecPend ∧ (s.upTal g).merged = s.merged ∧
    (s.upTal g).ports = s.ports ∧ (s.upTal g).ctxs = s.ctxs ∧ (s.upTal g).axes = s.axes ∧ (s.upTal g).tms = s.tms ∧
    (s.upTal g).legs = s.legs ∧ (s.upTal g).fcs = s.fcs ∧ (s.upTal g).pairs = s.pairs ∧ (s.upTal g).pis = s.pis ∧
    (s.upTal g).links = s.links ∧ (s.upTal g).safs = s.safs ∧ (s.upTal g).cmpFails = s.cmpFails ∧
    (s.upTal g).voteFail = s.voteFail ∧ (s.upTal g).pmIns = s.pmIns ∧ (s.upTal g).pm = s.pm ∧
    (s.upTal g).dmas = s.dmas ∧ (s.upTal g).isls = s.isls ∧ (s.upTal g).fl = s.fl ∧ (s.upTal g).vault = s.vault ∧
    (s.upTal g).wear = s.wear ∧ (s.upTal g).vq = s.vq ∧ (s.upTal g).vheld = s.vheld ∧ (s.upTal g).vs = s.vs ∧
    (s.upTal g).cps = s.cps ∧ (s.upTal g).escrow = s.escrow ∧ (s.upTal g).red = s.red ∧ (s.upTal g).seams = s.seams ∧
    (s.upTal g).seam = s.seam ∧ (s.upTal g).sys = s.sys ∧ (s.upTal g).out = s.out ∧ (s.upTal g).free = s.free := by
  refine ⟨?_, ?_, ?_, ?_, ?_, ?_, ?_, ?_, ?_, ?_, ?_, ?_, ?_, ?_, ?_, ?_, ?_, ?_, ?_, ?_, ?_, ?_, ?_, ?_, ?_, ?_, ?_, ?_, ?_, ?_, ?_, ?_, ?_, ?_, ?_, ?_, ?_, ?_, ?_⟩ <;> rfl

/-- `vaultWr` changes `vault` alone. -/
@[simp] theorem vaultWr_other (w : Nat) (v : Word) :
    (s.vaultWr w v).pending = s.pending ∧ (s.vaultWr w v).regs = s.regs ∧ (s.vaultWr w v).sram = s.sram ∧
    (s.vaultWr w v).banks = s.banks ∧ (s.vaultWr w v).bankSeen = s.bankSeen ∧ (s.vaultWr w v).msix = s.msix ∧
    (s.vaultWr w v).pba = s.pba ∧ (s.vaultWr w v).vecPend = s.vecPend ∧ (s.vaultWr w v).merged = s.merged ∧
    (s.vaultWr w v).ports = s.ports ∧ (s.vaultWr w v).ctxs = s.ctxs ∧ (s.vaultWr w v).axes = s.axes ∧
    (s.vaultWr w v).tms = s.tms ∧ (s.vaultWr w v).legs = s.legs ∧ (s.vaultWr w v).fcs = s.fcs ∧
    (s.vaultWr w v).pairs = s.pairs ∧ (s.vaultWr w v).pis = s.pis ∧ (s.vaultWr w v).links = s.links ∧
    (s.vaultWr w v).safs = s.safs ∧ (s.vaultWr w v).cmpFails = s.cmpFails ∧ (s.vaultWr w v).voteFail = s.voteFail ∧
    (s.vaultWr w v).pmIns = s.pmIns ∧ (s.vaultWr w v).pm = s.pm ∧ (s.vaultWr w v).dmas = s.dmas ∧
    (s.vaultWr w v).isls = s.isls ∧ (s.vaultWr w v).fl = s.fl ∧ (s.vaultWr w v).wear = s.wear ∧
    (s.vaultWr w v).vq = s.vq ∧ (s.vaultWr w v).vheld = s.vheld ∧ (s.vaultWr w v).vs = s.vs ∧
    (s.vaultWr w v).cps = s.cps ∧ (s.vaultWr w v).escrow = s.escrow ∧ (s.vaultWr w v).red = s.red ∧
    (s.vaultWr w v).seams = s.seams ∧ (s.vaultWr w v).seam = s.seam ∧ (s.vaultWr w v).tal = s.tal ∧
    (s.vaultWr w v).sys = s.sys ∧ (s.vaultWr w v).out = s.out ∧ (s.vaultWr w v).free = s.free := by
  refine ⟨?_, ?_, ?_, ?_, ?_, ?_, ?_, ?_, ?_, ?_, ?_, ?_, ?_, ?_, ?_, ?_, ?_, ?_, ?_, ?_, ?_, ?_, ?_, ?_, ?_, ?_, ?_, ?_, ?_, ?_, ?_, ?_, ?_, ?_, ?_, ?_, ?_, ?_, ?_⟩ <;> rfl

/-- Drawing a free value changes the count of drawn values alone. -/
@[simp] theorem fresh_other :
    s.fresh.2.pending = s.pending ∧ s.fresh.2.regs = s.regs ∧ s.fresh.2.sram = s.sram ∧ s.fresh.2.banks = s.banks ∧ s.fresh.2.bankSeen = s.bankSeen ∧ s.fresh.2.msix = s.msix ∧ s.fresh.2.pba = s.pba ∧ s.fresh.2.vecPend = s.vecPend ∧ s.fresh.2.merged = s.merged ∧ s.fresh.2.ports = s.ports ∧ s.fresh.2.ctxs = s.ctxs ∧ s.fresh.2.axes = s.axes ∧ s.fresh.2.tms = s.tms ∧ s.fresh.2.legs = s.legs ∧ s.fresh.2.fcs = s.fcs ∧ s.fresh.2.pairs = s.pairs ∧ s.fresh.2.pis = s.pis ∧ s.fresh.2.links = s.links ∧ s.fresh.2.safs = s.safs ∧ s.fresh.2.cmpFails = s.cmpFails ∧ s.fresh.2.voteFail = s.voteFail ∧ s.fresh.2.pmIns = s.pmIns ∧ s.fresh.2.pm = s.pm ∧ s.fresh.2.dmas = s.dmas ∧ s.fresh.2.isls = s.isls ∧ s.fresh.2.fl = s.fl ∧ s.fresh.2.vault = s.vault ∧ s.fresh.2.wear = s.wear ∧ s.fresh.2.vq = s.vq ∧ s.fresh.2.vheld = s.vheld ∧ s.fresh.2.vs = s.vs ∧ s.fresh.2.cps = s.cps ∧ s.fresh.2.escrow = s.escrow ∧ s.fresh.2.red = s.red ∧ s.fresh.2.seams = s.seams ∧ s.fresh.2.seam = s.seam ∧ s.fresh.2.tal = s.tal ∧ s.fresh.2.sys = s.sys ∧ s.fresh.2.out = s.out := by
  refine ⟨?_, ?_, ?_, ?_, ?_, ?_, ?_, ?_, ?_, ?_, ?_, ?_, ?_, ?_, ?_, ?_, ?_, ?_, ?_, ?_, ?_, ?_, ?_, ?_, ?_, ?_, ?_, ?_, ?_, ?_, ?_, ?_, ?_, ?_, ?_, ?_, ?_, ?_, ?_⟩ <;> rfl

@[simp] theorem ax_upAx (i j : Nat) (g : AxisS → AxisS) : (s.upAx i g).ax j = if j = i then g (s.ax i) else s.ax j :=
  sget_sset _ _ _ _ _

@[simp] theorem tm_upTm (i j : Nat) (g : TableS → TableS) : (s.upTm i g).tm j = if j = i then g (s.tm i) else s.tm j :=
  sget_sset _ _ _ _ _

@[simp] theorem ctx_upCtx (i j : Nat) (g : CtxS → CtxS) : (s.upCtx i g).ctx j = if j = i then g (s.ctx i) else s.ctx j :=
  sget_sset _ _ _ _ _

@[simp] theorem port_upPort (i j : Nat) (g : PortS → PortS) : (s.upPort i g).port j = if j = i then g (s.port i) else s.port j :=
  sget_sset _ _ _ _ _

@[simp] theorem leg_upLeg (i j : Nat) (g : LegS → LegS) : (s.upLeg i g).leg j = if j = i then g (s.leg i) else s.leg j :=
  sget_sset _ _ _ _ _

@[simp] theorem dma_upDma (i j : Nat) (g : DmaS → DmaS) : (s.upDma i g).dma j = if j = i then g (s.dma i) else s.dma j :=
  sget_sset _ _ _ _ _

@[simp] theorem pi_upPi (i j : Nat) (g : PiS → PiS) : (s.upPi i g).pi j = if j = i then g (s.pi i) else s.pi j :=
  sget_sset _ _ _ _ _

@[simp] theorem lnk_upLnk (i j : Nat) (g : LinkS → LinkS) : (s.upLnk i g).lnk j = if j = i then g (s.lnk i) else s.lnk j :=
  sget_sset _ _ _ _ _

@[simp] theorem isl_upIsl (i j : Nat) (g : IslandS → IslandS) : (s.upIsl i g).isl j = if j = i then g (s.isl i) else s.isl j :=
  sget_sset _ _ _ _ _

@[simp] theorem pair_upPair (i j : Nat) (g : PairS → PairS) : (s.upPair i g).pair j = if j = i then g (s.pair i) else s.pair j :=
  sget_sset _ _ _ _ _

@[simp] theorem saf_upSaf (i j : Nat) (g : SafS → SafS) : (s.upSaf i g).saf j = if j = i then g (s.saf i) else s.saf j :=
  sget_sset _ _ _ _ _

@[simp] theorem pmIn_upPmIn (i j : Nat) (g : PmInS → PmInS) : (s.upPmIn i g).pmIn j = if j = i then g (s.pmIn i) else s.pmIn j :=
  sget_sset _ _ _ _ _

@[simp] theorem fc_upFc (i j : Nat) (g : FcS → FcS) : (s.upFc i g).fc j = if j = i then g (s.fc i) else s.fc j :=
  sget_sset _ _ _ _ _

@[simp] theorem cp_upCp (i j : Nat) (g : CpS → CpS) : (s.upCp i g).cp j = if j = i then g (s.cp i) else s.cp j :=
  sget_sset _ _ _ _ _

@[simp] theorem sp_upSp (i j : Nat) (g : SeamPS → SeamPS) : (s.upSp i g).sp j = if j = i then g (s.sp i) else s.sp j :=
  sget_sset _ _ _ _ _


/-! ## Registers -/

theorem rd_wr (a b : Nat) (w : Word) : (s.wr a w).rd b = if b = a then w else s.rd b := sget_sset _ _ _ _ _

@[simp] theorem rd_wr_same (a : Nat) (w : Word) : (s.wr a w).rd a = w := by simp [rd_wr]

theorem rd_wr_ne {a b : Nat} (w : Word) (h : b ≠ a) : (s.wr a w).rd b = s.rd b := by simp [rd_wr, h]

theorem rd_put (f : FieldRef) (v b : Nat) :
    (s.put f v).rd b = if b = f.addr then fieldSet (s.rd b) f.lo f.width v else s.rd b := by
  unfold State.put; rw [rd_wr]; split <;> simp_all

theorem rd_put_ne {f : FieldRef} {b : Nat} (v : Nat) (h : b ≠ f.addr) : (s.put f v).rd b = s.rd b := by simp [rd_put, h]

/-- A field reads back what was written, cut to its width. -/
theorem get_put (f : FieldRef) (v : Nat) (h : f.lo + f.width ≤ 32) : (s.put f v).get f = v % 2 ^ f.width := by
  unfold State.get; rw [rd_put, if_pos rfl]; exact fieldGet_fieldSet _ _ _ _ h

/-- Writing a field leaves every field apart from it alone. -/
theorem get_put_ne (f g : FieldRef) (v : Nat) (hf : f.lo + f.width ≤ 32)
    (h : g.addr ≠ f.addr ∨ g.lo + g.width ≤ f.lo ∨ f.lo + f.width ≤ g.lo) : (s.put f v).get g = s.get g := by
  unfold State.get; rw [rd_put]; split
  · exact fieldGet_fieldSet_ne _ _ _ _ _ _ hf (h.resolve_left (by simp_all))
  · rfl

/-- A write of a whole word changes no field of another word. -/
theorem get_wr_ne (g : FieldRef) (a : Nat) (w : Word) (h : g.addr ≠ a) : (s.wr a w).get g = s.get g := by
  unfold State.get; rw [rd_wr_ne _ _ h]

theorem get_lt (f : FieldRef) : s.get f < 2 ^ f.width := fieldGet_lt _ _ _

theorem on_putB (f : FieldRef) (b : Bool) (h : f.lo + f.width ≤ 32) (hw : 0 < f.width) : (s.putB f b).on f = b := by
  unfold State.on State.putB
  rw [get_put _ _ _ h]
  cases b
  · simp [b2n]
  · have : 1 < 2 ^ f.width := Nat.one_lt_two_pow (by omega)
    simp [b2n, Nat.mod_eq_of_lt this]

theorem on_putB_ne (f g : FieldRef) (b : Bool) (hf : f.lo + f.width ≤ 32)
    (h : g.addr ≠ f.addr ∨ g.lo + g.width ≤ f.lo ∨ f.lo + f.width ≤ g.lo) : (s.putB f b).on g = s.on g := by
  unfold State.on State.putB; rw [get_put_ne _ _ _ _ hf h]

/-- A field read is a function of the registers alone. -/
theorem get_congr {s t : State} (f : FieldRef) (h : t.rd f.addr = s.rd f.addr) : t.get f = s.get f := by
  unfold State.get; rw [h]

theorem rd_congr {s t : State} (h : t.regs = s.regs) (a : Nat) : t.rd a = s.rd a := by unfold State.rd; rw [h]

/-! ## Memory -/

theorem sramRd_sramWr (a b : Nat) (v : Byte) : (s.sramWr a v).sramRd b = if b = a then v else s.sramRd b := sget_sset _ _ _ _ _

theorem sramWr_wf (a : Nat) (v : Byte) (h : Memory.wf s.sram) : Memory.wf (s.sramWr a v).sram := swf_sset _ _ _ _ h

theorem sramWrWord_wf (a : Nat) (w : Word) (h : Memory.wf s.sram) : Memory.wf (s.sramWrWord a w).sram :=
  sramWr_wf _ _ _ (sramWr_wf _ _ _ (sramWr_wf _ _ _ (sramWr_wf _ _ _ h)))

theorem sramWrWords_wf (ws : List Word) (s : State) (a : Nat) (h : Memory.wf s.sram) : Memory.wf (s.sramWrWords a ws).sram := by
  induction ws generalizing s a with
  | nil => exact h
  | cons w ws ih => exact ih _ _ (sramWrWord_wf s a w h)

theorem reset_sram_wf : Memory.wf State.reset.sram := swf_nil _

/-! ## Control -/

@[simp] theorem each_nil (f : Nat → State → State) : s.each [] f = s := rfl

@[simp] theorem each_cons (i : Nat) (l : List Nat) (f : Nat → State → State) : s.each (i :: l) f = (f i s).each l f := rfl

/-- What every turn leaves alone, the whole loop leaves alone. -/
theorem each_keep {β : Type} (g : State → β) (l : List Nat) (f : Nat → State → State) (h : ∀ i s, g (f i s) = g s) :
    g (s.each l f) = g s := by
  induction l generalizing s with
  | nil => rfl
  | cons i l ih => rw [each_cons, ih, h]

/-- What every turn keeps true, the whole loop keeps true. -/
theorem each_inv (P : State → Prop) (l : List Nat) (f : Nat → State → State) (h : ∀ i s, P s → P (f i s)) (hs : P s) :
    P (s.each l f) := by
  induction l generalizing s with
  | nil => exact hs
  | cons i l ih => exact ih _ (h i s hs)

@[simp] theorem when_true (f : State → State) : s.when true f = f s := rfl

@[simp] theorem when_false (f : State → State) : s.when false f = s := rfl

theorem when_keep {β : Type} (g : State → β) (c : Bool) (f : State → State) (h : ∀ s, g (f s) = g s) : g (s.when c f) = g s := by
  cases c <;> simp [h]

end Sys2Proof.Laws
end

