-- ==== Sys2Proof/Laws/Kept.lean ====
section
/-! SUPPORT. What every operation leaves alone: the queue of waiting commands, and, but for the few operations that write
them, the shared SRAM and the committed vault words. -/

set_option linter.unreachableTactic false
set_option linter.unusedTactic false
set_option linter.unnecessarySeqFocus false

namespace Sys2Proof.Laws

open Sys2Proof.Machine


@[simp] theorem each_pending (s : State) (l : List Nat) (f : Nat → State → State) (h : ∀ i s, (f i s).pending = s.pending) :
    (s.each l f).pending = s.pending := each_keep s State.pending l f h

@[simp] theorem when_pending (s : State) (c : Bool) (f : State → State) (h : ∀ s, (f s).pending = s.pending) : (s.when c f).pending = s.pending :=
  when_keep s State.pending c f h

@[simp] theorem foldl_pending {α : Type} (l : List α) (f : State → α → State) (s : State) (h : ∀ s x, (f s x).pending = s.pending) :
    (l.foldl f s).pending = s.pending := by
  induction l generalizing s with
  | nil => rfl
  | cons x l ih => rw [List.foldl_cons, ih, h]

@[simp] theorem ite_pending (c : Prop) [Decidable c] (s t : State) : (if c then s else t).pending = if c then s.pending else t.pending := by split <;> rfl

@[simp] theorem each_sram (s : State) (l : List Nat) (f : Nat → State → State) (h : ∀ i s, (f i s).sram = s.sram) :
    (s.each l f).sram = s.sram := each_keep s State.sram l f h

@[simp] theorem when_sram (s : State) (c : Bool) (f : State → State) (h : ∀ s, (f s).sram = s.sram) : (s.when c f).sram = s.sram :=
  when_keep s State.sram c f h

@[simp] theorem foldl_sram {α : Type} (l : List α) (f : State → α → State) (s : State) (h : ∀ s x, (f s x).sram = s.sram) :
    (l.foldl f s).sram = s.sram := by
  induction l generalizing s with
  | nil => rfl
  | cons x l ih => rw [List.foldl_cons, ih, h]

@[simp] theorem ite_sram (c : Prop) [Decidable c] (s t : State) : (if c then s else t).sram = if c then s.sram else t.sram := by split <;> rfl

@[simp] theorem each_vault (s : State) (l : List Nat) (f : Nat → State → State) (h : ∀ i s, (f i s).vault = s.vault) :
    (s.each l f).vault = s.vault := each_keep s State.vault l f h

@[simp] theorem when_vault (s : State) (c : Bool) (f : State → State) (h : ∀ s, (f s).vault = s.vault) : (s.when c f).vault = s.vault :=
  when_keep s State.vault c f h

@[simp] theorem foldl_vault {α : Type} (l : List α) (f : State → α → State) (s : State) (h : ∀ s x, (f s x).vault = s.vault) :
    (l.foldl f s).vault = s.vault := by
  induction l generalizing s with
  | nil => rfl
  | cons x l ih => rw [List.foldl_cons, ih, h]

@[simp] theorem ite_vault (c : Prop) [Decidable c] (s t : State) : (if c then s else t).vault = if c then s.vault else t.vault := by split <;> rfl

/-- What a register's own effect leaves alone, where the register has one. -/
def KeptO (s : State) (o : Option (State × Nat)) : Prop :=
  ∀ x, o = some x → x.1.pending = s.pending ∧ x.1.sram = s.sram ∧ x.1.vault = s.vault

theorem keptO_ite (s : State) (c : Prop) [Decidable c] (a b : Option (State × Nat)) (ha : KeptO s a) (hb : KeptO s b) :
    KeptO s (if c then a else b) := by split <;> assumption

theorem keptO_none (s : State) : KeptO s none := fun _ h => absurd h (by simp)

theorem keptO_some (s : State) (x : State × Nat) (h : x.1.pending = s.pending ∧ x.1.sram = s.sram ∧ x.1.vault = s.vault) :
    KeptO s (some x) := fun _ hy => Option.some.inj hy ▸ h

@[simp] theorem hostWrites_kept (p a k n : Nat) (l : List Word) (s : State) :
    (hostWrites p a k n l s).pending = s.pending ∧ (hostWrites p a k n l s).sram = s.sram ∧ (hostWrites p a k n l s).vault = s.vault := by
  induction n generalizing a l s with
  | zero => simp [hostWrites]
  | succ n ih => unfold hostWrites; split <;> simp [ih]

@[simp] theorem hostWrite_kept (s : State) (p a : Nat) (l : List Word) :
    (State.hostWrite s p a l).pending = s.pending ∧ (State.hostWrite s p a l).sram = s.sram ∧ (State.hostWrite s p a l).vault = s.vault := by
  unfold State.hostWrite; simp

@[simp] theorem hostReads_kept (p a k n left : Nat) (s : State) :
    (hostReads p a k n left s).pending = s.pending ∧ (hostReads p a k n left s).sram = s.sram ∧ (hostReads p a k n left s).vault = s.vault := by
  induction n generalizing a left s with
  | zero => simp [hostReads]
  | succ n ih => unfold hostReads; split <;> simp [ih]

@[simp] theorem hostRead_kept (s : State) (p a bytes : Nat) :
    (State.hostRead s p a bytes).pending = s.pending ∧ (State.hostRead s p a bytes).sram = s.sram ∧ (State.hostRead s p a bytes).vault = s.vault := by
  unfold State.hostRead; simp

@[simp] theorem wrFree_kept (s : State) (a : Nat) :
    (State.wrFree s a).pending = s.pending ∧ (State.wrFree s a).sram = s.sram ∧ (State.wrFree s a).vault = s.vault := by
  unfold State.wrFree; (try simp) <;> (repeat' split) <;> simp

@[simp] theorem sramWrWord_kept (s : State) (a : Nat) (w : Word) :
    (State.sramWrWord s a w).pending = s.pending ∧ (State.sramWrWord s a w).vault = s.vault := by
  unfold State.sramWrWord; (try simp) <;> (repeat' split) <;> simp

@[simp] theorem sramWrWords_kept (ws : List Word) (s : State) (a : Nat) :
    (s.sramWrWords a ws).pending = s.pending ∧ (s.sramWrWords a ws).vault = s.vault := by
  induction ws generalizing s a with
  | nil => simp [State.sramWrWords]
  | cons w ws ih => unfold State.sramWrWords; simp [ih]

@[simp] theorem talBump_kept (i n : Nat) (s : State) :
    (talBump i n s).pending = s.pending ∧ (talBump i n s).sram = s.sram ∧ (talBump i n s).vault = s.vault := by
  unfold talBump; (try simp) <;> (repeat' split) <;> simp

@[simp] theorem talCount_kept (ev master n a : Nat) (s : State) :
    (talCount ev master n a s).pending = s.pending ∧ (talCount ev master n a s).sram = s.sram ∧ (talCount ev master n a s).vault = s.vault := by
  unfold talCount; (try simp) <;> (repeat' split) <;> simp

@[simp] theorem sendMsix_kept (p v : Nat) (s : State) :
    (sendMsix p v s).pending = s.pending ∧ (sendMsix p v s).sram = s.sram ∧ (sendMsix p v s).vault = s.vault := by
  unfold sendMsix; (try simp) <;> (repeat' split) <;> simp

@[simp] theorem coalesce_kept (p v : Nat) (s : State) :
    (coalesce p v s).pending = s.pending ∧ (coalesce p v s).sram = s.sram ∧ (coalesce p v s).vault = s.vault := by
  unfold coalesce; (try simp) <;> (repeat' split) <;> simp

@[simp] theorem writeRecord_kept (p src unit count : Nat) (detail : Word) (time : Nat) (s : State) :
    (writeRecord p src unit count detail time s).pending = s.pending ∧ (writeRecord p src unit count detail time s).sram = s.sram ∧ (writeRecord p src unit count detail time s).vault = s.vault := by
  unfold writeRecord; (try simp) <;> (repeat' split) <;> simp

@[simp] theorem mergeRecord_kept (p src unit : Nat) (detail : Word) (s : State) :
    (mergeRecord p src unit detail s).pending = s.pending ∧ (mergeRecord p src unit detail s).sram = s.sram ∧ (mergeRecord p src unit detail s).vault = s.vault := by
  unfold mergeRecord; (try simp) <;> (repeat' split) <;> simp

@[simp] theorem deliver_kept (p src unit : Nat) (detail : Word) (s : State) :
    (deliver p src unit detail s).pending = s.pending ∧ (deliver p src unit detail s).sram = s.sram ∧ (deliver p src unit detail s).vault = s.vault := by
  unfold deliver; (try simp) <;> (repeat' split) <;> simp

@[simp] theorem raise_kept (src unit : Nat) (detail : Nat) (s : State) :
    (raise src unit detail s).pending = s.pending ∧ (raise src unit detail s).sram = s.sram ∧ (raise src unit detail s).vault = s.vault := by
  unfold raise; (try simp) <;> (repeat' split) <;> simp

@[simp] theorem raiseFree_kept (src unit : Nat) (s : State) :
    (raiseFree src unit s).pending = s.pending ∧ (raiseFree src unit s).sram = s.sram ∧ (raiseFree src unit s).vault = s.vault := by
  unfold raiseFree; (try simp) <;> (repeat' split) <;> simp

@[simp] theorem deny_kept (p addr : Nat) (bar2 : Bool) (reason : Nat) (s : State) :
    (deny p addr bar2 reason s).pending = s.pending ∧ (deny p addr bar2 reason s).sram = s.sram ∧ (deny p addr bar2 reason s).vault = s.vault := by
  unfold deny; (try simp) <;> (repeat' split) <;> simp

@[simp] theorem denyW_kept (w : Writer) (addr : Nat) (bar2 : Bool) (reason : Nat) (s : State) :
    (denyW w addr bar2 reason s).pending = s.pending ∧ (denyW w addr bar2 reason s).sram = s.sram ∧ (denyW w addr bar2 reason s).vault = s.vault := by
  unfold denyW; (try simp) <;> (repeat' split) <;> simp

@[simp] theorem upExec_kept (s : State) (c : Nat) (f : ExecS → ExecS) :
    (State.upExec s c f).pending = s.pending ∧ (State.upExec s c f).sram = s.sram ∧ (State.upExec s c f).vault = s.vault := by
  unfold State.upExec; (try simp) <;> (repeat' split) <;> simp

@[simp] theorem stepDone_kept (c n : Nat) (s : State) :
    (stepDone c n s).pending = s.pending ∧ (stepDone c n s).sram = s.sram ∧ (stepDone c n s).vault = s.vault := by
  unfold stepDone; (try simp) <;> (repeat' split) <;> simp

@[simp] theorem descDone_kept (c code detail : Nat) (s : State) :
    (descDone c code detail s).pending = s.pending ∧ (descDone c code detail s).sram = s.sram ∧ (descDone c code detail s).vault = s.vault := by
  unfold descDone; (try simp) <;> (repeat' split) <;> simp

@[simp] theorem reqDone_kept (r : Option ReqS) (code detail steps : Nat) (s : State) :
    (reqDone r code detail steps s).pending = s.pending ∧ (reqDone r code detail steps s).sram = s.sram ∧ (reqDone r code detail steps s).vault = s.vault := by
  unfold reqDone; (try simp) <;> (repeat' split) <;> simp

@[simp] theorem ctxAxisSafe_kept (a into : Nat) (s : State) :
    (ctxAxisSafe a into s).pending = s.pending ∧ (ctxAxisSafe a into s).sram = s.sram ∧ (ctxAxisSafe a into s).vault = s.vault := by
  unfold ctxAxisSafe
  refine ⟨each_pending _ _ _ ?_, each_sram _ _ _ ?_, each_vault _ _ _ ?_⟩ <;> intro c s <;> (repeat' split) <;> simp

@[simp] theorem vaultSet_kept (s : State) (w : Nat) (x : VWord) :
    (State.vaultSet s w x).pending = s.pending ∧ (State.vaultSet s w x).sram = s.sram := by
  exact ⟨rfl, rfl⟩

@[simp] theorem fetchNext_kept (c : Nat) (s : State) :
    (fetchNext c s).pending = s.pending ∧ (fetchNext c s).sram = s.sram ∧ (fetchNext c s).vault = s.vault := by
  unfold fetchNext; (try simp) <;> (repeat' split) <;> simp

@[simp] theorem fetchAll_kept (s : State) :
    (fetchAll s).pending = s.pending ∧ (fetchAll s).sram = s.sram ∧ (fetchAll s).vault = s.vault := by
  unfold fetchAll; (try simp) <;> (repeat' split) <;> simp

@[simp] theorem dmaAxisSafe_kept (a : Nat) (s : State) :
    (dmaAxisSafe a s).pending = s.pending ∧ (dmaAxisSafe a s).sram = s.sram ∧ (dmaAxisSafe a s).vault = s.vault := by
  unfold dmaAxisSafe; (try simp) <;> (repeat' split) <;> simp

@[simp] theorem unitsAxisSafe_kept (a into : Nat) (s : State) :
    (unitsAxisSafe a into s).pending = s.pending ∧ (unitsAxisSafe a into s).sram = s.sram ∧ (unitsAxisSafe a into s).vault = s.vault := by
  unfold unitsAxisSafe; (try simp) <;> (repeat' split) <;> simp

@[simp] theorem axEvent_kept (a b detail : Nat) (s : State) :
    (axEvent a b detail s).pending = s.pending ∧ (axEvent a b detail s).sram = s.sram ∧ (axEvent a b detail s).vault = s.vault := by
  unfold axEvent; (try simp) <;> (repeat' split) <;> simp

@[simp] theorem tmEvent_kept (a b detail : Nat) (s : State) :
    (tmEvent a b detail s).pending = s.pending ∧ (tmEvent a b detail s).sram = s.sram ∧ (tmEvent a b detail s).vault = s.vault := by
  unfold tmEvent; (try simp) <;> (repeat' split) <;> simp

@[simp] theorem safEvent_kept (b unit detail : Nat) (s : State) :
    (safEvent b unit detail s).pending = s.pending ∧ (safEvent b unit detail s).sram = s.sram ∧ (safEvent b unit detail s).vault = s.vault := by
  unfold safEvent; (try simp) <;> (repeat' split) <;> simp

@[simp] theorem redEvent_kept (b unit detail : Nat) (s : State) :
    (redEvent b unit detail s).pending = s.pending ∧ (redEvent b unit detail s).sram = s.sram ∧ (redEvent b unit detail s).vault = s.vault := by
  unfold redEvent; (try simp) <;> (repeat' split) <;> simp

@[simp] theorem markOut_kept (ut unit : Nat) (s : State) :
    (markOut ut unit s).pending = s.pending ∧ (markOut ut unit s).sram = s.sram ∧ (markOut ut unit s).vault = s.vault := by
  unfold markOut; (try simp) <;> (repeat' split) <;> simp

@[simp] theorem updatePower_kept (s : State) :
    (updatePower s).pending = s.pending ∧ (updatePower s).sram = s.sram ∧ (updatePower s).vault = s.vault := by
  unfold updatePower; (try simp) <;> (repeat' split) <;> simp

@[simp] theorem wake_kept (src : Nat) (s : State) :
    (wake src s).pending = s.pending ∧ (wake src s).sram = s.sram ∧ (wake src s).vault = s.vault := by
  have h : ∀ (c : Prop) [Decidable c] (a b : State), (a.pending = s.pending ∧ a.sram = s.sram ∧ a.vault = s.vault) →
      (b.pending = s.pending ∧ b.sram = s.sram ∧ b.vault = s.vault) →
      (if c then a else b).pending = s.pending ∧ (if c then a else b).sram = s.sram ∧ (if c then a else b).vault = s.vault := by
    intro c _ a b ha hb; split <;> assumption
  unfold wake; simp only []
  split
  · exact ⟨rfl, rfl, rfl⟩
  generalize hu : (if src = 15 then s.putB PWR_WAKE_CAUSE__TRIP true else s.putBit PWR_WAKE_CAUSE__SRC src true) = u
  have hk : u.pending = s.pending ∧ u.sram = s.sram ∧ u.vault = s.vault := by rw [← hu]; exact h _ _ _ (by simp) (by simp)
  have hw : ∀ v : State, let t := (v.when (!v.awake) fun s => s.each (List.range 4) fun p s => s.when (!s.on (HP_LINK__UP p)) fun s => s.upPort p fun q => { q with wakeN := true });
      t.pending = v.pending ∧ t.sram = v.sram ∧ t.vault = v.vault := by
    intro v
    exact ⟨when_pending _ _ _ fun _ => each_pending _ _ _ fun _ _ => when_pending _ _ _ fun _ => by simp,
      when_sram _ _ _ fun _ => each_sram _ _ _ fun _ _ => when_sram _ _ _ fun _ => by simp,
      when_vault _ _ _ fun _ => each_vault _ _ _ fun _ _ => when_vault _ _ _ fun _ => by simp⟩
  exact h _ _ _ (by simpa [hk] using hw u) hk

@[simp] theorem flHead_kept (s : State) :
    (flHead s).pending = s.pending ∧ (flHead s).sram = s.sram ∧ (flHead s).vault = s.vault := by
  unfold flHead; (try simp) <;> (repeat' split) <;> simp

@[simp] theorem flWrite_kept (kind cls ut detail unit : Nat) (s : State) :
    (flWrite kind cls ut detail unit s).1.pending = s.pending ∧ (flWrite kind cls ut detail unit s).1.sram = s.sram ∧ (flWrite kind cls ut detail unit s).1.vault = s.vault := by
  unfold flWrite; (try simp) <;> (repeat' split) <;> simp

@[simp] theorem flResolve_kept (p : FlRec → Bool) (s : State) :
    (flResolve p s).pending = s.pending ∧ (flResolve p s).sram = s.sram ∧ (flResolve p s).vault = s.vault := by
  unfold flResolve; (try simp) <;> (repeat' split) <;> simp

@[simp] theorem flSettle_kept (s : State) :
    (flSettle s).pending = s.pending ∧ (flSettle s).sram = s.sram ∧ (flSettle s).vault = s.vault := by
  unfold flSettle; (try simp) <;> (repeat' split) <;> simp

@[simp] theorem piHold_kept (n : Nat) (s : State) :
    (piHold n s).pending = s.pending ∧ (piHold n s).sram = s.sram ∧ (piHold n s).vault = s.vault := by
  unfold piHold; (try simp) <;> (repeat' split) <;> simp

@[simp] theorem piTake_kept (n : Nat) (s : State) :
    (piTake n s).pending = s.pending ∧ (piTake n s).sram = s.sram ∧ (piTake n s).vault = s.vault := by
  unfold piTake; (try simp) <;> (repeat' split) <;> simp

@[simp] theorem posSrc_kept (a v : Nat) (s : State) :
    (posSrc a v s).pending = s.pending ∧ (posSrc a v s).sram = s.sram ∧ (posSrc a v s).vault = s.vault := by
  unfold posSrc; (try simp) <;> (repeat' split) <;> simp

@[simp] theorem trackerReset_kept (a : Nat) (s : State) :
    (trackerReset a s).pending = s.pending ∧ (trackerReset a s).sram = s.sram ∧ (trackerReset a s).vault = s.vault := by
  unfold trackerReset; (try simp) <;> (repeat' split) <;> simp

@[simp] theorem trackStart_kept (a : Nat) (s : State) :
    (trackStart a s).pending = s.pending ∧ (trackStart a s).sram = s.sram ∧ (trackStart a s).vault = s.vault := by
  unfold trackStart; (try simp) <;> (repeat' split) <;> simp

@[simp] theorem linkPut_kept (g b : Nat) (v : Bool) (s : State) :
    (linkPut g b v s).pending = s.pending ∧ (linkPut g b v s).sram = s.sram ∧ (linkPut g b v s).vault = s.vault := by
  unfold linkPut; (try simp) <;> (repeat' split) <;> simp

@[simp] theorem tlimShow_kept (s : State) :
    (tlimShow s).pending = s.pending ∧ (tlimShow s).sram = s.sram ∧ (tlimShow s).vault = s.vault := by
  unfold tlimShow; (try simp) <;> (repeat' split) <;> simp

@[simp] theorem tlimFall_kept (g : Nat) (s : State) :
    (tlimFall g s).pending = s.pending ∧ (tlimFall g s).sram = s.sram ∧ (tlimFall g s).vault = s.vault := by
  unfold tlimFall; (try simp) <;> (repeat' split) <;> simp

@[simp] theorem tlimRise_kept (g : Nat) (s : State) :
    (tlimRise g s).pending = s.pending ∧ (tlimRise g s).sram = s.sram ∧ (tlimRise g s).vault = s.vault := by
  unfold tlimRise; (try simp) <;> (repeat' split) <;> simp

@[simp] theorem dschUpdate_kept (s : State) :
    (dschUpdate s).pending = s.pending ∧ (dschUpdate s).sram = s.sram ∧ (dschUpdate s).vault = s.vault := by
  unfold dschUpdate; (try simp) <;> (repeat' split) <;> simp

@[simp] theorem injStart_kept (g : Nat) (s : State) :
    (injStart g s).pending = s.pending ∧ (injStart g s).sram = s.sram ∧ (injStart g s).vault = s.vault := by
  unfold injStart; (try simp) <;> (repeat' split) <;> simp

@[simp] theorem injStop_kept (g : Nat) (s : State) :
    (injStop g s).pending = s.pending ∧ (injStop g s).sram = s.sram ∧ (injStop g s).vault = s.vault := by
  unfold injStop; (try simp) <;> (repeat' split) <;> simp

@[simp] theorem dschStart_kept (g : Nat) (s : State) :
    (dschStart g s).pending = s.pending ∧ (dschStart g s).sram = s.sram ∧ (dschStart g s).vault = s.vault := by
  unfold dschStart; (try simp) <;> (repeat' split) <;> simp

@[simp] theorem disEnd_kept (g : Nat) (fail : Option Nat) (s : State) :
    (disEnd g fail s).pending = s.pending ∧ (disEnd g fail s).sram = s.sram ∧ (disEnd g fail s).vault = s.vault := by
  unfold disEnd; (try simp) <;> (repeat' split) <;> simp

@[simp] theorem disEval_kept (g : Nat) (s : State) :
    (disEval g s).pending = s.pending ∧ (disEval g s).sram = s.sram ∧ (disEval g s).vault = s.vault := by
  unfold disEval; (try simp) <;> (repeat' split) <;> simp

@[simp] theorem disAll_kept (s : State) :
    (disAll s).pending = s.pending ∧ (disAll s).sram = s.sram ∧ (disAll s).vault = s.vault := by
  unfold disAll; (try simp) <;> (repeat' split) <;> simp

@[simp] theorem legReq_kept (m want : Nat) (s : State) :
    (legReq m want s).pending = s.pending ∧ (legReq m want s).sram = s.sram ∧ (legReq m want s).vault = s.vault := by
  unfold legReq; (try simp) <;> (repeat' split) <;> simp

@[simp] theorem releaseForced_kept (a : Nat) (s : State) :
    (releaseForced a s).pending = s.pending ∧ (releaseForced a s).sram = s.sram ∧ (releaseForced a s).vault = s.vault := by
  unfold releaseForced; (try simp) <;> (repeat' split) <;> simp

@[simp] theorem updatePo_kept (a : Nat) (s : State) :
    (updatePo a s).pending = s.pending ∧ (updatePo a s).sram = s.sram ∧ (updatePo a s).vault = s.vault := by
  unfold updatePo; (try simp) <;> (repeat' split) <;> simp

@[simp] theorem legStop_kept (m : Nat) (s : State) :
    (legStop m s).pending = s.pending ∧ (legStop m s).sram = s.sram ∧ (legStop m s).vault = s.vault := by
  unfold legStop; (try simp) <;> (repeat' split) <;> simp

@[simp] theorem legsDrop_kept (a : Nat) (s : State) :
    (legsDrop a s).pending = s.pending ∧ (legsDrop a s).sram = s.sram ∧ (legsDrop a s).vault = s.vault := by
  unfold legsDrop; (try simp) <;> (repeat' split) <;> simp

@[simp] theorem axGoto_kept (a new : Nat) (s : State) :
    (axGoto a new s).pending = s.pending ∧ (axGoto a new s).sram = s.sram ∧ (axGoto a new s).vault = s.vault := by
  unfold axGoto; (try simp) <;> (repeat' split) <;> simp

@[simp] theorem applySafe_kept (a : Nat) (s : State) :
    (applySafe a s).pending = s.pending ∧ (applySafe a s).sram = s.sram ∧ (applySafe a s).vault = s.vault := by
  unfold applySafe; (try simp) <;> (repeat' split) <;> simp

@[simp] theorem bastAbandon_kept (m : Nat) (s : State) :
    (bastAbandon m s).pending = s.pending ∧ (bastAbandon m s).sram = s.sram ∧ (bastAbandon m s).vault = s.vault := by
  unfold bastAbandon; (try simp) <;> (repeat' split) <;> simp

@[simp] theorem seamDue_kept (k : Nat) (s : State) :
    (seamDue k s).pending = s.pending ∧ (seamDue k s).sram = s.sram ∧ (seamDue k s).vault = s.vault := by
  unfold seamDue; (try simp) <;> (repeat' split) <;> simp

@[simp] theorem closeUndo_kept (a : Nat) (s : State) :
    (closeUndo a s).pending = s.pending ∧ (closeUndo a s).sram = s.sram ∧ (closeUndo a s).vault = s.vault := by
  unfold closeUndo; (try simp) <;> (repeat' split) <;> simp

@[simp] theorem reqRefuse_kept (a code : Nat) (ctx : Option Nat) (s : State) :
    (reqRefuse a code ctx s).pending = s.pending ∧ (reqRefuse a code ctx s).sram = s.sram ∧ (reqRefuse a code ctx s).vault = s.vault := by
  unfold reqRefuse; (try simp) <;> (repeat' split) <;> simp

@[simp] theorem closeRefuse_kept (a code : Nat) (s : State) :
    (closeRefuse a code s).pending = s.pending ∧ (closeRefuse a code s).sram = s.sram ∧ (closeRefuse a code s).vault = s.vault := by
  unfold closeRefuse; (try simp) <;> (repeat' split) <;> simp

@[simp] theorem toFault_kept (a : Nat) (s : State) :
    (toFault a s).pending = s.pending ∧ (toFault a s).sram = s.sram ∧ (toFault a s).vault = s.vault := by
  unfold toFault; (try simp) <;> (repeat' split) <;> simp

@[simp] theorem safeCore_kept (a cause : Nat) (latch : Bool) (s : State) :
    (safeCore a cause latch s).1.pending = s.pending ∧ (safeCore a cause latch s).1.sram = s.sram ∧ (safeCore a cause latch s).1.vault = s.vault := by
  unfold safeCore; (try simp) <;> (repeat' split) <;> simp

@[simp] theorem ctxStopReq_kept (c cause : Nat) (s : State) :
    (ctxStopReq c cause s).pending = s.pending ∧ (ctxStopReq c cause s).sram = s.sram ∧ (ctxStopReq c cause s).vault = s.vault := by
  unfold ctxStopReq; (try simp) <;> (repeat' split) <;> simp

@[simp] theorem deviceSafe_kept (s : State) :
    (deviceSafe s).pending = s.pending ∧ (deviceSafe s).sram = s.sram ∧ (deviceSafe s).vault = s.vault := by
  unfold deviceSafe; (try simp) <;> (repeat' split) <;> simp

@[simp] theorem faultRecord_kept (kind cls ut detail unit : Nat) (s : State) :
    (faultRecord kind cls ut detail unit s).pending = s.pending ∧ (faultRecord kind cls ut detail unit s).sram = s.sram ∧ (faultRecord kind cls ut detail unit s).vault = s.vault := by
  unfold faultRecord; (try simp) <;> (repeat' split) <;> simp

@[simp] theorem unitRecord_kept (kind ut detail unit : Nat) (s : State) :
    (unitRecord kind ut detail unit s).pending = s.pending ∧ (unitRecord kind ut detail unit s).sram = s.sram ∧ (unitRecord kind ut detail unit s).vault = s.vault := by
  unfold unitRecord; (try simp) <;> (repeat' split) <;> simp

@[simp] theorem unitBack_kept (ut unit : Nat) (s : State) :
    (unitBack ut unit s).pending = s.pending ∧ (unitBack ut unit s).sram = s.sram ∧ (unitBack ut unit s).vault = s.vault := by
  unfold unitBack; (try simp) <;> (repeat' split) <;> simp

@[simp] theorem enterSafe_kept (a cause : Nat) (latch : Bool) (s : State) :
    (enterSafe a cause latch s).pending = s.pending ∧ (enterSafe a cause latch s).sram = s.sram ∧ (enterSafe a cause latch s).vault = s.vault := by
  unfold enterSafe; (try simp) <;> (repeat' split) <;> simp

@[simp] theorem safeFor_kept (a w : Nat) (latch : Bool) (s : State) :
    (safeFor a w latch s).pending = s.pending ∧ (safeFor a w latch s).sram = s.sram ∧ (safeFor a w latch s).vault = s.vault := by
  unfold safeFor; (try simp) <;> (repeat' split) <;> simp

@[simp] theorem safeEstablished_kept (a : Nat) (s : State) :
    (safeEstablished a s).pending = s.pending ∧ (safeEstablished a s).sram = s.sram ∧ (safeEstablished a s).vault = s.vault := by
  unfold safeEstablished; (try simp) <;> (repeat' split) <;> simp

@[simp] theorem updateSafHold_kept (a : Nat) (s : State) :
    (updateSafHold a s).pending = s.pending ∧ (updateSafHold a s).sram = s.sram ∧ (updateSafHold a s).vault = s.vault := by
  unfold updateSafHold; (try simp) <;> (repeat' split) <;> simp

@[simp] theorem bankWr_kept (a sel w : Nat) (v : Word) (s : State) :
    (bankWr a sel w v s).pending = s.pending ∧ (bankWr a sel w v s).sram = s.sram ∧ (bankWr a sel w v s).vault = s.vault := by
  unfold bankWr; (try simp) <;> (repeat' split) <;> simp

@[simp] theorem bankPartial_kept (a sel : Nat) (s : State) :
    (bankPartial a sel s).pending = s.pending ∧ (bankPartial a sel s).sram = s.sram ∧ (bankPartial a sel s).vault = s.vault := by
  unfold bankPartial; (try simp) <;> (repeat' split) <;> simp

@[simp] theorem bankCut_kept (l : List Word) (blocks : Nat) (s : State) :
    (bankCut l blocks s).pending = s.pending ∧ (bankCut l blocks s).sram = s.sram ∧ (bankCut l blocks s).vault = s.vault := by
  unfold bankCut; (try simp) <;> (repeat' split) <;> simp

@[simp] theorem bankLoadEnd_kept (l : List Word) (blocks code : Nat) (s : State) :
    (bankLoadEnd l blocks code s).pending = s.pending ∧ (bankLoadEnd l blocks code s).sram = s.sram ∧ (bankLoadEnd l blocks code s).vault = s.vault := by
  unfold bankLoadEnd; (try simp) <;> (repeat' split) <;> simp

@[simp] theorem runCheck_kept (a set : Nat) (s : State) :
    (runCheck a set s).1.pending = s.pending ∧ (runCheck a set s).1.sram = s.sram ∧ (runCheck a set s).1.vault = s.vault := by
  unfold runCheck; (try simp) <;> (repeat' split) <;> simp

@[simp] theorem cfgEffect_kept (m : Nat) (s : State) :
    (cfgEffect m s).pending = s.pending ∧ (cfgEffect m s).sram = s.sram ∧ (cfgEffect m s).vault = s.vault := by
  unfold cfgEffect; (try simp) <;> (repeat' split) <;> simp

@[simp] theorem cntSet_kept (m : Nat) (v : Nat × Bool) (s : State) :
    (cntSet m v s).pending = s.pending ∧ (cntSet m v s).sram = s.sram ∧ (cntSet m v s).vault = s.vault := by
  unfold cntSet; (try simp) <;> (repeat' split) <;> simp

@[simp] theorem cntAdvance_kept (m q : Nat) (s : State) :
    (cntAdvance m q s).pending = s.pending ∧ (cntAdvance m q s).sram = s.sram ∧ (cntAdvance m q s).vault = s.vault := by
  unfold cntAdvance; (try simp) <;> (repeat' split) <;> simp

@[simp] theorem legNow_kept (m : Nat) (one : Bool) (s : State) :
    (legNow m one s).pending = s.pending ∧ (legNow m one s).sram = s.sram ∧ (legNow m one s).vault = s.vault := by
  unfold legNow; (try simp) <;> (repeat' split) <;> simp

@[simp] theorem legFlags_kept (m : Nat) (s : State) :
    (legFlags m s).pending = s.pending ∧ (legFlags m s).sram = s.sram ∧ (legFlags m s).vault = s.vault := by
  unfold legFlags; (try simp) <;> (repeat' split) <;> simp

@[simp] theorem setSend_kept (m : Nat) (loop : Bool) (v : SetS) (s : State) :
    (setSend m loop v s).pending = s.pending ∧ (setSend m loop v s).sram = s.sram ∧ (setSend m loop v s).vault = s.vault := by
  unfold setSend; (try simp) <;> (repeat' split) <;> simp

@[simp] theorem shadowWrite_kept (m r v : Nat) (s : State) :
    (shadowWrite m r v s).pending = s.pending ∧ (shadowWrite m r v s).sram = s.sram ∧ (shadowWrite m r v s).vault = s.vault := by
  unfold shadowWrite; (try simp) <;> (repeat' split) <;> simp

@[simp] theorem legCommit_kept (m : Nat) (s : State) :
    (legCommit m s).pending = s.pending ∧ (legCommit m s).sram = s.sram ∧ (legCommit m s).vault = s.vault := by
  unfold legCommit; (try simp) <;> (repeat' split) <;> simp

@[simp] theorem legDiscard_kept (m : Nat) (s : State) :
    (legDiscard m s).pending = s.pending ∧ (legDiscard m s).sram = s.sram ∧ (legDiscard m s).vault = s.vault := by
  unfold legDiscard; (try simp) <;> (repeat' split) <;> simp

@[simp] theorem reload_kept (m : Nat) (mid : Bool) (s : State) :
    (reload m mid s).pending = s.pending ∧ (reload m mid s).sram = s.sram ∧ (reload m mid s).vault = s.vault := by
  unfold reload; (try simp) <;> (repeat' split) <;> simp

@[simp] theorem loopDuty_kept (a j : Nat) (u : Vec) (s : State) :
    (loopDuty a j u s).pending = s.pending ∧ (loopDuty a j u s).sram = s.sram ∧ (loopDuty a j u s).vault = s.vault := by
  unfold loopDuty; (try simp) <;> (repeat' split) <;> simp

@[simp] theorem legApply_kept (m : Nat) (s : State) :
    (legApply m s).pending = s.pending ∧ (legApply m s).sram = s.sram ∧ (legApply m s).vault = s.vault := by
  unfold legApply; (try simp) <;> (repeat' split) <;> simp

@[simp] theorem pulseAltered_kept (m ch : Nat) (s : State) :
    (pulseAltered m ch s).pending = s.pending ∧ (pulseAltered m ch s).sram = s.sram ∧ (pulseAltered m ch s).vault = s.vault := by
  unfold pulseAltered; (try simp) <;> (repeat' split) <;> simp

@[simp] theorem pulseIssue_kept (m : Nat) (h : Bool) (dt tEnd : Nat) (ext : Bool) (s : State) :
    (pulseIssue m h dt tEnd ext s).pending = s.pending ∧ (pulseIssue m h dt tEnd ext s).sram = s.sram ∧ (pulseIssue m h dt tEnd ext s).vault = s.vault := by
  unfold pulseIssue; (try simp) <;> (repeat' split) <;> simp

@[simp] theorem pulseJudge_kept (m : Nat) (src : Bool) (dt : Nat) (w : Option Nat) (s : State) :
    (pulseJudge m src dt w s).pending = s.pending ∧ (pulseJudge m src dt w s).sram = s.sram ∧ (pulseJudge m src dt w s).vault = s.vault := by
  unfold pulseJudge; (try simp) <;> (repeat' split) <;> simp

@[simp] theorem legEdge_kept (m : Nat) (s : State) :
    (legEdge m s).pending = s.pending ∧ (legEdge m s).sram = s.sram ∧ (legEdge m s).vault = s.vault := by
  unfold legEdge; (try simp) <;> (repeat' split) <;> simp

@[simp] theorem maskApply_kept (m old : Nat) (one : Bool) (s : State) :
    (maskApply m old one s).pending = s.pending ∧ (maskApply m old one s).sram = s.sram ∧ (maskApply m old one s).vault = s.vault := by
  unfold maskApply; (try simp) <;> (repeat' split) <;> simp

@[simp] theorem trgFired_kept (m t : Nat) (s : State) :
    (trgFired m t s).pending = s.pending ∧ (trgFired m t s).sram = s.sram ∧ (trgFired m t s).vault = s.vault := by
  unfold trgFired; (try simp) <;> (repeat' split) <;> simp

@[simp] theorem triggers_kept (m : Nat) (e : Option CntEvent) (s : State) :
    (triggers m e s).pending = s.pending ∧ (triggers m e s).sram = s.sram ∧ (triggers m e s).vault = s.vault := by
  unfold triggers; (try simp) <;> (repeat' split) <;> simp

@[simp] theorem counterStart_kept (m : Nat) (s : State) :
    (counterStart m s).pending = s.pending ∧ (counterStart m s).sram = s.sram ∧ (counterStart m s).vault = s.vault := by
  unfold counterStart; (try simp) <;> (repeat' split) <;> simp

@[simp] theorem counterUpdate_kept (m : Nat) (s : State) :
    (counterUpdate m s).pending = s.pending ∧ (counterUpdate m s).sram = s.sram ∧ (counterUpdate m s).vault = s.vault := by
  unfold counterUpdate; (try simp) <;> (repeat' split) <;> simp

@[simp] theorem counterPllB_kept (s : State) :
    (counterPllB s).pending = s.pending ∧ (counterPllB s).sram = s.sram ∧ (counterPllB s).vault = s.vault := by
  unfold counterPllB; (try simp) <;> (repeat' split) <;> simp

@[simp] theorem switchStart_kept (m : Nat) (s : State) :
    (switchStart m s).pending = s.pending ∧ (switchStart m s).sram = s.sram ∧ (switchStart m s).vault = s.vault := by
  unfold switchStart; (try simp) <;> (repeat' split) <;> simp

@[simp] theorem counterClock_kept (m : Nat) (e : Option CntEvent) (s : State) :
    (counterClock m e s).pending = s.pending ∧ (counterClock m e s).sram = s.sram ∧ (counterClock m e s).vault = s.vault := by
  unfold counterClock; (try simp) <;> (repeat' split) <;> simp

@[simp] theorem counterReload_kept (m : Nat) (mid : Bool) (s : State) :
    (counterReload m mid s).pending = s.pending ∧ (counterReload m mid s).sram = s.sram ∧ (counterReload m mid s).vault = s.vault := by
  unfold counterReload; (try simp) <;> (repeat' split) <;> simp

@[simp] theorem followerLoad_kept (f c : Nat) (down : Bool) (s : State) :
    (followerLoad f c down s).pending = s.pending ∧ (followerLoad f c down s).sram = s.sram ∧ (followerLoad f c down s).vault = s.vault := by
  unfold followerLoad; (try simp) <;> (repeat' split) <;> simp

@[simp] theorem legsClose_kept (a : Nat) (s : State) :
    (legsClose a s).pending = s.pending ∧ (legsClose a s).sram = s.sram ∧ (legsClose a s).vault = s.vault := by
  unfold legsClose; (try simp) <;> (repeat' split) <;> simp

@[simp] theorem convClock_kept (m : Nat) (s : State) :
    (convClock m s).pending = s.pending ∧ (convClock m s).sram = s.sram ∧ (convClock m s).vault = s.vault := by
  unfold convClock; (try simp) <;> (repeat' split) <;> simp

@[simp] theorem chopConversion_kept (k : Nat) (code : Int) (s : State) :
    (chopConversion k code s).pending = s.pending ∧ (chopConversion k code s).sram = s.sram ∧ (chopConversion k code s).vault = s.vault := by
  unfold chopConversion; (try simp) <;> (repeat' split) <;> simp

@[simp] theorem chopNocur_kept (m : Nat) (s : State) :
    (chopNocur m s).pending = s.pending ∧ (chopNocur m s).sram = s.sram ∧ (chopNocur m s).vault = s.vault := by
  unfold chopNocur; (try simp) <;> (repeat' split) <;> simp

@[simp] theorem carSample_kept (a : Nat) (s : State) :
    (carSample a s).pending = s.pending ∧ (carSample a s).sram = s.sram ∧ (carSample a s).vault = s.vault := by
  unfold carSample; (try simp) <;> (repeat' split) <;> simp

@[simp] theorem estimate_kept (a : Nat) (s : State) :
    (estimate a s).pending = s.pending ∧ (estimate a s).sram = s.sram ∧ (estimate a s).vault = s.vault := by
  unfold estimate; (try simp) <;> (repeat' split) <;> simp

@[simp] theorem driveVec_kept (a v : Nat) (s : State) :
    (driveVec a v s).pending = s.pending ∧ (driveVec a v s).sram = s.sram ∧ (driveVec a v s).vault = s.vault := by
  unfold driveVec; (try simp) <;> (repeat' split) <;> simp

@[simp] theorem gatesOff_kept (a : Nat) (s : State) :
    (gatesOff a s).pending = s.pending ∧ (gatesOff a s).sram = s.sram ∧ (gatesOff a s).vault = s.vault := by
  unfold gatesOff; (try simp) <;> (repeat' split) <;> simp

@[simp] theorem startSwitching_kept (a : Nat) (s : State) :
    (startSwitching a s).pending = s.pending ∧ (startSwitching a s).sram = s.sram ∧ (startSwitching a s).vault = s.vault := by
  unfold startSwitching; (try simp) <;> (repeat' split) <;> simp

@[simp] theorem decide100_kept (a : Nat) (s : State) :
    (decide100 a s).pending = s.pending ∧ (decide100 a s).sram = s.sram ∧ (decide100 a s).vault = s.vault := by
  unfold decide100; (try simp) <;> (repeat' split) <;> simp

@[simp] theorem pulseOff_kept (a : Nat) (s : State) :
    (pulseOff a s).pending = s.pending ∧ (pulseOff a s).sram = s.sram ∧ (pulseOff a s).vault = s.vault := by
  unfold pulseOff; (try simp) <;> (repeat' split) <;> simp

@[simp] theorem coastDecision_kept (a : Nat) (s : State) :
    (coastDecision a s).pending = s.pending ∧ (coastDecision a s).sram = s.sram ∧ (coastDecision a s).vault = s.vault := by
  unfold coastDecision; (try simp) <;> (repeat' split) <;> simp

@[simp] theorem catchSwitch_kept (a : Nat) (s : State) :
    (catchSwitch a s).pending = s.pending ∧ (catchSwitch a s).sram = s.sram ∧ (catchSwitch a s).vault = s.vault := by
  unfold catchSwitch; (try simp) <;> (repeat' split) <;> simp

@[simp] theorem tmLatch_kept (a : Nat) (s : State) :
    (tmLatch a s).pending = s.pending ∧ (tmLatch a s).sram = s.sram ∧ (tmLatch a s).vault = s.vault := by
  unfold tmLatch; (try simp) <;> (repeat' split) <;> simp

@[simp] theorem driftCorrect_kept (a : Nat) (s : State) :
    (driftCorrect a s).pending = s.pending ∧ (driftCorrect a s).sram = s.sram ∧ (driftCorrect a s).vault = s.vault := by
  unfold driftCorrect; (try simp) <;> (repeat' split) <;> simp

@[simp] theorem posSourceStep_kept (a : Nat) (s : State) :
    (posSourceStep a s).pending = s.pending ∧ (posSourceStep a s).sram = s.sram ∧ (posSourceStep a s).vault = s.vault := by
  unfold posSourceStep; (try simp) <;> (repeat' split) <;> simp

@[simp] theorem lossReact_kept (a back : Nat) (s : State) :
    (lossReact a back s).pending = s.pending ∧ (lossReact a back s).sram = s.sram ∧ (lossReact a back s).vault = s.vault := by
  unfold lossReact; (try simp) <;> (repeat' split) <;> simp

@[simp] theorem lossStep_kept (a : Nat) (s : State) :
    (lossStep a s).pending = s.pending ∧ (lossStep a s).sram = s.sram ∧ (lossStep a s).vault = s.vault := by
  unfold lossStep; (try simp) <;> (repeat' split) <;> simp

@[simp] theorem tmSample_kept (a : Nat) (s : State) :
    (tmSample a s).pending = s.pending ∧ (tmSample a s).sram = s.sram ∧ (tmSample a s).vault = s.vault := by
  unfold tmSample; (try simp) <;> (repeat' split) <;> simp

@[simp] theorem watchStep_kept (a : Nat) (crossing : Bool) (s : State) :
    (watchStep a crossing s).pending = s.pending ∧ (watchStep a crossing s).sram = s.sram ∧ (watchStep a crossing s).vault = s.vault := by
  unfold watchStep; (try simp) <;> (repeat' split) <;> simp

@[simp] theorem zcAccept_kept (a i n : Nat) (rev : Bool) (ivals : List Nat) (s : State) :
    (zcAccept a i n rev ivals s).pending = s.pending ∧ (zcAccept a i n rev ivals s).sram = s.sram ∧ (zcAccept a i n rev ivals s).vault = s.vault := by
  unfold zcAccept; (try simp) <;> (repeat' split) <;> simp

@[simp] theorem zcReject_kept (a : Nat) (s : State) :
    (zcReject a s).pending = s.pending ∧ (zcReject a s).sram = s.sram ∧ (zcReject a s).vault = s.vault := by
  unfold zcReject; (try simp) <;> (repeat' split) <;> simp

@[simp] theorem seedFlux_kept (a th : Nat) (s : State) :
    (seedFlux a th s).pending = s.pending ∧ (seedFlux a th s).sram = s.sram ∧ (seedFlux a th s).vault = s.vault := by
  unfold seedFlux; (try simp) <;> (repeat' split) <;> simp

@[simp] theorem catchStart_kept (a : Nat) (s : State) :
    (catchStart a s).pending = s.pending ∧ (catchStart a s).sram = s.sram ∧ (catchStart a s).vault = s.vault := by
  unfold catchStart; (try simp) <;> (repeat' split) <;> simp

@[simp] theorem catchBegin_kept (a : Nat) (s : State) :
    (catchBegin a s).pending = s.pending ∧ (catchBegin a s).sram = s.sram ∧ (catchBegin a s).vault = s.vault := by
  unfold catchBegin; (try simp) <;> (repeat' split) <;> simp

@[simp] theorem catchTrigger_kept (a : Nat) (s : State) :
    (catchTrigger a s).pending = s.pending ∧ (catchTrigger a s).sram = s.sram ∧ (catchTrigger a s).vault = s.vault := by
  unfold catchTrigger; (try simp) <;> (repeat' split) <;> simp

@[simp] theorem catchFail_kept (a code detail : Nat) (s : State) :
    (catchFail a code detail s).pending = s.pending ∧ (catchFail a code detail s).sram = s.sram ∧ (catchFail a code detail s).vault = s.vault := by
  unfold catchFail; (try simp) <;> (repeat' split) <;> simp

@[simp] theorem reqAccept_kept (a target : Nat) (ctx : Option Nat) (s : State) :
    (reqAccept a target ctx s).pending = s.pending ∧ (reqAccept a target ctx s).sram = s.sram ∧ (reqAccept a target ctx s).vault = s.vault := by
  unfold reqAccept; (try simp) <;> (repeat' split) <;> simp

@[simp] theorem closeBegin_kept (a : Nat) (s : State) :
    (closeBegin a s).pending = s.pending ∧ (closeBegin a s).sram = s.sram ∧ (closeBegin a s).vault = s.vault := by
  unfold closeBegin; (try simp) <;> (repeat' split) <;> simp

@[simp] theorem leaveSafe_kept (a new : Nat) (s : State) :
    (leaveSafe a new s).pending = s.pending ∧ (leaveSafe a new s).sram = s.sram ∧ (leaveSafe a new s).vault = s.vault := by
  unfold leaveSafe; (try simp) <;> (repeat' split) <;> simp

@[simp] theorem reqLeaveSafe_kept (a target : Nat) (ctx : Option Nat) (s : State) :
    (reqLeaveSafe a target ctx s).pending = s.pending ∧ (reqLeaveSafe a target ctx s).sram = s.sram ∧ (reqLeaveSafe a target ctx s).vault = s.vault := by
  unfold reqLeaveSafe; (try simp) <;> (repeat' split) <;> simp

@[simp] theorem reqLeaveOff_kept (a target : Nat) (ctx : Option Nat) (s : State) :
    (reqLeaveOff a target ctx s).pending = s.pending ∧ (reqLeaveOff a target ctx s).sram = s.sram ∧ (reqLeaveOff a target ctx s).vault = s.vault := by
  unfold reqLeaveOff; (try simp) <;> (repeat' split) <;> simp

@[simp] theorem closeDrop_kept (a : Nat) (s : State) :
    (closeDrop a s).pending = s.pending ∧ (closeDrop a s).sram = s.sram ∧ (closeDrop a s).vault = s.vault := by
  unfold closeDrop; (try simp) <;> (repeat' split) <;> simp

@[simp] theorem reqRecovery_kept (a target : Nat) (ctx : Option Nat) (s : State) :
    (reqRecovery a target ctx s).pending = s.pending ∧ (reqRecovery a target ctx s).sram = s.sram ∧ (reqRecovery a target ctx s).vault = s.vault := by
  unfold reqRecovery; (try simp) <;> (repeat' split) <;> simp

@[simp] theorem reqRunHold_kept (a target : Nat) (ctx : Option Nat) (s : State) :
    (reqRunHold a target ctx s).pending = s.pending ∧ (reqRunHold a target ctx s).sram = s.sram ∧ (reqRunHold a target ctx s).vault = s.vault := by
  unfold reqRunHold; (try simp) <;> (repeat' split) <;> simp

@[simp] theorem reqCoast_kept (a target : Nat) (ctx : Option Nat) (s : State) :
    (reqCoast a target ctx s).pending = s.pending ∧ (reqCoast a target ctx s).sram = s.sram ∧ (reqCoast a target ctx s).vault = s.vault := by
  unfold reqCoast; (try simp) <;> (repeat' split) <;> simp

@[simp] theorem axRequest_kept (a target : Nat) (ctx : Option Nat) (s : State) :
    (axRequest a target ctx s).pending = s.pending ∧ (axRequest a target ctx s).sram = s.sram ∧ (axRequest a target ctx s).vault = s.vault := by
  unfold axRequest; (try simp) <;> (repeat' split) <;> simp

@[simp] theorem faultClr_kept (a : Nat) (s : State) :
    (faultClr a s).pending = s.pending ∧ (faultClr a s).sram = s.sram ∧ (faultClr a s).vault = s.vault := by
  unfold faultClr; (try simp) <;> (repeat' split) <;> simp

@[simp] theorem closeStep_kept (a : Nat) (s : State) :
    (closeStep a s).pending = s.pending ∧ (closeStep a s).sram = s.sram ∧ (closeStep a s).vault = s.vault := by
  unfold closeStep; (try simp) <;> (repeat' split) <;> simp

@[simp] theorem takeCfg_kept (a : Nat) (s : State) :
    (takeCfg a s).pending = s.pending ∧ (takeCfg a s).sram = s.sram ∧ (takeCfg a s).vault = s.vault := by
  unfold takeCfg; (try simp) <;> (repeat' split) <;> simp

@[simp] theorem sampleLatch_kept (a : Nat) (s : State) :
    (sampleLatch a s).pending = s.pending ∧ (sampleLatch a s).sram = s.sram ∧ (sampleLatch a s).vault = s.vault := by
  unfold sampleLatch; (try simp) <;> (repeat' split) <;> simp

@[simp] theorem holdEntry_kept (a : Nat) (s : State) :
    (holdEntry a s).pending = s.pending ∧ (holdEntry a s).sram = s.sram ∧ (holdEntry a s).vault = s.vault := by
  unfold holdEntry; (try simp) <;> (repeat' split) <;> simp

@[simp] theorem snapTake_kept (a : Nat) (x : Vec) (s : State) :
    (snapTake a x s).pending = s.pending ∧ (snapTake a x s).sram = s.sram ∧ (snapTake a x s).vault = s.vault := by
  unfold snapTake; (try simp) <;> (repeat' split) <;> simp

@[simp] theorem stepBegin_kept (a : Nat) (s : State) :
    (stepBegin a s).pending = s.pending ∧ (stepBegin a s).sram = s.sram ∧ (stepBegin a s).vault = s.vault := by
  unfold stepBegin; (try simp) <;> (repeat' split) <;> simp

@[simp] theorem coefHold_kept (a sel word : Nat) (s : State) :
    (coefHold a sel word s).pending = s.pending ∧ (coefHold a sel word s).sram = s.sram ∧ (coefHold a sel word s).vault = s.vault := by
  unfold coefHold; (try simp) <;> (repeat' split) <;> simp

@[simp] theorem coefEcc_kept (a sel word : Nat) (s : State) :
    (coefEcc a sel word s).pending = s.pending ∧ (coefEcc a sel word s).sram = s.sram ∧ (coefEcc a sel word s).vault = s.vault := by
  unfold coefEcc; (try simp) <;> (repeat' split) <;> simp

@[simp] theorem followCheck_kept (a : Nat) (x : Vec) (s : State) :
    (followCheck a x s).pending = s.pending ∧ (followCheck a x s).sram = s.sram ∧ (followCheck a x s).vault = s.vault := by
  unfold followCheck; (try simp) <;> (repeat' split) <;> simp

@[simp] theorem fullStep_kept (a : Nat) (s : State) :
    (fullStep a s).pending = s.pending ∧ (fullStep a s).sram = s.sram ∧ (fullStep a s).vault = s.vault := by
  unfold fullStep
  extract_lets z set r e w dr u x' s1 s2 sat s3 s4 s5 s6 s7
  have h1 : s1.pending = s.pending ∧ s1.sram = s.sram ∧ s1.vault = s.vault := by simp [s1]
  clear_value s1
  have h2 : s2.pending = s.pending ∧ s2.sram = s.sram ∧ s2.vault = s.vault := by simpa [s2] using h1
  clear_value s2
  have h3 : s3.pending = s.pending ∧ s3.sram = s.sram ∧ s3.vault = s.vault := by simpa [s3] using h2
  clear_value s3
  have h4 : s4.pending = s.pending ∧ s4.sram = s.sram ∧ s4.vault = s.vault := by simpa [s4] using h3
  clear_value s4
  have h5 : s5.pending = s.pending ∧ s5.sram = s.sram ∧ s5.vault = s.vault := by simpa [s5] using h4
  clear_value s5
  simp [s7, s6, h5]

@[simp] theorem applyOut_kept (a : Nat) (s : State) :
    (applyOut a s).pending = s.pending ∧ (applyOut a s).sram = s.sram ∧ (applyOut a s).vault = s.vault := by
  unfold applyOut; (try simp) <;> (repeat' split) <;> simp

@[simp] theorem closeEnd_kept (a : Nat) (s : State) :
    (closeEnd a s).pending = s.pending ∧ (closeEnd a s).sram = s.sram ∧ (closeEnd a s).vault = s.vault := by
  unfold closeEnd; (try simp) <;> (repeat' split) <;> simp

@[simp] theorem setpointWrite_kept (a : Nat) (v : Word) (s : State) :
    (setpointWrite a v s).pending = s.pending ∧ (setpointWrite a v s).sram = s.sram ∧ (setpointWrite a v s).vault = s.vault := by
  unfold setpointWrite; (try simp) <;> (repeat' split) <;> simp

@[simp] theorem bankWrs_kept (a sel w : Nat) (l : List Word) (s : State) :
    (bankWrs a sel w l s).pending = s.pending ∧ (bankWrs a sel w l s).sram = s.sram ∧ (bankWrs a sel w l s).vault = s.vault := by
  induction l generalizing w s with
  | nil => simp [bankWrs]
  | cons w l ih => unfold bankWrs; simp only [ih]; (try split) <;> simp

@[simp] theorem giEvent_kept (i b unit detail : Nat) (s : State) :
    (giEvent i b unit detail s).pending = s.pending ∧ (giEvent i b unit detail s).sram = s.sram ∧ (giEvent i b unit detail s).vault = s.vault := by
  unfold giEvent; (try simp) <;> (repeat' split) <;> simp

@[simp] theorem giReady_kept (i : Nat) (s : State) :
    (giReady i s).pending = s.pending ∧ (giReady i s).sram = s.sram ∧ (giReady i s).vault = s.vault := by
  unfold giReady; (try simp) <;> (repeat' split) <;> simp

@[simp] theorem giStatus_kept (i : Nat) (s : State) :
    (giStatus i s).pending = s.pending ∧ (giStatus i s).sram = s.sram ∧ (giStatus i s).vault = s.vault := by
  unfold giStatus; (try simp) <;> (repeat' split) <;> simp

@[simp] theorem giCfgChange_kept (i : Nat) (s : State) :
    (giCfgChange i s).pending = s.pending ∧ (giCfgChange i s).sram = s.sram ∧ (giCfgChange i s).vault = s.vault := by
  unfold giCfgChange; (try simp) <;> (repeat' split) <;> simp

@[simp] theorem glPut_kept (f : Nat → Nat → FieldRef) (i x v : Nat) (s : State) :
    (glPut f i x v s).pending = s.pending ∧ (glPut f i x v s).sram = s.sram ∧ (glPut f i x v s).vault = s.vault := by
  unfold glPut; (try simp) <;> (repeat' split) <;> simp

@[simp] theorem chPut_kept (i c v : Nat) (s : State) :
    (chPut i c v s).pending = s.pending ∧ (chPut i c v s).sram = s.sram ∧ (chPut i c v s).vault = s.vault := by
  unfold chPut; (try simp) <;> (repeat' split) <;> simp

@[simp] theorem chTurnOn_kept (i c : Nat) (hold : Bool) (s : State) :
    (chTurnOn i c hold s).pending = s.pending ∧ (chTurnOn i c hold s).sram = s.sram ∧ (chTurnOn i c hold s).vault = s.vault := by
  unfold chTurnOn; (try simp) <;> (repeat' split) <;> simp

@[simp] theorem chTurnOff_kept (i c : Nat) (s : State) :
    (chTurnOff i c s).pending = s.pending ∧ (chTurnOff i c s).sram = s.sram ∧ (chTurnOff i c s).vault = s.vault := by
  unfold chTurnOff; (try simp) <;> (repeat' split) <;> simp

@[simp] theorem legTurnOff_kept (i x : Nat) (s : State) :
    (legTurnOff i x s).pending = s.pending ∧ (legTurnOff i x s).sram = s.sram ∧ (legTurnOff i x s).vault = s.vault := by
  unfold legTurnOff; (try simp) <;> (repeat' split) <;> simp

@[simp] theorem holdApply_kept (i x : Nat) (s : State) :
    (holdApply i x s).pending = s.pending ∧ (holdApply i x s).sram = s.sram ∧ (holdApply i x s).vault = s.vault := by
  unfold holdApply; (try simp) <;> (repeat' split) <;> simp

@[simp] theorem tripClearLeg_kept (i x : Nat) (s : State) :
    (tripClearLeg i x s).pending = s.pending ∧ (tripClearLeg i x s).sram = s.sram ∧ (tripClearLeg i x s).vault = s.vault := by
  unfold tripClearLeg; (try simp) <;> (repeat' split) <;> simp

@[simp] theorem crossLock_kept (i x : Nat) (s : State) :
    (crossLock i x s).pending = s.pending ∧ (crossLock i x s).sram = s.sram ∧ (crossLock i x s).vault = s.vault := by
  unfold crossLock; (try simp) <;> (repeat' split) <;> simp

@[simp] theorem fastLost_kept (i : Nat) (s : State) :
    (fastLost i s).pending = s.pending ∧ (fastLost i s).sram = s.sram ∧ (fastLost i s).vault = s.vault := by
  unfold fastLost; (try simp) <;> (repeat' split) <;> simp

@[simp] theorem fastFormStop_kept (s : State) :
    (fastFormStop s).pending = s.pending ∧ (fastFormStop s).sram = s.sram ∧ (fastFormStop s).vault = s.vault := by
  unfold fastFormStop; (try simp) <;> (repeat' split) <;> simp

@[simp] theorem islandAxesSafe_kept (i : Nat) (p : Nat → Bool) (s : State) :
    (islandAxesSafe i p s).pending = s.pending ∧ (islandAxesSafe i p s).sram = s.sram ∧ (islandAxesSafe i p s).vault = s.vault := by
  unfold islandAxesSafe; (try simp) <;> (repeat' split) <;> simp

@[simp] theorem islandBastAbandon_kept (i : Nat) (s : State) :
    (islandBastAbandon i s).pending = s.pending ∧ (islandBastAbandon i s).sram = s.sram ∧ (islandBastAbandon i s).vault = s.vault := by
  unfold islandBastAbandon; (try simp) <;> (repeat' split) <;> simp

@[simp] theorem legShow_kept (i : Nat) (s : State) :
    (legShow i s).pending = s.pending ∧ (legShow i s).sram = s.sram ∧ (legShow i s).vault = s.vault := by
  unfold legShow; (try simp) <;> (repeat' split) <;> simp

@[simp] theorem islandUp_kept (i : Nat) (s : State) :
    (islandUp i s).pending = s.pending ∧ (islandUp i s).sram = s.sram ∧ (islandUp i s).vault = s.vault := by
  unfold islandUp; (try simp) <;> (repeat' split) <;> simp

@[simp] theorem islandReset_kept (i : Nat) (s : State) :
    (islandReset i s).pending = s.pending ∧ (islandReset i s).sram = s.sram ∧ (islandReset i s).vault = s.vault := by
  unfold islandReset; (try simp) <;> (repeat' split) <;> simp

@[simp] theorem holdAgain_kept (i x : Nat) (s : State) :
    (holdAgain i x s).pending = s.pending ∧ (holdAgain i x s).sram = s.sram ∧ (holdAgain i x s).vault = s.vault := by
  unfold holdAgain; (try simp) <;> (repeat' split) <;> simp

@[simp] theorem chSettle_kept (i c : Nat) (s : State) :
    (chSettle i c s).pending = s.pending ∧ (chSettle i c s).sram = s.sram ∧ (chSettle i c s).vault = s.vault := by
  unfold chSettle; (try simp) <;> (repeat' split) <;> simp

@[simp] theorem gateFault_kept (i c : Nat) (timeout : Bool) (s : State) :
    (gateFault i c timeout s).pending = s.pending ∧ (gateFault i c timeout s).sram = s.sram ∧ (gateFault i c timeout s).vault = s.vault := by
  unfold gateFault; (try simp) <;> (repeat' split) <;> simp

@[simp] theorem softStart_kept (i x : Nat) (s : State) :
    (softStart i x s).pending = s.pending ∧ (softStart i x s).sram = s.sram ∧ (softStart i x s).vault = s.vault := by
  unfold softStart; (try simp) <;> (repeat' split) <;> simp

@[simp] theorem tripSend_kept (i mask : Nat) (s : State) :
    (tripSend i mask s).pending = s.pending ∧ (tripSend i mask s).sram = s.sram ∧ (tripSend i mask s).vault = s.vault := by
  unfold tripSend; (try simp) <;> (repeat' split) <;> simp

@[simp] theorem tripWords_kept (as : List Nat) (own : Option Nat) (s : State) :
    (tripWords as own s).pending = s.pending ∧ (tripWords as own s).sram = s.sram ∧ (tripWords as own s).vault = s.vault := by
  unfold tripWords; (try simp) <;> (repeat' split) <;> simp

@[simp] theorem softEnd_kept (i x : Nat) (s : State) :
    (softEnd i x s).pending = s.pending ∧ (softEnd i x s).sram = s.sram ∧ (softEnd i x s).vault = s.vault := by
  unfold softEnd; (try simp) <;> (repeat' split) <;> simp

@[simp] theorem protectAxis_kept (a cause : Nat) (latch : Bool) (detail : Nat) (s : State) :
    (protectAxis a cause latch detail s).pending = s.pending ∧ (protectAxis a cause latch detail s).sram = s.sram ∧ (protectAxis a cause latch detail s).vault = s.vault := by
  unfold protectAxis; (try simp) <;> (repeat' split) <;> simp

@[simp] theorem ascSideChange_kept (a : Nat) (held : Bool) (s : State) :
    (ascSideChange a held s).pending = s.pending ∧ (ascSideChange a held s).sram = s.sram ∧ (ascSideChange a held s).vault = s.vault := by
  unfold ascSideChange; (try simp) <;> (repeat' split) <;> simp

@[simp] theorem windowTrip_kept (a k : Nat) (wb : Bool) (s : State) :
    (windowTrip a k wb s).pending = s.pending ∧ (windowTrip a k wb s).sram = s.sram ∧ (windowTrip a k wb s).vault = s.vault := by
  unfold windowTrip; (try simp) <;> (repeat' split) <;> simp

@[simp] theorem bastAbort_kept (m : Nat) (s : State) :
    (bastAbort m s).pending = s.pending ∧ (bastAbort m s).sram = s.sram ∧ (bastAbort m s).vault = s.vault := by
  unfold bastAbort; (try simp) <;> (repeat' split) <;> simp

@[simp] theorem bastJudge_kept (m : Nat) (b : BastMeas) (s : State) :
    (bastJudge m b s).pending = s.pending ∧ (bastJudge m b s).sram = s.sram ∧ (bastJudge m b s).vault = s.vault := by
  unfold bastJudge; (try simp) <;> (repeat' split) <;> simp

@[simp] theorem bastFinish_kept (m : Nat) (s : State) :
    (bastFinish m s).pending = s.pending ∧ (bastFinish m s).sram = s.sram ∧ (bastFinish m s).vault = s.vault := by
  unfold bastFinish; (try simp) <;> (repeat' split) <;> simp

@[simp] theorem bastStart_kept (m : Nat) (s : State) :
    (bastStart m s).pending = s.pending ∧ (bastStart m s).sram = s.sram ∧ (bastStart m s).vault = s.vault := by
  unfold bastStart; (try simp) <;> (repeat' split) <;> simp

@[simp] theorem bastMade_kept (m k : Nat) (s : State) :
    (bastMade m k s).pending = s.pending ∧ (bastMade m k s).sram = s.sram ∧ (bastMade m k s).vault = s.vault := by
  unfold bastMade; (try simp) <;> (repeat' split) <;> simp

@[simp] theorem bastAfter_kept (m : Nat) (b : BastMeas) (s : State) :
    (bastAfter m b s).pending = s.pending ∧ (bastAfter m b s).sram = s.sram ∧ (bastAfter m b s).vault = s.vault := by
  unfold bastAfter; (try simp) <;> (repeat' split) <;> simp

@[simp] theorem islandService_kept (i : Nat) (v : Bool) (s : State) :
    (islandService i v s).pending = s.pending ∧ (islandService i v s).sram = s.sram ∧ (islandService i v s).vault = s.vault := by
  unfold islandService; (try simp) <;> (repeat' split) <;> simp

@[simp] theorem fmEvent_kept (k b detail : Nat) (s : State) :
    (fmEvent k b detail s).pending = s.pending ∧ (fmEvent k b detail s).sram = s.sram ∧ (fmEvent k b detail s).vault = s.vault := by
  unfold fmEvent; (try simp) <;> (repeat' split) <;> simp

@[simp] theorem pairCompare_kept (p : Nat) (s : State) :
    (pairCompare p s).pending = s.pending ∧ (pairCompare p s).sram = s.sram ∧ (pairCompare p s).vault = s.vault := by
  unfold pairCompare; (try simp) <;> (repeat' split) <;> simp

@[simp] theorem pairStep_kept (k : Nat) (s : State) :
    (pairStep k s).pending = s.pending ∧ (pairStep k s).sram = s.sram ∧ (pairStep k s).vault = s.vault := by
  unfold pairStep; (try simp) <;> (repeat' split) <;> simp

@[simp] theorem tmonStep_kept (k : Nat) (c : Int) (s : State) :
    (tmonStep k c s).pending = s.pending ∧ (tmonStep k c s).sram = s.sram ∧ (tmonStep k c s).vault = s.vault := by
  unfold tmonStep; (try simp) <;> (repeat' split) <;> simp

@[simp] theorem fastStop_kept (s : State) :
    (fastStop s).pending = s.pending ∧ (fastStop s).sram = s.sram ∧ (fastStop s).vault = s.vault := by
  unfold fastStop; (try simp) <;> (repeat' split) <;> simp

@[simp] theorem xbarMove_kept (k fp : Nat) (s : State) :
    (xbarMove k fp s).pending = s.pending ∧ (xbarMove k fp s).sram = s.sram ∧ (xbarMove k fp s).vault = s.vault := by
  unfold xbarMove; (try simp) <;> (repeat' split) <;> simp

@[simp] theorem convShow_kept (s : State) :
    (convShow s).pending = s.pending ∧ (convShow s).sram = s.sram ∧ (convShow s).vault = s.vault := by
  unfold convShow; (try simp) <;> (repeat' split) <;> simp

@[simp] theorem tripFire_kept (k : Nat) (wb : Bool) (s : State) :
    (tripFire k wb s).pending = s.pending ∧ (tripFire k wb s).sram = s.sram ∧ (tripFire k wb s).vault = s.vault := by
  unfold tripFire; (try simp) <;> (repeat' split) <;> simp

@[simp] theorem windowFire_kept (k : Nat) (wb atClose : Bool) (s : State) :
    (windowFire k wb atClose s).pending = s.pending ∧ (windowFire k wb atClose s).sram = s.sram ∧ (windowFire k wb atClose s).vault = s.vault := by
  unfold windowFire; (try simp) <;> (repeat' split) <;> simp

@[simp] theorem windowEnd_kept (k : Nat) (wb : Bool) (s : State) :
    (windowEnd k wb s).pending = s.pending ∧ (windowEnd k wb s).sram = s.sram ∧ (windowEnd k wb s).vault = s.vault := by
  unfold windowEnd; (try simp) <;> (repeat' split) <;> simp

@[simp] theorem pmEvent_kept (b unit detail : Nat) (s : State) :
    (pmEvent b unit detail s).pending = s.pending ∧ (pmEvent b unit detail s).sram = s.sram ∧ (pmEvent b unit detail s).vault = s.vault := by
  unfold pmEvent; (try simp) <;> (repeat' split) <;> simp

@[simp] theorem pmStatus_kept (s : State) :
    (pmStatus s).pending = s.pending ∧ (pmStatus s).sram = s.sram ∧ (pmStatus s).vault = s.vault := by
  unfold pmStatus; (try simp) <;> (repeat' split) <;> simp

@[simp] theorem pmPeriod_kept (s : State) :
    (pmPeriod s).pending = s.pending ∧ (pmPeriod s).sram = s.sram ∧ (pmPeriod s).vault = s.vault := by
  unfold pmPeriod; (try simp) <;> (repeat' split) <;> simp

@[simp] theorem pxStart_kept (x job input : Nat) (restart : Bool) (s : State) :
    (pxStart x job input restart s).pending = s.pending ∧ (pxStart x job input restart s).sram = s.sram ∧ (pxStart x job input restart s).vault = s.vault := by
  unfold pxStart; (try simp) <;> (repeat' split) <;> simp

@[simp] theorem pxAbort_kept (x : Nat) (s : State) :
    (pxAbort x s).pending = s.pending ∧ (pxAbort x s).sram = s.sram ∧ (pxAbort x s).vault = s.vault := by
  unfold pxAbort; (try simp) <;> (repeat' split) <;> simp

@[simp] theorem pmUrgentServe_kept (s : State) :
    (pmUrgentServe s).pending = s.pending ∧ (pmUrgentServe s).sram = s.sram ∧ (pmUrgentServe s).vault = s.vault := by
  unfold pmUrgentServe; (try simp) <;> (repeat' split) <;> simp

@[simp] theorem pmCalServe_kept (s : State) :
    (pmCalServe s).pending = s.pending ∧ (pmCalServe s).sram = s.sram ∧ (pmCalServe s).vault = s.vault := by
  unfold pmCalServe; (try simp) <;> (repeat' split) <;> simp

@[simp] theorem pxTake_kept (x : Nat) (s : State) :
    (pxTake x s).pending = s.pending ∧ (pxTake x s).sram = s.sram ∧ (pxTake x s).vault = s.vault := by
  unfold pxTake; (try simp) <;> (repeat' split) <;> simp

@[simp] theorem pmServe_kept (s : State) :
    (pmServe s).pending = s.pending ∧ (pmServe s).sram = s.sram ∧ (pmServe s).vault = s.vault := by
  unfold pmServe; (try simp) <;> (repeat' split) <;> simp

@[simp] theorem owAgain_kept (job j : Nat) (s : State) :
    (owAgain job j s).pending = s.pending ∧ (owAgain job j s).sram = s.sram ∧ (owAgain job j s).vault = s.vault := by
  unfold owAgain; (try simp) <;> (repeat' split) <;> simp

@[simp] theorem pmPower_kept (s : State) :
    (pmPower s).pending = s.pending ∧ (pmPower s).sram = s.sram ∧ (pmPower s).vault = s.vault := by
  unfold pmPower; (try simp) <;> (repeat' split) <;> simp

@[simp] theorem pmUrgent_kept (j : Nat) (s : State) :
    (pmUrgent j s).pending = s.pending ∧ (pmUrgent j s).sram = s.sram ∧ (pmUrgent j s).vault = s.vault := by
  unfold pmUrgent; (try simp) <;> (repeat' split) <;> simp

@[simp] theorem pmSumDrop_kept (j : Nat) (s : State) :
    (pmSumDrop j s).pending = s.pending ∧ (pmSumDrop j s).sram = s.sram ∧ (pmSumDrop j s).vault = s.vault := by
  unfold pmSumDrop; (try simp) <;> (repeat' split) <;> simp

@[simp] theorem pmOpenCount_kept (j : Nat) (s : State) :
    (pmOpenCount j s).pending = s.pending ∧ (pmOpenCount j s).sram = s.sram ∧ (pmOpenCount j s).vault = s.vault := by
  unfold pmOpenCount; (try simp) <;> (repeat' split) <;> simp

@[simp] theorem pmResult_kept (x j : Nat) (value : Int) (sat restart fixed urgent : Bool) (s : State) :
    (pmResult x j value sat restart fixed urgent s).pending = s.pending ∧ (pmResult x j value sat restart fixed urgent s).sram = s.sram ∧ (pmResult x j value sat restart fixed urgent s).vault = s.vault := by
  unfold pmResult; (try simp) <;> (repeat' split) <;> simp

@[simp] theorem pmListEnd_kept (x raw : Nat) (s : State) :
    (pmListEnd x raw s).pending = s.pending ∧ (pmListEnd x raw s).sram = s.sram ∧ (pmListEnd x raw s).vault = s.vault := by
  unfold pmListEnd; (try simp) <;> (repeat' split) <;> simp

@[simp] theorem pmCalEnd_kept (raw : Nat) (s : State) :
    (pmCalEnd raw s).pending = s.pending ∧ (pmCalEnd raw s).sram = s.sram ∧ (pmCalEnd raw s).vault = s.vault := by
  unfold pmCalEnd; (try simp) <;> (repeat' split) <;> simp

@[simp] theorem mainsPut_kept (v : Bool) (s : State) :
    (mainsPut v s).pending = s.pending ∧ (mainsPut v s).sram = s.sram ∧ (mainsPut v s).vault = s.vault := by
  unfold mainsPut; (try simp) <;> (repeat' split) <;> simp

@[simp] theorem mainsRestart_kept (s : State) :
    (mainsRestart s).pending = s.pending ∧ (mainsRestart s).sram = s.sram ∧ (mainsRestart s).vault = s.vault := by
  unfold mainsRestart; (try simp) <;> (repeat' split) <;> simp

@[simp] theorem pmPop_kept (s : State) :
    (pmPop s).2.pending = s.pending ∧ (pmPop s).2.sram = s.sram ∧ (pmPop s).2.vault = s.vault := by
  unfold pmPop; (try simp) <;> (repeat' split) <;> simp

@[simp] theorem pmReaders_kept (l : List Nat) (s : State) :
    (pmReaders l s).pending = s.pending ∧ (pmReaders l s).sram = s.sram ∧ (pmReaders l s).vault = s.vault := by
  unfold pmReaders; (try simp) <;> (repeat' split) <;> simp

@[simp] theorem pmReadCommit_kept (c n : Nat) (e : ExecS) (s : State) :
    (pmReadCommit c n e s).pending = s.pending ∧ (pmReadCommit c n e s).sram = s.sram ∧ (pmReadCommit c n e s).vault = s.vault := by
  unfold pmReadCommit; (try simp) <;> (repeat' split) <;> simp

@[simp] theorem calDrop_kept (running : Bool) (s : State) :
    (calDrop running s).pending = s.pending ∧ (calDrop running s).sram = s.sram ∧ (calDrop running s).vault = s.vault := by
  unfold calDrop; (try simp) <;> (repeat' split) <;> simp

@[simp] theorem calEnd_kept (result : Nat) (s : State) :
    (calEnd result s).pending = s.pending ∧ (calEnd result s).sram = s.sram ∧ (calEnd result s).vault = s.vault := by
  unfold calEnd; (try simp) <;> (repeat' split) <;> simp

@[simp] theorem calConvert_kept (j n phase : Nat) (s : State) :
    (calConvert j n phase s).pending = s.pending ∧ (calConvert j n phase s).sram = s.sram ∧ (calConvert j n phase s).vault = s.vault := by
  unfold calConvert; (try simp) <;> (repeat' split) <;> simp

@[simp] theorem calZero_kept (j n : Nat) (s : State) :
    (calZero j n s).pending = s.pending ∧ (calZero j n s).sram = s.sram ∧ (calZero j n s).vault = s.vault := by
  unfold calZero; (try simp) <;> (repeat' split) <;> simp

@[simp] theorem calFull_kept (j n : Nat) (s : State) :
    (calFull j n s).pending = s.pending ∧ (calFull j n s).sram = s.sram ∧ (calFull j n s).vault = s.vault := by
  unfold calFull; (try simp) <;> (repeat' split) <;> simp

@[simp] theorem piEvent_kept (n b detail : Nat) (s : State) :
    (piEvent n b detail s).pending = s.pending ∧ (piEvent n b detail s).sram = s.sram ∧ (piEvent n b detail s).vault = s.vault := by
  unfold piEvent; (try simp) <;> (repeat' split) <;> simp

@[simp] theorem posInvalid_kept (n cause : Nat) (s : State) :
    (posInvalid n cause s).pending = s.pending ∧ (posInvalid n cause s).sram = s.sram ∧ (posInvalid n cause s).vault = s.vault := by
  unfold posInvalid; (try simp) <;> (repeat' split) <;> simp

@[simp] theorem edgeRate_kept (n cause : Nat) (s : State) :
    (edgeRate n cause s).pending = s.pending ∧ (edgeRate n cause s).sram = s.sram ∧ (edgeRate n cause s).vault = s.vault := by
  unfold edgeRate; (try simp) <;> (repeat' split) <;> simp

@[simp] theorem piPo_kept (n : Nat) (s : State) :
    (piPo n s).pending = s.pending ∧ (piPo n s).sram = s.sram ∧ (piPo n s).vault = s.vault := by
  unfold piPo; (try simp) <;> (repeat' split) <;> simp

@[simp] theorem piAngleUpdate_kept (n : Nat) (s : State) :
    (piAngleUpdate n s).pending = s.pending ∧ (piAngleUpdate n s).sram = s.sram ∧ (piAngleUpdate n s).vault = s.vault := by
  unfold piAngleUpdate; (try simp) <;> (repeat' split) <;> simp

@[simp] theorem piCountPut_kept (n : Nat) (c : Int) (s : State) :
    (piCountPut n c s).pending = s.pending ∧ (piCountPut n c s).sram = s.sram ∧ (piCountPut n c s).vault = s.vault := by
  unfold piCountPut; (try simp) <;> (repeat' split) <;> simp

@[simp] theorem posValid_kept (n : Nat) (s : State) :
    (posValid n s).pending = s.pending ∧ (posValid n s).sram = s.sram ∧ (posValid n s).vault = s.vault := by
  unfold posValid; (try simp) <;> (repeat' split) <;> simp

@[simp] theorem posFound_kept (n : Nat) (s : State) :
    (posFound n s).pending = s.pending ∧ (posFound n s).sram = s.sram ∧ (posFound n s).vault = s.vault := by
  unfold posFound; (try simp) <;> (repeat' split) <;> simp

@[simp] theorem piMotion_kept (n now : Nat) (dc : Int) (edge : Bool) (s : State) :
    (piMotion n now dc edge s).pending = s.pending ∧ (piMotion n now dc edge s).sram = s.sram ∧ (piMotion n now dc edge s).vault = s.vault := by
  unfold piMotion; (try simp) <;> (repeat' split) <;> simp

@[simp] theorem piCountStep_kept (n now : Nat) (dc : Int) (edge : Bool) (s : State) :
    (piCountStep n now dc edge s).pending = s.pending ∧ (piCountStep n now dc edge s).sram = s.sram ∧ (piCountStep n now dc edge s).vault = s.vault := by
  unfold piCountStep; (try simp) <;> (repeat' split) <;> simp

@[simp] theorem piIndex_kept (n : Nat) (s : State) :
    (piIndex n s).pending = s.pending ∧ (piIndex n s).sram = s.sram ∧ (piIndex n s).vault = s.vault := by
  unfold piIndex; (try simp) <;> (repeat' split) <;> simp

@[simp] theorem piLevels_kept (n abz : Nat) (s : State) :
    (piLevels n abz s).pending = s.pending ∧ (piLevels n abz s).sram = s.sram ∧ (piLevels n abz s).vault = s.vault := by
  unfold piLevels; (try simp) <;> (repeat' split) <;> simp

@[simp] theorem ssiReject_kept (n : Nat) (s : State) :
    (ssiReject n s).pending = s.pending ∧ (ssiReject n s).sram = s.sram ∧ (ssiReject n s).vault = s.vault := by
  unfold ssiReject; (try simp) <;> (repeat' split) <;> simp

@[simp] theorem piCntWrite_kept (n : Nat) (v : Word) (s : State) :
    (piCntWrite n v s).pending = s.pending ∧ (piCntWrite n v s).sram = s.sram ∧ (piCntWrite n v s).vault = s.vault := by
  unfold piCntWrite; (try simp) <;> (repeat' split) <;> simp

@[simp] theorem piClockStop_kept (s : State) :
    (piClockStop s).pending = s.pending ∧ (piClockStop s).sram = s.sram ∧ (piClockStop s).vault = s.vault := by
  unfold piClockStop; (try simp) <;> (repeat' split) <;> simp

@[simp] theorem piModeChange_kept (n : Nat) (s : State) :
    (piModeChange n s).pending = s.pending ∧ (piModeChange n s).sram = s.sram ∧ (piModeChange n s).vault = s.vault := by
  unfold piModeChange; (try simp) <;> (repeat' split) <;> simp

@[simp] theorem safRefresh_kept (s : State) :
    (safRefresh s).pending = s.pending ∧ (safRefresh s).sram = s.sram ∧ (safRefresh s).vault = s.vault := by
  unfold safRefresh; (try simp) <;> (repeat' split) <;> simp

@[simp] theorem spbMatch_kept (s : State) :
    (spbMatch s).pending = s.pending ∧ (spbMatch s).sram = s.sram ∧ (spbMatch s).vault = s.vault := by
  unfold spbMatch; (try simp) <;> (repeat' split) <;> simp

@[simp] theorem spbCompute_kept (s : State) :
    (spbCompute s).pending = s.pending ∧ (spbCompute s).sram = s.sram ∧ (spbCompute s).vault = s.vault := by
  unfold spbCompute; (try simp) <;> (repeat' split) <;> simp

@[simp] theorem ctFeedback_kept (s : State) :
    (ctFeedback s).pending = s.pending ∧ (ctFeedback s).sram = s.sram ∧ (ctFeedback s).vault = s.vault := by
  unfold ctFeedback; (try simp) <;> (repeat' split) <;> simp

@[simp] theorem ctDrive_kept (k : Nat) (close : Bool) (s : State) :
    (ctDrive k close s).pending = s.pending ∧ (ctDrive k close s).sram = s.sram ∧ (ctDrive k close s).vault = s.vault := by
  unfold ctDrive; (try simp) <;> (repeat' split) <;> simp

@[simp] theorem preEnd_kept (g : Nat) (s : State) :
    (preEnd g s).pending = s.pending ∧ (preEnd g s).sram = s.sram ∧ (preEnd g s).vault = s.vault := by
  unfold preEnd; (try simp) <;> (repeat' split) <;> simp

@[simp] theorem preEval_kept (g : Nat) (s : State) :
    (preEval g s).pending = s.pending ∧ (preEval g s).sram = s.sram ∧ (preEval g s).vault = s.vault := by
  unfold preEval; (try simp) <;> (repeat' split) <;> simp

@[simp] theorem preAll_kept (s : State) :
    (preAll s).pending = s.pending ∧ (preAll s).sram = s.sram ∧ (preAll s).vault = s.vault := by
  unfold preAll; (try simp) <;> (repeat' split) <;> simp

@[simp] theorem ctClose_kept (k : Nat) (s : State) :
    (ctClose k s).pending = s.pending ∧ (ctClose k s).sram = s.sram ∧ (ctClose k s).vault = s.vault := by
  unfold ctClose; (try simp) <;> (repeat' split) <;> simp

@[simp] theorem ctOpen_kept (k : Nat) (s : State) :
    (ctOpen k s).pending = s.pending ∧ (ctOpen k s).sram = s.sram ∧ (ctOpen k s).vault = s.vault := by
  unfold ctOpen; (try simp) <;> (repeat' split) <;> simp

@[simp] theorem disRequest_kept (g : Nat) (s : State) :
    (disRequest g s).pending = s.pending ∧ (disRequest g s).sram = s.sram ∧ (disRequest g s).vault = s.vault := by
  unfold disRequest; (try simp) <;> (repeat' split) <;> simp

@[simp] theorem stoAct_kept (s : State) :
    (stoAct s).pending = s.pending ∧ (stoAct s).sram = s.sram ∧ (stoAct s).vault = s.vault := by
  unfold stoAct; (try simp) <;> (repeat' split) <;> simp

@[simp] theorem stoEval_kept (s : State) :
    (stoEval s).pending = s.pending ∧ (stoEval s).sram = s.sram ∧ (stoEval s).vault = s.vault := by
  unfold stoEval; (try simp) <;> (repeat' split) <;> simp

@[simp] theorem ss1Sto_kept (a : Nat) (s : State) :
    (ss1Sto a s).pending = s.pending ∧ (ss1Sto a s).sram = s.sram ∧ (ss1Sto a s).vault = s.vault := by
  unfold ss1Sto; (try simp) <;> (repeat' split) <;> simp

@[simp] theorem ss1Release_kept (a : Nat) (s : State) :
    (ss1Release a s).pending = s.pending ∧ (ss1Release a s).sram = s.sram ∧ (ss1Release a s).vault = s.vault := by
  unfold ss1Release; (try simp) <;> (repeat' split) <;> simp

@[simp] theorem ss1Eval_kept (a : Nat) (s : State) :
    (ss1Eval a s).pending = s.pending ∧ (ss1Eval a s).sram = s.sram ∧ (ss1Eval a s).vault = s.vault := by
  unfold ss1Eval; (try simp) <;> (repeat' split) <;> simp

@[simp] theorem ov1Put_kept (g : Nat) (v : Bool) (s : State) :
    (ov1Put g v s).pending = s.pending ∧ (ov1Put g v s).sram = s.sram ∧ (ov1Put g v s).vault = s.vault := by
  unfold ov1Put; (try simp) <;> (repeat' split) <;> simp

@[simp] theorem reSafe_kept (a : Nat) (s : State) :
    (reSafe a s).pending = s.pending ∧ (reSafe a s).sram = s.sram ∧ (reSafe a s).vault = s.vault := by
  unfold reSafe; (try simp) <;> (repeat' split) <;> simp

@[simp] theorem ov2Show_kept (s : State) :
    (ov2Show s).pending = s.pending ∧ (ov2Show s).sram = s.sram ∧ (ov2Show s).vault = s.vault := by
  unfold ov2Show; (try simp) <;> (repeat' split) <;> simp

@[simp] theorem ov2End_kept (g : Nat) (s : State) :
    (ov2End g s).pending = s.pending ∧ (ov2End g s).sram = s.sram ∧ (ov2End g s).vault = s.vault := by
  unfold ov2End; (try simp) <;> (repeat' split) <;> simp

@[simp] theorem disarmKey_kept (s : State) :
    (disarmKey s).1.pending = s.pending ∧ (disarmKey s).1.sram = s.sram ∧ (disarmKey s).1.vault = s.vault := by
  unfold disarmKey; (try simp) <;> (repeat' split) <;> simp

@[simp] theorem safClear_kept (s : State) :
    (safClear s).pending = s.pending ∧ (safClear s).sram = s.sram ∧ (safClear s).vault = s.vault := by
  unfold safClear; (try simp) <;> (repeat' split) <;> simp

@[simp] theorem copyLost_kept (k : Nat) (wb : Bool) (s : State) :
    (copyLost k wb s).pending = s.pending ∧ (copyLost k wb s).sram = s.sram ∧ (copyLost k wb s).vault = s.vault := by
  unfold copyLost; (try simp) <;> (repeat' split) <;> simp

@[simp] theorem voteClear_kept (kind u : Nat) (s : State) :
    (voteClear kind u s).pending = s.pending ∧ (voteClear kind u s).sram = s.sram ∧ (voteClear kind u s).vault = s.vault := by
  unfold voteClear; (try simp) <;> (repeat' split) <;> simp

@[simp] theorem dinFeed_kept (d : Nat) (s : State) :
    (dinFeed d s).pending = s.pending ∧ (dinFeed d s).sram = s.sram ∧ (dinFeed d s).vault = s.vault := by
  unfold dinFeed; (try simp) <;> (repeat' split) <;> simp

@[simp] theorem dinCommit_kept (d : Nat) (s : State) :
    (dinCommit d s).pending = s.pending ∧ (dinCommit d s).sram = s.sram ∧ (dinCommit d s).vault = s.vault := by
  unfold dinCommit; (try simp) <;> (repeat' split) <;> simp

@[simp] theorem dmaSet_kept (n st cause : Nat) (s : State) :
    (dmaSet n st cause s).pending = s.pending ∧ (dmaSet n st cause s).sram = s.sram ∧ (dmaSet n st cause s).vault = s.vault := by
  unfold dmaSet; (try simp) <;> (repeat' split) <;> simp

@[simp] theorem dmaCurSet_kept (n a : Nat) (s : State) :
    (dmaCurSet n a s).pending = s.pending ∧ (dmaCurSet n a s).sram = s.sram ∧ (dmaCurSet n a s).vault = s.vault := by
  unfold dmaCurSet; (try simp) <;> (repeat' split) <;> simp

@[simp] theorem dmaEvent_kept (n b : Nat) (detail : Nat) (s : State) :
    (dmaEvent n b detail s).pending = s.pending ∧ (dmaEvent n b detail s).sram = s.sram ∧ (dmaEvent n b detail s).vault = s.vault := by
  unfold dmaEvent; (try simp) <;> (repeat' split) <;> simp

@[simp] theorem dmaClear_kept (n port : Nat) (s : State) :
    (dmaClear n port s).pending = s.pending ∧ (dmaClear n port s).sram = s.sram ∧ (dmaClear n port s).vault = s.vault := by
  unfold dmaClear; (try simp) <;> (repeat' split) <;> simp

@[simp] theorem dmaPause_kept (n cause : Nat) (s : State) :
    (dmaPause n cause s).pending = s.pending ∧ (dmaPause n cause s).sram = s.sram ∧ (dmaPause n cause s).vault = s.vault := by
  unfold dmaPause; (try simp) <;> (repeat' split) <;> simp

@[simp] theorem dmaIdle_kept (n : Nat) (s : State) :
    (dmaIdle n s).pending = s.pending ∧ (dmaIdle n s).sram = s.sram ∧ (dmaIdle n s).vault = s.vault := by
  unfold dmaIdle; (try simp) <;> (repeat' split) <;> simp

@[simp] theorem dmaFetch_kept (n : Nat) (s : State) :
    (dmaFetch n s).pending = s.pending ∧ (dmaFetch n s).sram = s.sram ∧ (dmaFetch n s).vault = s.vault := by
  unfold dmaFetch; (try simp) <;> (repeat' split) <;> simp

@[simp] theorem dmaGo_kept (n a : Nat) (s : State) :
    (dmaGo n a s).pending = s.pending ∧ (dmaGo n a s).sram = s.sram ∧ (dmaGo n a s).vault = s.vault := by
  unfold dmaGo; (try simp) <;> (repeat' split) <;> simp

@[simp] theorem dmaStart_kept (n : Nat) (s : State) :
    (dmaStart n s).pending = s.pending ∧ (dmaStart n s).sram = s.sram ∧ (dmaStart n s).vault = s.vault := by
  unfold dmaStart; (try simp) <;> (repeat' split) <;> simp

@[simp] theorem dmaFin_kept (n code detail : Nat) (s : State) :
    (dmaFin n code detail s).pending = s.pending ∧ (dmaFin n code detail s).sram = s.sram ∧ (dmaFin n code detail s).vault = s.vault := by
  unfold dmaFin; (try simp) <;> (repeat' split) <;> simp

@[simp] theorem dmaBoundary_kept (n : Nat) (s : State) :
    (dmaBoundary n s).pending = s.pending ∧ (dmaBoundary n s).sram = s.sram ∧ (dmaBoundary n s).vault = s.vault := by
  unfold dmaBoundary; (try simp) <;> (repeat' split) <;> simp

@[simp] theorem dmaListRequest_kept (n a bytes : Nat) (s : State) :
    (dmaListRequest n a bytes s).pending = s.pending ∧ (dmaListRequest n a bytes s).sram = s.sram ∧ (dmaListRequest n a bytes s).vault = s.vault := by
  unfold dmaListRequest; (try simp) <;> (repeat' split) <;> simp

@[simp] theorem dmaAsk_kept (n : Nat) (s : State) :
    (dmaAsk n s).pending = s.pending ∧ (dmaAsk n s).sram = s.sram ∧ (dmaAsk n s).vault = s.vault := by
  unfold dmaAsk; (try simp) <;> (repeat' split) <;> simp

@[simp] theorem dmaTurn_kept (n : Nat) (s : State) :
    (dmaTurn n s).pending = s.pending ∧ (dmaTurn n s).sram = s.sram ∧ (dmaTurn n s).vault = s.vault := by
  unfold dmaTurn; (try simp) <;> (repeat' split) <;> simp

@[simp] theorem dmaTurns_kept (n : Nat) (s : State) :
    (dmaTurns n s).pending = s.pending ∧ (dmaTurns n s).sram = s.sram ∧ (dmaTurns n s).vault = s.vault := by
  induction n generalizing s with
  | zero => exact ⟨rfl, rfl, rfl⟩
  | succ n ih =>
    have h : ∀ k, (dmaTurns n (dmaTurn k s)).pending = s.pending ∧ (dmaTurns n (dmaTurn k s)).sram = s.sram ∧
        (dmaTurns n (dmaTurn k s)).vault = s.vault := by
      intro k; simpa using ih (dmaTurn k s)
    unfold dmaTurns
    cases s.dmaNext with
    | none => exact ⟨rfl, rfl, rfl⟩
    | some k => exact h k

@[simp] theorem dmaServe_kept (s : State) :
    (dmaServe s).pending = s.pending ∧ (dmaServe s).sram = s.sram ∧ (dmaServe s).vault = s.vault := by
  unfold dmaServe; simp

@[simp] theorem dmaBegin_kept (n : Nat) (l : List Word) (s : State) :
    (dmaBegin n l s).pending = s.pending ∧ (dmaBegin n l s).sram = s.sram ∧ (dmaBegin n l s).vault = s.vault := by
  unfold dmaBegin; (try simp) <;> (repeat' split) <;> simp

@[simp] theorem dmaUnread_kept (n : Nat) (s : State) :
    (dmaUnread n s).pending = s.pending ∧ (dmaUnread n s).sram = s.sram ∧ (dmaUnread n s).vault = s.vault := by
  unfold dmaUnread; (try simp) <;> (repeat' split) <;> simp

@[simp] theorem dmaElemEnd_kept (n : Nat) (s : State) :
    (dmaElemEnd n s).pending = s.pending ∧ (dmaElemEnd n s).sram = s.sram ∧ (dmaElemEnd n s).vault = s.vault := by
  unfold dmaElemEnd; (try simp) <;> (repeat' split) <;> simp

@[simp] theorem dmaCommitted_kept (n : Nat) (ok : Bool) (s : State) :
    (dmaCommitted n ok s).pending = s.pending ∧ (dmaCommitted n ok s).sram = s.sram ∧ (dmaCommitted n ok s).vault = s.vault := by
  unfold dmaCommitted; (try simp) <;> (repeat' split) <;> simp

@[simp] theorem dmaBankPartial_kept (n code : Nat) (s : State) :
    (dmaBankPartial n code s).pending = s.pending ∧ (dmaBankPartial n code s).sram = s.sram ∧ (dmaBankPartial n code s).vault = s.vault := by
  unfold dmaBankPartial; (try simp) <;> (repeat' split) <;> simp

@[simp] theorem dmaEnded_kept (n code detail : Nat) (s : State) :
    (dmaEnded n code detail s).pending = s.pending ∧ (dmaEnded n code detail s).sram = s.sram ∧ (dmaEnded n code detail s).vault = s.vault := by
  unfold dmaEnded; (try simp) <;> (repeat' split) <;> simp

@[simp] theorem dmaListWrite_kept (n a : Nat) (w : Word) (s : State) :
    (dmaListWrite n a w s).pending = s.pending ∧ (dmaListWrite n a w s).vault = s.vault := by
  unfold dmaListWrite; (try simp) <;> (repeat' split) <;> simp

@[simp] theorem dmaStopReq_kept (n kind : Nat) (s : State) :
    (dmaStopReq n kind s).pending = s.pending ∧ (dmaStopReq n kind s).sram = s.sram ∧ (dmaStopReq n kind s).vault = s.vault := by
  unfold dmaStopReq; (try simp) <;> (repeat' split) <;> simp

@[simp] theorem dmaStop_kept (n : Nat) (s : State) :
    (dmaStop n s).pending = s.pending ∧ (dmaStop n s).sram = s.sram ∧ (dmaStop n s).vault = s.vault := by
  unfold dmaStop; (try simp) <;> (repeat' split) <;> simp

@[simp] theorem dmaReset_kept (n : Nat) (s : State) :
    (dmaReset n s).pending = s.pending ∧ (dmaReset n s).sram = s.sram ∧ (dmaReset n s).vault = s.vault := by
  unfold dmaReset; (try simp) <;> (repeat' split) <;> simp

@[simp] theorem dmaResume_kept (n : Nat) (s : State) :
    (dmaResume n s).pending = s.pending ∧ (dmaResume n s).sram = s.sram ∧ (dmaResume n s).vault = s.vault := by
  unfold dmaResume; (try simp) <;> (repeat' split) <;> simp

@[simp] theorem dmaCtrl_kept (n : Nat) (v : Word) (s : State) :
    (dmaCtrl n v s).pending = s.pending ∧ (dmaCtrl n v s).sram = s.sram ∧ (dmaCtrl n v s).vault = s.vault := by
  unfold dmaCtrl; (try simp) <;> (repeat' split) <;> simp

@[simp] theorem dmaHostLoss_kept (p : Nat) (s : State) :
    (dmaHostLoss p s).pending = s.pending ∧ (dmaHostLoss p s).sram = s.sram ∧ (dmaHostLoss p s).vault = s.vault := by
  unfold dmaHostLoss; (try simp) <;> (repeat' split) <;> simp

@[simp] theorem dmaOwnerChange_kept (n : Nat) (s : State) :
    (dmaOwnerChange n s).pending = s.pending ∧ (dmaOwnerChange n s).sram = s.sram ∧ (dmaOwnerChange n s).vault = s.vault := by
  unfold dmaOwnerChange; (try simp) <;> (repeat' split) <;> simp

@[simp] theorem dmaSetAside_kept (s : State) :
    (dmaSetAside s).pending = s.pending ∧ (dmaSetAside s).sram = s.sram ∧ (dmaSetAside s).vault = s.vault := by
  unfold dmaSetAside; (try simp) <;> (repeat' split) <;> simp

@[simp] theorem dmaReturn_kept (s : State) :
    (dmaReturn s).pending = s.pending ∧ (dmaReturn s).sram = s.sram ∧ (dmaReturn s).vault = s.vault := by
  unfold dmaReturn; (try simp) <;> (repeat' split) <;> simp

@[simp] theorem vqShow_kept (s : State) :
    (vqShow s).pending = s.pending ∧ (vqShow s).sram = s.sram ∧ (vqShow s).vault = s.vault := by
  unfold vqShow; (try simp) <;> (repeat' split) <;> simp

@[simp] theorem ownRefuse_kept (addr code : Nat) (s : State) :
    (ownRefuse addr code s).pending = s.pending ∧ (ownRefuse addr code s).sram = s.sram ∧ (ownRefuse addr code s).vault = s.vault := by
  unfold ownRefuse; (try simp) <;> (repeat' split) <;> simp

@[simp] theorem dmaRefused_kept (n code : Nat) (s : State) :
    (dmaRefused n code s).pending = s.pending ∧ (dmaRefused n code s).sram = s.sram ∧ (dmaRefused n code s).vault = s.vault := by
  unfold dmaRefused; (try simp) <;> (repeat' split) <;> simp

@[simp] theorem vqStart_kept (n : Nat) (s : State) :
    (vqStart n s).pending = s.pending ∧ (vqStart n s).sram = s.sram ∧ (vqStart n s).vault = s.vault := by
  induction n generalizing s with
  | zero => simp [vqStart]
  | succ n ih => unfold vqStart; (repeat' split) <;> simp [ih] <;> split <;> simp

@[simp] theorem vqPush_kept (w : Nat) (v : Word) (ctx : Option Nat) (s : State) :
    (vqPush w v ctx s).pending = s.pending ∧ (vqPush w v ctx s).sram = s.sram ∧ (vqPush w v ctx s).vault = s.vault := by
  unfold vqPush; simp only []; split <;> simp

@[simp] theorem vltEvent_kept (b detail : Nat) (s : State) :
    (vltEvent b detail s).pending = s.pending ∧ (vltEvent b detail s).sram = s.sram ∧ (vltEvent b detail s).vault = s.vault := by
  unfold vltEvent; (try simp) <;> (repeat' split) <;> simp

@[simp] theorem wearAdd_kept (w : Nat) (degraded : Option Bool) (s : State) :
    (wearAdd w degraded s).pending = s.pending ∧ (wearAdd w degraded s).sram = s.sram ∧ (wearAdd w degraded s).vault = s.vault := by
  unfold wearAdd; (try simp) <;> (repeat' split) <;> simp

@[simp] theorem vaultPut_kept (a : Nat) (v : Word) (s : State) :
    (vaultPut a v s).pending = s.pending ∧ (vaultPut a v s).sram = s.sram ∧ (vaultPut a v s).vault = s.vault := by
  unfold vaultPut; split <;> simp

@[simp] theorem ovWrite_kept (g : Nat) (s : State) :
    (ovWrite g s).pending = s.pending ∧ (ovWrite g s).sram = s.sram ∧ (ovWrite g s).vault = s.vault := by
  unfold ovWrite; simp only []; split <;> simp

@[simp] theorem armNow_kept (s : State) :
    (armNow s).pending = s.pending ∧ (armNow s).sram = s.sram ∧ (armNow s).vault = s.vault := by
  unfold armNow; (try simp) <;> (repeat' split) <;> simp

@[simp] theorem armKey_kept (s : State) :
    (armKey s).1.pending = s.pending ∧ (armKey s).1.sram = s.sram ∧ (armKey s).1.vault = s.vault := by
  unfold armKey; (try simp) <;> (repeat' split) <;> simp

@[simp] theorem armAtStart_kept (s : State) :
    (armAtStart s).pending = s.pending ∧ (armAtStart s).sram = s.sram ∧ (armAtStart s).vault = s.vault := by
  unfold armAtStart; (try simp) <;> (repeat' split) <;> simp

@[simp] theorem pairsShow_kept (s : State) :
    (pairsShow s).pending = s.pending ∧ (pairsShow s).sram = s.sram ∧ (pairsShow s).vault = s.vault := by
  unfold pairsShow; (try simp) <;> (repeat' split) <;> simp

@[simp] theorem coreRun_kept (n : Nat) (s : State) :
    (coreRun n s).pending = s.pending ∧ (coreRun n s).sram = s.sram ∧ (coreRun n s).vault = s.vault := by
  unfold coreRun; (try simp) <;> (repeat' split) <;> simp

@[simp] theorem coreClear_kept (n : Nat) (s : State) :
    (coreClear n s).pending = s.pending ∧ (coreClear n s).sram = s.sram ∧ (coreClear n s).vault = s.vault := by
  unfold coreClear; (try simp) <;> (repeat' split) <;> simp

@[simp] theorem pairHold_kept (n : Nat) (w : Option Nat) (s : State) :
    (pairHold n w s).pending = s.pending ∧ (pairHold n w s).sram = s.sram ∧ (pairHold n w s).vault = s.vault := by
  unfold pairHold; (try simp) <;> (repeat' split) <;> simp

@[simp] theorem pairReserve_kept (n : Nat) (s : State) :
    (pairReserve n s).pending = s.pending ∧ (pairReserve n s).sram = s.sram ∧ (pairReserve n s).vault = s.vault := by
  unfold pairReserve; (try simp) <;> (repeat' split) <;> simp

@[simp] theorem cacheWays_kept (n : Nat) (s : State) :
    (cacheWays n s).pending = s.pending ∧ (cacheWays n s).sram = s.sram ∧ (cacheWays n s).vault = s.vault := by
  unfold cacheWays; (try simp) <;> (repeat' split) <;> simp

@[simp] theorem assignSlots_kept (s : State) :
    (assignSlots s).pending = s.pending ∧ (assignSlots s).sram = s.sram ∧ (assignSlots s).vault = s.vault := by
  unfold assignSlots; simp only []
  split <;> simp only [pairsShow_kept, pairHold_kept, put_other] <;>
  refine ⟨?_, ?_, ?_⟩ <;>
    first
    | (rw [each_pending, each_pending] <;> intros <;> (try split) <;> simp)
    | (rw [each_sram, each_sram] <;> intros <;> (try split) <;> simp)
    | (rw [each_vault, each_vault] <;> intros <;> (try split) <;> simp)

@[simp] theorem ckptWrite_kept (w c : Nat) (arch : List Word) (s : State) :
    (ckptWrite w c arch s).pending = s.pending ∧ (ckptWrite w c arch s).sram = s.sram ∧ (ckptWrite w c arch s).vault = s.vault := by
  unfold ckptWrite; (try simp) <;> (repeat' split) <;> simp

@[simp] theorem ckptTake_kept (n : Nat) (whole : Bool) (s : State) :
    (ckptTake n whole s).pending = s.pending ∧ (ckptTake n whole s).sram = s.sram ∧ (ckptTake n whole s).vault = s.vault := by
  unfold ckptTake; (try simp) <;> (repeat' split) <;> simp

@[simp] theorem ckptApply_kept (w c n : Nat) (s : State) :
    (ckptApply w c n s).pending = s.pending ∧ (ckptApply w c n s).vault = s.vault := by
  unfold ckptApply; simp

@[simp] theorem ckptRestore_kept (w n : Nat) (newestOk otherOk : Bool) (s : State) :
    (ckptRestore w n newestOk otherOk s).1.pending = s.pending ∧ (ckptRestore w n newestOk otherOk s).1.vault = s.vault := by
  unfold ckptRestore; (try simp) <;> (repeat' split) <;> simp

@[simp] theorem krstCount_kept (w : Nat) (s : State) :
    (krstCount w s).pending = s.pending ∧ (krstCount w s).sram = s.sram ∧ (krstCount w s).vault = s.vault := by
  unfold krstCount; (try simp) <;> (repeat' split) <;> simp

@[simp] theorem pairResume_kept (n w heir : Nat) (s : State) :
    (pairResume n w heir s).pending = s.pending ∧ (pairResume n w heir s).sram = s.sram ∧ (pairResume n w heir s).vault = s.vault := by
  unfold pairResume; (try simp) <;> (repeat' split) <;> simp

@[simp] theorem pairDrop_kept (n : Nat) (s : State) :
    (pairDrop n s).pending = s.pending ∧ (pairDrop n s).sram = s.sram ∧ (pairDrop n s).vault = s.vault := by
  unfold pairDrop; (try simp) <;> (repeat' split) <;> simp

@[simp] theorem pairUnusable_kept (n : Nat) (s : State) :
    (pairUnusable n s).pending = s.pending ∧ (pairUnusable n s).sram = s.sram ∧ (pairUnusable n s).vault = s.vault := by
  unfold pairUnusable; (try simp) <;> (repeat' split) <;> simp

@[simp] theorem svcStep_kept (s : State) :
    (svcStep s).pending = s.pending ∧ (svcStep s).sram = s.sram ∧ (svcStep s).vault = s.vault := by
  unfold svcStep; (try simp) <;> (repeat' split) <;> simp

@[simp] theorem rejoinShow_kept (ut unit : Nat) (shadow : Bool) (s : State) :
    (rejoinShow ut unit shadow s).pending = s.pending ∧ (rejoinShow ut unit shadow s).sram = s.sram ∧ (rejoinShow ut unit shadow s).vault = s.vault := by
  unfold rejoinShow; (try simp) <;> (repeat' split) <;> simp

@[simp] theorem svcEnd_kept (r : Nat) (s : State) :
    (svcEnd r s).pending = s.pending ∧ (svcEnd r s).sram = s.sram ∧ (svcEnd r s).vault = s.vault := by
  unfold svcEnd; (try simp) <;> (repeat' split) <;> simp

@[simp] theorem svcStart_kept (code ut unit : Nat) (ctx : Option Nat) (s : State) :
    (svcStart code ut unit ctx s).pending = s.pending ∧ (svcStart code ut unit ctx s).sram = s.sram ∧ (svcStart code ut unit ctx s).vault = s.vault := by
  unfold svcStart; (try simp) <;> (repeat' split) <;> simp

@[simp] theorem convServe_kept (s : State) :
    (convServe s).pending = s.pending ∧ (convServe s).sram = s.sram ∧ (convServe s).vault = s.vault := by
  have h : ∀ (k : Nat) (u : State), (match (List.range 36).find? fun p => u.get (fpStat p) == 1 with
      | some p => u.when (u.on (FM_CH_CFG__EN k)) (xbarMove k p)
      | none => u).pending = u.pending ∧ (match (List.range 36).find? fun p => u.get (fpStat p) == 1 with
      | some p => u.when (u.on (FM_CH_CFG__EN k)) (xbarMove k p)
      | none => u).sram = u.sram ∧ (match (List.range 36).find? fun p => u.get (fpStat p) == 1 with
      | some p => u.when (u.on (FM_CH_CFG__EN k)) (xbarMove k p)
      | none => u).vault = u.vault := by
    intro k u; split <;> simp
  unfold convServe
  exact ⟨each_pending _ _ _ fun i u => (h i u).1, each_sram _ _ _ fun i u => (h i u).2.1, each_vault _ _ _ fun i u => (h i u).2.2⟩

@[simp] theorem unitServe_kept (ut unit : Nat) (s : State) :
    (unitServe ut unit s).pending = s.pending ∧ (unitServe ut unit s).sram = s.sram ∧ (unitServe ut unit s).vault = s.vault := by
  unfold unitServe; (try simp) <;> (repeat' split) <;> simp

@[simp] theorem unitReturn_kept (ut unit : Nat) (s : State) :
    (unitReturn ut unit s).pending = s.pending ∧ (unitReturn ut unit s).sram = s.sram ∧ (unitReturn ut unit s).vault = s.vault := by
  unfold unitReturn; (try simp) <;> (repeat' split) <;> simp

@[simp] theorem rejoinEnd_kept (ut unit : Nat) (s : State) :
    (rejoinEnd ut unit s).pending = s.pending ∧ (rejoinEnd ut unit s).sram = s.sram ∧ (rejoinEnd ut unit s).vault = s.vault := by
  unfold rejoinEnd; (try simp) <;> (repeat' split) <;> simp

@[simp] theorem rejoinTake_kept (ut unit : Nat) (s : State) :
    (rejoinTake ut unit s).pending = s.pending ∧ (rejoinTake ut unit s).sram = s.sram ∧ (rejoinTake ut unit s).vault = s.vault := by
  unfold rejoinTake; (try simp) <;> (repeat' split) <;> simp

@[simp] theorem takeoverDue_kept (n w : Nat) (s : State) :
    (takeoverDue n w s).pending = s.pending ∧ (takeoverDue n w s).sram = s.sram ∧ (takeoverDue n w s).vault = s.vault := by
  unfold takeoverDue; (try simp) <;> (repeat' split) <;> simp

@[simp] theorem restartBegin_kept (n : Nat) (s : State) :
    (restartBegin n s).pending = s.pending ∧ (restartBegin n s).sram = s.sram ∧ (restartBegin n s).vault = s.vault := by
  unfold restartBegin; (try simp) <;> (repeat' split) <;> simp

@[simp] theorem pairMismatch_kept (n : Nat) (s : State) :
    (pairMismatch n s).pending = s.pending ∧ (pairMismatch n s).sram = s.sram ∧ (pairMismatch n s).vault = s.vault := by
  unfold pairMismatch; (try simp) <;> (repeat' split) <;> simp

@[simp] theorem pairHalt_kept (n : Nat) (s : State) :
    (pairHalt n s).pending = s.pending ∧ (pairHalt n s).sram = s.sram ∧ (pairHalt n s).vault = s.vault := by
  unfold pairHalt; (try simp) <;> (repeat' split) <;> simp

@[simp] theorem haltDue_kept (n : Nat) (s : State) :
    (haltDue n s).pending = s.pending ∧ (haltDue n s).sram = s.sram ∧ (haltDue n s).vault = s.vault := by
  unfold haltDue; (try simp) <;> (repeat' split) <;> simp

@[simp] theorem debugDetach_kept (s : State) :
    (debugDetach s).pending = s.pending ∧ (debugDetach s).sram = s.sram ∧ (debugDetach s).vault = s.vault := by
  unfold debugDetach; (try simp) <;> (repeat' split) <;> simp

@[simp] theorem yieldTake_kept (n : Nat) (s : State) :
    (yieldTake n s).pending = s.pending ∧ (yieldTake n s).sram = s.sram ∧ (yieldTake n s).vault = s.vault := by
  unfold yieldTake; (try simp) <;> (repeat' split) <;> simp

@[simp] theorem rotateAsk_kept (w : Nat) (svc : Bool) (s : State) :
    (rotateAsk w svc s).pending = s.pending ∧ (rotateAsk w svc s).sram = s.sram ∧ (rotateAsk w svc s).vault = s.vault := by
  unfold rotateAsk; (try simp) <;> (repeat' split) <;> simp

@[simp] theorem kgrpPut_kept (n : Nat) (v : Bool) (s : State) :
    (kgrpPut n v s).pending = s.pending ∧ (kgrpPut n v s).sram = s.sram ∧ (kgrpPut n v s).vault = s.vault := by
  unfold kgrpPut; (try simp) <;> (repeat' split) <;> simp

@[simp] theorem engineOut_kept (e : Nat) (s : State) :
    (engineOut e s).pending = s.pending ∧ (engineOut e s).sram = s.sram ∧ (engineOut e s).vault = s.vault := by
  unfold engineOut; (try simp) <;> (repeat' split) <;> simp

@[simp] theorem laneOut_kept (e l : Nat) (s : State) :
    (laneOut e l s).pending = s.pending ∧ (laneOut e l s).sram = s.sram ∧ (laneOut e l s).vault = s.vault := by
  unfold laneOut; (try simp) <;> (repeat' split) <;> simp

@[simp] theorem channelStop_kept (k : Nat) (s : State) :
    (channelStop k s).pending = s.pending ∧ (channelStop k s).sram = s.sram ∧ (channelStop k s).vault = s.vault := by
  unfold channelStop; (try simp) <;> (repeat' split) <;> simp

@[simp] theorem fpGive_kept (k fp : Nat) (s : State) :
    (fpGive k fp s).pending = s.pending ∧ (fpGive k fp s).sram = s.sram ∧ (fpGive k fp s).vault = s.vault := by
  unfold fpGive; (try simp) <;> (repeat' split) <;> simp

@[simp] theorem fpOut_kept (fp : Nat) (s : State) :
    (fpOut fp s).pending = s.pending ∧ (fpOut fp s).sram = s.sram ∧ (fpOut fp s).vault = s.vault := by
  unfold fpOut; (try simp) <;> (repeat' split) <;> simp

@[simp] theorem fcEnable_kept (k : Nat) (was : Bool) (s : State) :
    (fcEnable k was s).pending = s.pending ∧ (fcEnable k was s).sram = s.sram ∧ (fcEnable k was s).vault = s.vault := by
  unfold fcEnable; (try simp) <;> (repeat' split) <;> simp

@[simp] theorem copyOut_kept (u : Nat) (s : State) :
    (copyOut u s).pending = s.pending ∧ (copyOut u s).sram = s.sram ∧ (copyOut u s).vault = s.vault := by
  unfold copyOut; (try simp) <;> (repeat' split) <;> simp

@[simp] theorem unitLeave_kept (ut unit : Nat) (s : State) :
    (unitLeave ut unit s).pending = s.pending ∧ (unitLeave ut unit s).sram = s.sram ∧ (unitLeave ut unit s).vault = s.vault := by
  unfold unitLeave; (try simp) <;> (repeat' split) <;> simp

@[simp] theorem setAside_kept (ut unit : Nat) (s : State) :
    (setAside ut unit s).pending = s.pending ∧ (setAside ut unit s).sram = s.sram ∧ (setAside ut unit s).vault = s.vault := by
  unfold setAside; (try simp) <;> (repeat' split) <;> simp

@[simp] theorem bistNote_kept (kind unit : Nat) (s : State) :
    (bistNote kind unit s).pending = s.pending ∧ (bistNote kind unit s).sram = s.sram ∧ (bistNote kind unit s).vault = s.vault := by
  unfold bistNote; (try simp) <;> (repeat' split) <;> simp

@[simp] theorem bistFail_kept (kind unit : Nat) (s : State) :
    (bistFail kind unit s).pending = s.pending ∧ (bistFail kind unit s).sram = s.sram ∧ (bistFail kind unit s).vault = s.vault := by
  unfold bistFail; (try simp) <;> (repeat' split) <;> simp

@[simp] theorem wayFail_kept (u : Nat) (s : State) :
    (wayFail u s).pending = s.pending ∧ (wayFail u s).sram = s.sram ∧ (wayFail u s).vault = s.vault := by
  unfold wayFail; (try simp) <;> (repeat' split) <;> simp

@[simp] theorem sliceEnd_kept (kind unit : Nat) (pass : Bool) (way : Option (Fin 8)) (s : State) :
    (sliceEnd kind unit pass way s).pending = s.pending ∧ (sliceEnd kind unit pass way s).sram = s.sram ∧ (sliceEnd kind unit pass way s).vault = s.vault := by
  unfold sliceEnd; (try simp) <;> (repeat' split) <;> simp

@[simp] theorem rowZero_kept (array row : Nat) (s : State) :
    (rowZero array row s).pending = s.pending ∧ (rowZero array row s).vault = s.vault := by
  unfold rowZero; (repeat' split)
  · simp
  · simp
  · refine ⟨each_pending _ _ _ fun b s => each_pending _ _ _ fun w s => ?_, each_vault _ _ _ fun b s => each_vault _ _ _ fun w s => ?_⟩ <;> split <;> rfl
  · simp

@[simp] theorem arraysShow_kept (s : State) :
    (arraysShow s).pending = s.pending ∧ (arraysShow s).sram = s.sram ∧ (arraysShow s).vault = s.vault := by
  unfold arraysShow; (try simp) <;> (repeat' split) <;> simp

@[simp] theorem rowRepair_kept (k row : Nat) (zero : Bool) (s : State) :
    (rowRepair k row zero s).pending = s.pending ∧ (rowRepair k row zero s).vault = s.vault := by
  unfold rowRepair; (try simp) <;> (repeat' split) <;> simp

@[simp] theorem ceCount_kept (k row : Nat) (s : State) :
    (ceCount k row s).1.pending = s.pending ∧ (ceCount k row s).1.sram = s.sram ∧ (ceCount k row s).1.vault = s.vault := by
  unfold ceCount; (try simp) <;> (repeat' split) <;> simp

@[simp] theorem eccRecord_kept (k row : Nat) (reader : Option Nat) (s : State) :
    (eccRecord k row reader s).pending = s.pending ∧ (eccRecord k row reader s).sram = s.sram ∧ (eccRecord k row reader s).vault = s.vault := by
  unfold eccRecord; (try simp) <;> (repeat' split) <;> simp

@[simp] theorem seamEvent_kept (b unit detail : Nat) (s : State) :
    (seamEvent b unit detail s).pending = s.pending ∧ (seamEvent b unit detail s).sram = s.sram ∧ (seamEvent b unit detail s).vault = s.vault := by
  unfold seamEvent; (try simp) <;> (repeat' split) <;> simp

@[simp] theorem alignPut_kept (v : Bool) (s : State) :
    (alignPut v s).pending = s.pending ∧ (alignPut v s).sram = s.sram ∧ (alignPut v s).vault = s.vault := by
  unfold alignPut; (try simp) <;> (repeat' split) <;> simp

@[simp] theorem alignStop_kept (s : State) :
    (alignStop s).pending = s.pending ∧ (alignStop s).sram = s.sram ∧ (alignStop s).vault = s.vault := by
  unfold alignStop; (try simp) <;> (repeat' split) <;> simp

@[simp] theorem seamRestart_kept (s : State) :
    (seamRestart s).pending = s.pending ∧ (seamRestart s).sram = s.sram ∧ (seamRestart s).vault = s.vault := by
  unfold seamRestart; (try simp) <;> (repeat' split) <;> simp

@[simp] theorem ctxDisable_kept (c : Nat) (s : State) :
    (ctxDisable c s).pending = s.pending ∧ (ctxDisable c s).sram = s.sram ∧ (ctxDisable c s).vault = s.vault := by
  unfold ctxDisable; (try simp) <;> (repeat' split) <;> simp

@[simp] theorem vaultDone_kept (w : Nat) (v : Word) (b : Bool) (s : State) :
    (vaultDone w v b s).pending = s.pending ∧ (vaultDone w v b s).sram = s.sram := by
  unfold vaultDone; (try simp) <;> (repeat' split) <;> simp

@[simp] theorem ownEffect_kept (b : Bool) (c : VCommit) (changed : List Nat) (dmas : List Nat) (s : State) :
    (ownEffect b c changed dmas s).pending = s.pending ∧ (ownEffect b c changed dmas s).sram = s.sram := by
  unfold ownEffect; (try simp) <;> (repeat' split) <;> simp

@[simp] theorem commitEffect_kept (w : Nat) (s : State) :
    (commitEffect w s).pending = s.pending ∧ (commitEffect w s).sram = s.sram ∧ (commitEffect w s).vault = s.vault := by
  unfold commitEffect; (try simp) <;> (repeat' split) <;> simp

@[simp] theorem vwStep_kept (c : Nat) (s : State) :
    (vwStep c s).pending = s.pending ∧ (vwStep c s).sram = s.sram ∧ (vwStep c s).vault = s.vault := by
  unfold vwStep; (try simp) <;> (repeat' split) <;> simp

@[simp] theorem regroup_kept (old new : Nat) (s : State) :
    (regroup old new s).pending = s.pending ∧ (regroup old new s).sram = s.sram ∧ (regroup old new s).vault = s.vault := by
  unfold regroup; (try simp) <;> (repeat' split) <;> simp

@[simp] theorem wordShow_kept (w : Nat) (v : Word) (s : State) :
    (wordShow w v s).pending = s.pending ∧ (wordShow w v s).sram = s.sram ∧ (wordShow w v s).vault = s.vault := by
  unfold wordShow; (try simp) <;> (repeat' split) <;> simp

@[simp] theorem calBoth_kept (s : State) :
    (calBoth s).pending = s.pending ∧ (calBoth s).sram = s.sram := by
  unfold calBoth; (try simp) <;> (repeat' split) <;> simp

@[simp] theorem commitOk_kept (b : Bool) (c : VCommit) (s : State) :
    (commitOk b c s).pending = s.pending ∧ (commitOk b c s).sram = s.sram := by
  unfold commitOk; (try simp) <;> (repeat' split) <;> simp

@[simp] theorem commitFail_kept (c : VCommit) (s : State) :
    (commitFail c s).pending = s.pending ∧ (commitFail c s).sram = s.sram := by
  unfold commitFail; (try simp) <;> (repeat' split) <;> simp

@[simp] theorem vaultCommit_kept (a b : Bool) (s : State) :
    (vaultCommit a b s).pending = s.pending ∧ (vaultCommit a b s).sram = s.sram := by
  unfold vaultCommit; simp only []; (repeat' split) <;> simp

@[simp] theorem bootFound_kept (src : Nat) (hdr payload trailer : List Word) (s : State) :
    (bootFound src hdr payload trailer s).pending = s.pending ∧ (bootFound src hdr payload trailer s).sram = s.sram ∧ (bootFound src hdr payload trailer s).vault = s.vault := by
  unfold bootFound; (try simp) <;> (repeat' split) <;> simp

@[simp] theorem bootWait_kept (code : Nat) (s : State) :
    (bootWait code s).pending = s.pending ∧ (bootWait code s).sram = s.sram ∧ (bootWait code s).vault = s.vault := by
  unfold bootWait; (try simp) <;> (repeat' split) <;> simp

@[simp] theorem bootStaged_kept (s : State) :
    (bootStaged s).pending = s.pending ∧ (bootStaged s).sram = s.sram ∧ (bootStaged s).vault = s.vault := by
  unfold bootStaged; simp only [bootFound_kept, and_self]

@[simp] theorem stagePage_kept (page : Nat) (l : List Word) (s : State) :
    (stagePage page l s).pending = s.pending ∧ (stagePage page l s).vault = s.vault := by
  unfold stagePage; simp only [put_other, putB_other, sramWrWords_kept, and_self]

@[simp] theorem stagePages_kept (n page : Nat) (l : List Word) (s : State) :
    (stagePages n page l s).pending = s.pending ∧ (stagePages n page l s).vault = s.vault := by
  induction n generalizing page l s with
  | zero => simp [stagePages]
  | succ n ih => unfold stagePages; simp [ih]

@[simp] theorem stageCopyGo_kept (s : State) :
    (stageCopyGo s).pending = s.pending ∧ (stageCopyGo s).sram = s.sram ∧ (stageCopyGo s).vault = s.vault := by
  unfold stageCopyGo; (try simp) <;> (repeat' split) <;> simp

@[simp] theorem stageAct_kept (action : Nat) (ctx : Option Nat) (s : State) :
    (stageAct action ctx s).pending = s.pending ∧ (stageAct action ctx s).sram = s.sram ∧ (stageAct action ctx s).vault = s.vault := by
  unfold stageAct; (try simp) <;> (repeat' split) <;> simp

@[simp] theorem actEnd_kept (code : Nat) (result : Word) (s : State) :
    (actEnd code result s).pending = s.pending ∧ (actEnd code result s).sram = s.sram ∧ (actEnd code result s).vault = s.vault := by
  unfold actEnd; (try simp) <;> (repeat' split) <;> simp

@[simp] theorem newChallenge_kept (s : State) :
    (newChallenge s).pending = s.pending ∧ (newChallenge s).sram = s.sram ∧ (newChallenge s).vault = s.vault := by
  unfold newChallenge; (try simp) <;> (repeat' split) <;> simp

@[simp] theorem dbgLock_kept (s : State) :
    (dbgLock s).pending = s.pending ∧ (dbgLock s).sram = s.sram ∧ (dbgLock s).vault = s.vault := by
  unfold dbgLock; (try simp) <;> (repeat' split) <;> simp

@[simp] theorem keyRevoke_kept (k : Nat) (s : State) :
    (keyRevoke k s).pending = s.pending ∧ (keyRevoke k s).sram = s.sram ∧ (keyRevoke k s).vault = s.vault := by
  unfold keyRevoke; (try simp) <;> (repeat' split) <;> simp

@[simp] theorem attGo_kept (s : State) :
    (attGo s).pending = s.pending ∧ (attGo s).sram = s.sram ∧ (attGo s).vault = s.vault := by
  unfold attGo; (try simp) <;> (repeat' split) <;> simp

@[simp] theorem attBuf_kept (i : Nat) (l : List Word) (s : State) :
    (attBuf i l s).pending = s.pending ∧ (attBuf i l s).sram = s.sram ∧ (attBuf i l s).vault = s.vault := by
  induction l generalizing i s with
  | nil => simp [attBuf]
  | cons w l ih => unfold attBuf; simp only [ih]; (try split) <;> simp

@[simp] theorem attIndex_kept (q : Nat) (s : State) :
    (attIndex q s).pending = s.pending ∧ (attIndex q s).sram = s.sram ∧ (attIndex q s).vault = s.vault := by
  unfold attIndex; (try simp) <;> (repeat' split) <;> simp

@[simp] theorem linkJudge_kept (p : Nat) (s : State) :
    (linkJudge p s).pending = s.pending ∧ (linkJudge p s).sram = s.sram ∧ (linkJudge p s).vault = s.vault := by
  unfold linkJudge; (try simp) <;> (repeat' split) <;> simp

@[simp] theorem timeAlign_kept (off : Int) (s : State) :
    (timeAlign off s).pending = s.pending ∧ (timeAlign off s).sram = s.sram ∧ (timeAlign off s).vault = s.vault := by
  unfold timeAlign; (try simp) <;> (repeat' split) <;> simp

@[simp] theorem seamFlood_kept (skip : Option Nat) (kind : Nat) (data : List Nat) (s : State) :
    (seamFlood skip kind data s).pending = s.pending ∧ (seamFlood skip kind data s).sram = s.sram ∧ (seamFlood skip kind data s).vault = s.vault := by
  unfold seamFlood; (try simp) <;> (repeat' split) <;> simp

@[simp] theorem hopSend_kept (skip : Option Nat) (h : Nat) (lo hi : Word) (s : State) :
    (hopSend skip h lo hi s).pending = s.pending ∧ (hopSend skip h lo hi s).sram = s.sram ∧ (hopSend skip h lo hi s).vault = s.vault := by
  unfold hopSend; (try simp) <;> (repeat' split) <;> simp

@[simp] theorem tableRound_kept (t : List SeamNode) (ring : Bool) (s : State) :
    (tableRound t ring s).pending = s.pending ∧ (tableRound t ring s).sram = s.sram ∧ (tableRound t ring s).vault = s.vault := by
  unfold tableRound; (try simp) <;> (repeat' split) <;> simp

@[simp] theorem hopTake_kept (p h : Nat) (s : State) :
    (hopTake p h s).pending = s.pending ∧ (hopTake p h s).sram = s.sram ∧ (hopTake p h s).vault = s.vault := by
  unfold hopTake; (try simp) <;> (repeat' split) <;> simp

@[simp] theorem nodesShow_kept (t : List SeamNode) (s : State) :
    (nodesShow t s).pending = s.pending ∧ (nodesShow t s).sram = s.sram ∧ (nodesShow t s).vault = s.vault := by
  unfold nodesShow
  refine ⟨each_pending _ _ _ ?_, each_sram _ _ _ ?_, each_vault _ _ _ ?_⟩ <;> intro c s <;> (repeat' split) <;> simp

@[simp] theorem topoApply_kept (t : List SeamNode) (s : State) :
    (topoApply t s).pending = s.pending ∧ (topoApply t s).sram = s.sram ∧ (topoApply t s).vault = s.vault := by
  unfold topoApply; (try simp) <;> (repeat' split) <;> simp

@[simp] theorem seamTripAxis_kept (a : Nat) (soft latch : Bool) (s : State) :
    (seamTripAxis a soft latch s).pending = s.pending ∧ (seamTripAxis a soft latch s).sram = s.sram ∧ (seamTripAxis a soft latch s).vault = s.vault := by
  unfold seamTripAxis; (try simp) <;> (repeat' split) <;> simp

@[simp] theorem seamTripAct_kept (g : Nat) (s : State) :
    (seamTripAct g s).pending = s.pending ∧ (seamTripAct g s).sram = s.sram ∧ (seamTripAct g s).vault = s.vault := by
  unfold seamTripAct; (try simp) <;> (repeat' split) <;> simp

@[simp] theorem seamSend_kept (groups : Nat) (s : State) :
    (seamSend groups s).pending = s.pending ∧ (seamSend groups s).sram = s.sram ∧ (seamSend groups s).vault = s.vault := by
  unfold seamSend; (try simp) <;> (repeat' split) <;> simp

@[simp] theorem tripTake_kept (skip : Option Nat) (p groups seq origin : Nat) (s : State) :
    (tripTake skip p groups seq origin s).pending = s.pending ∧ (tripTake skip p groups seq origin s).sram = s.sram ∧ (tripTake skip p groups seq origin s).vault = s.vault := by
  unfold tripTake; (try simp) <;> (repeat' split) <;> simp

@[simp] theorem peerQueue_kept (f : PeerFrame) (p : Nat) (s : State) :
    (peerQueue f p s).pending = s.pending ∧ (peerQueue f p s).sram = s.sram ∧ (peerQueue f p s).vault = s.vault := by
  unfold peerQueue; (try simp) <;> (repeat' split) <;> simp

@[simp] theorem peerSeen_kept (origin seq : Nat) (s : State) :
    (peerSeen origin seq s).pending = s.pending ∧ (peerSeen origin seq s).sram = s.sram ∧ (peerSeen origin seq s).vault = s.vault := by
  unfold peerSeen; (try simp) <;> (repeat' split) <;> simp

@[simp] theorem slotWrite_kept (k i : Nat) (l : List Word) (s : State) :
    (slotWrite k i l s).pending = s.pending ∧ (slotWrite k i l s).sram = s.sram ∧ (slotWrite k i l s).vault = s.vault := by
  induction l generalizing i s with
  | nil => simp [slotWrite]
  | cons w l ih => unfold slotWrite; simp only [ih]; (try split) <;> simp

@[simp] theorem timeTick_kept (s : State) :
    (timeTick s).pending = s.pending ∧ (timeTick s).sram = s.sram ∧ (timeTick s).vault = s.vault := by
  unfold timeTick; (try simp) <;> (repeat' split) <;> simp

@[simp] theorem seamDrain_kept (s : State) :
    (seamDrain s).pending = s.pending ∧ (seamDrain s).sram = s.sram ∧ (seamDrain s).vault = s.vault := by
  unfold seamDrain
  refine ⟨each_pending _ _ _ ?_, each_sram _ _ _ ?_, each_vault _ _ _ ?_⟩ <;> intro c s <;> (repeat' split) <;> simp

@[simp] theorem talEvent_kept (b unit detail : Nat) (s : State) :
    (talEvent b unit detail s).pending = s.pending ∧ (talEvent b unit detail s).sram = s.sram ∧ (talEvent b unit detail s).vault = s.vault := by
  unfold talEvent; (try simp) <;> (repeat' split) <;> simp

@[simp] theorem talRaise_kept (s : State) :
    (talRaise s).pending = s.pending ∧ (talRaise s).sram = s.sram ∧ (talRaise s).vault = s.vault := by
  unfold talRaise; (try simp) <;> (repeat' split) <;> simp

@[simp] theorem talLatch_kept (s : State) :
    (talLatch s).pending = s.pending ∧ (talLatch s).sram = s.sram ∧ (talLatch s).vault = s.vault := by
  unfold talLatch; (try simp) <;> (repeat' split) <;> simp

@[simp] theorem talClear_kept (s : State) :
    (talClear s).pending = s.pending ∧ (talClear s).sram = s.sram ∧ (talClear s).vault = s.vault := by
  unfold talClear; (try simp) <;> (repeat' split) <;> simp

@[simp] theorem sampShow_kept (s : State) :
    (sampShow s).pending = s.pending ∧ (sampShow s).sram = s.sram ∧ (sampShow s).vault = s.vault := by
  unfold sampShow; (try simp) <;> (repeat' split) <;> simp

@[simp] theorem sampWords_kept (e q : Nat) (l : List Word) (s : State) :
    (sampWords e q l s).pending = s.pending ∧ (sampWords e q l s).sram = s.sram ∧ (sampWords e q l s).vault = s.vault := by
  induction l generalizing q s with
  | nil => simp [sampWords]
  | cons w l ih => unfold sampWords; simp only [ih]; (try split) <;> simp

@[simp] theorem sampPut_kept (w0 : Nat) (ws : List Word) (s : State) :
    (sampPut w0 ws s).pending = s.pending ∧ (sampPut w0 ws s).sram = s.sram ∧ (sampPut w0 ws s).vault = s.vault := by
  unfold sampPut; simp only []; (repeat' split) <;> simp

@[simp] theorem csrRead_kept (n k : Nat) (s : State) :
    (csrRead n k s).pending = s.pending ∧ (csrRead n k s).sram = s.sram ∧ (csrRead n k s).vault = s.vault := by
  unfold csrRead; (try simp) <;> (repeat' split) <;> simp

@[simp] theorem csrWrite_kept (n k : Nat) (v : Word) (s : State) :
    (csrWrite n k v s).pending = s.pending ∧ (csrWrite n k v s).sram = s.sram ∧ (csrWrite n k v s).vault = s.vault := by
  unfold csrWrite; (try simp) <;> (repeat' split) <;> simp

@[simp] theorem csrTick_kept (n : Nat) (s : State) :
    (csrTick n s).pending = s.pending ∧ (csrTick n s).sram = s.sram ∧ (csrTick n s).vault = s.vault := by
  unfold csrTick; (try simp) <;> (repeat' split) <;> simp

@[simp] theorem trimStep_kept (s : State) :
    (trimStep s).pending = s.pending ∧ (trimStep s).sram = s.sram ∧ (trimStep s).vault = s.vault := by
  unfold trimStep; (try simp) <;> (repeat' split) <;> simp

@[simp] theorem pllBStop_kept (s : State) :
    (pllBStop s).pending = s.pending ∧ (pllBStop s).sram = s.sram ∧ (pllBStop s).vault = s.vault := by
  unfold pllBStop; (try simp) <;> (repeat' split) <;> simp

@[simp] theorem pllBStart_kept (s : State) :
    (pllBStart s).pending = s.pending ∧ (pllBStart s).sram = s.sram ∧ (pllBStart s).vault = s.vault := by
  unfold pllBStart; (try simp) <;> (repeat' split) <;> simp

@[simp] theorem clocksStart_kept (s : State) :
    (clocksStart s).pending = s.pending ∧ (clocksStart s).sram = s.sram ∧ (clocksStart s).vault = s.vault := by
  unfold clocksStart; (try simp) <;> (repeat' split) <;> simp

@[simp] theorem startLock_kept (s : State) :
    (startLock s).pending = s.pending ∧ (startLock s).sram = s.sram ∧ (startLock s).vault = s.vault := by
  unfold startLock; (try simp) <;> (repeat' split) <;> simp

@[simp] theorem pllRelock_kept (pll : Pll) (ok : Bool) (s : State) :
    (pllRelock pll ok s).pending = s.pending ∧ (pllRelock pll ok s).sram = s.sram ∧ (pllRelock pll ok s).vault = s.vault := by
  unfold pllRelock; (try simp) <;> (repeat' split) <;> simp

@[simp] theorem coresStop_kept (s : State) :
    (coresStop s).pending = s.pending ∧ (coresStop s).sram = s.sram ∧ (coresStop s).vault = s.vault := by
  unfold coresStop; (try simp) <;> (repeat' split) <;> simp

@[simp] theorem descentAbandon_kept (s : State) :
    (descentAbandon s).pending = s.pending ∧ (descentAbandon s).sram = s.sram ∧ (descentAbandon s).vault = s.vault := by
  unfold descentAbandon; (try simp) <;> (repeat' split) <;> simp

@[simp] theorem descentEnd_kept (s : State) :
    (descentEnd s).pending = s.pending ∧ (descentEnd s).sram = s.sram ∧ (descentEnd s).vault = s.vault := by
  unfold descentEnd; (try simp) <;> (repeat' split) <;> simp

@[simp] theorem wbFlush_kept (p : Nat) (s : State) :
    (wbFlush p s).pending = s.pending ∧ (wbFlush p s).sram = s.sram ∧ (wbFlush p s).vault = s.vault := by
  unfold wbFlush; (try simp) <;> (repeat' split) <;> simp

@[simp] theorem wakeLocked_kept (s : State) :
    (wakeLocked s).pending = s.pending ∧ (wakeLocked s).sram = s.sram ∧ (wakeLocked s).vault = s.vault := by
  unfold wakeLocked; (try simp) <;> (repeat' split) <;> simp

@[simp] theorem ctxsReset_kept (s : State) :
    (ctxsReset s).pending = s.pending ∧ (ctxsReset s).sram = s.sram ∧ (ctxsReset s).vault = s.vault := by
  unfold ctxsReset
  refine ⟨each_pending _ _ _ ?_, each_sram _ _ _ ?_, each_vault _ _ _ ?_⟩ <;> intro c s <;> (try simp only []) <;> (repeat' split) <;> simp

@[simp] theorem unitsReset_kept (s : State) :
    (unitsReset s).pending = s.pending ∧ (unitsReset s).sram = s.sram ∧ (unitsReset s).vault = s.vault := by
  unfold unitsReset; (try simp) <;> (repeat' split) <;> simp

@[simp] theorem warmDo_kept (bit : Nat) (s : State) :
    (warmDo bit s).pending = s.pending ∧ (warmDo bit s).sram = s.sram ∧ (warmDo bit s).vault = s.vault := by
  unfold warmDo; (try simp) <;> (repeat' split) <;> simp

@[simp] theorem vaultCut_kept (s : State) :
    (vaultCut s).pending = s.pending ∧ (vaultCut s).sram = s.sram := by
  unfold vaultCut; simp only []; (repeat' split) <;> simp

@[simp] theorem porDo_kept (pin : Bool) (s : State) :
    (porDo pin s).pending = s.pending ∧ (porDo pin s).sram = [] := by
  unfold porDo; simp only [putB_other, wr_other, vaultCut_kept, State.reset, and_self]

@[simp] theorem loadRow_kept (r : RegRow) (s : State) :
    (loadRow r s).pending = s.pending ∧ (loadRow r s).sram = s.sram ∧ (loadRow r s).vault = s.vault := by
  unfold loadRow; (try simp) <;> (repeat' split) <;> simp

@[simp] theorem vaultMend_kept (s : State) :
    (vaultMend s).pending = s.pending ∧ (vaultMend s).sram = s.sram := by
  unfold vaultMend; (try simp) <;> (repeat' split) <;> simp

@[simp] theorem attResume_kept (s : State) :
    (attResume s).pending = s.pending ∧ (attResume s).sram = s.sram ∧ (attResume s).vault = s.vault := by
  unfold attResume; (try simp) <;> (repeat' split) <;> simp

@[simp] theorem xbarStart_kept (bad : List Nat) (s : State) :
    (xbarStart bad s).pending = s.pending ∧ (xbarStart bad s).sram = s.sram ∧ (xbarStart bad s).vault = s.vault := by
  unfold xbarStart; simp only []
  refine ⟨?_, ?_, ?_⟩ <;>
    first
    | (rw [each_pending, each_pending] <;> intros <;> (try split) <;> simp)
    | (rw [each_sram, each_sram] <;> intros <;> (try split) <;> simp)
    | (rw [each_vault, each_vault] <;> intros <;> (try split) <;> simp)

@[simp] theorem startFail_kept (u : Nat × Nat) (s : State) :
    (startFail u s).pending = s.pending ∧ (startFail u s).sram = s.sram ∧ (startFail u s).vault = s.vault := by
  unfold startFail; (try simp) <;> (repeat' split) <;> simp

@[simp] theorem unitsStart_kept (s : State) :
    (unitsStart s).pending = s.pending ∧ (unitsStart s).sram = s.sram ∧ (unitsStart s).vault = s.vault := by
  unfold unitsStart; (try simp) <;> (repeat' split) <;> simp

@[simp] theorem hpEvent_kept (f : FieldRef) (p src : Nat) (s : State) :
    (hpEvent f p src s).pending = s.pending ∧ (hpEvent f p src s).sram = s.sram ∧ (hpEvent f p src s).vault = s.vault := by
  unfold hpEvent; (try simp) <;> (repeat' split) <;> simp

@[simp] theorem xferAbandon_kept (s : State) :
    (xferAbandon s).pending = s.pending ∧ (xferAbandon s).sram = s.sram ∧ (xferAbandon s).vault = s.vault := by
  unfold xferAbandon; (try simp) <;> (repeat' split) <;> simp

@[simp] theorem xferWrite_kept (target : Nat) (go : Bool) (s : State) :
    (xferWrite target go s).pending = s.pending ∧ (xferWrite target go s).sram = s.sram ∧ (xferWrite target go s).vault = s.vault := by
  unfold xferWrite; (try simp) <;> (repeat' split) <;> simp

@[simp] theorem xferAccept_kept (p : Nat) (s : State) :
    (xferAccept p s).pending = s.pending ∧ (xferAccept p s).sram = s.sram ∧ (xferAccept p s).vault = s.vault := by
  unfold xferAccept; (try simp) <;> (repeat' split) <;> simp

@[simp] theorem lossAct_kept (a : Nat) (s : State) :
    (lossAct a s).pending = s.pending ∧ (lossAct a s).sram = s.sram ∧ (lossAct a s).vault = s.vault := by
  unfold lossAct; (try simp) <;> (repeat' split) <;> simp

@[simp] theorem msixClear_kept (p : Nat) (s : State) :
    (msixClear p s).pending = s.pending ∧ (msixClear p s).sram = s.sram ∧ (msixClear p s).vault = s.vault := by
  unfold msixClear; (try simp) <;> (repeat' split) <;> simp

@[simp] theorem flushFail_kept (p c : Nat) (s : State) :
    (flushFail p c s).pending = s.pending ∧ (flushFail p c s).sram = s.sram ∧ (flushFail p c s).vault = s.vault := by
  unfold flushFail; (try simp) <;> (repeat' split) <;> simp

@[simp] theorem hostLoss_kept (p : Nat) (kind : LossKind) (s : State) :
    (hostLoss p kind s).pending = s.pending ∧ (hostLoss p kind s).sram = s.sram ∧ (hostLoss p kind s).vault = s.vault := by
  unfold hostLoss; (try simp) <;> (repeat' split) <;> simp

@[simp] theorem portCfg_kept (p : Nat) (s : State) :
    (portCfg p s).pending = s.pending ∧ (portCfg p s).sram = s.sram ∧ (portCfg p s).vault = s.vault := by
  unfold portCfg; (try simp) <;> (repeat' split) <;> simp

@[simp] theorem satStep_kept (c : Nat) (s : State) :
    (satStep c s).pending = s.pending ∧ (satStep c s).sram = s.sram ∧ (satStep c s).vault = s.vault := by
  unfold satStep; (try simp) <;> (repeat' split) <;> simp

@[simp] theorem dbTail_kept (c : Nat) (v : Word) (s : State) :
    (dbTail c v s).pending = s.pending ∧ (dbTail c v s).sram = s.sram ∧ (dbTail c v s).vault = s.vault := by
  unfold dbTail; (try simp) <;> (repeat' split) <;> simp

@[simp] theorem ctxHalted_kept (c : Nat) (s : State) :
    (ctxHalted c s).pending = s.pending ∧ (ctxHalted c s).sram = s.sram ∧ (ctxHalted c s).vault = s.vault := by
  unfold ctxHalted; (try simp) <;> (repeat' split) <;> simp

@[simp] theorem descStart_kept (c : Nat) (l : List Word) (s : State) :
    (descStart c l s).pending = s.pending ∧ (descStart c l s).sram = s.sram ∧ (descStart c l s).vault = s.vault := by
  unfold descStart; (try simp) <;> (repeat' split) <;> simp

@[simp] theorem drrPick_kept (l : List Nat) (n : Nat) (s : State) :
    ((drrPick l n s).1).pending = s.pending ∧ ((drrPick l n s).1).sram = s.sram ∧ ((drrPick l n s).1).vault = s.vault := by
  induction n generalizing s with
  | zero => simp [drrPick]
  | succ n ih => unfold drrPick; simp only []; split <;> simp [ih]

@[simp] theorem descDetach_kept (c : Nat) (s : State) :
    (descDetach c s).pending = s.pending ∧ (descDetach c s).sram = s.sram ∧ (descDetach c s).vault = s.vault := by
  unfold descDetach; extract_lets s1 s2 v2 s3 q3 v3 s4 s5
  have h1 : s1.pending = s.pending ∧ s1.sram = s.sram ∧ s1.vault = s.vault := by
    refine ⟨each_pending _ _ _ ?_, each_sram _ _ _ ?_, each_vault _ _ _ ?_⟩ <;> intro i s <;> (repeat' split) <;> rfl
  have h2 : s2.pending = s.pending ∧ s2.sram = s.sram ∧ s2.vault = s.vault := by simp [s2, h1]
  have h3 : s3.pending = s.pending ∧ s3.sram = s.sram ∧ s3.vault = s.vault := by
    simp only [s3]; (repeat' split) <;> exact h2
  have h4 : s4.pending = s.pending ∧ s4.sram = s.sram ∧ s4.vault = s.vault := by
    simp only [s4]; split <;> simp [q3, h3]
  split <;> simp [s5, h4]

@[simp] theorem descEnd_kept (c : Nat) (e : ExecS) (code detail : Nat) (completes : Bool) (s : State) :
    (descEnd c e code detail completes s).pending = s.pending ∧ (descEnd c e code detail completes s).sram = s.sram ∧ (descEnd c e code detail completes s).vault = s.vault := by
  unfold descEnd; (try simp) <;> (repeat' split) <;> simp

@[simp] theorem descFinish_kept (c : Nat) (s : State) :
    (descFinish c s).pending = s.pending ∧ (descFinish c s).sram = s.sram ∧ (descFinish c s).vault = s.vault := by
  unfold descFinish; (try simp) <;> (repeat' split) <;> simp

@[simp] theorem ctxCtrl_kept (c : Nat) (v : Word) (s : State) :
    (ctxCtrl c v s).pending = s.pending ∧ (ctxCtrl c v s).sram = s.sram ∧ (ctxCtrl c v s).vault = s.vault := by
  unfold ctxCtrl; extract_lets was en s1 s2 s3 s4 s5 s6
  have h1 : s1.pending = s.pending ∧ s1.sram = s.sram ∧ s1.vault = s.vault := by
    refine ⟨when_pending _ _ _ fun s => ?_, when_sram _ _ _ fun s => ?_, when_vault _ _ _ fun s => ?_⟩ <;> simp
  have h3 : s3.pending = s.pending ∧ s3.sram = s.sram ∧ s3.vault = s.vault := by
    refine ⟨Eq.trans (when_pending _ _ _ fun s => ?_) h1.1, Eq.trans (when_sram _ _ _ fun s => ?_) h1.2.1, Eq.trans (when_vault _ _ _ fun s => ?_) h1.2.2⟩ <;> simp
  have h6 : s6.pending = s3.pending ∧ s6.sram = s3.sram ∧ s6.vault = s3.vault := by simp [s6, s5, s4]
  simp [h6, h3]

@[simp] theorem msixDue_kept (p v : Nat) (s : State) :
    (msixDue p v s).pending = s.pending ∧ (msixDue p v s).sram = s.sram ∧ (msixDue p v s).vault = s.vault := by
  unfold msixDue; (try simp) <;> (repeat' split) <;> simp

@[simp] theorem cfgRead_kept (p : Nat) (r : CfgReg) (s : State) :
    (cfgRead p r s).pending = s.pending ∧ (cfgRead p r s).sram = s.sram ∧ (cfgRead p r s).vault = s.vault := by
  unfold cfgRead; (try simp) <;> (repeat' split) <;> simp

@[simp] theorem readReg_kept (w : Writer) (a : Nat) (s : State) :
    (readReg w a s).2.pending = s.pending ∧ (readReg w a s).2.sram = s.sram ∧ (readReg w a s).2.vault = s.vault := by
  unfold readReg; (try simp) <;> (repeat' split) <;> simp

@[simp] theorem powerGo_kept (s : State) :
    (powerGo s).pending = s.pending ∧ (powerGo s).sram = s.sram ∧ (powerGo s).vault = s.vault := by
  unfold powerGo; (try simp) <;> (repeat' split) <;> simp

@[simp] theorem regStore_kept (r : RegRow) (a : Nat) (v : Word) (ctx : Option Nat) (s : State) :
    (regStore r a v ctx s).pending = s.pending ∧ (regStore r a v ctx s).sram = s.sram ∧ (regStore r a v ctx s).vault = s.vault := by
  unfold regStore; (try simp) <;> (repeat' split) <;> simp

theorem effHp_kept (w : Writer) (r : RegRow) (a i : Nat) (v : Word) (ctx : Option Nat) (s : State) : KeptO s (effHp w r a i v ctx s) := by
  unfold effHp; simp only []
  repeat' apply keptO_ite
  all_goals (repeat' split) <;> first | exact keptO_none s | (apply keptO_some; simp)

theorem effPwr_kept (r : RegRow) (a : Nat) (v : Word) (s : State) : KeptO s (effPwr r a v s) := by
  unfold effPwr; simp only []
  repeat' apply keptO_ite
  all_goals (repeat' split) <;> first | exact keptO_none s | (apply keptO_some; simp)

@[simp] theorem ringHead_kept (p : Nat) (v : Nat) (s : State) :
    (ringHead p v s).pending = s.pending ∧ (ringHead p v s).sram = s.sram ∧ (ringHead p v s).vault = s.vault := by
  unfold ringHead; (try simp) <;> (repeat' split) <;> simp

@[simp] theorem ringEnable_kept (p : Nat) (s : State) :
    (ringEnable p s).pending = s.pending ∧ (ringEnable p s).sram = s.sram ∧ (ringEnable p s).vault = s.vault := by
  unfold ringEnable; (try simp) <;> (repeat' split) <;> simp

@[simp] theorem ledgerWrite_kept (c v : Nat) (s : State) :
    (ledgerWrite c v s).pending = s.pending ∧ (ledgerWrite c v s).sram = s.sram ∧ (ledgerWrite c v s).vault = s.vault := by
  unfold ledgerWrite; (try simp) <;> (repeat' split) <;> simp

theorem effRing_kept (w : Writer) (r : RegRow) (a i : Nat) (v : Word) (s : State) : KeptO s (effRing w r a i v s) := by
  unfold effRing; simp only []
  repeat' apply keptO_ite
  all_goals (repeat' split) <;> first | exact keptO_none s | (apply keptO_some; simp)

theorem effAxis_kept (w : Writer) (r : RegRow) (a i j : Nat) (v : Word) (s : State) : KeptO s (effAxis w r a i j v s) := by
  unfold effAxis; simp only []
  repeat' apply keptO_ite
  all_goals (repeat' split) <;> first | exact keptO_none s | (apply keptO_some; simp)

@[simp] theorem calPush_kept (w v : Nat) (s : State) :
    (calPush w v s).pending = s.pending ∧ (calPush w v s).sram = s.sram ∧ (calPush w v s).vault = s.vault := by
  unfold calPush; (try simp) <;> (repeat' split) <;> simp

@[simp] theorem calStep_kept (v : Word) (s : State) :
    (calStep v s).pending = s.pending ∧ (calStep v s).sram = s.sram ∧ (calStep v s).vault = s.vault := by
  unfold calStep; (try simp) <;> (repeat' split) <;> simp

theorem effMeas_kept (r : RegRow) (a i : Nat) (v : Word) (s : State) : KeptO s (effMeas r a i v s) := by
  unfold effMeas; simp only []
  repeat' apply keptO_ite
  all_goals (repeat' split) <;> first | exact keptO_none s | (apply keptO_some; simp)

@[simp] theorem ctCmd_kept (v : Word) (s : State) :
    (ctCmd v s).1.pending = s.pending ∧ (ctCmd v s).1.sram = s.sram ∧ (ctCmd v s).1.vault = s.vault := by
  unfold ctCmd; (try simp) <;> (repeat' split) <;> simp

@[simp] theorem safKey_kept (k : Nat) (s : State) :
    (safKey k s).1.pending = s.pending ∧ (safKey k s).1.sram = s.sram ∧ (safKey k s).1.vault = s.vault := by
  unfold safKey; (try simp) <;> (repeat' split) <;> simp

theorem effSafe_kept (r : RegRow) (a i : Nat) (v : Word) (s : State) : KeptO s (effSafe r a i v s) := by
  unfold effSafe; simp only []
  repeat' apply keptO_ite
  all_goals (repeat' split) <;> first | exact keptO_none s | (apply keptO_some; simp)

@[simp] theorem regEffect_kept (w : Writer) (r : RegRow) (a i j : Nat) (v : Word) (ctx : Option Nat) (s : State) :
    ((regEffect w r a i j v ctx s).1).pending = s.pending ∧ ((regEffect w r a i j v ctx s).1).sram = s.sram ∧ ((regEffect w r a i j v ctx s).1).vault = s.vault := by
  have h : ∀ o, KeptO s o → (o.getD (regStore r a v ctx s, 0)).1.pending = s.pending ∧ (o.getD (regStore r a v ctx s, 0)).1.sram = s.sram ∧
      (o.getD (regStore r a v ctx s, 0)).1.vault = s.vault := by
    intro o ho
    cases o with
    | none => simp
    | some x => exact ho x rfl
  unfold regEffect; simp only []
  exact h _ (keptO_ite _ _ _ _ (effHp_kept _ _ _ _ _ _ _) (keptO_ite _ _ _ _ (effPwr_kept _ _ _ _)
    (keptO_ite _ _ _ _ (effRing_kept _ _ _ _ _ _) (keptO_ite _ _ _ _ (effAxis_kept _ _ _ _ _ _ _)
      (keptO_ite _ _ _ _ (effMeas_kept _ _ _ _ _) (keptO_ite _ _ _ _ (keptO_some _ _ (by simp)) (effSafe_kept _ _ _ _ _)))))))

theorem ruledWrite_kept (w : Writer) (a : Nat) (v : Word) (ctx : Option Nat) (s t : State) (k : Nat) (h : ruledWrite w a v ctx s = .done t k) :
    t.pending = s.pending ∧ t.sram = s.sram ∧ t.vault = s.vault := by
  unfold ruledWrite at h
  simp only [] at h
  (repeat' split at h) <;> first | contradiction | (simp only [WriteRes.done.injEq] at h; rw [← h.1]; simp)

theorem busWrite_kept (w : Writer) (a : Nat) (v : Word) (ctx : Option Nat) (s t : State) (k : Nat) (h : busWrite w a v ctx s = .done t k) :
    t.pending = s.pending ∧ t.sram = s.sram ∧ t.vault = s.vault := by
  unfold busWrite at h
  simp only [] at h
  split at h
  · exact absurd h (by simp)
  · exact ruledWrite_kept _ _ _ _ _ _ _ h

@[simp] theorem refuseRecord_kept (w : Writer) (a : Nat) (reason : Nat) (s : State) :
    (refuseRecord w a reason s).pending = s.pending ∧ (refuseRecord w a reason s).sram = s.sram ∧ (refuseRecord w a reason s).vault = s.vault := by
  unfold refuseRecord; (try simp) <;> (repeat' split) <;> simp

@[simp] theorem msixWrite_kept (p a : Nat) (v : Word) (s : State) :
    (msixWrite p a v s).pending = s.pending ∧ (msixWrite p a v s).sram = s.sram ∧ (msixWrite p a v s).vault = s.vault := by
  unfold msixWrite; (try simp) <;> (repeat' split) <;> simp

@[simp] theorem pageWrite_kept (w : Writer) (a : Nat) (v : Word) (s : State) :
    (pageWrite w a v s).pending = s.pending ∧ (pageWrite w a v s).sram = s.sram ∧ (pageWrite w a v s).vault = s.vault := by
  unfold pageWrite; (try simp) <;> (repeat' split) <;> simp

@[simp] theorem doWrite_kept (w : Writer) (bar2 : Bool) (a : Nat) (v : Word) (s : State) :
    (doWrite w bar2 a v s).pending = s.pending ∧ (doWrite w bar2 a v s).sram = s.sram ∧ (doWrite w bar2 a v s).vault = s.vault := by
  unfold doWrite; simp only []
  split
  · split <;> simp
  split
  · (repeat' split) <;> simp
  split
  · rename_i t k h
    have := busWrite_kept _ _ _ _ _ _ _ h
    simpa using this
  · simp
  · simp

@[simp] theorem doRead_kept (p : Fin 4) (bar2 : Bool) (a : Nat) (s : State) :
    (doRead p bar2 a s).2.pending = s.pending ∧ (doRead p bar2 a s).2.sram = s.sram ∧ (doRead p bar2 a s).2.vault = s.vault := by
  unfold doRead; (try simp) <;> (repeat' split) <;> simp

@[simp] theorem holdAccess_kept (w : Writer) (x : Access) (s : State) :
    (holdAccess w x s).pending = s.pending ∧ (holdAccess w x s).sram = s.sram ∧ (holdAccess w x s).vault = s.vault := by
  unfold holdAccess; (try simp) <;> (repeat' split) <;> simp

@[simp] theorem longAccess_kept (p : Nat) (x : Access) (s : State) :
    (longAccess p x s).pending = s.pending ∧ (longAccess p x s).sram = s.sram ∧ (longAccess p x s).vault = s.vault := by
  unfold longAccess; (try simp) <;> (repeat' split) <;> simp

@[simp] theorem access_kept (w : Writer) (x : Access) (s : State) :
    (access w x s).pending = s.pending ∧ (access w x s).sram = s.sram ∧ (access w x s).vault = s.vault := by
  unfold access; (try simp) <;> (repeat' split) <;> simp

@[simp] theorem hostAccess_kept (p : Fin 4) (x : Access) (s : State) :
    (hostAccess p x s).pending = s.pending ∧ (hostAccess p x s).sram = s.sram ∧ (hostAccess p x s).vault = s.vault := by
  unfold hostAccess; (try simp) <;> (repeat' split) <;> simp

@[simp] theorem heldGo_kept (h : Nat × Access) (s : State) :
    (heldGo h s).pending = s.pending ∧ (heldGo h s).sram = s.sram ∧ (heldGo h s).vault = s.vault := by
  unfold heldGo; (try simp) <;> (repeat' split) <;> simp

@[simp] theorem heldRun_kept (s : State) :
    (heldRun s).pending = s.pending ∧ (heldRun s).sram = s.sram ∧ (heldRun s).vault = s.vault := by
  unfold heldRun; (try simp) <;> (repeat' split) <;> simp

@[simp] theorem clocksBack_kept (s : State) :
    (clocksBack s).pending = s.pending ∧ (clocksBack s).sram = s.sram ∧ (clocksBack s).vault = s.vault := by
  unfold clocksBack; (try simp) <;> (repeat' split) <;> simp

@[simp] theorem vheldRun_kept (s : State) :
    (vheldRun s).pending = s.pending ∧ (vheldRun s).sram = s.sram ∧ (vheldRun s).vault = s.vault := by
  unfold vheldRun; (try simp) <;> (repeat' split) <;> simp

@[simp] theorem commitEnd_kept (a b : Bool) (s : State) :
    (commitEnd a b s).pending = s.pending ∧ (commitEnd a b s).sram = s.sram := by
  unfold commitEnd; simp only []; simp

@[simp] theorem writeCmd_kept (w : Writer) (bar2 : Bool) (a : Nat) (v : Word) (s : State) :
    (writeCmd w bar2 a v s).pending = s.pending ∧ (writeCmd w bar2 a v s).sram = s.sram ∧ (writeCmd w bar2 a v s).vault = s.vault := by
  unfold writeCmd; (try simp) <;> (repeat' split) <;> simp

@[simp] theorem heldOut_kept (n : Nat) (h : HeldW) (s : State) :
    (heldOut n h s).pending = s.pending ∧ (heldOut n h s).vault = s.vault := by
  unfold heldOut; (try simp) <;> (repeat' split) <;> simp

@[simp] theorem releaseWrites_kept (n : Nat) (l : List HeldW) (s : State) :
    (releaseWrites n l s).pending = s.pending ∧ (releaseWrites n l s).vault = s.vault := by
  induction l generalizing s with
  | nil => simp [releaseWrites]
  | cons x l ih => unfold releaseWrites; simp [ih]

@[simp] theorem windowEqual_kept (n : Nat) (s : State) :
    (windowEqual n s).pending = s.pending ∧ (windowEqual n s).vault = s.vault := by
  unfold windowEqual; simp only []; (repeat' split) <;> simp

@[simp] theorem bufferWrite_kept (n : Nat) (h : HeldW) (s : State) :
    (bufferWrite n h s).pending = s.pending ∧ (bufferWrite n h s).vault = s.vault := by
  unfold bufferWrite; (try simp) <;> (repeat' split) <;> simp

@[simp] theorem ctrlWrite_kept (n : Nat) (h : HeldW) (s : State) :
    (ctrlWrite n h s).pending = s.pending ∧ (ctrlWrite n h s).vault = s.vault := by
  unfold ctrlWrite; (try simp) <;> (repeat' split) <;> simp

@[simp] theorem coreStore_kept (n : Nat) (st : CoreStore) (be : BitVec 4) (v : Word) (s : State) :
    (coreStore n st be v s).pending = s.pending ∧ (coreStore n st be v s).vault = s.vault := by
  unfold coreStore; (try simp) <;> (repeat' split) <;> simp

@[simp] theorem heldGiveUp_kept (h : Nat × Access) (s : State) :
    (heldGiveUp h s).pending = s.pending ∧ (heldGiveUp h s).sram = s.sram ∧ (heldGiveUp h s).vault = s.vault := by
  unfold heldGiveUp; (try simp) <;> (repeat' split) <;> simp

@[simp] theorem vectorsDue_kept (s : State) :
    (vectorsDue s).pending = s.pending ∧ (vectorsDue s).sram = s.sram ∧ (vectorsDue s).vault = s.vault := by
  unfold vectorsDue; (try simp) <;> (repeat' split) <;> simp

@[simp] theorem descentBack_kept (s : State) :
    (descentBack s).pending = s.pending ∧ (descentBack s).sram = s.sram ∧ (descentBack s).vault = s.vault := by
  unfold descentBack; (try simp) <;> (repeat' split) <;> simp

@[simp] theorem ctxCmd_kept (w : Writer) (c bit : Nat) (s : State) :
    (ctxCmd w c bit s).pending = s.pending ∧ (ctxCmd w c bit s).sram = s.sram ∧ (ctxCmd w c bit s).vault = s.vault := by
  unfold ctxCmd; (try simp) <;> (repeat' split) <;> simp

theorem wordWrite_kept (w : Writer) (checked : Bool) (a : Nat) (v : Word) (ctx : Option Nat) (s t : State) (k : Nat) (h : wordWrite w checked a v ctx s = .done t k) :
    t.pending = s.pending ∧ t.sram = s.sram ∧ t.vault = s.vault := by
  unfold wordWrite at h
  simp only [] at h
  (repeat' split at h) <;> first | exact ruledWrite_kept _ _ _ _ _ _ _ h | contradiction | (simp only [WriteRes.done.injEq] at h; rw [← h.1]; simp)

@[simp] theorem descRefused_kept (c : Nat) (w : Writer) (a k : Nat) (s : State) :
    (descRefused c w a k s).pending = s.pending ∧ (descRefused c w a k s).sram = s.sram ∧ (descRefused c w a k s).vault = s.vault := by
  unfold descRefused; (try simp) <;> (repeat' split) <;> simp

@[simp] theorem dmaCmd_kept (w : Writer) (n bit : Nat) (s : State) :
    (dmaCmd w n bit s).pending = s.pending ∧ (dmaCmd w n bit s).sram = s.sram ∧ (dmaCmd w n bit s).vault = s.vault := by
  unfold dmaCmd; (try simp) <;> (repeat' split) <;> simp

theorem dmaRegReads_kept (w : Writer) (a k : Nat) (s : State) :
    (dmaRegReads w a k s).2.pending = s.pending ∧ (dmaRegReads w a k s).2.sram = s.sram ∧ (dmaRegReads w a k s).2.vault = s.vault := by
  induction k generalizing a s with
  | zero => simp [dmaRegReads]
  | succ k ih =>
    have hi := ih (a + 4) (readReg w a s).2
    unfold dmaRegReads; simp only []
    split
    · simp
    · split <;> (rename_i h; rw [h] at hi; simpa using hi)

@[simp] theorem dmaElemFail_kept (n code detail : Nat) (s : State) :
    (dmaElemFail n code detail s).pending = s.pending ∧ (dmaElemFail n code detail s).sram = s.sram ∧ (dmaElemFail n code detail s).vault = s.vault := by
  unfold dmaElemFail; (try simp) <;> (repeat' split) <;> simp

@[simp] theorem dmaTag_kept (n queued : Nat) (s : State) :
    (dmaTag n queued s).pending = s.pending ∧ (dmaTag n queued s).sram = s.sram ∧ (dmaTag n queued s).vault = s.vault := by
  unfold dmaTag; (try simp) <;> (repeat' split) <;> simp

@[simp] theorem dmaRegWrites_kept (n : Nat) (w : Writer) (a : Nat) (l : List Word) (s : State) :
    (dmaRegWrites n w a l s).pending = s.pending ∧ (dmaRegWrites n w a l s).sram = s.sram ∧ (dmaRegWrites n w a l s).vault = s.vault := by
  induction l generalizing a s with
  | nil => simp [dmaRegWrites]
  | cons v l ih =>
    unfold dmaRegWrites; simp only []
    split
    · simp
    · simp
    · rename_i t k h
      have := wordWrite_kept _ _ _ _ _ _ _ _ h
      split
      · simpa using this
      · simpa [ih] using this

@[simp] theorem dmaStore_kept (n : Nat) (ws : List Word) (s : State) :
    (dmaStore n ws s).pending = s.pending ∧ (dmaStore n ws s).vault = s.vault := by
  unfold dmaStore; simp only []; (repeat' split) <;> simp

@[simp] theorem dmaLoad_kept (n : Nat) (ok : Bool) (data : List Word) (s : State) :
    (dmaLoad n ok data s).pending = s.pending ∧ (dmaLoad n ok data s).vault = s.vault := by
  unfold dmaLoad; simp only []
  split
  · split <;> simp
  · split
    · simp
    · generalize hx : dmaRegReads _ _ _ _ = x
      have hk : x.2.pending = s.pending ∧ x.2.sram = s.sram ∧ x.2.vault = s.vault := by rw [← hx]; exact dmaRegReads_kept _ _ _ _
      obtain ⟨r, t⟩ := x
      cases r <;> simpa using ⟨hk.1, hk.2.2⟩
  all_goals (split <;> simp)

@[simp] theorem debugDo_kept (n : Fin 5) (c : DbgCmd) (s : State) :
    (debugDo n c s).pending = s.pending ∧ (debugDo n c s).sram = s.sram ∧ (debugDo n c s).vault = s.vault := by
  unfold debugDo; (try simp) <;> (repeat' split) <;> simp

@[simp] theorem idle_kept (s : State) :
    (idle s).pending = s.pending ∧ (idle s).sram = s.sram ∧ (idle s).vault = s.vault := by
  unfold idle; (try simp) <;> (repeat' split) <;> simp

end Sys2Proof.Laws
end

