-- ==== Sys2Proof/Laws/Regs.lean ====
section
/-! SUPPORT. What the operations leave alone among the registers: every register below the lowest one they write. -/

set_option linter.unreachableTactic false
set_option linter.unusedTactic false
set_option linter.unnecessarySeqFocus false
set_option linter.unusedSimpArgs false
set_option linter.unusedVariables false

namespace Sys2Proof.Laws

open Sys2Proof.Machine

@[simp] theorem rd_wr_ite (s : State) (a A : Nat) (w : Word) : (s.wr a w).rd A = if A = a then w else s.rd A := rd_wr s a A w

@[simp] theorem rd_put_ite (s : State) (f : FieldRef) (v A : Nat) :
    (s.put f v).rd A = if A = f.addr then fieldSet (s.rd A) f.lo f.width v else s.rd A := rd_put s f v A

@[simp] theorem rd_putB_ite (s : State) (f : FieldRef) (b : Bool) (A : Nat) :
    (s.putB f b).rd A = if A = f.addr then fieldSet (s.rd A) f.lo f.width (b2n b) else s.rd A := rd_put s f _ A

@[simp] theorem rd_bump_ite (s : State) (f : FieldRef) (n A : Nat) :
    (s.bump f n).rd A = if A = f.addr then fieldSet (s.rd A) f.lo f.width (min (s.get f + n) (2 ^ f.width - 1)) else s.rd A :=
  rd_put s f _ A

@[simp] theorem rd_putBit_ite (s : State) (f : FieldRef) (i : Nat) (b : Bool) (A : Nat) :
    (s.putBit f i b).rd A = if A = f.addr then fieldSet (s.rd A) f.lo f.width (nbitSet (s.get f) i b) else s.rd A := rd_put s f _ A

@[simp] theorem rd_putCnt (s : State) (i v A : Nat) (hA : A < 0x80104) : (s.putCnt i v).rd A = s.rd A := by
  have h1 : A ≠ (TAL_CNT_LO__COUNT_LO i).addr := by simp only [TAL_CNT_LO__COUNT_LO]; omega
  have h2 : A ≠ (TAL_CNT_HI__COUNT_HI i).addr := by simp only [TAL_CNT_HI__COUNT_HI]; omega
  simp [State.putCnt, h1, h2]

@[simp] theorem each_rd (s : State) (l : List Nat) (f : Nat → State → State) (A : Nat) (h : ∀ i s, (f i s).rd A = s.rd A) :
    (s.each l f).rd A = s.rd A := each_keep s (fun s => s.rd A) l f h

theorem when_rd (s : State) (c : Bool) (f : State → State) (A : Nat) (h : ∀ s, (f s).rd A = s.rd A) :
    (s.when c f).rd A = s.rd A := when_keep s (fun s => s.rd A) c f h

@[simp] theorem when_rd_ite (s : State) (c : Bool) (f : State → State) (A : Nat) :
    (s.when c f).rd A = if c then (f s).rd A else s.rd A := by unfold State.when; split <;> rfl

@[simp] theorem each_when_rd (s : State) (l : List Nat) (c : Nat → State → Bool) (f : Nat → State → State → State) (A : Nat)
    (h : ∀ i s u, (f i s u).rd A = u.rd A) : (s.each l fun i s => s.when (c i s) (f i s)).rd A = s.rd A :=
  each_rd _ _ _ _ fun i s => when_rd _ _ _ _ (h i s)

@[simp] theorem each_each_rd (s : State) (l : List Nat) (k : Nat → State → List Nat) (f : Nat → State → Nat → State → State) (A : Nat)
    (h : ∀ i s j u, (f i s j u).rd A = u.rd A) : (s.each l fun i s => s.each (k i s) (f i s)).rd A = s.rd A :=
  each_rd _ _ _ _ fun i s => each_rd _ _ _ _ (h i s)

@[simp] theorem foldl_rd {α : Type} (l : List α) (f : State → α → State) (s : State) (A : Nat) (h : ∀ s x, (f s x).rd A = s.rd A) :
    (l.foldl f s).rd A = s.rd A := by
  induction l generalizing s with
  | nil => rfl
  | cons x l ih => rw [List.foldl_cons, ih, h]

@[simp] theorem ite_rd (c : Prop) [Decidable c] (s t : State) (A : Nat) : (if c then s else t).rd A = if c then s.rd A else t.rd A := by
  split <;> rfl

@[simp] theorem addr_ite (c : Prop) [Decidable c] (f g : FieldRef) : (if c then f else g).addr = if c then f.addr else g.addr := by
  split <;> rfl

@[simp] theorem ne_ite (c : Prop) [Decidable c] (A x y : Nat) (hx : A ≠ x) (hy : A ≠ y) : (A = if c then x else y) = False := by
  split <;> simp [hx, hy]

/-- A register reads as the register words say, whatever the other fields hold. -/
@[simp] theorem rd_mk (s : State) (pending : List Instr) (sram : List Host.Cell) (banks : Sparse Word) (bankSeen : Sparse Bool) (msix : Sparse Word) (pba : Sparse Bool) (vecPend : Sparse Nat) (merged : Sparse Merged) (ports : Sparse PortS) (ctxs : Sparse CtxS) (axes : Sparse AxisS) (tms : Sparse TableS) (legs : Sparse LegS) (fcs : Sparse FcS) (pairs : Sparse PairS) (pis : Sparse PiS) (links : Sparse LinkS) (safs : Sparse SafS) (cmpFails : Sparse Nat) (voteFail : Sparse Bool) (pmIns : Sparse PmInS) (pm : PmS) (dmas : Sparse DmaS) (isls : Sparse IslandS) (fl : List FlRec) (vault : Sparse VWord) (wear : Sparse Word) (vq : List VCommit) (vheld : List (Writer × Nat × Word)) (vs : VaultS) (cps : Sparse CpS) (escrow : Sparse (List Word)) (red : RedS) (seams : Sparse SeamPS) (seam : SeamS) (tal : TalS) (sys : SysS) (out : List Out) (free : Nat) (A : Nat) : State.rd { pending := pending, regs := s.regs, sram := sram, banks := banks, bankSeen := bankSeen, msix := msix, pba := pba, vecPend := vecPend, merged := merged, ports := ports, ctxs := ctxs, axes := axes, tms := tms, legs := legs, fcs := fcs, pairs := pairs, pis := pis, links := links, safs := safs, cmpFails := cmpFails, voteFail := voteFail, pmIns := pmIns, pm := pm, dmas := dmas, isls := isls, fl := fl, vault := vault, wear := wear, vq := vq, vheld := vheld, vs := vs, cps := cps, escrow := escrow, red := red, seams := seams, seam := seam, tal := tal, sys := sys, out := out, free := free } A = s.rd A := rd_congr rfl A

@[simp] theorem setAx_rd (s : State) (a : Nat) (x : AxisS) (A : Nat) : (s.setAx a x).rd A = s.rd A := rd_congr rfl A

@[simp] theorem upAx_rd (s : State) (a : Nat) (g : AxisS → AxisS) (A : Nat) : (s.upAx a g).rd A = s.rd A := rd_congr rfl A

@[simp] theorem setTm_rd (s : State) (a : Nat) (x : TableS) (A : Nat) : (s.setTm a x).rd A = s.rd A := rd_congr rfl A

@[simp] theorem upTm_rd (s : State) (a : Nat) (g : TableS → TableS) (A : Nat) : (s.upTm a g).rd A = s.rd A := rd_congr rfl A

@[simp] theorem setCtx_rd (s : State) (c : Nat) (x : CtxS) (A : Nat) : (s.setCtx c x).rd A = s.rd A := rd_congr rfl A

@[simp] theorem upCtx_rd (s : State) (c : Nat) (g : CtxS → CtxS) (A : Nat) : (s.upCtx c g).rd A = s.rd A := rd_congr rfl A

@[simp] theorem upPort_rd (s : State) (p : Nat) (g : PortS → PortS) (A : Nat) : (s.upPort p g).rd A = s.rd A := rd_congr rfl A

@[simp] theorem upSys_rd (s : State) (g : SysS → SysS) (A : Nat) : (s.upSys g).rd A = s.rd A := rd_congr rfl A

@[simp] theorem emit_rd (s : State) (o : Out) (A : Nat) : (s.emit o).rd A = s.rd A := rd_congr rfl A

@[simp] theorem sramWr_rd (s : State) (a : Nat) (b : Byte) (A : Nat) : (s.sramWr a b).rd A = s.rd A := rd_congr rfl A

@[simp] theorem upLeg_rd (s : State) (m : Nat) (g : LegS → LegS) (A : Nat) : (s.upLeg m g).rd A = s.rd A := rd_congr rfl A

@[simp] theorem upDma_rd (s : State) (n : Nat) (g : DmaS → DmaS) (A : Nat) : (s.upDma n g).rd A = s.rd A := rd_congr rfl A

@[simp] theorem upPi_rd (s : State) (n : Nat) (g : PiS → PiS) (A : Nat) : (s.upPi n g).rd A = s.rd A := rd_congr rfl A

@[simp] theorem upLnk_rd (s : State) (n : Nat) (g : LinkS → LinkS) (A : Nat) : (s.upLnk n g).rd A = s.rd A := rd_congr rfl A

@[simp] theorem upIsl_rd (s : State) (i : Nat) (g : IslandS → IslandS) (A : Nat) : (s.upIsl i g).rd A = s.rd A := rd_congr rfl A

@[simp] theorem upPair_rd (s : State) (p : Nat) (g : PairS → PairS) (A : Nat) : (s.upPair p g).rd A = s.rd A := rd_congr rfl A

@[simp] theorem upSaf_rd (s : State) (a : Nat) (g : SafS → SafS) (A : Nat) : (s.upSaf a g).rd A = s.rd A := rd_congr rfl A

@[simp] theorem upPmIn_rd (s : State) (j : Nat) (g : PmInS → PmInS) (A : Nat) : (s.upPmIn j g).rd A = s.rd A := rd_congr rfl A

@[simp] theorem upPm_rd (s : State) (g : PmS → PmS) (A : Nat) : (s.upPm g).rd A = s.rd A := rd_congr rfl A

@[simp] theorem upPx_rd (s : State) (x : Nat) (g : PxS → PxS) (A : Nat) : (s.upPx x g).rd A = s.rd A := rd_congr rfl A

@[simp] theorem upFc_rd (s : State) (k : Nat) (g : FcS → FcS) (A : Nat) : (s.upFc k g).rd A = s.rd A := rd_congr rfl A

@[simp] theorem upCp_rd (s : State) (n : Nat) (g : CpS → CpS) (A : Nat) : (s.upCp n g).rd A = s.rd A := rd_congr rfl A

@[simp] theorem upRed_rd (s : State) (g : RedS → RedS) (A : Nat) : (s.upRed g).rd A = s.rd A := rd_congr rfl A

@[simp] theorem upSp_rd (s : State) (p : Nat) (g : SeamPS → SeamPS) (A : Nat) : (s.upSp p g).rd A = s.rd A := rd_congr rfl A

@[simp] theorem upSeam_rd (s : State) (g : SeamS → SeamS) (A : Nat) : (s.upSeam g).rd A = s.rd A := rd_congr rfl A

@[simp] theorem upTal_rd (s : State) (g : TalS → TalS) (A : Nat) : (s.upTal g).rd A = s.rd A := rd_congr rfl A

@[simp] theorem vaultWr_rd (s : State) (w : Nat) (v : Word) (A : Nat) : (s.vaultWr w v).rd A = s.rd A := rd_congr rfl A

@[simp] theorem fresh_rd (s : State) (A : Nat) : s.fresh.2.rd A = s.rd A := rd_congr rfl A

@[simp] theorem hostWrites_rd (p a k n : Nat) (l : List Word) (s : State) (A : Nat) : (hostWrites p a k n l s).rd A = s.rd A := by
  induction n generalizing a l s with
  | zero => rfl
  | succ n ih => unfold hostWrites; split <;> simp [ih]

@[simp] theorem hostWrite_rd (s : State) (p a : Nat) (l : List Word) (A : Nat) : (State.hostWrite s p a l).rd A = s.rd A := by
  unfold State.hostWrite; (try simp []) <;> (repeat' split) <;> simp []

@[simp] theorem hostReads_rd (p a k n left : Nat) (s : State) (A : Nat) : (hostReads p a k n left s).rd A = s.rd A := by
  induction n generalizing a left s with
  | zero => rfl
  | succ n ih => unfold hostReads; split <;> simp [ih]

@[simp] theorem hostRead_rd (s : State) (p a bytes : Nat) (A : Nat) : (State.hostRead s p a bytes).rd A = s.rd A := by
  unfold State.hostRead; (try simp []) <;> (repeat' split) <;> simp []

@[simp] theorem wrFree_rd (s : State) (a A : Nat) : (s.wrFree a).rd A = if A = a then BitVec.ofNat 32 s.fresh.1 else s.rd A := by simp [State.wrFree]

@[simp] theorem sramWrWord_rd (s : State) (a : Nat) (w : Word) (A : Nat) : (State.sramWrWord s a w).rd A = s.rd A := by
  unfold State.sramWrWord; (try simp []) <;> (repeat' split) <;> simp []

@[simp] theorem sramWrWords_rd (ws : List Word) (s : State) (a A : Nat) : (s.sramWrWords a ws).rd A = s.rd A := by
  induction ws generalizing s a with
  | nil => rfl
  | cons w ws ih => unfold State.sramWrWords; simp [ih]

@[simp] theorem talBump_rd (i n : Nat) (s : State) (A : Nat) (hA : A < 0x80004) : (talBump i n s).rd A = s.rd A := by
  have h0 : A ≠ (TAL_STATUS__OVF).addr := by intros; simp only [TAL_STATUS__OVF]; omega
  have k0 : A < 0x80104 := by omega
  unfold talBump; (try simp [h0, k0, hA]) <;> (repeat' split) <;> simp [h0, k0, hA]

@[simp] theorem talCount_rd (ev master n a : Nat) (s : State) (A : Nat) (hA : A < 0x80004) : (talCount ev master n a s).rd A = s.rd A := by
  have h0 : A ≠ (TAL_STATUS__FROZEN).addr := by intros; simp only [TAL_STATUS__FROZEN]; omega
  unfold talCount; (try simp [h0, hA]) <;> (repeat' split) <;> simp [h0, hA]

@[simp] theorem sendMsix_rd (p v : Nat) (s : State) (A : Nat) (hA : A < 0x80004) : (sendMsix p v s).rd A = s.rd A := by
  unfold sendMsix; (try simp [hA]) <;> (repeat' split) <;> simp [hA]

@[simp] theorem coalesce_rd (p v : Nat) (s : State) (A : Nat) (hA : A < 0x80004) : (coalesce p v s).rd A = s.rd A := by
  unfold coalesce; (try simp [hA]) <;> (repeat' split) <;> simp [hA]

@[simp] theorem writeRecord_rd (p src unit count : Nat) (detail : Word) (time : Nat) (s : State) (A : Nat) (hA : A < 0x79010) : (writeRecord p src unit count detail time s).rd A = s.rd A := by
  have h0 : ∀ (i : Nat), A ≠ (EV_RING_TAIL__FULL i).addr := by intros; simp only [EV_RING_TAIL__FULL]; omega
  have h1 : ∀ (i : Nat), A ≠ (EV_RING_TAIL__TAIL i).addr := by intros; simp only [EV_RING_TAIL__TAIL]; omega
  have k0 : A < 0x80004 := by omega
  unfold writeRecord; (try simp [h0, h1, k0, hA]) <;> (repeat' split) <;> simp [h0, h1, k0, hA]

@[simp] theorem mergeRecord_rd (p src unit : Nat) (detail : Word) (s : State) (A : Nat) (hA : A < 0x78000) : (mergeRecord p src unit detail s).rd A = s.rd A := by
  have h0 : ∀ (i : Nat) (j : Nat), A ≠ (EV_ROUTE__COUNT i j).addr := by intros; simp only [EV_ROUTE__COUNT]; omega
  have h1 : ∀ (i : Nat) (j : Nat), A ≠ (EV_ROUTE__PEND i j).addr := by intros; simp only [EV_ROUTE__PEND]; omega
  unfold mergeRecord; (try simp [h0, h1, hA]) <;> (repeat' split) <;> simp [h0, h1, hA]

@[simp] theorem deliver_rd (p src unit : Nat) (detail : Word) (s : State) (A : Nat) (hA : A < 0x78000) : (deliver p src unit detail s).rd A = s.rd A := by
  have k0 : A < 0x79010 := by omega
  unfold deliver; (try simp [k0, hA]) <;> (repeat' split) <;> simp [k0, hA]

@[simp] theorem raise_rd (src unit : Nat) (detail : Nat) (s : State) (A : Nat) (hA : A < 0x78000) : (raise src unit detail s).rd A = s.rd A := by
  unfold raise; (try simp [hA]) <;> (repeat' split) <;> simp [hA]

@[simp] theorem raiseFree_rd (src unit : Nat) (s : State) (A : Nat) (hA : A < 0x78000) : (raiseFree src unit s).rd A = s.rd A := by
  unfold raiseFree; (try simp [hA]) <;> (repeat' split) <;> simp [hA]

@[simp] theorem deny_rd (p addr : Nat) (bar2 : Bool) (reason : Nat) (s : State) (A : Nat) (hA : A < 0x1108) : (deny p addr bar2 reason s).rd A = s.rd A := by
  have h0 : ∀ (i : Nat), A ≠ (HP_DENY_ADDR i) := by intros; simp only [HP_DENY_ADDR]; omega
  have h1 : ∀ (i : Nat), A ≠ (HP_DENY_INFO__BAR i).addr := by intros; simp only [HP_DENY_INFO__BAR]; omega
  have h2 : ∀ (i : Nat), A ≠ (HP_DENY_INFO__COUNT i).addr := by intros; simp only [HP_DENY_INFO__COUNT]; omega
  have h3 : ∀ (i : Nat), A ≠ (HP_DENY_INFO__REASON i).addr := by intros; simp only [HP_DENY_INFO__REASON]; omega
  have h4 : ∀ (i : Nat), A ≠ (HP_DENY_INFO__VALID i).addr := by intros; simp only [HP_DENY_INFO__VALID]; omega
  have h5 : A ≠ (HP_EVENT__DENIED).addr := by intros; simp only [HP_EVENT__DENIED]; omega
  have k0 : A < 0x78000 := by omega
  have k1 : A < 0x80004 := by omega
  unfold deny; (try simp [h0, h1, h2, h3, h4, h5, k0, k1, hA]) <;> (repeat' split) <;> simp [h0, h1, h2, h3, h4, h5, k0, k1, hA]

@[simp] theorem denyW_rd (w : Writer) (addr : Nat) (bar2 : Bool) (reason : Nat) (s : State) (A : Nat) (hA : A < 0x1108) : (denyW w addr bar2 reason s).rd A = s.rd A := by
  unfold denyW; (try simp [hA]) <;> (repeat' split) <;> simp [hA]

@[simp] theorem upExec_rd (s : State) (c : Nat) (f : ExecS → ExecS) (A : Nat) : (State.upExec s c f).rd A = s.rd A := by
  unfold State.upExec; (try simp []) <;> (repeat' split) <;> simp []

@[simp] theorem stepDone_rd (c n : Nat) (s : State) (A : Nat) (hA : A < 0x8024) : (stepDone c n s).rd A = s.rd A := by
  have h0 : ∀ (i : Nat), A ≠ (HP_CTX_LEDGER1__STEPS i).addr := by intros; simp only [HP_CTX_LEDGER1__STEPS]; omega
  have k0 : A < 0x80004 := by omega
  unfold stepDone; (try simp [h0, k0, hA]) <;> (repeat' split) <;> simp [h0, k0, hA]

@[simp] theorem descDone_rd (c code detail : Nat) (s : State) (A : Nat) : (descDone c code detail s).rd A = s.rd A := by
  unfold descDone; (try simp []) <;> (repeat' split) <;> simp []

@[simp] theorem reqDone_rd (r : Option ReqS) (code detail steps : Nat) (s : State) (A : Nat) (hA : A < 0x8024) : (reqDone r code detail steps s).rd A = s.rd A := by
  unfold reqDone; (try simp [hA]) <;> (repeat' split) <;> simp [hA]

@[simp] theorem ctxAxisSafe_rd (a into : Nat) (s : State) (A : Nat) (hA : A < 0x8024) : (ctxAxisSafe a into s).rd A = s.rd A := by
  have h0 : ∀ (i : Nat), A ≠ (HP_CTX_LEDGER1__STEPS i).addr := by intros; simp only [HP_CTX_LEDGER1__STEPS]; omega
  unfold ctxAxisSafe
  refine each_rd _ _ _ _ fun c s => ?_
  (repeat' split) <;> simp [h0, hA]

@[simp] theorem vaultSet_rd (s : State) (w : Nat) (x : VWord) (A : Nat) : (State.vaultSet s w x).rd A = s.rd A := by
  unfold State.vaultSet; (try simp []) <;> (repeat' split) <;> simp []

@[simp] theorem fetchNext_rd (c : Nat) (s : State) (A : Nat) : (fetchNext c s).rd A = s.rd A := by
  unfold fetchNext; (try simp []) <;> (repeat' split) <;> simp []

@[simp] theorem fetchAll_rd (s : State) (A : Nat) : (fetchAll s).rd A = s.rd A := by
  unfold fetchAll; (try simp []) <;> (repeat' split) <;> simp []

@[simp] theorem dmaAxisSafe_rd (a : Nat) (s : State) (A : Nat) : (dmaAxisSafe a s).rd A = s.rd A := by
  unfold dmaAxisSafe; (try simp []) <;> (repeat' split) <;> simp []

@[simp] theorem unitsAxisSafe_rd (a into : Nat) (s : State) (A : Nat) (hA : A < 0x8024) : (unitsAxisSafe a into s).rd A = s.rd A := by
  unfold unitsAxisSafe; (try simp [hA]) <;> (repeat' split) <;> simp [hA]

@[simp] theorem axEvent_rd (a b detail : Nat) (s : State) (A : Nat) (hA : A < 0x100A4) : (axEvent a b detail s).rd A = s.rd A := by
  have h0 : ∀ (i : Nat), A ≠ (AX_EVENT__EVT i).addr := by intros; simp only [AX_EVENT__EVT]; omega
  have k0 : A < 0x78000 := by omega
  unfold axEvent; (try simp [h0, k0, hA]) <;> (repeat' split) <;> simp [h0, k0, hA]

@[simp] theorem tmEvent_rd (a b detail : Nat) (s : State) (A : Nat) (hA : A < 0x104A8) : (tmEvent a b detail s).rd A = s.rd A := by
  have h0 : ∀ (i : Nat), A ≠ (TM_EVENT__EVT i).addr := by intros; simp only [TM_EVENT__EVT]; omega
  have k0 : A < 0x78000 := by omega
  unfold tmEvent; (try simp [h0, k0, hA]) <;> (repeat' split) <;> simp [h0, k0, hA]

@[simp] theorem safEvent_rd (b unit detail : Nat) (s : State) (A : Nat) (hA : A < 0x48010) : (safEvent b unit detail s).rd A = s.rd A := by
  have h0 : A ≠ (SAF_EVENT__EVT).addr := by intros; simp only [SAF_EVENT__EVT]; omega
  have k0 : A < 0x78000 := by omega
  unfold safEvent; (try simp [h0, k0, hA]) <;> (repeat' split) <;> simp [h0, k0, hA]

@[simp] theorem redEvent_rd (b unit detail : Nat) (s : State) (A : Nat) (hA : A < 0x50014) : (redEvent b unit detail s).rd A = s.rd A := by
  have h0 : A ≠ (RED_EVENT__EVT).addr := by intros; simp only [RED_EVENT__EVT]; omega
  have k0 : A < 0x78000 := by omega
  unfold redEvent; (try simp [h0, k0, hA]) <;> (repeat' split) <;> simp [h0, k0, hA]

@[simp] theorem markOut_rd (ut unit : Nat) (s : State) (A : Nat) (hA : A < 0x50014) : (markOut ut unit s).rd A = s.rd A := by
  unfold markOut; (try simp [hA]) <;> (repeat' split) <;> simp [hA]

@[simp] theorem updatePower_rd (s : State) (A : Nat) (hA : A < 0x2010) : (updatePower s).rd A = s.rd A := by
  have h0 : A ≠ (PWR_STATE__STATE).addr := by intros; simp only [PWR_STATE__STATE]; omega
  unfold updatePower; (try simp [h0, hA]) <;> (repeat' split) <;> simp [h0, hA]

@[simp] theorem wake_rd (src : Nat) (s : State) (A : Nat) (hA : A < 0x201C) : (wake src s).rd A = s.rd A := by
  have h0 : A ≠ (PWR_WAKE_CAUSE__SRC).addr := by intros; simp only [PWR_WAKE_CAUSE__SRC]; omega
  have h1 : A ≠ (PWR_WAKE_CAUSE__TRIP).addr := by intros; simp only [PWR_WAKE_CAUSE__TRIP]; omega
  unfold wake; (try simp [h0, h1, hA]) <;> (repeat' split) <;> simp [h0, h1, hA]

@[simp] theorem flHead_rd (s : State) (A : Nat) (hA : A < 0x50024) : (flHead s).rd A = s.rd A := by
  have h0 : A ≠ (RED_FL_HEAD__NEXT).addr := by intros; simp only [RED_FL_HEAD__NEXT]; omega
  have h1 : A ≠ (RED_FL_HEAD__OPEN).addr := by intros; simp only [RED_FL_HEAD__OPEN]; omega
  unfold flHead; (try simp [h0, h1, hA]) <;> (repeat' split) <;> simp [h0, h1, hA]

@[simp] theorem flWrite_rd (kind cls ut detail unit : Nat) (s : State) (A : Nat) (hA : A < 0x50014) : (flWrite kind cls ut detail unit s).1.rd A = s.rd A := by
  have h0 : A ≠ (RED_FL_HEAD__SEQ).addr := by intros; simp only [RED_FL_HEAD__SEQ]; omega
  have k0 : A < 0x50024 := by omega
  unfold flWrite; (try simp [h0, k0, hA]) <;> (repeat' split) <;> simp [h0, k0, hA]

@[simp] theorem flResolve_rd (p : FlRec → Bool) (s : State) (A : Nat) (hA : A < 0x50024) : (flResolve p s).rd A = s.rd A := by
  unfold flResolve; (try simp [hA]) <;> (repeat' split) <;> simp [hA]

@[simp] theorem flSettle_rd (s : State) (A : Nat) (hA : A < 0x50024) : (flSettle s).rd A = s.rd A := by
  unfold flSettle; (try simp [hA]) <;> (repeat' split) <;> simp [hA]

@[simp] theorem piHold_rd (n : Nat) (s : State) (A : Nat) : (piHold n s).rd A = s.rd A := by
  unfold piHold; (try simp []) <;> (repeat' split) <;> simp []

@[simp] theorem piTake_rd (n : Nat) (s : State) (A : Nat) : (piTake n s).rd A = s.rd A := by
  unfold piTake; (try simp []) <;> (repeat' split) <;> simp []

@[simp] theorem posSrc_rd (a v : Nat) (s : State) (A : Nat) (hA : A < 0x10480) : (posSrc a v s).rd A = s.rd A := by
  have h0 : ∀ (i : Nat), A ≠ (TM_STATUS__POS_SRC i).addr := by intros; simp only [TM_STATUS__POS_SRC]; omega
  have k0 : A < 0x104A8 := by omega
  unfold posSrc; (try simp [h0, k0, hA]) <;> (repeat' split) <;> simp [h0, k0, hA]

@[simp] theorem trackerReset_rd (a : Nat) (s : State) (A : Nat) (hA : A < 0x10480) : (trackerReset a s).rd A = s.rd A := by
  have h0 : ∀ (i : Nat), A ≠ (TM_STATUS__ZC_LOCK i).addr := by intros; simp only [TM_STATUS__ZC_LOCK]; omega
  have h1 : ∀ (i : Nat), A ≠ (TM_STATUS__ZC_SLOW i).addr := by intros; simp only [TM_STATUS__ZC_SLOW]; omega
  unfold trackerReset; (try simp [h0, h1, hA]) <;> (repeat' split) <;> simp [h0, h1, hA]

@[simp] theorem trackStart_rd (a : Nat) (s : State) (A : Nat) (hA : A < 0x10480) : (trackStart a s).rd A = s.rd A := by
  unfold trackStart; (try simp [hA]) <;> (repeat' split) <;> simp [hA]

@[simp] theorem linkPut_rd (g b : Nat) (v : Bool) (s : State) (A : Nat) (hA : A < 0x4801C) : (linkPut g b v s).rd A = s.rd A := by
  have h0 : ∀ (i : Nat), A ≠ (SAF_LINK_STAT__GROUP i).addr := by intros; simp only [SAF_LINK_STAT__GROUP]; omega
  unfold linkPut; (try simp [h0, hA]) <;> (repeat' split) <;> simp [h0, hA]

@[simp] theorem tlimShow_rd (s : State) (A : Nat) (hA : A < 0x48040) : (tlimShow s).rd A = s.rd A := by
  have h0 : ∀ (i : Nat), A ≠ (SAF_AX_STAT__TLIM_ACT i).addr := by intros; simp only [SAF_AX_STAT__TLIM_ACT]; omega
  unfold tlimShow; (try simp [h0, hA]) <;> (repeat' split) <;> simp [h0, hA]

@[simp] theorem tlimFall_rd (g : Nat) (s : State) (A : Nat) (hA : A < 0x48010) : (tlimFall g s).rd A = s.rd A := by
  have k0 : A < 0x4801C := by omega
  have k1 : A < 0x48040 := by omega
  unfold tlimFall; (try simp [k0, k1, hA]) <;> (repeat' split) <;> simp [k0, k1, hA]

@[simp] theorem tlimRise_rd (g : Nat) (s : State) (A : Nat) : (tlimRise g s).rd A = s.rd A := by
  unfold tlimRise; (try simp []) <;> (repeat' split) <;> simp []

@[simp] theorem dschUpdate_rd (s : State) (A : Nat) : (dschUpdate s).rd A = s.rd A := by
  unfold dschUpdate; (try simp []) <;> (repeat' split) <;> simp []

@[simp] theorem injStart_rd (g : Nat) (s : State) (A : Nat) (hA : A < 0x48010) : (injStart g s).rd A = s.rd A := by
  have h0 : ∀ (i : Nat), A ≠ (SAF_AX_STAT__DIS_INJ i).addr := by intros; simp only [SAF_AX_STAT__DIS_INJ]; omega
  have h1 : ∀ (i : Nat), A ≠ (SAF_LINK_DIS__DIS_AX i).addr := by intros; simp only [SAF_LINK_DIS__DIS_AX]; omega
  have k0 : A < 0x4801C := by omega
  have k1 : A < 0x48040 := by omega
  unfold injStart; (try simp [h0, h1, k0, k1, hA]) <;> (repeat' split) <;> simp [h0, h1, k0, k1, hA]

@[simp] theorem injStop_rd (g : Nat) (s : State) (A : Nat) (hA : A < 0x4801C) : (injStop g s).rd A = s.rd A := by
  have h0 : ∀ (i : Nat), A ≠ (SAF_AX_STAT__DIS_INJ i).addr := by intros; simp only [SAF_AX_STAT__DIS_INJ]; omega
  have h1 : ∀ (i : Nat), A ≠ (SAF_LINK_DIS__DIS_AX i).addr := by intros; simp only [SAF_LINK_DIS__DIS_AX]; omega
  unfold injStop; (try simp [h0, h1, hA]) <;> (repeat' split) <;> simp [h0, h1, hA]

@[simp] theorem dschStart_rd (g : Nat) (s : State) (A : Nat) : (dschStart g s).rd A = s.rd A := by
  unfold dschStart; (try simp []) <;> (repeat' split) <;> simp []

@[simp] theorem disEnd_rd (g : Nat) (fail : Option Nat) (s : State) (A : Nat) (hA : A < 0x48010) : (disEnd g fail s).rd A = s.rd A := by
  have k0 : A < 0x4801C := by omega
  unfold disEnd; (try simp [k0, hA]) <;> (repeat' split) <;> simp [k0, hA]

@[simp] theorem disEval_rd (g : Nat) (s : State) (A : Nat) (hA : A < 0x48010) : (disEval g s).rd A = s.rd A := by
  have k0 : A < 0x4801C := by omega
  unfold disEval; (try simp [k0, hA]) <;> (repeat' split) <;> simp [k0, hA]

@[simp] theorem disAll_rd (s : State) (A : Nat) (hA : A < 0x48010) : (disAll s).rd A = s.rd A := by
  unfold disAll; (try simp [hA]) <;> (repeat' split) <;> simp [hA]

@[simp] theorem legReq_rd (m want : Nat) (s : State) (A : Nat) (hA : A < 0x20064) : (legReq m want s).rd A = s.rd A := by
  have h0 : ∀ (i : Nat), A ≠ (LEG_STATUS__LOWER i).addr := by intros; simp only [LEG_STATUS__LOWER]; omega
  have h1 : ∀ (i : Nat), A ≠ (LEG_STATUS__UPPER i).addr := by intros; simp only [LEG_STATUS__UPPER]; omega
  unfold legReq; (try simp [h0, h1, hA]) <;> (repeat' split) <;> simp [h0, h1, hA]

@[simp] theorem releaseForced_rd (a : Nat) (s : State) (A : Nat) (hA : A < 0x10000) : (releaseForced a s).rd A = s.rd A := by
  have h0 : ∀ (i : Nat), A ≠ (AX_STATE__ASC_ACTIVE i).addr := by intros; simp only [AX_STATE__ASC_ACTIVE]; omega
  have h1 : ∀ (i : Nat), A ≠ (SAF_AX_STAT__ASC_SIDE i).addr := by intros; simp only [SAF_AX_STAT__ASC_SIDE]; omega
  have k0 : A < 0x10480 := by omega
  have k1 : A < 0x20064 := by omega
  unfold releaseForced; (try simp [h0, h1, k0, k1, hA]) <;> (repeat' split) <;> simp [h0, h1, k0, k1, hA]

@[simp] theorem updatePo_rd (a : Nat) (s : State) (A : Nat) (hA : A < 0x10000) : (updatePo a s).rd A = s.rd A := by
  have h0 : ∀ (i : Nat), A ≠ (AX_STATE__PO_BLOCK i).addr := by intros; simp only [AX_STATE__PO_BLOCK]; omega
  have k0 : A < 0x104A8 := by omega
  unfold updatePo; (try simp [h0, k0, hA]) <;> (repeat' split) <;> simp [h0, k0, hA]

@[simp] theorem legStop_rd (m : Nat) (s : State) (A : Nat) (hA : A < 0x20064) : (legStop m s).rd A = s.rd A := by
  have h0 : ∀ (i : Nat), A ≠ (LEG_RESIDUE__LOWER i).addr := by intros; simp only [LEG_RESIDUE__LOWER]; omega
  have h1 : ∀ (i : Nat), A ≠ (LEG_RESIDUE__UPPER i).addr := by intros; simp only [LEG_RESIDUE__UPPER]; omega
  unfold legStop; (try simp [h0, h1, hA]) <;> (repeat' split) <;> simp [h0, h1, hA]

@[simp] theorem legsDrop_rd (a : Nat) (s : State) (A : Nat) (hA : A < 0x20064) : (legsDrop a s).rd A = s.rd A := by
  have h0 : ∀ (i : Nat), A ≠ (LEG_RESIDUE__LOWER i).addr := by intros; simp only [LEG_RESIDUE__LOWER]; omega
  have h1 : ∀ (i : Nat), A ≠ (LEG_RESIDUE__UPPER i).addr := by intros; simp only [LEG_RESIDUE__UPPER]; omega
  have h2 : ∀ (i : Nat), A ≠ (LEG_STATUS__LATE_SLOT i).addr := by intros; simp only [LEG_STATUS__LATE_SLOT]; omega
  have h3 : ∀ (i : Nat), A ≠ (LEG_STATUS__PENDING i).addr := by intros; simp only [LEG_STATUS__PENDING]; omega
  have h4 : ∀ (i : Nat), A ≠ (LEG_STATUS__STAGED i).addr := by intros; simp only [LEG_STATUS__STAGED]; omega
  unfold legsDrop; (try simp [h0, h1, h2, h3, h4, hA]) <;> (repeat' split) <;> simp [h0, h1, h2, h3, h4, hA]

@[simp] theorem axGoto_rd (a new : Nat) (s : State) (A : Nat) (hA : A < 0x2010) : (axGoto a new s).rd A = s.rd A := by
  have h0 : ∀ (i : Nat), A ≠ (AX_R0 i) := by intros; simp only [AX_R0]; omega
  have h1 : ∀ (i : Nat), A ≠ (AX_SETPOINT i) := by intros; simp only [AX_SETPOINT]; omega
  have h2 : ∀ (i : Nat), A ≠ (AX_STATE__SAFE_CAUSE i).addr := by intros; simp only [AX_STATE__SAFE_CAUSE]; omega
  have h3 : ∀ (i : Nat), A ≠ (AX_STATE__STATE i).addr := by intros; simp only [AX_STATE__STATE]; omega
  have h4 : ∀ (i : Nat), A ≠ (SAF_AX_STAT__TMON_FLT i).addr := by intros; simp only [SAF_AX_STAT__TMON_FLT]; omega
  have h5 : ∀ (i : Nat), A ≠ (SAF_AX_STAT__WIN_IGN i).addr := by intros; simp only [SAF_AX_STAT__WIN_IGN]; omega
  have k0 : A < 0x8024 := by omega
  have k1 : A < 0x10000 := by omega
  have k2 : A < 0x100A4 := by omega
  have k3 : A < 0x10480 := by omega
  have k4 : A < 0x20064 := by omega
  have k5 : A < 0x48010 := by omega
  have k6 : A < 0x50024 := by omega
  unfold axGoto; (try simp [h0, h1, h2, h3, h4, h5, k0, k1, k2, k3, k4, k5, k6, hA]) <;> (repeat' split) <;> simp [h0, h1, h2, h3, h4, h5, k0, k1, k2, k3, k4, k5, k6, hA]

@[simp] theorem applySafe_rd (a : Nat) (s : State) (A : Nat) (hA : A < 0x10000) : (applySafe a s).rd A = s.rd A := by
  have h0 : ∀ (i : Nat), A ≠ (AX_STATE__ASC_ACTIVE i).addr := by intros; simp only [AX_STATE__ASC_ACTIVE]; omega
  have h1 : ∀ (i : Nat), A ≠ (SAF_AX_STAT__ASC_SIDE i).addr := by intros; simp only [SAF_AX_STAT__ASC_SIDE]; omega
  have k0 : A < 0x10480 := by omega
  have k1 : A < 0x20064 := by omega
  unfold applySafe; (try simp [h0, h1, k0, k1, hA]) <;> (repeat' split) <;> simp [h0, h1, k0, k1, hA]

@[simp] theorem bastAbandon_rd (m : Nat) (s : State) (A : Nat) (hA : A < 0x24118) : (bastAbandon m s).rd A = s.rd A := by
  have h0 : ∀ (i : Nat) (j : Nat), A ≠ (GI_L_BRES__RUNNING i j).addr := by intros; simp only [GI_L_BRES__RUNNING]; omega
  have h1 : ∀ (i : Nat) (j : Nat), A ≠ (GI_L_BRES__VALID i j).addr := by intros; simp only [GI_L_BRES__VALID]; omega
  have h2 : ∀ (i : Nat) (j : Nat), A ≠ (bastField i j).addr := by intros; simp only [bastField, GI_L_BRES__GATE_U, GI_L_BRES__GATE_L, GI_L_BRES__PHASE, GI_L_BRES__WIND]; first | omega | (split <;> omega) | (split <;> simp only [] <;> omega) | (repeat' split) <;> simp only [] <;> omega
  unfold bastAbandon; (try simp [h0, h1, h2, hA]) <;> (repeat' split) <;> simp [h0, h1, h2, hA]

@[simp] theorem seamDue_rd (k : Nat) (s : State) (A : Nat) : (seamDue k s).rd A = s.rd A := by
  unfold seamDue; (try simp []) <;> (repeat' split) <;> simp []

@[simp] theorem closeUndo_rd (a : Nat) (s : State) (A : Nat) (hA : A < 0x100A0) : (closeUndo a s).rd A = s.rd A := by
  have h0 : ∀ (i : Nat), A ≠ (AX_R0 i) := by intros; simp only [AX_R0]; omega
  have h1 : ∀ (i : Nat), A ≠ (AX_SAMPLE_CNT i) := by intros; simp only [AX_SAMPLE_CNT]; omega
  have h2 : ∀ (i : Nat), A ≠ (AX_STATUS__SET_IN_USE i).addr := by intros; simp only [AX_STATUS__SET_IN_USE]; omega
  unfold closeUndo; (try simp [h0, h1, h2, hA]) <;> (repeat' split) <;> simp [h0, h1, h2, hA]

@[simp] theorem reqRefuse_rd (a code : Nat) (ctx : Option Nat) (s : State) (A : Nat) (hA : A < 0x10000) : (reqRefuse a code ctx s).rd A = s.rd A := by
  have h0 : ∀ (i : Nat), A ≠ (AX_STATE__LAST_REQ i).addr := by intros; simp only [AX_STATE__LAST_REQ]; omega
  unfold reqRefuse; (try simp [h0, hA]) <;> (repeat' split) <;> simp [h0, hA]

@[simp] theorem closeRefuse_rd (a code : Nat) (s : State) (A : Nat) (hA : A < 0x10000) : (closeRefuse a code s).rd A = s.rd A := by
  have h0 : ∀ (i : Nat), A ≠ (AX_STATE__CLOSING i).addr := by intros; simp only [AX_STATE__CLOSING]; omega
  have h1 : ∀ (i : Nat), A ≠ (TM_STATUS__CATCH_PHASE i).addr := by intros; simp only [TM_STATUS__CATCH_PHASE]; omega
  have k0 : A < 0x100A0 := by omega
  unfold closeRefuse; (try simp [h0, h1, k0, hA]) <;> (repeat' split) <;> simp [h0, h1, k0, hA]

@[simp] theorem toFault_rd (a : Nat) (s : State) (A : Nat) (hA : A < 0x2010) : (toFault a s).rd A = s.rd A := by
  have k0 : A < 0x8024 := by omega
  have k1 : A < 0x100A4 := by omega
  unfold toFault; (try simp [k0, k1, hA]) <;> (repeat' split) <;> simp [k0, k1, hA]

@[simp] theorem safeCore_rd (a cause : Nat) (latch : Bool) (s : State) (A : Nat) (hA : A < 0x2010) : (safeCore a cause latch s).1.rd A = s.rd A := by
  have h0 : ∀ (i : Nat), A ≠ (AX_STATE__CLOSING i).addr := by intros; simp only [AX_STATE__CLOSING]; omega
  have h1 : ∀ (i : Nat), A ≠ (AX_STATE__RST_HOLD i).addr := by intros; simp only [AX_STATE__RST_HOLD]; omega
  have h2 : ∀ (i : Nat), A ≠ (AX_STATE__SAFE_CAUSE i).addr := by intros; simp only [AX_STATE__SAFE_CAUSE]; omega
  have h3 : ∀ (i : Nat) (j : Nat), A ≠ (GI_L_BRES__STALE i j).addr := by intros; simp only [GI_L_BRES__STALE]; omega
  have h4 : ∀ (i : Nat), A ≠ (TM_STATUS__CATCH_PHASE i).addr := by intros; simp only [TM_STATUS__CATCH_PHASE]; omega
  have h5 : ∀ (i : Nat), A ≠ (TM_STATUS__CATCH_RESULT i).addr := by intros; simp only [TM_STATUS__CATCH_RESULT]; omega
  have h6 : ∀ (i : Nat), A ≠ (TM_STATUS__RECOVERING i).addr := by intros; simp only [TM_STATUS__RECOVERING]; omega
  have k0 : A < 0x8024 := by omega
  have k1 : A < 0x10000 := by omega
  have k2 : A < 0x100A0 := by omega
  have k3 : A < 0x100A4 := by omega
  have k4 : A < 0x24118 := by omega
  have k5 : A < 0x50014 := by omega
  have k6 : A < 0x50024 := by omega
  unfold safeCore; (try simp [h0, h1, h2, h3, h4, h5, h6, k0, k1, k2, k3, k4, k5, k6, hA]) <;> (repeat' split) <;> simp [h0, h1, h2, h3, h4, h5, h6, k0, k1, k2, k3, k4, k5, k6, hA]

@[simp] theorem ctxStopReq_rd (c cause : Nat) (s : State) (A : Nat) (hA : A < 0x8014) : (ctxStopReq c cause s).rd A = s.rd A := by
  have h0 : ∀ (i : Nat), A ≠ (HP_CTX_STATE__PHASE i).addr := by intros; simp only [HP_CTX_STATE__PHASE]; omega
  unfold ctxStopReq; (try simp [h0, hA]) <;> (repeat' split) <;> simp [h0, hA]

@[simp] theorem deviceSafe_rd (s : State) (A : Nat) (hA : A < 0x2010) : (deviceSafe s).rd A = s.rd A := by
  have h0 : ∀ (i : Nat), A ≠ (DMA_CH_STATE__STATE i).addr := by intros; simp only [DMA_CH_STATE__STATE]; omega
  have h1 : A ≠ (RED_STATUS__DSAFE).addr := by intros; simp only [RED_STATUS__DSAFE]; omega
  have k0 : A < 0x8014 := by omega
  have k1 : A < 0x10000 := by omega
  have k2 : A < 0x50014 := by omega
  unfold deviceSafe; (try simp [h0, h1, k0, k1, k2, hA]) <;> (repeat' split) <;> simp [h0, h1, k0, k1, k2, hA]

@[simp] theorem faultRecord_rd (kind cls ut detail unit : Nat) (s : State) (A : Nat) (hA : A < 0x2010) : (faultRecord kind cls ut detail unit s).rd A = s.rd A := by
  have k0 : A < 0x50014 := by omega
  unfold faultRecord; (try simp [k0, hA]) <;> (repeat' split) <;> simp [k0, hA]

@[simp] theorem unitRecord_rd (kind ut detail unit : Nat) (s : State) (A : Nat) (hA : A < 0x2010) : (unitRecord kind ut detail unit s).rd A = s.rd A := by
  have k0 : A < 0x50024 := by omega
  unfold unitRecord; (try simp [k0, hA]) <;> (repeat' split) <;> simp [k0, hA]

@[simp] theorem unitBack_rd (ut unit : Nat) (s : State) (A : Nat) (hA : A < 0x50024) : (unitBack ut unit s).rd A = s.rd A := by
  unfold unitBack; (try simp [hA]) <;> (repeat' split) <;> simp [hA]

@[simp] theorem enterSafe_rd (a cause : Nat) (latch : Bool) (s : State) (A : Nat) (hA : A < 0x2010) : (enterSafe a cause latch s).rd A = s.rd A := by
  unfold enterSafe; (try simp [hA]) <;> (repeat' split) <;> simp [hA]

@[simp] theorem safeFor_rd (a w : Nat) (latch : Bool) (s : State) (A : Nat) (hA : A < 0x2010) : (safeFor a w latch s).rd A = s.rd A := by
  unfold safeFor; (try simp [hA]) <;> (repeat' split) <;> simp [hA]

@[simp] theorem safeEstablished_rd (a : Nat) (s : State) (A : Nat) (hA : A < 0x2010) : (safeEstablished a s).rd A = s.rd A := by
  have k0 : A < 0x50024 := by omega
  unfold safeEstablished; (try simp [k0, hA]) <;> (repeat' split) <;> simp [k0, hA]

@[simp] theorem updateSafHold_rd (a : Nat) (s : State) (A : Nat) (hA : A < 0x10000) : (updateSafHold a s).rd A = s.rd A := by
  have h0 : ∀ (i : Nat), A ≠ (AX_STATE__SAF_HOLD i).addr := by intros; simp only [AX_STATE__SAF_HOLD]; omega
  unfold updateSafHold; (try simp [h0, hA]) <;> (repeat' split) <;> simp [h0, hA]

@[simp] theorem bankWr_rd (a sel w : Nat) (v : Word) (s : State) (A : Nat) (hA : A < 0x100A0) : (bankWr a sel w v s).rd A = s.rd A := by
  have h0 : ∀ (i : Nat), A ≠ (AX_STATUS__PARTIAL i).addr := by intros; simp only [AX_STATUS__PARTIAL]; omega
  unfold bankWr; (try simp [h0, hA]) <;> (repeat' split) <;> simp [h0, hA]

@[simp] theorem bankPartial_rd (a sel : Nat) (s : State) (A : Nat) (hA : A < 0x100A0) : (bankPartial a sel s).rd A = s.rd A := by
  have h0 : ∀ (i : Nat), A ≠ (AX_STATUS__PARTIAL i).addr := by intros; simp only [AX_STATUS__PARTIAL]; omega
  unfold bankPartial; (try simp [h0, hA]) <;> (repeat' split) <;> simp [h0, hA]

@[simp] theorem bankCut_rd (l : List Word) (blocks : Nat) (s : State) (A : Nat) (hA : A < 0x100A0) : (bankCut l blocks s).rd A = s.rd A := by
  unfold bankCut; (try simp [hA]) <;> (repeat' split) <;> simp [hA]

@[simp] theorem bankLoadEnd_rd (l : List Word) (blocks code : Nat) (s : State) (A : Nat) (hA : A < 0x100A0) : (bankLoadEnd l blocks code s).rd A = s.rd A := by
  unfold bankLoadEnd; (try simp [hA]) <;> (repeat' split) <;> simp [hA]

@[simp] theorem runCheck_rd (a set : Nat) (s : State) (A : Nat) (hA : A < 0x100A0) : (runCheck a set s).1.rd A = s.rd A := by
  have h0 : ∀ (i : Nat), A ≠ (AX_CHECK i) := by intros; simp only [AX_CHECK]; omega
  have h1 : ∀ (i : Nat), A ≠ (AX_STATUS__CHK_RESULT i).addr := by intros; simp only [AX_STATUS__CHK_RESULT]; omega
  have h2 : ∀ (i : Nat), A ≠ (AX_STATUS__CHK_VALID i).addr := by intros; simp only [AX_STATUS__CHK_VALID]; omega
  have k0 : A < 0x100A4 := by omega
  unfold runCheck; (try simp [h0, h1, h2, k0, hA]) <;> (repeat' split) <;> simp [h0, h1, h2, k0, hA]

@[simp] theorem cfgEffect_rd (m : Nat) (s : State) (A : Nat) (hA : A < 0x2007C) : (cfgEffect m s).rd A = s.rd A := by
  have h0 : ∀ (i : Nat), A ≠ (LEG_RESIDUE__LOWER i).addr := by intros; simp only [LEG_RESIDUE__LOWER]; omega
  have h1 : ∀ (i : Nat), A ≠ (LEG_RESIDUE__UPPER i).addr := by intros; simp only [LEG_RESIDUE__UPPER]; omega
  unfold cfgEffect; (try simp [h0, h1, hA]) <;> (repeat' split) <;> simp [h0, h1, hA]

@[simp] theorem cntSet_rd (m : Nat) (v : Nat × Bool) (s : State) (A : Nat) (hA : A < 0x20060) : (cntSet m v s).rd A = s.rd A := by
  have h0 : ∀ (i : Nat), A ≠ (LEG_CNT__C i).addr := by intros; simp only [LEG_CNT__C]; omega
  have h1 : ∀ (i : Nat), A ≠ (LEG_STATUS__DIR i).addr := by intros; simp only [LEG_STATUS__DIR]; omega
  unfold cntSet; (try simp [h0, h1, hA]) <;> (repeat' split) <;> simp [h0, h1, hA]

@[simp] theorem cntAdvance_rd (m q : Nat) (s : State) (A : Nat) : (cntAdvance m q s).rd A = s.rd A := by
  unfold cntAdvance; (try simp []) <;> (repeat' split) <;> simp []

@[simp] theorem legNow_rd (m : Nat) (one : Bool) (s : State) (A : Nat) : (legNow m one s).rd A = s.rd A := by
  unfold legNow; (try simp []) <;> (repeat' split) <;> simp []

@[simp] theorem legFlags_rd (m : Nat) (s : State) (A : Nat) (hA : A < 0x20064) : (legFlags m s).rd A = s.rd A := by
  have h0 : ∀ (i : Nat), A ≠ (LEG_STATUS__LATE_SLOT i).addr := by intros; simp only [LEG_STATUS__LATE_SLOT]; omega
  have h1 : ∀ (i : Nat), A ≠ (LEG_STATUS__PENDING i).addr := by intros; simp only [LEG_STATUS__PENDING]; omega
  have h2 : ∀ (i : Nat), A ≠ (LEG_STATUS__STAGED i).addr := by intros; simp only [LEG_STATUS__STAGED]; omega
  unfold legFlags; (try simp [h0, h1, h2, hA]) <;> (repeat' split) <;> simp [h0, h1, h2, hA]

@[simp] theorem setSend_rd (m : Nat) (loop : Bool) (v : SetS) (s : State) (A : Nat) : (setSend m loop v s).rd A = s.rd A := by
  unfold setSend; (try simp []) <;> (repeat' split) <;> simp []

@[simp] theorem shadowWrite_rd (m r v : Nat) (s : State) (A : Nat) (hA : A < 0x20008) : (shadowWrite m r v s).rd A = s.rd A := by
  have h0 : A ≠ LEG_PRD m + 4 * r := by simp only [LEG_PRD]; omega
  have k0 : A < 0x20064 := by omega
  unfold shadowWrite; simp only []; split <;> simp [h0, k0]

@[simp] theorem legCommit_rd (m : Nat) (s : State) (A : Nat) (hA : A < 0x20064) : (legCommit m s).rd A = s.rd A := by
  unfold legCommit; (try simp [hA]) <;> (repeat' split) <;> simp [hA]

@[simp] theorem legDiscard_rd (m : Nat) (s : State) (A : Nat) (hA : A < 0x20064) : (legDiscard m s).rd A = s.rd A := by
  unfold legDiscard; (try simp [hA]) <;> (repeat' split) <;> simp [hA]

@[simp] theorem reload_rd (m : Nat) (mid : Bool) (s : State) (A : Nat) (hA : A < 0x20064) : (reload m mid s).rd A = s.rd A := by
  have h0 : ∀ (i : Nat) (j : Nat), A ≠ (LEG_ACT_CMP__VALUE i j).addr := by intros; simp only [LEG_ACT_CMP__VALUE]; omega
  have h1 : ∀ (i : Nat), A ≠ (LEG_ACT_PRD__VALUE i).addr := by intros; simp only [LEG_ACT_PRD__VALUE]; omega
  unfold reload; (try simp [h0, h1, hA]) <;> (repeat' split) <;> simp [h0, h1, hA]

@[simp] theorem loopDuty_rd (a j : Nat) (u : Vec) (s : State) (A : Nat) (hA : A < 0x2000C) : (loopDuty a j u s).rd A = s.rd A := by
  have h0 : ∀ (i : Nat) (j : Nat), A ≠ (LEG_CMP__CMP i j).addr := by intros; simp only [LEG_CMP__CMP]; omega
  unfold loopDuty; (try simp [h0, hA]) <;> (repeat' split) <;> simp [h0, hA]

@[simp] theorem legApply_rd (m : Nat) (s : State) (A : Nat) (hA : A < 0x20064) : (legApply m s).rd A = s.rd A := by
  unfold legApply; (try simp [hA]) <;> (repeat' split) <;> simp [hA]

@[simp] theorem pulseAltered_rd (m ch : Nat) (s : State) (A : Nat) (hA : A < 0x20080) : (pulseAltered m ch s).rd A = s.rd A := by
  have h0 : ∀ (i : Nat), A ≠ (LEG_COUNTS__MINP i).addr := by intros; simp only [LEG_COUNTS__MINP]; omega
  have h1 : ∀ (i : Nat), A ≠ (LEG_EVENT__MINP i).addr := by intros; simp only [LEG_EVENT__MINP]; omega
  have k0 : A < 0x78000 := by omega
  unfold pulseAltered; (try simp [h0, h1, k0, hA]) <;> (repeat' split) <;> simp [h0, h1, k0, hA]

@[simp] theorem pulseIssue_rd (m : Nat) (h : Bool) (dt tEnd : Nat) (ext : Bool) (s : State) (A : Nat) (hA : A < 0x20064) : (pulseIssue m h dt tEnd ext s).rd A = s.rd A := by
  unfold pulseIssue; (try simp [hA]) <;> (repeat' split) <;> simp [hA]

@[simp] theorem pulseJudge_rd (m : Nat) (src : Bool) (dt : Nat) (w : Option Nat) (s : State) (A : Nat) (hA : A < 0x20064) : (pulseJudge m src dt w s).rd A = s.rd A := by
  have h0 : ∀ (i : Nat) (j : Nat), A ≠ (residue i j).addr := by intros; simp only [residue, LEG_RESIDUE__UPPER, LEG_RESIDUE__LOWER]; first | omega | (split <;> omega) | (split <;> simp only [] <;> omega) | (repeat' split) <;> simp only [] <;> omega
  have k0 : A < 0x20080 := by omega
  unfold pulseJudge; (try simp [h0, k0, hA]) <;> (repeat' split) <;> simp [h0, k0, hA]

@[simp] theorem legEdge_rd (m : Nat) (s : State) (A : Nat) (hA : A < 0x20064) : (legEdge m s).rd A = s.rd A := by
  have k0 : A < 0x20080 := by omega
  unfold legEdge; (try simp [k0, hA]) <;> (repeat' split) <;> simp [k0, hA]

@[simp] theorem maskApply_rd (m old : Nat) (one : Bool) (s : State) (A : Nat) (hA : A < 0x20064) : (maskApply m old one s).rd A = s.rd A := by
  unfold maskApply; (try simp [hA]) <;> (repeat' split) <;> simp [hA]

@[simp] theorem trgFired_rd (m t : Nat) (s : State) (A : Nat) : (trgFired m t s).rd A = s.rd A := by
  unfold trgFired; (try simp []) <;> (repeat' split) <;> simp []

@[simp] theorem triggers_rd (m : Nat) (e : Option CntEvent) (s : State) (A : Nat) : (triggers m e s).rd A = s.rd A := by
  unfold triggers; (try simp []) <;> (repeat' split) <;> simp []

@[simp] theorem counterStart_rd (m : Nat) (s : State) (A : Nat) (hA : A < 0x20060) : (counterStart m s).rd A = s.rd A := by
  have h0 : ∀ (i : Nat), A ≠ (LEG_STATUS__RUNNING i).addr := by intros; simp only [LEG_STATUS__RUNNING]; omega
  have k0 : A < 0x20064 := by omega
  have k1 : A < 0x2007C := by omega
  unfold counterStart; (try simp [h0, k0, k1, hA]) <;> (repeat' split) <;> simp [h0, k0, k1, hA]

@[simp] theorem counterUpdate_rd (m : Nat) (s : State) (A : Nat) (hA : A < 0x20060) : (counterUpdate m s).rd A = s.rd A := by
  have h0 : ∀ (i : Nat), A ≠ (LEG_STATUS__RUNNING i).addr := by intros; simp only [LEG_STATUS__RUNNING]; omega
  have k0 : A < 0x20064 := by omega
  unfold counterUpdate; (try simp [h0, k0, hA]) <;> (repeat' split) <;> simp [h0, k0, hA]

@[simp] theorem counterPllB_rd (s : State) (A : Nat) (hA : A < 0x20060) : (counterPllB s).rd A = s.rd A := by
  have k0 : A < 0x20064 := by omega
  unfold counterPllB
  refine each_rd _ _ _ _ fun m s => ?_
  simp only []
  rw [counterUpdate_rd _ _ _ hA, when_rd _ _ _ _ fun s => ?_]
  rw [legFlags_rd _ _ _ k0]; simp

@[simp] theorem switchStart_rd (m : Nat) (s : State) (A : Nat) (hA : A < 0x20064) : (switchStart m s).rd A = s.rd A := by
  unfold switchStart; (try simp [hA]) <;> (repeat' split) <;> simp [hA]

@[simp] theorem counterClock_rd (m : Nat) (e : Option CntEvent) (s : State) (A : Nat) (hA : A < 0x20064) : (counterClock m e s).rd A = s.rd A := by
  unfold counterClock; (try simp [hA]) <;> (repeat' split) <;> simp [hA]

@[simp] theorem counterReload_rd (m : Nat) (mid : Bool) (s : State) (A : Nat) (hA : A < 0x20060) : (counterReload m mid s).rd A = s.rd A := by
  have h0 : ∀ (i : Nat), A ≠ (LEG_RESIDUE__LOWER i).addr := by intros; simp only [LEG_RESIDUE__LOWER]; omega
  have h1 : ∀ (i : Nat), A ≠ (LEG_RESIDUE__UPPER i).addr := by intros; simp only [LEG_RESIDUE__UPPER]; omega
  have k0 : A < 0x20064 := by omega
  have k1 : A < 0x2007C := by omega
  unfold counterReload; (try simp [h0, h1, k0, k1, hA]) <;> (repeat' split) <;> simp [h0, h1, k0, k1, hA]

@[simp] theorem followerLoad_rd (f c : Nat) (down : Bool) (s : State) (A : Nat) (hA : A < 0x20060) : (followerLoad f c down s).rd A = s.rd A := by
  have h0 : ∀ (i : Nat), A ≠ (LEG_COUNTS__SLIPS i).addr := by intros; simp only [LEG_COUNTS__SLIPS]; omega
  have h1 : ∀ (i : Nat), A ≠ (LEG_EVENT__SYNC_SLIP i).addr := by intros; simp only [LEG_EVENT__SYNC_SLIP]; omega
  have k0 : A < 0x20064 := by omega
  have k1 : A < 0x78000 := by omega
  unfold followerLoad; (try simp [h0, h1, k0, k1, hA]) <;> (repeat' split) <;> simp [h0, h1, k0, k1, hA]

@[simp] theorem legsClose_rd (a : Nat) (s : State) (A : Nat) (hA : A < 0x20004) : (legsClose a s).rd A = s.rd A := by
  have h0 : ∀ (i : Nat), A ≠ (LEG_CTRL__CNT_EN i).addr := by intros; simp only [LEG_CTRL__CNT_EN]; omega
  have h1 : ∀ (i : Nat), A ≠ (LEG_STATUS__MASK_STEP i).addr := by intros; simp only [LEG_STATUS__MASK_STEP]; omega
  have k0 : A < 0x20060 := by omega
  have k1 : A < 0x20064 := by omega
  unfold legsClose; (try simp [h0, h1, k0, k1, hA]) <;> (repeat' split) <;> simp [h0, h1, k0, k1, hA]

@[simp] theorem convClock_rd (m : Nat) (s : State) (A : Nat) : (convClock m s).rd A = s.rd A := by
  unfold convClock; (try simp []) <;> (repeat' split) <;> simp []

@[simp] theorem chopConversion_rd (k : Nat) (code : Int) (s : State) (A : Nat) (hA : A < 0x20064) : (chopConversion k code s).rd A = s.rd A := by
  have h0 : ∀ (i : Nat), A ≠ (LEG_CHOP_CNT__CONSEC i).addr := by intros; simp only [LEG_CHOP_CNT__CONSEC]; omega
  have h1 : ∀ (i : Nat), A ≠ (LEG_STATUS__LATCH i).addr := by intros; simp only [LEG_STATUS__LATCH]; omega
  unfold chopConversion; (try simp [h0, h1, hA]) <;> (repeat' split) <;> simp [h0, h1, hA]

@[simp] theorem chopNocur_rd (m : Nat) (s : State) (A : Nat) (hA : A < 0x20084) : (chopNocur m s).rd A = s.rd A := by
  have h0 : ∀ (i : Nat), A ≠ (LEG_CHOP_CNT__CONSEC i).addr := by intros; simp only [LEG_CHOP_CNT__CONSEC]; omega
  have h1 : ∀ (i : Nat), A ≠ (LEG_CHOP_CNT__TOTAL i).addr := by intros; simp only [LEG_CHOP_CNT__TOTAL]; omega
  have h2 : ∀ (i : Nat), A ≠ (LEG_EVENT__CHOP_NOCUR i).addr := by intros; simp only [LEG_EVENT__CHOP_NOCUR]; omega
  have k0 : A < 0x78000 := by omega
  unfold chopNocur; (try simp [h0, h1, h2, k0, hA]) <;> (repeat' split) <;> simp [h0, h1, h2, k0, hA]

@[simp] theorem carSample_rd (a : Nat) (s : State) (A : Nat) : (carSample a s).rd A = s.rd A := by
  unfold carSample; (try simp []) <;> (repeat' split) <;> simp []

@[simp] theorem estimate_rd (a : Nat) (s : State) (A : Nat) (hA : A < 0x10480) : (estimate a s).rd A = s.rd A := by
  have h0 : ∀ (i : Nat), A ≠ (TM_ANGLE__ROTOR i).addr := by intros; simp only [TM_ANGLE__ROTOR]; omega
  have h1 : ∀ (i : Nat), A ≠ (TM_ANGLE__STATOR i).addr := by intros; simp only [TM_ANGLE__STATOR]; omega
  have h2 : ∀ (i : Nat), A ≠ (TM_STATUS__FLUX_SAT i).addr := by intros; simp only [TM_STATUS__FLUX_SAT]; omega
  have h3 : ∀ (i : Nat), A ≠ (TM_STATUS__FLUX_VALID i).addr := by intros; simp only [TM_STATUS__FLUX_VALID]; omega
  have h4 : ∀ (i : Nat), A ≠ (TM_STATUS__SECTOR i).addr := by intros; simp only [TM_STATUS__SECTOR]; omega
  have h5 : ∀ (i : Nat), A ≠ (TM_STATUS__SPD_VALID i).addr := by intros; simp only [TM_STATUS__SPD_VALID]; omega
  unfold estimate; (try simp [h0, h1, h2, h3, h4, h5, hA]) <;> (repeat' split) <;> simp [h0, h1, h2, h3, h4, h5, hA]

@[simp] theorem driveVec_rd (a v : Nat) (s : State) (A : Nat) (hA : A < 0x20064) : (driveVec a v s).rd A = s.rd A := by
  unfold driveVec; (try simp [hA]) <;> (repeat' split) <;> simp [hA]

@[simp] theorem gatesOff_rd (a : Nat) (s : State) (A : Nat) (hA : A < 0x20064) : (gatesOff a s).rd A = s.rd A := by
  unfold gatesOff; (try simp [hA]) <;> (repeat' split) <;> simp [hA]

@[simp] theorem startSwitching_rd (a : Nat) (s : State) (A : Nat) (hA : A < 0x104A4) : (startSwitching a s).rd A = s.rd A := by
  have h0 : ∀ (i : Nat), A ≠ (TM_COMMUT i) := by intros; simp only [TM_COMMUT]; omega
  unfold startSwitching; (try simp [h0, hA]) <;> (repeat' split) <;> simp [h0, hA]

@[simp] theorem decide100_rd (a : Nat) (s : State) (A : Nat) (hA : A < 0x10480) : (decide100 a s).rd A = s.rd A := by
  have h0 : ∀ (i : Nat), A ≠ (TM_COMMUT i) := by intros; simp only [TM_COMMUT]; omega
  have h1 : ∀ (i : Nat), A ≠ (TM_COUNTS__LIMITED_SAMPLES i).addr := by intros; simp only [TM_COUNTS__LIMITED_SAMPLES]; omega
  have h2 : ∀ (i : Nat), A ≠ (TM_STATUS__SW_LIMITED i).addr := by intros; simp only [TM_STATUS__SW_LIMITED]; omega
  have k0 : A < 0x104A8 := by omega
  have k1 : A < 0x20064 := by omega
  unfold decide100; (try simp [h0, h1, h2, k0, k1, hA]) <;> (repeat' split) <;> simp [h0, h1, h2, k0, k1, hA]

@[simp] theorem pulseOff_rd (a : Nat) (s : State) (A : Nat) (hA : A < 0x2010) : (pulseOff a s).rd A = s.rd A := by
  have h0 : ∀ (i : Nat), A ≠ (TM_STATUS__ZC_LOCK i).addr := by intros; simp only [TM_STATUS__ZC_LOCK]; omega
  have h1 : ∀ (i : Nat), A ≠ (TM_STATUS__ZC_REV i).addr := by intros; simp only [TM_STATUS__ZC_REV]; omega
  have h2 : ∀ (i : Nat), A ≠ (TM_STATUS__ZC_SLOW i).addr := by intros; simp only [TM_STATUS__ZC_SLOW]; omega
  have h3 : ∀ (i : Nat), A ≠ (TM_ZC_ANGLE__ANGLE i).addr := by intros; simp only [TM_ZC_ANGLE__ANGLE]; omega
  have h4 : ∀ (i : Nat), A ≠ (TM_ZC_ANGLE__INDEX i).addr := by intros; simp only [TM_ZC_ANGLE__INDEX]; omega
  have h5 : ∀ (i : Nat), A ≠ (TM_ZC_SPEED__SPEED i).addr := by intros; simp only [TM_ZC_SPEED__SPEED]; omega
  have h6 : ∀ (i : Nat), A ≠ (TM_ZC_TIME i) := by intros; simp only [TM_ZC_TIME]; omega
  have k0 : A < 0x10480 := by omega
  have k1 : A < 0x20064 := by omega
  unfold pulseOff; (try simp [h0, h1, h2, h3, h4, h5, h6, k0, k1, hA]) <;> (repeat' split) <;> simp [h0, h1, h2, h3, h4, h5, h6, k0, k1, hA]

@[simp] theorem coastDecision_rd (a : Nat) (s : State) (A : Nat) (hA : A < 0x2010) : (coastDecision a s).rd A = s.rd A := by
  have h0 : ∀ (i : Nat), A ≠ (AX_STATE__LAST_REQ i).addr := by intros; simp only [AX_STATE__LAST_REQ]; omega
  have k0 : A < 0x8024 := by omega
  unfold coastDecision; (try simp [h0, k0, hA]) <;> (repeat' split) <;> simp [h0, k0, hA]

@[simp] theorem catchSwitch_rd (a : Nat) (s : State) (A : Nat) (hA : A < 0x10480) : (catchSwitch a s).rd A = s.rd A := by
  have h0 : ∀ (i : Nat), A ≠ (TM_STATUS__CATCH_PHASE i).addr := by intros; simp only [TM_STATUS__CATCH_PHASE]; omega
  have k0 : A < 0x104A4 := by omega
  unfold catchSwitch; (try simp [h0, k0, hA]) <;> (repeat' split) <;> simp [h0, k0, hA]

@[simp] theorem tmLatch_rd (a : Nat) (s : State) (A : Nat) : (tmLatch a s).rd A = s.rd A := by
  unfold tmLatch; (try simp []) <;> (repeat' split) <;> simp []

@[simp] theorem driftCorrect_rd (a : Nat) (s : State) (A : Nat) (hA : A < 0x10480) : (driftCorrect a s).rd A = s.rd A := by
  have h0 : ∀ (i : Nat), A ≠ (TM_STATUS__FLUX_SAT i).addr := by intros; simp only [TM_STATUS__FLUX_SAT]; omega
  unfold driftCorrect; (try simp [h0, hA]) <;> (repeat' split) <;> simp [h0, hA]

@[simp] theorem posSourceStep_rd (a : Nat) (s : State) (A : Nat) (hA : A < 0x10480) : (posSourceStep a s).rd A = s.rd A := by
  unfold posSourceStep; (try simp [hA]) <;> (repeat' split) <;> simp [hA]

@[simp] theorem lossReact_rd (a back : Nat) (s : State) (A : Nat) (hA : A < 0x10000) : (lossReact a back s).rd A = s.rd A := by
  have h0 : ∀ (i : Nat), A ≠ (AX_R0 i) := by intros; simp only [AX_R0]; omega
  have h1 : ∀ (i : Nat), A ≠ (TM_STATUS__LOSS_ACTION i).addr := by intros; simp only [TM_STATUS__LOSS_ACTION]; omega
  have h2 : ∀ (i : Nat), A ≠ (TM_STATUS__RECOVERING i).addr := by intros; simp only [TM_STATUS__RECOVERING]; omega
  have k0 : A < 0x104A8 := by omega
  unfold lossReact; (try simp [h0, h1, h2, k0, hA]) <;> (repeat' split) <;> simp [h0, h1, h2, k0, hA]

@[simp] theorem lossStep_rd (a : Nat) (s : State) (A : Nat) (hA : A < 0x10000) : (lossStep a s).rd A = s.rd A := by
  have k0 : A < 0x104A8 := by omega
  unfold lossStep; (try simp [k0, hA]) <;> (repeat' split) <;> simp [k0, hA]

@[simp] theorem tmSample_rd (a : Nat) (s : State) (A : Nat) (hA : A < 0x10000) : (tmSample a s).rd A = s.rd A := by
  have h0 : ∀ (i : Nat), A ≠ (TM_FLUXMAG__VALUE i).addr := by intros; simp only [TM_FLUXMAG__VALUE]; omega
  have h1 : ∀ (i : Nat), A ≠ (TM_SPEED__VALUE i).addr := by intros; simp only [TM_SPEED__VALUE]; omega
  have h2 : ∀ (i : Nat), A ≠ (TM_STATUS__SPD_VALID i).addr := by intros; simp only [TM_STATUS__SPD_VALID]; omega
  have h3 : ∀ (i : Nat), A ≠ (TM_TORQUE__VALUE i).addr := by intros; simp only [TM_TORQUE__VALUE]; omega
  have k0 : A < 0x10480 := by omega
  unfold tmSample; (try simp [h0, h1, h2, h3, k0, hA]) <;> (repeat' split) <;> simp [h0, h1, h2, h3, k0, hA]

@[simp] theorem watchStep_rd (a : Nat) (crossing : Bool) (s : State) (A : Nat) (hA : A < 0x201C) : (watchStep a crossing s).rd A = s.rd A := by
  have k0 : A < 0x104A8 := by omega
  unfold watchStep; (try simp [k0, hA]) <;> (repeat' split) <;> simp [k0, hA]

@[simp] theorem zcAccept_rd (a i n : Nat) (rev : Bool) (ivals : List Nat) (s : State) (A : Nat) (hA : A < 0x10484) : (zcAccept a i n rev ivals s).rd A = s.rd A := by
  have h0 : ∀ (i : Nat), A ≠ (TM_ZC_ANGLE__ANGLE i).addr := by intros; simp only [TM_ZC_ANGLE__ANGLE]; omega
  have h1 : ∀ (i : Nat), A ≠ (TM_ZC_ANGLE__INDEX i).addr := by intros; simp only [TM_ZC_ANGLE__INDEX]; omega
  have h2 : ∀ (i : Nat), A ≠ (TM_ZC_SPEED__SPEED i).addr := by intros; simp only [TM_ZC_SPEED__SPEED]; omega
  have h3 : ∀ (i : Nat), A ≠ (TM_ZC_TIME i) := by intros; simp only [TM_ZC_TIME]; omega
  unfold zcAccept; (try simp [h0, h1, h2, h3, hA]) <;> (repeat' split) <;> simp [h0, h1, h2, h3, hA]

@[simp] theorem zcReject_rd (a : Nat) (s : State) (A : Nat) (hA : A < 0x10000) : (zcReject a s).rd A = s.rd A := by
  have h0 : ∀ (i : Nat), A ≠ (TM_STATUS__ZC_SLOW i).addr := by intros; simp only [TM_STATUS__ZC_SLOW]; omega
  have k0 : A < 0x10480 := by omega
  have k1 : A < 0x104A8 := by omega
  unfold zcReject; (try simp [h0, k0, k1, hA]) <;> (repeat' split) <;> simp [h0, k0, k1, hA]

@[simp] theorem seedFlux_rd (a th : Nat) (s : State) (A : Nat) (hA : A < 0x10480) : (seedFlux a th s).rd A = s.rd A := by
  have h0 : ∀ (i : Nat), A ≠ (TM_STATUS__FLUX_SAT i).addr := by intros; simp only [TM_STATUS__FLUX_SAT]; omega
  have h1 : ∀ (i : Nat), A ≠ (TM_STATUS__SPD_VALID i).addr := by intros; simp only [TM_STATUS__SPD_VALID]; omega
  unfold seedFlux; (try simp [h0, h1, hA]) <;> (repeat' split) <;> simp [h0, h1, hA]

@[simp] theorem catchStart_rd (a : Nat) (s : State) (A : Nat) (hA : A < 0x10480) : (catchStart a s).rd A = s.rd A := by
  have h0 : ∀ (i : Nat), A ≠ (TM_STATUS__CATCH_PHASE i).addr := by intros; simp only [TM_STATUS__CATCH_PHASE]; omega
  unfold catchStart; (try simp [h0, hA]) <;> (repeat' split) <;> simp [h0, hA]

@[simp] theorem catchBegin_rd (a : Nat) (s : State) (A : Nat) (hA : A < 0x10000) : (catchBegin a s).rd A = s.rd A := by
  have h0 : ∀ (i : Nat), A ≠ (AX_STATE__CLOSING i).addr := by intros; simp only [AX_STATE__CLOSING]; omega
  have h1 : ∀ (i : Nat), A ≠ (TM_STATUS__CATCH_PHASE i).addr := by intros; simp only [TM_STATUS__CATCH_PHASE]; omega
  unfold catchBegin; (try simp [h0, h1, hA]) <;> (repeat' split) <;> simp [h0, h1, hA]

@[simp] theorem catchTrigger_rd (a : Nat) (s : State) (A : Nat) (hA : A < 0x10000) : (catchTrigger a s).rd A = s.rd A := by
  unfold catchTrigger; (try simp [hA]) <;> (repeat' split) <;> simp [hA]

@[simp] theorem catchFail_rd (a code detail : Nat) (s : State) (A : Nat) (hA : A < 0x8024) : (catchFail a code detail s).rd A = s.rd A := by
  have h0 : ∀ (i : Nat), A ≠ (AX_STATE__CLOSING i).addr := by intros; simp only [AX_STATE__CLOSING]; omega
  have h1 : ∀ (i : Nat), A ≠ (TM_STATUS__CATCH_PHASE i).addr := by intros; simp only [TM_STATUS__CATCH_PHASE]; omega
  unfold catchFail; (try simp [h0, h1, hA]) <;> (repeat' split) <;> simp [h0, h1, hA]

@[simp] theorem reqAccept_rd (a target : Nat) (ctx : Option Nat) (s : State) (A : Nat) (hA : A < 0x8024) : (reqAccept a target ctx s).rd A = s.rd A := by
  have h0 : ∀ (i : Nat), A ≠ (AX_STATE__LAST_REQ i).addr := by intros; simp only [AX_STATE__LAST_REQ]; omega
  unfold reqAccept; (try simp [h0, hA]) <;> (repeat' split) <;> simp [h0, hA]

@[simp] theorem closeBegin_rd (a : Nat) (s : State) (A : Nat) (hA : A < 0x10000) : (closeBegin a s).rd A = s.rd A := by
  have h0 : ∀ (i : Nat), A ≠ (AX_STATE__CLOSING i).addr := by intros; simp only [AX_STATE__CLOSING]; omega
  unfold closeBegin; (try simp [h0, hA]) <;> (repeat' split) <;> simp [h0, hA]

@[simp] theorem leaveSafe_rd (a new : Nat) (s : State) (A : Nat) (hA : A < 0x2010) : (leaveSafe a new s).rd A = s.rd A := by
  have h0 : ∀ (i : Nat), A ≠ (AX_STATE__ASC_ACTIVE i).addr := by intros; simp only [AX_STATE__ASC_ACTIVE]; omega
  have h1 : ∀ (i : Nat), A ≠ (SAF_AX_STAT__ASC_SIDE i).addr := by intros; simp only [SAF_AX_STAT__ASC_SIDE]; omega
  have k0 : A < 0x10480 := by omega
  have k1 : A < 0x20064 := by omega
  unfold leaveSafe; (try simp [h0, h1, k0, k1, hA]) <;> (repeat' split) <;> simp [h0, h1, k0, k1, hA]

@[simp] theorem reqLeaveSafe_rd (a target : Nat) (ctx : Option Nat) (s : State) (A : Nat) (hA : A < 0x2010) : (reqLeaveSafe a target ctx s).rd A = s.rd A := by
  have k0 : A < 0x8024 := by omega
  have k1 : A < 0x10000 := by omega
  unfold reqLeaveSafe; (try simp [k0, k1, hA]) <;> (repeat' split) <;> simp [k0, k1, hA]

@[simp] theorem reqLeaveOff_rd (a target : Nat) (ctx : Option Nat) (s : State) (A : Nat) (hA : A < 0x2010) : (reqLeaveOff a target ctx s).rd A = s.rd A := by
  have k0 : A < 0x8024 := by omega
  have k1 : A < 0x10000 := by omega
  have k2 : A < 0x10480 := by omega
  unfold reqLeaveOff; (try simp [k0, k1, k2, hA]) <;> (repeat' split) <;> simp [k0, k1, k2, hA]

@[simp] theorem closeDrop_rd (a : Nat) (s : State) (A : Nat) (hA : A < 0x100A0) : (closeDrop a s).rd A = s.rd A := by
  unfold closeDrop; (try simp [hA]) <;> (repeat' split) <;> simp [hA]

@[simp] theorem reqRecovery_rd (a target : Nat) (ctx : Option Nat) (s : State) (A : Nat) (hA : A < 0x2010) : (reqRecovery a target ctx s).rd A = s.rd A := by
  have h0 : ∀ (i : Nat), A ≠ (TM_STATUS__CATCH_PHASE i).addr := by intros; simp only [TM_STATUS__CATCH_PHASE]; omega
  have h1 : ∀ (i : Nat), A ≠ (TM_STATUS__RECOVERING i).addr := by intros; simp only [TM_STATUS__RECOVERING]; omega
  have k0 : A < 0x8024 := by omega
  have k1 : A < 0x100A0 := by omega
  have k2 : A < 0x10480 := by omega
  have k3 : A < 0x20064 := by omega
  unfold reqRecovery; (try simp [h0, h1, k0, k1, k2, k3, hA]) <;> (repeat' split) <;> simp [h0, h1, k0, k1, k2, k3, hA]

@[simp] theorem reqRunHold_rd (a target : Nat) (ctx : Option Nat) (s : State) (A : Nat) (hA : A < 0x2010) : (reqRunHold a target ctx s).rd A = s.rd A := by
  have k0 : A < 0x8024 := by omega
  have k1 : A < 0x10000 := by omega
  unfold reqRunHold; (try simp [k0, k1, hA]) <;> (repeat' split) <;> simp [k0, k1, hA]

@[simp] theorem reqCoast_rd (a target : Nat) (ctx : Option Nat) (s : State) (A : Nat) (hA : A < 0x2010) : (reqCoast a target ctx s).rd A = s.rd A := by
  have h0 : ∀ (i : Nat), A ≠ (TM_STATUS__CATCH_PHASE i).addr := by intros; simp only [TM_STATUS__CATCH_PHASE]; omega
  have h1 : ∀ (i : Nat), A ≠ (TM_STATUS__CATCH_RESULT i).addr := by intros; simp only [TM_STATUS__CATCH_RESULT]; omega
  have k0 : A < 0x8024 := by omega
  have k1 : A < 0x10000 := by omega
  have k2 : A < 0x100A0 := by omega
  have k3 : A < 0x20064 := by omega
  unfold reqCoast; (try simp [h0, h1, k0, k1, k2, k3, hA]) <;> (repeat' split) <;> simp [h0, h1, k0, k1, k2, k3, hA]

@[simp] theorem axRequest_rd (a target : Nat) (ctx : Option Nat) (s : State) (A : Nat) (hA : A < 0x2010) : (axRequest a target ctx s).rd A = s.rd A := by
  have h0 : ∀ (i : Nat), A ≠ (AX_STATE__LAST_REQ i).addr := by intros; simp only [AX_STATE__LAST_REQ]; omega
  have h1 : ∀ (i : Nat), A ≠ (AX_STATE__LAST_TARGET i).addr := by intros; simp only [AX_STATE__LAST_TARGET]; omega
  have k0 : A < 0x8024 := by omega
  have k1 : A < 0x10000 := by omega
  unfold axRequest; (try simp [h0, h1, k0, k1, hA]) <;> (repeat' split) <;> simp [h0, h1, k0, k1, hA]

@[simp] theorem faultClr_rd (a : Nat) (s : State) (A : Nat) (hA : A < 0x2010) : (faultClr a s).rd A = s.rd A := by
  have h0 : ∀ (i : Nat), A ≠ (AX_STATE__LAST_REQ i).addr := by intros; simp only [AX_STATE__LAST_REQ]; omega
  have k0 : A < 0x8024 := by omega
  unfold faultClr; (try simp [h0, k0, hA]) <;> (repeat' split) <;> simp [h0, k0, hA]

@[simp] theorem closeStep_rd (a : Nat) (s : State) (A : Nat) (hA : A < 0x100A0) : (closeStep a s).rd A = s.rd A := by
  have h0 : ∀ (i : Nat), A ≠ (AX_R0 i) := by intros; simp only [AX_R0]; omega
  have h1 : ∀ (i : Nat), A ≠ (AX_SAMPLE_CNT i) := by intros; simp only [AX_SAMPLE_CNT]; omega
  have h2 : ∀ (i : Nat), A ≠ (AX_STATUS__SET_IN_USE i).addr := by intros; simp only [AX_STATUS__SET_IN_USE]; omega
  have h3 : ∀ (i : Nat), A ≠ (TM_STATUS__FLUX_SAT i).addr := by intros; simp only [TM_STATUS__FLUX_SAT]; omega
  have h4 : ∀ (i : Nat), A ≠ (TM_STATUS__SPD_VALID i).addr := by intros; simp only [TM_STATUS__SPD_VALID]; omega
  have k0 : A < 0x10480 := by omega
  have k1 : A < 0x20004 := by omega
  unfold closeStep; (try simp [h0, h1, h2, h3, h4, k0, k1, hA]) <;> (repeat' split) <;> simp [h0, h1, h2, h3, h4, k0, k1, hA]

@[simp] theorem takeCfg_rd (a : Nat) (s : State) (A : Nat) : (takeCfg a s).rd A = s.rd A := by
  unfold takeCfg; (try simp []) <;> (repeat' split) <;> simp []

@[simp] theorem sampleLatch_rd (a : Nat) (s : State) (A : Nat) (hA : A < 0x10000) : (sampleLatch a s).rd A = s.rd A := by
  unfold sampleLatch; (try simp [hA]) <;> (repeat' split) <;> simp [hA]

@[simp] theorem holdEntry_rd (a : Nat) (s : State) (A : Nat) (hA : A < 0x2010) : (holdEntry a s).rd A = s.rd A := by
  unfold holdEntry; (try simp [hA]) <;> (repeat' split) <;> simp [hA]

@[simp] theorem snapTake_rd (a : Nat) (x : Vec) (s : State) (A : Nat) : (snapTake a x s).rd A = s.rd A := by
  unfold snapTake; (try simp []) <;> (repeat' split) <;> simp []

@[simp] theorem stepBegin_rd (a : Nat) (s : State) (A : Nat) (hA : A < 0x100B4) : (stepBegin a s).rd A = s.rd A := by
  have h0 : ∀ (i : Nat), A ≠ (AX_R0 i) := by intros; simp only [AX_R0]; omega
  unfold stepBegin; (try simp [h0, hA]) <;> (repeat' split) <;> simp [h0, hA]

@[simp] theorem coefHold_rd (a sel word : Nat) (s : State) (A : Nat) (hA : A < 0x2010) : (coefHold a sel word s).rd A = s.rd A := by
  have h0 : ∀ (i : Nat), A ≠ (AX_STATE__CLOSING i).addr := by intros; simp only [AX_STATE__CLOSING]; omega
  have h1 : ∀ (i : Nat), A ≠ (AX_STATUS__CHK_RESULT i).addr := by intros; simp only [AX_STATUS__CHK_RESULT]; omega
  have k0 : A < 0x10000 := by omega
  have k1 : A < 0x100A0 := by omega
  have k2 : A < 0x100A4 := by omega
  unfold coefHold; (try simp [h0, h1, k0, k1, k2, hA]) <;> (repeat' split) <;> simp [h0, h1, k0, k1, k2, hA]

@[simp] theorem coefEcc_rd (a sel word : Nat) (s : State) (A : Nat) (hA : A < 0x2010) : (coefEcc a sel word s).rd A = s.rd A := by
  unfold coefEcc; (try simp [hA]) <;> (repeat' split) <;> simp [hA]

@[simp] theorem followCheck_rd (a : Nat) (x : Vec) (s : State) (A : Nat) (hA : A < 0x2010) : (followCheck a x s).rd A = s.rd A := by
  have h0 : ∀ (i : Nat), A ≠ (AX_FE_ERR i) := by intros; simp only [AX_FE_ERR]; omega
  have h1 : ∀ (i : Nat), A ≠ (AX_STATE__LAST_REQ i).addr := by intros; simp only [AX_STATE__LAST_REQ]; omega
  have h2 : ∀ (i : Nat), A ≠ (AX_STATE__LAST_TARGET i).addr := by intros; simp only [AX_STATE__LAST_TARGET]; omega
  have k0 : A < 0x100A4 := by omega
  unfold followCheck; (try simp [h0, h1, h2, k0, hA]) <;> (repeat' split) <;> simp [h0, h1, h2, k0, hA]

@[simp] theorem fullStep_rd (a : Nat) (s : State) (A : Nat) (hA : A < 0x2010) : (fullStep a s).rd A = s.rd A := by
  have h0 : ∀ (i : Nat), A ≠ (AX_COUNTS__SAT_SAMPLES i).addr := by intros; simp only [AX_COUNTS__SAT_SAMPLES]; omega
  have h1 : ∀ (i : Nat), A ≠ (AX_SAMPLE_CNT i) := by intros; simp only [AX_SAMPLE_CNT]; omega
  have h2 : ∀ (i : Nat), A ≠ (AX_STATUS__E_SAT i).addr := by intros; simp only [AX_STATUS__E_SAT]; omega
  have h3 : ∀ (i : Nat), A ≠ (AX_STATUS__FF_LIM i).addr := by intros; simp only [AX_STATUS__FF_LIM]; omega
  have h4 : ∀ (i : Nat), A ≠ (AX_STATUS__U_SAT i).addr := by intros; simp only [AX_STATUS__U_SAT]; omega
  have h5 : ∀ (i : Nat), A ≠ (AX_STATUS__X_SAT i).addr := by intros; simp only [AX_STATUS__X_SAT]; omega
  have k0 : A < 0x100A4 := by omega
  have k1 : A < 0x10480 := by omega
  unfold fullStep; (try simp [h0, h1, h2, h3, h4, h5, k0, k1, hA]) <;> (repeat' split) <;> simp [h0, h1, h2, h3, h4, h5, k0, k1, hA]

@[simp] theorem applyOut_rd (a : Nat) (s : State) (A : Nat) (hA : A < 0x2000C) : (applyOut a s).rd A = s.rd A := by
  unfold applyOut; (try simp [hA]) <;> (repeat' split) <;> simp [hA]

@[simp] theorem closeEnd_rd (a : Nat) (s : State) (A : Nat) (hA : A < 0x2010) : (closeEnd a s).rd A = s.rd A := by
  have h0 : ∀ (i : Nat), A ≠ (AX_STATE__CLOSING i).addr := by intros; simp only [AX_STATE__CLOSING]; omega
  have h1 : ∀ (i : Nat), A ≠ (TM_STATUS__CATCH_PHASE i).addr := by intros; simp only [TM_STATUS__CATCH_PHASE]; omega
  have h2 : ∀ (i : Nat), A ≠ (TM_STATUS__CATCH_RESULT i).addr := by intros; simp only [TM_STATUS__CATCH_RESULT]; omega
  have k0 : A < 0x10480 := by omega
  have k1 : A < 0x104A4 := by omega
  have k2 : A < 0x104A8 := by omega
  unfold closeEnd; (try simp [h0, h1, h2, k0, k1, k2, hA]) <;> (repeat' split) <;> simp [h0, h1, h2, k0, k1, k2, hA]

@[simp] theorem setpointWrite_rd (a : Nat) (v : Word) (s : State) (A : Nat) (hA : A < 0x10040) : (setpointWrite a v s).rd A = s.rd A := by
  have h0 : ∀ (i : Nat), A ≠ (AX_SETPOINT i) := by intros; simp only [AX_SETPOINT]; omega
  unfold setpointWrite; (try simp [h0, hA]) <;> (repeat' split) <;> simp [h0, hA]

@[simp] theorem bankWrs_rd (a sel w : Nat) (l : List Word) (s : State) (A : Nat) (hA : A < 0x100A0) : (bankWrs a sel w l s).rd A = s.rd A := by
  induction l generalizing w s with
  | nil => rfl
  | cons v l ih => unfold bankWrs; simp [ih, hA]

@[simp] theorem giEvent_rd (i b unit detail : Nat) (s : State) (A : Nat) (hA : A < 0x24008) : (giEvent i b unit detail s).rd A = s.rd A := by
  have h0 : ∀ (i : Nat), A ≠ (GI_EVENT__EVT i).addr := by intros; simp only [GI_EVENT__EVT]; omega
  have k0 : A < 0x78000 := by omega
  unfold giEvent; (try simp [h0, k0, hA]) <;> (repeat' split) <;> simp [h0, k0, hA]

@[simp] theorem giReady_rd (i : Nat) (s : State) (A : Nat) (hA : A < 0x24000) : (giReady i s).rd A = s.rd A := by
  have h0 : ∀ (i : Nat), A ≠ (GI_STATUS__READY i).addr := by intros; simp only [GI_STATUS__READY]; omega
  unfold giReady; (try simp [h0, hA]) <;> (repeat' split) <;> simp [h0, hA]

@[simp] theorem giStatus_rd (i : Nat) (s : State) (A : Nat) (hA : A < 0x24000) : (giStatus i s).rd A = s.rd A := by
  have h0 : ∀ (i : Nat), A ≠ (GI_STATUS i) := by intros; simp only [GI_STATUS]; omega
  unfold giStatus; (try simp [h0, hA]) <;> (repeat' split) <;> simp [h0, hA]

@[simp] theorem giCfgChange_rd (i : Nat) (s : State) (A : Nat) (hA : A < 0x24000) : (giCfgChange i s).rd A = s.rd A := by
  have h0 : ∀ (i : Nat), A ≠ (GI_STATUS__CFG_SYNC i).addr := by intros; simp only [GI_STATUS__CFG_SYNC]; omega
  unfold giCfgChange; (try simp [h0, hA]) <;> (repeat' split) <;> simp [h0, hA]

@[simp] theorem glPut_rd (f : Nat → Nat → FieldRef) (i x v : Nat) (s : State) (A : Nat) (h : A ≠ (f i x).addr) : (glPut f i x v s).rd A = s.rd A := by
  unfold glPut; split <;> simp [h]

@[simp] theorem chPut_rd (i c v : Nat) (s : State) (A : Nat) : (chPut i c v s).rd A = s.rd A := by
  unfold chPut; (try simp []) <;> (repeat' split) <;> simp []

@[simp] theorem chTurnOn_rd (i c : Nat) (hold : Bool) (s : State) (A : Nat) : (chTurnOn i c hold s).rd A = s.rd A := by
  unfold chTurnOn; (try simp []) <;> (repeat' split) <;> simp []

@[simp] theorem chTurnOff_rd (i c : Nat) (s : State) (A : Nat) : (chTurnOff i c s).rd A = s.rd A := by
  unfold chTurnOff; (try simp []) <;> (repeat' split) <;> simp []

@[simp] theorem legTurnOff_rd (i x : Nat) (s : State) (A : Nat) : (legTurnOff i x s).rd A = s.rd A := by
  unfold legTurnOff; (try simp []) <;> (repeat' split) <;> simp []

@[simp] theorem holdApply_rd (i x : Nat) (s : State) (A : Nat) : (holdApply i x s).rd A = s.rd A := by
  unfold holdApply; (try simp []) <;> (repeat' split) <;> simp []

@[simp] theorem tripClearLeg_rd (i x : Nat) (s : State) (A : Nat) (hA : A < 0x24120) : (tripClearLeg i x s).rd A = s.rd A := by
  have h0 : ∀ (i : Nat) (j : Nat), A ≠ (GI_L_STATUS__GATE_FAULT_L i j).addr := by intros; simp only [GI_L_STATUS__GATE_FAULT_L]; omega
  have h1 : ∀ (i : Nat) (j : Nat), A ≠ (GI_L_STATUS__GATE_FAULT_U i j).addr := by intros; simp only [GI_L_STATUS__GATE_FAULT_U]; omega
  have h2 : ∀ (i : Nat) (j : Nat), A ≠ (GI_L_STATUS__SOFT_STEP i j).addr := by intros; simp only [GI_L_STATUS__SOFT_STEP]; omega
  have h3 : ∀ (i : Nat) (j : Nat), A ≠ (GI_L_STATUS__TRIP_LATCH i j).addr := by intros; simp only [GI_L_STATUS__TRIP_LATCH]; omega
  have h4 : ∀ (i : Nat) (j : Nat), A ≠ (GI_L_STATUS__XCMD_LATCH i j).addr := by intros; simp only [GI_L_STATUS__XCMD_LATCH]; omega
  unfold tripClearLeg; (try simp [h0, h1, h2, h3, h4, hA]) <;> (repeat' split) <;> simp [h0, h1, h2, h3, h4, hA]

@[simp] theorem crossLock_rd (i x : Nat) (s : State) (A : Nat) (hA : A < 0x24120) : (crossLock i x s).rd A = s.rd A := by
  have h0 : ∀ (i : Nat) (j : Nat), A ≠ (GI_L_COUNTS__XCMD i j).addr := by intros; simp only [GI_L_COUNTS__XCMD]; omega
  have h1 : ∀ (i : Nat) (j : Nat), A ≠ (GI_L_STATUS__XCMD_LATCH i j).addr := by intros; simp only [GI_L_STATUS__XCMD_LATCH]; omega
  unfold crossLock; (try simp [h0, h1, hA]) <;> (repeat' split) <;> simp [h0, h1, hA]

@[simp] theorem fastLost_rd (i : Nat) (s : State) (A : Nat) (hA : A < 0x24000) : (fastLost i s).rd A = s.rd A := by
  have h0 : ∀ (i : Nat), A ≠ (GI_STATUS__FAST i).addr := by intros; simp only [GI_STATUS__FAST]; omega
  unfold fastLost; (try simp [h0, hA]) <;> (repeat' split) <;> simp [h0, hA]

@[simp] theorem fastFormStop_rd (s : State) (A : Nat) (hA : A < 0x24000) : (fastFormStop s).rd A = s.rd A := by
  unfold fastFormStop; (try simp [hA]) <;> (repeat' split) <;> simp [hA]

@[simp] theorem islandAxesSafe_rd (i : Nat) (p : Nat → Bool) (s : State) (A : Nat) (hA : A < 0x2010) : (islandAxesSafe i p s).rd A = s.rd A := by
  unfold islandAxesSafe; (try simp [hA]) <;> (repeat' split) <;> simp [hA]

@[simp] theorem islandBastAbandon_rd (i : Nat) (s : State) (A : Nat) (hA : A < 0x24118) : (islandBastAbandon i s).rd A = s.rd A := by
  unfold islandBastAbandon; (try simp [hA]) <;> (repeat' split) <;> simp [hA]

@[simp] theorem legShow_rd (i : Nat) (s : State) (A : Nat) (hA : A < 0x24120) : (legShow i s).rd A = s.rd A := by
  have h0 : ∀ (i : Nat) (j : Nat), A ≠ (GI_L_STATUS i j) := by intros; simp only [GI_L_STATUS]; omega
  have h1 : ∀ (i : Nat) (j : Nat), A ≠ (chOnBit i j).addr := by intros; simp only [chOnBit, GI_L_STATUS__UPPER_ON, GI_L_STATUS__LOWER_ON]; first | omega | (split <;> omega) | (split <;> simp only [] <;> omega) | (repeat' split) <;> simp only [] <;> omega
  unfold legShow; (try simp [h0, h1, hA]) <;> (repeat' split) <;> simp [h0, h1, hA]

@[simp] theorem islandUp_rd (i : Nat) (s : State) (A : Nat) (hA : A < 0x24000) : (islandUp i s).rd A = s.rd A := by
  have h0 : ∀ (i : Nat), A ≠ (GI_STATUS__CFG_SYNC i).addr := by intros; simp only [GI_STATUS__CFG_SYNC]; omega
  have h1 : ∀ (i : Nat), A ≠ (GI_STATUS__LINK_UP i).addr := by intros; simp only [GI_STATUS__LINK_UP]; omega
  have k0 : A < 0x24008 := by omega
  have k1 : A < 0x24120 := by omega
  unfold islandUp; (try simp [h0, h1, k0, k1, hA]) <;> (repeat' split) <;> simp [h0, h1, k0, k1, hA]

@[simp] theorem islandReset_rd (i : Nat) (s : State) (A : Nat) (hA : A < 0x20) : (islandReset i s).rd A = s.rd A := by
  have h0 : ∀ (i : Nat), A ≠ (DEV_TEMP_GI__VALID i).addr := by intros; simp only [DEV_TEMP_GI__VALID]; omega
  have h1 : ∀ (i : Nat) (j : Nat), A ≠ (GI_L_STATUS i j) := by intros; simp only [GI_L_STATUS]; omega
  have h2 : ∀ (i : Nat), A ≠ (GI_STATUS__CFG_SYNC i).addr := by intros; simp only [GI_STATUS__CFG_SYNC]; omega
  have h3 : ∀ (i : Nat), A ≠ (GI_STATUS__FAST i).addr := by intros; simp only [GI_STATUS__FAST]; omega
  have k0 : A < 0x24000 := by omega
  unfold islandReset; (try simp [h0, h1, h2, h3, k0, hA]) <;> (repeat' split) <;> simp [h0, h1, h2, h3, k0, hA]

@[simp] theorem holdAgain_rd (i x : Nat) (s : State) (A : Nat) : (holdAgain i x s).rd A = s.rd A := by
  unfold holdAgain; (try simp []) <;> (repeat' split) <;> simp []

@[simp] theorem chSettle_rd (i c : Nat) (s : State) (A : Nat) (hA : A < 0x24120) : (chSettle i c s).rd A = s.rd A := by
  have h0 : ∀ (i : Nat) (j : Nat), A ≠ (chOnBit i j).addr := by intros; simp only [chOnBit, GI_L_STATUS__UPPER_ON, GI_L_STATUS__LOWER_ON]; first | omega | (split <;> omega) | (split <;> simp only [] <;> omega) | (repeat' split) <;> simp only [] <;> omega
  unfold chSettle; (try simp [h0, hA]) <;> (repeat' split) <;> simp [h0, hA]

@[simp] theorem gateFault_rd (i c : Nat) (timeout : Bool) (s : State) (A : Nat) (hA : A < 0x2010) : (gateFault i c timeout s).rd A = s.rd A := by
  have h0 : ∀ (i : Nat) (j : Nat), A ≠ (GI_L_STATUS__GATE_FAULT_L i j).addr := by intros; simp only [GI_L_STATUS__GATE_FAULT_L]; omega
  have h1 : ∀ (i : Nat) (j : Nat), A ≠ (GI_L_STATUS__GATE_FAULT_U i j).addr := by intros; simp only [GI_L_STATUS__GATE_FAULT_U]; omega
  have k0 : A < 0x24008 := by omega
  unfold gateFault; (try simp [h0, h1, k0, hA]) <;> (repeat' split) <;> simp [h0, h1, k0, hA]

@[simp] theorem softStart_rd (i x : Nat) (s : State) (A : Nat) (hA : A < 0x24120) : (softStart i x s).rd A = s.rd A := by
  have h0 : ∀ (i : Nat) (j : Nat), A ≠ (GI_L_COUNTS__SC_TRIPS i j).addr := by intros; simp only [GI_L_COUNTS__SC_TRIPS]; omega
  have h1 : ∀ (i : Nat) (j : Nat), A ≠ (GI_L_STATUS__SOFT_STEP i j).addr := by intros; simp only [GI_L_STATUS__SOFT_STEP]; omega
  have h2 : ∀ (i : Nat) (j : Nat), A ≠ (GI_L_STATUS__TRIP_LATCH i j).addr := by intros; simp only [GI_L_STATUS__TRIP_LATCH]; omega
  have h3 : ∀ (i : Nat) (j : Nat), A ≠ (chOnBit i j).addr := by intros; simp only [chOnBit, GI_L_STATUS__UPPER_ON, GI_L_STATUS__LOWER_ON]; first | omega | (split <;> omega) | (split <;> simp only [] <;> omega) | (repeat' split) <;> simp only [] <;> omega
  unfold softStart; (try simp [h0, h1, h2, h3, hA]) <;> (repeat' split) <;> simp [h0, h1, h2, h3, hA]

@[simp] theorem tripSend_rd (i mask : Nat) (s : State) (A : Nat) : (tripSend i mask s).rd A = s.rd A := by
  unfold tripSend; (try simp []) <;> (repeat' split) <;> simp []

@[simp] theorem tripWords_rd (as : List Nat) (own : Option Nat) (s : State) (A : Nat) : (tripWords as own s).rd A = s.rd A := by
  unfold tripWords; (try simp []) <;> (repeat' split) <;> simp []

@[simp] theorem softEnd_rd (i x : Nat) (s : State) (A : Nat) (hA : A < 0x24008) : (softEnd i x s).rd A = s.rd A := by
  have h0 : ∀ (i : Nat) (j : Nat), A ≠ (GI_L_STATUS__SOFT_STEP i j).addr := by intros; simp only [GI_L_STATUS__SOFT_STEP]; omega
  unfold softEnd; (try simp [h0, hA]) <;> (repeat' split) <;> simp [h0, hA]

@[simp] theorem protectAxis_rd (a cause : Nat) (latch : Bool) (detail : Nat) (s : State) (A : Nat) (hA : A < 0x2010) : (protectAxis a cause latch detail s).rd A = s.rd A := by
  have k0 : A < 0x20064 := by omega
  have k1 : A < 0x48010 := by omega
  unfold protectAxis; (try simp [k0, k1, hA]) <;> (repeat' split) <;> simp [k0, k1, hA]

@[simp] theorem ascSideChange_rd (a : Nat) (held : Bool) (s : State) (A : Nat) (hA : A < 0x10000) : (ascSideChange a held s).rd A = s.rd A := by
  have h0 : ∀ (i : Nat), A ≠ (AX_STATE__ASC_ACTIVE i).addr := by intros; simp only [AX_STATE__ASC_ACTIVE]; omega
  have h1 : ∀ (i : Nat), A ≠ (SAF_AX_STAT__ASC_SIDE i).addr := by intros; simp only [SAF_AX_STAT__ASC_SIDE]; omega
  have k0 : A < 0x48010 := by omega
  unfold ascSideChange; (try simp [h0, h1, k0, hA]) <;> (repeat' split) <;> simp [h0, h1, k0, hA]

@[simp] theorem windowTrip_rd (a k : Nat) (wb : Bool) (s : State) (A : Nat) (hA : A < 0x2010) : (windowTrip a k wb s).rd A = s.rd A := by
  have h0 : ∀ (i : Nat), A ≠ (SAF_AX_STAT__WIN_IGN i).addr := by intros; simp only [SAF_AX_STAT__WIN_IGN]; omega
  have k0 : A < 0x48010 := by omega
  unfold windowTrip; (try simp [h0, k0, hA]) <;> (repeat' split) <;> simp [h0, k0, hA]

@[simp] theorem bastAbort_rd (m : Nat) (s : State) (A : Nat) (hA : A < 0x24118) : (bastAbort m s).rd A = s.rd A := by
  unfold bastAbort; (try simp [hA]) <;> (repeat' split) <;> simp [hA]

@[simp] theorem bastJudge_rd (m : Nat) (b : BastMeas) (s : State) (A : Nat) (hA : A < 0x24118) : (bastJudge m b s).rd A = s.rd A := by
  have h0 : ∀ (i : Nat) (j : Nat), A ≠ (GI_L_BRES__GATE_L i j).addr := by intros; simp only [GI_L_BRES__GATE_L]; omega
  have h1 : ∀ (i : Nat) (j : Nat), A ≠ (GI_L_BRES__GATE_U i j).addr := by intros; simp only [GI_L_BRES__GATE_U]; omega
  have h2 : ∀ (i : Nat) (j : Nat), A ≠ (GI_L_BRES__PHASE i j).addr := by intros; simp only [GI_L_BRES__PHASE]; omega
  have h3 : ∀ (i : Nat) (j : Nat), A ≠ (GI_L_BRES__WIND i j).addr := by intros; simp only [GI_L_BRES__WIND]; omega
  have h4 : ∀ (i : Nat) (j : Nat), A ≠ (GI_L_BVAL__DV_L i j).addr := by intros; simp only [GI_L_BVAL__DV_L]; omega
  have h5 : ∀ (i : Nat) (j : Nat), A ≠ (GI_L_BVAL__DV_U i j).addr := by intros; simp only [GI_L_BVAL__DV_U]; omega
  have h6 : ∀ (i : Nat) (j : Nat), A ≠ (GI_L_BVAL__V_SNK i j).addr := by intros; simp only [GI_L_BVAL__V_SNK]; omega
  have h7 : ∀ (i : Nat) (j : Nat), A ≠ (GI_L_BVAL__V_SRC i j).addr := by intros; simp only [GI_L_BVAL__V_SRC]; omega
  unfold bastJudge; (try simp [h0, h1, h2, h3, h4, h5, h6, h7, hA]) <;> (repeat' split) <;> simp [h0, h1, h2, h3, h4, h5, h6, h7, hA]

@[simp] theorem bastFinish_rd (m : Nat) (s : State) (A : Nat) (hA : A < 0x24008) : (bastFinish m s).rd A = s.rd A := by
  have h0 : ∀ (i : Nat) (j : Nat), A ≠ (GI_L_BRES__RUNNING i j).addr := by intros; simp only [GI_L_BRES__RUNNING]; omega
  have h1 : ∀ (i : Nat) (j : Nat), A ≠ (GI_L_BRES__STALE i j).addr := by intros; simp only [GI_L_BRES__STALE]; omega
  have h2 : ∀ (i : Nat) (j : Nat), A ≠ (GI_L_BRES__VALID i j).addr := by intros; simp only [GI_L_BRES__VALID]; omega
  unfold bastFinish; (try simp [h0, h1, h2, hA]) <;> (repeat' split) <;> simp [h0, h1, h2, hA]

@[simp] theorem bastStart_rd (m : Nat) (s : State) (A : Nat) (hA : A < 0x24008) : (bastStart m s).rd A = s.rd A := by
  have h0 : ∀ (i : Nat) (j : Nat), A ≠ (GI_L_BRES i j) := by intros; simp only [GI_L_BRES]; omega
  have h1 : ∀ (i : Nat) (j : Nat), A ≠ (GI_L_BRES__RUNNING i j).addr := by intros; simp only [GI_L_BRES__RUNNING]; omega
  have h2 : ∀ (i : Nat) (j : Nat), A ≠ (GI_L_BRES__STALE i j).addr := by intros; simp only [GI_L_BRES__STALE]; omega
  have h3 : ∀ (i : Nat) (j : Nat), A ≠ (GI_L_BVAL i j) := by intros; simp only [GI_L_BVAL]; omega
  unfold bastStart; (try simp [h0, h1, h2, h3, hA]) <;> (repeat' split) <;> simp [h0, h1, h2, h3, hA]

@[simp] theorem bastMade_rd (m k : Nat) (s : State) (A : Nat) : (bastMade m k s).rd A = s.rd A := by
  unfold bastMade; (try simp []) <;> (repeat' split) <;> simp []

@[simp] theorem bastAfter_rd (m : Nat) (b : BastMeas) (s : State) (A : Nat) (hA : A < 0x24118) : (bastAfter m b s).rd A = s.rd A := by
  unfold bastAfter; (try simp [hA]) <;> (repeat' split) <;> simp [hA]

@[simp] theorem islandService_rd (i : Nat) (v : Bool) (s : State) (A : Nat) (hA : A < 0x24000) : (islandService i v s).rd A = s.rd A := by
  have h0 : ∀ (i : Nat), A ≠ (GI_CFG__SERVICE i).addr := by intros; simp only [GI_CFG__SERVICE]; omega
  have k0 : A < 0x24008 := by omega
  unfold islandService; (try simp [h0, k0, hA]) <;> (repeat' split) <;> simp [h0, k0, hA]

@[simp] theorem fmEvent_rd (k b detail : Nat) (s : State) (A : Nat) (hA : A < 0x78000) : (fmEvent k b detail s).rd A = s.rd A := by
  unfold fmEvent; (try simp [hA]) <;> (repeat' split) <;> simp [hA]

@[simp] theorem pairCompare_rd (p : Nat) (s : State) (A : Nat) (hA : A < 0x30180) : (pairCompare p s).rd A = s.rd A := by
  have h0 : A ≠ (FM_PAIR_STAT__MISMATCH).addr := by intros; simp only [FM_PAIR_STAT__MISMATCH]; omega
  have k0 : A < 0x78000 := by omega
  unfold pairCompare; (try simp [h0, k0, hA]) <;> (repeat' split) <;> simp [h0, k0, hA]

@[simp] theorem pairStep_rd (k : Nat) (s : State) (A : Nat) (hA : A < 0x30180) : (pairStep k s).rd A = s.rd A := by
  have e1 : ∀ n s, (pairCompare n s).rd A = s.rd A := fun n s => pairCompare_rd n s A (by omega)
  unfold pairStep
  refine each_rd _ _ _ _ fun p s => ?_
  split <;> simp [e1]

@[simp] theorem tmonStep_rd (k : Nat) (c : Int) (s : State) (A : Nat) : (tmonStep k c s).rd A = s.rd A := by
  unfold tmonStep; (try simp []) <;> (repeat' split) <;> simp []

@[simp] theorem fastStop_rd (s : State) (A : Nat) (hA : A < 0x30000) : (fastStop s).rd A = s.rd A := by
  have h0 : ∀ (i : Nat), A ≠ (FM_CH_DATA__VALID i).addr := by intros; simp only [FM_CH_DATA__VALID]; omega
  have h1 : A ≠ (FM_STATUS__CONV_RUN).addr := by intros; simp only [FM_STATUS__CONV_RUN]; omega
  unfold fastStop; (try simp [h0, h1, hA]) <;> (repeat' split) <;> simp [h0, h1, hA]

@[simp] theorem xbarMove_rd (k fp : Nat) (s : State) (A : Nat) (hA : A < 0x30010) : (xbarMove k fp s).rd A = s.rd A := by
  have h0 : ∀ (i : Nat), A ≠ (FM_CH_STATUS__FP i).addr := by intros; simp only [FM_CH_STATUS__FP]; omega
  have h1 : ∀ (i : Nat) (j : Nat), A ≠ (FM_XBAR__FP i j).addr := by intros; simp only [FM_XBAR__FP]; omega
  have h2 : ∀ (i : Nat), A ≠ (fpStat i).addr := by intros; simp only [fpStat, FM_FPSTAT__STATE]; first | omega | (split <;> omega) | (split <;> simp only [] <;> omega) | (repeat' split) <;> simp only [] <;> omega
  have k0 : A < 0x50024 := by omega
  have k1 : A < 0x78000 := by omega
  unfold xbarMove; (try simp [h0, h1, h2, k0, k1, hA]) <;> (repeat' split) <;> simp [h0, h1, h2, k0, k1, hA]

@[simp] theorem convShow_rd (s : State) (A : Nat) (hA : A < 0x30000) : (convShow s).rd A = s.rd A := by
  have h0 : A ≠ (FM_STATUS__CONV_RUN).addr := by intros; simp only [FM_STATUS__CONV_RUN]; omega
  unfold convShow; (try simp [h0, hA]) <;> (repeat' split) <;> simp [h0, hA]

@[simp] theorem tripFire_rd (k : Nat) (wb : Bool) (s : State) (A : Nat) : (tripFire k wb s).rd A = s.rd A := by
  unfold tripFire; (try simp []) <;> (repeat' split) <;> simp []

@[simp] theorem windowFire_rd (k : Nat) (wb atClose : Bool) (s : State) (A : Nat) (hA : A < 0x3102C) : (windowFire k wb atClose s).rd A = s.rd A := by
  have h0 : ∀ (i : Nat), A ≠ (FM_CH_EVENT__EVT i).addr := by intros; simp only [FM_CH_EVENT__EVT]; omega
  have k0 : A < 0x78000 := by omega
  unfold windowFire; (try simp [h0, k0, hA]) <;> (repeat' split) <;> simp [h0, k0, hA]

@[simp] theorem windowEnd_rd (k : Nat) (wb : Bool) (s : State) (A : Nat) (hA : A < 0x31024) : (windowEnd k wb s).rd A = s.rd A := by
  have h0 : ∀ (i : Nat) (j : Bool), A ≠ (winOut i j).addr := by intros; simp only [winOut, FM_CH_STATUS__WB_OUT, FM_CH_STATUS__WA_OUT]; first | omega | (split <;> omega) | (split <;> simp only [] <;> omega) | (repeat' split) <;> simp only [] <;> omega
  unfold windowEnd; (try simp [h0, hA]) <;> (repeat' split) <;> simp [h0, hA]

@[simp] theorem pmEvent_rd (b unit detail : Nat) (s : State) (A : Nat) (hA : A < 0x3802C) : (pmEvent b unit detail s).rd A = s.rd A := by
  have h0 : A ≠ (PM_EVENT__EVT).addr := by intros; simp only [PM_EVENT__EVT]; omega
  have k0 : A < 0x78000 := by omega
  unfold pmEvent; (try simp [h0, k0, hA]) <;> (repeat' split) <;> simp [h0, k0, hA]

@[simp] theorem pmStatus_rd (s : State) (A : Nat) (hA : A < 0x38004) : (pmStatus s).rd A = s.rd A := by
  have h0 : A ≠ (PM_STATUS__CAL_BUSY).addr := by intros; simp only [PM_STATUS__CAL_BUSY]; omega
  have h1 : A ≠ (PM_STATUS__QCOUNT).addr := by intros; simp only [PM_STATUS__QCOUNT]; omega
  have h2 : A ≠ (PM_STATUS__URG_PEND).addr := by intros; simp only [PM_STATUS__URG_PEND]; omega
  have h3 : ∀ (i : Nat), A ≠ (pxState i).addr := by intros; simp only [pxState, PM_STATUS__PX0_STATE, PM_STATUS__PX1_STATE]; first | omega | (split <;> omega) | (split <;> simp only [] <;> omega) | (repeat' split) <;> simp only [] <;> omega
  unfold pmStatus; (try simp [h0, h1, h2, h3, hA]) <;> (repeat' split) <;> simp [h0, h1, h2, h3, hA]

@[simp] theorem pmPeriod_rd (s : State) (A : Nat) (hA : A < 0x38008) : (pmPeriod s).rd A = s.rd A := by
  have h0 : A ≠ (PM_PERIOD__WINDOW).addr := by intros; simp only [PM_PERIOD__WINDOW]; omega
  unfold pmPeriod; (try simp [h0, hA]) <;> (repeat' split) <;> simp [h0, hA]

@[simp] theorem pxStart_rd (x job input : Nat) (restart : Bool) (s : State) (A : Nat) : (pxStart x job input restart s).rd A = s.rd A := by
  unfold pxStart; (try simp []) <;> (repeat' split) <;> simp []

@[simp] theorem pxAbort_rd (x : Nat) (s : State) (A : Nat) : (pxAbort x s).rd A = s.rd A := by
  unfold pxAbort; (try simp []) <;> (repeat' split) <;> simp []

@[simp] theorem pmUrgentServe_rd (s : State) (A : Nat) : (pmUrgentServe s).rd A = s.rd A := by
  unfold pmUrgentServe; (try simp []) <;> (repeat' split) <;> simp []

@[simp] theorem pmCalServe_rd (s : State) (A : Nat) : (pmCalServe s).rd A = s.rd A := by
  unfold pmCalServe; (try simp []) <;> (repeat' split) <;> simp []

@[simp] theorem pxTake_rd (x : Nat) (s : State) (A : Nat) : (pxTake x s).rd A = s.rd A := by
  unfold pxTake; (try simp []) <;> (repeat' split) <;> simp []

@[simp] theorem pmServe_rd (s : State) (A : Nat) (hA : A < 0x38004) : (pmServe s).rd A = s.rd A := by
  unfold pmServe; (try simp [hA]) <;> (repeat' split) <;> simp [hA]

@[simp] theorem owAgain_rd (job j : Nat) (s : State) (A : Nat) : (owAgain job j s).rd A = s.rd A := by
  unfold owAgain; (try simp []) <;> (repeat' split) <;> simp []

@[simp] theorem pmPower_rd (s : State) (A : Nat) (hA : A < 0x38004) : (pmPower s).rd A = s.rd A := by
  have k0 : A < 0x38008 := by omega
  unfold pmPower; (try simp [k0, hA]) <;> (repeat' split) <;> simp [k0, hA]

@[simp] theorem pmUrgent_rd (j : Nat) (s : State) (A : Nat) (hA : A < 0x38004) : (pmUrgent j s).rd A = s.rd A := by
  unfold pmUrgent; (try simp [hA]) <;> (repeat' split) <;> simp [hA]

@[simp] theorem pmSumDrop_rd (j : Nat) (s : State) (A : Nat) : (pmSumDrop j s).rd A = s.rd A := by
  unfold pmSumDrop; (try simp []) <;> (repeat' split) <;> simp []

@[simp] theorem pmOpenCount_rd (j : Nat) (s : State) (A : Nat) : (pmOpenCount j s).rd A = s.rd A := by
  unfold pmOpenCount; (try simp []) <;> (repeat' split) <;> simp []

@[simp] theorem pmResult_rd (x j : Nat) (value : Int) (sat restart fixed urgent : Bool) (s : State) (A : Nat) (hA : A < 0x201C) :
    (pmResult x j value sat restart fixed urgent s).rd A = s.rd A := by
  have e1 : ∀ n s, (wake n s).rd A = s.rd A := fun n s => wake_rd n s A (by omega)
  have e2 : ∀ b j d s, (pmEvent b j d s).rd A = s.rd A := fun b j d s => pmEvent_rd b j d s A (by omega)
  have h0 : ∀ (i : Nat), A ≠ (PM_IN_STATUS__ABOVE_HI i).addr := by intros; simp only [PM_IN_STATUS__ABOVE_HI]; omega
  have h1 : ∀ (i : Nat), A ≠ (PM_IN_STATUS__BELOW_LO i).addr := by intros; simp only [PM_IN_STATUS__BELOW_LO]; omega
  have h2 : ∀ (i : Nat), A ≠ (PM_IN_STATUS__SEQ i).addr := by intros; simp only [PM_IN_STATUS__SEQ]; omega
  have h3 : ∀ (i : Nat), A ≠ (PM_IN_STATUS__DROPPED i).addr := by intros; simp only [PM_IN_STATUS__DROPPED]; omega
  have h4 : ∀ (i : Nat), A ≠ PM_IN_LAST i := by intros; simp only [PM_IN_LAST]; omega
  unfold pmResult; simp only []
  rw [pmOpenCount_rd, when_rd _ _ _ _ fun s => e2 _ _ _ s]
  split <;> simp [e1, e2, h0, h1, h2, h3, h4]

@[simp] theorem pmListEnd_rd (x raw : Nat) (s : State) (A : Nat) (hA : A < 0x201C) : (pmListEnd x raw s).rd A = s.rd A := by
  unfold pmListEnd; (try simp [hA]) <;> (repeat' split) <;> simp [hA]

@[simp] theorem pmCalEnd_rd (raw : Nat) (s : State) (A : Nat) (hA : A < 0x38020) : (pmCalEnd raw s).rd A = s.rd A := by
  have h0 : A ≠ (PM_CAL_F__MEAN).addr := by intros; simp only [PM_CAL_F__MEAN]; omega
  have h1 : A ≠ (PM_CAL_STATUS__PHASE).addr := by intros; simp only [PM_CAL_STATUS__PHASE]; omega
  have h2 : A ≠ (PM_CAL_Z__MEAN).addr := by intros; simp only [PM_CAL_Z__MEAN]; omega
  unfold pmCalEnd; (try simp [h0, h1, h2, hA]) <;> (repeat' split) <;> simp [h0, h1, h2, hA]

@[simp] theorem mainsPut_rd (v : Bool) (s : State) (A : Nat) (hA : A < 0x38004) : (mainsPut v s).rd A = s.rd A := by
  have h0 : A ≠ (PM_STATUS__MAINS_VALID).addr := by intros; simp only [PM_STATUS__MAINS_VALID]; omega
  have k0 : A < 0x3802C := by omega
  unfold mainsPut; (try simp [h0, k0, hA]) <;> (repeat' split) <;> simp [h0, k0, hA]

@[simp] theorem mainsRestart_rd (s : State) (A : Nat) (hA : A < 0x38004) : (mainsRestart s).rd A = s.rd A := by
  have h0 : A ≠ (PM_STATUS__MAINS_VALID).addr := by intros; simp only [PM_STATUS__MAINS_VALID]; omega
  unfold mainsRestart; (try simp [h0, hA]) <;> (repeat' split) <;> simp [h0, hA]

@[simp] theorem pmPop_rd (s : State) (A : Nat) (hA : A < 0x38004) : (pmPop s).2.rd A = s.rd A := by
  have h0 : ∀ (i : Nat), A ≠ (PM_QPOP i) := by intros; simp only [PM_QPOP]; omega
  unfold pmPop; (try simp [h0, hA]) <;> (repeat' split) <;> simp [h0, hA]

@[simp] theorem pmReaders_rd (l : List Nat) (s : State) (A : Nat) (hA : A < 0x38004) : (pmReaders l s).rd A = s.rd A := by
  have h0 : A ≠ (PM_STATUS__READ_BUSY).addr := by intros; simp only [PM_STATUS__READ_BUSY]; omega
  unfold pmReaders; (try simp [h0, hA]) <;> (repeat' split) <;> simp [h0, hA]

@[simp] theorem pmReadCommit_rd (c n : Nat) (e : ExecS) (s : State) (A : Nat) (hA : A < 0x8024) : (pmReadCommit c n e s).rd A = s.rd A := by
  have k0 : A < 0x38004 := by omega
  unfold pmReadCommit; (try simp [k0, hA]) <;> (repeat' split) <;> simp [k0, hA]

@[simp] theorem calDrop_rd (running : Bool) (s : State) (A : Nat) (hA : A < 0x60000) : (calDrop running s).rd A = s.rd A := by
  have h0 : A ≠ (VLT_STATUS__QUEUE).addr := by intros; simp only [VLT_STATUS__QUEUE]; omega
  unfold calDrop; (try simp [h0, hA]) <;> (repeat' split) <;> simp [h0, hA]

@[simp] theorem calEnd_rd (result : Nat) (s : State) (A : Nat) (hA : A < 0x38004) : (calEnd result s).rd A = s.rd A := by
  have h0 : A ≠ (PM_CAL_STATUS__PHASE).addr := by intros; simp only [PM_CAL_STATUS__PHASE]; omega
  have h1 : A ≠ (PM_CAL_STATUS__RESULT).addr := by intros; simp only [PM_CAL_STATUS__RESULT]; omega
  have k0 : A < 0x3802C := by omega
  have k1 : A < 0x60000 := by omega
  unfold calEnd; (try simp [h0, h1, k0, k1, hA]) <;> (repeat' split) <;> simp [h0, h1, k0, k1, hA]

@[simp] theorem calConvert_rd (j n phase : Nat) (s : State) (A : Nat) (hA : A < 0x38004) : (calConvert j n phase s).rd A = s.rd A := by
  have h0 : A ≠ (PM_CAL_STATUS__PHASE).addr := by intros; simp only [PM_CAL_STATUS__PHASE]; omega
  unfold calConvert; (try simp [h0, hA]) <;> (repeat' split) <;> simp [h0, hA]

@[simp] theorem calZero_rd (j n : Nat) (s : State) (A : Nat) (hA : A < 0x38004) : (calZero j n s).rd A = s.rd A := by
  unfold calZero; (try simp [hA]) <;> (repeat' split) <;> simp [hA]

@[simp] theorem calFull_rd (j n : Nat) (s : State) (A : Nat) (hA : A < 0x38004) : (calFull j n s).rd A = s.rd A := by
  unfold calFull; (try simp [hA]) <;> (repeat' split) <;> simp [hA]

@[simp] theorem piEvent_rd (n b detail : Nat) (s : State) (A : Nat) (hA : A < 0x40058) : (piEvent n b detail s).rd A = s.rd A := by
  have h0 : ∀ (i : Nat), A ≠ (PI_EVENT__EDGE_RATE i).addr := by intros; simp only [PI_EVENT__EDGE_RATE]; omega
  have h1 : ∀ (i : Nat), A ≠ (PI_EVENT__EVT i).addr := by intros; simp only [PI_EVENT__EVT]; omega
  have k0 : A < 0x78000 := by omega
  unfold piEvent; (try simp [h0, h1, k0, hA]) <;> (repeat' split) <;> simp [h0, h1, k0, hA]

@[simp] theorem posInvalid_rd (n cause : Nat) (s : State) (A : Nat) (hA : A < 0x4004C) : (posInvalid n cause s).rd A = s.rd A := by
  have h0 : ∀ (i : Nat), A ≠ (PI_STATUS__INDEX_SEEN i).addr := by intros; simp only [PI_STATUS__INDEX_SEEN]; omega
  have h1 : ∀ (i : Nat), A ≠ (PI_STATUS__POS_VALID i).addr := by intros; simp only [PI_STATUS__POS_VALID]; omega
  have k0 : A < 0x40058 := by omega
  unfold posInvalid; (try simp [h0, h1, k0, hA]) <;> (repeat' split) <;> simp [h0, h1, k0, hA]

@[simp] theorem edgeRate_rd (n cause : Nat) (s : State) (A : Nat) (hA : A < 0x4004C) : (edgeRate n cause s).rd A = s.rd A := by
  have h0 : ∀ (i : Nat), A ≠ (PI_STATUS__RATE_CAUSE i).addr := by intros; simp only [PI_STATUS__RATE_CAUSE]; omega
  have h1 : ∀ (i : Nat), A ≠ (PI_STATUS__SPD_VALID i).addr := by intros; simp only [PI_STATUS__SPD_VALID]; omega
  have k0 : A < 0x40058 := by omega
  unfold edgeRate; (try simp [h0, h1, k0, hA]) <;> (repeat' split) <;> simp [h0, h1, k0, hA]

@[simp] theorem piPo_rd (n : Nat) (s : State) (A : Nat) (hA : A < 0x10000) : (piPo n s).rd A = s.rd A := by
  unfold piPo; (try simp [hA]) <;> (repeat' split) <;> simp [hA]

@[simp] theorem piAngleUpdate_rd (n : Nat) (s : State) (A : Nat) (hA : A < 0x40044) : (piAngleUpdate n s).rd A = s.rd A := by
  have h0 : ∀ (i : Nat), A ≠ (PI_ANGLE__ANGLE i).addr := by intros; simp only [PI_ANGLE__ANGLE]; omega
  unfold piAngleUpdate; (try simp [h0, hA]) <;> (repeat' split) <;> simp [h0, hA]

@[simp] theorem piCountPut_rd (n : Nat) (c : Int) (s : State) (A : Nat) (hA : A < 0x40040) : (piCountPut n c s).rd A = s.rd A := by
  have h0 : ∀ (i : Nat), A ≠ (PI_CNT__COUNT i).addr := by intros; simp only [PI_CNT__COUNT]; omega
  have h1 : ∀ (i : Nat), A ≠ (PI_STATUS__AT_LIMIT i).addr := by intros; simp only [PI_STATUS__AT_LIMIT]; omega
  have k0 : A < 0x40044 := by omega
  have k1 : A < 0x4004C := by omega
  have k2 : A < 0x40058 := by omega
  unfold piCountPut; (try simp [h0, h1, k0, k1, k2, hA]) <;> (repeat' split) <;> simp [h0, h1, k0, k1, k2, hA]

@[simp] theorem posValid_rd (n : Nat) (s : State) (A : Nat) (hA : A < 0x4004C) : (posValid n s).rd A = s.rd A := by
  have h0 : ∀ (i : Nat), A ≠ (PI_STATUS__POS_VALID i).addr := by intros; simp only [PI_STATUS__POS_VALID]; omega
  unfold posValid; (try simp [h0, hA]) <;> (repeat' split) <;> simp [h0, hA]

@[simp] theorem posFound_rd (n : Nat) (s : State) (A : Nat) (hA : A < 0x4004C) : (posFound n s).rd A = s.rd A := by
  have h0 : ∀ (i : Nat), A ≠ (PI_STATUS__POS_VALID i).addr := by intros; simp only [PI_STATUS__POS_VALID]; omega
  unfold posFound; (try simp [h0, hA]) <;> (repeat' split) <;> simp [h0, hA]

@[simp] theorem piMotion_rd (n now : Nat) (dc : Int) (edge : Bool) (s : State) (A : Nat) (hA : A < 0x40048) : (piMotion n now dc edge s).rd A = s.rd A := by
  have h0 : ∀ (i : Nat), A ≠ (PI_SPEED__SPEED i).addr := by intros; simp only [PI_SPEED__SPEED]; omega
  have h1 : ∀ (i : Nat), A ≠ (PI_STATUS__DIR i).addr := by intros; simp only [PI_STATUS__DIR]; omega
  have h2 : ∀ (i : Nat), A ≠ (PI_TIME__TIME i).addr := by intros; simp only [PI_TIME__TIME]; omega
  have k0 : A < 0x4004C := by omega
  unfold piMotion; (try simp [h0, h1, h2, k0, hA]) <;> (repeat' split) <;> simp [h0, h1, h2, k0, hA]

@[simp] theorem piCountStep_rd (n now : Nat) (dc : Int) (edge : Bool) (s : State) (A : Nat) (hA : A < 0x40040) : (piCountStep n now dc edge s).rd A = s.rd A := by
  have k0 : A < 0x40048 := by omega
  unfold piCountStep; (try simp [k0, hA]) <;> (repeat' split) <;> simp [k0, hA]

@[simp] theorem piIndex_rd (n : Nat) (s : State) (A : Nat) (hA : A < 0x40040) : (piIndex n s).rd A = s.rd A := by
  have h0 : ∀ (i : Nat), A ≠ (PI_COUNTS__INDEX_ERR i).addr := by intros; simp only [PI_COUNTS__INDEX_ERR]; omega
  have h1 : ∀ (i : Nat), A ≠ (PI_STATUS__INDEX_SEEN i).addr := by intros; simp only [PI_STATUS__INDEX_SEEN]; omega
  have k0 : A < 0x4004C := by omega
  have k1 : A < 0x40058 := by omega
  unfold piIndex; (try simp [h0, h1, k0, k1, hA]) <;> (repeat' split) <;> simp [h0, h1, k0, k1, hA]

@[simp] theorem piLevels_rd (n abz : Nat) (s : State) (A : Nat) (hA : A < 0x40040) : (piLevels n abz s).rd A = s.rd A := by
  have h0 : ∀ (i : Nat), A ≠ (PI_STATUS__ABZ i).addr := by intros; simp only [PI_STATUS__ABZ]; omega
  unfold piLevels; (try simp [h0, hA]) <;> (repeat' split) <;> simp [h0, hA]

@[simp] theorem ssiReject_rd (n : Nat) (s : State) (A : Nat) (hA : A < 0x4004C) : (ssiReject n s).rd A = s.rd A := by
  unfold ssiReject; (try simp [hA]) <;> (repeat' split) <;> simp [hA]

@[simp] theorem piCntWrite_rd (n : Nat) (v : Word) (s : State) (A : Nat) (hA : A < 0x10000) : (piCntWrite n v s).rd A = s.rd A := by
  have k0 : A < 0x40040 := by omega
  have k1 : A < 0x4004C := by omega
  unfold piCntWrite; (try simp [k0, k1, hA]) <;> (repeat' split) <;> simp [k0, k1, hA]

@[simp] theorem piClockStop_rd (s : State) (A : Nat) (hA : A < 0x10000) : (piClockStop s).rd A = s.rd A := by
  have k0 : A < 0x4004C := by omega
  unfold piClockStop; (try simp [k0, hA]) <;> (repeat' split) <;> simp [k0, hA]

@[simp] theorem piModeChange_rd (n : Nat) (s : State) (A : Nat) (hA : A < 0x10000) : (piModeChange n s).rd A = s.rd A := by
  have h0 : ∀ (i : Nat), A ≠ (PI_SPEED__SPEED i).addr := by intros; simp only [PI_SPEED__SPEED]; omega
  have h1 : ∀ (i : Nat), A ≠ (PI_STATUS__SPD_VALID i).addr := by intros; simp only [PI_STATUS__SPD_VALID]; omega
  have k0 : A < 0x40044 := by omega
  have k1 : A < 0x4004C := by omega
  unfold piModeChange; (try simp [h0, h1, k0, k1, hA]) <;> (repeat' split) <;> simp [h0, h1, k0, k1, hA]

@[simp] theorem safRefresh_rd (s : State) (A : Nat) (hA : A < 0x10000) : (safRefresh s).rd A = s.rd A := by
  have h0 : ∀ (i : Nat), A ≠ (SAF_AX_STAT__CT_FLT i).addr := by intros; simp only [SAF_AX_STAT__CT_FLT]; omega
  have h1 : ∀ (i : Nat), A ≠ (SAF_AX_STAT__STO i).addr := by intros; simp only [SAF_AX_STAT__STO]; omega
  unfold safRefresh; (try simp [h0, h1, hA]) <;> (repeat' split) <;> simp [h0, h1, hA]

@[simp] theorem spbMatch_rd (s : State) (A : Nat) (hA : A < 0x48000) : (spbMatch s).rd A = s.rd A := by
  have h0 : A ≠ (SAF_STATUS__SPB_MATCH).addr := by intros; simp only [SAF_STATUS__SPB_MATCH]; omega
  unfold spbMatch; (try simp [h0, hA]) <;> (repeat' split) <;> simp [h0, hA]

@[simp] theorem spbCompute_rd (s : State) (A : Nat) (hA : A < 0x48000) : (spbCompute s).rd A = s.rd A := by
  have h0 : A ≠ (SAF_SPB_CRC) := by intros; simp only [SAF_SPB_CRC]; omega
  have h1 : A ≠ (SAF_STATUS__CRC_VALID).addr := by intros; simp only [SAF_STATUS__CRC_VALID]; omega
  unfold spbCompute; (try simp [h0, h1, hA]) <;> (repeat' split) <;> simp [h0, h1, hA]

@[simp] theorem ctFeedback_rd (s : State) (A : Nat) (hA : A < 0x48018) : (ctFeedback s).rd A = s.rd A := by
  have h0 : A ≠ (SAF_CT_STAT__FB).addr := by intros; simp only [SAF_CT_STAT__FB]; omega
  unfold ctFeedback; (try simp [h0, hA]) <;> (repeat' split) <;> simp [h0, hA]

@[simp] theorem ctDrive_rd (k : Nat) (close : Bool) (s : State) (A : Nat) (hA : A < 0x48018) : (ctDrive k close s).rd A = s.rd A := by
  have h0 : A ≠ (SAF_CT_STAT__CMD).addr := by intros; simp only [SAF_CT_STAT__CMD]; omega
  unfold ctDrive; (try simp [h0, hA]) <;> (repeat' split) <;> simp [h0, hA]

@[simp] theorem preEnd_rd (g : Nat) (s : State) (A : Nat) (hA : A < 0x48018) : (preEnd g s).rd A = s.rd A := by
  have h0 : A ≠ (SAF_CT_STAT__PRE_BUSY).addr := by intros; simp only [SAF_CT_STAT__PRE_BUSY]; omega
  unfold preEnd; (try simp [h0, hA]) <;> (repeat' split) <;> simp [h0, hA]

@[simp] theorem preEval_rd (g : Nat) (s : State) (A : Nat) (hA : A < 0x48010) : (preEval g s).rd A = s.rd A := by
  have k0 : A < 0x48018 := by omega
  unfold preEval; (try simp [k0, hA]) <;> (repeat' split) <;> simp [k0, hA]

@[simp] theorem preAll_rd (s : State) (A : Nat) (hA : A < 0x48010) : (preAll s).rd A = s.rd A := by
  unfold preAll; (try simp [hA]) <;> (repeat' split) <;> simp [hA]

@[simp] theorem ctClose_rd (k : Nat) (s : State) (A : Nat) (hA : A < 0x48010) : (ctClose k s).rd A = s.rd A := by
  have h0 : A ≠ (SAF_CT_STAT__PRE_BUSY).addr := by intros; simp only [SAF_CT_STAT__PRE_BUSY]; omega
  have k0 : A < 0x48018 := by omega
  unfold ctClose; (try simp [h0, k0, hA]) <;> (repeat' split) <;> simp [h0, k0, hA]

@[simp] theorem ctOpen_rd (k : Nat) (s : State) (A : Nat) (hA : A < 0x48010) : (ctOpen k s).rd A = s.rd A := by
  have k0 : A < 0x48018 := by omega
  unfold ctOpen; (try simp [k0, hA]) <;> (repeat' split) <;> simp [k0, hA]

@[simp] theorem disRequest_rd (g : Nat) (s : State) (A : Nat) (hA : A < 0x48010) : (disRequest g s).rd A = s.rd A := by
  have k0 : A < 0x4801C := by omega
  unfold disRequest; (try simp [k0, hA]) <;> (repeat' split) <;> simp [k0, hA]

@[simp] theorem stoAct_rd (s : State) (A : Nat) (hA : A < 0x2010) : (stoAct s).rd A = s.rd A := by
  have k0 : A < 0x10000 := by omega
  have k1 : A < 0x48010 := by omega
  have k2 : A < 0x48018 := by omega
  unfold stoAct; (try simp [k0, k1, k2, hA]) <;> (repeat' split) <;> simp [k0, k1, k2, hA]

@[simp] theorem stoEval_rd (s : State) (A : Nat) (hA : A < 0x2010) : (stoEval s).rd A = s.rd A := by
  have h0 : A ≠ (SAF_STATUS__STO_ACT).addr := by intros; simp only [SAF_STATUS__STO_ACT]; omega
  have k0 : A < 0x10000 := by omega
  have k1 : A < 0x48010 := by omega
  unfold stoEval; (try simp [h0, k0, k1, hA]) <;> (repeat' split) <;> simp [h0, k0, k1, hA]

@[simp] theorem ss1Sto_rd (a : Nat) (s : State) (A : Nat) (hA : A < 0x2010) : (ss1Sto a s).rd A = s.rd A := by
  have h0 : ∀ (i : Nat), A ≠ (SAF_AX_STAT__SS1 i).addr := by intros; simp only [SAF_AX_STAT__SS1]; omega
  have h1 : ∀ (i : Nat), A ≠ (SAF_AX_STAT__SS1_STO i).addr := by intros; simp only [SAF_AX_STAT__SS1_STO]; omega
  have k0 : A < 0x10000 := by omega
  have k1 : A < 0x48010 := by omega
  unfold ss1Sto; (try simp [h0, h1, k0, k1, hA]) <;> (repeat' split) <;> simp [h0, h1, k0, k1, hA]

@[simp] theorem ss1Release_rd (a : Nat) (s : State) (A : Nat) (hA : A < 0x10000) : (ss1Release a s).rd A = s.rd A := by
  have h0 : ∀ (i : Nat), A ≠ (SAF_AX_STAT__SS1 i).addr := by intros; simp only [SAF_AX_STAT__SS1]; omega
  have h1 : ∀ (i : Nat), A ≠ (SAF_AX_STAT__SS1_STO i).addr := by intros; simp only [SAF_AX_STAT__SS1_STO]; omega
  have k0 : A < 0x48010 := by omega
  unfold ss1Release; (try simp [h0, h1, k0, hA]) <;> (repeat' split) <;> simp [h0, h1, k0, hA]

@[simp] theorem ss1Eval_rd (a : Nat) (s : State) (A : Nat) (hA : A < 0x2010) : (ss1Eval a s).rd A = s.rd A := by
  have h0 : ∀ (i : Nat), A ≠ (SAF_AX_STAT__SS1 i).addr := by intros; simp only [SAF_AX_STAT__SS1]; omega
  have k0 : A < 0x10000 := by omega
  have k1 : A < 0x10040 := by omega
  have k2 : A < 0x48010 := by omega
  unfold ss1Eval; (try simp [h0, k0, k1, k2, hA]) <;> (repeat' split) <;> simp [h0, k0, k1, k2, hA]

@[simp] theorem ov1Put_rd (g : Nat) (v : Bool) (s : State) (A : Nat) (hA : A < 0x48010) : (ov1Put g v s).rd A = s.rd A := by
  have k0 : A < 0x4801C := by omega
  unfold ov1Put; (try simp [k0, hA]) <;> (repeat' split) <;> simp [k0, hA]

@[simp] theorem reSafe_rd (a : Nat) (s : State) (A : Nat) (hA : A < 0x10000) : (reSafe a s).rd A = s.rd A := by
  unfold reSafe; (try simp [hA]) <;> (repeat' split) <;> simp [hA]

@[simp] theorem ov2Show_rd (s : State) (A : Nat) (hA : A < 0x10000) : (ov2Show s).rd A = s.rd A := by
  have h0 : ∀ (i : Nat), A ≠ (SAF_AX_STAT__OV2 i).addr := by intros; simp only [SAF_AX_STAT__OV2]; omega
  unfold ov2Show; (try simp [h0, hA]) <;> (repeat' split) <;> simp [h0, hA]

@[simp] theorem ov2End_rd (g : Nat) (s : State) (A : Nat) (hA : A < 0x10000) : (ov2End g s).rd A = s.rd A := by
  have k0 : A < 0x48010 := by omega
  have k1 : A < 0x4801C := by omega
  unfold ov2End; (try simp [k0, k1, hA]) <;> (repeat' split) <;> simp [k0, k1, hA]

@[simp] theorem disarmKey_rd (s : State) (A : Nat) (hA : A < 0x10000) : (disarmKey s).1.rd A = s.rd A := by
  have h0 : A ≠ (SAF_STATUS__ARMED).addr := by intros; simp only [SAF_STATUS__ARMED]; omega
  have h1 : A ≠ (SAF_STATUS__ARM_REFUSE).addr := by intros; simp only [SAF_STATUS__ARM_REFUSE]; omega
  have k0 : A < 0x48010 := by omega
  have k1 : A < 0x48018 := by omega
  have k2 : A < 0x4801C := by omega
  have k3 : A < 0x48040 := by omega
  unfold disarmKey; (try simp [h0, h1, k0, k1, k2, k3, hA]) <;> (repeat' split) <;> simp [h0, h1, k0, k1, k2, k3, hA]

@[simp] theorem safClear_rd (s : State) (A : Nat) (hA : A < 0x10000) : (safClear s).rd A = s.rd A := by
  have h0 : A ≠ (SAF_CT_STAT__FAULT).addr := by intros; simp only [SAF_CT_STAT__FAULT]; omega
  have h1 : A ≠ (SAF_STATUS__STO_DISC).addr := by intros; simp only [SAF_STATUS__STO_DISC]; omega
  have k0 : A < 0x4801C := by omega
  unfold safClear; (try simp [h0, h1, k0, hA]) <;> (repeat' split) <;> simp [h0, h1, k0, hA]

@[simp] theorem copyLost_rd (k : Nat) (wb : Bool) (s : State) (A : Nat) (hA : A < 0x10000) : (copyLost k wb s).rd A = s.rd A := by
  unfold copyLost; (try simp [hA]) <;> (repeat' split) <;> simp [hA]

@[simp] theorem voteClear_rd (kind u : Nat) (s : State) (A : Nat) : (voteClear kind u s).rd A = s.rd A := by
  unfold voteClear; (try simp []) <;> (repeat' split) <;> simp []

@[simp] theorem dinFeed_rd (d : Nat) (s : State) (A : Nat) (hA : A < 0x2010) : (dinFeed d s).rd A = s.rd A := by
  have e1 : ∀ n s, (wake n s).rd A = s.rd A := fun n s => wake_rd n s A (by omega)
  have e2 : ∀ n s, (catchTrigger n s).rd A = s.rd A := fun n s => catchTrigger_rd n s A (by omega)
  have e3 : ∀ n s, (ss1Eval n s).rd A = s.rd A := fun n s => ss1Eval_rd n s A (by omega)
  have e4 : ∀ n s, (disRequest n s).rd A = s.rd A := fun n s => disRequest_rd n s A (by omega)
  unfold dinFeed; simp [e1, e2, e3, e4]

@[simp] theorem dinCommit_rd (d : Nat) (s : State) (A : Nat) (hA : A < 0x2010) : (dinCommit d s).rd A = s.rd A := by
  have h0 : A ≠ (DIN_EDGE__EDGE).addr := by intros; simp only [DIN_EDGE__EDGE]; omega
  have h1 : A ≠ (DIN_LEVEL__LEVEL).addr := by intros; simp only [DIN_LEVEL__LEVEL]; omega
  have h2 : A ≠ (DIN_STALE__STALE).addr := by intros; simp only [DIN_STALE__STALE]; omega
  unfold dinCommit; (try simp [h0, h1, h2, hA]) <;> (repeat' split) <;> simp [h0, h1, h2, hA]

@[simp] theorem dmaSet_rd (n st cause : Nat) (s : State) (A : Nat) (hA : A < 0x90004) : (dmaSet n st cause s).rd A = s.rd A := by
  have h0 : ∀ (i : Nat), A ≠ (DMA_CH_STATE__PAUSE_CAUSE i).addr := by intros; simp only [DMA_CH_STATE__PAUSE_CAUSE]; omega
  have h1 : ∀ (i : Nat), A ≠ (DMA_CH_STATE__STATE i).addr := by intros; simp only [DMA_CH_STATE__STATE]; omega
  have h2 : A ≠ (DMA_GLOBAL_STATUS__ACTIVE).addr := by intros; simp only [DMA_GLOBAL_STATUS__ACTIVE]; omega
  have h3 : A ≠ (DMA_GLOBAL_STATUS__HALTED).addr := by intros; simp only [DMA_GLOBAL_STATUS__HALTED]; omega
  unfold dmaSet; (try simp [h0, h1, h2, h3, hA]) <;> (repeat' split) <;> simp [h0, h1, h2, h3, hA]

@[simp] theorem dmaCurSet_rd (n a : Nat) (s : State) (A : Nat) (hA : A < 0x90114) : (dmaCurSet n a s).rd A = s.rd A := by
  have h0 : ∀ (i : Nat), A ≠ (DMA_CH_CUR_HI i) := by intros; simp only [DMA_CH_CUR_HI]; omega
  have h1 : ∀ (i : Nat), A ≠ (DMA_CH_CUR_LO i) := by intros; simp only [DMA_CH_CUR_LO]; omega
  unfold dmaCurSet; (try simp [h0, h1, hA]) <;> (repeat' split) <;> simp [h0, h1, hA]

@[simp] theorem dmaEvent_rd (n b : Nat) (detail : Nat) (s : State) (A : Nat) (hA : A < 0x78000) : (dmaEvent n b detail s).rd A = s.rd A := by
  have h0 : ∀ (i : Nat), A ≠ (DMA_CH_EVENT i) := by intros; simp only [DMA_CH_EVENT]; omega
  unfold dmaEvent; (try simp [h0, hA]) <;> (repeat' split) <;> simp [h0, hA]

@[simp] theorem dmaClear_rd (n port : Nat) (s : State) (A : Nat) : (dmaClear n port s).rd A = s.rd A := by
  unfold dmaClear; (try simp []) <;> (repeat' split) <;> simp []

@[simp] theorem dmaPause_rd (n cause : Nat) (s : State) (A : Nat) (hA : A < 0x78000) : (dmaPause n cause s).rd A = s.rd A := by
  have k0 : A < 0x90004 := by omega
  unfold dmaPause; (try simp [k0, hA]) <;> (repeat' split) <;> simp [k0, hA]

@[simp] theorem dmaIdle_rd (n : Nat) (s : State) (A : Nat) (hA : A < 0x90004) : (dmaIdle n s).rd A = s.rd A := by
  unfold dmaIdle; (try simp [hA]) <;> (repeat' split) <;> simp [hA]

@[simp] theorem dmaFetch_rd (n : Nat) (s : State) (A : Nat) (hA : A < 0x90004) : (dmaFetch n s).rd A = s.rd A := by
  unfold dmaFetch; (try simp [hA]) <;> (repeat' split) <;> simp [hA]

@[simp] theorem dmaGo_rd (n a : Nat) (s : State) (A : Nat) (hA : A < 0x90004) : (dmaGo n a s).rd A = s.rd A := by
  have h0 : ∀ (i : Nat), A ≠ (DMA_CH_BADCNT__BAD i).addr := by intros; simp only [DMA_CH_BADCNT__BAD]; omega
  have h1 : ∀ (i : Nat), A ≠ (DMA_CH_LAST__VALID i).addr := by intros; simp only [DMA_CH_LAST__VALID]; omega
  have k0 : A < 0x90114 := by omega
  unfold dmaGo; (try simp [h0, h1, k0, hA]) <;> (repeat' split) <;> simp [h0, h1, k0, hA]

@[simp] theorem dmaStart_rd (n : Nat) (s : State) (A : Nat) (hA : A < 0x90004) : (dmaStart n s).rd A = s.rd A := by
  unfold dmaStart; (try simp [hA]) <;> (repeat' split) <;> simp [hA]

@[simp] theorem dmaFin_rd (n code detail : Nat) (s : State) (A : Nat) : (dmaFin n code detail s).rd A = s.rd A := by
  unfold dmaFin; (try simp []) <;> (repeat' split) <;> simp []

@[simp] theorem dmaBoundary_rd (n : Nat) (s : State) (A : Nat) : (dmaBoundary n s).rd A = s.rd A := by
  unfold dmaBoundary; (try simp []) <;> (repeat' split) <;> simp []

@[simp] theorem dmaListRequest_rd (n a bytes : Nat) (s : State) (A : Nat) : (dmaListRequest n a bytes s).rd A = s.rd A := by
  unfold dmaListRequest; (try simp []) <;> (repeat' split) <;> simp []

@[simp] theorem dmaAsk_rd (n : Nat) (s : State) (A : Nat) : (dmaAsk n s).rd A = s.rd A := by
  unfold dmaAsk; (try simp []) <;> (repeat' split) <;> simp []

@[simp] theorem dmaTurn_rd (n : Nat) (s : State) (A : Nat) : (dmaTurn n s).rd A = s.rd A := by
  unfold dmaTurn; (try simp []) <;> (repeat' split) <;> simp []

@[simp] theorem dmaTurns_rd (n : Nat) (s : State) (A : Nat) : (dmaTurns n s).rd A = s.rd A := by
  induction n generalizing s with
  | zero => rfl
  | succ n ih =>
    have h : ∀ k, (dmaTurns n (dmaTurn k s)).rd A = s.rd A := by intro k; simp [ih]
    unfold dmaTurns
    cases s.dmaNext with
    | none => rfl
    | some k => exact h k

@[simp] theorem dmaServe_rd (s : State) (A : Nat) : (dmaServe s).rd A = s.rd A := by
  unfold dmaServe; (try simp []) <;> (repeat' split) <;> simp []

@[simp] theorem dmaBegin_rd (n : Nat) (l : List Word) (s : State) (A : Nat) : (dmaBegin n l s).rd A = s.rd A := by
  unfold dmaBegin; (try simp []) <;> (repeat' split) <;> simp []

@[simp] theorem dmaUnread_rd (n : Nat) (s : State) (A : Nat) (hA : A < 0x78000) : (dmaUnread n s).rd A = s.rd A := by
  have k0 : A < 0x90004 := by omega
  unfold dmaUnread; (try simp [k0, hA]) <;> (repeat' split) <;> simp [k0, hA]

@[simp] theorem dmaElemEnd_rd (n : Nat) (s : State) (A : Nat) (hA : A < 0x80004) : (dmaElemEnd n s).rd A = s.rd A := by
  unfold dmaElemEnd; (try simp [hA]) <;> (repeat' split) <;> simp [hA]

@[simp] theorem dmaCommitted_rd (n : Nat) (ok : Bool) (s : State) (A : Nat) (hA : A < 0x80004) : (dmaCommitted n ok s).rd A = s.rd A := by
  unfold dmaCommitted; (try simp [hA]) <;> (repeat' split) <;> simp [hA]

@[simp] theorem dmaBankPartial_rd (n code : Nat) (s : State) (A : Nat) (hA : A < 0x100A0) : (dmaBankPartial n code s).rd A = s.rd A := by
  unfold dmaBankPartial; (try simp [hA]) <;> (repeat' split) <;> simp [hA]

@[simp] theorem dmaEnded_rd (n code detail : Nat) (s : State) (A : Nat) (hA : A < 0x100A0) : (dmaEnded n code detail s).rd A = s.rd A := by
  have h0 : ∀ (i : Nat), A ≠ (DMA_CH_BADCNT__BAD i).addr := by intros; simp only [DMA_CH_BADCNT__BAD]; omega
  have h1 : ∀ (i : Nat), A ≠ (DMA_CH_LAST__CODE i).addr := by intros; simp only [DMA_CH_LAST__CODE]; omega
  have h2 : ∀ (i : Nat), A ≠ (DMA_CH_LAST__DETAIL i).addr := by intros; simp only [DMA_CH_LAST__DETAIL]; omega
  have h3 : ∀ (i : Nat), A ≠ (DMA_CH_LAST__DONE i).addr := by intros; simp only [DMA_CH_LAST__DONE]; omega
  have h4 : ∀ (i : Nat), A ≠ (DMA_CH_LAST__VALID i).addr := by intros; simp only [DMA_CH_LAST__VALID]; omega
  have k0 : A < 0x78000 := by omega
  have k1 : A < 0x80004 := by omega
  unfold dmaEnded; (try simp [h0, h1, h2, h3, h4, k0, k1, hA]) <;> (repeat' split) <;> simp [h0, h1, h2, h3, h4, k0, k1, hA]

@[simp] theorem dmaListWrite_rd (n a : Nat) (w : Word) (s : State) (A : Nat) : (dmaListWrite n a w s).rd A = s.rd A := by
  unfold dmaListWrite; (try simp []) <;> (repeat' split) <;> simp []

@[simp] theorem dmaStopReq_rd (n kind : Nat) (s : State) (A : Nat) (hA : A < 0x78000) : (dmaStopReq n kind s).rd A = s.rd A := by
  have k0 : A < 0x90004 := by omega
  unfold dmaStopReq; (try simp [k0, hA]) <;> (repeat' split) <;> simp [k0, hA]

@[simp] theorem dmaStop_rd (n : Nat) (s : State) (A : Nat) (hA : A < 0x78000) : (dmaStop n s).rd A = s.rd A := by
  unfold dmaStop; (try simp [hA]) <;> (repeat' split) <;> simp [hA]

@[simp] theorem dmaReset_rd (n : Nat) (s : State) (A : Nat) (hA : A < 0x78000) : (dmaReset n s).rd A = s.rd A := by
  have k0 : A < 0x90004 := by omega
  unfold dmaReset; (try simp [k0, hA]) <;> (repeat' split) <;> simp [k0, hA]

@[simp] theorem dmaResume_rd (n : Nat) (s : State) (A : Nat) (hA : A < 0x78000) : (dmaResume n s).rd A = s.rd A := by
  have k0 : A < 0x90004 := by omega
  have k1 : A < 0x90114 := by omega
  unfold dmaResume; (try simp [k0, k1, hA]) <;> (repeat' split) <;> simp [k0, k1, hA]

@[simp] theorem dmaCtrl_rd (n : Nat) (v : Word) (s : State) (A : Nat) (hA : A < 0x78000) : (dmaCtrl n v s).rd A = s.rd A := by
  have k0 : A < 0x90004 := by omega
  unfold dmaCtrl; (try simp [k0, hA]) <;> (repeat' split) <;> simp [k0, hA]

@[simp] theorem dmaHostLoss_rd (p : Nat) (s : State) (A : Nat) (hA : A < 0x100A0) : (dmaHostLoss p s).rd A = s.rd A := by
  have k0 : A < 0x78000 := by omega
  have k1 : A < 0x90004 := by omega
  unfold dmaHostLoss; (try simp [k0, k1, hA]) <;> (repeat' split) <;> simp [k0, k1, hA]

@[simp] theorem dmaOwnerChange_rd (n : Nat) (s : State) (A : Nat) (hA : A < 0x78000) : (dmaOwnerChange n s).rd A = s.rd A := by
  have k0 : A < 0x90004 := by omega
  unfold dmaOwnerChange; (try simp [k0, hA]) <;> (repeat' split) <;> simp [k0, hA]

@[simp] theorem dmaSetAside_rd (s : State) (A : Nat) (hA : A < 0x50000) : (dmaSetAside s).rd A = s.rd A := by
  have h0 : A ≠ (RED_STATUS__DMA_OUT).addr := by intros; simp only [RED_STATUS__DMA_OUT]; omega
  have k0 : A < 0x90004 := by omega
  unfold dmaSetAside; (try simp [h0, k0, hA]) <;> (repeat' split) <;> simp [h0, k0, hA]

@[simp] theorem dmaReturn_rd (s : State) (A : Nat) (hA : A < 0x50000) : (dmaReturn s).rd A = s.rd A := by
  have h0 : A ≠ (RED_STATUS__DMA_OUT).addr := by intros; simp only [RED_STATUS__DMA_OUT]; omega
  have k0 : A < 0x90004 := by omega
  unfold dmaReturn; (try simp [h0, k0, hA]) <;> (repeat' split) <;> simp [h0, k0, hA]

@[simp] theorem vqShow_rd (s : State) (A : Nat) (hA : A < 0x60000) : (vqShow s).rd A = s.rd A := by
  have h0 : A ≠ (VLT_STATUS__QUEUE).addr := by intros; simp only [VLT_STATUS__QUEUE]; omega
  unfold vqShow; (try simp [h0, hA]) <;> (repeat' split) <;> simp [h0, hA]

@[simp] theorem ownRefuse_rd (addr code : Nat) (s : State) (A : Nat) (hA : A < 0x10C0) : (ownRefuse addr code s).rd A = s.rd A := by
  have h0 : A ≠ (HP_OWN_STATUS__LAST_REFUSE).addr := by intros; simp only [HP_OWN_STATUS__LAST_REFUSE]; omega
  have h1 : A ≠ (HP_OWN_STATUS__REFUSE_OFFSET).addr := by intros; simp only [HP_OWN_STATUS__REFUSE_OFFSET]; omega
  unfold ownRefuse; (try simp [h0, h1, hA]) <;> (repeat' split) <;> simp [h0, h1, hA]

@[simp] theorem dmaRefused_rd (n code : Nat) (s : State) (A : Nat) : (dmaRefused n code s).rd A = s.rd A := by
  unfold dmaRefused; (try simp []) <;> (repeat' split) <;> simp []

@[simp] theorem vqStart_rd (n : Nat) (s : State) (A : Nat) (hA : A < 0x10C0) : (vqStart n s).rd A = s.rd A := by
  have k0 : A < 0x60000 := by omega
  have k1 : A < 0x38000 := by omega
  induction n generalizing s with
  | zero => rfl
  | succ n ih =>
    unfold vqStart
    split
    · simp [k0]
    · simp only []
      split
      · rw [ih]; split <;> split <;> simp [hA, k0, k1]
      · simp [k0]

@[simp] theorem vqPush_rd (w : Nat) (v : Word) (ctx : Option Nat) (s : State) (A : Nat) (hA : A < 0x10C0) : (vqPush w v ctx s).rd A = s.rd A := by
  have k0 : A < 0x60000 := by omega
  unfold vqPush; (try simp [k0, hA]) <;> (repeat' split) <;> simp [k0, hA]

@[simp] theorem vltEvent_rd (b detail : Nat) (s : State) (A : Nat) (hA : A < 0x60008) : (vltEvent b detail s).rd A = s.rd A := by
  have h0 : A ≠ (VLT_EVENT__EVT).addr := by intros; simp only [VLT_EVENT__EVT]; omega
  have k0 : A < 0x78000 := by omega
  unfold vltEvent; (try simp [h0, k0, hA]) <;> (repeat' split) <;> simp [h0, k0, hA]

@[simp] theorem wearAdd_rd (w : Nat) (degraded : Option Bool) (s : State) (A : Nat) (hA : A < 0x60008) : (wearAdd w degraded s).rd A = s.rd A := by
  unfold wearAdd; (try simp [hA]) <;> (repeat' split) <;> simp [hA]

@[simp] theorem vaultPut_rd (a : Nat) (v : Word) (s : State) (A : Nat) (hA : A < 0x10C0) : (vaultPut a v s).rd A = s.rd A := by
  unfold vaultPut; (try simp [hA]) <;> (repeat' split) <;> simp [hA]

@[simp] theorem ovWrite_rd (g : Nat) (s : State) (A : Nat) (hA : A < 0x10C0) : (ovWrite g s).rd A = s.rd A := by
  unfold ovWrite; (try simp [hA]) <;> (repeat' split) <;> simp [hA]

@[simp] theorem armNow_rd (s : State) (A : Nat) (hA : A < 0x10C0) : (armNow s).rd A = s.rd A := by
  have h0 : A ≠ (SAF_STATUS__ARMED).addr := by intros; simp only [SAF_STATUS__ARMED]; omega
  have h1 : A ≠ (SAF_STATUS__ARM_REFUSE).addr := by intros; simp only [SAF_STATUS__ARM_REFUSE]; omega
  have k0 : A < 0x2010 := by omega
  have k1 : A < 0x48010 := by omega
  unfold armNow; (try simp [h0, h1, k0, k1, hA]) <;> (repeat' split) <;> simp [h0, h1, k0, k1, hA]

@[simp] theorem armKey_rd (s : State) (A : Nat) (hA : A < 0x10C0) : (armKey s).1.rd A = s.rd A := by
  have h0 : A ≠ (SAF_STATUS__ARM_REFUSE).addr := by intros; simp only [SAF_STATUS__ARM_REFUSE]; omega
  have k0 : A < 0x48010 := by omega
  unfold armKey; (try simp [h0, k0, hA]) <;> (repeat' split) <;> simp [h0, k0, hA]

@[simp] theorem armAtStart_rd (s : State) (A : Nat) (hA : A < 0x10C0) : (armAtStart s).rd A = s.rd A := by
  have k0 : A < 0x2010 := by omega
  have k1 : A < 0x48010 := by omega
  unfold armAtStart; (try simp [k0, k1, hA]) <;> (repeat' split) <;> simp [k0, k1, hA]

@[simp] theorem pairsShow_rd (s : State) (A : Nat) (hA : A < 0x50000) : (pairsShow s).rd A = s.rd A := by
  have h0 : A ≠ (RED_STATUS__NO_RESERVE).addr := by intros; simp only [RED_STATUS__NO_RESERVE]; omega
  have h1 : A ≠ (RED_STATUS__USABLE).addr := by intros; simp only [RED_STATUS__USABLE]; omega
  have h2 : ∀ (i : Nat), A ≠ (slotPair i).addr := by intros; simp only [slotPair, RED_SLOTS]; first | omega | (split <;> omega) | (split <;> simp only [] <;> omega) | (repeat' split) <;> simp only [] <;> omega
  unfold pairsShow; (try simp [h0, h1, h2, hA]) <;> (repeat' split) <;> simp [h0, h1, h2, hA]

@[simp] theorem coreRun_rd (n : Nat) (s : State) (A : Nat) : (coreRun n s).rd A = s.rd A := by
  unfold coreRun; (try simp []) <;> (repeat' split) <;> simp []

@[simp] theorem coreClear_rd (n : Nat) (s : State) (A : Nat) : (coreClear n s).rd A = s.rd A := by
  unfold coreClear; (try simp []) <;> (repeat' split) <;> simp []

@[simp] theorem pairHold_rd (n : Nat) (w : Option Nat) (s : State) (A : Nat) (hA : A < 0x50040) : (pairHold n w s).rd A = s.rd A := by
  have h0 : ∀ (i : Nat), A ≠ (RED_CP_STAT__HAS_SLOT i).addr := by intros; simp only [RED_CP_STAT__HAS_SLOT]; omega
  have h1 : ∀ (i : Nat), A ≠ (RED_CP_STAT__SLOT i).addr := by intros; simp only [RED_CP_STAT__SLOT]; omega
  unfold pairHold; (try simp [h0, h1, hA]) <;> (repeat' split) <;> simp [h0, h1, hA]

@[simp] theorem pairReserve_rd (n : Nat) (s : State) (A : Nat) (hA : A < 0x50000) : (pairReserve n s).rd A = s.rd A := by
  have h0 : ∀ (i : Nat), A ≠ (RED_CP_STAT__STATE i).addr := by intros; simp only [RED_CP_STAT__STATE]; omega
  have h1 : ∀ (i : Nat), A ≠ (slotPair i).addr := by intros; simp only [slotPair, RED_SLOTS]; first | omega | (split <;> omega) | (split <;> simp only [] <;> omega) | (repeat' split) <;> simp only [] <;> omega
  unfold pairReserve; (try simp [h0, h1, hA]) <;> (repeat' split) <;> simp [h0, h1, hA]

@[simp] theorem cacheWays_rd (n : Nat) (s : State) (A : Nat) (hA : A < 0x50040) : (cacheWays n s).rd A = s.rd A := by
  have h0 : ∀ (i : Nat), A ≠ (RED_CP_STAT__D_WAYS i).addr := by intros; simp only [RED_CP_STAT__D_WAYS]; omega
  have h1 : ∀ (i : Nat), A ≠ (RED_CP_STAT__I_WAYS i).addr := by intros; simp only [RED_CP_STAT__I_WAYS]; omega
  unfold cacheWays; (try simp [h0, h1, hA]) <;> (repeat' split) <;> simp [h0, h1, hA]

@[simp] theorem assignSlots_rd (s : State) (A : Nat) (hA : A < 0x50000) : (assignSlots s).rd A = s.rd A := by
  have h0 : ∀ (i : Nat), A ≠ (RED_CP_STAT__STATE i).addr := by intros; simp only [RED_CP_STAT__STATE]; omega
  have h1 : ∀ (i : Nat), A ≠ (slotPair i).addr := by intros; simp only [slotPair, RED_SLOTS]; omega
  have e1 : ∀ s, (pairsShow s).rd A = s.rd A := fun s => pairsShow_rd s A (by omega)
  have e2 : ∀ n w s, (pairHold n w s).rd A = s.rd A := fun n w s => pairHold_rd n w s A (by omega)
  unfold assignSlots; simp only []
  split <;> simp only [e1, rd_put_ite, h0, h1, if_false] <;> rw [each_rd, each_rd] <;> intros <;> (try split) <;> simp [e2, h0, h1]

@[simp] theorem ckptWrite_rd (w c : Nat) (arch : List Word) (s : State) (A : Nat) (hA : A < 0x50200) : (ckptWrite w c arch s).rd A = s.rd A := by
  have h0 : ∀ (i : Nat), A ≠ (RED_WS_CKPT__NEWEST i).addr := by intros; simp only [RED_WS_CKPT__NEWEST]; omega
  have h1 : ∀ (i : Nat) (j : Nat), A ≠ (ckptGood i j).addr := by intros; simp only [ckptGood, RED_WS_CKPT__GOOD_A, RED_WS_CKPT__GOOD_B]; first | omega | (split <;> omega) | (split <;> simp only [] <;> omega) | (repeat' split) <;> simp only [] <;> omega
  unfold ckptWrite; (try simp [h0, h1, hA]) <;> (repeat' split) <;> simp [h0, h1, hA]

@[simp] theorem ckptTake_rd (n : Nat) (whole : Bool) (s : State) (A : Nat) (hA : A < 0x50200) : (ckptTake n whole s).rd A = s.rd A := by
  have h0 : ∀ (i : Nat), A ≠ (RED_WS_CKPT__COUNT i).addr := by intros; simp only [RED_WS_CKPT__COUNT]; omega
  have h1 : ∀ (i : Nat) (j : Nat), A ≠ (ckptGood i j).addr := by intros; simp only [ckptGood, RED_WS_CKPT__GOOD_A, RED_WS_CKPT__GOOD_B]; first | omega | (split <;> omega) | (split <;> simp only [] <;> omega) | (repeat' split) <;> simp only [] <;> omega
  unfold ckptTake; (try simp [h0, h1, hA]) <;> (repeat' split) <;> simp [h0, h1, hA]

@[simp] theorem ckptApply_rd (w c n : Nat) (s : State) (A : Nat) : (ckptApply w c n s).rd A = s.rd A := by
  unfold ckptApply; (try simp []) <;> (repeat' split) <;> simp []

@[simp] theorem ckptRestore_rd (w n : Nat) (newestOk otherOk : Bool) (s : State) (A : Nat) (hA : A < 0x2010) : (ckptRestore w n newestOk otherOk s).1.rd A = s.rd A := by
  have h0 : ∀ (i : Nat), A ≠ (RED_WS_CKPT__NEWEST i).addr := by intros; simp only [RED_WS_CKPT__NEWEST]; omega
  have h1 : ∀ (i : Nat) (j : Nat), A ≠ (ckptGood i j).addr := by intros; simp only [ckptGood, RED_WS_CKPT__GOOD_A, RED_WS_CKPT__GOOD_B]; first | omega | (split <;> omega) | (split <;> simp only [] <;> omega) | (repeat' split) <;> simp only [] <;> omega
  unfold ckptRestore; (try simp [h0, h1, hA]) <;> (repeat' split) <;> simp [h0, h1, hA]

@[simp] theorem krstCount_rd (w : Nat) (s : State) (A : Nat) : (krstCount w s).rd A = s.rd A := by
  unfold krstCount; (try simp []) <;> (repeat' split) <;> simp []

@[simp] theorem pairResume_rd (n w heir : Nat) (s : State) (A : Nat) (hA : A < 0x50040) : (pairResume n w heir s).rd A = s.rd A := by
  have h0 : ∀ (i : Nat), A ≠ (RED_CP_STAT__STATE i).addr := by intros; simp only [RED_CP_STAT__STATE]; omega
  unfold pairResume; (try simp [h0, hA]) <;> (repeat' split) <;> simp [h0, hA]

@[simp] theorem pairDrop_rd (n : Nat) (s : State) (A : Nat) : (pairDrop n s).rd A = s.rd A := by
  unfold pairDrop; (try simp []) <;> (repeat' split) <;> simp []

@[simp] theorem pairUnusable_rd (n : Nat) (s : State) (A : Nat) (hA : A < 0x50000) : (pairUnusable n s).rd A = s.rd A := by
  have h0 : ∀ (i : Nat), A ≠ (RED_CP_STAT__STATE i).addr := by intros; simp only [RED_CP_STAT__STATE]; omega
  have h1 : ∀ (i : Nat), A ≠ (slotPair i).addr := by intros; simp only [slotPair, RED_SLOTS]; first | omega | (split <;> omega) | (split <;> simp only [] <;> omega) | (repeat' split) <;> simp only [] <;> omega
  have k0 : A < 0x50014 := by omega
  unfold pairUnusable; (try simp [h0, h1, k0, hA]) <;> (repeat' split) <;> simp [h0, h1, k0, hA]

@[simp] theorem svcStep_rd (s : State) (A : Nat) (hA : A < 0x8024) : (svcStep s).rd A = s.rd A := by
  have h0 : A ≠ (RED_SVC_STAT__STEPS).addr := by intros; simp only [RED_SVC_STAT__STEPS]; omega
  unfold svcStep; (try simp [h0, hA]) <;> (repeat' split) <;> simp [h0, hA]

@[simp] theorem rejoinShow_rd (ut unit : Nat) (shadow : Bool) (s : State) (A : Nat) (hA : A < 0x30000) : (rejoinShow ut unit shadow s).rd A = s.rd A := by
  have h0 : A ≠ (FM_STATUS__SHADOW).addr := by intros; simp only [FM_STATUS__SHADOW]; omega
  have h1 : ∀ (i : Nat), A ≠ (RED_CE_STAT__STATE i).addr := by intros; simp only [RED_CE_STAT__STATE]; omega
  have h2 : ∀ (i : Nat), A ≠ (RED_CP_STAT__STATE i).addr := by intros; simp only [RED_CP_STAT__STATE]; omega
  have h3 : ∀ (i : Nat), A ≠ (fpStat i).addr := by intros; simp only [fpStat, FM_FPSTAT__STATE]; first | omega | (split <;> omega) | (split <;> simp only [] <;> omega) | (repeat' split) <;> simp only [] <;> omega
  have k0 : A < 0x50000 := by omega
  unfold rejoinShow; (try simp [h0, h1, h2, h3, k0, hA]) <;> (repeat' split) <;> simp [h0, h1, h2, h3, k0, hA]

@[simp] theorem svcEnd_rd (r : Nat) (s : State) (A : Nat) (hA : A < 0x30000) : (svcEnd r s).rd A = s.rd A := by
  have h0 : A ≠ (RED_SVC_STAT__BUSY).addr := by intros; simp only [RED_SVC_STAT__BUSY]; omega
  have h1 : A ≠ (RED_SVC_STAT__RESULT).addr := by intros; simp only [RED_SVC_STAT__RESULT]; omega
  unfold svcEnd; (try simp [h0, h1, hA]) <;> (repeat' split) <;> simp [h0, h1, hA]

@[simp] theorem svcStart_rd (code ut unit : Nat) (ctx : Option Nat) (s : State) (A : Nat) (hA : A < 0x30000) : (svcStart code ut unit ctx s).rd A = s.rd A := by
  have h0 : A ≠ (RED_SVC_STAT__BUSY).addr := by intros; simp only [RED_SVC_STAT__BUSY]; omega
  have h1 : A ≠ (RED_SVC_STAT__RESULT).addr := by intros; simp only [RED_SVC_STAT__RESULT]; omega
  have h2 : A ≠ (RED_SVC_STAT__STEPS).addr := by intros; simp only [RED_SVC_STAT__STEPS]; omega
  unfold svcStart; (try simp [h0, h1, h2, hA]) <;> (repeat' split) <;> simp [h0, h1, h2, hA]

@[simp] theorem convServe_rd (s : State) (A : Nat) (hA : A < 0x30010) : (convServe s).rd A = s.rd A := by
  unfold convServe
  refine each_rd _ _ _ _ fun k u => ?_
  split <;> simp [hA]

@[simp] theorem unitServe_rd (ut unit : Nat) (s : State) (A : Nat) (hA : A < 0x10000) : (unitServe ut unit s).rd A = s.rd A := by
  have h0 : ∀ (i : Nat), A ≠ (RED_CE_STAT__LANES i).addr := by intros; simp only [RED_CE_STAT__LANES]; omega
  have h1 : ∀ (i : Nat), A ≠ (RED_CE_STAT__LANE_OK i).addr := by intros; simp only [RED_CE_STAT__LANE_OK]; omega
  have h2 : ∀ (i : Nat), A ≠ (RED_CE_STAT__SPARE_FOR i).addr := by intros; simp only [RED_CE_STAT__SPARE_FOR]; omega
  have h3 : ∀ (i : Nat), A ≠ (RED_CE_STAT__STATE i).addr := by intros; simp only [RED_CE_STAT__STATE]; omega
  have h4 : ∀ (i : Nat), A ≠ (fpStat i).addr := by intros; simp only [fpStat, FM_FPSTAT__STATE]; first | omega | (split <;> omega) | (split <;> simp only [] <;> omega) | (repeat' split) <;> simp only [] <;> omega
  have h5 : ∀ (i : Nat), A ≠ (pxState i).addr := by intros; simp only [pxState, PM_STATUS__PX0_STATE, PM_STATUS__PX1_STATE]; first | omega | (split <;> omega) | (split <;> simp only [] <;> omega) | (repeat' split) <;> simp only [] <;> omega
  have h6 : ∀ (i : Nat) (j : Bool), A ≠ (winCopies i j).addr := by intros; simp only [winCopies, FM_CH_STATUS__WB_COPIES, FM_CH_STATUS__WA_COPIES]; first | omega | (split <;> omega) | (split <;> simp only [] <;> omega) | (repeat' split) <;> simp only [] <;> omega
  have k0 : A < 0x30010 := by omega
  have k1 : A < 0x38004 := by omega
  have k2 : A < 0x50000 := by omega
  unfold unitServe; (try simp [h0, h1, h2, h3, h4, h5, h6, k0, k1, k2, hA]) <;> (repeat' split) <;> simp [h0, h1, h2, h3, h4, h5, h6, k0, k1, k2, hA]

@[simp] theorem unitReturn_rd (ut unit : Nat) (s : State) (A : Nat) (hA : A < 0x10000) : (unitReturn ut unit s).rd A = s.rd A := by
  have k0 : A < 0x50024 := by omega
  unfold unitReturn; (try simp [k0, hA]) <;> (repeat' split) <;> simp [k0, hA]

@[simp] theorem rejoinEnd_rd (ut unit : Nat) (s : State) (A : Nat) (hA : A < 0x8024) : (rejoinEnd ut unit s).rd A = s.rd A := by
  have k0 : A < 0x10000 := by omega
  have k1 : A < 0x30000 := by omega
  have k2 : A < 0x50014 := by omega
  unfold rejoinEnd; (try simp [k0, k1, k2, hA]) <;> (repeat' split) <;> simp [k0, k1, k2, hA]

@[simp] theorem rejoinTake_rd (ut unit : Nat) (s : State) (A : Nat) (hA : A < 0x8024) : (rejoinTake ut unit s).rd A = s.rd A := by
  unfold rejoinTake; (try simp [hA]) <;> (repeat' split) <;> simp [hA]

@[simp] theorem takeoverDue_rd (n w : Nat) (s : State) (A : Nat) (hA : A < 0x2010) : (takeoverDue n w s).rd A = s.rd A := by
  have k0 : A < 0x8024 := by omega
  unfold takeoverDue; (try simp [k0, hA]) <;> (repeat' split) <;> simp [k0, hA]

@[simp] theorem restartBegin_rd (n : Nat) (s : State) (A : Nat) (hA : A < 0x50040) : (restartBegin n s).rd A = s.rd A := by
  have h0 : ∀ (i : Nat), A ≠ (RED_CP_STAT__STATE i).addr := by intros; simp only [RED_CP_STAT__STATE]; omega
  unfold restartBegin; (try simp [h0, hA]) <;> (repeat' split) <;> simp [h0, hA]

@[simp] theorem pairMismatch_rd (n : Nat) (s : State) (A : Nat) (hA : A < 0x2010) : (pairMismatch n s).rd A = s.rd A := by
  have h0 : ∀ (i : Nat), A ≠ (RED_CP_COUNTS__MISMATCH i).addr := by intros; simp only [RED_CP_COUNTS__MISMATCH]; omega
  have k0 : A < 0x50000 := by omega
  have k1 : A < 0x50014 := by omega
  have k2 : A < 0x50040 := by omega
  unfold pairMismatch; (try simp [h0, k0, k1, k2, hA]) <;> (repeat' split) <;> simp [h0, k0, k1, k2, hA]

@[simp] theorem pairHalt_rd (n : Nat) (s : State) (A : Nat) (hA : A < 0x2010) : (pairHalt n s).rd A = s.rd A := by
  have h0 : ∀ (i : Nat), A ≠ (RED_CP_STAT__STATE i).addr := by intros; simp only [RED_CP_STAT__STATE]; omega
  have k0 : A < 0x50014 := by omega
  have k1 : A < 0x50024 := by omega
  unfold pairHalt; (try simp [h0, k0, k1, hA]) <;> (repeat' split) <;> simp [h0, k0, k1, hA]

@[simp] theorem haltDue_rd (n : Nat) (s : State) (A : Nat) (hA : A < 0x2010) : (haltDue n s).rd A = s.rd A := by
  unfold haltDue; (try simp [hA]) <;> (repeat' split) <;> simp [hA]

@[simp] theorem debugDetach_rd (s : State) (A : Nat) (hA : A < 0x50000) : (debugDetach s).rd A = s.rd A := by
  have h0 : A ≠ (RED_STATUS__DEBUG).addr := by intros; simp only [RED_STATUS__DEBUG]; omega
  unfold debugDetach; (try simp [h0, hA]) <;> (repeat' split) <;> simp [h0, hA]

@[simp] theorem yieldTake_rd (n : Nat) (s : State) (A : Nat) (hA : A < 0x8024) : (yieldTake n s).rd A = s.rd A := by
  have h0 : ∀ (i : Nat), A ≠ (RED_CP_STAT__YIELD_REQ i).addr := by intros; simp only [RED_CP_STAT__YIELD_REQ]; omega
  unfold yieldTake; (try simp [h0, hA]) <;> (repeat' split) <;> simp [h0, hA]

@[simp] theorem rotateAsk_rd (w : Nat) (svc : Bool) (s : State) (A : Nat) (hA : A < 0x50004) : (rotateAsk w svc s).rd A = s.rd A := by
  have h0 : ∀ (i : Nat), A ≠ (RED_CP_STAT__YIELD_REQ i).addr := by intros; simp only [RED_CP_STAT__YIELD_REQ]; omega
  have h1 : ∀ (i : Nat), A ≠ (slotPair i).addr := by intros; simp only [slotPair, RED_SLOTS]; first | omega | (split <;> omega) | (split <;> simp only [] <;> omega) | (repeat' split) <;> simp only [] <;> omega
  unfold rotateAsk; (try simp [h0, h1, hA]) <;> (repeat' split) <;> simp [h0, h1, hA]

@[simp] theorem kgrpPut_rd (n : Nat) (v : Bool) (s : State) (A : Nat) : (kgrpPut n v s).rd A = s.rd A := by
  unfold kgrpPut; (try simp []) <;> (repeat' split) <;> simp []

@[simp] theorem engineOut_rd (e : Nat) (s : State) (A : Nat) (hA : A < 0x2010) : (engineOut e s).rd A = s.rd A := by
  have h0 : ∀ (i : Nat), A ≠ (RED_CE_STAT__STATE i).addr := by intros; simp only [RED_CE_STAT__STATE]; omega
  unfold engineOut; (try simp [h0, hA]) <;> (repeat' split) <;> simp [h0, hA]

@[simp] theorem laneOut_rd (e l : Nat) (s : State) (A : Nat) (hA : A < 0x2010) : (laneOut e l s).rd A = s.rd A := by
  have h0 : ∀ (i : Nat), A ≠ (RED_CE_STAT__LANES i).addr := by intros; simp only [RED_CE_STAT__LANES]; omega
  have h1 : ∀ (i : Nat), A ≠ (RED_CE_STAT__LANE_OK i).addr := by intros; simp only [RED_CE_STAT__LANE_OK]; omega
  have h2 : ∀ (i : Nat), A ≠ (RED_CE_STAT__SPARE_FOR i).addr := by intros; simp only [RED_CE_STAT__SPARE_FOR]; omega
  have k0 : A < 0x8024 := by omega
  unfold laneOut; (try simp [h0, h1, h2, k0, hA]) <;> (repeat' split) <;> simp [h0, h1, h2, k0, hA]

@[simp] theorem channelStop_rd (k : Nat) (s : State) (A : Nat) (hA : A < 0x30000) : (channelStop k s).rd A = s.rd A := by
  have h0 : ∀ (i : Nat), A ≠ (FM_CH_DATA__VALID i).addr := by intros; simp only [FM_CH_DATA__VALID]; omega
  unfold channelStop; (try simp [h0, hA]) <;> (repeat' split) <;> simp [h0, hA]

@[simp] theorem fpGive_rd (k fp : Nat) (s : State) (A : Nat) (hA : A < 0x2010) : (fpGive k fp s).rd A = s.rd A := by
  have k0 : A < 0x30000 := by omega
  have k1 : A < 0x30010 := by omega
  unfold fpGive; (try simp [k0, k1, hA]) <;> (repeat' split) <;> simp [k0, k1, hA]

@[simp] theorem fpOut_rd (fp : Nat) (s : State) (A : Nat) (hA : A < 0x2010) : (fpOut fp s).rd A = s.rd A := by
  have h0 : ∀ (i : Nat), A ≠ (fpStat i).addr := by intros; simp only [fpStat, FM_FPSTAT__STATE]; first | omega | (split <;> omega) | (split <;> simp only [] <;> omega) | (repeat' split) <;> simp only [] <;> omega
  unfold fpOut; (try simp [h0, hA]) <;> (repeat' split) <;> simp [h0, hA]

@[simp] theorem fcEnable_rd (k : Nat) (was : Bool) (s : State) (A : Nat) (hA : A < 0x2010) : (fcEnable k was s).rd A = s.rd A := by
  have h0 : ∀ (i : Nat), A ≠ (FM_CH_DATA__VALID i).addr := by intros; simp only [FM_CH_DATA__VALID]; omega
  have k0 : A < 0x30000 := by omega
  have k1 : A < 0x30010 := by omega
  unfold fcEnable; (try simp [h0, k0, k1, hA]) <;> (repeat' split) <;> simp [h0, k0, k1, hA]

@[simp] theorem copyOut_rd (u : Nat) (s : State) (A : Nat) (hA : A < 0x10000) : (copyOut u s).rd A = s.rd A := by
  have h0 : ∀ (i : Nat) (j : Bool), A ≠ (winCopies i j).addr := by intros; simp only [winCopies, FM_CH_STATUS__WB_COPIES, FM_CH_STATUS__WA_COPIES]; first | omega | (split <;> omega) | (split <;> simp only [] <;> omega) | (repeat' split) <;> simp only [] <;> omega
  unfold copyOut; (try simp [h0, hA]) <;> (repeat' split) <;> simp [h0, hA]

@[simp] theorem unitLeave_rd (ut unit : Nat) (s : State) (A : Nat) (hA : A < 0x2010) : (unitLeave ut unit s).rd A = s.rd A := by
  have h0 : ∀ (i : Nat), A ≠ (RED_CP_STAT__STATE i).addr := by intros; simp only [RED_CP_STAT__STATE]; omega
  have h1 : ∀ (i : Nat), A ≠ (pxState i).addr := by intros; simp only [pxState, PM_STATUS__PX0_STATE, PM_STATUS__PX1_STATE]; first | omega | (split <;> omega) | (split <;> simp only [] <;> omega) | (repeat' split) <;> simp only [] <;> omega
  have h2 : ∀ (i : Nat), A ≠ (slotPair i).addr := by intros; simp only [slotPair, RED_SLOTS]; first | omega | (split <;> omega) | (split <;> simp only [] <;> omega) | (repeat' split) <;> simp only [] <;> omega
  have k0 : A < 0x10000 := by omega
  have k1 : A < 0x38004 := by omega
  have k2 : A < 0x50000 := by omega
  unfold unitLeave; (try simp [h0, h1, h2, k0, k1, k2, hA]) <;> (repeat' split) <;> simp [h0, h1, h2, k0, k1, k2, hA]

@[simp] theorem setAside_rd (ut unit : Nat) (s : State) (A : Nat) (hA : A < 0x2010) : (setAside ut unit s).rd A = s.rd A := by
  have k0 : A < 0x8024 := by omega
  have k1 : A < 0x50000 := by omega
  have k2 : A < 0x50014 := by omega
  unfold setAside; (try simp [k0, k1, k2, hA]) <;> (repeat' split) <;> simp [k0, k1, k2, hA]

@[simp] theorem bistNote_rd (kind unit : Nat) (s : State) (A : Nat) (hA : A < 0x50014) : (bistNote kind unit s).rd A = s.rd A := by
  have h0 : A ≠ (BIST_COUNTS__FAILS).addr := by intros; simp only [BIST_COUNTS__FAILS]; omega
  have h1 : A ≠ (BIST_LAST_FAIL__KIND).addr := by intros; simp only [BIST_LAST_FAIL__KIND]; omega
  have h2 : A ≠ (BIST_LAST_FAIL__UNIT).addr := by intros; simp only [BIST_LAST_FAIL__UNIT]; omega
  have h3 : A ≠ (BIST_LAST_FAIL__VALID).addr := by intros; simp only [BIST_LAST_FAIL__VALID]; omega
  unfold bistNote; (try simp [h0, h1, h2, h3, hA]) <;> (repeat' split) <;> simp [h0, h1, h2, h3, hA]

@[simp] theorem bistFail_rd (kind unit : Nat) (s : State) (A : Nat) (hA : A < 0x2010) : (bistFail kind unit s).rd A = s.rd A := by
  have k0 : A < 0x50014 := by omega
  unfold bistFail; (try simp [k0, hA]) <;> (repeat' split) <;> simp [k0, hA]

@[simp] theorem wayFail_rd (u : Nat) (s : State) (A : Nat) (hA : A < 0x2010) : (wayFail u s).rd A = s.rd A := by
  have k0 : A < 0x50014 := by omega
  have k1 : A < 0x50040 := by omega
  unfold wayFail; (try simp [k0, k1, hA]) <;> (repeat' split) <;> simp [k0, k1, hA]

@[simp] theorem sliceEnd_rd (kind unit : Nat) (pass : Bool) (way : Option (Fin 8)) (s : State) (A : Nat) (hA : A < 0x2010) : (sliceEnd kind unit pass way s).rd A = s.rd A := by
  have k0 : A < 0x50000 := by omega
  have k1 : A < 0x50040 := by omega
  unfold sliceEnd; (try simp [k0, k1, hA]) <;> (repeat' split) <;> simp [k0, k1, hA]

@[simp] theorem arraysShow_rd (s : State) (A : Nat) (hA : A < 0x50020) : (arraysShow s).rd A = s.rd A := by
  have h0 : A ≠ (RED_ARRAYS__FUSE_FREE).addr := by intros; simp only [RED_ARRAYS__FUSE_FREE]; omega
  have h1 : ∀ (i : Nat), A ≠ (spareFree i).addr := by intros; simp only [spareFree, RED_ARRAYS__SRAM_FREE, RED_ARRAYS__ESC_FREE, RED_ARRAYS__COEF_FREE]; first | omega | (split <;> omega) | (split <;> simp only [] <;> omega) | (repeat' split) <;> simp only [] <;> omega
  unfold arraysShow; (try simp [h0, h1, hA]) <;> (repeat' split) <;> simp [h0, h1, hA]

@[simp] theorem ceCount_rd (k row : Nat) (s : State) (A : Nat) : (ceCount k row s).1.rd A = s.rd A := by
  unfold ceCount; (try simp []) <;> (repeat' split) <;> simp []

@[simp] theorem eccRecord_rd (k row : Nat) (reader : Option Nat) (s : State) (A : Nat) (hA : A < 0x2010) : (eccRecord k row reader s).rd A = s.rd A := by
  unfold eccRecord; (try simp [hA]) <;> (repeat' split) <;> simp [hA]

@[simp] theorem seamEvent_rd (b unit detail : Nat) (s : State) (A : Nat) (hA : A < 0x7002C) : (seamEvent b unit detail s).rd A = s.rd A := by
  have h0 : A ≠ (SEAM_EVENT__EVT).addr := by intros; simp only [SEAM_EVENT__EVT]; omega
  have k0 : A < 0x78000 := by omega
  unfold seamEvent; (try simp [h0, k0, hA]) <;> (repeat' split) <;> simp [h0, k0, hA]

@[simp] theorem alignPut_rd (v : Bool) (s : State) (A : Nat) (hA : A < 0x70000) : (alignPut v s).rd A = s.rd A := by
  have h0 : A ≠ (SEAM_STATUS__ALIGNED).addr := by intros; simp only [SEAM_STATUS__ALIGNED]; omega
  have k0 : A < 0x7002C := by omega
  unfold alignPut; (try simp [h0, k0, hA]) <;> (repeat' split) <;> simp [h0, k0, hA]

@[simp] theorem alignStop_rd (s : State) (A : Nat) (hA : A < 0x70000) : (alignStop s).rd A = s.rd A := by
  unfold alignStop; (try simp [hA]) <;> (repeat' split) <;> simp [hA]

@[simp] theorem seamRestart_rd (s : State) (A : Nat) (hA : A < 0x70000) : (seamRestart s).rd A = s.rd A := by
  have h0 : ∀ (i : Nat), A ≠ (SEAM_PORT_STAT__ADMITTED i).addr := by intros; simp only [SEAM_PORT_STAT__ADMITTED]; omega
  have h1 : ∀ (i : Nat), A ≠ (SEAM_PORT_STAT__LINK i).addr := by intros; simp only [SEAM_PORT_STAT__LINK]; omega
  unfold seamRestart; (try simp [h0, h1, hA]) <;> (repeat' split) <;> simp [h0, h1, hA]

@[simp] theorem ctxDisable_rd (c : Nat) (s : State) (A : Nat) (hA : A < 0x8010) : (ctxDisable c s).rd A = s.rd A := by
  have h0 : ∀ (i : Nat), A ≠ (HP_CTX_CTRL__EN i).addr := by intros; simp only [HP_CTX_CTRL__EN]; omega
  have h1 : ∀ (i : Nat), A ≠ (HP_CTX_STATE__PHASE i).addr := by intros; simp only [HP_CTX_STATE__PHASE]; omega
  unfold ctxDisable; (try simp [h0, h1, hA]) <;> (repeat' split) <;> simp [h0, h1, hA]

@[simp] theorem vaultDone_rd (w : Nat) (v : Word) (b : Bool) (s : State) (A : Nat) : (vaultDone w v b s).rd A = s.rd A := by
  unfold vaultDone; (try simp []) <;> (repeat' split) <;> simp []

@[simp] theorem ownEffect_rd (b : Bool) (c : VCommit) (changed : List Nat) (dmas : List Nat) (s : State) (A : Nat) (hA : A < 0x1004) : (ownEffect b c changed dmas s).rd A = s.rd A := by
  have h0 : A ≠ (HP_EVENT__OWN_CHANGED).addr := by intros; simp only [HP_EVENT__OWN_CHANGED]; omega
  have h1 : A ≠ (HP_EVENT__STEWARD_CHANGED).addr := by intros; simp only [HP_EVENT__STEWARD_CHANGED]; omega
  have h2 : A ≠ (HP_OWN_GEN) := by intros; simp only [HP_OWN_GEN]; omega
  have h3 : A ≠ (HP_OWN_STATUS__LAST_REFUSE).addr := by intros; simp only [HP_OWN_STATUS__LAST_REFUSE]; omega
  have h4 : A ≠ (HP_STEWARD__XFER_PENDING).addr := by intros; simp only [HP_STEWARD__XFER_PENDING]; omega
  have k0 : A < 0x8010 := by omega
  have k1 : A < 0x78000 := by omega
  unfold ownEffect; (try simp [h0, h1, h2, h3, h4, k0, k1, hA]) <;> (repeat' split) <;> simp [h0, h1, h2, h3, h4, k0, k1, hA]

@[simp] theorem commitEffect_rd (w : Nat) (s : State) (A : Nat) (hA : A < 0x2010) : (commitEffect w s).rd A = s.rd A := by
  have k0 : A < 0x10000 := by omega
  have k1 : A < 0x38004 := by omega
  have k2 : A < 0x48000 := by omega
  have k3 : A < 0x48018 := by omega
  have k4 : A < 0x70000 := by omega
  unfold commitEffect; (try simp [k0, k1, k2, k3, k4, hA]) <;> (repeat' split) <;> simp [k0, k1, k2, k3, k4, hA]

@[simp] theorem vwStep_rd (c : Nat) (s : State) (A : Nat) (hA : A < 0x8024) : (vwStep c s).rd A = s.rd A := by
  unfold vwStep; (try simp [hA]) <;> (repeat' split) <;> simp [hA]

@[simp] theorem regroup_rd (old new : Nat) (s : State) (A : Nat) (hA : A < 0x24000) : (regroup old new s).rd A = s.rd A := by
  unfold regroup; (try simp [hA]) <;> (repeat' split) <;> simp [hA]

@[simp] theorem commitFail_rd (c : VCommit) (s : State) (A : Nat) (hA : A < 0x38004) : (commitFail c s).rd A = s.rd A := by
  have h0 : A ≠ (VLT_ATT_STAT__BUSY).addr := by intros; simp only [VLT_ATT_STAT__BUSY]; omega
  have h1 : A ≠ (VLT_STATUS__FAIL_WORD).addr := by intros; simp only [VLT_STATUS__FAIL_WORD]; omega
  have h2 : A ≠ (VLT_STATUS__LAST_FAIL).addr := by intros; simp only [VLT_STATUS__LAST_FAIL]; omega
  have k0 : A < 0x60008 := by omega
  have k1 : A < 0x80004 := by omega
  unfold commitFail; (try simp [h0, h1, h2, k0, k1, hA]) <;> (repeat' split) <;> simp [h0, h1, h2, k0, k1, hA]

@[simp] theorem bootFound_rd (src : Nat) (hdr payload trailer : List Word) (s : State) (A : Nat) (hA : A < 0x2038) : (bootFound src hdr payload trailer s).rd A = s.rd A := by
  have h0 : A ≠ (PWR_BOOT_STATUS__PHASE).addr := by intros; simp only [PWR_BOOT_STATUS__PHASE]; omega
  unfold bootFound; (try simp [h0, hA]) <;> (repeat' split) <;> simp [h0, hA]

@[simp] theorem bootWait_rd (code : Nat) (s : State) (A : Nat) (hA : A < 0x2038) : (bootWait code s).rd A = s.rd A := by
  have h0 : A ≠ (PWR_BOOT_STATUS__FAIL_CODE).addr := by intros; simp only [PWR_BOOT_STATUS__FAIL_CODE]; omega
  have h1 : A ≠ (PWR_BOOT_STATUS__PHASE).addr := by intros; simp only [PWR_BOOT_STATUS__PHASE]; omega
  unfold bootWait; (try simp [h0, h1, hA]) <;> (repeat' split) <;> simp [h0, h1, hA]

@[simp] theorem bootStaged_rd (s : State) (A : Nat) (hA : A < 0x2038) : (bootStaged s).rd A = s.rd A := by
  unfold bootStaged; (try simp [hA]) <;> (repeat' split) <;> simp [hA]

@[simp] theorem stagePage_rd (page : Nat) (l : List Word) (s : State) (A : Nat) (hA : A < 0x60034) : (stagePage page l s).rd A = s.rd A := by
  have h0 : A ≠ VLT_STG_STAT__PAGES.addr := by simp only [VLT_STG_STAT__PAGES]; omega
  have h1 : A ≠ VLT_STG_STAT__VERIFIED.addr := by simp only [VLT_STG_STAT__VERIFIED]; omega
  unfold stagePage
  generalize List.take 1024 (l ++ List.replicate 1024 0) = ws
  simp only []
  rw [rd_put_ite, if_neg h0, rd_putB_ite, if_neg h1]
  exact (rd_congr rfl A).trans (sramWrWords_rd ws s _ A)

@[simp] theorem stagePages_rd (n page : Nat) (l : List Word) (s : State) (A : Nat) (hA : A < 0x60034) : (stagePages n page l s).rd A = s.rd A := by
  induction n generalizing page l s with
  | zero => rfl
  | succ n ih => unfold stagePages; rw [ih, stagePage_rd _ _ _ _ hA]

@[simp] theorem stageCopyGo_rd (s : State) (A : Nat) (hA : A < 0x60034) : (stageCopyGo s).rd A = s.rd A := by
  have h0 : A ≠ (VLT_STG_STAT__BUSY).addr := by intros; simp only [VLT_STG_STAT__BUSY]; omega
  unfold stageCopyGo; (try simp [h0, hA]) <;> (repeat' split) <;> simp [h0, hA]

@[simp] theorem stageAct_rd (action : Nat) (ctx : Option Nat) (s : State) (A : Nat) (hA : A < 0x60034) : (stageAct action ctx s).rd A = s.rd A := by
  have h0 : A ≠ (VLT_STG_STAT__BUSY).addr := by intros; simp only [VLT_STG_STAT__BUSY]; omega
  unfold stageAct; (try simp [h0, hA]) <;> (repeat' split) <;> simp [h0, hA]

@[simp] theorem actEnd_rd (code : Nat) (result : Word) (s : State) (A : Nat) (hA : A < 0x8024) : (actEnd code result s).rd A = s.rd A := by
  have h0 : A ≠ (VLT_STG_STAT__BUSY).addr := by intros; simp only [VLT_STG_STAT__BUSY]; omega
  have k0 : A < 0x60008 := by omega
  unfold actEnd; (try simp [h0, k0, hA]) <;> (repeat' split) <;> simp [h0, k0, hA]

@[simp] theorem newChallenge_rd (s : State) (A : Nat) (hA : A < 0x60180) : (newChallenge s).rd A = s.rd A := by
  have h0 : ∀ (i : Nat), A ≠ (VLT_DBG_CHAL i) := by intros; simp only [VLT_DBG_CHAL]; omega
  unfold newChallenge; (try simp [h0, hA]) <;> (repeat' split) <;> simp [h0, hA]

@[simp] theorem dbgLock_rd (s : State) (A : Nat) (hA : A < 0x50000) : (dbgLock s).rd A = s.rd A := by
  have h0 : A ≠ (VLT_DBG_STAT__SCOPE).addr := by intros; simp only [VLT_DBG_STAT__SCOPE]; omega
  have h1 : A ≠ (VLT_DBG_STAT__UNLOCKED).addr := by intros; simp only [VLT_DBG_STAT__UNLOCKED]; omega
  unfold dbgLock; (try simp [h0, h1, hA]) <;> (repeat' split) <;> simp [h0, h1, hA]

@[simp] theorem keyRevoke_rd (k : Nat) (s : State) (A : Nat) (hA : A < 0x60008) : (keyRevoke k s).rd A = s.rd A := by
  have h0 : A ≠ (VLT_KEY_STAT__REVOKED).addr := by intros; simp only [VLT_KEY_STAT__REVOKED]; omega
  unfold keyRevoke; (try simp [h0, hA]) <;> (repeat' split) <;> simp [h0, hA]

@[simp] theorem attGo_rd (s : State) (A : Nat) (hA : A < 0x10C0) : (attGo s).rd A = s.rd A := by
  have h0 : ∀ (i : Nat), A ≠ (VLT_ATT_BUF i) := by intros; simp only [VLT_ATT_BUF]; omega
  have h1 : A ≠ (VLT_ATT_STAT__BUSY).addr := by intros; simp only [VLT_ATT_STAT__BUSY]; omega
  have h2 : A ≠ (VLT_ATT_STAT__DONE).addr := by intros; simp only [VLT_ATT_STAT__DONE]; omega
  unfold attGo; (try simp [h0, h1, h2, hA]) <;> (repeat' split) <;> simp [h0, h1, h2, hA]

@[simp] theorem attIndex_rd (q : Nat) (s : State) (A : Nat) (hA : A < 0x60008) : (attIndex q s).rd A = s.rd A := by
  have h0 : A ≠ (VLT_ATT_IDX__NEXT).addr := by intros; simp only [VLT_ATT_IDX__NEXT]; omega
  have h1 : A ≠ (VLT_ATT_STAT__EXHAUSTED).addr := by intros; simp only [VLT_ATT_STAT__EXHAUSTED]; omega
  unfold attIndex; (try simp [h0, h1, hA]) <;> (repeat' split) <;> simp [h0, h1, hA]

@[simp] theorem linkJudge_rd (p : Nat) (s : State) (A : Nat) (hA : A < 0x70040) : (linkJudge p s).rd A = s.rd A := by
  have h0 : ∀ (i : Nat), A ≠ (SEAM_PORT_STAT__ADMITTED i).addr := by intros; simp only [SEAM_PORT_STAT__ADMITTED]; omega
  unfold linkJudge; (try simp [h0, hA]) <;> (repeat' split) <;> simp [h0, hA]

@[simp] theorem timeAlign_rd (off : Int) (s : State) (A : Nat) (hA : A < 0x70000) : (timeAlign off s).rd A = s.rd A := by
  have h0 : A ≠ (SEAM_TIME_OFS__OFFSET).addr := by intros; simp only [SEAM_TIME_OFS__OFFSET]; omega
  unfold timeAlign; (try simp [h0, hA]) <;> (repeat' split) <;> simp [h0, hA]

@[simp] theorem seamFlood_rd (skip : Option Nat) (kind : Nat) (data : List Nat) (s : State) (A : Nat) : (seamFlood skip kind data s).rd A = s.rd A := by
  unfold seamFlood; (try simp []) <;> (repeat' split) <;> simp []

@[simp] theorem hopSend_rd (skip : Option Nat) (h : Nat) (lo hi : Word) (s : State) (A : Nat) : (hopSend skip h lo hi s).rd A = s.rd A := by
  unfold hopSend; (try simp []) <;> (repeat' split) <;> simp []

@[simp] theorem tableRound_rd (t : List SeamNode) (ring : Bool) (s : State) (A : Nat) : (tableRound t ring s).rd A = s.rd A := by
  unfold tableRound; (try simp []) <;> (repeat' split) <;> simp []

@[simp] theorem hopTake_rd (p h : Nat) (s : State) (A : Nat) : (hopTake p h s).rd A = s.rd A := by
  unfold hopTake; (try simp []) <;> (repeat' split) <;> simp []

@[simp] theorem nodesShow_rd (t : List SeamNode) (s : State) (A : Nat) (hA : A < 0x74000) : (nodesShow t s).rd A = s.rd A := by
  have h0 : ∀ (i : Nat), A ≠ (SEAM_NODE_INFO i) := by intros; simp only [SEAM_NODE_INFO]; omega
  have h1 : ∀ (i : Nat), A ≠ (SEAM_NODE_SER_HI i) := by intros; simp only [SEAM_NODE_SER_HI]; omega
  have h2 : ∀ (i : Nat), A ≠ (SEAM_NODE_SER_LO i) := by intros; simp only [SEAM_NODE_SER_LO]; omega
  unfold nodesShow
  refine each_rd _ _ _ _ fun i s => ?_
  split <;> simp [h0, h1, h2]

@[simp] theorem topoApply_rd (t : List SeamNode) (s : State) (A : Nat) (hA : A < 0x70000) : (topoApply t s).rd A = s.rd A := by
  have h0 : ∀ (i : Nat), A ≠ (SEAM_PORT_STAT__ADMITTED i).addr := by intros; simp only [SEAM_PORT_STAT__ADMITTED]; omega
  have h1 : ∀ (i : Nat), A ≠ (SEAM_PORT_STAT__LINK i).addr := by intros; simp only [SEAM_PORT_STAT__LINK]; omega
  have h2 : A ≠ (SEAM_STATUS__HOPS).addr := by intros; simp only [SEAM_STATUS__HOPS]; omega
  have h3 : A ≠ (SEAM_STATUS__JOINED).addr := by intros; simp only [SEAM_STATUS__JOINED]; omega
  have h4 : A ≠ (SEAM_STATUS__NODE).addr := by intros; simp only [SEAM_STATUS__NODE]; omega
  have h5 : A ≠ (SEAM_STATUS__PARENT).addr := by intros; simp only [SEAM_STATUS__PARENT]; omega
  have h6 : A ≠ (SEAM_STATUS__REFUSE).addr := by intros; simp only [SEAM_STATUS__REFUSE]; omega
  have h7 : A ≠ (SEAM_STATUS__RING).addr := by intros; simp only [SEAM_STATUS__RING]; omega
  have h8 : A ≠ (SEAM_STATUS__RING_BROKEN).addr := by intros; simp only [SEAM_STATUS__RING_BROKEN]; omega
  have h9 : A ≠ (SEAM_STATUS__ROOT).addr := by intros; simp only [SEAM_STATUS__ROOT]; omega
  have k0 : A < 0x7002C := by omega
  have k1 : A < 0x74000 := by omega
  unfold topoApply; (try simp [h0, h1, h2, h3, h4, h5, h6, h7, h8, h9, k0, k1, hA]) <;> (repeat' split) <;> simp [h0, h1, h2, h3, h4, h5, h6, h7, h8, h9, k0, k1, hA]

@[simp] theorem seamTripAxis_rd (a : Nat) (soft latch : Bool) (s : State) (A : Nat) (hA : A < 0x2010) : (seamTripAxis a soft latch s).rd A = s.rd A := by
  have k0 : A < 0x20064 := by omega
  unfold seamTripAxis; (try simp [k0, hA]) <;> (repeat' split) <;> simp [k0, hA]

@[simp] theorem seamTripAct_rd (g : Nat) (s : State) (A : Nat) (hA : A < 0x2010) : (seamTripAct g s).rd A = s.rd A := by
  unfold seamTripAct; (try simp [hA]) <;> (repeat' split) <;> simp [hA]

@[simp] theorem seamSend_rd (groups : Nat) (s : State) (A : Nat) : (seamSend groups s).rd A = s.rd A := by
  unfold seamSend; (try simp []) <;> (repeat' split) <;> simp []

@[simp] theorem tripTake_rd (skip : Option Nat) (p groups seq origin : Nat) (s : State) (A : Nat) (hA : A < 0x2010) : (tripTake skip p groups seq origin s).rd A = s.rd A := by
  have h0 : A ≠ (SEAM_TRIP_STAT__COUNT).addr := by intros; simp only [SEAM_TRIP_STAT__COUNT]; omega
  have h1 : A ≠ (SEAM_TRIP_STAT__GROUPS).addr := by intros; simp only [SEAM_TRIP_STAT__GROUPS]; omega
  have h2 : A ≠ (SEAM_TRIP_STAT__ORIGIN).addr := by intros; simp only [SEAM_TRIP_STAT__ORIGIN]; omega
  have h3 : A ≠ (SEAM_TRIP_STAT__SEQ).addr := by intros; simp only [SEAM_TRIP_STAT__SEQ]; omega
  have k0 : A < 0x201C := by omega
  have k1 : A < 0x7002C := by omega
  unfold tripTake; (try simp [h0, h1, h2, h3, k0, k1, hA]) <;> (repeat' split) <;> simp [h0, h1, h2, h3, k0, k1, hA]

@[simp] theorem peerQueue_rd (f : PeerFrame) (p : Nat) (s : State) (A : Nat) (hA : A < 0x7002C) : (peerQueue f p s).rd A = s.rd A := by
  have h0 : ∀ (i : Nat), A ≠ (SEAM_PORT_CNT__PEER_DROP i).addr := by intros; simp only [SEAM_PORT_CNT__PEER_DROP]; omega
  unfold peerQueue; (try simp [h0, hA]) <;> (repeat' split) <;> simp [h0, hA]

@[simp] theorem peerSeen_rd (origin seq : Nat) (s : State) (A : Nat) : (peerSeen origin seq s).rd A = s.rd A := by
  unfold peerSeen; (try simp []) <;> (repeat' split) <;> simp []

@[simp] theorem timeTick_rd (s : State) (A : Nat) : (timeTick s).rd A = s.rd A := by
  unfold timeTick; (try simp []) <;> (repeat' split) <;> simp []

@[simp] theorem seamDrain_rd (s : State) (A : Nat) : (seamDrain s).rd A = s.rd A := by
  unfold seamDrain
  refine each_rd _ _ _ _ fun p s => ?_
  split
  · simp
  · split <;> simp

@[simp] theorem talEvent_rd (b unit detail : Nat) (s : State) (A : Nat) (hA : A < 0x78000) : (talEvent b unit detail s).rd A = s.rd A := by
  have h0 : A ≠ (TAL_EVENT__EVT).addr := by intros; simp only [TAL_EVENT__EVT]; omega
  unfold talEvent; (try simp [h0, hA]) <;> (repeat' split) <;> simp [h0, hA]

@[simp] theorem talRaise_rd (s : State) (A : Nat) (hA : A < 0x78000) : (talRaise s).rd A = s.rd A := by
  unfold talRaise; (try simp [hA]) <;> (repeat' split) <;> simp [hA]

@[simp] theorem talLatch_rd (s : State) (A : Nat) (hA : A < 0x8010C) : (talLatch s).rd A = s.rd A := by
  have h0 : ∀ (i : Nat), A ≠ (TAL_SNAP_HI i) := by intros; simp only [TAL_SNAP_HI]; omega
  have h1 : ∀ (i : Nat), A ≠ (TAL_SNAP_LO i) := by intros; simp only [TAL_SNAP_LO]; omega
  unfold talLatch; (try simp [h0, h1, hA]) <;> (repeat' split) <;> simp [h0, h1, hA]

@[simp] theorem talClear_rd (s : State) (A : Nat) (hA : A < 0x80004) : (talClear s).rd A = s.rd A := by
  have h0 : A ≠ (TAL_STATUS__OVF).addr := by intros; simp only [TAL_STATUS__OVF]; omega
  have k0 : A < 0x80104 := by omega
  unfold talClear; (try simp [h0, k0, hA]) <;> (repeat' split) <;> simp [h0, k0, hA]

@[simp] theorem sampShow_rd (s : State) (A : Nat) (hA : A < 0x80210) : (sampShow s).rd A = s.rd A := by
  have h0 : A ≠ (TAL_SAMP_WR__FULL).addr := by intros; simp only [TAL_SAMP_WR__FULL]; omega
  unfold sampShow; (try simp [h0, hA]) <;> (repeat' split) <;> simp [h0, hA]

@[simp] theorem sampWords_rd (e q : Nat) (l : List Word) (s : State) (A : Nat) (hA : A < 0x81000) : (sampWords e q l s).rd A = s.rd A := by
  induction l generalizing q s with
  | nil => rfl
  | cons v l ih =>
    have h0 : A ≠ TAL_SAMP_W e q := by simp only [TAL_SAMP_W]; omega
    unfold sampWords; simp [ih, h0]

@[simp] theorem sampPut_rd (w0 : Nat) (ws : List Word) (s : State) (A : Nat) (hA : A < 0x78000) : (sampPut w0 ws s).rd A = s.rd A := by
  have h0 : A ≠ (TAL_SAMP_RD__RD).addr := by intros; simp only [TAL_SAMP_RD__RD]; omega
  have h1 : A ≠ (TAL_SAMP_STAT__LOST).addr := by intros; simp only [TAL_SAMP_STAT__LOST]; omega
  have h2 : A ≠ (TAL_SAMP_STAT__OVERWRITTEN).addr := by intros; simp only [TAL_SAMP_STAT__OVERWRITTEN]; omega
  have h3 : A ≠ (TAL_SAMP_WR__WR).addr := by intros; simp only [TAL_SAMP_WR__WR]; omega
  have k0 : A < 0x80210 := by omega
  have k1 : A < 0x81000 := by omega
  unfold sampPut; (try simp [h0, h1, h2, h3, k0, k1, hA]) <;> (repeat' split) <;> simp [h0, h1, h2, h3, k0, k1, hA]

@[simp] theorem csrRead_rd (n k : Nat) (s : State) (A : Nat) : (csrRead n k s).rd A = s.rd A := by
  unfold csrRead; (try simp []) <;> (repeat' split) <;> simp []

@[simp] theorem csrWrite_rd (n k : Nat) (v : Word) (s : State) (A : Nat) : (csrWrite n k v s).rd A = s.rd A := by
  unfold csrWrite; (try simp []) <;> (repeat' split) <;> simp []

@[simp] theorem csrTick_rd (n : Nat) (s : State) (A : Nat) : (csrTick n s).rd A = s.rd A := by
  unfold csrTick; (try simp []) <;> (repeat' split) <;> simp []

@[simp] theorem trimStep_rd (s : State) (A : Nat) (hA : A < 0x2000) : (trimStep s).rd A = s.rd A := by
  have h0 : A ≠ (CLK_STATUS__RC_TRIM).addr := by intros; simp only [CLK_STATUS__RC_TRIM]; omega
  unfold trimStep; (try simp [h0, hA]) <;> (repeat' split) <;> simp [h0, hA]

@[simp] theorem pllBStop_rd (s : State) (A : Nat) (hA : A < 0x2000) : (pllBStop s).rd A = s.rd A := by
  have h0 : A ≠ (CLK_STATUS__PLLB_LOCK).addr := by intros; simp only [CLK_STATUS__PLLB_LOCK]; omega
  have k0 : A < 0x10000 := by omega
  have k1 : A < 0x20060 := by omega
  have k2 : A < 0x24000 := by omega
  have k3 : A < 0x30000 := by omega
  have k4 : A < 0x38008 := by omega
  have k5 : A < 0x70000 := by omega
  unfold pllBStop; (try simp [h0, k0, k1, k2, k3, k4, k5, hA]) <;> (repeat' split) <;> simp [h0, k0, k1, k2, k3, k4, k5, hA]

@[simp] theorem pllBStart_rd (s : State) (A : Nat) (hA : A < 0x2000) : (pllBStart s).rd A = s.rd A := by
  have h0 : A ≠ (CLK_STATUS__PLLB_LOCK).addr := by intros; simp only [CLK_STATUS__PLLB_LOCK]; omega
  have k0 : A < 0x20060 := by omega
  have k1 : A < 0x38008 := by omega
  unfold pllBStart; (try simp [h0, k0, k1, hA]) <;> (repeat' split) <;> simp [h0, k0, k1, hA]

@[simp] theorem clocksStart_rd (s : State) (A : Nat) (hA : A < 0x2000) : (clocksStart s).rd A = s.rd A := by
  have h0 : A ≠ (CLK_STATUS__PLLA_LOCK).addr := by intros; simp only [CLK_STATUS__PLLA_LOCK]; omega
  unfold clocksStart; (try simp [h0, hA]) <;> (repeat' split) <;> simp [h0, hA]

@[simp] theorem startLock_rd (s : State) (A : Nat) (hA : A < 0x2000) : (startLock s).rd A = s.rd A := by
  unfold startLock; (try simp [hA]) <;> (repeat' split) <;> simp [hA]

@[simp] theorem pllRelock_rd (pll : Pll) (ok : Bool) (s : State) (A : Nat) (hA : A < 0x2000) : (pllRelock pll ok s).rd A = s.rd A := by
  have h0 : A ≠ (CLK_STATUS__PLLA_LOCK).addr := by intros; simp only [CLK_STATUS__PLLA_LOCK]; omega
  have k0 : A < 0x2010 := by omega
  unfold pllRelock; (try simp [h0, k0, hA]) <;> (repeat' split) <;> simp [h0, k0, hA]

@[simp] theorem coresStop_rd (s : State) (A : Nat) : (coresStop s).rd A = s.rd A := by
  unfold coresStop; (try simp []) <;> (repeat' split) <;> simp []

@[simp] theorem descentAbandon_rd (s : State) (A : Nat) (hA : A < 0x2010) : (descentAbandon s).rd A = s.rd A := by
  have h0 : A ≠ (PWR_STATE__DESCENDING).addr := by intros; simp only [PWR_STATE__DESCENDING]; omega
  unfold descentAbandon; (try simp [h0, hA]) <;> (repeat' split) <;> simp [h0, hA]

@[simp] theorem descentEnd_rd (s : State) (A : Nat) (hA : A < 0x2000) : (descentEnd s).rd A = s.rd A := by
  have h0 : A ≠ (CLK_STATUS__PLLA_LOCK).addr := by intros; simp only [CLK_STATUS__PLLA_LOCK]; omega
  have h1 : A ≠ (PWR_STATE__DESCENDING).addr := by intros; simp only [PWR_STATE__DESCENDING]; omega
  have h2 : A ≠ (PWR_STATE__STATE).addr := by intros; simp only [PWR_STATE__STATE]; omega
  have k0 : A < 0x38004 := by omega
  unfold descentEnd; (try simp [h0, h1, h2, k0, hA]) <;> (repeat' split) <;> simp [h0, h1, h2, k0, hA]

@[simp] theorem wbFlush_rd (p : Nat) (s : State) (A : Nat) : (wbFlush p s).rd A = s.rd A := by
  unfold wbFlush; (try simp []) <;> (repeat' split) <;> simp []

@[simp] theorem wakeLocked_rd (s : State) (A : Nat) (hA : A < 0x2000) : (wakeLocked s).rd A = s.rd A := by
  have h0 : A ≠ (PWR_STATE__STATE).addr := by intros; simp only [PWR_STATE__STATE]; omega
  have k0 : A < 0x2010 := by omega
  have k1 : A < 0x38004 := by omega
  unfold wakeLocked; (try simp [h0, k0, k1, hA]) <;> (repeat' split) <;> simp [h0, k0, k1, hA]

@[simp] theorem ctxsReset_rd (s : State) (A : Nat) (hA : A < 0x8020) : (ctxsReset s).rd A = s.rd A := by
  have h0 : ∀ (i : Nat), A ≠ (HP_CTX_LEDGER0__INTERRUPTED i).addr := by intros; simp only [HP_CTX_LEDGER0__INTERRUPTED]; omega
  have h1 : ∀ (i : Nat), A ≠ (HP_CTX_LEDGER2__CODE i).addr := by intros; simp only [HP_CTX_LEDGER2__CODE]; omega
  have h2 : ∀ (i : Nat), A ≠ (HP_CTX_LEDGER2__DETAIL i).addr := by intros; simp only [HP_CTX_LEDGER2__DETAIL]; omega
  have k0 : A < 0x100A0 := by omega
  unfold ctxsReset
  refine each_rd _ _ _ _ ?_
  intro c s
  split <;> simp [h0, h1, h2, k0]

@[simp] theorem vaultCut_rd (s : State) (A : Nat) (hA : A < 0x60008) : (vaultCut s).rd A = s.rd A := by
  unfold vaultCut; (try simp [hA]) <;> (repeat' split) <;> simp [hA]

@[simp] theorem vaultMend_rd (s : State) (A : Nat) (hA : A < 0x60008) : (vaultMend s).rd A = s.rd A := by
  unfold vaultMend; (try simp [hA]) <;> (repeat' split) <;> simp [hA]

@[simp] theorem attResume_rd (s : State) (A : Nat) (hA : A < 0x10C0) : (attResume s).rd A = s.rd A := by
  have h0 : A ≠ (VLT_ATT_STAT__BUSY).addr := by intros; simp only [VLT_ATT_STAT__BUSY]; omega
  unfold attResume; (try simp [h0, hA]) <;> (repeat' split) <;> simp [h0, hA]

@[simp] theorem xbarStart_rd (bad : List Nat) (s : State) (A : Nat) (hA : A < 0x30010) : (xbarStart bad s).rd A = s.rd A := by
  have h0 : ∀ (i : Nat), A ≠ (FM_CH_STATUS__FP i).addr := by intros; simp only [FM_CH_STATUS__FP]; omega
  have h1 : ∀ (i j : Nat), A ≠ (FM_XBAR__FP i j).addr := by intros; simp only [FM_XBAR__FP]; omega
  have h2 : ∀ (i : Nat), A ≠ (fpStat i).addr := by intros; simp only [fpStat, FM_FPSTAT__STATE]; omega
  unfold xbarStart; simp only []
  rw [each_rd, each_rd] <;> intros <;> (try split) <;> simp [h0, h1, h2]

@[simp] theorem startFail_rd (u : Nat × Nat) (s : State) (A : Nat) (hA : A < 0x2010) : (startFail u s).rd A = s.rd A := by
  have k0 : A < 0x50000 := by omega
  have k1 : A < 0x50014 := by omega
  unfold startFail; (try simp [k0, k1, hA]) <;> (repeat' split) <;> simp [k0, k1, hA]

@[simp] theorem unitsStart_rd (s : State) (A : Nat) (hA : A < 0x38004) : (unitsStart s).rd A = s.rd A := by
  have h0 : ∀ (i : Nat), A ≠ (RED_CE_STAT__LANE_OK i).addr := by intros; simp only [RED_CE_STAT__LANE_OK]; omega
  have h1 : ∀ (i : Nat), A ≠ (RED_CE_STAT__STATE i).addr := by intros; simp only [RED_CE_STAT__STATE]; omega
  have h2 : ∀ (i : Nat), A ≠ (RED_CP_STAT__STATE i).addr := by intros; simp only [RED_CP_STAT__STATE]; omega
  have h3 : ∀ (i : Nat), A ≠ (pxState i).addr := by intros; simp only [pxState, PM_STATUS__PX0_STATE, PM_STATUS__PX1_STATE]; first | omega | (split <;> omega) | (split <;> simp only [] <;> omega) | (repeat' split) <;> simp only [] <;> omega
  have h4 : ∀ (i : Nat), A ≠ (slotPair i).addr := by intros; simp only [slotPair, RED_SLOTS]; first | omega | (split <;> omega) | (split <;> simp only [] <;> omega) | (repeat' split) <;> simp only [] <;> omega
  have k0 : A < 0x50040 := by omega
  unfold unitsStart; (try simp [h0, h1, h2, h3, h4, k0, hA]) <;> (repeat' split) <;> simp [h0, h1, h2, h3, h4, k0, hA]

@[simp] theorem hpEvent_rd (f : FieldRef) (p src : Nat) (s : State) (A : Nat) (hf : A ≠ f.addr) (hA : A < 0x78000) : (hpEvent f p src s).rd A = s.rd A := by
  unfold hpEvent; simp [hf, hA]

@[simp] theorem xferAbandon_rd (s : State) (A : Nat) (hA : A < 0x1004) : (xferAbandon s).rd A = s.rd A := by
  have h0 : A ≠ (HP_EVENT__STEWARD_CHANGED).addr := by intros; simp only [HP_EVENT__STEWARD_CHANGED]; omega
  have h1 : A ≠ (HP_STEWARD__XFER_FAIL).addr := by intros; simp only [HP_STEWARD__XFER_FAIL]; omega
  have h2 : A ≠ (HP_STEWARD__XFER_PENDING).addr := by intros; simp only [HP_STEWARD__XFER_PENDING]; omega
  have k0 : A < 0x78000 := by omega
  unfold xferAbandon; (try simp [h0, h1, h2, k0, hA]) <;> (repeat' split) <;> simp [h0, h1, h2, k0, hA]

@[simp] theorem xferWrite_rd (target : Nat) (go : Bool) (s : State) (A : Nat) (hA : A < 0x1004) : (xferWrite target go s).rd A = s.rd A := by
  have h0 : A ≠ (HP_STEWARD__XFER_PENDING).addr := by intros; simp only [HP_STEWARD__XFER_PENDING]; omega
  have h1 : A ≠ (HP_STEWARD__XFER_TARGET).addr := by intros; simp only [HP_STEWARD__XFER_TARGET]; omega
  unfold xferWrite; (try simp [h0, h1, hA]) <;> (repeat' split) <;> simp [h0, h1, hA]

@[simp] theorem xferAccept_rd (p : Nat) (s : State) (A : Nat) (hA : A < 0x10C0) : (xferAccept p s).rd A = s.rd A := by
  unfold xferAccept; (try simp [hA]) <;> (repeat' split) <;> simp [hA]

@[simp] theorem lossAct_rd (a : Nat) (s : State) (A : Nat) (hA : A < 0x2010) : (lossAct a s).rd A = s.rd A := by
  have k0 : A < 0x10040 := by omega
  unfold lossAct; (try simp [k0, hA]) <;> (repeat' split) <;> simp [k0, hA]

@[simp] theorem msixClear_rd (p : Nat) (s : State) (A : Nat) : (msixClear p s).rd A = s.rd A := by
  unfold msixClear; (try simp []) <;> (repeat' split) <;> simp []

@[simp] theorem flushFail_rd (p c : Nat) (s : State) (A : Nat) : (flushFail p c s).rd A = s.rd A := by
  unfold flushFail; (try simp []) <;> (repeat' split) <;> simp []

@[simp] theorem hostLoss_rd (p : Nat) (kind : LossKind) (s : State) (A : Nat) (hA : A < 0x1004) : (hostLoss p kind s).rd A = s.rd A := by
  have h0 : ∀ (i : Nat), A ≠ (EV_RING_CFG__EN i).addr := by intros; simp only [EV_RING_CFG__EN]; omega
  have h1 : A ≠ (HP_EVENT__HOT_RESET).addr := by intros; simp only [HP_EVENT__HOT_RESET]; omega
  have h2 : A ≠ (HP_EVENT__LINK_DOWN).addr := by intros; simp only [HP_EVENT__LINK_DOWN]; omega
  have h3 : ∀ (i : Nat), A ≠ (HP_LINK__BME i).addr := by intros; simp only [HP_LINK__BME]; omega
  have h4 : ∀ (i : Nat), A ≠ (HP_LINK__DSTATE i).addr := by intros; simp only [HP_LINK__DSTATE]; omega
  have h5 : ∀ (i : Nat), A ≠ (HP_LINK__LPM i).addr := by intros; simp only [HP_LINK__LPM]; omega
  have h6 : ∀ (i : Nat), A ≠ (HP_LINK__SPEED i).addr := by intros; simp only [HP_LINK__SPEED]; omega
  have h7 : ∀ (i : Nat), A ≠ (HP_LINK__UP i).addr := by intros; simp only [HP_LINK__UP]; omega
  have h8 : ∀ (i : Nat), A ≠ (HP_RESETCNT__DOWN i).addr := by intros; simp only [HP_RESETCNT__DOWN]; omega
  have h9 : ∀ (i : Nat), A ≠ (HP_RESETCNT__HOT i).addr := by intros; simp only [HP_RESETCNT__HOT]; omega
  have k0 : A < 0x2010 := by omega
  have k1 : A < 0x8014 := by omega
  have k2 : A < 0x100A0 := by omega
  have k3 : A < 0x78000 := by omega
  unfold hostLoss; (try simp [h0, h1, h2, h3, h4, h5, h6, h7, h8, h9, k0, k1, k2, k3, hA]) <;> (repeat' split) <;> simp [h0, h1, h2, h3, h4, h5, h6, h7, h8, h9, k0, k1, k2, k3, hA]

@[simp] theorem portCfg_rd (p : Nat) (s : State) (A : Nat) (hA : A < 0x1004) : (portCfg p s).rd A = s.rd A := by
  unfold portCfg; (try simp [hA]) <;> (repeat' split) <;> simp [hA]

@[simp] theorem satStep_rd (c : Nat) (s : State) (A : Nat) (hA : A < 0x8014) : (satStep c s).rd A = s.rd A := by
  have h0 : ∀ (i : Nat), A ≠ (HP_CTX_EVENT__SAT_END i).addr := by intros; simp only [HP_CTX_EVENT__SAT_END]; omega
  have h1 : ∀ (i : Nat), A ≠ (HP_CTX_STATE__SATURATED i).addr := by intros; simp only [HP_CTX_STATE__SATURATED]; omega
  have k0 : A < 0x78000 := by omega
  unfold satStep; (try simp [h0, h1, k0, hA]) <;> (repeat' split) <;> simp [h0, h1, k0, hA]

@[simp] theorem dbTail_rd (c : Nat) (v : Word) (s : State) (A : Nat) (hA : A < 0x8014) : (dbTail c v s).rd A = s.rd A := by
  have h0 : ∀ (i : Nat), A ≠ (HP_CTX_EVENT__DB_BACK i).addr := by intros; simp only [HP_CTX_EVENT__DB_BACK]; omega
  have h1 : ∀ (i : Nat), A ≠ (HP_CTX_STATE__PHASE i).addr := by intros; simp only [HP_CTX_STATE__PHASE]; omega
  have h2 : ∀ (i : Nat), A ≠ (HP_CTX_STATE__TAIL i).addr := by intros; simp only [HP_CTX_STATE__TAIL]; omega
  have k0 : A < 0x78000 := by omega
  unfold dbTail; (try simp [h0, h1, h2, k0, hA]) <;> (repeat' split) <;> simp [h0, h1, h2, k0, hA]

@[simp] theorem ctxHalted_rd (c : Nat) (s : State) (A : Nat) (hA : A < 0x8014) : (ctxHalted c s).rd A = s.rd A := by
  have h0 : ∀ (i : Nat), A ≠ (HP_CTX_EVENT__STOPPED i).addr := by intros; simp only [HP_CTX_EVENT__STOPPED]; omega
  have h1 : ∀ (i : Nat), A ≠ (HP_CTX_STATE__PHASE i).addr := by intros; simp only [HP_CTX_STATE__PHASE]; omega
  have k0 : A < 0x78000 := by omega
  unfold ctxHalted; (try simp [h0, h1, k0, hA]) <;> (repeat' split) <;> simp [h0, h1, k0, hA]

@[simp] theorem descStart_rd (c : Nat) (l : List Word) (s : State) (A : Nat) (hA : A < 0x1108) : (descStart c l s).rd A = s.rd A := by
  have h0 : ∀ (i : Nat), A ≠ (HP_CTX_LEDGER0__DONE i).addr := by intros; simp only [HP_CTX_LEDGER0__DONE]; omega
  have h1 : ∀ (i : Nat), A ≠ (HP_CTX_LEDGER0__INDEX i).addr := by intros; simp only [HP_CTX_LEDGER0__INDEX]; omega
  have h2 : ∀ (i : Nat), A ≠ (HP_CTX_LEDGER0__INTERRUPTED i).addr := by intros; simp only [HP_CTX_LEDGER0__INTERRUPTED]; omega
  have h3 : ∀ (i : Nat), A ≠ (HP_CTX_LEDGER0__OPCODE i).addr := by intros; simp only [HP_CTX_LEDGER0__OPCODE]; omega
  have h4 : ∀ (i : Nat), A ≠ (HP_CTX_LEDGER0__RSAFE i).addr := by intros; simp only [HP_CTX_LEDGER0__RSAFE]; omega
  have h5 : ∀ (i : Nat), A ≠ (HP_CTX_LEDGER0__VALID i).addr := by intros; simp only [HP_CTX_LEDGER0__VALID]; omega
  have h6 : ∀ (i : Nat), A ≠ (HP_CTX_LEDGER1__STEPS i).addr := by intros; simp only [HP_CTX_LEDGER1__STEPS]; omega
  have h7 : ∀ (i : Nat), A ≠ (HP_CTX_STATE__PHASE i).addr := by intros; simp only [HP_CTX_STATE__PHASE]; omega
  have k0 : A < 0x38004 := by omega
  unfold descStart; (try simp [h0, h1, h2, h3, h4, h5, h6, h7, k0, hA]) <;> (repeat' split) <;> simp [h0, h1, h2, h3, h4, h5, h6, h7, k0, hA]

@[simp] theorem descDetach_rd (c : Nat) (s : State) (A : Nat) (hA : A < 0x30000) : (descDetach c s).rd A = s.rd A := by
  have h0 : A ≠ (VLT_STG_STAT__BUSY).addr := by intros; simp only [VLT_STG_STAT__BUSY]; omega
  have k0 : A < 0x38004 := by omega
  have he : ∀ u : State, (u.each (List.range 8) fun a s =>
      match (s.ax a).req with
      | some r => if r.ctx = some c then s.upAx a fun x => { x with req := some { r with ctx := none } } else s
      | none => s).rd A = u.rd A := by
    intro u; refine each_rd _ _ _ _ fun a s => ?_
    split
    · split <;> simp
    · rfl
  unfold descDetach; simp only []
  generalize hu : (s.each (List.range 8) fun a s => _) = u
  have hk : u.rd A = s.rd A := by rw [← hu]; exact he s
  rw [← hk]
  (repeat' split) <;> simp [h0, k0, hA]

@[simp] theorem descEnd_rd (c : Nat) (e : ExecS) (code detail : Nat) (completes : Bool) (s : State) (A : Nat) (hA : A < 0x8014) : (descEnd c e code detail completes s).rd A = s.rd A := by
  have h0 : ∀ (i : Nat), A ≠ (HP_CTX_LEDGER0__DONE i).addr := by intros; simp only [HP_CTX_LEDGER0__DONE]; omega
  have h1 : ∀ (i : Nat), A ≠ (HP_CTX_LEDGER0__INTERRUPTED i).addr := by intros; simp only [HP_CTX_LEDGER0__INTERRUPTED]; omega
  have h2 : ∀ (i : Nat), A ≠ (HP_CTX_LEDGER2__CODE i).addr := by intros; simp only [HP_CTX_LEDGER2__CODE]; omega
  have h3 : ∀ (i : Nat), A ≠ (HP_CTX_LEDGER2__DETAIL i).addr := by intros; simp only [HP_CTX_LEDGER2__DETAIL]; omega
  have h4 : ∀ (i : Nat), A ≠ (HP_CTX_LEDGER3__SEQ i).addr := by intros; simp only [HP_CTX_LEDGER3__SEQ]; omega
  have h5 : ∀ (i : Nat), A ≠ (HP_CTX_STATE__HEAD i).addr := by intros; simp only [HP_CTX_STATE__HEAD]; omega
  have h6 : ∀ (i : Nat), A ≠ (HP_CTX_STATE__PHASE i).addr := by intros; simp only [HP_CTX_STATE__PHASE]; omega
  have k0 : A < 0x100A0 := by omega
  have k1 : A < 0x30000 := by omega
  have k2 : A < 0x78000 := by omega
  unfold descEnd; (try simp [h0, h1, h2, h3, h4, h5, h6, k0, k1, k2, hA]) <;> (repeat' split) <;> simp [h0, h1, h2, h3, h4, h5, h6, k0, k1, k2, hA]

@[simp] theorem descFinish_rd (c : Nat) (s : State) (A : Nat) (hA : A < 0x8014) : (descFinish c s).rd A = s.rd A := by
  unfold descFinish; (try simp [hA]) <;> (repeat' split) <;> simp [hA]

@[simp] theorem ctxCtrl_rd (c : Nat) (v : Word) (s : State) (A : Nat) (hA : A < 0x8010) : (ctxCtrl c v s).rd A = s.rd A := by
  have h0 : ∀ (i : Nat), A ≠ (HP_CTX_CTRL__EN i).addr := by intros; simp only [HP_CTX_CTRL__EN]; omega
  have h1 : ∀ (i : Nat), A ≠ (HP_CTX_LEDGER0 i) := by intros; simp only [HP_CTX_LEDGER0]; omega
  have h2 : ∀ (i : Nat), A ≠ (HP_CTX_LEDGER1 i) := by intros; simp only [HP_CTX_LEDGER1]; omega
  have h3 : ∀ (i : Nat), A ≠ (HP_CTX_LEDGER2 i) := by intros; simp only [HP_CTX_LEDGER2]; omega
  have h4 : ∀ (i : Nat), A ≠ (HP_CTX_LEDGER3 i) := by intros; simp only [HP_CTX_LEDGER3]; omega
  have h5 : ∀ (i : Nat), A ≠ (HP_CTX_STATE__HEAD i).addr := by intros; simp only [HP_CTX_STATE__HEAD]; omega
  have h6 : ∀ (i : Nat), A ≠ (HP_CTX_STATE__PHASE i).addr := by intros; simp only [HP_CTX_STATE__PHASE]; omega
  have h7 : ∀ (i : Nat), A ≠ (HP_CTX_STATE__TAIL i).addr := by intros; simp only [HP_CTX_STATE__TAIL]; omega
  have k0 : A < 0x8014 := by omega
  unfold ctxCtrl; (try simp [h0, h1, h2, h3, h4, h5, h6, h7, k0, hA]) <;> (repeat' split) <;> simp [h0, h1, h2, h3, h4, h5, h6, h7, k0, hA]

@[simp] theorem msixDue_rd (p v : Nat) (s : State) (A : Nat) (hA : A < 0x80004) : (msixDue p v s).rd A = s.rd A := by
  unfold msixDue; (try simp [hA]) <;> (repeat' split) <;> simp [hA]

@[simp] theorem cfgRead_rd (p : Nat) (r : CfgReg) (s : State) (A : Nat) : (cfgRead p r s).rd A = s.rd A := by
  unfold cfgRead; (try simp []) <;> (repeat' split) <;> simp []

@[simp] theorem readReg_rd (w : Writer) (a : Nat) (s : State) (A : Nat) (hA : A < 0x2000) : (readReg w a s).2.rd A = s.rd A := by
  have k0 : A < 0x38004 := by omega
  unfold readReg; (try simp [k0, hA]) <;> (repeat' split) <;> simp [k0, hA]

@[simp] theorem powerGo_rd (s : State) (A : Nat) (hA : A < 0x2010) : (powerGo s).rd A = s.rd A := by
  have h0 : A ≠ (PWR_STATE__DESCENDING).addr := by intros; simp only [PWR_STATE__DESCENDING]; omega
  have h1 : A ≠ (PWR_STATE__LAST_REFUSE).addr := by intros; simp only [PWR_STATE__LAST_REFUSE]; omega
  have k0 : A < 0x8014 := by omega
  have k1 : A < 0x8024 := by omega
  unfold powerGo; (try simp [h0, h1, k0, k1, hA]) <;> (repeat' split) <;> simp [h0, h1, k0, k1, hA]

@[simp] theorem ringHead_rd (p : Nat) (v : Nat) (s : State) (A : Nat) (hA : A < 0x7900C) : (ringHead p v s).rd A = s.rd A := by
  have h0 : ∀ (i : Nat), A ≠ (EV_RING_HEAD__HEAD i).addr := by intros; simp only [EV_RING_HEAD__HEAD]; omega
  have h1 : ∀ (i : Nat), A ≠ (EV_RING_TAIL__FULL i).addr := by intros; simp only [EV_RING_TAIL__FULL]; omega
  unfold ringHead; (try simp [h0, h1, hA]) <;> (repeat' split) <;> simp [h0, h1, hA]

@[simp] theorem ringEnable_rd (p : Nat) (s : State) (A : Nat) (hA : A < 0x7900C) : (ringEnable p s).rd A = s.rd A := by
  have h0 : ∀ (i : Nat), A ≠ (EV_RING_TAIL__TAIL i).addr := by intros; simp only [EV_RING_TAIL__TAIL]; omega
  unfold ringEnable; (try simp [h0, hA]) <;> (repeat' split) <;> simp [h0, hA]

@[simp] theorem ledgerWrite_rd (c v : Nat) (s : State) (A : Nat) (hA : A < 0x8024) : (ledgerWrite c v s).rd A = s.rd A := by
  have h0 : ∀ (i : Nat), A ≠ (HP_CTX_LEDGER1__STEPS i).addr := by intros; simp only [HP_CTX_LEDGER1__STEPS]; omega
  have k0 : A < 0x80004 := by omega
  unfold ledgerWrite; (try simp [h0, k0, hA]) <;> (repeat' split) <;> simp [h0, k0, hA]

@[simp] theorem calPush_rd (w v : Nat) (s : State) (A : Nat) (hA : A < 0x10C0) : (calPush w v s).rd A = s.rd A := by
  unfold calPush; (try simp [hA]) <;> (repeat' split) <;> simp [hA]

@[simp] theorem calStep_rd (v : Word) (s : State) (A : Nat) (hA : A < 0x10C0) : (calStep v s).rd A = s.rd A := by
  have h0 : A ≠ (PM_CAL_STATUS__PHASE).addr := by intros; simp only [PM_CAL_STATUS__PHASE]; omega
  have k0 : A < 0x38004 := by omega
  unfold calStep; (try simp [h0, k0, hA]) <;> (repeat' split) <;> simp [h0, k0, hA]

@[simp] theorem ctCmd_rd (v : Word) (s : State) (A : Nat) (hA : A < 0x48010) : (ctCmd v s).1.rd A = s.rd A := by
  unfold ctCmd; (try simp [hA]) <;> (repeat' split) <;> simp [hA]

@[simp] theorem safKey_rd (k : Nat) (s : State) (A : Nat) (hA : A < 0x10C0) : (safKey k s).1.rd A = s.rd A := by
  have k0 : A < 0x10000 := by omega
  unfold safKey; (try simp [k0, hA]) <;> (repeat' split) <;> simp [k0, hA]

@[simp] theorem refuseRecord_rd (w : Writer) (a : Nat) (reason : Nat) (s : State) (A : Nat) (hA : A < 0x10C0) : (refuseRecord w a reason s).rd A = s.rd A := by
  have k0 : A < 0x1108 := by omega
  unfold refuseRecord; (try simp [k0, hA]) <;> (repeat' split) <;> simp [k0, hA]

@[simp] theorem msixWrite_rd (p a : Nat) (v : Word) (s : State) (A : Nat) (hA : A < 0x80004) : (msixWrite p a v s).rd A = s.rd A := by
  unfold msixWrite; (try simp [hA]) <;> (repeat' split) <;> simp [hA]

@[simp] theorem pageWrite_rd (w : Writer) (a : Nat) (v : Word) (s : State) (A : Nat) (hA : A < 0x1108) : (pageWrite w a v s).rd A = s.rd A := by
  have k0 : A < 0x8014 := by omega
  have k1 : A < 0x10040 := by omega
  unfold pageWrite; (try simp [k0, k1, hA]) <;> (repeat' split) <;> simp [k0, k1, hA]

@[simp] theorem doRead_rd (p : Fin 4) (bar2 : Bool) (a : Nat) (s : State) (A : Nat) (hA : A < 0x1108) : (doRead p bar2 a s).2.rd A = s.rd A := by
  have k0 : A < 0x2000 := by omega
  unfold doRead; (try simp [k0, hA]) <;> (repeat' split) <;> simp [k0, hA]

@[simp] theorem holdAccess_rd (w : Writer) (x : Access) (s : State) (A : Nat) : (holdAccess w x s).rd A = s.rd A := by
  unfold holdAccess; (try simp []) <;> (repeat' split) <;> simp []

@[simp] theorem longAccess_rd (p : Nat) (x : Access) (s : State) (A : Nat) (hA : A < 0x1108) : (longAccess p x s).rd A = s.rd A := by
  unfold longAccess; (try simp [hA]) <;> (repeat' split) <;> simp [hA]

@[simp] theorem heldGiveUp_rd (h : Nat × Access) (s : State) (A : Nat) (hA : A < 0x1108) : (heldGiveUp h s).rd A = s.rd A := by
  unfold heldGiveUp; (try simp [hA]) <;> (repeat' split) <;> simp [hA]

@[simp] theorem vectorsDue_rd (s : State) (A : Nat) (hA : A < 0x80004) : (vectorsDue s).rd A = s.rd A := by
  unfold vectorsDue; (try simp [hA]) <;> (repeat' split) <;> simp [hA]

@[simp] theorem descRefused_rd (c : Nat) (w : Writer) (a k : Nat) (s : State) (A : Nat) (hA : A < 0x10C0) : (descRefused c w a k s).rd A = s.rd A := by
  unfold descRefused; (try simp [hA]) <;> (repeat' split) <;> simp [hA]

@[simp] theorem dmaElemFail_rd (n code detail : Nat) (s : State) (A : Nat) : (dmaElemFail n code detail s).rd A = s.rd A := by
  unfold dmaElemFail; (try simp []) <;> (repeat' split) <;> simp []

@[simp] theorem dmaTag_rd (n queued : Nat) (s : State) (A : Nat) : (dmaTag n queued s).rd A = s.rd A := by
  unfold dmaTag; (try simp []) <;> (repeat' split) <;> simp []

end Sys2Proof.Laws
end

