-- ==== Sys2Proof/Laws/Events.lean ====
section
/-! SUPPORT. What the delivery of events, denials and the counts of the tally leave alone beside the registers: every field
but those of the event rings, MSI-X and the tally. -/

set_option linter.unreachableTactic false
set_option linter.unusedTactic false
set_option linter.unnecessarySeqFocus false

namespace Sys2Proof.Laws

open Sys2Proof.Machine

@[simp] theorem each_banks (s : State) (l : List Nat) (f : Nat → State → State) (h : ∀ i s, (f i s).banks = s.banks) :
    (s.each l f).banks = s.banks := each_keep s State.banks l f h

@[simp] theorem when_banks (s : State) (c : Bool) (f : State → State) (h : ∀ s, (f s).banks = s.banks) : (s.when c f).banks = s.banks :=
  when_keep s State.banks c f h

@[simp] theorem each_bankSeen (s : State) (l : List Nat) (f : Nat → State → State) (h : ∀ i s, (f i s).bankSeen = s.bankSeen) :
    (s.each l f).bankSeen = s.bankSeen := each_keep s State.bankSeen l f h

@[simp] theorem when_bankSeen (s : State) (c : Bool) (f : State → State) (h : ∀ s, (f s).bankSeen = s.bankSeen) : (s.when c f).bankSeen = s.bankSeen :=
  when_keep s State.bankSeen c f h

@[simp] theorem each_ctxs (s : State) (l : List Nat) (f : Nat → State → State) (h : ∀ i s, (f i s).ctxs = s.ctxs) :
    (s.each l f).ctxs = s.ctxs := each_keep s State.ctxs l f h

@[simp] theorem when_ctxs (s : State) (c : Bool) (f : State → State) (h : ∀ s, (f s).ctxs = s.ctxs) : (s.when c f).ctxs = s.ctxs :=
  when_keep s State.ctxs c f h

@[simp] theorem each_axes (s : State) (l : List Nat) (f : Nat → State → State) (h : ∀ i s, (f i s).axes = s.axes) :
    (s.each l f).axes = s.axes := each_keep s State.axes l f h

@[simp] theorem when_axes (s : State) (c : Bool) (f : State → State) (h : ∀ s, (f s).axes = s.axes) : (s.when c f).axes = s.axes :=
  when_keep s State.axes c f h

@[simp] theorem each_tms (s : State) (l : List Nat) (f : Nat → State → State) (h : ∀ i s, (f i s).tms = s.tms) :
    (s.each l f).tms = s.tms := each_keep s State.tms l f h

@[simp] theorem when_tms (s : State) (c : Bool) (f : State → State) (h : ∀ s, (f s).tms = s.tms) : (s.when c f).tms = s.tms :=
  when_keep s State.tms c f h

@[simp] theorem each_legs (s : State) (l : List Nat) (f : Nat → State → State) (h : ∀ i s, (f i s).legs = s.legs) :
    (s.each l f).legs = s.legs := each_keep s State.legs l f h

@[simp] theorem when_legs (s : State) (c : Bool) (f : State → State) (h : ∀ s, (f s).legs = s.legs) : (s.when c f).legs = s.legs :=
  when_keep s State.legs c f h

@[simp] theorem each_fcs (s : State) (l : List Nat) (f : Nat → State → State) (h : ∀ i s, (f i s).fcs = s.fcs) :
    (s.each l f).fcs = s.fcs := each_keep s State.fcs l f h

@[simp] theorem when_fcs (s : State) (c : Bool) (f : State → State) (h : ∀ s, (f s).fcs = s.fcs) : (s.when c f).fcs = s.fcs :=
  when_keep s State.fcs c f h

@[simp] theorem each_pairs (s : State) (l : List Nat) (f : Nat → State → State) (h : ∀ i s, (f i s).pairs = s.pairs) :
    (s.each l f).pairs = s.pairs := each_keep s State.pairs l f h

@[simp] theorem when_pairs (s : State) (c : Bool) (f : State → State) (h : ∀ s, (f s).pairs = s.pairs) : (s.when c f).pairs = s.pairs :=
  when_keep s State.pairs c f h

@[simp] theorem each_pis (s : State) (l : List Nat) (f : Nat → State → State) (h : ∀ i s, (f i s).pis = s.pis) :
    (s.each l f).pis = s.pis := each_keep s State.pis l f h

@[simp] theorem when_pis (s : State) (c : Bool) (f : State → State) (h : ∀ s, (f s).pis = s.pis) : (s.when c f).pis = s.pis :=
  when_keep s State.pis c f h

@[simp] theorem each_links (s : State) (l : List Nat) (f : Nat → State → State) (h : ∀ i s, (f i s).links = s.links) :
    (s.each l f).links = s.links := each_keep s State.links l f h

@[simp] theorem when_links (s : State) (c : Bool) (f : State → State) (h : ∀ s, (f s).links = s.links) : (s.when c f).links = s.links :=
  when_keep s State.links c f h

@[simp] theorem each_safs (s : State) (l : List Nat) (f : Nat → State → State) (h : ∀ i s, (f i s).safs = s.safs) :
    (s.each l f).safs = s.safs := each_keep s State.safs l f h

@[simp] theorem when_safs (s : State) (c : Bool) (f : State → State) (h : ∀ s, (f s).safs = s.safs) : (s.when c f).safs = s.safs :=
  when_keep s State.safs c f h

@[simp] theorem each_cmpFails (s : State) (l : List Nat) (f : Nat → State → State) (h : ∀ i s, (f i s).cmpFails = s.cmpFails) :
    (s.each l f).cmpFails = s.cmpFails := each_keep s State.cmpFails l f h

@[simp] theorem when_cmpFails (s : State) (c : Bool) (f : State → State) (h : ∀ s, (f s).cmpFails = s.cmpFails) : (s.when c f).cmpFails = s.cmpFails :=
  when_keep s State.cmpFails c f h

@[simp] theorem each_voteFail (s : State) (l : List Nat) (f : Nat → State → State) (h : ∀ i s, (f i s).voteFail = s.voteFail) :
    (s.each l f).voteFail = s.voteFail := each_keep s State.voteFail l f h

@[simp] theorem when_voteFail (s : State) (c : Bool) (f : State → State) (h : ∀ s, (f s).voteFail = s.voteFail) : (s.when c f).voteFail = s.voteFail :=
  when_keep s State.voteFail c f h

@[simp] theorem each_pmIns (s : State) (l : List Nat) (f : Nat → State → State) (h : ∀ i s, (f i s).pmIns = s.pmIns) :
    (s.each l f).pmIns = s.pmIns := each_keep s State.pmIns l f h

@[simp] theorem when_pmIns (s : State) (c : Bool) (f : State → State) (h : ∀ s, (f s).pmIns = s.pmIns) : (s.when c f).pmIns = s.pmIns :=
  when_keep s State.pmIns c f h

@[simp] theorem each_pm (s : State) (l : List Nat) (f : Nat → State → State) (h : ∀ i s, (f i s).pm = s.pm) :
    (s.each l f).pm = s.pm := each_keep s State.pm l f h

@[simp] theorem when_pm (s : State) (c : Bool) (f : State → State) (h : ∀ s, (f s).pm = s.pm) : (s.when c f).pm = s.pm :=
  when_keep s State.pm c f h

@[simp] theorem each_dmas (s : State) (l : List Nat) (f : Nat → State → State) (h : ∀ i s, (f i s).dmas = s.dmas) :
    (s.each l f).dmas = s.dmas := each_keep s State.dmas l f h

@[simp] theorem when_dmas (s : State) (c : Bool) (f : State → State) (h : ∀ s, (f s).dmas = s.dmas) : (s.when c f).dmas = s.dmas :=
  when_keep s State.dmas c f h

@[simp] theorem each_isls (s : State) (l : List Nat) (f : Nat → State → State) (h : ∀ i s, (f i s).isls = s.isls) :
    (s.each l f).isls = s.isls := each_keep s State.isls l f h

@[simp] theorem when_isls (s : State) (c : Bool) (f : State → State) (h : ∀ s, (f s).isls = s.isls) : (s.when c f).isls = s.isls :=
  when_keep s State.isls c f h

@[simp] theorem each_fl (s : State) (l : List Nat) (f : Nat → State → State) (h : ∀ i s, (f i s).fl = s.fl) :
    (s.each l f).fl = s.fl := each_keep s State.fl l f h

@[simp] theorem when_fl (s : State) (c : Bool) (f : State → State) (h : ∀ s, (f s).fl = s.fl) : (s.when c f).fl = s.fl :=
  when_keep s State.fl c f h

@[simp] theorem each_wear (s : State) (l : List Nat) (f : Nat → State → State) (h : ∀ i s, (f i s).wear = s.wear) :
    (s.each l f).wear = s.wear := each_keep s State.wear l f h

@[simp] theorem when_wear (s : State) (c : Bool) (f : State → State) (h : ∀ s, (f s).wear = s.wear) : (s.when c f).wear = s.wear :=
  when_keep s State.wear c f h

@[simp] theorem each_vq (s : State) (l : List Nat) (f : Nat → State → State) (h : ∀ i s, (f i s).vq = s.vq) :
    (s.each l f).vq = s.vq := each_keep s State.vq l f h

@[simp] theorem when_vq (s : State) (c : Bool) (f : State → State) (h : ∀ s, (f s).vq = s.vq) : (s.when c f).vq = s.vq :=
  when_keep s State.vq c f h

@[simp] theorem each_vheld (s : State) (l : List Nat) (f : Nat → State → State) (h : ∀ i s, (f i s).vheld = s.vheld) :
    (s.each l f).vheld = s.vheld := each_keep s State.vheld l f h

@[simp] theorem when_vheld (s : State) (c : Bool) (f : State → State) (h : ∀ s, (f s).vheld = s.vheld) : (s.when c f).vheld = s.vheld :=
  when_keep s State.vheld c f h

@[simp] theorem each_vs (s : State) (l : List Nat) (f : Nat → State → State) (h : ∀ i s, (f i s).vs = s.vs) :
    (s.each l f).vs = s.vs := each_keep s State.vs l f h

@[simp] theorem when_vs (s : State) (c : Bool) (f : State → State) (h : ∀ s, (f s).vs = s.vs) : (s.when c f).vs = s.vs :=
  when_keep s State.vs c f h

@[simp] theorem each_cps (s : State) (l : List Nat) (f : Nat → State → State) (h : ∀ i s, (f i s).cps = s.cps) :
    (s.each l f).cps = s.cps := each_keep s State.cps l f h

@[simp] theorem when_cps (s : State) (c : Bool) (f : State → State) (h : ∀ s, (f s).cps = s.cps) : (s.when c f).cps = s.cps :=
  when_keep s State.cps c f h

@[simp] theorem each_escrow (s : State) (l : List Nat) (f : Nat → State → State) (h : ∀ i s, (f i s).escrow = s.escrow) :
    (s.each l f).escrow = s.escrow := each_keep s State.escrow l f h

@[simp] theorem when_escrow (s : State) (c : Bool) (f : State → State) (h : ∀ s, (f s).escrow = s.escrow) : (s.when c f).escrow = s.escrow :=
  when_keep s State.escrow c f h

@[simp] theorem each_red (s : State) (l : List Nat) (f : Nat → State → State) (h : ∀ i s, (f i s).red = s.red) :
    (s.each l f).red = s.red := each_keep s State.red l f h

@[simp] theorem when_red (s : State) (c : Bool) (f : State → State) (h : ∀ s, (f s).red = s.red) : (s.when c f).red = s.red :=
  when_keep s State.red c f h

@[simp] theorem each_seams (s : State) (l : List Nat) (f : Nat → State → State) (h : ∀ i s, (f i s).seams = s.seams) :
    (s.each l f).seams = s.seams := each_keep s State.seams l f h

@[simp] theorem when_seams (s : State) (c : Bool) (f : State → State) (h : ∀ s, (f s).seams = s.seams) : (s.when c f).seams = s.seams :=
  when_keep s State.seams c f h

@[simp] theorem each_seam (s : State) (l : List Nat) (f : Nat → State → State) (h : ∀ i s, (f i s).seam = s.seam) :
    (s.each l f).seam = s.seam := each_keep s State.seam l f h

@[simp] theorem when_seam (s : State) (c : Bool) (f : State → State) (h : ∀ s, (f s).seam = s.seam) : (s.when c f).seam = s.seam :=
  when_keep s State.seam c f h

@[simp] theorem each_sys (s : State) (l : List Nat) (f : Nat → State → State) (h : ∀ i s, (f i s).sys = s.sys) :
    (s.each l f).sys = s.sys := each_keep s State.sys l f h

@[simp] theorem when_sys (s : State) (c : Bool) (f : State → State) (h : ∀ s, (f s).sys = s.sys) : (s.when c f).sys = s.sys :=
  when_keep s State.sys c f h

@[simp] theorem talBump_other (i n : Nat) (s : State) :
    (talBump i n s).banks = s.banks ∧ (talBump i n s).bankSeen = s.bankSeen ∧ (talBump i n s).ctxs = s.ctxs ∧
    (talBump i n s).axes = s.axes ∧ (talBump i n s).tms = s.tms ∧ (talBump i n s).legs = s.legs ∧
    (talBump i n s).fcs = s.fcs ∧ (talBump i n s).pairs = s.pairs ∧ (talBump i n s).pis = s.pis ∧
    (talBump i n s).links = s.links ∧ (talBump i n s).safs = s.safs ∧ (talBump i n s).cmpFails = s.cmpFails ∧
    (talBump i n s).voteFail = s.voteFail ∧ (talBump i n s).pmIns = s.pmIns ∧ (talBump i n s).pm = s.pm ∧
    (talBump i n s).dmas = s.dmas ∧ (talBump i n s).isls = s.isls ∧ (talBump i n s).fl = s.fl ∧
    (talBump i n s).wear = s.wear ∧ (talBump i n s).vq = s.vq ∧ (talBump i n s).vheld = s.vheld ∧
    (talBump i n s).vs = s.vs ∧ (talBump i n s).cps = s.cps ∧ (talBump i n s).escrow = s.escrow ∧
    (talBump i n s).red = s.red ∧ (talBump i n s).seams = s.seams ∧ (talBump i n s).seam = s.seam ∧
    (talBump i n s).sys = s.sys := by
  unfold talBump; (try simp) <;> (repeat' split) <;> simp

@[simp] theorem talCount_other (ev master n a : Nat) (s : State) :
    (talCount ev master n a s).banks = s.banks ∧ (talCount ev master n a s).bankSeen = s.bankSeen ∧
    (talCount ev master n a s).ctxs = s.ctxs ∧ (talCount ev master n a s).axes = s.axes ∧
    (talCount ev master n a s).tms = s.tms ∧ (talCount ev master n a s).legs = s.legs ∧
    (talCount ev master n a s).fcs = s.fcs ∧ (talCount ev master n a s).pairs = s.pairs ∧
    (talCount ev master n a s).pis = s.pis ∧ (talCount ev master n a s).links = s.links ∧
    (talCount ev master n a s).safs = s.safs ∧ (talCount ev master n a s).cmpFails = s.cmpFails ∧
    (talCount ev master n a s).voteFail = s.voteFail ∧ (talCount ev master n a s).pmIns = s.pmIns ∧
    (talCount ev master n a s).pm = s.pm ∧ (talCount ev master n a s).dmas = s.dmas ∧
    (talCount ev master n a s).isls = s.isls ∧ (talCount ev master n a s).fl = s.fl ∧
    (talCount ev master n a s).wear = s.wear ∧ (talCount ev master n a s).vq = s.vq ∧
    (talCount ev master n a s).vheld = s.vheld ∧ (talCount ev master n a s).vs = s.vs ∧
    (talCount ev master n a s).cps = s.cps ∧ (talCount ev master n a s).escrow = s.escrow ∧
    (talCount ev master n a s).red = s.red ∧ (talCount ev master n a s).seams = s.seams ∧
    (talCount ev master n a s).seam = s.seam ∧ (talCount ev master n a s).sys = s.sys := by
  unfold talCount; (try simp) <;> (repeat' split) <;> simp

@[simp] theorem sendMsix_other (p v : Nat) (s : State) :
    (sendMsix p v s).banks = s.banks ∧ (sendMsix p v s).bankSeen = s.bankSeen ∧ (sendMsix p v s).ctxs = s.ctxs ∧
    (sendMsix p v s).axes = s.axes ∧ (sendMsix p v s).tms = s.tms ∧ (sendMsix p v s).legs = s.legs ∧
    (sendMsix p v s).fcs = s.fcs ∧ (sendMsix p v s).pairs = s.pairs ∧ (sendMsix p v s).pis = s.pis ∧
    (sendMsix p v s).links = s.links ∧ (sendMsix p v s).safs = s.safs ∧ (sendMsix p v s).cmpFails = s.cmpFails ∧
    (sendMsix p v s).voteFail = s.voteFail ∧ (sendMsix p v s).pmIns = s.pmIns ∧ (sendMsix p v s).pm = s.pm ∧
    (sendMsix p v s).dmas = s.dmas ∧ (sendMsix p v s).isls = s.isls ∧ (sendMsix p v s).fl = s.fl ∧
    (sendMsix p v s).wear = s.wear ∧ (sendMsix p v s).vq = s.vq ∧ (sendMsix p v s).vheld = s.vheld ∧
    (sendMsix p v s).vs = s.vs ∧ (sendMsix p v s).cps = s.cps ∧ (sendMsix p v s).escrow = s.escrow ∧
    (sendMsix p v s).red = s.red ∧ (sendMsix p v s).seams = s.seams ∧ (sendMsix p v s).seam = s.seam ∧
    (sendMsix p v s).sys = s.sys := by
  unfold sendMsix; (try simp) <;> (repeat' split) <;> simp

@[simp] theorem coalesce_other (p v : Nat) (s : State) :
    (coalesce p v s).banks = s.banks ∧ (coalesce p v s).bankSeen = s.bankSeen ∧ (coalesce p v s).ctxs = s.ctxs ∧
    (coalesce p v s).axes = s.axes ∧ (coalesce p v s).tms = s.tms ∧ (coalesce p v s).legs = s.legs ∧
    (coalesce p v s).fcs = s.fcs ∧ (coalesce p v s).pairs = s.pairs ∧ (coalesce p v s).pis = s.pis ∧
    (coalesce p v s).links = s.links ∧ (coalesce p v s).safs = s.safs ∧ (coalesce p v s).cmpFails = s.cmpFails ∧
    (coalesce p v s).voteFail = s.voteFail ∧ (coalesce p v s).pmIns = s.pmIns ∧ (coalesce p v s).pm = s.pm ∧
    (coalesce p v s).dmas = s.dmas ∧ (coalesce p v s).isls = s.isls ∧ (coalesce p v s).fl = s.fl ∧
    (coalesce p v s).wear = s.wear ∧ (coalesce p v s).vq = s.vq ∧ (coalesce p v s).vheld = s.vheld ∧
    (coalesce p v s).vs = s.vs ∧ (coalesce p v s).cps = s.cps ∧ (coalesce p v s).escrow = s.escrow ∧
    (coalesce p v s).red = s.red ∧ (coalesce p v s).seams = s.seams ∧ (coalesce p v s).seam = s.seam ∧
    (coalesce p v s).sys = s.sys := by
  unfold coalesce; (try simp) <;> (repeat' split) <;> simp

@[simp] theorem writeRecord_other (p src unit count : Nat) (detail : Word) (time : Nat) (s : State) :
    (writeRecord p src unit count detail time s).banks = s.banks ∧
    (writeRecord p src unit count detail time s).bankSeen = s.bankSeen ∧
    (writeRecord p src unit count detail time s).ctxs = s.ctxs ∧
    (writeRecord p src unit count detail time s).axes = s.axes ∧ (writeRecord p src unit count detail time s).tms = s.tms ∧
    (writeRecord p src unit count detail time s).legs = s.legs ∧ (writeRecord p src unit count detail time s).fcs = s.fcs ∧
    (writeRecord p src unit count detail time s).pairs = s.pairs ∧
    (writeRecord p src unit count detail time s).pis = s.pis ∧
    (writeRecord p src unit count detail time s).links = s.links ∧
    (writeRecord p src unit count detail time s).safs = s.safs ∧
    (writeRecord p src unit count detail time s).cmpFails = s.cmpFails ∧
    (writeRecord p src unit count detail time s).voteFail = s.voteFail ∧
    (writeRecord p src unit count detail time s).pmIns = s.pmIns ∧ (writeRecord p src unit count detail time s).pm = s.pm ∧
    (writeRecord p src unit count detail time s).dmas = s.dmas ∧
    (writeRecord p src unit count detail time s).isls = s.isls ∧ (writeRecord p src unit count detail time s).fl = s.fl ∧
    (writeRecord p src unit count detail time s).wear = s.wear ∧ (writeRecord p src unit count detail time s).vq = s.vq ∧
    (writeRecord p src unit count detail time s).vheld = s.vheld ∧ (writeRecord p src unit count detail time s).vs = s.vs ∧
    (writeRecord p src unit count detail time s).cps = s.cps ∧
    (writeRecord p src unit count detail time s).escrow = s.escrow ∧
    (writeRecord p src unit count detail time s).red = s.red ∧
    (writeRecord p src unit count detail time s).seams = s.seams ∧
    (writeRecord p src unit count detail time s).seam = s.seam ∧
    (writeRecord p src unit count detail time s).sys = s.sys := by
  unfold writeRecord; (try simp) <;> (repeat' split) <;> simp

@[simp] theorem mergeRecord_other (p src unit : Nat) (detail : Word) (s : State) :
    (mergeRecord p src unit detail s).banks = s.banks ∧ (mergeRecord p src unit detail s).bankSeen = s.bankSeen ∧
    (mergeRecord p src unit detail s).ctxs = s.ctxs ∧ (mergeRecord p src unit detail s).axes = s.axes ∧
    (mergeRecord p src unit detail s).tms = s.tms ∧ (mergeRecord p src unit detail s).legs = s.legs ∧
    (mergeRecord p src unit detail s).fcs = s.fcs ∧ (mergeRecord p src unit detail s).pairs = s.pairs ∧
    (mergeRecord p src unit detail s).pis = s.pis ∧ (mergeRecord p src unit detail s).links = s.links ∧
    (mergeRecord p src unit detail s).safs = s.safs ∧ (mergeRecord p src unit detail s).cmpFails = s.cmpFails ∧
    (mergeRecord p src unit detail s).voteFail = s.voteFail ∧ (mergeRecord p src unit detail s).pmIns = s.pmIns ∧
    (mergeRecord p src unit detail s).pm = s.pm ∧ (mergeRecord p src unit detail s).dmas = s.dmas ∧
    (mergeRecord p src unit detail s).isls = s.isls ∧ (mergeRecord p src unit detail s).fl = s.fl ∧
    (mergeRecord p src unit detail s).wear = s.wear ∧ (mergeRecord p src unit detail s).vq = s.vq ∧
    (mergeRecord p src unit detail s).vheld = s.vheld ∧ (mergeRecord p src unit detail s).vs = s.vs ∧
    (mergeRecord p src unit detail s).cps = s.cps ∧ (mergeRecord p src unit detail s).escrow = s.escrow ∧
    (mergeRecord p src unit detail s).red = s.red ∧ (mergeRecord p src unit detail s).seams = s.seams ∧
    (mergeRecord p src unit detail s).seam = s.seam ∧ (mergeRecord p src unit detail s).sys = s.sys := by
  unfold mergeRecord; (try simp) <;> (repeat' split) <;> simp

@[simp] theorem deliver_other (p src unit : Nat) (detail : Word) (s : State) :
    (deliver p src unit detail s).banks = s.banks ∧ (deliver p src unit detail s).bankSeen = s.bankSeen ∧
    (deliver p src unit detail s).ctxs = s.ctxs ∧ (deliver p src unit detail s).axes = s.axes ∧
    (deliver p src unit detail s).tms = s.tms ∧ (deliver p src unit detail s).legs = s.legs ∧
    (deliver p src unit detail s).fcs = s.fcs ∧ (deliver p src unit detail s).pairs = s.pairs ∧
    (deliver p src unit detail s).pis = s.pis ∧ (deliver p src unit detail s).links = s.links ∧
    (deliver p src unit detail s).safs = s.safs ∧ (deliver p src unit detail s).cmpFails = s.cmpFails ∧
    (deliver p src unit detail s).voteFail = s.voteFail ∧ (deliver p src unit detail s).pmIns = s.pmIns ∧
    (deliver p src unit detail s).pm = s.pm ∧ (deliver p src unit detail s).dmas = s.dmas ∧
    (deliver p src unit detail s).isls = s.isls ∧ (deliver p src unit detail s).fl = s.fl ∧
    (deliver p src unit detail s).wear = s.wear ∧ (deliver p src unit detail s).vq = s.vq ∧
    (deliver p src unit detail s).vheld = s.vheld ∧ (deliver p src unit detail s).vs = s.vs ∧
    (deliver p src unit detail s).cps = s.cps ∧ (deliver p src unit detail s).escrow = s.escrow ∧
    (deliver p src unit detail s).red = s.red ∧ (deliver p src unit detail s).seams = s.seams ∧
    (deliver p src unit detail s).seam = s.seam ∧ (deliver p src unit detail s).sys = s.sys := by
  unfold deliver; (try simp) <;> (repeat' split) <;> simp

@[simp] theorem raise_other (src unit detail : Nat) (s : State) :
    (raise src unit detail s).banks = s.banks ∧ (raise src unit detail s).bankSeen = s.bankSeen ∧
    (raise src unit detail s).ctxs = s.ctxs ∧ (raise src unit detail s).axes = s.axes ∧
    (raise src unit detail s).tms = s.tms ∧ (raise src unit detail s).legs = s.legs ∧
    (raise src unit detail s).fcs = s.fcs ∧ (raise src unit detail s).pairs = s.pairs ∧
    (raise src unit detail s).pis = s.pis ∧ (raise src unit detail s).links = s.links ∧
    (raise src unit detail s).safs = s.safs ∧ (raise src unit detail s).cmpFails = s.cmpFails ∧
    (raise src unit detail s).voteFail = s.voteFail ∧ (raise src unit detail s).pmIns = s.pmIns ∧
    (raise src unit detail s).pm = s.pm ∧ (raise src unit detail s).dmas = s.dmas ∧
    (raise src unit detail s).isls = s.isls ∧ (raise src unit detail s).fl = s.fl ∧
    (raise src unit detail s).wear = s.wear ∧ (raise src unit detail s).vq = s.vq ∧
    (raise src unit detail s).vheld = s.vheld ∧ (raise src unit detail s).vs = s.vs ∧
    (raise src unit detail s).cps = s.cps ∧ (raise src unit detail s).escrow = s.escrow ∧
    (raise src unit detail s).red = s.red ∧ (raise src unit detail s).seams = s.seams ∧
    (raise src unit detail s).seam = s.seam ∧ (raise src unit detail s).sys = s.sys := by
  unfold raise; (try simp) <;> (repeat' split) <;> simp

@[simp] theorem raiseFree_other (src unit : Nat) (s : State) :
    (raiseFree src unit s).banks = s.banks ∧ (raiseFree src unit s).bankSeen = s.bankSeen ∧
    (raiseFree src unit s).ctxs = s.ctxs ∧ (raiseFree src unit s).axes = s.axes ∧ (raiseFree src unit s).tms = s.tms ∧
    (raiseFree src unit s).legs = s.legs ∧ (raiseFree src unit s).fcs = s.fcs ∧ (raiseFree src unit s).pairs = s.pairs ∧
    (raiseFree src unit s).pis = s.pis ∧ (raiseFree src unit s).links = s.links ∧ (raiseFree src unit s).safs = s.safs ∧
    (raiseFree src unit s).cmpFails = s.cmpFails ∧ (raiseFree src unit s).voteFail = s.voteFail ∧
    (raiseFree src unit s).pmIns = s.pmIns ∧ (raiseFree src unit s).pm = s.pm ∧ (raiseFree src unit s).dmas = s.dmas ∧
    (raiseFree src unit s).isls = s.isls ∧ (raiseFree src unit s).fl = s.fl ∧ (raiseFree src unit s).wear = s.wear ∧
    (raiseFree src unit s).vq = s.vq ∧ (raiseFree src unit s).vheld = s.vheld ∧ (raiseFree src unit s).vs = s.vs ∧
    (raiseFree src unit s).cps = s.cps ∧ (raiseFree src unit s).escrow = s.escrow ∧ (raiseFree src unit s).red = s.red ∧
    (raiseFree src unit s).seams = s.seams ∧ (raiseFree src unit s).seam = s.seam ∧ (raiseFree src unit s).sys = s.sys := by
  unfold raiseFree; (try simp) <;> (repeat' split) <;> simp

@[simp] theorem deny_other (p addr : Nat) (bar2 : Bool) (reason : Nat) (s : State) :
    (deny p addr bar2 reason s).banks = s.banks ∧ (deny p addr bar2 reason s).bankSeen = s.bankSeen ∧
    (deny p addr bar2 reason s).ctxs = s.ctxs ∧ (deny p addr bar2 reason s).axes = s.axes ∧
    (deny p addr bar2 reason s).tms = s.tms ∧ (deny p addr bar2 reason s).legs = s.legs ∧
    (deny p addr bar2 reason s).fcs = s.fcs ∧ (deny p addr bar2 reason s).pairs = s.pairs ∧
    (deny p addr bar2 reason s).pis = s.pis ∧ (deny p addr bar2 reason s).links = s.links ∧
    (deny p addr bar2 reason s).safs = s.safs ∧ (deny p addr bar2 reason s).cmpFails = s.cmpFails ∧
    (deny p addr bar2 reason s).voteFail = s.voteFail ∧ (deny p addr bar2 reason s).pmIns = s.pmIns ∧
    (deny p addr bar2 reason s).pm = s.pm ∧ (deny p addr bar2 reason s).dmas = s.dmas ∧
    (deny p addr bar2 reason s).isls = s.isls ∧ (deny p addr bar2 reason s).fl = s.fl ∧
    (deny p addr bar2 reason s).wear = s.wear ∧ (deny p addr bar2 reason s).vq = s.vq ∧
    (deny p addr bar2 reason s).vheld = s.vheld ∧ (deny p addr bar2 reason s).vs = s.vs ∧
    (deny p addr bar2 reason s).cps = s.cps ∧ (deny p addr bar2 reason s).escrow = s.escrow ∧
    (deny p addr bar2 reason s).red = s.red ∧ (deny p addr bar2 reason s).seams = s.seams ∧
    (deny p addr bar2 reason s).seam = s.seam ∧ (deny p addr bar2 reason s).sys = s.sys := by
  unfold deny; (try simp) <;> (repeat' split) <;> simp

@[simp] theorem denyW_other (w : Writer) (addr : Nat) (bar2 : Bool) (reason : Nat) (s : State) :
    (denyW w addr bar2 reason s).banks = s.banks ∧ (denyW w addr bar2 reason s).bankSeen = s.bankSeen ∧
    (denyW w addr bar2 reason s).ctxs = s.ctxs ∧ (denyW w addr bar2 reason s).axes = s.axes ∧
    (denyW w addr bar2 reason s).tms = s.tms ∧ (denyW w addr bar2 reason s).legs = s.legs ∧
    (denyW w addr bar2 reason s).fcs = s.fcs ∧ (denyW w addr bar2 reason s).pairs = s.pairs ∧
    (denyW w addr bar2 reason s).pis = s.pis ∧ (denyW w addr bar2 reason s).links = s.links ∧
    (denyW w addr bar2 reason s).safs = s.safs ∧ (denyW w addr bar2 reason s).cmpFails = s.cmpFails ∧
    (denyW w addr bar2 reason s).voteFail = s.voteFail ∧ (denyW w addr bar2 reason s).pmIns = s.pmIns ∧
    (denyW w addr bar2 reason s).pm = s.pm ∧ (denyW w addr bar2 reason s).dmas = s.dmas ∧
    (denyW w addr bar2 reason s).isls = s.isls ∧ (denyW w addr bar2 reason s).fl = s.fl ∧
    (denyW w addr bar2 reason s).wear = s.wear ∧ (denyW w addr bar2 reason s).vq = s.vq ∧
    (denyW w addr bar2 reason s).vheld = s.vheld ∧ (denyW w addr bar2 reason s).vs = s.vs ∧
    (denyW w addr bar2 reason s).cps = s.cps ∧ (denyW w addr bar2 reason s).escrow = s.escrow ∧
    (denyW w addr bar2 reason s).red = s.red ∧ (denyW w addr bar2 reason s).seams = s.seams ∧
    (denyW w addr bar2 reason s).seam = s.seam ∧ (denyW w addr bar2 reason s).sys = s.sys := by
  unfold denyW; (try simp) <;> (repeat' split) <;> simp

end Sys2Proof.Laws
end

