-- ==== Sys2Proof/Laws/Rows.lean ====
section
/-! SUPPORT. Where the registers of the write commands lie in the register map. -/

set_option maxRecDepth 4000

namespace Sys2Proof.Laws

open Sys2Proof.Machine

theorem row_HP_CTX_CTRL (c : Fin 256) : findRow (HP_CTX_CTRL c.val) = some (⟨0x8010, 256, 0x40, 1, 4, .ctx, true, 1, 0, 0, 0, 0, 0⟩, c.val, 0) := by
  revert c; decide +kernel

theorem row_EV_RING_CFG (p : Fin 4) : findRow (EV_RING_CFG p.val) = some (⟨0x79008, 4, 0x20, 1, 4, .evRing, false, 0x10F, 0, 0, 4, 0, 0⟩, p.val, 0) := by
  revert p; decide +kernel

theorem row_EV_RING_HEAD (p : Fin 4) : findRow (EV_RING_HEAD p.val) = some (⟨0x7900C, 4, 0x20, 1, 4, .evRing, false, 0xFFF, 0, 0, 0, 0, 0⟩, p.val, 0) := by
  revert p; decide +kernel

theorem row_EV_FWRAISE : findRow EV_FWRAISE = some (⟨0x79104, 1, 4, 1, 4, .mMode, false, 0, 0, 0, 0, 0, 0⟩, 0, 0) := by decide +kernel

theorem row_DMA_CH_CTRL (n : Fin 16) : findRow (DMA_CH_CTRL n.val) = some (⟨0x9010C, 16, 0x40, 1, 4, .dmaCh, true, 0, 0, 0, 0, 0, 0⟩, n.val, 0) := by
  revert n; decide +kernel

theorem row_AX_CTRL (a : Fin 8) : findRow (AX_CTRL a.val) = some (⟨0x10004, 8, 0x1000, 1, 4, .axis, true, 0, 0, 0, 0, 0, 0⟩, a.val, 0) := by
  revert a; decide +kernel

theorem row_GI_L_BCTRL (m : Fin 24) : findRow (GI_L_BCTRL (m.val / 3) (m.val % 3)) = some (⟨0x24114, 8, 0x400, 3, 0x80, .islandLeg, true, 0, 0, 0, 0, 0, 0⟩, m.val / 3, m.val % 3) := by
  revert m; decide

theorem row_GI_CFG (i : Fin 8) : findRow (GI_CFG i.val) = some (⟨0x24004, 8, 0x400, 1, 4, .steward, true, 1, 0, 0, 0, 0, 0⟩, i.val, 0) := by
  revert i; decide +kernel

theorem row_PM_URGENT : findRow PM_URGENT = some (⟨0x38010, 1, 4, 1, 4, .pm, true, 0, 0, 0, 0, 0, 0⟩, 0, 0) := by decide +kernel

theorem row_PM_CAL_CTRL : findRow PM_CAL_CTRL = some (⟨0x38018, 1, 4, 1, 4, .pm, true, 0xF3F, 0, 0, 0x400, 0, 0⟩, 0, 0) := by decide +kernel

theorem row_PI_CNT (n : Fin 4) : findRow (PI_CNT n.val) = some (⟨0x40040, 4, 0x100, 1, 4, .pi, true, 0xFFFFFFFF, 0, 0, 0, 0, 0⟩, n.val, 0) := by
  revert n; decide +kernel

theorem row_SAF_CT_CMD : findRow SAF_CT_CMD = some (⟨0x48014, 1, 4, 1, 4, .safety, false, 0, 0, 0, 0, 0, 0⟩, 0, 0) := by decide +kernel

theorem row_SAF_ARM : findRow SAF_ARM = some (⟨0x48004, 1, 4, 1, 4, .safety, false, 0, 0, 0, 0, 0, 0⟩, 0, 0) := by decide +kernel

theorem row_SAF_CLEAR : findRow SAF_CLEAR = some (⟨0x4800C, 1, 4, 1, 4, .safety, false, 0, 0, 0, 0, 0, 0⟩, 0, 0) := by decide +kernel

theorem row_VLT_KEY_REVOKE : findRow VLT_KEY_REVOKE = some (⟨0x60014, 1, 4, 1, 4, .vault, false, 0, 0, 0, 0, 0, 0⟩, 0, 0) := by decide +kernel

theorem row_VLT_MIN_SVN : findRow VLT_MIN_SVN = some (⟨0x6000C, 1, 4, 1, 4, .vault, false, 0, 0, 0xFFFFFFFF, 0, 210, 0⟩, 0, 0) := by decide +kernel

theorem row_VLT_STG_CTRL : findRow VLT_STG_CTRL = some (⟨0x60030, 1, 4, 1, 4, .vault, false, 0, 0, 0, 0, 0, 0⟩, 0, 0) := by decide +kernel

theorem row_VLT_ATT_CTRL : findRow VLT_ATT_CTRL = some (⟨0x60120, 1, 4, 1, 4, .vault, false, 0, 0, 0, 0, 0, 0⟩, 0, 0) := by decide +kernel

theorem row_VLT_DBG_STAT : findRow VLT_DBG_STAT = some (⟨0x601A0, 1, 4, 1, 4, .vault, false, 0, 0, 0, 0, 0, 0⟩, 0, 0) := by decide +kernel

theorem row_SEAM_TRIP_CMD : findRow SEAM_TRIP_CMD = some (⟨0x70020, 1, 4, 1, 4, .steward, false, 0, 0, 0, 0, 0, 0⟩, 0, 0) := by decide +kernel

theorem row_TAL_CTRL : findRow TAL_CTRL = some (⟨0x80000, 1, 4, 1, 4, .tally, true, 1, 0, 0, 0, 0, 0⟩, 0, 0) := by decide +kernel

theorem row_TAL_SAMP_RD : findRow TAL_SAMP_RD = some (⟨0x80214, 1, 4, 1, 4, .tally, true, 0x1FF, 0, 0, 0, 0, 0⟩, 0, 0) := by decide +kernel

theorem row_PWR_CTRL : findRow PWR_CTRL = some (⟨0x2014, 1, 4, 1, 4, .mMode, false, 3, 0, 0, 2, 0, 0⟩, 0, 0) := by decide +kernel

theorem row_HP_STEWARD : findRow HP_STEWARD = some (⟨0x1004, 1, 4, 1, 4, .ownTable, false, 0, 0x200, 0xF, 0, 160, 0⟩, 0, 0) := by decide +kernel

theorem row_HP_STEWARD_XFER : findRow HP_STEWARD_XFER = some (⟨0x1008, 1, 4, 1, 4, .ownTable, false, 0, 0, 0, 0, 0, 0⟩, 0, 0) := by decide +kernel

theorem row_HP_STEWARD_ACCEPT : findRow HP_STEWARD_ACCEPT = some (⟨0x100C, 1, 4, 1, 4, .accept, false, 0, 0, 0, 0, 0, 0⟩, 0, 0) := by decide +kernel

theorem row_CLK_CFG : findRow 0x2004 = some (⟨0x2004, 1, 4, 1, 4, .steward, false, 0, 0, 1, 0, 209, 0⟩, 0, 0) := by decide +kernel

theorem row_HP_OWN_AX (a : Fin 8) : findRow (HP_OWN_AX a.val) = some (⟨0x1020, 8, 4, 1, 4, .ownTable, false, 0, 0, 0x7FF0F, 0, 164, 1⟩, a.val, 0) := by
  revert a; decide +kernel

theorem row_PWR_RESET : findRow PWR_RESET = some (⟨0x2028, 1, 4, 1, 4, .steward, false, 0, 0, 0, 0, 0, 0⟩, 0, 0) := by decide +kernel

end Sys2Proof.Laws
end

