-- ==== Sys2Proof/Laws/Units.lean ====
section
/-! SUPPORT. What each update and each delivery of an event leaves alone, read unit by unit. -/

namespace Sys2Proof.Laws

open Sys2Proof.Machine

variable (s : State)

@[simp] theorem wr_units (a : Nat) (w : Word) :
    (∀ k1, (s.wr a w).ctx k1 = s.ctx k1) ∧ (∀ k1, (s.wr a w).ax k1 = s.ax k1) ∧ (∀ k1, (s.wr a w).tm k1 = s.tm k1) ∧
    (∀ k1, (s.wr a w).leg k1 = s.leg k1) ∧ (∀ k1, (s.wr a w).fc k1 = s.fc k1) ∧ (∀ k1, (s.wr a w).pair k1 = s.pair k1) ∧
    (∀ k1, (s.wr a w).pi k1 = s.pi k1) ∧ (∀ k1, (s.wr a w).lnk k1 = s.lnk k1) ∧ (∀ k1, (s.wr a w).saf k1 = s.saf k1) ∧
    (∀ k1, (s.wr a w).pmIn k1 = s.pmIn k1) ∧ (∀ k1, (s.wr a w).dma k1 = s.dma k1) ∧ (∀ k1, (s.wr a w).isl k1 = s.isl k1) ∧
    (∀ k1, (s.wr a w).cp k1 = s.cp k1) ∧ (∀ k1, (s.wr a w).sp k1 = s.sp k1) ∧ (∀ k1, (s.wr a w).port k1 = s.port k1) ∧
    (∀ k1, (s.wr a w).px k1 = s.px k1) ∧ (∀ k1, (s.wr a w).sramRd k1 = s.sramRd k1) ∧
    (∀ k1, (s.wr a w).vaultRd k1 = s.vaultRd k1) ∧ (∀ k1 k2 k3, (s.wr a w).bankRd k1 k2 k3 = s.bankRd k1 k2 k3) := by
  refine ⟨?_, ?_, ?_, ?_, ?_, ?_, ?_, ?_, ?_, ?_, ?_, ?_, ?_, ?_, ?_, ?_, ?_, ?_, ?_⟩ <;> intros <;> simp [State.ctx, State.ax, State.tm, State.leg, State.fc, State.pair, State.pi, State.lnk, State.saf, State.pmIn, State.dma, State.isl, State.cp, State.sp, State.port, State.px, State.sramRd, State.vaultRd, State.vaultAt, State.bankRd]

@[simp] theorem put_units (f : FieldRef) (v : Nat) :
    (∀ k1, (s.put f v).ctx k1 = s.ctx k1) ∧ (∀ k1, (s.put f v).ax k1 = s.ax k1) ∧ (∀ k1, (s.put f v).tm k1 = s.tm k1) ∧
    (∀ k1, (s.put f v).leg k1 = s.leg k1) ∧ (∀ k1, (s.put f v).fc k1 = s.fc k1) ∧ (∀ k1, (s.put f v).pair k1 = s.pair k1) ∧
    (∀ k1, (s.put f v).pi k1 = s.pi k1) ∧ (∀ k1, (s.put f v).lnk k1 = s.lnk k1) ∧ (∀ k1, (s.put f v).saf k1 = s.saf k1) ∧
    (∀ k1, (s.put f v).pmIn k1 = s.pmIn k1) ∧ (∀ k1, (s.put f v).dma k1 = s.dma k1) ∧ (∀ k1, (s.put f v).isl k1 = s.isl k1) ∧
    (∀ k1, (s.put f v).cp k1 = s.cp k1) ∧ (∀ k1, (s.put f v).sp k1 = s.sp k1) ∧ (∀ k1, (s.put f v).port k1 = s.port k1) ∧
    (∀ k1, (s.put f v).px k1 = s.px k1) ∧ (∀ k1, (s.put f v).sramRd k1 = s.sramRd k1) ∧
    (∀ k1, (s.put f v).vaultRd k1 = s.vaultRd k1) ∧ (∀ k1 k2 k3, (s.put f v).bankRd k1 k2 k3 = s.bankRd k1 k2 k3) := by
  refine ⟨?_, ?_, ?_, ?_, ?_, ?_, ?_, ?_, ?_, ?_, ?_, ?_, ?_, ?_, ?_, ?_, ?_, ?_, ?_⟩ <;> intros <;> simp [State.ctx, State.ax, State.tm, State.leg, State.fc, State.pair, State.pi, State.lnk, State.saf, State.pmIn, State.dma, State.isl, State.cp, State.sp, State.port, State.px, State.sramRd, State.vaultRd, State.vaultAt, State.bankRd]

@[simp] theorem putB_units (f : FieldRef) (b : Bool) :
    (∀ k1, (s.putB f b).ctx k1 = s.ctx k1) ∧ (∀ k1, (s.putB f b).ax k1 = s.ax k1) ∧ (∀ k1, (s.putB f b).tm k1 = s.tm k1) ∧
    (∀ k1, (s.putB f b).leg k1 = s.leg k1) ∧ (∀ k1, (s.putB f b).fc k1 = s.fc k1) ∧ (∀ k1, (s.putB f b).pair k1 = s.pair k1) ∧
    (∀ k1, (s.putB f b).pi k1 = s.pi k1) ∧ (∀ k1, (s.putB f b).lnk k1 = s.lnk k1) ∧ (∀ k1, (s.putB f b).saf k1 = s.saf k1) ∧
    (∀ k1, (s.putB f b).pmIn k1 = s.pmIn k1) ∧ (∀ k1, (s.putB f b).dma k1 = s.dma k1) ∧
    (∀ k1, (s.putB f b).isl k1 = s.isl k1) ∧ (∀ k1, (s.putB f b).cp k1 = s.cp k1) ∧ (∀ k1, (s.putB f b).sp k1 = s.sp k1) ∧
    (∀ k1, (s.putB f b).port k1 = s.port k1) ∧ (∀ k1, (s.putB f b).px k1 = s.px k1) ∧
    (∀ k1, (s.putB f b).sramRd k1 = s.sramRd k1) ∧ (∀ k1, (s.putB f b).vaultRd k1 = s.vaultRd k1) ∧
    (∀ k1 k2 k3, (s.putB f b).bankRd k1 k2 k3 = s.bankRd k1 k2 k3) := by
  refine ⟨?_, ?_, ?_, ?_, ?_, ?_, ?_, ?_, ?_, ?_, ?_, ?_, ?_, ?_, ?_, ?_, ?_, ?_, ?_⟩ <;> intros <;> simp [State.ctx, State.ax, State.tm, State.leg, State.fc, State.pair, State.pi, State.lnk, State.saf, State.pmIn, State.dma, State.isl, State.cp, State.sp, State.port, State.px, State.sramRd, State.vaultRd, State.vaultAt, State.bankRd]

@[simp] theorem bump_units (f : FieldRef) (n : Nat) :
    (∀ k1, (s.bump f n).ctx k1 = s.ctx k1) ∧ (∀ k1, (s.bump f n).ax k1 = s.ax k1) ∧ (∀ k1, (s.bump f n).tm k1 = s.tm k1) ∧
    (∀ k1, (s.bump f n).leg k1 = s.leg k1) ∧ (∀ k1, (s.bump f n).fc k1 = s.fc k1) ∧ (∀ k1, (s.bump f n).pair k1 = s.pair k1) ∧
    (∀ k1, (s.bump f n).pi k1 = s.pi k1) ∧ (∀ k1, (s.bump f n).lnk k1 = s.lnk k1) ∧ (∀ k1, (s.bump f n).saf k1 = s.saf k1) ∧
    (∀ k1, (s.bump f n).pmIn k1 = s.pmIn k1) ∧ (∀ k1, (s.bump f n).dma k1 = s.dma k1) ∧
    (∀ k1, (s.bump f n).isl k1 = s.isl k1) ∧ (∀ k1, (s.bump f n).cp k1 = s.cp k1) ∧ (∀ k1, (s.bump f n).sp k1 = s.sp k1) ∧
    (∀ k1, (s.bump f n).port k1 = s.port k1) ∧ (∀ k1, (s.bump f n).px k1 = s.px k1) ∧
    (∀ k1, (s.bump f n).sramRd k1 = s.sramRd k1) ∧ (∀ k1, (s.bump f n).vaultRd k1 = s.vaultRd k1) ∧
    (∀ k1 k2 k3, (s.bump f n).bankRd k1 k2 k3 = s.bankRd k1 k2 k3) := by
  refine ⟨?_, ?_, ?_, ?_, ?_, ?_, ?_, ?_, ?_, ?_, ?_, ?_, ?_, ?_, ?_, ?_, ?_, ?_, ?_⟩ <;> intros <;> simp [State.ctx, State.ax, State.tm, State.leg, State.fc, State.pair, State.pi, State.lnk, State.saf, State.pmIn, State.dma, State.isl, State.cp, State.sp, State.port, State.px, State.sramRd, State.vaultRd, State.vaultAt, State.bankRd]

@[simp] theorem putBit_units (f : FieldRef) (i : Nat) (b : Bool) :
    (∀ k1, (s.putBit f i b).ctx k1 = s.ctx k1) ∧ (∀ k1, (s.putBit f i b).ax k1 = s.ax k1) ∧
    (∀ k1, (s.putBit f i b).tm k1 = s.tm k1) ∧ (∀ k1, (s.putBit f i b).leg k1 = s.leg k1) ∧
    (∀ k1, (s.putBit f i b).fc k1 = s.fc k1) ∧ (∀ k1, (s.putBit f i b).pair k1 = s.pair k1) ∧
    (∀ k1, (s.putBit f i b).pi k1 = s.pi k1) ∧ (∀ k1, (s.putBit f i b).lnk k1 = s.lnk k1) ∧
    (∀ k1, (s.putBit f i b).saf k1 = s.saf k1) ∧ (∀ k1, (s.putBit f i b).pmIn k1 = s.pmIn k1) ∧
    (∀ k1, (s.putBit f i b).dma k1 = s.dma k1) ∧ (∀ k1, (s.putBit f i b).isl k1 = s.isl k1) ∧
    (∀ k1, (s.putBit f i b).cp k1 = s.cp k1) ∧ (∀ k1, (s.putBit f i b).sp k1 = s.sp k1) ∧
    (∀ k1, (s.putBit f i b).port k1 = s.port k1) ∧ (∀ k1, (s.putBit f i b).px k1 = s.px k1) ∧
    (∀ k1, (s.putBit f i b).sramRd k1 = s.sramRd k1) ∧ (∀ k1, (s.putBit f i b).vaultRd k1 = s.vaultRd k1) ∧
    (∀ k1 k2 k3, (s.putBit f i b).bankRd k1 k2 k3 = s.bankRd k1 k2 k3) := by
  refine ⟨?_, ?_, ?_, ?_, ?_, ?_, ?_, ?_, ?_, ?_, ?_, ?_, ?_, ?_, ?_, ?_, ?_, ?_, ?_⟩ <;> intros <;> simp [State.ctx, State.ax, State.tm, State.leg, State.fc, State.pair, State.pi, State.lnk, State.saf, State.pmIn, State.dma, State.isl, State.cp, State.sp, State.port, State.px, State.sramRd, State.vaultRd, State.vaultAt, State.bankRd]

@[simp] theorem putCnt_units (i v : Nat) :
    (∀ k1, (s.putCnt i v).ctx k1 = s.ctx k1) ∧ (∀ k1, (s.putCnt i v).ax k1 = s.ax k1) ∧
    (∀ k1, (s.putCnt i v).tm k1 = s.tm k1) ∧ (∀ k1, (s.putCnt i v).leg k1 = s.leg k1) ∧
    (∀ k1, (s.putCnt i v).fc k1 = s.fc k1) ∧ (∀ k1, (s.putCnt i v).pair k1 = s.pair k1) ∧
    (∀ k1, (s.putCnt i v).pi k1 = s.pi k1) ∧ (∀ k1, (s.putCnt i v).lnk k1 = s.lnk k1) ∧
    (∀ k1, (s.putCnt i v).saf k1 = s.saf k1) ∧ (∀ k1, (s.putCnt i v).pmIn k1 = s.pmIn k1) ∧
    (∀ k1, (s.putCnt i v).dma k1 = s.dma k1) ∧ (∀ k1, (s.putCnt i v).isl k1 = s.isl k1) ∧
    (∀ k1, (s.putCnt i v).cp k1 = s.cp k1) ∧ (∀ k1, (s.putCnt i v).sp k1 = s.sp k1) ∧
    (∀ k1, (s.putCnt i v).port k1 = s.port k1) ∧ (∀ k1, (s.putCnt i v).px k1 = s.px k1) ∧
    (∀ k1, (s.putCnt i v).sramRd k1 = s.sramRd k1) ∧ (∀ k1, (s.putCnt i v).vaultRd k1 = s.vaultRd k1) ∧
    (∀ k1 k2 k3, (s.putCnt i v).bankRd k1 k2 k3 = s.bankRd k1 k2 k3) := by
  refine ⟨?_, ?_, ?_, ?_, ?_, ?_, ?_, ?_, ?_, ?_, ?_, ?_, ?_, ?_, ?_, ?_, ?_, ?_, ?_⟩ <;> intros <;> simp [State.ctx, State.ax, State.tm, State.leg, State.fc, State.pair, State.pi, State.lnk, State.saf, State.pmIn, State.dma, State.isl, State.cp, State.sp, State.port, State.px, State.sramRd, State.vaultRd, State.vaultAt, State.bankRd]

@[simp] theorem setAx_units (a : Nat) (x : AxisS) :
    (∀ k1, (s.setAx a x).ctx k1 = s.ctx k1) ∧ (∀ k1, (s.setAx a x).tm k1 = s.tm k1) ∧ (∀ k1, (s.setAx a x).leg k1 = s.leg k1) ∧
    (∀ k1, (s.setAx a x).fc k1 = s.fc k1) ∧ (∀ k1, (s.setAx a x).pair k1 = s.pair k1) ∧ (∀ k1, (s.setAx a x).pi k1 = s.pi k1) ∧
    (∀ k1, (s.setAx a x).lnk k1 = s.lnk k1) ∧ (∀ k1, (s.setAx a x).saf k1 = s.saf k1) ∧
    (∀ k1, (s.setAx a x).pmIn k1 = s.pmIn k1) ∧ (∀ k1, (s.setAx a x).dma k1 = s.dma k1) ∧
    (∀ k1, (s.setAx a x).isl k1 = s.isl k1) ∧ (∀ k1, (s.setAx a x).cp k1 = s.cp k1) ∧ (∀ k1, (s.setAx a x).sp k1 = s.sp k1) ∧
    (∀ k1, (s.setAx a x).port k1 = s.port k1) ∧ (∀ k1, (s.setAx a x).px k1 = s.px k1) ∧
    (∀ k1, (s.setAx a x).sramRd k1 = s.sramRd k1) ∧ (∀ k1, (s.setAx a x).vaultRd k1 = s.vaultRd k1) ∧
    (∀ k1 k2 k3, (s.setAx a x).bankRd k1 k2 k3 = s.bankRd k1 k2 k3) := by
  refine ⟨?_, ?_, ?_, ?_, ?_, ?_, ?_, ?_, ?_, ?_, ?_, ?_, ?_, ?_, ?_, ?_, ?_, ?_⟩ <;> intros <;> simp [State.ctx, State.tm, State.leg, State.fc, State.pair, State.pi, State.lnk, State.saf, State.pmIn, State.dma, State.isl, State.cp, State.sp, State.port, State.px, State.sramRd, State.vaultRd, State.vaultAt, State.bankRd]

@[simp] theorem upAx_units (a : Nat) (g : AxisS → AxisS) :
    (∀ k1, (s.upAx a g).ctx k1 = s.ctx k1) ∧ (∀ k1, (s.upAx a g).tm k1 = s.tm k1) ∧ (∀ k1, (s.upAx a g).leg k1 = s.leg k1) ∧
    (∀ k1, (s.upAx a g).fc k1 = s.fc k1) ∧ (∀ k1, (s.upAx a g).pair k1 = s.pair k1) ∧ (∀ k1, (s.upAx a g).pi k1 = s.pi k1) ∧
    (∀ k1, (s.upAx a g).lnk k1 = s.lnk k1) ∧ (∀ k1, (s.upAx a g).saf k1 = s.saf k1) ∧
    (∀ k1, (s.upAx a g).pmIn k1 = s.pmIn k1) ∧ (∀ k1, (s.upAx a g).dma k1 = s.dma k1) ∧
    (∀ k1, (s.upAx a g).isl k1 = s.isl k1) ∧ (∀ k1, (s.upAx a g).cp k1 = s.cp k1) ∧ (∀ k1, (s.upAx a g).sp k1 = s.sp k1) ∧
    (∀ k1, (s.upAx a g).port k1 = s.port k1) ∧ (∀ k1, (s.upAx a g).px k1 = s.px k1) ∧
    (∀ k1, (s.upAx a g).sramRd k1 = s.sramRd k1) ∧ (∀ k1, (s.upAx a g).vaultRd k1 = s.vaultRd k1) ∧
    (∀ k1 k2 k3, (s.upAx a g).bankRd k1 k2 k3 = s.bankRd k1 k2 k3) := by
  refine ⟨?_, ?_, ?_, ?_, ?_, ?_, ?_, ?_, ?_, ?_, ?_, ?_, ?_, ?_, ?_, ?_, ?_, ?_⟩ <;> intros <;> simp [State.ctx, State.tm, State.leg, State.fc, State.pair, State.pi, State.lnk, State.saf, State.pmIn, State.dma, State.isl, State.cp, State.sp, State.port, State.px, State.sramRd, State.vaultRd, State.vaultAt, State.bankRd]

@[simp] theorem setTm_units (a : Nat) (x : TableS) :
    (∀ k1, (s.setTm a x).ctx k1 = s.ctx k1) ∧ (∀ k1, (s.setTm a x).ax k1 = s.ax k1) ∧ (∀ k1, (s.setTm a x).leg k1 = s.leg k1) ∧
    (∀ k1, (s.setTm a x).fc k1 = s.fc k1) ∧ (∀ k1, (s.setTm a x).pair k1 = s.pair k1) ∧ (∀ k1, (s.setTm a x).pi k1 = s.pi k1) ∧
    (∀ k1, (s.setTm a x).lnk k1 = s.lnk k1) ∧ (∀ k1, (s.setTm a x).saf k1 = s.saf k1) ∧
    (∀ k1, (s.setTm a x).pmIn k1 = s.pmIn k1) ∧ (∀ k1, (s.setTm a x).dma k1 = s.dma k1) ∧
    (∀ k1, (s.setTm a x).isl k1 = s.isl k1) ∧ (∀ k1, (s.setTm a x).cp k1 = s.cp k1) ∧ (∀ k1, (s.setTm a x).sp k1 = s.sp k1) ∧
    (∀ k1, (s.setTm a x).port k1 = s.port k1) ∧ (∀ k1, (s.setTm a x).px k1 = s.px k1) ∧
    (∀ k1, (s.setTm a x).sramRd k1 = s.sramRd k1) ∧ (∀ k1, (s.setTm a x).vaultRd k1 = s.vaultRd k1) ∧
    (∀ k1 k2 k3, (s.setTm a x).bankRd k1 k2 k3 = s.bankRd k1 k2 k3) := by
  refine ⟨?_, ?_, ?_, ?_, ?_, ?_, ?_, ?_, ?_, ?_, ?_, ?_, ?_, ?_, ?_, ?_, ?_, ?_⟩ <;> intros <;> simp [State.ctx, State.ax, State.leg, State.fc, State.pair, State.pi, State.lnk, State.saf, State.pmIn, State.dma, State.isl, State.cp, State.sp, State.port, State.px, State.sramRd, State.vaultRd, State.vaultAt, State.bankRd]

@[simp] theorem upTm_units (a : Nat) (g : TableS → TableS) :
    (∀ k1, (s.upTm a g).ctx k1 = s.ctx k1) ∧ (∀ k1, (s.upTm a g).ax k1 = s.ax k1) ∧ (∀ k1, (s.upTm a g).leg k1 = s.leg k1) ∧
    (∀ k1, (s.upTm a g).fc k1 = s.fc k1) ∧ (∀ k1, (s.upTm a g).pair k1 = s.pair k1) ∧ (∀ k1, (s.upTm a g).pi k1 = s.pi k1) ∧
    (∀ k1, (s.upTm a g).lnk k1 = s.lnk k1) ∧ (∀ k1, (s.upTm a g).saf k1 = s.saf k1) ∧
    (∀ k1, (s.upTm a g).pmIn k1 = s.pmIn k1) ∧ (∀ k1, (s.upTm a g).dma k1 = s.dma k1) ∧
    (∀ k1, (s.upTm a g).isl k1 = s.isl k1) ∧ (∀ k1, (s.upTm a g).cp k1 = s.cp k1) ∧ (∀ k1, (s.upTm a g).sp k1 = s.sp k1) ∧
    (∀ k1, (s.upTm a g).port k1 = s.port k1) ∧ (∀ k1, (s.upTm a g).px k1 = s.px k1) ∧
    (∀ k1, (s.upTm a g).sramRd k1 = s.sramRd k1) ∧ (∀ k1, (s.upTm a g).vaultRd k1 = s.vaultRd k1) ∧
    (∀ k1 k2 k3, (s.upTm a g).bankRd k1 k2 k3 = s.bankRd k1 k2 k3) := by
  refine ⟨?_, ?_, ?_, ?_, ?_, ?_, ?_, ?_, ?_, ?_, ?_, ?_, ?_, ?_, ?_, ?_, ?_, ?_⟩ <;> intros <;> simp [State.ctx, State.ax, State.leg, State.fc, State.pair, State.pi, State.lnk, State.saf, State.pmIn, State.dma, State.isl, State.cp, State.sp, State.port, State.px, State.sramRd, State.vaultRd, State.vaultAt, State.bankRd]

@[simp] theorem setCtx_units (c : Nat) (x : CtxS) :
    (∀ k1, (s.setCtx c x).ax k1 = s.ax k1) ∧ (∀ k1, (s.setCtx c x).tm k1 = s.tm k1) ∧
    (∀ k1, (s.setCtx c x).leg k1 = s.leg k1) ∧ (∀ k1, (s.setCtx c x).fc k1 = s.fc k1) ∧
    (∀ k1, (s.setCtx c x).pair k1 = s.pair k1) ∧ (∀ k1, (s.setCtx c x).pi k1 = s.pi k1) ∧
    (∀ k1, (s.setCtx c x).lnk k1 = s.lnk k1) ∧ (∀ k1, (s.setCtx c x).saf k1 = s.saf k1) ∧
    (∀ k1, (s.setCtx c x).pmIn k1 = s.pmIn k1) ∧ (∀ k1, (s.setCtx c x).dma k1 = s.dma k1) ∧
    (∀ k1, (s.setCtx c x).isl k1 = s.isl k1) ∧ (∀ k1, (s.setCtx c x).cp k1 = s.cp k1) ∧
    (∀ k1, (s.setCtx c x).sp k1 = s.sp k1) ∧ (∀ k1, (s.setCtx c x).port k1 = s.port k1) ∧
    (∀ k1, (s.setCtx c x).px k1 = s.px k1) ∧ (∀ k1, (s.setCtx c x).sramRd k1 = s.sramRd k1) ∧
    (∀ k1, (s.setCtx c x).vaultRd k1 = s.vaultRd k1) ∧ (∀ k1 k2 k3, (s.setCtx c x).bankRd k1 k2 k3 = s.bankRd k1 k2 k3) := by
  refine ⟨?_, ?_, ?_, ?_, ?_, ?_, ?_, ?_, ?_, ?_, ?_, ?_, ?_, ?_, ?_, ?_, ?_, ?_⟩ <;> intros <;> simp [State.ax, State.tm, State.leg, State.fc, State.pair, State.pi, State.lnk, State.saf, State.pmIn, State.dma, State.isl, State.cp, State.sp, State.port, State.px, State.sramRd, State.vaultRd, State.vaultAt, State.bankRd]

@[simp] theorem upCtx_units (c : Nat) (g : CtxS → CtxS) :
    (∀ k1, (s.upCtx c g).ax k1 = s.ax k1) ∧ (∀ k1, (s.upCtx c g).tm k1 = s.tm k1) ∧ (∀ k1, (s.upCtx c g).leg k1 = s.leg k1) ∧
    (∀ k1, (s.upCtx c g).fc k1 = s.fc k1) ∧ (∀ k1, (s.upCtx c g).pair k1 = s.pair k1) ∧ (∀ k1, (s.upCtx c g).pi k1 = s.pi k1) ∧
    (∀ k1, (s.upCtx c g).lnk k1 = s.lnk k1) ∧ (∀ k1, (s.upCtx c g).saf k1 = s.saf k1) ∧
    (∀ k1, (s.upCtx c g).pmIn k1 = s.pmIn k1) ∧ (∀ k1, (s.upCtx c g).dma k1 = s.dma k1) ∧
    (∀ k1, (s.upCtx c g).isl k1 = s.isl k1) ∧ (∀ k1, (s.upCtx c g).cp k1 = s.cp k1) ∧ (∀ k1, (s.upCtx c g).sp k1 = s.sp k1) ∧
    (∀ k1, (s.upCtx c g).port k1 = s.port k1) ∧ (∀ k1, (s.upCtx c g).px k1 = s.px k1) ∧
    (∀ k1, (s.upCtx c g).sramRd k1 = s.sramRd k1) ∧ (∀ k1, (s.upCtx c g).vaultRd k1 = s.vaultRd k1) ∧
    (∀ k1 k2 k3, (s.upCtx c g).bankRd k1 k2 k3 = s.bankRd k1 k2 k3) := by
  refine ⟨?_, ?_, ?_, ?_, ?_, ?_, ?_, ?_, ?_, ?_, ?_, ?_, ?_, ?_, ?_, ?_, ?_, ?_⟩ <;> intros <;> simp [State.ax, State.tm, State.leg, State.fc, State.pair, State.pi, State.lnk, State.saf, State.pmIn, State.dma, State.isl, State.cp, State.sp, State.port, State.px, State.sramRd, State.vaultRd, State.vaultAt, State.bankRd]

@[simp] theorem upPort_units (p : Nat) (g : PortS → PortS) :
    (∀ k1, (s.upPort p g).ctx k1 = s.ctx k1) ∧ (∀ k1, (s.upPort p g).ax k1 = s.ax k1) ∧
    (∀ k1, (s.upPort p g).tm k1 = s.tm k1) ∧ (∀ k1, (s.upPort p g).leg k1 = s.leg k1) ∧
    (∀ k1, (s.upPort p g).fc k1 = s.fc k1) ∧ (∀ k1, (s.upPort p g).pair k1 = s.pair k1) ∧
    (∀ k1, (s.upPort p g).pi k1 = s.pi k1) ∧ (∀ k1, (s.upPort p g).lnk k1 = s.lnk k1) ∧
    (∀ k1, (s.upPort p g).saf k1 = s.saf k1) ∧ (∀ k1, (s.upPort p g).pmIn k1 = s.pmIn k1) ∧
    (∀ k1, (s.upPort p g).dma k1 = s.dma k1) ∧ (∀ k1, (s.upPort p g).isl k1 = s.isl k1) ∧
    (∀ k1, (s.upPort p g).cp k1 = s.cp k1) ∧ (∀ k1, (s.upPort p g).sp k1 = s.sp k1) ∧ (∀ k1, (s.upPort p g).px k1 = s.px k1) ∧
    (∀ k1, (s.upPort p g).sramRd k1 = s.sramRd k1) ∧ (∀ k1, (s.upPort p g).vaultRd k1 = s.vaultRd k1) ∧
    (∀ k1 k2 k3, (s.upPort p g).bankRd k1 k2 k3 = s.bankRd k1 k2 k3) := by
  refine ⟨?_, ?_, ?_, ?_, ?_, ?_, ?_, ?_, ?_, ?_, ?_, ?_, ?_, ?_, ?_, ?_, ?_, ?_⟩ <;> intros <;> simp [State.ctx, State.ax, State.tm, State.leg, State.fc, State.pair, State.pi, State.lnk, State.saf, State.pmIn, State.dma, State.isl, State.cp, State.sp, State.px, State.sramRd, State.vaultRd, State.vaultAt, State.bankRd]

@[simp] theorem upSys_units (g : SysS → SysS) :
    (∀ k1, (s.upSys g).ctx k1 = s.ctx k1) ∧ (∀ k1, (s.upSys g).ax k1 = s.ax k1) ∧ (∀ k1, (s.upSys g).tm k1 = s.tm k1) ∧
    (∀ k1, (s.upSys g).leg k1 = s.leg k1) ∧ (∀ k1, (s.upSys g).fc k1 = s.fc k1) ∧ (∀ k1, (s.upSys g).pair k1 = s.pair k1) ∧
    (∀ k1, (s.upSys g).pi k1 = s.pi k1) ∧ (∀ k1, (s.upSys g).lnk k1 = s.lnk k1) ∧ (∀ k1, (s.upSys g).saf k1 = s.saf k1) ∧
    (∀ k1, (s.upSys g).pmIn k1 = s.pmIn k1) ∧ (∀ k1, (s.upSys g).dma k1 = s.dma k1) ∧ (∀ k1, (s.upSys g).isl k1 = s.isl k1) ∧
    (∀ k1, (s.upSys g).cp k1 = s.cp k1) ∧ (∀ k1, (s.upSys g).sp k1 = s.sp k1) ∧ (∀ k1, (s.upSys g).port k1 = s.port k1) ∧
    (∀ k1, (s.upSys g).px k1 = s.px k1) ∧ (∀ k1, (s.upSys g).sramRd k1 = s.sramRd k1) ∧
    (∀ k1, (s.upSys g).vaultRd k1 = s.vaultRd k1) ∧ (∀ k1 k2 k3, (s.upSys g).bankRd k1 k2 k3 = s.bankRd k1 k2 k3) := by
  refine ⟨?_, ?_, ?_, ?_, ?_, ?_, ?_, ?_, ?_, ?_, ?_, ?_, ?_, ?_, ?_, ?_, ?_, ?_, ?_⟩ <;> intros <;> simp [State.ctx, State.ax, State.tm, State.leg, State.fc, State.pair, State.pi, State.lnk, State.saf, State.pmIn, State.dma, State.isl, State.cp, State.sp, State.port, State.px, State.sramRd, State.vaultRd, State.vaultAt, State.bankRd]

@[simp] theorem emit_units (o : Out) :
    (∀ k1, (s.emit o).ctx k1 = s.ctx k1) ∧ (∀ k1, (s.emit o).ax k1 = s.ax k1) ∧ (∀ k1, (s.emit o).tm k1 = s.tm k1) ∧
    (∀ k1, (s.emit o).leg k1 = s.leg k1) ∧ (∀ k1, (s.emit o).fc k1 = s.fc k1) ∧ (∀ k1, (s.emit o).pair k1 = s.pair k1) ∧
    (∀ k1, (s.emit o).pi k1 = s.pi k1) ∧ (∀ k1, (s.emit o).lnk k1 = s.lnk k1) ∧ (∀ k1, (s.emit o).saf k1 = s.saf k1) ∧
    (∀ k1, (s.emit o).pmIn k1 = s.pmIn k1) ∧ (∀ k1, (s.emit o).dma k1 = s.dma k1) ∧ (∀ k1, (s.emit o).isl k1 = s.isl k1) ∧
    (∀ k1, (s.emit o).cp k1 = s.cp k1) ∧ (∀ k1, (s.emit o).sp k1 = s.sp k1) ∧ (∀ k1, (s.emit o).port k1 = s.port k1) ∧
    (∀ k1, (s.emit o).px k1 = s.px k1) ∧ (∀ k1, (s.emit o).sramRd k1 = s.sramRd k1) ∧
    (∀ k1, (s.emit o).vaultRd k1 = s.vaultRd k1) ∧ (∀ k1 k2 k3, (s.emit o).bankRd k1 k2 k3 = s.bankRd k1 k2 k3) := by
  refine ⟨?_, ?_, ?_, ?_, ?_, ?_, ?_, ?_, ?_, ?_, ?_, ?_, ?_, ?_, ?_, ?_, ?_, ?_, ?_⟩ <;> intros <;> simp [State.ctx, State.ax, State.tm, State.leg, State.fc, State.pair, State.pi, State.lnk, State.saf, State.pmIn, State.dma, State.isl, State.cp, State.sp, State.port, State.px, State.sramRd, State.vaultRd, State.vaultAt, State.bankRd]

@[simp] theorem sramWr_units (a : Nat) (b : Byte) :
    (∀ k1, (s.sramWr a b).ctx k1 = s.ctx k1) ∧ (∀ k1, (s.sramWr a b).ax k1 = s.ax k1) ∧
    (∀ k1, (s.sramWr a b).tm k1 = s.tm k1) ∧ (∀ k1, (s.sramWr a b).leg k1 = s.leg k1) ∧
    (∀ k1, (s.sramWr a b).fc k1 = s.fc k1) ∧ (∀ k1, (s.sramWr a b).pair k1 = s.pair k1) ∧
    (∀ k1, (s.sramWr a b).pi k1 = s.pi k1) ∧ (∀ k1, (s.sramWr a b).lnk k1 = s.lnk k1) ∧
    (∀ k1, (s.sramWr a b).saf k1 = s.saf k1) ∧ (∀ k1, (s.sramWr a b).pmIn k1 = s.pmIn k1) ∧
    (∀ k1, (s.sramWr a b).dma k1 = s.dma k1) ∧ (∀ k1, (s.sramWr a b).isl k1 = s.isl k1) ∧
    (∀ k1, (s.sramWr a b).cp k1 = s.cp k1) ∧ (∀ k1, (s.sramWr a b).sp k1 = s.sp k1) ∧
    (∀ k1, (s.sramWr a b).port k1 = s.port k1) ∧ (∀ k1, (s.sramWr a b).px k1 = s.px k1) ∧
    (∀ k1, (s.sramWr a b).vaultRd k1 = s.vaultRd k1) ∧ (∀ k1 k2 k3, (s.sramWr a b).bankRd k1 k2 k3 = s.bankRd k1 k2 k3) := by
  refine ⟨?_, ?_, ?_, ?_, ?_, ?_, ?_, ?_, ?_, ?_, ?_, ?_, ?_, ?_, ?_, ?_, ?_, ?_⟩ <;> intros <;> simp [State.ctx, State.ax, State.tm, State.leg, State.fc, State.pair, State.pi, State.lnk, State.saf, State.pmIn, State.dma, State.isl, State.cp, State.sp, State.port, State.px, State.vaultRd, State.vaultAt, State.bankRd]

@[simp] theorem upLeg_units (m : Nat) (g : LegS → LegS) :
    (∀ k1, (s.upLeg m g).ctx k1 = s.ctx k1) ∧ (∀ k1, (s.upLeg m g).ax k1 = s.ax k1) ∧ (∀ k1, (s.upLeg m g).tm k1 = s.tm k1) ∧
    (∀ k1, (s.upLeg m g).fc k1 = s.fc k1) ∧ (∀ k1, (s.upLeg m g).pair k1 = s.pair k1) ∧ (∀ k1, (s.upLeg m g).pi k1 = s.pi k1) ∧
    (∀ k1, (s.upLeg m g).lnk k1 = s.lnk k1) ∧ (∀ k1, (s.upLeg m g).saf k1 = s.saf k1) ∧
    (∀ k1, (s.upLeg m g).pmIn k1 = s.pmIn k1) ∧ (∀ k1, (s.upLeg m g).dma k1 = s.dma k1) ∧
    (∀ k1, (s.upLeg m g).isl k1 = s.isl k1) ∧ (∀ k1, (s.upLeg m g).cp k1 = s.cp k1) ∧ (∀ k1, (s.upLeg m g).sp k1 = s.sp k1) ∧
    (∀ k1, (s.upLeg m g).port k1 = s.port k1) ∧ (∀ k1, (s.upLeg m g).px k1 = s.px k1) ∧
    (∀ k1, (s.upLeg m g).sramRd k1 = s.sramRd k1) ∧ (∀ k1, (s.upLeg m g).vaultRd k1 = s.vaultRd k1) ∧
    (∀ k1 k2 k3, (s.upLeg m g).bankRd k1 k2 k3 = s.bankRd k1 k2 k3) := by
  refine ⟨?_, ?_, ?_, ?_, ?_, ?_, ?_, ?_, ?_, ?_, ?_, ?_, ?_, ?_, ?_, ?_, ?_, ?_⟩ <;> intros <;> simp [State.ctx, State.ax, State.tm, State.fc, State.pair, State.pi, State.lnk, State.saf, State.pmIn, State.dma, State.isl, State.cp, State.sp, State.port, State.px, State.sramRd, State.vaultRd, State.vaultAt, State.bankRd]

@[simp] theorem upDma_units (n : Nat) (g : DmaS → DmaS) :
    (∀ k1, (s.upDma n g).ctx k1 = s.ctx k1) ∧ (∀ k1, (s.upDma n g).ax k1 = s.ax k1) ∧ (∀ k1, (s.upDma n g).tm k1 = s.tm k1) ∧
    (∀ k1, (s.upDma n g).leg k1 = s.leg k1) ∧ (∀ k1, (s.upDma n g).fc k1 = s.fc k1) ∧
    (∀ k1, (s.upDma n g).pair k1 = s.pair k1) ∧ (∀ k1, (s.upDma n g).pi k1 = s.pi k1) ∧
    (∀ k1, (s.upDma n g).lnk k1 = s.lnk k1) ∧ (∀ k1, (s.upDma n g).saf k1 = s.saf k1) ∧
    (∀ k1, (s.upDma n g).pmIn k1 = s.pmIn k1) ∧ (∀ k1, (s.upDma n g).isl k1 = s.isl k1) ∧
    (∀ k1, (s.upDma n g).cp k1 = s.cp k1) ∧ (∀ k1, (s.upDma n g).sp k1 = s.sp k1) ∧ (∀ k1, (s.upDma n g).port k1 = s.port k1) ∧
    (∀ k1, (s.upDma n g).px k1 = s.px k1) ∧ (∀ k1, (s.upDma n g).sramRd k1 = s.sramRd k1) ∧
    (∀ k1, (s.upDma n g).vaultRd k1 = s.vaultRd k1) ∧ (∀ k1 k2 k3, (s.upDma n g).bankRd k1 k2 k3 = s.bankRd k1 k2 k3) := by
  refine ⟨?_, ?_, ?_, ?_, ?_, ?_, ?_, ?_, ?_, ?_, ?_, ?_, ?_, ?_, ?_, ?_, ?_, ?_⟩ <;> intros <;> simp [State.ctx, State.ax, State.tm, State.leg, State.fc, State.pair, State.pi, State.lnk, State.saf, State.pmIn, State.isl, State.cp, State.sp, State.port, State.px, State.sramRd, State.vaultRd, State.vaultAt, State.bankRd]

@[simp] theorem upPi_units (n : Nat) (g : PiS → PiS) :
    (∀ k1, (s.upPi n g).ctx k1 = s.ctx k1) ∧ (∀ k1, (s.upPi n g).ax k1 = s.ax k1) ∧ (∀ k1, (s.upPi n g).tm k1 = s.tm k1) ∧
    (∀ k1, (s.upPi n g).leg k1 = s.leg k1) ∧ (∀ k1, (s.upPi n g).fc k1 = s.fc k1) ∧ (∀ k1, (s.upPi n g).pair k1 = s.pair k1) ∧
    (∀ k1, (s.upPi n g).lnk k1 = s.lnk k1) ∧ (∀ k1, (s.upPi n g).saf k1 = s.saf k1) ∧
    (∀ k1, (s.upPi n g).pmIn k1 = s.pmIn k1) ∧ (∀ k1, (s.upPi n g).dma k1 = s.dma k1) ∧
    (∀ k1, (s.upPi n g).isl k1 = s.isl k1) ∧ (∀ k1, (s.upPi n g).cp k1 = s.cp k1) ∧ (∀ k1, (s.upPi n g).sp k1 = s.sp k1) ∧
    (∀ k1, (s.upPi n g).port k1 = s.port k1) ∧ (∀ k1, (s.upPi n g).px k1 = s.px k1) ∧
    (∀ k1, (s.upPi n g).sramRd k1 = s.sramRd k1) ∧ (∀ k1, (s.upPi n g).vaultRd k1 = s.vaultRd k1) ∧
    (∀ k1 k2 k3, (s.upPi n g).bankRd k1 k2 k3 = s.bankRd k1 k2 k3) := by
  refine ⟨?_, ?_, ?_, ?_, ?_, ?_, ?_, ?_, ?_, ?_, ?_, ?_, ?_, ?_, ?_, ?_, ?_, ?_⟩ <;> intros <;> simp [State.ctx, State.ax, State.tm, State.leg, State.fc, State.pair, State.lnk, State.saf, State.pmIn, State.dma, State.isl, State.cp, State.sp, State.port, State.px, State.sramRd, State.vaultRd, State.vaultAt, State.bankRd]

@[simp] theorem upLnk_units (n : Nat) (g : LinkS → LinkS) :
    (∀ k1, (s.upLnk n g).ctx k1 = s.ctx k1) ∧ (∀ k1, (s.upLnk n g).ax k1 = s.ax k1) ∧ (∀ k1, (s.upLnk n g).tm k1 = s.tm k1) ∧
    (∀ k1, (s.upLnk n g).leg k1 = s.leg k1) ∧ (∀ k1, (s.upLnk n g).fc k1 = s.fc k1) ∧
    (∀ k1, (s.upLnk n g).pair k1 = s.pair k1) ∧ (∀ k1, (s.upLnk n g).pi k1 = s.pi k1) ∧
    (∀ k1, (s.upLnk n g).saf k1 = s.saf k1) ∧ (∀ k1, (s.upLnk n g).pmIn k1 = s.pmIn k1) ∧
    (∀ k1, (s.upLnk n g).dma k1 = s.dma k1) ∧ (∀ k1, (s.upLnk n g).isl k1 = s.isl k1) ∧ (∀ k1, (s.upLnk n g).cp k1 = s.cp k1) ∧
    (∀ k1, (s.upLnk n g).sp k1 = s.sp k1) ∧ (∀ k1, (s.upLnk n g).port k1 = s.port k1) ∧ (∀ k1, (s.upLnk n g).px k1 = s.px k1) ∧
    (∀ k1, (s.upLnk n g).sramRd k1 = s.sramRd k1) ∧ (∀ k1, (s.upLnk n g).vaultRd k1 = s.vaultRd k1) ∧
    (∀ k1 k2 k3, (s.upLnk n g).bankRd k1 k2 k3 = s.bankRd k1 k2 k3) := by
  refine ⟨?_, ?_, ?_, ?_, ?_, ?_, ?_, ?_, ?_, ?_, ?_, ?_, ?_, ?_, ?_, ?_, ?_, ?_⟩ <;> intros <;> simp [State.ctx, State.ax, State.tm, State.leg, State.fc, State.pair, State.pi, State.saf, State.pmIn, State.dma, State.isl, State.cp, State.sp, State.port, State.px, State.sramRd, State.vaultRd, State.vaultAt, State.bankRd]

@[simp] theorem upIsl_units (i : Nat) (g : IslandS → IslandS) :
    (∀ k1, (s.upIsl i g).ctx k1 = s.ctx k1) ∧ (∀ k1, (s.upIsl i g).ax k1 = s.ax k1) ∧ (∀ k1, (s.upIsl i g).tm k1 = s.tm k1) ∧
    (∀ k1, (s.upIsl i g).leg k1 = s.leg k1) ∧ (∀ k1, (s.upIsl i g).fc k1 = s.fc k1) ∧
    (∀ k1, (s.upIsl i g).pair k1 = s.pair k1) ∧ (∀ k1, (s.upIsl i g).pi k1 = s.pi k1) ∧
    (∀ k1, (s.upIsl i g).lnk k1 = s.lnk k1) ∧ (∀ k1, (s.upIsl i g).saf k1 = s.saf k1) ∧
    (∀ k1, (s.upIsl i g).pmIn k1 = s.pmIn k1) ∧ (∀ k1, (s.upIsl i g).dma k1 = s.dma k1) ∧
    (∀ k1, (s.upIsl i g).cp k1 = s.cp k1) ∧ (∀ k1, (s.upIsl i g).sp k1 = s.sp k1) ∧ (∀ k1, (s.upIsl i g).port k1 = s.port k1) ∧
    (∀ k1, (s.upIsl i g).px k1 = s.px k1) ∧ (∀ k1, (s.upIsl i g).sramRd k1 = s.sramRd k1) ∧
    (∀ k1, (s.upIsl i g).vaultRd k1 = s.vaultRd k1) ∧ (∀ k1 k2 k3, (s.upIsl i g).bankRd k1 k2 k3 = s.bankRd k1 k2 k3) := by
  refine ⟨?_, ?_, ?_, ?_, ?_, ?_, ?_, ?_, ?_, ?_, ?_, ?_, ?_, ?_, ?_, ?_, ?_, ?_⟩ <;> intros <;> simp [State.ctx, State.ax, State.tm, State.leg, State.fc, State.pair, State.pi, State.lnk, State.saf, State.pmIn, State.dma, State.cp, State.sp, State.port, State.px, State.sramRd, State.vaultRd, State.vaultAt, State.bankRd]

@[simp] theorem upPair_units (p : Nat) (g : PairS → PairS) :
    (∀ k1, (s.upPair p g).ctx k1 = s.ctx k1) ∧ (∀ k1, (s.upPair p g).ax k1 = s.ax k1) ∧
    (∀ k1, (s.upPair p g).tm k1 = s.tm k1) ∧ (∀ k1, (s.upPair p g).leg k1 = s.leg k1) ∧
    (∀ k1, (s.upPair p g).fc k1 = s.fc k1) ∧ (∀ k1, (s.upPair p g).pi k1 = s.pi k1) ∧
    (∀ k1, (s.upPair p g).lnk k1 = s.lnk k1) ∧ (∀ k1, (s.upPair p g).saf k1 = s.saf k1) ∧
    (∀ k1, (s.upPair p g).pmIn k1 = s.pmIn k1) ∧ (∀ k1, (s.upPair p g).dma k1 = s.dma k1) ∧
    (∀ k1, (s.upPair p g).isl k1 = s.isl k1) ∧ (∀ k1, (s.upPair p g).cp k1 = s.cp k1) ∧
    (∀ k1, (s.upPair p g).sp k1 = s.sp k1) ∧ (∀ k1, (s.upPair p g).port k1 = s.port k1) ∧
    (∀ k1, (s.upPair p g).px k1 = s.px k1) ∧ (∀ k1, (s.upPair p g).sramRd k1 = s.sramRd k1) ∧
    (∀ k1, (s.upPair p g).vaultRd k1 = s.vaultRd k1) ∧ (∀ k1 k2 k3, (s.upPair p g).bankRd k1 k2 k3 = s.bankRd k1 k2 k3) := by
  refine ⟨?_, ?_, ?_, ?_, ?_, ?_, ?_, ?_, ?_, ?_, ?_, ?_, ?_, ?_, ?_, ?_, ?_, ?_⟩ <;> intros <;> simp [State.ctx, State.ax, State.tm, State.leg, State.fc, State.pi, State.lnk, State.saf, State.pmIn, State.dma, State.isl, State.cp, State.sp, State.port, State.px, State.sramRd, State.vaultRd, State.vaultAt, State.bankRd]

@[simp] theorem upSaf_units (a : Nat) (g : SafS → SafS) :
    (∀ k1, (s.upSaf a g).ctx k1 = s.ctx k1) ∧ (∀ k1, (s.upSaf a g).ax k1 = s.ax k1) ∧ (∀ k1, (s.upSaf a g).tm k1 = s.tm k1) ∧
    (∀ k1, (s.upSaf a g).leg k1 = s.leg k1) ∧ (∀ k1, (s.upSaf a g).fc k1 = s.fc k1) ∧
    (∀ k1, (s.upSaf a g).pair k1 = s.pair k1) ∧ (∀ k1, (s.upSaf a g).pi k1 = s.pi k1) ∧
    (∀ k1, (s.upSaf a g).lnk k1 = s.lnk k1) ∧ (∀ k1, (s.upSaf a g).pmIn k1 = s.pmIn k1) ∧
    (∀ k1, (s.upSaf a g).dma k1 = s.dma k1) ∧ (∀ k1, (s.upSaf a g).isl k1 = s.isl k1) ∧ (∀ k1, (s.upSaf a g).cp k1 = s.cp k1) ∧
    (∀ k1, (s.upSaf a g).sp k1 = s.sp k1) ∧ (∀ k1, (s.upSaf a g).port k1 = s.port k1) ∧ (∀ k1, (s.upSaf a g).px k1 = s.px k1) ∧
    (∀ k1, (s.upSaf a g).sramRd k1 = s.sramRd k1) ∧ (∀ k1, (s.upSaf a g).vaultRd k1 = s.vaultRd k1) ∧
    (∀ k1 k2 k3, (s.upSaf a g).bankRd k1 k2 k3 = s.bankRd k1 k2 k3) := by
  refine ⟨?_, ?_, ?_, ?_, ?_, ?_, ?_, ?_, ?_, ?_, ?_, ?_, ?_, ?_, ?_, ?_, ?_, ?_⟩ <;> intros <;> simp [State.ctx, State.ax, State.tm, State.leg, State.fc, State.pair, State.pi, State.lnk, State.pmIn, State.dma, State.isl, State.cp, State.sp, State.port, State.px, State.sramRd, State.vaultRd, State.vaultAt, State.bankRd]

@[simp] theorem upPmIn_units (j : Nat) (g : PmInS → PmInS) :
    (∀ k1, (s.upPmIn j g).ctx k1 = s.ctx k1) ∧ (∀ k1, (s.upPmIn j g).ax k1 = s.ax k1) ∧
    (∀ k1, (s.upPmIn j g).tm k1 = s.tm k1) ∧ (∀ k1, (s.upPmIn j g).leg k1 = s.leg k1) ∧
    (∀ k1, (s.upPmIn j g).fc k1 = s.fc k1) ∧ (∀ k1, (s.upPmIn j g).pair k1 = s.pair k1) ∧
    (∀ k1, (s.upPmIn j g).pi k1 = s.pi k1) ∧ (∀ k1, (s.upPmIn j g).lnk k1 = s.lnk k1) ∧
    (∀ k1, (s.upPmIn j g).saf k1 = s.saf k1) ∧ (∀ k1, (s.upPmIn j g).dma k1 = s.dma k1) ∧
    (∀ k1, (s.upPmIn j g).isl k1 = s.isl k1) ∧ (∀ k1, (s.upPmIn j g).cp k1 = s.cp k1) ∧
    (∀ k1, (s.upPmIn j g).sp k1 = s.sp k1) ∧ (∀ k1, (s.upPmIn j g).port k1 = s.port k1) ∧
    (∀ k1, (s.upPmIn j g).px k1 = s.px k1) ∧ (∀ k1, (s.upPmIn j g).sramRd k1 = s.sramRd k1) ∧
    (∀ k1, (s.upPmIn j g).vaultRd k1 = s.vaultRd k1) ∧ (∀ k1 k2 k3, (s.upPmIn j g).bankRd k1 k2 k3 = s.bankRd k1 k2 k3) := by
  refine ⟨?_, ?_, ?_, ?_, ?_, ?_, ?_, ?_, ?_, ?_, ?_, ?_, ?_, ?_, ?_, ?_, ?_, ?_⟩ <;> intros <;> simp [State.ctx, State.ax, State.tm, State.leg, State.fc, State.pair, State.pi, State.lnk, State.saf, State.dma, State.isl, State.cp, State.sp, State.port, State.px, State.sramRd, State.vaultRd, State.vaultAt, State.bankRd]

@[simp] theorem upPm_units (g : PmS → PmS) :
    (∀ k1, (s.upPm g).ctx k1 = s.ctx k1) ∧ (∀ k1, (s.upPm g).ax k1 = s.ax k1) ∧ (∀ k1, (s.upPm g).tm k1 = s.tm k1) ∧
    (∀ k1, (s.upPm g).leg k1 = s.leg k1) ∧ (∀ k1, (s.upPm g).fc k1 = s.fc k1) ∧ (∀ k1, (s.upPm g).pair k1 = s.pair k1) ∧
    (∀ k1, (s.upPm g).pi k1 = s.pi k1) ∧ (∀ k1, (s.upPm g).lnk k1 = s.lnk k1) ∧ (∀ k1, (s.upPm g).saf k1 = s.saf k1) ∧
    (∀ k1, (s.upPm g).pmIn k1 = s.pmIn k1) ∧ (∀ k1, (s.upPm g).dma k1 = s.dma k1) ∧ (∀ k1, (s.upPm g).isl k1 = s.isl k1) ∧
    (∀ k1, (s.upPm g).cp k1 = s.cp k1) ∧ (∀ k1, (s.upPm g).sp k1 = s.sp k1) ∧ (∀ k1, (s.upPm g).port k1 = s.port k1) ∧
    (∀ k1, (s.upPm g).sramRd k1 = s.sramRd k1) ∧ (∀ k1, (s.upPm g).vaultRd k1 = s.vaultRd k1) ∧
    (∀ k1 k2 k3, (s.upPm g).bankRd k1 k2 k3 = s.bankRd k1 k2 k3) := by
  refine ⟨?_, ?_, ?_, ?_, ?_, ?_, ?_, ?_, ?_, ?_, ?_, ?_, ?_, ?_, ?_, ?_, ?_, ?_⟩ <;> intros <;> simp [State.ctx, State.ax, State.tm, State.leg, State.fc, State.pair, State.pi, State.lnk, State.saf, State.pmIn, State.dma, State.isl, State.cp, State.sp, State.port, State.sramRd, State.vaultRd, State.vaultAt, State.bankRd]

@[simp] theorem upPx_units (x : Nat) (g : PxS → PxS) :
    (∀ k1, (s.upPx x g).ctx k1 = s.ctx k1) ∧ (∀ k1, (s.upPx x g).ax k1 = s.ax k1) ∧ (∀ k1, (s.upPx x g).tm k1 = s.tm k1) ∧
    (∀ k1, (s.upPx x g).leg k1 = s.leg k1) ∧ (∀ k1, (s.upPx x g).fc k1 = s.fc k1) ∧ (∀ k1, (s.upPx x g).pair k1 = s.pair k1) ∧
    (∀ k1, (s.upPx x g).pi k1 = s.pi k1) ∧ (∀ k1, (s.upPx x g).lnk k1 = s.lnk k1) ∧ (∀ k1, (s.upPx x g).saf k1 = s.saf k1) ∧
    (∀ k1, (s.upPx x g).pmIn k1 = s.pmIn k1) ∧ (∀ k1, (s.upPx x g).dma k1 = s.dma k1) ∧
    (∀ k1, (s.upPx x g).isl k1 = s.isl k1) ∧ (∀ k1, (s.upPx x g).cp k1 = s.cp k1) ∧ (∀ k1, (s.upPx x g).sp k1 = s.sp k1) ∧
    (∀ k1, (s.upPx x g).port k1 = s.port k1) ∧ (∀ k1, (s.upPx x g).sramRd k1 = s.sramRd k1) ∧
    (∀ k1, (s.upPx x g).vaultRd k1 = s.vaultRd k1) ∧ (∀ k1 k2 k3, (s.upPx x g).bankRd k1 k2 k3 = s.bankRd k1 k2 k3) := by
  refine ⟨?_, ?_, ?_, ?_, ?_, ?_, ?_, ?_, ?_, ?_, ?_, ?_, ?_, ?_, ?_, ?_, ?_, ?_⟩ <;> intros <;> simp [State.ctx, State.ax, State.tm, State.leg, State.fc, State.pair, State.pi, State.lnk, State.saf, State.pmIn, State.dma, State.isl, State.cp, State.sp, State.port, State.sramRd, State.vaultRd, State.vaultAt, State.bankRd]

@[simp] theorem upFc_units (k : Nat) (g : FcS → FcS) :
    (∀ k1, (s.upFc k g).ctx k1 = s.ctx k1) ∧ (∀ k1, (s.upFc k g).ax k1 = s.ax k1) ∧ (∀ k1, (s.upFc k g).tm k1 = s.tm k1) ∧
    (∀ k1, (s.upFc k g).leg k1 = s.leg k1) ∧ (∀ k1, (s.upFc k g).pair k1 = s.pair k1) ∧ (∀ k1, (s.upFc k g).pi k1 = s.pi k1) ∧
    (∀ k1, (s.upFc k g).lnk k1 = s.lnk k1) ∧ (∀ k1, (s.upFc k g).saf k1 = s.saf k1) ∧
    (∀ k1, (s.upFc k g).pmIn k1 = s.pmIn k1) ∧ (∀ k1, (s.upFc k g).dma k1 = s.dma k1) ∧
    (∀ k1, (s.upFc k g).isl k1 = s.isl k1) ∧ (∀ k1, (s.upFc k g).cp k1 = s.cp k1) ∧ (∀ k1, (s.upFc k g).sp k1 = s.sp k1) ∧
    (∀ k1, (s.upFc k g).port k1 = s.port k1) ∧ (∀ k1, (s.upFc k g).px k1 = s.px k1) ∧
    (∀ k1, (s.upFc k g).sramRd k1 = s.sramRd k1) ∧ (∀ k1, (s.upFc k g).vaultRd k1 = s.vaultRd k1) ∧
    (∀ k1 k2 k3, (s.upFc k g).bankRd k1 k2 k3 = s.bankRd k1 k2 k3) := by
  refine ⟨?_, ?_, ?_, ?_, ?_, ?_, ?_, ?_, ?_, ?_, ?_, ?_, ?_, ?_, ?_, ?_, ?_, ?_⟩ <;> intros <;> simp [State.ctx, State.ax, State.tm, State.leg, State.pair, State.pi, State.lnk, State.saf, State.pmIn, State.dma, State.isl, State.cp, State.sp, State.port, State.px, State.sramRd, State.vaultRd, State.vaultAt, State.bankRd]

@[simp] theorem upCp_units (n : Nat) (g : CpS → CpS) :
    (∀ k1, (s.upCp n g).ctx k1 = s.ctx k1) ∧ (∀ k1, (s.upCp n g).ax k1 = s.ax k1) ∧ (∀ k1, (s.upCp n g).tm k1 = s.tm k1) ∧
    (∀ k1, (s.upCp n g).leg k1 = s.leg k1) ∧ (∀ k1, (s.upCp n g).fc k1 = s.fc k1) ∧ (∀ k1, (s.upCp n g).pair k1 = s.pair k1) ∧
    (∀ k1, (s.upCp n g).pi k1 = s.pi k1) ∧ (∀ k1, (s.upCp n g).lnk k1 = s.lnk k1) ∧ (∀ k1, (s.upCp n g).saf k1 = s.saf k1) ∧
    (∀ k1, (s.upCp n g).pmIn k1 = s.pmIn k1) ∧ (∀ k1, (s.upCp n g).dma k1 = s.dma k1) ∧
    (∀ k1, (s.upCp n g).isl k1 = s.isl k1) ∧ (∀ k1, (s.upCp n g).sp k1 = s.sp k1) ∧ (∀ k1, (s.upCp n g).port k1 = s.port k1) ∧
    (∀ k1, (s.upCp n g).px k1 = s.px k1) ∧ (∀ k1, (s.upCp n g).sramRd k1 = s.sramRd k1) ∧
    (∀ k1, (s.upCp n g).vaultRd k1 = s.vaultRd k1) ∧ (∀ k1 k2 k3, (s.upCp n g).bankRd k1 k2 k3 = s.bankRd k1 k2 k3) := by
  refine ⟨?_, ?_, ?_, ?_, ?_, ?_, ?_, ?_, ?_, ?_, ?_, ?_, ?_, ?_, ?_, ?_, ?_, ?_⟩ <;> intros <;> simp [State.ctx, State.ax, State.tm, State.leg, State.fc, State.pair, State.pi, State.lnk, State.saf, State.pmIn, State.dma, State.isl, State.sp, State.port, State.px, State.sramRd, State.vaultRd, State.vaultAt, State.bankRd]

@[simp] theorem upRed_units (g : RedS → RedS) :
    (∀ k1, (s.upRed g).ctx k1 = s.ctx k1) ∧ (∀ k1, (s.upRed g).ax k1 = s.ax k1) ∧ (∀ k1, (s.upRed g).tm k1 = s.tm k1) ∧
    (∀ k1, (s.upRed g).leg k1 = s.leg k1) ∧ (∀ k1, (s.upRed g).fc k1 = s.fc k1) ∧ (∀ k1, (s.upRed g).pair k1 = s.pair k1) ∧
    (∀ k1, (s.upRed g).pi k1 = s.pi k1) ∧ (∀ k1, (s.upRed g).lnk k1 = s.lnk k1) ∧ (∀ k1, (s.upRed g).saf k1 = s.saf k1) ∧
    (∀ k1, (s.upRed g).pmIn k1 = s.pmIn k1) ∧ (∀ k1, (s.upRed g).dma k1 = s.dma k1) ∧ (∀ k1, (s.upRed g).isl k1 = s.isl k1) ∧
    (∀ k1, (s.upRed g).cp k1 = s.cp k1) ∧ (∀ k1, (s.upRed g).sp k1 = s.sp k1) ∧ (∀ k1, (s.upRed g).port k1 = s.port k1) ∧
    (∀ k1, (s.upRed g).px k1 = s.px k1) ∧ (∀ k1, (s.upRed g).sramRd k1 = s.sramRd k1) ∧
    (∀ k1, (s.upRed g).vaultRd k1 = s.vaultRd k1) ∧ (∀ k1 k2 k3, (s.upRed g).bankRd k1 k2 k3 = s.bankRd k1 k2 k3) := by
  refine ⟨?_, ?_, ?_, ?_, ?_, ?_, ?_, ?_, ?_, ?_, ?_, ?_, ?_, ?_, ?_, ?_, ?_, ?_, ?_⟩ <;> intros <;> simp [State.ctx, State.ax, State.tm, State.leg, State.fc, State.pair, State.pi, State.lnk, State.saf, State.pmIn, State.dma, State.isl, State.cp, State.sp, State.port, State.px, State.sramRd, State.vaultRd, State.vaultAt, State.bankRd]

@[simp] theorem upSp_units (p : Nat) (g : SeamPS → SeamPS) :
    (∀ k1, (s.upSp p g).ctx k1 = s.ctx k1) ∧ (∀ k1, (s.upSp p g).ax k1 = s.ax k1) ∧ (∀ k1, (s.upSp p g).tm k1 = s.tm k1) ∧
    (∀ k1, (s.upSp p g).leg k1 = s.leg k1) ∧ (∀ k1, (s.upSp p g).fc k1 = s.fc k1) ∧ (∀ k1, (s.upSp p g).pair k1 = s.pair k1) ∧
    (∀ k1, (s.upSp p g).pi k1 = s.pi k1) ∧ (∀ k1, (s.upSp p g).lnk k1 = s.lnk k1) ∧ (∀ k1, (s.upSp p g).saf k1 = s.saf k1) ∧
    (∀ k1, (s.upSp p g).pmIn k1 = s.pmIn k1) ∧ (∀ k1, (s.upSp p g).dma k1 = s.dma k1) ∧
    (∀ k1, (s.upSp p g).isl k1 = s.isl k1) ∧ (∀ k1, (s.upSp p g).cp k1 = s.cp k1) ∧ (∀ k1, (s.upSp p g).port k1 = s.port k1) ∧
    (∀ k1, (s.upSp p g).px k1 = s.px k1) ∧ (∀ k1, (s.upSp p g).sramRd k1 = s.sramRd k1) ∧
    (∀ k1, (s.upSp p g).vaultRd k1 = s.vaultRd k1) ∧ (∀ k1 k2 k3, (s.upSp p g).bankRd k1 k2 k3 = s.bankRd k1 k2 k3) := by
  refine ⟨?_, ?_, ?_, ?_, ?_, ?_, ?_, ?_, ?_, ?_, ?_, ?_, ?_, ?_, ?_, ?_, ?_, ?_⟩ <;> intros <;> simp [State.ctx, State.ax, State.tm, State.leg, State.fc, State.pair, State.pi, State.lnk, State.saf, State.pmIn, State.dma, State.isl, State.cp, State.port, State.px, State.sramRd, State.vaultRd, State.vaultAt, State.bankRd]

@[simp] theorem upSeam_units (g : SeamS → SeamS) :
    (∀ k1, (s.upSeam g).ctx k1 = s.ctx k1) ∧ (∀ k1, (s.upSeam g).ax k1 = s.ax k1) ∧ (∀ k1, (s.upSeam g).tm k1 = s.tm k1) ∧
    (∀ k1, (s.upSeam g).leg k1 = s.leg k1) ∧ (∀ k1, (s.upSeam g).fc k1 = s.fc k1) ∧ (∀ k1, (s.upSeam g).pair k1 = s.pair k1) ∧
    (∀ k1, (s.upSeam g).pi k1 = s.pi k1) ∧ (∀ k1, (s.upSeam g).lnk k1 = s.lnk k1) ∧ (∀ k1, (s.upSeam g).saf k1 = s.saf k1) ∧
    (∀ k1, (s.upSeam g).pmIn k1 = s.pmIn k1) ∧ (∀ k1, (s.upSeam g).dma k1 = s.dma k1) ∧
    (∀ k1, (s.upSeam g).isl k1 = s.isl k1) ∧ (∀ k1, (s.upSeam g).cp k1 = s.cp k1) ∧ (∀ k1, (s.upSeam g).sp k1 = s.sp k1) ∧
    (∀ k1, (s.upSeam g).port k1 = s.port k1) ∧ (∀ k1, (s.upSeam g).px k1 = s.px k1) ∧
    (∀ k1, (s.upSeam g).sramRd k1 = s.sramRd k1) ∧ (∀ k1, (s.upSeam g).vaultRd k1 = s.vaultRd k1) ∧
    (∀ k1 k2 k3, (s.upSeam g).bankRd k1 k2 k3 = s.bankRd k1 k2 k3) := by
  refine ⟨?_, ?_, ?_, ?_, ?_, ?_, ?_, ?_, ?_, ?_, ?_, ?_, ?_, ?_, ?_, ?_, ?_, ?_, ?_⟩ <;> intros <;> simp [State.ctx, State.ax, State.tm, State.leg, State.fc, State.pair, State.pi, State.lnk, State.saf, State.pmIn, State.dma, State.isl, State.cp, State.sp, State.port, State.px, State.sramRd, State.vaultRd, State.vaultAt, State.bankRd]

@[simp] theorem upTal_units (g : TalS → TalS) :
    (∀ k1, (s.upTal g).ctx k1 = s.ctx k1) ∧ (∀ k1, (s.upTal g).ax k1 = s.ax k1) ∧ (∀ k1, (s.upTal g).tm k1 = s.tm k1) ∧
    (∀ k1, (s.upTal g).leg k1 = s.leg k1) ∧ (∀ k1, (s.upTal g).fc k1 = s.fc k1) ∧ (∀ k1, (s.upTal g).pair k1 = s.pair k1) ∧
    (∀ k1, (s.upTal g).pi k1 = s.pi k1) ∧ (∀ k1, (s.upTal g).lnk k1 = s.lnk k1) ∧ (∀ k1, (s.upTal g).saf k1 = s.saf k1) ∧
    (∀ k1, (s.upTal g).pmIn k1 = s.pmIn k1) ∧ (∀ k1, (s.upTal g).dma k1 = s.dma k1) ∧ (∀ k1, (s.upTal g).isl k1 = s.isl k1) ∧
    (∀ k1, (s.upTal g).cp k1 = s.cp k1) ∧ (∀ k1, (s.upTal g).sp k1 = s.sp k1) ∧ (∀ k1, (s.upTal g).port k1 = s.port k1) ∧
    (∀ k1, (s.upTal g).px k1 = s.px k1) ∧ (∀ k1, (s.upTal g).sramRd k1 = s.sramRd k1) ∧
    (∀ k1, (s.upTal g).vaultRd k1 = s.vaultRd k1) ∧ (∀ k1 k2 k3, (s.upTal g).bankRd k1 k2 k3 = s.bankRd k1 k2 k3) := by
  refine ⟨?_, ?_, ?_, ?_, ?_, ?_, ?_, ?_, ?_, ?_, ?_, ?_, ?_, ?_, ?_, ?_, ?_, ?_, ?_⟩ <;> intros <;> simp [State.ctx, State.ax, State.tm, State.leg, State.fc, State.pair, State.pi, State.lnk, State.saf, State.pmIn, State.dma, State.isl, State.cp, State.sp, State.port, State.px, State.sramRd, State.vaultRd, State.vaultAt, State.bankRd]

@[simp] theorem vaultWr_units (w : Nat) (v : Word) :
    (∀ k1, (s.vaultWr w v).ctx k1 = s.ctx k1) ∧ (∀ k1, (s.vaultWr w v).ax k1 = s.ax k1) ∧
    (∀ k1, (s.vaultWr w v).tm k1 = s.tm k1) ∧ (∀ k1, (s.vaultWr w v).leg k1 = s.leg k1) ∧
    (∀ k1, (s.vaultWr w v).fc k1 = s.fc k1) ∧ (∀ k1, (s.vaultWr w v).pair k1 = s.pair k1) ∧
    (∀ k1, (s.vaultWr w v).pi k1 = s.pi k1) ∧ (∀ k1, (s.vaultWr w v).lnk k1 = s.lnk k1) ∧
    (∀ k1, (s.vaultWr w v).saf k1 = s.saf k1) ∧ (∀ k1, (s.vaultWr w v).pmIn k1 = s.pmIn k1) ∧
    (∀ k1, (s.vaultWr w v).dma k1 = s.dma k1) ∧ (∀ k1, (s.vaultWr w v).isl k1 = s.isl k1) ∧
    (∀ k1, (s.vaultWr w v).cp k1 = s.cp k1) ∧ (∀ k1, (s.vaultWr w v).sp k1 = s.sp k1) ∧
    (∀ k1, (s.vaultWr w v).port k1 = s.port k1) ∧ (∀ k1, (s.vaultWr w v).px k1 = s.px k1) ∧
    (∀ k1, (s.vaultWr w v).sramRd k1 = s.sramRd k1) ∧ (∀ k1 k2 k3, (s.vaultWr w v).bankRd k1 k2 k3 = s.bankRd k1 k2 k3) := by
  refine ⟨?_, ?_, ?_, ?_, ?_, ?_, ?_, ?_, ?_, ?_, ?_, ?_, ?_, ?_, ?_, ?_, ?_, ?_⟩ <;> intros <;> simp [State.ctx, State.ax, State.tm, State.leg, State.fc, State.pair, State.pi, State.lnk, State.saf, State.pmIn, State.dma, State.isl, State.cp, State.sp, State.port, State.px, State.sramRd, State.bankRd]

@[simp] theorem talBump_units (i n : Nat) :
    (∀ k1, (talBump i n s).ctx k1 = s.ctx k1) ∧ (∀ k1, (talBump i n s).ax k1 = s.ax k1) ∧
    (∀ k1, (talBump i n s).tm k1 = s.tm k1) ∧ (∀ k1, (talBump i n s).leg k1 = s.leg k1) ∧
    (∀ k1, (talBump i n s).fc k1 = s.fc k1) ∧ (∀ k1, (talBump i n s).pair k1 = s.pair k1) ∧
    (∀ k1, (talBump i n s).pi k1 = s.pi k1) ∧ (∀ k1, (talBump i n s).lnk k1 = s.lnk k1) ∧
    (∀ k1, (talBump i n s).saf k1 = s.saf k1) ∧ (∀ k1, (talBump i n s).pmIn k1 = s.pmIn k1) ∧
    (∀ k1, (talBump i n s).dma k1 = s.dma k1) ∧ (∀ k1, (talBump i n s).isl k1 = s.isl k1) ∧
    (∀ k1, (talBump i n s).cp k1 = s.cp k1) ∧ (∀ k1, (talBump i n s).sp k1 = s.sp k1) ∧
    (∀ k1, (talBump i n s).px k1 = s.px k1) ∧ (∀ k1 k2 k3, (talBump i n s).bankRd k1 k2 k3 = s.bankRd k1 k2 k3) := by
  refine ⟨?_, ?_, ?_, ?_, ?_, ?_, ?_, ?_, ?_, ?_, ?_, ?_, ?_, ?_, ?_, ?_⟩ <;> intros <;> simp [State.ctx, State.ax, State.tm, State.leg, State.fc, State.pair, State.pi, State.lnk, State.saf, State.pmIn, State.dma, State.isl, State.cp, State.sp, State.px, State.bankRd]

@[simp] theorem talCount_units (ev master n a : Nat) :
    (∀ k1, (talCount ev master n a s).ctx k1 = s.ctx k1) ∧ (∀ k1, (talCount ev master n a s).ax k1 = s.ax k1) ∧
    (∀ k1, (talCount ev master n a s).tm k1 = s.tm k1) ∧ (∀ k1, (talCount ev master n a s).leg k1 = s.leg k1) ∧
    (∀ k1, (talCount ev master n a s).fc k1 = s.fc k1) ∧ (∀ k1, (talCount ev master n a s).pair k1 = s.pair k1) ∧
    (∀ k1, (talCount ev master n a s).pi k1 = s.pi k1) ∧ (∀ k1, (talCount ev master n a s).lnk k1 = s.lnk k1) ∧
    (∀ k1, (talCount ev master n a s).saf k1 = s.saf k1) ∧ (∀ k1, (talCount ev master n a s).pmIn k1 = s.pmIn k1) ∧
    (∀ k1, (talCount ev master n a s).dma k1 = s.dma k1) ∧ (∀ k1, (talCount ev master n a s).isl k1 = s.isl k1) ∧
    (∀ k1, (talCount ev master n a s).cp k1 = s.cp k1) ∧ (∀ k1, (talCount ev master n a s).sp k1 = s.sp k1) ∧
    (∀ k1, (talCount ev master n a s).px k1 = s.px k1) ∧
    (∀ k1 k2 k3, (talCount ev master n a s).bankRd k1 k2 k3 = s.bankRd k1 k2 k3) := by
  refine ⟨?_, ?_, ?_, ?_, ?_, ?_, ?_, ?_, ?_, ?_, ?_, ?_, ?_, ?_, ?_, ?_⟩ <;> intros <;> simp [State.ctx, State.ax, State.tm, State.leg, State.fc, State.pair, State.pi, State.lnk, State.saf, State.pmIn, State.dma, State.isl, State.cp, State.sp, State.px, State.bankRd]

@[simp] theorem sendMsix_units (p v : Nat) :
    (∀ k1, (sendMsix p v s).ctx k1 = s.ctx k1) ∧ (∀ k1, (sendMsix p v s).ax k1 = s.ax k1) ∧
    (∀ k1, (sendMsix p v s).tm k1 = s.tm k1) ∧ (∀ k1, (sendMsix p v s).leg k1 = s.leg k1) ∧
    (∀ k1, (sendMsix p v s).fc k1 = s.fc k1) ∧ (∀ k1, (sendMsix p v s).pair k1 = s.pair k1) ∧
    (∀ k1, (sendMsix p v s).pi k1 = s.pi k1) ∧ (∀ k1, (sendMsix p v s).lnk k1 = s.lnk k1) ∧
    (∀ k1, (sendMsix p v s).saf k1 = s.saf k1) ∧ (∀ k1, (sendMsix p v s).pmIn k1 = s.pmIn k1) ∧
    (∀ k1, (sendMsix p v s).dma k1 = s.dma k1) ∧ (∀ k1, (sendMsix p v s).isl k1 = s.isl k1) ∧
    (∀ k1, (sendMsix p v s).cp k1 = s.cp k1) ∧ (∀ k1, (sendMsix p v s).sp k1 = s.sp k1) ∧
    (∀ k1, (sendMsix p v s).px k1 = s.px k1) ∧ (∀ k1 k2 k3, (sendMsix p v s).bankRd k1 k2 k3 = s.bankRd k1 k2 k3) := by
  refine ⟨?_, ?_, ?_, ?_, ?_, ?_, ?_, ?_, ?_, ?_, ?_, ?_, ?_, ?_, ?_, ?_⟩ <;> intros <;> simp [State.ctx, State.ax, State.tm, State.leg, State.fc, State.pair, State.pi, State.lnk, State.saf, State.pmIn, State.dma, State.isl, State.cp, State.sp, State.px, State.bankRd]

@[simp] theorem coalesce_units (p v : Nat) :
    (∀ k1, (coalesce p v s).ctx k1 = s.ctx k1) ∧ (∀ k1, (coalesce p v s).ax k1 = s.ax k1) ∧
    (∀ k1, (coalesce p v s).tm k1 = s.tm k1) ∧ (∀ k1, (coalesce p v s).leg k1 = s.leg k1) ∧
    (∀ k1, (coalesce p v s).fc k1 = s.fc k1) ∧ (∀ k1, (coalesce p v s).pair k1 = s.pair k1) ∧
    (∀ k1, (coalesce p v s).pi k1 = s.pi k1) ∧ (∀ k1, (coalesce p v s).lnk k1 = s.lnk k1) ∧
    (∀ k1, (coalesce p v s).saf k1 = s.saf k1) ∧ (∀ k1, (coalesce p v s).pmIn k1 = s.pmIn k1) ∧
    (∀ k1, (coalesce p v s).dma k1 = s.dma k1) ∧ (∀ k1, (coalesce p v s).isl k1 = s.isl k1) ∧
    (∀ k1, (coalesce p v s).cp k1 = s.cp k1) ∧ (∀ k1, (coalesce p v s).sp k1 = s.sp k1) ∧
    (∀ k1, (coalesce p v s).px k1 = s.px k1) ∧ (∀ k1 k2 k3, (coalesce p v s).bankRd k1 k2 k3 = s.bankRd k1 k2 k3) := by
  refine ⟨?_, ?_, ?_, ?_, ?_, ?_, ?_, ?_, ?_, ?_, ?_, ?_, ?_, ?_, ?_, ?_⟩ <;> intros <;> simp [State.ctx, State.ax, State.tm, State.leg, State.fc, State.pair, State.pi, State.lnk, State.saf, State.pmIn, State.dma, State.isl, State.cp, State.sp, State.px, State.bankRd]

@[simp] theorem writeRecord_units (p src unit count : Nat) (detail : Word) (time : Nat) :
    (∀ k1, (writeRecord p src unit count detail time s).ctx k1 = s.ctx k1) ∧
    (∀ k1, (writeRecord p src unit count detail time s).ax k1 = s.ax k1) ∧
    (∀ k1, (writeRecord p src unit count detail time s).tm k1 = s.tm k1) ∧
    (∀ k1, (writeRecord p src unit count detail time s).leg k1 = s.leg k1) ∧
    (∀ k1, (writeRecord p src unit count detail time s).fc k1 = s.fc k1) ∧
    (∀ k1, (writeRecord p src unit count detail time s).pair k1 = s.pair k1) ∧
    (∀ k1, (writeRecord p src unit count detail time s).pi k1 = s.pi k1) ∧
    (∀ k1, (writeRecord p src unit count detail time s).lnk k1 = s.lnk k1) ∧
    (∀ k1, (writeRecord p src unit count detail time s).saf k1 = s.saf k1) ∧
    (∀ k1, (writeRecord p src unit count detail time s).pmIn k1 = s.pmIn k1) ∧
    (∀ k1, (writeRecord p src unit count detail time s).dma k1 = s.dma k1) ∧
    (∀ k1, (writeRecord p src unit count detail time s).isl k1 = s.isl k1) ∧
    (∀ k1, (writeRecord p src unit count detail time s).cp k1 = s.cp k1) ∧
    (∀ k1, (writeRecord p src unit count detail time s).sp k1 = s.sp k1) ∧
    (∀ k1, (writeRecord p src unit count detail time s).px k1 = s.px k1) ∧
    (∀ k1 k2 k3, (writeRecord p src unit count detail time s).bankRd k1 k2 k3 = s.bankRd k1 k2 k3) := by
  refine ⟨?_, ?_, ?_, ?_, ?_, ?_, ?_, ?_, ?_, ?_, ?_, ?_, ?_, ?_, ?_, ?_⟩ <;> intros <;> simp [State.ctx, State.ax, State.tm, State.leg, State.fc, State.pair, State.pi, State.lnk, State.saf, State.pmIn, State.dma, State.isl, State.cp, State.sp, State.px, State.bankRd]

@[simp] theorem mergeRecord_units (p src unit : Nat) (detail : Word) :
    (∀ k1, (mergeRecord p src unit detail s).ctx k1 = s.ctx k1) ∧ (∀ k1, (mergeRecord p src unit detail s).ax k1 = s.ax k1) ∧
    (∀ k1, (mergeRecord p src unit detail s).tm k1 = s.tm k1) ∧ (∀ k1, (mergeRecord p src unit detail s).leg k1 = s.leg k1) ∧
    (∀ k1, (mergeRecord p src unit detail s).fc k1 = s.fc k1) ∧ (∀ k1, (mergeRecord p src unit detail s).pair k1 = s.pair k1) ∧
    (∀ k1, (mergeRecord p src unit detail s).pi k1 = s.pi k1) ∧ (∀ k1, (mergeRecord p src unit detail s).lnk k1 = s.lnk k1) ∧
    (∀ k1, (mergeRecord p src unit detail s).saf k1 = s.saf k1) ∧
    (∀ k1, (mergeRecord p src unit detail s).pmIn k1 = s.pmIn k1) ∧
    (∀ k1, (mergeRecord p src unit detail s).dma k1 = s.dma k1) ∧ (∀ k1, (mergeRecord p src unit detail s).isl k1 = s.isl k1) ∧
    (∀ k1, (mergeRecord p src unit detail s).cp k1 = s.cp k1) ∧ (∀ k1, (mergeRecord p src unit detail s).sp k1 = s.sp k1) ∧
    (∀ k1, (mergeRecord p src unit detail s).px k1 = s.px k1) ∧
    (∀ k1 k2 k3, (mergeRecord p src unit detail s).bankRd k1 k2 k3 = s.bankRd k1 k2 k3) := by
  refine ⟨?_, ?_, ?_, ?_, ?_, ?_, ?_, ?_, ?_, ?_, ?_, ?_, ?_, ?_, ?_, ?_⟩ <;> intros <;> simp [State.ctx, State.ax, State.tm, State.leg, State.fc, State.pair, State.pi, State.lnk, State.saf, State.pmIn, State.dma, State.isl, State.cp, State.sp, State.px, State.bankRd]

@[simp] theorem deliver_units (p src unit : Nat) (detail : Word) :
    (∀ k1, (deliver p src unit detail s).ctx k1 = s.ctx k1) ∧ (∀ k1, (deliver p src unit detail s).ax k1 = s.ax k1) ∧
    (∀ k1, (deliver p src unit detail s).tm k1 = s.tm k1) ∧ (∀ k1, (deliver p src unit detail s).leg k1 = s.leg k1) ∧
    (∀ k1, (deliver p src unit detail s).fc k1 = s.fc k1) ∧ (∀ k1, (deliver p src unit detail s).pair k1 = s.pair k1) ∧
    (∀ k1, (deliver p src unit detail s).pi k1 = s.pi k1) ∧ (∀ k1, (deliver p src unit detail s).lnk k1 = s.lnk k1) ∧
    (∀ k1, (deliver p src unit detail s).saf k1 = s.saf k1) ∧ (∀ k1, (deliver p src unit detail s).pmIn k1 = s.pmIn k1) ∧
    (∀ k1, (deliver p src unit detail s).dma k1 = s.dma k1) ∧ (∀ k1, (deliver p src unit detail s).isl k1 = s.isl k1) ∧
    (∀ k1, (deliver p src unit detail s).cp k1 = s.cp k1) ∧ (∀ k1, (deliver p src unit detail s).sp k1 = s.sp k1) ∧
    (∀ k1, (deliver p src unit detail s).px k1 = s.px k1) ∧
    (∀ k1 k2 k3, (deliver p src unit detail s).bankRd k1 k2 k3 = s.bankRd k1 k2 k3) := by
  refine ⟨?_, ?_, ?_, ?_, ?_, ?_, ?_, ?_, ?_, ?_, ?_, ?_, ?_, ?_, ?_, ?_⟩ <;> intros <;> simp [State.ctx, State.ax, State.tm, State.leg, State.fc, State.pair, State.pi, State.lnk, State.saf, State.pmIn, State.dma, State.isl, State.cp, State.sp, State.px, State.bankRd]

@[simp] theorem raise_units (src unit detail : Nat) :
    (∀ k1, (raise src unit detail s).ctx k1 = s.ctx k1) ∧ (∀ k1, (raise src unit detail s).ax k1 = s.ax k1) ∧
    (∀ k1, (raise src unit detail s).tm k1 = s.tm k1) ∧ (∀ k1, (raise src unit detail s).leg k1 = s.leg k1) ∧
    (∀ k1, (raise src unit detail s).fc k1 = s.fc k1) ∧ (∀ k1, (raise src unit detail s).pair k1 = s.pair k1) ∧
    (∀ k1, (raise src unit detail s).pi k1 = s.pi k1) ∧ (∀ k1, (raise src unit detail s).lnk k1 = s.lnk k1) ∧
    (∀ k1, (raise src unit detail s).saf k1 = s.saf k1) ∧ (∀ k1, (raise src unit detail s).pmIn k1 = s.pmIn k1) ∧
    (∀ k1, (raise src unit detail s).dma k1 = s.dma k1) ∧ (∀ k1, (raise src unit detail s).isl k1 = s.isl k1) ∧
    (∀ k1, (raise src unit detail s).cp k1 = s.cp k1) ∧ (∀ k1, (raise src unit detail s).sp k1 = s.sp k1) ∧
    (∀ k1, (raise src unit detail s).px k1 = s.px k1) ∧
    (∀ k1 k2 k3, (raise src unit detail s).bankRd k1 k2 k3 = s.bankRd k1 k2 k3) := by
  refine ⟨?_, ?_, ?_, ?_, ?_, ?_, ?_, ?_, ?_, ?_, ?_, ?_, ?_, ?_, ?_, ?_⟩ <;> intros <;> simp [State.ctx, State.ax, State.tm, State.leg, State.fc, State.pair, State.pi, State.lnk, State.saf, State.pmIn, State.dma, State.isl, State.cp, State.sp, State.px, State.bankRd]

@[simp] theorem raiseFree_units (src unit : Nat) :
    (∀ k1, (raiseFree src unit s).ctx k1 = s.ctx k1) ∧ (∀ k1, (raiseFree src unit s).ax k1 = s.ax k1) ∧
    (∀ k1, (raiseFree src unit s).tm k1 = s.tm k1) ∧ (∀ k1, (raiseFree src unit s).leg k1 = s.leg k1) ∧
    (∀ k1, (raiseFree src unit s).fc k1 = s.fc k1) ∧ (∀ k1, (raiseFree src unit s).pair k1 = s.pair k1) ∧
    (∀ k1, (raiseFree src unit s).pi k1 = s.pi k1) ∧ (∀ k1, (raiseFree src unit s).lnk k1 = s.lnk k1) ∧
    (∀ k1, (raiseFree src unit s).saf k1 = s.saf k1) ∧ (∀ k1, (raiseFree src unit s).pmIn k1 = s.pmIn k1) ∧
    (∀ k1, (raiseFree src unit s).dma k1 = s.dma k1) ∧ (∀ k1, (raiseFree src unit s).isl k1 = s.isl k1) ∧
    (∀ k1, (raiseFree src unit s).cp k1 = s.cp k1) ∧ (∀ k1, (raiseFree src unit s).sp k1 = s.sp k1) ∧
    (∀ k1, (raiseFree src unit s).px k1 = s.px k1) ∧
    (∀ k1 k2 k3, (raiseFree src unit s).bankRd k1 k2 k3 = s.bankRd k1 k2 k3) := by
  refine ⟨?_, ?_, ?_, ?_, ?_, ?_, ?_, ?_, ?_, ?_, ?_, ?_, ?_, ?_, ?_, ?_⟩ <;> intros <;> simp [State.ctx, State.ax, State.tm, State.leg, State.fc, State.pair, State.pi, State.lnk, State.saf, State.pmIn, State.dma, State.isl, State.cp, State.sp, State.px, State.bankRd]

@[simp] theorem deny_units (p addr : Nat) (bar2 : Bool) (reason : Nat) :
    (∀ k1, (deny p addr bar2 reason s).ctx k1 = s.ctx k1) ∧ (∀ k1, (deny p addr bar2 reason s).ax k1 = s.ax k1) ∧
    (∀ k1, (deny p addr bar2 reason s).tm k1 = s.tm k1) ∧ (∀ k1, (deny p addr bar2 reason s).leg k1 = s.leg k1) ∧
    (∀ k1, (deny p addr bar2 reason s).fc k1 = s.fc k1) ∧ (∀ k1, (deny p addr bar2 reason s).pair k1 = s.pair k1) ∧
    (∀ k1, (deny p addr bar2 reason s).pi k1 = s.pi k1) ∧ (∀ k1, (deny p addr bar2 reason s).lnk k1 = s.lnk k1) ∧
    (∀ k1, (deny p addr bar2 reason s).saf k1 = s.saf k1) ∧ (∀ k1, (deny p addr bar2 reason s).pmIn k1 = s.pmIn k1) ∧
    (∀ k1, (deny p addr bar2 reason s).dma k1 = s.dma k1) ∧ (∀ k1, (deny p addr bar2 reason s).isl k1 = s.isl k1) ∧
    (∀ k1, (deny p addr bar2 reason s).cp k1 = s.cp k1) ∧ (∀ k1, (deny p addr bar2 reason s).sp k1 = s.sp k1) ∧
    (∀ k1, (deny p addr bar2 reason s).px k1 = s.px k1) ∧
    (∀ k1 k2 k3, (deny p addr bar2 reason s).bankRd k1 k2 k3 = s.bankRd k1 k2 k3) := by
  refine ⟨?_, ?_, ?_, ?_, ?_, ?_, ?_, ?_, ?_, ?_, ?_, ?_, ?_, ?_, ?_, ?_⟩ <;> intros <;> simp [State.ctx, State.ax, State.tm, State.leg, State.fc, State.pair, State.pi, State.lnk, State.saf, State.pmIn, State.dma, State.isl, State.cp, State.sp, State.px, State.bankRd]

@[simp] theorem denyW_units (w : Writer) (addr : Nat) (bar2 : Bool) (reason : Nat) :
    (∀ k1, (denyW w addr bar2 reason s).ctx k1 = s.ctx k1) ∧ (∀ k1, (denyW w addr bar2 reason s).ax k1 = s.ax k1) ∧
    (∀ k1, (denyW w addr bar2 reason s).tm k1 = s.tm k1) ∧ (∀ k1, (denyW w addr bar2 reason s).leg k1 = s.leg k1) ∧
    (∀ k1, (denyW w addr bar2 reason s).fc k1 = s.fc k1) ∧ (∀ k1, (denyW w addr bar2 reason s).pair k1 = s.pair k1) ∧
    (∀ k1, (denyW w addr bar2 reason s).pi k1 = s.pi k1) ∧ (∀ k1, (denyW w addr bar2 reason s).lnk k1 = s.lnk k1) ∧
    (∀ k1, (denyW w addr bar2 reason s).saf k1 = s.saf k1) ∧ (∀ k1, (denyW w addr bar2 reason s).pmIn k1 = s.pmIn k1) ∧
    (∀ k1, (denyW w addr bar2 reason s).dma k1 = s.dma k1) ∧ (∀ k1, (denyW w addr bar2 reason s).isl k1 = s.isl k1) ∧
    (∀ k1, (denyW w addr bar2 reason s).cp k1 = s.cp k1) ∧ (∀ k1, (denyW w addr bar2 reason s).sp k1 = s.sp k1) ∧
    (∀ k1, (denyW w addr bar2 reason s).px k1 = s.px k1) ∧
    (∀ k1 k2 k3, (denyW w addr bar2 reason s).bankRd k1 k2 k3 = s.bankRd k1 k2 k3) := by
  refine ⟨?_, ?_, ?_, ?_, ?_, ?_, ?_, ?_, ?_, ?_, ?_, ?_, ?_, ?_, ?_, ?_⟩ <;> intros <;> simp [State.ctx, State.ax, State.tm, State.leg, State.fc, State.pair, State.pi, State.lnk, State.saf, State.pmIn, State.dma, State.isl, State.cp, State.sp, State.px, State.bankRd]

end Sys2Proof.Laws
end

