-- ==== Sys2Proof/Laws/Wake.lean ====
section
/-! SUPPORT. What decides a write does not look at PWR_WAKE_CAUSE: a request that arrives in a descent latches source 0 first
(02 R62), and the checks of its write come out as they would without that. -/

set_option linter.unusedSimpArgs false
set_option linter.unusedSectionVars false
set_option linter.unreachableTactic false
set_option linter.unusedTactic false
set_option linter.unnecessarySeqFocus false

namespace Sys2Proof.Laws

open Sys2Proof.Machine

/-- A state with other register words and another `waking`: what a host request of a descent changes first (02 R62). -/
def waked (s : State) (R : Sparse Word) (bw : Bool) : State := { s with regs := R, sys := { s.sys with waking := bw } }

variable (s : State) (R : Sparse Word) (bw : Bool) (h : ∀ A, A ≠ PWR_WAKE_CAUSE → (waked s R bw).rd A = s.rd A)
include h

theorem rd_waked (A : Nat) (hA : A ≠ PWR_WAKE_CAUSE) : (waked s R bw).rd A = s.rd A := h A hA

theorem get_waked (f : FieldRef) (hf : f.addr ≠ PWR_WAKE_CAUSE) : (waked s R bw).get f = s.get f := by unfold State.get; rw [h _ hf]

theorem on_waked (f : FieldRef) (hf : f.addr ≠ PWR_WAKE_CAUSE) : (waked s R bw).on f = s.on f := by unfold State.on; rw [get_waked s R bw h _ hf]

theorem ax_waked (a : Nat) : (waked s R bw).ax a = s.ax a := by
  unfold State.ax; (try simp only [List.any_cons, List.any_nil]) <;> (try rfl)

theorem ctx_waked (c : Nat) : (waked s R bw).ctx c = s.ctx c := by
  unfold State.ctx; (try simp only [List.any_cons, List.any_nil]) <;> (try rfl)

theorem time_waked : (waked s R bw).time = s.time := by
  unfold State.time; (try simp only [List.any_cons, List.any_nil]) <;> (try rfl)

theorem coreClk_waked : (waked s R bw).coreClk = s.coreClk := by
  unfold State.coreClk; (try simp (disch := (simp only [CLK_STATUS__PLLA_LOCK, PWR_STATE__DESCENDING, PWR_WAKE_CAUSE, ne_eq]; omega)) only [rd_waked s R bw h, get_waked s R bw h, on_waked s R bw h, List.any_cons, List.any_nil]) <;> (try rfl)

theorem steward_waked : (waked s R bw).steward = s.steward := by
  unfold State.steward; (try simp (disch := (simp only [HP_STEWARD__STEWARD, PWR_WAKE_CAUSE, ne_eq]; omega)) only [rd_waked s R bw h, get_waked s R bw h, on_waked s R bw h, List.any_cons, List.any_nil]) <;> (try rfl)

theorem ctxOwner_waked (c : Nat) (hi : c < 1000) : (waked s R bw).ctxOwner c = s.ctxOwner c := by
  unfold State.ctxOwner; (try simp (disch := (simp only [HP_OWN_CTX__OWNER, PWR_WAKE_CAUSE, ne_eq]; omega)) only [rd_waked s R bw h, get_waked s R bw h, on_waked s R bw h, List.any_cons, List.any_nil]) <;> (try rfl)

theorem dmaOwner_waked (n : Nat) (hi : n < 1000) : (waked s R bw).dmaOwner n = s.dmaOwner n := by
  unfold State.dmaOwner; (try simp (disch := (simp only [HP_OWN_DMA__OWNER, PWR_WAKE_CAUSE, ne_eq]; omega)) only [rd_waked s R bw h, get_waked s R bw h, on_waked s R bw h, List.any_cons, List.any_nil]) <;> (try rfl)

theorem axOwner_waked (a : Nat) (hi : a < 1000) : (waked s R bw).axOwner a = s.axOwner a := by
  unfold State.axOwner; (try simp (disch := (simp only [HP_OWN_AX__OWNER, PWR_WAKE_CAUSE, ne_eq]; omega)) only [rd_waked s R bw h, get_waked s R bw h, on_waked s R bw h, List.any_cons, List.any_nil]) <;> (try rfl)

theorem legAxis_waked (m : Nat) : (waked s R bw).legAxis m = s.legAxis m := by
  unfold State.legAxis; (try simp (disch := (simp only [AX_BIND_LEG__LEG_MASK, PWR_WAKE_CAUSE, ne_eq]; omega)) only [rd_waked s R bw h, get_waked s R bw h, on_waked s R bw h, List.any_cons, List.any_nil]) <;> (try rfl)

theorem axLegs_waked (a : Nat) : (waked s R bw).axLegs a = s.axLegs a := by
  unfold State.axLegs; (try simp (disch := (simp only [AX_BIND_LEG__LEG_MASK, PWR_WAKE_CAUSE, ne_eq]; omega)) only [rd_waked s R bw h, get_waked s R bw h, on_waked s R bw h, List.any_cons, List.any_nil]) <;> (try rfl)

theorem awake_waked : (waked s R bw).awake = s.awake := by
  unfold State.awake; (try simp (disch := (simp only [PWR_STATE__STATE, PWR_WAKE_CAUSE, ne_eq]; omega)) only [rd_waked s R bw h, get_waked s R bw h, on_waked s R bw h, List.any_cons, List.any_nil]) <;> (try rfl)

theorem portTakes_waked (p : Nat) : (waked s R bw).portTakes p = s.portTakes p := by
  unfold State.portTakes; (try simp (disch := (simp only [HP_LINK__DSTATE, HP_LINK__UP, PWR_WAKE_CAUSE, ne_eq]; omega)) only [rd_waked s R bw h, get_waked s R bw h, on_waked s R bw h, List.any_cons, List.any_nil]) <;> (try rfl)

theorem leg_waked (m : Nat) : (waked s R bw).leg m = s.leg m := by
  unfold State.leg; (try simp only [List.any_cons, List.any_nil]) <;> (try rfl)

theorem axState_waked (a : Nat) : (waked s R bw).axState a = s.axState a := by
  unfold State.axState; (try simp (disch := (simp only [AX_STATE__STATE, PWR_WAKE_CAUSE, ne_eq]; omega)) only [rd_waked s R bw h, get_waked s R bw h, on_waked s R bw h, List.any_cons, List.any_nil]) <;> (try rfl)

theorem axLive_waked (a : Nat) : (waked s R bw).axLive a = s.axLive a := by
  unfold State.axLive; (try simp only [axState_waked s R bw h, List.any_cons, List.any_nil]) <;> (try rfl)

theorem tableMode_waked (a : Nat) : (waked s R bw).tableMode a = s.tableMode a := by
  unfold State.tableMode; (try simp (disch := (simp only [AX_BIND__MODE, PWR_WAKE_CAUSE, ne_eq]; omega)) only [rd_waked s R bw h, get_waked s R bw h, on_waked s R bw h, List.any_cons, List.any_nil]) <;> (try rfl)

theorem legSwitching_waked (m : Nat) : (waked s R bw).legSwitching m = s.legSwitching m := by
  unfold State.legSwitching; (try simp (disch := (simp only [LEG_CTRL__CNT_EN, LEG_CTRL__OUT_EN, PWR_WAKE_CAUSE, ne_eq]; omega)) only [rd_waked s R bw h, get_waked s R bw h, on_waked s R bw h, ax_waked s R bw h, legAxis_waked s R bw h, axState_waked s R bw h, tableMode_waked s R bw h, List.any_cons, List.any_nil]) <;> (try rfl)

theorem pi_waked (n : Nat) : (waked s R bw).pi n = s.pi n := by
  unfold State.pi; (try simp only [List.any_cons, List.any_nil]) <;> (try rfl)

theorem bankRd_waked (a sel w : Nat) : (waked s R bw).bankRd a sel w = s.bankRd a sel w := by
  unfold State.bankRd; (try simp only [List.any_cons, List.any_nil]) <;> (try rfl)

theorem bankOpen_waked (a sel : Nat) : (waked s R bw).bankOpen a sel = s.bankOpen a sel := by
  unfold State.bankOpen; (try simp (disch := (simp only [AX_STATE__CLOSING, PWR_WAKE_CAUSE, ne_eq]; omega)) only [rd_waked s R bw h, get_waked s R bw h, on_waked s R bw h, ax_waked s R bw h, axState_waked s R bw h, List.any_cons, List.any_nil]) <;> (try rfl)

theorem hdr_waked (a set w b : Nat) : (waked s R bw).hdr a set w b = s.hdr a set w b := by
  unfold State.hdr; (try simp only [bankRd_waked s R bw h, List.any_cons, List.any_nil]) <;> (try rfl)

theorem nu_waked (a set : Nat) : (waked s R bw).nu a set = s.nu a set := by
  unfold State.nu; (try simp only [hdr_waked s R bw h, List.any_cons, List.any_nil]) <;> (try rfl)

theorem namedByTable_waked (k : Nat) : (waked s R bw).namedByTable k = s.namedByTable k := by
  unfold State.namedByTable; (try simp (disch := (simp only [TM_ISRC__IA, TM_ISRC__IB, TM_ISRC__IC, TM_ISRC__VDC, TM_VSRC__EN, TM_VSRC__VA, TM_VSRC__VB, TM_VSRC__VC, PWR_WAKE_CAUSE, ne_eq]; omega)) only [rd_waked s R bw h, get_waked s R bw h, on_waked s R bw h, axLive_waked s R bw h, tableMode_waked s R bw h, List.any_cons, List.any_nil]) <;> (try rfl)

theorem onGrid_waked (k : Nat) : (waked s R bw).onGrid k = s.onGrid k := by
  unfold State.onGrid; (try simp (disch := (simp only [FM_CH_CFG__SMODE, PWR_WAKE_CAUSE, ne_eq]; omega)) only [rd_waked s R bw h, get_waked s R bw h, on_waked s R bw h, namedByTable_waked s R bw h, List.any_cons, List.any_nil]) <;> (try rfl)

theorem uDst_waked (a j : Nat) : (waked s R bw).uDst a j = s.uDst a j := by
  unfold State.uDst; (try simp (disch := (simp only [AX_UDST0__DST, AX_UDST1__DST_4, AX_UDST1__DST_5, PWR_WAKE_CAUSE, ne_eq]; omega)) only [rd_waked s R bw h, get_waked s R bw h, on_waked s R bw h, List.any_cons, List.any_nil]) <;> (try rfl)

theorem loopDest_waked (m : Nat) : (waked s R bw).loopDest m = s.loopDest m := by
  have hs : ∀ a, (waked s R bw).get (AX_STATUS__SET_IN_USE a) = s.get (AX_STATUS__SET_IN_USE a) := fun a =>
    get_waked s R bw h _ (by simp only [AX_STATUS__SET_IN_USE, PWR_WAKE_CAUSE, ne_eq]; omega)
  have hu : ∀ a, ((waked s R bw).ax a).udst = (s.ax a).udst := fun _ => rfl
  unfold State.loopDest
  simp only [legAxis_waked s R bw h, tableMode_waked s R bw h, nu_waked s R bw h, hs, hu, axLegs_waked s R bw h]

theorem fcAxes_waked (k : Nat) : (waked s R bw).fcAxes k = s.fcAxes k := by
  unfold State.fcAxes; (try simp (disch := (simp only [FM_CH_BIND__AXIS, FM_CH_BIND__BOUND, FM_CH_BIND__SHARED, FM_CH_BIND__SHARE_MASK, PWR_WAKE_CAUSE, ne_eq]; omega)) only [rd_waked s R bw h, get_waked s R bw h, on_waked s R bw h, List.any_cons, List.any_nil]) <;> (try rfl)

theorem bastLegs_waked (m : Nat) : (waked s R bw).bastLegs m = s.bastLegs m := by
  unfold State.bastLegs; (try simp only [legAxis_waked s R bw h, axLegs_waked s R bw h, List.any_cons, List.any_nil]) <;> (try rfl)

theorem bastOk_waked (m : Nat) : (waked s R bw).bastOk m = s.bastOk m := by
  unfold State.bastOk; (try simp (disch := (simp only [GI_STATUS__READY, PWR_WAKE_CAUSE, ne_eq]; omega)) only [rd_waked s R bw h, get_waked s R bw h, on_waked s R bw h, legAxis_waked s R bw h, axState_waked s R bw h, legSwitching_waked s R bw h, bastLegs_waked s R bw h, List.any_cons, List.any_nil]) <;> (try rfl)

theorem serviceOk_waked (i : Nat) (v : Bool) : (waked s R bw).serviceOk i v = s.serviceOk i v := by
  unfold State.serviceOk; (try simp (disch := (simp only [GI_STATUS__CFG_SYNC, GI_STATUS__LINK_UP, PWR_WAKE_CAUSE, ne_eq]; omega)) only [rd_waked s R bw h, get_waked s R bw h, on_waked s R bw h, axLegs_waked s R bw h, axState_waked s R bw h, List.any_cons, List.any_nil]) <;> (try rfl)

theorem armed_waked : (waked s R bw).armed = s.armed := by
  unfold State.armed; (try simp (disch := (simp only [SAF_STATUS__ARMED, PWR_WAKE_CAUSE, ne_eq]; omega)) only [rd_waked s R bw h, get_waked s R bw h, on_waked s R bw h, List.any_cons, List.any_nil]) <;> (try rfl)

theorem dmaState_waked (n : Nat) : (waked s R bw).dmaState n = s.dmaState n := by
  unfold State.dmaState; (try simp (disch := (simp only [DMA_CH_STATE__STATE, PWR_WAKE_CAUSE, ne_eq]; omega)) only [rd_waked s R bw h, get_waked s R bw h, on_waked s R bw h, List.any_cons, List.any_nil]) <;> (try rfl)

theorem cp_waked (n : Nat) : (waked s R bw).cp n = s.cp n := by
  unfold State.cp; (try simp only [List.any_cons, List.any_nil]) <;> (try rfl)

theorem cpState_waked (n : Nat) : (waked s R bw).cpState n = s.cpState n := by
  unfold State.cpState; (try simp (disch := (simp only [RED_CP_STAT__STATE, PWR_WAKE_CAUSE, ne_eq]; omega)) only [rd_waked s R bw h, get_waked s R bw h, on_waked s R bw h, List.any_cons, List.any_nil]) <;> (try rfl)

theorem slotOf_waked (n : Nat) : (waked s R bw).slotOf n = s.slotOf n := by
  unfold State.slotOf; (try simp (disch := (simp only [RED_CP_STAT__HAS_SLOT, RED_CP_STAT__SLOT, PWR_WAKE_CAUSE, ne_eq]; omega)) only [rd_waked s R bw h, get_waked s R bw h, on_waked s R bw h, List.any_cons, List.any_nil]) <;> (try rfl)

theorem takeDue_waked (w : Nat) : (waked s R bw).takeDue w = s.takeDue w := by
  unfold State.takeDue; (try simp only [List.any_cons, List.any_nil]) <;> (try rfl)

theorem pairRuns_waked (n : Nat) : (waked s R bw).pairRuns n = s.pairRuns n := by
  unfold State.pairRuns; (try simp only [coreClk_waked s R bw h, cpState_waked s R bw h, slotOf_waked s R bw h, takeDue_waked s R bw h, List.any_cons, List.any_nil]) <;> (try rfl)

theorem stageCopyOk_waked : (waked s R bw).stageCopyOk = s.stageCopyOk := by
  unfold State.stageCopyOk; (try simp (disch := (simp only [VLT_STG_LEN__LEN, VLT_STG_OFS__OFS, VLT_STG_STAT__BUSY, PWR_WAKE_CAUSE, ne_eq]; omega)) only [rd_waked s R bw h, get_waked s R bw h, on_waked s R bw h, List.any_cons, List.any_nil]) <;> (try rfl)

theorem revokeOk_waked (k : Nat) : (waked s R bw).revokeOk k = s.revokeOk k := by
  unfold State.revokeOk; (try simp (disch := (simp only [VLT_IMG_KEY__SLOT, VLT_IMG_KEY__VALID, VLT_KEY_STAT__FW, VLT_KEY_STAT__PRESENT, VLT_KEY_STAT__REVOKED, PWR_WAKE_CAUSE, ne_eq]; omega)) only [rd_waked s R bw h, get_waked s R bw h, on_waked s R bw h, List.any_cons, List.any_nil]) <;> (try rfl)

theorem attOk_waked : (waked s R bw).attOk = s.attOk := by
  unfold State.attOk; (try simp (disch := (simp only [VLT_ATT_STAT__BUSY, VLT_ATT_STAT__EXHAUSTED, VLT_ATT_STAT__READY, PWR_WAKE_CAUSE, ne_eq]; omega)) only [rd_waked s R bw h, get_waked s R bw h, on_waked s R bw h, time_waked s R bw h, List.any_cons, List.any_nil]) <;> (try rfl)

theorem sp_waked (p : Nat) : (waked s R bw).sp p = s.sp p := by
  unfold State.sp; (try simp only [List.any_cons, List.any_nil]) <;> (try rfl)

theorem piAxis_waked (n : Nat) : (waked s R bw).piAxis n = s.piAxis n := by
  unfold State.piAxis; (try simp (disch := (simp only [AX_BIND__PI_EN, AX_BIND__PI_SEL, PWR_WAKE_CAUSE, ne_eq]; omega)) only [rd_waked s R bw h, get_waked s R bw h, on_waked s R bw h, List.any_cons, List.any_nil]) <;> (try rfl)

theorem unitReason_waked (p : Nat) (axis : Option Nat) (hx : ∀ a, axis = some a → a < 1000) : (waked s R bw).unitReason p axis = s.unitReason p axis := by
  unfold State.unitReason
  cases axis with
  | none => simp only [steward_waked s R bw h]
  | some a => simp only [axOwner_waked s R bw h a (hx a rfl)]

theorem hostReason_waked (p : Nat) (cls : WrClass) (i j : Nat) (hi : i < 1000) : (waked s R bw).hostReason p cls i j = s.hostReason p cls i j := by
  have hl : ∀ m a, s.legAxis m = some a → a < 1000 := by
    intro m a hm; have := List.mem_of_find?_eq_some hm; simp only [List.mem_range] at this; omega
  have hp : ∀ m a, s.piAxis m = some a → a < 1000 := by
    intro m a hm; have := List.mem_of_find?_eq_some hm; simp only [List.mem_range] at this; omega
  have hf : s.get (FM_CH_BIND__AXIS i) < 1000 := by
    have := get_lt s (FM_CH_BIND__AXIS i); simp only [FM_CH_BIND__AXIS] at this ⊢; omega
  unfold State.hostReason
  cases cls <;> simp (disch := (simp only [HP_STEWARD__XFER_TARGET, HP_OWN_FUNC__PM_OWNER, HP_OWN_FUNC__TAL_OWNER, FM_CH_BIND__BOUND,
    FM_CH_BIND__AXIS, PWR_WAKE_CAUSE, ne_eq]; omega)) only [steward_waked s R bw h, get_waked s R bw h, on_waked s R bw h,
    ctxOwner_waked s R bw h i (by omega), axOwner_waked s R bw h i (by omega), dmaOwner_waked s R bw h i (by omega),
    legAxis_waked s R bw h, piAxis_waked s R bw h, unitReason_waked s R bw h _ _ (hl _), unitReason_waked s R bw h _ _ (hp _)]
  · exact unitReason_waked s R bw h _ _ (by intro a ha; split at ha <;> simp_all)

theorem fwReason_waked (n : Nat) (cls : WrClass) (i : Nat) : (waked s R bw).fwReason n cls i = s.fwReason n cls i := by
  unfold State.fwReason; (try simp only [steward_waked s R bw h, List.any_cons, List.any_nil]) <;> (try rfl)

theorem accessWaits_waked (bar2 : Bool) (a : Nat) : (waked s R bw).accessWaits bar2 a = s.accessWaits bar2 a := by
  unfold State.accessWaits; (try simp (disch := (simp only [CLK_STATUS__PLLA_LOCK, CLK_STATUS__PLLB_LOCK, PWR_STATE__DESCENDING, PWR_WAKE_CAUSE, ne_eq]; omega)) only [rd_waked s R bw h, get_waked s R bw h, on_waked s R bw h, awake_waked s R bw h, List.any_cons, List.any_nil]) <;> (try rfl)

theorem mirrorAxis_waked (a : Nat) : (waked s R bw).mirrorAxis a = s.mirrorAxis a := by
  unfold State.mirrorAxis; (try simp (disch := (simp only [HP_OWN_AX__DB_CTX, PWR_WAKE_CAUSE, ne_eq]; omega)) only [rd_waked s R bw h, get_waked s R bw h, on_waked s R bw h, List.any_cons, List.any_nil]) <;> (try rfl)

theorem writeReason_waked (w : Writer) (bar2 : Bool) (a : Nat) (ha : a < 2 ^ 20) (hi : ∀ r i j, findRow a = some (r, i, j) → i < 1000) : (waked s R bw).writeReason w bar2 a = s.writeReason w bar2 a := by
  unfold State.writeReason
  cases w with
  | firmware n => simp only [fwReason_waked s R bw h]
  | host p =>
    have hm : ∀ n, s.mirrorAxis a = some n → n < 1000 := by
      intro n hn; unfold State.mirrorAxis at hn; simp only [] at hn; split at hn
      · simp only [Option.some.injEq] at hn; omega
      · exact absurd hn (by simp)
    dsimp only
    rw [on_waked s R bw h (HP_CFG__RO_PORT p.val) (by simp only [HP_CFG__RO_PORT, PWR_WAKE_CAUSE]; omega), ctxOwner_waked s R bw h _ (by omega), mirrorAxis_waked s R bw h]
    have hr : (waked s R bw).sys.released = s.sys.released := rfl
    rw [hr]
    cases hx : s.mirrorAxis a with
    | none =>
      dsimp only
      cases hf : findRow a with
      | none => rfl
      | some x => dsimp only; rw [hostReason_waked s R bw h _ _ _ _ (hi _ _ _ hf)]
    | some n =>
      dsimp only
      rw [axOwner_waked s R bw h n (hm n hx)]
      cases hf : findRow a with
      | none => rfl
      | some x => dsimp only; rw [hostReason_waked s R bw h _ _ _ _ (hi _ _ _ hf)]

theorem checkHp_waked (w : Writer) (b i : Nat) (v : Word) : (waked s R bw).checkHp w b i v = s.checkHp w b i v := by
  unfold State.checkHp; (try simp (disch := (simp only [HP_CFG, HP_LINK__UP, HP_STEWARD_XFER, HP_OWN_AX, HP_OWN_CTX, HP_OWN_DMA, HP_OWN_FUNC, HP_STEWARD, PWR_WAKE_CAUSE, ne_eq]; omega)) only [rd_waked s R bw h, get_waked s R bw h, on_waked s R bw h, steward_waked s R bw h, List.any_cons, List.any_nil]) <;> (try rfl)

theorem checkRing_waked (b i : Nat) (v : Word) : (waked s R bw).checkRing b i v = s.checkRing b i v := by
  unfold State.checkRing; (try simp (disch := (simp only [EV_RING_BASE_HI, EV_RING_BASE_LO, EV_RING_CFG, EV_RING_CFG__EN, EV_RING_CFG__SIZE_LOG2, HP_CTX_BASE_HI, HP_CTX_BASE_LO, HP_CTX_CFG, HP_CTX_CTRL__EN, HP_CTX_SAT, PWR_WAKE_CAUSE, ne_eq]; omega)) only [rd_waked s R bw h, get_waked s R bw h, on_waked s R bw h, List.any_cons, List.any_nil]) <;> (try rfl)

theorem checkDma_waked (b i : Nat) (v : Word) : (waked s R bw).checkDma b i v = s.checkDma b i v := by
  unfold State.checkDma; (try simp (disch := (simp only [DMA_CH_LIST_HI, DMA_CH_LIST_LO, DMA_GLOBAL_CFG, PWR_WAKE_CAUSE, ne_eq]; omega)) only [rd_waked s R bw h, get_waked s R bw h, on_waked s R bw h, dmaState_waked s R bw h, List.any_cons, List.any_nil]) <;> (try rfl)

theorem chBound_waked (k a : Nat) : (waked s R bw).chBound k a = s.chBound k a := by
  unfold State.chBound; (try simp (disch := (simp only [FM_CH_BIND__SHARED, PWR_WAKE_CAUSE, ne_eq]; omega)) only [rd_waked s R bw h, get_waked s R bw h, on_waked s R bw h, fcAxes_waked s R bw h, List.any_cons, List.any_nil]) <;> (try rfl)

theorem tracking_waked (k : Nat) : (waked s R bw).tracking k = s.tracking k := by
  unfold State.tracking; (try simp (disch := (simp only [PM_CFG__MAINS, PM_CFG__TRK_CH, PWR_WAKE_CAUSE, ne_eq]; omega)) only [rd_waked s R bw h, get_waked s R bw h, on_waked s R bw h, List.any_cons, List.any_nil]) <;> (try rfl)

theorem vsrcNames_waked (k : Nat) : (waked s R bw).vsrcNames k = s.vsrcNames k := by
  unfold State.vsrcNames; (try simp (disch := (simp only [TM_VSRC__EN, TM_VSRC__VA, TM_VSRC__VB, TM_VSRC__VC, PWR_WAKE_CAUSE, ne_eq]; omega)) only [rd_waked s R bw h, get_waked s R bw h, on_waked s R bw h, List.any_cons, List.any_nil]) <;> (try rfl)

theorem checkAx_waked (b a j : Nat) (v : Word) : (waked s R bw).checkAx b a j v = s.checkAx b a j v := by
  unfold State.checkAx State.ss1Locks; (try simp (disch := (simp only [AX_BANKSEL__BANK, AX_BANKWIN, AX_BIND, AX_BIND_LEG, AX_BIND_LEG__LEG_MASK, AX_CFG, AX_FE_CFG, AX_FE_LIMIT, AX_OUTDLY, AX_RAMP, AX_SETPOINT, AX_STATE__CLOSING, AX_TIMING, AX_UDST0, AX_UDST1, AX_XSEED, AX_XSEED_EXP, AX_YSRC, SAF_AX_STAT__SS1, SAF_AX_STAT__SS1_STO, PWR_WAKE_CAUSE, ne_eq]; omega)) only [rd_waked s R bw h, get_waked s R bw h, on_waked s R bw h, axState_waked s R bw h, bankOpen_waked s R bw h, List.any_cons, List.any_nil]) <;> (try rfl)

theorem checkTm_waked (b a : Nat) (v : Word) : (waked s R bw).checkTm b a v = s.checkTm b a v := by
  unfold State.checkTm; (try simp (disch := (simp only [TM_ISRC, TM_VSRC, PWR_WAKE_CAUSE, ne_eq]; omega)) only [rd_waked s R bw h, get_waked s R bw h, on_waked s R bw h, axState_waked s R bw h, chBound_waked s R bw h, tracking_waked s R bw h, List.any_cons, List.any_nil]) <;> (try rfl)

theorem legStill_waked (m : Nat) : (waked s R bw).legStill m = s.legStill m := by
  unfold State.legStill; (try simp only [legAxis_waked s R bw h, axState_waked s R bw h, List.any_cons, List.any_nil]) <;> (try rfl)

theorem legLive_waked (m : Nat) : (waked s R bw).legLive m = s.legLive m := by
  unfold State.legLive; (try simp only [legAxis_waked s R bw h, axLive_waked s R bw h, List.any_cons, List.any_nil]) <;> (try rfl)

theorem legSyncs_waked (m : Nat) : (waked s R bw).legSyncs m = s.legSyncs m := by
  unfold State.legSyncs; (try simp (disch := (simp only [AX_TIMING__SYNC, PWR_WAKE_CAUSE, ne_eq]; omega)) only [rd_waked s R bw h, get_waked s R bw h, on_waked s R bw h, legAxis_waked s R bw h, axLegs_waked s R bw h, axState_waked s R bw h, List.any_cons, List.any_nil]) <;> (try rfl)

theorem followOk_waked (m : Nat) (v : Word) : (waked s R bw).followOk m v = s.followOk m v := by
  unfold State.followOk; (try simp (disch := (simp only [LEG_SYNC__MASTER, LEG_SYNC__MODE, PWR_WAKE_CAUSE, ne_eq]; omega)) only [rd_waked s R bw h, get_waked s R bw h, on_waked s R bw h, List.any_cons, List.any_nil]) <;> (try rfl)

theorem checkLeg_waked (b m j : Nat) (v : Word) : (waked s R bw).checkLeg b m j v = s.checkLeg b m j v := by
  unfold State.checkLeg
  rw [legStill_waked s R bw h, followOk_waked s R bw h, legSwitching_waked s R bw h, legSyncs_waked s R bw h, legLive_waked s R bw h,
    loopDest_waked s R bw h, legAxis_waked s R bw h, get_waked s R bw h _ (by simp only [LEG_MASK__SRC, PWR_WAKE_CAUSE]; omega)]
  cases s.legAxis m with
  | none => rfl
  | some a => dsimp only; rw [axState_waked s R bw h]

theorem checkGi_waked (b i x : Nat) (v : Word) : (waked s R bw).checkGi b i x v = s.checkGi b i x v := by
  unfold State.checkGi; (try simp (disch := (simp only [GI_CFG, GI_L_BCFG, GI_L_BCTRL, GI_L_BRES__RUNNING, GI_L_OFF, GI_L_ON, GI_L_SC, GI_L_SOFT, PWR_WAKE_CAUSE, ne_eq]; omega)) only [rd_waked s R bw h, get_waked s R bw h, on_waked s R bw h, bastOk_waked s R bw h, serviceOk_waked s R bw h, legStill_waked s R bw h, List.any_cons, List.any_nil]) <;> (try rfl)

theorem vdcArmed_waked (k : Nat) : (waked s R bw).vdcArmed k = s.vdcArmed k := by
  unfold State.vdcArmed; (try simp (disch := (simp only [SAF_LINK_CFG__EN, SAF_LINK_CFG__VDC_CH, PWR_WAKE_CAUSE, ne_eq]; omega)) only [rd_waked s R bw h, get_waked s R bw h, on_waked s R bw h, armed_waked s R bw h, List.any_cons, List.any_nil]) <;> (try rfl)

theorem pairOk_waked (a b : Nat) : (waked s R bw).pairOk a b = s.pairOk a b := by
  unfold State.pairOk; (try simp (disch := (simp only [FM_CH_BIND__AXIS, FM_CH_BIND__BOUND, FM_CH_BIND__SHARED, FM_CH_BIND__SHARE_MASK, PWR_WAKE_CAUSE, ne_eq]; omega)) only [rd_waked s R bw h, get_waked s R bw h, on_waked s R bw h, onGrid_waked s R bw h, List.any_cons, List.any_nil]) <;> (try rfl)

theorem checkFm_waked (b k : Nat) (v : Word) : (waked s R bw).checkFm b k v = s.checkFm b k v := by
  unfold State.checkFm; (try simp (disch := (simp only [FM_CH_BIND, FM_CH_CFG, FM_CH_WA, FM_CH_WB, FM_CH_WCTL, FM_PAIR, PWR_WAKE_CAUSE, ne_eq]; omega)) only [rd_waked s R bw h, get_waked s R bw h, on_waked s R bw h, axState_waked s R bw h, axLive_waked s R bw h, fcAxes_waked s R bw h, vdcArmed_waked s R bw h, pairOk_waked s R bw h, List.any_cons, List.any_nil]) <;> (try rfl)

theorem checkPm_waked (b : Nat) (v : Word) : (waked s R bw).checkPm b v = s.checkPm b v := by
  unfold State.checkPm; (try simp (disch := (simp only [PM_CFG, PM_CFG__EN, PM_CFG__MAINS, PM_CFG__TRK_CH, PM_SEQ, PM_SEQ_LEN, PM_URGENT, PWR_WAKE_CAUSE, ne_eq]; omega)) only [rd_waked s R bw h, get_waked s R bw h, on_waked s R bw h, vsrcNames_waked s R bw h, List.any_cons, List.any_nil]) <;> (try rfl)

theorem piStill_waked (n : Nat) : (waked s R bw).piStill n = s.piStill n := by
  unfold State.piStill; (try simp only [axLive_waked s R bw h, piAxis_waked s R bw h, List.any_cons, List.any_nil]) <;> (try rfl)

theorem checkPi_waked (b n : Nat) (v : Word) : (waked s R bw).checkPi b n v = s.checkPi b n v := by
  unfold State.checkPi; (try simp (disch := (simp only [PI_CFG, PI_CNT, PI_CPR, PI_LIM_HI, PI_LIM_HI__LIM_HI, PI_LIM_LO, PI_LIM_LO__LIM_LO, PI_RES, PI_RES_PH, PI_RES_T, PI_SSI, PI_SSI_T, PWR_WAKE_CAUSE, ne_eq]; omega)) only [rd_waked s R bw h, get_waked s R bw h, on_waked s R bw h, piStill_waked s R bw h, List.any_cons, List.any_nil]) <;> (try rfl)

theorem checkSaf_waked (b : Nat) : (waked s R bw).checkSaf b = s.checkSaf b := by
  unfold State.checkSaf; (try simp (disch := (simp only [SAF_CONFIRM, PWR_WAKE_CAUSE, ne_eq]; omega)) only [rd_waked s R bw h, get_waked s R bw h, on_waked s R bw h, armed_waked s R bw h, List.any_cons, List.any_nil]) <;> (try rfl)

theorem checkRed_waked (b i j : Nat) (v : Word) : (waked s R bw).checkRed b i j v = s.checkRed b i j v := by
  unfold State.checkRed; (try simp (disch := (simp only [RED_AXSLOT, RED_AXSLOT__SLOT, RED_CFG, RED_SVC, RED_SVC_STAT__BUSY, RED_WS_RGN, RED_WS_RGN__LEN, PWR_WAKE_CAUSE, ne_eq]; omega)) only [rd_waked s R bw h, get_waked s R bw h, on_waked s R bw h, axState_waked s R bw h, List.any_cons, List.any_nil]) <;> (try rfl)

theorem checkVlt_waked (w : Writer) (r : RegRow) (i : Nat) (v : Word) : (waked s R bw).checkVlt w r i v = s.checkVlt w r i v := by
  have h1 : (waked s R bw).vq = s.vq := rfl
  have h2 : (waked s R bw).sys.released = s.sys.released := rfl
  unfold State.checkVlt; (try simp (disch := (simp only [RegRow, VLT_WORD, VLT_STG_LEN, VLT_ATT_CTRL, VLT_DBG_STAT, VLT_KEY_REVOKE, VLT_MIN_SVN, VLT_MIN_SVN__MIN_SVN, VLT_STG_CTRL, VLT_STG_STAT__BUSY, PWR_WAKE_CAUSE, ne_eq]; omega)) only [rd_waked s R bw h, get_waked s R bw h, on_waked s R bw h, h1, h2, stageCopyOk_waked s R bw h, revokeOk_waked s R bw h, attOk_waked s R bw h, List.any_cons, List.any_nil]) <;> (try rfl)

theorem checkTal_waked (b i : Nat) (v : Word) : (waked s R bw).checkTal b i v = s.checkTal b i v := by
  unfold State.checkTal; (try simp (disch := (simp only [TAL_CNT_HI, TAL_CNT_LO, TAL_CTRL__RUN, TAL_EVT, TAL_EVT__EN, TAL_SAMP_CFG, TAL_SAMP_CFG__SRC_EN, TAL_SAMP_PC_HI, TAL_SAMP_PC_LO, TAL_SAMP_RD, TAL_SAMP_WR__WR, TAL_TAG_CFG, TAL_TAG_CFG__EN, PWR_WAKE_CAUSE, ne_eq]; omega)) only [rd_waked s R bw h, get_waked s R bw h, on_waked s R bw h, List.any_cons, List.any_nil]) <;> (try rfl)

theorem valueReason_waked (w : Writer) (r : RegRow) (i j : Nat) (v : Word) : (waked s R bw).valueReason w r i j v = s.valueReason w r i j v := by
  unfold State.valueReason; simp only []
  rw [checkHp_waked s R bw h, checkRing_waked s R bw h, checkDma_waked s R bw h, checkAx_waked s R bw h, checkTm_waked s R bw h,
    checkLeg_waked s R bw h, checkGi_waked s R bw h, checkFm_waked s R bw h, checkPm_waked s R bw h, checkPi_waked s R bw h,
    checkSaf_waked s R bw h, checkRed_waked s R bw h, checkVlt_waked s R bw h, checkTal_waked s R bw h]

theorem vqFull_waked : (waked s R bw).vqFull = s.vqFull := by
  unfold State.vqFull; (try simp only [List.any_cons, List.any_nil]) <;> (try rfl)

omit h in
/-- What a request of a descent does first. -/
theorem wake_zero (ha : s.awake = true) : wake 0 s = if s.get PWR_BOOT_STATUS__PHASE = 0 then s else if s.on PWR_STATE__DESCENDING && nbit (s.get PWR_WAKE_EN__SRC_EN) 0 then
    (s.putBit PWR_WAKE_CAUSE__SRC 0 true).upSys fun y => { y with waking := true } else s.putBit PWR_WAKE_CAUSE__SRC 0 true := by
  have hr : ∀ A, A ≠ PWR_WAKE_CAUSE → (waked s (s.putBit PWR_WAKE_CAUSE__SRC 0 true).regs s.sys.waking).rd A = s.rd A := by
    intro A hA
    have h0 : A ≠ PWR_WAKE_CAUSE__SRC.addr := hA
    exact (rd_putBit_ite s _ _ _ A).trans (if_neg h0)
  have hu : s.putBit PWR_WAKE_CAUSE__SRC 0 true = waked s (s.putBit PWR_WAKE_CAUSE__SRC 0 true).regs s.sys.waking := rfl
  have h1 : (s.putBit PWR_WAKE_CAUSE__SRC 0 true).awake = true := by rw [hu, awake_waked s _ _ hr]; exact ha
  have h2 : (s.putBit PWR_WAKE_CAUSE__SRC 0 true).on PWR_STATE__DESCENDING = s.on PWR_STATE__DESCENDING := by
    rw [hu]; exact on_waked s _ _ hr _ (by decide)
  have h3 : (s.putBit PWR_WAKE_CAUSE__SRC 0 true).get PWR_WAKE_EN__SRC_EN = s.get PWR_WAKE_EN__SRC_EN := by
    rw [hu]; exact get_waked s _ _ hr _ (by decide)
  unfold wake
  simp only [show ¬ ((0 : Nat) = 15) from by decide, if_false, h1, h2, h3, Bool.not_true, Bool.false_or, State.when, Bool.false_eq_true,
    show ((0 : Nat) == 15) = false from rfl]

omit h in
/-- Written as register words and `waking`. -/
theorem wake_zero_waked (ha : s.awake = true) : ∃ R bw, wake 0 s = waked s R bw := by
  rw [wake_zero s ha]
  split
  · exact ⟨s.regs, s.sys.waking, rfl⟩
  split
  · exact ⟨(s.putBit PWR_WAKE_CAUSE__SRC 0 true).regs, true, rfl⟩
  · exact ⟨(s.putBit PWR_WAKE_CAUSE__SRC 0 true).regs, s.sys.waking, rfl⟩

omit h in
/-- And it leaves every register but PWR_WAKE_CAUSE. -/
theorem wake_zero_rd (ha : s.awake = true) (A : Nat) (hA : A ≠ PWR_WAKE_CAUSE) : (wake 0 s).rd A = s.rd A := by
  have h0 : A ≠ PWR_WAKE_CAUSE__SRC.addr := hA
  rw [wake_zero s ha]
  split
  · rfl
  split <;> simp only [upSys_rd, rd_putBit_ite, if_neg h0]

end Sys2Proof.Laws
end

