-- ==== Sys2Proof/Laws/Writes.lean ====
section
/-! SUPPORT. What a write command does: a write that may be made has the effect of its register, and where the registers
lie. -/

namespace Sys2Proof.Laws

open Sys2Proof.Machine

variable (s : State)

theorem may_parts {w : Writer} {a : Nat} {v : Word} (h : s.may w a v = true) :
    (match w with
     | .host p => s.portTakes p.val = true ∧ (s.port p.val).mse = true
     | .firmware n => s.pairRuns n.val = true) ∧
    s.accessWaits false a = false ∧ s.writeReason w false a = 0 ∧
    ∃ r i j, findRow a = some (r, i, j) ∧ s.valueReason w r i j v = 0 := by
  unfold State.may at h
  cases hf : findRow a with
  | none => rw [hf] at h; simp at h
  | some x =>
    obtain ⟨r, i, j⟩ := x
    rw [hf] at h
    simp only [Bool.and_eq_true, Bool.not_eq_true', beq_iff_eq] at h
    refine ⟨?_, h.1.1.2, h.1.2, r, i, j, rfl, h.2⟩
    cases w with
    | host p => simpa using h.1.1.1
    | firmware n => exact h.1.1.1

theorem portTakes_up {p : Nat} (h : s.portTakes p = true) : s.on (HP_LINK__UP p) = true := by
  unfold State.portTakes at h
  simp only [Bool.and_eq_true] at h
  first | exact h.1 | exact h.1.1 | exact h.1.1.1

theorem awake_of_goes {bar2 : Bool} {a : Nat} (h : s.accessWaits bar2 a = false) : s.awake = true := by
  unfold State.accessWaits at h
  simp only [Bool.or_eq_false_iff, Bool.not_eq_false'] at h
  exact h.1

/-- What a request finds: a host's, in a descent, has latched source 0 (02 R62). -/
def arrived (w : Writer) (s : State) : State :=
  match w with
  | .host _ => s.when (s.on PWR_STATE__DESCENDING) (wake 0)
  | .firmware _ => s

@[simp] theorem arrived_firmware (n : Fin 5) : arrived (.firmware n) s = s := rfl

theorem arrived_quiet (w : Writer) (h : s.on PWR_STATE__DESCENDING = false) : arrived w s = s := by
  cases w <;> simp [arrived, h, State.when]

/-- Its arrival changes PWR_WAKE_CAUSE and `waking` alone. -/
theorem arrived_waked (w : Writer) (ha : s.awake = true) :
    ∃ R bw, arrived w s = waked s R bw ∧ ∀ A, A ≠ PWR_WAKE_CAUSE → (waked s R bw).rd A = s.rd A := by
  have hs : arrived w s = s → ∃ R bw, arrived w s = waked s R bw ∧ ∀ A, A ≠ PWR_WAKE_CAUSE → (waked s R bw).rd A = s.rd A :=
    fun h => ⟨s.regs, s.sys.waking, h, fun _ _ => rfl⟩
  cases w with
  | firmware n => exact hs rfl
  | host p =>
    cases hd : s.on PWR_STATE__DESCENDING with
    | false => exact hs (arrived_quiet s _ hd)
    | true =>
      obtain ⟨R, bw, h⟩ := wake_zero_waked s ha
      have hw : arrived (.host p) s = wake 0 s := by simp only [arrived, State.when, hd, if_true]
      exact ⟨R, bw, hw.trans h, fun A hA => h ▸ wake_zero_rd s ha A hA⟩

/-- A write command that may be made: the register's effect on what the request finds, and the record of a part that the
register refuses. -/
theorem writeCmd_may {w : Writer} {a : Nat} {v : Word} (h : s.may w a v = true) (ha : a < 2 ^ 20) (h4 : a % 4 = 0)
    (hm : msixAddr a = false) {r : RegRow} {i j : Nat} (hr : findRow a = some (r, i, j)) (hi : i < 1000)
    (hq : ((r.commits w || r.mayCommit) && s.vqFull) = false) :
    writeCmd w false a v s = refuseRecord w a (regEffect w r a i j v none (arrived w s)).2 (regEffect w r a i j v none (arrived w s)).1 := by
  obtain ⟨h1, h2, h3, r', i', j', hr', h5⟩ := may_parts s h
  rw [hr] at hr'
  simp only [Option.some.injEq, Prod.mk.injEq] at hr'
  obtain ⟨rfl, rfl, rfl⟩ := hr'
  have hw := awake_of_goes s h2
  obtain ⟨R, bw, hu, hrd⟩ := arrived_waked s w hw
  have hI : ∀ r' i' j', findRow a = some (r', i', j') → i' < 1000 := by
    intro r' i' j' hx; rw [hr] at hx; simp only [Option.some.injEq, Prod.mk.injEq] at hx; omega
  have hn : (BitVec.ofNat 20 a).toNat = a := by simp; omega
  have hacc : access w { bar2 := false, addr := BitVec.ofNat 20 a, be := 0xF#4, value := some v } (arrived w s) =
      refuseRecord w a (regEffect w r a i j v none (arrived w s)).2 (regEffect w r a i j v none (arrived w s)).1 := by
    have h2' : (arrived w s).accessWaits false a = false := by rw [hu, accessWaits_waked s R bw hrd]; exact h2
    have h3' : (arrived w s).writeReason w false a = 0 := by rw [hu, writeReason_waked s R bw hrd w false a ha hI]; exact h3
    have h5' : (arrived w s).valueReason w r i j v = 0 := by rw [hu, valueReason_waked s R bw hrd]; exact h5
    have hf : (arrived w s).vqFull = s.vqFull := by rw [hu, vqFull_waked s R bw hrd]
    have hq' : (r.commits w && (arrived w s).vqFull) = false ∧ (r.mayCommit && (arrived w s).vqFull) = false := by
      rw [hf]; revert hq; cases r.commits w <;> cases r.mayCommit <;> cases s.vqFull <;> simp
    unfold access
    simp only [hn, h2', h4, ne_eq, not_true_eq_false, or_self, if_false, Bool.false_eq_true]
    unfold doWrite
    simp only [hm, Bool.false_eq_true, if_false]
    unfold busWrite
    simp only [h3', ne_eq, not_true_eq_false, if_false]
    unfold ruledWrite
    simp only [hr, h5', hq'.1, hq'.2, Bool.false_and, ne_eq, not_true_eq_false, if_false, Bool.false_eq_true]
  cases w with
  | host p =>
    simp only at h1
    have h1' : (arrived (.host p) s).portTakes p.val = true ∧ ((arrived (.host p) s).port p.val).mse = true := by
      rw [hu, portTakes_waked s R bw hrd]; exact h1
    have hl : s.on (HP_LINK__UP p.val) = true := portTakes_up s h1.1
    unfold writeCmd hostAccess
    simp only [hl, hw, Bool.not_true, Bool.false_eq_true, if_false]
    rw [show (s.when (s.on PWR_STATE__DESCENDING) (wake 0)) = arrived (.host p) s from rfl]
    simp only [h1'.1, h1'.2, Bool.not_true, Bool.false_eq_true, if_false]
    exact hacc
  | firmware n =>
    simp only at h1
    unfold writeCmd
    simp only [h1, if_true]
    exact hacc

/-- Where nothing is refused, no record is left. -/
@[simp] theorem refuseRecord_zero (w : Writer) (a : Nat) : refuseRecord w a 0 s = s := by
  unfold refuseRecord
  simp [ownBad, xferBad, State.when]

/-- A write of a doorbell page that may be made. -/
theorem writeCmd_page {p : Fin 4} {a : Nat} (v : Word) (h : s.mayPage p a = true) (ha : a < 2 ^ 20) (h4 : a % 4 = 0)
    (hI : ∀ r i j, findRow a = some (r, i, j) → i < 1000) :
    writeCmd (.host p) true a v s = pageWrite (.host p) a v (arrived (.host p) s) := by
  unfold State.mayPage at h
  simp only [Bool.and_eq_true, Bool.not_eq_true', beq_iff_eq] at h
  obtain ⟨⟨⟨h1, h2⟩, h3⟩, h5⟩ := h
  have hw := awake_of_goes s h3
  obtain ⟨R, bw, hu, hrd⟩ := arrived_waked s (.host p) hw
  have hn : (BitVec.ofNat 20 a).toNat = a := by simp; omega
  have h1' : (arrived (.host p) s).portTakes p.val = true := by rw [hu, portTakes_waked s R bw hrd]; exact h1
  have h2' : ((arrived (.host p) s).port p.val).mse = true := by rw [hu]; exact h2
  have h3' : (arrived (.host p) s).accessWaits true a = false := by rw [hu, accessWaits_waked s R bw hrd]; exact h3
  have h5' : (arrived (.host p) s).writeReason (.host p) true a = 0 := by rw [hu, writeReason_waked s R bw hrd _ true a ha hI]; exact h5
  unfold writeCmd hostAccess
  simp only [portTakes_up s h1, hw, Bool.not_true, Bool.false_eq_true, if_false]
  rw [show (s.when (s.on PWR_STATE__DESCENDING) (wake 0)) = arrived (.host p) s from rfl]
  simp only [h1', h2', Bool.not_true, Bool.false_eq_true, if_false]
  unfold access
  simp only [hn, h3', h4, ne_eq, not_true_eq_false, or_self, if_false, Bool.false_eq_true]
  unfold doWrite
  simp [h5']

end Sys2Proof.Laws
end

