-- ==== Sys2Proof/WellFormed.lean ====
section
/-! DEFINITION. What a command's operands must satisfy beyond their types: lengths of the data that a read answers, word
alignment of register addresses, and sources that exist. The meanings are total all the same: data that is short reads as
zeros beyond its end, and data that is long is cut. -/

namespace Sys2Proof

/-- A register address is a word address. -/
def wordAddr (a : BitVec 20) : Bool := a.toNat % 4 == 0

/-- A list has one of the lengths of a range. -/
def lenIn {α : Type} (lo hi : Nat) (l : List α) : Bool := lo ≤ l.length && l.length ≤ hi

/-- An image as read from a QSPI slot has a header of 64 words (14 R427). -/
def imageWf (i : FlashImage) : Bool := i.hdr.length == 64

/-- A discovery reply names the far end of three ports (15 R449). -/
def seamWf : SeamDisc → Bool
  | .reply d => d.far.length == 3
  | _ => true

/-- The command is well formed. -/
def Instr.wellFormed : Instr → Bool
  | .ownershipWrite _ a _ => wordAddr a
  | .vaultWriteQueued _ a _ => wordAddr a
  | .wakeSource src => src.val < 8 || src.val == 15
  | .descentAbandoned src => src.val < 8 || src.val == 15
  | .imageFetchVerify img => imageWf img
  | .opBankLoad _ (some l) => lenIn 1 64 l
  | .opFwStage _ (some l) => lenIn 1024 1024 l
  | .dmaElementDone _ _ l => lenIn 0 16 l
  | .dmaIndexReadDone _ (some l) => lenIn 1 16 l
  | .stageCopyDone l _ => l.length % 1024 == 0
  | .discoveryFrame _ _ f => seamWf f
  | .registerWrite w _ _ _ (_, st) =>
    match w, st with
    | .host _, some _ => false
    | _, some (.sram a) => a.toNat % 4 == 0
    | _, some (.host _ a) => a.toNat % 4 == 0
    | _, none => true
  | .abstractCommand _ (.prog l) => lenIn 0 16 l
  | .windowFiring _ _ copies => copies != 0
  | _ => true

end Sys2Proof
end

