-- ==== Sys2Proof/Tests/Slice0.lean ====
section
/-! SUPPORT. The author's own tests: small checks against the spec's tables and worked examples, an ill-formed command for each
check of well-formedness, and for each statement of Certificates states and operands that meet the conditions of its clauses. -/

namespace Sys2Proof.Tests

open Sys2Proof Sys2Proof.Machine

set_option Elab.async false

/-! ## Well-formedness: each check refuses an ill-formed command -/

theorem test_illformed_addresses :
    (Instr.ownershipWrite 0 0x1021 0).wellFormed = false ∧ (Instr.vaultWriteQueued (.host 0) 0x20002 0).wellFormed = false := by decide

theorem test_illformed_sources : (Instr.wakeSource 9).wellFormed = false ∧ (Instr.descentAbandoned 14).wellFormed = false := by decide

theorem test_illformed_lengths :
    (Instr.opBankLoad 0 (some [])).wellFormed = false ∧ (Instr.opFwStage 0 (some [0])).wellFormed = false ∧
    (Instr.dmaElementDone 0 false (List.replicate 17 0)).wellFormed = false ∧
    (Instr.dmaIndexReadDone 0 (some [])).wellFormed = false ∧ (Instr.stageCopyDone [0] false).wellFormed = false := by decide

theorem test_illformed_image :
    (Instr.imageFetchVerify { short := false, hdr := [0], payload := [], trailer := [] }).wellFormed = false := by decide

theorem test_illformed_discovery_reply :
    (Instr.discoveryFrame 0 0 (.reply { lo := 0, hi := 0, budget := 0, far := [] })).wellFormed = false := by decide

theorem test_illformed_stores :
    (Instr.registerWrite (.host 1) false 0 15 (3, some (.sram 0))).wellFormed = false ∧
    (Instr.registerWrite (.firmware 1) false 0 15 (3, some (.sram 2))).wellFormed = false ∧
    (Instr.abstractCommand 0 (.prog (List.replicate 17 0))).wellFormed = false := by decide

theorem test_illformed_firing : (Instr.windowFiring 0 false 0).wellFormed = false := by decide

theorem test_wellformed : (Instr.wakeSource 15).wellFormed = true ∧ (Instr.registerWrite (.host 1) false 0x10044 15 (3, none)).wellFormed = true := by
  decide

/-- No row of the opcode table has bits, so no word spells a command. -/
theorem test_no_word_spells_a_command (n w : Nat) :
    decodeTableWord n w = none ∧ State.reset.withFetchWord n w = State.reset := ⟨rfl, rfl⟩

/-! ## States for the tests -/

/-- Awake and released, both PLLs locked, no descent. -/
def awake (s : State) : State :=
  ((((s.put PWR_STATE__STATE 2).putB PWR_STATE__DESCENDING false).putB CLK_STATUS__PLLA_LOCK true).putB CLK_STATUS__PLLB_LOCK true).upSys
    fun y => { y with released := true, entry := false, pairsReset := false }

/-- Port p takes the requests of its host, and has no denial recorded. -/
def hostUp (p : Nat) (s : State) : State :=
  ((((awake s).putB (HP_LINK__UP p) true).put (HP_LINK__DSTATE p) 0).putB (HP_CFG__RO_PORT p) false).upPort p fun q => { q with mse := true }

/-- The host behind port p is the steward. -/
def stew (p : Nat) (s : State) : State := (hostUp p s).put HP_STEWARD__STEWARD p

/-- It owns axis a, context c or DMA channel n. -/
def ownAx (p a : Nat) (s : State) : State := (hostUp p s).put (HP_OWN_AX__OWNER a) p
def ownCtx (p c : Nat) (s : State) : State := (hostUp p s).put (HP_OWN_CTX__OWNER (c / 8) (c % 8)) p
def ownDma (p n : Nat) (s : State) : State := (hostUp p s).put (HP_OWN_DMA__OWNER (n / 8) (n % 8)) p

/-- Pair n executes slot 0. -/
def runs (n : Nat) (s : State) : State := { pairHold n (some 0) (((awake s).put (RED_CP_STAT__STATE n) 0).put (slotPair 0) n) with red := { s.red with takes := [] } }

/-- Context c executes a descriptor. -/
def execd (c : Nat) (ws : List Word) (phase : Nat) (s : State) : State :=
  (awake s).upCtx c fun x => { x with exec := some { words := ws, phase := phase } }

/-- Pair 2 executes slot 1, in state st; the reserve of pair 4 is ready. -/
def pair2 (st : Nat) (x : CpS) : State :=
  let s := ((((awake State.reset).put (RED_CP_STAT__STATE 2) st).put (slotPair 1) 2).put (slotPair 4) 4).put (RED_CP_STAT__STATE 4) 1
  { ((pairHold 2 (some 1) s).putB RED_STATUS__DSAFE false |>.upCp 2 fun _ => x) with fl := [], red := {} } |>.put (RED_CP_COUNTS__DISPLACED 2) 0

/-- DMA channel 5 of host 1, in state st. -/
def dma5 (st : Nat) (d : DmaS) : State :=
  ((((awake State.reset).put (DMA_CH_STATE__STATE 5) st).put (HP_OWN_DMA__OWNER 0 5) 1).putB (DMA_CH_CFG__LIST_SPACE 5) false).putB (HP_LINK__UP 1) true
    |>.putB (HP_LINK__BME 1) true |>.upDma 5 fun _ => d

/-- Interface 2 runs in mode m. -/
def pi2 (m : Nat) : State :=
  State.reset.put (PI_CFG__MODE 2) m |>.putB CLK_STATUS__PLLB_LOCK true |>.put (PI_STATUS__ABZ 2) 0 |>.putB (PI_CFG__LIMIT_MODE 2) false
    |>.putB (PI_CFG__Z_EN 2) false |>.putB (PI_CFG__DIR_INV 2) false

/-- Both engines run, with all lanes of engine 1 good, and no step of a service action is done. -/
def engines : State :=
  ((((State.reset.put (RED_CE_STAT__STATE 0) 0).put (RED_CE_STAT__STATE 1) 0).put (RED_CE_STAT__LANE_OK 1) 0x1FF).put (RED_CE_STAT__SPARE_FOR 1) 15).put
    RED_SVC_STAT__STEPS 0

/-- The link of port SPp is up and admitted, or down. -/
def seamPort (p : Nat) (up : Bool) (s : State) : State :=
  ((s.put (SEAM_PORT_STAT__LINK p) (if up then 2 else 1)).putB (SEAM_PORT_STAT__ADMITTED p) up).putB (SEAM_PORT_STAT__TOO_LONG p) false

/-! ## The spec's tables and worked examples -/

/-- The state that an outcome goes on with. -/
def after (o : Host.Outcome State Fault Refusal) : State := match o with | .next t => t | _ => State.reset

/-- R17's example: offset 0x0010 of LG13 lies at 0x20D10. -/
theorem test_leg_address : LEG_PRD 13 - 0x20000 = 13 * 0x100 + (LEG_PRD 0 - 0x20000) := by decide

/-- R173: the CRC-32 of the eight bytes "12345678", computed by hand with the standard parameters. -/
theorem test_crc32 : crc32 [0x34333231, 0x38373635] = 0x9AE0DAAF := by decide +kernel

/-- The digest of "abc" that FIPS 180-4 gives. -/
theorem test_sha256 : beNat (shaBytes [0x61, 0x62, 0x63]) =
    0xba7816bf8f01cfea414140de5dae2223b00361a396177a9cb410ff61f20015ad := by decide +kernel

/-- R237: u = 0.5 with UMAP 0 and P_clk 1,000 gives N = 750; with UMAP 1 it gives 500. -/
theorem test_duty : dutyWidth false (2 ^ 22) 0 1000 = 750 ∧ dutyWidth true (2 ^ 22) 0 1000 = 500 := by decide +kernel

/-- The table of 08 at clock 100 and 200: S1 becomes active and S2 pending; then S2 with CMP0 of S3. -/
theorem test_reload_guard :
    reloadSets [99, 1, 1, 1, 1] { prd := some 99, cmp := [some 10, some 11, none, none] }
      { prd := some 99, cmp := [some 20, some 21, none, none] } false =
      ([99, 10, 11, 1, 1], { prd := some 99, cmp := [some 20, some 21, none, none] }, {}) ∧
    (reloadSets [99, 10, 11, 1, 1] (({ cmp := [some 30, none, none, none] } : SetS).over
      { prd := some 99, cmp := [some 20, some 21, none, none] }) {} false).1 = [99, 30, 21, 1, 1] := by decide

/-- R53: the lock of the crystal switches the AON domain to it. -/
theorem test_xtal_locked :
    (after (exec .xtalLocked (State.reset.upSys fun y => { y with xtal := true }))).on CLK_STATUS__AON_SRC = true := by decide +kernel

/-- R58: 256 AON clocks of 500 ns are 25,600 units of 5 ns; one idle step is one of them, without loss. -/
theorem test_idle_tick :
    (after (step (State.reset.put PWR_BOOT_STATUS__PHASE 5))).sys.timeAcc * 256 = 25000 * 2 ^ 25 := by decide +kernel

/-- The worked example of 04: CTX2's ledger where the loss of HP0 cuts PM_READ at index 37 after 48 steps. -/
theorem test_ledger_of_a_cut_read :
    let s := awake (State.reset.upCtx 2 fun x => { x with stop := 3, exec := some { words := [0x80310000], idx := 37 } })
    let t := after (exec (.descriptorComplete 2) ((s.wr (HP_CTX_LEDGER0 2) 0x80310025).put (HP_CTX_LEDGER1__STEPS 2) 48))
    t.rd (HP_CTX_LEDGER0 2) = 0x84310025 ∧ t.rd (HP_CTX_LEDGER1 2) = 0x30 ∧ t.rd (HP_CTX_LEDGER2 2) = 0x306 := by decide +kernel

/-- R450's limit: with a budget of 400 ns the chain admits two hops, and refuses the third device with cause 1. -/
theorem test_admission_limit :
    let far := fun (d : Word) (p : Fin 3) => some ({ lo := d, hi := 0, port := p, tooLong := false } : SeamFar)
    let n := fun (h p a q : Nat) (d : Word) => ({ hops := h, port := p, parent := a, pport := q, refuse := 0, lo := d, hi := 0 } : SeamNode)
    (admitNodes [n 0 0 0 0 1, n 1 0 0 1 2, n 2 0 1 1 3, n 3 0 2 1 4] false 400
      [{ lo := 2, hi := 0, budget := 400, far := [far 1 1, far 3 0, none] }, { lo := 3, hi := 0, budget := 400, far := [far 2 1, far 4 0, none] },
       { lo := 4, hi := 0, budget := 400, far := [far 3 1, none, none] }] 0 []
      [n 0 0 0 0 1, n 1 0 0 1 2, n 2 0 1 1 3, n 3 0 2 1 4]).map (·.refuse) = [0, 0, 0, 1] := by decide +kernel

/-! ## Each statement's conditions can be met -/

theorem witness_StepRunsTheFrontCommand : ∃ (s : State) (c : Instr) (rest : List Instr), s.pending = c :: rest :=
  ⟨{ State.reset with pending := [.xtalLocked] }, .xtalLocked, [], rfl⟩

theorem witness_IdleStepAdvancesTheTimeBase :
    (∃ s : State, s.pending = [] ∧ s.get PWR_BOOT_STATUS__PHASE = 0) ∧ (∃ s : State, s.pending = [] ∧ s.get PWR_BOOT_STATUS__PHASE ≠ 0) :=
  ⟨⟨State.reset, rfl, by decide⟩, ⟨State.reset.put PWR_BOOT_STATUS__PHASE 5, rfl, by decide⟩⟩

theorem witness_NoCommandChangesTheQueue : ∃ (c : Instr) (s t : State), exec c s = .next t := ⟨.xtalLocked, State.reset, _, rfl⟩

theorem witness_EveryStepKeepsTheMemoryCanonical : ∃ s t : State, Memory.wf s.sram ∧ step s = .next t :=
  ⟨State.reset, _, by decide, rfl⟩

theorem witness_VaultChangesOnlyByCommits :
    ∃ (c : Instr) (s t : State), exec c s = .next t ∧ (∀ a b, c ≠ .vaultCommitDone a b) ∧ (∀ ok, c ≠ .ownershipCommit ok) ∧
      (∀ d, c ≠ .dinCfgCommit d) ∧ (∀ pin, c ≠ .powerOnReset pin) ∧ c ≠ .railUndervoltage :=
  ⟨.xtalLocked, State.reset, _, rfl, nofun, nofun, nofun, nofun, nofun⟩

theorem witness_OnlyMoversWriteTheMemory :
    ∃ (c : Instr) (s t : State), exec c s = .next t ∧
      c ∉ [Instr.firmwareRelease, .clear, .railUndervoltage] := ⟨.xtalLocked, State.reset, _, rfl, by decide⟩

/-- States and operands that meet the conditions of ConfigurationRequests. -/
theorem witness_ConfigurationRequests :
    (∃ (s : State) (p : Fin 4), s.on (HP_LINK__UP p.val) = true) ∧
    (∃ (s : State) (p : Fin 4), s.on (HP_LINK__UP p.val) = true) ∧
    (∃ (s : State) (p : Fin 4), s.on (HP_LINK__UP p.val) = true) ∧
    (∃ (s : State) (p : Fin 4), s.on (HP_LINK__UP p.val) = true) ∧
    (∃ (s : State) (p : Fin 4), s.on (HP_LINK__UP p.val) = true) ∧
    (∃ (s : State) (p : Fin 4), s.on (HP_LINK__UP p.val) = true) ∧
    (∃ (s : State) (p : Fin 4), s.on (HP_LINK__UP p.val) = true) ∧
    (∃ (s : State) (p : Fin 4), s.on (HP_LINK__UP p.val) = true) ∧
    (∃ (s : State) (p : Fin 4), s.on (HP_LINK__UP p.val) = true) ∧
    (∃ (s : State) (p : Fin 4), s.on (HP_LINK__UP p.val) = true) ∧
    (∃ (s : State) (p : Fin 4), s.on (HP_LINK__UP p.val) = false) :=
  ⟨⟨hostUp 1 State.reset, 1, by decide +kernel⟩,
   ⟨hostUp 1 State.reset, 1, by decide +kernel⟩,
   ⟨hostUp 1 State.reset, 1, by decide +kernel⟩,
   ⟨hostUp 1 State.reset, 1, by decide +kernel⟩,
   ⟨hostUp 1 State.reset, 1, by decide +kernel⟩,
   ⟨hostUp 1 State.reset, 1, by decide +kernel⟩,
   ⟨hostUp 1 State.reset, 1, by decide +kernel⟩,
   ⟨hostUp 1 State.reset, 1, by decide +kernel⟩,
   ⟨hostUp 1 State.reset, 1, by decide +kernel⟩,
   ⟨hostUp 1 State.reset, 1, by decide +kernel⟩,
   ⟨State.reset, 1, by decide +kernel⟩⟩

theorem witness_PowerOnResetClearsTheDevice : ∃ s : State, s.vq = [] := ⟨State.reset, rfl⟩

/-- States and operands that meet the conditions of CrystalLossAndLock. -/
theorem witness_CrystalLossAndLock :
    (∃ (s : State), s.sys.xtal = true) ∧
    (∃ (s : State), s.sys.xtal = true) ∧
    (∃ (s : State), s.sys.xtal = false) :=
  ⟨⟨State.reset.upSys fun y => { y with xtal := true }, by decide +kernel⟩,
   ⟨State.reset.upSys fun y => { y with xtal := true }, by decide +kernel⟩,
   ⟨State.reset.upSys fun y => { y with xtal := false }, by decide +kernel⟩⟩

/-- States and operands that meet the conditions of PllUnlockClearsTheLock. -/
theorem witness_PllUnlockClearsTheLock :
    (∃ (s : State), s.on CLK_STATUS__PLLA_LOCK = true ∧ 2 ≤ s.get PWR_STATE__STATE) ∧
    (∃ (s : State), s.on CLK_STATUS__PLLB_LOCK = true ∧ 2 ≤ s.get PWR_STATE__STATE) ∧
    (∃ (s : State), s.on CLK_STATUS__PLLA_LOCK = false) ∧
    (∃ (s : State), s.on CLK_STATUS__PLLB_LOCK = false) ∧
    (∃ (s : State), s.get PWR_STATE__STATE < 2) :=
  ⟨⟨((State.reset.put PWR_STATE__STATE 2).putB CLK_STATUS__PLLA_LOCK true).putB CLK_STATUS__PLLB_LOCK true, by decide +kernel⟩,
   ⟨((State.reset.put PWR_STATE__STATE 2).putB CLK_STATUS__PLLA_LOCK true).putB CLK_STATUS__PLLB_LOCK true, by decide +kernel⟩,
   ⟨State.reset.putB CLK_STATUS__PLLA_LOCK false, by decide +kernel⟩,
   ⟨State.reset.putB CLK_STATUS__PLLB_LOCK false, by decide +kernel⟩,
   ⟨State.reset.put PWR_STATE__STATE 1, by decide +kernel⟩⟩

/-- States and operands that meet the conditions of PllRelock. -/
theorem witness_PllRelock :
    (∃ (s : State), s.sys.lostA = true ∧ s.sys.relockA < 3 ∧ s.sys.held = []) ∧
    (∃ (s : State), s.sys.lostB = true ∧ s.sys.relockB < 3 ∧ s.sys.held = []) ∧
    (∃ (s : State), s.sys.lostA = true ∧ s.sys.relockA < 2 ∧ s.sys.held = []) ∧
    (∃ (s : State), s.sys.lostB = true ∧ s.sys.relockB < 2 ∧ s.sys.held = []) ∧
    (∃ (s : State), s.sys.lostA = true ∧ s.sys.relockA = 2 ∧ s.sys.held = [] ∧ s.on RED_STATUS__DSAFE = false) ∧
    (∃ (s : State), s.sys.lostB = true ∧ s.sys.relockB = 2 ∧ s.sys.held = [] ∧ s.on RED_STATUS__DSAFE = false) ∧
    (∃ (s : State), (s.sys.lostA = false ∨ 3 ≤ s.sys.relockA) ∧ s.sys.held = []) ∧
    (∃ (s : State), (s.sys.lostB = false ∨ 3 ≤ s.sys.relockB) ∧ s.sys.held = []) :=
  ⟨⟨((State.reset.put PWR_STATE__STATE 2).put PWR_BOOT_STATUS__PHASE 5).upSys fun y => { y with lostA := true, relockA := 1 }, by decide +kernel⟩,
   ⟨((State.reset.put PWR_STATE__STATE 2).put PWR_BOOT_STATUS__PHASE 5).upSys fun y => { y with lostB := true, relockB := 1 }, by decide +kernel⟩,
   ⟨((State.reset.put PWR_STATE__STATE 2).put PWR_BOOT_STATUS__PHASE 5).upSys fun y => { y with lostA := true, relockA := 1 }, by decide +kernel⟩,
   ⟨((State.reset.put PWR_STATE__STATE 2).put PWR_BOOT_STATUS__PHASE 5).upSys fun y => { y with lostB := true, relockB := 1 }, by decide +kernel⟩,
   ⟨((State.reset.put PWR_STATE__STATE 2).put PWR_BOOT_STATUS__PHASE 5).upSys fun y => { y with lostA := true, relockA := 2 }, by decide +kernel⟩,
   ⟨((State.reset.put PWR_STATE__STATE 2).put PWR_BOOT_STATUS__PHASE 5).upSys fun y => { y with lostB := true, relockB := 2 }, by decide +kernel⟩,
   ⟨((State.reset.put PWR_STATE__STATE 2).put PWR_BOOT_STATUS__PHASE 5).upSys fun y => { y with lostA := true, relockA := 3 }, by decide +kernel⟩,
   ⟨((State.reset.put PWR_STATE__STATE 2).put PWR_BOOT_STATUS__PHASE 5).upSys fun y => { y with lostB := true, relockB := 3 }, by decide +kernel⟩⟩

/-- States and operands that meet the conditions of PowerGoIsCheckedAndAccepted. -/
theorem witness_PowerGoIsCheckedAndAccepted :
    (∃ (s : State) (n : Fin 5) (code : Nat), s.may (.firmware n) PWR_CTRL (fieldSet (s.rd PWR_CTRL) 8 1 1) = true ∧ s.get PWR_CTRL__TARGET < 2 ∧ 2 ≤ s.get PWR_STATE__STATE ∧ s.on PWR_STATE__DESCENDING = false ∧ s.powerCtx (s.get PWR_CTRL__TARGET) = none ∧ code = s.descentRefuse (s.get PWR_CTRL__TARGET) none) ∧
    (∃ (s : State) (n : Fin 5) (c code : Nat), s.may (.firmware n) PWR_CTRL (fieldSet (s.rd PWR_CTRL) 8 1 1) = true ∧ s.get PWR_CTRL__TARGET < 2 ∧ 2 ≤ s.get PWR_STATE__STATE ∧ s.on PWR_STATE__DESCENDING = false ∧ s.powerCtx (s.get PWR_CTRL__TARGET) = some c ∧ code = s.descentRefuse (s.get PWR_CTRL__TARGET) (some c) ∧ code ≠ 0) ∧
    (∃ (s : State) (a : Fin 8), s.axLive a.val = true) ∧
    (∃ (s : State) (n : Fin 5), s.may (.firmware n) PWR_CTRL (fieldSet (s.rd PWR_CTRL) 8 1 1) = true ∧ 2 ≤ s.get PWR_CTRL__TARGET) :=
  ⟨⟨{ ((runs 2 State.reset).put PWR_CTRL__TARGET 0) with red := {} }, 2, 0, by decide +kernel⟩,
   ⟨execd 7 [0x80700000, 1] 1 ((((runs 2 State.reset).put PWR_CTRL__TARGET 1).putB PWR_STATE__DESCENDING false).put (AX_STATE__STATE 3) 3), 2, 7, 1, by decide +kernel⟩,
   ⟨State.reset.put (AX_STATE__STATE 3) 3, 3, by decide +kernel⟩,
   ⟨(runs 2 State.reset).put PWR_CTRL__TARGET 3, 2, by decide +kernel⟩⟩

/-- States and operands that meet the conditions of DescentEnds. -/
theorem witness_DescentEnds :
    (∃ (s : State), s.on PWR_STATE__DESCENDING = true ∧ s.sys.waking = false) ∧
    (∃ (s : State), s.on PWR_STATE__DESCENDING = true ∧ s.sys.waking = true ∧ s.sys.held = []) ∧
    (∃ (s : State) (src : Fin 16), s.on PWR_STATE__DESCENDING = true ∧ src.val < 8 ∧ s.sys.held = [] ∧ nbit (s.get PWR_WAKE_EN__SRC_EN) src.val = true ∧ s.get PWR_BOOT_STATUS__PHASE ≠ 0) ∧
    (∃ (s : State), s.on PWR_STATE__DESCENDING = false) ∧
    (∃ (s : State), s.on PWR_STATE__DESCENDING = false) :=
  ⟨⟨State.reset.putB PWR_STATE__DESCENDING true, by decide +kernel⟩,
   ⟨(State.reset.putB PWR_STATE__DESCENDING true).upSys fun y => { y with waking := true }, by decide +kernel⟩,
   ⟨((State.reset.putB PWR_STATE__DESCENDING true).put PWR_WAKE_EN__SRC_EN 0xFF) |>.put PWR_BOOT_STATUS__PHASE 5, 5, by decide +kernel⟩,
   ⟨State.reset.putB PWR_STATE__DESCENDING false, by decide +kernel⟩,
   ⟨State.reset.putB PWR_STATE__DESCENDING false, by decide +kernel⟩⟩

/-- States and operands that meet the conditions of WakeSourcesAreLatched. -/
theorem witness_WakeSourcesAreLatched :
    (∃ (s : State) (src : Fin 16), src.val < 8 ∧ s.get PWR_BOOT_STATUS__PHASE ≠ 0) ∧
    (∃ (s : State), s.get PWR_BOOT_STATUS__PHASE ≠ 0) ∧
    (∃ (s : State), s.sys.wakeTimer = true ∧ s.get PWR_BOOT_STATUS__PHASE ≠ 0) ∧
    (∃ (s : State), s.sys.wakeTimer = false) ∧
    (∃ (s : State) (p : Fin 4), s.get PWR_STATE__STATE < 2 ∧ s.on (HP_LINK__UP p.val) = true ∧ s.get PWR_BOOT_STATUS__PHASE ≠ 0) ∧
    (∃ (s : State), s.get PWR_BOOT_STATUS__PHASE = 0) ∧
    (∃ (s : State) (p : Fin 4), (2 ≤ s.get PWR_STATE__STATE ∨ s.on (HP_LINK__UP p.val) = false)) :=
  ⟨⟨State.reset.put PWR_BOOT_STATUS__PHASE 5, 3, by decide +kernel⟩,
   ⟨State.reset.put PWR_BOOT_STATUS__PHASE 5, by decide +kernel⟩,
   ⟨(State.reset.upSys fun y => { y with wakeTimer := true }).put PWR_BOOT_STATUS__PHASE 5, by decide +kernel⟩,
   ⟨State.reset.upSys fun y => { y with wakeTimer := false }, by decide +kernel⟩,
   ⟨((hostUp 1 State.reset).put PWR_STATE__STATE 1) |>.put PWR_BOOT_STATUS__PHASE 5, 1, by decide +kernel⟩,
   ⟨State.reset, by decide +kernel⟩,
   ⟨hostUp 1 State.reset, 1, by decide +kernel⟩⟩

/-- States and operands that meet the conditions of WakeReachesReady. -/
theorem witness_WakeReachesReady :
    (∃ (s : State), s.lockDue = false ∧ s.sys.waking = true ∧ s.get PWR_STATE__STATE < 2 ∧ s.sys.held = []) ∧
    (∃ (s : State), s.lockDue = true) ∧
    (∃ (s : State), s.lockDue = false ∧ (s.sys.waking = false ∨ 2 ≤ s.get PWR_STATE__STATE)) ∧
    (∃ (s : State), s.sys.entry = true ∧ (∀ w : Fin 4, s.ckptOk w.val (s.get (RED_WS_CKPT__NEWEST w.val)) = true)) ∧
    (∃ (s : State) (checkpoint : Bool) (image : Bool), s.sys.entry = true ∧ ((checkpoint && image) = false ∨ (∃ w : Fin 4, s.ckptOk w.val (s.get (RED_WS_CKPT__NEWEST w.val)) = false))) ∧
    (∃ (s : State), s.sys.entry = false) :=
  ⟨⟨(State.reset.put PWR_STATE__STATE 1).upSys fun y => { y with waking := true, held := [] }, by decide +kernel⟩,
   ⟨State.reset.put PWR_BOOT_STATUS__PHASE 2, by decide +kernel⟩,
   ⟨State.reset.put PWR_STATE__STATE 1, by decide +kernel⟩,
   ⟨State.reset.upSys fun y => { y with entry := true }, by decide +kernel⟩,
   ⟨State.reset.upSys fun y => { y with entry := true }, false, true, by decide +kernel⟩,
   ⟨State.reset.upSys fun y => { y with entry := false }, by decide +kernel⟩⟩

/-- States and operands that meet the conditions of HeldAccessesAreGivenUp. -/
theorem witness_HeldAccessesAreGivenUp :
    (∃ (s : State) (k : Nat) (x : Access), 2 ≤ s.get PWR_STATE__STATE ∧ s.sys.held = [(k, x)] ∧ x.value = none ∧ s.accessWaits x.bar2 x.addr.toNat = true) ∧
    (∃ (s : State) (p : Fin 4) (x : Access) (v : Word), 2 ≤ s.get PWR_STATE__STATE ∧ s.sys.held = [(p.val, x)] ∧ x.value = some v ∧ s.accessWaits x.bar2 x.addr.toNat = true ∧ s.on (HP_DENY_INFO__VALID p.val) = false) ∧
    (∃ (s : State) (p : Fin 4) (x : Access) (v : Word), 2 ≤ s.get PWR_STATE__STATE ∧ s.sys.held = [(p.val, x)] ∧ x.value = some v ∧ s.accessWaits x.bar2 x.addr.toNat = true ∧ s.on (HP_DENY_INFO__VALID p.val) = true) ∧
    (∃ (s : State) (n : Fin 5) (x : Access) (v : Word), 2 ≤ s.get PWR_STATE__STATE ∧ s.sys.held = [(8 + n.val, x)] ∧ x.value = some v ∧ s.accessWaits x.bar2 x.addr.toNat = true) ∧
    (∃ (s : State), 2 ≤ s.get PWR_STATE__STATE ∧ (s.sys.held.any fun h => s.accessWaits h.2.bar2 h.2.addr.toNat) = false) ∧
    (∃ (s : State), s.get PWR_STATE__STATE < 2) :=
  ⟨⟨((awake State.reset).putB CLK_STATUS__PLLA_LOCK false).upSys fun y => { y with held := [(9, { bar2 := false, addr := 0x10040, be := 15, value := none })] }, 9, { bar2 := false, addr := 0x10040, be := 15, value := none }, by decide +kernel⟩,
   ⟨((awake State.reset).putB CLK_STATUS__PLLA_LOCK false).upSys fun y => { y with held := [(1, { bar2 := false, addr := 0x10040, be := 15, value := some 4 })] }, 1, { bar2 := false, addr := 0x10040, be := 15, value := some 4 }, 4, by decide +kernel⟩,
   ⟨((awake State.reset).putB CLK_STATUS__PLLA_LOCK false|>.putB (HP_DENY_INFO__VALID 1) true).upSys fun y => { y with held := [(1, { bar2 := false, addr := 0x10040, be := 15, value := some 4 })] }, 1, { bar2 := false, addr := 0x10040, be := 15, value := some 4 }, 4, by decide +kernel⟩,
   ⟨((awake State.reset).putB CLK_STATUS__PLLA_LOCK false).upSys fun y => { y with held := [(10, { bar2 := false, addr := 0x10040, be := 15, value := some 4 })] }, 2, { bar2 := false, addr := 0x10040, be := 15, value := some 4 }, 4, by decide +kernel⟩,
   ⟨(awake State.reset).upSys fun y => { y with held := [(1, { bar2 := false, addr := 0x10040, be := 15, value := none })] }, by decide +kernel⟩,
   ⟨State.reset.put PWR_STATE__STATE 1, by decide +kernel⟩⟩

/-- States and operands that meet the conditions of WarmResetKeepsMemoryAndVault. -/
theorem witness_WarmResetKeepsMemoryAndVault :
    (∃ (s : State) (w : Writer) (v : Word), s.may w PWR_RESET v = true ∧ fieldGet v 0 16 = 0x4B52) ∧
    (∃ (s : State), s.sys.entry = true) ∧
    (∃ (s : State), s.on RED_STATUS__DSAFE = true ∧ s.on RED_CFG__DSAFE_RST = true) ∧
    (∃ (s : State), s.on RED_STATUS__DSAFE = true ∧ s.on RED_CFG__DSAFE_RST = true) ∧
    (∃ (s : State) (w : Writer) (v : Word), s.may w PWR_RESET v = true ∧ fieldGet v 0 16 ≠ 0x4B52) ∧
    (∃ (s : State), s.sys.entry = false) ∧
    (∃ (s : State), (s.on RED_STATUS__DSAFE = false ∨ s.on RED_CFG__DSAFE_RST = false)) :=
  ⟨⟨runs 2 (awake State.reset), .firmware 2, 0x4B52, by decide +kernel⟩,
   ⟨State.reset.upSys fun y => { y with entry := true }, by decide +kernel⟩,
   ⟨(State.reset.putB RED_STATUS__DSAFE true).putB RED_CFG__DSAFE_RST true, by decide +kernel⟩,
   ⟨(State.reset.putB RED_STATUS__DSAFE true).putB RED_CFG__DSAFE_RST true, by decide +kernel⟩,
   ⟨stew 1 State.reset, .host 1, 0x4B53, by decide +kernel⟩,
   ⟨State.reset.upSys fun y => { y with entry := false }, by decide +kernel⟩,
   ⟨State.reset.putB RED_CFG__DSAFE_RST false, by decide +kernel⟩⟩

/-- States and operands that meet the conditions of StartSequence. -/
theorem witness_StartSequence :
    (∃ (s : State), s.get PWR_BOOT_STATUS__PHASE = 0) ∧
    (∃ (s : State), s.get PWR_BOOT_STATUS__PHASE = 1) ∧
    (∃ (s : State), s.get PWR_BOOT_STATUS__PHASE = 2 ∧ s.sys.lostA = false ∧ s.sys.lostB = false ∧ (s.on PWR_BOOT_STATUS__SOURCE = false ∨ s.on VLT_STG_STAT__ACTIVATE = true)) ∧
    (∃ (s : State), s.get PWR_BOOT_STATUS__PHASE = 2 ∧ s.sys.lostA = false ∧ s.sys.lostB = false ∧ s.on PWR_BOOT_STATUS__SOURCE = true ∧ s.on VLT_STG_STAT__ACTIVATE = false ∧ s.cpState 0 < 6) ∧
    (∃ (s : State), s.get PWR_BOOT_STATUS__PHASE ≠ 0) ∧
    (∃ (s : State), s.get PWR_BOOT_STATUS__PHASE ≠ 1) ∧
    (∃ (s : State), s.get PWR_BOOT_STATUS__PHASE ≠ 2) :=
  ⟨⟨State.reset.put PWR_BOOT_STATUS__PHASE 0, by decide +kernel⟩,
   ⟨State.reset.put PWR_BOOT_STATUS__PHASE 1, by decide +kernel⟩,
   ⟨State.reset.put PWR_BOOT_STATUS__PHASE 2, by decide +kernel⟩,
   ⟨(State.reset.put PWR_BOOT_STATUS__PHASE 2).putB PWR_BOOT_STATUS__SOURCE true, by decide +kernel⟩,
   ⟨State.reset.put PWR_BOOT_STATUS__PHASE 1, by decide +kernel⟩,
   ⟨State.reset.put PWR_BOOT_STATUS__PHASE 2, by decide +kernel⟩,
   ⟨State.reset.put PWR_BOOT_STATUS__PHASE 1, by decide +kernel⟩⟩

set_option maxRecDepth 1000000 in
/-- States and operands that meet the conditions of ImageIsVerifiedAndReleased. -/
theorem witness_ImageIsVerifiedAndReleased :
    (∃ (s : State) (img : FlashImage) (code : Nat), s.vs.due = 1 ∧ code = (if img.short then 1 else s.imageCode 1 img.hdr img.payload img.trailer none)) ∧
    (∃ (s : State) (img : FlashImage) (code : Nat), s.vs.due = 2 ∧ code = (if img.short then 1 else s.imageCode 1 img.hdr img.payload img.trailer none)) ∧
    (∃ (s : State) (code : Nat), s.vs.due = 3 ∧ code = s.stagedCode 1) ∧
    (∃ (s : State), s.vs.due = 0) ∧
    (∃ (s : State), s.vs.boot ≠ 0 ∧ s.get PWR_BOOT_STATUS__PHASE = 4) :=
  ⟨⟨{ State.reset with vs := { due := 1 } }, { short := true, hdr := [], payload := [], trailer := [] }, 1, by decide +kernel⟩,
   ⟨{ State.reset with vs := { due := 2 } }, { short := false, hdr := [0x314C4B48, 0x10001, 0xFF004897, 0, 4, 0, 0, 0x104] ++ List.replicate 56 0, payload := [0x64636261], trailer := [] }, 4, by decide +kernel⟩,
   ⟨{ State.reset with vs := { due := 3 } }, 2, by decide +kernel⟩,
   ⟨State.reset, by decide +kernel⟩,
   ⟨{ (State.reset.put PWR_BOOT_STATUS__PHASE 4) with vs := { boot := 1, hdr := List.replicate 10 0, payload := [5,6] } }, by decide +kernel⟩⟩

/-- States and operands that meet the conditions of VaultCommitEnds. -/
theorem witness_VaultCommitEnds :
    (∃ (s : State) (c : VCommit) (rest : List VCommit), s.vq = c :: rest ∧ c.word ≠ 152) ∧
    (∃ (s : State) (c : VCommit) (a : Nat), s.vq = [c] ∧ s.vheld = [] ∧ s.sys.held = [] ∧ vaultAddr c.word = some a) ∧
    (∃ (s : State) (c : VCommit) (rest : List VCommit), s.vq = c :: rest ∧ s.vheld = [] ∧ s.sys.held = []) ∧
    (∃ (s : State), s.vq = [] ∧ s.vheld = [] ∧ s.sys.held = []) :=
  ⟨⟨{ State.reset with vq := [{ word := 1030, value := 7 }, { word := 103, value := 2 }], vheld := [] }, { word := 1030, value := 7 }, [{ word := 103, value := 2 }], by decide +kernel⟩,
   ⟨{ State.reset with vq := [{ word := 161, value := 7 }] }, { word := 161, value := 7 }, (vaultAddr 161).getD 0, by decide +kernel⟩,
   ⟨{ State.reset with vq := [{ word := 1030, value := 7 }, { word := 103, value := 2 }], vheld := [] }, { word := 1030, value := 7 }, [{ word := 103, value := 2 }], by decide +kernel⟩,
   ⟨State.reset, by decide +kernel⟩⟩

/-- States and operands that meet the conditions of StagingActions. -/
theorem witness_StagingActions :
    (∃ (s : State) (w : Writer), s.may w VLT_STG_CTRL 1 = true) ∧
    (∃ (s : State), s.vs.copying = true ∧ s.stewardReads = true ∧ 1 ≤ s.vs.copyLen ∧ s.vs.copyOfs + s.vs.copyLen ≤ 256) ∧
    (∃ (s : State), s.vs.copying = true) ∧
    (∃ (s : State), s.vs.copying = false) ∧
    (∃ (s : State) (ctx : Option Nat), s.vs.act = some (0, ctx)) ∧
    (∃ (s : State) (c : Nat) (e : ExecS) (code : Nat), s.vs.act = some (0, some c) ∧ (s.ctx c).exec = some e ∧ e.done = none ∧ code = s.stagedCode 1) ∧
    (∃ (s : State) (ctx : Option Nat), s.vs.act = some (1, ctx)) ∧
    (∃ (s : State) (c : Nat) (e : ExecS), s.vs.act = some (1, some c) ∧ (s.ctx c).exec = some e ∧ e.done = none) ∧
    (∃ (s : State) (ctx : Option Nat), s.vs.act = some (2, ctx)) ∧
    (∃ (s : State) (c : Nat) (e : ExecS), s.vs.act = some (2, some c) ∧ (s.ctx c).exec = some e ∧ e.done = none) :=
  ⟨⟨((((stew 1 State.reset).putB VLT_STG_STAT__BUSY false).put VLT_STG_LEN__LEN 3).put VLT_STG_OFS__OFS 2), .host 1, by decide +kernel⟩,
   ⟨{ ((stew 1 State.reset).putB (HP_LINK__BME 1) true) with vs := { State.reset.vs with copying := true, copyOfs := 3, copyLen := 2 } }, by decide +kernel⟩,
   ⟨{ State.reset with vs := { State.reset.vs with copying := true } }, by decide +kernel⟩,
   ⟨State.reset, by decide +kernel⟩,
   ⟨{ State.reset with vs := { State.reset.vs with act := some (0, none) } }, none, by decide +kernel⟩,
   ⟨{ (execd 7 [0x80520000, 0] 1 State.reset) with vs := { State.reset.vs with act := some (0, some 7) } }, 7, { words := [0x80520000, 0], phase := 1 }, 2, by decide +kernel⟩,
   ⟨{ State.reset with vs := { State.reset.vs with act := some (1, none) } }, none, by decide +kernel⟩,
   ⟨{ (execd 7 [0x80520000, 1] 1 State.reset) with vs := { State.reset.vs with act := some (1, some 7) } }, 7, { words := [0x80520000, 1], phase := 1 }, by decide +kernel⟩,
   ⟨{ State.reset with vs := { State.reset.vs with act := some (2, none) } }, none, by decide +kernel⟩,
   ⟨{ (execd 7 [0x80520000, 2] 1 State.reset) with vs := { State.reset.vs with act := some (2, some 7) } }, 7, { words := [0x80520000, 2], phase := 1 }, by decide +kernel⟩⟩

/-- States and operands that meet the conditions of KeysAndDebugPort. -/
theorem witness_KeysAndDebugPort :
    (∃ (s : State) (w : Writer) (v : Word), s.may w VLT_KEY_REVOKE v = true) ∧
    (∃ (s : State) (w : Writer) (v : Word), s.may w VLT_MIN_SVN v = true ∧ s.vqFull = false) ∧
    (∃ (s : State) (w : Writer), s.may w VLT_DBG_STAT 2 = true) ∧
    (∃ (s : State) (ctx : Option Nat) (code : Nat), s.vs.act = some (3, ctx) ∧ code = s.stagedCode 2) ∧
    (∃ (s : State) (c : Nat) (e : ExecS) (code : Nat), s.vs.act = some (3, some c) ∧ (s.ctx c).exec = some e ∧ e.done = none ∧ code = s.stagedCode 2) :=
  ⟨⟨((((stew 1 State.reset).put VLT_KEY_STAT__REVOKED 0).put VLT_KEY_STAT__PRESENT 3).put VLT_KEY_STAT__FW 3).putB VLT_IMG_KEY__VALID false, .host 1, 0x52560001, by decide +kernel⟩,
   ⟨{ (stew 1 State.reset) with vq := [] }, .host 1, 0xFFFFFFFF, by decide +kernel⟩,
   ⟨stew 1 State.reset, .host 1, by decide +kernel⟩,
   ⟨{ State.reset with vs := { State.reset.vs with act := some (3, none) } }, none, 2, by decide +kernel⟩,
   ⟨{ (execd 7 [0x80520000, 3] 1 State.reset) with vs := { State.reset.vs with act := some (3, some 7) } }, 7, { words := [0x80520000, 3], phase := 1 }, 2, by decide +kernel⟩⟩

/-- States and operands that meet the conditions of AttestationReport. -/
theorem witness_AttestationReport :
    (∃ (s : State) (w : Writer), s.may w VLT_ATT_CTRL 1 = true ∧ s.vqFull = false) ∧
    (∃ (s : State), s.on VLT_ATT_STAT__BUSY = true ∧ s.get VLT_ATT_IDX__NEXT < s.attRes ∧ s.get VLT_ATT_IDX__NEXT + 1 < 2 ^ 30 ∧ s.vs.report.length = 64) ∧
    (∃ (s : State), s.on VLT_ATT_STAT__BUSY = true ∧ s.get VLT_ATT_IDX__NEXT < s.attRes ∧ s.get VLT_ATT_IDX__NEXT + 1 = 2 ^ 30) ∧
    (∃ (s : State), (s.on VLT_ATT_STAT__BUSY = false ∨ s.attRes ≤ s.get VLT_ATT_IDX__NEXT)) ∧
    (∃ (s : State), s.sys.released = true) ∧
    (∃ (s : State), s.sys.released = false) :=
  ⟨⟨(((stew 1 State.reset).putB VLT_ATT_STAT__BUSY false).putB VLT_ATT_STAT__READY true).put VLT_ATT_IDX__NEXT 0, .host 1, by decide +kernel⟩,
   ⟨{ (State.reset.putB VLT_ATT_STAT__BUSY true).put VLT_ATT_IDX__NEXT 3 with vault := [(5, VWord.of 1000)], vs := { report := List.replicate 64 9 } }, by decide +kernel⟩,
   ⟨{ (State.reset.putB VLT_ATT_STAT__BUSY true).put VLT_ATT_IDX__NEXT 0x3FFFFFFF with vault := [(5, VWord.of 0x40000000)] }, by decide +kernel⟩,
   ⟨{ (State.reset.putB VLT_ATT_STAT__BUSY true).put VLT_ATT_IDX__NEXT 0xFFFFFFF with vault := [] }, by decide +kernel⟩,
   ⟨awake State.reset, by decide +kernel⟩,
   ⟨State.reset, by decide +kernel⟩⟩

/-- States and operands that meet the conditions of TallyCommands. -/
theorem witness_TallyCommands :
    (∃ (s : State) (w : Writer) (on : Bool), s.may w TAL_CTRL (BitVec.ofNat 32 (b2n on)) = true) ∧
    (∃ (s : State) (w : Writer), s.may w TAL_CTRL (BitVec.ofNat 32 (s.get TAL_CTRL__RUN + 2)) = true) ∧
    (∃ (s : State) (w : Writer), s.may w TAL_CTRL (BitVec.ofNat 32 (s.get TAL_CTRL__RUN + 4)) = true) ∧
    (∃ (s : State) (n : Fin 8) (inc : TalInc), s.on TAL_CTRL__RUN = true ∧ s.on (TAL_EVT__EN n.val) = true ∧ s.on TAL_STATUS__FROZEN = false ∧ s.talCnt n.val + s.talPriv n.val inc.m.toNat inc.u.toNat < 2 ^ 48 ∧ s.tal.due = []) ∧
    (∃ (s : State) (n : Fin 8) (inc : TalInc), s.on TAL_CTRL__RUN = true ∧ s.on (TAL_EVT__EN n.val) = true ∧ s.on TAL_STATUS__FROZEN = false ∧ 2 ^ 48 ≤ s.talCnt n.val + s.talPriv n.val inc.m.toNat inc.u.toNat) ∧
    (∃ (s : State) (n : Fin 8), (s.on TAL_CTRL__RUN = false ∨ s.on (TAL_EVT__EN n.val) = false ∨ s.on TAL_STATUS__FROZEN = true) ∧ s.tal.due = []) ∧
    (∃ (s : State) (w : Writer) (v : Word), s.may w TAL_SAMP_RD v = true) :=
  ⟨⟨(hostUp 1 State.reset).put HP_OWN_FUNC__TAL_OWNER 1, .host 1, true, by decide +kernel⟩,
   ⟨(hostUp 1 State.reset).put HP_OWN_FUNC__TAL_OWNER 1, .host 1, by decide +kernel⟩,
   ⟨(hostUp 1 State.reset).put HP_OWN_FUNC__TAL_OWNER 1, .host 1, by decide +kernel⟩,
   ⟨{ (((((State.reset.put TAL_CTRL__RUN 1).putB (TAL_EVT__EN 3) true).putB TAL_STATUS__FROZEN false).wr (TAL_CNT_HI 3) 3)) with tal := {} }, 3, { m := 5, u := 2 }, by decide +kernel⟩,
   ⟨(((State.reset.put TAL_CTRL__RUN 1).putB (TAL_EVT__EN 3) true).wr (TAL_CNT_HI 3) 0xFFFF).wr (TAL_CNT_LO 3) 0xFFFFFFFF, 3, { m := 5, u := 2 }, by decide +kernel⟩,
   ⟨State.reset, 3, by decide +kernel⟩,
   ⟨(((hostUp 1 State.reset).put HP_OWN_FUNC__TAL_OWNER 1).put TAL_SAMP_RD__RD 0x10).put TAL_SAMP_WR__WR 0x20, .host 1, 0x15, by decide +kernel⟩⟩

/-- States and operands that meet the conditions of SampleRecords. -/
theorem witness_SampleRecords :
    (∃ (s : State) (src : Fin 6) (bits : BitVec 7) (ws : Vector Word 6), s.sampEntries < 256 ∧ s.sampPasses src.val (bits.getLsbD 0) ws[0] = true) ∧
    (∃ (s : State) (src : Fin 6) (bits : BitVec 7) (ws : Vector Word 6), s.sampEntries = 256 ∧ s.on TAL_SAMP_CFG__FULL_MODE = false ∧ s.sampPasses src.val (bits.getLsbD 0) ws[0] = true) ∧
    (∃ (s : State) (src : Fin 6) (bits : BitVec 7) (ws : Vector Word 6), s.sampEntries = 256 ∧ s.on TAL_SAMP_CFG__FULL_MODE = true ∧ s.sampPasses src.val (bits.getLsbD 0) ws[0] = true) ∧
    (∃ (s : State) (e : Fin 2) (a : Fin 8) (corr : Bool), nbit (s.get TAL_TAG_CFG__EN) e.val = true ∧ (corr = true → s.on TAL_TAG_CFG__CORR = true) ∧ (s.on TAL_TAG_CFG__AXIS_EN = true → s.get TAL_TAG_CFG__AXIS = a.val) ∧ s.sampEntries < 256) ∧
    (∃ (s : State) (e : Fin 2), nbit (s.get TAL_TAG_CFG__EN) e.val = false) ∧
    (∃ (s : State) (src : Fin 6) (bits : BitVec 7) (ws : Vector Word 6), s.sampPasses src.val (bits.getLsbD 0) ws[0] = false) :=
  ⟨⟨((((((State.reset.put TAL_SAMP_WR__WR 5).put TAL_SAMP_RD__RD 3).put TAL_SAMP_CFG__SRC_EN 4).put TAL_SAMP_CFG__PRIV 2).putB TAL_SAMP_CFG__PC_EN true).wr TAL_SAMP_PC_LO 0x100).wr TAL_SAMP_PC_HI 0x200, 2, 3, #v[0x200, 0, 0, 0, 0, 0], by decide +kernel⟩,
   ⟨(State.reset.put TAL_SAMP_WR__WR 256).put TAL_SAMP_RD__RD 0, 2, 3, #v[0x200, 0, 0, 0, 0, 0], by decide +kernel⟩,
   ⟨((State.reset.put TAL_SAMP_WR__WR 256).put TAL_SAMP_RD__RD 0).putB TAL_SAMP_CFG__FULL_MODE true, 2, 3, #v[0x200, 0, 0, 0, 0, 0], by decide +kernel⟩,
   ⟨((((State.reset.put TAL_SAMP_WR__WR 5).put TAL_SAMP_RD__RD 3).put TAL_TAG_CFG__EN 3).putB TAL_TAG_CFG__AXIS_EN true).put TAL_TAG_CFG__AXIS 4, 1, 4, false, by decide +kernel⟩,
   ⟨State.reset, 1, by decide +kernel⟩,
   ⟨((((State.reset.put TAL_SAMP_CFG__SRC_EN 4).put TAL_SAMP_CFG__PRIV 2).putB TAL_SAMP_CFG__PC_EN true).wr TAL_SAMP_PC_LO 0x100).wr TAL_SAMP_PC_HI 0x200, 2, 3, #v[0x204, 0, 0, 0, 0, 0], by decide +kernel⟩⟩

/-- States and operands that meet the conditions of HostLinkUpAndLoss. -/
theorem witness_HostLinkUpAndLoss :
    (∃ (s : State) (p : Fin 4) (speed : Fin 4), (s.port p.val).training = true ∧ (s.port p.val).perst = false ∧ s.on (HP_CFG__EN p.val) = true ∧ speed.val ≠ 0 ∧ 2 ≤ s.get PWR_STATE__STATE ∧ s.on PWR_STATE__DESCENDING = false) ∧
    (∃ (s : State) (p speed : Fin 4), ((s.port p.val).training = false ∨ (s.port p.val).perst = true ∨ s.on (HP_CFG__EN p.val) = false ∨ speed.val = 0 ∨ s.get PWR_STATE__STATE < 2 ∨ s.on PWR_STATE__DESCENDING = true)) ∧
    (∃ (s : State) (p : Fin 4), s.on (HP_LINK__UP p.val) = true) ∧
    (∃ (s : State) (p : Fin 4) (a : Fin 8), s.on (HP_LINK__UP p.val) = true ∧ s.axOwner a.val = p.val ∧ s.get (HP_OWN_AX__LOSS_ACT a.val) = 2 ∧ 1 ≤ s.axState a.val ∧ s.axState a.val ≤ 4) ∧
    (∃ (s : State) (p : Fin 4) (c : Fin 256), s.on (HP_LINK__UP p.val) = true ∧ s.ctxOwner c.val = p.val ∧ s.on (HP_CTX_CTRL__EN c.val) = true ∧ s.ctxPhase c.val ≠ 7) ∧
    (∃ (s : State) (p : Fin 4) (kind : LossKind), s.on (HP_LINK__UP p.val) = false ∧ kind ≠ .perst) ∧
    (∃ (s : State) (p : Fin 4), (s.port p.val).perst = true) ∧
    (∃ (s : State) (p : Fin 4), (s.port p.val).perst = false) :=
  ⟨⟨((awake State.reset).putB (HP_CFG__EN 1) true).upPort 1 fun q => { q with training := true, perst := false }, 1, 3, by decide +kernel⟩,
   ⟨State.reset, 1, 0, by decide +kernel⟩,
   ⟨hostUp 1 State.reset, 1, by decide +kernel⟩,
   ⟨((ownAx 1 3 State.reset).put (HP_OWN_AX__LOSS_ACT 3) 2).put (AX_STATE__STATE 3) 3, 1, 3, by decide +kernel⟩,
   ⟨(ownCtx 1 9 State.reset).putB (HP_CTX_CTRL__EN 9) true, 1, 9, by decide +kernel⟩,
   ⟨State.reset, 1, .linkDown, by decide +kernel⟩,
   ⟨State.reset.upPort 1 fun q => { q with perst := true }, 1, by decide +kernel⟩,
   ⟨State.reset, 1, by decide +kernel⟩⟩

/-- States and operands that meet the conditions of StewardshipTransfer. -/
theorem witness_StewardshipTransfer :
    (∃ (s : State) (p : Fin 4) (g : Fin 4), s.may (.host p) HP_STEWARD_XFER (BitVec.ofNat 32 (g.val + 256)) = true ∧ s.on (HP_LINK__UP g.val) = true ∧ s.on HP_STEWARD__XFER_PENDING = false) ∧
    (∃ (s : State) (p : Fin 4) (g : Fin 4), s.may (.host p) HP_STEWARD_XFER (BitVec.ofNat 32 (g.val + 256)) = true ∧ s.on (HP_LINK__UP g.val) = true ∧ s.on HP_STEWARD__XFER_PENDING = true ∧ s.vqHas 160 = false) ∧
    (∃ (s : State) (p : Fin 4) (g : Fin 4), s.portTakes p.val = true ∧ (s.port p.val).mse = true ∧ s.accessWaits false HP_STEWARD_XFER = false ∧ s.writeReason (.host p) false HP_STEWARD_XFER = 0 ∧ s.on (HP_LINK__UP g.val) = false ∧ s.on (HP_DENY_INFO__VALID p.val) = false) ∧
    (∃ (s : State) (p : Fin 4) (g : Fin 4), s.may (.host p) HP_STEWARD_XFER (BitVec.ofNat 32 g.val) = true) ∧
    (∃ (s : State) (p : Fin 4), s.may (.host p) HP_STEWARD_ACCEPT 1 = true ∧ s.on HP_STEWARD__XFER_PENDING = true ∧ s.vqHas 160 = false ∧ s.vqFull = false) ∧
    (∃ (s : State) (p : Fin 4), s.may (.host p) HP_STEWARD_ACCEPT 0 = true) ∧
    (∃ (s : State), s.on HP_STEWARD__XFER_PENDING = true ∧ s.vqHas 160 = false) ∧
    (∃ (s : State), (s.on HP_STEWARD__XFER_PENDING = false ∨ s.vqHas 160 = true)) ∧
    (∃ (s : State) (n : Fin 5) (code : BitVec 4), s.runner = some n ∧ s.may (.firmware n) HP_STEWARD (code.setWidth 32) = true ∧ s.vqFull = false) ∧
    (∃ (s : State), s.runner = none) :=
  ⟨⟨(((stew 1 State.reset).putB (HP_LINK__UP 2) true).putB HP_STEWARD__XFER_PENDING false), 1, 2, by decide +kernel⟩,
   ⟨((stew 1 State.reset).putB (HP_LINK__UP 2) true).putB HP_STEWARD__XFER_PENDING true, 1, 2, by decide +kernel⟩,
   ⟨(stew 1 State.reset).putB (HP_LINK__UP 2) true, 1, 3, by decide +kernel⟩,
   ⟨((stew 1 State.reset).putB (HP_LINK__UP 2) true), 1, 2, by decide +kernel⟩,
   ⟨{ (((stew 2 State.reset |> hostUp 1).putB HP_STEWARD__XFER_PENDING true).put HP_STEWARD__XFER_TARGET 1) with vq := [{ word := 161, value := 3 }] }, 1, by decide +kernel⟩,
   ⟨{ (((stew 2 State.reset |> hostUp 1).putB HP_STEWARD__XFER_PENDING true).put HP_STEWARD__XFER_TARGET 1) with vq := [{ word := 161, value := 3 }] }, 1, by decide +kernel⟩,
   ⟨{ (State.reset.putB HP_STEWARD__XFER_PENDING true) with vq := [] }, by decide +kernel⟩,
   ⟨State.reset, by decide +kernel⟩,
   ⟨{ (runs 0 State.reset).put HP_STEWARD__STEWARD 8 with vq := [] }, 0, 3, by decide +kernel⟩,
   ⟨State.reset.put (RED_CP_STAT__STATE 0) 7, by decide +kernel⟩⟩

/-- States and operands that meet the conditions of OwnershipCommits. -/
theorem witness_OwnershipCommits :
    (∃ (s : State) (p : Fin 4) (a : BitVec 20) (w : Nat) (v : Word), s.may (.host p) a.toNat v = true ∧ ownTableAddr a.toNat = true ∧ vaultWord a.toNat = some w ∧ s.vqFull = false ∧ (s.vq = [] → (s.ctxChanges { word := w, value := v &&& pvMask a.toNat, ctx := none }).all (fun k => (s.ctx k).exec = none) = true)) ∧
    (∃ (s : State) (p : Fin 4) (a : BitVec 20) (w : Nat) (k : Nat) (v : Word), s.may (.host p) a.toNat v = true ∧ ownTableAddr a.toNat = true ∧ vaultWord a.toNat = some w ∧ s.vq = [] ∧ s.vheld = [] ∧ k ∈ s.ctxChanges { word := w, value := v &&& pvMask a.toNat, ctx := none } ∧ (s.ctx k).exec.isSome = true) ∧
    (∃ (s : State) (c : VCommit) (a : Nat), s.vq = [c] ∧ ownWord c.word = true ∧ vaultAddr c.word = some a ∧ c.cal = false ∧ s.vheld = [] ∧ s.sys.held = []) ∧
    (∃ (s : State) (c : VCommit) (a : Nat), s.vq = [c] ∧ ownWord c.word = true ∧ vaultAddr c.word = some a ∧ s.vheld = [] ∧ s.sys.held = []) ∧
    (∃ (s : State), (s.vq.head?.any fun c => ownWord c.word) = false) :=
  ⟨⟨stew 1 State.reset, 1, 0x102C, 167, 0x1, by decide +kernel⟩,
   ⟨execd 9 [0] 0 (stew 1 State.reset), 1, 0x1044, 173, 9, 0x10, by decide +kernel⟩,
   ⟨{ State.reset with vq := [{ word := 167, value := 1 }] }, { word := 167, value := 1 }, 0x102C, by decide +kernel⟩,
   ⟨{ State.reset with vq := [{ word := 167, value := 1 }] }, { word := 167, value := 1 }, 0x102C, by decide +kernel⟩,
   ⟨State.reset, by decide +kernel⟩⟩

/-- States and operands that meet the conditions of AccessesThatAreRefused. -/
theorem witness_AccessesThatAreRefused :
    (∃ (s : State) (p : Fin 4), s.on (HP_LINK__UP p.val) = false) ∧
    (∃ (s : State) (p : Fin 4), s.on (HP_LINK__UP p.val) = true ∧ s.get PWR_STATE__STATE < 2) ∧
    (∃ (s : State) (p : Fin 4), s.on (HP_LINK__UP p.val) = true ∧ s.get PWR_STATE__STATE < 2) ∧
    (∃ (s : State) (p : Fin 4), s.portTakes p.val = false ∧ 2 ≤ s.get PWR_STATE__STATE) ∧
    (∃ (s : State) (p : Fin 4), s.portTakes p.val = false ∧ 2 ≤ s.get PWR_STATE__STATE) ∧
    (∃ (s : State) (p : Fin 4), s.portTakes p.val = true ∧ 2 ≤ s.get PWR_STATE__STATE ∧ (s.port p.val).mse = false) ∧
    (∃ (s : State) (p : Fin 4), s.portTakes p.val = true ∧ 2 ≤ s.get PWR_STATE__STATE ∧ (s.port p.val).mse = false) ∧
    (∃ (s : State) (p : Fin 4), s.portTakes p.val = true ∧ 2 ≤ s.get PWR_STATE__STATE ∧ (s.port p.val).mse = true) ∧
    (∃ (s : State) (p : Fin 4), s.portTakes p.val = true ∧ 2 ≤ s.get PWR_STATE__STATE ∧ (s.port p.val).mse = true ∧ s.on (HP_DENY_INFO__VALID p.val) = false) ∧
    (∃ (s : State) (p : Fin 4), s.portTakes p.val = true ∧ 2 ≤ s.get PWR_STATE__STATE ∧ (s.port p.val).mse = true ∧ s.on (HP_DENY_INFO__VALID p.val) = true) ∧
    (∃ (s : State) (p : Fin 4) (bar2 : Bool) (a : BitVec 20) (k : Nat), s.portTakes p.val = true ∧ (s.port p.val).mse = true ∧ s.accessWaits bar2 a.toNat = false ∧ a.toNat % 4 = 0 ∧ s.writeReason (.host p) bar2 a.toNat = k ∧ k ≠ 0 ∧ k ≠ quietDrop ∧ s.on (HP_DENY_INFO__VALID p.val) = false) ∧
    (∃ (s : State) (p : Fin 4) (bar2 : Bool) (a : BitVec 20), s.portTakes p.val = true ∧ (s.port p.val).mse = true ∧ s.accessWaits bar2 a.toNat = false ∧ s.writeReason (.host p) bar2 a.toNat = quietDrop) ∧
    (∃ (s : State) (p : Fin 4), s.portTakes p.val = true ∧ (s.port p.val).mse = true ∧ 2 ≤ s.get PWR_STATE__STATE ∧ s.sys.released = true ∧ s.on (HP_CFG__RO_PORT p.val) = false ∧ s.steward ≠ p.val ∧ s.on (HP_DENY_INFO__VALID p.val) = false) :=
  ⟨⟨State.reset, 1, by decide +kernel⟩,
   ⟨(hostUp 1 State.reset).put PWR_STATE__STATE 1, 1, by decide +kernel⟩,
   ⟨(hostUp 1 State.reset).put PWR_STATE__STATE 1, 1, by decide +kernel⟩,
   ⟨(hostUp 1 State.reset).put (HP_LINK__DSTATE 1) 3, 1, by decide +kernel⟩,
   ⟨(hostUp 1 State.reset).put (HP_LINK__DSTATE 1) 3, 1, by decide +kernel⟩,
   ⟨(hostUp 1 State.reset).upPort 1 fun q => { q with mse := false }, 1, by decide +kernel⟩,
   ⟨(hostUp 1 State.reset).upPort 1 fun q => { q with mse := false }, 1, by decide +kernel⟩,
   ⟨hostUp 1 State.reset, 1, by decide +kernel⟩,
   ⟨hostUp 1 State.reset, 1, by decide +kernel⟩,
   ⟨(hostUp 1 State.reset).putB (HP_DENY_INFO__VALID 1) true, 1, by decide +kernel⟩,
   ⟨hostUp 1 State.reset, 1, false, 0x2028, 2, by decide +kernel⟩,
   ⟨(hostUp 1 State.reset).upSys fun y => { y with released := false }, 1, false, 0x10044, by decide +kernel⟩,
   ⟨(stew 2 State.reset |> hostUp 1).putB (HP_DENY_INFO__VALID 1) false, 1, by decide +kernel⟩⟩

/-- States and operands that meet the conditions of RegisterWrites. -/
theorem witness_RegisterWrites :
    (∃ (s : State) (p : Fin 4) (a : Fin 8) (v : Word), s.may (.host p) (0x10044 + 0x1000 * a.val) v = true) ∧
    (∃ (s : State) (p : Fin 4) (bar2 : Bool) (a : BitVec 20) (be : BitVec 4), s.portTakes p.val = true ∧ (s.port p.val).mse = true ∧ s.accessWaits bar2 a.toNat = false ∧ be ≠ 0xF) ∧
    (∃ (s : State) (n : Fin 5) (a : BitVec 20), s.pairRuns n.val = true ∧ a.toNat % 4 = 0 ∧ pairCtrlAddr a.toNat = false ∧ (s.cp n.val).kgrp = false ∧ (s.cp n.val).buf.length + (s.cp n.val).grp.length < 64) ∧
    (∃ (s : State) (n : Fin 5) (a : BitVec 20), s.pairRuns n.val = true ∧ a.toNat % 4 = 0 ∧ (s.cp n.val).kgrp = true ∧ (s.cp n.val).grp.length < 63 ∧ (s.cp n.val).buf.length + (s.cp n.val).grp.length < 64 ∧ (∀ c : Fin 256, a.toNat ≠ HP_CTX_LEDGER1 c.val) ∧ pairCtrlAddr a.toNat = false) ∧
    (∃ (s : State) (n : Fin 5), s.pairRuns n.val = true ∧ (s.cp n.val).kgrp = true ∧ (s.cp n.val).grp.length < 63 ∧ (s.cp n.val).buf.length + (s.cp n.val).grp.length < 64) ∧
    (∃ (s : State) (n : Fin 5) (a : BitVec 20), s.pairRuns n.val = true ∧ a.toNat % 4 = 0 ∧ pairCtrlAddr a.toNat = false ∧ (s.cp n.val).kgrp = true ∧ 63 ≤ (s.cp n.val).grp.length) ∧
    (∃ (s : State) (n : Fin 5) (a : BitVec 20) (x : BitVec 22) (y : Word), s.pairRuns n.val = true ∧ a.toNat % 4 = 0 ∧ pairCtrlAddr a.toNat = false ∧ (s.cp n.val).kgrp = false ∧ (s.cp n.val).grp = [] ∧ (s.cp n.val).buf = List.replicate 64 (.sram (x.toNat / 4 * 4) 0xF y)) ∧
    (∃ (s : State) (n : Fin 5) (x : BitVec 22), s.pairRuns n.val = true ∧ x.toNat < 0x300000 ∧ (s.cp n.val).kgrp = false ∧ (s.cp n.val).buf.length + (s.cp n.val).grp.length < 64) ∧
    (∃ (s : State) (n : Fin 5), s.pairRuns n.val = true ∧ (s.cp n.val).kgrp = false ∧ (s.cp n.val).buf.length + (s.cp n.val).grp.length < 64) ∧
    (∃ (s : State) (n : Fin 5) (x : BitVec 22), s.pairRuns n.val = true ∧ 0x300000 ≤ x.toNat) ∧
    (∃ (s : State) (n : Fin 5) (m : Fin 5), s.pairRuns n.val = true ∧ (s.cp n.val).kgrp = false ∧ (s.cp n.val).buf = [] ∧ (s.cp n.val).first = false ∧ m ≠ n) ∧
    (∃ (s : State) (n : Fin 5), s.pairRuns n.val = false) ∧
    (∃ (s : State) (n : Fin 5) (bar2 : Bool) (a : BitVec 20) (be : BitVec 4), (s.pairRuns n.val = false ∨ bar2 = true ∨ be ≠ 0xF ∨ a.toNat % 4 ≠ 0)) :=
  ⟨⟨ownAx 1 3 State.reset, 1, 3, 0x1234, by decide +kernel⟩,
   ⟨hostUp 1 State.reset, 1, false, 0x10044, 7, by decide +kernel⟩,
   ⟨runs 2 State.reset, 2, 0x10044, by decide +kernel⟩,
   ⟨(runs 2 State.reset).upCp 2 fun x => { x with kgrp := true, buf := [.reg 4 1], grp := List.replicate 3 (.reg 8 2) }, 2, 0x10044, by decide +kernel⟩,
   ⟨(runs 2 State.reset).upCp 2 fun x => { x with kgrp := true, buf := [.reg 4 1], grp := List.replicate 3 (.reg 8 2) }, 2, by decide +kernel⟩,
   ⟨(runs 2 State.reset).upCp 2 fun x => { x with kgrp := true, grp := List.replicate 63 (.reg 8 2) }, 2, 0x10044, by decide +kernel⟩,
   ⟨(runs 2 State.reset).upCp 2 fun x => { x with buf := List.replicate 64 (.sram 0x1000 0xF 7) }, 2, 0x10044, 0x1000, 7, by decide +kernel⟩,
   ⟨runs 2 State.reset, 2, 0x1001, by decide +kernel⟩,
   ⟨runs 2 State.reset, 2, by decide +kernel⟩,
   ⟨runs 2 State.reset, 2, 0x300000, by decide +kernel⟩,
   ⟨runs 2 State.reset, 2, 3, by decide +kernel⟩,
   ⟨State.reset.put (RED_CP_STAT__STATE 2) 7, 2, by decide +kernel⟩,
   ⟨runs 2 State.reset, 2, false, 0x10045, 15, by decide +kernel⟩⟩

/-- States and operands that meet the conditions of DescriptorRings. -/
theorem witness_DescriptorRings :
    (∃ (s : State) (p : Fin 4) (c : Fin 256) (v : Word) (d : Nat), s.mayPage p (0x1000 * c.val) = true ∧ d = v.toNat % 4096 % s.ctxSize c.val ∧ ((d + s.ctxSize c.val - s.ctxHead c.val % s.ctxSize c.val) % s.ctxSize c.val ≠ 0 ∨ (s.ctx c.val).exec = none ∧ (s.ctx c.val).known = none ∧ (s.ctx c.val).reading = false)) ∧
    (∃ (s : State) (p : Fin 4) (c : Fin 256) (v : Word), s.mayPage p (0x1000 * c.val) = true ∧ (v.toNat % 4096 % s.ctxSize c.val + s.ctxSize c.val - s.ctxHead c.val % s.ctxSize c.val) % s.ctxSize c.val = 0 ∧ ((s.ctx c.val).exec ≠ none ∨ (s.ctx c.val).known ≠ none ∨ (s.ctx c.val).reading = true)) ∧
    (∃ (s : State) (c : Fin 256) (l : Vector Word 8), (s.ctx c.val).reading = true ∧ s.ctxPhase c.val = 1 ∧ fieldGet (dword l.toList 0) 31 1 = 1) ∧
    (∃ (s : State) (c : Fin 256) (l : Vector Word 8), (s.ctx c.val).reading = true ∧ s.ctxPhase c.val = 1 ∧ fieldGet (dword l.toList 0) 31 1 = 0) ∧
    (∃ (s : State) (c : Fin 256), (s.ctx c.val).reading = true ∧ s.ctxPhase c.val = 1) ∧
    (∃ (s : State) (c : Fin 256), (s.ctx c.val).reading = true ∧ s.ctxPhase c.val ≠ 1) ∧
    (∃ (s : State) (c : Fin 256), (s.ctx c.val).reading = false) ∧
    (∃ (s : State) (c : Fin 256) (l : List Word), s.coreClk = true ∧ s.backlogged c.val = true ∧ s.sys.drr = c.val ∧ s.sys.drrOpen = true ∧ (s.ctx c.val).known = some l ∧ s.nextCost c.val ≤ (s.ctx c.val).deficit ∧ s.startCheck (s.ctxOwner c.val) l = none) ∧
    (∃ (s : State) (c : Fin 256) (l : List Word) (code : Nat) (detail : Nat) (rec : Bool), s.coreClk = true ∧ s.backlogged c.val = true ∧ s.sys.drr = c.val ∧ s.sys.drrOpen = true ∧ (s.ctx c.val).known = some l ∧ s.nextCost c.val ≤ (s.ctx c.val).deficit ∧ s.startCheck (s.ctxOwner c.val) l = some (code, detail, rec)) ∧
    (∃ (s : State) (c : Fin 256) (l : List Word), s.coreClk = true ∧ s.sys.drrOpen = true ∧ s.sys.drr < 256 ∧ (s.backlogged s.sys.drr = false ∨ (s.ctx s.sys.drr).deficit < s.nextCost s.sys.drr) ∧ s.backlogged c.val = true ∧ (∀ b : Fin 256, s.backlogged b.val = true → b ≠ c → (c.val + 255 - s.sys.drr) % 256 < (b.val + 255 - s.sys.drr) % 256) ∧ (s.ctx c.val).known = some l ∧ s.nextCost c.val ≤ (s.ctx c.val).deficit + s.get (HP_CTX_CFG__WEIGHT_M1 c.val) + 1) ∧
    (∃ (s : State), s.coreClk = true ∧ (∀ c : Fin 256, s.backlogged c.val = false)) ∧
    (∃ (s : State), s.coreClk = false) ∧
    (∃ (s : State) (c : Fin 256), (s.ctx c.val).above = true ∧ s.get (HP_CTX_SAT__SAT_TIME c.val) ≠ 0 ∧ s.on (HP_CTX_STATE__SATURATED c.val) = false) ∧
    (∃ (s : State) (c : Fin 256), ((s.ctx c.val).above = false ∨ s.get (HP_CTX_SAT__SAT_TIME c.val) = 0 ∨ s.on (HP_CTX_STATE__SATURATED c.val) = true)) :=
  ⟨⟨(ownCtx 1 9 State.reset).put (HP_CTX_CFG__SIZE_LOG2 9) 4 |>.setCtx 9 {}, 1, 9, 5, 5, by decide +kernel⟩,
   ⟨((execd 9 [0,0] 0 (ownCtx 1 9 State.reset)).put (HP_CTX_CFG__SIZE_LOG2 9) 4).put (HP_CTX_STATE__HEAD 9) 3, 1, 9, 3, by decide +kernel⟩,
   ⟨(State.reset.put (HP_CTX_STATE__PHASE 9) 1).setCtx 9 { reading := true }, 9, #v[0x80000000,0,0,0,0,0,0,0], by decide +kernel⟩,
   ⟨(State.reset.put (HP_CTX_STATE__PHASE 9) 1).setCtx 9 { reading := true }, 9, #v[0,0,0,0,0,0,0,0], by decide +kernel⟩,
   ⟨(State.reset.put (HP_CTX_STATE__PHASE 9) 1).setCtx 9 { reading := true }, 9, by decide +kernel⟩,
   ⟨(State.reset.put (HP_CTX_STATE__PHASE 9) 6).setCtx 9 { reading := true }, 9, by decide +kernel⟩,
   ⟨State.reset, 9, by decide +kernel⟩,
   ⟨(fun s => ((awake s).put (HP_CTX_STATE__PHASE 9) 2 |>.putB (HP_CTX_CTRL__EN 9) true |>.put (HP_CTX_CFG__SIZE_LOG2 9) 4 |>.put (HP_CTX_STATE__TAIL 9) 3 |>.put (HP_OWN_CTX__OWNER 1 1) 1).upSys fun y => { y with drr := 9, drrOpen := true }) State.reset |>.upCtx 9 fun x => { x with known := some [0x80000000], deficit := 2 }, 9, [0x80000000], by decide +kernel⟩,
   ⟨(fun s => ((awake s).put (HP_CTX_STATE__PHASE 9) 2 |>.putB (HP_CTX_CTRL__EN 9) true |>.put (HP_CTX_CFG__SIZE_LOG2 9) 4 |>.put (HP_CTX_STATE__TAIL 9) 3 |>.put (HP_OWN_CTX__OWNER 1 1) 1).upSys fun y => { y with drr := 9, drrOpen := true }) State.reset |>.upCtx 9 fun x => { x with known := some [0x80990000], deficit := 2 }, 9, [0x80990000], 2, 0, false, by decide +kernel⟩,
   ⟨(fun s => ((awake s).put (HP_CTX_STATE__PHASE 9) 2 |>.putB (HP_CTX_CTRL__EN 9) true |>.put (HP_CTX_CFG__SIZE_LOG2 9) 4 |>.put (HP_CTX_STATE__TAIL 9) 3 |>.put (HP_OWN_CTX__OWNER 1 1) 1).upSys fun y => { y with drr := 200, drrOpen := true }) State.reset |>.upCtx 9 fun x => { x with known := some [0x80000000], deficit := 0 }, 9, [0x80000000], by decide +kernel⟩,
   ⟨awake State.reset, by decide +kernel⟩,
   ⟨State.reset.putB CLK_STATUS__PLLA_LOCK false, by decide +kernel⟩,
   ⟨((State.reset.put (HP_CTX_SAT__SAT_TIME 9) 5).putB (HP_CTX_STATE__SATURATED 9) false).setCtx 9 { above := true }, 9, by decide +kernel⟩,
   ⟨State.reset.setCtx 9 {}, 9, by decide +kernel⟩⟩

/-- States and operands that meet the conditions of ContextControl. -/
theorem witness_ContextControl :
    (∃ (s : State) (w : Writer) (c : Fin 256), s.get (HP_CTX_CTRL__EN c.val) = 1 ∧ s.may w (HP_CTX_CTRL c.val) 3 = true ∧ s.ctxPhase c.val ≠ 7 ∧ (s.ctx c.val).stop = 0) ∧
    (∃ (s : State) (w : Writer) (c : Fin 256), s.get (HP_CTX_CTRL__EN c.val) = 1 ∧ s.may w (HP_CTX_CTRL c.val) 3 = true ∧ (s.ctxPhase c.val = 7 ∨ s.ctxPhase c.val = 6 ∧ (s.ctx c.val).stop ≠ 0)) ∧
    (∃ (s : State) (c : Fin 256), (s.ctx c.val).stop ≠ 0 ∧ (s.ctx c.val).exec = none ∧ s.coreClk = true) ∧
    (∃ (s : State) (c : Fin 256) (e : ExecS) (code : Nat) (detail : Nat) (ends : Bool), (s.ctx c.val).stop ≠ 0 ∧ (s.ctx c.val).exec = some e ∧ s.coreClk = true ∧ s.descOutcome c.val e = some (code, detail, ends) ∧ s.get (HP_CTX_CFG__SIZE_LOG2 c.val) ≤ 12) ∧
    (∃ (s : State) (c : Fin 256) (e : ExecS), (s.ctx c.val).exec = some e ∧ s.descOutcome c.val e = none) ∧
    (∃ (s : State) (c : Fin 256), ((s.ctx c.val).stop = 0 ∨ s.coreClk = false)) ∧
    (∃ (s : State) (c : Nat) (e : ExecS), (s.ctx c).stop ≠ 0 ∧ e.done = none ∧ e.flush = 0 ∧ (∀ v ∈ s.vq, v.ctx ≠ some c) ∧ (s.stepComing c e = false ∨ (s.ctx c).stopAt < s.get (HP_CTX_LEDGER1__STEPS c))) ∧
    (∃ (s : State) (w : Writer) (c : Fin 256), s.get (HP_CTX_CTRL__EN c.val) = 1 ∧ s.may w (HP_CTX_CTRL c.val) 5 = true ∧ s.ctxPhase c.val = 7) ∧
    (∃ (s : State) (w : Writer) (c : Fin 256), s.get (HP_CTX_CTRL__EN c.val) = 1 ∧ s.may w (HP_CTX_CTRL c.val) 5 = true ∧ s.ctxPhase c.val ≠ 7) ∧
    (∃ (s : State) (w : Writer) (c : Fin 256), s.may w (HP_CTX_CTRL c.val) (BitVec.ofNat 32 (s.get (HP_CTX_CTRL__EN c.val) + 8)) = true ∧ (s.ctxPhase c.val = 0 ∨ s.ctxPhase c.val = 7) ∧ (s.ctx c.val).exec = none) ∧
    (∃ (s : State) (w : Writer) (c : Fin 256), s.may w (HP_CTX_CTRL c.val) (BitVec.ofNat 32 (s.get (HP_CTX_CTRL__EN c.val) + 8)) = true ∧ (s.ctxPhase c.val ≠ 0 ∧ s.ctxPhase c.val ≠ 7 ∨ (s.ctx c.val).exec ≠ none)) ∧
    (∃ (s : State) (c : Fin 256) (e : ExecS) (code : Nat) (detail : Nat), s.coreClk = true ∧ (s.ctx c.val).exec = some e ∧ e.done = some (code, detail) ∧ code ≠ 6 ∧ (code ≠ 5 ∨ (s.ctx c.val).stop ≠ 3) ∧ s.get (HP_CTX_CFG__SIZE_LOG2 c.val) ≤ 12) ∧
    (∃ (s : State) (c : Fin 256), (s.ctx c.val).stop = 0 ∧ (s.ctx c.val).exec.bind (·.done) = none) ∧
    (∃ (s : State) (c : Fin 256) (e : ExecS), (s.ctx c.val).exec = some e ∧ e.flush ≠ 0 ∧ e.done = none ∧ opOf (dword e.words 0) = 0x30) ∧
    (∃ (s : State) (c : Fin 256) (e : ExecS), (s.ctx c.val).exec = some e ∧ e.flush ≠ 0 ∧ e.done = none ∧ opOf (dword e.words 0) = 0x31 ∧ s.get (HP_CTX_LEDGER1__STEPS c.val) + e.flush < 2 ^ 24) ∧
    (∃ (s : State) (c : Fin 256) (e : ExecS), (s.ctx c.val).exec = some e ∧ e.flush ≠ 0 ∧ e.done = none ∧ opOf (dword e.words 0) = 0x71) ∧
    (∃ (s : State) (c : Fin 256) (e : ExecS), (s.ctx c.val).exec = some e ∧ e.flush ≠ 0 ∧ e.done = none) ∧
    (∃ (s : State) (c : Fin 256) (e : ExecS), (s.ctx c.val).exec = some e ∧ (e.flush = 0 ∨ e.done ≠ none)) :=
  ⟨⟨((ownCtx 1 9 State.reset).putB (HP_CTX_CTRL__EN 9) true).put (HP_CTX_STATE__PHASE 9) 2, .host 1, 9, by decide +kernel⟩,
   ⟨((ownCtx 1 9 State.reset).putB (HP_CTX_CTRL__EN 9) true).put (HP_CTX_STATE__PHASE 9) 7, .host 1, 9, by decide +kernel⟩,
   ⟨awake (State.reset.setCtx 9 { stop := 1 }), 9, by decide +kernel⟩,
   ⟨(awake (State.reset.put (HP_CTX_CFG__SIZE_LOG2 9) 4)).upCtx 9 fun x => { x with stop := 1, exec := some { words := [0x80110000, 3], phase := 1, port := 1 } }, 9, { words := [0x80110000, 3], phase := 1, port := 1 }, 6, 1, false, by decide +kernel⟩,
   ⟨(State.reset).upCtx 9 fun x => { x with stop := 1, exec := some { words := [0x80000000], phase := 0, port := 1 } }, 9, { words := [0x80000000], phase := 0, port := 1 }, by decide +kernel⟩,
   ⟨State.reset.setCtx 9 {}, 9, by decide +kernel⟩,
   ⟨State.reset.setCtx 9 { stop := 1 }, 9, { words := [0x80110000, 3], phase := 1, port := 1 }, by decide +kernel⟩,
   ⟨((ownCtx 1 9 State.reset).putB (HP_CTX_CTRL__EN 9) true).put (HP_CTX_STATE__PHASE 9) 7, .host 1, 9, by decide +kernel⟩,
   ⟨((ownCtx 1 9 State.reset).putB (HP_CTX_CTRL__EN 9) true).put (HP_CTX_STATE__PHASE 9) 2, .host 1, 9, by decide +kernel⟩,
   ⟨((ownCtx 1 9 State.reset).putB (HP_CTX_CTRL__EN 9) true).put (HP_CTX_STATE__PHASE 9) 7, .host 1, 9, by decide +kernel⟩,
   ⟨((ownCtx 1 9 State.reset).putB (HP_CTX_CTRL__EN 9) true).put (HP_CTX_STATE__PHASE 9) 2, .host 1, 9, by decide +kernel⟩,
   ⟨(awake (State.reset.put (HP_CTX_CFG__SIZE_LOG2 9) 4)).upCtx 9 fun x => { x with exec := some { words := [0x80000000], done := some (5, 0) } }, 9, { words := [0x80000000], done := some (5, 0) }, 5, 0, by decide +kernel⟩,
   ⟨State.reset.setCtx 9 {}, 9, by decide +kernel⟩,
   ⟨State.reset.setCtx 9 { exec := some { words := [0x80300000], flush := 1 } }, 9, { words := [0x80300000], flush := 1 }, by decide +kernel⟩,
   ⟨State.reset.setCtx 9 { exec := some { words := [0x80310000, 9], flush := 2 } }, 9, { words := [0x80310000, 9], flush := 2 }, by decide +kernel⟩,
   ⟨State.reset.setCtx 9 { exec := some { words := [0x80710000], flush := 1, phase := 1 } }, 9, { words := [0x80710000], flush := 1, phase := 1 }, by decide +kernel⟩,
   ⟨State.reset.setCtx 9 { exec := some { words := [0x80300000], flush := 1 } }, 9, { words := [0x80300000], flush := 1 }, by decide +kernel⟩,
   ⟨State.reset.setCtx 9 { exec := some {} }, 9, {}, by decide +kernel⟩⟩

/-- States and operands that meet the conditions of ShortOpcodes. -/
theorem witness_ShortOpcodes :
    (∃ (s : State) (c : Fin 256) (e : ExecS), s.running c.val 0x00 = some e) ∧
    (∃ (s : State) (c : Fin 256) (e : ExecS), s.running c.val 0x60 = some e) ∧
    (∃ (s : State) (c : Fin 256) (e : ExecS) (a : Fin 8), s.running c.val 0x10 = some e ∧ unitOf (dword e.words 0) = a.val ∧ s.ss1Locks a.val = false) ∧
    (∃ (s : State) (c : Fin 256) (e : ExecS), s.running c.val 0x10 = some e ∧ s.ss1Locks (unitOf (dword e.words 0)) = true) ∧
    (∃ (s : State) (p : Fin 4) (c : Fin 256) (a : Fin 8), s.mayPage p (0x1000 * c.val + 0x800 + 4 * a.val) = true ∧ s.ss1Locks a.val = false) ∧
    (∃ (s : State) (c : Fin 256) (e : ExecS) (a : Fin 8), s.running c.val 0x11 = some e ∧ e.phase = 0 ∧ unitOf (dword e.words 0) = a.val ∧ (s.ax a.val).req = none ∧ s.on (AX_STATE__CLOSING a.val) = false ∧ s.axState a.val < 6 ∧ (s.axState a.val ≠ 0 ∨ s.on RED_STATUS__DSAFE = false) ∧ fieldGet (dword e.words 1) 0 4 = s.axState a.val) ∧
    (∃ (s : State) (c : Fin 256) (e : ExecS) (a : Fin 8), s.running c.val 0x11 = some e ∧ e.phase = 0 ∧ unitOf (dword e.words 0) = a.val ∧ 6 ≤ fieldGet (dword e.words 1) 0 4) ∧
    (∃ (s : State) (c : Fin 256) (e : ExecS) (a : Fin 8), s.running c.val 0x11 = some e ∧ e.phase = 0 ∧ unitOf (dword e.words 0) = a.val ∧ fieldGet (dword e.words 1) 0 4 < 6 ∧ (s.axState a.val ≠ 0 ∨ s.on RED_STATUS__DSAFE = false) ∧ ((s.ax a.val).req ≠ none ∨ s.on (AX_STATE__CLOSING a.val) = true)) ∧
    (∃ (s : State) (c : Fin 256) (e : ExecS) (a : Fin 8), s.running c.val 0x11 = some e ∧ e.phase = 0 ∧ unitOf (dword e.words 0) = a.val ∧ s.axState a.val = 0 ∧ s.on RED_STATUS__DSAFE = true) ∧
    (∃ (s : State) (c : Fin 256) (e : ExecS) (a : Fin 8), s.running c.val 0x11 = some e ∧ e.phase = 0 ∧ unitOf (dword e.words 0) = a.val ∧ fieldGet (dword e.words 1) 0 4 = 4 ∧ s.axState a.val = 3 ∧ (s.ax a.val).req = none ∧ s.on (AX_STATE__CLOSING a.val) = false ∧ (s.tm a.val).recov = 0 ∧ s.on (SAF_AX_STAT__SS1 a.val) = false) ∧
    (∃ (s : State) (c : Fin 256) (e : ExecS), s.running c.val 0x70 = some e ∧ e.phase = 0 ∧ s.commandPair = true) ∧
    (∃ (s : State) (c : Fin 256) (e : ExecS), s.running c.val 0x71 = some e ∧ s.commandPair = true ∧ e.phase = 0) ∧
    (∃ (s : State) (c : Fin 256) (e : ExecS), s.running c.val 0x71 = some e ∧ s.commandPair = true ∧ e.phase ≠ 0 ∧ e.flush = 0) ∧
    (∃ (s : State) (c : Fin 256) (e : ExecS), s.running c.val 0x71 = some e ∧ s.commandPair = true ∧ e.phase ≠ 0 ∧ e.flush = 0 ∧ (s.ctx c.val).stop ≠ 3 ∧ s.readGo e.port = true) ∧
    (∃ (s : State) (c : Fin 256) (e : ExecS), s.running c.val 0x71 = some e ∧ s.commandPair = true ∧ e.phase ≠ 0 ∧ e.flush = 0 ∧ (s.ctx c.val).stop = 3) ∧
    (∃ (s : State) (c : Fin 256) (e : ExecS), (s.ctx c.val).exec = some e ∧ (s.ctx c.val).stop ≠ 3 ∧ s.readGo e.port = false) ∧
    (∃ (s : State) (c : Fin 256) (e : ExecS), s.running c.val 0x71 = some e ∧ s.commandPair = true ∧ e.flush = 0) ∧
    (∃ (s : State) (c : Fin 256) (e : ExecS), s.running c.val 0x72 = some e ∧ e.phase = 0 ∧ s.commandPair = true ∧ s.on RED_SVC_STAT__BUSY = false ∧ svcOk (fieldGet (dword e.words 1) 0 8) (fieldGet (dword e.words 2) 0 4) (fieldGet (dword e.words 3) 0 16) = true) ∧
    (∃ (s : State) (c : Fin 256) (e : ExecS), s.running c.val 0x72 = some e ∧ e.phase = 0 ∧ s.commandPair = true ∧ s.on RED_SVC_STAT__BUSY = false ∧ svcOk (fieldGet (dword e.words 1) 0 8) (fieldGet (dword e.words 2) 0 4) (fieldGet (dword e.words 3) 0 16) = false) ∧
    (∃ (s : State), s.commandPair = false) :=
  ⟨⟨(awake (State.reset)).upCtx 9 fun x => { x with stop := 0, exec := some { words := [0x80000000], phase := 0 } }, 9, { words := [0x80000000], phase := 0 }, by decide +kernel⟩,
   ⟨(awake (State.reset)).upCtx 9 fun x => { x with stop := 0, exec := some { words := [0x80600000], phase := 0 } }, 9, { words := [0x80600000], phase := 0 }, by decide +kernel⟩,
   ⟨(awake (State.reset.putB (SAF_AX_STAT__SS1 3) false)).upCtx 9 fun x => { x with stop := 0, exec := some { words := [0x80100300, 77], phase := 0 } }, 9, { words := [0x80100300, 77], phase := 0 }, 3, by decide +kernel⟩,
   ⟨(awake (State.reset.putB (SAF_AX_STAT__SS1 3) true)).upCtx 9 fun x => { x with stop := 0, exec := some { words := [0x80100300, 77], phase := 0 } }, 9, { words := [0x80100300, 77], phase := 0 }, by decide +kernel⟩,
   ⟨((ownCtx 1 9 (ownAx 1 3 State.reset)).put (HP_OWN_AX__DB_CTX 3) 9).putB (SAF_AX_STAT__SS1 3) false, 1, 9, 3, by decide +kernel⟩,
   ⟨(awake (((((State.reset.put (AX_STATE__STATE 3) 1).putB (AX_STATE__CLOSING 3) false).setAx 3 { }).setTm 3 {}).putB (SAF_AX_STAT__SS1 3) false)).upCtx 9 fun x => { x with stop := 0, exec := some { words := [0x80110300, 1], phase := 0 } }, 9, { words := [0x80110300, 1], phase := 0 }, 3, by decide +kernel⟩,
   ⟨(awake (((((State.reset.put (AX_STATE__STATE 3) 1).putB (AX_STATE__CLOSING 3) false).setAx 3 { }).setTm 3 {}).putB (SAF_AX_STAT__SS1 3) false)).upCtx 9 fun x => { x with stop := 0, exec := some { words := [0x80110300, 6], phase := 0 } }, 9, { words := [0x80110300, 6], phase := 0 }, 3, by decide +kernel⟩,
   ⟨(awake ((((((State.reset.put (AX_STATE__STATE 3) 1).putB (AX_STATE__CLOSING 3) false).setAx 3 { }).setTm 3 {}).putB (SAF_AX_STAT__SS1 3) false).putB (AX_STATE__CLOSING 3) true)).upCtx 9 fun x => { x with stop := 0, exec := some { words := [0x80110300, 3], phase := 0 } }, 9, { words := [0x80110300, 3], phase := 0 }, 3, by decide +kernel⟩,
   ⟨(awake ((State.reset.put (AX_STATE__STATE 3) 0).putB RED_STATUS__DSAFE true)).upCtx 9 fun x => { x with stop := 0, exec := some { words := [0x80110300, 6], phase := 0 } }, 9, { words := [0x80110300, 6], phase := 0 }, 3, by decide +kernel⟩,
   ⟨(awake (((((State.reset.put (AX_STATE__STATE 3) 3).putB (AX_STATE__CLOSING 3) false).setAx 3 { }).setTm 3 {}).putB (SAF_AX_STAT__SS1 3) false)).upCtx 9 fun x => { x with stop := 0, exec := some { words := [0x80110300, 4], phase := 0 } }, 9, { words := [0x80110300, 4], phase := 0 }, 3, by decide +kernel⟩,
   ⟨(runs 2 (State.reset)).upCtx 9 fun x => { x with stop := 0, exec := some { words := [0x80700000], phase := 0 } }, 9, { words := [0x80700000], phase := 0 }, by decide +kernel⟩,
   ⟨(runs 2 (State.reset)).upCtx 9 fun x => { x with stop := 0, exec := some { words := [0x80710000], phase := 0 } }, 9, { words := [0x80710000], phase := 0 }, by decide +kernel⟩,
   ⟨(runs 2 (State.reset)).upCtx 9 fun x => { x with stop := 0, exec := some { words := [0x80710000], phase := 1 } }, 9, { words := [0x80710000], phase := 1 }, by decide +kernel⟩,
   ⟨(runs 2 ((hostUp 1 State.reset).putB (HP_LINK__BME 1) true)).upCtx 9 fun x => { x with stop := 0, exec := some { words := [0x80710000], phase := 1, port := 1 } }, 9, { words := [0x80710000], phase := 1, port := 1 }, by decide +kernel⟩,
   ⟨(runs 2 (State.reset)).upCtx 9 fun x => { x with stop := 3, exec := some { words := [0x80710000], phase := 1 } }, 9, { words := [0x80710000], phase := 1 }, by decide +kernel⟩,
   ⟨(runs 2 (State.reset)).upCtx 9 fun x => { x with stop := 0, exec := some { words := [0x80710000], phase := 1 } }, 9, { words := [0x80710000], phase := 1 }, by decide +kernel⟩,
   ⟨(runs 2 (State.reset)).upCtx 9 fun x => { x with stop := 0, exec := some { words := [0x80710000], phase := 1 } }, 9, { words := [0x80710000], phase := 1 }, by decide +kernel⟩,
   ⟨(runs 2 (State.reset.putB RED_SVC_STAT__BUSY false)).upCtx 9 fun x => { x with stop := 0, exec := some { words := [0x80720000, 6, 0, 0], phase := 0 } }, 9, { words := [0x80720000, 6, 0, 0], phase := 0 }, by decide +kernel⟩,
   ⟨(runs 2 (State.reset.putB RED_SVC_STAT__BUSY false)).upCtx 9 fun x => { x with stop := 0, exec := some { words := [0x80720000, 7, 0, 0], phase := 0 } }, 9, { words := [0x80720000, 7, 0, 0], phase := 0 }, by decide +kernel⟩,
   ⟨State.reset.put (slotPair 0) 7, by decide +kernel⟩⟩

/-- States and operands that meet the conditions of DataOpcodes. -/
theorem witness_DataOpcodes :
    (∃ (s : State) (c : Fin 256) (e : ExecS) (a : Fin 8), s.running c.val 0x12 = some e ∧ e.phase = 0 ∧ e.port < 4 ∧ (dword e.words 1).toNat = 0x10044 + 0x1000 * a.val ∧ s.accessWaits false (0x10044 + 0x1000 * a.val) = false) ∧
    (∃ (s : State) (c : Fin 256) (e : ExecS) (d : Fin 24), s.running c.val 0x12 = some e ∧ e.phase = 0 ∧ (dword e.words 1).toNat = 0x41000 + 4 * d.val ∧ s.accessWaits false ((0x41000 + 4 * d.val)) = false ∧ s.vq = [] ∧ s.vheld = []) ∧
    (∃ (s : State) (c : Fin 256) (e : ExecS) (v : Word) (k : Nat), s.running c.val 0x12 = some e ∧ e.phase = 0 ∧ pairCtrlAddr (dword e.words 1).toNat = false ∧ s.accessWaits false (dword e.words 1).toNat = false ∧ v = s.maskedWord (ownerWriter e.port) (dword e.words 1).toNat (dword e.words 2) (dword e.words 3) ∧ (findRow (dword e.words 1).toNat).map (fun x => s.valueReason (ownerWriter e.port) x.1 x.2.1 x.2.2 v) = some k ∧ k ≠ 0 ∧ k ≠ ownBad) ∧
    (∃ (s : State) (c : Fin 256) (e : ExecS), s.running c.val 0x13 = some e ∧ (dword e.words 1).toNat ≠ PM_QPOP 0 ∧ (dword e.words 1).toNat ≠ CLK_STATUS ∧ s.accessWaits false (dword e.words 1).toNat = false ∧ s.readWaits (dword e.words 1).toNat = false) ∧
    (∃ (s : State) (c : Fin 256) (e : ExecS) (x : List Word) (q : List (List Word)), s.running c.val 0x13 = some e ∧ (dword e.words 1).toNat = PM_QPOP 0 ∧ s.accessWaits false (dword e.words 1).toNat = false ∧ s.pm.readers = [] ∧ s.pm.q = x :: q) ∧
    (∃ (s : State) (c : Fin 256) (e : ExecS) (l : List Word) (a : Fin 8) (n : Nat), s.running c.val 0x20 = some e ∧ unitOf (dword e.words 0) = a.val ∧ s.bankOpen a.val (fieldGet (dword e.words 1) 0 4) = true ∧ s.readGo e.port = true ∧ n = min 64 ((dword e.words 4).toNat - 64 * e.phase) ∧ l.length = n ∧ fieldGet (dword e.words 1) 8 12 + 64 * e.phase + n ≤ 256) ∧
    (∃ (s : State) (c : Fin 256) (e : ExecS), s.running c.val 0x20 = some e ∧ s.bankOpen (unitOf (dword e.words 0)) (fieldGet (dword e.words 1) 0 4) = true ∧ s.readGo e.port = true) ∧
    (∃ (s : State) (c : Fin 256) (e : ExecS), s.running c.val 0x20 = some e ∧ s.bankOpen (unitOf (dword e.words 0)) (fieldGet (dword e.words 1) 0 4) = false) ∧
    (∃ (s : State) (c : Fin 256) (e : ExecS) (a : Fin 8), s.running c.val 0x21 = some e ∧ unitOf (dword e.words 0) = a.val) ∧
    (∃ (s : State) (c : Fin 256) (e : ExecS), s.running c.val 0x30 = some e ∧ e.flush = 0 ∧ s.readGo e.port = true) ∧
    (∃ (s : State) (c : Fin 256) (e : ExecS) (k : Nat) (n : Nat), s.running c.val 0x31 = some e ∧ e.flush = 0 ∧ s.readGo e.port = true ∧ s.pm.readers.head? = some c.val ∧ k = s.get (HP_CTX_LEDGER1__STEPS c.val) ∧ n = min (min 16 s.pm.q.length) ((dword e.words 1).toNat - k) ∧ n ≠ 0) ∧
    (∃ (s : State) (c : Fin 256) (e : ExecS), (s.ctx c.val).exec = some e ∧ s.readGo e.port = false) ∧
    (∃ (s : State) (c : Fin 256) (e : ExecS) (n : Fin 16), s.running c.val 0x40 = some e ∧ unitOf (dword e.words 0) = n.val ∧ s.dmaState n.val = 0) ∧
    (∃ (s : State) (c : Fin 256) (e : ExecS) (n : Fin 16), s.running c.val 0x40 = some e ∧ unitOf (dword e.words 0) = n.val ∧ s.dmaState n.val ≠ 0) ∧
    (∃ (s : State) (c : Fin 256) (e : ExecS) (k : Nat), s.running c.val 0x50 = some e ∧ s.vq = [] ∧ s.vheld = [] ∧ s.readGo e.port = true ∧ k = fieldGet (dword e.words 1) 0 11 + s.get (HP_CTX_LEDGER1__STEPS c.val) ∧ vaultAddr k = none ∧ k < 2048 ∧ (k < 212 ∨ 287 < k ∨ s.armed = false)) ∧
    (∃ (s : State) (c : Fin 256) (e : ExecS), s.running c.val 0x50 = some e ∧ s.vq = [] ∧ s.readGo e.port = true) ∧
    (∃ (s : State) (c : Fin 256) (e : ExecS) (l : List Word), s.running c.val 0x51 = some e ∧ (e.phase ≠ 0 ∨ s.on VLT_STG_STAT__BUSY = false) ∧ s.readGo e.port = true ∧ l.length = 1024 ∧ (dword e.words 1).toNat / 4096 + e.phase < 256) ∧
    (∃ (s : State) (c : Fin 256) (e : ExecS), s.running c.val 0x51 = some e ∧ (e.phase ≠ 0 ∨ s.on VLT_STG_STAT__BUSY = false) ∧ s.readGo e.port = true) ∧
    (∃ (s : State) (c : Fin 256) (e : ExecS), s.running c.val 0x52 = some e ∧ e.phase = 0 ∧ s.on VLT_STG_STAT__BUSY = false) ∧
    (∃ (s : State) (c : Fin 256) (e : ExecS), (s.ctx c.val).exec = some e ∧ e.phase = 0 ∧ s.on VLT_STG_STAT__BUSY = true) ∧
    (∃ (s : State) (c : Fin 256) (e : ExecS), s.running c.val 0x52 = some e ∧ e.phase = 0 ∧ s.on VLT_STG_STAT__BUSY = true) ∧
    (∃ (s : State) (c : Fin 256) (e : ExecS), (s.ctx c.val).exec = some e ∧ s.readGo e.port = false ∧ s.bankOpen (unitOf (dword e.words 0)) (fieldGet (dword e.words 1) 0 4) = true) :=
  ⟨⟨(awake (State.reset)).upCtx 9 fun x => { x with stop := 0, exec := some { words := [0x80120000,0x13044,0x1234,0xFF], phase := 0, port := 1 } }, 9, { words := [0x80120000,0x13044,0x1234,0xFF], phase := 0, port := 1 }, 3, by decide +kernel⟩,
   ⟨(awake ({ State.reset with vq := [] })).upCtx 9 fun x => { x with stop := 0, exec := some { words := [0x80120000,0x41008,0x1234,0xFF], phase := 0, port := 1 } }, 9, { words := [0x80120000,0x41008,0x1234,0xFF], phase := 0, port := 1 }, 2, by decide +kernel⟩,
   ⟨(awake (State.reset)).upCtx 9 fun x => { x with stop := 0, exec := some { words := [0x80120000,0x40000,5,0xFF], phase := 0, port := 1 } }, 9, { words := [0x80120000,0x40000,5,0xFF], phase := 0, port := 1 }, 0x105, 4, by decide +kernel⟩,
   ⟨(awake (State.reset)).upCtx 9 fun x => { x with stop := 0, exec := some { words := [0x80130000,0x13044], phase := 0, port := 1 } }, 9, { words := [0x80130000,0x13044], phase := 0, port := 1 }, by decide +kernel⟩,
   ⟨(awake ({ State.reset with pm := { State.reset.pm with readers := [], q := [[1,2,3,4]] } })).upCtx 9 fun x => { x with stop := 0, exec := some { words := [0x80130000,PM_QPOP 0], phase := 0, port := 1 } }, 9, { words := [0x80130000,PM_QPOP 0], phase := 0, port := 1 }, [1,2,3,4], [], by decide +kernel⟩,
   ⟨((awake ((State.reset.put (AX_STATE__STATE 3) 1).putB (AX_STATE__CLOSING 3) false)).upCtx 9 fun x => { x with stop := 0, exec := some { port := 1, words := [0x80200300,0x203,0,0,2], phase := 0 } }) |>.putB (HP_LINK__UP 1) true |>.putB (HP_LINK__BME 1) true, 9, { words := [0x80200300,0x203,0,0,2], phase := 0, port := 1 }, [7, 8], 3, 2, by decide +kernel⟩,
   ⟨((awake ((State.reset.put (AX_STATE__STATE 3) 1).putB (AX_STATE__CLOSING 3) false)).upCtx 9 fun x => { x with stop := 0, exec := some { port := 1, words := [0x80200300,0x203,0,0,1], phase := 0 } }) |>.putB (HP_LINK__UP 1) true |>.putB (HP_LINK__BME 1) true, 9, { words := [0x80200300,0x203,0,0,1], phase := 0, port := 1 }, by decide +kernel⟩,
   ⟨(awake (State.reset.put (AX_STATE__STATE 3) 3)).upCtx 9 fun x => { x with stop := 0, exec := some { words := [0x80200300,0x203,0,0,1], phase := 0 } }, 9, { words := [0x80200300,0x203,0,0,1], phase := 0 }, by decide +kernel⟩,
   ⟨(awake (State.reset)).upCtx 9 fun x => { x with stop := 0, exec := some { words := [0x80210300,8], phase := 0 } }, 9, { words := [0x80210300,8], phase := 0 }, 3, by decide +kernel⟩,
   ⟨(awake ((hostUp 1 (State.reset)).putB (HP_LINK__BME 1) true)).upCtx 9 fun x => { x with stop := 0, exec := some { words := [0x80300300,0,0x1000,0], phase := 0, port := 1 } }, 9, { words := [0x80300300,0,0x1000,0], phase := 0, port := 1 }, by decide +kernel⟩,
   ⟨(awake ((hostUp 1 ({ (State.reset.put (HP_CTX_LEDGER1__STEPS 9) 1) with pm := { State.reset.pm with readers := [9], q := [[1,2,3,4]] } })).putB (HP_LINK__BME 1) true)).upCtx 9 fun x => { x with stop := 0, exec := some { words := [0x80310000,4,0x1000,0], phase := 0, port := 1 } }, 9, { words := [0x80310000,4,0x1000,0], phase := 0, port := 1 }, 1, 1, by decide +kernel⟩,
   ⟨(awake (State.reset)).upCtx 9 fun x => { x with stop := 0, exec := some { words := [0x80300300,0,0x1000,0], phase := 0, port := 1 } }, 9, { words := [0x80300300,0,0x1000,0], phase := 0, port := 1 }, by decide +kernel⟩,
   ⟨(awake (State.reset.put (DMA_CH_STATE__STATE 5) 0)).upCtx 9 fun x => { x with stop := 0, exec := some { words := [0x80400500,0x1020,0], phase := 0 } }, 9, { words := [0x80400500,0x1020,0], phase := 0 }, 5, by decide +kernel⟩,
   ⟨(awake (State.reset.put (DMA_CH_STATE__STATE 5) 3)).upCtx 9 fun x => { x with stop := 0, exec := some { words := [0x80400500,0x1020,0], phase := 0 } }, 9, { words := [0x80400500,0x1020,0], phase := 0 }, 5, by decide +kernel⟩,
   ⟨((awake ({ State.reset.put (HP_CTX_LEDGER1__STEPS 9) 2 with vq := [] })).upCtx 9 fun x => { x with stop := 0, exec := some { port := 1, words := [0x80500000,1030,4,0], phase := 0 } }) |>.putB (HP_LINK__UP 1) true |>.putB (HP_LINK__BME 1) true, 9, { words := [0x80500000,1030,4,0], phase := 0, port := 1 }, 1032, by decide +kernel⟩,
   ⟨((awake ({ State.reset with vq := [] })).upCtx 9 fun x => { x with stop := 0, exec := some { port := 1, words := [0x80500000,1030,4,0], phase := 0 } }) |>.putB (HP_LINK__UP 1) true |>.putB (HP_LINK__BME 1) true, 9, { words := [0x80500000,1030,4,0], phase := 0, port := 1 }, by decide +kernel⟩,
   ⟨((awake (State.reset.putB VLT_STG_STAT__BUSY false)).upCtx 9 fun x => { x with stop := 0, exec := some { port := 1, words := [0x80510000,0,0x1000,0], phase := 0 } }) |>.putB (HP_LINK__UP 1) true |>.putB (HP_LINK__BME 1) true, 9, { words := [0x80510000,0,0x1000,0], phase := 0, port := 1 }, List.replicate 1024 5, by decide +kernel⟩,
   ⟨((awake (State.reset.putB VLT_STG_STAT__BUSY false)).upCtx 9 fun x => { x with stop := 0, exec := some { port := 1, words := [0x80510000,0,0x1000,0], phase := 0 } }) |>.putB (HP_LINK__UP 1) true |>.putB (HP_LINK__BME 1) true, 9, { words := [0x80510000,0,0x1000,0], phase := 0, port := 1 }, by decide +kernel⟩,
   ⟨(awake (State.reset.putB VLT_STG_STAT__BUSY false)).upCtx 9 fun x => { x with stop := 0, exec := some { words := [0x80520000,2,0,0], phase := 0 } }, 9, { words := [0x80520000,2,0,0], phase := 0 }, by decide +kernel⟩,
   ⟨(awake (State.reset.putB VLT_STG_STAT__BUSY true)).upCtx 9 fun x => { x with stop := 0, exec := some { words := [0x80520000,2,0,0], phase := 0 } }, 9, { words := [0x80520000,2,0,0], phase := 0 }, by decide +kernel⟩,
   ⟨execd 9 [0x80520000,1] 0 State.reset |>.putB VLT_STG_STAT__BUSY true, 9, { words := [0x80520000,1], phase := 0 }, by decide +kernel⟩,
   ⟨execd 9 [0x80200003,0x100,0,0,4] 0 State.reset |>.put (AX_STATE__STATE 3) 1 |>.putB (AX_STATE__CLOSING 3) false, 9, { words := [0x80200003,0x100,0,0,4], phase := 0 }, by decide +kernel⟩⟩

/-- States and operands that meet the conditions of EventDelivery. -/
theorem witness_EventDelivery :
    (∃ (src : Fin 256), sourceNamed src.val = false) ∧
    (∃ (s : State) (src : Fin 256) (unit : BitVec 8), (∀ p : Fin 4, s.routed p.val src.val unit.toNat = false)) ∧
    (∃ (s : State) (p : Fin 4) (src : Fin 256) (unit : BitVec 8), sourceNamed src.val = true ∧ s.routed p.val src.val unit.toNat = true ∧ (s.ringLive p.val = false ∨ s.ringFull p.val = true ∨ (sget (fun _ => ({} : Merged)) s.merged (4 * src.val + p.val)).count ≠ 0)) ∧
    (∃ (s : State) (p : Fin 4) (src : Fin 256) (unit : BitVec 8), sourceNamed src.val = true ∧ s.routed p.val src.val unit.toNat = true ∧ s.ringLive p.val = true ∧ s.ringFull p.val = false ∧ s.get (EV_RING_CFG__SIZE_LOG2 p.val) ≤ 12 ∧ (sget (fun _ => ({} : Merged)) s.merged (4 * src.val + p.val)).count = 0) ∧
    (∃ (s : State) (src : Fin 256) (p : Fin 4), (sget (fun _ => ({} : Merged)) s.merged (4 * src.val + p.val)).count ≠ 0 ∧ (sget (fun _ => ({} : Merged)) s.merged (4 * src.val + p.val)).full = false ∧ s.ringLive p.val = true ∧ s.ringFull p.val = false ∧ s.get (EV_RING_CFG__SIZE_LOG2 p.val) ≤ 12) ∧
    (∃ (s : State) (src : Fin 256) (p : Fin 4), (sget (fun _ => ({} : Merged)) s.merged (4 * src.val + p.val)).count ≠ 0 ∧ (sget (fun _ => ({} : Merged)) s.merged (4 * src.val + p.val)).full = true ∧ src.val ≠ 23 ∧ s.ringLive p.val = true ∧ s.ringFull p.val = false ∧ s.get (EV_RING_CFG__SIZE_LOG2 p.val) ≤ 12) ∧
    (∃ (s : State) (src : Fin 256) (p : Fin 4), ((sget (fun _ => ({} : Merged)) s.merged (4 * src.val + p.val)).count = 0 ∨ s.ringLive p.val = false ∨ s.ringFull p.val = true)) ∧
    (∃ (s : State) (p : Fin 4) (v : Fin 64), s.get (EV_COAL__TIME p.val v.val) ≠ 0 ∧ sget (fun _ => 0) s.vecPend (64 * p.val + v.val) ≠ 0 ∧ s.vecMasked p.val v.val = false ∧ s.portIssues p.val = true ∧ s.awake = true) ∧
    (∃ (s : State) (p : Fin 4) (v : Fin 64), s.get (EV_COAL__TIME p.val v.val) ≠ 0 ∧ sget (fun _ => 0) s.vecPend (64 * p.val + v.val) ≠ 0 ∧ (s.vecMasked p.val v.val = true ∨ s.portIssues p.val = false ∨ s.awake = false)) ∧
    (∃ (s : State) (p : Fin 4) (v : Fin 64), (s.get (EV_COAL__TIME p.val v.val) = 0 ∨ sget (fun _ => 0) s.vecPend (64 * p.val + v.val) = 0)) ∧
    (∃ (s : State) (w : Writer) (p : Fin 4), s.may w (EV_RING_CFG p.val) (fieldSet (s.rd (EV_RING_CFG p.val)) 8 1 1) = true ∧ s.on (EV_RING_CFG__EN p.val) = false) ∧
    (∃ (s : State) (w : Writer) (p : Fin 4), s.may w (EV_RING_CFG p.val) (fieldSet (s.rd (EV_RING_CFG p.val)) 8 1 1) = true ∧ s.on (EV_RING_CFG__EN p.val) = true) ∧
    (∃ (s : State) (w : Writer) (p : Fin 4) (v : Word), s.may w (EV_RING_HEAD p.val) v = true) ∧
    (∃ (s : State) (n : Fin 5) (p : Fin 4) (v : Word), s.may (.firmware n) EV_FWRAISE v = true ∧ s.on (EV_ROUTE__EN (240 + fieldGet v 0 4) p.val) = true ∧ (s.ringLive p.val = false ∨ s.ringFull p.val = true ∨ (sget (fun _ => ({} : Merged)) s.merged (4 * (240 + fieldGet v 0 4) + p.val)).count ≠ 0)) ∧
    (∃ (s : State) (n : Fin 5) (p : Fin 4) (v : Word), s.may (.firmware n) EV_FWRAISE v = true ∧ s.on (EV_ROUTE__EN (240 + fieldGet v 0 4) p.val) = true ∧ s.ringLive p.val = true ∧ s.ringFull p.val = false ∧ s.get (EV_RING_CFG__SIZE_LOG2 p.val) ≤ 12 ∧ (sget (fun _ => ({} : Merged)) s.merged (4 * (240 + fieldGet v 0 4) + p.val)).count = 0) :=
  ⟨⟨9, by decide +kernel⟩,
   ⟨(((State.reset.putB (EV_ROUTE__EN 64 0) false).putB (EV_ROUTE__EN 64 1) false).putB (EV_ROUTE__EN 64 2) false).putB (EV_ROUTE__EN 64 3) false, 64, 3, by decide +kernel⟩,
   ⟨(State.reset.putB (EV_ROUTE__EN 64 1) true).putB (EV_RING_CFG__EN 1) false, 1, 64, 3, by decide +kernel⟩,
   ⟨((((awake State.reset).put (EV_RING_CFG__SIZE_LOG2 1) 4).putB (EV_RING_CFG__EN 1) true).put (EV_RING_TAIL__TAIL 1) 15).put (EV_RING_HEAD__HEAD 1) 3 |>.putB (HP_LINK__UP 1) true |>.putB (HP_LINK__BME 1) true |>.putB (EV_ROUTE__EN 64 1) true, 1, 64, 3, by decide +kernel⟩,
   ⟨(fun s => { s with merged := [(257, { count := 3, unit := 2 })] }) (((((awake State.reset).put (EV_RING_CFG__SIZE_LOG2 1) 4).putB (EV_RING_CFG__EN 1) true).put (EV_RING_TAIL__TAIL 1) 15).put (EV_RING_HEAD__HEAD 1) 3 |>.putB (HP_LINK__UP 1) true |>.putB (HP_LINK__BME 1) true |>.putB (EV_ROUTE__EN 64 1) true), 64, 1, by decide +kernel⟩,
   ⟨(fun s => { s with merged := [(257, { count := 3, unit := 2, full := true })] }) (((((awake State.reset).put (EV_RING_CFG__SIZE_LOG2 1) 4).putB (EV_RING_CFG__EN 1) true).put (EV_RING_TAIL__TAIL 1) 15).put (EV_RING_HEAD__HEAD 1) 3 |>.putB (HP_LINK__UP 1) true |>.putB (HP_LINK__BME 1) true |>.putB (EV_ROUTE__EN 64 1) true), 64, 1, by decide +kernel⟩,
   ⟨State.reset, 64, 1, by decide +kernel⟩,
   ⟨{ (((State.reset.put (EV_COAL__TIME 1 5) 9).putB (HP_LINK__UP 1) true).putB (HP_LINK__BME 1) true).put PWR_STATE__STATE 2 with vecPend := [(69, 2)], msix := [(279, 0)] }, 1, 5, by decide +kernel⟩,
   ⟨{ (((State.reset.put (EV_COAL__TIME 1 5) 9).putB (HP_LINK__UP 1) true).putB (HP_LINK__BME 1) true).put PWR_STATE__STATE 1 with vecPend := [(69, 2)], msix := [(279, 0)] }, 1, 5, by decide +kernel⟩,
   ⟨State.reset, 1, 5, by decide +kernel⟩,
   ⟨((hostUp 1 State.reset).put (EV_RING_CFG__SIZE_LOG2 1) 4).putB (EV_RING_CFG__EN 1) false, .host 1, 1, by decide +kernel⟩,
   ⟨((hostUp 1 State.reset).put (EV_RING_CFG__SIZE_LOG2 1) 4).putB (EV_RING_CFG__EN 1) true, .host 1, 1, by decide +kernel⟩,
   ⟨((hostUp 1 State.reset).put (EV_RING_CFG__SIZE_LOG2 1) 4), .host 1, 1, 21, by decide +kernel⟩,
   ⟨((runs 2 State.reset).putB (EV_ROUTE__EN 245 1) true).putB (EV_RING_CFG__EN 1) false, 2, 1, 0x305, by decide +kernel⟩,
   ⟨(runs 2 (((((awake State.reset).put (EV_RING_CFG__SIZE_LOG2 1) 4).putB (EV_RING_CFG__EN 1) true).put (EV_RING_TAIL__TAIL 1) 15).put (EV_RING_HEAD__HEAD 1) 3 |>.putB (HP_LINK__UP 1) true |>.putB (HP_LINK__BME 1) true |>.putB (EV_ROUTE__EN 64 1) true)).putB (EV_ROUTE__EN 245 1) true, 2, 1, 0x305, by decide +kernel⟩⟩

/-- States and operands that meet the conditions of DmaChannels. -/
theorem witness_DmaChannels :
    (∃ (s : State) (w : Writer) (n : Fin 16), s.may w (DMA_CH_CTRL n.val) 1 = true ∧ s.dmaState n.val = 0 ∧ s.dmaOwner n.val ≠ 15) ∧
    (∃ (s : State) (w : Writer) (n : Fin 16), s.may w (DMA_CH_CTRL n.val) 1 = true ∧ (s.dmaState n.val ≠ 0 ∨ s.dmaOwner n.val = 15)) ∧
    (∃ (s : State) (n : Fin 16) (l : Vector Word 8) (k : List Word), s.dmaFetching n.val = true ∧ s.coreClk = true ∧ (s.dma n.val).fetchOut = true ∧ (s.dma n.val).stop = 0 ∧ s.dmaListRead n.val (s.dmaCur n.val) 8 (some l.toList) = some k ∧ fieldGet (dword k 0) 31 1 = 1 ∧ dmaBad k (s.dma n.val).port (s.dma n.val).sram = none) ∧
    (∃ (s : State) (n : Fin 16) (l : Vector Word 8) (k : List Word) (j : Nat), s.dmaFetching n.val = true ∧ s.coreClk = true ∧ (s.dma n.val).fetchOut = true ∧ (s.dma n.val).stop = 0 ∧ s.dmaListRead n.val (s.dmaCur n.val) 8 (some l.toList) = some k ∧ fieldGet (dword k 0) 31 1 = 1 ∧ dmaBad k (s.dma n.val).port (s.dma n.val).sram = some j) ∧
    (∃ (s : State) (n : Fin 16) (l : Vector Word 8) (k : List Word), s.dmaFetching n.val = true ∧ s.coreClk = true ∧ (s.dma n.val).fetchOut = true ∧ (s.dma n.val).stop = 0 ∧ s.dmaListRead n.val (s.dmaCur n.val) 8 (some l.toList) = some k ∧ fieldGet (dword k 0) 31 1 = 0) ∧
    (∃ (s : State) (n : Fin 16) (l : Vector Word 8) (k : List Word), s.dmaFetching n.val = true ∧ s.coreClk = true ∧ (s.dma n.val).fetchOut = true ∧ (s.dma n.val).stop = 1 ∧ s.dmaListRead n.val (s.dmaCur n.val) 8 (some l.toList) = some k) ∧
    (∃ (s : State) (n : Fin 16), s.dmaFetching n.val = true ∧ s.coreClk = true ∧ (s.dma n.val).fetchOut = true ∧ 2 ≤ (s.dma n.val).stop) ∧
    (∃ (s : State) (n : Fin 16) (r : Option (Vector Word 8)), s.dmaFetching n.val = true ∧ s.coreClk = true ∧ (s.dma n.val).fetchOut = true ∧ (s.dma n.val).stop < 2 ∧ s.dmaListRead n.val (s.dmaCur n.val) 8 (r.map (·.toList)) = none) ∧
    (∃ (s : State) (n : Fin 16), s.dmaFetching n.val = false ∨ s.coreClk = false ∨ (s.dma n.val).fetchOut = false ∧ (s.dma n.val).stop = 0 ∧ ((dmaServe s).dma n.val).fetchOut = false) ∧
    (∃ (s : State) (n : Fin 16), s.dmaFetching n.val = true ∧ s.coreClk = true ∧ (s.dma n.val).fetchOut = false ∧ (s.dma n.val).stop = 1) ∧
    (∃ (s : State) (n : Fin 16), s.dmaFetching n.val = true ∧ s.coreClk = true ∧ (s.dma n.val).fetchOut = false ∧ 2 ≤ (s.dma n.val).stop) ∧
    (∃ (s : State) (n : Fin 16), s.dmaMoving n.val = true ∧ (s.dma n.val).issued = true ∧ (s.dma n.val).whole = false ∧ (s.dma n.val).left = [] ∧ dmaSpace (s.dma n.val).words false = 0 ∧ dmaSpace (s.dma n.val).words true = 0 ∧ s.dmaPortGo (s.dma n.val).port = true) ∧
    (∃ (s : State) (n : Fin 16), s.dmaMoving n.val = true ∧ (s.dma n.val).issued = true ∧ (s.dma n.val).whole = false ∧ (s.dma n.val).left = [] ∧ dmaSpace (s.dma n.val).words false = 0 ∧ dmaSpace (s.dma n.val).words true ≠ 1 ∧ (dmaSpace (s.dma n.val).words true ≠ 0 ∨ s.dmaPortGo (s.dma n.val).port = true)) ∧
    (∃ (s : State) (n : Fin 16) (p : Nat) (q : Nat), s.dmaMoving n.val = true ∧ (s.dma n.val).issued = true ∧ (s.dma n.val).whole = false ∧ (s.dma n.val).left = [] ∧ dmaSpace (s.dma n.val).words false = 4 ∧ dmaSpace (s.dma n.val).words true = 4 ∧ p = (dmaPos (s.dma n.val).words false (s.dma n.val).idx ((s.dma n.val).ix.getD (s.dma n.val).idx 0) % 2 ^ 64).toNat ∧ q = (dmaPos (s.dma n.val).words true (s.dma n.val).idx ((s.dma n.val).ix.getD (s.dma n.val).idx 0) % 2 ^ 64).toNat) ∧
    (∃ (s : State) (n : Fin 16) (a : Nat) (sel : Nat) (k : Nat), s.dmaMoving n.val = true ∧ (s.dma n.val).issued = true ∧ (s.dma n.val).whole = false ∧ (s.dma n.val).left = [] ∧ dmaSpace (s.dma n.val).words false = 0 ∧ dmaSpace (s.dma n.val).words true = 2 ∧ a = dmaAxis (s.dma n.val).words true ∧ sel = dmaSel (s.dma n.val).words true ∧ k = (dmaPos (s.dma n.val).words true (s.dma n.val).idx ((s.dma n.val).ix.getD (s.dma n.val).idx 0) % 2 ^ 64).toNat / 4 ∧ dmaElem (s.dma n.val).words = 4 ∧ k < 256 ∧ s.axOwner a = (s.dma n.val).port ∧ s.bankOpen a sel = true) ∧
    (∃ (s : State) (n : Fin 16) (a : Nat) (sel : Nat), s.dmaMoving n.val = true ∧ (s.dma n.val).issued = true ∧ (s.dma n.val).whole = false ∧ (s.dma n.val).left = [] ∧ dmaSpace (s.dma n.val).words false = 0 ∧ dmaSpace (s.dma n.val).words true = 2 ∧ a = dmaAxis (s.dma n.val).words true ∧ sel = dmaSel (s.dma n.val).words true ∧ (s.axOwner a ≠ (s.dma n.val).port ∨ s.bankOpen a sel = false)) ∧
    (∃ (s : State) (n : Fin 16) (p : Fin 4) (a : Fin 8), s.dmaMoving n.val = true ∧ (s.dma n.val).issued = true ∧ (s.dma n.val).whole = false ∧ (s.dma n.val).left = [] ∧ dmaSpace (s.dma n.val).words false = 0 ∧ dmaSpace (s.dma n.val).words true = 1 ∧ (s.dma n.val).port = p.val ∧ dmaElem (s.dma n.val).words = 4 ∧ (dmaPos (s.dma n.val).words true (s.dma n.val).idx ((s.dma n.val).ix.getD (s.dma n.val).idx 0) % 2 ^ 64).toNat = 0x10044 + 0x1000 * a.val ∧ (s.dma n.val).commits = 0 ∧ s.accessWaits false (0x10044 + 0x1000 * a.val) = false ∧ s.writeReason (.host p) false (0x10044 + 0x1000 * a.val) = 0) ∧
    (∃ (s : State) (n : Fin 16) (p : Fin 4) (a : Fin 8), s.dmaMoving n.val = true ∧ (s.dma n.val).issued = true ∧ (s.dma n.val).whole = false ∧ (s.dma n.val).left = [] ∧ dmaSpace (s.dma n.val).words false = 1 ∧ dmaSpace (s.dma n.val).words true = 0 ∧ (s.dma n.val).port = p.val ∧ dmaElem (s.dma n.val).words = 4 ∧ (dmaPos (s.dma n.val).words false (s.dma n.val).idx ((s.dma n.val).ix.getD (s.dma n.val).idx 0) % 2 ^ 64).toNat = 0x10044 + 0x1000 * a.val ∧ s.dmaPortGo (s.dma n.val).port = true ∧ s.accessWaits false (0x10044 + 0x1000 * a.val) = false ∧ s.readReason (.host p) false (0x10044 + 0x1000 * a.val) = 0) ∧
    (∃ (s : State) (n : Fin 16), (s.dmaMoving n.val = false ∨ (s.dma n.val).whole = true ∨ (s.dma n.val).left = [] ∧ (s.dma n.val).issued = false ∧ ((dmaServe s).dma n.val).issued = false)) ∧
    (∃ (s : State) (n : Fin 16) (l : List Word) (b : List Word), s.dmaIndexing n.val = true ∧ s.coreClk = true ∧ (s.dma n.val).ixOut = true ∧ s.dmaListRead n.val (s.dmaIndexAt n.val).1 (s.dmaIndexAt n.val).2 (some l) = some b) ∧
    (∃ (s : State) (n : Fin 16) (r : Option (List Word)), s.dmaIndexing n.val = true ∧ s.coreClk = true ∧ (s.dma n.val).ixOut = true ∧ s.dmaListRead n.val (s.dmaIndexAt n.val).1 (s.dmaIndexAt n.val).2 r = none) ∧
    (∃ (s : State) (n : Fin 16), (s.dmaIndexing n.val = false ∨ s.coreClk = false ∨ (s.dma n.val).ixOut = false ∧ ((dmaServe s).dma n.val).ixOut = false)) ∧
    (∃ (s : State) (n : Fin 16) (code : Nat) (detail : Nat), s.coreClk = true ∧ s.dmaPortWaits n.val = false ∧ (s.dma n.val).commits = 0 ∧ (s.dma n.val).fin = some (code, detail) ∧ fieldGet (dword (s.dma n.val).words 0) 30 1 = 1) ∧
    (∃ (s : State) (n : Fin 16) (code : Nat) (detail : Nat), s.coreClk = true ∧ s.dmaPortWaits n.val = false ∧ (s.dma n.val).commits = 0 ∧ (s.dma n.val).fin = some (code, detail) ∧ fieldGet (dword (s.dma n.val).words 0) 30 1 = 0 ∧ 2 ≤ (s.dma n.val).stop) ∧
    (∃ (s : State) (n : Fin 16) (code : Nat) (detail : Nat), s.coreClk = true ∧ s.dmaPortWaits n.val = false ∧ (s.dma n.val).commits = 0 ∧ (s.dma n.val).fin = some (code, detail) ∧ fieldGet (dword (s.dma n.val).words 0) 30 1 = 0 ∧ ((s.dma n.val).stop = 1 ∨ (s.dma n.val).stop = 0 ∧ code ≠ 0 ∧ s.on (DMA_CH_CFG__HALT_ON_BAD n.val) = true)) ∧
    (∃ (s : State) (n : Fin 16) (code : Nat) (detail : Nat), s.coreClk = true ∧ s.dmaPortWaits n.val = false ∧ (s.dma n.val).commits = 0 ∧ (s.dma n.val).fin = some (code, detail) ∧ fieldGet (dword (s.dma n.val).words 0) 30 1 = 0 ∧ (s.dma n.val).stop = 0 ∧ (code = 0 ∨ s.on (DMA_CH_CFG__HALT_ON_BAD n.val) = false)) ∧
    (∃ (s : State) (n : Fin 16), s.coreClk = true ∧ s.dmaPortWaits n.val = false ∧ (s.dma n.val).commits = 0 ∧ (s.dma n.val).fin = none ∧ (s.dma n.val).stop ≠ 0 ∧ (s.dma n.val).issued = false ∧ (s.dma n.val).words ≠ [] ∧ (s.dma n.val).idx < dmaCount (s.dma n.val).words) ∧
    (∃ (s : State) (n : Fin 16), ((s.dma n.val).fin = none ∨ s.coreClk = false ∨ s.dmaPortWaits n.val = true ∨ (s.dma n.val).commits ≠ 0) ∧ ((s.dma n.val).stop = 0 ∨ (s.dma n.val).issued = true)) ∧
    (∃ (s : State) (w : Writer) (n : Fin 16), s.may w (DMA_CH_CTRL n.val) 2 = true ∧ (s.dmaState n.val = 1 ∨ s.dmaState n.val = 2) ∧ (s.dmaFetching n.val = false ∨ (s.dma n.val).fetchOut = true)) ∧
    (∃ (s : State) (w : Writer) (n : Fin 16), s.may w (DMA_CH_CTRL n.val) 2 = true ∧ s.dmaFetching n.val = true ∧ (s.dma n.val).fetchOut = false ∧ (s.dma n.val).stop < 2) ∧
    (∃ (s : State) (w : Writer) (n : Fin 16), s.may w (DMA_CH_CTRL n.val) 8 = true ∧ s.dmaFetching n.val = true ∧ (s.dma n.val).fetchOut = false) ∧
    (∃ (s : State) (w : Writer) (n : Fin 16), s.may w (DMA_CH_CTRL n.val) 2 = true ∧ s.dmaState n.val ≠ 1 ∧ s.dmaState n.val ≠ 2) ∧
    (∃ (s : State) (w : Writer) (n : Fin 16), s.may w (DMA_CH_CTRL n.val) 4 = true ∧ s.dmaState n.val = 3 ∧ (s.dma n.val).ended = false) ∧
    (∃ (s : State) (w : Writer) (n : Fin 16), s.may w (DMA_CH_CTRL n.val) 4 = true ∧ s.dmaState n.val ≠ 3) ∧
    (∃ (s : State) (w : Writer) (n : Fin 16), s.may w (DMA_CH_CTRL n.val) 8 = true ∧ (s.dmaState n.val = 3 ∨ s.dmaState n.val = 4)) ∧
    (∃ (s : State) (w : Writer) (n : Fin 16), s.may w (DMA_CH_CTRL n.val) 8 = true ∧ (s.dmaState n.val = 1 ∨ s.dmaState n.val = 2) ∧ (s.dmaFetching n.val = false ∨ (s.dma n.val).fetchOut = true)) ∧
    (∃ (s : State) (w : Writer) (n : Fin 16), s.may w (DMA_CH_CTRL n.val) 8 = true ∧ s.dmaState n.val = 0) :=
  ⟨⟨(((ownDma 1 5 State.reset).put (DMA_CH_STATE__STATE 5) 0).putB RED_STATUS__DMA_OUT false).upDma 5 fun _ => { }, .host 1, 5, by decide +kernel⟩,
   ⟨(((ownDma 1 5 State.reset).put (DMA_CH_STATE__STATE 5) 3).putB RED_STATUS__DMA_OUT false).upDma 5 fun _ => { }, .host 1, 5, by decide +kernel⟩,
   ⟨dma5 1 { port := 1, fetchOut := true }, 5, #v[0x80004001,0,0,0,0,0,0,0], [0x80004001,0,0,0,0,0,0,0], by decide +kernel⟩,
   ⟨dma5 1 { port := 1, fetchOut := true }, 5, #v[0x80004000,0,0,0,0,0,0,0], [0x80004000,0,0,0,0,0,0,0], 0, by decide +kernel⟩,
   ⟨(dma5 1 { port := 1, fetchOut := true }), 5, #v[0x00004001,0,0,0,0,0,0,9], [0x00004001,0,0,0,0,0,0,9], by decide +kernel⟩,
   ⟨(dma5 2 { port := 1, fetchOut := true, stop := 1 }), 5, #v[0x80004001,0,0,0,0,0,0,9], [0x80004001,0,0,0,0,0,0,9], by decide +kernel⟩,
   ⟨(dma5 2 { port := 1, fetchOut := true, stop := 2 }), 5, by decide +kernel⟩,
   ⟨(dma5 1 { port := 1, fetchOut := true }), 5, none, by decide +kernel⟩,
   ⟨dma5 0 {}, 5, by decide +kernel⟩,
   ⟨dma5 2 { port := 1, stop := 1 }, 5, by decide +kernel⟩,
   ⟨dma5 2 { port := 1, stop := 3 }, 5, by decide +kernel⟩,
   ⟨(dma5 1 { port := 1, words := [0x80004002,0x100,0,0x200,0,0,0,0], issued := true }), 5, by decide +kernel⟩,
   ⟨(dma5 1 { port := 1, words := [0x80004002,0x100,0,0x200,0,0,0,0], issued := true }), 5, by decide +kernel⟩,
   ⟨(dma5 1 { port := 1, words := [0x80444002,0x100,0,0x200,0,0,0,0], issued := true }), 5, 0x100, 0x200, by decide +kernel⟩,
   ⟨(dma5 1 { port := 1, words := [0x80024002,0x100,0,0x03030000,0,0,0,0], issued := true } |>.put (AX_STATE__STATE 3) 1 |>.putB (AX_STATE__CLOSING 3) false |>.put (HP_OWN_AX__OWNER 3) 1), 5, 3, 3, 0, by decide +kernel⟩,
   ⟨(dma5 1 { port := 1, words := [0x80024002,0x100,0,0x03030000,0,0,0,0], issued := true } |>.put (AX_STATE__STATE 3) 3 |>.put (HP_OWN_AX__OWNER 3) 1), 5, 3, 3, by decide +kernel⟩,
   ⟨(((((awake (ownAx 1 3 State.reset)).put (DMA_CH_STATE__STATE 5) 1).put (HP_OWN_DMA__OWNER 0 5) 1).putB (DMA_CH_CFG__LIST_SPACE 5) false).putB (HP_LINK__UP 1) true |>.putB (HP_LINK__BME 1) true |>.put (HP_OWN_AX__OWNER 3) 1).upDma 5 fun _ => { port := 1, words := [0x80014002,0x100,0,0x13044,0,0,0,0], issued := true }, 5, 1, 3, by decide +kernel⟩,
   ⟨(dma5 1 { port := 1, words := [0x80104002,0x13044,0,0x200,0,0,0,0], issued := true }), 5, 1, 3, by decide +kernel⟩,
   ⟨(((ownDma 1 5 State.reset).put (DMA_CH_STATE__STATE 5) 0).putB RED_STATUS__DMA_OUT false).upDma 5 fun _ => { }, 5, by decide +kernel⟩,
   ⟨(dma5 1 { port := 1, words := [0x82004002,0x100,0,0x200,0,0,0,0], ixOut := true }), 5, [4,8], [4,8], by decide +kernel⟩,
   ⟨(dma5 1 { port := 1, words := [0x82004002,0x100,0,0x200,0,0,0,0], ixOut := true }), 5, none, by decide +kernel⟩,
   ⟨(((ownDma 1 5 State.reset).put (DMA_CH_STATE__STATE 5) 0).putB RED_STATUS__DMA_OUT false).upDma 5 fun _ => { }, 5, by decide +kernel⟩,
   ⟨dma5 1 { port := 1, words := [0xC0004002,0x100,0,0x200,0,0,0,0], fin := some (0, 7) }, 5, 0, 7, by decide +kernel⟩,
   ⟨dma5 2 { port := 1, words := [0x80004002,0x100,0,0x200,0,0,0,0], stop := 2, fin := some (0, 7) }, 5, 0, 7, by decide +kernel⟩,
   ⟨dma5 2 { port := 1, words := [0x80004002,0x100,0,0x200,0,0,0,0], stop := 1, fin := some (0, 7) }, 5, 0, 7, by decide +kernel⟩,
   ⟨dma5 1 { port := 1, words := [0x80004002,0x100,0,0x200,0,0,0,0], fin := some (0, 7) }, 5, 0, 7, by decide +kernel⟩,
   ⟨dma5 2 { port := 1, words := [0x80004002,0x100,0,0x200,0,0,0,0], stop := 1 }, 5, by decide +kernel⟩,
   ⟨dma5 0 {}, 5, by decide +kernel⟩,
   ⟨dma5 1 { port := 1, fetchOut := true } |> hostUp 1, .host 1, 5, by decide +kernel⟩,
   ⟨dma5 1 { port := 1 } |> hostUp 1, .host 1, 5, by decide +kernel⟩,
   ⟨dma5 1 { port := 1 } |> hostUp 1, .host 1, 5, by decide +kernel⟩,
   ⟨(((ownDma 1 5 State.reset).put (DMA_CH_STATE__STATE 5) 0).putB RED_STATUS__DMA_OUT false).upDma 5 fun _ => { }, .host 1, 5, by decide +kernel⟩,
   ⟨(((ownDma 1 5 State.reset).put (DMA_CH_STATE__STATE 5) 3).putB RED_STATUS__DMA_OUT false).upDma 5 fun _ => { }, .host 1, 5, by decide +kernel⟩,
   ⟨(((ownDma 1 5 State.reset).put (DMA_CH_STATE__STATE 5) 0).putB RED_STATUS__DMA_OUT false).upDma 5 fun _ => { }, .host 1, 5, by decide +kernel⟩,
   ⟨(((ownDma 1 5 State.reset).put (DMA_CH_STATE__STATE 5) 3).putB RED_STATUS__DMA_OUT false).upDma 5 fun _ => { }, .host 1, 5, by decide +kernel⟩,
   ⟨dma5 2 { port := 1, fetchOut := true, stop := 1 } |> hostUp 1, .host 1, 5, by decide +kernel⟩,
   ⟨(((ownDma 1 5 State.reset).put (DMA_CH_STATE__STATE 5) 0).putB RED_STATUS__DMA_OUT false).upDma 5 fun _ => { }, .host 1, 5, by decide +kernel⟩⟩

/-- States and operands that meet the conditions of AxisRequests. -/
theorem witness_AxisRequests :
    (∃ (s : State) (w : Writer) (a : Fin 8) (k : Fin 16), s.may w (AX_CTRL a.val) (BitVec.ofNat 32 (k.val + 16)) = true ∧ 6 ≤ k.val) ∧
    (∃ (s : State) (w : Writer) (a : Fin 8) (k : Fin 16), s.may w (AX_CTRL a.val) (BitVec.ofNat 32 (k.val + 16)) = true ∧ k.val < 6 ∧ (s.axState a.val ≠ 0 ∨ s.on RED_STATUS__DSAFE = false) ∧ ((s.ax a.val).req ≠ none ∨ s.on (AX_STATE__CLOSING a.val) = true)) ∧
    (∃ (s : State) (w : Writer) (a : Fin 8) (k : Fin 16), s.may w (AX_CTRL a.val) (BitVec.ofNat 32 (k.val + 16)) = true ∧ k.val < 6 ∧ s.axState a.val = 0 ∧ s.on RED_STATUS__DSAFE = true) ∧
    (∃ (s : State) (w : Writer) (a : Fin 8) (k : Fin 16), s.may w (AX_CTRL a.val) (BitVec.ofNat 32 (k.val + 16)) = true ∧ k.val < 6 ∧ (s.ax a.val).req = none ∧ s.on (AX_STATE__CLOSING a.val) = false ∧ s.axState a.val = k.val ∧ (k.val ≠ 0 ∨ s.on RED_STATUS__DSAFE = false)) ∧
    (∃ (s : State) (w : Writer) (a : Fin 8) (k : Fin 16), s.may w (AX_CTRL a.val) (BitVec.ofNat 32 (k.val + 16)) = true ∧ 1 ≤ k.val ∧ k.val < 6 ∧ (s.ax a.val).req = none ∧ s.on (AX_STATE__CLOSING a.val) = false ∧ s.axState a.val = 0 ∧ s.on RED_STATUS__DSAFE = false ∧ (s.basting a.val = true ∨ s.on SAF_STATUS__ARMED = false)) ∧
    (∃ (s : State) (w : Writer) (a : Fin 8), s.may w (AX_CTRL a.val) 21 = true ∧ (s.axState a.val = 0 ∧ s.on RED_STATUS__DSAFE = false ∧ s.basting a.val = false ∧ s.on SAF_STATUS__ARMED = true ∧ s.sys.released = true ∨ 1 ≤ s.axState a.val ∧ s.axState a.val ≤ 4) ∧ (s.ax a.val).req = none ∧ s.on (AX_STATE__CLOSING a.val) = false) ∧
    (∃ (s : State) (w : Writer) (a : Fin 8), s.may w (AX_CTRL a.val) 19 = true ∧ s.axState a.val = 0 ∧ (s.ax a.val).req = none ∧ s.on (AX_STATE__CLOSING a.val) = false ∧ s.on RED_STATUS__DSAFE = false ∧ s.basting a.val = false ∧ s.on SAF_STATUS__ARMED = true ∧ s.bindOk a.val = true ∧ s.startPosOk a.val = true ∧ s.islandsReady a.val = true ∧ s.slotFilled a.val = true ∧ s.startBlocked a.val = false) ∧
    (∃ (s : State) (w : Writer) (a : Fin 8), s.may w (AX_CTRL a.val) 17 = true ∧ s.axState a.val = 0 ∧ (s.ax a.val).req = none ∧ s.on (AX_STATE__CLOSING a.val) = false ∧ s.on RED_STATUS__DSAFE = false ∧ s.basting a.val = false ∧ s.on SAF_STATUS__ARMED = true ∧ s.tableMode a.val = true ∧ s.bindOk a.val = true ∧ s.on (TM_VSRC__EN a.val) = true) ∧
    (∃ (s : State) (w : Writer) (a : Fin 8), s.may w (AX_CTRL a.val) 16 = true ∧ s.axState a.val = 1 ∧ (s.ax a.val).req = none ∧ s.on (AX_STATE__CLOSING a.val) = false) ∧
    (∃ (s : State) (w : Writer) (a : Fin 8), s.may w (AX_CTRL a.val) 18 = true ∧ s.axState a.val = 1 ∧ (s.ax a.val).req = none ∧ s.on (AX_STATE__CLOSING a.val) = false ∧ s.startBlocked a.val = false ∧ s.islandsReady a.val = true ∧ s.slotFilled a.val = true) ∧
    (∃ (s : State) (w : Writer) (a : Fin 8), s.may w (AX_CTRL a.val) 20 = true ∧ s.axState a.val = 3 ∧ (s.ax a.val).req = none ∧ s.on (AX_STATE__CLOSING a.val) = false ∧ (s.tm a.val).recov = 0 ∧ s.on (SAF_AX_STAT__SS1 a.val) = false) ∧
    (∃ (s : State) (w : Writer) (a : Fin 8), s.may w (AX_CTRL a.val) 19 = true ∧ s.axState a.val = 4 ∧ (s.ax a.val).req = none ∧ s.on (AX_STATE__CLOSING a.val) = false ∧ (s.ax a.val).holdOut = false) ∧
    (∃ (s : State) (w : Writer) (a : Fin 8), s.may w (AX_CTRL a.val) 16 = true ∧ (s.axState a.val = 3 ∨ s.axState a.val = 4) ∧ (s.ax a.val).req = none ∧ s.on (AX_STATE__CLOSING a.val) = false ∧ s.tableMode a.val = false ∧ (s.tm a.val).recov = 0) ∧
    (∃ (s : State) (w : Writer) (a : Fin 8) (k : Fin 16), s.may w (AX_CTRL a.val) (BitVec.ofNat 32 (k.val + 16)) = true ∧ k.val ≤ 1 ∧ (s.ax a.val).req = none ∧ s.on (AX_STATE__CLOSING a.val) = false ∧ (s.axState a.val = 3 ∨ s.axState a.val = 4) ∧ s.tableMode a.val = true ∧ (s.tm a.val).recov = 0) ∧
    (∃ (s : State) (w : Writer) (a : Fin 8), s.may w (AX_CTRL a.val) 16 = true ∧ s.axState a.val = 5 ∧ (s.ax a.val).req = none ∧ s.on (AX_STATE__CLOSING a.val) = false ∧ s.anyCause a.val = false ∧ s.on (AX_STATE__SAF_HOLD a.val) = false ∧ s.on (AX_STATE__RST_HOLD a.val) = false ∧ s.on (AX_STATE__ASC_ACTIVE a.val) = false) ∧
    (∃ (s : State) (w : Writer) (a : Fin 8), s.may w (AX_CTRL a.val) 16 = true ∧ s.axState a.val = 5 ∧ (s.ax a.val).req = none ∧ s.on (AX_STATE__CLOSING a.val) = false ∧ s.anyCause a.val = true) ∧
    (∃ (s : State) (w : Writer) (a : Fin 8) (k : Fin 16), s.may w (AX_CTRL a.val) (BitVec.ofNat 32 (k.val + 16)) = true ∧ k.val < 6 ∧ (s.ax a.val).req = none ∧ s.on (AX_STATE__CLOSING a.val) = false ∧ (s.axState a.val = 6 ∨ s.axState a.val = 5 ∧ 2 ≤ k.val ∧ k.val ≤ 4 ∨ s.axState a.val = 1 ∧ (k.val = 3 ∨ k.val = 4))) ∧
    (∃ (s : State) (w : Writer) (a : Fin 8), s.may w (AX_CTRL a.val) 256 = true ∧ s.axState a.val = 6 ∧ (s.ax a.val).latched.any (fun c => if c = 4 then (s.ax a.val).whyLatched.any (s.whyStands a.val) else s.causePresent a.val c) = false) ∧
    (∃ (s : State) (w : Writer) (a : Fin 8), s.may w (AX_CTRL a.val) 256 = true ∧ (s.axState a.val ≠ 6 ∨ (s.ax a.val).latched.any (fun c => if c = 4 then (s.ax a.val).whyLatched.any (s.whyStands a.val) else s.causePresent a.val c) = true)) ∧
    (∃ (s : State) (n : Fin 5) (a : Fin 8), s.may (.firmware n) (AX_CTRL a.val) 512 = true) ∧
    (∃ (s : State) (p : Fin 4) (a : Fin 8), s.may (.host p) (AX_CTRL a.val) 512 = true) ∧
    (∃ (s : State) (a : Fin 8), s.axState a.val = 5 ∧ (s.ax a.val).latched = []) ∧
    (∃ (s : State) (a : Fin 8), s.axState a.val = 5 ∧ (s.ax a.val).latched ≠ []) ∧
    (∃ (s : State) (a : Fin 8), s.axState a.val ≠ 5) :=
  ⟨⟨(ownAx 1 3 (((((State.reset).put (AX_STATE__STATE 3) 1).putB (AX_STATE__CLOSING 3) false).setAx 3 {  }).setTm 3 {  })).putB (SAF_AX_STAT__SS1 3) false, .host 1, 3, 9, by decide +kernel⟩,
   ⟨(ownAx 1 3 (((((State.reset).put (AX_STATE__STATE 3) 1).putB (AX_STATE__CLOSING 3) false).setAx 3 { req := some { target := 0 } }).setTm 3 {  })).putB (SAF_AX_STAT__SS1 3) false, .host 1, 3, 2, by decide +kernel⟩,
   ⟨(ownAx 1 3 (((((State.reset).put (AX_STATE__STATE 3) 0).putB (AX_STATE__CLOSING 3) false).setAx 3 {  }).setTm 3 {  })).putB (SAF_AX_STAT__SS1 3) false |>.putB RED_STATUS__DSAFE true, .host 1, 3, 3, by decide +kernel⟩,
   ⟨(ownAx 1 3 (((((State.reset).put (AX_STATE__STATE 3) 1).putB (AX_STATE__CLOSING 3) false).setAx 3 {  }).setTm 3 {  })).putB (SAF_AX_STAT__SS1 3) false, .host 1, 3, 1, by decide +kernel⟩,
   ⟨(ownAx 1 3 (((((State.reset).put (AX_STATE__STATE 3) 0).putB (AX_STATE__CLOSING 3) false).setAx 3 {  }).setTm 3 {  })).putB (SAF_AX_STAT__SS1 3) false |>.putB RED_STATUS__DSAFE false |>.put (AX_BIND_LEG__LEG_MASK 3) 0 |>.putB SAF_STATUS__ARMED false, .host 1, 3, 3, by decide +kernel⟩,
   ⟨(ownAx 1 3 (((((State.reset).put (AX_STATE__STATE 3) 3).putB (AX_STATE__CLOSING 3) false).setAx 3 {  }).setTm 3 {  })).putB (SAF_AX_STAT__SS1 3) false, .host 1, 3, by decide +kernel⟩,
   ⟨(ownAx 1 3 (((((State.reset).put (AX_STATE__STATE 3) 0).putB (AX_STATE__CLOSING 3) false).setAx 3 {  }).setTm 3 {  })).putB (SAF_AX_STAT__SS1 3) false |>.putB RED_STATUS__DSAFE false |>.put (AX_BIND_LEG__LEG_MASK 3) 1 |>.putB SAF_STATUS__ARMED true |>.putB (AX_BIND__MODE 3) false |>.putB (GI_STATUS__CFG_SYNC 0) true |>.putB (GI_CFG__SERVICE 0) false |>.wr RED_SLOTS 0, .host 1, 3, by decide +kernel⟩,
   ⟨(ownAx 1 3 (((((State.reset).put (AX_STATE__STATE 3) 0).putB (AX_STATE__CLOSING 3) false).setAx 3 {  }).setTm 3 {  })).putB (SAF_AX_STAT__SS1 3) false |>.putB RED_STATUS__DSAFE false |>.put (AX_BIND_LEG__LEG_MASK 3) 7 |>.putB SAF_STATUS__ARMED true |>.putB (AX_BIND__MODE 3) true |>.putB (TM_VSRC__EN 3) true |>.putB (GI_CFG__SERVICE 0) false, .host 1, 3, by decide +kernel⟩,
   ⟨(ownAx 1 3 (((((State.reset).put (AX_STATE__STATE 3) 1).putB (AX_STATE__CLOSING 3) false).setAx 3 {  }).setTm 3 {  })).putB (SAF_AX_STAT__SS1 3) false, .host 1, 3, by decide +kernel⟩,
   ⟨(ownAx 1 3 (((((State.reset).put (AX_STATE__STATE 3) 1).putB (AX_STATE__CLOSING 3) false).setAx 3 {  }).setTm 3 {  })).putB (SAF_AX_STAT__SS1 3) false |>.put (AX_BIND_LEG__LEG_MASK 3) 0 |>.wr RED_SLOTS 0, .host 1, 3, by decide +kernel⟩,
   ⟨(ownAx 1 3 (((((State.reset).put (AX_STATE__STATE 3) 3).putB (AX_STATE__CLOSING 3) false).setAx 3 {  }).setTm 3 {  })).putB (SAF_AX_STAT__SS1 3) false, .host 1, 3, by decide +kernel⟩,
   ⟨(ownAx 1 3 (((((State.reset).put (AX_STATE__STATE 3) 4).putB (AX_STATE__CLOSING 3) false).setAx 3 {  }).setTm 3 {  })).putB (SAF_AX_STAT__SS1 3) false, .host 1, 3, by decide +kernel⟩,
   ⟨(ownAx 1 3 (((((State.reset).put (AX_STATE__STATE 3) 3).putB (AX_STATE__CLOSING 3) false).setAx 3 {  }).setTm 3 {  })).putB (SAF_AX_STAT__SS1 3) false |>.putB (AX_BIND__MODE 3) false, .host 1, 3, by decide +kernel⟩,
   ⟨(ownAx 1 3 (((((State.reset).put (AX_STATE__STATE 3) 3).putB (AX_STATE__CLOSING 3) false).setAx 3 {  }).setTm 3 {  })).putB (SAF_AX_STAT__SS1 3) false |>.putB (AX_BIND__MODE 3) true, .host 1, 3, 1, by decide +kernel⟩,
   ⟨(ownAx 1 3 (((((State.reset).put (AX_STATE__STATE 3) 5).putB (AX_STATE__CLOSING 3) false).setAx 3 {  }).setTm 3 {  })).putB (SAF_AX_STAT__SS1 3) false |>.put (AX_BIND_LEG__LEG_MASK 3) 0 |>.putB (AX_STATE__SAF_HOLD 3) false |>.putB (AX_STATE__RST_HOLD 3) false |>.putB (AX_STATE__ASC_ACTIVE 3) false |>.putB RED_STATUS__DSAFE false |>.put (RED_CE_STAT__STATE 0) 0, .host 1, 3, by decide +kernel⟩,
   ⟨(ownAx 1 3 (((((State.reset).put (AX_STATE__STATE 3) 5).putB (AX_STATE__CLOSING 3) false).setAx 3 {  }).setTm 3 {  })).putB (SAF_AX_STAT__SS1 3) false |>.putB RED_STATUS__DSAFE true, .host 1, 3, by decide +kernel⟩,
   ⟨(ownAx 1 3 (((((State.reset).put (AX_STATE__STATE 3) 1).putB (AX_STATE__CLOSING 3) false).setAx 3 {  }).setTm 3 {  })).putB (SAF_AX_STAT__SS1 3) false, .host 1, 3, 3, by decide +kernel⟩,
   ⟨(ownAx 1 3 (((((State.reset).put (AX_STATE__STATE 3) 6).putB (AX_STATE__CLOSING 3) false).setAx 3 { latched := [5] }).setTm 3 {  })).putB (SAF_AX_STAT__SS1 3) false, .host 1, 3, by decide +kernel⟩,
   ⟨(ownAx 1 3 (((((State.reset).put (AX_STATE__STATE 3) 5).putB (AX_STATE__CLOSING 3) false).setAx 3 { latched := [5] }).setTm 3 {  })).putB (SAF_AX_STAT__SS1 3) false, .host 1, 3, by decide +kernel⟩,
   ⟨runs 2 State.reset, 2, 3, by decide +kernel⟩,
   ⟨(ownAx 1 3 (((((State.reset).put (AX_STATE__STATE 3) 5).putB (AX_STATE__CLOSING 3) false).setAx 3 {  }).setTm 3 {  })).putB (SAF_AX_STAT__SS1 3) false, 1, 3, by decide +kernel⟩,
   ⟨(State.reset.put (AX_STATE__STATE 3) 5).setAx 3 { }, 3, by decide +kernel⟩,
   ⟨(State.reset.put (AX_STATE__STATE 3) 5).setAx 3 { latched := [5] }, 3, by decide +kernel⟩,
   ⟨State.reset.put (AX_STATE__STATE 3) 2, 3, by decide +kernel⟩⟩

set_option maxRecDepth 1000000 in
/-- States and operands that meet the conditions of SamplesAndSteps. -/
theorem witness_SamplesAndSteps :
    (∃ (s : State) (a : Fin 8) (e : Nat), s.coreClk = true ∧ s.sampleDue a.val = true ∧ s.axState a.val = 3 ∧ (s.ax a.val).closing = 0 ∧ (s.tm a.val).catchPh = 0 ∧ (s.tm a.val).stopTo = 0 ∧ (s.tm a.val).recov = 0 ∧ (s.ax a.val).feHold = false ∧ (s.ax a.val).req.map (·.target) ≠ some 4 ∧ s.tableMode a.val = false ∧ (s.ax a.val).req.map (·.target) ≠ some 0 ∧ s.engineFor a.val = some e) ∧
    (∃ (s : State) (a : Fin 8) (e : Nat), s.coreClk = true ∧ s.sampleDue a.val = true ∧ s.axState a.val = 3 ∧ (s.ax a.val).closing = 0 ∧ (s.tm a.val).catchPh = 0 ∧ (s.tm a.val).stopTo = 0 ∧ (s.tm a.val).recov = 0 ∧ (s.ax a.val).feHold = false ∧ (s.ax a.val).req.map (·.target) ≠ some 4 ∧ s.tableMode a.val = true ∧ s.engineFor a.val = some e) ∧
    (∃ (s : State) (a : Fin 8), s.coreClk = true ∧ s.sampleDue a.val = true ∧ s.axState a.val = 3 ∧ (s.ax a.val).closing = 0 ∧ (s.tm a.val).catchPh = 0 ∧ ((s.ax a.val).feHold = true ∨ (s.ax a.val).req.map (·.target) = some 4) ∧ s.engineFor a.val ≠ none) ∧
    (∃ (s : State) (a : Fin 8), s.coreClk = true ∧ s.sampleDue a.val = true ∧ (s.axState a.val = 3 ∨ s.axState a.val = 4) ∧ (s.ax a.val).closing = 0 ∧ (s.tm a.val).catchPh = 0 ∧ (s.ax a.val).feHold = false ∧ s.tableMode a.val = false ∧ (s.ax a.val).req.map (·.target) = some 0 ∧ s.engineFor a.val ≠ none) ∧
    (∃ (s : State) (a : Fin 8), s.coreClk = true ∧ s.sampleDue a.val = true ∧ s.axState a.val = 4 ∧ (s.ax a.val).closing = 0 ∧ (s.tm a.val).catchPh = 0 ∧ (s.tableMode a.val = true ∨ (s.ax a.val).req.map (·.target) ≠ some 0) ∧ s.engineFor a.val ≠ none) ∧
    (∃ (s : State) (a : Fin 8), s.coreClk = true ∧ s.sampleDue a.val = true ∧ (s.ax a.val).closing = 2 ∧ s.engineFor a.val ≠ none ∧ (s.ax a.val).closeSet < 2) ∧
    (∃ (s : State) (a : Fin 8), s.coreClk = true ∧ s.sampleDue a.val = true ∧ (s.ax a.val).closing = 3 ∧ (s.tm a.val).catchPh ≠ 5 ∧ s.engineFor a.val ≠ none) ∧
    (∃ (s : State) (a : Fin 8), s.coreClk = true ∧ s.sampleDue a.val = true ∧ s.axLive a.val = true ∧ s.engineFor a.val = none) ∧
    (∃ (s : State) (a : Fin 8), (s.coreClk = false ∨ s.sampleDue a.val = false ∨ s.axLive a.val = false ∧ (s.ax a.val).closing < 2)) ∧
    (∃ (s : State) (a : Fin 8), s.coreClk = true ∧ (s.ax a.val).stepDue = 1 ∧ ((wordFlt (s.rd (AX_FE_LIMIT a.val))).m ≤ 0 ∨ s.get (AX_FE_CFG__FE_ACT a.val) = 0 ∨ s.axState a.val ≠ 3)) ∧
    (∃ (s : State) (a : Fin 8) (fe : Int × Int) (lim : Flt), s.coreClk = true ∧ (s.ax a.val).stepDue = 1 ∧ s.axState a.val = 3 ∧ fe = s.followErr a.val (s.ax a.val).x (s.ax a.val).y (s.ax a.val).r0 ∧ lim = wordFlt (s.rd (AX_FE_LIMIT a.val)) ∧ 0 < lim.m ∧ lim.at (min fe.2 (lim.e - 23)) < fe.1 * (2 ^ (fe.2 - min fe.2 (lim.e - 23)).toNat : Nat) ∧ max 1 (s.get (AX_FE_TIME__FE_TIME a.val)) ≤ (s.ax a.val).feCount + 1 ∧ 2 ≤ s.get (AX_FE_CFG__FE_ACT a.val)) ∧
    (∃ (s : State) (a : Fin 8), s.coreClk = true ∧ (s.ax a.val).stepDue = 1 ∧ s.axState a.val = 3) ∧
    (∃ (s : State) (a : Fin 8), s.coreClk = true ∧ (s.ax a.val).stepDue = 1 ∧ s.axState a.val = 0 ∧ (s.ax a.val).closing = 3) ∧
    (∃ (s : State) (a : Fin 8), s.coreClk = true ∧ (s.ax a.val).stepDue = 2) ∧
    (∃ (s : State) (a : Fin 8), ((s.ax a.val).stepDue = 0 ∨ s.coreClk = false)) ∧
    (∃ (s : State) (a : Fin 8), s.coreClk = true ∧ (s.ax a.val).outDue = true ∧ (s.ax a.val).ready = true ∧ (s.ax a.val).closing = 0) ∧
    (∃ (s : State) (a : Fin 8), s.coreClk = true ∧ (s.ax a.val).outDue = true ∧ (s.ax a.val).ready = false ∧ (s.ax a.val).closing = 0 ∧ (s.ax a.val).streak < 3) ∧
    (∃ (s : State) (a : Fin 8), s.coreClk = true ∧ (s.ax a.val).outDue = true ∧ (s.ax a.val).ready = false ∧ 3 ≤ (s.ax a.val).streak ∧ s.axState a.val = 3) ∧
    (∃ (s : State) (a : Fin 8), s.coreClk = true ∧ (s.ax a.val).outDue = true ∧ (s.ax a.val).closing = 3 ∧ (s.ax a.val).ready = true) ∧
    (∃ (s : State) (a : Fin 8), ((s.ax a.val).outDue = false ∨ s.coreClk = false)) ∧
    (∃ (s : State) (a : Fin 8), s.coreClk = true ∧ (s.ax a.val).closing = 1 ∧ s.closeCheck a.val (s.ax a.val).closeSet = 0) ∧
    (∃ (s : State) (a : Fin 8), s.coreClk = true ∧ (s.ax a.val).closing = 1 ∧ s.closeCheck a.val (s.ax a.val).closeSet ≠ 0) ∧
    (∃ (s : State) (a : Fin 8), ((s.ax a.val).closing ≠ 1 ∨ s.coreClk = false)) ∧
    (∃ (s : State) (a : Fin 8), s.axState a.val = 4 ∧ (s.ax a.val).closing < 2) ∧
    (∃ (s : State) (a : Fin 8), s.axState a.val = 4 ∧ 2 ≤ (s.ax a.val).closing) ∧
    (∃ (s : State) (a : Fin 8), s.axState a.val ≠ 4) ∧
    (∃ (s : State) (w : Writer) (a : Fin 8) (k : Fin 256) (v : Word), s.may w (AX_BANKWIN a.val k.val) v = true) :=
  ⟨⟨(awake (((((State.reset).put (AX_STATE__STATE 3) 3).putB (AX_STATE__CLOSING 3) false).setAx 3 {  }).setTm 3 {  })).putB (SAF_AX_STAT__SS1 3) false |>.put (RED_CE_STAT__STATE 0) 0 |>.putB (AX_BIND__MODE 3) false |>.putB (AX_BIND__PI_EN 3) false, 3, 0, by decide +kernel⟩,
   ⟨(awake (((((State.reset).put (AX_STATE__STATE 3) 3).putB (AX_STATE__CLOSING 3) false).setAx 3 {  }).setTm 3 {  })).putB (SAF_AX_STAT__SS1 3) false |>.put (RED_CE_STAT__STATE 0) 0 |>.putB (AX_BIND__MODE 3) true |>.putB (AX_BIND__PI_EN 3) false, 3, 0, by decide +kernel⟩,
   ⟨(awake (((((State.reset).put (AX_STATE__STATE 3) 3).putB (AX_STATE__CLOSING 3) false).setAx 3 { req := some { target := 4 } }).setTm 3 {  })).putB (SAF_AX_STAT__SS1 3) false |>.put (RED_CE_STAT__STATE 0) 0 |>.putB (AX_BIND__PI_EN 3) false, 3, by decide +kernel⟩,
   ⟨(awake (((((State.reset).put (AX_STATE__STATE 3) 3).putB (AX_STATE__CLOSING 3) false).setAx 3 { req := some { target := 0 } }).setTm 3 {  })).putB (SAF_AX_STAT__SS1 3) false |>.put (RED_CE_STAT__STATE 0) 0 |>.putB (AX_BIND__MODE 3) false |>.putB (AX_BIND__PI_EN 3) false, 3, by decide +kernel⟩,
   ⟨(awake (((((State.reset).put (AX_STATE__STATE 3) 4).putB (AX_STATE__CLOSING 3) false).setAx 3 {  }).setTm 3 {  })).putB (SAF_AX_STAT__SS1 3) false |>.put (RED_CE_STAT__STATE 0) 0 |>.putB (AX_BIND__MODE 3) true |>.putB (AX_BIND__PI_EN 3) false, 3, by decide +kernel⟩,
   ⟨(awake (((((State.reset).put (AX_STATE__STATE 3) 0).putB (AX_STATE__CLOSING 3) false).setAx 3 { closing := 2 }).setTm 3 {  })).putB (SAF_AX_STAT__SS1 3) false |>.put (RED_CE_STAT__STATE 0) 0 |>.putB (AX_BIND__MODE 3) false |>.putB (AX_BIND__PI_EN 3) false, 3, by decide +kernel⟩,
   ⟨(awake (((((State.reset).put (AX_STATE__STATE 3) 0).putB (AX_STATE__CLOSING 3) false).setAx 3 { closing := 3 }).setTm 3 {  })).putB (SAF_AX_STAT__SS1 3) false |>.put (RED_CE_STAT__STATE 0) 0 |>.putB (AX_BIND__MODE 3) false |>.putB (AX_BIND__PI_EN 3) false, 3, by decide +kernel⟩,
   ⟨(awake (((((State.reset).put (AX_STATE__STATE 3) 3).putB (AX_STATE__CLOSING 3) false).setAx 3 {  }).setTm 3 {  })).putB (SAF_AX_STAT__SS1 3) false |>.put (RED_CE_STAT__STATE 0) 0 |>.put (RED_CE_STAT__STATE 0) 2 |>.put (RED_CE_STAT__STATE 1) 2, 3, by decide +kernel⟩,
   ⟨(awake (((((State.reset).put (AX_STATE__STATE 3) 1).putB (AX_STATE__CLOSING 3) false).setAx 3 {  }).setTm 3 {  })).putB (SAF_AX_STAT__SS1 3) false |>.put (RED_CE_STAT__STATE 0) 0, 3, by decide +kernel⟩,
   ⟨(awake (((((State.reset).put (AX_STATE__STATE 3) 3).putB (AX_STATE__CLOSING 3) false).setAx 3 { stepDue := 1 }).setTm 3 {  })).putB (SAF_AX_STAT__SS1 3) false |>.put (RED_CE_STAT__STATE 0) 0 |>.putB (AX_BIND__MODE 3) false |>.wr (AX_FE_LIMIT 3) 0, 3, by decide +kernel⟩,
   ⟨(awake (((((State.reset).put (AX_STATE__STATE 3) 3).putB (AX_STATE__CLOSING 3) false).setAx 3 { stepDue := 1, r0 := { m := 4194304, e := 0 }, feCount := 70000 }).setTm 3 {  })).putB (SAF_AX_STAT__SS1 3) false |>.put (RED_CE_STAT__STATE 0) 0 |>.putB (AX_BIND__MODE 3) false |>.wr (AX_FE_LIMIT 3) 0x00000100 |>.put (AX_FE_CFG__FE_ACT 3) 2 |>.putB (AX_FE_CFG__FE_REF 3) false |>.put (AX_FE_CFG__FE_SRC 3) 0, 3, (4194304 * 2 ^ 128, -151), { m := 256, e := 0 }, by decide +kernel⟩,
   ⟨(awake (((((State.reset).put (AX_STATE__STATE 3) 3).putB (AX_STATE__CLOSING 3) false).setAx 3 { stepDue := 1 }).setTm 3 {  })).putB (SAF_AX_STAT__SS1 3) false |>.put (RED_CE_STAT__STATE 0) 0 |>.putB (AX_BIND__MODE 3) false, 3, by decide +kernel⟩,
   ⟨(awake (((((State.reset).put (AX_STATE__STATE 3) 0).putB (AX_STATE__CLOSING 3) false).setAx 3 { stepDue := 1, closing := 3 }).setTm 3 {  })).putB (SAF_AX_STAT__SS1 3) false |>.put (RED_CE_STAT__STATE 0) 0 |>.putB (AX_BIND__MODE 3) false, 3, by decide +kernel⟩,
   ⟨(awake (((((State.reset).put (AX_STATE__STATE 3) 4).putB (AX_STATE__CLOSING 3) false).setAx 3 { stepDue := 2 }).setTm 3 {  })).putB (SAF_AX_STAT__SS1 3) false |>.put (RED_CE_STAT__STATE 0) 0, 3, by decide +kernel⟩,
   ⟨(awake (((((State.reset).put (AX_STATE__STATE 3) 4).putB (AX_STATE__CLOSING 3) false).setAx 3 {  }).setTm 3 {  })).putB (SAF_AX_STAT__SS1 3) false |>.put (RED_CE_STAT__STATE 0) 0, 3, by decide +kernel⟩,
   ⟨(awake (((((State.reset).put (AX_STATE__STATE 3) 3).putB (AX_STATE__CLOSING 3) false).setAx 3 { outDue := true, ready := true, u := { m := [1000, 2000], e := 0 } }).setTm 3 {  })).putB (SAF_AX_STAT__SS1 3) false |>.put (RED_CE_STAT__STATE 0) 0 |>.putB (AX_BIND__MODE 3) true |>.put (AX_UDST0__DST 3 0) 1, 3, by decide +kernel⟩,
   ⟨(awake (((((State.reset).put (AX_STATE__STATE 3) 3).putB (AX_STATE__CLOSING 3) false).setAx 3 { outDue := true }).setTm 3 {  })).putB (SAF_AX_STAT__SS1 3) false |>.put (RED_CE_STAT__STATE 0) 0, 3, by decide +kernel⟩,
   ⟨(awake (((((State.reset).put (AX_STATE__STATE 3) 3).putB (AX_STATE__CLOSING 3) false).setAx 3 { outDue := true, streak := 3 }).setTm 3 {  })).putB (SAF_AX_STAT__SS1 3) false |>.put (RED_CE_STAT__STATE 0) 0, 3, by decide +kernel⟩,
   ⟨(awake (((((State.reset).put (AX_STATE__STATE 3) 0).putB (AX_STATE__CLOSING 3) false).setAx 3 { outDue := true, closing := 3, ready := true }).setTm 3 {  })).putB (SAF_AX_STAT__SS1 3) false |>.put (RED_CE_STAT__STATE 0) 0 |>.putB (AX_BIND__MODE 3) false |>.put (AX_BIND_LEG__LEG_MASK 3) 0, 3, by decide +kernel⟩,
   ⟨(awake (((((State.reset).put (AX_STATE__STATE 3) 3).putB (AX_STATE__CLOSING 3) false).setAx 3 {  }).setTm 3 {  })).putB (SAF_AX_STAT__SS1 3) false |>.put (RED_CE_STAT__STATE 0) 0, 3, by decide +kernel⟩,
   ⟨awake (awake (awake (awake (awake ((fun s => let s := ((((s.put (AX_STATE__STATE 3) 0).putB (AX_STATE__CLOSING 3) true).setAx 3 { closing := 1 }).putB (AX_BIND__MODE 3) false).put (AX_BIND_LEG__LEG_MASK 3) 1; let s := (((((s.put (AX_TIMING__PERIOD 3) 2000).put (AX_OUTDLY__OUT_DELAY 3) 800).put (AX_TIMING__SYNC 3) 0).put (AX_CFG__XSEED 3) 0).put (AX_CFG__FF_MODE 3) 0).put (AX_YSRC__SRC 3 0 0) 0x30; let s := ((s.put (AX_UDST0__DST 3 0) 0).putB (GI_CFG__SERVICE 0) false).put (AX_STATUS__PARTIAL 3) 0; let s := bankWr 3 7 0 0x01010101 s; bankWr 3 7 15 (BitVec.ofNat 32 (s.setCrc 3 0)) s) State.reset))))), 3, by decide +kernel⟩,
   ⟨awake ((State.reset.put (AX_STATE__STATE 3) 0).setAx 3 { closing := 1 }), 3, by decide +kernel⟩,
   ⟨(awake (((((State.reset).put (AX_STATE__STATE 3) 1).putB (AX_STATE__CLOSING 3) false).setAx 3 {  }).setTm 3 {  })).putB (SAF_AX_STAT__SS1 3) false |>.put (RED_CE_STAT__STATE 0) 0, 3, by decide +kernel⟩,
   ⟨(awake (((((State.reset).put (AX_STATE__STATE 3) 4).putB (AX_STATE__CLOSING 3) false).setAx 3 {  }).setTm 3 {  })).putB (SAF_AX_STAT__SS1 3) false |>.put (RED_CE_STAT__STATE 0) 0, 3, by decide +kernel⟩,
   ⟨(awake (((((State.reset).put (AX_STATE__STATE 3) 4).putB (AX_STATE__CLOSING 3) false).setAx 3 { closing := 2 }).setTm 3 {  })).putB (SAF_AX_STAT__SS1 3) false |>.put (RED_CE_STAT__STATE 0) 0, 3, by decide +kernel⟩,
   ⟨(awake (((((State.reset).put (AX_STATE__STATE 3) 3).putB (AX_STATE__CLOSING 3) false).setAx 3 {  }).setTm 3 {  })).putB (SAF_AX_STAT__SS1 3) false |>.put (RED_CE_STAT__STATE 0) 0, 3, by decide +kernel⟩,
   ⟨(ownAx 1 3 ((((State.reset.put (AX_STATE__STATE 3) 1).putB (AX_STATE__CLOSING 3) false).setAx 3 { }).setTm 3 {})).put (AX_BANKSEL__BANK 3) 2, .host 1, 3, 7, 99, by decide +kernel⟩⟩

/-- States and operands that meet the conditions of TableDecisionAndTracker. -/
theorem witness_TableDecisionAndTracker :
    (∃ (s : State) (a : Fin 8), s.deciding a.val = true ∧ (s.tm a.val).stopTo = 0 ∧ (s.tm a.val).catchPh ≠ 2 ∧ (s.tm a.val).started = false) ∧
    (∃ (s : State) (a : Fin 8), s.deciding a.val = true ∧ (s.tm a.val).stopTo = 0 ∧ (s.tm a.val).catchPh ≠ 2 ∧ (s.tm a.val).started = true) ∧
    (∃ (s : State) (a : Fin 8), s.deciding a.val = true ∧ (s.tm a.val).stopTo = 0 ∧ (s.tm a.val).catchPh = 2) ∧
    (∃ (s : State) (a : Fin 8), s.deciding a.val = true ∧ (s.tm a.val).stopTo ≠ 0 ∧ (s.tm a.val).stopTo ≠ 2 ∧ (s.tm a.val).recov = 0 ∧ (s.tm a.val).catchPh ≠ 2 ∧ (s.tm a.val).tauRef = 0 ∧ ((estimate a.val s).tm a.val).tau.natAbs ≤ s.get (TM_HYST__HT a.val) * 2 ^ 11 ∧ s.on (AX_STATE__PO_BLOCK a.val) = false) ∧
    (∃ (s : State) (a : Fin 8), s.deciding a.val = true ∧ (s.tm a.val).stopTo = 2 ∧ (s.tm a.val).recov = 0 ∧ (s.tm a.val).catchPh ≠ 2 ∧ (s.tm a.val).tauRef = 0 ∧ ((estimate a.val s).tm a.val).tau.natAbs ≤ s.get (TM_HYST__HT a.val) * 2 ^ 11 ∧ s.on (AX_STATE__PO_BLOCK a.val) = false) ∧
    (∃ (s : State) (a : Fin 8), s.deciding a.val = true ∧ (s.tm a.val).stopTo ≠ 0 ∧ (s.tm a.val).recov = 0 ∧ (s.tm a.val).catchPh ≠ 2 ∧ (s.tm a.val).tauRef = 0 ∧ ((estimate a.val s).tm a.val).tau.natAbs ≤ s.get (TM_HYST__HT a.val) * 2 ^ 11 ∧ s.on (AX_STATE__PO_BLOCK a.val) = true) ∧
    (∃ (s : State) (a : Fin 8), s.deciding a.val = true ∧ (s.tm a.val).stopTo ≠ 0 ∧ (s.tm a.val).catchPh ≠ 2 ∧ ((s.tm a.val).recov ≠ 0 ∨ (s.tm a.val).tauRef ≠ 0 ∨ s.get (TM_HYST__HT a.val) * 2 ^ 11 < ((estimate a.val s).tm a.val).tau.natAbs)) ∧
    (∃ (s : State) (a : Fin 8), s.deciding a.val = false) ∧
    (∃ (s : State) (a : Fin 8) (ph : Fin 3) (rising : Bool) (i : Nat) (d : Nat), s.zcLive a.val = true ∧ s.fcUsable (s.zcChannel a.val ph.val) a.val = true ∧ i = zcIndex ph.val rising ∧ d = s.time - (s.tm a.val).tLast ∧ s.on (TM_STATUS__ZC_LOCK a.val) = false ∧ (((s.tm a.val).idxOk && i == ((s.tm a.val).idx + 1) % 6 && (decide ((s.tm a.val).accepted ≤ 1) || !(s.tm a.val).rev)) = true ∨ ((s.tm a.val).idxOk && i == ((s.tm a.val).idx + 5) % 6 && (decide ((s.tm a.val).accepted ≤ 1) || (s.tm a.val).rev)) = true) ∧ (s.tm a.val).accepted + 1 < 7) ∧
    (∃ (s : State) (a : Fin 8) (ph : Fin 3) (rising : Bool) (i : Nat) (d : Nat), s.zcLive a.val = true ∧ s.fcUsable (s.zcChannel a.val ph.val) a.val = true ∧ i = zcIndex ph.val rising ∧ d = s.time - (s.tm a.val).tLast ∧ s.on (TM_STATUS__ZC_LOCK a.val) = false ∧ (((s.tm a.val).idxOk && i == ((s.tm a.val).idx + 1) % 6 && (decide ((s.tm a.val).accepted ≤ 1) || !(s.tm a.val).rev)) = true ∨ ((s.tm a.val).idxOk && i == ((s.tm a.val).idx + 5) % 6 && (decide ((s.tm a.val).accepted ≤ 1) || (s.tm a.val).rev)) = true) ∧ 7 ≤ (s.tm a.val).accepted + 1 ∧ (s.tm a.val).recov ≠ 2) ∧
    (∃ (s : State) (a : Fin 8) (ph : Fin 3) (rising : Bool) (i : Nat) (d : Nat), s.zcLive a.val = true ∧ s.fcUsable (s.zcChannel a.val ph.val) a.val = true ∧ i = zcIndex ph.val rising ∧ d = s.time - (s.tm a.val).tLast ∧ s.on (TM_STATUS__ZC_LOCK a.val) = false ∧ (((s.tm a.val).idxOk && i == ((s.tm a.val).idx + 1) % 6 && (decide ((s.tm a.val).accepted ≤ 1) || !(s.tm a.val).rev)) = true ∨ ((s.tm a.val).idxOk && i == ((s.tm a.val).idx + 5) % 6 && (decide ((s.tm a.val).accepted ≤ 1) || (s.tm a.val).rev)) = true) ∧ 7 ≤ (s.tm a.val).accepted + 1 ∧ (s.tm a.val).recov = 2) ∧
    (∃ (s : State) (a : Fin 8) (ph : Fin 3) (rising : Bool) (i : Nat) (d : Nat), s.zcLive a.val = true ∧ s.fcUsable (s.zcChannel a.val ph.val) a.val = true ∧ i = zcIndex ph.val rising ∧ d = s.time - (s.tm a.val).tLast ∧ s.on (TM_STATUS__ZC_LOCK a.val) = false ∧ ((s.tm a.val).idxOk && i == ((s.tm a.val).idx + 1) % 6 && (decide ((s.tm a.val).accepted ≤ 1) || !(s.tm a.val).rev)) = false ∧ ((s.tm a.val).idxOk && i == ((s.tm a.val).idx + 5) % 6 && (decide ((s.tm a.val).accepted ≤ 1) || (s.tm a.val).rev)) = false) ∧
    (∃ (s : State) (a : Fin 8) (ph : Fin 3) (rising : Bool) (i : Nat) (d : Nat), s.zcLive a.val = true ∧ s.fcUsable (s.zcChannel a.val ph.val) a.val = true ∧ i = zcIndex ph.val rising ∧ d = s.time - (s.tm a.val).tLast ∧ s.on (TM_STATUS__ZC_LOCK a.val) = true ∧ i = (if (s.tm a.val).rev then (s.tm a.val).idx + 5 else (s.tm a.val).idx + 1) % 6 ∧ (3 * (s.tm a.val).ivals.foldl (· + ·) 0 ≤ 24 * d ∧ 24 * d ≤ 5 * (s.tm a.val).ivals.foldl (· + ·) 0 ∧ 3125 ≤ 4 * d)) ∧
    (∃ (s : State) (a : Fin 8) (ph : Fin 3) (rising : Bool) (i : Nat) (d : Nat), s.zcLive a.val = true ∧ s.fcUsable (s.zcChannel a.val ph.val) a.val = true ∧ i = zcIndex ph.val rising ∧ d = s.time - (s.tm a.val).tLast ∧ s.on (TM_STATUS__ZC_LOCK a.val) = true ∧ (i ≠ (if (s.tm a.val).rev then (s.tm a.val).idx + 5 else (s.tm a.val).idx + 1) % 6 ∨ ¬ (3 * (s.tm a.val).ivals.foldl (· + ·) 0 ≤ 24 * d ∧ 24 * d ≤ 5 * (s.tm a.val).ivals.foldl (· + ·) 0 ∧ 3125 ≤ 4 * d)) ∧ (s.tm a.val).rejected < 2) ∧
    (∃ (s : State) (a : Fin 8) (ph : Fin 3) (rising : Bool) (i : Nat) (d : Nat), s.zcLive a.val = true ∧ s.fcUsable (s.zcChannel a.val ph.val) a.val = true ∧ i = zcIndex ph.val rising ∧ d = s.time - (s.tm a.val).tLast ∧ s.on (TM_STATUS__ZC_LOCK a.val) = true ∧ (i ≠ (if (s.tm a.val).rev then (s.tm a.val).idx + 5 else (s.tm a.val).idx + 1) % 6 ∨ ¬ (3 * (s.tm a.val).ivals.foldl (· + ·) 0 ≤ 24 * d ∧ 24 * d ≤ 5 * (s.tm a.val).ivals.foldl (· + ·) 0 ∧ 3125 ≤ 4 * d)) ∧ 2 ≤ (s.tm a.val).rejected) ∧
    (∃ (s : State) (a : Fin 8), s.zcLive a.val = true ∧ s.on (TM_STATUS__ZC_LOCK a.val) = true ∧ (s.tm a.val).rejected < 2) ∧
    (∃ (s : State) (a : Fin 8), s.zcLive a.val = true ∧ s.on (TM_STATUS__ZC_LOCK a.val) = true ∧ 2 ≤ (s.tm a.val).rejected) ∧
    (∃ (s : State) (a : Fin 8), (s.zcLive a.val = false ∨ s.on (TM_STATUS__ZC_LOCK a.val) = false)) ∧
    (∃ (s : State) (a : Fin 8), s.zcLive a.val = true) ∧
    (∃ (s : State) (a : Fin 8) (ph : Fin 3), s.zcLive a.val = false ∨ s.fcUsable (s.zcChannel a.val ph.val) a.val = false) ∧
    (∃ (s : State) (a : Fin 8), s.zcLive a.val = false) :=
  ⟨⟨(awake (((((((State.reset).putB (AX_BIND__MODE 3) true).putB (AX_BIND__PM 3) false).put (AX_STATE__STATE 3) 3).putB (AX_STATE__CLOSING 3) false).setAx 3 { }).setTm 3 { })), 3, by decide +kernel⟩,
   ⟨(awake (((((((State.reset).putB (AX_BIND__MODE 3) true).putB (AX_BIND__PM 3) false).put (AX_STATE__STATE 3) 3).putB (AX_STATE__CLOSING 3) false).setAx 3 { }).setTm 3 { started := true, vec := 5 })), 3, by decide +kernel⟩,
   ⟨(awake (((((((State.reset).putB (AX_BIND__MODE 3) true).putB (AX_BIND__PM 3) false).put (AX_STATE__STATE 3) 2).putB (AX_STATE__CLOSING 3) false).setAx 3 { }).setTm 3 { catchPh := 2 })), 3, by decide +kernel⟩,
   ⟨(awake (((((((State.reset).putB (AX_BIND__MODE 3) true).putB (AX_BIND__PM 3) false).put (AX_STATE__STATE 3) 3).putB (AX_STATE__CLOSING 3) false).setAx 3 { }).setTm 3 { stopTo := 1 })) |>.putB (AX_STATE__PO_BLOCK 3) false |>.put (TM_HYST__HT 3) 9 |>.putB (FM_CH_BIND__BOUND 0) true |>.put (FM_CH_BIND__AXIS 0) 3, 3, by decide +kernel⟩,
   ⟨(awake (((((((State.reset).putB (AX_BIND__MODE 3) true).putB (AX_BIND__PM 3) false).put (AX_STATE__STATE 3) 3).putB (AX_STATE__CLOSING 3) false).setAx 3 { }).setTm 3 { stopTo := 2 })) |>.putB (AX_STATE__PO_BLOCK 3) false |>.put (TM_HYST__HT 3) 9 |>.putB (FM_CH_BIND__BOUND 0) true |>.put (FM_CH_BIND__AXIS 0) 3, 3, by decide +kernel⟩,
   ⟨(awake (((((((State.reset).putB (AX_BIND__MODE 3) true).putB (AX_BIND__PM 3) false).put (AX_STATE__STATE 3) 3).putB (AX_STATE__CLOSING 3) false).setAx 3 { }).setTm 3 { stopTo := 1 })) |>.putB (AX_STATE__PO_BLOCK 3) true |>.put (TM_HYST__HT 3) 9 |>.putB (FM_CH_BIND__BOUND 0) true |>.put (FM_CH_BIND__AXIS 0) 3, 3, by decide +kernel⟩,
   ⟨(awake (((((((State.reset).putB (AX_BIND__MODE 3) true).putB (AX_BIND__PM 3) false).put (AX_STATE__STATE 3) 3).putB (AX_STATE__CLOSING 3) false).setAx 3 { }).setTm 3 { stopTo := 1, tauRef := 5 })), 3, by decide +kernel⟩,
   ⟨(awake (((((((State.reset).putB (AX_BIND__MODE 3) true).putB (AX_BIND__PM 3) false).put (AX_STATE__STATE 3) 1).putB (AX_STATE__CLOSING 3) false).setAx 3 { }).setTm 3 { })), 3, by decide +kernel⟩,
   ⟨((awake (((((((State.reset).putB (AX_BIND__MODE 3) true).putB (AX_BIND__PM 3) false).put (AX_STATE__STATE 3) 1).putB (AX_STATE__CLOSING 3) false).setAx 3 { }).setTm 3 { tracking := true, idx := 4, idxOk := true, accepted := 3 }))) |>.putB (FM_CH_BIND__BOUND 0) false |>.putB (FM_CH_BIND__SHARED 0) true |>.put (FM_CH_BIND__SHARE_MASK 0) 0xFF, 3, 1, true, 5, 0, by decide +kernel⟩,
   ⟨((awake (((((((State.reset).putB (AX_BIND__MODE 3) true).putB (AX_BIND__PM 3) false).put (AX_STATE__STATE 3) 1).putB (AX_STATE__CLOSING 3) false).setAx 3 { }).setTm 3 { tracking := true, idx := 4, idxOk := true, accepted := 6 }))) |>.putB (FM_CH_BIND__BOUND 0) false |>.putB (FM_CH_BIND__SHARED 0) true |>.put (FM_CH_BIND__SHARE_MASK 0) 0xFF, 3, 1, true, 5, 0, by decide +kernel⟩,
   ⟨((awake (((((((State.reset).putB (AX_BIND__MODE 3) true).putB (AX_BIND__PM 3) false).put (AX_STATE__STATE 3) 3).putB (AX_STATE__CLOSING 3) false).setAx 3 { }).setTm 3 { tracking := true, idx := 4, idxOk := true, accepted := 6, recov := 2 }))) |>.putB (FM_CH_BIND__BOUND 0) false |>.putB (FM_CH_BIND__SHARED 0) true |>.put (FM_CH_BIND__SHARE_MASK 0) 0xFF, 3, 1, true, 5, 0, by decide +kernel⟩,
   ⟨((awake (((((((State.reset).putB (AX_BIND__MODE 3) true).putB (AX_BIND__PM 3) false).put (AX_STATE__STATE 3) 1).putB (AX_STATE__CLOSING 3) false).setAx 3 { }).setTm 3 { tracking := true }))) |>.putB (FM_CH_BIND__BOUND 0) false |>.putB (FM_CH_BIND__SHARED 0) true |>.put (FM_CH_BIND__SHARE_MASK 0) 0xFF, 3, 1, true, 5, 0, by decide +kernel⟩,
   ⟨((awake (((((((State.reset).putB (AX_BIND__MODE 3) true).putB (AX_BIND__PM 3) false).put (AX_STATE__STATE 3) 1).putB (AX_STATE__CLOSING 3) false).setAx 3 { }).setTm 3 { tracking := true, idx := 4, idxOk := true, accepted := 7, ivals := [1000, 1000, 1000, 1000, 1000, 1000] })) |>.putB (TM_STATUS__ZC_LOCK 3) true |>.upSys fun y => { y with timeAcc := 1000 * 2 ^ 25 }) |>.putB (FM_CH_BIND__BOUND 0) false |>.putB (FM_CH_BIND__SHARED 0) true |>.put (FM_CH_BIND__SHARE_MASK 0) 0xFF, 3, 1, true, 5, 1000, by decide +kernel⟩,
   ⟨((awake (((((((State.reset).putB (AX_BIND__MODE 3) true).putB (AX_BIND__PM 3) false).put (AX_STATE__STATE 3) 1).putB (AX_STATE__CLOSING 3) false).setAx 3 { }).setTm 3 { tracking := true, idx := 2, idxOk := true, accepted := 7 })) |>.putB (TM_STATUS__ZC_LOCK 3) true) |>.putB (FM_CH_BIND__BOUND 0) false |>.putB (FM_CH_BIND__SHARED 0) true |>.put (FM_CH_BIND__SHARE_MASK 0) 0xFF, 3, 1, true, 5, 0, by decide +kernel⟩,
   ⟨((awake (((((((State.reset).putB (AX_BIND__MODE 3) true).putB (AX_BIND__PM 3) false).put (AX_STATE__STATE 3) 1).putB (AX_STATE__CLOSING 3) false).setAx 3 { }).setTm 3 { tracking := true, idx := 2, idxOk := true, accepted := 7, rejected := 2 })) |>.putB (TM_STATUS__ZC_LOCK 3) true) |>.putB (FM_CH_BIND__BOUND 0) false |>.putB (FM_CH_BIND__SHARED 0) true |>.put (FM_CH_BIND__SHARE_MASK 0) 0xFF, 3, 1, true, 5, 0, by decide +kernel⟩,
   ⟨(awake (((((((State.reset).putB (AX_BIND__MODE 3) true).putB (AX_BIND__PM 3) false).put (AX_STATE__STATE 3) 1).putB (AX_STATE__CLOSING 3) false).setAx 3 { }).setTm 3 { tracking := true, idx := 2, idxOk := true, accepted := 7 })) |>.putB (TM_STATUS__ZC_LOCK 3) true, 3, by decide +kernel⟩,
   ⟨(awake (((((((State.reset).putB (AX_BIND__MODE 3) true).putB (AX_BIND__PM 3) false).put (AX_STATE__STATE 3) 1).putB (AX_STATE__CLOSING 3) false).setAx 3 { }).setTm 3 { tracking := true, idx := 2, idxOk := true, accepted := 7, rejected := 2 })) |>.putB (TM_STATUS__ZC_LOCK 3) true, 3, by decide +kernel⟩,
   ⟨(awake (((((((State.reset).putB (AX_BIND__MODE 3) true).putB (AX_BIND__PM 3) false).put (AX_STATE__STATE 3) 1).putB (AX_STATE__CLOSING 3) false).setAx 3 { }).setTm 3 { })), 3, by decide +kernel⟩,
   ⟨(awake (((((((State.reset).putB (AX_BIND__MODE 3) true).putB (AX_BIND__PM 3) false).put (AX_STATE__STATE 3) 5).putB (AX_STATE__CLOSING 3) false).setAx 3 { }).setTm 3 { tracking := true, idx := 2, idxOk := true })), 3, by decide +kernel⟩,
   ⟨State.reset, 3, 0, by decide +kernel⟩,
   ⟨(awake (((((((State.reset).putB (AX_BIND__MODE 3) true).putB (AX_BIND__PM 3) false).put (AX_STATE__STATE 3) 1).putB (AX_STATE__CLOSING 3) false).setAx 3 { }).setTm 3 { })), 3, by decide +kernel⟩⟩

set_option maxRecDepth 1000000 in
/-- States and operands that meet the conditions of CatchAndRecovery. -/
theorem witness_CatchAndRecovery :
    (∃ (s : State) (a : Fin 8), (s.tableMode a.val && s.on (TM_CATCH_CFG__TRIG_EN a.val) && decide (s.get (TM_CATCH_CFG__TRIG_DIN a.val) < 24) && (s.axState a.val == 1) && (s.ax a.val).req.isNone && !s.on (AX_STATE__CLOSING a.val) && s.on SAF_STATUS__ARMED && !(s.on SAF_STATUS__STO_ACT && s.on (SAF_AX_CFG__STO_EN a.val))) = true) ∧
    (∃ (s : State) (a : Fin 8), (s.tableMode a.val && s.on (TM_CATCH_CFG__TRIG_EN a.val) && decide (s.get (TM_CATCH_CFG__TRIG_DIN a.val) < 24) && (s.axState a.val == 1) && (s.ax a.val).req.isNone && !s.on (AX_STATE__CLOSING a.val) && s.on SAF_STATUS__ARMED && !(s.on SAF_STATUS__STO_ACT && s.on (SAF_AX_CFG__STO_EN a.val))) = false) ∧
    (∃ (s : State) (a : Fin 8), (s.tm a.val).catchPh = 1 ∧ s.awake = true ∧ s.coreClk = true ∧ s.fastClk = true ∧ s.closeCheck a.val (s.ax a.val).closeSet ≠ 0) ∧
    (∃ (s : State) (a : Fin 8), (s.tm a.val).catchPh = 1 ∧ s.awake = true ∧ s.coreClk = true ∧ s.fastClk = true ∧ s.closeCheck a.val (s.ax a.val).closeSet = 0 ∧ s.zcSpd a.val = none ∧ s.axPi a.val = none) ∧
    (∃ (s : State) (a : Fin 8), (s.tm a.val).catchPh = 1 ∧ s.awake = true ∧ s.coreClk = true ∧ s.fastClk = true ∧ s.closeCheck a.val (s.ax a.val).closeSet = 0 ∧ ((s.zcSpd a.val).isSome = true ∨ (s.axPi a.val).isSome = true)) ∧
    (∃ (s : State) (a : Fin 8), (s.tm a.val).catchPh ≠ 1 ∨ s.awake = false ∨ s.coreClk = false ∨ s.fastClk = false) ∧
    (∃ (s : State) (a : Fin 8), (s.tm a.val).catchPh = 3 ∧ max 1 (s.get (TM_CATCH_CFG__VERIFY a.val)) ≤ (s.tm a.val).verified ∧ ((s.tm a.val).eps.take (s.tm a.val).verified).foldl (· + ·) 0 ≤ ((s.get (TM_CATCH_TOL__FLUX_TOL a.val) * 2 ^ 11 * max 1 ((s.tm a.val).eps.take (s.tm a.val).verified).length : Nat) : Int) ∧ s.angleAgrees a.val = true) ∧
    (∃ (s : State) (a : Fin 8), (s.tm a.val).catchPh = 3 ∧ max 1 (s.get (TM_CATCH_CFG__VERIFY a.val)) ≤ (s.tm a.val).verified ∧ (((s.get (TM_CATCH_TOL__FLUX_TOL a.val) * 2 ^ 11 * max 1 ((s.tm a.val).eps.take (s.tm a.val).verified).length : Nat) : Int) < ((s.tm a.val).eps.take (s.tm a.val).verified).foldl (· + ·) 0) ∧ s.angleAgrees a.val = true ∧ (s.tm a.val).recov ≠ 3 ∧ s.on (AX_STATE__PO_BLOCK a.val) = false) ∧
    (∃ (s : State) (a : Fin 8), (s.tm a.val).catchPh = 3 ∧ max 1 (s.get (TM_CATCH_CFG__VERIFY a.val)) ≤ (s.tm a.val).verified ∧ s.angleAgrees a.val = false ∧ (s.tm a.val).recov ≠ 3 ∧ s.on (AX_STATE__PO_BLOCK a.val) = false) ∧
    (∃ (s : State) (a : Fin 8), (s.tm a.val).catchPh = 3 ∧ max 1 (s.get (TM_CATCH_CFG__VERIFY a.val)) ≤ (s.tm a.val).verified ∧ ((((s.get (TM_CATCH_TOL__FLUX_TOL a.val) * 2 ^ 11 * max 1 ((s.tm a.val).eps.take (s.tm a.val).verified).length : Nat) : Int) < ((s.tm a.val).eps.take (s.tm a.val).verified).foldl (· + ·) 0) ∨ s.angleAgrees a.val = false) ∧ ((s.tm a.val).recov = 3 ∨ s.on (AX_STATE__PO_BLOCK a.val) = true) ∧ s.axLive a.val = true) ∧
    (∃ (s : State) (a : Fin 8), ((s.tm a.val).catchPh ≠ 3 ∨ (s.tm a.val).verified < max 1 (s.get (TM_CATCH_CFG__VERIFY a.val)))) ∧
    (∃ (s : State) (a : Fin 8), (s.tm a.val).recov = 4 ∧ s.axLive a.val = true) ∧
    (∃ (s : State) (a : Fin 8), (s.tm a.val).recov = 1 ∧ s.axLive a.val = true ∧ (updatePo a.val s).on (AX_STATE__PO_BLOCK a.val) = true) ∧
    (∃ (s : State) (a : Fin 8), (s.tm a.val).recov = 1 ∧ (updatePo a.val s).on (AX_STATE__PO_BLOCK a.val) = false ∧ (s.tm a.val).stopTo ≠ 0) ∧
    (∃ (s : State) (a : Fin 8), (s.tm a.val).recov = 1 ∧ (updatePo a.val s).on (AX_STATE__PO_BLOCK a.val) = false ∧ (s.tm a.val).stopTo = 0) ∧
    (∃ (s : State) (a : Fin 8), (s.tm a.val).recov ≠ 1 ∧ (s.tm a.val).recov ≠ 4) ∧
    (∃ (s : State) (a : Fin 8), (s.tm a.val).recov = 2 ∧ s.axLive a.val = true) ∧
    (∃ (s : State) (a : Fin 8), (s.tm a.val).recov ≠ 2) :=
  ⟨⟨(awake (((((((State.reset).putB (AX_BIND__MODE 3) true).putB (AX_BIND__PM 3) false).put (AX_STATE__STATE 3) 1).putB (AX_STATE__CLOSING 3) false).setAx 3 { }).setTm 3 { })) |>.putB (TM_CATCH_CFG__TRIG_EN 3) true |>.put (TM_CATCH_CFG__TRIG_DIN 3) 5 |>.putB SAF_STATUS__ARMED true |>.putB SAF_STATUS__STO_ACT false, 3, by decide +kernel⟩,
   ⟨State.reset, 3, by decide +kernel⟩,
   ⟨(awake (((((((State.reset).putB (AX_BIND__MODE 3) true).putB (AX_BIND__PM 3) false).put (AX_STATE__STATE 3) 1).putB (AX_STATE__CLOSING 3) false).setAx 3 { }).setTm 3 { catchPh := 1 })), 3, by decide +kernel⟩,
   ⟨(fun s => let s := s.putB (AX_BIND__MODE 3) true |>.putB (AX_BIND__PM 3) true |>.put (AX_STATE__STATE 3) 1 |>.putB (AX_STATE__CLOSING 3) true |>.setAx 3 {} |>.setTm 3 { catchPh := 1, tracking := true } |>.putB (TM_STATUS__ZC_LOCK 3) false |>.put (AX_BIND_LEG__LEG_MASK 3) 7; let s := (((((s.put (AX_TIMING__PERIOD 3) 2000).put (AX_OUTDLY__OUT_DELAY 3) 800).put (AX_TIMING__SYNC 3) 0).put (AX_CFG__XSEED 3) 0).put (AX_CFG__FF_MODE 3) 0).put (AX_YSRC__SRC 3 0 0) 0x30; let s := (((s.put (AX_UDST0__DST 3 0) 1).put (AX_UDST0__DST 3 1) 2).putB (GI_CFG__SERVICE 0) false).put (AX_STATUS__PARTIAL 3) 0; let s := bankWr 3 7 0 0x01010201 s; bankWr 3 7 15 3879237804 s) State.reset |> awake, 3, by decide +kernel⟩,
   ⟨(fun s => let s := s.putB (AX_BIND__MODE 3) true |>.putB (AX_BIND__PM 3) true |>.put (AX_STATE__STATE 3) 1 |>.putB (AX_STATE__CLOSING 3) true |>.setAx 3 {} |>.setTm 3 { catchPh := 1, tracking := true } |>.putB (TM_STATUS__ZC_LOCK 3) true |>.put (AX_BIND_LEG__LEG_MASK 3) 7; let s := (((((s.put (AX_TIMING__PERIOD 3) 2000).put (AX_OUTDLY__OUT_DELAY 3) 800).put (AX_TIMING__SYNC 3) 0).put (AX_CFG__XSEED 3) 0).put (AX_CFG__FF_MODE 3) 0).put (AX_YSRC__SRC 3 0 0) 0x30; let s := (((s.put (AX_UDST0__DST 3 0) 1).put (AX_UDST0__DST 3 1) 2).putB (GI_CFG__SERVICE 0) false).put (AX_STATUS__PARTIAL 3) 0; let s := bankWr 3 7 0 0x01010201 s; bankWr 3 7 15 3879237804 s) State.reset |> awake, 3, by decide +kernel⟩,
   ⟨State.reset, 3, by decide +kernel⟩,
   ⟨(awake (((((((State.reset).putB (AX_BIND__MODE 3) true).putB (AX_BIND__PM 3) false).put (AX_STATE__STATE 3) 2).putB (AX_STATE__CLOSING 3) false).setAx 3 { }).setTm 3 { catchPh := 3, verified := 300, lpA := 2 ^ 30 })) |>.put (TM_CATCH_CFG__ANG_TOL 3) 9, 3, by decide +kernel⟩,
   ⟨(awake (((((((State.reset).putB (AX_BIND__MODE 3) true).putB (AX_BIND__PM 3) false).put (AX_STATE__STATE 3) 2).putB (AX_STATE__CLOSING 3) false).setAx 3 { }).setTm 3 { catchPh := 3, verified := 300, lpA := 2 ^ 30, eps := [1000000000000] })) |>.put (TM_CATCH_CFG__ANG_TOL 3) 9 |>.putB (AX_STATE__PO_BLOCK 3) false, 3, by decide +kernel⟩,
   ⟨(awake (((((((State.reset).putB (AX_BIND__MODE 3) true).putB (AX_BIND__PM 3) false).put (AX_STATE__STATE 3) 2).putB (AX_STATE__CLOSING 3) false).setAx 3 { }).setTm 3 { catchPh := 3, verified := 300, lpA := -(2 ^ 30) })) |>.put (TM_CATCH_CFG__ANG_TOL 3) 9 |>.putB (AX_STATE__PO_BLOCK 3) false, 3, by decide +kernel⟩,
   ⟨(awake (((((((State.reset).putB (AX_BIND__MODE 3) true).putB (AX_BIND__PM 3) false).put (AX_STATE__STATE 3) 2).putB (AX_STATE__CLOSING 3) false).setAx 3 { }).setTm 3 { catchPh := 3, verified := 300, lpA := -(2 ^ 30), recov := 3 })) |>.put (TM_CATCH_CFG__ANG_TOL 3) 9, 3, by decide +kernel⟩,
   ⟨(awake (((((((State.reset).putB (AX_BIND__MODE 3) true).putB (AX_BIND__PM 3) false).put (AX_STATE__STATE 3) 1).putB (AX_STATE__CLOSING 3) false).setAx 3 { }).setTm 3 { })), 3, by decide +kernel⟩,
   ⟨(awake (((((((State.reset).putB (AX_BIND__MODE 3) true).putB (AX_BIND__PM 3) false).put (AX_STATE__STATE 3) 3).putB (AX_STATE__CLOSING 3) false).setAx 3 { }).setTm 3 { recov := 4 })), 3, by decide +kernel⟩,
   ⟨(awake (((((((State.reset).putB (AX_BIND__MODE 3) true).putB (AX_BIND__PM 3) false).put (AX_STATE__STATE 3) 3).putB (AX_STATE__CLOSING 3) false).setAx 3 { }).setTm 3 { recov := 1, goodSpeed := 8000000 })) |>.putB (AX_BIND__PM 3) true |>.put (TM_KE__KE 3) 65535 |>.put (TM_VLIM__VLIM 3) 0, 3, by decide +kernel⟩,
   ⟨(awake (((((((State.reset).putB (AX_BIND__MODE 3) true).putB (AX_BIND__PM 3) false).put (AX_STATE__STATE 3) 3).putB (AX_STATE__CLOSING 3) false).setAx 3 { }).setTm 3 { recov := 1, stopTo := 1 })), 3, by decide +kernel⟩,
   ⟨(awake (((((((State.reset).putB (AX_BIND__MODE 3) true).putB (AX_BIND__PM 3) false).put (AX_STATE__STATE 3) 3).putB (AX_STATE__CLOSING 3) false).setAx 3 { }).setTm 3 { recov := 1 })), 3, by decide +kernel⟩,
   ⟨(awake (((((((State.reset).putB (AX_BIND__MODE 3) true).putB (AX_BIND__PM 3) false).put (AX_STATE__STATE 3) 1).putB (AX_STATE__CLOSING 3) false).setAx 3 { }).setTm 3 { })), 3, by decide +kernel⟩,
   ⟨(awake (((((((State.reset).putB (AX_BIND__MODE 3) true).putB (AX_BIND__PM 3) false).put (AX_STATE__STATE 3) 3).putB (AX_STATE__CLOSING 3) false).setAx 3 { }).setTm 3 { recov := 2 })), 3, by decide +kernel⟩,
   ⟨(awake (((((((State.reset).putB (AX_BIND__MODE 3) true).putB (AX_BIND__PM 3) false).put (AX_STATE__STATE 3) 3).putB (AX_STATE__CLOSING 3) false).setAx 3 { }).setTm 3 { })), 3, by decide +kernel⟩⟩

/-- States and operands that meet the conditions of CarrierLegs. -/
theorem witness_CarrierLegs :
    (∃ (s : State) (m : Fin 24) (mid : Bool), s.on (LEG_STATUS__RUNNING m.val) = true ∧ (mid = false ∨ s.legLoadMid m.val = true)) ∧
    (∃ (s : State) (m : Fin 24), s.on (LEG_STATUS__RUNNING m.val) = true) ∧
    (∃ (s : State) (m : Fin 24) (mid : Bool), (s.on (LEG_STATUS__RUNNING m.val) = false ∨ (mid = true ∧ s.legLoadMid m.val = false))) ∧
    (∃ (s : State) (m : Fin 24) (d : BitVec 32) (b : Bool) (v : SetS) (l : List (Bool × SetS)), (s.leg m.val).arr = (b, v) :: l ∧ (4 < d.toNat ∨ s.on (LEG_STATUS__RUNNING m.val) = false)) ∧
    (∃ (s : State) (m : Fin 24) (d : BitVec 32) (b : Bool) (v : SetS) (l : List (Bool × SetS)), (s.leg m.val).arr = (b, v) :: l ∧ d.toNat ≤ 4 ∧ s.on (LEG_STATUS__RUNNING m.val) = true) ∧
    (∃ (s : State) (m : Fin 24), (s.leg m.val).arr = []) ∧
    (∃ (s : State) (m : Fin 24), s.legAxis m.val = none) ∧
    (∃ (s : State) (m : Fin 24) (k : Fin 24) (a : Nat), s.legAxis m.val = some a ∧ ((s.axLegs a).filter s.legGrouped).contains k.val = true) ∧
    (∃ (s : State) (m : Fin 24) (k : Fin 24) (a : Nat), s.legAxis m.val = some a ∧ ((s.axLegs a).filter s.legGrouped).contains k.val = false) ∧
    (∃ (s : State) (m : Fin 24) (c : CntEvent) (v : Nat × Bool), s.on (LEG_STATUS__RUNNING m.val) = true ∧ s.cntEvent m.val c = some v ∧ s.reloadClock m.val v = false) ∧
    (∃ (s : State) (m : Fin 24) (c : CntEvent), (s.on (LEG_STATUS__RUNNING m.val) = false ∨ s.cntEvent m.val c = none ∨ (s.cntEvent m.val c).map (s.reloadClock m.val) = some true)) ∧
    (∃ (s : State) (m : Fin 24), s.chopWaits m.val = true) ∧
    (∃ (s : State) (m : Fin 24), s.chopWaits m.val = false) ∧
    (∃ (s : State) (m : Fin 24), s.legTable m.val = false ∧ s.get (LEG_MASK__SRC m.val) = 1) ∧
    (∃ (s : State) (m : Fin 24), s.legTable m.val = false ∧ s.get (LEG_MASK__SRC m.val) = 2 ∧ (s.leg m.val).maskDue ≠ 0) ∧
    (∃ (s : State) (m : Fin 24), s.legTable m.val = false ∧ s.get (LEG_MASK__SRC m.val) = 3 ∧ (s.leg m.val).maskDue ≠ 0) ∧
    (∃ (s : State) (m : Fin 24), (s.legTable m.val = true ∨ s.get (LEG_MASK__SRC m.val) = 0 ∨ (s.get (LEG_MASK__SRC m.val) ≠ 1 ∧ (s.leg m.val).maskDue = 0))) ∧
    (∃ (s : State) (m : Fin 24), (s.leg m.val).dead ≠ 0 ∧ (s.leg m.val).dead ≠ 2) ∧
    (∃ (s : State) (m : Fin 24), (s.leg m.val).dead = 2) ∧
    (∃ (s : State) (m : Fin 24), (s.leg m.val).dead = 0) ∧
    (∃ (s : State) (m : Fin 24), (s.leg m.val).wait = true) ∧
    (∃ (s : State) (m : Fin 24), (s.leg m.val).wait = false) :=
  ⟨⟨((State.reset).upLeg 5 fun _ => { pend := { prd := some 900 }, late := { cmp := [some 3, none, none, none] } }) |>.putB (LEG_STATUS__RUNNING 5) true, 5, false, by decide +kernel⟩,
   ⟨((State.reset).upLeg 5 fun _ => { pend := { prd := some 900 }, late := { cmp := [some 3, none, none, none] } }) |>.putB (LEG_STATUS__RUNNING 5) true, 5, by decide +kernel⟩,
   ⟨State.reset, 5, false, by decide +kernel⟩,
   ⟨((State.reset).upLeg 5 fun _ => { arr := [(false, { prd := some 70 }), (true, {})] }), 5, 9, false, { prd := some 70 }, [(true, {})], by decide +kernel⟩,
   ⟨((State.reset).upLeg 5 fun _ => { arr := [(false, { prd := some 70 }), (true, {})] }) |>.putB (LEG_STATUS__RUNNING 5) true, 5, 3, false, { prd := some 70 }, [(true, {})], by decide +kernel⟩,
   ⟨State.reset, 5, by decide +kernel⟩,
   ⟨(fun s => (List.range 8).foldl (fun (s : State) a => s.put (AX_BIND_LEG__LEG_MASK a) 0) s) (((State.reset).upLeg 5 fun _ => { staged := { prd := some 70 }, arr := [(true, {})] })), 5, by decide +kernel⟩,
   ⟨(fun s => (List.range 8).foldl (fun (s : State) a => s.put (AX_BIND_LEG__LEG_MASK a) 0) s) (((State.reset).upLeg 5 fun _ => { cfg := 32, staged := { prd := some 70 }, arr := [(true, {})] })) |>.put (AX_BIND_LEG__LEG_MASK 3) 0x60 |>.putB (AX_BIND__MODE 3) false, 6, 5, 3, by decide +kernel⟩,
   ⟨(fun s => (List.range 8).foldl (fun (s : State) a => s.put (AX_BIND_LEG__LEG_MASK a) 0) s) (((State.reset).upLeg 5 fun _ => { staged := { prd := some 70 }, arr := [(true, {})] })) |>.put (AX_BIND_LEG__LEG_MASK 3) 0x60 |>.putB (AX_BIND__MODE 3) false, 6, 5, 3, by decide +kernel⟩,
   ⟨((State.reset).upLeg 5 fun _ => { cfg := 2 }) |>.putB (LEG_STATUS__RUNNING 5) true |>.put (LEG_ACT_CMP__VALUE 5 0) 40 |>.put (LEG_ACT_PRD__VALUE 5) 100, 5, .cmp 0 false, (40, false), by decide +kernel⟩,
   ⟨State.reset, 5, .zero, by decide +kernel⟩,
   ⟨((State.reset).upLeg 5 fun _ => { mon := true, cfg := 4 }) |>.putB (LEG_STATUS__UPPER 5) true, 5, by decide +kernel⟩,
   ⟨State.reset, 5, by decide +kernel⟩,
   ⟨((State.reset).upLeg 5 fun _ => { act := true }) |>.put (LEG_MASK__SRC 5) 1 |>.putB (AX_BIND__MODE 0) false, 5, by decide +kernel⟩,
   ⟨(fun s => (List.range 8).foldl (fun (s : State) a => s.put (AX_BIND_LEG__LEG_MASK a) 0) s) (((State.reset).upLeg 5 fun _ => { maskDue := 2, act := true }) |>.put (LEG_MASK__SRC 5) 2), 5, by decide +kernel⟩,
   ⟨(fun s => (List.range 8).foldl (fun (s : State) a => s.put (AX_BIND_LEG__LEG_MASK a) 0) s) (((State.reset).upLeg 5 fun _ => { maskDue := 2, act := true }) |>.put (LEG_MASK__SRC 5) 3), 5, by decide +kernel⟩,
   ⟨State.reset |>.put (LEG_MASK__SRC 5) 0, 5, by decide +kernel⟩,
   ⟨((State.reset).upLeg 5 fun _ => { dead := 1, act := true }), 5, by decide +kernel⟩,
   ⟨((State.reset).upLeg 5 fun _ => { dead := 2, act := true }), 5, by decide +kernel⟩,
   ⟨State.reset, 5, by decide +kernel⟩,
   ⟨((State.reset).upLeg 5 fun _ => { wait := true, act := true, clk := 7 }), 5, by decide +kernel⟩,
   ⟨State.reset, 5, by decide +kernel⟩⟩

/-- States and operands that meet the conditions of IslandLinks. -/
theorem witness_IslandLinks :
    (∃ (s : State) (i : Fin 8) (w : Option (BitVec 6)) (sh : BitVec 6) (c : Fin 6), (s.isl i.val).follow = true ∧ (s.isl i.val).lost = false ∧ s.on (GI_CFG__SERVICE i.val) = false ∧ s.on CLK_STATUS__PLLB_LOCK = true ∧ ((w.map (·.getLsbD (c.val))).getD (s.on (if c.val % 2 = 0 then LEG_STATUS__UPPER (3 * i.val + (c.val / 2)) else LEG_STATUS__LOWER (3 * i.val + (c.val / 2))))) = false ∧ sh.getLsbD c.val = false ∧ s.on (GI_L_STATUS__TRIP_LATCH i.val (c.val / 2)) = false ∧ s.get (GI_L_STATUS__SOFT_STEP i.val (c.val / 2)) ≠ 1 ∧ s.get (GI_L_STATUS__SOFT_STEP i.val (c.val / 2)) ≠ 2) ∧
    (∃ (s : State) (i : Fin 8) (w : Option (BitVec 6)) (sh : BitVec 6) (c : Fin 6), (s.isl i.val).follow = true ∧ (s.isl i.val).lost = false ∧ s.on (GI_CFG__SERVICE i.val) = false ∧ s.on CLK_STATUS__PLLB_LOCK = true ∧ ((w.map (·.getLsbD (c.val))).getD (s.on (if c.val % 2 = 0 then LEG_STATUS__UPPER (3 * i.val + (c.val / 2)) else LEG_STATUS__LOWER (3 * i.val + (c.val / 2))))) = true ∧ ((w.map (·.getLsbD (c.val + 1 - 2 * (c.val % 2)))).getD (s.on (if c.val % 2 = 1 then LEG_STATUS__UPPER (3 * i.val + (c.val / 2)) else LEG_STATUS__LOWER (3 * i.val + (c.val / 2))))) = false ∧ sh.getLsbD c.val = false ∧ s.on (GI_L_STATUS__TRIP_LATCH i.val (c.val / 2)) = false ∧ s.get (GI_L_STATUS__SOFT_STEP i.val (c.val / 2)) ≠ 1 ∧ s.get (GI_L_STATUS__SOFT_STEP i.val (c.val / 2)) ≠ 2 ∧ s.chMayOn i.val c.val false = true ∧ (s.ch i.val c.val = 0 ∨ s.ch i.val c.val = 4 ∨ s.ch i.val c.val = 5)) ∧
    (∃ (s : State) (i : Fin 8) (w : Option (BitVec 6)) (x : Fin 3), (s.isl i.val).follow = true ∧ (s.isl i.val).lost = false ∧ s.on (GI_CFG__SERVICE i.val) = false ∧ s.on CLK_STATUS__PLLB_LOCK = true ∧ ((w.map (·.getLsbD (2 * x.val))).getD (s.on (if True then LEG_STATUS__UPPER (3 * i.val + x.val) else LEG_STATUS__LOWER (3 * i.val + x.val)))) = true ∧ ((w.map (·.getLsbD (2 * x.val + 1))).getD (s.on (if False then LEG_STATUS__UPPER (3 * i.val + x.val) else LEG_STATUS__LOWER (3 * i.val + x.val)))) = true) ∧
    (∃ (s : State) (i : Fin 8), (s.isl i.val).follow = true ∧ (s.isl i.val).lost = false ∧ s.on (GI_CFG__SERVICE i.val) = false ∧ s.on CLK_STATUS__PLLB_LOCK = true) ∧
    (∃ (s : State) (i : Fin 8), ((s.isl i.val).follow = false ∨ (s.isl i.val).lost = true ∨ s.on (GI_CFG__SERVICE i.val) = true ∨ s.on CLK_STATUS__PLLB_LOCK = false)) ∧
    (∃ (s : State) (i : Fin 8), (s.isl i.val).follow = true) ∧
    (∃ (s : State) (i : Fin 8), (s.isl i.val).follow = false) ∧
    (∃ (s : State) (i : Fin 8), (s.isl i.val).lost = false ∧ s.on CLK_STATUS__PLLB_LOCK = true) ∧
    (∃ (s : State) (i : Fin 8), ((s.isl i.val).lost = true ∨ s.on CLK_STATUS__PLLB_LOCK = false)) ∧
    (∃ (s : State) (i : Fin 8), (s.isl i.val).lost = false) ∧
    (∃ (s : State) (i : Fin 8) (a : Fin 8) (x : Fin 3), (s.isl i.val).lost = false ∧ s.legAxis (3 * i.val + x.val) = some a.val ∧ (s.ax a.val).clearDue.contains i.val = true ∧ (s.get (GI_L_STATUS__SOFT_STEP i.val x.val) = 0 ∨ s.get (GI_L_STATUS__SOFT_STEP i.val x.val) = 3)) ∧
    (∃ (s : State) (i : Fin 8), (s.isl i.val).lost = true) ∧
    (∃ (s : State) (i : Fin 8), (s.isl i.val).lost = false) ∧
    (∃ (s : State) (i : Fin 8), (s.isl i.val).lost = true) ∧
    (∃ (s : State) (i : Fin 8), s.on (GI_STATUS__LINK_UP i.val) = true ∧ (∀ b : Fin 8, (s.axLegs b.val).any (fun m => m / 3 == i.val) = false)) ∧
    (∃ (s : State) (i : Fin 8) (a : Fin 8), s.on (GI_STATUS__LINK_UP i.val) = true ∧ (s.axLegs a.val).any (fun m => m / 3 == i.val) = true ∧ (∀ b : Fin 8, b ≠ a → (s.axLegs b.val).any (fun m => m / 3 == i.val) = false) ∧ s.axLive a.val = true) ∧
    (∃ (s : State) (i : Fin 8), s.on (GI_STATUS__LINK_UP i.val) = false) ∧
    (∃ (s : State) (i : Fin 8), nbit (s.isl i.val).sup 0 = true ∧ s.aonRuns = true ∧ ((s.isl i.val).lost = true ∨ s.on (GI_STATUS__LINK_UP i.val) = false)) ∧
    (∃ (s : State) (i : Fin 8), (nbit (s.isl i.val).sup 0 = false ∨ s.aonRuns = false ∨ ((s.isl i.val).lost = false ∧ s.on (GI_STATUS__LINK_UP i.val) = true))) ∧
    (∃ (s : State) (i : Fin 8), nbit (s.isl i.val).sup 0 = false ∧ s.aonRuns = true) ∧
    (∃ (s : State) (i : Fin 8), nbit (s.isl i.val).sup 0 = false ∧ s.aonRuns = false) ∧
    (∃ (s : State) (i : Fin 8), nbit (s.isl i.val).sup 0 = true) ∧
    (∃ (s : State) (i : Fin 8), (s.isl i.val).lost = false) ∧
    (∃ (s : State) (i : Fin 8), (s.isl i.val).lost = true) ∧
    (∃ (s : State) (i : Fin 8) (k : Fin 9), nbit (s.isl i.val).sup k.val = false) ∧
    (∃ (s : State) (i : Fin 8), nbit (s.isl i.val).sup 0 = true ∧ (∀ b : Fin 8, (s.axLegs b.val).any (fun m => m / 3 == i.val) = false)) ∧
    (∃ (s : State) (i : Fin 8) (k : Fin 9) (c : Fin 6), nbit (s.isl i.val).sup k.val = true ∧ (∀ b : Fin 8, (s.axLegs b.val).any (fun m => m / 3 == i.val) = false) ∧ (k.val = 1 ∨ (k.val = 2 ∧ c.val % 2 = 1) ∨ (3 ≤ k.val ∧ c.val = 2 * (k.val % 3)))) ∧
    (∃ (s : State) (i : Fin 8) (a : Fin 8) (k : Fin 9), nbit (s.isl i.val).sup k.val = true ∧ (s.axLegs a.val).any (fun m => m / 3 == i.val && (supplyLegs k.val).contains (m % 3)) = true ∧ (∀ b : Fin 8, b ≠ a → (s.axLegs b.val).any (fun m => m / 3 == i.val) = false) ∧ s.axLive a.val = true) ∧
    (∃ (s : State) (i : Fin 8) (k : Fin 9) (good : Bool), nbit (s.isl i.val).sup k.val = good) ∧
    (∃ (s : State) (i : Fin 8), s.on (GI_STATUS__LINK_UP i.val) = true) ∧
    (∃ (s : State) (i : Fin 8), s.on (GI_STATUS__LINK_UP i.val) = false) :=
  ⟨⟨((State.reset).upIsl 2 fun _ => { lost := false, follow := true, chs := [0, 0, 0, 3, 0, 0] }) |>.put (GI_L_STATUS__SOFT_STEP 2 1) 0 |>.putB (GI_L_STATUS__TRIP_LATCH 2 1) false |>.putB (GI_CFG__SERVICE 2) false |>.putB CLK_STATUS__PLLB_LOCK true, 2, some 0, 0, 3, by decide +kernel⟩,
   ⟨((State.reset).upIsl 2 fun _ => { lost := false, follow := true, sup := 511 }) |>.put (GI_L_STATUS__SOFT_STEP 2 1) 0 |>.putB (GI_L_STATUS__TRIP_LATCH 2 1) false |>.putB (GI_CFG__SERVICE 2) false |>.putB CLK_STATUS__PLLB_LOCK true |>.putB (GI_L_STATUS__XCMD_LATCH 2 1) false, 2, some 8, 0, 3, by decide +kernel⟩,
   ⟨((State.reset).upIsl 2 fun _ => { lost := false, follow := true, chs := [0, 0, 0, 3, 0, 0] }) |>.put (GI_L_STATUS__SOFT_STEP 2 1) 0 |>.putB (GI_L_STATUS__TRIP_LATCH 2 1) false |>.putB (GI_CFG__SERVICE 2) false |>.putB CLK_STATUS__PLLB_LOCK true, 2, some 0b001100, 1, by decide +kernel⟩,
   ⟨((State.reset).upIsl 2 fun _ => { lost := false, follow := true, chs := [0, 0, 0, 3, 0, 0] }) |>.put (GI_L_STATUS__SOFT_STEP 2 1) 0 |>.putB (GI_L_STATUS__TRIP_LATCH 2 1) false |>.putB (GI_CFG__SERVICE 2) false |>.putB CLK_STATUS__PLLB_LOCK true, 2, by decide +kernel⟩,
   ⟨State.reset, 2, by decide +kernel⟩,
   ⟨((State.reset).upIsl 2 fun _ => { lost := false, follow := true, chs := [0, 0, 0, 3, 0, 0] }) |>.put (GI_L_STATUS__SOFT_STEP 2 1) 0 |>.putB (GI_L_STATUS__TRIP_LATCH 2 1) false |>.putB (GI_CFG__SERVICE 2) false |>.putB CLK_STATUS__PLLB_LOCK true, 2, by decide +kernel⟩,
   ⟨State.reset, 2, by decide +kernel⟩,
   ⟨((State.reset).upIsl 2 fun _ => { lost := false }).putB CLK_STATUS__PLLB_LOCK true, 2, by decide +kernel⟩,
   ⟨((State.reset).upIsl 2 fun _ => { lost := true }), 2, by decide +kernel⟩,
   ⟨(fun s => (List.range 8).foldl (fun (s : State) a => s.put (AX_BIND_LEG__LEG_MASK a) 0) s) (((State.reset).upIsl 2 fun _ => { lost := false })) |>.put (AX_BIND_LEG__LEG_MASK 3) 0x1C0 |>.put (AX_STATE__STATE 3) 5 |>.putB (AX_STATE__CLOSING 3) false |>.setAx 3 { hold := 1 }, 2, by decide +kernel⟩,
   ⟨(fun s => (List.range 8).foldl (fun (s : State) a => s.put (AX_BIND_LEG__LEG_MASK a) 0) s) (((State.reset).upIsl 2 fun _ => { lost := false })) |>.put (AX_BIND_LEG__LEG_MASK 3) 0x1C0 |>.put (AX_STATE__STATE 3) 0 |>.putB (AX_STATE__CLOSING 3) false |>.setAx 3 { clearDue := [2] } |>.put (GI_L_STATUS__SOFT_STEP 2 1) 3, 2, 3, 1, by decide +kernel⟩,
   ⟨((State.reset).upIsl 2 fun _ => { lost := true }), 2, by decide +kernel⟩,
   ⟨((State.reset).upIsl 2 fun _ => { lost := false, follow := true, chs := [0, 0, 0, 3, 0, 0] }), 2, by decide +kernel⟩,
   ⟨((State.reset).upIsl 2 fun _ => { lost := true }), 2, by decide +kernel⟩,
   ⟨(fun s => (List.range 8).foldl (fun (s : State) a => s.put (AX_BIND_LEG__LEG_MASK a) 0) s) (((State.reset).upIsl 2 fun _ => { lost := false, follow := true, chs := [0, 0, 0, 3, 0, 0] })) |>.putB (GI_STATUS__LINK_UP 2) true, 2, by decide +kernel⟩,
   ⟨(fun s => (List.range 8).foldl (fun (s : State) a => s.put (AX_BIND_LEG__LEG_MASK a) 0) s) (((State.reset).upIsl 2 fun _ => { lost := false, follow := true, chs := [0, 0, 0, 3, 0, 0] })) |>.put (AX_BIND_LEG__LEG_MASK 3) 0x1C0 |>.put (AX_STATE__STATE 3) 3 |>.putB (AX_STATE__CLOSING 3) false |>.putB (GI_STATUS__LINK_UP 2) true, 2, 3, by decide +kernel⟩,
   ⟨State.reset.putB (GI_STATUS__LINK_UP 2) false, 2, by decide +kernel⟩,
   ⟨((State.reset).upIsl 2 fun _ => { lost := true, sup := 511 }).put PWR_BOOT_STATUS__PHASE 5, 2, by decide +kernel⟩,
   ⟨((State.reset).upIsl 2 fun _ => { lost := true, sup := 0 }), 2, by decide +kernel⟩,
   ⟨((State.reset).upIsl 2 fun _ => { lost := true, sup := 0 }).put PWR_BOOT_STATUS__PHASE 5, 2, by decide +kernel⟩,
   ⟨((State.reset).upIsl 2 fun _ => { lost := true, sup := 0 }).put PWR_BOOT_STATUS__PHASE 0, 2, by decide +kernel⟩,
   ⟨((State.reset).upIsl 2 fun _ => { lost := true, sup := 511 }), 2, by decide +kernel⟩,
   ⟨((State.reset).upIsl 2 fun _ => { lost := false }), 2, by decide +kernel⟩,
   ⟨((State.reset).upIsl 2 fun _ => { lost := true }), 2, by decide +kernel⟩,
   ⟨((State.reset).upIsl 2 fun _ => { lost := false, sup := 3 }), 2, 7, by decide +kernel⟩,
   ⟨(fun s => (List.range 8).foldl (fun (s : State) a => s.put (AX_BIND_LEG__LEG_MASK a) 0) s) (((State.reset).upIsl 2 fun _ => { sup := 3, lost := false, follow := true, chs := [0, 0, 0, 3, 0, 0] })), 2, by decide +kernel⟩,
   ⟨(fun s => (List.range 8).foldl (fun (s : State) a => s.put (AX_BIND_LEG__LEG_MASK a) 0) s) (((State.reset).upIsl 2 fun _ => { sup := 511, lost := false, follow := true, chs := [0, 0, 0, 3, 0, 0] })), 2, 2, 3, by decide +kernel⟩,
   ⟨(fun s => (List.range 8).foldl (fun (s : State) a => s.put (AX_BIND_LEG__LEG_MASK a) 0) s) (((State.reset).upIsl 2 fun _ => { sup := 511, lost := false, follow := true, chs := [0, 0, 0, 3, 0, 0] })) |>.put (AX_BIND_LEG__LEG_MASK 3) 0x1C0 |>.put (AX_STATE__STATE 3) 3 |>.putB (AX_STATE__CLOSING 3) false, 2, 3, 4, by decide +kernel⟩,
   ⟨State.reset, 2, 4, false, by decide +kernel⟩,
   ⟨State.reset.putB (GI_STATUS__LINK_UP 2) true, 2, by decide +kernel⟩,
   ⟨State.reset.putB (GI_STATUS__LINK_UP 2) false, 2, by decide +kernel⟩⟩

/-- States and operands that meet the conditions of GatesAndSoftTurnOff. -/
theorem witness_GatesAndSoftTurnOff :
    (∃ (s : State) (i : Fin 8) (c : Fin 6), s.ch i.val c.val = 1) ∧
    (∃ (s : State) (i : Fin 8) (c : Fin 6), s.ch i.val c.val = 4) ∧
    (∃ (s : State) (i : Fin 8) (c : Fin 6), s.ch i.val c.val ≠ 1 ∧ s.ch i.val c.val ≠ 4) ∧
    (∃ (s : State) (i : Fin 8) (c : Fin 6), s.ch i.val c.val = 2) ∧
    (∃ (s : State) (i : Fin 8) (c : Fin 6), s.ch i.val c.val = 5) ∧
    (∃ (s : State) (i : Fin 8) (c : Fin 6), s.ch i.val c.val ≠ 2 ∧ s.ch i.val c.val ≠ 5) ∧
    (∃ (s : State) (i : Fin 8) (c : Fin 6), (s.ch i.val c.val = 2 ∨ s.ch i.val c.val = 5) ∧ s.legAxis (3 * i.val + c.val / 2) = none) ∧
    (∃ (s : State) (i : Fin 8) (a : Fin 8) (c : Fin 6), (s.ch i.val c.val = 2 ∨ s.ch i.val c.val = 5) ∧ s.legAxis (3 * i.val + c.val / 2) = some a.val ∧ s.axState a.val < 5 ∧ (s.axState a.val ≠ 0 ∨ (s.on SAF_STATUS__ARMED = true ∧ s.sys.released = true))) ∧
    (∃ (s : State) (i : Fin 8) (c : Fin 6), s.ch i.val c.val ≠ 2 ∧ s.ch i.val c.val ≠ 5) ∧
    (∃ (s : State) (i : Fin 8) (c : Fin 6), (s.ch i.val c.val = 0 ∨ s.ch i.val c.val = 3) ∧ s.on (GI_L_BRES__RUNNING i.val (c.val / 2)) = false ∧ s.legAxis (3 * i.val + c.val / 2) = none) ∧
    (∃ (s : State) (i : Fin 8) (a : Fin 8) (c : Fin 6), (s.ch i.val c.val = 0 ∨ s.ch i.val c.val = 3) ∧ s.on (GI_L_BRES__RUNNING i.val (c.val / 2)) = false ∧ s.legAxis (3 * i.val + c.val / 2) = some a.val ∧ s.axState a.val < 5 ∧ (s.axState a.val ≠ 0 ∨ (s.on SAF_STATUS__ARMED = true ∧ s.sys.released = true))) ∧
    (∃ (s : State) (i : Fin 8) (c : Fin 6), ((s.ch i.val c.val ≠ 0 ∧ s.ch i.val c.val ≠ 3) ∨ s.on (GI_L_BRES__RUNNING i.val (c.val / 2)) = true)) ∧
    (∃ (s : State) (i : Fin 8) (c : Fin 6), (s.on (if c.val % 2 = 0 then GI_L_SC__EN_U i.val (c.val / 2) else GI_L_SC__EN_L i.val (c.val / 2))) = true ∧ (s.ch i.val c.val = 1 ∨ s.ch i.val c.val = 2 ∨ s.ch i.val c.val = 3) ∧ (s.glGet GI_L_STATUS__SOFT_STEP i.val (c.val / 2) = 0 ∨ s.glGet GI_L_STATUS__SOFT_STEP i.val (c.val / 2) = 3) ∧ s.legAxis (3 * i.val + c.val / 2) = none) ∧
    (∃ (s : State) (i : Fin 8) (a : Fin 8) (c : Fin 6), (s.on (if c.val % 2 = 0 then GI_L_SC__EN_U i.val (c.val / 2) else GI_L_SC__EN_L i.val (c.val / 2))) = true ∧ (s.ch i.val c.val = 1 ∨ s.ch i.val c.val = 2 ∨ s.ch i.val c.val = 3) ∧ (s.glGet GI_L_STATUS__SOFT_STEP i.val (c.val / 2) = 0 ∨ s.glGet GI_L_STATUS__SOFT_STEP i.val (c.val / 2) = 3) ∧ s.legAxis (3 * i.val + c.val / 2) = some a.val) ∧
    (∃ (s : State) (i : Fin 8) (c : Fin 6), (s.on (if c.val % 2 = 0 then GI_L_SC__EN_U i.val (c.val / 2) else GI_L_SC__EN_L i.val (c.val / 2))) = true ∧ (s.ch i.val c.val = 1 ∨ s.ch i.val c.val = 2 ∨ s.ch i.val c.val = 3 ∨ s.ch i.val c.val = 6 ∨ s.ch i.val c.val = 7) ∧ (s.glGet GI_L_STATUS__SOFT_STEP i.val (c.val / 2) = 1 ∨ s.glGet GI_L_STATUS__SOFT_STEP i.val (c.val / 2) = 2)) ∧
    (∃ (s : State) (i : Fin 8) (c : Fin 6), ((s.on (if c.val % 2 = 0 then GI_L_SC__EN_U i.val (c.val / 2) else GI_L_SC__EN_L i.val (c.val / 2))) = false ∨ (s.ch i.val c.val ≠ 1 ∧ s.ch i.val c.val ≠ 2 ∧ s.ch i.val c.val ≠ 3 ∧ s.ch i.val c.val ≠ 6 ∧ s.ch i.val c.val ≠ 7))) ∧
    (∃ (s : State) (i : Fin 8) (a : Fin 8) (w : Nat) (l : List Nat), (s.isl i.val).alarms = w :: l ∧ w % 16 < 6 ∧ s.legAxis (3 * i.val + w % 16 / 2) = some a.val ∧ s.axState a.val < 5 ∧ (s.axState a.val ≠ 0 ∨ (s.on SAF_STATUS__ARMED = true ∧ s.sys.released = true)) ∧ s.get PWR_BOOT_STATUS__PHASE ≠ 0) ∧
    (∃ (s : State) (i : Fin 8) (a : Fin 8) (w : Nat) (l : List Nat), (s.isl i.val).alarms = w :: l ∧ w % 16 < 6 ∧ s.legAxis (3 * i.val + w % 16 / 2) = some a.val ∧ (s.axState a.val = 5 ∨ s.axState a.val = 6) ∧ s.get PWR_BOOT_STATUS__PHASE ≠ 0) ∧
    (∃ (s : State) (i : Fin 8) (w : Nat) (l : List Nat), (s.isl i.val).alarms = w :: l ∧ w % 16 < 6 ∧ s.legAxis (3 * i.val + w % 16 / 2) = none ∧ s.get PWR_BOOT_STATUS__PHASE ≠ 0) ∧
    (∃ (s : State) (i : Fin 8) (a : Fin 8) (w : Nat) (l : List Nat), (s.isl i.val).alarms = w :: l ∧ 6 ≤ w % 16 ∧ s.legAxis (3 * i.val + (w % 16 - 6)) = some a.val ∧ s.axState a.val < 5 ∧ (s.axState a.val ≠ 0 ∨ (s.on SAF_STATUS__ARMED = true ∧ s.sys.released = true))) ∧
    (∃ (s : State) (i : Fin 8) (w : Nat) (l : List Nat), (s.isl i.val).alarms = w :: l) ∧
    (∃ (s : State) (i : Fin 8), (s.isl i.val).alarms = []) ∧
    (∃ (s : State) (i : Fin 8) (w : Nat) (l : List Nat), (s.isl i.val).trips = w :: l) ∧
    (∃ (s : State) (i : Fin 8) (w : Nat) (l : List Nat) (c : Fin 6), (s.isl i.val).trips = w :: l ∧ nbit w (c.val / 2) = true ∧ (s.glGet GI_L_STATUS__SOFT_STEP i.val (c.val / 2) = 0 ∨ s.glGet GI_L_STATUS__SOFT_STEP i.val (c.val / 2) = 3) ∧ 1 ≤ s.ch i.val c.val ∧ s.ch i.val c.val ≤ 4) ∧
    (∃ (s : State) (i : Fin 8), (s.isl i.val).trips = []) ∧
    (∃ (s : State) (i : Fin 8) (x : Fin 3), s.glGet GI_L_STATUS__SOFT_STEP i.val x.val = 1) ∧
    (∃ (s : State) (i : Fin 8) (x : Fin 3), s.glGet GI_L_STATUS__SOFT_STEP i.val x.val ≠ 1) ∧
    (∃ (s : State) (i : Fin 8) (x : Fin 3), s.glGet GI_L_STATUS__SOFT_STEP i.val x.val = 2) ∧
    (∃ (s : State) (i : Fin 8) (x : Fin 3), s.glGet GI_L_STATUS__SOFT_STEP i.val x.val ≠ 2) ∧
    (∃ (s : State) (i : Fin 8) (x : Fin 3), s.glGet GI_L_STATUS__SOFT_STEP i.val x.val = 2 ∧ s.legAxis (3 * i.val + x.val) = none) ∧
    (∃ (s : State) (i : Fin 8) (a : Fin 8) (x : Fin 3), s.glGet GI_L_STATUS__SOFT_STEP i.val x.val = 2 ∧ s.legAxis (3 * i.val + x.val) = some a.val ∧ (s.ch i.val (2 * x.val) = 7 ∨ s.ch i.val (2 * x.val + 1) = 7) ∧ s.axState a.val < 5 ∧ (s.axState a.val ≠ 0 ∨ (s.on SAF_STATUS__ARMED = true ∧ s.sys.released = true))) ∧
    (∃ (s : State) (i : Fin 8) (x : Fin 3) (g : Nat) (k : Nat), g = (s.isl i.val).gap.getD x.val 0 ∧ g ≠ 0 ∧ k = (if g = 2 then 2 * x.val else 2 * x.val + 1) ∧ s.holdGoverns i.val x.val = true ∧ (s.ch i.val k = 0 ∨ s.ch i.val k = 4 ∨ s.ch i.val k = 5) ∧ s.chMayOn i.val k true = true) ∧
    (∃ (s : State) (i : Fin 8) (x : Fin 3) (g : Nat) (k : Nat), g = (s.isl i.val).gap.getD x.val 0 ∧ g ≠ 0 ∧ k = (if g = 2 then 2 * x.val else 2 * x.val + 1) ∧ (s.holdGoverns i.val x.val = false ∨ (s.ch i.val k ≠ 0 ∧ s.ch i.val k ≠ 4 ∧ s.ch i.val k ≠ 5) ∨ s.chMayOn i.val k true = false)) ∧
    (∃ (s : State) (i : Fin 8) (x : Fin 3), (s.isl i.val).gap.getD x.val 0 = 0) :=
  ⟨⟨((State.reset).upIsl 2 fun _ => { lost := false, chs := [0, 0, 0, 1, 0, 0] }), 2, 3, by decide +kernel⟩,
   ⟨((State.reset).upIsl 2 fun _ => { lost := false, chs := [0, 0, 0, 4, 0, 0] }), 2, 3, by decide +kernel⟩,
   ⟨((State.reset).upIsl 2 fun _ => { lost := false, chs := [0, 0, 0, 2, 0, 0] }), 2, 3, by decide +kernel⟩,
   ⟨((State.reset).upIsl 2 fun _ => { lost := false, chs := [0, 0, 0, 2, 0, 0] }), 2, 3, by decide +kernel⟩,
   ⟨((State.reset).upIsl 2 fun _ => { lost := false, chs := [0, 0, 0, 5, 0, 0] }), 2, 3, by decide +kernel⟩,
   ⟨((State.reset).upIsl 2 fun _ => { lost := false, chs := [0, 0, 0, 1, 0, 0] }), 2, 3, by decide +kernel⟩,
   ⟨(fun s => (List.range 8).foldl (fun (s : State) a => s.put (AX_BIND_LEG__LEG_MASK a) 0) s) ((State.reset).upIsl 2 fun _ => { lost := false, chs := [0, 0, 0, 2, 0, 0] }), 2, 3, by decide +kernel⟩,
   ⟨(fun s => (List.range 8).foldl (fun (s : State) a => s.put (AX_BIND_LEG__LEG_MASK a) 0) s) (((State.reset).upIsl 2 fun _ => { lost := false, chs := [0, 0, 0, 2, 0, 0] })) |>.put (AX_BIND_LEG__LEG_MASK 3) 0x1C0 |>.put (AX_STATE__STATE 3) 3 |>.putB (AX_STATE__CLOSING 3) false, 2, 3, 3, by decide +kernel⟩,
   ⟨((State.reset).upIsl 2 fun _ => { lost := false, chs := [0, 0, 0, 1, 0, 0] }), 2, 3, by decide +kernel⟩,
   ⟨(fun s => (List.range 8).foldl (fun (s : State) a => s.put (AX_BIND_LEG__LEG_MASK a) 0) s) ((State.reset).upIsl 2 fun _ => { lost := false, chs := [0, 0, 0, 3, 0, 0] }), 2, 3, by decide +kernel⟩,
   ⟨(fun s => (List.range 8).foldl (fun (s : State) a => s.put (AX_BIND_LEG__LEG_MASK a) 0) s) (((State.reset).upIsl 2 fun _ => { lost := false, chs := [0, 0, 0, 3, 0, 0] })) |>.put (AX_BIND_LEG__LEG_MASK 3) 0x1C0 |>.put (AX_STATE__STATE 3) 3 |>.putB (AX_STATE__CLOSING 3) false, 2, 3, 3, by decide +kernel⟩,
   ⟨((State.reset).upIsl 2 fun _ => { lost := false, chs := [0, 0, 0, 1, 0, 0] }), 2, 3, by decide +kernel⟩,
   ⟨(fun s => (List.range 8).foldl (fun (s : State) a => s.put (AX_BIND_LEG__LEG_MASK a) 0) s) (((State.reset).upIsl 2 fun _ => { lost := false, chs := [0, 0, 0, 3, 0, 0] })) |>.putB (GI_L_SC__EN_L 2 1) true |>.put (GI_L_STATUS__SOFT_STEP 2 1) 0, 2, 3, by decide +kernel⟩,
   ⟨(fun s => (List.range 8).foldl (fun (s : State) a => s.put (AX_BIND_LEG__LEG_MASK a) 0) s) (((State.reset).upIsl 2 fun _ => { lost := false, chs := [0, 0, 0, 3, 0, 0] })) |>.put (AX_BIND_LEG__LEG_MASK 3) 0x1C0 |>.put (AX_STATE__STATE 3) 3 |>.putB (AX_STATE__CLOSING 3) false |>.putB (GI_L_SC__EN_L 2 1) true |>.put (GI_L_STATUS__SOFT_STEP 2 1) 0, 2, 3, 3, by decide +kernel⟩,
   ⟨((State.reset).upIsl 2 fun _ => { lost := false, chs := [0, 0, 0, 6, 0, 0] }) |>.putB (GI_L_SC__EN_L 2 1) true |>.put (GI_L_STATUS__SOFT_STEP 2 1) 1, 2, 3, by decide +kernel⟩,
   ⟨((State.reset).upIsl 2 fun _ => { lost := false, chs := [0, 0, 0, 4, 0, 0] }), 2, 3, by decide +kernel⟩,
   ⟨((fun s => (List.range 8).foldl (fun (s : State) a => s.put (AX_BIND_LEG__LEG_MASK a) 0) s) (((State.reset).upIsl 2 fun _ => { lost := false, alarms := [3, 9] })) |>.put (AX_BIND_LEG__LEG_MASK 3) 0x1C0 |>.put (AX_STATE__STATE 3) 3 |>.putB (AX_STATE__CLOSING 3) false) |>.put PWR_BOOT_STATUS__PHASE 5, 2, 3, 3, [9], by decide +kernel⟩,
   ⟨((fun s => (List.range 8).foldl (fun (s : State) a => s.put (AX_BIND_LEG__LEG_MASK a) 0) s) (((State.reset).upIsl 2 fun _ => { lost := false, alarms := [3, 9] })) |>.put (AX_BIND_LEG__LEG_MASK 3) 0x1C0 |>.put (AX_STATE__STATE 3) 5 |>.putB (AX_STATE__CLOSING 3) false) |>.put PWR_BOOT_STATUS__PHASE 5, 2, 3, 3, [9], by decide +kernel⟩,
   ⟨((fun s => (List.range 8).foldl (fun (s : State) a => s.put (AX_BIND_LEG__LEG_MASK a) 0) s) ((State.reset).upIsl 2 fun _ => { lost := false, alarms := [3, 9] })) |>.put PWR_BOOT_STATUS__PHASE 5, 2, 3, [9], by decide +kernel⟩,
   ⟨(fun s => (List.range 8).foldl (fun (s : State) a => s.put (AX_BIND_LEG__LEG_MASK a) 0) s) (((State.reset).upIsl 2 fun _ => { lost := false, alarms := [7, 9] })) |>.put (AX_BIND_LEG__LEG_MASK 3) 0x1C0 |>.put (AX_STATE__STATE 3) 3 |>.putB (AX_STATE__CLOSING 3) false, 2, 3, 7, [9], by decide +kernel⟩,
   ⟨(fun s => (List.range 8).foldl (fun (s : State) a => s.put (AX_BIND_LEG__LEG_MASK a) 0) s) ((State.reset).upIsl 2 fun _ => { lost := false, alarms := [7, 9] }), 2, 7, [9], by decide +kernel⟩,
   ⟨State.reset, 2, by decide +kernel⟩,
   ⟨((State.reset).upIsl 2 fun _ => { lost := false, trips := [2, 1] }), 2, 2, [1], by decide +kernel⟩,
   ⟨((State.reset).upIsl 2 fun _ => { trips := [2, 1], lost := false, chs := [0, 0, 0, 3, 0, 0] }) |>.put (GI_L_STATUS__SOFT_STEP 2 1) 0, 2, 2, [1], 3, by decide +kernel⟩,
   ⟨State.reset, 2, by decide +kernel⟩,
   ⟨((State.reset).upIsl 2 fun _ => { lost := false, chs := [0, 0, 0, 6, 0, 0] }) |>.put (GI_L_STATUS__SOFT_STEP 2 1) 1, 2, 1, by decide +kernel⟩,
   ⟨((State.reset).upIsl 2 fun _ => { lost := false, chs := [0, 0, 0, 6, 0, 0] }) |>.put (GI_L_STATUS__SOFT_STEP 2 1) 2, 2, 1, by decide +kernel⟩,
   ⟨((State.reset).upIsl 2 fun _ => { lost := false, chs := [0, 0, 0, 7, 0, 0] }) |>.put (GI_L_STATUS__SOFT_STEP 2 1) 2, 2, 1, by decide +kernel⟩,
   ⟨((State.reset).upIsl 2 fun _ => { lost := false, chs := [0, 0, 0, 7, 0, 0] }) |>.put (GI_L_STATUS__SOFT_STEP 2 1) 1, 2, 1, by decide +kernel⟩,
   ⟨(fun s => (List.range 8).foldl (fun (s : State) a => s.put (AX_BIND_LEG__LEG_MASK a) 0) s) ((State.reset).upIsl 2 fun _ => { lost := false, chs := [0, 0, 0, 7, 0, 0] }) |>.put (GI_L_STATUS__SOFT_STEP 2 1) 2, 2, 1, by decide +kernel⟩,
   ⟨(fun s => (List.range 8).foldl (fun (s : State) a => s.put (AX_BIND_LEG__LEG_MASK a) 0) s) (((State.reset).upIsl 2 fun _ => { lost := false, chs := [0, 0, 0, 7, 0, 0] })) |>.put (AX_BIND_LEG__LEG_MASK 3) 0x1C0 |>.put (AX_STATE__STATE 3) 3 |>.putB (AX_STATE__CLOSING 3) false |>.put (GI_L_STATUS__SOFT_STEP 2 1) 2, 2, 3, 1, by decide +kernel⟩,
   ⟨((State.reset).upIsl 2 fun _ => { lost := false, sup := 511, gap := [0, 1, 0], chs := [0, 0, 0, 5, 0, 0] }) |>.put (GI_L_STATUS__SOFT_STEP 2 1) 0 |>.putB (GI_L_STATUS__XCMD_LATCH 2 1) false |>.putB (GI_CFG__SERVICE 2) false, 2, 1, 1, 3, by decide +kernel⟩,
   ⟨((State.reset).upIsl 2 fun _ => { lost := true, gap := [0, 1, 0] }), 2, 1, 1, 3, by decide +kernel⟩,
   ⟨State.reset, 2, 1, by decide +kernel⟩⟩

/-- States and operands that meet the conditions of BastingAndService. -/
theorem witness_BastingAndService :
    (∃ (s : State) (w : Writer) (m : Fin 24) (k : Fin 24), s.may w (GI_L_BCTRL (m.val / 3) (m.val % 3)) 1 = true ∧ (s.bastLegs m.val).contains k.val = true ∧ (s.bastLegs m.val).all (fun l => s.bastList l == []) = false) ∧
    (∃ (s : State) (w : Writer) (m : Fin 24) (k : Fin 24), s.may w (GI_L_BCTRL (m.val / 3) (m.val % 3)) 1 = true ∧ (s.bastLegs m.val).contains k.val = true ∧ (s.bastLegs m.val).all (fun l => s.bastList l == []) = true) ∧
    (∃ (s : State) (w : Writer) (m : Fin 24) (k : Fin 24), s.may w (GI_L_BCTRL (m.val / 3) (m.val % 3)) 2 = true ∧ (s.bastLegs m.val).contains k.val = true ∧ s.on (GI_L_BRES__RUNNING (k.val / 3) (k.val % 3)) = true) ∧
    (∃ (s : State) (w : Writer) (m : Fin 24) (k : Fin 24), s.may w (GI_L_BCTRL (m.val / 3) (m.val % 3)) 2 = true ∧ (s.bastLegs m.val).contains k.val = true ∧ s.on (GI_L_BRES__RUNNING (k.val / 3) (k.val % 3)) = false) ∧
    (∃ (s : State) (m : Fin 24) (up : Bool) (clamp : Bool) (rest : Bool) (small : Bool) (d : BitVec 8) (last : Bool), s.on (GI_L_BRES__RUNNING (m.val / 3) (m.val % 3)) = true ∧ s.bastTurn m.val (bastKind (.gate up clamp rest small d)) = true ∧ last = s.bastEnds m.val (.gate up clamp rest small d)) ∧
    (∃ (s : State) (m : Fin 24) (v : BitVec 8) (u : BitVec 8) (last : Bool), s.on (GI_L_BRES__RUNNING (m.val / 3) (m.val % 3)) = true ∧ s.bastTurn m.val (bastKind (.phase v u)) = true ∧ last = s.bastEnds m.val (.phase v u)) ∧
    (∃ (s : State) (m : Fin 24) (u : WindV) (v : WindV) (last : Bool), s.on (GI_L_BRES__RUNNING (m.val / 3) (m.val % 3)) = true ∧ s.bastTurn m.val (bastKind (.wind u v)) = true ∧ last = s.bastEnds m.val (.wind u v)) ∧
    (∃ (s : State) (m : Fin 24) (k : Fin 24) (b : BastMeas), s.on (GI_L_BRES__RUNNING (m.val / 3) (m.val % 3)) = true ∧ s.bastTurn m.val (bastKind b) = true ∧ s.bastEnds m.val b = true ∧ (s.bastLegs m.val).contains k.val = true) ∧
    (∃ (s : State) (m : Fin 24) (b : BastMeas) (last : Bool), (s.on (GI_L_BRES__RUNNING (m.val / 3) (m.val % 3)) = false ∨ s.bastTurn m.val (bastKind b) = false ∨ last ≠ s.bastEnds m.val b)) ∧
    (∃ (s : State) (w : Writer) (i : Fin 8), s.may w (GI_CFG i.val) (fieldSet (s.rd (GI_CFG i.val)) 0 1 1) = true ∧ s.on (GI_CFG__SERVICE i.val) = false) ∧
    (∃ (s : State) (w : Writer) (i : Fin 8), s.may w (GI_CFG i.val) (fieldSet (s.rd (GI_CFG i.val)) 0 1 0) = true ∧ s.on (GI_CFG__SERVICE i.val) = true) ∧
    (∃ (s : State) (w : Writer) (i : Fin 8) (v : Bool), s.may w (GI_CFG i.val) (fieldSet (s.rd (GI_CFG i.val)) 0 1 (b2n v)) = true ∧ s.on (GI_CFG__SERVICE i.val) = v) :=
  ⟨⟨(((List.range 8).foldl (fun (s : State) i => s.putB (GI_STATUS__READY i) true) (stew 1 ((List.range 8).foldl (fun (s : State) a => s.put (AX_BIND_LEG__LEG_MASK a) 0) State.reset))) |>.putB (GI_L_BCFG__TEST_GATE 2 1) true), .host 1, 7, 7, by decide +kernel⟩,
   ⟨(((List.range 8).foldl (fun (s : State) i => s.putB (GI_STATUS__READY i) true) (stew 1 ((List.range 8).foldl (fun (s : State) a => s.put (AX_BIND_LEG__LEG_MASK a) 0) State.reset))) |>.wr (GI_L_BCFG 2 1) 0), .host 1, 7, 7, by decide +kernel⟩,
   ⟨(((List.range 8).foldl (fun (s : State) i => s.putB (GI_STATUS__READY i) true) (stew 1 ((List.range 8).foldl (fun (s : State) a => s.put (AX_BIND_LEG__LEG_MASK a) 0) State.reset))) |>.putB (GI_L_BRES__RUNNING 2 1) true |>.upLeg 7 (fun l => { l with bast := [1, 2] })), .host 1, 7, 7, by decide +kernel⟩,
   ⟨(((List.range 8).foldl (fun (s : State) i => s.putB (GI_STATUS__READY i) true) (stew 1 ((List.range 8).foldl (fun (s : State) a => s.put (AX_BIND_LEG__LEG_MASK a) 0) State.reset))) |>.putB (GI_L_BRES__RUNNING 2 1) false), .host 1, 7, 7, by decide +kernel⟩,
   ⟨((fun s => (List.range 8).foldl (fun (s : State) a => s.put (AX_BIND_LEG__LEG_MASK a) 0) s) State.reset |>.putB (GI_L_BRES__RUNNING 2 1) true |>.upLeg 7 (fun l => { l with bast := [0, 1] })), 7, true, true, true, false, 9, false, by decide +kernel⟩,
   ⟨((fun s => (List.range 8).foldl (fun (s : State) a => s.put (AX_BIND_LEG__LEG_MASK a) 0) s) State.reset |>.putB (GI_L_BRES__RUNNING 2 1) true |>.upLeg 7 (fun l => { l with bast := [2, 3] })), 7, 40, 90, false, by decide +kernel⟩,
   ⟨((fun s => (List.range 8).foldl (fun (s : State) a => s.put (AX_BIND_LEG__LEG_MASK a) 0) s) State.reset |>.putB (GI_L_BRES__RUNNING 2 1) true |>.upLeg 7 (fun l => { l with bast := [3] })), 7, .low, .low, true, by decide +kernel⟩,
   ⟨((fun s => (List.range 8).foldl (fun (s : State) a => s.put (AX_BIND_LEG__LEG_MASK a) 0) s) State.reset |>.putB (GI_L_BRES__RUNNING 2 1) true |>.upLeg 7 (fun l => { l with bast := [3] })), 7, 7, .wind .low .low, by decide +kernel⟩,
   ⟨((fun s => (List.range 8).foldl (fun (s : State) a => s.put (AX_BIND_LEG__LEG_MASK a) 0) s) State.reset |>.putB (GI_L_BRES__RUNNING 2 1) true |>.upLeg 7 (fun l => { l with bast := [3] })), 7, .wind .low .low, false, by decide +kernel⟩,
   ⟨(((List.range 8).foldl (fun (s : State) i => s.putB (GI_STATUS__READY i) true) (stew 1 ((List.range 8).foldl (fun (s : State) a => s.put (AX_BIND_LEG__LEG_MASK a) 0) State.reset))) |>.putB (GI_CFG__SERVICE 2) false), .host 1, 2, by decide +kernel⟩,
   ⟨(((List.range 8).foldl (fun (s : State) i => s.putB (GI_STATUS__READY i) true) (stew 1 ((List.range 8).foldl (fun (s : State) a => s.put (AX_BIND_LEG__LEG_MASK a) 0) State.reset))) |>.upIsl 2 (fun _ => { lost := false }) |>.putB (GI_CFG__SERVICE 2) true |>.putB (GI_STATUS__LINK_UP 2) true |>.putB (GI_STATUS__CFG_SYNC 2) true), .host 1, 2, by decide +kernel⟩,
   ⟨(((List.range 8).foldl (fun (s : State) i => s.putB (GI_STATUS__READY i) true) (stew 1 ((List.range 8).foldl (fun (s : State) a => s.put (AX_BIND_LEG__LEG_MASK a) 0) State.reset))) |>.putB (GI_CFG__SERVICE 2) true), .host 1, 2, true, by decide +kernel⟩⟩

/-- States and operands that meet the conditions of FastMeasurement. -/
theorem witness_FastMeasurement :
    (∃ (s : State) (k : Fin 32), s.on CLK_STATUS__PLLB_LOCK = true ∧ s.fcConv k.val = true ∧ (s.onGrid k.val || ((s.fc k.val).due != 0)) = true) ∧
    (∃ (s : State) (k : Fin 32), (s.on CLK_STATUS__PLLB_LOCK = false ∨ s.fcConv k.val = false ∨ (s.onGrid k.val = false ∧ (s.fc k.val).due = 0))) ∧
    (∃ (s : State) (k : Fin 32), s.on (FM_CH_CFG__EN k.val) = true ∧ s.onGrid k.val = false ∧ s.on CLK_STATUS__PLLB_LOCK = true ∧ (s.fc k.val).due ≠ 0) ∧
    (∃ (s : State) (k : Fin 32), (s.on (FM_CH_CFG__EN k.val) = false ∨ s.onGrid k.val = true ∨ s.on CLK_STATUS__PLLB_LOCK = false ∨ (s.fc k.val).due = 0)) ∧
    (∃ (s : State) (k : Fin 32) (f : Fin 36), s.on (FM_CH_CFG__EN k.val) = true ∧ s.get (fpStat f.val) = 1) ∧
    (∃ (s : State) (k : Fin 32) (f : Fin 36), (s.on (FM_CH_CFG__EN k.val) = false ∨ s.get (fpStat f.val) ≠ 1)) ∧
    (∃ (s : State) (k : Fin 32) (b : Bool) (c : BitVec 2), s.get (winMode k.val b) ≠ 0 ∧ s.on (winOut k.val b) = false ∧ c.toNat &&& s.get (winCopies k.val b) ≠ 0 ∧ (s.on (FM_CH_STATUS__BLANKING k.val) = false ∨ s.on (winBlk k.val b) = false)) ∧
    (∃ (s : State) (k : Fin 32) (b : Bool) (c : BitVec 2), s.get (winMode k.val b) ≠ 0 ∧ s.on (winOut k.val b) = false ∧ c.toNat &&& s.get (winCopies k.val b) ≠ 0 ∧ s.on (FM_CH_STATUS__BLANKING k.val) = true ∧ s.on (winBlk k.val b) = true) ∧
    (∃ (s : State) (k : Fin 32) (b : Bool) (c : BitVec 2), (s.get (winMode k.val b) = 0 ∨ s.on (winOut k.val b) = true ∨ c.toNat &&& s.get (winCopies k.val b) = 0)) ∧
    (∃ (s : State) (k : Fin 32), (∀ g : Fin 4, s.get (SAF_LINK_CFG__VDC_CH g.val) ≠ k.val)) ∧
    (∃ (s : State) (k : Fin 32) (g : Fin 4), s.get (SAF_LINK_CFG__VDC_CH g.val) = k.val) ∧
    (∃ (s : State) (k : Fin 32), s.on (FM_CH_STATUS__BLANKING k.val) = true) ∧
    (∃ (s : State) (k : Fin 32), s.on (FM_CH_STATUS__BLANKING k.val) = false) ∧
    (∃ (s : State) (k : Nat) (b : Bool) (l : List (Nat × Bool)) (a : Fin 8), s.sys.firings = (k, b) :: l ∧ s.fcAxes k = [a.val] ∧ s.winIgnored a.val = false ∧ s.get PWR_BOOT_STATUS__PHASE ≠ 0 ∧ s.axState a.val < 5 ∧ (s.axState a.val ≠ 0 ∨ (s.on SAF_STATUS__ARMED = true ∧ s.sys.released = true))) ∧
    (∃ (s : State) (k : Nat) (b : Bool) (l : List (Nat × Bool)) (a : Fin 8), s.sys.firings = (k, b) :: l ∧ (s.fcAxes k).contains a.val = true ∧ s.winIgnored a.val = false ∧ s.get PWR_BOOT_STATUS__PHASE ≠ 0 ∧ s.axState a.val < 5 ∧ (s.axState a.val ≠ 0 ∨ (s.on SAF_STATUS__ARMED = true ∧ s.sys.released = true))) ∧
    (∃ (s : State) (k : Nat) (b : Bool) (l : List (Nat × Bool)) (a : Fin 8), s.sys.firings = (k, b) :: l ∧ s.fcAxes k = [a.val] ∧ s.winIgnored a.val = true) ∧
    (∃ (s : State) (k : Nat) (b : Bool) (l : List (Nat × Bool)), s.sys.firings = (k, b) :: l ∧ s.fcAxes k = []) ∧
    (∃ (s : State), s.sys.firings = []) :=
  ⟨⟨(State.reset.putB (FM_CH_CFG__EN 9) true |>.putB CLK_STATUS__PLLB_LOCK true |>.put (FM_CH_STATUS__FP 9) 9 |>.put (fpStat 9) 0 |>.upFc 9 (fun f => { f with due := 1 })), 9, by decide +kernel⟩,
   ⟨State.reset.putB (FM_CH_CFG__EN 9) false, 9, by decide +kernel⟩,
   ⟨(fun s => (List.range 8).foldl (fun (s : State) a => s.putB (AX_BIND__MODE a) false) s) (State.reset.putB (FM_CH_CFG__EN 9) true |>.putB CLK_STATUS__PLLB_LOCK true |>.put (FM_CH_STATUS__FP 9) 9 |>.put (fpStat 9) 0 |>.upFc 9 (fun f => { f with due := 1 }) |>.putB (FM_CH_CFG__SMODE 9) true), 9, by decide +kernel⟩,
   ⟨State.reset, 9, by decide +kernel⟩,
   ⟨State.reset.put (FM_CH_STATUS__FP 9) 12 |>.putB (FM_CH_CFG__EN 9) true |>.put (fpStat 33) 1, 9, 33, by decide +kernel⟩,
   ⟨State.reset.put (fpStat 33) 2, 9, 33, by decide +kernel⟩,
   ⟨(State.reset.put (winMode 9 true) 1 |>.putB (winOut 9 true) false |>.put (winCopies 9 true) 2 |>.putB (FM_CH_STATUS__BLANKING 9) false |>.putB (winAct 9 true) false), 9, true, 3, by decide +kernel⟩,
   ⟨(State.reset.put (winMode 9 true) 1 |>.putB (winOut 9 true) false |>.put (winCopies 9 true) 2 |>.putB (FM_CH_STATUS__BLANKING 9) false |>.putB (winAct 9 true) false |>.putB (FM_CH_STATUS__BLANKING 9) true |>.putB (winBlk 9 true) true), 9, true, 3, by decide +kernel⟩,
   ⟨State.reset, 9, true, 0, by decide +kernel⟩,
   ⟨(fun s => (List.range 4).foldl (fun (s : State) g => s.put (SAF_LINK_CFG__VDC_CH g) 3) (s.putB (winOut 9 true) true)) State.reset, 9, by decide +kernel⟩,
   ⟨State.reset.put (SAF_LINK_CFG__VDC_CH 2) 9 |> linkPut 2 1 true, 9, 2, by decide +kernel⟩,
   ⟨(State.reset.putB (FM_CH_STATUS__BLANKING 9) true).putB (winAct 9 false) false |>.upFc 9 fun _ => { heldA := true }, 9, by decide +kernel⟩,
   ⟨State.reset.putB (FM_CH_STATUS__BLANKING 9) false, 9, by decide +kernel⟩,
   ⟨((fun s => (List.range 8).foldl (fun (s : State) a => s.put (AX_BIND_LEG__LEG_MASK a) 0) s) State.reset |>.put (AX_BIND_LEG__LEG_MASK 3) 0x1C0 |>.put (AX_STATE__STATE 3) 3 |>.putB (AX_STATE__CLOSING 3) false |>.putB (FM_CH_BIND__BOUND 9) true |>.put (FM_CH_BIND__AXIS 9) 3 |>.upSys (fun y => { y with firings := [(9, true), (8, true)] })) |>.put PWR_BOOT_STATUS__PHASE 5, 9, true, [(8, true)], 3, by decide +kernel⟩,
   ⟨((fun s => (List.range 8).foldl (fun (s : State) a => s.put (AX_BIND_LEG__LEG_MASK a) 0) s) State.reset |>.put (AX_BIND_LEG__LEG_MASK 3) 0x1C0 |>.put (AX_STATE__STATE 3) 3 |>.putB (AX_STATE__CLOSING 3) false |>.putB (FM_CH_BIND__BOUND 9) true |>.put (FM_CH_BIND__AXIS 9) 3 |>.upSys (fun y => { y with firings := [(9, true), (8, true)] })) |>.put PWR_BOOT_STATUS__PHASE 5, 9, true, [(8, true)], 3, by decide +kernel⟩,
   ⟨(fun s => (List.range 8).foldl (fun (s : State) a => s.put (AX_BIND_LEG__LEG_MASK a) 0) s) State.reset |>.put (AX_BIND_LEG__LEG_MASK 3) 0x1C0 |>.put (AX_STATE__STATE 3) 3 |>.putB (AX_STATE__CLOSING 3) false |>.putB (FM_CH_BIND__BOUND 9) true |>.put (FM_CH_BIND__AXIS 9) 3 |>.upSys (fun y => { y with firings := [(9, true), (8, true)] }) |>.put (AX_STATE__STATE 3) 5 |>.putB (AX_STATE__ASC_ACTIVE 3) true, 9, true, [(8, true)], 3, by decide +kernel⟩,
   ⟨(fun s => (List.range 8).foldl (fun (s : State) a => s.put (AX_BIND_LEG__LEG_MASK a) 0) s) State.reset |>.put (AX_BIND_LEG__LEG_MASK 3) 0x1C0 |>.put (AX_STATE__STATE 3) 3 |>.putB (AX_STATE__CLOSING 3) false |>.putB (FM_CH_BIND__BOUND 9) true |>.put (FM_CH_BIND__AXIS 9) 3 |>.upSys (fun y => { y with firings := [(9, true), (8, true)] }) |>.putB (FM_CH_BIND__BOUND 9) false |>.putB (FM_CH_BIND__SHARED 9) false, 9, true, [(8, true)], by decide +kernel⟩,
   ⟨State.reset, by decide +kernel⟩⟩

/-- States and operands that meet the conditions of PrecisionPath. -/
theorem witness_PrecisionPath :
    (∃ (s : State) (x : Fin 2), (s.px x.val).job = 1 ∧ (s.pmIn (s.px x.val).input).n + 1 < 2 ^ min 8 (s.get (PM_IN_CFG__AVG_LOG2 ((s.px x.val).input)))) ∧
    (∃ (s : State) (x : Fin 2), (s.px x.val).job = 1 ∧ 2 ^ min 8 (s.get (PM_IN_CFG__AVG_LOG2 ((s.px x.val).input))) ≤ (s.pmIn (s.px x.val).input).n + 1) ∧
    (∃ (s : State) (x : Fin 2), (s.px x.val).job = 2) ∧
    (∃ (s : State) (x : Fin 2), (s.px x.val).job = 3 ∧ s.pm.calLeft ≠ 0) ∧
    (∃ (s : State) (x : Fin 2), (s.px x.val).job = 3 ∧ s.pm.calLeft = 0 ∧ s.get PM_CAL_STATUS__PHASE = 1) ∧
    (∃ (s : State) (x : Fin 2), (s.px x.val).job = 3 ∧ s.pm.calLeft = 0 ∧ s.get PM_CAL_STATUS__PHASE = 3) ∧
    (∃ (s : State) (x : Fin 2), ((s.px x.val).job = 0 ∨ 4 ≤ (s.px x.val).job)) ∧
    (∃ (s : State) (x : Fin 2), (s.px x.val).job = 4 ∧ (s.pmIn (s.px x.val).input).owDown = none) ∧
    (∃ (s : State) (x : Fin 2), (s.px x.val).job = 5 ∧ (s.pmIn (s.px x.val).input).owUp = none) ∧
    (∃ (s : State) (x : Fin 2) (u : Bool), (s.px x.val).job = 5 ∧ (s.pmIn (s.px x.val).input).owUp = some u) ∧
    (∃ (s : State) (x : Fin 2) (u : Bool), (s.px x.val).job = 4 ∧ (s.pmIn (s.px x.val).input).owDown = some u) ∧
    (∃ (s : State) (x : Fin 2), (s.px x.val).job ≠ 4 ∧ (s.px x.val).job ≠ 5) ∧
    (∃ (s : State) (r : Bool), s.get PM_CFG__MAINS = 2 ∧ (r = false ∨ s.pm.last = none)) ∧
    (∃ (s : State) (n : Nat), s.get PM_CFG__MAINS = 2 ∧ s.pm.last = some n ∧ mainsOk (s.time - n) = true) ∧
    (∃ (s : State) (n : Nat), s.get PM_CFG__MAINS = 2 ∧ s.pm.last = some n ∧ mainsOk (s.time - n) = false) ∧
    (∃ (s : State), s.get PM_CFG__MAINS = 2) ∧
    (∃ (s : State), s.get PM_CFG__MAINS ≠ 2) ∧
    (∃ (s : State) (w : Writer) (j : Fin 64), s.may w PM_URGENT (BitVec.ofNat 32 j.val) = true ∧ s.pm.urg = [] ∧ (s.px 0).held = none ∧ (s.px 1).held = none ∧ s.pxLive 0 = true ∧ (s.px 0).job = 0 ∧ ((s.px 1).job ≠ 1 ∨ (s.px 1).input ≠ j.val)) ∧
    (∃ (s : State) (w : Writer) (j : Fin 64), s.may w PM_URGENT (BitVec.ofNat 32 j.val) = true ∧ s.pm.urg = [] ∧ (s.px 0).held = none ∧ (s.px 1).held = none ∧ (((s.px 0).job = 1 ∧ (s.px 0).input = j.val) ∨ ((s.px 0).job ≠ 1 ∧ (s.px 1).job = 1 ∧ (s.px 1).input = j.val))) ∧
    (∃ (s : State) (w : Writer) (j : Fin 64), s.may w PM_URGENT (BitVec.ofNat 32 j.val) = true ∧ s.pm.urg = [] ∧ (s.px 0).held = none ∧ (s.px 1).held = none ∧ ((s.px 0).job = 2 ∨ (s.px 0).job = 3) ∧ s.pxLive 1 = true ∧ (s.px 1).normal = true ∧ ((s.px 1).job ≠ 1 ∨ (s.px 1).input ≠ j.val)) ∧
    (∃ (s : State) (w : Writer) (j : Fin 64), s.may w PM_URGENT (BitVec.ofNat 32 j.val) = true ∧ s.pm.urg = [] ∧ (s.px 0).held = none ∧ (s.px 1).held = none ∧ (s.px 0).job = 2 ∧ (s.px 1).job = 2) ∧
    (∃ (s : State) (p : Fin 4) (e : List Word) (l : List (List Word)), s.portTakes p.val = true ∧ (s.port p.val).mse = true ∧ 2 ≤ s.get PWR_STATE__STATE ∧ s.accessWaits false (PM_QPOP 0) = false ∧ s.readReason (.host p) false (PM_QPOP 0) = 0 ∧ s.pm.readers = [] ∧ s.pm.q = e :: l) ∧
    (∃ (s : State) (p : Fin 4), s.portTakes p.val = true ∧ (s.port p.val).mse = true ∧ 2 ≤ s.get PWR_STATE__STATE ∧ s.accessWaits false (PM_QPOP 0) = false ∧ s.readReason (.host p) false (PM_QPOP 0) = 0 ∧ (s.pm.readers ≠ [] ∨ s.pm.q = [])) ∧
    (∃ (s : State) (w : Writer) (j : Fin 64) (n : Fin 16), s.may w PM_CAL_CTRL (BitVec.ofNat 32 (j.val + 2 ^ 8 * n.val + 2 ^ 16)) = true ∧ s.get PM_CAL_STATUS__PHASE = 0) ∧
    (∃ (s : State) (w : Writer) (j : Fin 64) (n : Fin 16), s.may w PM_CAL_CTRL (BitVec.ofNat 32 (j.val + 2 ^ 8 * n.val + 2 ^ 16)) = true ∧ s.get PM_CAL_STATUS__PHASE ≠ 0) ∧
    (∃ (s : State) (w : Writer) (j : Fin 64) (n : Fin 16), s.may w PM_CAL_CTRL (BitVec.ofNat 32 (j.val + 2 ^ 8 * n.val + 2 * 2 ^ 16)) = true ∧ s.get PM_CAL_STATUS__PHASE = 2) ∧
    (∃ (s : State) (w : Writer) (j : Fin 64) (n : Fin 16), s.may w PM_CAL_CTRL (BitVec.ofNat 32 (j.val + 2 ^ 8 * n.val + 2 * 2 ^ 16)) = true ∧ s.get PM_CAL_STATUS__PHASE ≠ 2) ∧
    (∃ (s : State) (w : Writer) (z : Nat) (g : Nat), s.may w PM_CAL_CTRL (fieldSet (s.rd PM_CAL_CTRL) 16 3 3) = true ∧ s.calCheck = (0, z, g) ∧ s.vqFull = false) ∧
    (∃ (s : State) (w : Writer), s.may w PM_CAL_CTRL (fieldSet (s.rd PM_CAL_CTRL) 16 3 3) = true ∧ s.calCheck.1 ≠ 0) ∧
    (∃ (s : State) (w : Writer), s.may w PM_CAL_CTRL (fieldSet (s.rd PM_CAL_CTRL) 16 3 4) = true) :=
  ⟨⟨({ State.reset with pm := { px := [{ job := 1, input := 7, gain := 4194304 }, {}] } }) |>.upPmIn 7 (fun _ => { n := 2, sum := 10 }) |>.put (PM_IN_CFG__AVG_LOG2 7) 3, 0, by decide +kernel⟩,
   ⟨({ State.reset with pm := { px := [{ job := 1, input := 7, gain := 4194304 }, {}] } }) |>.upPmIn 7 (fun _ => { n := 7, sum := 10 }) |>.put (PM_IN_CFG__AVG_LOG2 7) 3, 0, by decide +kernel⟩,
   ⟨({ State.reset with pm := { px := [{ job := 2, input := 7, gain := 4194304 }, {}] } }), 0, by decide +kernel⟩,
   ⟨({ State.reset with pm := { px := [{ job := 3, input := 7, gain := 4194304 }, {}], calLeft := 3, calLog2 := 2, calRun := 1 } }), 0, by decide +kernel⟩,
   ⟨({ State.reset with pm := { px := [{ job := 3, input := 7, gain := 4194304 }, {}], calSum := 77, calLog2 := 1, calRun := 1 } }) |>.put PM_CAL_STATUS__PHASE 1, 0, by decide +kernel⟩,
   ⟨({ State.reset with pm := { px := [{ job := 3, input := 7, gain := 4194304 }, {}], calSum := 77, calLog2 := 1, calRun := 1 } }) |>.put PM_CAL_STATUS__PHASE 3, 0, by decide +kernel⟩,
   ⟨State.reset, 0, by decide +kernel⟩,
   ⟨({ State.reset with pm := { px := [{ job := 4, input := 7, gain := 4194304 }, {}] } }), 0, by decide +kernel⟩,
   ⟨({ State.reset with pm := { px := [{ job := 5, input := 7, gain := 4194304 }, {}] } }), 0, by decide +kernel⟩,
   ⟨({ State.reset with pm := { px := [{ job := 5, input := 7, gain := 4194304 }, {}] } }) |>.upPmIn 7 fun _ => { owUp := some true }, 0, true, by decide +kernel⟩,
   ⟨({ State.reset with pm := { px := [{ job := 4, input := 7, gain := 4194304 }, {}] } }) |>.upPmIn 7 fun _ => { owDown := some true }, 0, true, by decide +kernel⟩,
   ⟨State.reset, 0, by decide +kernel⟩,
   ⟨State.reset.put PM_CFG__MAINS 2, true, by decide +kernel⟩,
   ⟨{ State.reset with pm := { last := some 5, good := 7 }, sys := { State.reset.sys with timeAcc := 4000000 * 2 ^ 25 } } |>.put PM_CFG__MAINS 2, 5, by decide +kernel⟩,
   ⟨{ State.reset with pm := { last := some 5, good := 7 } } |>.put PM_CFG__MAINS 2, 5, by decide +kernel⟩,
   ⟨State.reset.put PM_CFG__MAINS 2, by decide +kernel⟩,
   ⟨State.reset.put PM_CFG__MAINS 1, by decide +kernel⟩,
   ⟨((stew 1 State.reset).put HP_OWN_FUNC__PM_OWNER 1).putB PM_CFG__EN true |>.put PM_STATUS__PX0_STATE 0 |>.putB (PM_IN_BIND__BOUND 7) false, .host 1, 7, by decide +kernel⟩,
   ⟨{ ((stew 1 State.reset).put HP_OWN_FUNC__PM_OWNER 1) with pm := { px := [{ job := 1, input := 7 }, {}] } } |>.putB PM_CFG__EN true |>.putB (PM_IN_BIND__BOUND 7) false, .host 1, 7, by decide +kernel⟩,
   ⟨{ ((stew 1 State.reset).put HP_OWN_FUNC__PM_OWNER 1) with pm := { px := [{ job := 2 }, { job := 1, input := 3 }] } } |>.putB PM_CFG__EN true |>.put PM_STATUS__PX1_STATE 0 |>.putB (PM_IN_BIND__BOUND 7) false, .host 1, 7, by decide +kernel⟩,
   ⟨{ ((stew 1 State.reset).put HP_OWN_FUNC__PM_OWNER 1) with pm := { px := [{ job := 2 }, { job := 2 }] } } |>.putB PM_CFG__EN true |>.putB (PM_IN_BIND__BOUND 7) false, .host 1, 7, by decide +kernel⟩,
   ⟨{ ((stew 1 State.reset).put HP_OWN_FUNC__PM_OWNER 1) with pm := { q := [[1, 2, 3, 4], [7, 7, 7, 7]] } }, 1, [1, 2, 3, 4], [[7, 7, 7, 7]], by decide +kernel⟩,
   ⟨((stew 1 State.reset).put HP_OWN_FUNC__PM_OWNER 1), 1, by decide +kernel⟩,
   ⟨((stew 1 State.reset).put HP_OWN_FUNC__PM_OWNER 1).putB PM_CFG__EN true |>.put PM_CAL_STATUS__PHASE 0, .host 1, 7, 3, by decide +kernel⟩,
   ⟨((stew 1 State.reset).put HP_OWN_FUNC__PM_OWNER 1).putB PM_CFG__EN true |>.put PM_CAL_STATUS__PHASE 3, .host 1, 7, 3, by decide +kernel⟩,
   ⟨((stew 1 State.reset).put HP_OWN_FUNC__PM_OWNER 1).putB PM_CFG__EN true |>.put PM_CAL_STATUS__PHASE 2, .host 1, 7, 3, by decide +kernel⟩,
   ⟨((stew 1 State.reset).put HP_OWN_FUNC__PM_OWNER 1).putB PM_CFG__EN true |>.put PM_CAL_STATUS__PHASE 3, .host 1, 7, 3, by decide +kernel⟩,
   ⟨((stew 1 State.reset).put HP_OWN_FUNC__PM_OWNER 1).put PM_CAL_STATUS__PHASE 4 |>.put PM_CAL_Z__MEAN 100 |>.put PM_CAL_F__MEAN 4194404 |>.put PM_CAL_TARGET__TARGET 65536, .host 1, 100, 65536, by decide +kernel⟩,
   ⟨((stew 1 State.reset).put HP_OWN_FUNC__PM_OWNER 1).put PM_CAL_STATUS__PHASE 2, .host 1, by decide +kernel⟩,
   ⟨((stew 1 State.reset).put HP_OWN_FUNC__PM_OWNER 1).put PM_CAL_STATUS__PHASE 2, .host 1, by decide +kernel⟩⟩

/-- States and operands that meet the conditions of PositionAndInputs. -/
theorem witness_PositionAndInputs :
    (∃ (s : State) (n : Fin 4) (a : Bool) (b : Bool) (d : Int), s.piRuns n.val 1 = true ∧ (nbit (s.get (PI_STATUS__ABZ n.val)) 0 = a) ≠ (nbit (s.get (PI_STATUS__ABZ n.val)) 1 = b) ∧ d = (if s.on (PI_CFG__DIR_INV n.val) then -quadStep (nbit (s.get (PI_STATUS__ABZ n.val)) 0) (nbit (s.get (PI_STATUS__ABZ n.val)) 1) a b else quadStep (nbit (s.get (PI_STATUS__ABZ n.val)) 0) (nbit (s.get (PI_STATUS__ABZ n.val)) 1) a b) ∧ (s.on (PI_CFG__Z_EN n.val) = false ∨ s.piGate n.val (s.get (PI_STATUS__ABZ n.val)) = s.piGate n.val (b2n a + 2 * b2n b + s.get (PI_STATUS__ABZ n.val) / 4 * 4))) ∧
    (∃ (s : State) (n : Fin 4) (a : Bool) (b : Bool) (d : Int), s.piRuns n.val 1 = true ∧ (nbit (s.get (PI_STATUS__ABZ n.val)) 0 = a) ≠ (nbit (s.get (PI_STATUS__ABZ n.val)) 1 = b) ∧ d = (if s.on (PI_CFG__DIR_INV n.val) then -quadStep (nbit (s.get (PI_STATUS__ABZ n.val)) 0) (nbit (s.get (PI_STATUS__ABZ n.val)) 1) a b else quadStep (nbit (s.get (PI_STATUS__ABZ n.val)) 0) (nbit (s.get (PI_STATUS__ABZ n.val)) 1) a b) ∧ s.on (PI_CFG__Z_EN n.val) = true ∧ s.piGate n.val (s.get (PI_STATUS__ABZ n.val)) ≠ s.piGate n.val (b2n a + 2 * b2n b + s.get (PI_STATUS__ABZ n.val) / 4 * 4) ∧ s.piGate n.val (b2n a + 2 * b2n b + s.get (PI_STATUS__ABZ n.val) / 4 * 4) ≠ decide (d < 0) ∧ s.on (PI_STATUS__INDEX_SEEN n.val) = false) ∧
    (∃ (s : State) (n : Fin 4) (a : Bool) (b : Bool), s.piRuns n.val 1 = true ∧ nbit (s.get (PI_STATUS__ABZ n.val)) 0 ≠ a ∧ nbit (s.get (PI_STATUS__ABZ n.val)) 1 ≠ b) ∧
    (∃ (s : State) (n : Fin 4) (a : Bool) (b : Bool), (s.piRuns n.val 1 = false ∨ (nbit (s.get (PI_STATUS__ABZ n.val)) 0 = a ∧ nbit (s.get (PI_STATUS__ABZ n.val)) 1 = b))) ∧
    (∃ (s : State) (n : Fin 4) (z : Bool), s.piRuns n.val 1 = true ∧ s.on (PI_CFG__Z_EN n.val) = true ∧ s.piGate n.val (s.get (PI_STATUS__ABZ n.val)) ≠ s.piGate n.val (s.get (PI_STATUS__ABZ n.val) % 4 + 4 * b2n z) ∧ s.piGate n.val (s.get (PI_STATUS__ABZ n.val) % 4 + 4 * b2n z) ≠ s.on (PI_STATUS__DIR n.val) ∧ s.on (PI_STATUS__INDEX_SEEN n.val) = false) ∧
    (∃ (s : State) (n : Fin 4) (z : Bool) (e : Int), s.piRuns n.val 1 = true ∧ s.on (PI_CFG__Z_EN n.val) = true ∧ s.piGate n.val (s.get (PI_STATUS__ABZ n.val)) ≠ s.piGate n.val (s.get (PI_STATUS__ABZ n.val) % 4 + 4 * b2n z) ∧ s.piGate n.val (s.get (PI_STATUS__ABZ n.val) % 4 + 4 * b2n z) ≠ s.on (PI_STATUS__DIR n.val) ∧ s.on (PI_STATUS__INDEX_SEEN n.val) = true ∧ e = (if s.on (PI_CFG__LIMIT_MODE n.val) then s.piCount n.val - (if s.on (PI_CFG__LIMIT_MODE n.val) then sgn 32 (s.get (PI_Z_POS__Z_POS n.val)) else s.get (PI_Z_POS__Z_POS n.val)) else (s.piCount n.val - (if s.on (PI_CFG__LIMIT_MODE n.val) then sgn 32 (s.get (PI_Z_POS__Z_POS n.val)) else s.get (PI_Z_POS__Z_POS n.val)) + (max 4 (s.get (PI_CPR__CPR n.val)) : Nat) / 2) % (max 4 (s.get (PI_CPR__CPR n.val)) : Nat) - (max 4 (s.get (PI_CPR__CPR n.val)) : Nat) / 2) ∧ s.get (PI_Z_TOL__Z_TOL n.val) < e.natAbs) ∧
    (∃ (s : State) (n : Fin 4) (z : Bool) (e : Int), s.piRuns n.val 1 = true ∧ s.on (PI_CFG__Z_EN n.val) = true ∧ s.piGate n.val (s.get (PI_STATUS__ABZ n.val)) ≠ s.piGate n.val (s.get (PI_STATUS__ABZ n.val) % 4 + 4 * b2n z) ∧ s.piGate n.val (s.get (PI_STATUS__ABZ n.val) % 4 + 4 * b2n z) ≠ s.on (PI_STATUS__DIR n.val) ∧ s.on (PI_STATUS__INDEX_SEEN n.val) = true ∧ e = (if s.on (PI_CFG__LIMIT_MODE n.val) then s.piCount n.val - (if s.on (PI_CFG__LIMIT_MODE n.val) then sgn 32 (s.get (PI_Z_POS__Z_POS n.val)) else s.get (PI_Z_POS__Z_POS n.val)) else (s.piCount n.val - (if s.on (PI_CFG__LIMIT_MODE n.val) then sgn 32 (s.get (PI_Z_POS__Z_POS n.val)) else s.get (PI_Z_POS__Z_POS n.val)) + (max 4 (s.get (PI_CPR__CPR n.val)) : Nat) / 2) % (max 4 (s.get (PI_CPR__CPR n.val)) : Nat) - (max 4 (s.get (PI_CPR__CPR n.val)) : Nat) / 2) ∧ e.natAbs ≤ s.get (PI_Z_TOL__Z_TOL n.val)) ∧
    (∃ (s : State) (n : Fin 4) (z : Bool), s.piRuns n.val 1 = true ∧ (s.on (PI_CFG__Z_EN n.val) = false ∨ s.piGate n.val (s.get (PI_STATUS__ABZ n.val)) = s.piGate n.val (s.get (PI_STATUS__ABZ n.val) % 4 + 4 * b2n z) ∨ s.piGate n.val (s.get (PI_STATUS__ABZ n.val) % 4 + 4 * b2n z) = s.on (PI_STATUS__DIR n.val))) ∧
    (∃ (s : State) (n : Fin 4), s.piRuns n.val 1 = false) ∧
    (∃ (s : State) (n : Fin 4) (c : Fin 8) (o : Nat) (k : Nat), s.piRuns n.val 2 = true ∧ (s.on (PI_STATUS__POS_VALID n.val) = true ∨ s.piMissed n.val = true) ∧ hallSector (s.get (PI_STATUS__HALL n.val)) = some o ∧ hallSector c.val = some k ∧ (k = (o + 1) % 6 ∨ k = (o + 5) % 6)) ∧
    (∃ (s : State) (n : Fin 4) (c : Fin 8) (k : Nat), s.piRuns n.val 2 = true ∧ ((s.on (PI_STATUS__POS_VALID n.val) = false ∧ s.piMissed n.val = false) ∨ hallSector (s.get (PI_STATUS__HALL n.val)) = none) ∧ hallSector c.val = some k) ∧
    (∃ (s : State) (n : Fin 4) (c : Fin 8) (o : Nat) (k : Nat), s.piRuns n.val 2 = true ∧ (s.on (PI_STATUS__POS_VALID n.val) = true ∨ s.piMissed n.val = true) ∧ hallSector (s.get (PI_STATUS__HALL n.val)) = some o ∧ hallSector c.val = some k ∧ k ≠ o ∧ k ≠ (o + 1) % 6 ∧ k ≠ (o + 5) % 6) ∧
    (∃ (s : State) (n : Fin 4) (c : Fin 8) (o : Nat), s.piRuns n.val 2 = true ∧ (s.on (PI_STATUS__POS_VALID n.val) = true ∨ s.piMissed n.val = true) ∧ hallSector (s.get (PI_STATUS__HALL n.val)) = some o ∧ hallSector c.val = some o) ∧
    (∃ (s : State) (n : Fin 4) (c : Fin 8), s.piRuns n.val 2 = true ∧ hallSector c.val = none) ∧
    (∃ (s : State) (n : Fin 4), s.piRuns n.val 2 = false) ∧
    (∃ (s : State) (n : Fin 4), (s.piRuns n.val 1 = true ∨ s.piRuns n.val 2 = true)) ∧
    (∃ (s : State) (n : Fin 4), s.piRuns n.val 1 = false ∧ s.piRuns n.val 2 = false) ∧
    (∃ (s : State) (n : Fin 4) (e : Bool) (l : Bool), s.piRuns n.val 3 = true ∧ s.ssiAsked n.val = true ∧ s.ssiEarly n.val = false ∧ (l = false ∨ (s.get (PI_SSI__ERR_MODE n.val) = 1 ∧ e = false) ∨ (s.get (PI_SSI__ERR_MODE n.val) = 2 ∧ e = true) ∨ 32 < min 16 (s.get (PI_SSI__TURN_BITS n.val)) + min 24 (s.get (PI_SSI__ST_BITS n.val)) ∨ min 24 (s.get (PI_SSI__ST_BITS n.val)) < 8)) ∧
    (∃ (s : State) (n : Fin 4) (d : Word) (e : Bool) (l : Bool) (c : Int) (q : Int), s.piRuns n.val 3 = true ∧ s.ssiAsked n.val = true ∧ s.ssiEarly n.val = false ∧ ¬ (l = false ∨ (s.get (PI_SSI__ERR_MODE n.val) = 1 ∧ e = false) ∨ (s.get (PI_SSI__ERR_MODE n.val) = 2 ∧ e = true) ∨ 32 < min 16 (s.get (PI_SSI__TURN_BITS n.val)) + min 24 (s.get (PI_SSI__ST_BITS n.val)) ∨ min 24 (s.get (PI_SSI__ST_BITS n.val)) < 8) ∧ c = (if s.on (PI_CFG__LIMIT_MODE n.val) then (((if s.on (PI_SSI__GRAY n.val) then grayDecode (min 16 (s.get (PI_SSI__TURN_BITS n.val))) (d.toNat / 2 ^ (min 24 (s.get (PI_SSI__ST_BITS n.val))) % 2 ^ (min 16 (s.get (PI_SSI__TURN_BITS n.val)))) else d.toNat / 2 ^ (min 24 (s.get (PI_SSI__ST_BITS n.val))) % 2 ^ (min 16 (s.get (PI_SSI__TURN_BITS n.val)))) * 2 ^ (min 24 (s.get (PI_SSI__ST_BITS n.val))) + (if s.on (PI_SSI__GRAY n.val) then grayDecode (min 24 (s.get (PI_SSI__ST_BITS n.val))) (d.toNat % 2 ^ (min 24 (s.get (PI_SSI__ST_BITS n.val)))) else d.toNat % 2 ^ (min 24 (s.get (PI_SSI__ST_BITS n.val)))) : Nat) : Int) else (((if s.on (PI_SSI__GRAY n.val) then grayDecode (min 24 (s.get (PI_SSI__ST_BITS n.val))) (d.toNat % 2 ^ (min 24 (s.get (PI_SSI__ST_BITS n.val)))) else d.toNat % 2 ^ (min 24 (s.get (PI_SSI__ST_BITS n.val)))) : Nat) : Int)) ∧ q = (((s.pi n.val).frame.map fun f => if s.on (PI_CFG__LIMIT_MODE n.val) then c - f else (c - f + ((max 4 (s.get (PI_CPR__CPR n.val)) : Nat) : Int) / 2) % ((max 4 (s.get (PI_CPR__CPR n.val)) : Nat) : Int) - ((max 4 (s.get (PI_CPR__CPR n.val)) : Nat) : Int) / 2).getD 0) ∧ 4 * (q.natAbs : Int) ≤ ((max 4 (s.get (PI_CPR__CPR n.val)) : Nat) : Int)) ∧
    (∃ (s : State) (n : Fin 4) (d : Word) (e : Bool) (l : Bool) (c : Int) (q : Int), s.piRuns n.val 3 = true ∧ s.ssiAsked n.val = true ∧ s.ssiEarly n.val = false ∧ ¬ (l = false ∨ (s.get (PI_SSI__ERR_MODE n.val) = 1 ∧ e = false) ∨ (s.get (PI_SSI__ERR_MODE n.val) = 2 ∧ e = true) ∨ 32 < min 16 (s.get (PI_SSI__TURN_BITS n.val)) + min 24 (s.get (PI_SSI__ST_BITS n.val)) ∨ min 24 (s.get (PI_SSI__ST_BITS n.val)) < 8) ∧ c = (if s.on (PI_CFG__LIMIT_MODE n.val) then (((if s.on (PI_SSI__GRAY n.val) then grayDecode (min 16 (s.get (PI_SSI__TURN_BITS n.val))) (d.toNat / 2 ^ (min 24 (s.get (PI_SSI__ST_BITS n.val))) % 2 ^ (min 16 (s.get (PI_SSI__TURN_BITS n.val)))) else d.toNat / 2 ^ (min 24 (s.get (PI_SSI__ST_BITS n.val))) % 2 ^ (min 16 (s.get (PI_SSI__TURN_BITS n.val)))) * 2 ^ (min 24 (s.get (PI_SSI__ST_BITS n.val))) + (if s.on (PI_SSI__GRAY n.val) then grayDecode (min 24 (s.get (PI_SSI__ST_BITS n.val))) (d.toNat % 2 ^ (min 24 (s.get (PI_SSI__ST_BITS n.val)))) else d.toNat % 2 ^ (min 24 (s.get (PI_SSI__ST_BITS n.val)))) : Nat) : Int) else (((if s.on (PI_SSI__GRAY n.val) then grayDecode (min 24 (s.get (PI_SSI__ST_BITS n.val))) (d.toNat % 2 ^ (min 24 (s.get (PI_SSI__ST_BITS n.val)))) else d.toNat % 2 ^ (min 24 (s.get (PI_SSI__ST_BITS n.val)))) : Nat) : Int)) ∧ q = (((s.pi n.val).frame.map fun f => if s.on (PI_CFG__LIMIT_MODE n.val) then c - f else (c - f + ((max 4 (s.get (PI_CPR__CPR n.val)) : Nat) : Int) / 2) % ((max 4 (s.get (PI_CPR__CPR n.val)) : Nat) : Int) - ((max 4 (s.get (PI_CPR__CPR n.val)) : Nat) : Int) / 2).getD 0) ∧ ((max 4 (s.get (PI_CPR__CPR n.val)) : Nat) : Int) < 4 * (q.natAbs : Int)) ∧
    (∃ (s : State) (n : Fin 4), s.piRuns n.val 3 = false ∨ s.ssiAsked n.val = false) ∧
    (∃ (s : State) (n : Fin 4), s.piRuns n.val 3 = true ∧ s.ssiAsked n.val = true ∧ s.ssiEarly n.val = true) ∧
    (∃ (s : State) (n : Fin 4) (pk : Int × Int) (si : Int) (co : Int), s.piRuns n.val 4 = true ∧ (s.pi n.val).peak = some pk ∧ si = pk.1 - (s.resPair n.val).1 ∧ co = pk.2 - (s.resPair n.val).2 ∧ s.resOk n.val si co = false) ∧
    (∃ (s : State) (n : Fin 4) (pk : Int × Int) (si : Int) (co : Int), s.piRuns n.val 4 = true ∧ (s.pi n.val).peak = some pk ∧ si = pk.1 - (s.resPair n.val).1 ∧ co = pk.2 - (s.resPair n.val).2 ∧ s.resOk n.val si co = true ∧ ((s.pi n.val).theta = none ∨ (s.on (PI_STATUS__POS_VALID n.val) = false ∧ s.piMissed n.val = false ∧ (s.pi n.val).theta = some 0 ∧ (∀ e : Fin 3, (sgn 16 ((angleOf s.free co si + 65535 + e.val) % 65536)).natAbs ≤ 2 ^ 14)))) ∧
    (∃ (s : State) (n : Fin 4) (pk : Int × Int) (si : Int) (co : Int) (v : Nat), s.piRuns n.val 4 = true ∧ (s.pi n.val).peak = some pk ∧ si = pk.1 - (s.resPair n.val).1 ∧ co = pk.2 - (s.resPair n.val).2 ∧ s.resOk n.val si co = true ∧ (s.pi n.val).theta = some v ∧ (∀ e : Fin 3, 2 ^ 14 < (sgn 16 (unsgn 16 ((((angleOf s.free co si + 65535 + e.val) % 65536) : Nat) - v))).natAbs)) ∧
    (∃ (s : State) (n : Fin 4) (valley : Bool), s.piRuns n.val 4 = false ∨ valley = true ∧ (s.pi n.val).peak = none) ∧
    (∃ (s : State) (n : Fin 4), s.piRuns n.val 4 = true) ∧
    (∃ (s : State) (n : Fin 4), s.piQuiet n.val = false) ∧
    (∃ (s : State) (n : Fin 4), (s.piRuns n.val 1 = true ∨ s.piRuns n.val 2 = true) ∧ s.piQuiet n.val = true) ∧
    (∃ (s : State) (n : Fin 4), 2 ^ min 6 (s.get (PI_CFG__SPD_AVG n.val)) + 1 ≤ (s.pi n.val).good ∧ s.piMode n.val ≠ 0 ∧ s.on CLK_STATUS__PLLB_LOCK = true) ∧
    (∃ (s : State) (n : Fin 4), ((s.pi n.val).good < 2 ^ min 6 (s.get (PI_CFG__SPD_AVG n.val)) + 1 ∨ s.piMode n.val = 0 ∨ s.on CLK_STATUS__PLLB_LOCK = false)) ∧
    (∃ (s : State) (w : Writer) (n : Fin 4) (v : Word), s.may w (PI_CNT n.val) v = true) ∧
    (∃ (s : State) (d : Fin 24) (b : Bool), s.on VLT_STATUS__LOADED = true ∧ nbit (s.get DIN_LEVEL__LEVEL) d.val ≠ (b != s.on (DIN_CFG__INV d.val))) ∧
    (∃ (s : State) (d : Fin 24) (b : Bool), s.on VLT_STATUS__LOADED = true ∧ nbit (s.get DIN_LEVEL__LEVEL) d.val ≠ (b != s.on (DIN_CFG__INV d.val)) ∧ nbit (s.get PWR_DIN_WAKE__DIN_MASK) d.val = false ∧ (∀ a : Fin 8, s.get (TM_CATCH_CFG__TRIG_DIN a.val) ≠ d.val) ∧ (∀ a : Fin 8, s.get (SAF_AX_CFG__SS1_DIN a.val) ≠ d.val) ∧ (∀ g : Fin 4, s.get (SAF_LINK_DIS__DIS_DIN g.val) ≠ d.val)) ∧
    (∃ (s : State) (d : Fin 24) (a : Fin 8) (b : Bool), s.on VLT_STATUS__LOADED = true ∧ nbit (s.get DIN_LEVEL__LEVEL) d.val = true ∧ (b != s.on (DIN_CFG__INV d.val)) = false ∧ s.armed = true ∧ s.on (SAF_AX_CFG__SS1_EN a.val) = true ∧ s.get (SAF_AX_CFG__SS1_DIN a.val) = d.val) ∧
    (∃ (s : State) (d : Fin 24) (b : Bool), s.on VLT_STATUS__LOADED = true ∧ nbit (s.get DIN_LEVEL__LEVEL) d.val = (b != s.on (DIN_CFG__INV d.val))) ∧
    (∃ (s : State), s.on VLT_STATUS__LOADED = false) ∧
    (∃ (s : State), s.on VLT_STATUS__LOADED = true) ∧
    (∃ (s : State) (d : Fin 24), s.on VLT_STATUS__LOADED = true ∧ s.get (DIN_CFG__STALE d.val) ≠ 0 ∧ nbit (s.get DIN_STALE__STALE) d.val = false) ∧
    (∃ (s : State) (d : Fin 24), (s.get (DIN_CFG__STALE d.val) = 0 ∨ nbit (s.get DIN_STALE__STALE) d.val = true)) ∧
    (∃ (s : State) (d : Fin 24) (c : VCommit) (l : List VCommit), s.vq = c :: l ∧ c.word = 694 + d.val ∧ s.vheld = [] ∧ s.sys.held = []) ∧
    (∃ (s : State) (d : Fin 24), s.vq.head?.map (·.word) ≠ some (694 + d.val)) :=
  ⟨⟨(pi2 1), 2, true, false, 1, by decide +kernel⟩,
   ⟨(pi2 1 |>.putB (PI_CFG__Z_EN 2) true |>.putB (PI_CFG__Z_GATE 2) true |>.put (PI_STATUS__ABZ 2) 5), 2, true, true, 1, by decide +kernel⟩,
   ⟨(pi2 1), 2, true, true, by decide +kernel⟩,
   ⟨(pi2 2), 2, true, true, by decide +kernel⟩,
   ⟨(pi2 1 |>.putB (PI_CFG__Z_EN 2) true |>.putB (PI_CFG__Z_GATE 2) false |>.putB (PI_STATUS__DIR 2) false |>.putB (PI_STATUS__INDEX_SEEN 2) false), 2, true, by decide +kernel⟩,
   ⟨(pi2 1 |>.putB (PI_CFG__Z_EN 2) true |>.putB (PI_CFG__Z_GATE 2) false |>.putB (PI_STATUS__DIR 2) false |>.putB (PI_STATUS__INDEX_SEEN 2) true |>.put (PI_CPR__CPR 2) 100 |>.put (PI_CNT__COUNT 2) 9 |>.put (PI_Z_POS__Z_POS 2) 4 |>.put (PI_Z_TOL__Z_TOL 2) 2), 2, true, 5, by decide +kernel⟩,
   ⟨(pi2 1 |>.putB (PI_CFG__Z_EN 2) true |>.putB (PI_CFG__Z_GATE 2) false |>.putB (PI_STATUS__DIR 2) false |>.putB (PI_STATUS__INDEX_SEEN 2) true |>.put (PI_CPR__CPR 2) 100 |>.put (PI_CNT__COUNT 2) 9 |>.put (PI_Z_POS__Z_POS 2) 4 |>.put (PI_Z_TOL__Z_TOL 2) 5), 2, true, 5, by decide +kernel⟩,
   ⟨(pi2 1), 2, true, by decide +kernel⟩,
   ⟨(pi2 2), 2, by decide +kernel⟩,
   ⟨(pi2 2 |>.putB (PI_STATUS__POS_VALID 2) true |>.put (PI_STATUS__HALL 2) 6), 2, 2, 1, 2, by decide +kernel⟩,
   ⟨(pi2 2), 2, 2, 2, by decide +kernel⟩,
   ⟨(pi2 2 |>.putB (PI_STATUS__POS_VALID 2) true |>.put (PI_STATUS__HALL 2) 6), 2, 3, 1, 3, by decide +kernel⟩,
   ⟨(pi2 2 |>.putB (PI_STATUS__POS_VALID 2) true |>.put (PI_STATUS__HALL 2) 6), 2, 6, 1, by decide +kernel⟩,
   ⟨(pi2 2), 2, 7, by decide +kernel⟩,
   ⟨(pi2 1), 2, by decide +kernel⟩,
   ⟨(pi2 1), 2, by decide +kernel⟩,
   ⟨(pi2 3), 2, by decide +kernel⟩,
   ⟨(pi2 3 |>.put (PI_SSI_T__PERIOD 2) 5), 2, true, false, by decide +kernel⟩,
   ⟨(pi2 3 |>.put (PI_SSI_T__PERIOD 2) 5 |>.put (PI_SSI__TURN_BITS 2) 0 |>.put (PI_SSI__ST_BITS 2) 12 |>.put (PI_SSI__ERR_MODE 2) 0 |>.putB (PI_SSI__GRAY 2) false), 2, 0x1234, false, true, 0x234, 0, by decide +kernel⟩,
   ⟨(pi2 3 |>.put (PI_SSI_T__PERIOD 2) 5 |>.put (PI_SSI__TURN_BITS 2) 0 |>.put (PI_SSI__ST_BITS 2) 12 |>.put (PI_SSI__ERR_MODE 2) 0 |>.putB (PI_SSI__GRAY 2) false |>.put (PI_CPR__CPR 2) 4096 |>.upPi 2 (fun p => { p with frame := some 4 })), 2, 0x804, false, true, 0x804, -2048, by decide +kernel⟩,
   ⟨pi2 3 |>.put (PI_SSI_T__PERIOD 2) 0, 2, by decide +kernel⟩,
   ⟨pi2 3 |>.put (PI_SSI_T__PERIOD 2) 5 |>.upPi 2 fun p => { p with ssiEnd := some 1000 }, 2, by decide +kernel⟩,
   ⟨pi2 4 |>.put (PI_RES_AMP__AMP_LO 2) 3 |>.upPi 2 fun _ => { peak := some (5, 7) }, 2, (5, 7), 5, 7, by decide +kernel⟩,
   ⟨pi2 4 |>.putB (FM_CH_CFG__EN 9) true |>.put (FM_CH_STATUS__FP 9) 9 |>.put (fpStat 9) 0 |>.putB (FM_CH_CFG__SMODE 9) false |>.putB (FM_CH_BIND__BOUND 9) true |>.put (FM_CH_BIND__AXIS 9) 3 |>.putB (AX_BIND__PI_EN 3) true |>.put (AX_BIND__PI_SEL 3) 2 |>.put (PI_RES__SIN_CH 2) 9 |>.put (PI_RES__COS_CH 2) 9 |>.put (PI_RES_AMP__AMP_LO 2) 0 |>.put (PI_RES_AMP__AMP_HI 2) 1000 |>.upPi 2 fun _ => { peak := some (0, 1000) }, 2, (0, 1000), 0, 1000, by decide +kernel⟩,
   ⟨pi2 4 |>.putB (FM_CH_CFG__EN 9) true |>.put (FM_CH_STATUS__FP 9) 9 |>.put (fpStat 9) 0 |>.putB (FM_CH_CFG__SMODE 9) false |>.putB (FM_CH_BIND__BOUND 9) true |>.put (FM_CH_BIND__AXIS 9) 3 |>.putB (AX_BIND__PI_EN 3) true |>.put (AX_BIND__PI_SEL 3) 2 |>.put (PI_RES__SIN_CH 2) 9 |>.put (PI_RES__COS_CH 2) 9 |>.put (PI_RES_AMP__AMP_LO 2) 0 |>.put (PI_RES_AMP__AMP_HI 2) 1000 |>.upPi 2 fun _ => { peak := some (0, 1000), theta := some 32768 }, 2, (0, 1000), 0, 1000, 32768, by decide +kernel⟩,
   ⟨pi2 4, 2, true, by decide +kernel⟩,
   ⟨pi2 4, 2, by decide +kernel⟩,
   ⟨(pi2 1), 2, by decide +kernel⟩,
   ⟨(pi2 1 |>.upSys fun y => { y with timeAcc := 100000000 * 2 ^ 25 }), 2, by decide +kernel⟩,
   ⟨(pi2 1 |>.upPi 2 (fun _ => { good := 70 })), 2, by decide +kernel⟩,
   ⟨(pi2 1), 2, by decide +kernel⟩,
   ⟨(stew 1 (pi2 1)), .host 1, 2, 77, by decide +kernel⟩,
   ⟨State.reset.put DIN_LEVEL__LEVEL 0 |>.putB (DIN_CFG__INV 7) false |>.putB VLT_STATUS__LOADED true, 7, true, by decide +kernel⟩,
   ⟨(fun s => let s := (List.range 8).foldl (fun (s : State) a => (s.put (TM_CATCH_CFG__TRIG_DIN a) 3).put (SAF_AX_CFG__SS1_DIN a) 3) s; let s := (List.range 4).foldl (fun (s : State) g => s.put (SAF_LINK_DIS__DIS_DIN g) 3) s; ((s.put DIN_LEVEL__LEVEL 0).putB (DIN_CFG__INV 7) false).put PWR_DIN_WAKE__DIN_MASK 0 |>.putB VLT_STATUS__LOADED true) State.reset, 7, true, by decide +kernel⟩,
   ⟨State.reset.put DIN_LEVEL__LEVEL 0xFFFFFF |>.putB (DIN_CFG__INV 7) false |>.putB SAF_STATUS__ARMED true |>.putB (SAF_AX_CFG__SS1_EN 3) true |>.put (SAF_AX_CFG__SS1_DIN 3) 7 |>.putB VLT_STATUS__LOADED true, 7, 3, false, by decide +kernel⟩,
   ⟨State.reset.put DIN_LEVEL__LEVEL 0 |>.putB (DIN_CFG__INV 7) false |>.putB VLT_STATUS__LOADED true, 7, false, by decide +kernel⟩,
   ⟨State.reset.putB VLT_STATUS__LOADED false, by decide +kernel⟩,
   ⟨State.reset |>.putB VLT_STATUS__LOADED true, by decide +kernel⟩,
   ⟨State.reset.put (DIN_CFG__STALE 7) 6 |>.put DIN_STALE__STALE 0 |>.putB VLT_STATUS__LOADED true, 7, by decide +kernel⟩,
   ⟨State.reset.put (DIN_CFG__STALE 7) 0, 7, by decide +kernel⟩,
   ⟨{ State.reset with vq := [{ word := 701, value := 0x5000010 }], vheld := [], sys := { State.reset.sys with held := [] } }, 7, { word := 701, value := 0x5000010 }, [], by decide +kernel⟩,
   ⟨State.reset, 7, by decide +kernel⟩⟩

/-- States and operands that meet the conditions of SafetyStops. -/
theorem witness_SafetyStops :
    (∃ (s : State) (a : Bool) (b : Bool), (s.on SAF_STATUS__STO_A ≠ a ∨ s.on SAF_STATUS__STO_B ≠ b)) ∧
    (∃ (s : State) (a : Bool) (b : Bool) (k : Fin 8), (s.on SAF_STATUS__STO_A ≠ a ∨ s.on SAF_STATUS__STO_B ≠ b) ∧ s.armed = true ∧ (s.on SAF_STATUS__STO_ACT = true ∨ (a && b) = false) ∧ s.on (SAF_CT_CFG__OPEN_STO k.val) = true) ∧
    (∃ (s : State) (a : Bool) (b : Bool) (x : Fin 8), (s.on SAF_STATUS__STO_A ≠ a ∨ s.on SAF_STATUS__STO_B ≠ b) ∧ s.armed = true ∧ (s.on SAF_STATUS__STO_ACT = true ∨ (a && b) = false) ∧ s.on (SAF_AX_CFG__STO_EN x.val) = true ∧ s.axLive x.val = true) ∧
    (∃ (s : State) (a : Bool) (b : Bool) (x : Fin 8), (s.on SAF_STATUS__STO_A ≠ a ∨ s.on SAF_STATUS__STO_B ≠ b) ∧ s.armed = true ∧ (s.on SAF_STATUS__STO_ACT = true ∨ (a && b) = false) ∧ s.on (SAF_AX_CFG__STO_EN x.val) = true ∧ s.axState x.val ≤ 1) ∧
    (∃ (s : State) (a : Bool) (b : Bool) (x : Fin 8), (s.on SAF_STATUS__STO_A ≠ a ∨ s.on SAF_STATUS__STO_B ≠ b) ∧ (s.armed = false ∨ s.on (SAF_AX_CFG__STO_EN x.val) = false ∨ 5 ≤ s.axState x.val ∨ (s.on SAF_STATUS__STO_ACT = false ∧ a = true ∧ b = true))) ∧
    (∃ (s : State), s.armed = true ∧ s.on SAF_STATUS__STO_A ≠ s.on SAF_STATUS__STO_B ∧ s.on SAF_STATUS__STO_DISC = false) ∧
    (∃ (s : State), (s.armed = false ∨ s.on SAF_STATUS__STO_A = s.on SAF_STATUS__STO_B ∨ s.on SAF_STATUS__STO_DISC = true)) ∧
    (∃ (s : State), s.on SAF_STATUS__STO_ACT = true ∧ s.on SAF_STATUS__STO_DISC = false ∧ s.on SAF_STATUS__STO_A = true ∧ s.on SAF_STATUS__STO_B = true) ∧
    (∃ (s : State), (s.on SAF_STATUS__STO_ACT = false ∨ s.on SAF_STATUS__STO_DISC = true ∨ s.on SAF_STATUS__STO_A = false ∨ s.on SAF_STATUS__STO_B = false)) ∧
    (∃ (s : State) (x : Fin 8), s.ss1Asked x.val = true ∧ s.on (SAF_AX_STAT__SS1 x.val) = false ∧ s.on (SAF_AX_STAT__SS1_STO x.val) = false ∧ s.axState x.val = 3 ∧ (s.on (SAF_AX_CFG__SS1_MODE x.val) = false ∨ (s.ss1Speed x.val) ≠ none)) ∧
    (∃ (s : State) (x : Fin 8), s.ss1Asked x.val = true ∧ s.on (SAF_AX_STAT__SS1 x.val) = false ∧ s.on (SAF_AX_STAT__SS1_STO x.val) = false ∧ (s.axState x.val ≠ 3 ∨ (s.on (SAF_AX_CFG__SS1_MODE x.val) = true ∧ (s.ss1Speed x.val) = none))) ∧
    (∃ (s : State) (x : Fin 8), (s.ss1Asked x.val = false ∨ s.on (SAF_AX_STAT__SS1 x.val) = true ∨ s.on (SAF_AX_STAT__SS1_STO x.val) = true)) ∧
    (∃ (s : State) (x : Fin 8), s.on (SAF_AX_STAT__SS1 x.val) = true) ∧
    (∃ (s : State) (x : Fin 8), s.on (SAF_AX_STAT__SS1 x.val) = false) ∧
    (∃ (s : State) (x : Fin 8), s.on (SAF_AX_STAT__SS1 x.val) = true ∧ s.on (SAF_AX_CFG__SS1_MODE x.val) = true ∧ ((s.ss1Speed x.val) = none ∨ (∃ w, (s.ss1Speed x.val) = some w ∧ ((s.saf x.val).ss1Speed * (max 1 (s.get (SAF_AX_CFG__SS1_TIME x.val)) * 200000 - (s.time - (s.saf x.val).ss1At)) + s.get (SAF_AX_TMON2__SS1_MARGIN x.val) * 2 ^ 15 * (max 1 (s.get (SAF_AX_CFG__SS1_TIME x.val)) * 200000) < w.natAbs * (max 1 (s.get (SAF_AX_CFG__SS1_TIME x.val)) * 200000) ∨ w.natAbs ≤ s.get (SAF_AX_TMON2__SS1_MARGIN x.val) * 2 ^ 15)))) ∧
    (∃ (s : State) (x : Fin 8) (w : Int), (s.ss1Speed x.val) = some w ∧ ¬ ((s.saf x.val).ss1Speed * (max 1 (s.get (SAF_AX_CFG__SS1_TIME x.val)) * 200000 - (s.time - (s.saf x.val).ss1At)) + s.get (SAF_AX_TMON2__SS1_MARGIN x.val) * 2 ^ 15 * (max 1 (s.get (SAF_AX_CFG__SS1_TIME x.val)) * 200000) < w.natAbs * (max 1 (s.get (SAF_AX_CFG__SS1_TIME x.val)) * 200000) ∨ w.natAbs ≤ s.get (SAF_AX_TMON2__SS1_MARGIN x.val) * 2 ^ 15)) ∧
    (∃ (s : State) (x : Fin 8), (s.on (SAF_AX_STAT__SS1 x.val) = false ∨ s.on (SAF_AX_CFG__SS1_MODE x.val) = false)) ∧
    (∃ (s : State) (x : Fin 8), s.armed = true ∧ s.on (SAF_AX_TMON__EN x.val) = true ∧ s.on CLK_STATUS__PLLB_LOCK = true) ∧
    (∃ (s : State) (x : Fin 8), (s.armed = false ∨ s.on (SAF_AX_TMON__EN x.val) = false ∨ s.on CLK_STATUS__PLLB_LOCK = false)) ∧
    (∃ (s : State) (x : Fin 8), s.armed = true ∧ s.on (SAF_AX_TMON__EN x.val) = true ∧ s.tmonJudges x.val = true ∧ ((s.tmonDev x.val).1 || (s.tmonDev x.val).2) = true) ∧
    (∃ (s : State) (x : Fin 8), (s.armed = false ∨ s.on (SAF_AX_TMON__EN x.val) = false ∨ s.tmonJudges x.val = false ∨ ((s.tmonDev x.val).1 || (s.tmonDev x.val).2) = false)) :=
  ⟨⟨State.reset.putB SAF_STATUS__ARMED true |>.putB SAF_STATUS__STO_A true |>.putB SAF_STATUS__STO_B true |>.putB SAF_STATUS__STO_ACT false, false, true, by decide +kernel⟩,
   ⟨State.reset.putB SAF_STATUS__ARMED true |>.putB SAF_STATUS__STO_A true |>.putB SAF_STATUS__STO_B true |>.putB SAF_STATUS__STO_ACT false |>.putB (SAF_CT_CFG__OPEN_STO 3) true, false, true, 3, by decide +kernel⟩,
   ⟨State.reset.putB SAF_STATUS__ARMED true |>.putB SAF_STATUS__STO_A true |>.putB SAF_STATUS__STO_B true |>.putB SAF_STATUS__STO_ACT false |>.putB (SAF_AX_CFG__STO_EN 3) true |>.put (AX_STATE__STATE 3) 3, false, true, 3, by decide +kernel⟩,
   ⟨State.reset.putB SAF_STATUS__ARMED true |>.putB SAF_STATUS__STO_A true |>.putB SAF_STATUS__STO_B true |>.putB SAF_STATUS__STO_ACT false |>.putB (SAF_AX_CFG__STO_EN 3) true |>.put (AX_STATE__STATE 3) 1, false, true, 3, by decide +kernel⟩,
   ⟨State.reset.putB SAF_STATUS__ARMED true |>.putB SAF_STATUS__STO_A true |>.putB SAF_STATUS__STO_B true |>.putB SAF_STATUS__STO_ACT false |>.putB (SAF_AX_CFG__STO_EN 3) false, false, true, 3, by decide +kernel⟩,
   ⟨State.reset.putB SAF_STATUS__ARMED true |>.putB SAF_STATUS__STO_A true |>.putB SAF_STATUS__STO_B true |>.putB SAF_STATUS__STO_ACT false |>.putB SAF_STATUS__STO_A false, by decide +kernel⟩,
   ⟨State.reset.putB SAF_STATUS__ARMED true |>.putB SAF_STATUS__STO_A true |>.putB SAF_STATUS__STO_B true |>.putB SAF_STATUS__STO_ACT false, by decide +kernel⟩,
   ⟨State.reset.putB SAF_STATUS__ARMED true |>.putB SAF_STATUS__STO_A true |>.putB SAF_STATUS__STO_B true |>.putB SAF_STATUS__STO_ACT false |>.putB SAF_STATUS__STO_ACT true, by decide +kernel⟩,
   ⟨State.reset.putB SAF_STATUS__ARMED true |>.putB SAF_STATUS__STO_A true |>.putB SAF_STATUS__STO_B true |>.putB SAF_STATUS__STO_ACT false, by decide +kernel⟩,
   ⟨State.reset.putB SAF_STATUS__ARMED true |>.putB SAF_STATUS__STO_A true |>.putB SAF_STATUS__STO_B true |>.putB SAF_STATUS__STO_ACT false |>.putB (SAF_AX_CFG__SS1_EN 3) true |>.put (SAF_AX_CFG__SS1_DIN 3) 5 |>.put DIN_LEVEL__LEVEL 0 |>.putB (SAF_AX_STAT__SS1 3) false |>.putB (SAF_AX_STAT__SS1_STO 3) false |>.put (AX_STATE__STATE 3) 3 |>.putB (SAF_AX_CFG__SS1_MODE 3) false, 3, by decide +kernel⟩,
   ⟨State.reset.putB SAF_STATUS__ARMED true |>.putB SAF_STATUS__STO_A true |>.putB SAF_STATUS__STO_B true |>.putB SAF_STATUS__STO_ACT false |>.putB (SAF_AX_CFG__SS1_EN 3) true |>.put (SAF_AX_CFG__SS1_DIN 3) 5 |>.put DIN_LEVEL__LEVEL 0 |>.putB (SAF_AX_STAT__SS1 3) false |>.putB (SAF_AX_STAT__SS1_STO 3) false |>.put (AX_STATE__STATE 3) 1, 3, by decide +kernel⟩,
   ⟨State.reset.putB SAF_STATUS__ARMED false, 3, by decide +kernel⟩,
   ⟨State.reset.putB SAF_STATUS__ARMED true |>.putB SAF_STATUS__STO_A true |>.putB SAF_STATUS__STO_B true |>.putB SAF_STATUS__STO_ACT false |>.putB (SAF_AX_CFG__SS1_EN 3) true |>.put (SAF_AX_CFG__SS1_DIN 3) 5 |>.put DIN_LEVEL__LEVEL 0 |>.putB (SAF_AX_STAT__SS1 3) false |>.putB (SAF_AX_STAT__SS1_STO 3) false |>.putB (SAF_AX_STAT__SS1 3) true |>.put (AX_STATE__STATE 3) 3, 3, by decide +kernel⟩,
   ⟨State.reset.putB (SAF_AX_STAT__SS1 3) false, 3, by decide +kernel⟩,
   ⟨State.reset.putB SAF_STATUS__ARMED true |>.putB SAF_STATUS__STO_A true |>.putB SAF_STATUS__STO_B true |>.putB SAF_STATUS__STO_ACT false |>.putB (SAF_AX_CFG__SS1_EN 3) true |>.put (SAF_AX_CFG__SS1_DIN 3) 5 |>.put DIN_LEVEL__LEVEL 0 |>.putB (SAF_AX_STAT__SS1 3) false |>.putB (SAF_AX_STAT__SS1_STO 3) false |>.putB (SAF_AX_STAT__SS1 3) true |>.putB (SAF_AX_CFG__SS1_MODE 3) true |>.putB (AX_BIND__MODE 3) false |>.putB (AX_BIND__PI_EN 3) false, 3, by decide +kernel⟩,
   ⟨State.reset.putB SAF_STATUS__ARMED true |>.putB SAF_STATUS__STO_A true |>.putB SAF_STATUS__STO_B true |>.putB SAF_STATUS__STO_ACT false |>.putB (SAF_AX_CFG__SS1_EN 3) true |>.put (SAF_AX_CFG__SS1_DIN 3) 5 |>.put DIN_LEVEL__LEVEL 0 |>.putB (SAF_AX_STAT__SS1 3) false |>.putB (SAF_AX_STAT__SS1_STO 3) false |>.putB (AX_BIND__MODE 3) true |>.put (AX_STATE__STATE 3) 3 |>.putB (TM_STATUS__SPD_VALID 3) true |>.put (TM_STATUS__POS_SRC 3) 1 |>.upTm 3 (fun q => { q with speed := 40 }) |>.put (SAF_AX_TMON2__SS1_MARGIN 3) 0 |>.put (SAF_AX_CFG__SS1_TIME 3) 5 |>.upSaf 3 fun q => { q with ss1Speed := 1000 }, 3, 40, by decide +kernel⟩,
   ⟨State.reset.putB (SAF_AX_STAT__SS1 3) false, 3, by decide +kernel⟩,
   ⟨State.reset.putB SAF_STATUS__ARMED true |>.putB SAF_STATUS__STO_A true |>.putB SAF_STATUS__STO_B true |>.putB SAF_STATUS__STO_ACT false |>.putB (SAF_AX_TMON__EN 3) true |>.putB CLK_STATUS__PLLB_LOCK true, 3, by decide +kernel⟩,
   ⟨State.reset.putB SAF_STATUS__ARMED false, 3, by decide +kernel⟩,
   ⟨State.reset.putB SAF_STATUS__ARMED true |>.putB SAF_STATUS__STO_A true |>.putB SAF_STATUS__STO_B true |>.putB SAF_STATUS__STO_ACT false |>.putB (SAF_AX_TMON__EN 3) true |>.put (AX_STATE__STATE 3) 3 |>.put (SAF_AX_TMON2__SPD_MIN 3) 0 |>.put (SAF_AX_TAU__TAU 3) 0x3FFFFF |>.put (SAF_AX_TMON__TOL 3) 0 |>.put (SAF_AX_TMON2__TMAX 3) 1, 3, by decide +kernel⟩,
   ⟨State.reset.putB SAF_STATUS__ARMED false, 3, by decide +kernel⟩⟩

/-- States and operands that meet the conditions of LinksAndContactors. -/
theorem witness_LinksAndContactors :
    (∃ (s : State) (g : Fin 4), s.armed = true ∧ s.on (SAF_LINK_CFG__EN g.val) = true ∧ s.on (FM_CH_STATUS__WA_OUT (s.get (SAF_LINK_CFG__VDC_CH g.val))) = true ∧ s.linkBit g.val 0 = false) ∧
    (∃ (s : State) (g : Fin 4), (s.armed = false ∨ s.on (SAF_LINK_CFG__EN g.val) = false ∨ s.on (FM_CH_STATUS__WA_OUT (s.get (SAF_LINK_CFG__VDC_CH g.val))) = false ∨ s.linkBit g.val 0 = true)) ∧
    (∃ (s : State) (g : Fin 4), (s.lnk g.val).dir = 1) ∧
    (∃ (s : State) (g : Fin 4), (s.lnk g.val).dir = 2) ∧
    (∃ (s : State) (g : Fin 4), (s.lnk g.val).dir ≠ 1 ∧ (s.lnk g.val).dir ≠ 2) ∧
    (∃ (s : State) (g : Fin 4) (x : Fin 8), s.armed = true ∧ s.on (SAF_LINK_CFG__EN g.val) = true ∧ s.linkBit g.val 1 = false ∧ s.on (FM_CH_STATUS__WB_OUT (s.get (SAF_LINK_CFG__VDC_CH g.val))) = true ∧ nbit (s.groupAxes g.val) x.val = true ∧ s.axLive x.val = true) ∧
    (∃ (s : State) (g : Fin 4) (x : Fin 8), s.armed = true ∧ s.on (SAF_LINK_CFG__EN g.val) = true ∧ s.linkBit g.val 1 = false ∧ s.on (FM_CH_STATUS__WB_OUT (s.get (SAF_LINK_CFG__VDC_CH g.val))) = true ∧ (nbit (s.groupAxes g.val) x.val = false ∨ s.axState x.val = 6)) ∧
    (∃ (s : State) (g : Fin 4), (s.armed = false ∨ s.on (SAF_LINK_CFG__EN g.val) = false ∨ s.linkBit g.val 1 = true ∨ s.on (FM_CH_STATUS__WB_OUT (s.get (SAF_LINK_CFG__VDC_CH g.val))) = false)) ∧
    (∃ (s : State) (g : Fin 4), ((s.lnk g.val).dis = 1 ∨ ((s.lnk g.val).dis = 0 ∧ s.disAsked g.val = true ∧ s.armed = true ∧ s.on (SAF_LINK_CFG__EN g.val) = true)) ∧ s.get (SAF_LINK_DIS__DIS_MODE g.val) ≠ 0 ∧ (¬ (s.linkBit g.val 4 = false ∧ s.ctFb (s.get (SAF_LINK_AX__MAIN_CT g.val)) = false ∧ ∀ x : Fin 8, nbit (s.groupAxes g.val) x.val = true → x.val ≠ s.get (SAF_LINK_DIS__DIS_AX g.val) → s.axLive x.val = false) ∨ (s.get (SAF_LINK_DIS__DIS_MODE g.val) = 2 ∧ s.injOk g.val = false))) ∧
    (∃ (s : State) (g : Fin 4), ((s.lnk g.val).dis = 1 ∨ ((s.lnk g.val).dis = 0 ∧ s.disAsked g.val = true ∧ s.armed = true ∧ s.on (SAF_LINK_CFG__EN g.val) = true)) ∧ s.linkBit g.val 7 = false ∧ (s.linkBit g.val 4 = false ∧ s.ctFb (s.get (SAF_LINK_AX__MAIN_CT g.val)) = false ∧ ∀ x : Fin 8, nbit (s.groupAxes g.val) x.val = true → x.val ≠ s.get (SAF_LINK_DIS__DIS_AX g.val) → s.axLive x.val = false) ∧ (s.get (SAF_LINK_DIS__DIS_MODE g.val) = 1 ∨ (s.get (SAF_LINK_DIS__DIS_MODE g.val) = 3 ∧ s.injOk g.val = false))) ∧
    (∃ (s : State) (g : Fin 4), ((s.lnk g.val).dis = 1 ∨ ((s.lnk g.val).dis = 0 ∧ s.disAsked g.val = true ∧ s.armed = true ∧ s.on (SAF_LINK_CFG__EN g.val) = true)) ∧ (s.linkBit g.val 4 = false ∧ s.ctFb (s.get (SAF_LINK_AX__MAIN_CT g.val)) = false ∧ ∀ x : Fin 8, nbit (s.groupAxes g.val) x.val = true → x.val ≠ s.get (SAF_LINK_DIS__DIS_AX g.val) → s.axLive x.val = false) ∧ 2 ≤ s.get (SAF_LINK_DIS__DIS_MODE g.val) ∧ s.injOk g.val = true) ∧
    (∃ (s : State) (g : Fin 4), (s.lnk g.val).dis = 2 ∧ s.linkBit g.val 7 = true ∧ s.injOk g.val = false ∧ s.get (SAF_LINK_DIS__DIS_MODE g.val) = 3) ∧
    (∃ (s : State) (g : Fin 4), (s.lnk g.val).dis = 2 ∧ s.linkBit g.val 7 = true ∧ s.injOk g.val = false ∧ s.get (SAF_LINK_DIS__DIS_MODE g.val) ≠ 3) ∧
    (∃ (s : State) (g : Fin 4), (((s.lnk g.val).dis = 0 ∧ (s.disAsked g.val = false ∨ s.armed = false ∨ s.on (SAF_LINK_CFG__EN g.val) = false ∨ s.get (SAF_LINK_DIS__DIS_MODE g.val) = 0)) ∨ ((s.lnk g.val).dis = 2 ∧ (s.linkBit g.val 7 = false ∨ s.injOk g.val = true)))) ∧
    (∃ (s : State) (g : Fin 4), (s.lnk g.val).dis = 2 ∧ s.linkCode g.val ≤ (16 * s.get (SAF_LINK_DIS__DIS_DONE g.val) : Nat)) ∧
    (∃ (s : State) (g : Fin 4), ((s.lnk g.val).dis ≠ 2 ∨ (16 * s.get (SAF_LINK_DIS__DIS_DONE g.val) : Nat) < s.linkCode g.val)) ∧
    (∃ (s : State) (g : Fin 4), (s.lnk g.val).dis ≠ 0) ∧
    (∃ (s : State) (g : Fin 4), (s.lnk g.val).dis = 0) ∧
    (∃ (s : State) (w : Writer) (k : Fin 8), s.may w SAF_CT_CMD (BitVec.ofNat 32 (2 ^ k.val)) = true ∧ s.ctRefused k.val = false ∧ s.preGroup k.val = none) ∧
    (∃ (s : State) (w : Writer) (k : Fin 8), s.may w SAF_CT_CMD (BitVec.ofNat 32 (2 ^ k.val)) = true ∧ s.ctRefused k.val = true) ∧
    (∃ (s : State) (p : Fin 4) (k : Fin 8), s.may (.host p) SAF_CT_CMD (BitVec.ofNat 32 (2 ^ k.val)) = true ∧ s.ctRefused k.val = true ∧ s.on (HP_DENY_INFO__VALID p.val) = false) ∧
    (∃ (s : State) (w : Writer) (k : Fin 8) (g : Fin 4), s.may w SAF_CT_CMD (BitVec.ofNat 32 (2 ^ k.val)) = true ∧ s.ctRefused k.val = false ∧ s.preGroup k.val = some g.val ∧ s.ctCmd k.val = false ∧ (s.lnk g.val).pre = 0 ∧ s.on (SAF_CT_CFG__EN (s.get (SAF_LINK_AX__PRE_CT g.val))) = true ∧ ¬ (s.on SAF_STATUS__STO_ACT = true ∧ s.on (SAF_CT_CFG__OPEN_STO (s.get (SAF_LINK_AX__PRE_CT g.val))) = true) ∧ s.ctFault (s.get (SAF_LINK_AX__PRE_CT g.val)) = false ∧ (s.get (SAF_LINK_AX__PRE_CT g.val)) ≠ k.val ∧ s.ctFb (s.get (SAF_LINK_AX__PRE_CT g.val)) = false) ∧
    (∃ (s : State) (w : Writer) (k : Fin 8) (g : Fin 4), s.may w SAF_CT_CMD (BitVec.ofNat 32 (2 ^ k.val)) = true ∧ s.ctRefused k.val = false ∧ s.preGroup k.val = some g.val ∧ s.ctCmd k.val = false ∧ (s.lnk g.val).pre = 0 ∧ s.on (SAF_CT_CFG__EN (s.get (SAF_LINK_AX__PRE_CT g.val))) = true ∧ ¬ (s.on SAF_STATUS__STO_ACT = true ∧ s.on (SAF_CT_CFG__OPEN_STO (s.get (SAF_LINK_AX__PRE_CT g.val))) = true) ∧ s.ctFault (s.get (SAF_LINK_AX__PRE_CT g.val)) = false ∧ (s.get (SAF_LINK_AX__PRE_CT g.val)) ≠ k.val ∧ s.ctFb (s.get (SAF_LINK_AX__PRE_CT g.val)) = true ∧ ¬ (16 * s.get (SAF_LINK_AX__PRE_V g.val) : Int) ≤ s.linkCode g.val) ∧
    (∃ (s : State) (w : Writer) (k : Fin 8) (g : Fin 4), s.may w SAF_CT_CMD (BitVec.ofNat 32 (2 ^ k.val)) = true ∧ s.ctRefused k.val = false ∧ s.preGroup k.val = some g.val ∧ s.ctCmd k.val = false ∧ (s.lnk g.val).pre = 0 ∧ s.on (SAF_CT_CFG__EN (s.get (SAF_LINK_AX__PRE_CT g.val))) = true ∧ ¬ (s.on SAF_STATUS__STO_ACT = true ∧ s.on (SAF_CT_CFG__OPEN_STO (s.get (SAF_LINK_AX__PRE_CT g.val))) = true) ∧ s.ctFault (s.get (SAF_LINK_AX__PRE_CT g.val)) = false ∧ (s.get (SAF_LINK_AX__PRE_CT g.val)) ≠ k.val ∧ s.ctFb (s.get (SAF_LINK_AX__PRE_CT g.val)) = true ∧ (16 * s.get (SAF_LINK_AX__PRE_V g.val) : Int) ≤ s.linkCode g.val ∧ s.on (SAF_CT_CFG__EN k.val) = true ∧ s.ctFb k.val = false) ∧
    (∃ (s : State) (w : Writer) (k : Fin 8) (g : Fin 4), s.may w SAF_CT_CMD (BitVec.ofNat 32 (2 ^ k.val)) = true ∧ s.ctRefused k.val = false ∧ s.preGroup k.val = some g.val ∧ (s.ctCmd k.val = true ∨ (s.lnk g.val).pre ≠ 0)) ∧
    (∃ (s : State) (w : Writer) (k : Fin 8) (g : Fin 4), s.may w SAF_CT_CMD (BitVec.ofNat 32 (2 ^ k.val)) = true ∧ s.ctRefused k.val = false ∧ s.preGroup k.val = some g.val ∧ s.ctCmd k.val = false ∧ (s.lnk g.val).pre = 0 ∧ (s.on (SAF_CT_CFG__EN (s.get (SAF_LINK_AX__PRE_CT g.val))) = false ∨ (s.on SAF_STATUS__STO_ACT = true ∧ s.on (SAF_CT_CFG__OPEN_STO (s.get (SAF_LINK_AX__PRE_CT g.val))) = true) ∨ s.ctFault (s.get (SAF_LINK_AX__PRE_CT g.val)) = true) ∧ s.ctCmd (s.get (SAF_LINK_AX__PRE_CT g.val)) = false) ∧
    (∃ (s : State) (w : Writer) (k : Fin 8), s.may w SAF_CT_CMD (BitVec.ofNat 32 (2 ^ (8 + k.val))) = true ∧ (∀ h : Fin 4, (s.lnk h.val).pre = 0)) ∧
    (∃ (s : State) (w : Writer) (k : Fin 8) (g : Fin 4), s.may w SAF_CT_CMD (BitVec.ofNat 32 (2 ^ (8 + k.val))) = true ∧ s.preGroup k.val = some g.val ∧ (s.lnk g.val).pre ≠ 0 ∧ (∀ h : Fin 4, h ≠ g → (s.lnk h.val).pre = 0)) ∧
    (∃ (s : State) (k : Fin 8) (x : Fin 8), s.on (SAF_CT_CFG__EN k.val) = true ∧ s.ctFault k.val = false ∧ s.ctFb k.val ≠ s.ctCmd k.val ∧ (∀ h : Fin 4, (s.lnk h.val).pre = 0) ∧ nbit (s.get (SAF_CT_CFG__AXMASK k.val)) x.val = true ∧ s.axLive x.val = true) ∧
    (∃ (s : State) (k : Fin 8) (x : Fin 8), s.on (SAF_CT_CFG__EN k.val) = true ∧ s.ctFault k.val = false ∧ s.ctFb k.val ≠ s.ctCmd k.val ∧ (∀ h : Fin 4, (s.lnk h.val).pre = 0) ∧ nbit (s.get (SAF_CT_CFG__AXMASK k.val)) x.val = false) ∧
    (∃ (s : State) (k : Fin 8), s.on (SAF_CT_CFG__EN k.val) = false ∨ s.ctFault k.val = true ∨ s.ctFb k.val = s.ctCmd k.val) ∧
    (∃ (s : State), (∀ h : Fin 4, (s.lnk h.val).pre = 0 ∧ (s.lnk h.val).dis = 0) ∧ (∀ h : Fin 4, s.on (SAF_LINK_DIS__DIS_AUTO h.val) = false)) ∧
    (∃ (s : State) (k : Fin 8) (g : Fin 4) (v : Bool), (∀ h : Fin 4, (s.lnk h.val).pre = 0) ∧ (s.get (SAF_LINK_AX__MAIN_CT g.val)) = k.val ∧ s.on (SAF_LINK_DIS__DIS_AUTO g.val) = true ∧ v = s.on (SAF_CT_CFG__FB_POL k.val) ∧ s.ctCmd k.val = false ∧ s.armed = true ∧ s.on (SAF_LINK_CFG__EN g.val) = true ∧ s.get (SAF_LINK_DIS__DIS_MODE g.val) = 1 ∧ (s.lnk g.val).dis = 0 ∧ s.linkBit g.val 7 = false) ∧
    (∃ (s : State) (g : Fin 4), ((s.lnk g.val).pre = 2 ∨ (s.lnk g.val).pre = 3) ∧ s.ctCmd (s.get (SAF_LINK_AX__PRE_CT g.val)) = true ∧ s.ctFault (s.get (SAF_LINK_AX__PRE_CT g.val)) = false ∧ s.ctFb (s.get (SAF_LINK_AX__PRE_CT g.val)) = true ∧ (16 * s.get (SAF_LINK_AX__PRE_V g.val) : Int) ≤ s.linkCode g.val ∧ s.armed = true ∧ s.on (SAF_CT_CFG__EN (s.get (SAF_LINK_AX__MAIN_CT g.val))) = true ∧ ¬ (s.on SAF_STATUS__STO_ACT = true ∧ s.on (SAF_CT_CFG__OPEN_STO (s.get (SAF_LINK_AX__MAIN_CT g.val))) = true) ∧ s.ctFb (s.get (SAF_LINK_AX__MAIN_CT g.val)) = false) ∧
    (∃ (s : State) (g : Fin 4), ((s.lnk g.val).pre = 2 ∨ (s.lnk g.val).pre = 3) ∧ s.ctCmd (s.get (SAF_LINK_AX__PRE_CT g.val)) = true ∧ s.ctFault (s.get (SAF_LINK_AX__PRE_CT g.val)) = false ∧ s.ctFb (s.get (SAF_LINK_AX__PRE_CT g.val)) = true ∧ (16 * s.get (SAF_LINK_AX__PRE_V g.val) : Int) ≤ s.linkCode g.val ∧ s.armed = true ∧ s.on (SAF_CT_CFG__EN (s.get (SAF_LINK_AX__MAIN_CT g.val))) = true ∧ ¬ (s.on SAF_STATUS__STO_ACT = true ∧ s.on (SAF_CT_CFG__OPEN_STO (s.get (SAF_LINK_AX__MAIN_CT g.val))) = true) ∧ s.ctFb (s.get (SAF_LINK_AX__MAIN_CT g.val)) = true ∧ (s.get (SAF_LINK_AX__MAIN_CT g.val)) ≠ (s.get (SAF_LINK_AX__PRE_CT g.val))) ∧
    (∃ (s : State) (g : Fin 4), ((s.lnk g.val).pre = 2 ∨ (s.lnk g.val).pre = 3) ∧ s.ctCmd (s.get (SAF_LINK_AX__PRE_CT g.val)) = true ∧ s.ctFault (s.get (SAF_LINK_AX__PRE_CT g.val)) = false ∧ (s.ctFb (s.get (SAF_LINK_AX__PRE_CT g.val)) = false ∨ ¬ (16 * s.get (SAF_LINK_AX__PRE_V g.val) : Int) ≤ s.linkCode g.val)) ∧
    (∃ (s : State) (g : Fin 4), (s.lnk g.val).pre ≠ 0 ∧ (s.ctCmd (s.get (SAF_LINK_AX__PRE_CT g.val)) = false ∨ s.ctFault (s.get (SAF_LINK_AX__PRE_CT g.val)) = true ∨ ((s.lnk g.val).pre = 4 ∧ (s.ctCmd (s.get (SAF_LINK_AX__MAIN_CT g.val)) = false ∨ s.ctFault (s.get (SAF_LINK_AX__MAIN_CT g.val)) = true)))) ∧
    (∃ (s : State) (g : Fin 4), (s.lnk g.val).pre = 4 ∧ s.ctCmd (s.get (SAF_LINK_AX__PRE_CT g.val)) = true ∧ s.ctFault (s.get (SAF_LINK_AX__PRE_CT g.val)) = false ∧ s.ctCmd (s.get (SAF_LINK_AX__MAIN_CT g.val)) = true ∧ s.ctFault (s.get (SAF_LINK_AX__MAIN_CT g.val)) = false ∧ s.ctFb (s.get (SAF_LINK_AX__MAIN_CT g.val)) = true) ∧
    (∃ (s : State) (g : Fin 4), ((s.lnk g.val).pre = 0 ∨ ((s.lnk g.val).pre = 4 ∧ s.ctCmd (s.get (SAF_LINK_AX__PRE_CT g.val)) = true ∧ s.ctFault (s.get (SAF_LINK_AX__PRE_CT g.val)) = false ∧ s.ctCmd (s.get (SAF_LINK_AX__MAIN_CT g.val)) = true ∧ s.ctFault (s.get (SAF_LINK_AX__MAIN_CT g.val)) = false ∧ s.ctFb (s.get (SAF_LINK_AX__MAIN_CT g.val)) = false))) ∧
    (∃ (s : State) (g : Fin 4), ((s.lnk g.val).pre = 2 ∨ (s.lnk g.val).pre = 3)) ∧
    (∃ (s : State) (g : Fin 4), (s.lnk g.val).pre ≠ 2 ∧ (s.lnk g.val).pre ≠ 3) :=
  ⟨⟨(((State.reset.upLnk 2 fun _ => { }).put (SAF_LINK_STAT__GROUP 2) 0).putB (SAF_LINK_CFG__EN 2) true |>.putB SAF_STATUS__ARMED true |>.put SAF_CT_STAT__FB 0 |>.put (SAF_LINK_CFG__VDC_CH 2) 9 |>.putB (FM_CH_STATUS__WA_OUT 9) true), 2, by decide +kernel⟩,
   ⟨State.reset.putB SAF_STATUS__ARMED false, 2, by decide +kernel⟩,
   ⟨(((State.reset.upLnk 2 fun _ => { dir := 1 }).put (SAF_LINK_STAT__GROUP 2) 0).putB (SAF_LINK_CFG__EN 2) true |>.putB SAF_STATUS__ARMED true |>.put SAF_CT_STAT__FB 0), 2, by decide +kernel⟩,
   ⟨(((State.reset.upLnk 2 fun _ => { dir := 2 }).put (SAF_LINK_STAT__GROUP 2) 0).putB (SAF_LINK_CFG__EN 2) true |>.putB SAF_STATUS__ARMED true |>.put SAF_CT_STAT__FB 0), 2, by decide +kernel⟩,
   ⟨(((State.reset.upLnk 2 fun _ => { dir := 0 }).put (SAF_LINK_STAT__GROUP 2) 0).putB (SAF_LINK_CFG__EN 2) true |>.putB SAF_STATUS__ARMED true |>.put SAF_CT_STAT__FB 0), 2, by decide +kernel⟩,
   ⟨(((State.reset.upLnk 2 fun _ => { }).put (SAF_LINK_STAT__GROUP 2) 0).putB (SAF_LINK_CFG__EN 2) true |>.putB SAF_STATUS__ARMED true |>.put SAF_CT_STAT__FB 0 |>.put (SAF_LINK_CFG__VDC_CH 2) 9 |>.putB (FM_CH_STATUS__WB_OUT 9) true |>.put (SAF_LINK_AX__MACH_MASK 2) 8 |>.put (AX_STATE__STATE 3) 3), 2, 3, by decide +kernel⟩,
   ⟨(((State.reset.upLnk 2 fun _ => { }).put (SAF_LINK_STAT__GROUP 2) 0).putB (SAF_LINK_CFG__EN 2) true |>.putB SAF_STATUS__ARMED true |>.put SAF_CT_STAT__FB 0 |>.put (SAF_LINK_CFG__VDC_CH 2) 9 |>.putB (FM_CH_STATUS__WB_OUT 9) true |>.put (AX_STATE__STATE 3) 6), 2, 3, by decide +kernel⟩,
   ⟨State.reset.putB SAF_STATUS__ARMED false, 2, by decide +kernel⟩,
   ⟨(((State.reset.upLnk 2 fun _ => { }).put (SAF_LINK_STAT__GROUP 2) 0).putB (SAF_LINK_CFG__EN 2) true |>.putB SAF_STATUS__ARMED true |>.put SAF_CT_STAT__FB 0 |>.put (SAF_LINK_DIS__DIS_DIN 2) 7 |>.put DIN_LEVEL__LEVEL 0 |>.put (SAF_LINK_DIS__DIS_MODE 2) 2 |>.put (AX_STATE__STATE (State.reset.get (SAF_LINK_DIS__DIS_AX 2))) 0), 2, by decide +kernel⟩,
   ⟨(((State.reset.upLnk 2 fun _ => { }).put (SAF_LINK_STAT__GROUP 2) 0).putB (SAF_LINK_CFG__EN 2) true |>.putB SAF_STATUS__ARMED true |>.put SAF_CT_STAT__FB 0 |>.put (SAF_LINK_DIS__DIS_DIN 2) 7 |>.put DIN_LEVEL__LEVEL 0 |>.put (SAF_LINK_DIS__DIS_MODE 2) 1 |> fun s => (List.range 8).foldl (fun (s : State) a => s.put (AX_STATE__STATE a) 1) s), 2, by decide +kernel⟩,
   ⟨(fun s => s.put (AX_STATE__STATE 3) 3 |>.put (SAF_LINK_DIS__DIS_AX 2) 3 |>.put (SAF_LINK_DIS__DIS_MODE 2) 2 |>.putB (TM_STATUS__SPD_VALID 3) true |>.put (TM_STATUS__POS_SRC 3) 1 |>.upTm 3 fun q => { q with speed := 0 }) (((State.reset.upLnk 2 fun _ => { }).put (SAF_LINK_STAT__GROUP 2) 0).putB (SAF_LINK_CFG__EN 2) true |>.putB SAF_STATUS__ARMED true |>.put SAF_CT_STAT__FB 0 |>.put (SAF_LINK_DIS__DIS_DIN 2) 7 |>.put DIN_LEVEL__LEVEL 0 |> fun s => (List.range 8).foldl (fun (s : State) a => s.put (AX_STATE__STATE a) 1) s), 2, by decide +kernel⟩,
   ⟨(((State.reset.upLnk 2 fun _ => { dis := 2 }).put (SAF_LINK_STAT__GROUP 2) 0).putB (SAF_LINK_CFG__EN 2) true |>.putB SAF_STATUS__ARMED true |>.put SAF_CT_STAT__FB 0 |>.put (SAF_LINK_STAT__GROUP 2) 0x90 |>.put (SAF_LINK_DIS__DIS_MODE 2) 3 |>.put (AX_STATE__STATE (State.reset.get (SAF_LINK_DIS__DIS_AX 2))) 0), 2, by decide +kernel⟩,
   ⟨(((State.reset.upLnk 2 fun _ => { dis := 2 }).put (SAF_LINK_STAT__GROUP 2) 0).putB (SAF_LINK_CFG__EN 2) true |>.putB SAF_STATUS__ARMED true |>.put SAF_CT_STAT__FB 0 |>.put (SAF_LINK_STAT__GROUP 2) 0x90 |>.put (SAF_LINK_DIS__DIS_MODE 2) 2 |>.put (AX_STATE__STATE (State.reset.get (SAF_LINK_DIS__DIS_AX 2))) 0), 2, by decide +kernel⟩,
   ⟨(((State.reset.upLnk 2 fun _ => { }).put (SAF_LINK_STAT__GROUP 2) 0).putB (SAF_LINK_CFG__EN 2) true |>.putB SAF_STATUS__ARMED true |>.put SAF_CT_STAT__FB 0 |>.putB (SAF_LINK_CFG__EN 2) false), 2, by decide +kernel⟩,
   ⟨(((State.reset.upLnk 2 fun _ => { dis := 2, dsch := true }).put (SAF_LINK_STAT__GROUP 2) 0).putB (SAF_LINK_CFG__EN 2) true |>.putB SAF_STATUS__ARMED true |>.put SAF_CT_STAT__FB 0 |>.put (GI_DCPS__VDC (State.reset.get (SAF_LINK_CFG__DCPS_GI 2))) 0), 2, by decide +kernel⟩,
   ⟨(((State.reset.upLnk 2 fun _ => { }).put (SAF_LINK_STAT__GROUP 2) 0).putB (SAF_LINK_CFG__EN 2) true |>.putB SAF_STATUS__ARMED true |>.put SAF_CT_STAT__FB 0), 2, by decide +kernel⟩,
   ⟨(((State.reset.upLnk 2 fun _ => { dis := 1 }).put (SAF_LINK_STAT__GROUP 2) 0).putB (SAF_LINK_CFG__EN 2) true |>.putB SAF_STATUS__ARMED true |>.put SAF_CT_STAT__FB 0), 2, by decide +kernel⟩,
   ⟨(((State.reset.upLnk 2 fun _ => { }).put (SAF_LINK_STAT__GROUP 2) 0).putB (SAF_LINK_CFG__EN 2) true |>.putB SAF_STATUS__ARMED true |>.put SAF_CT_STAT__FB 0), 2, by decide +kernel⟩,
   ⟨(fun s => let s := (List.range 4).foldl (fun (s : State) g => (s.putB (SAF_LINK_AX__PRE_EN g) false).put (SAF_LINK_STAT__GROUP g) 0) (stew 1 s); (((s.putB SAF_STATUS__ARMED true).putB SAF_STATUS__STO_ACT false).put SAF_CT_STAT__FAULT 0).putB (SAF_CT_CFG__EN 5) true) State.reset, .host 1, 5, by decide +kernel⟩,
   ⟨(stew 1 State.reset).putB SAF_STATUS__ARMED false, .host 1, 5, by decide +kernel⟩,
   ⟨(stew 1 State.reset).putB SAF_STATUS__ARMED false |>.putB (HP_DENY_INFO__VALID 1) false, 1, 5, by decide +kernel⟩,
   ⟨(fun s => let s := (List.range 4).foldl (fun (s : State) g => (s.putB (SAF_LINK_AX__PRE_EN g) false).put (SAF_LINK_STAT__GROUP g) 0) (stew 1 s); (((s.putB SAF_STATUS__ARMED true).putB SAF_STATUS__STO_ACT false).put SAF_CT_STAT__FAULT 0).putB (SAF_CT_CFG__EN 5) true |>.putB (SAF_LINK_AX__PRE_EN 2) true |>.putB (SAF_LINK_CFG__EN 2) true |>.put (SAF_LINK_AX__MAIN_CT 2) 5 |>.put (SAF_LINK_AX__PRE_CT 2) 4 |>.putB (SAF_CT_CFG__EN 4) true) State.reset, .host 1, 5, 2, by decide +kernel⟩,
   ⟨(fun s => let s := (List.range 4).foldl (fun (s : State) g => (s.putB (SAF_LINK_AX__PRE_EN g) false).put (SAF_LINK_STAT__GROUP g) 0) (stew 1 s); (((s.putB SAF_STATUS__ARMED true).putB SAF_STATUS__STO_ACT false).put SAF_CT_STAT__FAULT 0).putB (SAF_CT_CFG__EN 5) true |>.putB (SAF_LINK_AX__PRE_EN 2) true |>.putB (SAF_LINK_CFG__EN 2) true |>.put (SAF_LINK_AX__MAIN_CT 2) 5 |>.put (SAF_LINK_AX__PRE_CT 2) 4 |>.putB (SAF_CT_CFG__EN 4) true |>.put SAF_CT_STAT__FB 0x10 |>.put (SAF_LINK_AX__PRE_V 2) 3 |>.put (GI_DCPS__VDC (State.reset.get (SAF_LINK_CFG__DCPS_GI 2))) 10) State.reset, .host 1, 5, 2, by decide +kernel⟩,
   ⟨(fun s => let s := (List.range 4).foldl (fun (s : State) g => (s.putB (SAF_LINK_AX__PRE_EN g) false).put (SAF_LINK_STAT__GROUP g) 0) (stew 1 s); (((s.putB SAF_STATUS__ARMED true).putB SAF_STATUS__STO_ACT false).put SAF_CT_STAT__FAULT 0).putB (SAF_CT_CFG__EN 5) true |>.putB (SAF_LINK_AX__PRE_EN 2) true |>.putB (SAF_LINK_CFG__EN 2) true |>.put (SAF_LINK_AX__MAIN_CT 2) 5 |>.put (SAF_LINK_AX__PRE_CT 2) 4 |>.putB (SAF_CT_CFG__EN 4) true |>.put SAF_CT_STAT__FB 0x10 |>.put (SAF_LINK_AX__PRE_V 2) 3 |>.put (GI_DCPS__VDC (State.reset.get (SAF_LINK_CFG__DCPS_GI 2))) 100) State.reset, .host 1, 5, 2, by decide +kernel⟩,
   ⟨(fun s => let s := (List.range 4).foldl (fun (s : State) g => (s.putB (SAF_LINK_AX__PRE_EN g) false).put (SAF_LINK_STAT__GROUP g) 0) (stew 1 s); (((s.putB SAF_STATUS__ARMED true).putB SAF_STATUS__STO_ACT false).put SAF_CT_STAT__FAULT 0).putB (SAF_CT_CFG__EN 5) true |>.putB (SAF_LINK_AX__PRE_EN 2) true |>.putB (SAF_LINK_CFG__EN 2) true |>.put (SAF_LINK_AX__MAIN_CT 2) 5 |>.put (SAF_LINK_AX__PRE_CT 2) 4 |>.putB (SAF_CT_CFG__EN 4) true |>.put SAF_CT_STAT__CMD 0x20) State.reset, .host 1, 5, 2, by decide +kernel⟩,
   ⟨(fun s => let s := (List.range 4).foldl (fun (s : State) g => (s.putB (SAF_LINK_AX__PRE_EN g) false).put (SAF_LINK_STAT__GROUP g) 0) (stew 1 s); (((s.putB SAF_STATUS__ARMED true).putB SAF_STATUS__STO_ACT false).put SAF_CT_STAT__FAULT 0).putB (SAF_CT_CFG__EN 5) true |>.putB (SAF_LINK_AX__PRE_EN 2) true |>.putB (SAF_LINK_CFG__EN 2) true |>.put (SAF_LINK_AX__MAIN_CT 2) 5 |>.put (SAF_LINK_AX__PRE_CT 2) 4 |>.putB (SAF_CT_CFG__EN 4) true |>.putB (SAF_CT_CFG__EN 4) false |>.put SAF_CT_STAT__CMD 0) State.reset, .host 1, 5, 2, by decide +kernel⟩,
   ⟨{ stew 1 State.reset with links := [] }, .host 1, 5, by decide +kernel⟩,
   ⟨(fun s => let s := (List.range 4).foldl (fun (s : State) g => (s.putB (SAF_LINK_AX__PRE_EN g) false).put (SAF_LINK_STAT__GROUP g) 0) (stew 1 s); (((s.putB SAF_STATUS__ARMED true).putB SAF_STATUS__STO_ACT false).put SAF_CT_STAT__FAULT 0).putB (SAF_CT_CFG__EN 5) true |>.putB (SAF_LINK_AX__PRE_EN 2) true |>.putB (SAF_LINK_CFG__EN 2) true |>.put (SAF_LINK_AX__MAIN_CT 2) 5 |>.put (SAF_LINK_AX__PRE_CT 2) 4 |>.putB (SAF_CT_CFG__EN 4) true) State.reset |>.upLnk 2 fun _ => { pre := 2 }, .host 1, 5, 2, by decide +kernel⟩,
   ⟨(fun s => ((((((((((List.range 8).foldl (fun (s : State) a => s.put (AX_BIND_LEG__LEG_MASK a) 0) s).put (AX_BIND_LEG__LEG_MASK 3) 0x1C0).put (AX_STATE__STATE 3) 3).putB (AX_STATE__CLOSING 3) false).putB SAF_STATUS__ARMED true).putB (SAF_CT_CFG__EN 5) true).put SAF_CT_STAT__FAULT 0).put SAF_CT_STAT__CMD 0x20).put SAF_CT_STAT__FB 0).put (SAF_CT_CFG__AXMASK 5) 8) State.reset, 5, 3, by decide +kernel⟩,
   ⟨(fun s => ((((((((((List.range 8).foldl (fun (s : State) a => s.put (AX_BIND_LEG__LEG_MASK a) 0) s).put (AX_BIND_LEG__LEG_MASK 3) 0x1C0).put (AX_STATE__STATE 3) 3).putB (AX_STATE__CLOSING 3) false).putB SAF_STATUS__ARMED true).putB (SAF_CT_CFG__EN 5) true).put SAF_CT_STAT__FAULT 0).put SAF_CT_STAT__CMD 0x20).put SAF_CT_STAT__FB 0).put (SAF_CT_CFG__AXMASK 5) 8) State.reset, 5, 4, by decide +kernel⟩,
   ⟨(State.reset.put SAF_CT_STAT__CMD 0x20).put SAF_CT_STAT__FB 0x20, 5, by decide +kernel⟩,
   ⟨(fun s => (List.range 4).foldl (fun (s : State) g => s.putB (SAF_LINK_DIS__DIS_AUTO g) false) { s with links := [] }) State.reset, by decide +kernel⟩,
   ⟨(((State.reset.upLnk 2 fun _ => { }).put (SAF_LINK_STAT__GROUP 2) 0).putB (SAF_LINK_CFG__EN 2) true |>.putB SAF_STATUS__ARMED true |>.put SAF_CT_STAT__FB 0 |>.put (SAF_LINK_AX__MAIN_CT 2) 5 |>.putB (SAF_LINK_DIS__DIS_AUTO 2) true |>.putB (SAF_CT_CFG__FB_POL 5) true |>.put SAF_CT_STAT__CMD 0 |>.put (SAF_LINK_DIS__DIS_MODE 2) 1), 5, 2, true, by decide +kernel⟩,
   ⟨(State.reset.putB SAF_STATUS__ARMED true |>.putB (SAF_LINK_CFG__EN 2) true |>.upLnk 2 (fun _ => { pre := 3 }) |>.put (SAF_LINK_AX__PRE_CT 2) 4 |>.put (SAF_LINK_AX__MAIN_CT 2) 5 |>.put SAF_CT_STAT__CMD 0x10 |>.put SAF_CT_STAT__FB 0x10 |>.put SAF_CT_STAT__FAULT 0 |>.put (SAF_LINK_AX__PRE_V 2) 3 |>.put (GI_DCPS__VDC (State.reset.get (SAF_LINK_CFG__DCPS_GI 2))) 100 |>.putB (SAF_CT_CFG__EN 5) true |>.putB SAF_STATUS__STO_ACT false), 2, by decide +kernel⟩,
   ⟨(State.reset.putB SAF_STATUS__ARMED true |>.putB (SAF_LINK_CFG__EN 2) true |>.upLnk 2 (fun _ => { pre := 3 }) |>.put (SAF_LINK_AX__PRE_CT 2) 4 |>.put (SAF_LINK_AX__MAIN_CT 2) 5 |>.put SAF_CT_STAT__CMD 0x10 |>.put SAF_CT_STAT__FB 0x10 |>.put SAF_CT_STAT__FAULT 0 |>.put (SAF_LINK_AX__PRE_V 2) 3 |>.put (GI_DCPS__VDC (State.reset.get (SAF_LINK_CFG__DCPS_GI 2))) 100 |>.putB (SAF_CT_CFG__EN 5) true |>.putB SAF_STATUS__STO_ACT false |>.put SAF_CT_STAT__FB 0x30), 2, by decide +kernel⟩,
   ⟨(State.reset.putB SAF_STATUS__ARMED true |>.putB (SAF_LINK_CFG__EN 2) true |>.upLnk 2 (fun _ => { pre := 3 }) |>.put (SAF_LINK_AX__PRE_CT 2) 4 |>.put (SAF_LINK_AX__MAIN_CT 2) 5 |>.put SAF_CT_STAT__CMD 0x10 |>.put SAF_CT_STAT__FB 0x10 |>.put SAF_CT_STAT__FAULT 0 |>.put (SAF_LINK_AX__PRE_V 2) 3 |>.put (GI_DCPS__VDC (State.reset.get (SAF_LINK_CFG__DCPS_GI 2))) 100 |>.putB (SAF_CT_CFG__EN 5) true |>.putB SAF_STATUS__STO_ACT false |>.put SAF_CT_STAT__FB 0), 2, by decide +kernel⟩,
   ⟨(State.reset.putB SAF_STATUS__ARMED true |>.putB (SAF_LINK_CFG__EN 2) true |>.upLnk 2 (fun _ => { pre := 3 }) |>.put (SAF_LINK_AX__PRE_CT 2) 4 |>.put (SAF_LINK_AX__MAIN_CT 2) 5 |>.put SAF_CT_STAT__CMD 0x10 |>.put SAF_CT_STAT__FB 0x10 |>.put SAF_CT_STAT__FAULT 0 |>.put (SAF_LINK_AX__PRE_V 2) 3 |>.put (GI_DCPS__VDC (State.reset.get (SAF_LINK_CFG__DCPS_GI 2))) 100 |>.putB (SAF_CT_CFG__EN 5) true |>.putB SAF_STATUS__STO_ACT false |>.put SAF_CT_STAT__FAULT 0x10), 2, by decide +kernel⟩,
   ⟨(State.reset.putB SAF_STATUS__ARMED true |>.putB (SAF_LINK_CFG__EN 2) true |>.upLnk 2 (fun _ => { pre := 4 }) |>.put (SAF_LINK_AX__PRE_CT 2) 4 |>.put (SAF_LINK_AX__MAIN_CT 2) 5 |>.put SAF_CT_STAT__CMD 0x10 |>.put SAF_CT_STAT__FB 0x10 |>.put SAF_CT_STAT__FAULT 0 |>.put (SAF_LINK_AX__PRE_V 2) 3 |>.put (GI_DCPS__VDC (State.reset.get (SAF_LINK_CFG__DCPS_GI 2))) 100 |>.putB (SAF_CT_CFG__EN 5) true |>.putB SAF_STATUS__STO_ACT false |>.put SAF_CT_STAT__FB 0x30 |>.put SAF_CT_STAT__CMD 0x30), 2, by decide +kernel⟩,
   ⟨(State.reset.upLnk 2 fun _ => { pre := 0 }), 2, by decide +kernel⟩,
   ⟨(State.reset.putB SAF_STATUS__ARMED true |>.putB (SAF_LINK_CFG__EN 2) true |>.upLnk 2 (fun _ => { pre := 3 }) |>.put (SAF_LINK_AX__PRE_CT 2) 4 |>.put (SAF_LINK_AX__MAIN_CT 2) 5 |>.put SAF_CT_STAT__CMD 0x10 |>.put SAF_CT_STAT__FB 0x10 |>.put SAF_CT_STAT__FAULT 0 |>.put (SAF_LINK_AX__PRE_V 2) 3 |>.put (GI_DCPS__VDC (State.reset.get (SAF_LINK_CFG__DCPS_GI 2))) 100 |>.putB (SAF_CT_CFG__EN 5) true |>.putB SAF_STATUS__STO_ACT false), 2, by decide +kernel⟩,
   ⟨(State.reset.upLnk 2 fun _ => { pre := 0 }), 2, by decide +kernel⟩⟩

set_option maxRecDepth 1000000 in
/-- States and operands that meet the conditions of SelfTestsAndKeys. -/
theorem witness_SelfTestsAndKeys :
    (∃ (s : State) (k : Fin 32) (b : Bool) (c : Fin 2), nbit (s.get (winCopies k.val b)) c.val = true ∧ nbit (s.get (winCopies k.val b)) (1 - c.val) = true ∧ s.on (winOut k.val b) = false) ∧
    (∃ (s : State) (k : Fin 32) (b : Bool) (c : Fin 2), nbit (s.get (winCopies k.val b)) c.val = true ∧ nbit (s.get (winCopies k.val b)) (1 - c.val) = true ∧ s.on (winOut k.val b) = false ∧ sget (fun _ => 0) s.cmpFails (copyUnit k.val b c.val) = 0) ∧
    (∃ (s : State) (k : Fin 32) (b : Bool) (c : Fin 2), nbit (s.get (winCopies k.val b)) c.val = true ∧ nbit (s.get (winCopies k.val b)) (1 - c.val) = true ∧ s.on (winOut k.val b) = false ∧ 1 ≤ sget (fun _ => 0) s.cmpFails (copyUnit k.val b c.val)) ∧
    (∃ (s : State) (k : Fin 32) (b : Bool) (c : Fin 2), (nbit (s.get (winCopies k.val b)) c.val = false ∨ nbit (s.get (winCopies k.val b)) (1 - c.val) = false ∨ s.on (winOut k.val b) = true)) ∧
    (∃ (s : State), s.on SAF_CMPT_CFG__DIDT_EN = true) ∧
    (∃ (s : State) (i : Fin 8) (c : Fin 6) (x : Fin 8), s.on SAF_CMPT_CFG__DIDT_EN = true ∧ s.ch i.val c.val = 0 ∧ s.legAxis (3 * i.val + c.val / 2) = some x.val) ∧
    (∃ (s : State) (i : Fin 8) (c : Fin 6), s.on SAF_CMPT_CFG__DIDT_EN = true ∧ s.ch i.val c.val = 0 ∧ s.legAxis (3 * i.val + c.val / 2) = none) ∧
    (∃ (s : State) (i : Fin 8) (c : Fin 6) (b : Bool) (d : Bool), (s.on SAF_CMPT_CFG__DIDT_EN = false ∨ (d = false ∧ (b = true ∨ s.ch i.val c.val ≠ 0)))) ∧
    (∃ (k : Fin 3) (u : Fin 32) (f : Fin 3), delayField k.val u.val f.val = true) ∧
    (∃ (s : State) (k : Fin 3) (u : Fin 32) (f : Fin 3) (x : Fin 8), delayField k.val u.val f.val = true ∧ (s.delayAxes k.val u.val).contains x.val = true) ∧
    (∃ (s : State) (k : Fin 3) (u : Fin 32) (f : Fin 3) (x : Fin 8), delayField k.val u.val f.val = true ∧ (s.delayAxes k.val u.val).contains x.val = false) ∧
    (∃ (s : State) (i : Fin 8), s.on (GI_STATUS__LINK_UP i.val) = true ∧ nbit (s.isl i.val).sup 0 = true ∧ (s.isl i.val).lost = false) ∧
    (∃ (s : State) (i : Fin 8), (s.on (GI_STATUS__LINK_UP i.val) = false ∨ nbit (s.isl i.val).sup 0 = false)) ∧
    (∃ (s : State) (w : Writer) (k : Fin 76) (v : Word) (n : Nat), s.may w (0x48400 + 4 * k.val) v = true ∧ s.vqFull = false ∧ vaultWord (0x48400 + 4 * k.val) = some n) ∧
    (∃ (s : State) (w : Writer) (k : Fin 76) (v : Word), s.may w (0x48400 + 4 * k.val) v = true ∧ s.vqFull = true ∧ pvMask (0x48400 + 4 * k.val) ≠ 0) ∧
    (∃ (s : State) (p : Fin 4) (k : Fin 76), s.portTakes p.val = true ∧ (s.port p.val).mse = true ∧ s.accessWaits false (0x48400 + 4 * k.val) = false ∧ s.writeReason (.host p) false (0x48400 + 4 * k.val) = 0 ∧ s.armed = true ∧ pvMask (0x48400 + 4 * k.val) ≠ 0 ∧ s.on (HP_DENY_INFO__VALID p.val) = false) ∧
    (∃ (s : State) (w : Writer) (a : BitVec 20) (v : Word) (n : Nat), s.may w a.toNat v = true ∧ s.vqFull = false ∧ vaultWord a.toNat = some n ∧ 204 ≤ n) ∧
    (∃ (s : State) (w : Writer) (a : BitVec 20) (v : Word), s.may w a.toNat v = true ∧ s.vqFull = true ∧ pvMask a.toNat ≠ 0 ∧ vaultWord a.toNat ≠ some 152) ∧
    (∃ (a : BitVec 20), pvMask a.toNat = 0) ∧
    (∃ (s : State) (w : Writer), s.may w SAF_ARM 0x5341 = true ∧ s.armed = false ∧ s.armRefuse = 0 ∧ (s.vqFull = false ∨ (∀ g : Fin 4, s.on (SAF_LINK_CFG__EN g.val) = false))) ∧
    (∃ (s : State) (w : Writer), s.may w SAF_ARM 0x5341 = true ∧ s.armed = false ∧ s.armRefuse ≠ 0) ∧
    (∃ (s : State) (p : Fin 4), s.may (.host p) SAF_ARM 0x5341 = true ∧ s.armed = false ∧ s.armRefuse ≠ 0 ∧ s.on (HP_DENY_INFO__VALID p.val) = false) ∧
    (∃ (s : State) (w : Writer), s.may w SAF_ARM 0x5341 = true ∧ s.armed = true) ∧
    (∃ (s : State) (w : Writer), s.may w SAF_ARM 0x4453 = true ∧ s.armed = true ∧ (∀ x : Fin 8, s.axState x.val = 0) ∧ s.get SAF_CT_STAT__CMD = 0 ∧ (∀ g : Fin 4, (s.lnk g.val).dis ≠ 2)) ∧
    (∃ (s : State) (w : Writer), s.may w SAF_ARM 0x4453 = true ∧ s.armed = true ∧ ((∃ x : Fin 8, s.axState x.val ≠ 0) ∨ s.get SAF_CT_STAT__CMD ≠ 0 ∨ (∃ g : Fin 4, (s.lnk g.val).dis = 2))) ∧
    (∃ (s : State) (p : Fin 4), s.may (.host p) SAF_ARM 0x4453 = true ∧ s.armed = true ∧ ((∃ x : Fin 8, s.axState x.val ≠ 0) ∨ s.get SAF_CT_STAT__CMD ≠ 0 ∨ (∃ g : Fin 4, (s.lnk g.val).dis = 2)) ∧ s.on (HP_DENY_INFO__VALID p.val) = false) ∧
    (∃ (s : State) (w : Writer), s.may w SAF_ARM 0x4453 = true ∧ s.armed = false) ∧
    (∃ (s : State) (w : Writer), s.may w SAF_CLEAR 0x434C = true) ∧
    (∃ (k : Fin 3) (u : Fin 32) (f : Fin 3), delayField k.val u.val f.val = false) :=
  ⟨⟨State.reset.put (winCopies 9 true) 3 |>.putB (winOut 9 true) false, 9, true, 1, by decide +kernel⟩,
   ⟨State.reset.put (winCopies 9 true) 3 |>.putB (winOut 9 true) false, 9, true, 1, by decide +kernel⟩,
   ⟨{ State.reset.put (winCopies 9 true) 3 |>.putB (winOut 9 true) false with cmpFails := [(copyUnit 9 true 1, 1)] }, 9, true, 1, by decide +kernel⟩,
   ⟨State.reset.put (winCopies 9 true) 1, 9, true, 1, by decide +kernel⟩,
   ⟨State.reset.putB SAF_CMPT_CFG__DIDT_EN true, by decide +kernel⟩,
   ⟨(fun s => (((((((List.range 8).foldl (fun (s : State) a => s.put (AX_BIND_LEG__LEG_MASK a) 0) s).put (AX_BIND_LEG__LEG_MASK 3) 0x1C0).put (AX_STATE__STATE 3) 3).putB (AX_STATE__CLOSING 3) false).putB SAF_STATUS__ARMED true).upIsl 2 fun _ => { lost := false, follow := false, sup := 511, chs := [0,0,0,0,0,0] }).putB SAF_CMPT_CFG__DIDT_EN true) State.reset, 2, 3, 3, by decide +kernel⟩,
   ⟨(fun s => (((List.range 8).foldl (fun (s : State) a => s.put (AX_BIND_LEG__LEG_MASK a) 0) s).upIsl 2 fun _ => { lost := false, follow := false, sup := 511, chs := [0,0,0,0,0,0] }).putB SAF_CMPT_CFG__DIDT_EN true) State.reset, 2, 3, by decide +kernel⟩,
   ⟨State.reset.putB SAF_CMPT_CFG__DIDT_EN false, 2, 3, true, true, by decide +kernel⟩,
   ⟨0, 23, 1, by decide +kernel⟩,
   ⟨(fun s => (((((((List.range 8).foldl (fun (s : State) a => s.put (AX_BIND_LEG__LEG_MASK a) 0) s).put (AX_BIND_LEG__LEG_MASK 3) 0x1C0).put (AX_STATE__STATE 3) 3).putB (AX_STATE__CLOSING 3) false).putB SAF_STATUS__ARMED true).upIsl 2 fun _ => { lost := false, follow := false, sup := 511, chs := [0,0,0,0,0,0] }).putB SAF_CMPT_CFG__DIDT_EN true) State.reset, 0, 7, 1, 3, by decide +kernel⟩,
   ⟨(fun s => (((((((List.range 8).foldl (fun (s : State) a => s.put (AX_BIND_LEG__LEG_MASK a) 0) s).put (AX_BIND_LEG__LEG_MASK 3) 0x1C0).put (AX_STATE__STATE 3) 3).putB (AX_STATE__CLOSING 3) false).putB SAF_STATUS__ARMED true).upIsl 2 fun _ => { lost := false, follow := false, sup := 511, chs := [0,0,0,0,0,0] }).putB SAF_CMPT_CFG__DIDT_EN true) State.reset, 0, 7, 1, 5, by decide +kernel⟩,
   ⟨(State.reset.putB (GI_STATUS__LINK_UP 2) true).upIsl 2 fun _ => { sup := 511, lost := false }, 2, by decide +kernel⟩,
   ⟨State.reset.putB (GI_STATUS__LINK_UP 2) false, 2, by decide +kernel⟩,
   ⟨{ (stew 1 State.reset).putB SAF_STATUS__ARMED false with vq := [] }, .host 1, 5, 0x1234, 217, by decide +kernel⟩,
   ⟨{ (stew 1 State.reset).putB SAF_STATUS__ARMED false with vq := List.replicate 8 { word := 3, value := 4 } }, .host 1, 5, 0x1234, by decide +kernel⟩,
   ⟨(stew 1 State.reset).putB SAF_STATUS__ARMED true |>.putB (HP_DENY_INFO__VALID 1) false, 1, 5, by decide +kernel⟩,
   ⟨{ (stew 1 State.reset) with vq := [] }, .host 1, 0x41014, 0x1234, 699, by decide +kernel⟩,
   ⟨{ (stew 1 State.reset) with vq := List.replicate 8 { word := 3, value := 4 } }, .host 1, 0x41014, 0x1234, by decide +kernel⟩,
   ⟨0x38004, by decide +kernel⟩,
   ⟨(fun s => let s := (stew 1 s).putB SAF_STATUS__ARMED false; let s := (List.range 8).foldl (fun (s : State) a => ((s.wr (SAF_AX_CFG__SS_MODE a).addr 0x00017C00).wr (SAF_AX_TMON__EN a).addr 0).wr (SAF_AX_TMON2__LEAK a).addr 0) s; let s := (List.range 4).foldl (fun (s : State) g => s.wr (SAF_LINK_CFG__EN g).addr 0) s; let s := (List.range 8).foldl (fun (s : State) g => s.wr (SAF_CT_CFG__EN g).addr 0) s; let s := spbCompute s; s.wr SAF_CONFIRM (s.rd SAF_SPB_CRC)) State.reset, .host 1, by decide +kernel⟩,
   ⟨((stew 1 State.reset).putB SAF_STATUS__ARMED false).putB SAF_STATUS__CRC_VALID false, .host 1, by decide +kernel⟩,
   ⟨((stew 1 State.reset).putB SAF_STATUS__ARMED false).putB SAF_STATUS__CRC_VALID false |>.putB (HP_DENY_INFO__VALID 1) false, 1, by decide +kernel⟩,
   ⟨(stew 1 State.reset).putB SAF_STATUS__ARMED true, .host 1, by decide +kernel⟩,
   ⟨(fun s => let s := (List.range 8).foldl (fun (s : State) a => s.put (AX_STATE__STATE a) 0) { (stew 1 s) with links := [] }; (s.putB SAF_STATUS__ARMED true).put SAF_CT_STAT__CMD 0) State.reset, .host 1, by decide +kernel⟩,
   ⟨((stew 1 State.reset).putB SAF_STATUS__ARMED true).put (AX_STATE__STATE 3) 1, .host 1, by decide +kernel⟩,
   ⟨((stew 1 State.reset).putB SAF_STATUS__ARMED true).put (AX_STATE__STATE 3) 1 |>.putB (HP_DENY_INFO__VALID 1) false, 1, by decide +kernel⟩,
   ⟨(stew 1 State.reset).putB SAF_STATUS__ARMED false, .host 1, by decide +kernel⟩,
   ⟨stew 1 State.reset, .host 1, by decide +kernel⟩,
   ⟨0, 23, 2, by decide +kernel⟩⟩

/-- States and operands that meet the conditions of CorePairs. -/
theorem witness_CorePairs :
    (∃ (s : State) (n : Fin 5), s.pairRuns n.val = true ∧ s.fl = [] ∧ s.on RED_STATUS__DSAFE = false ∧ s.restartOpen n.val = false ∧ ¬ (∃ e, (s.cp n.val).lastEnd = some e ∧ s.time ≤ e + max 1 (s.get RED_CFG__ESC_WINDOW) * 200000) ∧ s.get (RED_CP_COUNTS__DISPLACED n.val) < 3) ∧
    (∃ (s : State) (n : Fin 5) (w : Fin 4), (s.pairRuns n.val = true ∨ (s.cpState n.val = 4 ∧ s.sys.released = true ∧ s.sys.pairsReset = false ∧ s.takeDue w.val = false)) ∧ s.slotOf n.val = some w.val ∧ s.fl = [] ∧ s.on RED_STATUS__DSAFE = false ∧ (s.restartOpen n.val = true ∨ (∃ e, (s.cp n.val).lastEnd = some e ∧ s.time ≤ e + max 1 (s.get RED_CFG__ESC_WINDOW) * 200000) ∨ 3 ≤ s.get (RED_CP_COUNTS__DISPLACED n.val)) ∧ s.get (slotPair 4) ≠ 7 ∧ s.red.takes = [] ∧ s.get (RED_CP_COUNTS__DISPLACED n.val) < 3) ∧
    (∃ (s : State) (n : Fin 5) (w : Fin 4), (s.pairRuns n.val = true ∨ (s.cpState n.val = 4 ∧ s.sys.released = true ∧ s.sys.pairsReset = false ∧ s.takeDue w.val = false)) ∧ s.slotOf n.val = some w.val ∧ s.fl = [] ∧ s.on RED_STATUS__DSAFE = false ∧ s.get (slotPair 4) ≠ 7 ∧ s.red.takes = [] ∧ s.get (slotPair 4) ≠ n.val ∧ 3 ≤ s.get (RED_CP_COUNTS__DISPLACED n.val)) ∧
    (∃ (s : State) (n : Fin 5) (w : Fin 4), (s.pairRuns n.val = true ∨ (s.cpState n.val = 4 ∧ s.sys.released = true ∧ s.sys.pairsReset = false ∧ s.takeDue w.val = false)) ∧ s.slotOf n.val = some w.val ∧ s.fl = [] ∧ s.on RED_STATUS__DSAFE = false ∧ (s.restartOpen n.val = true ∨ (∃ e, (s.cp n.val).lastEnd = some e ∧ s.time ≤ e + max 1 (s.get RED_CFG__ESC_WINDOW) * 200000) ∨ 3 ≤ s.get (RED_CP_COUNTS__DISPLACED n.val)) ∧ (s.svcUnit 2).map (·.1) ≠ some 1 ∧ s.get (RED_CP_COUNTS__DISPLACED n.val) < 3 ∧ s.get (slotPair 4) = 7) ∧
    (∃ (s : State) (n : Fin 5), (s.slotOf n.val = none ∨ (s.pairRuns n.val = false ∧ (s.cpState n.val ≠ 4 ∨ s.sys.released = false ∨ s.sys.pairsReset = true)))) ∧
    (∃ (s : State) (n : Fin 5) (a : Fin 8) (v : Word), s.pairRuns n.val = true ∧ (s.cp n.val).first = false ∧ (s.cp n.val).buf = [.reg (AX_SETPOINT a.val) v] ∧ s.may (.firmware n) (AX_SETPOINT a.val) v = true) ∧
    (∃ (s : State) (n : Fin 5), s.pairRuns n.val = true ∧ (s.cp n.val).first = true ∧ (s.cp n.val).buf = [] ∧ s.fl = []) ∧
    (∃ (s : State) (n : Fin 5), s.pairRuns n.val = true ∧ (s.cp n.val).buf = [] ∧ (s.cp n.val).first = false) ∧
    (∃ (s : State) (n : Fin 5), s.pairRuns n.val = false ∧ (s.cpState n.val ≠ 1 ∨ (s.cp n.val).first = false)) ∧
    (∃ (s : State) (n : Fin 5), s.cpState n.val = 4 ∧ (s.cp n.val).rs = 1 ∧ s.sys.pairsReset = false) ∧
    (∃ (s : State) (n : Fin 5) (w : Fin 4), s.cpState n.val = 4 ∧ (s.cp n.val).rs = 1 ∧ s.sys.pairsReset = false ∧ s.slotOf n.val = some w.val ∧ s.fl = [] ∧ s.on RED_STATUS__DSAFE = false ∧ s.get (slotPair 4) ≠ 7 ∧ s.red.takes = [] ∧ s.get (slotPair 4) ≠ n.val) ∧
    (∃ (s : State) (n : Fin 5) (w : Fin 4), s.cpState n.val = 4 ∧ (s.cp n.val).rs = 1 ∧ s.sys.pairsReset = false ∧ s.slotOf n.val = some w.val ∧ s.fl = [] ∧ s.on RED_STATUS__DSAFE = false ∧ (s.svcUnit 2).map (·.1) ≠ some 1 ∧ (∀ z : Fin 5, s.cpState z.val ≠ 1) ∧ s.get (slotPair 4) = 7) ∧
    (∃ (s : State) (n : Fin 5), s.cpState n.val = 4 ∧ (s.cp n.val).rs = 1 ∧ s.sys.pairsReset = false ∧ s.slotOf n.val = none ∧ s.fl = [] ∧ s.red.takes = []) ∧
    (∃ (s : State) (n : Fin 5), (s.cpState n.val ≠ 4 ∨ (s.cp n.val).rs ≠ 1 ∨ s.sys.pairsReset = true)) ∧
    (∃ (s : State) (n : Fin 5) (w : Fin 4) (b : Bool), s.cpState n.val = 4 ∧ (s.cp n.val).rs = 2 ∧ s.sys.pairsReset = false ∧ s.slotOf n.val = some w.val ∧ (s.cp n.val).haltReq = false ∧ s.red.unus = [] ∧ s.on (if s.get (RED_WS_CKPT__NEWEST w.val) = 0 then RED_WS_CKPT__GOOD_A w.val else RED_WS_CKPT__GOOD_B w.val) = true ∧ b = true ∧ s.ckptOk w.val (s.get (RED_WS_CKPT__NEWEST w.val)) = true) ∧
    (∃ (s : State) (n : Fin 5) (w : Fin 4) (b : Bool) (o : Bool), s.cpState n.val = 4 ∧ (s.cp n.val).rs = 2 ∧ s.sys.pairsReset = false ∧ s.slotOf n.val = some w.val ∧ (s.cp n.val).haltReq = false ∧ s.fl = [] ∧ s.red.unus = [] ∧ (s.on (if s.get (RED_WS_CKPT__NEWEST w.val) = 0 then RED_WS_CKPT__GOOD_A w.val else RED_WS_CKPT__GOOD_B w.val) = false ∨ b = false ∨ s.ckptOk w.val (s.get (RED_WS_CKPT__NEWEST w.val)) = false) ∧ s.on (if s.get (RED_WS_CKPT__NEWEST w.val) = 0 then RED_WS_CKPT__GOOD_B w.val else RED_WS_CKPT__GOOD_A w.val) = true ∧ o = true ∧ s.ckptOk w.val (1 - s.get (RED_WS_CKPT__NEWEST w.val)) = true) ∧
    (∃ (s : State) (n : Fin 5) (w : Fin 4) (b : Bool) (o : Bool), s.cpState n.val = 4 ∧ (s.cp n.val).rs = 2 ∧ s.sys.pairsReset = false ∧ s.slotOf n.val = some w.val ∧ s.on RED_STATUS__DSAFE = false ∧ (s.on (if s.get (RED_WS_CKPT__NEWEST w.val) = 0 then RED_WS_CKPT__GOOD_A w.val else RED_WS_CKPT__GOOD_B w.val) = false ∨ b = false ∨ s.ckptOk w.val (s.get (RED_WS_CKPT__NEWEST w.val)) = false) ∧ (s.on (if s.get (RED_WS_CKPT__NEWEST w.val) = 0 then RED_WS_CKPT__GOOD_B w.val else RED_WS_CKPT__GOOD_A w.val) = false ∨ o = false ∨ s.ckptOk w.val (1 - s.get (RED_WS_CKPT__NEWEST w.val)) = false)) ∧
    (∃ (s : State) (n : Fin 5), s.cpState n.val = 4 ∧ (s.cp n.val).rs = 2 ∧ s.sys.pairsReset = false ∧ s.slotOf n.val = none ∧ (s.cp n.val).haltReq = false) ∧
    (∃ (s : State) (n : Fin 5) (w : Fin 4) (b : Bool), s.cpState n.val = 4 ∧ (s.cp n.val).rs = 2 ∧ s.sys.pairsReset = false ∧ s.slotOf n.val = some w.val ∧ (s.cp n.val).haltReq = true ∧ s.red.unus = [] ∧ s.on (if s.get (RED_WS_CKPT__NEWEST w.val) = 0 then RED_WS_CKPT__GOOD_A w.val else RED_WS_CKPT__GOOD_B w.val) = true ∧ b = true ∧ s.ckptOk w.val (s.get (RED_WS_CKPT__NEWEST w.val)) = true) ∧
    (∃ (s : State) (n : Fin 5), (s.cpState n.val ≠ 4 ∨ (s.cp n.val).rs ≠ 2 ∨ s.sys.pairsReset = true)) ∧
    (∃ (s : State) (w : Fin 4) (x : Fin 5) (y : Fin 5) (b : Bool), s.takeDue w.val = true ∧ s.get (slotPair 4) = x.val ∧ s.get (slotPair w.val) = y.val ∧ x ≠ y ∧ s.cpState x.val = 1 ∧ (∀ z : Fin 5, z ≠ x → s.cpState z.val ≠ 1) ∧ s.sys.pairsReset = false ∧ (s.cp x.val).haltReq = false ∧ s.cpState y.val < 7 ∧ s.red.takes.contains (w.val, true) = false ∧ s.red.outs.contains (1, y.val) = false ∧ s.on (if s.get (RED_WS_CKPT__NEWEST w.val) = 0 then RED_WS_CKPT__GOOD_A w.val else RED_WS_CKPT__GOOD_B w.val) = true ∧ b = true ∧ s.ckptOk w.val (s.get (RED_WS_CKPT__NEWEST w.val)) = true) ∧
    (∃ (s : State) (w : Fin 4) (x : Fin 5) (y : Fin 5) (b : Bool) (o : Bool), s.takeDue w.val = true ∧ s.get (slotPair 4) = x.val ∧ s.get (slotPair w.val) = y.val ∧ x ≠ y ∧ s.cpState x.val = 1 ∧ (∀ z : Fin 5, z ≠ x → s.cpState z.val ≠ 1) ∧ s.sys.pairsReset = false ∧ (s.cp x.val).haltReq = false ∧ s.cpState y.val < 7 ∧ s.red.takes.contains (w.val, true) = false ∧ s.red.outs.contains (1, y.val) = false ∧ s.fl = [] ∧ (s.on (if s.get (RED_WS_CKPT__NEWEST w.val) = 0 then RED_WS_CKPT__GOOD_A w.val else RED_WS_CKPT__GOOD_B w.val) = false ∨ b = false ∨ s.ckptOk w.val (s.get (RED_WS_CKPT__NEWEST w.val)) = false) ∧ s.on (if s.get (RED_WS_CKPT__NEWEST w.val) = 0 then RED_WS_CKPT__GOOD_B w.val else RED_WS_CKPT__GOOD_A w.val) = true ∧ o = true ∧ s.ckptOk w.val (1 - s.get (RED_WS_CKPT__NEWEST w.val)) = true) ∧
    (∃ (s : State) (w : Fin 4) (x : Fin 5) (y : Fin 5) (b : Bool), s.takeDue w.val = true ∧ s.get (slotPair 4) = x.val ∧ s.get (slotPair w.val) = y.val ∧ x ≠ y ∧ s.cpState x.val = 1 ∧ (∀ z : Fin 5, z ≠ x → s.cpState z.val ≠ 1) ∧ s.sys.pairsReset = false ∧ (s.cp x.val).haltReq = false ∧ s.cpState y.val < 7 ∧ s.red.takes.contains (w.val, true) = true ∧ s.red.outs.contains (1, y.val) = false ∧ s.red.svc = none ∧ s.on (if s.get (RED_WS_CKPT__NEWEST w.val) = 0 then RED_WS_CKPT__GOOD_A w.val else RED_WS_CKPT__GOOD_B w.val) = true ∧ b = true ∧ s.ckptOk w.val (s.get (RED_WS_CKPT__NEWEST w.val)) = true) ∧
    (∃ (s : State) (w : Fin 4) (x : Fin 5) (y : Fin 5) (b : Bool), s.takeDue w.val = true ∧ s.get (slotPair 4) = x.val ∧ s.get (slotPair w.val) = y.val ∧ x ≠ y ∧ s.cpState x.val = 1 ∧ (∀ z : Fin 5, z ≠ x → s.cpState z.val ≠ 1) ∧ s.sys.pairsReset = false ∧ (s.cp x.val).haltReq = false ∧ s.cpState y.val < 7 ∧ s.red.outs.contains (1, y.val) = true ∧ s.red.takes.contains (w.val, true) = false ∧ s.red.svcCtx = none ∧ s.on (if s.get (RED_WS_CKPT__NEWEST w.val) = 0 then RED_WS_CKPT__GOOD_A w.val else RED_WS_CKPT__GOOD_B w.val) = true ∧ b = true ∧ s.ckptOk w.val (s.get (RED_WS_CKPT__NEWEST w.val)) = true) ∧
    (∃ (s : State) (w : Fin 4) (x : Fin 5) (y : Fin 5) (b : Bool) (o : Bool), s.takeDue w.val = true ∧ s.get (slotPair 4) = x.val ∧ s.get (slotPair w.val) = y.val ∧ x ≠ y ∧ s.cpState x.val = 1 ∧ (∀ z : Fin 5, z ≠ x → s.cpState z.val ≠ 1) ∧ s.sys.pairsReset = false ∧ (s.cp x.val).haltReq = false ∧ s.cpState y.val < 7 ∧ s.on RED_STATUS__DSAFE = false ∧ (s.on (if s.get (RED_WS_CKPT__NEWEST w.val) = 0 then RED_WS_CKPT__GOOD_A w.val else RED_WS_CKPT__GOOD_B w.val) = false ∨ b = false ∨ s.ckptOk w.val (s.get (RED_WS_CKPT__NEWEST w.val)) = false) ∧ (s.on (if s.get (RED_WS_CKPT__NEWEST w.val) = 0 then RED_WS_CKPT__GOOD_B w.val else RED_WS_CKPT__GOOD_A w.val) = false ∨ o = false ∨ s.ckptOk w.val (1 - s.get (RED_WS_CKPT__NEWEST w.val)) = false)) ∧
    (∃ (s : State) (w : Fin 4), (s.takeDue w.val = false ∨ s.get (slotPair 4) = 7 ∨ s.cpState (s.get (slotPair 4)) ≠ 1 ∨ s.sys.pairsReset = true)) ∧
    (∃ (s : State) (n : Fin 5) (w : Fin 4), s.pairRuns n.val = true ∧ s.slotOf n.val = some w.val ∧ (s.cp n.val).buf = [] ∧ (s.cp n.val).first = false ∧ (s.cp n.val).kgrp = false) ∧
    (∃ (s : State) (n : Fin 5) (w : Fin 4), s.pairRuns n.val = true ∧ s.slotOf n.val = some w.val ∧ (s.cp n.val).buf = [] ∧ (s.cp n.val).first = false ∧ (s.cp n.val).kgrp = false) ∧
    (∃ (s : State) (n : Fin 5), s.pairRuns n.val = true ∧ (s.cp n.val).kgrp = true ∧ (s.cp n.val).grp.length < 63 ∧ (s.cp n.val).buf.length + (s.cp n.val).grp.length < 64 ∧ (s.cp n.val).buf = [] ∧ (s.cp n.val).first = false) ∧
    (∃ (s : State) (n : Fin 5) (w : Fin 4), s.pairRuns n.val = true ∧ s.slotOf n.val = some w.val ∧ (s.cp n.val).buf = [] ∧ (s.cp n.val).first = false ∧ (s.cp n.val).kgrp = false ∧ s.get (slotPair 4) ≠ 7 ∧ s.red.takes = [] ∧ s.red.svcRot = false) ∧
    (∃ (s : State) (n : Fin 5) (w : Fin 4), s.pairRuns n.val = true ∧ s.slotOf n.val = some w.val ∧ (s.cp n.val).buf = [] ∧ (s.cp n.val).first = false ∧ (s.cp n.val).kgrp = false ∧ s.reserveFree = false) ∧
    (∃ (s : State) (n : Fin 5), s.pairRuns n.val = true ∧ (s.cp n.val).kgrp = true ∧ (s.cp n.val).grp.length < 63 ∧ (s.cp n.val).buf.length + (s.cp n.val).grp.length < 64 ∧ (s.cp n.val).buf = [] ∧ (s.cp n.val).first = false) ∧
    (∃ (s : State) (n : Fin 5), s.pairRuns n.val = false) ∧
    (∃ (s : State) (n : Fin 5), s.pairRuns n.val = true) ∧
    (∃ (s : State) (n : Fin 5), s.pairRuns n.val = true) ∧
    (∃ (s : State) (n : Fin 5) (w : Fin 4) (x : Fin 8), s.debugOn = true ∧ s.sys.pairsReset = false ∧ s.slotOf n.val = some w.val ∧ s.cpState n.val ≤ 1 ∧ s.takeDue w.val = false ∧ s.fl = [] ∧ s.get (RED_AXSLOT__SLOT x.val) = w.val ∧ s.axLive x.val = true) ∧
    (∃ (s : State) (n : Fin 5), s.debugOn = true ∧ s.sys.pairsReset = false ∧ (s.cpState n.val = 4 ∨ s.inTakeover n.val = true)) ∧
    (∃ (s : State) (n : Fin 5), s.debugOn = false ∨ s.sys.pairsReset = true ∨ (2 ≤ s.cpState n.val ∧ s.cpState n.val ≠ 4 ∧ s.inTakeover n.val = false)) ∧
    (∃ (s : State) (n : Fin 5), s.cpState n.val = 5 ∧ s.debugOn = true ∧ (s.cp n.val).prev < 8 ∧ (s.cp n.val).log.foldl (fun l x => DbgCmd.onRegs x l) (s.cp n.val).chk = (s.cp n.val).regs) ∧
    (∃ (s : State) (n : Fin 5) (e : Bool), s.cpState n.val = 5 ∧ s.debugOn = true ∧ s.fl = [] ∧ s.on RED_STATUS__DSAFE = false ∧ (e = false ∨ (s.cp n.val).log.foldl (fun l x => DbgCmd.onRegs x l) (s.cp n.val).chk ≠ (s.cp n.val).regs)) ∧
    (∃ (s : State) (n : Fin 5), s.cpState n.val ≠ 5 ∨ s.debugOn = false) ∧
    (∃ (s : State), s.on VLT_DBG_STAT__UNLOCKED = true) ∧
    (∃ (s : State), s.on VLT_DBG_STAT__UNLOCKED = false) ∧
    (∃ (s : State) (n : Fin 5) (r : Fin 32), s.cpState n.val = 5 ∧ s.debugOn = true ∧ (s.cp n.val).log.length < 256 ∧ r.val ≠ 0) ∧
    (∃ (s : State) (n : Fin 5), s.cpState n.val = 5 ∧ s.debugOn = true ∧ (s.cp n.val).log.length < 256) ∧
    (∃ (s : State) (n : Fin 5), s.cpState n.val = 5 ∧ s.debugOn = true ∧ (s.cp n.val).log.length < 256) ∧
    (∃ (s : State) (n : Fin 5) (k : BitVec 12) (v : Nat), s.cpState n.val = 5 ∧ s.debugOn = true ∧ (s.cp n.val).log.length < 256 ∧ s.csrVal n.val k.toNat = some v) ∧
    (∃ (s : State) (n : Fin 5) (k : BitVec 12) (v : Nat), s.cpState n.val = 5 ∧ s.debugOn = true ∧ (s.cp n.val).log.length < 256 ∧ s.userMay n.val k.toNat = true ∧ s.csrVal n.val k.toNat = some v) ∧
    (∃ (s : State) (n : Fin 5) (k : BitVec 12), s.cpState n.val = 5 ∧ s.debugOn = true ∧ (s.cp n.val).log.length < 256 ∧ s.userMay n.val k.toNat = false) ∧
    (∃ (s : State) (n : Fin 5), s.cpState n.val = 5 ∧ s.debugOn = true ∧ (s.cp n.val).log.length < 256) ∧
    (∃ (s : State) (n : Fin 5), s.cpState n.val = 5 ∧ s.debugOn = true ∧ (s.cp n.val).log.length < 256) ∧
    (∃ (s : State) (n : Fin 5), s.cpState n.val = 5 ∧ s.debugOn = true ∧ (s.cp n.val).log.length < 256) ∧
    (∃ (s : State) (n : Fin 5) (a : Fin 8) (v : Word), s.cpState n.val = 5 ∧ s.debugOn = true ∧ (s.cp n.val).log.length < 256 ∧ s.accessWaits false (AX_SETPOINT a.val) = false ∧ s.writeReason (.firmware n) false (AX_SETPOINT a.val) = 0 ∧ (match findRow (AX_SETPOINT a.val) with | some (r, i, j) => s.valueReason (.firmware n) r i j v == 0 | none => false) = true) ∧
    (∃ (s : State) (n : Fin 5), s.cpState n.val = 5 ∧ s.debugOn = true ∧ 256 ≤ (s.cp n.val).log.length) ∧
    (∃ (s : State) (n : Fin 5), s.cpState n.val ≠ 5 ∨ s.debugOn = false) :=
  ⟨⟨(pair2 0 { }), 2, by decide +kernel⟩,
   ⟨(pair2 4 { rs := 1, buf := [.reg 4 5] }), 2, 1, by decide +kernel⟩,
   ⟨(pair2 4 { rs := 1 } |>.put (RED_CP_COUNTS__DISPLACED 2) 3), 2, 1, by decide +kernel⟩,
   ⟨(pair2 4 { rs := 1 } |>.put (slotPair 4) 7), 2, 1, by decide +kernel⟩,
   ⟨pairHold 2 none State.reset, 2, by decide +kernel⟩,
   ⟨(runs 2 State.reset).upCp 2 fun _ => { buf := [.reg (AX_SETPOINT 3) 77] }, 2, 3, 77, by decide +kernel⟩,
   ⟨(fun s => let s := runs 2 s; { (s.upCp 2 fun _ => { first := true, heirOf := 2 }) with fl := [] }) State.reset, 2, by decide +kernel⟩,
   ⟨(pair2 0 { }), 2, by decide +kernel⟩,
   ⟨State.reset, 2, by decide +kernel⟩,
   ⟨(pair2 4 { rs := 1 }), 2, by decide +kernel⟩,
   ⟨(pair2 4 { rs := 1 }), 2, 1, by decide +kernel⟩,
   ⟨(pair2 4 { rs := 1 } |> fun s => (List.range 5).foldl (fun (s : State) n => s.put (RED_CP_STAT__STATE n) 4) s |>.put (slotPair 4) 7), 2, 1, by decide +kernel⟩,
   ⟨pairHold 2 none ((pair2 4 { rs := 1 })), 2, by decide +kernel⟩,
   ⟨State.reset, 2, by decide +kernel⟩,
   ⟨pair2 4 { rs := 2 } |>.putB (RED_WS_CKPT__GOOD_A 1) true |>.putB (RED_WS_CKPT__GOOD_B 1) true, 2, 1, true, by decide +kernel⟩,
   ⟨pair2 4 { rs := 2 } |>.putB (RED_WS_CKPT__GOOD_A 1) true |>.putB (RED_WS_CKPT__GOOD_B 1) true, 2, 1, false, true, by decide +kernel⟩,
   ⟨pair2 4 { rs := 2 } |>.putB (RED_WS_CKPT__GOOD_A 1) true |>.putB (RED_WS_CKPT__GOOD_B 1) true, 2, 1, false, false, by decide +kernel⟩,
   ⟨pairHold 2 none ((pair2 4 { rs := 2 })), 2, by decide +kernel⟩,
   ⟨pair2 4 { rs := 2, haltReq := true } |>.putB (RED_WS_CKPT__GOOD_A 1) true |>.putB (RED_WS_CKPT__GOOD_B 1) true, 2, 1, true, by decide +kernel⟩,
   ⟨State.reset, 2, by decide +kernel⟩,
   ⟨pair2 0 {} |>.upRed (fun r => { r with takes := [(1, false)] }) |> fun s => (List.range 5).foldl (fun (s : State) n => s.put (RED_CP_STAT__STATE n) (if n = 4 then 1 else if n = 2 then 4 else 0)) s |>.putB (RED_WS_CKPT__GOOD_A 1) true |>.putB (RED_WS_CKPT__GOOD_B 1) true, 1, 4, 2, true, by decide +kernel⟩,
   ⟨pair2 0 {} |>.upRed (fun r => { r with takes := [(1, false)] }) |> fun s => (List.range 5).foldl (fun (s : State) n => s.put (RED_CP_STAT__STATE n) (if n = 4 then 1 else if n = 2 then 4 else 0)) s |>.putB (RED_WS_CKPT__GOOD_A 1) true |>.putB (RED_WS_CKPT__GOOD_B 1) true, 1, 4, 2, false, true, by decide +kernel⟩,
   ⟨pair2 0 {} |>.upRed (fun r => { r with takes := [(1, true)], rotReq := some 1 }) |> fun s => (List.range 5).foldl (fun (s : State) n => s.put (RED_CP_STAT__STATE n) (if n = 4 then 1 else if n = 2 then 4 else 0)) s |>.putB (RED_WS_CKPT__GOOD_A 1) true |>.putB (RED_WS_CKPT__GOOD_B 1) true, 1, 4, 2, true, by decide +kernel⟩,
   ⟨pair2 0 {} |>.upRed (fun r => { r with takes := [(1, false)], outs := [(1, 2)] }) |> fun s => (List.range 5).foldl (fun (s : State) n => s.put (RED_CP_STAT__STATE n) (if n = 4 then 1 else if n = 2 then 4 else 0)) s |>.putB (RED_WS_CKPT__GOOD_A 1) true |>.putB (RED_WS_CKPT__GOOD_B 1) true, 1, 4, 2, true, by decide +kernel⟩,
   ⟨pair2 0 {} |>.upRed (fun r => { r with takes := [(1, false)] }) |> fun s => (List.range 5).foldl (fun (s : State) n => s.put (RED_CP_STAT__STATE n) (if n = 4 then 1 else if n = 2 then 4 else 0)) s |>.putB (RED_WS_CKPT__GOOD_A 1) true |>.putB (RED_WS_CKPT__GOOD_B 1) true, 1, 4, 2, false, false, by decide +kernel⟩,
   ⟨State.reset.put (slotPair 4) 7, 1, by decide +kernel⟩,
   ⟨(pair2 0 { }), 2, 1, by decide +kernel⟩,
   ⟨pair2 0 {}, 2, 1, by decide +kernel⟩,
   ⟨(pair2 0 { kgrp := true }), 2, by decide +kernel⟩,
   ⟨(pair2 0 { }), 2, 1, by decide +kernel⟩,
   ⟨(pair2 0 { } |>.put (slotPair 4) 7), 2, 1, by decide +kernel⟩,
   ⟨(pair2 0 { kgrp := true }), 2, by decide +kernel⟩,
   ⟨State.reset, 2, by decide +kernel⟩,
   ⟨(pair2 0 { }), 2, by decide +kernel⟩,
   ⟨(pair2 0 { kgrp := true, grp := [.reg 4 5] }), 2, by decide +kernel⟩,
   ⟨pair2 0 {} |>.putB RED_STATUS__DEBUG true |>.putB VLT_DBG_STAT__UNLOCKED true |>.put VLT_DBG_STAT__SCOPE 1 |>.put (RED_AXSLOT__SLOT 3) 1 |>.put (AX_STATE__STATE 3) 3 |>.putB (AX_STATE__CLOSING 3) false, 2, 1, 3, by decide +kernel⟩,
   ⟨pair2 4 {} |>.putB RED_STATUS__DEBUG true |>.putB VLT_DBG_STAT__UNLOCKED true |>.put VLT_DBG_STAT__SCOPE 1, 2, by decide +kernel⟩,
   ⟨State.reset.putB RED_STATUS__DEBUG false, 2, by decide +kernel⟩,
   ⟨pair2 5 { prev := 1, regs := List.replicate 31 0, chk := List.replicate 31 0 } |>.putB RED_STATUS__DEBUG true |>.putB VLT_DBG_STAT__UNLOCKED true |>.put VLT_DBG_STAT__SCOPE 1, 2, by decide +kernel⟩,
   ⟨pair2 5 { prev := 1, regs := List.replicate 31 0, chk := List.replicate 31 1 } |>.putB RED_STATUS__DEBUG true |>.putB VLT_DBG_STAT__UNLOCKED true |>.put VLT_DBG_STAT__SCOPE 1, 2, true, by decide +kernel⟩,
   ⟨State.reset, 2, by decide +kernel⟩,
   ⟨State.reset.putB VLT_DBG_STAT__UNLOCKED true, by decide +kernel⟩,
   ⟨State.reset.putB VLT_DBG_STAT__UNLOCKED false, by decide +kernel⟩,
   ⟨pair2 5 {  } |>.putB RED_STATUS__DEBUG true |>.putB VLT_DBG_STAT__UNLOCKED true |>.put VLT_DBG_STAT__SCOPE 1, 2, 7, by decide +kernel⟩,
   ⟨pair2 5 {  } |>.putB RED_STATUS__DEBUG true |>.putB VLT_DBG_STAT__UNLOCKED true |>.put VLT_DBG_STAT__SCOPE 1, 2, by decide +kernel⟩,
   ⟨pair2 5 {  } |>.putB RED_STATUS__DEBUG true |>.putB VLT_DBG_STAT__UNLOCKED true |>.put VLT_DBG_STAT__SCOPE 1, 2, by decide +kernel⟩,
   ⟨pair2 5 { csr := { inst := 9 } } |>.putB RED_STATUS__DEBUG true |>.putB VLT_DBG_STAT__UNLOCKED true |>.put VLT_DBG_STAT__SCOPE 1, 2, 0xB02, 9, by decide +kernel⟩,
   ⟨pair2 5 { csr := { inst := 9, cen := 4 } } |>.putB RED_STATUS__DEBUG true |>.putB VLT_DBG_STAT__UNLOCKED true |>.put VLT_DBG_STAT__SCOPE 1, 2, 0xC02, 9, by decide +kernel⟩,
   ⟨pair2 5 {  } |>.putB RED_STATUS__DEBUG true |>.putB VLT_DBG_STAT__UNLOCKED true |>.put VLT_DBG_STAT__SCOPE 1, 2, 0xC02, by decide +kernel⟩,
   ⟨pair2 5 {  } |>.putB RED_STATUS__DEBUG true |>.putB VLT_DBG_STAT__UNLOCKED true |>.put VLT_DBG_STAT__SCOPE 1, 2, by decide +kernel⟩,
   ⟨pair2 5 {  } |>.putB RED_STATUS__DEBUG true |>.putB VLT_DBG_STAT__UNLOCKED true |>.put VLT_DBG_STAT__SCOPE 1, 2, by decide +kernel⟩,
   ⟨pair2 5 {  } |>.putB RED_STATUS__DEBUG true |>.putB VLT_DBG_STAT__UNLOCKED true |>.put VLT_DBG_STAT__SCOPE 1, 2, by decide +kernel⟩,
   ⟨pair2 5 {  } |>.putB RED_STATUS__DEBUG true |>.putB VLT_DBG_STAT__UNLOCKED true |>.put VLT_DBG_STAT__SCOPE 1, 2, 3, 77, by decide +kernel⟩,
   ⟨pair2 5 { log := List.replicate 256 (.readReg 1, 0) } |>.putB RED_STATUS__DEBUG true |>.putB VLT_DBG_STAT__UNLOCKED true |>.put VLT_DBG_STAT__SCOPE 1, 2, by decide +kernel⟩,
   ⟨State.reset, 2, by decide +kernel⟩⟩

/-- States and operands that meet the conditions of UnitsAndSelfTests. -/
theorem witness_UnitsAndSelfTests :
    (∃ (s : State) (e : Fin 2) (l : Fin 9), s.get (RED_CE_STAT__STATE e.val) = 0 ∧ nbit (s.get (RED_CE_STAT__LANE_OK e.val)) l.val = true ∧ s.fl = [] ∧ s.red.svc = none ∧ l.val ≠ 8 ∧ s.spareFree e.val = true ∧ 7 ≤ s.lanesOk e.val) ∧
    (∃ (s : State) (e : Fin 2) (l : Fin 9), s.get (RED_CE_STAT__STATE e.val) = 0 ∧ nbit (s.get (RED_CE_STAT__LANE_OK e.val)) l.val = true ∧ s.fl = [] ∧ s.red.svc = none ∧ l.val ≠ 8 ∧ s.spareFree e.val = false ∧ 7 ≤ s.lanesOk e.val) ∧
    (∃ (s : State) (e : Fin 2) (l : Fin 9), s.get (RED_CE_STAT__STATE e.val) = 0 ∧ nbit (s.get (RED_CE_STAT__LANE_OK e.val)) l.val = true ∧ s.fl = [] ∧ s.red.svc = none ∧ l.val = 8 ∧ 7 ≤ s.lanesOk e.val) ∧
    (∃ (s : State) (e : Fin 2) (l : Fin 9), s.get (RED_CE_STAT__STATE e.val) = 0 ∧ nbit (s.get (RED_CE_STAT__LANE_OK e.val)) l.val = true ∧ s.fl = [] ∧ s.red.svc = none ∧ s.lanesOk e.val ≤ 6 ∧ s.get (RED_CE_STAT__STATE (1 - e.val)) = 0) ∧
    (∃ (s : State) (e : Fin 2) (l : Fin 9), (s.get (RED_CE_STAT__STATE e.val) ≠ 0 ∨ nbit (s.get (RED_CE_STAT__LANE_OK e.val)) l.val = false)) ∧
    (∃ (s : State) (e : Fin 2), s.get (RED_CE_STAT__STATE e.val) = 0 ∧ s.get (RED_CE_STAT__STATE (1 - e.val)) = 0 ∧ s.fl = [] ∧ s.red.svc = none) ∧
    (∃ (s : State) (e : Fin 2) (x : Fin 8), s.get (RED_CE_STAT__STATE e.val) = 0 ∧ s.get (RED_CE_STAT__STATE (1 - e.val)) ≠ 0 ∧ s.fl = [] ∧ s.red.svc = none ∧ s.axLive x.val = true) ∧
    (∃ (s : State) (e : Fin 2) (x : Fin 8), s.get (RED_CE_STAT__STATE e.val) = 0 ∧ s.fl = [] ∧ s.red.svc = none ∧ s.axLive x.val = false) ∧
    (∃ (s : State) (e : Fin 2), s.get (RED_CE_STAT__STATE e.val) ≠ 0) ∧
    (∃ (k : Fin 10), k ≠ 1) ∧
    (∃ (s : State) (n : Fin 5), s.cpState n.val = 1 ∧ s.on (RED_CP_STAT__HAS_SLOT n.val) = false ∧ s.red.takes = [] ∧ s.get BIST_CFG__PERIOD ≠ 0 ∧ nbit (s.get BIST_CFG__KIND_EN) 0 = true ∧ s.red.unus = [] ∧ s.get (RED_CP_STAT__I_WAYS n.val) ≠ 0 ∧ s.get (RED_CP_STAT__D_WAYS n.val) ≠ 0) ∧
    (∃ (s : State) (n : Fin 5), s.cpState n.val = 2 ∧ s.on (RED_CP_STAT__HAS_SLOT n.val) = false ∧ s.red.takes = [] ∧ s.red.unus = [] ∧ s.get (RED_CP_STAT__I_WAYS n.val) ≠ 0 ∧ s.get (RED_CP_STAT__D_WAYS n.val) ≠ 0 ∧ s.get (slotPair 4) = 7) ∧
    (∃ (s : State) (n : Fin 5) (v : Fin 4), ((s.get BIST_CFG__PERIOD ≠ 0 ∧ nbit (s.get BIST_CFG__KIND_EN) 0 = true) ∨ s.cpState n.val = 2) ∧ (s.cpState n.val = 1 ∨ s.cpState n.val = 2) ∧ s.on (RED_CP_STAT__HAS_SLOT n.val) = false ∧ s.red.takes = [] ∧ s.red.unus = [] ∧ s.fl = [] ∧ s.get (RED_CP_STAT__I_WAYS n.val) ≠ 2 ^ v.val ∧ s.get (RED_CP_STAT__I_WAYS n.val) ≠ 0 ∧ s.get (RED_CP_STAT__D_WAYS n.val) ≠ 0) ∧
    (∃ (s : State) (n : Fin 5), ((s.get BIST_CFG__PERIOD ≠ 0 ∧ nbit (s.get BIST_CFG__KIND_EN) 0 = true) ∨ s.cpState n.val = 2) ∧ (s.cpState n.val = 1 ∨ s.cpState n.val = 2) ∧ s.on (RED_CP_STAT__HAS_SLOT n.val) = false ∧ s.red.takes = [] ∧ s.fl = [] ∧ s.red.svc = none) ∧
    (∃ (s : State) (n : Fin 5), ((s.get BIST_CFG__PERIOD ≠ 0 ∧ nbit (s.get BIST_CFG__KIND_EN) 0 = true) ∨ s.cpState n.val = 2) ∧ (s.cpState n.val = 1 ∨ s.cpState n.val = 2) ∧ s.on (RED_CP_STAT__HAS_SLOT n.val) = false ∧ s.red.takes = [] ∧ s.red.unus = [] ∧ (s.get (RED_CP_STAT__I_WAYS n.val) = 0 ∨ s.get (RED_CP_STAT__D_WAYS n.val) = 0)) ∧
    (∃ (s : State) (k : Fin 10) (u : BitVec 16), s.get BIST_CFG__PERIOD ≠ 0 ∧ nbit (s.get BIST_CFG__KIND_EN) (k.val - 1) = true ∧ 4 ≤ k.val ∧ k.val ≤ 6 ∧ s.covered k.val u.toNat = true ∧ s.fl = []) ∧
    (∃ (s : State) (e : Fin 2), s.get BIST_CFG__PERIOD ≠ 0 ∧ nbit (s.get BIST_CFG__KIND_EN) (2 - 1) = true ∧ s.get (RED_CE_STAT__STATE e.val) = 0 ∧ s.get (RED_CE_STAT__STATE (1 - e.val)) = 0 ∧ s.fl = [] ∧ s.red.svc = none) ∧
    (∃ (s : State) (e : Fin 2) (l : Fin 8), s.get BIST_CFG__PERIOD ≠ 0 ∧ nbit (s.get BIST_CFG__KIND_EN) (3 - 1) = true ∧ s.spareFree e.val = true ∧ nbit (s.get (RED_CE_STAT__LANE_OK e.val)) l.val = true ∧ 7 ≤ s.lanesOk e.val ∧ s.fl = [] ∧ s.red.svc = none) ∧
    (∃ (s : State) (p : Fin 36), s.get BIST_CFG__PERIOD ≠ 0 ∧ nbit (s.get BIST_CFG__KIND_EN) (7 - 1) = true ∧ s.covered 7 p.val = true ∧ s.fl = [] ∧ s.red.svc = none) ∧
    (∃ (s : State) (x : Fin 2), s.get BIST_CFG__PERIOD ≠ 0 ∧ nbit (s.get BIST_CFG__KIND_EN) (8 - 1) = true ∧ s.covered 8 x.val = true ∧ s.fl = [] ∧ s.red.svc = none) ∧
    (∃ (s : State), s.get BIST_CFG__PERIOD ≠ 0 ∧ nbit (s.get BIST_CFG__KIND_EN) (9 - 1) = true ∧ s.covered 9 0 = true ∧ s.fl = [] ∧ s.red.svc = none) ∧
    (∃ (s : State) (k : Fin 10) (u : BitVec 16), s.get BIST_CFG__PERIOD ≠ 0 ∧ nbit (s.get BIST_CFG__KIND_EN) (k.val - 1) = true ∧ k ≠ 1 ∧ s.covered k.val u.toNat = true) ∧
    (∃ (s : State) (k : Fin 10) (u : BitVec 16), (s.covered k.val u.toNat = false ∨ ((s.get BIST_CFG__PERIOD = 0 ∨ nbit (s.get BIST_CFG__KIND_EN) (k.val - 1) = false) ∧ (k ≠ 1 ∨ s.cpState u.toNat ≠ 2)))) ∧
    (∃ (s : State) (k : Fin 10) (u : BitVec 16), k ≠ 0 ∧ bistUnit k.val u.toNat = true ∧ s.sys.released = true ∧ (s.sliceDue k.val u.toNat = true ∨ s.svcUnit 3 = some (k.val, u.toNat) ∨ (s.svcUnit 2 = some (k.val, u.toNat) ∧ s.get RED_SVC_STAT__STEPS = 0))) ∧
    (∃ (s : State), s.sys.released = false ∨ (s.red.svc = none ∧ (s.get BIST_CFG__PERIOD = 0 ∨ s.get BIST_CFG__KIND_EN = 0) ∧ ∀ n : Fin 5, s.cpState n.val ≠ 2)) ∧
    (∃ (s : State) (w : Fin 4) (n : Fin 5) (d : Fin 4), s.get BIST_CFG__PERIOD ≠ 0 ∧ nbit (s.get BIST_CFG__KIND_EN) 0 = true ∧ s.red.rotReq = none ∧ s.get (slotPair 4) ≠ 7 ∧ s.red.takes = [] ∧ s.sys.released = true ∧ (∀ j : Fin 4, j < d → s.get (slotPair ((s.red.rot + j.val) % 4)) = 7) ∧ w.val = (s.red.rot + d.val) % 4 ∧ s.get (slotPair w.val) = n.val) ∧
    (∃ (s : State), (s.get BIST_CFG__PERIOD = 0 ∨ nbit (s.get BIST_CFG__KIND_EN) 0 = false ∨ s.red.rotReq ≠ none ∨ s.get (slotPair 4) = 7 ∨ s.red.takes ≠ [] ∨ s.sys.released = false ∨ (∀ w : Fin 4, s.get (slotPair w.val) = 7))) ∧
    (∃ (s : State) (w : Fin 4) (n : Fin 5), s.red.rotReq = some w.val ∧ s.takeDue w.val = false ∧ s.red.svcRot = false ∧ s.get (slotPair w.val) = n.val) ∧
    (∃ (s : State) (w : Fin 4) (n : Fin 5), s.red.rotReq = some w.val ∧ s.takeDue w.val = false ∧ s.red.svcRot = true ∧ s.red.svc = some (5, 0, w.val) ∧ s.red.svcCtx = none ∧ s.get (slotPair w.val) = n.val) ∧
    (∃ (s : State), (∀ w : Nat, s.red.rotReq = some w → s.takeDue w = true)) ∧
    (∃ (s : State) (k : Fin 3) (r : BitVec 14) (c : Fin 3) (rd : Option (Fin 5)) (i : Nat), r.toNat < [8192, 512, 144].getD k.val 0 ∧ (c = 1 → max 1 (s.get RED_LIMITS__CE_LIMIT) = 1) ∧ (c = 2 → rd = none) ∧ s.vq = [] ∧ s.fl = [] ∧ i < (spareWords k.val).2 ∧ (∀ j ∈ List.range i, s.vaultRd ((spareWords k.val).1 + j) ≠ 0) ∧ s.vaultRd ((spareWords k.val).1 + i) = 0) ∧
    (∃ (s : State) (r : BitVec 14), r.toNat < 8192 ∧ s.vaultRd 64 = 0 ∧ s.vq = [] ∧ s.fl = []) ∧
    (∃ (s : State) (k : Fin 3) (r : BitVec 14), r.toNat < [8192, 512, 144].getD k.val 0 ∧ s.red.ces = [] ∧ 1 < s.get RED_LIMITS__CE_LIMIT) ∧
    (∃ (s : State) (r : BitVec 14) (n : Fin 5), r.toNat < 8192 ∧ s.mayMismatch n.val = true ∧ s.vaultRd 64 = 0 ∧ s.vq = [] ∧ s.fl = [] ∧ s.on RED_STATUS__DSAFE = false ∧ s.mismatchClass n.val = 2) ∧
    (∃ (s : State) (k : Fin 3) (r : BitVec 14) (c : Fin 3) (rd : Option (Fin 5)), r.toNat < [8192, 512, 144].getD k.val 0 ∧ (c = 1 → max 1 (s.get RED_LIMITS__CE_LIMIT) = 1) ∧ (c = 2 → rd = none) ∧ s.vq = [] ∧ s.fl = [] ∧ (∀ j ∈ List.range (spareWords k.val).2, s.vaultRd ((spareWords k.val).1 + j) ≠ 0)) ∧
    (∃ (k : Fin 3) (r : BitVec 14), [8192, 512, 144].getD k.val 0 ≤ r.toNat) ∧
    (∃ (s : State) (x : Fin 8), s.on RED_STATUS__DSAFE = false ∧ 1 ≤ s.axState x.val ∧ s.axState x.val ≤ 4) ∧
    (∃ (s : State) (x : Fin 8), s.on RED_STATUS__DSAFE = false ∧ 1 ≤ s.axState x.val ∧ s.axState x.val ≤ 4) ∧
    (∃ (s : State) (x : Fin 8), (s.axState x.val = 0 ∨ s.axState x.val = 6 ∨ s.on RED_STATUS__DSAFE = true)) ∧
    (∃ (s : State) (x : Fin 8), (s.axState x.val = 0 ∨ s.axState x.val = 6 ∨ s.on RED_STATUS__DSAFE = true)) ∧
    (∃ (s : State) (x : Fin 8), s.on RED_STATUS__DSAFE = false ∧ s.axState x.val = 5) ∧
    (∃ (s : State) (c : Fin 256), s.on RED_STATUS__DSAFE = false ∧ s.on (HP_CTX_CTRL__EN c.val) = true ∧ s.ctxPhase c.val ≠ 7 ∧ (s.ctx c.val).stop = 0 ∧ (∀ x : Fin 8, s.axState x.val = 0)) ∧
    (∃ (s : State) (n : Fin 16), s.on RED_STATUS__DSAFE = false ∧ s.get (DMA_CH_STATE__STATE n.val) = 1) :=
  ⟨⟨{ (((State.reset.put (RED_CE_STAT__STATE 0) 0).put (RED_CE_STAT__STATE 1) 0).put (RED_CE_STAT__LANE_OK 1) 0x1FF).put (RED_CE_STAT__SPARE_FOR 1) 15 with fl := [], red := { svc := none } }, 1, 5, by decide +kernel⟩,
   ⟨{ (((State.reset.put (RED_CE_STAT__STATE 0) 0).put (RED_CE_STAT__STATE 1) 0).put (RED_CE_STAT__LANE_OK 1) 0xFF).put (RED_CE_STAT__SPARE_FOR 1) 15 with fl := [], red := { svc := none } }, 1, 5, by decide +kernel⟩,
   ⟨{ (((State.reset.put (RED_CE_STAT__STATE 0) 0).put (RED_CE_STAT__STATE 1) 0).put (RED_CE_STAT__LANE_OK 1) 0x1FF).put (RED_CE_STAT__SPARE_FOR 1) 15 with fl := [], red := { svc := none } }, 1, 8, by decide +kernel⟩,
   ⟨{ (((State.reset.put (RED_CE_STAT__STATE 0) 0).put (RED_CE_STAT__STATE 1) 0).put (RED_CE_STAT__LANE_OK 1) 0x3F).put (RED_CE_STAT__SPARE_FOR 1) 15 with fl := [], red := { svc := none } }, 1, 5, by decide +kernel⟩,
   ⟨State.reset.put (RED_CE_STAT__STATE 1) 1, 1, 5, by decide +kernel⟩,
   ⟨{ (((State.reset.put (RED_CE_STAT__STATE 0) 0).put (RED_CE_STAT__STATE 1) 0).put (RED_CE_STAT__LANE_OK 1) 0x1FF).put (RED_CE_STAT__SPARE_FOR 1) 15 with fl := [], red := { svc := none } }, 1, by decide +kernel⟩,
   ⟨(fun s => { (((((((List.range 8).foldl (fun (s : State) a => s.put (AX_BIND_LEG__LEG_MASK a) 0) s).put (AX_BIND_LEG__LEG_MASK 3) 0x1C0).put (AX_STATE__STATE 3) 3).putB (AX_STATE__CLOSING 3) false).putB SAF_STATUS__ARMED true).put (RED_CE_STAT__STATE 0) 1).put (RED_CE_STAT__STATE 1) 0 with fl := [], red := { svc := none } }) State.reset, 1, 3, by decide +kernel⟩,
   ⟨{ (((State.reset.put (RED_CE_STAT__STATE 0) 0).put (RED_CE_STAT__STATE 1) 0).put (RED_CE_STAT__LANE_OK 1) 0x1FF).put (RED_CE_STAT__SPARE_FOR 1) 15 with fl := [], red := { svc := none } } |>.put (AX_STATE__STATE 3) 1, 1, 3, by decide +kernel⟩,
   ⟨State.reset.put (RED_CE_STAT__STATE 1) 1, 1, by decide +kernel⟩,
   ⟨4, by decide +kernel⟩,
   ⟨{ (((((pairHold 2 none State.reset).put (RED_CP_STAT__STATE 2) 1).put (RED_CP_STAT__I_WAYS 2) 3).put (RED_CP_STAT__D_WAYS 2) 3).put (slotPair 4) 7).put BIST_CFG__PERIOD 4 |>.put BIST_CFG__KIND_EN 0x1FF with fl := [], red := {} }, 2, by decide +kernel⟩,
   ⟨{ (((((pairHold 2 none State.reset).put (RED_CP_STAT__STATE 2) 2).put (RED_CP_STAT__I_WAYS 2) 3).put (RED_CP_STAT__D_WAYS 2) 3).put (slotPair 4) 7).put BIST_CFG__PERIOD 4 |>.put BIST_CFG__KIND_EN 0x1FF with fl := [], red := {} }, 2, by decide +kernel⟩,
   ⟨{ (((((pairHold 2 none State.reset).put (RED_CP_STAT__STATE 2) 1).put (RED_CP_STAT__I_WAYS 2) 3).put (RED_CP_STAT__D_WAYS 2) 3).put (slotPair 4) 7).put BIST_CFG__PERIOD 4 |>.put BIST_CFG__KIND_EN 0x1FF with fl := [], red := {} }, 2, 1, by decide +kernel⟩,
   ⟨{ (((((pairHold 2 none State.reset).put (RED_CP_STAT__STATE 2) 1).put (RED_CP_STAT__I_WAYS 2) 3).put (RED_CP_STAT__D_WAYS 2) 3).put (slotPair 4) 7).put BIST_CFG__PERIOD 4 |>.put BIST_CFG__KIND_EN 0x1FF with fl := [], red := {} }, 2, by decide +kernel⟩,
   ⟨{ (((((pairHold 2 none State.reset).put (RED_CP_STAT__STATE 2) 1).put (RED_CP_STAT__I_WAYS 2) 3).put (RED_CP_STAT__D_WAYS 2) 3).put (slotPair 4) 7).put BIST_CFG__PERIOD 4 |>.put BIST_CFG__KIND_EN 0x1FF |>.put (RED_CP_STAT__D_WAYS 2) 0 with fl := [], red := {} }, 2, by decide +kernel⟩,
   ⟨{ (State.reset.put BIST_CFG__PERIOD 4).put BIST_CFG__KIND_EN 0x1FF with fl := [], red := {} }, 4, 77, by decide +kernel⟩,
   ⟨{ (State.reset.put BIST_CFG__PERIOD 4).put BIST_CFG__KIND_EN 0x1FF |>.put (RED_CE_STAT__STATE 0) 0 |>.put (RED_CE_STAT__STATE 1) 0 with fl := [], red := {} }, 1, by decide +kernel⟩,
   ⟨{ (State.reset.put BIST_CFG__PERIOD 4).put BIST_CFG__KIND_EN 0x1FF |>.put (RED_CE_STAT__LANE_OK 1) 0x1FF |>.put (RED_CE_STAT__SPARE_FOR 1) 15 with fl := [], red := {} }, 1, 5, by decide +kernel⟩,
   ⟨{ (State.reset.put BIST_CFG__PERIOD 4).put BIST_CFG__KIND_EN 0x1FF |>.put (fpStat 34) 1 with fl := [], red := {} }, 34, by decide +kernel⟩,
   ⟨{ (State.reset.put BIST_CFG__PERIOD 4).put BIST_CFG__KIND_EN 0x1FF |>.put (pxState 0) 0 |>.put (pxState 1) 0 with fl := [], red := {} }, 1, by decide +kernel⟩,
   ⟨{ (State.reset.put BIST_CFG__PERIOD 4).put BIST_CFG__KIND_EN 0x1FF |> fun s => (List.range 16).foldl (fun (s : State) n => s.put (DMA_CH_STATE__STATE n) 0) (s.putB RED_STATUS__DMA_OUT false) with fl := [], red := {} }, by decide +kernel⟩,
   ⟨{ (State.reset.put BIST_CFG__PERIOD 4).put BIST_CFG__KIND_EN 0x1FF with fl := [], red := {} }, 4, 77, by decide +kernel⟩,
   ⟨State.reset.put BIST_CFG__PERIOD 0, 4, 9000, by decide +kernel⟩,
   ⟨((awake State.reset).put BIST_CFG__PERIOD 4).put BIST_CFG__KIND_EN 0x1FF, 4, 77, by decide +kernel⟩,
   ⟨(awake State.reset).put BIST_CFG__PERIOD 0, by decide +kernel⟩,
   ⟨(pair2 0 { } |>.put BIST_CFG__PERIOD 4 |>.put BIST_CFG__KIND_EN 1 |>.upRed fun r => { r with rot := 1 }), 1, 2, 0, by decide +kernel⟩,
   ⟨State.reset.put BIST_CFG__PERIOD 0, by decide +kernel⟩,
   ⟨(pair2 0 { } |>.upRed fun r => { r with rotReq := some 1 }), 1, 2, by decide +kernel⟩,
   ⟨(pair2 0 { } |>.upRed fun r => { r with rotReq := some 1, svcRot := true, svc := some (5, 0, 1) }), 1, 2, by decide +kernel⟩,
   ⟨{ State.reset with red := {} }, by decide +kernel⟩,
   ⟨{ State.reset with vq := [], fl := [], vault := [(64, VWord.of 0x1005)] }, 0, 77, 0, none, 1, by decide +kernel⟩,
   ⟨{ State.reset with vq := [], fl := [], vault := [] }, 77, by decide +kernel⟩,
   ⟨{ State.reset.put RED_LIMITS__CE_LIMIT 4 with red := {} }, 0, 77, by decide +kernel⟩,
   ⟨{ pair2 0 {} with vq := [], vault := [] }, 77, 2, by decide +kernel⟩,
   ⟨{ State.reset with vq := [], fl := [], vault := (List.range 8).map fun j => (144 + j, VWord.of 5) }, 2, 77, 0, none, by decide +kernel⟩,
   ⟨2, 200, by decide +kernel⟩,
   ⟨(fun s => { ((((((List.range 8).foldl (fun (s : State) a => s.put (AX_BIND_LEG__LEG_MASK a) 0) s).put (AX_BIND_LEG__LEG_MASK 3) 0x1C0).put (AX_STATE__STATE 3) 3).putB (AX_STATE__CLOSING 3) false).putB SAF_STATUS__ARMED true).putB RED_STATUS__DSAFE false with fl := [] }) State.reset, 3, by decide +kernel⟩,
   ⟨(fun s => { ((((((List.range 8).foldl (fun (s : State) a => s.put (AX_BIND_LEG__LEG_MASK a) 0) s).put (AX_BIND_LEG__LEG_MASK 3) 0x1C0).put (AX_STATE__STATE 3) 3).putB (AX_STATE__CLOSING 3) false).putB SAF_STATUS__ARMED true).putB RED_STATUS__DSAFE false with fl := [] }) State.reset, 3, by decide +kernel⟩,
   ⟨(fun s => { ((((((List.range 8).foldl (fun (s : State) a => s.put (AX_BIND_LEG__LEG_MASK a) 0) s).put (AX_BIND_LEG__LEG_MASK 3) 0x1C0).put (AX_STATE__STATE 3) 0).putB (AX_STATE__CLOSING 3) false).putB SAF_STATUS__ARMED true).putB RED_STATUS__DSAFE false with fl := [] }) State.reset, 3, by decide +kernel⟩,
   ⟨(fun s => { ((((((List.range 8).foldl (fun (s : State) a => s.put (AX_BIND_LEG__LEG_MASK a) 0) s).put (AX_BIND_LEG__LEG_MASK 3) 0x1C0).put (AX_STATE__STATE 3) 0).putB (AX_STATE__CLOSING 3) false).putB SAF_STATUS__ARMED true).putB RED_STATUS__DSAFE false with fl := [] }) State.reset, 3, by decide +kernel⟩,
   ⟨(fun s => { ((((((List.range 8).foldl (fun (s : State) a => s.put (AX_BIND_LEG__LEG_MASK a) 0) s).put (AX_BIND_LEG__LEG_MASK 3) 0x1C0).put (AX_STATE__STATE 3) 5).putB (AX_STATE__CLOSING 3) false).putB SAF_STATUS__ARMED true).putB RED_STATUS__DSAFE false with fl := [] }) State.reset, 3, by decide +kernel⟩,
   ⟨(List.range 8).foldl (fun (s : State) a => s.put (AX_STATE__STATE a) 0) (State.reset.putB RED_STATUS__DSAFE false |>.putB (HP_CTX_CTRL__EN 9) true |>.put (HP_CTX_STATE__PHASE 9) 2), 9, by decide +kernel⟩,
   ⟨State.reset.putB RED_STATUS__DSAFE false |>.put (DMA_CH_STATE__STATE 9) 1, 9, by decide +kernel⟩⟩

/-- States and operands that meet the conditions of ServiceActions. -/
theorem witness_ServiceActions :
    (∃ (s : State) (k : Fin 512) (u : Fin 512), s.red.svc = some (1, k.val, u.val) ∧ s.red.svcCtx = none ∧ s.get RED_SVC_STAT__STEPS = 0 ∧ s.isOut k.val u.val = false ∧ s.red.unus.contains (k.val, u.val) = false ∧ s.standsIn k.val u.val = true ∧ (k.val ≠ 1 ∨ s.slotOf u.val = none)) ∧
    (∃ (s : State) (e : Fin 2), s.red.svc = some (1, 2, e.val) ∧ s.red.svcCtx = none ∧ s.get RED_SVC_STAT__STEPS = 0 ∧ s.red.outs.contains (2, e.val) = false ∧ s.red.unus.contains (2, e.val) = false ∧ s.get (RED_CE_STAT__STATE (1 - e.val)) = 0) ∧
    (∃ (s : State) (x : Fin 2), s.red.svc = some (1, 8, x.val) ∧ s.red.svcCtx = none ∧ s.get RED_SVC_STAT__STEPS = 0 ∧ s.red.outs.contains (8, x.val) = false ∧ s.red.unus.contains (8, x.val) = false ∧ s.get (pxState (1 - x.val)) ≠ 3) ∧
    (∃ (s : State) (p : Fin 36), s.red.svc = some (1, 7, p.val) ∧ s.red.svcCtx = none ∧ s.get RED_SVC_STAT__STEPS = 0 ∧ s.red.outs.contains (7, p.val) = false ∧ s.red.unus.contains (7, p.val) = false ∧ s.standsIn 7 p.val = true) ∧
    (∃ (s : State) (n : Fin 5) (w : Fin 4), s.red.svc = some (1, 1, n.val) ∧ s.red.svcCtx = none ∧ s.get RED_SVC_STAT__STEPS = 0 ∧ s.red.outs.contains (1, n.val) = false ∧ s.red.unus.contains (1, n.val) = false ∧ s.slotOf n.val = some w.val ∧ s.standsIn 1 n.val = true) ∧
    (∃ (s : State) (k : Fin 512) (u : Fin 512), s.red.svc = some (1, k.val, u.val) ∧ s.red.svcCtx = none ∧ s.get RED_SVC_STAT__STEPS = 0 ∧ s.isOut k.val u.val = false ∧ s.red.unus.contains (k.val, u.val) = false ∧ s.standsIn k.val u.val = false) ∧
    (∃ (s : State) (k : Fin 512) (u : Fin 512), s.red.svc = some (1, k.val, u.val) ∧ s.red.svcCtx = none ∧ s.get RED_SVC_STAT__STEPS = 0 ∧ (s.isOut k.val u.val = true ∨ s.red.unus.contains (k.val, u.val) = true)) ∧
    (∃ (s : State), (s.svcUnit 1 = none ∨ s.get RED_SVC_STAT__STEPS ≠ 0)) ∧
    (∃ (s : State) (k : Fin 512) (u : Fin 512), s.red.svc = some (2, k.val, u.val) ∧ s.red.svcCtx = none ∧ s.isOut k.val u.val = true ∧ (s.red.unus.contains (k.val, u.val) = false ∨ k.val = 9) ∧ s.get RED_SVC_STAT__STEPS = 0 ∧ (k.val ≠ 2 ∨ 6 ≤ s.lanesOk u.val)) ∧
    (∃ (s : State) (k : Fin 512) (u : Fin 512), s.red.svc = some (2, k.val, u.val) ∧ s.red.svcCtx = none ∧ s.get RED_SVC_STAT__STEPS = 1) ∧
    (∃ (s : State) (k : Fin 512) (u : Fin 512), s.red.svc = some (2, k.val, u.val) ∧ s.red.svcCtx = none ∧ s.isOut k.val u.val = true ∧ (s.red.unus.contains (k.val, u.val) = false ∨ k.val = 9) ∧ s.get RED_SVC_STAT__STEPS = 0 ∧ s.fl = []) ∧
    (∃ (s : State) (e : Fin 2), s.red.svc = some (2, 2, e.val) ∧ s.red.svcCtx = none ∧ s.red.outs = [(2, e.val)] ∧ s.red.unus.contains (2, e.val) = false ∧ s.get RED_SVC_STAT__STEPS = 0 ∧ s.lanesOk e.val < 6 ∧ s.fl = []) ∧
    (∃ (s : State) (k : Fin 512) (u : Fin 512), s.red.svc = some (2, k.val, u.val) ∧ s.red.svcCtx = none ∧ s.isOut k.val u.val = true ∧ (s.red.unus.contains (k.val, u.val) = false ∨ k.val = 9) ∧ 2 ≤ s.get RED_SVC_STAT__STEPS) ∧
    (∃ (s : State) (e : Fin 2), s.red.svc = some (2, 2, e.val) ∧ s.red.svcCtx = none ∧ s.red.outs = [(2, e.val)] ∧ s.red.unus.contains (2, e.val) = false ∧ 2 ≤ s.get RED_SVC_STAT__STEPS) ∧
    (∃ (s : State) (n : Fin 5), s.red.svc = some (2, 1, n.val) ∧ s.red.svcCtx = none ∧ s.red.outs.contains (1, n.val) = true ∧ s.red.unus.contains (1, n.val) = false ∧ 2 ≤ s.get RED_SVC_STAT__STEPS ∧ s.get (slotPair 4) = 7 ∧ (∀ z : Fin 5, s.cpState z.val ≠ 1)) ∧
    (∃ (s : State), s.red.svc = some (2, 9, 0) ∧ s.red.svcCtx = none ∧ s.on RED_STATUS__DMA_OUT = true ∧ 2 ≤ s.get RED_SVC_STAT__STEPS) ∧
    (∃ (s : State) (k : Fin 512) (u : Fin 512), s.red.svc = some (2, k.val, u.val) ∧ s.red.svcCtx = none ∧ s.isOut k.val u.val = true ∧ (s.red.unus.contains (k.val, u.val) = false ∨ k.val = 9) ∧ s.get RED_SVC_STAT__STEPS = 1 ∧ s.fl = []) ∧
    (∃ (s : State) (k : Fin 512) (u : Fin 512), s.red.svc = some (2, k.val, u.val) ∧ s.red.svcCtx = none ∧ s.get RED_SVC_STAT__STEPS = 0 ∧ (s.isOut k.val u.val = false ∨ (s.red.unus.contains (k.val, u.val) = true ∧ k.val ≠ 9))) ∧
    (∃ (s : State), s.svcUnit 2 = none) ∧
    (∃ (s : State) (k : Fin 8192) (u : Fin 8192), s.red.svc = some (3, k.val, u.val) ∧ s.red.svcCtx = none ∧ k.val ≠ 1 ∧ s.covered k.val u.val = true) ∧
    (∃ (s : State) (k : Fin 8192) (u : Fin 8192), s.red.svc = some (3, k.val, u.val) ∧ s.red.svcCtx = none ∧ 4 ≤ k.val ∧ k.val ≤ 6 ∧ s.covered k.val u.val = true ∧ s.fl = []) ∧
    (∃ (s : State) (n : Fin 5), s.red.svc = some (3, 1, n.val) ∧ s.red.svcCtx = none ∧ s.covered 1 n.val = true ∧ s.cpState n.val = 1 ∧ s.red.unus = [] ∧ s.get (RED_CP_STAT__I_WAYS n.val) ≠ 0 ∧ s.get (RED_CP_STAT__D_WAYS n.val) ≠ 0) ∧
    (∃ (s : State) (k : Fin 8192) (u : Fin 8192), s.red.svc = some (3, k.val, u.val) ∧ s.red.svcCtx = none ∧ s.covered k.val u.val = false) ∧
    (∃ (s : State), s.svcUnit 3 = none) ∧
    (∃ (s : State) (k : Fin 512) (r : Fin 4), s.red.svc = some (4, k.val, r.val) ∧ s.red.svcCtx = none ∧ ((∃ x : Fin 8, s.axLive x.val = true) ∨ (∃ m : Fin 24, s.legSwitching m.val = true))) ∧
    (∃ (s : State) (k : Fin 512) (r : Fin 4) (i : Fin 88), s.red.svc = some (4, k.val, r.val) ∧ s.red.svcCtx = none ∧ (∀ x : Fin 8, s.axLive x.val = false) ∧ (∀ m : Fin 24, s.legSwitching m.val = false) ∧ s.red.fuse.length < 48 ∧ s.vq = [] ∧ fieldGet (s.vaultRd (64 + i.val)) 0 2 ≠ 0 ∧ fieldGet (s.vaultRd (64 + i.val)) 23 1 = 0 ∧ s.red.fuse.contains i.val = false ∧ (r.val = 0 ∨ fieldGet (s.vaultRd (64 + i.val)) 0 2 = r.val) ∧ (∀ j ∈ List.range i.val, ¬ (fieldGet (s.vaultRd (64 + j)) 0 2 ≠ 0 ∧ fieldGet (s.vaultRd (64 + j)) 23 1 = 0 ∧ s.red.fuse.contains j = false ∧ (r.val = 0 ∨ fieldGet (s.vaultRd (64 + j)) 0 2 = r.val)))) ∧
    (∃ (s : State) (k : Fin 512) (r : Fin 4), s.red.svc = some (4, k.val, r.val) ∧ s.red.svcCtx = none ∧ (∀ x : Fin 8, s.axLive x.val = false) ∧ (∀ m : Fin 24, s.legSwitching m.val = false) ∧ 48 ≤ s.red.fuse.length ∧ (∃ i ∈ List.range 88, fieldGet (s.vaultRd (64 + i)) 0 2 ≠ 0 ∧ fieldGet (s.vaultRd (64 + i)) 23 1 = 0 ∧ s.red.fuse.contains i = false ∧ (r.val = 0 ∨ fieldGet (s.vaultRd (64 + i)) 0 2 = r.val))) ∧
    (∃ (s : State) (k : Fin 512) (r : Fin 4), s.red.svc = some (4, k.val, r.val) ∧ s.red.svcCtx = none ∧ (∀ x : Fin 8, s.axLive x.val = false) ∧ (∀ m : Fin 24, s.legSwitching m.val = false) ∧ (∀ i ∈ List.range 88, ¬ (fieldGet (s.vaultRd (64 + i)) 0 2 ≠ 0 ∧ fieldGet (s.vaultRd (64 + i)) 23 1 = 0 ∧ s.red.fuse.contains i = false ∧ (r.val = 0 ∨ fieldGet (s.vaultRd (64 + i)) 0 2 = r.val)))) ∧
    (∃ (s : State), s.svcUnit 4 = none) ∧
    (∃ (s : State) (k : Fin 512) (w : Fin 4) (n : Fin 5), s.red.svc = some (5, k.val, w.val) ∧ s.red.rotReq = none ∧ s.get (slotPair 4) ≠ 7 ∧ s.red.takes = [] ∧ s.get (slotPair w.val) = n.val) ∧
    (∃ (s : State) (k : Fin 512) (w : Fin 4), s.red.svc = some (5, k.val, w.val) ∧ s.red.svcCtx = none ∧ s.red.rotReq = none ∧ s.reserveFree = false) ∧
    (∃ (s : State) (k : Fin 512) (w : Fin 4), s.red.svc = some (5, k.val, w.val) ∧ s.red.svcCtx = none ∧ s.red.rotReq = none ∧ s.reserveFree = true ∧ s.get (slotPair w.val) = 7) ∧
    (∃ (s : State), (s.svcUnit 5 = none ∨ s.red.rotReq ≠ none)) ∧
    (∃ (s : State) (k : Nat) (u : Nat), s.red.svc = some (6, k, u)) ∧
    (∃ (s : State), s.svcUnit 6 = none) :=
  ⟨⟨{ engines with fl := [], red := { svc := some (1, 2, 1) } }, 2, 1, by decide +kernel⟩,
   ⟨{ engines with fl := [], red := { svc := some (1, 2, 1) } }, 1, by decide +kernel⟩,
   ⟨{ engines |>.put (pxState 0) 0 with fl := [], red := { svc := some (1, 8, 1) } }, 1, by decide +kernel⟩,
   ⟨{ engines |>.put (fpStat 34) 1 with fl := [], red := { svc := some (1, 7, 34) } }, 34, by decide +kernel⟩,
   ⟨{ (pairHold 2 (some 1) ((State.reset.put (slotPair 1) 2).put (slotPair 4) 4)).put (RED_CP_STAT__STATE 4) 1 |>.put RED_SVC_STAT__STEPS 0 with red := { svc := some (1, 1, 2) } }, 2, 1, by decide +kernel⟩,
   ⟨{ engines |>.put (RED_CE_STAT__STATE 0) 1 with fl := [], red := { svc := some (1, 2, 1) } }, 2, 1, by decide +kernel⟩,
   ⟨{ engines with fl := [], red := { svc := some (1, 2, 1), outs := [(2, 1)] } }, 2, 1, by decide +kernel⟩,
   ⟨{ engines with fl := [], red := { svc := some (2, 2, 1) } }, by decide +kernel⟩,
   ⟨{ engines with fl := [], red := { svc := some (2, 2, 1), outs := [(2, 1)] } }, 2, 1, by decide +kernel⟩,
   ⟨{ engines |>.put RED_SVC_STAT__STEPS 1 with fl := [], red := { svc := some (2, 2, 1), outs := [(2, 1)] } }, 2, 1, by decide +kernel⟩,
   ⟨{ engines with fl := [], red := { svc := some (2, 2, 1), outs := [(2, 1)] } }, 2, 1, by decide +kernel⟩,
   ⟨{ engines |>.put (RED_CE_STAT__LANE_OK 1) 0x1F with fl := [], red := { svc := some (2, 2, 1), outs := [(2, 1)] } }, 1, by decide +kernel⟩,
   ⟨{ engines |>.put RED_SVC_STAT__STEPS 2 with fl := [], red := { svc := some (2, 2, 1), outs := [(2, 1)] } }, 2, 1, by decide +kernel⟩,
   ⟨{ engines |>.put RED_SVC_STAT__STEPS 2 with fl := [], red := { svc := some (2, 2, 1), outs := [(2, 1)] } }, 1, by decide +kernel⟩,
   ⟨{ engines |>.put RED_SVC_STAT__STEPS 2 |>.put (slotPair 4) 7 |> fun s => (List.range 5).foldl (fun (s : State) n => s.put (RED_CP_STAT__STATE n) 0) s with fl := [], red := { svc := some (2, 1, 2), outs := [(1, 2)] } }, 2, by decide +kernel⟩,
   ⟨{ engines |>.put RED_SVC_STAT__STEPS 2 |>.putB RED_STATUS__DMA_OUT true with fl := [], red := { svc := some (2, 9, 0), outs := [] } }, by decide +kernel⟩,
   ⟨{ engines |>.put RED_SVC_STAT__STEPS 1 |>.put (RED_CE_STAT__STATE 1) 3 with fl := [], red := { svc := some (2, 2, 1), outs := [(2, 1)] } }, 2, 1, by decide +kernel⟩,
   ⟨{ engines |>.put RED_SVC_STAT__STEPS 0 with fl := [], red := { svc := some (2, 2, 1), outs := [] } }, 2, 1, by decide +kernel⟩,
   ⟨{ engines with fl := [], red := { svc := some (3, 2, 1) } }, by decide +kernel⟩,
   ⟨{ State.reset with fl := [], red := { svc := some (3, 4, 77) } }, 4, 77, by decide +kernel⟩,
   ⟨{ State.reset with fl := [], red := { svc := some (3, 4, 77) } }, 4, 77, by decide +kernel⟩,
   ⟨{ (((pairHold 2 none State.reset).put (RED_CP_STAT__STATE 2) 1).put (RED_CP_STAT__I_WAYS 2) 3).put (RED_CP_STAT__D_WAYS 2) 3 with red := { svc := some (3, 1, 2) } }, 2, by decide +kernel⟩,
   ⟨{ State.reset with fl := [], red := { svc := some (3, 0, 77) } }, 0, 77, by decide +kernel⟩,
   ⟨{ engines with fl := [], red := { svc := some (2, 2, 1) } }, by decide +kernel⟩,
   ⟨(fun s => { s.put (AX_STATE__STATE 3) 3 with fl := [], red := { svc := some (4, 0, 0) } }) State.reset, 0, 0, by decide +kernel⟩,
   ⟨(fun s => let s := (List.range 8).foldl (fun (s : State) a => s.put (AX_STATE__STATE a) 0) s; { s with fl := [], vq := [], vault := [(64, VWord.of 0x1005)], red := { svc := some (4, 0, 0) } }) State.reset, 0, 0, 0, by decide +kernel⟩,
   ⟨(fun s => let s := (List.range 8).foldl (fun (s : State) a => s.put (AX_STATE__STATE a) 0) s; { s with fl := [], vq := [], vault := [(64, VWord.of 0x1005)], red := { svc := some (4, 0, 0), fuse := (List.range 48).map fun i => i + 30 } }) State.reset, 0, 0, by decide +kernel⟩,
   ⟨(fun s => let s := (List.range 8).foldl (fun (s : State) a => s.put (AX_STATE__STATE a) 0) s; { s with fl := [], vq := [], vault := [(64, VWord.of 0x1005)], red := { svc := some (4, 0, 0), fuse := [0] } }) State.reset, 0, 0, by decide +kernel⟩,
   ⟨{ engines with fl := [], red := { svc := some (2, 2, 1) } }, by decide +kernel⟩,
   ⟨{ (State.reset.put (slotPair 1) 2).put (slotPair 4) 4 with red := { svc := some (5, 0, 1) } }, 0, 1, 2, by decide +kernel⟩,
   ⟨{ (State.reset.put (slotPair 4) 7) with red := { svc := some (5, 0, 1) } }, 0, 1, by decide +kernel⟩,
   ⟨{ (State.reset.put (slotPair 4) 4).put (slotPair 1) 7 with red := { svc := some (5, 0, 1) } }, 0, 1, by decide +kernel⟩,
   ⟨{ engines with fl := [], red := { svc := some (2, 2, 1) } }, by decide +kernel⟩,
   ⟨{ State.reset with fl := [{ slot := 3, seq := 5, parent := none, depth := 0, cls := 1, st := 1, kind := 4, ut := 5, detail := 0, unit := 0, time := 9 }], red := { svc := some (6, 0, 0) } }, 0, 0, by decide +kernel⟩,
   ⟨{ engines with fl := [], red := { svc := some (2, 2, 1) } }, by decide +kernel⟩⟩

/-- States and operands that meet the conditions of SeamLinks. -/
theorem witness_SeamLinks :
    (∃ (s : State) (p : Fin 3), s.get (SEAM_PORT_STAT__LINK p.val) = 1) ∧
    (∃ (s : State) (p : Fin 3), s.get (SEAM_PORT_STAT__LINK p.val) ≠ 1) ∧
    (∃ (s : State) (p : Fin 3), s.seamUp p.val = true ∧ s.on SEAM_STATUS__JOINED = true ∧ s.on SEAM_CFG__ROOT = false ∧ s.get SEAM_STATUS__PARENT = p.val) ∧
    (∃ (s : State) (p : Fin 3), s.seamUp p.val = true ∧ (s.on SEAM_STATUS__JOINED = false ∨ s.on SEAM_CFG__ROOT = true ∨ s.get SEAM_STATUS__PARENT ≠ p.val)) ∧
    (∃ (s : State) (p : Fin 3), s.seamUp p.val = false) ∧
    (∃ (s : State) (p : Fin 3), s.seamUp p.val = true ∧ s.on CLK_STATUS__PLLB_LOCK = true ∧ 2 ≤ s.get PWR_STATE__STATE ∧ (s.on SEAM_STATUS__JOINED = false ∨ s.on SEAM_CFG__ROOT = true ∨ s.get SEAM_STATUS__PARENT ≠ p.val)) ∧
    (∃ (s : State) (p : Fin 3) (t1 : BitVec 80) (t2 : BitVec 80) (t3 : BitVec 80) (t4 : BitVec 80), s.seamUp p.val = true ∧ s.on CLK_STATUS__PLLB_LOCK = true ∧ 2 ≤ s.get PWR_STATE__STATE ∧ s.on SEAM_STATUS__JOINED = true ∧ s.on SEAM_CFG__ROOT = false ∧ s.get SEAM_STATUS__PARENT = p.val ∧ (s.on SEAM_CFG__STEP_EN = true ∧ s.seam.stepped = false ∧ 20000 < (16 * ((t2.toNat : Int) - t1.toNat) - (8 * (((t4.toNat : Int) - t1.toNat) - ((t3.toNat : Int) - t2.toNat)) + 5 * sgn 8 (s.get (SEAM_PORT_CFG__ASYM p.val)))) ∧ s.gridAxis = false)) ∧
    (∃ (s : State) (p : Fin 3) (t1 : BitVec 80) (t2 : BitVec 80) (t3 : BitVec 80) (t4 : BitVec 80), s.seamUp p.val = true ∧ s.on CLK_STATUS__PLLB_LOCK = true ∧ 2 ≤ s.get PWR_STATE__STATE ∧ s.on SEAM_STATUS__JOINED = true ∧ s.on SEAM_CFG__ROOT = false ∧ s.get SEAM_STATUS__PARENT = p.val ∧ ¬ (s.on SEAM_CFG__STEP_EN = true ∧ s.seam.stepped = false ∧ 20000 < (16 * ((t2.toNat : Int) - t1.toNat) - (8 * (((t4.toNat : Int) - t1.toNat) - ((t3.toNat : Int) - t2.toNat)) + 5 * sgn 8 (s.get (SEAM_PORT_CFG__ASYM p.val)))) ∧ s.gridAxis = false)) ∧
    (∃ (s : State) (p : Fin 3) (t1 : BitVec 80) (t2 : BitVec 80) (t3 : BitVec 80) (t4 : BitVec 80), s.seamUp p.val = true ∧ s.on CLK_STATUS__PLLB_LOCK = true ∧ 2 ≤ s.get PWR_STATE__STATE ∧ s.on SEAM_STATUS__JOINED = true ∧ s.on SEAM_CFG__ROOT = false ∧ s.get SEAM_STATUS__PARENT = p.val ∧ ¬ (s.on SEAM_CFG__STEP_EN = true ∧ s.seam.stepped = false ∧ 20000 < (16 * ((t2.toNat : Int) - t1.toNat) - (8 * (((t4.toNat : Int) - t1.toNat) - ((t3.toNat : Int) - t2.toNat)) + 5 * sgn 8 (s.get (SEAM_PORT_CFG__ASYM p.val)))) ∧ s.gridAxis = false) ∧ s.on SEAM_STATUS__ALIGNED = false ∧ (16 * ((t2.toNat : Int) - t1.toNat) - (8 * (((t4.toNat : Int) - t1.toNat) - ((t3.toNat : Int) - t2.toNat)) + 5 * sgn 8 (s.get (SEAM_PORT_CFG__ASYM p.val)))).natAbs ≤ 40 ∧ 15 ≤ s.seam.good) ∧
    (∃ (s : State) (p : Fin 3) (t1 : BitVec 80) (t2 : BitVec 80) (t3 : BitVec 80) (t4 : BitVec 80), s.seamUp p.val = true ∧ s.on CLK_STATUS__PLLB_LOCK = true ∧ 2 ≤ s.get PWR_STATE__STATE ∧ s.on SEAM_STATUS__JOINED = true ∧ s.on SEAM_CFG__ROOT = false ∧ s.get SEAM_STATUS__PARENT = p.val ∧ ¬ (s.on SEAM_CFG__STEP_EN = true ∧ s.seam.stepped = false ∧ 20000 < (16 * ((t2.toNat : Int) - t1.toNat) - (8 * (((t4.toNat : Int) - t1.toNat) - ((t3.toNat : Int) - t2.toNat)) + 5 * sgn 8 (s.get (SEAM_PORT_CFG__ASYM p.val)))) ∧ s.gridAxis = false) ∧ s.on SEAM_STATUS__ALIGNED = false ∧ (16 * ((t2.toNat : Int) - t1.toNat) - (8 * (((t4.toNat : Int) - t1.toNat) - ((t3.toNat : Int) - t2.toNat)) + 5 * sgn 8 (s.get (SEAM_PORT_CFG__ASYM p.val)))).natAbs ≤ 40 ∧ s.seam.good < 15) ∧
    (∃ (s : State) (p : Fin 3) (t1 : BitVec 80) (t2 : BitVec 80) (t3 : BitVec 80) (t4 : BitVec 80), s.seamUp p.val = true ∧ s.on CLK_STATUS__PLLB_LOCK = true ∧ 2 ≤ s.get PWR_STATE__STATE ∧ s.on SEAM_STATUS__JOINED = true ∧ s.on SEAM_CFG__ROOT = false ∧ s.get SEAM_STATUS__PARENT = p.val ∧ ¬ (s.on SEAM_CFG__STEP_EN = true ∧ s.seam.stepped = false ∧ 20000 < (16 * ((t2.toNat : Int) - t1.toNat) - (8 * (((t4.toNat : Int) - t1.toNat) - ((t3.toNat : Int) - t2.toNat)) + 5 * sgn 8 (s.get (SEAM_PORT_CFG__ASYM p.val)))) ∧ s.gridAxis = false) ∧ s.on SEAM_STATUS__ALIGNED = false ∧ 40 < (16 * ((t2.toNat : Int) - t1.toNat) - (8 * (((t4.toNat : Int) - t1.toNat) - ((t3.toNat : Int) - t2.toNat)) + 5 * sgn 8 (s.get (SEAM_PORT_CFG__ASYM p.val)))).natAbs) ∧
    (∃ (s : State) (p : Fin 3) (t1 : BitVec 80) (t2 : BitVec 80) (t3 : BitVec 80) (t4 : BitVec 80), s.seamUp p.val = true ∧ s.on CLK_STATUS__PLLB_LOCK = true ∧ 2 ≤ s.get PWR_STATE__STATE ∧ s.on SEAM_STATUS__JOINED = true ∧ s.on SEAM_CFG__ROOT = false ∧ s.get SEAM_STATUS__PARENT = p.val ∧ ¬ (s.on SEAM_CFG__STEP_EN = true ∧ s.seam.stepped = false ∧ 20000 < (16 * ((t2.toNat : Int) - t1.toNat) - (8 * (((t4.toNat : Int) - t1.toNat) - ((t3.toNat : Int) - t2.toNat)) + 5 * sgn 8 (s.get (SEAM_PORT_CFG__ASYM p.val)))) ∧ s.gridAxis = false) ∧ s.on SEAM_STATUS__ALIGNED = true ∧ 100 < (16 * ((t2.toNat : Int) - t1.toNat) - (8 * (((t4.toNat : Int) - t1.toNat) - ((t3.toNat : Int) - t2.toNat)) + 5 * sgn 8 (s.get (SEAM_PORT_CFG__ASYM p.val)))).natAbs ∧ 3 ≤ s.seam.bad) ∧
    (∃ (s : State) (p : Fin 3) (t1 : BitVec 80) (t2 : BitVec 80) (t3 : BitVec 80) (t4 : BitVec 80), s.seamUp p.val = true ∧ s.on CLK_STATUS__PLLB_LOCK = true ∧ 2 ≤ s.get PWR_STATE__STATE ∧ s.on SEAM_STATUS__JOINED = true ∧ s.on SEAM_CFG__ROOT = false ∧ s.get SEAM_STATUS__PARENT = p.val ∧ ¬ (s.on SEAM_CFG__STEP_EN = true ∧ s.seam.stepped = false ∧ 20000 < (16 * ((t2.toNat : Int) - t1.toNat) - (8 * (((t4.toNat : Int) - t1.toNat) - ((t3.toNat : Int) - t2.toNat)) + 5 * sgn 8 (s.get (SEAM_PORT_CFG__ASYM p.val)))) ∧ s.gridAxis = false) ∧ s.on SEAM_STATUS__ALIGNED = true ∧ 100 < (16 * ((t2.toNat : Int) - t1.toNat) - (8 * (((t4.toNat : Int) - t1.toNat) - ((t3.toNat : Int) - t2.toNat)) + 5 * sgn 8 (s.get (SEAM_PORT_CFG__ASYM p.val)))).natAbs ∧ s.seam.bad < 3) ∧
    (∃ (s : State) (p : Fin 3) (t1 : BitVec 80) (t2 : BitVec 80) (t3 : BitVec 80) (t4 : BitVec 80), s.seamUp p.val = true ∧ s.on CLK_STATUS__PLLB_LOCK = true ∧ 2 ≤ s.get PWR_STATE__STATE ∧ s.on SEAM_STATUS__JOINED = true ∧ s.on SEAM_CFG__ROOT = false ∧ s.get SEAM_STATUS__PARENT = p.val ∧ ¬ (s.on SEAM_CFG__STEP_EN = true ∧ s.seam.stepped = false ∧ 20000 < (16 * ((t2.toNat : Int) - t1.toNat) - (8 * (((t4.toNat : Int) - t1.toNat) - ((t3.toNat : Int) - t2.toNat)) + 5 * sgn 8 (s.get (SEAM_PORT_CFG__ASYM p.val)))) ∧ s.gridAxis = false) ∧ s.on SEAM_STATUS__ALIGNED = true ∧ (16 * ((t2.toNat : Int) - t1.toNat) - (8 * (((t4.toNat : Int) - t1.toNat) - ((t3.toNat : Int) - t2.toNat)) + 5 * sgn 8 (s.get (SEAM_PORT_CFG__ASYM p.val)))).natAbs ≤ 100) ∧
    (∃ (s : State) (p : Fin 3), (s.seamUp p.val = false ∨ s.on CLK_STATUS__PLLB_LOCK = false ∨ s.get PWR_STATE__STATE < 2)) ∧
    (∃ (s : State), s.on SEAM_CFG__ROOT = true ∧ s.sys.released = true) ∧
    (∃ (s : State), (s.on SEAM_CFG__ROOT = false ∨ s.sys.released = false)) ∧
    (∃ (s : State) (p : Fin 3), s.seamUp p.val = false) ∧
    (∃ (s : State) (p : Fin 3) (d : BitVec 8), s.seamUp p.val = true ∧ d.toNat ≠ s.get SEAM_CFG__DOMAIN) ∧
    (∃ (s : State) (p : Fin 3) (d : BitVec 8), s.seamUp p.val = true ∧ d.toNat = s.get SEAM_CFG__DOMAIN ∧ s.on SEAM_CFG__ROOT = false) ∧
    (∃ (s : State) (p : Fin 3) (d : BitVec 8) (lo : Word) (hi : Word), s.seamUp p.val = true ∧ d.toNat = s.get SEAM_CFG__DOMAIN ∧ s.on SEAM_CFG__ROOT = true ∧ lo = s.rd DEV_SERIAL_LO ∧ hi = s.rd DEV_SERIAL_HI) ∧
    (∃ (s : State) (p : Fin 3) (d : BitVec 8) (lo : Word) (hi : Word), s.seamUp p.val = true ∧ d.toNat = s.get SEAM_CFG__DOMAIN ∧ s.on SEAM_CFG__ROOT = true ∧ ¬ (lo = s.rd DEV_SERIAL_LO ∧ hi = s.rd DEV_SERIAL_HI)) ∧
    (∃ (s : State) (p : Fin 3) (d : BitVec 8), s.seamUp p.val = true ∧ d.toNat = s.get SEAM_CFG__DOMAIN ∧ s.on SEAM_CFG__ROOT = true) ∧
    (∃ (s : State) (p : Fin 3) (d : BitVec 8) (q : Fin 3), s.seamUp p.val = true ∧ d.toNat = s.get SEAM_CFG__DOMAIN ∧ s.on SEAM_CFG__ROOT = false ∧ s.upPort? = some q.val) ∧
    (∃ (s : State) (p : Fin 3) (d : BitVec 8), s.seamUp p.val = true ∧ d.toNat = s.get SEAM_CFG__DOMAIN ∧ s.on SEAM_CFG__ROOT = false ∧ s.upPort? = none) ∧
    (∃ (s : State) (p : Fin 3) (d : BitVec 8), s.seamUp p.val = true ∧ d.toNat = s.get SEAM_CFG__DOMAIN ∧ s.on SEAM_CFG__ROOT = false ∧ s.upPort? = some p.val) ∧
    (∃ (s : State) (p : Fin 3) (d : BitVec 8), s.seamUp p.val = true ∧ d.toNat = s.get SEAM_CFG__DOMAIN ∧ (s.on SEAM_CFG__ROOT = true ∨ s.upPort? ≠ some p.val)) ∧
    (∃ (s : State) (i : Fin 1024), 3 ≤ s.seam.rounds ∧ (s.seam.cand ≠ s.seam.cur ∨ s.on SEAM_STATUS__RING ≠ s.seam.ring) ∧ s.seam.cand.length ≤ 1024 ∧ (s.seam.cand.findIdx? fun n => n.lo == s.rd DEV_SERIAL_LO && n.hi == s.rd DEV_SERIAL_HI) = some i.val ∧ (s.seam.cand[i.val]?.map fun n => n.refuse) = some 0) ∧
    (∃ (s : State) (i : Fin 1024) (r : Fin 16), 3 ≤ s.seam.rounds ∧ (s.seam.cand ≠ s.seam.cur ∨ s.on SEAM_STATUS__RING ≠ s.seam.ring) ∧ s.seam.cand.length ≤ 1024 ∧ (s.seam.cand.findIdx? fun n => n.lo == s.rd DEV_SERIAL_LO && n.hi == s.rd DEV_SERIAL_HI) = some i.val ∧ (s.seam.cand[i.val]?.map fun n => n.refuse) = some r.val ∧ r.val ≠ 0) ∧
    (∃ (s : State), 3 ≤ s.seam.rounds ∧ (s.seam.cand ≠ s.seam.cur ∨ s.on SEAM_STATUS__RING ≠ s.seam.ring) ∧ s.seam.cand.length ≤ 1024 ∧ (s.seam.cand.findIdx? fun n => n.lo == s.rd DEV_SERIAL_LO && n.hi == s.rd DEV_SERIAL_HI) = none) ∧
    (∃ (s : State), s.seam.rounds < 3 ∧ s.seam.cand = [] ∧ s.get SEAM_STATUS__REFUSE ≠ 4 ∧ (∃ p ∈ List.range 3, s.seamUp p = true) ∧ s.on SEAM_STATUS__JOINED = false) ∧
    (∃ (s : State), ((s.seam.rounds < 3 ∧ (s.seam.cand ≠ [] ∨ s.get SEAM_STATUS__REFUSE = 4 ∨ (∀ p ∈ List.range 3, s.seamUp p = false) ∨ s.on SEAM_STATUS__JOINED = true)) ∨ (3 ≤ s.seam.rounds ∧ s.seam.cand = s.seam.cur ∧ s.on SEAM_STATUS__RING = s.seam.ring))) ∧
    (∃ (s : State) (p : Fin 3), s.on SEAM_STATUS__JOINED = true ∧ s.on SEAM_CFG__ROOT = false ∧ s.on SEAM_STATUS__RING = true ∧ s.seamPorts.contains p.val = true ∧ (s.sp p.val).path = true ∧ s.get SEAM_STATUS__PARENT ≠ p.val) ∧
    (∃ (s : State) (p : Fin 3), (s.on SEAM_STATUS__JOINED = false ∨ s.on SEAM_CFG__ROOT = true ∨ s.on SEAM_STATUS__RING = false ∨ s.seamPorts.contains p.val = false ∨ (s.sp p.val).path = false ∨ s.get SEAM_STATUS__PARENT = p.val)) :=
  ⟨⟨State.reset.put (SEAM_PORT_STAT__LINK 2) 1, 2, by decide +kernel⟩,
   ⟨State.reset.put (SEAM_PORT_STAT__LINK 2) 2, 2, by decide +kernel⟩,
   ⟨(((((((State.reset) |> seamPort 0 false)) |> seamPort 1 false)) |> seamPort 2 true) |>.putB SEAM_STATUS__JOINED true |>.putB SEAM_CFG__ROOT false |>.put SEAM_STATUS__PARENT 2), 2, by decide +kernel⟩,
   ⟨(((((((State.reset) |> seamPort 0 false)) |> seamPort 1 false)) |> seamPort 2 true) |>.putB SEAM_STATUS__JOINED true |>.putB SEAM_CFG__ROOT false |>.put SEAM_STATUS__PARENT 1), 2, by decide +kernel⟩,
   ⟨(((((((State.reset) |> seamPort 0 false)) |> seamPort 1 true)) |> seamPort 2 false) |>.putB SEAM_STATUS__JOINED true |>.putB SEAM_CFG__ROOT false), 2, by decide +kernel⟩,
   ⟨(((((((awake State.reset) |> seamPort 0 false)) |> seamPort 1 true)) |> seamPort 2 false) |>.putB SEAM_STATUS__JOINED true |>.putB SEAM_CFG__ROOT false |>.put SEAM_STATUS__PARENT 0), 1, by decide +kernel⟩,
   ⟨(((((((awake State.reset) |> seamPort 0 false)) |> seamPort 1 true)) |> seamPort 2 false) |>.putB SEAM_STATUS__JOINED true |>.putB SEAM_CFG__ROOT false |>.put SEAM_STATUS__PARENT 1 |>.put (SEAM_PORT_CFG__ASYM 1) 0 |>.putB SEAM_CFG__STEP_EN true |>.put (AX_TIMING__SYNC 0) 0 |> fun s => (List.range 8).foldl (fun (s : State) a => s.put (AX_STATE__STATE a) 0) s |>.upSeam (fun m => { m with stepped := false })), 1, 1000, 9000, 9000, 1065, by decide +kernel⟩,
   ⟨(((((((awake State.reset) |> seamPort 0 false)) |> seamPort 1 true)) |> seamPort 2 false) |>.putB SEAM_STATUS__JOINED true |>.putB SEAM_CFG__ROOT false |>.put SEAM_STATUS__PARENT 1 |>.put (SEAM_PORT_CFG__ASYM 1) 0 |>.putB SEAM_CFG__STEP_EN false), 1, 1000, 1002, 1002, 1004, by decide +kernel⟩,
   ⟨(((((((awake State.reset) |> seamPort 0 false)) |> seamPort 1 true)) |> seamPort 2 false) |>.putB SEAM_STATUS__JOINED true |>.putB SEAM_CFG__ROOT false |>.put SEAM_STATUS__PARENT 1 |>.put (SEAM_PORT_CFG__ASYM 1) 0 |>.putB SEAM_CFG__STEP_EN false |>.putB SEAM_STATUS__ALIGNED false |>.upSeam (fun m => { m with good := 15 })), 1, 1000, 1000, 1000, 1000, by decide +kernel⟩,
   ⟨(((((((awake State.reset) |> seamPort 0 false)) |> seamPort 1 true)) |> seamPort 2 false) |>.putB SEAM_STATUS__JOINED true |>.putB SEAM_CFG__ROOT false |>.put SEAM_STATUS__PARENT 1 |>.put (SEAM_PORT_CFG__ASYM 1) 0 |>.putB SEAM_CFG__STEP_EN false |>.putB SEAM_STATUS__ALIGNED false |>.upSeam (fun m => { m with good := 3 })), 1, 1000, 1000, 1000, 1000, by decide +kernel⟩,
   ⟨(((((((awake State.reset) |> seamPort 0 false)) |> seamPort 1 true)) |> seamPort 2 false) |>.putB SEAM_STATUS__JOINED true |>.putB SEAM_CFG__ROOT false |>.put SEAM_STATUS__PARENT 1 |>.put (SEAM_PORT_CFG__ASYM 1) 0 |>.putB SEAM_CFG__STEP_EN false |>.putB SEAM_STATUS__ALIGNED false |>.upSeam (fun m => { m with good := 3 })), 1, 1000, 1100, 1100, 1000, by decide +kernel⟩,
   ⟨(((((((awake State.reset) |> seamPort 0 false)) |> seamPort 1 true)) |> seamPort 2 false) |>.putB SEAM_STATUS__JOINED true |>.putB SEAM_CFG__ROOT false |>.put SEAM_STATUS__PARENT 1 |>.put (SEAM_PORT_CFG__ASYM 1) 0 |>.putB SEAM_CFG__STEP_EN false |>.putB SEAM_STATUS__ALIGNED true |>.upSeam (fun m => { m with bad := 3 })), 1, 1000, 1100, 1100, 1000, by decide +kernel⟩,
   ⟨(((((((awake State.reset) |> seamPort 0 false)) |> seamPort 1 true)) |> seamPort 2 false) |>.putB SEAM_STATUS__JOINED true |>.putB SEAM_CFG__ROOT false |>.put SEAM_STATUS__PARENT 1 |>.put (SEAM_PORT_CFG__ASYM 1) 0 |>.putB SEAM_CFG__STEP_EN false |>.putB SEAM_STATUS__ALIGNED true |>.upSeam (fun m => { m with bad := 2 })), 1, 1000, 1100, 1100, 1000, by decide +kernel⟩,
   ⟨(((((((awake State.reset) |> seamPort 0 false)) |> seamPort 1 true)) |> seamPort 2 false) |>.putB SEAM_STATUS__JOINED true |>.putB SEAM_CFG__ROOT false |>.put SEAM_STATUS__PARENT 1 |>.put (SEAM_PORT_CFG__ASYM 1) 0 |>.putB SEAM_CFG__STEP_EN false |>.putB SEAM_STATUS__ALIGNED true |>.upSeam (fun m => { m with bad := 2 })), 1, 1000, 1000, 1000, 1000, by decide +kernel⟩,
   ⟨State.reset.putB CLK_STATUS__PLLB_LOCK false, 1, by decide +kernel⟩,
   ⟨(awake State.reset).putB SEAM_CFG__ROOT true, by decide +kernel⟩,
   ⟨State.reset.putB SEAM_CFG__ROOT false, by decide +kernel⟩,
   ⟨(((((((State.reset) |> seamPort 0 false)) |> seamPort 1 true)) |> seamPort 2 false) |>.putB SEAM_STATUS__JOINED true |>.putB SEAM_CFG__ROOT false), 2, by decide +kernel⟩,
   ⟨(((((((State.reset) |> seamPort 0 false)) |> seamPort 1 true)) |> seamPort 2 false) |>.putB SEAM_STATUS__JOINED true |>.putB SEAM_CFG__ROOT false |>.put SEAM_CFG__DOMAIN 3), 1, 7, by decide +kernel⟩,
   ⟨(((((((State.reset) |> seamPort 0 true)) |> seamPort 1 true)) |> seamPort 2 false) |>.putB SEAM_STATUS__JOINED true |>.putB SEAM_CFG__ROOT false |>.put SEAM_CFG__DOMAIN 7), 1, 7, by decide +kernel⟩,
   ⟨(((((((State.reset) |> seamPort 0 true)) |> seamPort 1 true)) |> seamPort 2 false) |>.putB SEAM_STATUS__JOINED true |>.putB SEAM_CFG__ROOT false |>.put SEAM_CFG__DOMAIN 7 |>.putB SEAM_CFG__ROOT true), 1, 7, State.reset.rd DEV_SERIAL_LO, State.reset.rd DEV_SERIAL_HI, by decide +kernel⟩,
   ⟨(((((((State.reset) |> seamPort 0 true)) |> seamPort 1 true)) |> seamPort 2 false) |>.putB SEAM_STATUS__JOINED true |>.putB SEAM_CFG__ROOT false |>.put SEAM_CFG__DOMAIN 7 |>.putB SEAM_CFG__ROOT true), 1, 7, State.reset.rd DEV_SERIAL_LO + 1, 4, by decide +kernel⟩,
   ⟨(((((((State.reset) |> seamPort 0 true)) |> seamPort 1 true)) |> seamPort 2 false) |>.putB SEAM_STATUS__JOINED true |>.putB SEAM_CFG__ROOT false |>.put SEAM_CFG__DOMAIN 7 |>.putB SEAM_CFG__ROOT true), 1, 7, by decide +kernel⟩,
   ⟨(((((((State.reset) |> seamPort 0 true)) |> seamPort 1 true)) |> seamPort 2 false) |>.putB SEAM_STATUS__JOINED true |>.putB SEAM_CFG__ROOT false |>.put SEAM_CFG__DOMAIN 7) |>.upSp 0 fun q => { q with hop := some (2, 0) }, 1, 7, 0, by decide +kernel⟩,
   ⟨{ (((((((State.reset) |> seamPort 0 true)) |> seamPort 1 true)) |> seamPort 2 false) |>.putB SEAM_STATUS__JOINED true |>.putB SEAM_CFG__ROOT false |>.put SEAM_CFG__DOMAIN 7) with seams := [] }, 1, 7, by decide +kernel⟩,
   ⟨(((((((State.reset) |> seamPort 0 true)) |> seamPort 1 true)) |> seamPort 2 false) |>.putB SEAM_STATUS__JOINED true |>.putB SEAM_CFG__ROOT false |>.put SEAM_CFG__DOMAIN 7) |>.upSp 1 fun q => { q with hop := some (2, 0) }, 1, 7, by decide +kernel⟩,
   ⟨(((((((State.reset) |> seamPort 0 true)) |> seamPort 1 true)) |> seamPort 2 false) |>.putB SEAM_STATUS__JOINED true |>.putB SEAM_CFG__ROOT false |>.put SEAM_CFG__DOMAIN 7) |>.upSp 0 fun q => { q with hop := some (2, 0) }, 1, 7, by decide +kernel⟩,
   ⟨(fun s => let s := (((((((s) |> seamPort 0 false)) |> seamPort 1 true)) |> seamPort 2 false) |>.putB SEAM_STATUS__JOINED true |>.putB SEAM_CFG__ROOT false |>.putB SEAM_STATUS__ALIGNED true |>.put SEAM_STATUS__REFUSE 0); { s with seam := { rounds := 3, cand := [{ hops := 0, port := 0, parent := 0, pport := 1, refuse := 0, lo := 77, hi := 78 }, { hops := 1, port := 1, parent := 0, pport := 0, refuse := 0, lo := s.rd DEV_SERIAL_LO, hi := s.rd DEV_SERIAL_HI }] } }) State.reset, 1, by decide +kernel⟩,
   ⟨(fun s => let s := (((((((s) |> seamPort 0 false)) |> seamPort 1 true)) |> seamPort 2 false) |>.putB SEAM_STATUS__JOINED true |>.putB SEAM_CFG__ROOT false |>.putB SEAM_STATUS__ALIGNED true |>.put SEAM_STATUS__REFUSE 0); { s with seam := { rounds := 3, cand := [{ hops := 0, port := 0, parent := 0, pport := 1, refuse := 0, lo := 77, hi := 78 }, { hops := 3, port := 1, parent := 2, pport := 0, refuse := 2, lo := s.rd DEV_SERIAL_LO, hi := s.rd DEV_SERIAL_HI }] } }) State.reset, 1, 2, by decide +kernel⟩,
   ⟨(fun s => let s := (((((((s) |> seamPort 0 false)) |> seamPort 1 true)) |> seamPort 2 false) |>.putB SEAM_STATUS__JOINED true |>.putB SEAM_CFG__ROOT false |>.putB SEAM_STATUS__ALIGNED true |>.put SEAM_STATUS__REFUSE 0); { s with seam := { rounds := 3, cand := [{ hops := 0, port := 0, parent := 0, pport := 1, refuse := 0, lo := 77, hi := 78 }] } }) State.reset, by decide +kernel⟩,
   ⟨(((((((State.reset) |> seamPort 0 true)) |> seamPort 1 false)) |> seamPort 2 false) |>.putB SEAM_STATUS__JOINED true |>.putB SEAM_CFG__ROOT false |>.putB SEAM_STATUS__JOINED false |>.put SEAM_STATUS__REFUSE 0 |>.upSeam fun m => { m with rounds := 0, cand := [] }), by decide +kernel⟩,
   ⟨State.reset.put SEAM_STATUS__REFUSE 4 |>.upSeam fun m => { m with rounds := 0 }, by decide +kernel⟩,
   ⟨(((((((State.reset) |> seamPort 0 false)) |> seamPort 1 false)) |> seamPort 2 true) |>.putB SEAM_STATUS__JOINED true |>.putB SEAM_CFG__ROOT false |>.put SEAM_STATUS__PARENT 1 |>.putB SEAM_STATUS__RING true |>.upSp 2 fun q => { q with path := true }), 2, by decide +kernel⟩,
   ⟨State.reset.putB SEAM_STATUS__RING false, 2, by decide +kernel⟩⟩

/-- States and operands that meet the conditions of SeamTripsAndPeers. -/
theorem witness_SeamTripsAndPeers :
    (∃ (s : State) (c : Nat) (r : List Nat), s.seam.due = c :: r ∧ s.seamPorts ≠ []) ∧
    (∃ (s : State) (c : Nat) (r : List Nat), s.seam.due = c :: r ∧ s.seamPorts = []) ∧
    (∃ (s : State), s.seam.due = []) ∧
    (∃ (s : State) (w : Writer) (v : Word), s.may w SEAM_TRIP_CMD v = true ∧ fieldGet v 16 16 = 0x5452 ∧ s.seamPorts ≠ []) ∧
    (∃ (s : State) (w : Writer) (v : Word), s.may w SEAM_TRIP_CMD v = true ∧ (fieldGet v 16 16 ≠ 0x5452 ∨ s.seamPorts = [])) ∧
    (∃ (s : State) (p : Fin 3) (q : BitVec 4) (o : BitVec 10), s.seamPorts.contains p.val = true ∧ (∀ e ∈ s.seam.trips, e.1 = o.toNat → e.2.1 = q.toNat → e.2.2 + 20000 < s.time)) ∧
    (∃ (s : State) (p : Fin 3) (g : BitVec 4) (q : BitVec 4) (o : BitVec 10) (a : Fin 8) (k : Fin 4), s.seamPorts.contains p.val = true ∧ (∀ e ∈ s.seam.trips, e.1 = o.toNat → e.2.1 = q.toNat → e.2.2 + 20000 < s.time) ∧ nbit g.toNat k.val = true ∧ nbit (s.get (SEAM_TRIP_RX__AXMASK k.val)) a.val = true ∧ ((1 ≤ s.axState a.val ∧ s.axState a.val ≤ 4) ∨ (s.axState a.val = 0 ∧ s.on SAF_STATUS__ARMED = true ∧ s.sys.released = true))) ∧
    (∃ (s : State) (p : Fin 3) (g : BitVec 4) (q : BitVec 4) (o : BitVec 10) (a : Fin 8) (k : Fin 4), s.seamPorts.contains p.val = true ∧ (∀ e ∈ s.seam.trips, e.1 = o.toNat → e.2.1 = q.toNat → e.2.2 + 20000 < s.time) ∧ nbit g.toNat k.val = true ∧ nbit (s.get (SEAM_TRIP_RX__AXMASK k.val)) a.val = true ∧ s.axState a.val = 5 ∧ nbit (s.get (SEAM_TRIP_RX__LATCH k.val)) a.val = true ∧ (s.ax a.val).safeDone = true) ∧
    (∃ (s : State) (p : Fin 3) (q : BitVec 4) (o : BitVec 10) (a : Fin 8), s.seamPorts.contains p.val = true ∧ (∀ e ∈ s.seam.trips, e.1 = o.toNat → e.2.1 = q.toNat → e.2.2 + 20000 < s.time) ∧ s.axState a.val = 6) ∧
    (∃ (s : State) (p : Fin 3) (q : BitVec 4) (o : BitVec 10) (a : Fin 8), s.seamPorts.contains p.val = true ∧ (∀ e ∈ s.seam.trips, e.1 = o.toNat → e.2.1 = q.toNat → e.2.2 + 20000 < s.time) ∧ s.axState a.val = 0 ∧ (s.on SAF_STATUS__ARMED = false ∨ s.sys.released = false)) ∧
    (∃ (s : State) (p : Fin 3) (g : BitVec 4) (q : BitVec 4) (o : BitVec 10) (a : Fin 8), s.seamPorts.contains p.val = true ∧ (∀ e ∈ s.seam.trips, e.1 = o.toNat → e.2.1 = q.toNat → e.2.2 + 20000 < s.time) ∧ (∀ k : Fin 4, nbit g.toNat k.val = false ∨ nbit (s.get (SEAM_TRIP_RX__AXMASK k.val)) a.val = false)) ∧
    (∃ (s : State) (p : Fin 3) (q : BitVec 4) (o : BitVec 10), (s.seamPorts.contains p.val = false ∨ (∃ e ∈ s.seam.trips, e.1 = o.toNat ∧ e.2.1 = q.toNat ∧ s.time ≤ e.2.2 + 20000))) ∧
    (∃ (s : State) (k : Fin 4) (a : Fin 8), s.on SEAM_STATUS__JOINED = true ∧ (s.on SEAM_CFG__ROOT = false ∨ s.seamPorts = []) ∧ s.on (SEAM_TRIP_RX__ON_LOSS k.val) = true ∧ nbit (s.get (SEAM_TRIP_RX__AXMASK k.val)) a.val = true ∧ ((1 ≤ s.axState a.val ∧ s.axState a.val ≤ 4) ∨ (s.axState a.val = 0 ∧ s.on SAF_STATUS__ARMED = true ∧ s.sys.released = true))) ∧
    (∃ (s : State) (k : Fin 4) (a : Fin 8), s.on SEAM_STATUS__JOINED = true ∧ (s.on SEAM_CFG__ROOT = false ∨ s.seamPorts = []) ∧ s.on (SEAM_TRIP_RX__ON_LOSS k.val) = true ∧ nbit (s.get (SEAM_TRIP_RX__AXMASK k.val)) a.val = true ∧ s.axState a.val = 5 ∧ nbit (s.get (SEAM_TRIP_RX__LATCH k.val)) a.val = true ∧ (s.ax a.val).safeDone = true) ∧
    (∃ (s : State) (a : Fin 8), s.on SEAM_STATUS__JOINED = true ∧ (s.on SEAM_CFG__ROOT = false ∨ s.seamPorts = []) ∧ s.axState a.val = 6) ∧
    (∃ (s : State) (a : Fin 8), s.on SEAM_STATUS__JOINED = true ∧ (s.on SEAM_CFG__ROOT = false ∨ s.seamPorts = []) ∧ (∀ k : Fin 4, s.on (SEAM_TRIP_RX__ON_LOSS k.val) = false ∨ nbit (s.get (SEAM_TRIP_RX__AXMASK k.val)) a.val = false)) ∧
    (∃ (s : State), s.on SEAM_STATUS__JOINED = true ∧ (s.on SEAM_CFG__ROOT = false ∨ s.seamPorts = []) ∧ s.lossGroups ≠ 0) ∧
    (∃ (s : State), s.on SEAM_STATUS__JOINED = false ∨ (s.on SEAM_CFG__ROOT = true ∧ s.seamPorts ≠ []) ∨ (∀ k : Fin 4, s.on (SEAM_TRIP_RX__ON_LOSS k.val) = false)) ∧
    (∃ (s : State), s.on SEAM_PD_CFG__EN = true ∧ s.on SEAM_STATUS__JOINED = true) ∧
    (∃ (s : State), (s.on SEAM_PD_CFG__EN = false ∨ s.on SEAM_STATUS__JOINED = false)) ∧
    (∃ (s : State) (p : Fin 3) (o : BitVec 10) (q : BitVec 16), s.seamPorts.contains p.val = true ∧ s.get SEAM_STATUS__NODE ≠ o.toNat ∧ s.seam.seen.contains (o.toNat, q.toNat) = false) ∧
    (∃ (s : State) (p : Fin 3) (o : BitVec 10) (q : BitVec 16) (k : Fin 4), s.seamPorts.contains p.val = true ∧ s.get SEAM_STATUS__NODE ≠ o.toNat ∧ s.seam.seen.contains (o.toNat, q.toNat) = false ∧ s.on (SEAM_PD_RXCFG__EN k.val) = true ∧ s.get (SEAM_PD_RXCFG__ORIGIN k.val) = o.toNat) ∧
    (∃ (s : State) (p : Fin 3) (o : BitVec 10) (q : BitVec 16) (k : Fin 4), s.seamPorts.contains p.val = true ∧ s.get SEAM_STATUS__NODE ≠ o.toNat ∧ s.seam.seen.contains (o.toNat, q.toNat) = false ∧ (s.on (SEAM_PD_RXCFG__EN k.val) = false ∨ s.get (SEAM_PD_RXCFG__ORIGIN k.val) ≠ o.toNat)) ∧
    (∃ (s : State) (p : Fin 3), s.seamUp p.val = true) ∧
    (∃ (s : State) (p : Fin 3) (o : BitVec 10) (q : BitVec 16) (b : Bool), s.seamUp p.val = false ∨ (b = true ∧ (s.seamPorts.contains p.val = false ∨ s.get SEAM_STATUS__NODE = o.toNat ∨ s.seam.seen.contains (o.toNat, q.toNat) = true))) ∧
    (∃ (s : State) (k : Fin 4), s.on (SEAM_PD_RXCFG__EN k.val) = true ∧ s.on (SEAM_PD_RX_STAT__STALE k.val) = false ∧ s.on (SEAM_PD_RX_STAT__VALID k.val) = true) ∧
    (∃ (s : State) (k : Fin 4), (s.on (SEAM_PD_RXCFG__EN k.val) = false ∨ s.on (SEAM_PD_RX_STAT__STALE k.val) = true ∨ s.on (SEAM_PD_RX_STAT__VALID k.val) = false)) :=
  ⟨⟨(((((((State.reset) |> seamPort 0 false)) |> seamPort 1 true)) |> seamPort 2 false) |>.putB SEAM_STATUS__JOINED true |>.putB SEAM_CFG__ROOT false |>.upSeam fun m => { m with due := [1, 2] }), 1, [2], by decide +kernel⟩,
   ⟨(((((((State.reset) |> seamPort 0 false)) |> seamPort 1 false)) |> seamPort 2 false) |>.putB SEAM_STATUS__JOINED true |>.putB SEAM_CFG__ROOT false |>.upSeam fun m => { m with due := [1, 2] }), 1, [2], by decide +kernel⟩,
   ⟨State.reset.upSeam fun m => { m with due := [] }, by decide +kernel⟩,
   ⟨stew 1 State.reset |> seamPort 0 false |> seamPort 1 true |> seamPort 2 false, .host 1, 0x54520006, by decide +kernel⟩,
   ⟨stew 1 State.reset |> seamPort 0 false |> seamPort 1 true |> seamPort 2 false, .host 1, 0x54510006, by decide +kernel⟩,
   ⟨(fun s => (((((((((((((List.range 8).foldl (fun (s : State) a => s.put (AX_BIND_LEG__LEG_MASK a) 0) s).put (AX_BIND_LEG__LEG_MASK 3) 0x1C0).put (AX_STATE__STATE 3) 3).putB (AX_STATE__CLOSING 3) false).putB SAF_STATUS__ARMED true |>.put (SEAM_TRIP_RX__AXMASK 2) 8 |>.putB (SEAM_TRIP_RX__ON_LOSS 2) true)) |> seamPort 0 true)) |> seamPort 1 true)) |> seamPort 2 false) |>.putB SEAM_STATUS__JOINED true |>.putB SEAM_CFG__ROOT false |>.upSeam (fun m => { m with trips := [] }))) (awake State.reset), 1, 3, 2, by decide +kernel⟩,
   ⟨(fun s => (((((((((((((List.range 8).foldl (fun (s : State) a => s.put (AX_BIND_LEG__LEG_MASK a) 0) s).put (AX_BIND_LEG__LEG_MASK 3) 0x1C0).put (AX_STATE__STATE 3) 3).putB (AX_STATE__CLOSING 3) false).putB SAF_STATUS__ARMED true |>.put (SEAM_TRIP_RX__AXMASK 2) 8 |>.putB (SEAM_TRIP_RX__ON_LOSS 2) true)) |> seamPort 0 true)) |> seamPort 1 true)) |> seamPort 2 false) |>.putB SEAM_STATUS__JOINED true |>.putB SEAM_CFG__ROOT false |>.upSeam (fun m => { m with trips := [] }) |>.put (SEAM_TRIP_RX__SOFT 2) 8)) (awake State.reset), 1, 4, 3, 2, 3, 2, by decide +kernel⟩,
   ⟨(fun s => (((((((((((((List.range 8).foldl (fun (s : State) a => s.put (AX_BIND_LEG__LEG_MASK a) 0) s).put (AX_BIND_LEG__LEG_MASK 3) 0x1C0).put (AX_STATE__STATE 3) 5).putB (AX_STATE__CLOSING 3) false).putB SAF_STATUS__ARMED true |>.put (SEAM_TRIP_RX__AXMASK 2) 8 |>.putB (SEAM_TRIP_RX__ON_LOSS 2) true)) |> seamPort 0 true)) |> seamPort 1 true)) |> seamPort 2 false) |>.putB SEAM_STATUS__JOINED true |>.putB SEAM_CFG__ROOT false |>.upSeam (fun m => { m with trips := [] }) |>.put (SEAM_TRIP_RX__LATCH 2) 8 |>.upAx 3 fun x => { x with safeDone := true })) (awake State.reset), 1, 4, 3, 2, 3, 2, by decide +kernel⟩,
   ⟨(fun s => (((((((((((((List.range 8).foldl (fun (s : State) a => s.put (AX_BIND_LEG__LEG_MASK a) 0) s).put (AX_BIND_LEG__LEG_MASK 3) 0x1C0).put (AX_STATE__STATE 3) 6).putB (AX_STATE__CLOSING 3) false).putB SAF_STATUS__ARMED true |>.put (SEAM_TRIP_RX__AXMASK 2) 8 |>.putB (SEAM_TRIP_RX__ON_LOSS 2) true)) |> seamPort 0 true)) |> seamPort 1 true)) |> seamPort 2 false) |>.putB SEAM_STATUS__JOINED true |>.putB SEAM_CFG__ROOT false |>.upSeam (fun m => { m with trips := [] }))) (awake State.reset), 1, 3, 2, 3, by decide +kernel⟩,
   ⟨(fun s => (((((((((((((List.range 8).foldl (fun (s : State) a => s.put (AX_BIND_LEG__LEG_MASK a) 0) s).put (AX_BIND_LEG__LEG_MASK 3) 0x1C0).put (AX_STATE__STATE 3) 0).putB (AX_STATE__CLOSING 3) false).putB SAF_STATUS__ARMED true |>.put (SEAM_TRIP_RX__AXMASK 2) 8 |>.putB (SEAM_TRIP_RX__ON_LOSS 2) true)) |> seamPort 0 true)) |> seamPort 1 true)) |> seamPort 2 false) |>.putB SEAM_STATUS__JOINED true |>.putB SEAM_CFG__ROOT false |>.upSeam (fun m => { m with trips := [] }) |>.putB SAF_STATUS__ARMED false)) (awake State.reset), 1, 3, 2, 3, by decide +kernel⟩,
   ⟨(fun s => (((((((((((((List.range 8).foldl (fun (s : State) a => s.put (AX_BIND_LEG__LEG_MASK a) 0) s).put (AX_BIND_LEG__LEG_MASK 3) 0x1C0).put (AX_STATE__STATE 3) 3).putB (AX_STATE__CLOSING 3) false).putB SAF_STATUS__ARMED true |>.put (SEAM_TRIP_RX__AXMASK 2) 8 |>.putB (SEAM_TRIP_RX__ON_LOSS 2) true)) |> seamPort 0 true)) |> seamPort 1 true)) |> seamPort 2 false) |>.putB SEAM_STATUS__JOINED true |>.putB SEAM_CFG__ROOT false |>.upSeam (fun m => { m with trips := [] }))) (awake State.reset), 1, 8, 3, 2, 3, by decide +kernel⟩,
   ⟨State.reset.upSeam fun m => { m with trips := [(9, 3, State.reset.time)] }, 1, 3, 9, by decide +kernel⟩,
   ⟨(fun s => (((((((((((((List.range 8).foldl (fun (s : State) a => s.put (AX_BIND_LEG__LEG_MASK a) 0) s).put (AX_BIND_LEG__LEG_MASK 3) 0x1C0).put (AX_STATE__STATE 3) 3).putB (AX_STATE__CLOSING 3) false).putB SAF_STATUS__ARMED true |>.put (SEAM_TRIP_RX__AXMASK 2) 8 |>.putB (SEAM_TRIP_RX__ON_LOSS 2) true)) |> seamPort 0 false)) |> seamPort 1 false)) |> seamPort 2 false) |>.putB SEAM_STATUS__JOINED true |>.putB SEAM_CFG__ROOT false |>.upSeam (fun m => { m with trips := [] }) |>.put (SEAM_TRIP_RX__SOFT 2) 8)) (awake State.reset), 2, 3, by decide +kernel⟩,
   ⟨(fun s => (((((((((((((List.range 8).foldl (fun (s : State) a => s.put (AX_BIND_LEG__LEG_MASK a) 0) s).put (AX_BIND_LEG__LEG_MASK 3) 0x1C0).put (AX_STATE__STATE 3) 5).putB (AX_STATE__CLOSING 3) false).putB SAF_STATUS__ARMED true |>.put (SEAM_TRIP_RX__AXMASK 2) 8 |>.putB (SEAM_TRIP_RX__ON_LOSS 2) true)) |> seamPort 0 false)) |> seamPort 1 false)) |> seamPort 2 false) |>.putB SEAM_STATUS__JOINED true |>.putB SEAM_CFG__ROOT false |>.upSeam (fun m => { m with trips := [] }) |>.put (SEAM_TRIP_RX__LATCH 2) 8 |>.upAx 3 fun x => { x with safeDone := true })) (awake State.reset), 2, 3, by decide +kernel⟩,
   ⟨(fun s => (((((((((((((List.range 8).foldl (fun (s : State) a => s.put (AX_BIND_LEG__LEG_MASK a) 0) s).put (AX_BIND_LEG__LEG_MASK 3) 0x1C0).put (AX_STATE__STATE 3) 6).putB (AX_STATE__CLOSING 3) false).putB SAF_STATUS__ARMED true |>.put (SEAM_TRIP_RX__AXMASK 2) 8 |>.putB (SEAM_TRIP_RX__ON_LOSS 2) true)) |> seamPort 0 false)) |> seamPort 1 false)) |> seamPort 2 false) |>.putB SEAM_STATUS__JOINED true |>.putB SEAM_CFG__ROOT false |>.upSeam (fun m => { m with trips := [] }))) (awake State.reset), 3, by decide +kernel⟩,
   ⟨(fun s => (((((((((((((List.range 8).foldl (fun (s : State) a => s.put (AX_BIND_LEG__LEG_MASK a) 0) s).put (AX_BIND_LEG__LEG_MASK 3) 0x1C0).put (AX_STATE__STATE 3) 3).putB (AX_STATE__CLOSING 3) false).putB SAF_STATUS__ARMED true |>.put (SEAM_TRIP_RX__AXMASK 2) 8 |>.putB (SEAM_TRIP_RX__ON_LOSS 2) true)) |> seamPort 0 false)) |> seamPort 1 false)) |> seamPort 2 false) |>.putB SEAM_STATUS__JOINED true |>.putB SEAM_CFG__ROOT false |>.upSeam (fun m => { m with trips := [] }) |>.put (SEAM_TRIP_RX__AXMASK 2) 0 |>.put (SEAM_TRIP_RX__AXMASK 1) 0 |>.put (SEAM_TRIP_RX__AXMASK 0) 0 |>.put (SEAM_TRIP_RX__AXMASK 3) 0)) (awake State.reset), 3, by decide +kernel⟩,
   ⟨State.reset |> seamPort 0 false |> seamPort 1 false |> seamPort 2 false |>.putB SEAM_STATUS__JOINED true |>.putB SEAM_CFG__ROOT false |>.putB (SEAM_TRIP_RX__ON_LOSS 2) true, by decide +kernel⟩,
   ⟨State.reset.putB SEAM_STATUS__JOINED false, by decide +kernel⟩,
   ⟨(((((((State.reset) |> seamPort 0 true)) |> seamPort 1 true)) |> seamPort 2 false) |>.putB SEAM_STATUS__JOINED true |>.putB SEAM_CFG__ROOT false |>.put SEAM_STATUS__NODE 9 |>.putB SEAM_PD_CFG__EN true |>.putB (SEAM_PD_RXCFG__EN 2) true |>.put (SEAM_PD_RXCFG__ORIGIN 2) 5 |>.upSeam (fun m => { m with seen := [] }) |>.put SEAM_PD_CFG__WORDS_M1 0 |>.put (SEAM_PD_SRC__SRC 0 0) 0x50 |>.upSp 1 fun q => { q with q := List.replicate 16 { origin := 1, seq := 2, period := 10, words := [3] } }), by decide +kernel⟩,
   ⟨State.reset.putB SEAM_PD_CFG__EN false, by decide +kernel⟩,
   ⟨(((((((State.reset) |> seamPort 0 true)) |> seamPort 1 true)) |> seamPort 2 false) |>.putB SEAM_STATUS__JOINED true |>.putB SEAM_CFG__ROOT false |>.put SEAM_STATUS__NODE 9 |>.putB SEAM_PD_CFG__EN true |>.putB (SEAM_PD_RXCFG__EN 2) true |>.put (SEAM_PD_RXCFG__ORIGIN 2) 5 |>.upSeam (fun m => { m with seen := [] })), 1, 5, 2, by decide +kernel⟩,
   ⟨(((((((State.reset) |> seamPort 0 false)) |> seamPort 1 true)) |> seamPort 2 false) |>.putB SEAM_STATUS__JOINED true |>.putB SEAM_CFG__ROOT false |>.put SEAM_STATUS__NODE 9 |>.putB SEAM_PD_CFG__EN true |>.putB (SEAM_PD_RXCFG__EN 2) true |>.put (SEAM_PD_RXCFG__ORIGIN 2) 5 |>.upSeam (fun m => { m with seen := [] })), 1, 5, 2, 2, by decide +kernel⟩,
   ⟨(((((((State.reset) |> seamPort 0 false)) |> seamPort 1 true)) |> seamPort 2 false) |>.putB SEAM_STATUS__JOINED true |>.putB SEAM_CFG__ROOT false |>.put SEAM_STATUS__NODE 9 |>.putB SEAM_PD_CFG__EN true |>.putB (SEAM_PD_RXCFG__EN 2) true |>.put (SEAM_PD_RXCFG__ORIGIN 2) 5 |>.upSeam (fun m => { m with seen := [] })), 1, 6, 2, 2, by decide +kernel⟩,
   ⟨State.reset |> seamPort 0 false |> seamPort 1 true |> seamPort 2 false, 1, by decide +kernel⟩,
   ⟨State.reset |> seamPort 0 false |> seamPort 1 true |> seamPort 2 false, 2, 9, 7, true, by decide +kernel⟩,
   ⟨((State.reset.putB (SEAM_PD_RXCFG__EN 2) true).putB (SEAM_PD_RX_STAT__STALE 2) false).putB (SEAM_PD_RX_STAT__VALID 2) true, 2, by decide +kernel⟩,
   ⟨State.reset.putB (SEAM_PD_RX_STAT__STALE 2) true, 2, by decide +kernel⟩⟩

/-- States and operands that meet the conditions of MinSvnIsNeverLowered. -/
theorem witness_MinSvnIsNeverLowered :
    (∃ (s : State) (hdr : List Word), (dword hdr 3).toNat < s.get VLT_MIN_SVN__MIN_SVN) ∧
    (∃ (s : State) (hdr : List Word), s.get VLT_MIN_SVN__MIN_SVN ≤ (dword hdr 3).toNat) ∧
    (∃ (s : State) (p : Fin 4) (v : Word), s.portTakes p.val = true ∧ (s.port p.val).mse = true ∧ s.accessWaits false
      VLT_MIN_SVN = false ∧ s.sys.released = true ∧ s.on (HP_CFG__RO_PORT p.val) = false ∧ s.steward = p.val ∧ s.on
      (HP_DENY_INFO__VALID p.val) = false ∧ v.toNat < s.get VLT_MIN_SVN__MIN_SVN) ∧
    (∃ (s : State) (v : Word), s.accessWaits false VLT_MIN_SVN = false ∧ v.toNat < s.get VLT_MIN_SVN__MIN_SVN) ∧
    (∃ (s : State) (w : Writer) (v : Word), s.may w VLT_MIN_SVN v = true ∧ s.vq = [] ∧ s.vheld = []) :=
  ⟨⟨State.reset.put VLT_MIN_SVN__MIN_SVN 5, [0, 0, 0, 4], by decide +kernel⟩,
   ⟨State.reset.put VLT_MIN_SVN__MIN_SVN 5, [0, 0, 0, 5], by decide +kernel⟩,
   ⟨((stew 1 State.reset).putB (HP_DENY_INFO__VALID 1) false).put VLT_MIN_SVN__MIN_SVN 5, 1, 4, by decide +kernel⟩,
   ⟨(runs 2 State.reset).put VLT_MIN_SVN__MIN_SVN 5, 4, by decide +kernel⟩,
   ⟨{ ((stew 1 State.reset).putB (HP_DENY_INFO__VALID 1) false).put VLT_MIN_SVN__MIN_SVN 5 with vq := [] },
     .host 1, 6, by decide +kernel⟩⟩

/-- States and operands that meet the conditions of ErrorStopsTheContext. -/
theorem witness_ErrorStopsTheContext :
    (∃ (s : State) (c : Fin 256) (e : ExecS) (code : Nat) (detail : Nat), s.coreClk = true ∧ (s.ctx c.val).exec = some e ∧
      e.done = some (code, detail) ∧ code ≠ 0 ∧ code ≠ 6 ∧ (s.ctx c.val).stop = 0 ∧ s.ctxPhase c.val ≠ 7 ∧ nbit (dword e.words 0).toNat 1
      = true ∧ s.get (HP_CTX_CFG__SIZE_LOG2 c.val) ≤ 12) ∧
    (∃ (s : State) (c : Fin 256), (s.ctx c.val).stop = 1 ∧ (s.ctx c.val).exec = none ∧ s.coreClk = true) :=
  ⟨⟨((((awake State.reset).put (HP_CTX_CFG__SIZE_LOG2 9) 4).put (HP_CTX_STATE__PHASE 9) 3).upCtx 9 fun x => { x with exec := some { words := [0x80000002], done := some (3, 2) } }),
     9, { words := [0x80000002], done := some (3, 2) }, 3, 2, by decide +kernel⟩,
   ⟨(awake State.reset).upCtx 9 fun x => { x with stop := 1, exec := none }, 9, by decide +kernel⟩⟩


/-- States and operands that meet the conditions of CommandDescriptorsComplete. -/
theorem witness_CommandDescriptorsComplete :
    (∃ (s : State) (c : Fin 256) (e : ExecS), (s.ctx c.val).exec = some e ∧ opOf (dword e.words 0) = 0x00 ∧ e.done = none ∧ s.coreClk = true) ∧
    (∃ (s : State) (c : Fin 256) (e : ExecS), (s.ctx c.val).exec = some e ∧ opOf (dword e.words 0) = 0x60 ∧ e.done = none ∧ s.coreClk = true) ∧
    (∃ (s : State) (c : Fin 256) (e : ExecS) (a : Fin 8), (s.ctx c.val).exec = some e ∧ opOf (dword e.words 0) = 0x10 ∧ e.done = none ∧ e.phase = 0 ∧ s.coreClk = true ∧ unitOf (dword e.words 0) = a.val ∧ s.ss1Locks a.val = false) ∧
    (∃ (s : State) (c : Fin 256) (e : ExecS) (a : Fin 8), (s.ctx c.val).exec = some e ∧ opOf (dword e.words 0) = 0x11 ∧ e.done = none ∧ e.phase = 0 ∧ s.coreClk = true ∧ unitOf (dword e.words 0) = a.val ∧ (s.ax a.val).req = none ∧ s.on (AX_STATE__CLOSING a.val) = false ∧ s.on RED_STATUS__DSAFE = false ∧ s.axState a.val < 6 ∧ fieldGet (dword e.words 1) 0 4 = s.axState a.val) ∧
    (∃ (s : State) (c : Fin 256) (e : ExecS), (s.ctx c.val).exec = some e ∧ opOf (dword e.words 0) = 0x70 ∧ e.done = none ∧ e.phase = 0 ∧ s.coreClk = true ∧ s.commandPair = true) ∧
    (∃ (s : State) (c : Fin 256) (e : ExecS), (s.ctx c.val).exec = some e ∧ opOf (dword e.words 0) = 0x71 ∧ e.done = none ∧ e.flush = 0 ∧ (s.ctx c.val).stop ≠ 3 ∧ s.coreClk = true ∧ s.commandPair = true) ∧
    (∃ (s : State) (c : Fin 256) (e : ExecS) (k : Nat) (u : Nat) (r : Nat), (s.ctx c.val).exec = some e ∧ opOf (dword e.words 0) = 0x72 ∧ e.done = none ∧ e.phase = 0 ∧ s.coreClk = true ∧ s.commandPair = true ∧ s.on RED_SVC_STAT__BUSY = false ∧ k = fieldGet (dword e.words 1) 0 8 ∧ u = fieldGet (dword e.words 2) 0 4 ∧ r = fieldGet (dword e.words 3) 0 16 ∧ svcOk k u r = true) ∧
    (∃ (s : State) (p : Fin 4) (c : Fin 256) (a : Fin 8), s.mayPage p (0x1000 * c.val + 0x800 + 4 * a.val) = true ∧ s.ss1Locks a.val = false) :=
  ⟨⟨(awake State.reset).upCtx 9 fun x => { x with stop := 0, exec := some { words := [0x80000000], phase := 0 } }, 9, { words := [0x80000000], phase := 0 }, by decide +kernel⟩,
   ⟨(awake State.reset).upCtx 9 fun x => { x with stop := 0, exec := some { words := [0x80600000, 7], phase := 0 } }, 9, { words := [0x80600000, 7], phase := 0 }, by decide +kernel⟩,
   ⟨(awake (State.reset.putB (SAF_AX_STAT__SS1 3) false)).upCtx 9 fun x => { x with stop := 0, exec := some { words := [0x80100300, 77], phase := 0 } }, 9, { words := [0x80100300, 77], phase := 0 }, 3, by decide +kernel⟩,
   ⟨(awake ((State.reset.put (AX_STATE__STATE 3) 1).putB (AX_STATE__CLOSING 3) false)).upCtx 9 fun x => { x with stop := 0, exec := some { words := [0x80110300, 1], phase := 0 } }, 9, { words := [0x80110300, 1], phase := 0 }, 3, by decide +kernel⟩,
   ⟨(runs 2 State.reset).upCtx 9 fun x => { x with stop := 0, exec := some { words := [0x80700000], phase := 0 } }, 9, { words := [0x80700000], phase := 0 }, by decide +kernel⟩,
   ⟨(runs 2 State.reset).upCtx 9 fun x => { x with stop := 0, exec := some { words := [0x80710000], phase := 1 } }, 9, { words := [0x80710000], phase := 1 }, by decide +kernel⟩,
   ⟨(runs 2 State.reset).upCtx 9 fun x => { x with stop := 0, exec := some { words := [0x80720000, 6, 0, 0], phase := 0 } }, 9, { words := [0x80720000, 6, 0, 0], phase := 0 }, 6, 0, 0, by decide +kernel⟩,
   ⟨((ownCtx 1 9 (ownAx 1 3 State.reset)).put (HP_OWN_AX__DB_CTX 3) 9).putB (SAF_AX_STAT__SS1 3) false, 1, 9, 3, by decide +kernel⟩⟩

end Sys2Proof.Tests
end

section
/-! SUPPORT and O59. What the end of a descriptor and the end of a stop do to their context (R116, R117, R119). -/

namespace Sys2Proof.Laws

open Sys2Proof.Machine

section
variable (s : State)

/-! ## What two states share -/

theorem sameMem_of_sram {s t : State} (h : t.sram = s.sram) : SameMem s t := fun a => by unfold State.sramRd; rw [h]

theorem sameVault_of_vault {s t : State} (h : t.vault = s.vault) : SameVault s t := fun w => by
  unfold State.vaultRd State.vaultAt; rw [h]

theorem ctx_congr {s t : State} (h : t.ctxs = s.ctxs) (c : Nat) : t.ctx c = s.ctx c := by unfold State.ctx; rw [h]

theorem ctxPhase_congr {s t : State} (c : Nat) (h : t.rd (HP_CTX_STATE c) = s.rd (HP_CTX_STATE c)) : t.ctxPhase c = s.ctxPhase c :=
  get_congr (HP_CTX_STATE__PHASE c) h

theorem ctxState_lt {c : Nat} (hc : c < 256) : HP_CTX_STATE c < 0xC000 := by unfold HP_CTX_STATE; omega

/-- A bit of a word, read as a field and as a bit of a number. -/
theorem fieldGet_one_eq_nbit (w : Word) (i : Nat) : (fieldGet w i 1 == 1) = nbit w.toNat i := by
  have hbit : (fieldGet w i 1).testBit 0 = nbit w.toNat i := by
    rw [fieldGet_bit]; simp [nbit, BitVec.getLsbD]
  have hlt : fieldGet w i 1 < 2 := fieldGet_lt w i 1
  obtain h | h : fieldGet w i 1 = 0 ∨ fieldGet w i 1 = 1 := by omega
  all_goals rw [← hbit, h]; rfl

/-! ## The phase of a context -/

theorem ctxPhase_put_ne (c : Nat) (f : FieldRef) (v : Nat) (h : f.addr ≠ HP_CTX_STATE c) : (s.put f v).ctxPhase c = s.ctxPhase c :=
  ctxPhase_congr c (rd_put_ne s v h.symm)

@[simp] theorem ctxPhase_put_phase (c v : Nat) : (s.put (HP_CTX_STATE__PHASE c) v).ctxPhase c = v % 8 :=
  get_put s (HP_CTX_STATE__PHASE c) v (Nat.le_of_ble_eq_true rfl)

@[simp] theorem ctxPhase_put_head (c v : Nat) : (s.put (HP_CTX_STATE__HEAD c) v).ctxPhase c = s.ctxPhase c :=
  get_put_ne s (HP_CTX_STATE__HEAD c) (HP_CTX_STATE__PHASE c) v (Nat.le_of_ble_eq_true rfl) (.inr (.inr (Nat.le_of_ble_eq_true rfl)))

@[simp] theorem ctxPhase_putB_saturated (c : Nat) (b : Bool) : (s.putB (HP_CTX_STATE__SATURATED c) b).ctxPhase c = s.ctxPhase c :=
  get_put_ne s (HP_CTX_STATE__SATURATED c) (HP_CTX_STATE__PHASE c) _ (Nat.le_of_ble_eq_true rfl) (.inr (.inl (Nat.le_of_ble_eq_true rfl)))

theorem ctxPhase_putB_ne (c : Nat) (f : FieldRef) (b : Bool) (h : f.addr ≠ HP_CTX_STATE c) :
    (s.putB f b).ctxPhase c = s.ctxPhase c := ctxPhase_put_ne s c f _ h

@[simp] theorem ctxPhase_upCtx (c d : Nat) (g : CtxS → CtxS) : (s.upCtx d g).ctxPhase c = s.ctxPhase c :=
  ctxPhase_congr c (rd_congr (by simp) _)

theorem ctxPhase_raise {c : Nat} (hc : c < 256) (src unit detail : Nat) : (raise src unit detail s).ctxPhase c = s.ctxPhase c :=
  ctxPhase_congr c (raise_rd _ _ _ _ _ (by have := ctxState_lt hc; omega))

theorem ctxPhase_raiseFree {c : Nat} (hc : c < 256) (src unit : Nat) : (raiseFree src unit s).ctxPhase c = s.ctxPhase c :=
  ctxPhase_congr c (raiseFree_rd _ _ _ _ (by have := ctxState_lt hc; omega))

/-! ## What leaves the contexts alone -/

@[simp] theorem bankWr_ctxs (a sel w : Nat) (v : Word) : (bankWr a sel w v s).ctxs = s.ctxs := by
  unfold bankWr; dsimp only; split
  · split <;> simp
  · rfl

@[simp] theorem bankPartial_ctxs (a sel : Nat) : (bankPartial a sel s).ctxs = s.ctxs := by simp [bankPartial]

@[simp] theorem bankLoadEnd_ctxs (l : List Word) (blocks code : Nat) : (bankLoadEnd l blocks code s).ctxs = s.ctxs := by
  unfold bankLoadEnd; split
  · simp [bankCut]
  · rfl

@[simp] theorem pmReaders_ctxs (l : List Nat) : (pmReaders l s).ctxs = s.ctxs := by simp [pmReaders]

@[simp] theorem pairsShow_ctxs : (pairsShow s).ctxs = s.ctxs := by simp [pairsShow]

@[simp] theorem pairsShow_red : (pairsShow s).red = s.red := by simp [pairsShow]

@[simp] theorem rejoinShow_ctxs (ut unit : Nat) (shadow : Bool) : (rejoinShow ut unit shadow s).ctxs = s.ctxs := by
  unfold rejoinShow; (repeat' split) <;> simp

@[simp] theorem rejoinShow_red (ut unit : Nat) (shadow : Bool) : (rejoinShow ut unit shadow s).red = s.red := by
  unfold rejoinShow; (repeat' split) <;> simp

@[simp] theorem red_upRed (g : RedS → RedS) : (s.upRed g).red = g s.red := rfl

/-- A service action for which no descriptor waits ends without deciding the end of a descriptor. -/
theorem svcEnd_ctxs (r : Nat) (h : s.red.svcCtx = none) : (svcEnd r s).ctxs = s.ctxs := by
  unfold svcEnd; extract_lets s1 s2 s3
  have h2 : s2.ctxs = s.ctxs ∧ s2.red = s.red := by simp only [s2]; split <;> simp [s1]
  have h3 : s3 = s2 := by simp only [s3, h2.2, h]
  simp [h3, h2.1]

/-- A descriptor that ends leaves the requests, readers and actions that refer to it, and no context changes. -/
@[simp] theorem descDetach_ctxs (c : Nat) : (descDetach c s).ctxs = s.ctxs := by
  unfold descDetach; extract_lets s1 s2 v2 s3 q3 v3 s4 s5
  have h1 : s1.ctxs = s.ctxs := each_ctxs _ _ _ fun a s => by split <;> [split; skip] <;> simp
  have h2 : s2.ctxs = s.ctxs := by simp [s2, h1]
  have h3 : s3.ctxs = s.ctxs := by simp only [s3]; (repeat' split) <;> exact h2
  have h4 : s4.ctxs = s.ctxs := by simp only [s4]; split <;> simp [q3, h3]
  have h5 : s5.ctxs = s.ctxs := by simp [s5, h4]
  split
  · rw [svcEnd_ctxs _ _ (by simp)]; simp [h5]
  · exact h5

/-! ## The parts of the end of a descriptor (R116) -/

/-- The ledger entry of a descriptor that ends: its code and detail, and DONE with SEQ or INTERRUPTED. -/
def ledgerEnd (c code detail : Nat) (completes : Bool) (s : State) : State :=
  let s := (s.put (HP_CTX_LEDGER2__CODE c) code).put (HP_CTX_LEDGER2__DETAIL c) detail
  if completes then (s.putB (HP_CTX_LEDGER0__DONE c) true).put (HP_CTX_LEDGER3__SEQ c) (s.get (HP_CTX_LEDGER3__SEQ c) + 1)
  else s.putB (HP_CTX_LEDGER0__INTERRUPTED c) true

/-- The descriptor is handed back to its host, or its write-back is held at the port. -/
def handBack (c : Nat) (e : ExecS) (code detail : Nat) (s : State) : State :=
  let w := s.writeBack c e code detail
  if (s.ctx c).stop = 3 then s
  else if s.portIssues e.port && decide (s.get (HP_LINK__LPM e.port) < 4) then w.foldl (fun s x => s.emit (.memWrite e.port x.1 x.2)) s
  else s.when (decide (e.port < 4)) fun s => s.upPort e.port fun q => { q with wbHeld := q.wbHeld ++ w }

/-- The end of a descriptor up to the choice between a stop and the next descriptor. -/
def descClosed (c : Nat) (e : ExecS) (code detail : Nat) (completes : Bool) (s : State) : State :=
  let s := handBack c e code detail (ledgerEnd c code detail completes (bankLoadEnd e.words e.phase code s))
  let s := s.put (HP_CTX_STATE__HEAD c) ((s.ctxHead c + 1) % s.ctxSize c)
  let s := s.when (fieldGet (dword e.words 0) 0 1 == 1) (raise 16 c (e.idx + code * 2 ^ 16))
  satStep c (descDetach c (s.upCtx c fun x => { x with exec := none }))

theorem descEnd_eq (c : Nat) (e : ExecS) (code detail : Nat) (completes : Bool) :
    descEnd c e code detail completes s =
      let s := (descClosed c e code detail completes s).when
        (completes && code != 0 && fieldGet (dword e.words 0) 1 1 == 1) (ctxStopReq c 1)
      if (s.ctx c).stop ≠ 0 then s else fetchNext c (s.when (s.ctxPhase c == 3) fun s => s.put (HP_CTX_STATE__PHASE c) 1) := rfl

@[simp] theorem ledgerEnd_ctxs (c code detail : Nat) (completes : Bool) : (ledgerEnd c code detail completes s).ctxs = s.ctxs := by
  unfold ledgerEnd; cases completes <;> simp

@[simp] theorem ledgerEnd_ctxPhase (c code detail : Nat) (completes : Bool) :
    (ledgerEnd c code detail completes s).ctxPhase c = s.ctxPhase c := by
  have h0 : 0x8020 + 0x40 * c ≠ HP_CTX_STATE c := by unfold HP_CTX_STATE; omega
  have h2 : 0x8028 + 0x40 * c ≠ HP_CTX_STATE c := by unfold HP_CTX_STATE; omega
  have h3 : 0x802C + 0x40 * c ≠ HP_CTX_STATE c := by unfold HP_CTX_STATE; omega
  cases completes
  · simp only [ledgerEnd, Bool.false_eq_true, if_false]
    rw [ctxPhase_putB_ne _ _ _ _ h0, ctxPhase_put_ne _ _ _ _ h2, ctxPhase_put_ne _ _ _ _ h2]
  · simp only [ledgerEnd, if_true]
    rw [ctxPhase_put_ne _ _ _ _ h3, ctxPhase_putB_ne _ _ _ _ h0, ctxPhase_put_ne _ _ _ _ h2, ctxPhase_put_ne _ _ _ _ h2]

/-- A write-back changes neither a context nor a register. -/
theorem handBack_ctxs_regs (c : Nat) (e : ExecS) (code detail : Nat) :
    (handBack c e code detail s).ctxs = s.ctxs ∧ (handBack c e code detail s).regs = s.regs := by
  unfold handBack; dsimp only; split
  · exact ⟨rfl, rfl⟩
  · split
    · simp [State.writeBack]
    · cases decide (e.port < 4) <;> simp

@[simp] theorem satStep_ctx (c : Nat) :
    (satStep c s).ctx c = { s.ctx c with above := decide (s.get (HP_CTX_CFG__HWM c) < s.occupancy c) } := by
  unfold satStep State.when; dsimp only; split
  · split <;> simp
  · simp

theorem satStep_ctxPhase {c : Nat} (hc : c < 256) : (satStep c s).ctxPhase c = s.ctxPhase c := by
  have hev : 0x8018 + 0x40 * c ≠ HP_CTX_STATE c := by unfold HP_CTX_STATE; omega
  unfold satStep State.when; dsimp only; split
  · split
    · rw [ctxPhase_raiseFree _ hc, ctxPhase_putB_ne _ _ _ _ hev]; simp
    · simp
  · simp

/-- The end of a descriptor changes its context by taking the descriptor out of execution and judging the occupancy again. -/
theorem descClosed_ctx (c : Nat) (e : ExecS) (code detail : Nat) (completes : Bool) :
    ∃ b, (descClosed c e code detail completes s).ctx c = { s.ctx c with exec := none, above := b } := by
  unfold descClosed; extract_lets s1 s2 s3
  have h1 : s1.ctxs = s.ctxs := by simp [s1, handBack_ctxs_regs]
  have h3 : s3.ctx c = s.ctx c := ctx_congr (by simp [s3, s2, h1]) c
  rw [satStep_ctx, ctx_congr (descDetach_ctxs _ c), ctx_upCtx, if_pos rfl, h3]
  exact ⟨_, rfl⟩

/-- And it leaves the phase to what follows it. -/
theorem descClosed_ctxPhase {c : Nat} (hc : c < 256) (e : ExecS) (code detail : Nat) (completes : Bool) :
    (descClosed c e code detail completes s).ctxPhase c = s.ctxPhase c := by
  have hlt := ctxState_lt hc
  unfold descClosed; extract_lets s1 s2 s3
  have h1 : s1.ctxPhase c = s.ctxPhase c := by
    rw [ctxPhase_congr c (rd_congr (handBack_ctxs_regs _ _ _ _ _).2 _), ledgerEnd_ctxPhase]
    exact ctxPhase_congr c (bankLoadEnd_rd _ _ _ _ _ (by omega))
  have h2 : s2.ctxPhase c = s1.ctxPhase c := ctxPhase_put_head s1 c _
  have h3 : s3.ctxPhase c = s2.ctxPhase c := when_keep _ (State.ctxPhase · c) _ _ fun s => ctxPhase_raise s hc _ _ _
  rw [satStep_ctxPhase _ hc, ctxPhase_congr c (descDetach_rd _ _ _ (by omega)), ctxPhase_upCtx, h3, h2, h1]

/-! ## Stops (R117, R119) -/

/-- A context that is neither stopping nor stopped takes the cause and is in its drain. -/
theorem ctxStopReq_stops (c cause : Nat) (hs : (s.ctx c).stop = 0) (hp : s.ctxPhase c ≠ 7) :
    (ctxStopReq c cause s).ctx c = { s.ctx c with stop := cause, stopAt := s.get (HP_CTX_LEDGER1__STEPS c) } ∧
    (ctxStopReq c cause s).ctxPhase c = 6 := by
  have hno : ¬ (s.get (HP_CTX_STATE__PHASE c) = 7 ∨ (s.ctx c).stop ≠ 0 ∧ cause ≠ 3) := by
    simpa [hs, State.ctxPhase] using hp
  unfold ctxStopReq; rw [if_neg hno]; simp

/-- A decided end other than an interruption is a completion, but for a failure caused by the loss of the host (R120). -/
theorem descOutcome_done {c : Nat} {e : ExecS} {code detail : Nat} (hd : e.done = some (code, detail)) (h6 : code ≠ 6)
    (hs : (s.ctx c).stop ≠ 3) : s.descOutcome c e = some (code, detail, true) := by
  unfold State.descOutcome; rw [hd]
  split <;> simp_all

/-- R117: with ERR_STOP set, a code other than OK asks its context to stop, and nothing of the next descriptor is read. -/
theorem descEnd_errStop (c : Nat) (e : ExecS) (code detail : Nat) (h0 : code ≠ 0) (herr : nbit (dword e.words 0).toNat 1 = true)
    (hs : (s.ctx c).stop = 0) (hp : (descClosed c e code detail true s).ctxPhase c ≠ 7) :
    descEnd c e code detail true s = ctxStopReq c 1 (descClosed c e code detail true s) := by
  obtain ⟨b, hctx⟩ := descClosed_ctx s c e code detail true
  have hstop := ctxStopReq_stops _ c 1 (by rw [hctx]; exact hs) hp
  have hcond : (true && code != 0 && fieldGet (dword e.words 0) 1 1 == 1) = true := by
    simp [fieldGet_one_eq_nbit, herr, h0]
  rw [descEnd_eq, hcond]
  simp [hstop]

theorem descFinish_of_exec {c : Nat} {e : ExecS} {code detail : Nat} {completes : Bool} (he : (s.ctx c).exec = some e)
    (ho : s.descOutcome c e = some (code, detail, completes)) : descFinish c s = descEnd c e code detail completes s := by
  unfold descFinish; rw [he]; simp only [ho]

theorem descFinish_idle {c : Nat} (he : (s.ctx c).exec = none) : descFinish c s = s := by unfold descFinish; rw [he]

/-- The dispatcher serves a context that has its descriptor and waits for a slot, phase 2, and no other. -/
theorem backlogged_of_ctxPhase_ne {c : Nat} (h : s.ctxPhase c ≠ 2) : s.backlogged c = false := by
  simp [State.backlogged, h]

/-! ## The next reads (R102) -/

@[simp] theorem fetchNext_exec (i c : Nat) : ((fetchNext i s).ctx c).exec = (s.ctx c).exec := by
  unfold fetchNext; dsimp only; split
  · rw [ctx_upCtx]; split <;> simp_all
  · rfl

@[simp] theorem fetchAll_exec (c : Nat) : ((fetchAll s).ctx c).exec = (s.ctx c).exec :=
  each_keep s (fun s => (s.ctx c).exec) _ _ fun i s => fetchNext_exec s i c

@[simp] theorem fetchAll_ctxPhase (c : Nat) : (fetchAll s).ctxPhase c = s.ctxPhase c := ctxPhase_congr c (fetchAll_rd _ _)

@[simp] theorem ctxHalted_exec (c : Nat) : ((ctxHalted c s).ctx c).exec = (s.ctx c).exec := by simp [ctxHalted]

theorem ctxHalted_ctxPhase {c : Nat} (hc : c < 256) : (ctxHalted c s).ctxPhase c = 7 := by
  have hev : 0x8018 + 0x40 * c ≠ HP_CTX_STATE c := by unfold HP_CTX_STATE; omega
  unfold ctxHalted; dsimp only
  rw [ctxPhase_raiseFree _ hc, ctxPhase_putB_ne _ _ _ _ hev, ctxPhase_put_phase]

end

/-- Settles O59: the end of a descriptor with ERR_STOP asks for the stop, the dispatcher passes over a phase other than 2, and
the end of the stop is `ctxHalted`. -/
theorem errorStopsTheContext : Obligations.ErrorStopsTheContext := by
  refine ⟨fun s c e code detail hclk he hd h0 h6 hs hp herr _ => ?_, fun s c hp => ?_, fun s c hs he hclk => ?_⟩
  · have hfin : descFinish c.val s = descEnd c.val e code detail true s :=
      descFinish_of_exec s he (descOutcome_done s hd h6 (by omega))
    have hp' : (descClosed c.val e code detail true s).ctxPhase c.val ≠ 7 := by rwa [descClosed_ctxPhase s c.isLt]
    obtain ⟨b, hctx⟩ := descClosed_ctx s c.val e code detail true
    obtain ⟨hstop, hdrain⟩ := ctxStopReq_stops _ c.val 1 (by rw [hctx]; exact hs) hp'
    have hend := descEnd_errStop s c.val e code detail h0 herr hs hp'
    refine ⟨descFinish c.val s, by simp [exec, execDescriptorComplete, hclk], ?_, ?_, ?_, ?_,
      sameMem_of_sram (descFinish_kept _ _).2.1, sameVault_of_vault (descFinish_kept _ _).2.2⟩
    all_goals rw [hfin, hend]
    · rw [hstop, hctx]
    · rw [hstop]
    · exact hdrain
    · rw [hstop, hctx]
  · exact backlogged_of_ctxPhase_ne s (by omega)
  · refine ⟨fetchAll (ctxHalted c.val s), by simp [exec, execCtxStopped, descFinish_idle s he, hs, he, hclk], ?_, ?_,
      sameMem_of_sram (by simp), sameVault_of_vault (by simp)⟩
    · rw [fetchAll_ctxPhase, ctxHalted_ctxPhase s c.isLt]
    · rw [fetchAll_exec, ctxHalted_exec, he]

end Sys2Proof.Laws
end

section
/-! SUPPORT and O58. A write that its register's own rules refuse leaves a record and nothing else (R85 to R92), and the lowest
SVN accepted for firmware is never lowered (R430). -/

namespace Sys2Proof.Laws

open Sys2Proof.Machine

section
variable (s : State)

/-! ## The checks of an image (R431) -/

/-- An image of firmware with a smaller SVN fails at the check of its SVN or at one before it. -/
theorem imageCode_of_svn_lt {hdr payload trailer : List Word} {pages : Option Nat}
    (h : (dword hdr 3).toNat < s.get VLT_MIN_SVN__MIN_SVN) : s.imageCode 1 hdr payload trailer pages ∈ Set.Icc 2 9 := by
  unfold State.imageCode; extract_lets w
  have hsvn : 1 = 1 ∧ w 3 < s.get VLT_MIN_SVN__MIN_SVN := ⟨rfl, h⟩
  rw [if_pos hsvn]
  repeat refine iteInduction (motive := (· ∈ Set.Icc 2 9)) (fun _ => by decide) fun _ => ?_
  decide

/-- Only the check of the SVN answers code 9. -/
theorem imageCode_ne_nine_of_svn_ge {hdr payload trailer : List Word} {pages : Option Nat}
    (h : s.get VLT_MIN_SVN__MIN_SVN ≤ (dword hdr 3).toNat) : s.imageCode 1 hdr payload trailer pages ≠ 9 := by
  unfold State.imageCode; extract_lets w
  have hsvn : ¬ (1 = 1 ∧ w 3 < s.get VLT_MIN_SVN__MIN_SVN) := fun hlt => Nat.not_lt.mpr h hlt.2
  rw [if_neg hsvn]
  repeat refine iteInduction (motive := (· ≠ 9)) (fun _ => by decide) fun _ => ?_
  decide

/-! ## A write on its way to the rules of its register -/

/-- A write of a whole word whose clock runs is made on the bus. -/
theorem access_write {w : Writer} {a : Nat} (v : Word) (hw : s.accessWaits false a = false) (ha : a < 2 ^ 20) (h4 : a % 4 = 0) :
    access w { bar2 := false, addr := BitVec.ofNat 20 a, be := 0xF#4, value := some v } s = doWrite w false a v s := by
  have hn : (BitVec.ofNat 20 a).toNat = a := by rw [BitVec.toNat_ofNat]; exact Nat.mod_eq_of_lt ha
  simp [access, hn, hw, h4]

/-- A host's write command, where its port takes requests and the register's clock runs. -/
theorem writeCmd_host {p : Fin 4} {a : Nat} (v : Word) (ht : s.portTakes p.val = true) (hm : (s.port p.val).mse = true)
    (hw : s.accessWaits false a = false) (ha : a < 2 ^ 20) (h4 : a % 4 = 0) :
    writeCmd (.host p) false a v s = doWrite (.host p) false a v (arrived (.host p) s) := by
  have hawake := awake_of_goes s hw
  obtain ⟨R, bw, hu, hrd⟩ := arrived_waked s (.host p) hawake
  have ht' : (arrived (.host p) s).portTakes p.val = true := by rw [hu, portTakes_waked s R bw hrd]; exact ht
  have hm' : ((arrived (.host p) s).port p.val).mse = true := by rw [hu]; exact hm
  have hw' : (arrived (.host p) s).accessWaits false a = false := by rw [hu, accessWaits_waked s R bw hrd]; exact hw
  rw [← access_write _ v hw' ha h4]
  simp only [arrived] at ht' hm' ⊢
  simp [writeCmd, hostAccess, portTakes_up s ht, hawake, ht', hm']

/-- A firmware write command of a pair that executes, where the register's clock runs. -/
theorem writeCmd_firmware {n : Fin 5} {a : Nat} (v : Word) (hn : s.pairRuns n.val = true) (hw : s.accessWaits false a = false)
    (ha : a < 2 ^ 20) (h4 : a % 4 = 0) : writeCmd (.firmware n) false a v s = doWrite (.firmware n) false a v s := by
  simp only [writeCmd, hn, if_true]
  exact access_write s v hw ha h4

theorem writeCmd_firmware_stopped {n : Fin 5} (bar2 : Bool) (a : Nat) (v : Word) (hn : s.pairRuns n.val = false) :
    writeCmd (.firmware n) bar2 a v s = s := by simp [writeCmd, hn]

/-! ## Refusals and their records (R92) -/

theorem denyW_firmware (n : Fin 5) (a : Nat) (bar2 : Bool) (reason : Nat) : denyW (.firmware n) a bar2 reason s = s := rfl

/-- A write that its register's own rules refuse with reason 4 leaves the record of a denial alone. -/
theorem doWrite_of_valueReason_four {w : Writer} {a : Nat} {v : Word} {r : RegRow} {i j : Nat} (hm : msixAddr a = false)
    (hk : s.writeReason w false a = 0) (hr : findRow a = some (r, i, j)) (hv : s.valueReason w r i j v = 4) :
    doWrite w false a v s = denyW w a false 4 s := by
  have hb : busWrite w a v none s = .refused 4 := by simp [busWrite, hk, ruledWrite, hr, hv]
  simp [doWrite, hm, hb, refuseRecord, ownBad, xferBad, quietDrop]

/-- The first denial of a port shows its address and reason and is valid. -/
theorem deny_first (p addr : Nat) (bar2 : Bool) (reason : Nat) (hp : p < 4) (h : s.on (HP_DENY_INFO__VALID p) = false) :
    (deny p addr bar2 reason s).on (HP_DENY_INFO__VALID p) = true ∧
    (deny p addr bar2 reason s).get (HP_DENY_INFO__REASON p) = reason % 16 ∧
    (deny p addr bar2 reason s).rd (HP_DENY_ADDR p) = BitVec.ofNat 32 addr := by
  have hinfo : 0x110C + 0x40 * p < 0x78000 := by omega
  have haddr : HP_DENY_ADDR p < 0x78000 := by unfold HP_DENY_ADDR; omega
  have hev : 0x110C + 0x40 * p ≠ 0x1200 := by omega
  have haev : HP_DENY_ADDR p ≠ 0x1200 := by unfold HP_DENY_ADDR; omega
  have hai : HP_DENY_ADDR p ≠ 0x110C + 0x40 * p := by unfold HP_DENY_ADDR; omega
  have hfree : (talCount 0x62 (8 + p) 1 0 s).on (HP_DENY_INFO__VALID p) = false := by
    unfold State.on; rw [get_congr _ (talCount_rd _ _ _ _ s _ (by simp only [HP_DENY_INFO__VALID]; omega))]; exact h
  unfold deny; extract_lets s1 s2 s3
  rw [if_neg (by rw [hfree]; decide)]
  have hlast : ∀ A, A < 0x78000 → A ≠ 0x1200 → (raiseFree 6 p (s3.putBit HP_EVENT__DENIED p true)).rd A = s3.rd A :=
    fun A hA hne => (raiseFree_rd _ _ _ _ hA).trans (rd_put_ne _ _ hne)
  refine ⟨?_, ?_, ?_⟩
  · have hon : s3.on (HP_DENY_INFO__VALID p) = true := on_putB _ _ _ (Nat.le_of_ble_eq_true rfl) (Nat.le_of_ble_eq_true rfl)
    unfold State.on at hon ⊢
    rwa [get_congr _ (hlast _ hinfo hev)]
  · rw [get_congr _ (hlast _ hinfo hev)]
    simp only [s3, s2, State.putB]
    rw [get_put_ne _ _ _ _ (Nat.le_of_ble_eq_true rfl) (.inr (.inl (Nat.le_of_ble_eq_true rfl))),
      get_put_ne _ _ _ _ (Nat.le_of_ble_eq_true rfl) (.inr (.inl (Nat.le_of_ble_eq_true rfl))),
      get_put _ _ _ (Nat.le_of_ble_eq_true rfl)]
    rfl
  · rw [hlast _ haddr haev]
    simp only [s3, s2, State.putB]
    rw [rd_put_ne _ _ hai, rd_put_ne _ _ hai, rd_put_ne _ _ hai, rd_put_ne _ _ hai, rd_wr_same]

/-- A denial leaves the registers between HP_EVENT and the event rings alone. -/
theorem deny_rd_above (p addr : Nat) (bar2 : Bool) (reason A : Nat) (hp : p < 4) (hlo : 0x1200 < A) (hA : A < 0x78000) :
    (deny p addr bar2 reason s).rd A = s.rd A := by
  have hev : A ≠ 0x1200 := by omega
  have haddr : A ≠ HP_DENY_ADDR p := by unfold HP_DENY_ADDR; omega
  have hinfo : A ≠ 0x110C + 0x40 * p := by omega
  have htal : (talCount 0x62 (8 + p) 1 0 s).rd A = s.rd A := talCount_rd _ _ _ _ s A (by omega)
  unfold deny; extract_lets s1 s2 s3
  split
  · exact (rd_put_ne _ _ hinfo).trans htal
  · refine (raiseFree_rd _ _ _ _ hA).trans ((rd_put_ne _ _ hev).trans ?_)
    simp only [s3, s2, State.putB]
    rw [rd_put_ne _ _ hinfo, rd_put_ne _ _ hinfo, rd_put_ne _ _ hinfo, rd_put_ne _ _ hinfo, rd_wr_ne _ _ haddr]
    exact htal

/-! ## The register VLT_MIN_SVN (R430) -/

/-- Its row of the register map. -/
def minSvnRow : RegRow := ⟨0x6000C, 1, 4, 1, 4, .vault, false, 0, 0, 0xFFFFFFFF, 0, 210, 0⟩

theorem findRow_minSvn : findRow VLT_MIN_SVN = some (minSvnRow, 0, 0) := row_VLT_MIN_SVN

/-- Its rule: no commit of it that is queued, and not the value it has, is above the value written. -/
theorem valueReason_minSvn (w : Writer) (v : Word) : s.valueReason w minSvnRow 0 0 v =
    r4 ((s.vq.filter fun c => c.word == 210).all (fun c => c.value.toNat ≤ v.toNat) && s.get VLT_MIN_SVN__MIN_SVN ≤ v.toNat) := by
  simp [State.valueReason, State.checkVlt, minSvnRow, VLT_WORD, VLT_MIN_SVN, PWR_CTRL]

theorem valueReason_minSvn_of_lt (w : Writer) {v : Word} (h : v.toNat < s.get VLT_MIN_SVN__MIN_SVN) :
    s.valueReason w minSvnRow 0 0 v = 4 := by
  rw [valueReason_minSvn, decide_eq_false (Nat.not_le.mpr h), Bool.and_false]; rfl

theorem minSvn_le_of_valueReason {w : Writer} {v : Word} (h : s.valueReason w minSvnRow 0 0 v = 0) :
    s.get VLT_MIN_SVN__MIN_SVN ≤ v.toNat := by
  by_contra hlt
  rw [valueReason_minSvn_of_lt s w (Nat.not_le.mp hlt)] at h
  exact absurd h (by decide)

/-- The steward's port may write it, unless the port is read-only or firmware is not released. -/
theorem writeReason_minSvn_steward {p : Fin 4} (hrel : s.sys.released = true) (hro : s.on (HP_CFG__RO_PORT p.val) = false)
    (hst : s.steward = p.val) : s.writeReason (.host p) false VLT_MIN_SVN = 0 := by
  simp [State.writeReason, hro, hrel, findRow_minSvn, minSvnRow, State.hostReason, hst]

theorem writeReason_minSvn_firmware (n : Fin 5) : s.writeReason (.firmware n) false VLT_MIN_SVN = 0 := by
  simp [State.writeReason, findRow_minSvn, minSvnRow, State.fwReason]

/-- The steward's write that would lower it: what the request finds, and the record of a denial with reason 4. -/
theorem writeCmd_minSvn_steward_lowers {p : Fin 4} {v : Word} (ht : s.portTakes p.val = true) (hm : (s.port p.val).mse = true)
    (hw : s.accessWaits false VLT_MIN_SVN = false) (hrel : s.sys.released = true) (hro : s.on (HP_CFG__RO_PORT p.val) = false)
    (hst : s.steward = p.val) (hlt : v.toNat < s.get VLT_MIN_SVN__MIN_SVN) :
    writeCmd (.host p) false VLT_MIN_SVN v s = deny p.val VLT_MIN_SVN false 4 (arrived (.host p) s) := by
  obtain ⟨R, bw, hu, hrd⟩ := arrived_waked s (.host p) (awake_of_goes s hw)
  have hI : ∀ r i j, findRow VLT_MIN_SVN = some (r, i, j) → i < 1000 := fun r i j hr => by
    rw [findRow_minSvn] at hr; cases hr; decide
  have hk : (arrived (.host p) s).writeReason (.host p) false VLT_MIN_SVN = 0 := by
    rw [hu, writeReason_waked s R bw hrd _ _ _ (by decide) hI]; exact writeReason_minSvn_steward s hrel hro hst
  have hv : (arrived (.host p) s).valueReason (.host p) minSvnRow 0 0 v = 4 := by
    rw [hu, valueReason_waked s R bw hrd]; exact valueReason_minSvn_of_lt s _ hlt
  rw [writeCmd_host s v ht hm hw (by decide) (by decide),
    doWrite_of_valueReason_four _ (by decide) hk findRow_minSvn hv]
  rfl

/-- A firmware write that would lower it changes nothing. -/
theorem writeCmd_minSvn_firmware_lowers {n : Fin 5} {v : Word} (hw : s.accessWaits false VLT_MIN_SVN = false)
    (hlt : v.toNat < s.get VLT_MIN_SVN__MIN_SVN) : writeCmd (.firmware n) false VLT_MIN_SVN v s = s := by
  cases hn : s.pairRuns n.val with
  | false => exact writeCmd_firmware_stopped s _ _ _ hn
  | true =>
    rw [writeCmd_firmware s v hn hw (by decide) (by decide), doWrite_of_valueReason_four s (by decide)
      (writeReason_minSvn_firmware s n) findRow_minSvn (valueReason_minSvn_of_lt s _ hlt), denyW_firmware]

/-! ## A commit that enters an empty queue (R421, R422) -/

@[simp] theorem vqShow_vq : (vqShow s).vq = s.vq := by simp [vqShow]

/-- A commit of a word that is not of the ownership of contexts starts at once in an empty queue. -/
theorem vqPush_vq_of_empty {word : Nat} (v : Word) (ctx : Option Nat) (he : s.vq = []) (hword : word < 172 ∨ 203 < word) :
    (vqPush word v ctx s).vq = [{ word := word, value := v, ctx := ctx }] := by
  simp [vqPush, he, vqStart, State.ctxChanges, hword]

/-- The effect of a write of VLT_MIN_SVN: the register is PV alone, so that its value goes to word 210 through the queue. -/
theorem regEffect_minSvn (w : Writer) (v : Word) : regEffect w minSvnRow VLT_MIN_SVN 0 0 v none s =
    (vqPush 210 v none (s.wr VLT_MIN_SVN (minSvnRow.stored (s.rd VLT_MIN_SVN) v)), 0) := by
  have hword : vaultWord VLT_MIN_SVN = some 210 := by simp [vaultWord, findRow_minSvn, minSvnRow]
  have hall : v &&& BitVec.ofNat 32 minSvnRow.pv = v := BitVec.and_allOnes
  have hpv : minSvnRow.pv ≠ 0 := by decide
  have hown : effSafe minSvnRow VLT_MIN_SVN 0 v s = none := rfl
  have heff : regEffect w minSvnRow VLT_MIN_SVN 0 0 v none s =
      (effSafe minSvnRow VLT_MIN_SVN 0 v s).getD (regStore minSvnRow VLT_MIN_SVN v none s, 0) := by
    simp [regEffect, minSvnRow, VLT_WORD]
  simp only [heff, hown, Option.getD_none, regStore, hpv, if_false, hword, hall]

/-- A write that may be made is at least the value that the register has. -/
theorem minSvn_le_of_may {w : Writer} {v : Word} (h : s.may w VLT_MIN_SVN v = true) : s.get VLT_MIN_SVN__MIN_SVN ≤ v.toNat := by
  obtain ⟨-, -, -, r, i, j, hr, hv⟩ := may_parts s h
  rw [findRow_minSvn] at hr; cases hr
  exact minSvn_le_of_valueReason s hv

/-- Its commit is the only one of a queue that was empty. -/
theorem writeCmd_minSvn_vq {w : Writer} {v : Word} (h : s.may w VLT_MIN_SVN v = true) (hq : s.vq = []) (hh : s.vheld = []) :
    (writeCmd w false VLT_MIN_SVN v s).vq = [{ word := 210, value := v, ctx := none }] := by
  obtain ⟨-, hw, -⟩ := may_parts s h
  obtain ⟨R, bw, hu, -⟩ := arrived_waked s w (awake_of_goes s hw)
  have hroom : s.vqFull = false := by simp [State.vqFull, hq, hh]
  rw [writeCmd_may s h (by decide) (by decide) (by decide) findRow_minSvn (by decide) (by rw [hroom, Bool.and_false]),
    regEffect_minSvn, refuseRecord_zero]
  refine vqPush_vq_of_empty _ _ _ ?_ (by decide)
  simp [hu, waked, hq]

end

/-- Settles O58: the checks of an image stop at a smaller SVN and at no other, the rule of VLT_MIN_SVN refuses a smaller value
with reason 4, and an accepted value enters the queue of the vault. -/
theorem minSvnIsNeverLowered : Obligations.MinSvnIsNeverLowered := by
  refine ⟨fun s hdr payload trailer pages hlt => ?_, fun s hdr payload trailer pages hle => imageCode_ne_nine_of_svn_ge s hle,
    fun s p v ht hm hw hrel hro hst hfree hlt => ?_, fun s n v hw hlt => ?_, fun s w v hmay hvq hheld => ?_⟩
  · exact Nat.ne_of_gt (Nat.lt_of_lt_of_le Nat.two_pos (imageCode_of_svn_lt s hlt).1)
  · obtain ⟨R, bw, hu, hrd⟩ := arrived_waked s (.host p) (awake_of_goes s hw)
    have hcmd := writeCmd_minSvn_steward_lowers s ht hm hw hrel hro hst hlt
    have hfree' : (arrived (.host p) s).on (HP_DENY_INFO__VALID p.val) = false := by
      rw [hu, on_waked s R bw hrd _ (by simp only [HP_DENY_INFO__VALID, PWR_WAKE_CAUSE]; omega)]; exact hfree
    obtain ⟨hvalid, hreason, haddr⟩ := deny_first _ p.val VLT_MIN_SVN false 4 p.isLt hfree'
    have hsvn : (deny p.val VLT_MIN_SVN false 4 (arrived (.host p) s)).rd VLT_MIN_SVN = s.rd VLT_MIN_SVN := by
      rw [deny_rd_above _ _ _ _ _ _ p.isLt (by decide) (by decide), hu, hrd _ (by decide)]
    refine ⟨_, rfl, ?_⟩
    rw [hcmd]
    refine ⟨hvalid, hreason, haddr, hsvn, ?_, ?_, sameMem_of_sram ?_, sameVault_of_vault ?_⟩ <;> simp [hu, waked]
  · exact congrArg Host.Outcome.next (writeCmd_minSvn_firmware_lowers s hw hlt)
  · obtain ⟨-, hsram, hvault⟩ := writeCmd_kept w false VLT_MIN_SVN v s
    refine ⟨_, rfl, minSvn_le_of_may s hmay, ?_, sameMem_of_sram hsram, sameVault_of_vault hvault⟩
    rw [writeCmd_minSvn_vq s hmay hvq hheld]
    rfl

end Sys2Proof.Laws
end

section
/-! SUPPORT. What each command leaves alone: the queue of waiting commands, the shared SRAM and the committed vault words. -/

namespace Sys2Proof.Laws

open Sys2Proof.Machine
-- One declaration after another: the whole text is checked as one file, within a bound on memory.
set_option Elab.async false

/-- The command leaves the queue, the shared SRAM and the vault as they were. -/
def Keeps (s : State) (o : Host.Outcome State Fault Refusal) : Prop :=
  ∀ t, o = .next t → t.pending = s.pending ∧ t.sram = s.sram ∧ t.vault = s.vault

@[simp] theorem keeps_next (s t : State) : Keeps s (.next t) ↔ t.pending = s.pending ∧ t.sram = s.sram ∧ t.vault = s.vault := by
  simp [Keeps]

/-! ## What is kept, operation by operation -/

/-- A state with the queue, the shared SRAM and the vault of another. -/
def Kept (s t : State) : Prop := t.pending = s.pending ∧ t.sram = s.sram ∧ t.vault = s.vault

theorem keeps_of_kept {s t : State} (h : Kept s t) : Keeps s (.next t) := fun u hu => by
  cases hu
  exact h

section Kept
variable {s t u : State}

theorem kept_rfl (s : State) : Kept s s := ⟨rfl, rfl, rfl⟩

/-- What an operation of the model keeps, after what has been kept so far. -/
theorem kept_then (hu : u.pending = t.pending ∧ u.sram = t.sram ∧ u.vault = t.vault) (h : Kept s t) : Kept s u :=
  ⟨hu.1.trans h.1, hu.2.1.trans h.2.1, hu.2.2.trans h.2.2⟩

theorem kept_with (h : Kept s t) (hp : u.pending = t.pending) (hm : u.sram = t.sram) (hv : u.vault = t.vault) : Kept s u :=
  kept_then ⟨hp, hm, hv⟩ h

theorem kept_ite {c : Prop} [Decidable c] (ht : Kept s t) (hu : Kept s u) : Kept s (if c then t else u) := by
  split
  · exact ht
  · exact hu

theorem kept_each {l : List Nat} {f : Nat → State → State} (h : Kept s t) (hf : ∀ i u, Kept u (f i u)) : Kept s (t.each l f) :=
  kept_then ⟨each_pending _ _ _ fun i u => (hf i u).1, each_sram _ _ _ fun i u => (hf i u).2.1, each_vault _ _ _ fun i u => (hf i u).2.2⟩ h

theorem kept_when {c : Bool} {f : State → State} (h : Kept s t) (hf : ∀ u, Kept u (f u)) : Kept s (t.when c f) :=
  kept_then ⟨when_pending _ _ _ fun u => (hf u).1, when_sram _ _ _ fun u => (hf u).2.1, when_vault _ _ _ fun u => (hf u).2.2⟩ h

theorem kept_bump {f : FieldRef} {n : Nat} (h : Kept s t) : Kept s (t.bump f n) := h
theorem kept_emit {o : Out} (h : Kept s t) : Kept s (t.emit o) := h
theorem kept_fresh (h : Kept s t) : Kept s (t.fresh.2) := h
theorem kept_put {f : FieldRef} {v : Nat} (h : Kept s t) : Kept s (t.put f v) := h
theorem kept_putB {f : FieldRef} {b : Bool} (h : Kept s t) : Kept s (t.putB f b) := h
theorem kept_putBit {f : FieldRef} {i : Nat} {b : Bool} (h : Kept s t) : Kept s (t.putBit f i b) := h
theorem kept_set_cmpFails {x} (h : Kept s t) : Kept s { t with cmpFails := x } := h
theorem kept_set_fl {x} (h : Kept s t) : Kept s { t with fl := x } := h
theorem kept_set_free {x} (h : Kept s t) : Kept s { t with free := x } := h
theorem kept_set_merged {x} (h : Kept s t) : Kept s { t with merged := x } := h
theorem kept_set_voteFail {x} (h : Kept s t) : Kept s { t with voteFail := x } := h
theorem kept_set_vs {x} (h : Kept s t) : Kept s { t with vs := x } := h
theorem kept_upAx {i : Nat} {g : AxisS → AxisS} (h : Kept s t) : Kept s (t.upAx i g) := h
theorem kept_upCp {i : Nat} {g : CpS → CpS} (h : Kept s t) : Kept s (t.upCp i g) := h
theorem kept_upCtx {i : Nat} {g : CtxS → CtxS} (h : Kept s t) : Kept s (t.upCtx i g) := h
theorem kept_upDma {i : Nat} {g : DmaS → DmaS} (h : Kept s t) : Kept s (t.upDma i g) := h
theorem kept_upFc {i : Nat} {g : FcS → FcS} (h : Kept s t) : Kept s (t.upFc i g) := h
theorem kept_upIsl {i : Nat} {g : IslandS → IslandS} (h : Kept s t) : Kept s (t.upIsl i g) := h
theorem kept_upLeg {i : Nat} {g : LegS → LegS} (h : Kept s t) : Kept s (t.upLeg i g) := h
theorem kept_upLnk {i : Nat} {g : LinkS → LinkS} (h : Kept s t) : Kept s (t.upLnk i g) := h
theorem kept_upPi {i : Nat} {g : PiS → PiS} (h : Kept s t) : Kept s (t.upPi i g) := h
theorem kept_upPm {g : PmS → PmS} (h : Kept s t) : Kept s (t.upPm g) := h
theorem kept_upPmIn {i : Nat} {g : PmInS → PmInS} (h : Kept s t) : Kept s (t.upPmIn i g) := h
theorem kept_upPort {i : Nat} {g : PortS → PortS} (h : Kept s t) : Kept s (t.upPort i g) := h
theorem kept_upPx {i : Nat} {g : PxS → PxS} (h : Kept s t) : Kept s (t.upPx i g) := h
theorem kept_upRed {g : RedS → RedS} (h : Kept s t) : Kept s (t.upRed g) := h
theorem kept_upSaf {i : Nat} {g : SafS → SafS} (h : Kept s t) : Kept s (t.upSaf i g) := h
theorem kept_upSeam {g : SeamS → SeamS} (h : Kept s t) : Kept s (t.upSeam g) := h
theorem kept_upSp {i : Nat} {g : SeamPS → SeamPS} (h : Kept s t) : Kept s (t.upSp i g) := h
theorem kept_upSys {g : SysS → SysS} (h : Kept s t) : Kept s (t.upSys g) := h
theorem kept_upTm {i : Nat} {g : TableS → TableS} (h : Kept s t) : Kept s (t.upTm i g) := h
theorem kept_wr {a : Nat} {w : Word} (h : Kept s t) : Kept s (t.wr a w) := h

end Kept

/-! ## Commands that move nothing and end no commit -/

theorem execLongRequest_keeps (p : Fin 4) (bar2 : Bool) (addr : BitVec 20) (isWrite : Bool) (s : State) :
    Keeps s (execLongRequest p bar2 addr isWrite s) := by
  unfold execLongRequest
  refine keeps_of_kept ?_
  exact kept_then (hostAccess_kept ..) (kept_rfl _)

theorem execHeldAccessTimeout_keeps (s : State) : Keeps s (execHeldAccessTimeout s) := by
  simp [execHeldAccessTimeout]

theorem execCrystalLost_keeps (s : State) : Keeps s (execCrystalLost s) := by
  unfold execCrystalLost
  refine keeps_of_kept ?_
  exact kept_ite (kept_rfl _)
      (kept_then (raiseFree_kept ..) (kept_putB (kept_putB (kept_putB (kept_then (trimStep_kept ..) (kept_rfl _))))))

theorem execXtalLocked_keeps (s : State) : Keeps s (execXtalLocked s) := by
  unfold execXtalLocked
  refine keeps_of_kept ?_
  exact kept_ite (kept_rfl _) (kept_putB (kept_putB (kept_putB (kept_rfl _))))

theorem execPllUnlock_keeps (pll : Pll) (s : State) : Keeps s (execPllUnlock pll s) := by
  unfold execPllUnlock
  refine keeps_of_kept ?_
  dsimp only
  exact kept_ite (kept_rfl _)
      (by
        split
        · exact (kept_each
            (by
              split
              · exact (kept_then (raiseFree_kept ..) (kept_upSys (kept_putB (kept_putB (kept_rfl _)))))
              · exact (kept_then (raiseFree_kept ..) (kept_upSys (kept_putB (kept_putB (kept_rfl _))))))
            fun _ _ => (kept_then (enterSafe_kept ..) (kept_rfl _)))
        · exact (kept_then (pllBStop_kept ..)
            (kept_each
              (by
                split
                · exact (kept_then (raiseFree_kept ..) (kept_upSys (kept_putB (kept_putB (kept_rfl _)))))
                · exact (kept_then (raiseFree_kept ..) (kept_upSys (kept_putB (kept_putB (kept_rfl _))))))
              fun _ _ => (kept_then (enterSafe_kept ..) (kept_rfl _)))))

theorem execPllRelock_keeps (pll : Pll) (ok : Bool) (s : State) : Keeps s (execPllRelock pll ok s) := by
  simp [execPllRelock]

theorem execPowerGo_keeps (pair : Fin 5) (s : State) : Keeps s (execPowerGo pair s) := by
  simp [execPowerGo]

theorem execDescentComplete_keeps (s : State) : Keeps s (execDescentComplete s) := by
  unfold execDescentComplete
  refine keeps_of_kept ?_
  exact kept_ite (kept_rfl _) (kept_ite (kept_then (descentBack_kept ..) (kept_rfl _)) (kept_then (descentEnd_kept ..) (kept_rfl _)))

theorem execDescentAbandoned_keeps (src : Fin 16) (s : State) : Keeps s (execDescentAbandoned src s) := by
  unfold execDescentAbandoned
  refine keeps_of_kept ?_
  exact kept_ite (kept_rfl _)
      (kept_ite (kept_then (descentBack_kept ..) (kept_then (wake_kept ..) (kept_rfl _))) (kept_then (wake_kept ..) (kept_rfl _)))

theorem execWakeSource_keeps (src : Fin 16) (s : State) : Keeps s (execWakeSource src s) := by
  unfold execWakeSource
  refine keeps_of_kept ?_
  exact kept_ite (kept_rfl _) (kept_then (wake_kept ..) (kept_rfl _))

theorem execHeldPortRequest_keeps (p : Fin 4) (x : Access) (s : State) : Keeps s (execHeldPortRequest p x s) := by
  unfold execHeldPortRequest
  refine keeps_of_kept ?_
  exact kept_ite (kept_rfl _) (kept_then (hostAccess_kept ..) (kept_rfl _))

theorem execWakeClocksLocked_keeps (s : State) : Keeps s (execWakeClocksLocked s) := by
  unfold execWakeClocksLocked
  refine keeps_of_kept ?_
  exact kept_ite
      (kept_then (startLock_kept ..) (kept_rfl _))
      (kept_ite
        (kept_then (vectorsDue_kept ..) (kept_then (clocksBack_kept ..) (kept_then (wakeLocked_kept ..) (kept_rfl _))))
        (kept_rfl _))

theorem execWakeTimerExpiry_keeps (s : State) : Keeps s (execWakeTimerExpiry s) := by
  unfold execWakeTimerExpiry
  refine keeps_of_kept ?_
  exact kept_ite (kept_rfl _) (kept_then (wake_kept ..) (kept_upSys (kept_rfl _)))

theorem execPorRelease_keeps (bootSel : Bool) (s : State) : Keeps s (execPorRelease bootSel s) := by
  unfold execPorRelease
  refine keeps_of_kept ?_
  exact kept_ite (kept_rfl _)
      (kept_each
        (kept_wr (kept_wr (kept_wr (kept_put (kept_when (kept_putB (kept_put (kept_rfl _))) fun _ => (kept_putB (kept_rfl _)))))))
        fun _ _ => (kept_wr (kept_rfl _)))

theorem execStartSelfTestDone_keeps (bad : List (Fin 16 × BitVec 16)) (s : State) :
    Keeps s (execStartSelfTestDone bad s) := by
  unfold execStartSelfTestDone
  refine keeps_of_kept ?_
  have hbad (l : List (Nat × Nat)) {v : State} (h : Kept s v) : Kept s (l.foldl (fun s u => startFail u s) v) :=
    kept_then ⟨foldl_pending _ _ _ fun u x => (startFail_kept x u).1, foldl_sram _ _ _ fun u x => (startFail_kept x u).2.1,
      foldl_vault _ _ _ fun u x => (startFail_kept x u).2.2⟩ h
  have hstart (l : List (Nat × Nat)) (fps : List Nat) (g : RedS → RedS) : Kept s (arraysShow (pairsShow (pmPower
      (l.foldl (fun s u => startFail u s) (xbarStart fps ((unitsStart (s.when s.lockDue startLock)).upRed g)))))) :=
    kept_then (arraysShow_kept ..) (kept_then (pairsShow_kept ..) (kept_then (pmPower_kept ..) (hbad _ (kept_then (xbarStart_kept ..)
      (kept_upRed (kept_then (unitsStart_kept ..) (kept_when (kept_rfl _) fun _ => kept_then (startLock_kept ..) (kept_rfl _))))))))
  refine kept_ite (kept_rfl _) ?_
  dsimp only
  split
  · exact kept_put (hstart ..)
  · exact kept_ite (kept_set_vs (kept_wr (kept_put (kept_put (hstart ..)))))
      (kept_ite (kept_put (kept_wr (kept_put (kept_put (hstart ..))))) (kept_set_vs (kept_wr (kept_put (kept_put (hstart ..))))))

theorem execImageFetchVerify_keeps (img : FlashImage) (s : State) : Keeps s (execImageFetchVerify img s) := by
  unfold execImageFetchVerify
  refine keeps_of_kept ?_
  dsimp only
  exact kept_ite (kept_rfl _)
      (kept_ite
        (kept_ite
          (kept_then (bootStaged_kept ..) (kept_put (kept_put (kept_put (kept_putB (kept_rfl _))))))
          (kept_ite
            (kept_then (bootWait_kept ..) (kept_put (kept_put (kept_put (kept_putB (kept_rfl _))))))
            (kept_set_vs (kept_put (kept_put (kept_put (kept_putB (kept_rfl _))))))))
        (kept_ite
          (kept_then (bootFound_kept ..) (kept_put (kept_put (kept_rfl _))))
          (kept_ite (kept_set_vs (kept_put (kept_put (kept_rfl _)))) (kept_then (bootWait_kept ..) (kept_put (kept_put (kept_rfl _)))))))

theorem execWarmReset_keeps (cause : WarmCause) (s : State) : Keeps s (execWarmReset cause s) := by
  unfold execWarmReset
  refine keeps_of_kept ?_
  split
  · exact kept_then (writeCmd_kept ..) (kept_rfl _)
  · exact kept_ite (kept_then (warmDo_kept ..) (kept_rfl _)) (kept_rfl _)
  · exact kept_ite (kept_then (warmDo_kept ..) (kept_rfl _)) (kept_rfl _)

theorem execHostLoss_keeps (p : Fin 4) (kind : LossKind) (s : State) : Keeps s (execHostLoss p kind s) := by
  simp [execHostLoss]

theorem execLinkUp_keeps (p : Fin 4) (speed : Fin 4) (s : State) : Keeps s (execLinkUp p speed s) := by
  unfold execLinkUp
  refine keeps_of_kept ?_
  exact kept_ite (kept_rfl _) (kept_then (hpEvent_kept ..) (kept_upPort (kept_put (kept_putB (kept_rfl _)))))

theorem execOwnershipWrite_keeps (p : Fin 4) (addr : BitVec 20) (v : Word) (s : State) :
    Keeps s (execOwnershipWrite p addr v s) := by
  unfold execOwnershipWrite
  refine keeps_of_kept ?_
  exact kept_ite (kept_then (writeCmd_kept ..) (kept_rfl _)) (kept_rfl _)

theorem execStewardXfer_keeps (p : Fin 4) (target : Fin 4) (go : Bool) (s : State) :
    Keeps s (execStewardXfer p target go s) := by
  simp [execStewardXfer]

theorem execStewardAccept_keeps (p : Fin 4) (accept : Bool) (s : State) : Keeps s (execStewardAccept p accept s) := by
  simp [execStewardAccept]

theorem execStewardXferTimeout_keeps (s : State) : Keeps s (execStewardXferTimeout s) := by
  simp [execStewardXferTimeout]

theorem execStewardSetByFirmware_keeps (code : BitVec 4) (s : State) : Keeps s (execStewardSetByFirmware code s) := by
  unfold execStewardSetByFirmware
  refine keeps_of_kept ?_
  split
  · exact kept_then (writeCmd_kept ..) (kept_rfl _)
  · exact kept_rfl _

theorem execDbTailWrite_keeps (p : Fin 4) (c : Fin 256) (v : Word) (s : State) : Keeps s (execDbTailWrite p c v s) := by
  simp [execDbTailWrite]

theorem execDescriptorReadDone_keeps (c : Fin 256) (r : Option (Vector Word 8)) (s : State) :
    Keeps s (execDescriptorReadDone c r s) := by
  unfold execDescriptorReadDone
  refine keeps_of_kept ?_
  dsimp only
  exact kept_ite (kept_rfl _)
      (kept_then (fetchAll_kept ..)
        (kept_ite (kept_upCtx (kept_rfl _))
          (by
            split
            · exact (kept_then (ctxHalted_kept ..) (kept_putB (kept_upCtx (kept_rfl _))))
            · exact (kept_ite
                (kept_put (kept_upCtx (kept_upCtx (kept_rfl _))))
                (kept_then (raiseFree_kept ..) (kept_put (kept_putB (kept_upCtx (kept_rfl _)))))))))

theorem execOpNop_keeps (c : Fin 256) (s : State) : Keeps s (execOpNop c s) := by
  unfold execOpNop
  refine keeps_of_kept ?_
  split
  · exact kept_rfl _
  · exact kept_then (descDone_kept ..) (kept_then (stepDone_kept ..) (kept_rfl _))

theorem execOpSetpoint_keeps (c : Fin 256) (s : State) : Keeps s (execOpSetpoint c s) := by
  unfold execOpSetpoint
  refine keeps_of_kept ?_
  split
  · exact kept_rfl _
  · exact kept_ite
      (kept_then (descDone_kept ..) (kept_rfl _))
      (kept_then (descDone_kept ..) (kept_then (stepDone_kept ..) (kept_then (setpointWrite_kept ..) (kept_rfl _))))

theorem execOpAxisState_keeps (c : Fin 256) (s : State) : Keeps s (execOpAxisState c s) := by
  unfold execOpAxisState
  refine keeps_of_kept ?_
  split
  · exact kept_rfl _
  · exact kept_ite (kept_rfl _) (kept_then (axRequest_kept ..) (kept_then (upExec_kept ..) (kept_rfl _)))

theorem execOpRegRead_keeps (c : Fin 256) (s : State) : Keeps s (execOpRegRead c s) := by
  unfold execOpRegRead
  refine keeps_of_kept ?_
  dsimp only
  split
  · exact kept_rfl _
  · exact kept_ite (kept_rfl _)
      (kept_then (descDone_kept ..)
        (kept_then (stepDone_kept ..) (kept_then (upExec_kept ..) (kept_then (readReg_kept ..) (kept_rfl _)))))

theorem execOpBankLoad_keeps (c : Fin 256) (data : Option (List Word)) (s : State) : Keeps s (execOpBankLoad c data s) := by
  unfold execOpBankLoad
  refine keeps_of_kept ?_
  dsimp only
  split
  · exact kept_rfl _
  · exact kept_ite
      (kept_then (descDone_kept ..) (kept_rfl _))
      (kept_ite (kept_rfl _)
        (by
          split
          · exact (kept_then (descDone_kept ..) (kept_then (hostRead_kept ..) (kept_rfl _)))
          · exact (kept_ite
              (kept_then (descDone_kept ..)
                (kept_then (stepDone_kept ..)
                  (kept_then (upExec_kept ..) (kept_then (bankWrs_kept ..) (kept_then (hostRead_kept ..) (kept_rfl _))))))
              (kept_then (stepDone_kept ..)
                (kept_then (upExec_kept ..) (kept_then (bankWrs_kept ..) (kept_then (hostRead_kept ..) (kept_rfl _))))))))

theorem execOpBankCheck_keeps (c : Fin 256) (s : State) : Keeps s (execOpBankCheck c s) := by
  unfold execOpBankCheck
  refine keeps_of_kept ?_
  dsimp only
  split
  · exact kept_rfl _
  · exact kept_ite
      (kept_then (descDone_kept ..)
        (kept_then (stepDone_kept ..) (kept_then (upExec_kept ..) (kept_then (runCheck_kept ..) (kept_rfl _)))))
      (kept_ite
        (kept_then (descDone_kept ..)
          (kept_then (stepDone_kept ..) (kept_then (upExec_kept ..) (kept_then (runCheck_kept ..) (kept_rfl _)))))
        (kept_then (descDone_kept ..)
          (kept_then (stepDone_kept ..) (kept_then (upExec_kept ..) (kept_then (runCheck_kept ..) (kept_rfl _))))))

theorem execOpSnapshot_keeps (c : Fin 256) (s : State) : Keeps s (execOpSnapshot c s) := by
  unfold execOpSnapshot
  refine keeps_of_kept ?_
  dsimp only
  split
  · exact kept_rfl _
  · exact kept_ite (kept_rfl _) (kept_then (upExec_kept ..) (kept_emit (kept_then (hostWrite_kept ..) (kept_rfl _))))

theorem execOpPmRead_keeps (c : Fin 256) (s : State) : Keeps s (execOpPmRead c s) := by
  unfold execOpPmRead
  refine keeps_of_kept ?_
  dsimp only
  split
  · exact kept_rfl _
  · exact kept_ite (kept_rfl _) (kept_then (upExec_kept ..) (kept_emit (kept_then (hostWrite_kept ..) (kept_rfl _))))

theorem execOpDmaStart_keeps (c : Fin 256) (s : State) : Keeps s (execOpDmaStart c s) := by
  unfold execOpDmaStart
  refine keeps_of_kept ?_
  dsimp only
  split
  · exact kept_rfl _
  · exact kept_ite
      (kept_then (descDone_kept ..) (kept_rfl _))
      (kept_then (descDone_kept ..) (kept_then (stepDone_kept ..) (kept_then (dmaGo_kept ..) (kept_wr (kept_wr (kept_rfl _))))))

theorem execOpFwVerify_keeps (c : Fin 256) (s : State) : Keeps s (execOpFwVerify c s) := by
  unfold execOpFwVerify
  refine keeps_of_kept ?_
  split
  · exact kept_rfl _
  · exact kept_ite (kept_rfl _)
      (kept_ite (kept_then (descDone_kept ..) (kept_rfl _)) (kept_then (stageAct_kept ..) (kept_then (upExec_kept ..) (kept_rfl _))))

theorem execOpEventMark_keeps (c : Fin 256) (s : State) : Keeps s (execOpEventMark c s) := by
  unfold execOpEventMark
  refine keeps_of_kept ?_
  split
  · exact kept_rfl _
  · exact kept_then (descDone_kept ..) (kept_then (stepDone_kept ..) (kept_then (raise_kept ..) (kept_rfl _)))

theorem execOpPowerReq_keeps (c : Fin 256) (s : State) : Keeps s (execOpPowerReq c s) := by
  unfold execOpPowerReq
  refine keeps_of_kept ?_
  split
  · exact kept_rfl _
  · exact kept_ite (kept_rfl _) (kept_then (stepDone_kept ..) (kept_then (upExec_kept ..) (kept_rfl _)))

theorem execOpFwCall_keeps (c : Fin 256) (act : FwAct) (s : State) : Keeps s (execOpFwCall c act s) := by
  unfold execOpFwCall
  refine keeps_of_kept ?_
  dsimp only
  split
  · exact kept_rfl _
  · exact kept_ite (kept_rfl _)
      (by
        split
        · exact (kept_ite (kept_rfl _) (kept_putB (kept_then (upExec_kept ..) (kept_rfl _))))
        · exact (kept_ite (kept_rfl _)
            (kept_ite
              (kept_then (stepDone_kept ..) (kept_rfl _))
              (kept_ite
                (kept_then (descDone_kept ..) (kept_rfl _))
                (kept_ite (kept_then (upExec_kept ..) (kept_emit (kept_rfl _))) (kept_rfl _)))))
        · exact (kept_ite (kept_rfl _) (kept_then (descDone_kept ..) (kept_then (upExec_kept ..) (kept_rfl _)))))

theorem execOpService_keeps (c : Fin 256) (s : State) : Keeps s (execOpService c s) := by
  unfold execOpService
  refine keeps_of_kept ?_
  split
  · exact kept_rfl _
  · exact kept_ite (kept_rfl _) (kept_then (svcStart_kept ..) (kept_then (upExec_kept ..) (kept_rfl _)))

theorem execHostFlushDone_keeps (c : Fin 256) (ok : Bool) (s : State) : Keeps s (execHostFlushDone c ok s) := by
  unfold execHostFlushDone
  refine keeps_of_kept ?_
  dsimp only
  split
  · exact kept_rfl _
  · exact kept_ite (kept_rfl _)
      (kept_then (fetchAll_kept ..)
        (kept_ite
          (kept_then (descDone_kept ..) (kept_then (upExec_kept ..) (kept_rfl _)))
          (kept_ite
            (kept_then (pmReadCommit_kept ..) (kept_rfl _))
            (kept_ite
              (kept_then (stepDone_kept ..) (kept_then (upExec_kept ..) (kept_rfl _)))
              (kept_then (descDone_kept ..) (kept_then (stepDone_kept ..) (kept_then (upExec_kept ..) (kept_rfl _))))))))

theorem execDescriptorComplete_keeps (c : Fin 256) (s : State) : Keeps s (execDescriptorComplete c s) := by
  unfold execDescriptorComplete
  refine keeps_of_kept ?_
  exact kept_ite (kept_then (descFinish_kept ..) (kept_rfl _)) (kept_rfl _)

theorem execRingSaturated_keeps (c : Fin 256) (s : State) : Keeps s (execRingSaturated c s) := by
  unfold execRingSaturated
  refine keeps_of_kept ?_
  exact kept_ite (kept_rfl _) (kept_then (raiseFree_kept ..) (kept_putB (kept_putB (kept_rfl _))))

theorem execCtxStop_keeps (w : Writer) (c : Fin 256) (s : State) : Keeps s (execCtxStop w c s) := by
  simp [execCtxStop]

theorem execCtxStopped_keeps (c : Fin 256) (s : State) : Keeps s (execCtxStopped c s) := by
  unfold execCtxStopped
  refine keeps_of_kept ?_
  exact kept_ite (kept_rfl _)
      (kept_ite
        (kept_then (descFinish_kept ..) (kept_rfl _))
        (kept_then (fetchAll_kept ..) (kept_then (ctxHalted_kept ..) (kept_then (descFinish_kept ..) (kept_rfl _)))))

theorem execCtxResume_keeps (w : Writer) (c : Fin 256) (s : State) : Keeps s (execCtxResume w c s) := by
  simp [execCtxResume]

theorem execCtxInit_keeps (w : Writer) (c : Fin 256) (s : State) : Keeps s (execCtxInit w c s) := by
  simp [execCtxInit]

theorem execSetpointMirrorWrite_keeps (p : Fin 4) (c : Fin 256) (a : Fin 8) (v : Word) (s : State) :
    Keeps s (execSetpointMirrorWrite p c a v s) := by
  simp [execSetpointMirrorWrite]

theorem execEventOccurrence_keeps (src : Fin 256) (unit : BitVec 8) (detail : Word) (s : State) :
    Keeps s (execEventOccurrence src unit detail s) := by
  unfold execEventOccurrence
  refine keeps_of_kept ?_
  exact kept_ite (kept_then (raise_kept ..) (kept_rfl _)) (kept_rfl _)

theorem execMergedRecordWrite_keeps (src : Fin 256) (p : Fin 4) (s : State) : Keeps s (execMergedRecordWrite src p s) := by
  unfold execMergedRecordWrite
  refine keeps_of_kept ?_
  exact kept_ite (kept_rfl _)
      (kept_ite
        (kept_then (raise_kept ..) (kept_then (writeRecord_kept ..) (kept_put (kept_putB (kept_set_merged (kept_rfl _))))))
        (kept_then (writeRecord_kept ..) (kept_put (kept_putB (kept_set_merged (kept_rfl _))))))

theorem execMsixCoalesceTimeout_keeps (p : Fin 4) (v : Fin 64) (s : State) : Keeps s (execMsixCoalesceTimeout p v s) := by
  unfold execMsixCoalesceTimeout
  refine keeps_of_kept ?_
  exact kept_ite (kept_rfl _) (kept_then (sendMsix_kept ..) (kept_rfl _))

theorem execEvRingEnable_keeps (w : Writer) (p : Fin 4) (s : State) : Keeps s (execEvRingEnable w p s) := by
  simp [execEvRingEnable]

theorem execEvRingHeadWrite_keeps (w : Writer) (p : Fin 4) (v : Word) (s : State) :
    Keeps s (execEvRingHeadWrite w p v s) := by
  simp [execEvRingHeadWrite]

theorem execFwEventRaise_keeps (pair : Fin 5) (v : Word) (s : State) : Keeps s (execFwEventRaise pair v s) := by
  simp [execFwEventRaise]

theorem execDmaChStart_keeps (w : Writer) (n : Fin 16) (s : State) : Keeps s (execDmaChStart w n s) := by
  simp [execDmaChStart]

theorem execDmaDescFetchDone_keeps (n : Fin 16) (r : Option (Vector Word 8)) (s : State) :
    Keeps s (execDmaDescFetchDone n r s) := by
  unfold execDmaDescFetchDone
  refine keeps_of_kept ?_
  exact kept_ite (kept_rfl _)
      (kept_ite
        (kept_ite (kept_then (dmaUnread_kept ..) (kept_rfl _)) (kept_rfl _))
        (kept_then (fetchAll_kept ..)
          (by
            split
            · exact (kept_ite
                (kept_then (dmaIdle_kept ..) (kept_ite (kept_rfl _) (kept_then (dmaServe_kept ..) (kept_rfl _))))
                (kept_then (dmaEvent_kept ..)
                  (kept_then (dmaSet_kept ..)
                    (kept_then (dmaClear_kept ..) (kept_ite (kept_rfl _) (kept_then (dmaServe_kept ..) (kept_rfl _)))))))
            · exact (kept_ite
                (kept_then (dmaIdle_kept ..) (kept_upDma (kept_ite (kept_rfl _) (kept_then (dmaServe_kept ..) (kept_rfl _)))))
                (kept_ite
                  (kept_then (dmaPause_kept ..) (kept_upDma (kept_ite (kept_rfl _) (kept_then (dmaServe_kept ..) (kept_rfl _)))))
                  (kept_ite
                    (kept_then (dmaPause_kept ..)
                      (kept_upDma (kept_ite (kept_rfl _) (kept_then (dmaServe_kept ..) (kept_rfl _)))))
                    (kept_then (dmaBegin_kept ..)
                      (kept_upDma (kept_ite (kept_rfl _) (kept_then (dmaServe_kept ..) (kept_rfl _)))))))))))

theorem execDmaIndexReadDone_keeps (n : Fin 16) (r : Option (List Word)) (s : State) :
    Keeps s (execDmaIndexReadDone n r s) := by
  unfold execDmaIndexReadDone
  refine keeps_of_kept ?_
  dsimp only
  exact kept_ite (kept_rfl _)
      (kept_ite (kept_rfl _)
        (kept_then (fetchAll_kept ..)
          (kept_ite
            (kept_then (dmaBoundary_kept ..)
              (by
                split
                · exact (kept_upDma (kept_ite (kept_rfl _) (kept_then (dmaServe_kept ..) (kept_rfl _))))
                · exact (kept_upDma (kept_ite (kept_rfl _) (kept_then (dmaServe_kept ..) (kept_rfl _))))))
            (by
              split
              · exact (kept_upDma (kept_ite (kept_rfl _) (kept_then (dmaServe_kept ..) (kept_rfl _))))
              · exact (kept_upDma (kept_ite (kept_rfl _) (kept_then (dmaServe_kept ..) (kept_rfl _))))))))

theorem execDmaChStop_keeps (w : Writer) (n : Fin 16) (s : State) : Keeps s (execDmaChStop w n s) := by
  simp [execDmaChStop]

theorem execDmaChResume_keeps (w : Writer) (n : Fin 16) (s : State) : Keeps s (execDmaChResume w n s) := by
  simp [execDmaChResume]

theorem execDmaChReset_keeps (w : Writer) (n : Fin 16) (s : State) : Keeps s (execDmaChReset w n s) := by
  simp [execDmaChReset]

theorem execAxRequest_keeps (w : Writer) (a : Fin 8) (target : Fin 16) (s : State) :
    Keeps s (execAxRequest w a target s) := by
  simp [execAxRequest]

theorem execAxFaultClr_keeps (w : Writer) (a : Fin 8) (s : State) : Keeps s (execAxFaultClr w a s) := by
  simp [execAxFaultClr]

theorem execAxFwRelease_keeps (w : Writer) (a : Fin 8) (s : State) : Keeps s (execAxFwRelease w a s) := by
  simp [execAxFwRelease]

theorem execSafeStateEstablished_keeps (a : Fin 8) (s : State) : Keeps s (execSafeStateEstablished a s) := by
  simp [execSafeStateEstablished]

theorem execSampleInstant_keeps (a : Fin 8) (s : State) : Keeps s (execSampleInstant a s) := by
  unfold execSampleInstant
  refine keeps_of_kept ?_
  dsimp only
  exact kept_ite (kept_rfl _)
      (by
        split
        · exact (kept_ite
            (kept_then (enterSafe_kept ..) (kept_when (kept_rfl _) fun _ => (kept_then (takeCfg_kept ..) (kept_rfl _))))
            (kept_when (kept_rfl _) fun _ => (kept_then (takeCfg_kept ..) (kept_rfl _))))
        · exact (kept_ite
            (kept_upTm
              (kept_then (closeStep_kept ..)
                (kept_when
                  (kept_then (disAll_kept ..)
                    (kept_then (sampleLatch_kept ..)
                      (kept_when
                        (kept_when (kept_rfl _) fun _ => (kept_then (takeCfg_kept ..) (kept_rfl _)))
                        fun _ => (kept_then (axEvent_kept ..) (kept_put (kept_rfl _))))))
                  fun _ => (kept_then (tmEvent_kept ..) (kept_put (kept_putB (kept_rfl _)))))))
            (kept_ite
              (kept_then (disAll_kept ..)
                (kept_then (sampleLatch_kept ..)
                  (kept_when
                    (kept_when (kept_rfl _) fun _ => (kept_then (takeCfg_kept ..) (kept_rfl _)))
                    fun _ => (kept_then (axEvent_kept ..) (kept_put (kept_rfl _))))))
              (kept_ite
                (kept_then (holdEntry_kept ..)
                  (kept_then (disAll_kept ..)
                    (kept_then (sampleLatch_kept ..)
                      (kept_when
                        (kept_when (kept_rfl _) fun _ => (kept_then (takeCfg_kept ..) (kept_rfl _)))
                        fun _ => (kept_then (axEvent_kept ..) (kept_put (kept_rfl _)))))))
                (kept_ite
                  (kept_then (axGoto_kept ..)
                    (kept_then (disAll_kept ..)
                      (kept_then (sampleLatch_kept ..)
                        (kept_when
                          (kept_when (kept_rfl _) fun _ => (kept_then (takeCfg_kept ..) (kept_rfl _)))
                          fun _ => (kept_then (axEvent_kept ..) (kept_put (kept_rfl _)))))))
                  (kept_ite
                    (kept_ite
                      (kept_upAx
                        (kept_then (disAll_kept ..)
                          (kept_then (sampleLatch_kept ..)
                            (kept_when
                              (kept_when (kept_rfl _) fun _ => (kept_then (takeCfg_kept ..) (kept_rfl _)))
                              fun _ => (kept_then (axEvent_kept ..) (kept_put (kept_rfl _)))))))
                      (kept_then (snapTake_kept ..)
                        (kept_then (disAll_kept ..)
                          (kept_then (sampleLatch_kept ..)
                            (kept_when
                              (kept_when (kept_rfl _) fun _ => (kept_then (takeCfg_kept ..) (kept_rfl _)))
                              fun _ => (kept_then (axEvent_kept ..) (kept_put (kept_rfl _))))))))
                    (kept_ite
                      (kept_upAx
                        (kept_then (disAll_kept ..)
                          (kept_then (sampleLatch_kept ..)
                            (kept_when
                              (kept_when (kept_rfl _) fun _ => (kept_then (takeCfg_kept ..) (kept_rfl _)))
                              fun _ => (kept_then (axEvent_kept ..) (kept_put (kept_rfl _)))))))
                      (kept_ite
                        (kept_then (stepBegin_kept ..)
                          (kept_then (disAll_kept ..)
                            (kept_then (sampleLatch_kept ..)
                              (kept_when
                                (kept_when (kept_rfl _) fun _ => (kept_then (takeCfg_kept ..) (kept_rfl _)))
                                fun _ => (kept_then (axEvent_kept ..) (kept_put (kept_rfl _)))))))
                        (kept_then (disAll_kept ..)
                          (kept_then (sampleLatch_kept ..)
                            (kept_when
                              (kept_when (kept_rfl _) fun _ => (kept_then (takeCfg_kept ..) (kept_rfl _)))
                              fun _ => (kept_then (axEvent_kept ..) (kept_put (kept_rfl _))))))))))))))

theorem execControlStepDone_keeps (a : Fin 8) (ecc : Option (Fin 16 × Fin 256)) (s : State) :
    Keeps s (execControlStepDone a ecc s) := by
  unfold execControlStepDone
  refine keeps_of_kept ?_
  exact kept_ite
      (by
        split
        · exact (kept_then (coefEcc_kept ..) (kept_rfl _))
        · exact (kept_then (talCount_kept ..) (kept_then (fullStep_kept ..) (kept_rfl _))))
      (kept_ite
        (kept_then (snapTake_kept ..)
          (kept_when
            (kept_then (driftCorrect_kept ..) (kept_upAx (kept_then (talCount_kept ..) (kept_rfl _))))
            fun _ => (kept_upTm (kept_rfl _))))
        (kept_rfl _))

theorem execOutputInstant_keeps (a : Fin 8) (s : State) : Keeps s (execOutputInstant a s) := by
  unfold execOutputInstant
  refine keeps_of_kept ?_
  exact kept_ite (kept_rfl _)
      (kept_ite
        (kept_then (enterSafe_kept ..)
          (kept_ite
            (kept_then (closeEnd_kept ..)
              (kept_ite
                (kept_then (applyOut_kept ..) (kept_upAx (kept_putB (kept_upAx (kept_rfl _)))))
                (kept_then (axEvent_kept ..)
                  (kept_upAx (kept_bump (kept_putB (kept_then (talCount_kept ..) (kept_upAx (kept_rfl _)))))))))
            (kept_ite
              (kept_then (applyOut_kept ..) (kept_upAx (kept_putB (kept_upAx (kept_rfl _)))))
              (kept_then (axEvent_kept ..) (kept_upAx (kept_bump (kept_putB (kept_then (talCount_kept ..) (kept_upAx (kept_rfl _))))))))))
        (kept_ite
          (kept_then (closeEnd_kept ..)
            (kept_ite
              (kept_then (applyOut_kept ..) (kept_upAx (kept_putB (kept_upAx (kept_rfl _)))))
              (kept_then (axEvent_kept ..) (kept_upAx (kept_bump (kept_putB (kept_then (talCount_kept ..) (kept_upAx (kept_rfl _)))))))))
          (kept_ite
            (kept_then (applyOut_kept ..) (kept_upAx (kept_putB (kept_upAx (kept_rfl _)))))
            (kept_then (axEvent_kept ..) (kept_upAx (kept_bump (kept_putB (kept_then (talCount_kept ..) (kept_upAx (kept_rfl _))))))))))

theorem execCloseCheckDone_keeps (a : Fin 8) (s : State) : Keeps s (execCloseCheckDone a s) := by
  unfold execCloseCheckDone
  refine keeps_of_kept ?_
  exact kept_ite (kept_rfl _)
      (kept_ite
        (kept_upAx (kept_then (runCheck_kept ..) (kept_rfl _)))
        (kept_then (reqRefuse_kept ..) (kept_upAx (kept_putB (kept_then (runCheck_kept ..) (kept_rfl _))))))

theorem execHoldTimeout_keeps (a : Fin 8) (s : State) : Keeps s (execHoldTimeout a s) := by
  unfold execHoldTimeout
  refine keeps_of_kept ?_
  exact kept_ite (kept_rfl _)
      (kept_ite (kept_then (axEvent_kept ..) (kept_rfl _)) (kept_then (enterSafe_kept ..) (kept_then (axEvent_kept ..) (kept_rfl _))))

theorem execBankwinWrite_keeps (w : Writer) (a : Fin 8) (word : Fin 256) (v : Word) (s : State) :
    Keeps s (execBankwinWrite w a word v s) := by
  simp [execBankwinWrite]

theorem execTableDecision_keeps (a : Fin 8) (s : State) : Keeps s (execTableDecision a s) := by
  unfold execTableDecision
  refine keeps_of_kept ?_
  exact kept_ite (kept_rfl _)
      (kept_ite
        (kept_then (decide100_kept ..)
          (kept_then (coastDecision_kept ..) (kept_then (estimate_kept ..) (kept_then (catchSwitch_kept ..) (kept_rfl _)))))
        (kept_then (coastDecision_kept ..) (kept_then (estimate_kept ..) (kept_then (catchSwitch_kept ..) (kept_rfl _)))))

theorem execZcCrossing_keeps (a : Fin 8) (ph : Fin 3) (rising : Bool) (s : State) :
    Keeps s (execZcCrossing a ph rising s) := by
  unfold execZcCrossing
  refine keeps_of_kept ?_
  exact kept_ite
      (kept_when (kept_rfl _) fun _ => (kept_putB (kept_rfl _)))
      (kept_ite
        (kept_ite
          (kept_then (updatePo_kept ..)
            (kept_then (watchStep_kept ..)
              (kept_then (zcAccept_kept ..) (kept_putB (kept_when (kept_rfl _) fun _ => (kept_putB (kept_rfl _)))))))
          (kept_then (zcReject_kept ..) (kept_bump (kept_putB (kept_when (kept_rfl _) fun _ => (kept_putB (kept_rfl _)))))))
        (kept_ite
          (kept_ite
            (kept_then (updatePo_kept ..)
              (kept_then (zcAccept_kept ..) (kept_putB (kept_when (kept_rfl _) fun _ => (kept_putB (kept_rfl _))))))
            (kept_ite
              (kept_upTm
                (kept_then (catchStart_kept ..)
                  (kept_upAx
                    (kept_then (updatePo_kept ..)
                      (kept_then (watchStep_kept ..)
                        (kept_then (tmEvent_kept ..)
                          (kept_putB
                            (kept_putB
                              (kept_then (zcAccept_kept ..) (kept_putB (kept_when (kept_rfl _) fun _ => (kept_putB (kept_rfl _)))))))))))))
              (kept_then (updatePo_kept ..)
                (kept_then (watchStep_kept ..)
                  (kept_then (tmEvent_kept ..)
                    (kept_putB
                      (kept_putB (kept_then (zcAccept_kept ..) (kept_putB (kept_when (kept_rfl _) fun _ => (kept_putB (kept_rfl _))))))))))))
          (kept_then (updatePo_kept ..)
            (kept_then (zcAccept_kept ..) (kept_putB (kept_when (kept_rfl _) fun _ => (kept_putB (kept_rfl _))))))))

theorem execZcMissing_keeps (a : Fin 8) (s : State) : Keeps s (execZcMissing a s) := by
  unfold execZcMissing
  refine keeps_of_kept ?_
  exact kept_ite (kept_then (zcReject_kept ..) (kept_rfl _)) (kept_rfl _)

theorem execZcTimeout_keeps (a : Fin 8) (s : State) : Keeps s (execZcTimeout a s) := by
  unfold execZcTimeout
  refine keeps_of_kept ?_
  exact kept_ite (kept_then (updatePo_kept ..) (kept_then (watchStep_kept ..) (kept_putB (kept_rfl _)))) (kept_rfl _)

theorem execCatchTrigger_keeps (a : Fin 8) (s : State) : Keeps s (execCatchTrigger a s) := by
  simp [execCatchTrigger]

theorem execCatchClocksValid_keeps (a : Fin 8) (s : State) : Keeps s (execCatchClocksValid a s) := by
  unfold execCatchClocksValid
  refine keeps_of_kept ?_
  exact kept_ite (kept_rfl _)
      (kept_ite
        (kept_then (catchFail_kept ..) (kept_put (kept_then (runCheck_kept ..) (kept_rfl _))))
        (kept_ite
          (kept_then (tmEvent_kept ..) (kept_then (catchFail_kept ..) (kept_put (kept_then (runCheck_kept ..) (kept_rfl _)))))
          (kept_then (catchStart_kept ..)
            (kept_then (axGoto_kept ..) (kept_putB (kept_put (kept_putB (kept_then (runCheck_kept ..) (kept_rfl _)))))))))

theorem execCatchVerify_keeps (a : Fin 8) (s : State) : Keeps s (execCatchVerify a s) := by
  unfold execCatchVerify
  refine keeps_of_kept ?_
  exact kept_ite (kept_rfl _)
      (kept_ite (kept_upTm (kept_rfl _))
        (kept_ite
          (kept_put (kept_then (enterSafe_kept ..) (kept_then (tmEvent_kept ..) (kept_put (kept_rfl _)))))
          (kept_then (axGoto_kept ..)
            (kept_then (posSrc_kept ..)
              (kept_put
                (kept_upTm
                  (kept_then (trackerReset_kept ..)
                    (kept_then (gatesOff_kept ..) (kept_then (tmEvent_kept ..) (kept_put (kept_rfl _)))))))))))

theorem execRecoveryZeroTime_keeps (a : Fin 8) (s : State) : Keeps s (execRecoveryZeroTime a s) := by
  unfold execRecoveryZeroTime
  refine keeps_of_kept ?_
  exact kept_ite
      (kept_then (enterSafe_kept ..) (kept_when (kept_then (updatePo_kept ..) (kept_rfl _)) fun _ => (kept_upAx (kept_rfl _))))
      (kept_ite
        (kept_ite
          (kept_then (enterSafe_kept ..) (kept_put (kept_then (updatePo_kept ..) (kept_rfl _))))
          (kept_ite
            (kept_when
              (kept_then (axGoto_kept ..)
                (kept_then (posSrc_kept ..)
                  (kept_upTm
                    (kept_putB
                      (kept_then (trackerReset_kept ..) (kept_then (gatesOff_kept ..) (kept_then (updatePo_kept ..) (kept_rfl _))))))))
              fun _ => (kept_then (axGoto_kept ..) (kept_rfl _)))
            (kept_then (posSrc_kept ..)
              (kept_upTm (kept_then (trackerReset_kept ..) (kept_then (gatesOff_kept ..) (kept_then (updatePo_kept ..) (kept_rfl _))))))))
        (kept_rfl _))

theorem execRecatchTimeout_keeps (a : Fin 8) (s : State) : Keeps s (execRecatchTimeout a s) := by
  unfold execRecatchTimeout
  refine keeps_of_kept ?_
  exact kept_ite (kept_then (enterSafe_kept ..) (kept_rfl _)) (kept_rfl _)

theorem execSetLanding_keeps (m : Fin 24) (dist : BitVec 32) (s : State) : Keeps s (execSetLanding m dist s) := by
  unfold execSetLanding
  refine keeps_of_kept ?_
  dsimp only
  split
  · exact kept_rfl _
  · exact kept_ite
      (kept_when
        (kept_then (legFlags_kept ..) (kept_putB (kept_bump (kept_upLeg (kept_upLeg (kept_rfl _))))))
        fun _ => (kept_then (raise_kept ..) (kept_rfl _)))
      (kept_then (legFlags_kept ..) (kept_upLeg (kept_upLeg (kept_rfl _))))

theorem execLegCommit_keeps (m : Fin 24) (s : State) : Keeps s (execLegCommit m s) := by
  simp [execLegCommit]

theorem execLegDiscard_keeps (m : Fin 24) (s : State) : Keeps s (execLegDiscard m s) := by
  simp [execLegDiscard]

theorem execChopNocurTimeout_keeps (m : Fin 24) (s : State) : Keeps s (execChopNocurTimeout m s) := by
  unfold execChopNocurTimeout
  refine keeps_of_kept ?_
  exact kept_ite (kept_rfl _)
      (kept_each
        (kept_then (chopNocur_kept ..) (kept_rfl _))
        fun _ _ =>
          (kept_ite
            (kept_then (tlimFall_kept ..) (kept_then (safEvent_kept ..) (kept_then (linkPut_kept ..) (kept_rfl _))))
            (kept_rfl _)))

theorem execMaskStepChange_keeps (m : Fin 24) (s : State) : Keeps s (execMaskStepChange m s) := by
  unfold execMaskStepChange
  refine keeps_of_kept ?_
  exact kept_ite (kept_rfl _)
      (kept_ite
        (kept_then (maskApply_kept ..)
          (kept_when (kept_put (kept_rfl _)) fun _ => (kept_then (raise_kept ..) (kept_putB (kept_rfl _)))))
        (kept_ite (kept_rfl _) (kept_then (maskApply_kept ..) (kept_upLeg (kept_put (kept_rfl _))))))

theorem execFastFrame_keeps (i : Fin 8) (states : Option (BitVec 6)) (short : BitVec 6) (s : State) :
    Keeps s (execFastFrame i states short s) := by
  unfold execFastFrame
  refine keeps_of_kept ?_
  exact kept_ite (kept_rfl _)
      (kept_each (kept_rfl _)
        fun _ _ =>
          (kept_ite
            (kept_then (crossLock_kept ..) (kept_bump (kept_rfl _)))
            (kept_ite (kept_bump (kept_rfl _))
              (kept_each (kept_bump (kept_rfl _))
                fun _ _ =>
                  (kept_ite (kept_rfl _)
                    (kept_ite (kept_then (chTurnOn_kept ..) (kept_rfl _)) (kept_then (chTurnOff_kept ..) (kept_rfl _))))))))

theorem execFastFrameCrcFail_keeps (i : Fin 8) (s : State) : Keeps s (execFastFrameCrcFail i s) := by
  simp [execFastFrameCrcFail]

theorem execFastFormLost_keeps (i : Fin 8) (s : State) : Keeps s (execFastFormLost i s) := by
  simp [execFastFormLost]

theorem execFastFormRegained_keeps (i : Fin 8) (s : State) : Keeps s (execFastFormRegained i s) := by
  unfold execFastFormRegained
  refine keeps_of_kept ?_
  exact kept_ite (kept_rfl _) (kept_putB (kept_upIsl (kept_rfl _)))

theorem execKeepaliveFrame_keeps (i : Fin 8) (good : Bool) (s : State) : Keeps s (execKeepaliveFrame i good s) := by
  unfold execKeepaliveFrame
  refine keeps_of_kept ?_
  exact kept_ite (kept_bump (kept_rfl _))
      (kept_ite (kept_rfl _)
        (kept_then (giStatus_kept ..)
          (kept_each
            (kept_each (kept_rfl _)
              fun _ _ =>
                (kept_ite
                  (by
                    split
                    · exact (kept_when (kept_put (kept_rfl _)) fun _ => (kept_then (tripClearLeg_kept ..) (kept_rfl _)))
                    · exact (kept_put (kept_rfl _)))
                  (kept_when
                    (kept_put
                      (by
                        split
                        · exact (kept_when (kept_put (kept_rfl _)) fun _ => (kept_then (tripClearLeg_kept ..) (kept_rfl _)))
                        · exact (kept_put (kept_rfl _))))
                    fun _ => (kept_then (holdApply_kept ..) (kept_rfl _)))))
            fun _ _ => (kept_when (kept_rfl _) fun _ => (kept_upAx (kept_emit (kept_rfl _)))))))

theorem execIslandLinkLost_keeps (i : Fin 8) (s : State) : Keeps s (execIslandLinkLost i s) := by
  unfold execIslandLinkLost
  refine keeps_of_kept ?_
  exact kept_ite (kept_rfl _)
      (kept_then (giEvent_kept ..)
        (kept_then (islandBastAbandon_kept ..)
          (kept_then (giReady_kept ..)
            (kept_putB
              (kept_putB
                (kept_putB
                  (kept_bump
                    (kept_each
                      (kept_upIsl (kept_each (kept_rfl _) fun _ _ => (kept_then (chTurnOff_kept ..) (kept_rfl _))))
                      fun _ _ => (kept_put (kept_rfl _))))))))))

theorem execStatusLinkLost_keeps (i : Fin 8) (s : State) : Keeps s (execStatusLinkLost i s) := by
  unfold execStatusLinkLost
  refine keeps_of_kept ?_
  exact kept_ite (kept_rfl _)
      (kept_then (islandAxesSafe_kept ..)
        (kept_then (giEvent_kept ..)
          (kept_then (islandBastAbandon_kept ..)
            (kept_putB (kept_then (giReady_kept ..) (kept_putB (kept_putB (kept_bump (kept_rfl _)))))))))

theorem execIslandLinkRegained_keeps (i : Fin 8) (s : State) : Keeps s (execIslandLinkRegained i s) := by
  unfold execIslandLinkRegained
  refine keeps_of_kept ?_
  exact kept_ite (kept_then (islandUp_kept ..) (kept_rfl _)) (kept_rfl _)

theorem execIslandPowerUp_keeps (i : Fin 8) (s : State) : Keeps s (execIslandPowerUp i s) := by
  unfold execIslandPowerUp
  refine keeps_of_kept ?_
  exact kept_ite (kept_rfl _)
      (kept_ite (kept_upIsl (kept_rfl _)) (kept_then (giEvent_kept ..) (kept_then (islandUp_kept ..) (kept_upIsl (kept_rfl _)))))

theorem execIslandCfgSync_keeps (i : Fin 8) (s : State) : Keeps s (execIslandCfgSync i s) := by
  unfold execIslandCfgSync
  refine keeps_of_kept ?_
  exact kept_ite (kept_rfl _) (kept_then (giReady_kept ..) (kept_putB (kept_rfl _)))

theorem execIslandUndervoltage_keeps (i : Fin 8) (k : Fin 9) (good : Bool) (s : State) :
    Keeps s (execIslandUndervoltage i k good s) := by
  unfold execIslandUndervoltage
  refine keeps_of_kept ?_
  exact kept_ite (kept_rfl _)
      (kept_ite
        (kept_then (giEvent_kept ..)
          (kept_ite
            (kept_each (kept_then (giStatus_kept ..) (kept_upIsl (kept_rfl _))) fun _ _ => (kept_then (holdAgain_kept ..) (kept_rfl _)))
            (kept_ite
              (kept_then (islandReset_kept ..)
                (kept_then (islandBastAbandon_kept ..) (kept_then (giStatus_kept ..) (kept_upIsl (kept_rfl _)))))
              (kept_ite
                (kept_each
                  (kept_then (islandBastAbandon_kept ..) (kept_then (giStatus_kept ..) (kept_upIsl (kept_rfl _))))
                  fun _ _ => (kept_then (chTurnOff_kept ..) (kept_rfl _)))
                (kept_ite
                  (kept_each
                    (kept_then (islandBastAbandon_kept ..) (kept_then (giStatus_kept ..) (kept_upIsl (kept_rfl _))))
                    fun _ _ => (kept_then (chTurnOff_kept ..) (kept_rfl _)))
                  (kept_then (chTurnOff_kept ..)
                    (kept_then (islandBastAbandon_kept ..) (kept_then (giStatus_kept ..) (kept_upIsl (kept_rfl _))))))))))
        (kept_each
          (kept_then (giEvent_kept ..)
            (kept_ite
              (kept_each
                (kept_then (giStatus_kept ..) (kept_upIsl (kept_rfl _)))
                fun _ _ => (kept_then (holdAgain_kept ..) (kept_rfl _)))
              (kept_ite
                (kept_then (islandReset_kept ..)
                  (kept_then (islandBastAbandon_kept ..) (kept_then (giStatus_kept ..) (kept_upIsl (kept_rfl _)))))
                (kept_ite
                  (kept_each
                    (kept_then (islandBastAbandon_kept ..) (kept_then (giStatus_kept ..) (kept_upIsl (kept_rfl _))))
                    fun _ _ => (kept_then (chTurnOff_kept ..) (kept_rfl _)))
                  (kept_ite
                    (kept_each
                      (kept_then (islandBastAbandon_kept ..) (kept_then (giStatus_kept ..) (kept_upIsl (kept_rfl _))))
                      fun _ _ => (kept_then (chTurnOff_kept ..) (kept_rfl _)))
                    (kept_then (chTurnOff_kept ..)
                      (kept_then (islandBastAbandon_kept ..) (kept_then (giStatus_kept ..) (kept_upIsl (kept_rfl _))))))))))
          fun _ _ => (kept_ite (kept_then (enterSafe_kept ..) (kept_rfl _)) (kept_rfl _))))

theorem execDcpsConversion_keeps (i : Fin 8) (code : BitVec 14) (s : State) : Keeps s (execDcpsConversion i code s) := by
  unfold execDcpsConversion
  refine keeps_of_kept ?_
  exact kept_ite (kept_putB (kept_put (kept_rfl _))) (kept_rfl _)

theorem execGatePhase1End_keeps (i : Fin 8) (c : Fin 6) (s : State) : Keeps s (execGatePhase1End i c s) := by
  simp [execGatePhase1End]

theorem execGatePhase2End_keeps (i : Fin 8) (c : Fin 6) (s : State) : Keeps s (execGatePhase2End i c s) := by
  simp [execGatePhase2End]

theorem execGatePhase2Timeout_keeps (i : Fin 8) (c : Fin 6) (s : State) : Keeps s (execGatePhase2Timeout i c s) := by
  simp [execGatePhase2Timeout]

theorem execGateFault_keeps (i : Fin 8) (c : Fin 6) (s : State) : Keeps s (execGateFault i c s) := by
  unfold execGateFault
  refine keeps_of_kept ?_
  exact kept_ite (kept_then (gateFault_kept ..) (kept_rfl _)) (kept_rfl _)

theorem execDidtDetect_keeps (i : Fin 8) (c : Fin 6) (s : State) : Keeps s (execDidtDetect i c s) := by
  unfold execDidtDetect
  refine keeps_of_kept ?_
  exact kept_ite (kept_rfl _)
      (kept_upIsl
        (kept_emit
          (kept_ite
            (kept_bump (kept_when (kept_rfl _) fun _ => (kept_bump (kept_rfl _))))
            (kept_each
              (kept_when (kept_rfl _) fun _ => (kept_bump (kept_rfl _)))
              fun _ _ => (kept_then (softStart_kept ..) (kept_rfl _))))))

theorem execAlarmWord_keeps (i : Fin 8) (s : State) : Keeps s (execAlarmWord i s) := by
  unfold execAlarmWord
  refine keeps_of_kept ?_
  dsimp only
  split
  · exact kept_rfl _
  · exact kept_ite
      (by
        split
        · exact (kept_then (flSettle_kept ..)
            (kept_then (enterSafe_kept ..)
              (kept_then (faultRecord_kept ..) (kept_then (giEvent_kept ..) (kept_upIsl (kept_rfl _))))))
        · exact (kept_then (flSettle_kept ..) (kept_then (faultRecord_kept ..) (kept_then (giEvent_kept ..) (kept_upIsl (kept_rfl _))))))
      (by
        split
        · exact (kept_then (wake_kept ..) (kept_then (giEvent_kept ..) (kept_upIsl (kept_rfl _))))
        · exact (kept_when
            (kept_then (protectAxis_kept ..)
              (kept_then (tripWords_kept ..)
                (kept_upAx (kept_then (wake_kept ..) (kept_then (giEvent_kept ..) (kept_upIsl (kept_rfl _)))))))
            fun _ => (kept_then (ascSideChange_kept ..) (kept_rfl _))))

theorem execTripWord_keeps (i : Fin 8) (s : State) : Keeps s (execTripWord i s) := by
  unfold execTripWord
  refine keeps_of_kept ?_
  split
  · exact kept_rfl _
  · exact kept_each (kept_upIsl (kept_rfl _)) fun _ _ => (kept_then (softStart_kept ..) (kept_rfl _))

theorem execSoftStep1End_keeps (i : Fin 8) (x : Fin 3) (s : State) : Keeps s (execSoftStep1End i x s) := by
  simp [execSoftStep1End]

theorem execSoftStep2End_keeps (i : Fin 8) (x : Fin 3) (s : State) : Keeps s (execSoftStep2End i x s) := by
  simp [execSoftStep2End]

theorem execSoftStep2Timeout_keeps (i : Fin 8) (x : Fin 3) (s : State) : Keeps s (execSoftStep2Timeout i x s) := by
  simp [execSoftStep2Timeout]

theorem execBastingStart_keeps (w : Writer) (m : Fin 24) (s : State) : Keeps s (execBastingStart w m s) := by
  simp [execBastingStart]

theorem execBastingAbort_keeps (w : Writer) (m : Fin 24) (s : State) : Keeps s (execBastingAbort w m s) := by
  simp [execBastingAbort]

theorem execBastingMeasurement_keeps (m : Fin 24) (b : BastMeas) (last : Bool) (s : State) :
    Keeps s (execBastingMeasurement m b last s) := by
  unfold execBastingMeasurement
  refine keeps_of_kept ?_
  exact kept_ite (kept_rfl _)
      (kept_when (kept_then (bastAfter_kept ..) (kept_rfl _)) fun _ => (kept_then (bastFinish_kept ..) (kept_rfl _)))

theorem execIslandService_keeps (w : Writer) (i : Fin 8) (v : Bool) (s : State) : Keeps s (execIslandService w i v s) := by
  simp [execIslandService]

theorem execFastConversion_keeps (k : Fin 32) (raw : BitVec 14) (s : State) : Keeps s (execFastConversion k raw s) := by
  unfold execFastConversion
  refine keeps_of_kept ?_
  exact kept_ite (kept_rfl _)
      (kept_then (chopConversion_kept ..)
        (kept_then (tmonStep_kept ..)
          (kept_when
            (kept_when
              (kept_putB (kept_upFc (kept_putB (kept_putB (kept_put (kept_upFc (kept_rfl _)))))))
              fun _ => (kept_when (kept_putBit (kept_rfl _)) fun _ => (kept_then (fmEvent_kept ..) (kept_rfl _))))
            fun _ => (kept_then (pairStep_kept ..) (kept_rfl _)))))

theorem execTriggerDropped_keeps (k : Fin 32) (s : State) : Keeps s (execTriggerDropped k s) := by
  unfold execTriggerDropped
  refine keeps_of_kept ?_
  exact kept_ite (kept_rfl _) (kept_then (fmEvent_kept ..) (kept_putBit (kept_bump (kept_upFc (kept_rfl _)))))

theorem execXbarMove_keeps (k : Fin 32) (fp : Fin 36) (s : State) : Keeps s (execXbarMove k fp s) := by
  unfold execXbarMove
  refine keeps_of_kept ?_
  exact kept_ite (kept_then (xbarMove_kept ..) (kept_rfl _)) (kept_rfl _)

theorem execWindowFiring_keeps (k : Fin 32) (wb : Bool) (copies : BitVec 2) (s : State) :
    Keeps s (execWindowFiring k wb copies s) := by
  unfold execWindowFiring
  refine keeps_of_kept ?_
  exact kept_ite (kept_rfl _)
      (kept_ite
        (kept_when (kept_upFc (kept_putBit (kept_bump (kept_putB (kept_rfl _))))) fun _ => (kept_then (fmEvent_kept ..) (kept_rfl _)))
        (kept_then (windowFire_kept ..) (kept_putB (kept_rfl _))))

theorem execBlankingOpen_keeps (m : Fin 24) (s : State) : Keeps s (execBlankingOpen m s) := by
  unfold execBlankingOpen
  refine keeps_of_kept ?_
  split
  · exact kept_rfl _
  · exact kept_each (kept_rfl _) fun _ _ => (kept_ite (kept_putB (kept_rfl _)) (kept_rfl _))

theorem execBlankingClose_keeps (k : Fin 32) (s : State) : Keeps s (execBlankingClose k s) := by
  unfold execBlankingClose
  refine keeps_of_kept ?_
  exact kept_ite (kept_rfl _)
      (kept_when
        (kept_when (kept_upFc (kept_putB (kept_rfl _))) fun _ => (kept_then (windowFire_kept ..) (kept_rfl _)))
        fun _ => (kept_then (windowFire_kept ..) (kept_rfl _)))

theorem execProtectionTrip_keeps (s : State) : Keeps s (execProtectionTrip s) := by
  unfold execProtectionTrip
  refine keeps_of_kept ?_
  split
  · exact kept_rfl _
  · exact kept_when
      (kept_each (kept_then (tripWords_kept ..) (kept_upSys (kept_rfl _))) fun _ _ => (kept_then (windowTrip_kept ..) (kept_rfl _)))
      fun _ => (kept_then (wake_kept ..) (kept_rfl _))

theorem execPrecisionConversion_keeps (x : Fin 2) (raw : BitVec 24) (s : State) :
    Keeps s (execPrecisionConversion x raw s) := by
  unfold execPrecisionConversion
  refine keeps_of_kept ?_
  exact kept_ite
      (kept_then (pmServe_kept ..) (kept_upPx (kept_then (pmListEnd_kept ..) (kept_rfl _))))
      (kept_ite
        (kept_then (pmServe_kept ..) (kept_upPx (kept_then (pmResult_kept ..) (kept_rfl _))))
        (kept_ite (kept_then (pmServe_kept ..) (kept_upPx (kept_then (pmCalEnd_kept ..) (kept_rfl _)))) (kept_rfl _)))

theorem execOpenWireTest_keeps (x : Fin 2) (raw : BitVec 24) (s : State) : Keeps s (execOpenWireTest x raw s) := by
  unfold execOpenWireTest
  refine keeps_of_kept ?_
  dsimp only
  exact kept_ite (kept_rfl _)
      (by
        split
        · exact (kept_then (pmServe_kept ..)
            (kept_ite
              (kept_upPmIn (kept_upPmIn (kept_upPx (kept_rfl _))))
              (kept_then (pmEvent_kept ..) (kept_putB (kept_upPmIn (kept_upPmIn (kept_upPx (kept_rfl _))))))))
        · exact (kept_then (pmServe_kept ..) (kept_upPmIn (kept_upPx (kept_rfl _)))))

theorem execMainsCrossing_keeps (rising : Bool) (s : State) : Keeps s (execMainsCrossing rising s) := by
  unfold execMainsCrossing
  refine keeps_of_kept ?_
  exact kept_ite (kept_rfl _)
      (kept_ite (kept_putB (kept_rfl _))
        (by
          split
          · exact (kept_upPm (kept_putB (kept_rfl _)))
          · exact (kept_then (pmPeriod_kept ..)
              (kept_ite
                (kept_then (mainsPut_kept ..) (kept_upPm (kept_putB (kept_rfl _))))
                (kept_when (kept_upPm (kept_putB (kept_rfl _))) fun _ => (kept_then (mainsPut_kept ..) (kept_rfl _)))))))

theorem execMainsTimeout_keeps (s : State) : Keeps s (execMainsTimeout s) := by
  unfold execMainsTimeout
  refine keeps_of_kept ?_
  exact kept_ite (kept_rfl _) (kept_then (pmPeriod_kept ..) (kept_then (mainsPut_kept ..) (kept_upPm (kept_rfl _))))

theorem execPmUrgent_keeps (w : Writer) (j : Fin 64) (s : State) : Keeps s (execPmUrgent w j s) := by
  simp [execPmUrgent]

theorem execPmQpop_keeps (p : Fin 4) (s : State) : Keeps s (execPmQpop p s) := by
  simp [execPmQpop]

theorem execPmCalZero_keeps (w : Writer) (j : Fin 64) (n : Fin 16) (s : State) : Keeps s (execPmCalZero w j n s) := by
  simp [execPmCalZero]

theorem execPmCalFull_keeps (w : Writer) (j : Fin 64) (n : Fin 16) (s : State) : Keeps s (execPmCalFull w j n s) := by
  simp [execPmCalFull]

theorem execPmCalCommit_keeps (w : Writer) (s : State) : Keeps s (execPmCalCommit w s) := by
  simp [execPmCalCommit]

theorem execPmCalAbort_keeps (w : Writer) (s : State) : Keeps s (execPmCalAbort w s) := by
  simp [execPmCalAbort]

theorem execEncoderEdge_keeps (n : Fin 4) (a b : Bool) (s : State) : Keeps s (execEncoderEdge n a b s) := by
  unfold execEncoderEdge
  refine keeps_of_kept ?_
  exact kept_ite (kept_rfl _)
      (kept_then (piPo_kept ..)
        (kept_ite
          (kept_then (edgeRate_kept ..)
            (kept_then (posInvalid_kept ..) (kept_put (kept_bump (kept_then (piTake_kept ..) (kept_rfl _))))))
          (kept_then (piLevels_kept ..) (kept_then (piCountStep_kept ..) (kept_then (piTake_kept ..) (kept_rfl _))))))

theorem execEncoderIndex_keeps (n : Fin 4) (z : Bool) (s : State) : Keeps s (execEncoderIndex n z s) := by
  unfold execEncoderIndex
  refine keeps_of_kept ?_
  exact kept_ite (kept_rfl _) (kept_then (piPo_kept ..) (kept_then (piLevels_kept ..) (kept_then (piTake_kept ..) (kept_rfl _))))

theorem execHallTransition_keeps (n : Fin 4) (code : Fin 8) (s : State) : Keeps s (execHallTransition n code s) := by
  unfold execHallTransition
  refine keeps_of_kept ?_
  exact kept_ite (kept_rfl _)
      (kept_then (piPo_kept ..)
        (by
          split
          · exact (kept_then (posInvalid_kept ..) (kept_put (kept_put (kept_then (piTake_kept ..) (kept_rfl _)))))
          · exact (kept_ite
              (kept_then (posValid_kept ..)
                (kept_then (piCountPut_kept ..) (kept_put (kept_put (kept_then (piTake_kept ..) (kept_rfl _))))))
              (by
                split
                · exact (kept_then (posValid_kept ..)
                    (kept_then (piCountPut_kept ..) (kept_put (kept_put (kept_then (piTake_kept ..) (kept_rfl _))))))
                · exact (kept_ite
                    (kept_put (kept_put (kept_then (piTake_kept ..) (kept_rfl _))))
                    (kept_ite
                      (kept_then (piCountStep_kept ..) (kept_put (kept_put (kept_then (piTake_kept ..) (kept_rfl _)))))
                      (kept_ite
                        (kept_then (piCountStep_kept ..) (kept_put (kept_put (kept_then (piTake_kept ..) (kept_rfl _)))))
                        (kept_then (edgeRate_kept ..)
                          (kept_then (piCountPut_kept ..)
                            (kept_bump (kept_put (kept_put (kept_then (piTake_kept ..) (kept_rfl _))))))))))))))

theorem execFilterReject_keeps (n : Fin 4) (s : State) : Keeps s (execFilterReject n s) := by
  unfold execFilterReject
  refine keeps_of_kept ?_
  exact kept_ite (kept_rfl _)
      (kept_then (piPo_kept ..)
        (kept_ite (kept_then (edgeRate_kept ..) (kept_upPi (kept_bump (kept_rfl _)))) (kept_upPi (kept_bump (kept_rfl _)))))

theorem execSsiRead_keeps (n : Fin 4) (data : Word) (err lineOk : Bool) (s : State) :
    Keeps s (execSsiRead n data err lineOk s) := by
  unfold execSsiRead
  refine keeps_of_kept ?_
  exact kept_ite (kept_rfl _)
      (kept_ite (kept_upPi (kept_rfl _))
        (kept_then (piPo_kept ..)
          (kept_ite
            (kept_then (ssiReject_kept ..) (kept_upPi (kept_then (piTake_kept ..) (kept_rfl _))))
            (kept_ite
              (kept_then (edgeRate_kept ..) (kept_then (ssiReject_kept ..) (kept_upPi (kept_then (piTake_kept ..) (kept_rfl _)))))
              (kept_then (piMotion_kept ..)
                (kept_then (piCountPut_kept ..)
                  (kept_then (posValid_kept ..) (kept_upPi (kept_upPi (kept_then (piTake_kept ..) (kept_rfl _)))))))))))

theorem execSpeedTimeout_keeps (n : Fin 4) (s : State) : Keeps s (execSpeedTimeout n s) := by
  unfold execSpeedTimeout
  refine keeps_of_kept ?_
  exact kept_ite (kept_then (piPo_kept ..) (kept_upPi (kept_put (kept_rfl _)))) (kept_rfl _)

theorem execSpdValidRestored_keeps (n : Fin 4) (s : State) : Keeps s (execSpdValidRestored n s) := by
  unfold execSpdValidRestored
  refine keeps_of_kept ?_
  exact kept_ite (kept_then (piPo_kept ..) (kept_putB (kept_rfl _))) (kept_rfl _)

theorem execPiCntWrite_keeps (w : Writer) (n : Fin 4) (v : Word) (s : State) : Keeps s (execPiCntWrite w n v s) := by
  simp [execPiCntWrite]

theorem execDinEdge_keeps (d : Fin 24) (level : Bool) (s : State) : Keeps s (execDinEdge d level s) := by
  unfold execDinEdge
  refine keeps_of_kept ?_
  exact kept_ite (kept_rfl _)
      (kept_ite (kept_putBit (kept_rfl _))
        (kept_then (dinFeed_kept ..) (kept_putBit (kept_putBit (kept_putBit (kept_putBit (kept_rfl _)))))))

theorem execDinChatter_keeps (d : Fin 24) (s : State) : Keeps s (execDinChatter d s) := by
  unfold execDinChatter
  refine keeps_of_kept ?_
  exact kept_ite (kept_rfl _) (kept_ite (kept_bump (kept_rfl _)) (kept_then (raise_kept ..) (kept_putBit (kept_bump (kept_rfl _)))))

theorem execDinChatterDecay_keeps (s : State) : Keeps s (execDinChatterDecay s) := by
  unfold execDinChatterDecay
  refine keeps_of_kept ?_
  exact kept_each (kept_rfl _) fun _ _ => (kept_when (kept_put (kept_rfl _)) fun _ => (kept_putBit (kept_rfl _)))

theorem execDinStale_keeps (d : Fin 24) (s : State) : Keeps s (execDinStale d s) := by
  unfold execDinStale
  refine keeps_of_kept ?_
  exact kept_ite (kept_rfl _) (kept_then (raise_kept ..) (kept_putBit (kept_rfl _)))

theorem execStoInputChange_keeps (a b : Bool) (s : State) : Keeps s (execStoInputChange a b s) := by
  unfold execStoInputChange
  refine keeps_of_kept ?_
  exact kept_ite (kept_rfl _) (kept_then (stoEval_kept ..) (kept_then (wake_kept ..) (kept_putB (kept_putB (kept_rfl _)))))

theorem execStoDiscrepancy_keeps (s : State) : Keeps s (execStoDiscrepancy s) := by
  unfold execStoDiscrepancy
  refine keeps_of_kept ?_
  exact kept_ite (kept_rfl _) (kept_then (safEvent_kept ..) (kept_putB (kept_rfl _)))

theorem execStoRelease_keeps (s : State) : Keeps s (execStoRelease s) := by
  unfold execStoRelease
  refine keeps_of_kept ?_
  exact kept_ite (kept_rfl _) (kept_then (safRefresh_kept ..) (kept_then (safEvent_kept ..) (kept_putB (kept_rfl _))))

theorem execSs1Request_keeps (a : Fin 8) (s : State) : Keeps s (execSs1Request a s) := by
  simp [execSs1Request]

theorem execSs1StoPhase_keeps (a : Fin 8) (s : State) : Keeps s (execSs1StoPhase a s) := by
  simp [execSs1StoPhase]

theorem execSs1SpeedCheck_keeps (a : Fin 8) (s : State) : Keeps s (execSs1SpeedCheck a s) := by
  simp only [execSs1SpeedCheck, keeps_next]; (repeat' split) <;> simp

theorem execTmonUpdate_keeps (a : Fin 8) (da db dc : Fin 401) (s : State) : Keeps s (execTmonUpdate a da db dc s) := by
  unfold execTmonUpdate
  refine keeps_of_kept ?_
  exact kept_ite (kept_rfl _) (kept_putB (kept_put (kept_upSaf (kept_set_free (kept_rfl _)))))

theorem execTmonFault_keeps (a : Fin 8) (s : State) : Keeps s (execTmonFault a s) := by
  unfold execTmonFault
  refine keeps_of_kept ?_
  exact kept_ite (kept_rfl _) (kept_then (safeFor_kept ..) (kept_then (safEvent_kept ..) (kept_putB (kept_rfl _))))

theorem execOv1Firing_keeps (g : Fin 4) (s : State) : Keeps s (execOv1Firing g s) := by
  simp [execOv1Firing]

theorem execTlimRampEnd_keeps (g : Fin 4) (s : State) : Keeps s (execTlimRampEnd g s) := by
  unfold execTlimRampEnd
  refine keeps_of_kept ?_
  exact kept_ite (kept_upLnk (kept_rfl _))
      (kept_ite
        (kept_then (tlimShow_kept ..) (kept_then (safEvent_kept ..) (kept_then (linkPut_kept ..) (kept_upLnk (kept_rfl _)))))
        (kept_rfl _))

theorem execOv2Firing_keeps (g : Fin 4) (s : State) : Keeps s (execOv2Firing g s) := by
  simp [execOv2Firing]

theorem execDischargeRequest_keeps (g : Fin 4) (s : State) : Keeps s (execDischargeRequest g s) := by
  unfold execDischargeRequest
  refine keeps_of_kept ?_
  exact kept_ite (kept_then (disEval_kept ..) (kept_then (disRequest_kept ..) (kept_rfl _))) (kept_then (disEval_kept ..) (kept_rfl _))

theorem execDischargeDone_keeps (g : Fin 4) (s : State) : Keeps s (execDischargeDone g s) := by
  unfold execDischargeDone
  refine keeps_of_kept ?_
  exact kept_ite (kept_then (disEnd_kept ..) (kept_rfl _)) (kept_rfl _)

theorem execDischargeTimeout_keeps (g : Fin 4) (s : State) : Keeps s (execDischargeTimeout g s) := by
  unfold execDischargeTimeout
  refine keeps_of_kept ?_
  exact kept_ite (kept_rfl _) (kept_then (disEnd_kept ..) (kept_rfl _))

theorem execCtClose_keeps (w : Writer) (k : Fin 8) (s : State) : Keeps s (execCtClose w k s) := by
  simp [execCtClose]

theorem execCtOpen_keeps (w : Writer) (k : Fin 8) (s : State) : Keeps s (execCtOpen w k s) := by
  unfold execCtOpen
  refine keeps_of_kept ?_
  exact kept_then (writeCmd_kept ..) (kept_rfl _)

theorem execCtFeedbackFault_keeps (k : Fin 8) (s : State) : Keeps s (execCtFeedbackFault k s) := by
  unfold execCtFeedbackFault
  refine keeps_of_kept ?_
  exact kept_ite (kept_rfl _)
      (kept_each
        (kept_then (safRefresh_kept ..)
          (kept_then (preAll_kept ..)
            (kept_when (kept_then (safEvent_kept ..) (kept_putBit (kept_rfl _))) fun _ => (kept_then (ctDrive_kept ..) (kept_rfl _)))))
        fun _ _ => (kept_then (safeFor_kept ..) (kept_rfl _)))

theorem execPrechargeVoltageReached_keeps (g : Fin 4) (s : State) : Keeps s (execPrechargeVoltageReached g s) := by
  simp [execPrechargeVoltageReached]

theorem execPrechargeTimeout_keeps (g : Fin 4) (s : State) : Keeps s (execPrechargeTimeout g s) := by
  unfold execPrechargeTimeout
  refine keeps_of_kept ?_
  exact kept_ite (kept_then (safEvent_kept ..) (kept_then (preEnd_kept ..) (kept_rfl _))) (kept_rfl _)

theorem execComparatorTestSlice_keeps (k : Fin 32) (wb : Bool) (copy : Fin 2) (pass : Bool) (s : State) :
    Keeps s (execComparatorTestSlice k wb copy pass s) := by
  unfold execComparatorTestSlice
  refine keeps_of_kept ?_
  dsimp only
  exact kept_ite
      (kept_when (kept_rfl _) fun _ => (kept_put (kept_rfl _)))
      (kept_ite
        (kept_set_cmpFails (kept_put (kept_putB (kept_put (kept_when (kept_rfl _) fun _ => (kept_put (kept_rfl _)))))))
        (kept_then (copyLost_kept ..)
          (kept_then (unitRecord_kept ..)
            (kept_then (markOut_kept ..)
              (kept_then (safEvent_kept ..)
                (kept_bump
                  (kept_putBit
                    (kept_set_cmpFails (kept_put (kept_putB (kept_put (kept_when (kept_rfl _) fun _ => (kept_put (kept_rfl _))))))))))))))

theorem execDidtTest_keeps (i : Fin 8) (c : Fin 6) (pass skipped : Bool) (s : State) :
    Keeps s (execDidtTest i c pass skipped s) := by
  unfold execDidtTest
  refine keeps_of_kept ?_
  dsimp only
  exact kept_ite (kept_rfl _)
      (kept_ite (kept_bump (kept_rfl _))
        (kept_ite (kept_rfl _)
          (by
            split
            · exact (kept_then (enterSafe_kept ..) (kept_then (safEvent_kept ..) (kept_rfl _)))
            · exact (kept_then (safEvent_kept ..) (kept_rfl _)))))

theorem execDelayScrub_keeps (kind : Fin 3) (u : Fin 32) (field : Fin 3) (copy : Option (Fin 3)) (s : State) :
    Keeps s (execDelayScrub kind u field copy s) := by
  unfold execDelayScrub
  refine keeps_of_kept ?_
  exact kept_ite (kept_rfl _)
      (by
        split
        · exact (kept_then (safEvent_kept ..) (kept_bump (kept_rfl _)))
        · exact (kept_then (flSettle_kept ..)
            (kept_each
              (kept_then (faultRecord_kept ..) (kept_then (safEvent_kept ..) (kept_bump (kept_set_voteFail (kept_rfl _)))))
              fun _ _ => (kept_then (enterSafe_kept ..) (kept_rfl _)))))

theorem execTempUpdate_keeps (u : Fin 9) (temp : BitVec 12) (s : State) : Keeps s (execTempUpdate u temp s) := by
  unfold execTempUpdate
  refine keeps_of_kept ?_
  exact kept_ite (kept_rfl _)
      (kept_ite
        (kept_ite (kept_putB (kept_put (kept_rfl _))) (kept_putB (kept_put (kept_rfl _))))
        (kept_then (wake_kept ..)
          (kept_then (safEvent_kept ..)
            (kept_putBit (kept_putBit (kept_ite (kept_putB (kept_put (kept_rfl _))) (kept_putB (kept_put (kept_rfl _)))))))))

theorem execSpbWrite_keeps (w : Writer) (word : Fin 76) (v : Word) (s : State) : Keeps s (execSpbWrite w word v s) := by
  simp [execSpbWrite]

theorem execSafArm_keeps (w : Writer) (s : State) : Keeps s (execSafArm w s) := by
  simp [execSafArm]

theorem execSafDisarm_keeps (w : Writer) (s : State) : Keeps s (execSafDisarm w s) := by
  simp [execSafDisarm]

theorem execSafClear_keeps (w : Writer) (s : State) : Keeps s (execSafClear w s) := by
  simp [execSafClear]

theorem execWindowMismatch_keeps (n : Fin 5) (s : State) : Keeps s (execWindowMismatch n s) := by
  simp [execWindowMismatch]

theorem execRecoveryTestDone_keeps (n : Fin 5) (pass : Bool) (s : State) : Keeps s (execRecoveryTestDone n pass s) := by
  unfold execRecoveryTestDone
  refine keeps_of_kept ?_
  dsimp only
  exact kept_ite (kept_rfl _)
      (kept_ite
        (kept_upCp (kept_then (coreClear_kept ..) (kept_rfl _)))
        (by
          split
          · exact (kept_ite
              (kept_then (pairUnusable_kept ..) (kept_then (faultRecord_kept ..) (kept_rfl _)))
              (kept_then (takeoverDue_kept ..) (kept_then (pairUnusable_kept ..) (kept_then (faultRecord_kept ..) (kept_rfl _)))))
          · exact (kept_ite
              (kept_then (faultRecord_kept ..) (kept_then (pairUnusable_kept ..) (kept_then (faultRecord_kept ..) (kept_rfl _))))
              (kept_then (pairUnusable_kept ..) (kept_then (faultRecord_kept ..) (kept_rfl _))))))

theorem execKgrpWrite_keeps (n : Fin 5) (v : Bool) (s : State) : Keeps s (execKgrpWrite n v s) := by
  unfold execKgrpWrite
  refine keeps_of_kept ?_
  exact kept_ite (kept_rfl _) (kept_then (kgrpPut_kept ..) (kept_rfl _))

theorem execDebugHalt_keeps (n : Fin 5) (s : State) : Keeps s (execDebugHalt n s) := by
  unfold execDebugHalt
  refine keeps_of_kept ?_
  exact kept_ite (kept_rfl _) (kept_ite (kept_upCp (kept_rfl _)) (kept_ite (kept_then (pairHalt_kept ..) (kept_rfl _)) (kept_rfl _)))

theorem execDebugResume_keeps (n : Fin 5) (equal : Bool) (s : State) : Keeps s (execDebugResume n equal s) := by
  unfold execDebugResume
  refine keeps_of_kept ?_
  exact kept_ite (kept_rfl _)
      (kept_ite
        (kept_then (redEvent_kept ..) (kept_upRed (kept_upCp (kept_put (kept_rfl _)))))
        (kept_ite
          (kept_then (faultRecord_kept ..)
            (kept_then (redEvent_kept ..) (kept_then (redEvent_kept ..) (kept_upRed (kept_upCp (kept_put (kept_rfl _)))))))
          (kept_then (restartBegin_kept ..)
            (kept_then (faultRecord_kept ..)
              (kept_then (redEvent_kept ..) (kept_then (redEvent_kept ..) (kept_upRed (kept_upCp (kept_put (kept_rfl _))))))))))

theorem execMacResidueFail_keeps (e : Fin 2) (lane : Fin 9) (s : State) : Keeps s (execMacResidueFail e lane s) := by
  unfold execMacResidueFail
  refine keeps_of_kept ?_
  exact kept_ite (kept_rfl _) (kept_then (setAside_kept ..) (kept_then (unitRecord_kept ..) (kept_rfl _)))

theorem execEngineSigFail_keeps (e : Fin 2) (s : State) : Keeps s (execEngineSigFail e s) := by
  unfold execEngineSigFail
  refine keeps_of_kept ?_
  exact kept_ite (kept_rfl _) (kept_then (setAside_kept ..) (kept_then (unitRecord_kept ..) (kept_rfl _)))

theorem execBistSlice_keeps (kind : Fin 10) (unit : BitVec 16) (pass last : Bool) (way : Option (Fin 8)) (s : State) :
    Keeps s (execBistSlice kind unit pass last way s) := by
  unfold execBistSlice
  refine keeps_of_kept ?_
  exact kept_ite (kept_rfl _)
      (kept_when
        (kept_then (sliceEnd_kept ..) (kept_rfl _))
        fun _ => (kept_then (redEvent_kept ..) (kept_put (kept_upRed (kept_rfl _)))))

theorem execBistSliceAbandoned_keeps (s : State) : Keeps s (execBistSliceAbandoned s) := by
  unfold execBistSliceAbandoned
  refine keeps_of_kept ?_
  exact kept_when (kept_rfl _) fun _ => (kept_bump (kept_rfl _))

theorem execRotation_keeps (s : State) : Keeps s (execRotation s) := by
  unfold execRotation
  refine keeps_of_kept ?_
  exact kept_ite (kept_rfl _)
      (by
        split
        · exact (kept_then (rotateAsk_kept ..) (kept_rfl _))
        · exact (kept_rfl _))

theorem execRotationGraceExpiry_keeps (s : State) : Keeps s (execRotationGraceExpiry s) := by
  unfold execRotationGraceExpiry
  refine keeps_of_kept ?_
  split
  · exact kept_rfl _
  · exact kept_ite (kept_rfl _)
      (kept_when
        (kept_then (redEvent_kept ..) (kept_upRed (kept_putB (kept_rfl _))))
        fun _ => (kept_then (svcEnd_kept ..) (kept_rfl _)))

theorem execUnitOut_keeps (s : State) : Keeps s (execUnitOut s) := by
  unfold execUnitOut
  refine keeps_of_kept ?_
  dsimp only
  split
  · exact kept_rfl _
  · exact kept_ite (kept_rfl _)
      (kept_ite
        (kept_then (svcEnd_kept ..) (kept_then (svcStep_kept ..) (kept_then (svcStep_kept ..) (kept_rfl _))))
        (kept_ite
          (kept_then (svcEnd_kept ..) (kept_rfl _))
          (by
            split
            · exact (kept_upRed (kept_then (redEvent_kept ..) (kept_upRed (kept_then (svcStep_kept ..) (kept_rfl _)))))
            · exact (kept_then (svcEnd_kept ..)
                (kept_then (svcStep_kept ..)
                  (kept_then (unitLeave_kept ..)
                    (kept_then (redEvent_kept ..) (kept_upRed (kept_then (svcStep_kept ..) (kept_rfl _))))))))))

theorem execRejoin_keeps (slicePass : Bool) (shadow : Bool × BitVec 16) (s : State) :
    Keeps s (execRejoin slicePass shadow s) := by
  unfold execRejoin
  refine keeps_of_kept ?_
  split
  · exact kept_rfl _
  · exact kept_ite
      (kept_ite
        (kept_then (svcEnd_kept ..) (kept_rfl _))
        (kept_ite
          (kept_then (svcEnd_kept ..)
            (kept_then (redEvent_kept ..)
              (kept_then (unitRecord_kept ..)
                (kept_when
                  (kept_when (kept_rfl _) fun _ => (kept_then (coreClear_kept ..) (kept_rfl _)))
                  fun _ => (kept_then (bistFail_kept ..) (kept_rfl _))))))
          (kept_upRed
            (kept_then (rejoinShow_kept ..)
              (kept_then (svcStep_kept ..) (kept_when (kept_rfl _) fun _ => (kept_then (coreClear_kept ..) (kept_rfl _))))))))
      (kept_ite
        (kept_ite
          (kept_then (svcEnd_kept ..) (kept_then (redEvent_kept ..) (kept_then (unitRecord_kept ..) (kept_rfl _))))
          (kept_when (kept_upRed (kept_rfl _)) fun _ => (kept_then (svcStep_kept ..) (kept_rfl _))))
        (kept_then (rejoinEnd_kept ..) (kept_rfl _)))

theorem execTest_keeps (pass : Bool) (s : State) : Keeps s (execTest pass s) := by
  unfold execTest
  refine keeps_of_kept ?_
  split
  · exact kept_rfl _
  · exact kept_ite
      (kept_then (svcEnd_kept ..) (kept_rfl _))
      (kept_then (svcEnd_kept ..) (kept_then (svcStep_kept ..) (kept_then (sliceEnd_kept ..) (kept_rfl _))))

theorem execFuse_keeps (s : State) : Keeps s (execFuse s) := by
  unfold execFuse
  refine keeps_of_kept ?_
  dsimp only
  split
  · exact kept_rfl _
  · exact kept_ite
      (kept_then (svcEnd_kept ..) (kept_rfl _))
      (by
        split
        · exact (kept_then (svcEnd_kept ..) (kept_rfl _))
        · exact (kept_ite
            (kept_then (svcEnd_kept ..) (kept_rfl _))
            (kept_then (svcStep_kept ..)
              (kept_then (redEvent_kept ..)
                (kept_then (arraysShow_kept ..) (kept_then (vqPush_kept ..) (kept_upRed (kept_rfl _))))))))

theorem execRotate_keeps (s : State) : Keeps s (execRotate s) := by
  unfold execRotate
  refine keeps_of_kept ?_
  split
  · exact kept_rfl _
  · exact kept_ite (kept_rfl _)
      (kept_ite
        (kept_then (svcEnd_kept ..) (kept_rfl _))
        (kept_ite (kept_then (svcEnd_kept ..) (kept_rfl _)) (kept_then (rotateAsk_kept ..) (kept_rfl _))))

theorem execFlClear_keeps (s : State) : Keeps s (execFlClear s) := by
  unfold execFlClear
  refine keeps_of_kept ?_
  split
  · exact kept_rfl _
  · exact kept_then (svcEnd_kept ..) (kept_then (svcStep_kept ..) (kept_then (flHead_kept ..) (kept_set_fl (kept_rfl _))))

theorem execDeviceSafe_keeps (s : State) : Keeps s (execDeviceSafe s) := by
  simp [execDeviceSafe]

theorem execDsafeDelayExpiry_keeps (s : State) : Keeps s (execDsafeDelayExpiry s) := by
  unfold execDsafeDelayExpiry
  refine keeps_of_kept ?_
  exact kept_ite (kept_then (warmDo_kept ..) (kept_rfl _)) (kept_rfl _)

theorem execSeqCopyDisagree_keeps (s : State) : Keeps s (execSeqCopyDisagree s) := by
  simp [execSeqCopyDisagree]

theorem execVaultWriteQueued_keeps (w : Writer) (addr : BitVec 20) (v : Word) (s : State) :
    Keeps s (execVaultWriteQueued w addr v s) := by
  unfold execVaultWriteQueued
  refine keeps_of_kept ?_
  exact kept_ite (kept_then (writeCmd_kept ..) (kept_rfl _)) (kept_rfl _)

theorem execKeyRevoke_keeps (w : Writer) (v : Word) (s : State) : Keeps s (execKeyRevoke w v s) := by
  simp [execKeyRevoke]

theorem execMinSvnWrite_keeps (w : Writer) (v : Word) (s : State) : Keeps s (execMinSvnWrite w v s) := by
  simp [execMinSvnWrite]

theorem execStageCopy_keeps (w : Writer) (s : State) : Keeps s (execStageCopy w s) := by
  simp [execStageCopy]

theorem execActivate_keeps (s : State) : Keeps s (execActivate s) := by
  unfold execActivate
  refine keeps_of_kept ?_
  exact kept_ite (kept_rfl _) (kept_ite (kept_then (actEnd_kept ..) (kept_putB (kept_rfl _))) (kept_then (actEnd_kept ..) (kept_rfl _)))

theorem execAttGo_keeps (w : Writer) (s : State) : Keeps s (execAttGo w s) := by
  simp [execAttGo]

theorem execAttReady_keeps (s : State) : Keeps s (execAttReady s) := by
  unfold execAttReady
  refine keeps_of_kept ?_
  exact kept_ite (kept_putB (kept_rfl _)) (kept_rfl _)

theorem execDbgLock_keeps (w : Writer) (s : State) : Keeps s (execDbgLock w s) := by
  simp [execDbgLock]

theorem execSeamLinkUp_keeps (p : Fin 3) (s : State) : Keeps s (execSeamLinkUp p s) := by
  unfold execSeamLinkUp
  refine keeps_of_kept ?_
  exact kept_ite (kept_rfl _) (kept_then (seamEvent_kept ..) (kept_then (linkJudge_kept ..) (kept_put (kept_rfl _))))

theorem execSeamLinkDown_keeps (p : Fin 3) (s : State) : Keeps s (execSeamLinkDown p s) := by
  unfold execSeamLinkDown
  refine keeps_of_kept ?_
  exact kept_ite (kept_rfl _)
      (kept_ite
        (kept_then (alignStop_kept ..) (kept_then (seamEvent_kept ..) (kept_upSp (kept_bump (kept_putB (kept_put (kept_rfl _)))))))
        (kept_then (seamEvent_kept ..) (kept_upSp (kept_bump (kept_putB (kept_put (kept_rfl _)))))))

theorem execLinkMeasurement_keeps (p : Fin 3) (t1 t2 t3 t4 : BitVec 80) (s : State) :
    Keeps s (execLinkMeasurement p t1 t2 t3 t4 s) := by
  unfold execLinkMeasurement
  refine keeps_of_kept ?_
  exact kept_ite (kept_rfl _)
      (kept_ite
        (kept_then (timeAlign_kept ..)
          (kept_when (kept_put (kept_rfl _)) fun _ => (kept_then (linkJudge_kept ..) (kept_putB (kept_rfl _)))))
        (kept_when (kept_put (kept_rfl _)) fun _ => (kept_then (linkJudge_kept ..) (kept_putB (kept_rfl _)))))

theorem execDiscoverySend_keeps (s : State) : Keeps s (execDiscoverySend s) := by
  unfold execDiscoverySend
  refine keeps_of_kept ?_
  exact kept_ite (kept_rfl _)
      (kept_then (hopSend_kept ..) (kept_upSeam (kept_then (seamFlood_kept ..) (kept_then (tableRound_kept ..) (kept_rfl _)))))

theorem execDiscoveryFrame_keeps (p : Fin 3) (domain : BitVec 8) (f : SeamDisc) (s : State) :
    Keeps s (execDiscoveryFrame p domain f s) := by
  unfold execDiscoveryFrame
  refine keeps_of_kept ?_
  exact kept_ite (kept_rfl _)
      (kept_ite (kept_putB (kept_rfl _))
        (by
          split
          · exact (kept_ite
              (kept_ite
                (kept_then (linkJudge_kept ..) (kept_upSp (kept_rfl _)))
                (kept_upSeam
                  (kept_when
                    (kept_then (linkJudge_kept ..) (kept_upSp (kept_rfl _)))
                    fun _ => (kept_then (wake_kept ..) (kept_rfl _)))))
              (kept_emit
                (kept_then (hopSend_kept ..)
                  (kept_upSp (kept_then (hopTake_kept ..) (kept_then (linkJudge_kept ..) (kept_upSp (kept_rfl _))))))))
          · exact (kept_ite
              (kept_upSeam (kept_when (kept_rfl _) fun _ => (kept_then (wake_kept ..) (kept_rfl _))))
              (by
                split
                · exact (kept_emit (kept_rfl _))
                · exact (kept_rfl _)))
          · exact (kept_ite (kept_rfl _)
              (kept_then (seamFlood_kept ..)
                (kept_then (tableRound_kept ..) (kept_when (kept_rfl _) fun _ => (kept_then (wake_kept ..) (kept_rfl _))))))))

theorem execTopologySettled_keeps (s : State) : Keeps s (execTopologySettled s) := by
  unfold execTopologySettled
  refine keeps_of_kept ?_
  exact kept_ite
      (kept_ite (kept_then (seamEvent_kept ..) (kept_put (kept_rfl _))) (kept_rfl _))
      (kept_ite (kept_rfl _) (kept_then (topoApply_kept ..) (kept_rfl _)))

theorem execSeamTripOriginate_keeps (s : State) : Keeps s (execSeamTripOriginate s) := by
  unfold execSeamTripOriginate
  refine keeps_of_kept ?_
  split
  · exact kept_rfl _
  · exact kept_then (seamSend_kept ..) (kept_upSeam (kept_rfl _))

theorem execSeamTripCmd_keeps (w : Writer) (v : Word) (s : State) : Keeps s (execSeamTripCmd w v s) := by
  simp [execSeamTripCmd]

theorem execSeamTripRx_keeps (p : Fin 3) (groups seq : BitVec 4) (origin : BitVec 10) (s : State) :
    Keeps s (execSeamTripRx p groups seq origin s) := by
  unfold execSeamTripRx
  refine keeps_of_kept ?_
  exact kept_ite (kept_rfl _) (kept_then (tripTake_kept ..) (kept_rfl _))

theorem execRootPathLost_keeps (s : State) : Keeps s (execRootPathLost s) := by
  unfold execRootPathLost
  refine keeps_of_kept ?_
  exact kept_ite (kept_rfl _) (kept_then (tripTake_kept ..) (kept_fresh (kept_fresh (kept_rfl _))))

theorem execRingReparent_keeps (p : Fin 3) (s : State) : Keeps s (execRingReparent p s) := by
  unfold execRingReparent
  refine keeps_of_kept ?_
  exact kept_ite (kept_rfl _) (kept_then (alignStop_kept ..) (kept_put (kept_rfl _)))

theorem execPeerPublish_keeps (s : State) : Keeps s (execPeerPublish s) := by
  unfold execPeerPublish
  refine keeps_of_kept ?_
  exact kept_ite (kept_rfl _)
      (kept_each (kept_then (peerSeen_kept ..) (kept_upSeam (kept_rfl _))) fun _ _ => (kept_then (peerQueue_kept ..) (kept_rfl _)))

theorem execPeerFrameRx_keeps (p : Fin 3) (crcOk : Bool) (origin : BitVec 10) (seq period : BitVec 16) (ws : List Word) (s : State) :
    Keeps s (execPeerFrameRx p crcOk origin seq period ws s) := by
  unfold execPeerFrameRx
  refine keeps_of_kept ?_
  exact kept_ite (kept_rfl _)
      (kept_ite (kept_bump (kept_rfl _))
        (kept_ite (kept_rfl _)
          (kept_each
            (kept_each
              (kept_then (peerSeen_kept ..) (kept_rfl _))
              fun _ _ => (kept_ite (kept_rfl _) (kept_then (peerQueue_kept ..) (kept_rfl _))))
            fun _ _ =>
              (kept_ite (kept_rfl _)
                (kept_when
                  (kept_upSeam (kept_putB (kept_putB (kept_put (kept_then (slotWrite_kept ..) (kept_rfl _))))))
                  fun _ => (kept_then (wake_kept ..) (kept_rfl _)))))))

theorem execPeerStale_keeps (slot : Fin 4) (s : State) : Keeps s (execPeerStale slot s) := by
  unfold execPeerStale
  refine keeps_of_kept ?_
  exact kept_ite (kept_rfl _) (kept_then (seamEvent_kept ..) (kept_putB (kept_rfl _)))

theorem execTalRun_keeps (w : Writer) (on : Bool) (s : State) : Keeps s (execTalRun w on s) := by
  simp [execTalRun]

theorem execTalLatch_keeps (w : Writer) (s : State) : Keeps s (execTalLatch w s) := by
  simp [execTalLatch]

theorem execTalClear_keeps (w : Writer) (s : State) : Keeps s (execTalClear w s) := by
  simp [execTalClear]

theorem execTalOverflow_keeps (n : Fin 8) (inc : TalInc) (s : State) : Keeps s (execTalOverflow n inc s) := by
  unfold execTalOverflow
  refine keeps_of_kept ?_
  exact kept_then (talRaise_kept ..)
      (kept_when (kept_when (kept_rfl _) fun _ => (kept_then (talBump_kept ..) (kept_rfl _))) fun _ => (kept_putB (kept_rfl _)))

theorem execSampleEnd_keeps (src : Fin 6) (lost : Bool) (bits : BitVec 7) (skips : BitVec 16) (ws : Vector Word 6) (s : State) :
    Keeps s (execSampleEnd src lost bits skips ws s) := by
  unfold execSampleEnd
  refine keeps_of_kept ?_
  exact kept_ite (kept_rfl _) (kept_ite (kept_bump (kept_bump (kept_rfl _))) (kept_then (sampPut_kept ..) (kept_bump (kept_rfl _))))

theorem execTagRecord_keeps (e : Fin 2) (a : Fin 8) (corr done rep late sat : Bool) (macs wait urdy xrdy queue : BitVec 16) (s : State) :
    Keeps s (execTagRecord e a corr done rep late sat macs wait urdy xrdy queue s) := by
  unfold execTagRecord
  refine keeps_of_kept ?_
  exact kept_ite (kept_rfl _) (kept_then (sampPut_kept ..) (kept_rfl _))

theorem execTalSampRdWrite_keeps (w : Writer) (v : Word) (s : State) : Keeps s (execTalSampRdWrite w v s) := by
  simp [execTalSampRdWrite]

theorem execWindowConditionEnd_keeps (k : Fin 32) (wb : Bool) (s : State) : Keeps s (execWindowConditionEnd k wb s) := by
  unfold execWindowConditionEnd
  refine keeps_of_kept ?_
  exact kept_each
      (kept_then (windowEnd_kept ..) (kept_rfl _))
      fun _ _ => (kept_ite (kept_ite (kept_then (ov2End_kept ..) (kept_rfl _)) (kept_then (ov1Put_kept ..) (kept_rfl _))) (kept_rfl _))

theorem execContactorFeedbackChange_keeps (k : Fin 8) (level : Bool) (s : State) :
    Keeps s (execContactorFeedbackChange k level s) := by
  unfold execContactorFeedbackChange
  refine keeps_of_kept ?_
  exact kept_then (disAll_kept ..)
      (kept_each
        (kept_then (preAll_kept ..)
          (kept_when (kept_then (ctFeedback_kept ..) (kept_upSys (kept_rfl _))) fun _ => (kept_then (safEvent_kept ..) (kept_rfl _))))
        fun _ _ => (kept_when (kept_rfl _) fun _ => (kept_then (disRequest_kept ..) (kept_rfl _))))

theorem execCompareMatch_keeps (m : Fin 24) (e : CntEvent) (s : State) : Keeps s (execCompareMatch m e s) := by
  unfold execCompareMatch
  refine keeps_of_kept ?_
  exact kept_ite (kept_rfl _)
      (by
        split
        · exact (kept_ite (kept_rfl _)
            (kept_then (counterClock_kept ..) (kept_then (cntSet_kept ..) (kept_then (cntAdvance_kept ..) (kept_rfl _)))))
        · exact (kept_rfl _))

theorem execDeadTimeExpiry_keeps (m : Fin 24) (s : State) : Keeps s (execDeadTimeExpiry m s) := by
  unfold execDeadTimeExpiry
  refine keeps_of_kept ?_
  exact kept_ite (kept_rfl _) (kept_ite (kept_upLeg (kept_putB (kept_upLeg (kept_rfl _)))) (kept_putB (kept_upLeg (kept_rfl _))))

theorem execMinimumPulseExpiry_keeps (m : Fin 24) (s : State) : Keeps s (execMinimumPulseExpiry m s) := by
  unfold execMinimumPulseExpiry
  refine keeps_of_kept ?_
  exact kept_ite (kept_rfl _) (kept_then (legEdge_kept ..) (kept_upLeg (kept_rfl _)))

theorem execHoldStateGapEnd_keeps (i : Fin 8) (x : Fin 3) (s : State) : Keeps s (execHoldStateGapEnd i x s) := by
  unfold execHoldStateGapEnd
  refine keeps_of_kept ?_
  exact kept_ite (kept_rfl _) (kept_ite (kept_then (chTurnOn_kept ..) (kept_upIsl (kept_rfl _))) (kept_upIsl (kept_rfl _)))

theorem execConfigurationRequest_keeps (p : Fin 4) (r : CfgReq) (s : State) : Keeps s (execConfigurationRequest p r s) := by
  unfold execConfigurationRequest
  refine keeps_of_kept ?_
  dsimp only
  exact kept_ite (kept_rfl _)
      (by
        split
        · exact (kept_ite
            (kept_putB (kept_when (kept_rfl _) fun _ => (kept_then (wake_kept ..) (kept_rfl _))))
            (kept_then (fetchAll_kept ..)
              (kept_each
                (kept_then (wbFlush_kept ..)
                  (kept_putB (kept_when (kept_rfl _) fun _ => (kept_then (wake_kept ..) (kept_rfl _)))))
                fun _ _ => (kept_then (msixDue_kept ..) (kept_rfl _)))))
        · exact (kept_upPort (kept_when (kept_rfl _) fun _ => (kept_then (wake_kept ..) (kept_rfl _))))
        · exact (kept_put (kept_when (kept_rfl _) fun _ => (kept_then (wake_kept ..) (kept_rfl _))))
        · exact (kept_then (wbFlush_kept ..) (kept_put (kept_when (kept_rfl _) fun _ => (kept_then (wake_kept ..) (kept_rfl _)))))
        · exact (kept_upPort (kept_when (kept_rfl _) fun _ => (kept_then (wake_kept ..) (kept_rfl _))))
        · exact (kept_ite
            (kept_upPort (kept_when (kept_rfl _) fun _ => (kept_then (wake_kept ..) (kept_rfl _))))
            (kept_when (kept_rfl _) fun _ => (kept_then (wake_kept ..) (kept_rfl _))))
        · exact (kept_ite
            (kept_upPort (kept_when (kept_rfl _) fun _ => (kept_then (wake_kept ..) (kept_rfl _))))
            (kept_when (kept_rfl _) fun _ => (kept_then (wake_kept ..) (kept_rfl _))))
        · exact (kept_ite
            (kept_upPort (kept_when (kept_rfl _) fun _ => (kept_then (wake_kept ..) (kept_rfl _))))
            (kept_when (kept_rfl _) fun _ => (kept_then (wake_kept ..) (kept_rfl _))))
        · exact (kept_then (cfgRead_kept ..) (kept_when (kept_rfl _) fun _ => (kept_then (wake_kept ..) (kept_rfl _)))))

theorem execPerstNDeassertion_keeps (p : Fin 4) (s : State) : Keeps s (execPerstNDeassertion p s) := by
  unfold execPerstNDeassertion
  refine keeps_of_kept ?_
  exact kept_ite (kept_rfl _) (kept_when (kept_upPort (kept_rfl _)) fun _ => (kept_then (wake_kept ..) (kept_rfl _)))

theorem execDebuggerAttach_keeps (on : Bool) (s : State) : Keeps s (execDebuggerAttach on s) := by
  unfold execDebuggerAttach
  refine keeps_of_kept ?_
  exact kept_ite (kept_then (debugDetach_kept ..) (kept_rfl _)) (kept_when (kept_rfl _) fun _ => (kept_putB (kept_rfl _)))

theorem execAbstractCommand_keeps (n : Fin 5) (c : DbgCmd) (s : State) : Keeps s (execAbstractCommand n c s) := by
  unfold execAbstractCommand
  refine keeps_of_kept ?_
  exact kept_ite (kept_rfl _)
      (kept_ite (kept_upCp (kept_upRed (kept_rfl _))) (kept_then (debugDo_kept ..) (kept_upCp (kept_upRed (kept_rfl _)))))

theorem drrPick_of_eq {l : List Nat} {n : Nat} {s t : State} {c : Option Nat} (h : drrPick l n s = (t, c)) :
    t.pending = s.pending ∧ t.sram = s.sram ∧ t.vault = s.vault := by
  have hk := drrPick_kept l n s
  rwa [h] at hk

theorem execDescriptorStart_keeps (s : State) : Keeps s (execDescriptorStart s) := by
  unfold execDescriptorStart
  refine keeps_of_kept ?_
  dsimp only
  have hclear : Kept s (s.each (s.ctxs.map (·.1)) fun c t => if ((List.range 256).filter s.backlogged).contains c || (t.ctx c).deficit == 0 then t
      else t.upCtx c fun x => { x with deficit := 0 }) :=
    kept_each (kept_rfl _) fun _ _ => kept_ite (kept_rfl _) (kept_upCtx (kept_rfl _))
  refine kept_ite (kept_rfl _) (kept_ite (kept_then (talCount_kept ..) hclear) ?_)
  split
  · next hpick => exact kept_then (drrPick_of_eq hpick) hclear
  · next hpick =>
    have ht := kept_then (drrPick_of_eq hpick) hclear
    split
    · exact kept_then (descStart_kept ..) (kept_then (talCount_kept ..) (kept_then (talCount_kept ..) (kept_upCtx ht)))
    · exact kept_then (talCount_kept ..) (kept_then (talCount_kept ..) (kept_upCtx ht))

theorem execOpRegWrite_keeps (c : Fin 256) (s : State) : Keeps s (execOpRegWrite c s) := by
  unfold execOpRegWrite
  refine keeps_of_kept ?_
  dsimp only
  split
  · exact kept_rfl _
  · refine kept_ite (kept_rfl _) ?_
    split
    · exact kept_rfl _
    · exact kept_then (descRefused_kept ..) (kept_rfl _)
    · next hdone =>
      have ht := kept_then (wordWrite_kept _ _ _ _ _ _ _ _ hdone) (kept_ite (kept_then (upExec_kept ..) (kept_rfl s)) (kept_rfl s))
      exact kept_ite (kept_then (descRefused_kept ..) ht) (kept_ite ht (kept_then (descDone_kept ..) (kept_then (stepDone_kept ..) ht)))

theorem execOpVaultWrite_keeps (c : Fin 256) (data : Option Word) (s : State) : Keeps s (execOpVaultWrite c data s) := by
  unfold execOpVaultWrite
  refine keeps_of_kept ?_
  dsimp only
  have hread (p a b : Nat) : Kept s (s.hostRead p a b) := kept_then (hostRead_kept ..) (kept_rfl _)
  split
  · exact kept_rfl _
  · refine kept_ite (kept_rfl _) ?_
    split
    · exact kept_then (descDone_kept ..) (hread ..)
    · split
      · exact kept_ite (kept_then (descRefused_kept ..) (hread ..)) (kept_ite (kept_rfl _) (kept_then (vqPush_kept ..) (hread ..)))
      · refine kept_ite (kept_rfl _) ?_
        split
        · exact kept_rfl _
        · exact kept_then (descRefused_kept ..) (hread ..)
        · next hdone =>
          have ht := kept_then (ruledWrite_kept _ _ _ _ _ _ _ hdone) (hread ..)
          exact kept_ite (kept_then (descRefused_kept ..) ht) ht

theorem execCounterReload_keeps (m : Fin 24) (mid : Bool) (cs : List (Fin 24 × Word × Bool)) (s : State) :
    Keeps s (execCounterReload m mid cs s) := by
  unfold execCounterReload
  refine keeps_of_kept ?_
  exact kept_ite (kept_rfl _)
      (kept_ite
        (kept_then (counterReload_kept ..) (kept_then (cntAdvance_kept ..) (kept_rfl _)))
        (kept_each
          (kept_then (counterReload_kept ..) (kept_then (cntAdvance_kept ..) (kept_rfl _)))
          fun _ _ =>
            (kept_when (kept_rfl _)
              fun _ =>
                (by
                  split
                  · exact (kept_then (followerLoad_kept ..) (kept_rfl _))
                  · exact (kept_then (followerLoad_kept ..) (kept_rfl _))))))

theorem execResolverPeriod_keeps (n : Fin 4) (valley : Bool) (u v w : Unit) (s : State) :
    Keeps s (execResolverPeriod n valley u v w s) := by
  unfold execResolverPeriod
  refine keeps_of_kept ?_
  dsimp only
  exact kept_ite (kept_rfl _)
      (kept_ite (kept_upPi (kept_rfl _))
        (by
          split
          · exact (kept_rfl _)
          · exact (kept_then (piPo_kept ..)
              (kept_ite
                (kept_then (posInvalid_kept ..) (kept_putB (kept_upPi (kept_set_free (kept_then (piTake_kept ..) (kept_rfl _))))))
                (kept_ite
                  (kept_then (edgeRate_kept ..)
                    (kept_then (posInvalid_kept ..) (kept_upPi (kept_set_free (kept_then (piTake_kept ..) (kept_rfl _))))))
                  (kept_then (piCountStep_kept ..)
                    (kept_then (posValid_kept ..)
                      (kept_putB (kept_upPi (kept_set_free (kept_then (piTake_kept ..) (kept_rfl _))))))))))))

theorem execVerify_keeps (u v : Unit) (s : State) : Keeps s (execVerify u v s) := by
  unfold execVerify
  refine keeps_of_kept ?_
  exact kept_ite (kept_rfl _)
      (kept_then (actEnd_kept ..)
        (kept_when (kept_put (kept_putB (kept_rfl _)))
          fun _ => (kept_ite (kept_then (bootStaged_kept ..) (kept_put (kept_rfl _))) (kept_put (kept_put (kept_rfl _))))))

theorem execUnlock_keeps (u v : Unit) (s : State) : Keeps s (execUnlock u v s) := by
  unfold execUnlock
  refine keeps_of_kept ?_
  exact kept_ite (kept_rfl _)
      (kept_then (actEnd_kept ..)
        (kept_when
          (kept_then (newChallenge_kept ..) (kept_put (kept_rfl _)))
          fun _ => (kept_then (vltEvent_kept ..) (kept_put (kept_putB (kept_rfl _))))))

theorem execAttReportDone_keeps (u : Unit) (s : State) : Keeps s (execAttReportDone u s) := by
  unfold execAttReportDone
  refine keeps_of_kept ?_
  exact kept_ite (kept_rfl _)
      (kept_then (vltEvent_kept ..) (kept_then (attIndex_kept ..) (kept_putB (kept_putB (kept_then (attBuf_kept ..) (kept_rfl _))))))

/-! ## Commands that write the shared SRAM -/

/-- The command leaves the queue and the vault, and keeps the canonical form of the shared SRAM. -/
def KeepsForm (s : State) (o : Host.Outcome State Fault Refusal) : Prop :=
  ∀ t, o = .next t → t.pending = s.pending ∧ t.vault = s.vault ∧ (Memory.wf s.sram → Memory.wf t.sram)

@[simp] theorem keepsForm_next (s t : State) :
    KeepsForm s (.next t) ↔ t.pending = s.pending ∧ t.vault = s.vault ∧ (Memory.wf s.sram → Memory.wf t.sram) := by
  simp [KeepsForm]

theorem keepsForm_of_keeps {s : State} {o : Host.Outcome State Fault Refusal} (h : Keeps s o) : KeepsForm s o := fun t ht =>
  ⟨(h t ht).1, (h t ht).2.2, fun hw => (h t ht).2.1 ▸ hw⟩

/-- The queue and the vault of another state, and a memory that is canonical where the other's is. -/
def Formed (s t : State) : Prop := t.pending = s.pending ∧ t.vault = s.vault ∧ (Memory.wf s.sram → Memory.wf t.sram)

theorem keepsForm_of_formed {s t : State} (h : Formed s t) : KeepsForm s (.next t) := (keepsForm_next s t).mpr h

theorem formed_of_kept {s t : State} (h : Kept s t) : Formed s t := ⟨h.1, h.2.2, fun hw => h.2.1 ▸ hw⟩

/-- What leaves the memory alone keeps its form. -/
theorem formed_after {s t u : State} (k : Kept t u) (h : Formed s t) : Formed s u :=
  ⟨k.1.trans h.1, k.2.2.trans h.2.1, fun hw => k.2.1 ▸ h.2.2 hw⟩

/-- A write of the memory that keeps the rest and the form. -/
theorem formed_write {s t u : State} (hu : u.pending = t.pending ∧ u.vault = t.vault) (hw : Memory.wf t.sram → Memory.wf u.sram)
    (h : Formed s t) : Formed s u := ⟨hu.1.trans h.1, hu.2.trans h.2.1, fun hs => hw (h.2.2 hs)⟩

theorem each_wf (s : State) (l : List Nat) (f : Nat → State → State) (h : ∀ i s, Memory.wf s.sram → Memory.wf (f i s).sram)
    (hs : Memory.wf s.sram) : Memory.wf (s.each l f).sram := each_inv s (fun s => Memory.wf s.sram) l f h hs

theorem when_wf (s : State) (c : Bool) (f : State → State) (h : ∀ s, Memory.wf s.sram → Memory.wf (f s).sram)
    (hs : Memory.wf s.sram) : Memory.wf (s.when c f).sram := by cases c; exacts [hs, h s hs]

theorem rowZero_wf (array row : Nat) (s : State) (hs : Memory.wf s.sram) : Memory.wf (rowZero array row s).sram := by
  unfold rowZero; split
  · exact when_wf _ _ _ (fun s h => by simpa using h) (sramWrWords_wf _ _ _ hs)
  · split
    · exact hs
    · split
      · refine each_wf _ _ _ (fun b s h => each_wf _ _ _ (fun w s h => ?_) h) hs
        split <;> exact h
      · exact hs

theorem rowRepair_wf (k row : Nat) (zero : Bool) (s : State) (hs : Memory.wf s.sram) : Memory.wf (rowRepair k row zero s).sram := by
  unfold rowRepair; dsimp only; split
  · simpa using hs
  · have h (w : Nat) (v : Word) := when_wf (vqPush w v none s) zero (rowZero k row) (rowZero_wf k row) (by simpa using hs)
    simpa using h _ _

theorem ckptRegions_foldl_wf (l : List (Nat × List Word)) (s : State) (hs : Memory.wf s.sram) :
    Memory.wf (l.foldl (fun s r => s.sramWrWords r.1 r.2) s).sram := by
  induction l generalizing s with
  | nil => exact hs
  | cons r l ih => exact ih _ (sramWrWords_wf _ _ _ hs)

theorem ckptApply_wf (w c n : Nat) (s : State) (hs : Memory.wf s.sram) : Memory.wf (ckptApply w c n s).sram :=
  ckptRegions_foldl_wf _ s hs

theorem ckptRestore_wf (w n : Nat) (newestOk otherOk : Bool) (s : State) (hs : Memory.wf s.sram) :
    Memory.wf (ckptRestore w n newestOk otherOk s).1.sram := by
  unfold ckptRestore; dsimp only; split
  · exact ckptApply_wf _ _ _ _ hs
  · split
    · exact ckptApply_wf _ _ _ _ (by simpa using hs)
    · simpa using hs

theorem heldOut_wf (n : Nat) (h : HeldW) (s : State) (hs : Memory.wf s.sram) : Memory.wf (heldOut n h s).sram := by
  cases h with
  | reg a v => simpa [heldOut] using hs
  | sram a be v => exact each_wf _ _ _ (fun i s h => when_wf _ _ _ (fun s h => sramWr_wf _ _ _ h) h) hs
  | host p a be v => exact when_wf _ _ _ (fun s h => h) hs

theorem releaseWrites_wf (n : Nat) (l : List HeldW) (s : State) (hs : Memory.wf s.sram) : Memory.wf (releaseWrites n l s).sram := by
  induction l generalizing s with
  | nil => exact hs
  | cons h l ih => exact ih _ (heldOut_wf n h s hs)

theorem windowEqual_wf (n : Nat) (s : State) (hs : Memory.wf s.sram) : Memory.wf (windowEqual n s).sram := by
  have h := releaseWrites_wf n (s.cp n).buf ((coreRun n s).upCp n fun c => { c with buf := [], fed := [] }) (by simpa using hs)
  unfold windowEqual; dsimp only; split
  · exact h
  · simpa using h

theorem bufferWrite_wf (n : Nat) (h : HeldW) (s : State) (hs : Memory.wf s.sram) : Memory.wf (bufferWrite n h s).sram := by
  unfold bufferWrite; split
  · exact hs
  · exact when_wf _ _ _ (windowEqual_wf n) hs

theorem ctrlWrite_wf (n : Nat) (h : HeldW) (s : State) (hs : Memory.wf s.sram) : Memory.wf (ctrlWrite n h s).sram := by
  unfold ctrlWrite; dsimp only; split
  · exact bufferWrite_wf _ _ _ (windowEqual_wf _ _ hs)
  · exact heldOut_wf _ _ _ (windowEqual_wf _ _ hs)

theorem coreStore_wf (n : Nat) (st : CoreStore) (be : BitVec 4) (v : Word) (s : State) (hs : Memory.wf s.sram) :
    Memory.wf (coreStore n st be v s).sram := by
  cases st with
  | sram a => unfold coreStore; dsimp only; split; exacts [hs, bufferWrite_wf _ _ _ hs]
  | host p a => exact bufferWrite_wf _ _ _ hs

theorem stagePage_wf (page : Nat) (l : List Word) (s : State) (hs : Memory.wf s.sram) : Memory.wf (stagePage page l s).sram :=
  sramWrWords_wf _ s _ hs

theorem stagePages_wf (n page : Nat) (l : List Word) (s : State) (hs : Memory.wf s.sram) : Memory.wf (stagePages n page l s).sram := by
  induction n generalizing page l s with
  | zero => exact hs
  | succ n ih => exact ih _ _ _ (stagePage_wf page l s hs)

theorem dmaListWrite_wf (n a : Nat) (w : Word) (s : State) (hs : Memory.wf s.sram) : Memory.wf (dmaListWrite n a w s).sram := by
  unfold dmaListWrite; split
  · exact when_wf _ _ _ (fun s h => sramWrWord_wf s _ _ h) hs
  · split <;> exact hs

theorem dmaStore_wf (n : Nat) (ws : List Word) (s : State) (hs : Memory.wf s.sram) : Memory.wf (dmaStore n ws s).sram := by
  unfold dmaStore; dsimp only; split
  · simpa using hs
  · simpa using hs
  · (repeat' split) <;> simpa using hs
  · simpa using sramWrWords_wf ws s _ hs

theorem dmaLoad_wf (n : Nat) (ok : Bool) (data : List Word) (s : State) (hs : Memory.wf s.sram) :
    Memory.wf (dmaLoad n ok data s).sram := by
  have hf (code detail : Nat) : Memory.wf (dmaElemFail n code detail s).sram := by simpa using hs
  have hw (ws : List Word) := dmaStore_wf n ws s hs
  unfold dmaLoad; dsimp only; split
  · split; exacts [hw _, hf _ _]
  · split
    · exact hs
    · split <;> rename_i r t h
      all_goals have hr : t.sram = s.sram := congrArg (·.2.sram) h ▸ (dmaRegReads_kept _ _ _ s).2.1
      · exact dmaStore_wf _ _ _ (hr ▸ hs)
      · simpa [hr] using hs
  all_goals split
  exacts [hw _, hf _ _, hw _, hf _ _, hw _, hf _ _]


/-- Of the device's commands, those that write the shared SRAM. -/
def movesMemory : Instr → Bool
  | .firmwareRelease | .warmEntryCheck _ _ | .pairRestart _ _ _ | .takeover _ _ _ | .rowRepair _ _ _ | .opFwStage _ _
  | .stageCopyDone _ _ | .clear | .dmaElementDone _ _ _ | .dmaDescEnd _ | .registerWrite (.firmware _) _ _ _ _
  | .windowCompareEqual _ | .ckpt _ | .yield _ => true
  | _ => false

/-- Those that write the vault, or may write one of its copies. -/
def writesVault : Instr → Bool
  | .vaultCommitDone _ _ | .ownershipCommit _ | .dinCfgCommit _ | .powerOnReset _ | .railUndervoltage | .vaultLoadDone => true
  | _ => false

theorem execRegisterWrite_host_keeps (p : Fin 4) (bar2 : Bool) (addr : BitVec 20) (be : BitVec 4) (v : Word × Option CoreStore)
    (s : State) : Keeps s (execRegisterWrite (.host p) bar2 addr be v s) := by simp [execRegisterWrite]

theorem execRegisterWrite_firmware_keepsForm (n : Fin 5) (bar2 : Bool) (addr : BitVec 20) (be : BitVec 4)
    (v : Word × Option CoreStore) (s : State) : KeepsForm s (execRegisterWrite (.firmware n) bar2 addr be v s) := by
  simp only [execRegisterWrite, keepsForm_next]
  split
  · simp
  · split
    · simpa using coreStore_wf _ _ _ _ s
    · split
      · simp
      · split
        · simpa using ctrlWrite_wf _ _ s
        · simpa using bufferWrite_wf _ _ s

theorem execFirmwareRelease_keepsForm (s : State) : KeepsForm s (execFirmwareRelease s) := by
  unfold execFirmwareRelease
  refine keepsForm_of_formed ?_
  dsimp only
  split
  · exact formed_of_kept (kept_rfl _)
  · have hrest (v : State) (l : List (Nat × Word)) : Kept v (l.foldl (fun s e => s.wr (VLT_MEAS e.1) e.2) v) :=
      ⟨foldl_pending _ _ _ fun _ _ => rfl, foldl_sram _ _ _ fun _ _ => rfl, foldl_vault _ _ _ fun _ _ => rfl⟩
    refine formed_after (kept_each (kept_then (newChallenge_kept ..) (kept_upSys (kept_set_vs (kept_put (kept_put
      (kept_when (kept_putB (kept_put (kept_wr (kept_then (hrest ..) (kept_upRed (kept_each (kept_each
        (kept_then (assignSlots_kept ..) (kept_rfl _)) ?_) ?_)))))) fun _ => kept_putB (kept_rfl _)))))))
      fun _ _ => kept_when (kept_rfl _) fun _ => kept_put (kept_rfl _)) ?_
    · exact fun _ _ => kept_put (kept_then (ckptWrite_kept ..) (kept_rfl _))
    · exact fun _ _ => kept_when (kept_rfl _) fun _ => kept_upCp (kept_rfl _)
    · exact formed_write (sramWrWords_kept ..) (sramWrWords_wf _ _ _) (formed_of_kept (kept_rfl _))

theorem execWarmEntryCheck_keepsForm (checkpointOk imageOk : Bool) (s : State) :
    KeepsForm s (execWarmEntryCheck checkpointOk imageOk s) := by
  have hw : Memory.wf s.sram → Memory.wf (s.each (List.range 4) fun w s => s.when (s.get (slotPair w) != 7) fun s =>
      krstCount w (ckptApply w (s.get (RED_WS_CKPT__NEWEST w)) (s.get (slotPair w)) s)).sram := fun hs =>
    each_wf _ _ _ (fun w s h => when_wf _ _ _ (fun s h => by simpa using ckptApply_wf _ _ _ s h) h) hs
  simp only [execWarmEntryCheck, keepsForm_next]
  split
  · simp
  · split
    · simp
    · simpa using hw

theorem ckptRestore_of_eq {w n : Nat} {newestOk otherOk b : Bool} {s t : State} (h : ckptRestore w n newestOk otherOk s = (t, b)) :
    t.pending = s.pending ∧ t.vault = s.vault ∧ (Memory.wf s.sram → Memory.wf t.sram) := by
  have hk := ckptRestore_kept w n newestOk otherOk s
  have hw := ckptRestore_wf w n newestOk otherOk s
  rw [h] at hk hw
  exact ⟨hk.1, hk.2, hw⟩

theorem execPairRestart_keepsForm (n : Fin 5) (newestOk otherOk : Bool) (s : State) :
    KeepsForm s (execPairRestart n newestOk otherOk s) := by
  simp only [execPairRestart, keepsForm_next]
  split
  · simp
  · split
    · simp
    · split <;> rename_i h
      all_goals
        obtain ⟨hp, hv, hw⟩ := ckptRestore_of_eq h
        exact ⟨by simp [hp], by simp [hv], fun hs => by simpa using hw (by simpa using hs)⟩

theorem execTakeover_keepsForm (w : Fin 4) (newestOk otherOk : Bool) (s : State) : KeepsForm s (execTakeover w newestOk otherOk s) := by
  simp only [execTakeover, keepsForm_next]
  split
  · simp
  · split <;> rename_i h
    all_goals
      obtain ⟨hp, hv, hw⟩ := ckptRestore_of_eq h
      exact ⟨by simp [hp], by simp [hv], fun hs => by simpa using hw hs⟩

theorem execRowRepair_keepsForm (array : Fin 3) (row : BitVec 14) (cause : Fin 3 × Option (Fin 5)) (s : State) :
    KeepsForm s (execRowRepair array row cause s) := by
  simp only [execRowRepair, keepsForm_next]
  split
  · simp
  · split
    · simpa using rowRepair_wf _ _ _ s
    · split
      · split <;> rename_i h
        all_goals
          have hk := ceCount_kept array.val row.toNat s
          rw [h] at hk
          obtain ⟨hp, hm, hv⟩ := hk
          dsimp only at hp hm hv
        · exact ⟨by simp [hp], by simp [hv], fun hs => rowRepair_wf _ _ _ _ (by simpa [hm] using hs)⟩
        · exact ⟨hp, hv, fun hs => hm ▸ hs⟩
      · have hw := rowRepair_wf array.val row.toNat true (eccRecord array.val row.toNat ((cause.2.map Fin.val).filter s.mayMismatch) s)
        split
        · split <;> simpa using hw
        · simpa using hw

theorem execOpFwStage_keepsForm (c : Fin 256) (page : Option (List Word)) (s : State) : KeepsForm s (execOpFwStage c page s) := by
  unfold execOpFwStage
  refine keepsForm_of_formed ?_
  dsimp only
  split
  · exact formed_of_kept (kept_rfl _)
  · split
    · exact formed_of_kept (kept_rfl _)
    · split
      · exact formed_of_kept (kept_then (descDone_kept ..) (kept_set_vs (kept_putB (kept_when (kept_then (hostRead_kept ..) (kept_rfl _))
          fun _ => kept_set_vs (kept_putB (kept_rfl _))))))
      · refine formed_after (kept_ite
          (kept_then (descDone_kept ..) (kept_set_vs (kept_putB (kept_then (stepDone_kept ..) (kept_then (upExec_kept ..) (kept_rfl _))))))
          (kept_then (stepDone_kept ..) (kept_then (upExec_kept ..) (kept_rfl _)))) ?_
        exact formed_write (stagePage_kept ..) (stagePage_wf _ _ _) (formed_of_kept
          (kept_when (kept_then (hostRead_kept ..) (kept_rfl _)) fun _ => kept_set_vs (kept_putB (kept_rfl _))))

theorem execStageCopyDone_keepsForm (data : List Word) (err : Bool) (s : State) : KeepsForm s (execStageCopyDone data err s) := by
  unfold execStageCopyDone
  refine keepsForm_of_formed ?_
  dsimp only
  split
  · exact formed_of_kept (kept_rfl _)
  · refine formed_after (kept_then (vltEvent_kept ..) (kept_then (fetchAll_kept ..) (kept_set_vs
      (kept_when (kept_putB (kept_rfl _)) fun _ => kept_putB (kept_rfl _))))) ?_
    exact formed_write (stagePages_kept ..) (stagePages_wf _ _ _ _) (formed_of_kept
      (kept_when (kept_rfl _) fun _ => kept_then (hostRead_kept ..) (kept_rfl _)))

theorem sramFilter_wf (p : Host.Cell → Bool) (s : State) (hs : Memory.wf s.sram) : Memory.wf (s.sram.filter p) :=
  ⟨hs.1.filter p, fun e he => hs.2 e (List.mem_filter.mp he).1⟩

theorem execClear_keepsForm (s : State) : KeepsForm s (execClear s) := by
  unfold execClear
  refine keepsForm_of_formed ?_
  dsimp only
  split
  · exact formed_of_kept (kept_rfl _)
  · exact formed_after (kept_then (actEnd_kept ..) (kept_set_vs (kept_put (kept_putB (kept_putB (kept_rfl
      { s with sram := s.sram.filter fun e => decide (e.1 < 0x300000) || decide (0x400000 ≤ e.1) }))))))
      ⟨rfl, rfl, sramFilter_wf _ s⟩

theorem execDmaElementDone_keepsForm (n : Fin 16) (ok : Bool) (data : List Word) (s : State) :
    KeepsForm s (execDmaElementDone n ok data s) := by
  simp only [execDmaElementDone, keepsForm_next]
  split
  · simp
  · split
    · simpa using dmaStore_wf _ _ s
    · generalize ht : (if (s.dma n.val).issued = true then s else dmaServe s) = t
      have hk : t.pending = s.pending ∧ t.sram = s.sram ∧ t.vault = s.vault := by rw [← ht]; split <;> simp
      obtain ⟨hp, hm, hv⟩ := hk
      split
      · simp
      · exact ⟨by simp [hp], by simp [hv], fun hs => by simpa using dmaLoad_wf _ _ _ _ (hm ▸ hs)⟩

theorem execDmaDescEnd_keepsForm (n : Fin 16) (s : State) : KeepsForm s (execDmaDescEnd n s) := by
  unfold execDmaDescEnd
  refine keepsForm_of_formed ?_
  dsimp only
  have hb : Formed s (s.when ((s.dma n.val).stop != 0 && !(s.dma n.val).issued) (dmaBoundary n.val)) :=
    formed_of_kept (kept_when (kept_rfl _) fun _ => kept_then (dmaBoundary_kept ..) (kept_rfl _))
  have hl (a b : Nat) (v w : Word) {t : State} (h : Formed s t) : Formed s (dmaListWrite n.val a v (dmaListWrite n.val b w t)) :=
    formed_write (dmaListWrite_kept ..) (dmaListWrite_wf _ _ _ _) (formed_write (dmaListWrite_kept ..) (dmaListWrite_wf _ _ _ _) h)
  split
  · exact hb
  · have hr (v : State) (c : Nat) (d : Nat) : Kept v (dmaEnded n.val c d v) := kept_then (dmaEnded_kept ..) (kept_rfl _)
    exact formed_after
      (kept_ite (kept_then (dmaEvent_kept ..) (kept_then (dmaIdle_kept ..) (hr ..)))
        (kept_ite (kept_then (dmaIdle_kept ..) (kept_then (dmaCurSet_kept ..) (hr ..)))
          (kept_ite (kept_then (dmaPause_kept ..) (kept_then (dmaCurSet_kept ..) (hr ..)))
            (kept_ite (kept_then (dmaPause_kept ..) (kept_then (dmaCurSet_kept ..) (hr ..)))
              (kept_then (dmaFetch_kept ..) (kept_then (dmaCurSet_kept ..) (hr ..)))))))
      (hl _ _ _ _ hb)

theorem execWindowCompareEqual_keepsForm (n : Fin 5) (s : State) : KeepsForm s (execWindowCompareEqual n s) := by
  simp only [execWindowCompareEqual, keepsForm_next]
  split
  · simpa using windowEqual_wf n.val s
  · simp

theorem execCkpt_keepsForm (n : Fin 5 × Bool) (s : State) : KeepsForm s (execCkpt n s) := by
  simp only [execCkpt, keepsForm_next]
  split
  · simp
  · split
    · exact ⟨by simp, by simp, fun hs => bufferWrite_wf _ _ _ (windowEqual_wf n.1.val s hs)⟩
    · simpa using windowEqual_wf n.1.val s

theorem execYield_keepsForm (n : Fin 5) (s : State) : KeepsForm s (execYield n s) := by
  simp only [execYield, keepsForm_next]
  split
  · simp
  · split
    · exact ⟨by simp, by simp, fun hs => bufferWrite_wf _ _ _ (windowEqual_wf n.val s hs)⟩
    · simpa using windowEqual_wf n.val s


/-! ## Commands that write the vault -/

theorem execVaultCommitDone_mem (a b : Bool) (s t : State) (h : execVaultCommitDone a b s = .next t) :
    t.pending = s.pending ∧ t.sram = s.sram := by
  simp only [execVaultCommitDone, Host.Outcome.next.injEq] at h
  subst h; simp

theorem execOwnershipCommit_mem (ok : Bool) (s t : State) (h : execOwnershipCommit ok s = .next t) :
    t.pending = s.pending ∧ t.sram = s.sram := by
  simp only [execOwnershipCommit, Host.Outcome.next.injEq] at h
  subst h; (repeat' split) <;> simp

theorem execDinCfgCommit_mem (d : Fin 24) (s t : State) (h : execDinCfgCommit d s = .next t) :
    t.pending = s.pending ∧ t.sram = s.sram := by
  simp only [execDinCfgCommit, Host.Outcome.next.injEq] at h
  subst h; (repeat' split) <;> simp

theorem execVaultLoadDone_mem (s t : State) (h : execVaultLoadDone s = .next t) : t.pending = s.pending ∧ t.sram = s.sram := by
  simp only [execVaultLoadDone, Host.Outcome.next.injEq] at h
  subst h; split
  · simp
  · simp [apply_ite]

theorem porDo_wf (pin : Bool) (s : State) : Memory.wf (porDo pin s).sram := by rw [(porDo_kept pin s).2]; exact swf_nil _

/-! ## All commands -/

theorem exec_keeps {c : Instr} (hm : movesMemory c = false) (hv : writesVault c = false) (s : State) : Keeps s (exec c s) := by
  cases c
  case registerWrite w bar2 addr be v =>
    cases w with
    | host p => exact execRegisterWrite_host_keeps p bar2 addr be v s
    | firmware n => exact absurd hm.symm Bool.false_ne_true
  case firmwareRelease | warmEntryCheck | pairRestart | takeover | rowRepair | opFwStage | stageCopyDone | clear | dmaElementDone
      | dmaDescEnd | windowCompareEqual | ckpt | yield => exact absurd hm.symm Bool.false_ne_true
  case vaultCommitDone | ownershipCommit | dinCfgCommit | powerOnReset | railUndervoltage | vaultLoadDone =>
    exact absurd hv.symm Bool.false_ne_true
  case longRequest => exact execLongRequest_keeps _ _ _ _ s
  case heldAccessTimeout => exact execHeldAccessTimeout_keeps s
  case crystalLost => exact execCrystalLost_keeps s
  case xtalLocked => exact execXtalLocked_keeps s
  case pllUnlock => exact execPllUnlock_keeps _ s
  case pllRelock => exact execPllRelock_keeps _ _ s
  case powerGo => exact execPowerGo_keeps _ s
  case descentComplete => exact execDescentComplete_keeps s
  case descentAbandoned => exact execDescentAbandoned_keeps _ s
  case wakeSource => exact execWakeSource_keeps _ s
  case heldPortRequest => exact execHeldPortRequest_keeps _ _ s
  case wakeClocksLocked => exact execWakeClocksLocked_keeps s
  case wakeTimerExpiry => exact execWakeTimerExpiry_keeps s
  case porRelease => exact execPorRelease_keeps _ s
  case startSelfTestDone => exact execStartSelfTestDone_keeps _ s
  case imageFetchVerify => exact execImageFetchVerify_keeps _ s
  case warmReset => exact execWarmReset_keeps _ s
  case hostLoss => exact execHostLoss_keeps _ _ s
  case linkUp => exact execLinkUp_keeps _ _ s
  case ownershipWrite => exact execOwnershipWrite_keeps _ _ _ s
  case stewardXfer => exact execStewardXfer_keeps _ _ _ s
  case stewardAccept => exact execStewardAccept_keeps _ _ s
  case stewardXferTimeout => exact execStewardXferTimeout_keeps s
  case stewardSetByFirmware => exact execStewardSetByFirmware_keeps _ s
  case dbTailWrite => exact execDbTailWrite_keeps _ _ _ s
  case descriptorReadDone => exact execDescriptorReadDone_keeps _ _ s
  case descriptorStart => exact execDescriptorStart_keeps s
  case opNop => exact execOpNop_keeps _ s
  case opSetpoint => exact execOpSetpoint_keeps _ s
  case opAxisState => exact execOpAxisState_keeps _ s
  case opRegWrite => exact execOpRegWrite_keeps _ s
  case opRegRead => exact execOpRegRead_keeps _ s
  case opBankLoad => exact execOpBankLoad_keeps _ _ s
  case opBankCheck => exact execOpBankCheck_keeps _ s
  case opSnapshot => exact execOpSnapshot_keeps _ s
  case opPmRead => exact execOpPmRead_keeps _ s
  case opDmaStart => exact execOpDmaStart_keeps _ s
  case opVaultWrite => exact execOpVaultWrite_keeps _ _ s
  case opFwVerify => exact execOpFwVerify_keeps _ s
  case opEventMark => exact execOpEventMark_keeps _ s
  case opPowerReq => exact execOpPowerReq_keeps _ s
  case opFwCall => exact execOpFwCall_keeps _ _ s
  case opService => exact execOpService_keeps _ s
  case hostFlushDone => exact execHostFlushDone_keeps _ _ s
  case descriptorComplete => exact execDescriptorComplete_keeps _ s
  case ringSaturated => exact execRingSaturated_keeps _ s
  case ctxStop => exact execCtxStop_keeps _ _ s
  case ctxStopped => exact execCtxStopped_keeps _ s
  case ctxResume => exact execCtxResume_keeps _ _ s
  case ctxInit => exact execCtxInit_keeps _ _ s
  case setpointMirrorWrite => exact execSetpointMirrorWrite_keeps _ _ _ _ s
  case eventOccurrence => exact execEventOccurrence_keeps _ _ _ s
  case mergedRecordWrite => exact execMergedRecordWrite_keeps _ _ s
  case msixCoalesceTimeout => exact execMsixCoalesceTimeout_keeps _ _ s
  case evRingEnable => exact execEvRingEnable_keeps _ _ s
  case evRingHeadWrite => exact execEvRingHeadWrite_keeps _ _ _ s
  case fwEventRaise => exact execFwEventRaise_keeps _ _ s
  case dmaChStart => exact execDmaChStart_keeps _ _ s
  case dmaDescFetchDone => exact execDmaDescFetchDone_keeps _ _ s
  case dmaIndexReadDone => exact execDmaIndexReadDone_keeps _ _ s
  case dmaChStop => exact execDmaChStop_keeps _ _ s
  case dmaChResume => exact execDmaChResume_keeps _ _ s
  case dmaChReset => exact execDmaChReset_keeps _ _ s
  case axRequest => exact execAxRequest_keeps _ _ _ s
  case axFaultClr => exact execAxFaultClr_keeps _ _ s
  case axFwRelease => exact execAxFwRelease_keeps _ _ s
  case safeStateEstablished => exact execSafeStateEstablished_keeps _ s
  case sampleInstant => exact execSampleInstant_keeps _ s
  case controlStepDone => exact execControlStepDone_keeps _ _ s
  case outputInstant => exact execOutputInstant_keeps _ s
  case closeCheckDone => exact execCloseCheckDone_keeps _ s
  case holdTimeout => exact execHoldTimeout_keeps _ s
  case bankwinWrite => exact execBankwinWrite_keeps _ _ _ _ s
  case tableDecision => exact execTableDecision_keeps _ s
  case zcCrossing => exact execZcCrossing_keeps _ _ _ s
  case zcMissing => exact execZcMissing_keeps _ s
  case zcTimeout => exact execZcTimeout_keeps _ s
  case catchTrigger => exact execCatchTrigger_keeps _ s
  case catchClocksValid => exact execCatchClocksValid_keeps _ s
  case catchVerify => exact execCatchVerify_keeps _ s
  case recoveryZeroTime => exact execRecoveryZeroTime_keeps _ s
  case recatchTimeout => exact execRecatchTimeout_keeps _ s
  case counterReload => exact execCounterReload_keeps _ _ _ s
  case setLanding => exact execSetLanding_keeps _ _ s
  case legCommit => exact execLegCommit_keeps _ s
  case legDiscard => exact execLegDiscard_keeps _ s
  case chopNocurTimeout => exact execChopNocurTimeout_keeps _ s
  case maskStepChange => exact execMaskStepChange_keeps _ s
  case fastFrame => exact execFastFrame_keeps _ _ _ s
  case fastFrameCrcFail => exact execFastFrameCrcFail_keeps _ s
  case fastFormLost => exact execFastFormLost_keeps _ s
  case fastFormRegained => exact execFastFormRegained_keeps _ s
  case keepaliveFrame => exact execKeepaliveFrame_keeps _ _ s
  case islandLinkLost => exact execIslandLinkLost_keeps _ s
  case statusLinkLost => exact execStatusLinkLost_keeps _ s
  case islandLinkRegained => exact execIslandLinkRegained_keeps _ s
  case islandPowerUp => exact execIslandPowerUp_keeps _ s
  case islandCfgSync => exact execIslandCfgSync_keeps _ s
  case islandUndervoltage => exact execIslandUndervoltage_keeps _ _ _ s
  case dcpsConversion => exact execDcpsConversion_keeps _ _ s
  case gatePhase1End => exact execGatePhase1End_keeps _ _ s
  case gatePhase2End => exact execGatePhase2End_keeps _ _ s
  case gatePhase2Timeout => exact execGatePhase2Timeout_keeps _ _ s
  case gateFault => exact execGateFault_keeps _ _ s
  case didtDetect => exact execDidtDetect_keeps _ _ s
  case alarmWord => exact execAlarmWord_keeps _ s
  case tripWord => exact execTripWord_keeps _ s
  case softStep1End => exact execSoftStep1End_keeps _ _ s
  case softStep2End => exact execSoftStep2End_keeps _ _ s
  case softStep2Timeout => exact execSoftStep2Timeout_keeps _ _ s
  case bastingStart => exact execBastingStart_keeps _ _ s
  case bastingAbort => exact execBastingAbort_keeps _ _ s
  case bastingMeasurement => exact execBastingMeasurement_keeps _ _ _ s
  case islandService => exact execIslandService_keeps _ _ _ s
  case fastConversion => exact execFastConversion_keeps _ _ s
  case triggerDropped => exact execTriggerDropped_keeps _ s
  case xbarMove => exact execXbarMove_keeps _ _ s
  case windowFiring => exact execWindowFiring_keeps _ _ _ s
  case blankingOpen => exact execBlankingOpen_keeps _ s
  case blankingClose => exact execBlankingClose_keeps _ s
  case protectionTrip => exact execProtectionTrip_keeps s
  case precisionConversion => exact execPrecisionConversion_keeps _ _ s
  case openWireTest => exact execOpenWireTest_keeps _ _ s
  case mainsCrossing => exact execMainsCrossing_keeps _ s
  case mainsTimeout => exact execMainsTimeout_keeps s
  case pmUrgent => exact execPmUrgent_keeps _ _ s
  case pmQpop => exact execPmQpop_keeps _ s
  case pmCalZero => exact execPmCalZero_keeps _ _ _ s
  case pmCalFull => exact execPmCalFull_keeps _ _ _ s
  case pmCalCommit => exact execPmCalCommit_keeps _ s
  case pmCalAbort => exact execPmCalAbort_keeps _ s
  case encoderEdge => exact execEncoderEdge_keeps _ _ _ s
  case encoderIndex => exact execEncoderIndex_keeps _ _ s
  case hallTransition => exact execHallTransition_keeps _ _ s
  case filterReject => exact execFilterReject_keeps _ s
  case ssiRead => exact execSsiRead_keeps _ _ _ _ s
  case resolverPeriod => exact execResolverPeriod_keeps _ _ () () () s
  case speedTimeout => exact execSpeedTimeout_keeps _ s
  case spdValidRestored => exact execSpdValidRestored_keeps _ s
  case piCntWrite => exact execPiCntWrite_keeps _ _ _ s
  case dinEdge => exact execDinEdge_keeps _ _ s
  case dinChatter => exact execDinChatter_keeps _ s
  case dinChatterDecay => exact execDinChatterDecay_keeps s
  case dinStale => exact execDinStale_keeps _ s
  case stoInputChange => exact execStoInputChange_keeps _ _ s
  case stoDiscrepancy => exact execStoDiscrepancy_keeps s
  case stoRelease => exact execStoRelease_keeps s
  case ss1Request => exact execSs1Request_keeps _ s
  case ss1StoPhase => exact execSs1StoPhase_keeps _ s
  case ss1SpeedCheck => exact execSs1SpeedCheck_keeps _ s
  case tmonUpdate => exact execTmonUpdate_keeps _ _ _ _ s
  case tmonFault => exact execTmonFault_keeps _ s
  case ov1Firing => exact execOv1Firing_keeps _ s
  case tlimRampEnd => exact execTlimRampEnd_keeps _ s
  case ov2Firing => exact execOv2Firing_keeps _ s
  case dischargeRequest => exact execDischargeRequest_keeps _ s
  case dischargeDone => exact execDischargeDone_keeps _ s
  case dischargeTimeout => exact execDischargeTimeout_keeps _ s
  case ctClose => exact execCtClose_keeps _ _ s
  case ctOpen => exact execCtOpen_keeps _ _ s
  case ctFeedbackFault => exact execCtFeedbackFault_keeps _ s
  case prechargeVoltageReached => exact execPrechargeVoltageReached_keeps _ s
  case prechargeTimeout => exact execPrechargeTimeout_keeps _ s
  case comparatorTestSlice => exact execComparatorTestSlice_keeps _ _ _ _ s
  case didtTest => exact execDidtTest_keeps _ _ _ _ s
  case delayScrub => exact execDelayScrub_keeps _ _ _ _ s
  case tempUpdate => exact execTempUpdate_keeps _ _ s
  case spbWrite => exact execSpbWrite_keeps _ _ _ s
  case safArm => exact execSafArm_keeps _ s
  case safDisarm => exact execSafDisarm_keeps _ s
  case safClear => exact execSafClear_keeps _ s
  case windowMismatch => exact execWindowMismatch_keeps _ s
  case recoveryTestDone => exact execRecoveryTestDone_keeps _ _ s
  case kgrpWrite => exact execKgrpWrite_keeps _ _ s
  case debugHalt => exact execDebugHalt_keeps _ s
  case debugResume => exact execDebugResume_keeps _ _ s
  case macResidueFail => exact execMacResidueFail_keeps _ _ s
  case engineSigFail => exact execEngineSigFail_keeps _ s
  case bistSlice => exact execBistSlice_keeps _ _ _ _ _ s
  case bistSliceAbandoned => exact execBistSliceAbandoned_keeps s
  case rotation => exact execRotation_keeps s
  case rotationGraceExpiry => exact execRotationGraceExpiry_keeps s
  case unitOut => exact execUnitOut_keeps s
  case rejoin => exact execRejoin_keeps _ _ s
  case test => exact execTest_keeps _ s
  case fuse => exact execFuse_keeps s
  case rotate => exact execRotate_keeps s
  case flClear => exact execFlClear_keeps s
  case deviceSafe => exact execDeviceSafe_keeps s
  case dsafeDelayExpiry => exact execDsafeDelayExpiry_keeps s
  case seqCopyDisagree => exact execSeqCopyDisagree_keeps s
  case vaultWriteQueued => exact execVaultWriteQueued_keeps _ _ _ s
  case keyRevoke => exact execKeyRevoke_keeps _ _ s
  case minSvnWrite => exact execMinSvnWrite_keeps _ _ s
  case stageCopy => exact execStageCopy_keeps _ s
  case verify => exact execVerify_keeps () () s
  case activate => exact execActivate_keeps s
  case unlock => exact execUnlock_keeps () () s
  case attGo => exact execAttGo_keeps _ s
  case attReportDone => exact execAttReportDone_keeps () s
  case attReady => exact execAttReady_keeps s
  case dbgLock => exact execDbgLock_keeps _ s
  case seamLinkUp => exact execSeamLinkUp_keeps _ s
  case seamLinkDown => exact execSeamLinkDown_keeps _ s
  case linkMeasurement => exact execLinkMeasurement_keeps _ _ _ _ _ s
  case discoverySend => exact execDiscoverySend_keeps s
  case discoveryFrame => exact execDiscoveryFrame_keeps _ _ _ s
  case topologySettled => exact execTopologySettled_keeps s
  case seamTripOriginate => exact execSeamTripOriginate_keeps s
  case seamTripCmd => exact execSeamTripCmd_keeps _ _ s
  case seamTripRx => exact execSeamTripRx_keeps _ _ _ _ s
  case rootPathLost => exact execRootPathLost_keeps s
  case ringReparent => exact execRingReparent_keeps _ s
  case peerPublish => exact execPeerPublish_keeps s
  case peerFrameRx => exact execPeerFrameRx_keeps _ _ _ _ _ _ s
  case peerStale => exact execPeerStale_keeps _ s
  case talRun => exact execTalRun_keeps _ _ s
  case talLatch => exact execTalLatch_keeps _ s
  case talClear => exact execTalClear_keeps _ s
  case talOverflow => exact execTalOverflow_keeps _ _ s
  case sampleEnd => exact execSampleEnd_keeps _ _ _ _ _ s
  case tagRecord => exact execTagRecord_keeps _ _ _ _ _ _ _ _ _ _ _ _ s
  case talSampRdWrite => exact execTalSampRdWrite_keeps _ _ s
  case windowConditionEnd => exact execWindowConditionEnd_keeps _ _ s
  case contactorFeedbackChange => exact execContactorFeedbackChange_keeps _ _ s
  case compareMatch => exact execCompareMatch_keeps _ _ s
  case deadTimeExpiry => exact execDeadTimeExpiry_keeps _ s
  case minimumPulseExpiry => exact execMinimumPulseExpiry_keeps _ s
  case holdStateGapEnd => exact execHoldStateGapEnd_keeps _ _ s
  case configurationRequest => exact execConfigurationRequest_keeps _ _ s
  case perstNDeassertion => exact execPerstNDeassertion_keeps _ s
  case debuggerAttach => exact execDebuggerAttach_keeps _ s
  case abstractCommand => exact execAbstractCommand_keeps _ _ s

/-- What holds of every command that writes the shared SRAM. -/
theorem mover_cases {P : Instr → Prop} {c : Instr} (hm : movesMemory c = true) (hfr : P .firmwareRelease)
    (hwe : ∀ a b, P (.warmEntryCheck a b)) (hpr : ∀ n a b, P (.pairRestart n a b)) (hto : ∀ w a b, P (.takeover w a b))
    (hrr : ∀ a r k, P (.rowRepair a r k)) (hfs : ∀ c p, P (.opFwStage c p)) (hsc : ∀ d e, P (.stageCopyDone d e)) (hcl : P .clear)
    (hde : ∀ n ok d, P (.dmaElementDone n ok d)) (hdd : ∀ n, P (.dmaDescEnd n))
    (hrw : ∀ n b a be v, P (.registerWrite (.firmware n) b a be v)) (hwc : ∀ n, P (.windowCompareEqual n)) (hck : ∀ n, P (.ckpt n))
    (hyi : ∀ n, P (.yield n)) : P c := by
  cases c
  case registerWrite w b a be v =>
    cases w with
    | host p => exact absurd hm Bool.false_ne_true
    | firmware n => exact hrw n b a be v
  case firmwareRelease => exact hfr
  case warmEntryCheck a b => exact hwe a b
  case pairRestart n a b => exact hpr n a b
  case takeover w a b => exact hto w a b
  case rowRepair a r k => exact hrr a r k
  case opFwStage c p => exact hfs c p
  case stageCopyDone d e => exact hsc d e
  case clear => exact hcl
  case dmaElementDone n ok d => exact hde n ok d
  case dmaDescEnd n => exact hdd n
  case windowCompareEqual n => exact hwc n
  case ckpt n => exact hck n
  case yield n => exact hyi n
  all_goals exact absurd hm Bool.false_ne_true

theorem exec_keepsForm {c : Instr} (hm : movesMemory c = true) (s : State) : KeepsForm s (exec c s) := by
  refine mover_cases (P := fun c => KeepsForm s (exec c s)) hm ?_ ?_ ?_ ?_ ?_ ?_ ?_ ?_ ?_ ?_ ?_ ?_ ?_ ?_
  · exact execFirmwareRelease_keepsForm s
  · exact fun a b => execWarmEntryCheck_keepsForm a b s
  · exact fun n a b => execPairRestart_keepsForm n a b s
  · exact fun w a b => execTakeover_keepsForm w a b s
  · exact fun a r k => execRowRepair_keepsForm a r k s
  · exact fun c p => execOpFwStage_keepsForm c p s
  · exact fun d e => execStageCopyDone_keepsForm d e s
  · exact execClear_keepsForm s
  · exact fun n ok d => execDmaElementDone_keepsForm n ok d s
  · exact fun n => execDmaDescEnd_keepsForm n s
  · exact fun n b a be v => execRegisterWrite_firmware_keepsForm n b a be v s
  · exact fun n => execWindowCompareEqual_keepsForm n s
  · exact fun n => execCkpt_keepsForm n s
  · exact fun n => execYield_keepsForm n s

/-- What holds of every command that may write the vault. -/
theorem vaultWriter_cases {P : Instr → Prop} {c : Instr} (hv : writesVault c = true) (hcd : ∀ a b, P (.vaultCommitDone a b))
    (hoc : ∀ ok, P (.ownershipCommit ok)) (hdc : ∀ d, P (.dinCfgCommit d)) (hvl : P .vaultLoadDone) (hpor : ∀ pin, P (.powerOnReset pin))
    (huv : P .railUndervoltage) : P c := by
  cases c
  case vaultCommitDone a b => exact hcd a b
  case ownershipCommit ok => exact hoc ok
  case dinCfgCommit d => exact hdc d
  case vaultLoadDone => exact hvl
  case powerOnReset pin => exact hpor pin
  case railUndervoltage => exact huv
  all_goals exact absurd hv Bool.false_ne_true

/-- A command that writes the vault leaves the queue and, but for a power-on reset, the shared SRAM; that reset clears it. -/
theorem exec_writesVault {c : Instr} {s t : State} (hv : writesVault c = true) (h : exec c s = .next t) :
    t.pending = s.pending ∧ (t.sram = s.sram ∨ t.sram = [] ∧ (c = .railUndervoltage ∨ ∃ pin, c = .powerOnReset pin)) := by
  revert h
  refine vaultWriter_cases (P := fun c => exec c s = .next t → t.pending = s.pending ∧ (t.sram = s.sram ∨
    t.sram = [] ∧ (c = .railUndervoltage ∨ ∃ pin, c = .powerOnReset pin))) hv ?_ ?_ ?_ ?_ ?_ ?_
  · exact fun a b h => (execVaultCommitDone_mem a b s t h).imp_right .inl
  · exact fun ok h => (execOwnershipCommit_mem ok s t h).imp_right .inl
  · exact fun d h => (execDinCfgCommit_mem d s t h).imp_right .inl
  · exact fun h => (execVaultLoadDone_mem s t h).imp_right .inl
  · intro pin h
    cases h
    exact ⟨(porDo_kept pin s).1, .inr ⟨(porDo_kept pin s).2, .inr ⟨pin, rfl⟩⟩⟩
  · intro h
    cases h
    exact ⟨(porDo_kept false s).1, .inr ⟨(porDo_kept false s).2, .inl rfl⟩⟩

theorem exec_pending {c : Instr} {s t : State} (h : exec c s = .next t) : t.pending = s.pending := by
  cases hm : movesMemory c with
  | true => exact (exec_keepsForm hm s t h).1
  | false =>
    cases hv : writesVault c with
    | true => exact (exec_writesVault hv h).1
    | false => exact (exec_keeps hm hv s t h).1

theorem exec_wf {c : Instr} {s t : State} (hs : Memory.wf s.sram) (h : exec c s = .next t) : Memory.wf t.sram := by
  cases hm : movesMemory c with
  | true => exact (exec_keepsForm hm s t h).2.2 hs
  | false =>
    cases hv : writesVault c with
    | true =>
      obtain hmem | ⟨hmem, -⟩ := (exec_writesVault hv h).2
      · rwa [hmem]
      · rw [hmem]; exact swf_nil _
    | false => rw [(exec_keeps hm hv s t h).2.1]; exact hs

/-- Settles O1: the definition of a step. -/
theorem stepRunsTheFrontCommand : Obligations.StepRunsTheFrontCommand := fun s c rest h => by simp only [step, h]

/-- Settles O3, by the frame of every command. -/
theorem noCommandChangesTheQueue : Obligations.NoCommandChangesTheQueue := fun _ _ _ h => exec_pending h

/-- Settles O5: a command keeps the canonical form, and an idle step writes no memory. -/
theorem everyStepKeepsTheMemoryCanonical : Obligations.EveryStepKeepsTheMemoryCanonical := fun s t hs h => by
  unfold step at h
  split at h
  · cases h; rw [(idle_kept s).2.1]; exact hs
  case h_2 c rest _ => exact exec_wf (s := { s with pending := rest }) hs h

/-- Settles O8: the commands it excepts are those that write the memory, and the power-on reset. -/
theorem onlyMoversWriteTheMemory : Obligations.OnlyMoversWriteTheMemory := fun c s t h hc => by
  have hm : movesMemory c = false := Bool.eq_false_iff.mpr fun hm => by
    refine mover_cases (P := fun d => d = c → False) hm ?_ ?_ ?_ ?_ ?_ ?_ ?_ ?_ ?_ ?_ ?_ ?_ ?_ ?_ rfl
    all_goals intros
    all_goals subst_vars
    all_goals exact hc
  refine sameMem_of_sram ?_
  cases hv : writesVault c with
  | false => exact (exec_keeps hm hv s t h).2.1
  | true =>
    obtain hmem | ⟨-, rfl | ⟨pin, rfl⟩⟩ := (exec_writesVault hv h).2
    · exact hmem
    · exact hc.elim
    · exact hc.elim

/-- Settles O6. -/
theorem resetState : Obligations.ResetState := by
  refine ⟨rfl, reset_sram_wf, fun _ => rfl, fun _ => rfl, ?_, ?_, ?_⟩ <;> decide +kernel

/-! ## The idle step (log 1) -/

@[simp] theorem csrTick_sys (n : Nat) (s : State) : (csrTick n s).sys = s.sys := by
  unfold csrTick; split <;> simp [State.fresh]

@[simp] theorem csrTick_regs (n : Nat) (s : State) : (csrTick n s).regs = s.regs := by
  unfold csrTick; split <;> simp [State.fresh]

@[simp] theorem seamDrain_sys_regs (s : State) : (seamDrain s).sys = s.sys ∧ (seamDrain s).regs = s.regs := by
  refine each_inv s (fun t => t.sys = s.sys ∧ t.regs = s.regs) _ _ (fun p t h => ?_) ⟨rfl, rfl⟩
  split
  · simpa using h
  · split <;> simpa using h

/-- Settles O2. -/
theorem idleStepAdvancesTheTimeBase : Obligations.IdleStepAdvancesTheTimeBase := fun s hp => by
  have hstep : step s = .next (idle s) := by simp only [step, hp]
  obtain ⟨hpend, hmem, hvault⟩ := idle_kept s
  refine ⟨fun h0 => by rw [hstep, idle, if_pos h0], fun h0 => ⟨idle s, hstep, hpend.trans hp, ?_, ?_, sameMem_of_sram hmem,
    sameVault_of_vault hvault⟩⟩
  all_goals rw [idle, if_neg h0]
  · rw [(seamDrain_sys_regs _).1, each_keep _ State.sys _ _ csrTick_sys]; rfl
  · intro a _; rw [rd_congr (seamDrain_sys_regs _).2, rd_congr (each_keep _ State.regs _ _ csrTick_regs)]; rfl

/-! ## The load of the vault and a map with a key twice (14 R421) -/

/-- The repair of differing copies goes by the listed words alone. -/
theorem vaultMend_vault {s t : State} (h : t.vault = s.vault) : (vaultMend t).vault = (vaultMend s).vault := by
  have hfold (l : Sparse VWord) (s t : State) (h : t.vault = s.vault) :
      (l.foldl (fun s e => wearAdd e.1 none (s.vaultWr e.1 e.2.a)) t).vault =
        (l.foldl (fun s e => wearAdd e.1 none (s.vaultWr e.1 e.2.a)) s).vault := by
    induction l generalizing s t with
    | nil => exact h
    | cons e l ih => exact ih _ _ (by simp [State.vaultWr, State.vaultSet, h])
  unfold vaultMend; rw [h]; exact hfold _ _ _ h

/-- The load of the vault changes its map as the repair does. -/
theorem execVaultLoadDone_vault {s : State} (h : s.get PWR_BOOT_STATUS__PHASE = 1) :
    ∃ t, exec .vaultLoadDone s = .next t ∧ t.vault = (vaultMend s).vault := by
  refine ⟨_, rfl, ?_⟩
  rw [if_neg (not_not.mpr h)]
  simp only [arraysShow_kept, each_vault, updateSafHold_kept, implies_true]
  rw [apply_ite State.vault, (armAtStart_kept _).2.2, ite_self]
  simp [vaultMend_vault (foldl_vault _ _ s fun s r => (loadRow_kept r s).2.2)]

/-- A device in the load of the vault whose map lists word 5 twice: the entry read holds 1 in both copies, and the one behind
it, which no read finds, has copies that differ. -/
def twiceListed : State := { State.reset.put PWR_BOOT_STATUS__PHASE 1 with vault := [(5, .of 1), (5, { a := 2, b := 3 })] }

/-- The repair finds the entry behind and writes its copy A, which every read finds from then on. -/
theorem twiceListed_mended : twiceListed.vaultRd 5 = 1 ∧ (vaultMend twiceListed).vaultRd 5 = 2 := by decide +kernel

theorem twiceListed_load : ∃ t, exec .vaultLoadDone twiceListed = .next t ∧ ¬ SameVault twiceListed t := by
  obtain ⟨t, ht, hv⟩ := execVaultLoadDone_vault (s := twiceListed) (by decide +kernel)
  refine ⟨t, ht, fun h => ?_⟩
  have hmend : SameVault (vaultMend twiceListed) t := sameVault_of_vault hv
  have h5 := (hmend 5).symm.trans (h 5)
  rw [twiceListed_mended.1, twiceListed_mended.2] at h5
  exact absurd h5 (by decide)

/-- Refutes O7: in a state whose vault map lists a word twice, which no run from reset reaches, the repair at the end of the
load of the vault takes the entry behind for a word of its own and changes what the word reads as. -/
theorem not_vaultChangesOnlyByCommits : ¬ Obligations.VaultChangesOnlyByCommits := by
  intro h
  obtain ⟨t, ht, hne⟩ := twiceListed_load
  exact hne (h .vaultLoadDone twiceListed t ht nofun nofun nofun nofun nofun)

/-- Refutes O19: its clause on the end of the load of the vault says that no word changes, which fails in the same state. -/
theorem not_startSequence : ¬ Obligations.StartSequence := by
  rintro ⟨-, h, -⟩
  obtain ⟨t, ht, hne⟩ := twiceListed_load
  obtain ⟨t', ht', -, -, -, -, hv⟩ := h twiceListed (by decide +kernel)
  rw [ht] at ht'
  cases ht'
  exact hne hv

end Sys2Proof.Laws
end


section
/-! SUPPORT and O9, O10: what a command leaves of memory and vault, and the clocks -/
namespace Sys2Proof.Laws
open Sys2Proof.Machine
-- One declaration after another: the whole text is checked as one file, within a bound on memory.
set_option Elab.async false

theorem exec_sameMem {c : Instr} {s t : State} (h : exec c s = .next t) (hm : movesMemory c = false := by rfl)
    (hv : writesVault c = false := by rfl) : SameMem s t := sameMem_of_sram (exec_keeps hm hv s t h).2.1

theorem exec_sameVault {c : Instr} {s t : State} (h : exec c s = .next t) (hm : movesMemory c = false := by rfl)
    (hv : writesVault c = false := by rfl) : SameVault s t := sameVault_of_vault (exec_keeps hm hv s t h).2.2

theorem on_congr {s t : State} (f : FieldRef) (h : t.rd f.addr = s.rd f.addr) : t.on f = s.on f := by
  unfold State.on; rw [get_congr f h]

theorem on_raiseFree (s : State) (src unit : Nat) (f : FieldRef) (h : f.addr < 0x78000) : (raiseFree src unit s).on f = s.on f :=
  on_congr f (raiseFree_rd _ _ _ _ h)

@[simp] theorem rd_trimStep_ne (s : State) (A : Nat) (h : A ≠ CLK_STATUS) : (trimStep s).rd A = s.rd A := by
  unfold trimStep; split
  · rw [rd_put_ne _ _ h]; rfl
  · rfl

theorem rd_putB_ne (s : State) {f : FieldRef} {b : Nat} (v : Bool) (h : b ≠ f.addr) : (s.putB f v).rd b = s.rd b := rd_put_ne _ _ h

/-- Settles O9. -/
theorem crystalLossAndLock : Obligations.CrystalLossAndLock := by
  refine ⟨fun s hx => ?_, fun s hx => ?_, fun s hx => ?_⟩
  · refine ⟨_, rfl, ?_, ?_, ?_, fun A hA hne => ?_, exec_sameMem (c := .crystalLost) rfl, exec_sameVault (c := .crystalLost) rfl⟩
    all_goals simp only [hx, Bool.not_true, Bool.false_eq_true, if_false]
    · simp (disch := decide) only [on_raiseFree, on_putB_ne, on_putB]
    · simp (disch := decide) only [on_raiseFree, on_putB_ne, on_putB]
    · simp (disch := decide) only [on_raiseFree, on_putB]
    · obtain ⟨h1, h2⟩ : A ≠ CLK_STATUS ∧ A ≠ 0x2008 := by simpa using hne
      rw [raiseFree_rd _ _ _ _ hA, rd_putB_ne _ _ h2, rd_putB_ne _ _ h1, rd_putB_ne _ _ h1, rd_trimStep_ne _ _ h1]
  · refine ⟨_, rfl, ?_, ?_, ?_, fun A hne => ?_, exec_sameMem (c := .xtalLocked) rfl, exec_sameVault (c := .xtalLocked) rfl⟩
    all_goals simp only [hx, Bool.not_true, Bool.false_eq_true, if_false]
    · simp (disch := decide) only [on_putB_ne, on_putB]
    · simp (disch := decide) only [on_putB_ne, on_putB]
    · simp (disch := decide) only [on_putB]
    · obtain ⟨h1, h2⟩ : A ≠ CLK_STATUS ∧ A ≠ 0x2008 := by simpa using hne
      rw [rd_putB_ne _ _ h2, rd_putB_ne _ _ h1, rd_putB_ne _ _ h1]
  · exact ⟨by simp [exec, execCrystalLost, hx], by simp [exec, execXtalLocked, hx]⟩

/-! ## A fault ledger that takes the device to device-SAFE in the middle of a command (13 R413) -/

/-- The state a command leads to, the state itself where it leads to none. -/
def nextOf (c : Instr) (s : State) : State := match exec c s with | .next t => t | _ => s

theorem nextOf_eq {c : Instr} {s t : State} (h : exec c s = .next t) : nextOf c s = t := by rw [nextOf, h]

/-- An open record of a unit, one level deep: the next record of that unit escalates to class 5. -/
def openRecord (ut unit : Nat) : FlRec :=
  { slot := 0, seq := 0, parent := none, depth := 1, cls := 1, st := 0, kind := 16, ut := ut, detail := 0, unit := unit, time := 0 }

/-- A device in READY with PLL-A locked and axes 0 and 1 in CATCH, whose fault ledger already handles axis 0. -/
def twoAxesOneHandled : State :=
  { ((((State.reset.putB CLK_STATUS__PLLA_LOCK true).put PWR_STATE__STATE 2).put (AX_STATE__STATE 0) 2).put (AX_STATE__STATE 1) 2)
    with fl := [openRecord 10 0] }

/-- No register of the contexts' page differs from its reset word, so that no context is enabled. -/
def ctxsOff (s : State) : Bool := s.regs.all fun e => decide (e.1 < 0x8000) || decide (0xC000 ≤ e.1)

theorem ctxsOff_disabled {s : State} (h : ctxsOff s = true) (c : Fin 256) : s.on (HP_CTX_CTRL__EN c.val) = false := by
  have hrd : s.rd (HP_CTX_CTRL c.val) = 0 := by
    refine (sget_none _ _ _ fun e he hk => ?_).trans (by unfold resetWord; rw [row_HP_CTX_CTRL]; rfl)
    have hall := List.all_eq_true.mp h e he
    simp only [hk, HP_CTX_CTRL, Bool.or_eq_true, decide_eq_true_eq] at hall
    omega
  unfold State.on State.get
  exact (congrArg (fun w => fieldGet w 0 1 != 0) hrd).trans rfl

/-- A walk over what is all left alone. -/
theorem each_when_none {s : State} {l : List Nat} {c : State → Nat → Bool} {f : Nat → State → State} (h : ∀ i ∈ l, c s i = false) :
    (s.each l fun i s => s.when (c s i) (f i)) = s := by
  induction l with
  | nil => rfl
  | cons i l ih =>
    rw [each_cons, h i List.mem_cons_self]
    exact ih fun j hj => h j (List.mem_cons_of_mem _ hj)

/-- The stop of the axes in device-SAFE. -/
def axesSafe (s : State) : State :=
  let s := seamDue 2 (s.putB RED_STATUS__DSAFE true)
  let r := s.fl.getLast?
  let s := redEvent 8 ((r.map (·.slot)).getD 0) ((r.map FlRec.word1).getD 0) s
  s.each (List.range 8) fun a s => if s.axState a = 0 then closeRefuse a 1 s else if s.axState a = 6 then s else (safeCore a 13 true s).1

/-- The stop of the DMA channels and of the core pairs. -/
def channelsStop (s : State) : State :=
  (s.each (List.range 16) fun n s => s.when (s.get (DMA_CH_STATE__STATE n) == 1) fun s =>
    (s.put (DMA_CH_STATE__STATE n) 2).upDma n fun d => { d with stop := 1 }).upSys fun y => { y with pairsReset := true }

/-- Device-SAFE of a device whose contexts are all off. -/
theorem deviceSafe_ctxsOff {s : State} (hd : s.on RED_STATUS__DSAFE = false) (h : ctxsOff (axesSafe s) = true) :
    deviceSafe s = channelsStop (axesSafe s) := by
  have hctx : ((axesSafe s).each (List.range 256) fun c s => s.when (s.on (HP_CTX_CTRL__EN c)) (ctxStopReq c 4)) = axesSafe s :=
    each_when_none fun c hc => ctxsOff_disabled h ⟨c, List.mem_range.mp hc⟩
  have hsafe : deviceSafe s =
      channelsStop ((axesSafe s).each (List.range 256) fun c s => s.when (s.on (HP_CTX_CTRL__EN c)) (ctxStopReq c 4)) := by
    unfold deviceSafe
    rw [if_neg (by rw [hd]; decide)]
    rfl
  rw [hsafe, hctx]

/-- A record that takes class 5 while the contexts are all off. -/
theorem faultRecord_escalates {s : State} {kind cls ut detail unit : Nat} (h5 : (flWrite kind cls ut detail unit s).2 = true)
    (hd : (flWrite kind cls ut detail unit s).1.on RED_STATUS__DSAFE = false)
    (h : ctxsOff (axesSafe (flWrite kind cls ut detail unit s).1) = true) :
    faultRecord kind cls ut detail unit s = channelsStop (axesSafe (flWrite kind cls ut detail unit s).1) :=
  (if_pos h5).trans (deviceSafe_ctxsOff hd h)

/-- An entry to SAFE whose record takes class 5, while the contexts are all off. -/
theorem enterSafe_escalates {s : State} {a cause : Nat} {latch : Bool} (ha : s.axState a ≠ 0) (h5 : (safeCore a cause latch s).2 = true)
    (hd : (safeCore a cause latch s).1.on RED_STATUS__DSAFE = false) (h : ctxsOff (axesSafe (safeCore a cause latch s).1) = true) :
    enterSafe a cause latch s = channelsStop (axesSafe (safeCore a cause latch s).1) := by
  unfold enterSafe
  rw [if_neg fun hx => ha hx.1]
  exact (if_pos h5).trans (deviceSafe_ctxsOff hd h)

/-- The device once the loss of PLL-A is shown. -/
def unlockedA (s : State) : State :=
  raiseFree 1 0 (((s.putB CLK_STATUS__PLLA_LOCK false).putB CLK_EVENT__PLLA_UNLOCK true).upSys fun y => { y with relockA := 0, lostA := true })

theorem unlockA_next {s : State} (h : (!s.on CLK_STATUS__PLLA_LOCK || decide (s.get PWR_STATE__STATE < 2)) = false) :
    nextOf (.pllUnlock .a) s = (unlockedA s).each ((List.range 8).filter s.axLive) fun a s => enterSafe a 7 false s := by
  simp only [nextOf, exec, execPllUnlock, h, Bool.false_eq_true, if_false, unlockedA]

theorem twoAxesUnlocked_next : nextOf (.pllUnlock .a) twoAxesOneHandled = enterSafe 1 7 false (enterSafe 0 7 false (unlockedA twoAxesOneHandled)) := by
  have hlive : ((List.range 8).filter twoAxesOneHandled.axLive) = [0, 1] := by decide +kernel
  rw [unlockA_next (by decide +kernel), hlive, each_cons, each_cons, each_nil]

theorem twoAxesUnlocked_first :
    enterSafe 0 7 false (unlockedA twoAxesOneHandled) = channelsStop (axesSafe (safeCore 0 7 false (unlockedA twoAxesOneHandled)).1) :=
  enterSafe_escalates (by decide +kernel) (by decide +kernel) (by decide +kernel) (by decide +kernel)

theorem twoAxesUnlocked_second :
    (enterSafe 1 7 false (channelsStop (axesSafe (safeCore 0 7 false (unlockedA twoAxesOneHandled)).1))).get (AX_STATE__SAFE_CAUSE 1) = 13 := by
  decide +kernel

/-- The stop of axis 0 is recorded with class 5, and device-SAFE then stops axis 1 with its own cause. -/
theorem twoAxesOneHandled_unlock : (nextOf (.pllUnlock .a) twoAxesOneHandled).get (AX_STATE__SAFE_CAUSE 1) = 13 := by
  rw [twoAxesUnlocked_next, twoAxesUnlocked_first]
  exact twoAxesUnlocked_second

/-- Refutes O10: where the fault ledger already handles the first axis that the unlock stops, the record of that stop escalates
to device-SAFE, and the second axis enters SAFE with cause 13 and not 7. -/
theorem not_pllUnlockClearsTheLock : ¬ Obligations.PllUnlockClearsTheLock := by
  rintro ⟨h, -⟩
  obtain ⟨t, ht, -, -, -, -, -, hax, -⟩ := h twoAxesOneHandled (by decide +kernel) (by decide +kernel)
  have h7 := (hax 1 (by decide +kernel)).2
  rw [← nextOf_eq ht] at h7
  exact absurd (twoAxesOneHandled_unlock.symm.trans h7) (by decide)

end Sys2Proof.Laws
end


section
/-! O21, O24, O25, O27, O36, O38, O40, O47, O48: states in which their statements fail -/
namespace Sys2Proof.Laws
open Sys2Proof.Machine
-- One declaration after another: the whole text is checked as one file, within a bound on memory.
set_option Elab.async false

/-- A calibration whose first coefficient is at the front of the vault's queue. -/
def firstCoefficientQueued : State := { State.reset.upPm (fun p => { p with calDue := 2 }) with vq := [{ word := 502, value := 1, cal := true }] }

theorem firstCoefficientQueued_done : (nextOf (.vaultCommitDone true true) firstCoefficientQueued).vaultRd 502 = 0 := by decide +kernel

/-- Refutes O21: a first coefficient of a calibration is held until the second one verifies, so its word does not yet take its value. -/
theorem not_vaultCommitEnds : ¬ Obligations.VaultCommitEnds := by
  rintro ⟨h, -⟩
  obtain ⟨t, ht, hw, -⟩ := h firstCoefficientQueued true _ [] rfl (by decide)
  rw [← nextOf_eq ht] at hw
  exact absurd (firstCoefficientQueued_done.symm.trans hw) (by decide)
/-- A device whose counter 0 counts the messages sent to host 0 and is about to pass 2^48, and whose overflow is an event of host 0. -/
def ownMessageCounted : State :=
  let s := State.reset.put TAL_CTRL__RUN 1
  let s := (((s.putB (TAL_EVT__EN 0) true).put (TAL_EVT__EVENT 0) 0x63).put (TAL_EVT__MASTER 0) 31).wr (TAL_CNT_HI 0) 0xFFFF
  let s := ((s.wr (TAL_CNT_LO 0) 0xFFFFFFFF).putB CLK_STATUS__PLLA_LOCK true).put PWR_STATE__STATE 2
  let s := ((s.putB (EV_RING_CFG__EN 0) true).put (EV_RING_CFG__SIZE_LOG2 0) 4).putB (HP_LINK__UP 0) true
  let s := (s.putB (HP_LINK__BME 0) true).putB (EV_ROUTE__EN 40 0) true
  { s with msix := [(3, 0)] }
theorem ownMessageCounted_overflow : (nextOf (.talOverflow 0 { m := 1, u := 0 }) ownMessageCounted).talCnt 0 = 1 := by
  decide +kernel

/-- Refutes O25: the event of a counter's overflow is sent as a message, and a counter of messages counts it past 0. -/
theorem not_tallyCommands : ¬ Obligations.TallyCommands := by
  rintro ⟨-, -, -, -, h, -⟩
  obtain ⟨t, ht, hcnt, -⟩ := h ownMessageCounted 0 { m := 1, u := 0 } (by decide +kernel) (by decide +kernel) (by decide +kernel)
    (by decide +kernel)
  have h0 : ownMessageCounted.talCnt 0 + ownMessageCounted.talPriv 0 1 0 - 2 ^ 48 = 0 := by decide +kernel
  rw [← nextOf_eq ht] at hcnt
  exact absurd (ownMessageCounted_overflow.symm.trans (hcnt.trans h0)) (by decide)

theorem vltEvent_on (b detail : Nat) (s : State) (f : FieldRef) (h : f.addr ≠ VLT_EVENT__EVT.addr) (hA : f.addr < 0x78000) :
    (vltEvent b detail s).on f = s.on f := by
  refine on_congr f ?_
  unfold vltEvent State.putBit
  rw [raise_rd _ _ _ _ _ hA, rd_put_ne _ _ h]

/-- The index after a signature sets the report's EXHAUSTED or clears it. -/
theorem attIndex_exhausted (q : Nat) (s : State) : (attIndex q s).on VLT_ATT_STAT__EXHAUSTED = decide (2 ^ 30 ≤ q) := by
  have hput := on_putB (s.put VLT_ATT_IDX__NEXT (q % 2 ^ 30)) VLT_ATT_STAT__EXHAUSTED (decide (2 ^ 30 ≤ q)) (by decide) (by decide)
  unfold attIndex State.when
  simp only
  split
  · rw [vltEvent_on _ _ _ _ (by decide) (by decide)]; exact (on_congr _ rfl).trans hput
  · exact hput

theorem execAttReportDone_exhausted {s : State} (hb : s.on VLT_ATT_STAT__BUSY = true) (hq : s.get VLT_ATT_IDX__NEXT < s.attRes) :
    ∃ t, exec (.attReportDone ()) s = .next t ∧ t.on VLT_ATT_STAT__EXHAUSTED = decide (2 ^ 30 ≤ s.get VLT_ATT_IDX__NEXT + 1) := by
  refine ⟨_, rfl, ?_⟩
  simp only [hb, Nat.not_le.mpr hq, Bool.not_true, decide_false, Bool.or_self, Bool.false_eq_true, if_false]
  rw [vltEvent_on _ _ _ _ (by decide) (by decide), attIndex_exhausted]

/-- A report under way with index 0, which is reserved, and EXHAUSTED set. -/
def exhaustedEarly : State :=
  { (State.reset.putB VLT_ATT_STAT__BUSY true).putB VLT_ATT_STAT__EXHAUSTED true with
    vault := [(0, .of 256)], vs := { State.reset.vs with report := List.replicate 64 0 } }

/-- Refutes O24: where EXHAUSTED is set and the index is not the last one, the end of a report clears it and does not keep it. -/
theorem not_attestationReport : ¬ Obligations.AttestationReport := by
  rintro ⟨-, h, -⟩
  have hb : exhaustedEarly.on VLT_ATT_STAT__BUSY = true := by decide +kernel
  have hq : exhaustedEarly.get VLT_ATT_IDX__NEXT < exhaustedEarly.attRes := by decide +kernel
  have hlast : exhaustedEarly.get VLT_ATT_IDX__NEXT + 1 < 2 ^ 30 := by decide +kernel
  have hset : exhaustedEarly.on VLT_ATT_STAT__EXHAUSTED = true := by decide +kernel
  obtain ⟨t, ht, hclear⟩ := execAttReportDone_exhausted hb hq
  obtain ⟨t', ht', -, -, -, hkeep, -⟩ := h exhaustedEarly hb hq hlast List.length_replicate
  cases ht.symm.trans ht'
  rw [hkeep, hset, decide_eq_false (Nat.not_le.mpr hlast)] at hclear
  exact Bool.noConfusion hclear

/-- The same device with both axes owned by host 0, whose link is up and whose loss stops them (LOSS_ACT 2). -/
def bothAxesStopOnLoss : State :=
  (((twoAxesOneHandled.putB (HP_LINK__UP 0) true).put (HP_OWN_AX__LOSS_ACT 0) 2).put (HP_OWN_AX__LOSS_ACT 1) 2).put HP_STEWARD__STEWARD 0

/-- What a reset of the function of port 0 does before the contexts stop. -/
def resetLink (s : State) : State :=
  let s := ((s.putB (HP_LINK__BME 0) false).put (HP_LINK__DSTATE 0) 0).put (HP_LINK__LPM 0) 0
  let s := msixClear 0 (s.upPort 0 fun q => { q with mse := false, cfg := {}, wbHeld := [] })
  let s := s.upSys fun y => { y with held := y.held.filter fun h => h.1 != 0 }
  let s := s.putB (EV_RING_CFG__EN 0) false
  hpEvent HP_EVENT__HOT_RESET 0 5 (s.bump (HP_RESETCNT__HOT 0))

/-- What it then does before the axes act. -/
def resetTraffic (s : State) : State :=
  let s := s.each (List.range 256) fun c s => s.when (s.ctxOwner c == 0 && (s.on (HP_CTX_CTRL__EN c) || (s.ctx c).stop != 0)) (ctxStopReq c 3)
  let s := s.each (s.ctxs.map (·.1)) (flushFail 0)
  dmaHostLoss 0 s

/-- What the axes of host 0 then do, and a transfer that concerns it. -/
def resetAxes (s : State) : State :=
  let s := s.each (List.range 8) fun a s => s.when (s.axOwner a == 0) (lossAct a)
  s.when (s.steward == 0 || s.get HP_STEWARD__XFER_TARGET == 0) xferAbandon

theorem hostLoss_flr {s : State} (h : s.on (HP_LINK__UP 0) = true) : hostLoss 0 .flr s = resetAxes (resetTraffic (resetLink s)) := by
  have h0 : (s.when (LossKind.flr == .perst) fun s => s.upPort 0 fun q => { q with perst := true, training := false }) = s := rfl
  unfold hostLoss
  simp only [h0, h, Bool.not_true, Bool.false_eq_true, if_false]
  rfl

theorem resetTraffic_ctxsOff {s : State} (h : ctxsOff s = true) (hc : s.ctxs = []) : resetTraffic s = dmaHostLoss 0 s := by
  have hctx : ∀ c, s.ctx c = {} := fun c => by
    unfold State.ctx
    rw [hc]
    rfl
  have hskip : (s.each (List.range 256) fun c s => s.when (s.ctxOwner c == 0 && (s.on (HP_CTX_CTRL__EN c) || (s.ctx c).stop != 0))
      (ctxStopReq c 3)) = s :=
    each_when_none fun c hc => by
      rw [ctxsOff_disabled h ⟨c, List.mem_range.mp hc⟩, hctx c]
      exact Bool.and_false _
  unfold resetTraffic
  simp only [hskip, hc, List.map_nil, each_nil]

/-- The device as its axes begin to act: the reset is counted and shown, and its event has drawn a free value. -/
def bothAxesAct : State := { (bothAxesStopOnLoss.wr 4356 1).wr 4608 0x100 with free := 1 }

theorem bothAxesStopOnLoss_before : resetTraffic (resetLink bothAxesStopOnLoss) = bothAxesAct := by
  rw [resetTraffic_ctxsOff (by decide +kernel) (by decide +kernel)]
  decide +kernel

/-- The device once the stop of axis 0 has taken it to device-SAFE. -/
def bothAxesStopped : State := channelsStop (axesSafe (safeCore 0 8 false bothAxesAct).1)

theorem bothAxesAct_first : bothAxesAct.when (bothAxesAct.axOwner 0 == 0) (lossAct 0) = bothAxesStopped := by
  have h : bothAxesAct.when (bothAxesAct.axOwner 0 == 0) (lossAct 0) = enterSafe 0 8 false bothAxesAct := by
    unfold State.when lossAct
    rw [if_pos (by decide +kernel), if_neg (by decide +kernel), if_neg (by decide +kernel)]
  exact h.trans (enterSafe_escalates (by decide +kernel) (by decide +kernel) (by decide +kernel) (by decide +kernel))

theorem bothAxesStopped_second : ((bothAxesStopped.when (bothAxesStopped.axOwner 1 == 0) (lossAct 1)).each [2, 3, 4, 5, 6, 7]
    fun a s => s.when (s.axOwner a == 0) (lossAct a)).get (AX_STATE__SAFE_CAUSE 1) = 13 := by decide +kernel

theorem xferAbandon_cause (s : State) : (xferAbandon s).get (AX_STATE__SAFE_CAUSE 1) = s.get (AX_STATE__SAFE_CAUSE 1) := by
  refine get_congr _ ?_
  unfold xferAbandon
  split
  · rfl
  · rw [raiseFree_rd _ _ _ _ (by decide), rd_putB_ne _ _ (by decide), rd_putB_ne _ _ (by decide), rd_putB_ne _ _ (by decide)]

theorem bothAxesStopOnLoss_up : bothAxesStopOnLoss.on (HP_LINK__UP 0) = true := by decide +kernel

theorem bothAxesStopOnLoss_loss : (hostLoss 0 .flr bothAxesStopOnLoss).get (AX_STATE__SAFE_CAUSE 1) = 13 := by
  have hr : List.range 8 = [0, 1, 2, 3, 4, 5, 6, 7] := by decide
  rw [hostLoss_flr bothAxesStopOnLoss_up, bothAxesStopOnLoss_before, resetAxes, hr, each_cons, each_cons, bothAxesAct_first]
  exact (when_keep _ (fun s => s.get (AX_STATE__SAFE_CAUSE 1)) _ _ xferAbandon_cause).trans bothAxesStopped_second

/-- Refutes O27: where the fault ledger already handles the first axis that the loss stops, the record of that stop escalates to
device-SAFE, and the second axis enters SAFE with cause 13 and not 8. -/
theorem not_hostLinkUpAndLoss : ¬ Obligations.HostLinkUpAndLoss := by
  rintro ⟨-, -, -, h, -⟩
  obtain ⟨t, ht, -, h8, -⟩ := h bothAxesStopOnLoss 0 .flr 1 bothAxesStopOnLoss_up (by decide +kernel) (by decide +kernel)
    (by decide +kernel) (by decide +kernel)
  rw [← Host.Outcome.next.inj ht] at h8
  exact absurd (bothAxesStopOnLoss_loss.symm.trans h8) (by decide)

/-- A device in READY with both PLLs locked. -/
def readyDevice : State :=
  ((State.reset.put PWR_STATE__STATE 2).putB CLK_STATUS__PLLA_LOCK true).putB CLK_STATUS__PLLB_LOCK true

/-- A REG_WRITE of host 0, the steward, that starts a stewardship transfer towards port 1. -/
def transferToDownedPort : ExecS :=
  { words := [0x80120000, BitVec.ofNat 32 HP_STEWARD_XFER, 0x101, 0xFFFFFFFF], phase := 0, port := 0 }

/-- That descriptor in execution while the link of port 1 is down. -/
def transferRuns : State := readyDevice.upCtx 9 fun x => { x with stop := 0, exec := some transferToDownedPort }

theorem transferRuns_write : ((nextOf (.opRegWrite 9) transferRuns).ctx 9).exec.bind (·.done) = some (4, 5) := by decide +kernel

/-- Refutes O36: a transfer towards a port whose link is down is refused by the register's own rules with `xferBad`, which ends the
descriptor with code 4 and LAST_REFUSE, and not with code 1 and the reason. -/
theorem not_dataOpcodes : ¬ Obligations.DataOpcodes := by
  rintro ⟨-, -, h, -⟩
  obtain ⟨t, ht, hd, -⟩ := h transferRuns 9 transferToDownedPort 0x101 xferBad (by decide +kernel) rfl (by decide +kernel)
    (by decide +kernel) (by decide +kernel) (by decide +kernel) (by decide) (by decide)
  rw [← nextOf_eq ht] at hd
  exact absurd (transferRuns_write.symm.trans hd) (by decide)

/-- An axis in RUN whose step is due, and an open record that handles a row of its coefficient banks. -/
def bankRowHandled : State :=
  { ((readyDevice.put (AX_STATE__STATE 0) 3).upAx 0 fun x => { x with stepDue := 1 }) with
    fl := [openRecord 6 (coefRow 0 0 0)] }

theorem controlStepDone_ecc {s : State} {a : Fin 8} {b : Fin 16} {k : Fin 256} (h : (if s.coreClk then (s.ax a.val).stepDue else 0) = 1) :
    exec (.controlStepDone a (some (b, k))) s = .next (coefEcc a.val b.val k.val s) :=
  congrArg Host.Outcome.next (if_pos h)

theorem bankRowHandled_record : coefEcc 0 0 0 bankRowHandled =
    channelsStop (axesSafe (flWrite 0x04 1 6 0 (coefRow 0 0 0) (coefHold 0 0 0 bankRowHandled)).1) :=
  faultRecord_escalates (by decide +kernel) (by decide +kernel) (by decide +kernel)

theorem bankRowHandled_step : (coefEcc 0 0 0 bankRowHandled).axState 0 = 5 := by
  rw [bankRowHandled_record]
  decide +kernel

/-- Refutes O40: where the fault ledger already handles the row that holds the uncorrectable coefficient, its record escalates to
device-SAFE, and the axis is in SAFE and not in HOLD. -/
theorem not_samplesAndSteps : ¬ Obligations.SamplesAndSteps := by
  rintro ⟨-, -, -, -, -, -, -, -, -, -, -, h, -⟩
  obtain ⟨t, ht, hs, -⟩ := h bankRowHandled 0 0 0 (by decide +kernel) (by decide +kernel) (by decide +kernel)
  rw [← Host.Outcome.next.inj ((controlStepDone_ecc (by decide +kernel)).symm.trans ht)] at hs
  exact absurd (bankRowHandled_step.symm.trans hs) (by decide)

/-- A DMA channel whose element of one byte goes from SRAM 0, which holds a 1, to SRAM 8. -/
def oneByteElement : State :=
  (readyDevice.sramWr 0 1).upDma 0 fun _ => { port := 0, words := [0x80440001, 0, 0, 8], issued := true }

set_option maxRecDepth 100000 in
/-- An element is carried in whole words, of which one byte is none. -/
theorem oneByteElement_done : (nextOf (.dmaElementDone 0 true []) oneByteElement).sramWord 8 = 0 := by decide +kernel

/-- Refutes O38: an element of one byte is counted as moved, and no byte of it is. -/
theorem not_dmaChannels : ¬ Obligations.DmaChannels := by
  rintro ⟨-, -, -, -, -, -, -, -, -, -, -, -, -, h, -⟩
  obtain ⟨t, ht, -, hw, -⟩ := h oneByteElement 0 [] 0 8 (by decide +kernel) (by decide +kernel) (by decide +kernel)
    (by decide +kernel) (by decide +kernel) (by decide +kernel) (by decide +kernel) (by decide +kernel)
  have h8 := hw 0 (by decide +kernel)
  rw [← nextOf_eq ht] at h8
  have h0 : oneByteElement.sramWord 0 = 1 := by decide +kernel
  exact absurd (oneByteElement_done.symm.trans (h8.trans h0)) (by decide)

/-- An urgent conversion of an input that the precision path does not have: the register of its last result is the route of
event source 147, the queue's high-water mark, to host 1. The queue's first entry reaches that mark. -/
def inputBeyondThePath : State :=
  (State.reset.put PM_QCFG__QHWM 1).upPx 0 fun _ => { job := 2, input := 0x1FC9, gain := 2 ^ 22 }

/-- The result 1 enables the route, and the event that follows marks it pending. -/
theorem inputBeyondThePath_result : (nextOf (.precisionConversion 0 1) inputBeyondThePath).rd (PM_IN_LAST 0x1FC9) = 0x1010001 := by
  decide +kernel

/-- Refutes O48: in a state whose converter serves an input that does not exist, which no run from reset reaches, the event that
follows a result writes the register that holds it. -/
theorem not_precisionPath : ¬ Obligations.PrecisionPath := by
  rintro ⟨-, -, h, -⟩
  obtain ⟨t, ht, hl, -⟩ := h inputBeyondThePath 0 1 (by decide +kernel)
  have hv : BitVec.ofInt 32 (clampI (-(2 ^ 31)) (2 ^ 31 - 1) ((inputBeyondThePath.px 0).calibrate 1)) = 1 := by decide +kernel
  have hi : (inputBeyondThePath.px 0).input = 0x1FC9 := by decide +kernel
  rw [← nextOf_eq ht] at hl
  have hl' := inputBeyondThePath_result.symm.trans (hi ▸ hl)
  exact absurd (hl'.trans hv) (by decide)

/-- A channel without a converter while the fault ledger's head counts more open records than there are. -/
def channelWithoutConverter : State :=
  (((State.reset.putB (FM_CH_CFG__EN 0) true).put (fpStat 0) 1).put RED_FL_HEAD__OPEN 1).upRed fun r => { r with noConv := [0] }

theorem channelWithoutConverter_move :
    (nextOf (.xbarMove 0 0) channelWithoutConverter).rd 0x50024 ≠ channelWithoutConverter.rd 0x50024 := by decide +kernel

/-- Refutes O47: a channel that takes a converter again resolves its fault records, which writes RED_FL_HEAD. -/
theorem not_fastMeasurement : ¬ Obligations.FastMeasurement := by
  rintro ⟨-, -, -, -, h, -⟩
  obtain ⟨t, ht, -, -, -, -, hregs, -⟩ := h channelWithoutConverter 0 0 (by decide +kernel) (by decide +kernel)
  rw [← nextOf_eq ht] at hregs
  exact channelWithoutConverter_move (hregs 0x50024 (by decide) (by decide +kernel))

end Sys2Proof.Laws
end


section
/-! O49, O52: states in which their statements fail -/
namespace Sys2Proof.Laws
open Sys2Proof.Machine
-- One declaration after another: the whole text is checked as one file, within a bound on memory.
set_option Elab.async false

/-- The settings of input 0 at the front of the vault's queue, marked as a calibration's first coefficient. -/
def settingsAsCoefficient : State :=
  { State.reset.upPm (fun p => { p with calDue := 2 }) with vq := [{ word := 694, value := 5, cal := true }] }

theorem settingsAsCoefficient_commit : (nextOf (.dinCfgCommit 0) settingsAsCoefficient).vaultRd 694 = 8 := by decide +kernel

/-- Refutes O49: in a state whose queue marks the settings of an input as a calibration's coefficient, which no run from reset
reaches, their commit holds them until a second coefficient verifies. -/
theorem not_positionAndInputs : ¬ Obligations.PositionAndInputs := by
  rintro ⟨-, -, -, -, -, -, -, -, -, -, -, -, -, -, -, -, -, -, -, -, -, -, -, -, -, -, -, -, -, -, -, -, -, -, -, -, -, -, -, -, -, h, -⟩
  obtain ⟨t, ht, -, hw, -⟩ := h settingsAsCoefficient 0 _ [] rfl rfl rfl rfl
  rw [← nextOf_eq ht] at hw
  exact absurd (settingsAsCoefficient_commit.symm.trans hw) (by decide)

/-- Both copies of comparator A of channel 0 in service, copy 0 with one failure and an open record, and an axis in RUN in a device in RUN. -/
def copyHandled : State :=
  { ((State.reset.put (winCopies 0 false) 3).put (AX_STATE__STATE 0) 3).put PWR_STATE__STATE 3 with
    cmpFails := [(copyUnit 0 false 0, 1)], fl := [openRecord 12 (copyUnit 0 false 0)] }

/-- What the second failure of copy 0 of comparator A of channel 0 does before its record. -/
def copyFailed (s : State) : State :=
  let s := ((s.put SAF_CMPT_STAT__LAST_CH 0).putB SAF_CMPT_STAT__LAST_WIN false).put SAF_CMPT_STAT__LAST_COPY 0
  let s := { s with cmpFails := sset (fun _ => 0) s.cmpFails 0 (sget (fun _ => 0) s.cmpFails 0 + 1) }
  let s := (s.putBit (winCopies 0 false) 0 false).bump SAF_COUNTS__CMP_FAIL
  markOut 12 0 (safEvent 15 0 (0 + 2 * 0 + 4 * b2n (s.get (winCopies 0 false) == 0)) s)

theorem comparatorTestSlice_second {s : State} (hgo : (!nbit (s.get (winCopies 0 false)) 0 || !nbit (s.get (winCopies 0 false)) 1 ||
    s.on (winOut 0 false)) = false) (hn : ¬ sget (fun _ => 0) s.cmpFails 0 + 1 < 2) :
    exec (.comparatorTestSlice 0 false 0 false) s = .next (copyLost 0 false (unitRecord 0x12 12 0 0 (copyFailed s))) := by
  show Host.Outcome.next (if _ then _ else _) = _
  rw [if_neg (by rw [← Bool.not_eq_true] at hgo; exact hgo)]
  exact congrArg Host.Outcome.next (if_neg hn)

theorem copyHandled_record : faultRecord 0x12 1 12 0 0 (copyFailed copyHandled) =
    channelsStop (axesSafe (flWrite 0x12 1 12 0 0 (copyFailed copyHandled)).1) :=
  faultRecord_escalates (by decide +kernel) (by decide +kernel) (by decide +kernel)

/-- The second failure of the copy is recorded with class 5, and device-SAFE then stops the axis, so that the device leaves RUN. -/
theorem copyHandled_slice : (copyLost 0 false (unitRecord 0x12 12 0 0 (copyFailed copyHandled))).rd PWR_STATE ≠ copyHandled.rd PWR_STATE := by
  have hrd : (copyLost 0 false (unitRecord 0x12 12 0 0 (copyFailed copyHandled))).rd PWR_STATE =
      (faultRecord 0x12 1 12 0 0 (copyFailed copyHandled)).rd PWR_STATE := by
    rw [copyLost_rd _ _ _ _ (by decide)]
    unfold unitRecord State.when
    split
    · rw [flResolve_rd _ _ _ (by decide)]
    · rfl
  rw [hrd, copyHandled_record]
  decide +kernel

/-- Refutes O52: where the fault ledger already handles a comparator's copy, its second failure escalates to device-SAFE, which
stops an axis in RUN, and the register of the power state lies below 0x10000. -/
theorem not_selfTestsAndKeys : ¬ Obligations.SelfTestsAndKeys := by
  rintro ⟨-, -, h, -⟩
  obtain ⟨t, ht, -, -, -, -, -, -, -, -, hregs, -⟩ := h copyHandled 0 false 0 (by decide +kernel) (by decide +kernel)
    (by decide +kernel) (by decide +kernel)
  rw [Host.Outcome.next.inj (ht.symm.trans (comparatorTestSlice_second (by decide +kernel) (by decide +kernel)))] at hregs
  exact copyHandled_slice (hregs PWR_STATE (by decide) (by decide))

end Sys2Proof.Laws
end


section
/-! O60: descriptors that end or hand over at one commit -/
namespace Sys2Proof.Laws
open Sys2Proof.Machine
-- One declaration after another: the whole text is checked as one file, within a bound on memory.
set_option Elab.async false

variable {s : State}

/-! ## A descriptor in execution (04 R112, R113) -/

theorem running_eq {c op : Nat} {e : ExecS} (he : (s.ctx c).exec = some e) (hop : opOf (dword e.words 0) = op) (hd : e.done = none)
    (hclk : s.coreClk = true) (hstop : hostOp op = false ∨ (s.ctx c).stop ≠ 3) : s.running c op = some e := by
  unfold State.running
  rw [he]
  rcases hstop with h | h <;> simp [hop, hd, hclk, h]

theorem exec_upExec {c : Nat} {e : ExecS} (f : ExecS → ExecS) (he : (s.ctx c).exec = some e) :
    ((s.upExec c f).ctx c).exec = some (f e) := by
  unfold State.upExec; rw [he]; simp

theorem ctx_upExec_ne {c k : Nat} (f : ExecS → ExecS) (h : k ≠ c) : (s.upExec c f).ctx k = s.ctx k := by
  unfold State.upExec; split <;> simp [h]

theorem exec_descDone {c : Nat} {e : ExecS} (code detail : Nat) (he : (s.ctx c).exec = some e) (hd : e.done = none) :
    ((descDone c code detail s).ctx c).exec = some { e with done := some (code, detail) } := by
  unfold descDone; rw [exec_upExec _ he]; simp [hd]

theorem ctx_descDone_ne {c k : Nat} (code detail : Nat) (h : k ≠ c) : (descDone c code detail s).ctx k = s.ctx k := ctx_upExec_ne _ h

@[simp] theorem ctx_stepDone (c n k : Nat) : (stepDone c n s).ctx k = s.ctx k := by
  unfold stepDone; simp

/-- A step changes the ledger's word of its context, and no other below the tally. -/
theorem rd_stepDone_ne (c n : Nat) {A : Nat} (hA : A < evBase) (h : A ≠ HP_CTX_LEDGER1 c) : (stepDone c n s).rd A = s.rd A := by
  unfold stepDone evBase at *
  rw [talCount_rd _ _ _ _ _ _ (by omega), rd_put_ne _ _ h]

theorem steps_stepDone (c : Fin 256) (n : Nat) :
    (stepDone c.val n s).get (HP_CTX_LEDGER1__STEPS c.val) = (s.get (HP_CTX_LEDGER1__STEPS c.val) + n) % 2 ^ 24 := by
  unfold stepDone
  rw [get_congr _ (talCount_rd _ _ _ _ _ _ (by simp only [HP_CTX_LEDGER1__STEPS]; omega)), get_put _ _ _ (by simp [HP_CTX_LEDGER1__STEPS])]
  rfl

theorem get_descDone (c code detail : Nat) (f : FieldRef) : (descDone c code detail s).get f = s.get f :=
  get_congr _ (descDone_rd _ _ _ _ _)

/-- A descriptor that ends with its step counts it in the ledger. -/
theorem steps_descDone (c : Fin 256) (n code detail : Nat) :
    (descDone c.val code detail (stepDone c.val n s)).get (HP_CTX_LEDGER1__STEPS c.val) = (s.get (HP_CTX_LEDGER1__STEPS c.val) + n) % 2 ^ 24 := by
  rw [get_descDone, steps_stepDone]

/-- The end of a descriptor with its step changes the ledger alone. -/
theorem regs_descDone (c : Fin 256) (n code detail : Nat) {l : List Nat} (hl : HP_CTX_LEDGER1 c.val ∈ l) {t : State}
    (h : OnlyRegsBelow evBase l s t) : OnlyRegsBelow evBase l s (descDone c.val code detail (stepDone c.val n t)) := by
  intro A hA hx
  rw [descDone_rd, rd_stepDone_ne _ _ hA (fun hc => hx (hc ▸ hl)), h A hA hx]

theorem onlyRegsBelow_refl (b : Nat) (l : List Nat) : OnlyRegsBelow b l s s := fun _ _ _ => rfl

theorem get_descDone_stepDone (c n code detail : Nat) {f : FieldRef} (hA : f.addr < evBase) (h : f.addr ≠ HP_CTX_LEDGER1 c) :
    (descDone c code detail (stepDone c n s)).get f = s.get f :=
  get_congr _ ((descDone_rd ..).trans (rd_stepDone_ne _ _ hA h))

theorem exec_ctx_congr {t : State} {c : Nat} {e : ExecS} (h : t.ctx c = s.ctx c) (he : (s.ctx c).exec = some e) : (t.ctx c).exec = some e := by
  rw [h, he]

section Commands
variable {c : Fin 256} {e : ExecS} (he : (s.ctx c.val).exec = some e) (hd : e.done = none) (hclk : s.coreClk = true)
include he hd hclk

theorem opNop_runs (hop : opOf (dword e.words 0) = 0x00) :
    exec (.opNop c) s = .next (descDone c.val 0 0 (stepDone c.val 1 s)) := by
  simp only [exec, execOpNop, running_eq he hop hd hclk (.inl rfl)]

theorem opEventMark_runs (hop : opOf (dword e.words 0) = 0x60) :
    exec (.opEventMark c) s = .next (descDone c.val 0 0 (stepDone c.val 1 (raise 22 c.val (dword e.words 1).toNat s))) := by
  simp only [exec, execOpEventMark, running_eq he hop hd hclk (.inl rfl)]

theorem opSetpoint_runs {a : Nat} (hop : opOf (dword e.words 0) = 0x10) (hph : e.phase = 0) (hu : unitOf (dword e.words 0) = a)
    (hss : s.ss1Locks a = false) :
    exec (.opSetpoint c) s = .next (descDone c.val 0 0 (stepDone c.val 1 (s.wr (AX_SETPOINT a) (dword e.words 1)))) := by
  simp [exec, execOpSetpoint, running_eq he hop hd hclk (.inl rfl), hu, hss, hph, setpointWrite]

theorem opPowerReq_runs (hop : opOf (dword e.words 0) = 0x70) (hph : e.phase = 0) (hp : s.commandPair = true) :
    exec (.opPowerReq c) s = .next (stepDone c.val 1 (s.upExec c.val fun e => { e with phase := 1 })) := by
  simp [exec, execOpPowerReq, running_eq he hop hd hclk (.inl rfl), hph, hp]

theorem opFwCall_finishes (code detail : BitVec 8) (result : Word) (hop : opOf (dword e.words 0) = 0x71) (hf : e.flush = 0)
    (hs : (s.ctx c.val).stop ≠ 3) (hp : s.commandPair = true) :
    exec (.opFwCall c (.finish code detail result)) s =
      .next (descDone c.val code.toNat detail.toNat (s.upExec c.val fun e => { e with result := result })) := by
  simp [exec, execOpFwCall, running_eq he hop hd hclk (.inr hs), hf, hp]

theorem opService_starts {k u r : Nat} (hop : opOf (dword e.words 0) = 0x72) (hph : e.phase = 0) (hp : s.commandPair = true)
    (hb : s.on RED_SVC_STAT__BUSY = false) (hk : k = fieldGet (dword e.words 1) 0 8) (hu : u = fieldGet (dword e.words 2) 0 4)
    (hr : r = fieldGet (dword e.words 3) 0 16) (hok : svcOk k u r = true) :
    exec (.opService c) s = .next ((((((s.upExec c.val fun e => { e with phase := 1 }).put RED_SVC_STAT__STEPS 0).put RED_SVC_STAT__RESULT 0).upRed
      fun q => { q with svc := some (k, u, r), svcCtx := some c.val }).putB RED_SVC_STAT__BUSY true)) := by
  subst hk hu hr
  simp [exec, execOpService, running_eq he hop hd hclk (.inl rfl), hph, hp, hb, svcStart, hok]

/-- AXIS_STATE for the state that the axis is in: the request is answered at once. -/
theorem opAxisState_here {a : Nat} (hop : opOf (dword e.words 0) = 0x11) (hph : e.phase = 0) (hu : unitOf (dword e.words 0) = a)
    (hreq : (s.ax a).req = none) (hcl : s.on (AX_STATE__CLOSING a) = false) (hds : s.on RED_STATUS__DSAFE = false) (h6 : s.axState a < 6)
    (ht : fieldGet (dword e.words 1) 0 4 = s.axState a) (ha : a < 8) :
    exec (.opAxisState c) s = .next (descDone c.val 0 0 (stepDone c.val 2
      (((s.upExec c.val fun e => { e with phase := 1 }).put (AX_STATE__LAST_TARGET a) (s.axState a)).put (AX_STATE__LAST_REQ a) 0))) := by
  have hput : ∀ (g : FieldRef) (u : State), g.lo + g.width ≤ 20 → (u.put (AX_STATE__LAST_TARGET a) (s.axState a)).get g = u.get g :=
    fun g u hg => get_put_ne _ _ _ _ (by simp [AX_STATE__LAST_TARGET]) (.inr (.inl hg))
  have hexec : ∀ (g : FieldRef) (f : ExecS → ExecS), (s.upExec c.val f).get g = s.get g := fun g f => get_congr _ (upExec_rd _ _ _ _)
  have hst : ∀ f, ((s.upExec c.val f).put (AX_STATE__LAST_TARGET a) (s.axState a)).axState a = s.axState a := fun f =>
    (hput (AX_STATE__STATE a) _ (by simp [AX_STATE__STATE])).trans (hexec _ _)
  have hclo : ∀ f, ((s.upExec c.val f).put (AX_STATE__LAST_TARGET a) (s.axState a)).on (AX_STATE__CLOSING a) = false := fun f => by
    rw [← hcl]; unfold State.on; rw [hput _ _ (by simp [AX_STATE__CLOSING]), hexec]
  have hdev : ∀ f, ((s.upExec c.val f).put (AX_STATE__LAST_TARGET a) (s.axState a)).on RED_STATUS__DSAFE = false := fun f => by
    rw [← hds]; unfold State.on; rw [get_congr _ (rd_put_ne _ _ (by simp only [RED_STATUS__DSAFE, AX_STATE__LAST_TARGET]; omega)), hexec]
  have hax : ∀ f, ((s.upExec c.val f).put (AX_STATE__LAST_TARGET a) (s.axState a)).ax a = s.ax a := fun f => by
    simp [State.upExec, he]
  simp only [exec, execOpAxisState, running_eq he hop hd hclk (.inl rfl), hph, hu, ht, axRequest, hst, hclo, hdev, hax, hreq]
  simp [show ¬ 6 ≤ s.axState a by omega]
end Commands

/-! ## The setpoint mirror (03 R85) -/

theorem awake_of_mayPage {p : Fin 4} {a : Nat} (h : s.mayPage p a = true) : s.awake = true := by
  simp only [State.mayPage, Bool.and_eq_true, Bool.not_eq_true'] at h
  exact awake_of_goes s h.1.2

/-- What an access that arrives in a descent changes shows in none of the checks of a doorbell page. -/
theorem writeReason_page_waked (p : Fin 4) {a : Nat} (ha : a < 2 ^ 20) {R : Sparse Word} {bw : Bool}
    (h : ∀ A, A ≠ PWR_WAKE_CAUSE → (waked s R bw).rd A = s.rd A) :
    (waked s R bw).writeReason (.host p) true a = s.writeReason (.host p) true a := by
  unfold State.writeReason
  dsimp only
  rw [on_waked s R bw h (HP_CFG__RO_PORT p.val) (by simp only [HP_CFG__RO_PORT, PWR_WAKE_CAUSE]; omega), ctxOwner_waked s R bw h _ (by omega),
    mirrorAxis_waked s R bw h, show (waked s R bw).sys.released = s.sys.released from rfl]
  cases hx : s.mirrorAxis a with
  | none => rfl
  | some n =>
    have hn : n < 1000 := by
      simp only [State.mirrorAxis] at hx
      split at hx
      · simp only [Option.some.injEq] at hx; omega
      · exact absurd hx (by simp)
    dsimp only
    rw [axOwner_waked s R bw h n hn]
    rfl

/-- A host's access to a doorbell page that may be made reaches the page. -/
theorem writeCmd_mayPage {p : Fin 4} {a : Nat} (v : Word) (h : s.mayPage p a = true) (ha : a < 2 ^ 20) (h4 : a % 4 = 0) :
    writeCmd (.host p) true a v s = pageWrite (.host p) a v (arrived (.host p) s) := by
  have hw := awake_of_mayPage h
  obtain ⟨R, bw, hu, hrd⟩ := arrived_waked s (.host p) hw
  simp only [State.mayPage, Bool.and_eq_true, Bool.not_eq_true', beq_iff_eq] at h
  obtain ⟨⟨⟨htakes, hmse⟩, hgoes⟩, hreason⟩ := h
  have hn : (BitVec.ofNat 20 a).toNat = a := by simp; omega
  unfold writeCmd hostAccess
  simp only [portTakes_up s htakes, hw, Bool.not_true, Bool.false_eq_true, if_false]
  rw [show (s.when (s.on PWR_STATE__DESCENDING) (wake 0)) = arrived (.host p) s from rfl, hu]
  simp only [portTakes_waked s R bw hrd, htakes, show ((waked s R bw).port p.val).mse = true from hmse, Bool.not_true, Bool.false_eq_true, if_false]
  unfold access
  simp only [hn, accessWaits_waked s R bw hrd, hgoes, h4, ne_eq, not_true_eq_false, or_self, if_false, Bool.false_eq_true]
  unfold doWrite
  simp [writeReason_page_waked p ha hrd, hreason]

theorem writeCmd_mirror {p : Fin 4} {c : Fin 256} {a : Fin 8} (v : Word) (h : s.mayPage p (0x1000 * c.val + 0x800 + 4 * a.val) = true)
    (hss : s.ss1Locks a.val = false) :
    writeCmd (.host p) true (0x1000 * c.val + 0x800 + 4 * a.val) v s = (arrived (.host p) s).wr (AX_SETPOINT a.val) v := by
  obtain ⟨R, bw, hu, hrd⟩ := arrived_waked s (.host p) (awake_of_mayPage h)
  have hmirror : s.mirrorAxis (0x1000 * c.val + 0x800 + 4 * a.val) = some a.val := by
    have hr : s.writeReason (.host p) true (0x1000 * c.val + 0x800 + 4 * a.val) = 0 := by
      simp only [State.mayPage, Bool.and_eq_true, beq_iff_eq] at h; exact h.2
    have hn : ((0x1000 * c.val + 0x800 + 4 * a.val) % 0x1000 - 0x800) / 4 = a.val := by omega
    by_contra hne
    have hnone : s.mirrorAxis (0x1000 * c.val + 0x800 + 4 * a.val) = none := by
      unfold State.mirrorAxis at hne ⊢
      simp only [hn] at hne ⊢
      split at hne
      · exact absurd rfl hne
      · rename_i hc; rw [if_neg hc]
    unfold State.writeReason at hr
    have hpage : ¬ (0x1000 * c.val + 0x800 + 4 * a.val) % 0x1000 ≤ 4 := by omega
    simp only [hnone, if_true, if_neg hpage] at hr
    split_ifs at hr
    exact absurd hr (by decide)
  rw [writeCmd_mayPage v h (by omega) (by omega), hu]
  unfold pageWrite
  rw [if_neg (by omega), mirrorAxis_waked s R bw hrd, hmirror]
  have hlock : (waked s R bw).ss1Locks a.val = false := by
    rw [← hss]
    unfold State.ss1Locks
    rw [on_waked s R bw hrd _ (by simp only [SAF_AX_STAT__SS1, PWR_WAKE_CAUSE]; omega), on_waked s R bw hrd _ (by simp only [SAF_AX_STAT__SS1_STO, PWR_WAKE_CAUSE]; omega)]
  simp only [hlock, Bool.false_eq_true, if_false, setpointWrite]

/-- Settles O60. -/
theorem commandDescriptorsComplete : Obligations.CommandDescriptorsComplete := by
  unfold Obligations.CommandDescriptorsComplete
  refine ⟨?_, ?_, ?_, ?_, ?_, ?_, ?_, ?_⟩
  · intro s c e he hop hd hclk
    have h := opNop_runs he hd hclk hop
    exact ⟨_, h, exec_descDone _ _ ((ctx_stepDone ..).symm ▸ he) hd, steps_descDone .., fun k hk => by
      rw [ctx_descDone_ne _ _ (by simpa [Fin.ext_iff] using hk), ctx_stepDone], regs_descDone _ _ _ _ (by simp) (onlyRegsBelow_refl _ _), exec_sameMem h, exec_sameVault h⟩
  · intro s c e he hop hd hclk
    have h := opEventMark_runs he hd hclk hop
    refine ⟨_, h, exec_descDone _ _ (exec_ctx_congr (s := s) (by simp) he) hd, ?_, fun k hk => by
      rw [ctx_descDone_ne _ _ (by simpa [Fin.ext_iff] using hk)]; simp, regs_descDone _ _ _ _ (by simp) (fun A hA _ => raise_rd _ _ _ _ _ hA), exec_sameMem h, exec_sameVault h⟩
    rw [steps_descDone, get_congr _ (raise_rd _ _ _ _ _ (by simp only [HP_CTX_LEDGER1__STEPS]; omega))]
  · intro s c e a he hop hd hph hclk hu hss
    have h := opSetpoint_runs he hd hclk hop hph hu hss
    refine ⟨_, h, ?_, exec_descDone _ _ (exec_ctx_congr (s := s) (by simp) he) hd, ?_, ?_, exec_sameMem h, exec_sameVault h⟩
    · rw [descDone_rd, rd_stepDone_ne _ _ (by simp only [AX_SETPOINT, evBase]; omega) (by simp only [AX_SETPOINT, HP_CTX_LEDGER1]; omega), rd_wr_same]
    · rw [steps_descDone, get_wr_ne _ _ _ _ (by simp only [AX_SETPOINT, HP_CTX_LEDGER1__STEPS]; omega)]
    · exact regs_descDone _ _ _ _ (by simp) (fun A _ hx => rd_wr_ne _ _ (by simp at hx; omega))
  · intro s c e a he hop hd hph hclk hu hreq hcl hds h6 ht
    have h := opAxisState_here he hd hclk hop hph hu hreq hcl hds h6 ht a.2
    refine ⟨_, h, ?_, ?_, ?_, ?_, ?_, exec_sameMem h, exec_sameVault h⟩
    · unfold State.axState
      rw [get_descDone_stepDone _ _ _ _ (by simp only [AX_STATE__STATE, evBase]; omega) (by simp only [AX_STATE__STATE, HP_CTX_LEDGER1]; omega),
        get_put_ne _ _ _ _ (by simp [AX_STATE__LAST_REQ]) (.inr (.inl (by simp [AX_STATE__LAST_REQ, AX_STATE__STATE]))),
        get_put_ne _ _ _ _ (by simp [AX_STATE__LAST_TARGET]) (.inr (.inl (by simp [AX_STATE__LAST_TARGET, AX_STATE__STATE]))),
        get_congr _ (upExec_rd _ _ _ _)]
    · rw [get_descDone_stepDone _ _ _ _ (by simp only [AX_STATE__LAST_REQ, evBase]; omega) (by simp only [AX_STATE__LAST_REQ, HP_CTX_LEDGER1]; omega),
        get_put _ _ _ (by simp [AX_STATE__LAST_REQ])]
      rfl
    · rw [exec_descDone (e := { e with phase := 1 }) _ _ (exec_ctx_congr (by simp) (exec_upExec (fun e => { e with phase := 1 }) he)) hd]; rfl
    · rw [steps_descDone, get_congr _ (rd_put_ne _ _ (by simp only [HP_CTX_LEDGER1__STEPS, AX_STATE__LAST_REQ]; omega)),
        get_congr _ (rd_put_ne _ _ (by simp only [HP_CTX_LEDGER1__STEPS, AX_STATE__LAST_TARGET]; omega)), get_congr _ (upExec_rd _ _ _ _)]
    · refine regs_descDone _ _ _ _ (by simp) fun A _ hx => ?_
      have hA : A ≠ AX_STATE a.val := by simp at hx; exact hx.2
      rw [rd_put_ne _ _ hA, rd_put_ne _ _ hA, upExec_rd]
  · intro s c e he hop hd hph hclk hp
    have h := opPowerReq_runs he hd hclk hop hph hp
    refine ⟨_, h, ?_, ?_, ?_, exec_sameMem h, exec_sameVault h⟩
    · rw [ctx_stepDone, exec_upExec _ he]
    · rw [steps_stepDone, get_congr _ (upExec_rd _ _ _ _)]
    · intro A hA hx
      rw [rd_stepDone_ne _ _ hA (by simpa using hx), upExec_rd]
  · intro s c e code detail result he hop hd hf hs hclk hp
    have h := opFwCall_finishes he hd hclk code detail result hop hf hs hp
    refine ⟨_, h, ?_, ?_, exec_sameMem h, exec_sameVault h⟩
    · rw [exec_descDone _ _ (exec_upExec _ he) hd]
    · intro A _
      rw [descDone_rd, upExec_rd]
  · intro s c e k u r he hop hd hph hclk hp hb hk hu hr hok
    have h := opService_starts he hd hclk hop hph hp hb hk hu hr hok
    refine ⟨_, h, on_putB _ _ _ (by decide) (by decide), ?_, ?_, ?_, exec_sameMem h, exec_sameVault h⟩
    · simp
    · simp
    · intro A hx
      have hA : A ≠ RED_SVC_STAT__BUSY.addr := by simpa using hx
      rw [rd_putB_ne _ _ hA, show ∀ (u : State) f, (u.upRed f).rd A = u.rd A from fun _ _ => rfl,
        rd_put_ne (f := RED_SVC_STAT__RESULT) _ _ hA, rd_put_ne (f := RED_SVC_STAT__STEPS) _ _ hA, upExec_rd]
  · intro s p c a v hm hss
    have h : exec (.setpointMirrorWrite p c a v) s = .next ((arrived (.host p) s).wr (AX_SETPOINT a.val) v) := by
      rw [← writeCmd_mirror v hm hss]; rfl
    obtain ⟨R, bw, hu, hrd⟩ := arrived_waked s (.host p) (awake_of_mayPage hm)
    refine ⟨_, h, rd_wr_same .., ?_, exec_sameMem h, exec_sameVault h⟩
    intro A hx
    simp only [List.mem_cons, not_or, List.not_mem_nil, not_false_eq_true, and_true] at hx
    rw [rd_wr_ne _ _ hx.2, hu, hrd A hx.1]

end Sys2Proof.Laws
end


section
/-! O12, O13, O14, O16, O17: wake sources, the descent, held accesses and the power-on reset -/
namespace Sys2Proof.Laws
open Sys2Proof.Machine
-- One declaration after another: the whole text is checked as one file, within a bound on memory.
set_option Elab.async false

variable {s : State}

/-! ## Wake sources (02 R62) -/

/-- The source's bit is latched. -/
def latched (src : Nat) (s : State) : State :=
  if src = 15 then s.putB PWR_WAKE_CAUSE__TRIP true else s.putBit PWR_WAKE_CAUSE__SRC src true

/-- The source begins power-up: the device sleeps or is in a descent, and the source is enabled, or is the trip. -/
def wakeBegins (src : Nat) (s : State) : Bool :=
  (!s.awake || s.on PWR_STATE__DESCENDING) && (src == 15 || nbit (s.get PWR_WAKE_EN__SRC_EN) src)

/-- Every port whose link is down drives WAKE_N. -/
def wakeNAll (s : State) : State :=
  s.each (List.range 4) fun p s => s.when (!s.on (HP_LINK__UP p)) fun s => s.upPort p fun q => { q with wakeN := true }

theorem rd_latched_ne (src : Nat) {A : Nat} (h : A ≠ PWR_WAKE_CAUSE) : (latched src s).rd A = s.rd A := by
  unfold latched
  split
  · exact rd_putB_ne _ _ h
  · exact rd_put_ne _ _ h

theorem latched_frame (src : Nat) : (latched src s).sys = s.sys ∧ (latched src s).out = s.out := by
  unfold latched; split <;> exact ⟨rfl, rfl⟩

theorem wake_eq (src : Nat) (h : s.get PWR_BOOT_STATUS__PHASE ≠ 0) :
    wake src s = if wakeBegins src s then ((latched src s).when (!s.awake) wakeNAll).upSys fun y => { y with waking := true } else latched src s := by
  have hcond : ((!(latched src s).awake || (latched src s).on PWR_STATE__DESCENDING) && (src == 15 || nbit ((latched src s).get PWR_WAKE_EN__SRC_EN) src))
      = wakeBegins src s := by
    unfold wakeBegins State.awake State.on
    rw [get_congr _ (rd_latched_ne src (by decide)), get_congr _ (rd_latched_ne src (by decide)), get_congr _ (rd_latched_ne src (by decide))]
  have hawake : (latched src s).awake = s.awake := by
    unfold State.awake; rw [get_congr _ (rd_latched_ne src (by decide))]
  rw [← hcond, ← hawake]
  exact if_neg h

theorem wake_of_phase0 (src : Nat) (h : s.get PWR_BOOT_STATUS__PHASE = 0) : wake src s = s := if_pos h

/-- What neither WAKE_N nor power-up changes is as the latch leaves it. -/
theorem wake_keep {β : Type} (g : State → β) (src : Nat) (h : s.get PWR_BOOT_STATUS__PHASE ≠ 0) (hp : ∀ p f u, g (State.upPort u p f) = g u)
    (hs : ∀ u, g (State.upSys u fun y => { y with waking := true }) = g u) : g (wake src s) = g (latched src s) := by
  rw [wake_eq src h]
  split
  · rw [hs]
    exact when_keep _ g _ _ fun u => each_keep u g _ _ fun i u => when_keep u g _ _ fun u => hp _ _ _
  · rfl

theorem rd_wake_ne (src : Nat) {A : Nat} (hA : A ≠ PWR_WAKE_CAUSE) : (wake src s).rd A = s.rd A := by
  by_cases h : s.get PWR_BOOT_STATUS__PHASE = 0
  · rw [wake_of_phase0 src h]
  · rw [wake_keep (fun u => u.rd A) src h (fun _ _ _ => rfl) (fun _ => rfl), rd_latched_ne src hA]

theorem out_wake (src : Nat) : (wake src s).out = s.out := by
  by_cases h : s.get PWR_BOOT_STATUS__PHASE = 0
  · rw [wake_of_phase0 src h]
  · rw [wake_keep (·.out) src h (fun _ _ _ => rfl) (fun _ => rfl), (latched_frame src).2]

/-- Apart from `waking`, an arriving source leaves the clocks' own state. -/
theorem sys_wake (src : Nat) (h : s.get PWR_BOOT_STATUS__PHASE ≠ 0) :
    (wake src s).sys = { s.sys with waking := s.sys.waking || wakeBegins src s } := by
  rw [wake_eq src h]
  split
  next hb =>
    have hn : ((latched src s).when (!s.awake) wakeNAll).sys = s.sys := by
      rw [← (latched_frame (s := s) src).1]
      exact when_keep _ (·.sys) _ _ fun u => each_keep u (·.sys) _ _ fun i u => when_keep u (·.sys) _ _ fun u => rfl
    rw [show ∀ (u : State) f, (u.upSys f).sys = f u.sys from fun _ _ => rfl, hn, hb, Bool.or_true]
  next hb => rw [(latched_frame src).1]; simp [hb]

/-- Setting a bit of a field is setting it in the word. -/
theorem fieldSet_bit_or (w : Word) {lo n i : Nat} (hi : i < n) (hn : lo + n ≤ 32) :
    fieldSet w lo n (fieldGet w lo n ||| 2 ^ i) = w ||| BitVec.ofNat 32 (2 ^ (lo + i)) := by
  refine BitVec.eq_of_getLsbD_eq fun j hj => ?_
  rw [fieldSet_bit _ _ _ _ _ hn, Nat.testBit_or, fieldGet_bit, Nat.testBit_two_pow, BitVec.getLsbD_or, BitVec.getLsbD_ofNat, Nat.testBit_two_pow]
  split
  next h => simp [hj, show lo + (j - lo) = j by omega, show j - lo < n by omega, show (i = j - lo) = (lo + i = j) from propext (by omega)]
  next h => simp [show lo + i ≠ j by omega]

theorem fieldSet_one_or (w : Word) {lo : Nat} (hn : lo + 1 ≤ 32) : fieldSet w lo 1 1 = w ||| BitVec.ofNat 32 (2 ^ lo) := by
  refine BitVec.eq_of_getLsbD_eq fun j hj => ?_
  rw [fieldSet_bit _ _ _ _ _ hn, BitVec.getLsbD_or, BitVec.getLsbD_ofNat, Nat.testBit_two_pow]
  split
  next h =>
    obtain rfl : j = lo := by omega
    simp [hj]
  next h => simp [show lo ≠ j by omega]

theorem cause_latched_src {src : Nat} (h : src < 8) :
    (latched src s).rd PWR_WAKE_CAUSE = s.rd PWR_WAKE_CAUSE ||| BitVec.ofNat 32 (2 ^ src) := by
  have hset := fieldSet_bit_or (s.rd PWR_WAKE_CAUSE) (lo := 0) (n := 8) h (by decide)
  rw [Nat.zero_add] at hset
  rw [latched, if_neg (by omega), ← hset]
  exact (rd_put _ _ _ _).trans (if_pos rfl)

theorem cause_latched_trip : (latched 15 s).rd PWR_WAKE_CAUSE = s.rd PWR_WAKE_CAUSE ||| 0x8000 := by
  refine .trans ?_ (fieldSet_one_or (s.rd PWR_WAKE_CAUSE) (lo := 15) (by decide))
  exact (rd_put _ _ _ _).trans (if_pos rfl)

theorem cause_wake_src {src : Nat} (h : s.get PWR_BOOT_STATUS__PHASE ≠ 0) (h8 : src < 8) :
    (wake src s).rd PWR_WAKE_CAUSE = s.rd PWR_WAKE_CAUSE ||| BitVec.ofNat 32 (2 ^ src) := by
  rw [wake_keep (fun u => u.rd PWR_WAKE_CAUSE) src h (fun _ _ _ => rfl) (fun _ => rfl), cause_latched_src h8]

theorem cause_wake_trip (h : s.get PWR_BOOT_STATUS__PHASE ≠ 0) :
    (wake 15 s).rd PWR_WAKE_CAUSE = s.rd PWR_WAKE_CAUSE ||| 0x8000 := by
  rw [wake_keep (fun u => u.rd PWR_WAKE_CAUSE) 15 h (fun _ _ _ => rfl) (fun _ => rfl), cause_latched_trip]

theorem onlyRegs_wake (src : Nat) : OnlyRegs [PWR_WAKE_CAUSE] s (wake src s) := fun A hA => rd_wake_ne src (by simpa using hA)

theorem not_awake : (!s.awake) = decide (s.get PWR_STATE__STATE < 2) := by
  unfold State.awake
  rw [← decide_not]
  exact decide_eq_decide.mpr Nat.not_le

theorem wakeBegins_src {src : Nat} (h : src < 8) :
    wakeBegins src s = ((decide (s.get PWR_STATE__STATE < 2) || s.on PWR_STATE__DESCENDING) && nbit (s.get PWR_WAKE_EN__SRC_EN) src) := by
  have hne : (src == 15) = false := by simp; omega
  unfold wakeBegins
  rw [hne, Bool.false_or, not_awake]

theorem wakeBegins_trip : wakeBegins 15 s = (decide (s.get PWR_STATE__STATE < 2) || s.on PWR_STATE__DESCENDING) := by
  unfold wakeBegins
  rw [not_awake]
  simp

/-- Settles O14. -/
theorem wakeSourcesAreLatched : Obligations.WakeSourcesAreLatched := by
  unfold Obligations.WakeSourcesAreLatched
  refine ⟨?_, ?_, ?_, ?_, ?_, ?_, ?_⟩
  · intro s src h8 h
    have he : exec (.wakeSource src) s = .next (wake src.val s) := by simp only [exec, execWakeSource, if_neg (show ¬ (8 ≤ src.val ∧ src.val ≠ 15) by omega)]
    exact ⟨_, he, cause_wake_src h h8, by rw [sys_wake _ h, wakeBegins_src h8], onlyRegs_wake _, exec_sameMem he, exec_sameVault he⟩
  · intro s h
    have he : exec (.wakeSource 15) s = .next (wake 15 s) := rfl
    exact ⟨_, he, cause_wake_trip h, by rw [sys_wake _ h, wakeBegins_trip], onlyRegs_wake _, exec_sameMem he, exec_sameVault he⟩
  · intro s ht h
    have he : exec .wakeTimerExpiry s = .next (wake 2 (s.upSys fun y => { y with wakeTimer := false })) := by simp [exec, execWakeTimerExpiry, ht]
    have h' : (s.upSys fun y => { y with wakeTimer := false }).get PWR_BOOT_STATUS__PHASE ≠ 0 := h
    refine ⟨_, he, ?_, ?_, ?_, ?_, exec_sameMem he, exec_sameVault he⟩
    · exact cause_wake_src h' (by decide)
    · rw [sys_wake _ h']; rfl
    · rw [sys_wake _ h', wakeBegins_src (by decide)]; rfl
    · exact onlyRegs_wake (s := s.upSys fun y => { y with wakeTimer := false }) 2
  · intro s ht
    simp [exec, execWakeTimerExpiry, ht]
  · intro s p x hst hup h
    have hsleep : s.awake = false := by simp [State.awake]; omega
    have he : exec (.heldPortRequest p x) s = .next (holdAccess (.host p) x (wake 0 s)) := by
      simp [exec, execHeldPortRequest, hostAccess, hsleep, hup]
    refine ⟨_, he, ?_, cause_wake_src h (by decide), ?_, out_wake 0, onlyRegs_wake 0, exec_sameMem he, exec_sameVault he⟩
    · simp [holdAccess, State.upSys, sys_wake 0 h, Writer.slot]
    · have hw : wakeBegins 0 s = nbit (s.get PWR_WAKE_EN__SRC_EN) 0 := by rw [wakeBegins_src (by decide)]; simp [hst]
      simp [holdAccess, State.upSys, sys_wake 0 h, hw]
  · intro s src h
    simp only [exec, execWakeSource, wake_of_phase0 src.val h, ite_self]
  · intro s p x h
    rcases h with h | h
    · simp [exec, execHeldPortRequest, State.awake, h]
    · simp [exec, execHeldPortRequest, hostAccess, h]

/-- What a word holds after a field is written depends on the word alone. -/
theorem rd_put_congr {t : State} (f : FieldRef) {v w A : Nat} (h : s.rd A = t.rd A) (hv : v = w) : (s.put f v).rd A = (t.put f w).rd A := by
  rw [rd_put, rd_put, h, hv]

theorem rd_putB_congr {t : State} (f : FieldRef) (b : Bool) {A : Nat} (h : s.rd A = t.rd A) : (s.putB f b).rd A = (t.putB f b).rd A :=
  rd_put_congr f h rfl

theorem on_put_ne (f g : FieldRef) (v : Nat) (hf : f.lo + f.width ≤ 32)
    (h : g.addr ≠ f.addr ∨ g.lo + g.width ≤ f.lo ∨ f.lo + f.width ≤ g.lo) : (s.put f v).on g = s.on g := by
  unfold State.on; rw [get_put_ne _ _ _ _ hf h]

/-! ## The clocks and the descent (02 R57, R61) -/

/-- The stop of PLL-B changes, below the axes, its lock bit alone. -/
theorem rd_pllBStop {A : Nat} (hA : A < 0x10000) : (pllBStop s).rd A = (s.putB CLK_STATUS__PLLB_LOCK false).rd A := by
  unfold pllBStop
  rw [fastFormStop_rd _ _ (by omega), pmPeriod_rd _ _ (by omega), alignStop_rd _ _ (by omega), piClockStop_rd _ _ hA, fastStop_rd _ _ (by omega),
    counterPllB_rd _ _ (by omega)]

/-- The start of PLL-B changes, below the legs' counters, its lock bit alone. -/
theorem rd_pllBStart {A : Nat} (hA : A < 0x20060) : (pllBStart s).rd A = (s.putB CLK_STATUS__PLLB_LOCK true).rd A := by
  unfold pllBStart
  rw [pmPeriod_rd _ _ (by omega), counterPllB_rd _ _ hA]

@[simp] theorem sys_coresStop : (coresStop s).sys = s.sys := by
  unfold coresStop
  exact each_sys s _ _ fun _ _ => rfl

@[simp] theorem sys_fetchAll : (fetchAll s).sys = s.sys := by
  unfold fetchAll
  refine each_sys s _ _ fun c u => ?_
  unfold fetchNext
  dsimp only
  split <;> rfl

/-- With no access held, only the contexts that wait read their descriptors when the clocks run again. -/
theorem clocksBack_eq (h : s.sys.held = []) : clocksBack s = fetchAll (s.upSys fun y => { y with held := [] }) := by
  unfold clocksBack heldRun
  rw [h]
  rfl

theorem rd_clocksBack (h : s.sys.held = []) (A : Nat) : (clocksBack s).rd A = s.rd A := by
  rw [clocksBack_eq h, fetchAll_rd]
  rfl

theorem rd_descentAbandon (A : Nat) : (descentAbandon s).rd A = (s.putB PWR_STATE__DESCENDING false).rd A := by
  unfold descentAbandon
  rw [upSys_rd, coresStop_rd]

/-- An abandoned descent is over; state and clocks stay. -/
theorem descentBack_spec (h : s.sys.held = []) :
    (descentBack s).on PWR_STATE__DESCENDING = false ∧ (descentBack s).get PWR_STATE__STATE = s.get PWR_STATE__STATE ∧
    (descentBack s).sys.waking = false ∧ ∀ A, A ≠ PWR_STATE → (descentBack s).rd A = s.rd A := by
  have hheld : (descentAbandon s).sys.held = [] := by
    unfold descentAbandon
    exact (congrArg (·.held) (sys_coresStop (s := s.putB PWR_STATE__DESCENDING false))).trans h
  have hrd : ∀ A, (descentBack s).rd A = (s.putB PWR_STATE__DESCENDING false).rd A := fun A =>
    (rd_clocksBack hheld A).trans (rd_descentAbandon A)
  refine ⟨?_, ?_, ?_, fun A hA => (hrd A).trans (rd_putB_ne _ _ hA)⟩
  · rw [on_congr _ (hrd _)]
    exact on_putB _ _ _ (by decide) (by decide)
  · rw [get_congr _ (hrd _)]
    exact get_put_ne _ _ _ _ (by decide) (.inr (.inl (by decide)))
  · unfold descentBack
    rw [clocksBack_eq hheld, sys_fetchAll]
    rfl

/-- A source that arrives shows in PWR_WAKE_CAUSE. -/
theorem get_wake_src {src : Nat} (h : s.get PWR_BOOT_STATUS__PHASE ≠ 0) (h8 : src < 8) :
    nbit ((wake src s).get PWR_WAKE_CAUSE__SRC) src = true := by
  unfold State.get nbit
  rw [show PWR_WAKE_CAUSE__SRC.addr = PWR_WAKE_CAUSE from rfl, cause_wake_src h h8, fieldGet_bit, BitVec.getLsbD_or, BitVec.getLsbD_ofNat,
    Nat.testBit_two_pow]
  simp [PWR_WAKE_CAUSE__SRC, h8, show src < 32 by omega]

/-- Registers below the axes at the end of a descent. -/
theorem rd_descentEnd {A : Nat} (hA : A < 0x10000) :
    (descentEnd s).rd A = ((((s.putB CLK_STATUS__PLLA_LOCK false).putB CLK_STATUS__PLLB_LOCK false).putB PWR_STATE__DESCENDING false).put
      PWR_STATE__STATE (s.get PWR_CTRL__TARGET)).rd A := by
  have hstop : ∀ {B}, B < 0x10000 → ((pllBStop ((coresStop s).putB CLK_STATUS__PLLA_LOCK false)).putB PWR_STATE__DESCENDING false).rd B =
      (((s.putB CLK_STATUS__PLLA_LOCK false).putB CLK_STATUS__PLLB_LOCK false).putB PWR_STATE__DESCENDING false).rd B := fun hB =>
    rd_putB_congr _ _ ((rd_pllBStop hB).trans (rd_putB_congr _ _ (rd_putB_congr _ _ (coresStop_rd _ _))))
  unfold descentEnd
  rw [pmPower_rd _ _ (by omega), upSys_rd]
  have htarget : PWR_CTRL__TARGET.addr < 0x10000 := by decide
  refine rd_put_congr _ (hstop hA) ?_
  rw [get_congr _ (rd_pllBStop htarget), get_congr _ (rd_putB_ne _ _ (by decide)), get_congr _ (rd_putB_ne _ _ (by decide)),
    get_congr _ (coresStop_rd _ _)]

/-- Settles O13. -/
theorem descentEnds : Obligations.DescentEnds := by
  unfold Obligations.DescentEnds
  refine ⟨?_, ?_, ?_, ?_, ?_⟩
  · intro s hd hw
    have he : exec .descentComplete s = .next (descentEnd s) := by simp [exec, execDescentComplete, hd, hw]
    refine ⟨_, he, ?_, ?_, ?_, ?_, exec_sameMem he, exec_sameVault he⟩
    · rw [on_congr _ (rd_descentEnd (by decide)), on_put_ne _ _ _ (by decide) (.inr (.inr (by decide)))]
      exact on_putB _ _ _ (by decide) (by decide)
    · rw [get_congr _ (rd_descentEnd (by decide)), get_put _ _ _ (by decide)]
      exact Nat.mod_eq_of_lt (get_lt _ _)
    · rw [on_congr _ (rd_descentEnd (by decide)), on_put_ne _ _ _ (by decide) (.inl (by decide)), on_putB_ne _ _ _ _ (by decide) (.inl (by decide)),
        on_putB_ne _ _ _ _ (by decide) (.inr (.inl (by decide)))]
      exact on_putB _ _ _ (by decide) (by decide)
    · rw [on_congr _ (rd_descentEnd (by decide)), on_put_ne _ _ _ (by decide) (.inl (by decide)), on_putB_ne _ _ _ _ (by decide) (.inl (by decide))]
      exact on_putB _ _ _ (by decide) (by decide)
  · intro s hd hw hh
    have he : exec .descentComplete s = .next (descentBack s) := by simp [exec, execDescentComplete, hd, hw]
    obtain ⟨hdesc, hstate, hwaking, hrd⟩ := descentBack_spec hh
    exact ⟨_, he, hdesc, hstate, hwaking, hrd _ (by decide), exec_sameMem he, exec_sameVault he⟩
  · intro s src hd h8 hh hen hph
    have hsys := sys_wake src.val hph
    have hwake : (wake src.val s).sys.waking = true := by
      rw [hsys]; simp [wakeBegins_src h8, hd, hen]
    have he : exec (.descentAbandoned src) s = .next (descentBack (wake src.val s)) := by
      simp [exec, execDescentAbandoned, hd, hwake]; omega
    obtain ⟨hdesc, hstate, hwaking, hrd⟩ := descentBack_spec (s := wake src.val s) (by rw [hsys]; exact hh)
    refine ⟨_, he, hdesc, ?_, hwaking, ?_, exec_sameMem he, exec_sameVault he⟩
    · rw [hstate, get_congr _ (rd_wake_ne _ (by decide))]
    · rw [get_congr _ (hrd _ (by decide))]
      exact get_wake_src hph h8
  · intro s hd
    simp [exec, execDescentComplete, hd]
  · intro s src hd
    simp [exec, execDescentAbandoned, hd]

/-! ## Power-on reset (02 R65, R66) -/

theorem rd_wearAdd {w : Nat} {d : Option Bool} {A : Nat} (hA : A < evBase) (h : A ≠ VLT_EVENT__EVT.addr) : (wearAdd w d s).rd A = s.rd A := by
  have hev : ∀ (u : State) (b x : Nat), (vltEvent b x u).rd A = u.rd A := fun u b x => by
    unfold vltEvent State.putBit
    rw [raise_rd _ _ _ _ _ hA, rd_put_ne _ _ h]
  unfold wearAdd
  dsimp only
  rw [when_rd _ _ _ _ fun u => hev u _ _]
  rfl

theorem rd_vaultCut {A : Nat} (hA : A < evBase) (h : A ≠ VLT_EVENT__EVT.addr) : (vaultCut s).rd A = s.rd A := by
  have hone : ∀ (u : State) w x, (wearAdd w none (u.vaultSet w x)).rd A = u.rd A := fun u w x => by
    rw [rd_wearAdd hA h, vaultSet_rd]
  unfold vaultCut
  split
  · rfl
  · dsimp only
    split
    · rfl
    · rw [when_rd _ _ _ _ fun u => hone u _ _, hone]
      rfl

theorem vaultCut_vault (h : s.vq = []) : (vaultCut s).vault = s.vault := by
  unfold vaultCut
  rw [h]

/-- The reset cause that a power-on reset shows. -/
def porCause (pin : Bool) : FieldRef := if pin then PWR_RESET_CAUSE__POR_PIN else PWR_RESET_CAUSE__SUPPLY

theorem rd_porDo (pin : Bool) (A : Nat) :
    (porDo pin s).rd A = ((State.reset.wr VLT_KEY_STAT (s.rd VLT_KEY_STAT)).putB (porCause pin) true).rd A := by
  unfold porDo
  refine rd_putB_congr _ _ ?_
  rw [rd_wr, rd_wr, rd_vaultCut (by decide) (by decide)]
  rfl

theorem porDo_spec (pin : Bool) :
    (∀ a, a ≠ PWR_RESET_CAUSE → a ≠ VLT_KEY_STAT → (porDo pin s).rd a = resetWord a) ∧ (porDo pin s).rd VLT_KEY_STAT = s.rd VLT_KEY_STAT ∧
    (porDo pin s).on PWR_RESET_CAUSE__POR_PIN = pin ∧ (porDo pin s).on PWR_RESET_CAUSE__SUPPLY = (!pin) ∧ (porDo pin s).sram = [] ∧
    (s.vq = [] → SameVault s (porDo pin s)) := by
  have haddr : (porCause pin).addr = PWR_RESET_CAUSE := by cases pin <;> rfl
  refine ⟨fun a h1 h2 => ?_, ?_, ?_, ?_, rfl, fun hq => sameVault_of_vault (vaultCut_vault hq)⟩
  · rw [rd_porDo, rd_putB_ne _ _ (haddr ▸ h1), rd_wr_ne _ _ h2]
    rfl
  · rw [rd_porDo, rd_putB_ne _ _ (by rw [haddr]; decide), rd_wr_same]
  · rw [on_congr _ (rd_porDo pin _)]
    cases pin
    · refine (on_putB_ne _ _ _ _ (by decide) (.inr (.inr (by decide)))).trans ?_
      rw [on_congr _ (rd_wr_ne _ _ (by decide))]
      rfl
    · exact on_putB _ _ _ (by decide) (by decide)
  · rw [on_congr _ (rd_porDo pin _)]
    cases pin
    · exact on_putB _ _ _ (by decide) (by decide)
    · refine (on_putB_ne _ _ _ _ (by decide) (.inr (.inl (by decide)))).trans ?_
      rw [on_congr _ (rd_wr_ne _ _ (by decide))]
      rfl

/-- Settles O17. -/
theorem powerOnResetClearsTheDevice : Obligations.PowerOnResetClearsTheDevice := by
  unfold Obligations.PowerOnResetClearsTheDevice
  refine ⟨fun s pin => ⟨_, rfl, porDo_spec pin⟩, fun s => ?_⟩
  obtain ⟨hreg, _, hpin, hsup, hsram, hvault⟩ := porDo_spec (s := s) false
  exact ⟨_, rfl, hreg, hsup, hpin, hsram, hvault⟩

/-! ## Held accesses (02 R57) and denials (03 R92) -/

/-- A denial changes, below the event rings, the denial registers of its port and HP_EVENT. -/
theorem rd_deny_ne {p addr reason A : Nat} {bar2 : Bool} (hA : A < evBase) (hi : A ≠ HP_DENY_INFO p) (ha : A ≠ HP_DENY_ADDR p)
    (he : A ≠ HP_EVENT__DENIED.addr) : (deny p addr bar2 reason s).rd A = s.rd A := by
  have htal : (talCount 0x62 (8 + p) 1 0 s).rd A = s.rd A := talCount_rd _ _ _ _ s A (by unfold evBase at hA; omega)
  unfold deny
  dsimp only
  split
  · exact (rd_put_ne _ _ hi).trans htal
  · refine (raiseFree_rd _ _ _ _ hA).trans ((rd_put_ne _ _ he).trans ?_)
    rw [rd_putB_ne _ _ hi, rd_putB_ne _ _ hi, rd_put_ne (f := HP_DENY_INFO__REASON p) _ _ hi, rd_put_ne (f := HP_DENY_INFO__COUNT p) _ _ hi, rd_wr_ne _ _ ha, htal]

theorem sys_deny {p addr reason : Nat} {bar2 : Bool} : (deny p addr bar2 reason s).sys = s.sys := by simp

/-- Where a denial stands, a further one is counted and changes nothing else. -/
theorem deny_counted {p addr reason : Nat} {bar2 : Bool} (hp : p < 4) (h : s.on (HP_DENY_INFO__VALID p) = true) :
    (deny p addr bar2 reason s).get (HP_DENY_INFO__COUNT p) = min (s.get (HP_DENY_INFO__COUNT p) + 1) 65535 ∧
    ∀ A, A < evBase → A ≠ HP_DENY_INFO p → (deny p addr bar2 reason s).rd A = s.rd A := by
  have htal : ∀ {A}, A < 0x80004 → (talCount 0x62 (8 + p) 1 0 s).rd A = s.rd A := fun hA => talCount_rd _ _ _ _ s _ hA
  have hinfo : HP_DENY_INFO p < 0x80004 := by unfold HP_DENY_INFO; omega
  have hon : (talCount 0x62 (8 + p) 1 0 s).on (HP_DENY_INFO__VALID p) = true := (on_congr _ (htal hinfo)).trans h
  unfold deny
  simp only [hon, if_true]
  refine ⟨?_, fun A hA hi => (rd_put_ne _ _ hi).trans (htal (by unfold evBase at hA; omega))⟩
  unfold State.bump
  rw [get_put _ _ _ (by simp [HP_DENY_INFO__COUNT]), get_congr _ (htal hinfo)]
  exact Nat.mod_eq_of_lt (by simp only [HP_DENY_INFO__COUNT]; omega)

/-- The one access that is held waits for a withdrawn clock and is given up. -/
theorem heldAccessTimeout_one {k : Nat} {x : Access} (hw : 2 ≤ s.get PWR_STATE__STATE) (hh : s.sys.held = [(k, x)])
    (hx : s.accessWaits x.bar2 x.addr.toNat = true) :
    exec .heldAccessTimeout s = .next (heldGiveUp (k, x) (s.upSys fun y => { y with held := [] })) := by
  simp [exec, execHeldAccessTimeout, State.awake, hw, hh, hx]

theorem heldGiveUp_host {p : Fin 4} {x : Access} {v : Word} (hv : x.value = some v) :
    heldGiveUp (p.val, x) s = deny p.val x.addr.toNat x.bar2 4 s := by
  have hw : slotWriter p.val = .host p := by simp [slotWriter]
  simp [heldGiveUp, hv, denyW, hw]

theorem heldGiveUp_firmware {n : Fin 5} {x : Access} {v : Word} (hv : x.value = some v) : heldGiveUp (8 + n.val, x) s = s := by
  have hw : slotWriter (8 + n.val) = .firmware n := by simp [slotWriter]; omega
  simp [heldGiveUp, hv, denyW, hw]

/-- Settles O16. -/
theorem heldAccessesAreGivenUp : Obligations.HeldAccessesAreGivenUp := by
  unfold Obligations.HeldAccessesAreGivenUp
  refine ⟨?_, ?_, ?_, ?_, ?_, ?_⟩
  · intro s k x hw hh hv hx
    have he := heldAccessTimeout_one hw hh hx
    rw [heldGiveUp, hv] at he
    exact ⟨_, he, rfl, rfl, fun _ _ => rfl, exec_sameMem he, exec_sameVault he⟩
  · intro s p x v hw hh hv hx hd
    have he := heldAccessTimeout_one hw hh hx
    rw [heldGiveUp_host hv] at he
    obtain ⟨hvalid, hreason, haddr⟩ := deny_first (s := s.upSys fun y => { y with held := [] }) p.val x.addr.toNat x.bar2 4 p.2 hd
    refine ⟨_, he, by rw [sys_deny]; rfl, hvalid, hreason, haddr.trans ?_, fun A hA hn => ?_, exec_sameMem he, exec_sameVault he⟩
    · exact BitVec.eq_of_toNat_eq (by simp)
    · simp only [List.mem_cons, List.not_mem_nil, or_false, not_or] at hn
      obtain ⟨hi, ha, hev⟩ := hn
      exact (rd_deny_ne hA hi ha hev).trans (upSys_rd _ _ _)
  · intro s p x v hw hh hv hx hd
    have he := heldAccessTimeout_one hw hh hx
    rw [heldGiveUp_host hv] at he
    obtain ⟨hcount, hrd⟩ := deny_counted (s := s.upSys fun y => { y with held := [] }) (addr := x.addr.toNat) (reason := 4) (bar2 := x.bar2) p.2 hd
    exact ⟨_, he, by rw [sys_deny]; rfl, hcount, hrd _ (by unfold HP_DENY_ADDR evBase; omega) (by unfold HP_DENY_ADDR HP_DENY_INFO; omega),
      fun A hA hn => hrd A hA (by simpa using hn), exec_sameMem he, exec_sameVault he⟩
  · intro s n x v hw hh hv hx
    have he := heldAccessTimeout_one hw hh hx
    rw [heldGiveUp_firmware hv] at he
    exact ⟨_, he, rfl, rfl, fun _ _ => rfl, exec_sameMem he, exec_sameVault he⟩
  · intro s hw hn
    have hnone : ∀ h ∈ s.sys.held, s.accessWaits h.2.bar2 h.2.addr.toNat = false := by simpa using hn
    have hout : (s.sys.held.filter fun h => s.accessWaits h.2.bar2 h.2.addr.toNat) = [] :=
      List.filter_eq_nil_iff.mpr fun h hh => by simp [hnone h hh]
    have hkeep : (s.sys.held.filter fun h => !s.accessWaits h.2.bar2 h.2.addr.toNat) = s.sys.held :=
      List.filter_eq_self.mpr fun h hh => by simp [hnone h hh]
    simp only [exec, execHeldAccessTimeout, State.awake, hw, hout, hkeep, decide_true, Bool.not_true, Bool.false_eq_true, if_false, List.foldl_nil]
    rfl
  · intro s hw
    simp [exec, execHeldAccessTimeout, State.awake, hw]

/-! ## The power request (02 R61) -/

section SameWords
variable {R : Sparse Word} (hR : ∀ A, (waked s R s.sys.waking).rd A = s.rd A)
include hR

/-- The checks of a descent read no register but through its word. -/
theorem descentRefuse_sameWords (target : Nat) (c : Option Nat) : (waked s R s.sys.waking).descentRefuse target c = s.descentRefuse target c := by
  have hw : ∀ A, A ≠ PWR_WAKE_CAUSE → (waked s R s.sys.waking).rd A = s.rd A := fun A _ => hR A
  have hget : ∀ f, (waked s R s.sys.waking).get f = s.get f := fun f => get_congr f (hR _)
  have hon : ∀ f, (waked s R s.sys.waking).on f = s.on f := fun f => on_congr f (hR _)
  have hseq : (waked s R s.sys.waking).seqBusy = s.seqBusy := by
    unfold State.seqBusy State.ctFault State.ctFb State.ctCmd
    simp only [hget, hon]
    rfl
  have hleg : (waked s R s.sys.waking).legSwitching = s.legSwitching := funext (legSwitching_waked s R _ hw)
  unfold State.descentRefuse
  simp only [hget, hon, hR, hseq, hleg, axState_waked s R _ hw, dmaState_waked s R _ hw]
  rfl

theorem powerCtx_sameWords (target : Nat) : (waked s R s.sys.waking).powerCtx target = s.powerCtx target := by
  unfold State.powerCtx State.running
  simp only [coreClk_waked s R _ fun A _ => hR A]
  rfl

end SameWords

/-- A write of GO stores what PWR_CTRL holds. -/
theorem stored_powerGo (w : Word) : (⟨0x2014, 1, 4, 1, 4, .mMode, false, 3, 0, 0, 2, 0, 0⟩ : RegRow).stored w (fieldSet w 8 1 1) = w := by
  refine BitVec.eq_of_getLsbD_eq fun i hi => ?_
  have hlow : (3#32).getLsbD i = true → (fieldSet w 8 1 1).getLsbD i = w.getLsbD i := fun h => by
    rw [fieldSet_bit _ _ _ _ _ (by decide), if_neg]
    rintro ⟨h8, h9⟩
    obtain rfl : i = 8 := by omega
    exact absurd h (by decide)
  simp only [RegRow.stored, BitVec.getLsbD_and, BitVec.getLsbD_or, BitVec.getLsbD_not, hi, decide_true, Bool.true_and,
    BitVec.getLsbD_zero, Bool.and_false, Bool.not_false, Bool.and_true]
  cases h3 : (3#32).getLsbD i
  · simp
  · simp [hlow h3]

/-- A write of PWR_CTRL that sets GO alone is a request for the target that stands there. -/
theorem powerGo_write {n : Fin 5} (h : s.may (.firmware n) PWR_CTRL (fieldSet (s.rd PWR_CTRL) 8 1 1) = true) :
    ∃ R, (∀ A, (waked s R s.sys.waking).rd A = s.rd A) ∧ exec (.powerGo n) s = .next (powerGo (waked s R s.sys.waking)) := by
  have hsame : ∀ A, (s.wr PWR_CTRL (s.rd PWR_CTRL)).rd A = s.rd A := fun A => by
    rw [rd_wr]; split
    · next hA => rw [hA]
    · rfl
  refine ⟨(s.wr PWR_CTRL (s.rd PWR_CTRL)).regs, hsame, congrArg Host.Outcome.next ?_⟩
  rw [writeCmd_may s h (by decide) (by decide) (by decide) row_PWR_CTRL (by decide) (by simp [RegRow.commits, RegRow.mayCommit, VLT_WORD,
    HP_STEWARD_ACCEPT, SAF_ARM, PM_CAL_CTRL, VLT_ATT_CTRL]), arrived_firmware]
  have heff : ∀ v, regEffect (.firmware n) ⟨0x2014, 1, 4, 1, 4, .mMode, false, 3, 0, 0, 2, 0, 0⟩ PWR_CTRL 0 0 v none s =
      ((s.wr PWR_CTRL ((⟨0x2014, 1, 4, 1, 4, .mMode, false, 3, 0, 0, 2, 0, 0⟩ : RegRow).stored (s.rd PWR_CTRL) v)).when (fieldGet v 8 1 == 1) powerGo, 0) :=
    fun _ => rfl
  rw [heff, refuseRecord_zero, stored_powerGo, fieldGet_fieldSet _ _ _ _ (by decide)]
  rfl

section Request
variable (ht : s.get PWR_CTRL__TARGET < 2) (hst : 2 ≤ s.get PWR_STATE__STATE) (hd : s.on PWR_STATE__DESCENDING = false)
include ht hst hd

/-- A request that no descriptor makes begins the descent, or shows the first condition that fails. -/
theorem powerGo_alone (hc : s.powerCtx (s.get PWR_CTRL__TARGET) = none) {code : Nat} (hcode : code = s.descentRefuse (s.get PWR_CTRL__TARGET) none) :
    powerGo s = if code = 0 then ((s.put PWR_STATE__LAST_REFUSE 0).putB PWR_STATE__DESCENDING true).upSys fun y => { y with descent := some none }
      else s.put PWR_STATE__LAST_REFUSE code := by
  have hgo : ¬ (2 ≤ s.get PWR_CTRL__TARGET ∨ s.get PWR_STATE__STATE < 2 ∨ s.on PWR_STATE__DESCENDING = true) := by
    simp only [hd, Bool.false_eq_true, or_false]; omega
  unfold powerGo
  dsimp only
  rw [if_neg hgo, hc, ← hcode]
  exact ite_not ..

/-- A request that a descriptor makes and that is refused ends it. -/
theorem powerGo_refused {c code : Nat} (hc : s.powerCtx (s.get PWR_CTRL__TARGET) = some c)
    (hcode : code = s.descentRefuse (s.get PWR_CTRL__TARGET) (some c)) (h0 : code ≠ 0) :
    powerGo s = descDone c 4 code (s.put PWR_STATE__LAST_REFUSE code) := by
  have hgo : ¬ (2 ≤ s.get PWR_CTRL__TARGET ∨ s.get PWR_STATE__STATE < 2 ∨ s.on PWR_STATE__DESCENDING = true) := by
    simp only [hd, Bool.false_eq_true, or_false]; omega
  unfold powerGo
  dsimp only
  rw [if_neg hgo, hc, ← hcode, if_pos h0]

end Request

theorem exec_of_powerCtx {target c : Nat} (h : s.powerCtx target = some c) : ∃ e, (s.ctx c).exec = some e ∧ e.done = none := by
  have hc := List.find?_some h
  unfold State.running at hc
  cases hx : (s.ctx c).exec with
  | none => simp [hx] at hc
  | some e =>
    refine ⟨e, rfl, ?_⟩
    cases hd : e.done with
    | none => rfl
    | some d => simp [hx, hd] at hc

theorem descentRefuse_le (target : Nat) (c : Option Nat) : s.descentRefuse target c < 16 := by
  unfold State.descentRefuse
  dsimp only
  split_ifs <;> decide

/-- A live axis fails the first check of a descent. -/
theorem descentRefuse_of_live {a target : Nat} {c : Option Nat} (ha : a < 8) (h : s.axLive a = true) : s.descentRefuse target c = 1 := by
  have hquiet : ((List.range 8).all fun a => s.axState a == 0 || decide (5 ≤ s.axState a) || (s.axState a == 1 && !(target == 0))) = false := by
    refine List.all_eq_false.mpr ⟨a, List.mem_range.mpr ha, ?_⟩
    simp only [State.axLive, decide_eq_true_eq] at h
    simp
    omega
  unfold State.descentRefuse
  simp only [hquiet, Bool.not_false, Bool.true_or, if_true]

/-- Settles O12. -/
theorem powerGoIsCheckedAndAccepted : Obligations.PowerGoIsCheckedAndAccepted := by
  unfold Obligations.PowerGoIsCheckedAndAccepted
  refine ⟨?_, ?_, ?_, ?_⟩
  · intro s n code h ht hst hd hc hcode
    obtain ⟨R, hR, he⟩ := powerGo_write h
    have hget : ∀ f, (waked s R s.sys.waking).get f = s.get f := fun f => get_congr f (hR _)
    have hlt : code < 16 := hcode ▸ descentRefuse_le _ _
    have hgo := powerGo_alone (s := waked s R s.sys.waking) (by rwa [hget]) (by rwa [hget]) ((on_congr _ (hR _)).trans hd)
      (by rw [hget, powerCtx_sameWords hR, hc]) (by rw [hget, descentRefuse_sameWords hR, ← hcode])
    have hother : ∀ A, A ∉ [PWR_STATE] → A ≠ PWR_STATE__LAST_REFUSE.addr := fun A hA => List.ne_of_not_mem_cons hA
    by_cases h0 : code = 0
    · rw [hgo, if_pos h0] at he
      refine ⟨_, he, ?_, ?_, ?_, fun A hA => ?_, exec_sameMem he, exec_sameVault he⟩
      · rw [get_congr _ (upSys_rd ..), State.putB, get_put_ne _ _ _ _ (by decide) (.inr (.inl (by decide))), get_put _ _ _ (by decide), h0]
        rfl
      · rw [on_congr _ (upSys_rd ..), on_putB _ _ _ (by decide) (by decide), h0]
        rfl
      · rw [get_congr _ (upSys_rd ..), State.putB, get_put_ne _ _ _ _ (by decide) (.inr (.inl (by decide))),
          get_put_ne _ _ _ _ (by decide) (.inr (.inl (by decide))), hget]
      · rw [upSys_rd, rd_putB_ne (f := PWR_STATE__DESCENDING) _ _ (hother A hA), rd_put_ne _ _ (hother A hA), hR]
    · rw [hgo, if_neg h0] at he
      refine ⟨_, he, ?_, ?_, ?_, fun A hA => ?_, exec_sameMem he, exec_sameVault he⟩
      · rw [get_put _ _ _ (by decide)]
        exact Nat.mod_eq_of_lt hlt
      · rw [on_put_ne _ _ _ (by decide) (.inr (.inr (by decide))), on_congr _ (hR _), hd]
        exact (decide_eq_false h0).symm
      · rw [get_put_ne _ _ _ _ (by decide) (.inr (.inl (by decide))), hget]
      · rw [rd_put_ne _ _ (hother A hA), hR]
  · intro s n c code h ht hst hd hc hcode h0
    obtain ⟨R, hR, he⟩ := powerGo_write h
    have hget : ∀ f, (waked s R s.sys.waking).get f = s.get f := fun f => get_congr f (hR _)
    have hlt : code < 16 := hcode ▸ descentRefuse_le _ _
    have hgo := powerGo_refused (s := waked s R s.sys.waking) (by rwa [hget]) (by rwa [hget]) ((on_congr _ (hR _)).trans hd)
      (by rw [hget, powerCtx_sameWords hR, hc]) (by rw [hget, descentRefuse_sameWords hR, ← hcode]) h0
    rw [hgo] at he
    refine ⟨_, he, ?_, ?_, ?_, ?_, fun A hA => ?_, exec_sameMem he, exec_sameVault he⟩
    · rw [get_descDone, get_put _ _ _ (by decide)]
      exact Nat.mod_eq_of_lt hlt
    · rw [on_congr _ (descDone_rd ..), on_put_ne _ _ _ (by decide) (.inr (.inr (by decide)))]
      exact (on_congr _ (hR _)).trans hd
    · rw [get_descDone, get_put_ne _ _ _ _ (by decide) (.inr (.inl (by decide))), hget]
    · obtain ⟨e, hexec, hdone⟩ := exec_of_powerCtx hc
      rw [exec_descDone (s := (waked s R s.sys.waking).put PWR_STATE__LAST_REFUSE code) (e := e) _ _ hexec hdone]
      rfl
    · have hne : A ≠ PWR_STATE__LAST_REFUSE.addr := List.ne_of_not_mem_cons hA
      rw [descDone_rd, rd_put_ne _ _ hne, hR]
  · intro s a target c h
    exact descentRefuse_of_live a.2 h
  · intro s n h ht
    obtain ⟨R, hR, he⟩ := powerGo_write h
    have hgo : powerGo (waked s R s.sys.waking) = waked s R s.sys.waking := if_pos (.inl (by rw [get_congr _ (hR _)]; exact ht))
    rw [hgo] at he
    exact ⟨_, he, fun A _ => hR A, exec_sameMem he, exec_sameVault he⟩

end Sys2Proof.Laws
end


section
/-! The sample buffer's records and the steward's transfer (O26, O29) -/
namespace Sys2Proof.Laws
open Sys2Proof.Machine
-- One declaration after another: the whole text is checked as one file, within a bound on memory.
set_option Elab.async false

variable {s : State}

/-! ## What the delivery of an event leaves (04 R129, R130, 16 R467) -/

/-- The registers from the sample buffer upwards and what the buffer keeps stay. -/
def KeepsAbove (s t : State) : Prop := (∀ A, 0x80200 ≤ A → t.rd A = s.rd A) ∧ t.tal.seq = s.tal.seq ∧ t.tal.fullRaised = s.tal.fullRaised

namespace KeepsAbove
variable {t u : State}

theorem of_regs (hr : t.regs = s.regs) (hs : t.tal.seq = s.tal.seq) (hf : t.tal.fullRaised = s.tal.fullRaised) : KeepsAbove s t :=
  ⟨fun A _ => rd_congr hr A, hs, hf⟩

theorem refl (s : State) : KeepsAbove s s := of_regs rfl rfl rfl

theorem trans (h1 : KeepsAbove s t) (h2 : KeepsAbove t u) : KeepsAbove s u :=
  ⟨fun A hA => (h2.1 A hA).trans (h1.1 A hA), h2.2.1.trans h1.2.1, h2.2.2.trans h1.2.2⟩

theorem put (f : FieldRef) (v : Nat) (h : f.addr < 0x80200) : KeepsAbove s (s.put f v) :=
  ⟨fun _ hA => rd_put_ne _ _ (by omega), rfl, rfl⟩

theorem each {l : List Nat} {f : Nat → State → State} (h : ∀ i ∈ l, ∀ u, KeepsAbove u (f i u)) (s : State) : KeepsAbove s (s.each l f) := by
  induction l generalizing s with
  | nil => exact refl s
  | cons i l ih => exact (h i List.mem_cons_self s).trans (ih (fun j hj => h j (List.mem_cons_of_mem _ hj)) _)

theorem when (c : Bool) {f : State → State} (h : KeepsAbove s (f s)) : KeepsAbove s (s.when c f) := by
  cases c
  · exact refl s
  · exact h

end KeepsAbove

theorem putCnt_keepsAbove {i : Nat} (hi : i < 8) (v : Nat) : KeepsAbove s (s.putCnt i v) :=
  (KeepsAbove.put _ _ (by simp only [TAL_CNT_LO__COUNT_LO]; omega)).trans (KeepsAbove.put _ _ (by simp only [TAL_CNT_HI__COUNT_HI]; omega))

theorem overflowed_keepsAbove (i : Nat) (l : List Nat) :
    KeepsAbove s { s.putBit TAL_STATUS__OVF i true with tal := { s.tal with due := l } } := by
  refine ⟨fun A hA => ?_, rfl, rfl⟩
  exact rd_put_ne (f := TAL_STATUS__OVF) _ _ (by simp only [TAL_STATUS__OVF]; omega)

theorem talBump_keepsAbove {i : Nat} (hi : i < 8) (n : Nat) : KeepsAbove s (talBump i n s) := by
  have hwrap : ∀ v, KeepsAbove s { (s.putCnt i v).putBit TAL_STATUS__OVF i true with
      tal := { (s.putCnt i v).tal with due := (s.putCnt i v).tal.due ++ [i] } } := fun v =>
    (putCnt_keepsAbove hi v).trans (overflowed_keepsAbove i _)
  unfold talBump
  dsimp only
  split
  · exact putCnt_keepsAbove hi _
  · exact hwrap _

theorem talCount_keepsAbove (ev master n a : Nat) : KeepsAbove s (talCount ev master n a s) := by
  unfold talCount
  split
  · exact .refl s
  · exact (KeepsAbove.each (fun i hi u => KeepsAbove.when _ (talBump_keepsAbove (List.mem_range.mp hi) n)) s).trans
      (KeepsAbove.when _ (KeepsAbove.put TAL_STATUS__FROZEN _ (by decide)))

theorem sendMsix_keepsAbove (p v : Nat) : KeepsAbove s (sendMsix p v s) := by
  unfold sendMsix
  dsimp only
  split
  · exact .of_regs rfl rfl rfl
  · refine KeepsAbove.trans ?_ (talCount_keepsAbove ..)
    exact .of_regs rfl rfl rfl

theorem coalesce_keepsAbove (p v : Nat) : KeepsAbove s (coalesce p v s) := by
  unfold coalesce
  refine KeepsAbove.trans ?_ (KeepsAbove.when _ (sendMsix_keepsAbove p v))
  exact .of_regs rfl rfl rfl

theorem writeRecord_keepsAbove {p : Nat} (hp : p < 4) (src unit count : Nat) (detail : Word) (time : Nat) :
    KeepsAbove s (writeRecord p src unit count detail time s) := by
  have hport : ∀ (u : State) (f : PortS → PortS), KeepsAbove u (u.upPort p f) := fun u f => .of_regs rfl rfl rfl
  unfold writeRecord
  refine KeepsAbove.trans ?_ (coalesce_keepsAbove ..)
  refine KeepsAbove.trans ?_ (.put (EV_RING_TAIL__FULL p) _ (by simp only [EV_RING_TAIL__FULL]; omega))
  refine KeepsAbove.trans ?_ (.when _ (hport _ _))
  refine KeepsAbove.trans ?_ (.put (EV_RING_TAIL__TAIL p) _ (by simp only [EV_RING_TAIL__TAIL]; omega))
  exact .of_regs rfl rfl rfl

theorem mergeRecord_keepsAbove {p src : Nat} (hp : p < 4) (hs : src < 256) (unit : Nat) (detail : Word) :
    KeepsAbove s (mergeRecord p src unit detail s) := by
  unfold mergeRecord
  refine KeepsAbove.trans ?_ (.put (EV_ROUTE__COUNT src p) _ (by simp only [EV_ROUTE__COUNT]; omega))
  refine KeepsAbove.trans ?_ (.put (EV_ROUTE__PEND src p) _ (by simp only [EV_ROUTE__PEND]; omega))
  exact .of_regs rfl rfl rfl

theorem deliver_keepsAbove {p src : Nat} (hp : p < 4) (hs : src < 256) (unit : Nat) (detail : Word) :
    KeepsAbove s (deliver p src unit detail s) := by
  unfold deliver
  split
  · exact writeRecord_keepsAbove hp ..
  · exact mergeRecord_keepsAbove hp hs ..

theorem raise_keepsAbove {src : Nat} (hs : src < 256) (unit detail : Nat) : KeepsAbove s (raise src unit detail s) := by
  unfold raise
  exact .each (fun p hp u => .when _ (deliver_keepsAbove (List.mem_range.mp hp) hs _ _)) s

theorem talEvent_keepsAbove {b : Nat} (hb : b < 16) (unit detail : Nat) : KeepsAbove s (talEvent b unit detail s) :=
  (KeepsAbove.put TAL_EVENT__EVT _ (by decide)).trans (raise_keepsAbove (by omega) ..)

/-! ## The sample buffer (16 R479 to R484) -/

theorem rd_sampWords_ne {e q A : Nat} (l : List Word) (s : State) (h : ∀ j, A ≠ TAL_SAMP_W e (q + j)) : (sampWords e q l s).rd A = s.rd A := by
  induction l generalizing q s with
  | nil => rfl
  | cons w l ih =>
    have h0 : A ≠ TAL_SAMP_W e q := h 0
    unfold sampWords
    rw [ih _ fun j => by rw [show q + 1 + j = q + (j + 1) by omega]; exact h (j + 1), rd_wr_ne _ _ h0]

theorem rd_sampWords {e q k : Nat} (l : List Word) (s : State) (hk : k < l.length) :
    (sampWords e q l s).rd (TAL_SAMP_W e (q + k)) = dword l k := by
  induction l generalizing q k s with
  | nil => exact absurd hk (by simp)
  | cons w l ih =>
    unfold sampWords
    cases k with
    | zero =>
      rw [rd_sampWords_ne _ _ fun j => by simp only [TAL_SAMP_W]; omega]
      exact rd_wr_same ..
    | succ k =>
      rw [show q + (k + 1) = q + 1 + k by omega, ih _ (by simpa using hk)]
      rfl

/-- A record stands in the buffer; the event of the level is still to come. -/
def sampStored (w0 : Nat) (ws : List Word) (s : State) : State :=
  sampShow (((sampWords (s.get TAL_SAMP_WR__WR % 256) 0 (BitVec.ofNat 32 (w0 + s.tal.seq * 2 ^ 16) :: ws) s).put TAL_SAMP_WR__WR
    (s.get TAL_SAMP_WR__WR + 1)).upTal fun t => { t with seq := (t.seq + 1) % 2 ^ 16 })

/-- The state in which a full buffer has lost its oldest entry. -/
def sampDropped (s : State) : State := (s.put TAL_SAMP_RD__RD (s.get TAL_SAMP_RD__RD + 1)).bump TAL_SAMP_STAT__OVERWRITTEN

theorem sampPut_room {w0 : Nat} {ws : List Word} (h : s.sampEntries < 256) :
    ∃ c k, sampPut w0 ws s = (sampStored w0 ws s).when c (talEvent 1 0 k) := by
  unfold sampPut
  dsimp only
  rw [if_neg (by omega), show (s.sampEntries == 256) = false by simp; omega]
  exact ⟨_, _, rfl⟩

theorem sampPut_overwrites {w0 : Nat} {ws : List Word} (h : s.sampEntries = 256) (hm : s.on TAL_SAMP_CFG__FULL_MODE = true) :
    ∃ c k, sampPut w0 ws s = (sampStored w0 ws (sampDropped s)).when c (talEvent 1 0 k) := by
  unfold sampPut
  dsimp only
  rw [if_neg (by simp [hm]), show (s.sampEntries == 256) = true by simp [h]]
  exact ⟨_, _, rfl⟩

theorem sampPut_loses {w0 : Nat} {ws : List Word} (h : s.sampEntries = 256) (hm : s.on TAL_SAMP_CFG__FULL_MODE = false) :
    ∃ c k f, sampPut w0 ws s = ((s.bump TAL_SAMP_STAT__LOST).upTal f).when c (talEvent 2 0 k) := by
  unfold sampPut
  dsimp only
  rw [if_pos (by simp [h, hm])]
  split
  · exact ⟨false, 0, id, rfl⟩
  · exact ⟨true, (s.bump TAL_SAMP_STAT__LOST).get TAL_SAMP_STAT__SKIPPED, fun t => { t with fullRaised := true }, rfl⟩

/-- The buffer's event leaves what the buffer shows. -/
theorem when_talEvent_keepsAbove (c : Bool) {b : Nat} (hb : b < 16) (k : Nat) : KeepsAbove s (s.when c (talEvent b 0 k)) :=
  .when c (talEvent_keepsAbove hb 0 k)

theorem rd_when_talEvent_below (c : Bool) (b k : Nat) {A : Nat} (hA : A < evBase) : (s.when c (talEvent b 0 k)).rd A = s.rd A :=
  when_rd _ _ _ _ fun _ => talEvent_rd _ _ _ _ _ hA

theorem rd_sampShow_ne {A : Nat} (h : A ≠ TAL_SAMP_WR__WR.addr) : (sampShow s).rd A = s.rd A := by
  unfold sampShow
  rw [upTal_rd, rd_putB_ne (f := TAL_SAMP_WR__FULL) _ _ h]

section Stored
variable (w0 : Nat) (ws : List Word)

theorem rd_sampStored_ne {A : Nat} (h : A ≠ TAL_SAMP_WR__WR.addr) (hw : ∀ e j, A ≠ TAL_SAMP_W e j) : (sampStored w0 ws s).rd A = s.rd A := by
  unfold sampStored
  rw [rd_sampShow_ne h, upTal_rd, rd_put_ne _ _ h, rd_sampWords_ne _ _ fun j => hw _ _]

theorem wr_sampStored : (sampStored w0 ws s).get TAL_SAMP_WR__WR = (s.get TAL_SAMP_WR__WR + 1) % 512 := by
  unfold sampStored sampShow
  rw [get_congr _ (upTal_rd _ _ _), State.putB,
    get_put_ne _ _ _ _ (by decide) (.inr (.inl (by decide))), get_congr _ (upTal_rd _ _ _),
    get_put _ _ _ (by decide)]
  rfl

theorem seq_sampStored : (sampStored w0 ws s).tal.seq = (s.tal.seq + 1) % 2 ^ 16 := by
  have hw : ∀ (e q : Nat) (l : List Word) (u : State), (sampWords e q l u).tal = u.tal := fun e q l => by
    induction l generalizing q with
    | nil => exact fun _ => rfl
    | cons w l ih => exact fun u => ih (q + 1) _
  unfold sampStored sampShow
  exact congrArg (fun t : TalS => (t.seq + 1) % 2 ^ 16) (hw _ _ _ s)

theorem word_sampStored {q : Nat} (hq : q < ws.length) :
    (sampStored w0 ws s).rd (TAL_SAMP_W (s.get TAL_SAMP_WR__WR % 256) (q + 1)) = dword ws q := by
  have hne : TAL_SAMP_W (s.get TAL_SAMP_WR__WR % 256) (q + 1) ≠ TAL_SAMP_WR__WR.addr := by
    simp only [TAL_SAMP_W, TAL_SAMP_WR__WR]; omega
  unfold sampStored
  rw [rd_sampShow_ne hne, upTal_rd, rd_put_ne _ _ hne, ← Nat.zero_add (q + 1),
    rd_sampWords _ _ (by simpa using hq)]
  rfl

end Stored

theorem sampEnd_eq {src : Fin 6} {bits : BitVec 7} {skips : BitVec 16} {ws : Vector Word 6} (h : s.sampPasses src.val (bits.getLsbD 0) ws[0] = true) :
    exec (.sampleEnd src false bits skips ws) s =
      .next (sampPut (src.val + bits.toNat * 8) (ws.toList ++ [0]) (s.bump TAL_SAMP_STAT__SKIPPED skips.toNat)) := by
  simp only [exec, execSampleEnd, h, Bool.not_false, Bool.not_true, Bool.and_false, Bool.false_eq_true, if_false]

theorem bump_skipped (n : Nat) : (s.bump TAL_SAMP_STAT__SKIPPED n).get TAL_SAMP_STAT__SKIPPED = min (s.get TAL_SAMP_STAT__SKIPPED + n) 65535 := by
  rw [State.bump, get_put _ _ _ (by decide)]
  exact Nat.mod_eq_of_lt (by simp only [TAL_SAMP_STAT__SKIPPED]; omega)

theorem rd_bump_ne {f : FieldRef} {A : Nat} (n : Nat) (h : A ≠ f.addr) : (s.bump f n).rd A = s.rd A := rd_put_ne _ _ h

theorem sampEntries_congr {t : State} (hw : t.rd TAL_SAMP_WR__WR.addr = s.rd TAL_SAMP_WR__WR.addr) (hr : t.rd TAL_SAMP_RD = s.rd TAL_SAMP_RD) :
    t.sampEntries = s.sampEntries := by
  unfold State.sampEntries
  rw [get_congr _ hw, get_congr TAL_SAMP_RD__RD hr]

/-- A counter of TAL_SAMP_STAT that is bumped. -/
theorem bump_byte {f : FieldRef} (hw : f.width = 8) (hl : f.lo ≤ 24) : (s.bump f).get f = min (s.get f + 1) 255 := by
  rw [State.bump, get_put _ _ _ (by omega), hw]
  exact Nat.mod_eq_of_lt (by omega)

/-- What a record leaves that enters a buffer with room. -/
theorem sampPut_room_spec {w0 : Nat} {ws : List Word} (h : s.sampEntries < 256) :
    (sampPut w0 ws s).get TAL_SAMP_WR__WR = (s.get TAL_SAMP_WR__WR + 1) % 512 ∧ (sampPut w0 ws s).tal.seq = (s.tal.seq + 1) % 2 ^ 16 ∧
    (sampPut w0 ws s).get TAL_SAMP_STAT__SKIPPED = s.get TAL_SAMP_STAT__SKIPPED ∧
    (∀ q, q < ws.length → (sampPut w0 ws s).rd (TAL_SAMP_W (s.get TAL_SAMP_WR__WR % 256) (q + 1)) = dword ws q) ∧
    ∀ A, A < evBase → (sampPut w0 ws s).rd A = s.rd A := by
  obtain ⟨c, k, ht⟩ := sampPut_room (w0 := w0) (ws := ws) h
  have hk := when_talEvent_keepsAbove (s := sampStored w0 ws s) c (b := 1) (by decide) k
  obtain ⟨hrd, hseq, -⟩ := hk
  rw [ht]
  refine ⟨?_, hseq.trans (seq_sampStored w0 ws), ?_, fun q hq => ?_, fun A hA => ?_⟩
  · rw [get_congr _ (hrd _ (by decide)), wr_sampStored]
  · rw [get_congr _ (hrd _ (by decide)), get_congr _ (rd_sampStored_ne w0 ws (by decide) fun e j => by simp only [TAL_SAMP_STAT__SKIPPED, TAL_SAMP_W]; omega)]
  · rw [hrd _ (by simp only [TAL_SAMP_W]; omega), word_sampStored w0 ws hq]
  · rw [rd_when_talEvent_below _ _ _ hA, rd_sampStored_ne w0 ws (by unfold evBase at hA; simp only [TAL_SAMP_WR__WR]; omega)
      fun e j => by unfold evBase at hA; simp only [TAL_SAMP_W]; omega]

/-- What a record leaves in a buffer that keeps the oldest entries: it is lost. -/
theorem sampPut_loses_spec {w0 : Nat} {ws : List Word} (h : s.sampEntries = 256) (hm : s.on TAL_SAMP_CFG__FULL_MODE = false) :
    (sampPut w0 ws s).get TAL_SAMP_STAT__LOST = min (s.get TAL_SAMP_STAT__LOST + 1) 255 ∧
    (sampPut w0 ws s).get TAL_SAMP_WR__WR = s.get TAL_SAMP_WR__WR ∧ (sampPut w0 ws s).get TAL_SAMP_RD__RD = s.get TAL_SAMP_RD__RD ∧
    ∀ A, A < evBase → (sampPut w0 ws s).rd A = s.rd A := by
  obtain ⟨c, k, f, ht⟩ := sampPut_loses (w0 := w0) (ws := ws) h hm
  obtain ⟨hrd, -⟩ := when_talEvent_keepsAbove (s := (s.bump TAL_SAMP_STAT__LOST).upTal f) c (b := 2) (by decide) k
  rw [ht]
  refine ⟨?_, ?_, ?_, fun A hA => ?_⟩
  · rw [get_congr _ (hrd _ (by decide)), get_congr _ (upTal_rd _ _ _), bump_byte (by rfl) (by decide)]
  · rw [get_congr _ (hrd _ (by decide)), get_congr _ (upTal_rd _ _ _), get_congr _ (rd_bump_ne _ (by decide))]
  · rw [get_congr _ (hrd _ (by decide)), get_congr _ (upTal_rd _ _ _), get_congr _ (rd_bump_ne _ (by decide))]
  · rw [rd_when_talEvent_below _ _ _ hA, upTal_rd, rd_bump_ne _ (by unfold evBase at hA; simp only [TAL_SAMP_STAT__LOST]; omega)]

/-- What a record leaves in a buffer that overwrites: the oldest entry goes, and it enters. -/
theorem sampPut_overwrites_spec {w0 : Nat} {ws : List Word} (h : s.sampEntries = 256) (hm : s.on TAL_SAMP_CFG__FULL_MODE = true) :
    (sampPut w0 ws s).get TAL_SAMP_STAT__OVERWRITTEN = min (s.get TAL_SAMP_STAT__OVERWRITTEN + 1) 255 ∧
    (sampPut w0 ws s).get TAL_SAMP_WR__WR = (s.get TAL_SAMP_WR__WR + 1) % 512 ∧
    (sampPut w0 ws s).get TAL_SAMP_RD__RD = (s.get TAL_SAMP_RD__RD + 1) % 512 ∧ ∀ A, A < evBase → (sampPut w0 ws s).rd A = s.rd A := by
  obtain ⟨c, k, ht⟩ := sampPut_overwrites (w0 := w0) (ws := ws) h hm
  obtain ⟨hrd, -⟩ := when_talEvent_keepsAbove (s := sampStored w0 ws (sampDropped s)) c (b := 1) (by decide) k
  have hnw : ∀ {A}, A < 0x81000 → ∀ e j, A ≠ TAL_SAMP_W e j := fun hA e j => by simp only [TAL_SAMP_W]; omega
  rw [ht]
  refine ⟨?_, ?_, ?_, fun A hA => ?_⟩
  · rw [get_congr _ (hrd _ (by decide)), get_congr _ (rd_sampStored_ne w0 ws (by decide) (hnw (by decide))), sampDropped, bump_byte (by rfl) (by decide),
      get_congr _ (rd_put_ne _ _ (by decide))]
  · rw [get_congr _ (hrd _ (by decide)), wr_sampStored, sampDropped, get_congr _ (rd_bump_ne _ (by decide)), get_congr _ (rd_put_ne _ _ (by decide))]
  · rw [get_congr _ (hrd _ (by decide)), get_congr _ (rd_sampStored_ne w0 ws (by decide) (hnw (by decide))), sampDropped,
      get_congr _ (rd_bump_ne _ (by decide)), get_put _ _ _ (by decide)]
    rfl
  · unfold evBase at hA
    rw [rd_when_talEvent_below _ _ _ hA, rd_sampStored_ne w0 ws (by simp only [TAL_SAMP_WR__WR]; omega) (hnw (by omega)), sampDropped,
      rd_bump_ne _ (by simp only [TAL_SAMP_STAT__OVERWRITTEN]; omega), rd_put_ne _ _ (by simp only [TAL_SAMP_RD__RD]; omega)]

/-- Settles O26. -/
theorem sampleRecords : Obligations.SampleRecords := by
  unfold Obligations.SampleRecords
  refine ⟨?_, ?_, ?_, ?_, ?_, ?_, ?_⟩
  · intro s src bits skips ws hn hp
    have he := sampEnd_eq (skips := skips) hp
    have hsk : (s.bump TAL_SAMP_STAT__SKIPPED skips.toNat).sampEntries < 256 := by
      rw [sampEntries_congr (rd_bump_ne _ (by decide)) (rd_bump_ne _ (by decide))]; exact hn
    obtain ⟨hwr, hseq, hskip, hword, hreg⟩ := sampPut_room_spec (w0 := src.val + bits.toNat * 8) (ws := ws.toList ++ [0]) hsk
    refine ⟨_, he, ?_, hseq, ?_, fun q => ?_, fun A hA _ => ?_, exec_sameMem he, exec_sameVault he⟩
    · rw [hwr, get_congr _ (rd_bump_ne _ (by decide))]
    · rw [hskip, bump_skipped]
    · have hw := hword q.val (by simp; omega)
      rw [get_congr _ (rd_bump_ne _ (by decide))] at hw
      rw [hw]
      exact List.getD_append _ _ _ _ (by simp)
    · rw [hreg A hA, rd_bump_ne _ (by unfold evBase at hA; simp only [TAL_SAMP_STAT__SKIPPED]; omega)]
  · intro s src bits skips ws
    have he : exec (.sampleEnd src true bits skips ws) s = .next ((s.bump TAL_SAMP_STAT__SKIPPED skips.toNat).bump TAL_SAMP_STAT__LOST) := rfl
    refine ⟨_, he, ?_, ?_, ?_, fun A hA => ?_, exec_sameMem he, exec_sameVault he⟩
    · rw [bump_byte (by rfl) (by decide), State.bump, get_put_ne _ _ _ _ (by decide) (.inr (.inr (by decide)))]
    · rw [State.bump, get_put_ne _ _ _ _ (by decide) (.inr (.inl (by decide))), bump_skipped]
    · rw [get_congr _ (rd_bump_ne _ (by decide)), get_congr _ (rd_bump_ne _ (by decide))]
    · have hne : A ≠ TAL_SAMP_STAT__LOST.addr := List.ne_of_not_mem_cons hA
      rw [rd_bump_ne _ hne, rd_bump_ne (f := TAL_SAMP_STAT__SKIPPED) _ hne]
  · intro s src bits skips ws hn hm hp
    have he := sampEnd_eq (skips := skips) hp
    have hsk : (s.bump TAL_SAMP_STAT__SKIPPED skips.toNat).sampEntries = 256 := by
      rw [sampEntries_congr (rd_bump_ne _ (by decide)) (rd_bump_ne _ (by decide))]; exact hn
    obtain ⟨hlost, hwr, hrd, hreg⟩ := sampPut_loses_spec (w0 := src.val + bits.toNat * 8) (ws := ws.toList ++ [0]) hsk
      ((on_congr _ (rd_bump_ne _ (by decide))).trans hm)
    refine ⟨_, he, ?_, ?_, ?_, fun A hA _ => ?_, exec_sameMem he, exec_sameVault he⟩
    · rw [hlost, State.bump, get_put_ne _ _ _ _ (by decide) (.inr (.inr (by decide)))]
    · rw [hwr, get_congr _ (rd_bump_ne _ (by decide))]
    · rw [hrd, get_congr _ (rd_bump_ne _ (by decide))]
    · rw [hreg A hA, rd_bump_ne _ (by unfold evBase at hA; simp only [TAL_SAMP_STAT__SKIPPED]; omega)]
  · intro s src bits skips ws hn hm hp
    have he := sampEnd_eq (skips := skips) hp
    have hsk : (s.bump TAL_SAMP_STAT__SKIPPED skips.toNat).sampEntries = 256 := by
      rw [sampEntries_congr (rd_bump_ne _ (by decide)) (rd_bump_ne _ (by decide))]; exact hn
    obtain ⟨hover, hwr, hrd, hreg⟩ := sampPut_overwrites_spec (w0 := src.val + bits.toNat * 8) (ws := ws.toList ++ [0]) hsk
      ((on_congr _ (rd_bump_ne _ (by decide))).trans hm)
    refine ⟨_, he, ?_, ?_, ?_, fun A hA _ => ?_, exec_sameMem he, exec_sameVault he⟩
    · rw [hover, State.bump, get_put_ne _ _ _ _ (by decide) (.inr (.inr (by decide)))]
    · rw [hwr, get_congr _ (rd_bump_ne _ (by decide))]
    · rw [hrd, get_congr _ (rd_bump_ne _ (by decide))]
    · rw [hreg A hA, rd_bump_ne _ (by unfold evBase at hA; simp only [TAL_SAMP_STAT__SKIPPED]; omega)]
  · intro s e a corr done rep late sat m w u x q hen hcorr hax hn
    obtain ⟨w0, ws, he⟩ : ∃ w0 ws, exec (.tagRecord e a corr done rep late sat m w u x q) s = .next (sampPut w0 ws s) := by
      have hsel : (!nbit (s.get TAL_TAG_CFG__EN) e.val || (corr && !s.on TAL_TAG_CFG__CORR) ||
          (s.on TAL_TAG_CFG__AXIS_EN && s.get TAL_TAG_CFG__AXIS != a.val)) = false := by
        simp only [hen, Bool.not_true, Bool.false_or, Bool.or_eq_false_iff, Bool.and_eq_false_iff, Bool.not_eq_false', bne_eq_false_iff_eq]
        exact ⟨by cases corr <;> simp_all, by cases hx : s.on TAL_TAG_CFG__AXIS_EN <;> simp_all⟩
      simp only [exec, execTagRecord, hsel, Bool.false_eq_true, if_false]
      exact ⟨_, _, rfl⟩
    obtain ⟨hwr, hseq, -, -, hreg⟩ := sampPut_room_spec (w0 := w0) (ws := ws) hn
    exact ⟨_, he, hwr, hseq, fun A hA _ => hreg A hA, exec_sameMem he, exec_sameVault he⟩
  · intro s e a corr done rep late sat m w u x q hen
    simp [exec, execTagRecord, hen]
  · intro s src bits skips ws hp
    simp only [exec, execSampleEnd, hp, Bool.not_false, Bool.and_self, if_true]

/-! ## Writes that go through, and the queue of the vault (03 R85, 14 R422) -/

/-- What a request finds as it arrives: but for PWR_WAKE_CAUSE, every register and the rest of the state as they were. -/
theorem arrived_of_may {w : Writer} {a : Nat} {v : Word} (h : s.may w a v = true) :
    (∀ A, A ≠ PWR_WAKE_CAUSE → (arrived w s).rd A = s.rd A) ∧ (arrived w s).vq = s.vq ∧ (arrived w s).ctxs = s.ctxs ∧ (arrived w s).vs = s.vs := by
  obtain ⟨-, hgo, -⟩ := may_parts s h
  obtain ⟨R, bw, hu, hrd⟩ := arrived_waked s w (awake_of_goes s hgo)
  rw [hu]
  exact ⟨hrd, rfl, rfl, rfl⟩

/-- A write of a register whose effect puts no commit in the queue, and has no late reason. -/
theorem writeCmd_effect {w : Writer} {a i j : Nat} {v : Word} {r : RegRow} {t : State} (h : s.may w a v = true) (hr : findRow a = some (r, i, j))
    (ha : a < 2 ^ 20) (h4 : a % 4 = 0) (hm : msixAddr a = false) (hi : i < 1000) (hq : ((r.commits w || r.mayCommit) && s.vqFull) = false)
    (he : regEffect w r a i j v none (arrived w s) = (t, 0)) : writeCmd w false a v s = t := by
  rw [writeCmd_may s h ha h4 hm hr hi hq, he, refuseRecord_zero]

/-- The checks of a write that may be made, as its request finds the state. -/
theorem checks_arrived {w : Writer} {a i j : Nat} {v : Word} {r : RegRow} (h : s.may w a v = true) (hr : findRow a = some (r, i, j)) (ha : a < 2 ^ 20)
    (hi : i < 1000) : (arrived w s).writeReason w false a = 0 ∧ (arrived w s).valueReason w r i j v = 0 := by
  obtain ⟨-, hgo, hreason, r', i', j', hr', hval⟩ := may_parts s h
  rw [hr] at hr'
  cases hr'
  obtain ⟨R, bw, hu, hrd⟩ := arrived_waked s w (awake_of_goes s hgo)
  rw [hu, valueReason_waked s R bw hrd, writeReason_waked s R bw hrd w false a ha fun r' i' j' h' => by rw [hr] at h'; cases h'; exact hi]
  exact ⟨hreason, hval⟩

/-- A write whose effect leaves the queue of the vault as long as it is goes through even where the queue is full. -/
theorem writeCmd_noCommit {w : Writer} {a i j : Nat} {v : Word} {r : RegRow} {t : State} (h : s.may w a v = true) (hr : findRow a = some (r, i, j))
    (ha : a < 2 ^ 20) (h4 : a % 4 = 0) (hm : msixAddr a = false) (hi : i < 1000) (hc : r.commits w = false)
    (he : regEffect w r a i j v none (arrived w s) = (t, 0)) (hl : t.vq.length ≤ (arrived w s).vq.length) : writeCmd w false a v s = t := by
  obtain ⟨hreason, hval⟩ := checks_arrived h hr ha hi
  have hbus : busWrite w a v none (arrived w s) = .done t 0 := by
    simp [busWrite, hreason, ruledWrite, hr, hval, hc, he, Nat.not_lt.mpr hl]
  have hdo : doWrite w false a v (arrived w s) = t := by
    unfold doWrite
    simp [hm, hbus]
  obtain ⟨hport, hgo, -⟩ := may_parts s h
  cases w with
  | host p => rw [writeCmd_host s v hport.1 hport.2 hgo ha h4, hdo]
  | firmware n => rw [writeCmd_firmware s v hport hgo ha h4]; exact hdo

/-- A commit of a word outside the ownership of contexts enters the queue. -/
theorem vqPush_eq {word : Nat} (v : Word) (ctx : Option Nat) (hword : word < 172 ∨ 203 < word) :
    vqPush word v ctx s = vqShow { s with vq := s.vq ++ [{ word := word, value := v, ctx := ctx }] } := by
  unfold vqPush
  cases hq : s.vq with
  | nil => simp [vqStart, State.ctxChanges, hword]
  | cons c l => simp

theorem vqPush_map {word : Nat} {v : Word} {ctx : Option Nat} (hword : word < 172 ∨ 203 < word) :
    (vqPush word v ctx s).vq.map (fun c => (c.word, c.value)) = s.vq.map (fun c => (c.word, c.value)) ++ [(word, v)] := by
  rw [vqPush_eq v ctx hword, vqShow_vq]
  simp

theorem rd_vqPush_ne {word A : Nat} {v : Word} {ctx : Option Nat} (hword : word < 172 ∨ 203 < word) (h : A ≠ VLT_STATUS) :
    (vqPush word v ctx s).rd A = s.rd A := by
  rw [vqPush_eq v ctx hword]
  exact rd_put_ne _ _ h

/-! ## Stewardship (03 R87, R91) -/

/-- A transfer that is abandoned is marked as failed. -/
theorem xferAbandon_pending (hp : s.on HP_STEWARD__XFER_PENDING = true) (hq : s.vqHas 160 = false) :
    (xferAbandon s).on HP_STEWARD__XFER_PENDING = false ∧ (xferAbandon s).on HP_STEWARD__XFER_FAIL = true ∧ (xferAbandon s).steward = s.steward ∧
    ∀ A, A < evBase → A ≠ HP_STEWARD → A ≠ HP_EVENT → (xferAbandon s).rd A = s.rd A := by
  have hrd : ∀ {A}, A < evBase → A ≠ HP_EVENT →
      (xferAbandon s).rd A = ((s.putB HP_STEWARD__XFER_PENDING false).putB HP_STEWARD__XFER_FAIL true).rd A := fun hA he => by
    unfold xferAbandon
    rw [hp, hq]
    exact (raiseFree_rd _ _ _ _ hA).trans (rd_putB_ne _ _ he)
  have hst : HP_STEWARD < evBase := by decide
  refine ⟨?_, ?_, ?_, fun A hA hs he => ?_⟩
  · rw [on_congr _ (hrd hst (by decide)), on_putB_ne _ _ _ _ (by decide) (.inr (.inl (by decide)))]
    exact on_putB _ _ _ (by decide) (by decide)
  · rw [on_congr _ (hrd hst (by decide))]
    exact on_putB _ _ _ (by decide) (by decide)
  · unfold State.steward
    rw [get_congr _ (hrd hst (by decide)), State.putB, get_put_ne _ _ _ _ (by decide) (.inr (.inl (by decide))), State.putB,
      get_put_ne _ _ _ _ (by decide) (.inr (.inl (by decide)))]
  · rw [hrd hA he, rd_putB_ne (f := HP_STEWARD__XFER_FAIL) _ _ hs, rd_putB_ne (f := HP_STEWARD__XFER_PENDING) _ _ hs]

theorem xferAbandon_idle (h : s.on HP_STEWARD__XFER_PENDING = false ∨ s.vqHas 160 = true) : xferAbandon s = s := by
  unfold xferAbandon
  rcases h with h | h <;> simp [h]

/-- The transfer that starts is pending towards its target. -/
theorem xferWrite_go {g : Fin 4} :
    (xferWrite g.val true s).on HP_STEWARD__XFER_PENDING = true ∧ (xferWrite g.val true s).get HP_STEWARD__XFER_TARGET = g.val ∧
    (xferWrite g.val true s).on HP_STEWARD__XFER_FAIL = (xferAbandon s).on HP_STEWARD__XFER_FAIL ∧
    (xferWrite g.val true s).steward = (xferAbandon s).steward ∧
    ∀ A, A ≠ HP_STEWARD → (xferWrite g.val true s).rd A = (xferAbandon s).rd A := by
  have heq : xferWrite g.val true s = ((xferAbandon s).putB HP_STEWARD__XFER_PENDING true).put HP_STEWARD__XFER_TARGET g.val := rfl
  rw [heq]
  refine ⟨?_, ?_, ?_, ?_, fun A hA => ?_⟩
  · rw [on_put_ne _ _ _ (by decide) (.inr (.inl (by decide)))]
    exact on_putB _ _ _ (by decide) (by decide)
  · rw [get_put _ _ _ (by decide)]
    exact Nat.mod_eq_of_lt g.2
  · rw [on_put_ne _ _ _ (by decide) (.inr (.inl (by decide))), on_putB_ne _ _ _ _ (by decide) (.inr (.inr (by decide)))]
  · unfold State.steward
    rw [get_put_ne _ _ _ _ (by decide) (.inr (.inl (by decide))), State.putB, get_put_ne _ _ _ _ (by decide) (.inr (.inl (by decide)))]
  · rw [rd_put_ne (f := HP_STEWARD__XFER_TARGET) _ _ hA, rd_putB_ne (f := HP_STEWARD__XFER_PENDING) _ _ hA]

theorem xferWord_fields : ∀ (g : Fin 4) (go : Bool), fieldGet (BitVec.ofNat 32 (g.val + 256 * b2n go)) 0 2 = g.val ∧
    (fieldGet (BitVec.ofNat 32 (g.val + 256 * b2n go)) 8 1 == 1) = go := by decide

/-- A steward's write of HP_STEWARD_XFER that goes through. -/
theorem stewardXfer_write {p g : Fin 4} {go : Bool} (h : s.may (.host p) HP_STEWARD_XFER (BitVec.ofNat 32 (g.val + 256 * b2n go)) = true) :
    exec (.stewardXfer p g go) s = .next (xferWrite g.val go (arrived (.host p) s)) := by
  obtain ⟨htarget, hgo⟩ := xferWord_fields g go
  have heff : ∀ v, regEffect (.host p) ⟨0x1008, 1, 4, 1, 4, .ownTable, false, 0, 0, 0, 0, 0, 0⟩ HP_STEWARD_XFER 0 0 v none (arrived (.host p) s) =
      (xferWrite (fieldGet v 0 2) (fieldGet v 8 1 == 1) (arrived (.host p) s), 0) := fun _ => rfl
  refine congrArg Host.Outcome.next (writeCmd_effect h row_HP_STEWARD_XFER (by decide) (by decide) (by decide) (by decide) rfl ?_)
  rw [heff, htarget, hgo]

theorem stewardAccept_write {p : Fin 4} {accept : Bool} (h : s.may (.host p) HP_STEWARD_ACCEPT (BitVec.ofNat 32 (b2n accept)) = true)
    (hq : s.vqFull = false ∨ accept = false) :
    exec (.stewardAccept p accept) s = .next (if accept then xferAccept p.val (arrived (.host p) s) else arrived (.host p) s) := by
  have heff : ∀ b : Bool, regEffect (.host p) ⟨0x100C, 1, 4, 1, 4, .accept, false, 0, 0, 0, 0, 0, 0⟩ HP_STEWARD_ACCEPT 0 0 (BitVec.ofNat 32 (b2n b)) none
      (arrived (.host p) s) = (if b then xferAccept p.val (arrived (.host p) s) else arrived (.host p) s, 0) := fun b => by cases b <;> rfl
  refine congrArg Host.Outcome.next ?_
  cases accept with
  | false => exact writeCmd_noCommit h row_HP_STEWARD_ACCEPT (by decide) (by decide) (by decide) (by decide) rfl (heff false) (Nat.le_refl _)
  | true =>
    have hroom : s.vqFull = false := hq.resolve_right (by decide)
    exact writeCmd_effect h row_HP_STEWARD_ACCEPT (by decide) (by decide) (by decide) (by decide) (by rw [hroom, Bool.and_false]) (heff true)

/-- The target of an acceptance that goes through is the port that accepts. -/
theorem target_of_may {p : Fin 4} {v : Word} (h : s.may (.host p) HP_STEWARD_ACCEPT v = true) : s.get HP_STEWARD__XFER_TARGET = p.val := by
  obtain ⟨-, -, hr, -⟩ := may_parts s h
  by_contra hne
  unfold State.writeReason at hr
  simp only [row_HP_STEWARD_ACCEPT, State.hostReason, if_neg hne, show msixAddr HP_STEWARD_ACCEPT = false from rfl, Bool.false_eq_true, if_false] at hr
  split_ifs at hr
  exact absurd hr (by decide)

/-- A transfer towards a port whose link is down is refused, with its record in HP_OWN_STATUS and in the port's denial registers. -/
theorem stewardXfer_refused {p g : Fin 4} (ht : s.portTakes p.val = true) (hm : (s.port p.val).mse = true)
    (hgo : s.accessWaits false HP_STEWARD_XFER = false) (hr : s.writeReason (.host p) false HP_STEWARD_XFER = 0) (hl : s.on (HP_LINK__UP g.val) = false) :
    exec (.stewardXfer p g true) s = .next (deny p.val HP_STEWARD_XFER false 4 (ownRefuse HP_STEWARD_XFER 5 (arrived (.host p) s))) := by
  obtain ⟨R, bw, hu, hrd⟩ := arrived_waked s (.host p) (awake_of_goes s hgo)
  obtain ⟨htarget, hgo1⟩ := xferWord_fields g true
  have hreason : (arrived (.host p) s).writeReason (.host p) false HP_STEWARD_XFER = 0 := by
    rw [hu, writeReason_waked s R bw hrd _ _ _ (by decide) fun r i j h => by rw [row_HP_STEWARD_XFER] at h; cases h; decide]
    exact hr
  have hval : (arrived (.host p) s).valueReason (.host p) ⟨0x1008, 1, 4, 1, 4, .ownTable, false, 0, 0, 0, 0, 0, 0⟩ 0 0 (BitVec.ofNat 32 (g.val + 256 * b2n true)) = xferBad := by
    have hcheck : ∀ (u : State) v, u.valueReason (.host p) ⟨0x1008, 1, 4, 1, 4, .ownTable, false, 0, 0, 0, 0, 0, 0⟩ 0 0 v =
        if fieldGet v 8 1 = 1 && !u.on (HP_LINK__UP (fieldGet v 0 2)) then xferBad else 0 := fun _ _ => rfl
    have hup : (arrived (.host p) s).on (HP_LINK__UP g.val) = false := by
      rw [hu, on_congr _ (hrd _ (by simp only [HP_LINK__UP, PWR_WAKE_CAUSE]; omega))]
      exact hl
    rw [hcheck, htarget, hup, eq_of_beq hgo1]
    rfl
  have hbus : busWrite (.host p) HP_STEWARD_XFER (BitVec.ofNat 32 (g.val + 256 * b2n true)) none (arrived (.host p) s) = .refused xferBad := by
    simp only [busWrite, hreason, ruledWrite, row_HP_STEWARD_XFER, hval, ne_eq, not_true_eq_false, if_false]
    rfl
  have hrec : ∀ u, refuseRecord (.host p) HP_STEWARD_XFER xferBad u = deny p.val HP_STEWARD_XFER false 4 (ownRefuse HP_STEWARD_XFER 5 u) := fun _ => rfl
  refine congrArg Host.Outcome.next ((writeCmd_host s _ ht hm hgo (by decide) (by decide)).trans ?_)
  unfold doWrite
  rw [hbus]
  exact hrec _

/-- The first denial of a port counts from 1. -/
theorem count_deny_first {p addr reason : Nat} {bar2 : Bool} (hp : p < 4) (h : s.on (HP_DENY_INFO__VALID p) = false) :
    (deny p addr bar2 reason s).get (HP_DENY_INFO__COUNT p) = 1 := by
  have hfree : (talCount 0x62 (8 + p) 1 0 s).on (HP_DENY_INFO__VALID p) = false :=
    (on_congr _ (talCount_rd _ _ _ _ s _ (by simp only [HP_DENY_INFO__VALID]; omega))).trans h
  unfold deny
  simp only [hfree, Bool.false_eq_true, if_false]
  rw [get_congr _ (raiseFree_rd _ _ _ _ (by simp only [HP_DENY_INFO__COUNT]; omega)),
    State.putBit, get_congr _ (rd_put_ne _ _ (by simp only [HP_DENY_INFO__COUNT, HP_EVENT__DENIED]; omega)),
    State.putB, get_put_ne _ _ _ _ (by simp [HP_DENY_INFO__VALID]) (.inr (.inl (by simp [HP_DENY_INFO__VALID, HP_DENY_INFO__COUNT]))),
    State.putB, get_put_ne _ _ _ _ (by simp [HP_DENY_INFO__BAR]) (.inr (.inl (by simp [HP_DENY_INFO__BAR, HP_DENY_INFO__COUNT]))),
    get_put_ne _ _ _ _ (by simp [HP_DENY_INFO__REASON]) (.inr (.inl (by simp [HP_DENY_INFO__REASON, HP_DENY_INFO__COUNT]))),
    get_put _ _ _ (by simp [HP_DENY_INFO__COUNT])]
  rfl

/-- Settles O29. -/
theorem stewardshipTransfer : Obligations.StewardshipTransfer := by
  unfold Obligations.StewardshipTransfer
  refine ⟨?_, ?_, ?_, ?_, ?_, ?_, ?_, ?_, ?_, ?_⟩
  · intro s p g h _ hp
    have he := stewardXfer_write (go := true) h
    obtain ⟨hrd, -⟩ := arrived_of_may h
    obtain ⟨hpend, htarget, -, hst, hreg⟩ := xferWrite_go (s := arrived (.host p) s) (g := g)
    rw [xferAbandon_idle (.inl ((on_congr _ (hrd _ (by decide))).trans hp))] at hst hreg
    refine ⟨_, he, hpend, htarget, hst.trans (get_congr _ (hrd _ (by decide))), fun A hA => ?_, exec_sameMem he, exec_sameVault he⟩
    simp only [List.mem_cons, List.not_mem_nil, or_false, not_or] at hA
    rw [hreg A hA.2, hrd A hA.1]
  · intro s p g h _ hp hq
    have he := stewardXfer_write (go := true) h
    obtain ⟨hrd, hvq, -⟩ := arrived_of_may h
    obtain ⟨hpend, htarget, hfail, hst, hreg⟩ := xferWrite_go (s := arrived (.host p) s) (g := g)
    obtain ⟨-, hfail', hst', hreg'⟩ := xferAbandon_pending (s := arrived (.host p) s) ((on_congr _ (hrd _ (by decide))).trans hp)
      (by rw [State.vqHas, hvq]; exact hq)
    refine ⟨_, he, hpend, htarget, hfail.trans hfail', (hst.trans hst').trans (get_congr _ (hrd _ (by decide))), fun A hA hn => ?_,
      exec_sameMem he, exec_sameVault he⟩
    simp only [List.mem_cons, List.not_mem_nil, or_false, not_or] at hn
    obtain ⟨hw, hs, hev⟩ := hn
    rw [hreg A hs, hreg' A hA hs hev, hrd A hw]
  · intro s p g ht hm hgo hr hl hd
    have he := stewardXfer_refused ht hm hgo hr hl
    obtain ⟨R, bw, hu, hrd⟩ := arrived_waked s (.host p) (awake_of_goes s hgo)
    have hown : ∀ {A}, A ≠ HP_OWN_STATUS → A ≠ PWR_WAKE_CAUSE → (ownRefuse HP_STEWARD_XFER 5 (arrived (.host p) s)).rd A = s.rd A := fun h1 h2 => by
      rw [hu, ownRefuse, rd_put_ne (f := HP_OWN_STATUS__REFUSE_OFFSET) _ _ h1, rd_put_ne (f := HP_OWN_STATUS__LAST_REFUSE) _ _ h1, hrd _ h2]
    have hvalid : (ownRefuse HP_STEWARD_XFER 5 (arrived (.host p) s)).on (HP_DENY_INFO__VALID p.val) = false :=
      (on_congr _ (hown (by simp only [HP_DENY_INFO__VALID, HP_OWN_STATUS]; omega) (by simp only [HP_DENY_INFO__VALID, PWR_WAKE_CAUSE]; omega))).trans hd
    obtain ⟨hv, -, haddr⟩ := deny_first _ p.val HP_STEWARD_XFER false 4 p.2 hvalid
    refine ⟨_, he, ?_, ?_, hv, count_deny_first p.2 hvalid, haddr, fun A hA hn => ?_, exec_sameMem he, exec_sameVault he⟩
    · rw [get_congr _ (rd_deny_ne (by decide) (by simp only [HP_OWN_STATUS__LAST_REFUSE, HP_DENY_INFO]; omega)
        (by simp only [HP_OWN_STATUS__LAST_REFUSE, HP_DENY_ADDR]; omega) (by decide)), ownRefuse,
        get_put_ne _ _ _ _ (by decide) (.inr (.inl (by decide))), get_put _ _ _ (by decide)]
      rfl
    · rw [rd_deny_ne (by decide) (by simp only [HP_STEWARD, HP_DENY_INFO]; omega) (by simp only [HP_STEWARD, HP_DENY_ADDR]; omega) (by decide),
        hown (by decide) (by decide)]
    · simp only [List.mem_cons, List.not_mem_nil, or_false, not_or] at hn
      obtain ⟨hw, hev, ho, hi, ha⟩ := hn
      rw [rd_deny_ne hA hi ha hev, hown ho hw]
  · intro s p g h
    have he := stewardXfer_write (go := false) h
    obtain ⟨hrd, -⟩ := arrived_of_may h
    exact ⟨_, he, fun A hA => hrd A (by simpa using hA), exec_sameMem he, exec_sameVault he⟩
  · intro s p h hp hq hf
    have he := stewardAccept_write (accept := true) h (.inl hf)
    obtain ⟨hrd, hvq, -⟩ := arrived_of_may h
    have hgo : xferAccept p.val (arrived (.host p) s) = vqPush 160 (BitVec.ofNat 32 p.val) none (arrived (.host p) s) := by
      unfold xferAccept
      rw [on_congr _ (hrd _ (by decide)), get_congr _ (hrd _ (by decide)), hp, target_of_may h, State.vqHas, hvq, show (s.vq.any fun c => c.word == 160) = false from hq]
      simp
    rw [if_pos rfl, hgo] at he
    refine ⟨_, he, ?_, ?_, fun A hA => ?_, exec_sameMem he, exec_sameVault he⟩
    · rw [vqPush_map (.inl (by decide)), hvq]
    · unfold State.steward
      rw [get_congr _ (rd_vqPush_ne (.inl (by decide)) (by decide)), get_congr _ (hrd _ (by decide))]
    · simp only [List.mem_cons, List.not_mem_nil, or_false, not_or] at hA
      rw [rd_vqPush_ne (.inl (by decide)) hA.2, hrd A hA.1]
  · intro s p h
    have he := stewardAccept_write (accept := false) h (.inr rfl)
    obtain ⟨hrd, hvq, -⟩ := arrived_of_may h
    exact ⟨_, he, hvq, fun A hA => hrd A (by simpa using hA), exec_sameMem he, exec_sameVault he⟩
  · intro s hp hq
    have he : exec .stewardXferTimeout s = .next (xferAbandon s) := rfl
    obtain ⟨hpend, hfail, hst, hreg⟩ := xferAbandon_pending hp hq
    refine ⟨_, he, hpend, hfail, hst, fun A hA hn => ?_, exec_sameMem he, exec_sameVault he⟩
    simp only [List.mem_cons, List.not_mem_nil, or_false, not_or] at hn
    exact hreg A hA hn.1 hn.2
  · intro s h
    exact congrArg Host.Outcome.next (xferAbandon_idle h)
  · intro s n code hn h hf
    have hcode : ∀ c : BitVec 4, c.setWidth 32 &&& 0xF#32 = c.setWidth 32 ∧ (c.setWidth 32 : Word) &&& 0x200#32 = 0 := by decide
    obtain ⟨hmask, hfail⟩ := hcode code
    have hstored : (⟨0x1004, 1, 4, 1, 4, .ownTable, false, 0, 0x200, 0xF, 0, 160, 0⟩ : RegRow).stored (s.rd HP_STEWARD) (code.setWidth 32) = s.rd HP_STEWARD := by
      simp only [RegRow.stored, hfail]
      rw [BitVec.not_zero, BitVec.and_zero, BitVec.or_zero, BitVec.and_allOnes]
      exact BitVec.and_allOnes
    have heff : ∀ v, regEffect (.firmware n) ⟨0x1004, 1, 4, 1, 4, .ownTable, false, 0, 0x200, 0xF, 0, 160, 0⟩ HP_STEWARD 0 0 v none s =
        (vqPush 160 (v &&& 0xF#32) none
          (s.wr HP_STEWARD ((⟨0x1004, 1, 4, 1, 4, .ownTable, false, 0, 0x200, 0xF, 0, 160, 0⟩ : RegRow).stored (s.rd HP_STEWARD) v)), 0) := fun _ => rfl
    have he : exec (.stewardSetByFirmware code) s = .next (vqPush 160 (code.setWidth 32) none (s.wr HP_STEWARD (s.rd HP_STEWARD))) := by
      simp only [exec, execStewardSetByFirmware, hn]
      refine congrArg Host.Outcome.next (writeCmd_effect h row_HP_STEWARD (by decide) (by decide) (by decide) (by decide) (by rw [hf, Bool.and_false]) ?_)
      rw [arrived_firmware, heff, hmask, hstored]
    refine ⟨_, he, vqPush_map (.inl (by decide)), ?_, exec_sameMem he, exec_sameVault he⟩
    unfold State.steward
    rw [get_congr _ (rd_vqPush_ne (.inl (by decide)) (by decide)), get_congr HP_STEWARD__STEWARD (rd_wr_same s HP_STEWARD (s.rd HP_STEWARD))]
  · intro s code h
    simp [exec, execStewardSetByFirmware, h]

end Sys2Proof.Laws
end


section
/-! The vault's keys, the boot ROM and staging (O20, O22, O23, O30) -/
namespace Sys2Proof.Laws
open Sys2Proof.Machine
-- One declaration after another: the whole text is checked as one file, within a bound on memory.
set_option Elab.async false

variable {s : State}

/-! ## The staging area's actions (14 R435) -/

/-- A vault event changes VLT_EVENT and the registers of the events. -/
theorem rd_vltEvent_ne {b detail A : Nat} (hA : A < evBase) (h : A ≠ VLT_EVENT__EVT.addr) : (vltEvent b detail s).rd A = s.rd A :=
  (raise_rd _ _ _ _ _ hA).trans (rd_put_ne _ _ h)

theorem get_vltEvent_ne {b detail : Nat} {f : FieldRef} (hA : f.addr < evBase) (h : f.addr ≠ VLT_EVENT__EVT.addr) :
    (vltEvent b detail s).get f = s.get f := get_congr _ (rd_vltEvent_ne hA h)

@[simp] theorem ctxs_vltEvent (b detail : Nat) : (vltEvent b detail s).ctxs = s.ctxs := by
  simp [vltEvent]

@[simp] theorem vs_vltEvent (b detail : Nat) : (vltEvent b detail s).vs = s.vs := by
  simp [vltEvent]

/-- The state of an action that has ended, before its descriptor ends. -/
def actOver (code a : Nat) (s : State) : State :=
  vltEvent 3 (code + a * 2 ^ 8) { s.putB VLT_STG_STAT__BUSY false with vs := { s.vs with act := none } }

theorem actEnd_own {a code : Nat} {result : Word} (h : s.vs.act = some (a, none)) : actEnd code result s = actOver code a s := by
  simp [actEnd, h, actOver]

theorem actEnd_desc {a c code : Nat} {result : Word} (h : s.vs.act = some (a, some c)) :
    actEnd code result s = descDone c (if code = 0 then 0 else 8) code
      (stepDone c 1 ((actOver code a s).upExec c fun e => { e with result := result })) := by
  simp [actEnd, h, actOver]

theorem rd_actOver_ne {code a A : Nat} (hA : A < evBase) (hv : A ≠ VLT_EVENT__EVT.addr) (hs : A ≠ VLT_STG_STAT__BUSY.addr) :
    (actOver code a s).rd A = s.rd A := (rd_vltEvent_ne hA hv).trans (rd_putB_ne s _ hs)

theorem busy_actOver (code a : Nat) : (actOver code a s).on VLT_STG_STAT__BUSY = false :=
  (on_congr _ (rd_vltEvent_ne (by decide) (by decide))).trans (on_putB _ _ _ (by decide) (by decide))

theorem get_actOver_ne {code a : Nat} {f : FieldRef} (hA : f.addr < evBase) (hv : f.addr ≠ VLT_EVENT__EVT.addr)
    (hs : f.addr ≠ VLT_STG_STAT__BUSY.addr ∨ 1 ≤ f.lo) : (actOver code a s).get f = s.get f :=
  (get_vltEvent_ne hA hv).trans (get_put_ne _ _ _ _ (by decide) (hs.imp id .inr))

/-- The descriptor's ledger has the addresses 0x8024 and on, 64 apart. -/
theorem rd_actEnd_ne {a code A : Nat} {ctx : Option Nat} {result : Word} (h : s.vs.act = some (a, ctx)) (hA : A < evBase)
    (hl : A % 0x40 ≠ 0x24) : (actEnd code result s).rd A = (actOver code a s).rd A := by
  cases ctx with
  | none => rw [actEnd_own h]
  | some c =>
    rw [actEnd_desc h, descDone_rd, rd_stepDone_ne _ _ hA (by simp only [HP_CTX_LEDGER1]; omega)]
    exact upExec_rd _ _ _ _

/-- The end of an action decides the end of its descriptor. -/
theorem done_actEnd {a c code : Nat} {e : ExecS} {result : Word} (h : s.vs.act = some (a, some c)) (he : (s.ctx c).exec = some e)
    (hd : e.done = none) : ((actEnd code result s).ctx c).exec.bind (·.done) = some (if code = 0 then 0 else 8, code) := by
  have hover : ((actOver code a s).ctx c).exec = some e := by
    unfold State.ctx actOver at *
    rw [ctxs_vltEvent]
    exact he
  rw [actEnd_desc h, exec_descDone _ _ (exec_ctx_congr (ctx_stepDone _ _ _) (exec_upExec _ hover)) hd]
  rfl

theorem ite_lt {c : Prop} [Decidable c] {a b n : Nat} (ha : a < n) (hb : b < n) : (if c then a else b) < n := by split <;> assumption

/-- A code of the checks of R431 fits its register. -/
theorem imageCode_lt (type : Nat) (hdr payload trailer : List Word) (pages : Option Nat) : s.imageCode type hdr payload trailer pages < 2 ^ 4 := by
  unfold State.imageCode
  repeat' apply ite_lt
  all_goals decide

theorem stagedCode_lt (type : Nat) : s.stagedCode type < 2 ^ 8 := Nat.lt_of_lt_of_le (imageCode_lt ..) (by decide)

/-! ## Keys, the security version and the debug port (14 R429, R430, R441) -/

theorem nbit_nbitSet (v k i : Nat) : nbit (nbitSet v k true) i = (nbit v i || decide (k = i)) := by
  simp only [nbitSet, nbit, if_true, Nat.testBit_or, Nat.testBit_two_pow]

/-- A bit of a field that is set, and the other bits of the field. -/
theorem nbit_putBit (f : FieldRef) {k i : Nat} (h : f.lo + f.width ≤ 32) (hi : i < f.width) :
    nbit ((s.putBit f k true).get f) i = (nbit (s.get f) i || decide (k = i)) := by
  rw [State.putBit, get_put _ _ _ h, nbit, Nat.testBit_mod_two_pow, decide_eq_true hi, Bool.true_and]
  exact nbit_nbitSet _ _ _

theorem keyRevoke_effect (w : Writer) (v : Word) :
    regEffect w ⟨0x60014, 1, 4, 1, 4, .vault, false, 0, 0, 0, 0, 0, 0⟩ VLT_KEY_REVOKE 0 0 v none s = (keyRevoke (fieldGet v 0 2) s, 0) := rfl

theorem dbgLock_effect (w : Writer) (v : Word) :
    regEffect w ⟨0x601A0, 1, 4, 1, 4, .vault, false, 0, 0, 0, 0, 0, 0⟩ VLT_DBG_STAT 0 0 v none s = (s.when (fieldGet v 1 1 == 1) dbgLock, 0) := rfl

theorem keyRevoke_write {w : Writer} {v : Word} (h : s.may w VLT_KEY_REVOKE v = true) :
    writeCmd w false VLT_KEY_REVOKE v s = keyRevoke (fieldGet v 0 2) (arrived w s) :=
  writeCmd_effect h row_VLT_KEY_REVOKE (by decide) (by decide) (by decide) (by decide) rfl (keyRevoke_effect ..)

theorem dbgLock_write {w : Writer} (h : s.may w VLT_DBG_STAT 2 = true) : writeCmd w false VLT_DBG_STAT 2 s = dbgLock (arrived w s) :=
  writeCmd_effect h row_VLT_DBG_STAT (by decide) (by decide) (by decide) (by decide) rfl (dbgLock_effect ..)

/-- A write of VLT_MIN_SVN leaves the register and queues its commit. -/
theorem minSvn_write {w : Writer} {v : Word} (h : s.may w VLT_MIN_SVN v = true) (hf : s.vqFull = false) :
    writeCmd w false VLT_MIN_SVN v s = vqPush 210 v none ((arrived w s).wr VLT_MIN_SVN (minSvnRow.stored ((arrived w s).rd VLT_MIN_SVN) v)) :=
  writeCmd_effect h findRow_minSvn (by decide) (by decide) (by decide) (by decide) (by rw [hf, Bool.and_false]) (regEffect_minSvn ..)

theorem stored_minSvn (old v : Word) : minSvnRow.stored old v = old := by
  simp only [RegRow.stored, minSvnRow]
  rw [BitVec.not_zero, BitVec.and_zero, BitVec.or_zero, BitVec.and_allOnes, BitVec.not_zero, BitVec.and_allOnes]

theorem rd_debugDetach_ne {A : Nat} (h : A ≠ RED_STATUS__DEBUG.addr) : (debugDetach s).rd A = s.rd A := by
  unfold debugDetach
  rw [upRed_rd, each_rd _ _ _ _ fun i s => upCp_rd _ _ _ _]
  exact rd_putB_ne s _ h

theorem debug_debugDetach : (debugDetach s).on RED_STATUS__DEBUG = false := by
  unfold debugDetach
  rw [on_congr _ (upRed_rd _ _ _), on_congr _ (each_rd _ _ _ _ fun i s => upCp_rd _ _ _ _)]
  exact on_putB _ _ _ (by decide) (by decide)

/-- An unlocking with a token that is good: the port, its scope, and the event. -/
def unlocked (scope : Nat) (s : State) : State :=
  vltEvent 5 (1 + scope * 2 ^ 8) ((s.putB VLT_DBG_STAT__UNLOCKED true).put VLT_DBG_STAT__SCOPE scope)

/-- The state in which an unlocking ends: the result and a fresh challenge, and the port unlocked for code 0. -/
def unlockEnds (code scope : Nat) (s : State) : State :=
  (newChallenge (s.put VLT_STG_STAT__RESULT code)).when (code == 0) (unlocked scope)

theorem execUnlock_eq {ctx : Option Nat} (h : s.vs.act = some (3, ctx)) : exec (.unlock () ()) s = .next
    (actEnd (s.stagedCode 2) (BitVec.ofNat 32 (fieldGet (dword (s.stagePayload s.stageHdr) 10) 0 8))
      (unlockEnds (s.stagedCode 2) (fieldGet (dword (s.stagePayload s.stageHdr) 10) 0 8) s)) := by
  simp only [exec, execUnlock, State.actIs, h]
  rfl

theorem sys_newChallenge : (newChallenge s).sys = s.sys := by
  simp [newChallenge, State.wrFree]

theorem vs_newChallenge : (newChallenge s).vs = s.vs := by
  simp [newChallenge, State.wrFree]

theorem ctxs_newChallenge : (newChallenge s).ctxs = s.ctxs := by
  simp [newChallenge, State.wrFree]

theorem each_keep_mem {β : Type} (g : State → β) (l : List Nat) (f : Nat → State → State) (h : ∀ i ∈ l, ∀ s, g (f i s) = g s) :
    g (s.each l f) = g s := by
  induction l generalizing s with
  | nil => rfl
  | cons i l ih => rw [each_cons, ih fun j hj => h j (List.mem_cons_of_mem _ hj), h i List.mem_cons_self]

theorem rd_newChallenge_ne {A : Nat} (h : A < 0x60180 ∨ 0x601A0 ≤ A) : (newChallenge s).rd A = s.rd A :=
  each_keep_mem (fun s => s.rd A) _ _ fun i hi s => by
    rw [wrFree_rd, if_neg]
    have := List.mem_range.mp hi
    simp only [VLT_DBG_CHAL]
    omega

theorem rd_unlocked_ne {scope A : Nat} (hA : A < evBase) (hv : A ≠ VLT_EVENT__EVT.addr) (hd : A ≠ VLT_DBG_STAT__SCOPE.addr) :
    (unlocked scope s).rd A = s.rd A :=
  (rd_vltEvent_ne hA hv).trans ((rd_put_ne _ _ hd).trans (rd_putB_ne _ _ hd))

/-- What an unlocking shows: the result, and with code 0 the port's state and scope. -/
theorem unlockEnds_spec {code scope : Nat} (hcode : code < 2 ^ 8) (hscope : scope < 2 ^ 8) :
    (unlockEnds code scope s).get VLT_STG_STAT__RESULT = code ∧
    (unlockEnds code scope s).on VLT_DBG_STAT__UNLOCKED = (s.on VLT_DBG_STAT__UNLOCKED || code == 0) ∧
    (unlockEnds code scope s).get VLT_DBG_STAT__SCOPE = (if code = 0 then scope else s.get VLT_DBG_STAT__SCOPE) := by
  have hrd : ∀ {A}, A ≠ VLT_STG_STAT__RESULT.addr → (A < 0x60180 ∨ 0x601A0 ≤ A) → (newChallenge (s.put VLT_STG_STAT__RESULT code)).rd A = s.rd A :=
    fun h hc => (rd_newChallenge_ne hc).trans (rd_put_ne _ _ h)
  have hres : (newChallenge (s.put VLT_STG_STAT__RESULT code)).get VLT_STG_STAT__RESULT = code := by
    rw [get_congr _ (rd_newChallenge_ne (by decide)), get_put _ _ _ (by decide)]
    exact Nat.mod_eq_of_lt hcode
  unfold unlockEnds
  by_cases h0 : code = 0
  · subst h0
    simp only [beq_self_eq_true, State.when, if_true, Bool.or_true]
    refine ⟨(get_congr _ (rd_unlocked_ne (by decide) (by decide) (by decide))).trans hres, ?_, ?_⟩
    · rw [unlocked, on_congr _ (rd_vltEvent_ne (by decide) (by decide)), on_put_ne _ _ _ (by decide) (.inr (.inl (by decide)))]
      exact on_putB _ _ _ (by decide) (by decide)
    · rw [unlocked, get_vltEvent_ne (by decide) (by decide), get_put _ _ _ (by decide)]
      exact Nat.mod_eq_of_lt hscope
  · simp only [beq_eq_false_iff_ne.mpr h0, State.when, Bool.false_eq_true, if_false, Bool.or_false, if_neg h0]
    exact ⟨hres, on_congr _ (hrd (by decide) (by decide)), get_congr _ (hrd (by decide) (by decide))⟩

theorem vs_unlockEnds (code scope : Nat) : (unlockEnds code scope s).vs = s.vs := by
  simp only [unlockEnds, State.when]
  split <;> simp [unlocked, vs_newChallenge]

theorem ctxs_unlockEnds (code scope : Nat) : (unlockEnds code scope s).ctxs = s.ctxs := by
  simp only [unlockEnds, State.when]
  split <;> simp [unlocked, ctxs_newChallenge]

/-- Settles O23: each command's effect on the registers of the keys, of the security version and of the debug port. -/
theorem keysAndDebugPort : Obligations.KeysAndDebugPort := by
  unfold Obligations.KeysAndDebugPort
  refine ⟨?_, ?_, ?_, ?_, ?_⟩
  · intro s w v h
    obtain ⟨hrd, -⟩ := arrived_of_may h
    have he : exec (.keyRevoke w v) s = .next (keyRevoke (fieldGet v 0 2) (arrived w s)) := congrArg Host.Outcome.next (keyRevoke_write h)
    have hbit : ∀ {k}, k < 4 → nbit ((keyRevoke (fieldGet v 0 2) (arrived w s)).get VLT_KEY_STAT__REVOKED) k =
        (nbit (s.get VLT_KEY_STAT__REVOKED) k || decide (fieldGet v 0 2 = k)) := fun hk => by
      rw [keyRevoke, get_vltEvent_ne (by decide) (by decide), nbit_putBit _ (by decide) hk, get_congr _ (hrd _ (by decide))]
    refine ⟨_, he, ?_, fun k hk => ?_, fun A hA hn => ?_, exec_sameMem he, exec_sameVault he⟩
    · rw [hbit (fieldGet_lt v 0 2), decide_eq_true rfl, Bool.or_true]
    · rw [hbit k.isLt, decide_eq_false hk.symm, Bool.or_false]
    · simp only [List.mem_cons, List.not_mem_nil, or_false, not_or] at hn
      obtain ⟨hw, hk, hv⟩ := hn
      exact (rd_vltEvent_ne hA hv).trans ((rd_put_ne (f := VLT_KEY_STAT__REVOKED) _ _ hk).trans (hrd A hw))
  · intro s w v h hf
    obtain ⟨hrd, hvq, -⟩ := arrived_of_may h
    have he : exec (.minSvnWrite w v) s = .next (vqPush 210 v none ((arrived w s).wr VLT_MIN_SVN (s.rd VLT_MIN_SVN))) := by
      rw [← hrd VLT_MIN_SVN (by decide)]
      refine congrArg Host.Outcome.next ((minSvn_write h hf).trans ?_)
      rw [stored_minSvn]
    have hval : (vqPush 210 v none ((arrived w s).wr VLT_MIN_SVN (s.rd VLT_MIN_SVN))).vq.map (fun c => c.value) = s.vq.map (fun c => c.value) ++ [v] := by
      rw [vqPush_eq _ _ (.inr (by decide)), vqShow_vq]
      simp [hvq]
    have hreg : ∀ A, A ≠ PWR_WAKE_CAUSE → A ≠ VLT_STATUS →
        (vqPush 210 v none ((arrived w s).wr VLT_MIN_SVN (s.rd VLT_MIN_SVN))).rd A = s.rd A := fun A hw hs => by
      rw [rd_vqPush_ne (.inr (by decide)) hs, rd_wr]
      split
      · next h => rw [h]
      · exact hrd A hw
    refine ⟨_, he, minSvn_le_of_may s h, fun hq => by rw [hval, hq]; rfl, fun _ => hval, get_congr _ (hreg _ (by decide) (by decide)), fun A hA => ?_,
      exec_sameMem he, exec_sameVault he⟩
    simp only [List.mem_cons, List.not_mem_nil, or_false, not_or] at hA
    exact hreg A hA.1 hA.2
  · intro s w h
    obtain ⟨hrd, -⟩ := arrived_of_may h
    have he : exec (.dbgLock w) s = .next (dbgLock (arrived w s)) := congrArg Host.Outcome.next (dbgLock_write h)
    refine ⟨_, he, ?_, ?_, debug_debugDetach, fun A hA => ?_, exec_sameMem he, exec_sameVault he⟩
    · rw [dbgLock, on_congr _ (rd_debugDetach_ne (by decide)), on_put_ne _ _ _ (by decide) (.inr (.inl (by decide)))]
      exact on_putB _ _ _ (by decide) (by decide)
    · rw [dbgLock, get_congr _ (rd_debugDetach_ne (by decide)), get_put _ _ _ (by decide)]
      rfl
    · simp only [List.mem_cons, List.not_mem_nil, or_false, not_or] at hA
      obtain ⟨hw, hd, hr⟩ := hA
      exact (rd_debugDetach_ne hr).trans ((rd_put_ne (f := VLT_DBG_STAT__SCOPE) _ _ hd).trans ((rd_putB_ne (f := VLT_DBG_STAT__UNLOCKED) _ _ hd).trans (hrd A hw)))
  · intro s ctx code h hc
    subst hc
    have he := execUnlock_eq h
    have hact : (unlockEnds (s.stagedCode 2) (fieldGet (dword (s.stagePayload s.stageHdr) 10) 0 8) s).vs.act = some (3, ctx) := by rw [vs_unlockEnds, h]
    obtain ⟨hres, hun, hsc⟩ := unlockEnds_spec (s := s) (stagedCode_lt 2) (fieldGet_lt (dword (s.stagePayload s.stageHdr) 10) 0 8)
    refine ⟨_, he, ?_, ?_, ?_, ?_, exec_sameMem he, exec_sameVault he⟩
    · rw [get_congr _ (rd_actEnd_ne hact (by decide) (by decide)), get_actOver_ne (by decide) (by decide) (.inr (by decide)), hres]
    · rw [on_congr _ (rd_actEnd_ne hact (by decide) (by decide)), on_congr _ (rd_actOver_ne (by decide) (by decide) (by decide)), hun]
    · rw [get_congr _ (rd_actEnd_ne hact (by decide) (by decide)), get_actOver_ne (by decide) (by decide) (.inl (by decide)), hsc]
    · rw [on_congr _ (rd_actEnd_ne hact (by decide) (by decide)), busy_actOver]
  · intro s c e code h hx hd hc
    subst hc
    have he := execUnlock_eq h
    refine ⟨_, he, done_actEnd (by rw [vs_unlockEnds, h]) (exec_ctx_congr (s := s) ?_ hx) hd, exec_sameMem he, exec_sameVault he⟩
    unfold State.ctx
    rw [ctxs_unlockEnds]

/-- The steward behind port 1, with nothing in the queue of the vault. -/
def stewardOfPort1 : State := Sys2Proof.Tests.stew 1 State.reset

/-- The steward's write of its own number to HP_STEWARD is carried out (R87: a transfer goes another way) and queues no commit. -/
theorem stewardOfPort1_write : (nextOf (.ownershipWrite 1 0x1004 1) stewardOfPort1).vq = [] := by decide +kernel

/-- Refutes O30: HP_STEWARD is a register of the table's class with a word in the vault, and its write by the steward's host, which
the checks let pass, queues nothing. -/
theorem not_ownershipCommits : ¬ Obligations.OwnershipCommits := by
  rintro ⟨h, -⟩
  obtain ⟨t, ht, hq, -⟩ := h stewardOfPort1 1 0x1004 160 1 (by decide +kernel) (by decide +kernel) (by decide +kernel)
    (by decide +kernel) (fun _ => by decide +kernel)
  rw [← nextOf_eq ht, stewardOfPort1_write] at hq
  exact absurd hq (by simp)

/-! ## Words of the shared SRAM (00 R18) -/

theorem bytes_of_word (w : Word) : w.extractLsb' 24 8 ++ w.extractLsb' 16 8 ++ w.extractLsb' 8 8 ++ w.extractLsb' 0 8 = w := by
  refine BitVec.eq_of_getLsbD_eq fun i hi => ?_
  simp only [BitVec.getLsbD_append, BitVec.getLsbD_extractLsb']
  split
  · next h => simp [h]
  · split
    · next h => simp [h, show 8 + (i - 8) = i by omega]
    · split
      · next h => simp [h, show 16 + (i - 8 - 8) = i by omega]
      · simp [show i - 8 - 8 - 8 < 8 by omega, show 24 + (i - 8 - 8 - 8) = i by omega]

theorem sramRd_sramWrWord_ne {a b : Nat} (w : Word) (h : b < a ∨ a + 4 ≤ b) : (s.sramWrWord a w).sramRd b = s.sramRd b := by
  unfold State.sramWrWord
  rw [sramRd_sramWr, if_neg (by omega), sramRd_sramWr, if_neg (by omega), sramRd_sramWr, if_neg (by omega), sramRd_sramWr, if_neg (by omega)]

theorem sramWord_sramWrWord (a : Nat) (w : Word) : (s.sramWrWord a w).sramWord a = w := by
  have h := bytes_of_word w
  unfold State.sramWord State.sramWrWord
  simp [sramRd_sramWr, h]

/-- Words written one after another leave every byte outside them. -/
theorem sramRd_sramWrWords_ne {l : List Word} {a b : Nat} (h : b < a ∨ a + 4 * l.length ≤ b) : (s.sramWrWords a l).sramRd b = s.sramRd b := by
  induction l generalizing s a with
  | nil => rfl
  | cons w l ih =>
    rw [List.length_cons] at h
    rw [State.sramWrWords, ih (by omega), sramRd_sramWrWord_ne _ (by omega)]

theorem sramWord_congr {t : State} {a : Nat} (h : ∀ b, a ≤ b → b < a + 4 → t.sramRd b = s.sramRd b) : t.sramWord a = s.sramWord a := by
  unfold State.sramWord
  rw [h _ (by omega) (by omega), h _ (by omega) (by omega), h _ (by omega) (by omega), h _ (by omega) (by omega)]

/-- Each reads as it was written. -/
theorem sramWord_sramWrWords {l : List Word} {a i : Nat} (h : i < l.length) : (s.sramWrWords a l).sramWord (a + 4 * i) = dword l i := by
  induction l generalizing s a i with
  | nil => exact absurd h (Nat.not_lt_zero _)
  | cons w l ih =>
    cases i with
    | zero =>
      rw [State.sramWrWords, sramWord_congr (s := s.sramWrWord a w) fun b _ hb => sramRd_sramWrWords_ne (by omega)]
      exact sramWord_sramWrWord a w
    | succ i =>
      rw [State.sramWrWords, show a + 4 * (i + 1) = a + 4 + 4 * i by omega, ih (Nat.lt_of_succ_lt_succ h)]
      rfl

/-! ## The boot ROM (02 R70, 14 R431, R432) -/

theorem beWords_length : ∀ {n : Nat} {l : List Byte}, l.length = 4 * n → (beWords l).length = n
  | 0, [], _ => rfl
  | n + 1, p :: q :: r :: z :: l, h => by
    simp only [beWords, List.length_cons] at h ⊢
    rw [beWords_length (n := n) (by omega)]

theorem digestBytes_length (v : Digest) : ([v.a, v.b, v.c, v.d, v.e, v.f, v.g, v.h].flatMap fun w => beBytes 4 w.toNat).length = 4 * 8 := by
  simp [beBytes]

theorem shaBytes_length (l : List Byte) : (shaBytes l).length = 4 * 8 := digestBytes_length _

theorem sha256_length (l : List Word) : (sha256 l).length = 8 := by
  rw [sha256, List.length_map, beWords_length (shaBytes_length _)]

/-- The code that the boot ROM shows for a source, in the source's diagnosis and in the boot status. -/
def judged (diag : FieldRef) (code : Nat) (s : State) : State := (s.put diag code).put PWR_BOOT_STATUS__FAIL_CODE code

theorem judged_spec {diag : FieldRef} {code : Nat} (hd : diag.addr = VLT_BOOT_DIAG) (hw : diag.lo + 8 ≤ 32 ∧ diag.width = 8) (hc : code < 2 ^ 8) :
    (judged diag code s).get diag = code ∧ (judged diag code s).get PWR_BOOT_STATUS__FAIL_CODE = code ∧
    (judged diag code s).get PWR_BOOT_STATUS__PHASE = s.get PWR_BOOT_STATUS__PHASE ∧
    (∀ A, A ≠ VLT_BOOT_DIAG → A ≠ PWR_BOOT_STATUS → (judged diag code s).rd A = s.rd A) ∧ (judged diag code s).vs = s.vs := by
  have hne : diag.addr ≠ PWR_BOOT_STATUS := by rw [hd]; decide
  refine ⟨?_, ?_, ?_, fun A hA hB => ?_, rfl⟩
  · rw [judged, get_congr _ (rd_put_ne _ _ hne), get_put _ _ _ (by omega), hw.2]
    exact Nat.mod_eq_of_lt hc
  · rw [judged, get_put _ _ _ (by decide)]
    exact Nat.mod_eq_of_lt hc
  · rw [judged, get_put_ne _ _ _ _ (by decide) (.inr (.inl (by decide))), get_congr _ (rd_put_ne _ _ hne.symm)]
  · rw [judged, rd_put_ne (f := PWR_BOOT_STATUS__FAIL_CODE) _ _ hB, rd_put_ne _ _ (hd ▸ hA)]

theorem bootFound_spec (src : Nat) (hdr payload trailer : List Word) :
    (bootFound src hdr payload trailer s).vs.due = 0 ∧ (bootFound src hdr payload trailer s).vs.boot = src ∧
    (bootFound src hdr payload trailer s).get PWR_BOOT_STATUS__PHASE = 4 ∧
    (bootFound src hdr payload trailer s).get PWR_BOOT_STATUS__FAIL_CODE = s.get PWR_BOOT_STATUS__FAIL_CODE ∧
    ∀ A, A ≠ PWR_BOOT_STATUS → (bootFound src hdr payload trailer s).rd A = s.rd A := by
  have hrd : ∀ A, (bootFound src hdr payload trailer s).rd A = (s.put PWR_BOOT_STATUS__PHASE 4).rd A := fun A => rd_congr rfl A
  refine ⟨rfl, rfl, ?_, ?_, fun A h => ?_⟩
  · rw [get_congr _ (hrd _), get_put _ _ _ (by decide)]
    rfl
  · rw [get_congr _ (hrd _), get_put_ne _ _ _ _ (by decide) (.inr (.inr (by decide)))]
  · rw [hrd, rd_put_ne (f := PWR_BOOT_STATUS__PHASE) _ _ h]

theorem bootWait_spec {code : Nat} (hc : code < 2 ^ 8) : (bootWait code s).vs.due = 0 ∧ (bootWait code s).vs.boot = s.vs.boot ∧
    (bootWait code s).get PWR_BOOT_STATUS__PHASE = 6 ∧ (bootWait code s).get PWR_BOOT_STATUS__FAIL_CODE = code ∧
    ∀ A, A ≠ PWR_BOOT_STATUS → (bootWait code s).rd A = s.rd A := by
  have hrd : ∀ A, (bootWait code s).rd A = ((s.put PWR_BOOT_STATUS__PHASE 6).put PWR_BOOT_STATUS__FAIL_CODE code).rd A := fun A => rd_congr rfl A
  refine ⟨rfl, rfl, ?_, ?_, fun A h => ?_⟩
  · rw [get_congr _ (hrd _), get_put_ne _ _ _ _ (by decide) (.inr (.inl (by decide))), get_put _ _ _ (by decide)]
    rfl
  · rw [get_congr _ (hrd _), get_put _ _ _ (by decide)]
    exact Nat.mod_eq_of_lt hc
  · rw [hrd, rd_put_ne (f := PWR_BOOT_STATUS__FAIL_CODE) _ _ h, rd_put_ne (f := PWR_BOOT_STATUS__PHASE) _ _ h]

/-- The source that the boot ROM tries next. -/
def dueNext (d : Nat) (s : State) : State := { s with vs := { s.vs with due := d } }

theorem rd_dueNext (d A : Nat) : (dueNext d s).rd A = s.rd A := rd_congr rfl A

/-- What the boot ROM does with the image of slot A or B. -/
theorem slotTried {img : FlashImage} {d code : Nat} (hd : s.vs.due = d) (h0 : d ≠ 0) (h3 : d ≠ 3)
    (hc : code = (if img.short then 1 else s.imageCode 1 img.hdr img.payload img.trailer none)) :
    exec (.imageFetchVerify img) s = .next (if code = 0 then
        bootFound d img.hdr img.payload img.trailer (judged (if d = 1 then VLT_BOOT_DIAG__CODE_A else VLT_BOOT_DIAG__CODE_B) code s)
      else if d = 1 then dueNext 2 (judged (if d = 1 then VLT_BOOT_DIAG__CODE_A else VLT_BOOT_DIAG__CODE_B) code s)
      else bootWait code (judged (if d = 1 then VLT_BOOT_DIAG__CODE_A else VLT_BOOT_DIAG__CODE_B) code s)) := by
  subst hd hc
  simp only [exec, execImageFetchVerify, if_neg h0, if_neg h3]
  rfl

theorem slotCode_lt {img : FlashImage} {code : Nat}
    (hc : code = (if img.short then 1 else s.imageCode 1 img.hdr img.payload img.trailer none)) : code < 2 ^ 8 := by
  rw [hc]
  exact ite_lt (by decide) (Nat.lt_of_lt_of_le (imageCode_lt ..) (by decide))

/-- The staged image as the boot ROM judges it. -/
def stagedJudged (code : Nat) (s : State) : State :=
  (((s.putB VLT_STG_STAT__ACTIVATE false).put VLT_BOOT_DIAG__CODE_STG code).put VLT_STG_STAT__RESULT code).put PWR_BOOT_STATUS__FAIL_CODE code

theorem stagedJudged_spec {code : Nat} (hc : code < 2 ^ 8) :
    (stagedJudged code s).get VLT_BOOT_DIAG__CODE_STG = code ∧ (stagedJudged code s).get PWR_BOOT_STATUS__FAIL_CODE = code ∧
    (stagedJudged code s).on VLT_STG_STAT__ACTIVATE = false ∧
    (stagedJudged code s).get PWR_BOOT_STATUS__PHASE = s.get PWR_BOOT_STATUS__PHASE ∧
    (stagedJudged code s).on PWR_BOOT_STATUS__SOURCE = s.on PWR_BOOT_STATUS__SOURCE ∧
    ∀ A, A ≠ VLT_BOOT_DIAG → A ≠ PWR_BOOT_STATUS → A ≠ 0x60034 → (stagedJudged code s).rd A = s.rd A := by
  have hboot : ∀ f : FieldRef, f.addr = PWR_BOOT_STATUS → (f.lo + f.width ≤ 8) → (stagedJudged code s).get f = s.get f := fun f ha hw => by
    rw [stagedJudged, get_put_ne _ _ _ _ (by decide) (.inr (.inl hw)), get_congr _ (rd_put_ne _ _ (by rw [ha]; decide)),
      get_congr _ (rd_put_ne _ _ (by rw [ha]; decide)), get_congr _ (rd_putB_ne _ _ (by rw [ha]; decide))]
  refine ⟨?_, ?_, ?_, hboot _ rfl (by decide), ?_, fun A hA hB hC => ?_⟩
  · rw [stagedJudged, get_congr _ (rd_put_ne _ _ (by decide)), get_congr _ (rd_put_ne _ _ (by decide)), get_put _ _ _ (by decide)]
    exact Nat.mod_eq_of_lt hc
  · rw [stagedJudged, get_put _ _ _ (by decide)]
    exact Nat.mod_eq_of_lt hc
  · rw [stagedJudged, on_congr _ (rd_put_ne _ _ (by decide)), on_put_ne _ _ _ (by decide) (.inr (.inl (by decide))), on_congr _ (rd_put_ne _ _ (by decide))]
    exact on_putB _ _ _ (by decide) (by decide)
  · unfold State.on
    rw [hboot _ rfl (by decide)]
  · rw [stagedJudged, rd_put_ne (f := PWR_BOOT_STATUS__FAIL_CODE) _ _ hB, rd_put_ne (f := VLT_STG_STAT__RESULT) _ _ hC,
      rd_put_ne (f := VLT_BOOT_DIAG__CODE_STG) _ _ hA, rd_putB_ne (f := VLT_STG_STAT__ACTIVATE) _ _ hC]

theorem stagedTried {img : FlashImage} {code : Nat} (hd : s.vs.due = 3) (hc : code = s.stagedCode 1) :
    exec (.imageFetchVerify img) s = .next (if code = 0 then bootStaged (stagedJudged code s)
      else if (stagedJudged code s).on PWR_BOOT_STATUS__SOURCE then bootWait code (stagedJudged code s)
      else dueNext 1 (stagedJudged code s)) := by
  subst hc
  simp only [exec, execImageFetchVerify, hd, if_neg (show (3 : Nat) ≠ 0 by decide)]
  rfl

/-- The firmware's memory image, its registers and its state, as the release leaves them, before a fresh challenge. -/
def imageShown (v : VaultS) (s : State) : State :=
  let s := (((List.range 8).zip (sha256 v.hdr)).foldl (fun s e => s.wr (VLT_MEAS e.1) e.2) s).wr VLT_IMG_INFO (dword v.hdr 3)
  let s := (s.put VLT_IMG_KEY__SLOT v.key).putB VLT_IMG_KEY__VALID true
  let s := s.when (v.boot != 3) fun s => s.putB PWR_BOOT_STATUS__SLOT (v.boot == 2)
  (s.put PWR_BOOT_STATUS__FAIL_CODE 0).put PWR_BOOT_STATUS__PHASE 5

/-- The slots and checkpoints of the pairs as firmware starts. -/
def pairsStart (v : VaultS) (s : State) : State :=
  let entry := List.replicate 31 0 ++ [dword v.hdr 5 + dword v.hdr 6]
  let s := (assignSlots s).each (List.range 4) fun w s => (ckptWrite w 0 (archWords entry {} 0) s).put (RED_WS_CKPT__COUNT w) 0
  let s := s.each (List.range 4) fun w s => s.when (s.get (slotPair w) != 7) fun s =>
    s.upCp (s.get (slotPair w)) fun c => { c with regs := entry, cache := none }
  s.upRed fun r => { r with krst := [0, 0, 0, 0] }

/-- The seam's ports that are enabled train. -/
def seamTrains (s : State) : State := s.each (List.range 3) fun p s =>
  s.when (s.on (SEAM_PORT_CFG__EN p) && s.get (SEAM_PORT_STAT__LINK p) == 0) fun s => s.put (SEAM_PORT_STAT__LINK p) 1

theorem firmwareRelease_eq (hb : s.vs.boot ≠ 0) (hp : s.get PWR_BOOT_STATUS__PHASE = 4) :
    exec .firmwareRelease s = .next (seamTrains (newChallenge
      (({ imageShown s.vs (pairsStart s.vs (s.sramWrWords (dword s.vs.hdr 5).toNat s.vs.payload)) with
          vs := { (imageShown s.vs (pairsStart s.vs (s.sramWrWords (dword s.vs.hdr 5).toNat s.vs.payload))).vs with
            boot := 0, build := (s.vs.hdr.drop 16).take 8, hdr := [], payload := [] } } : State).upSys fun y => { y with released := true }))) := by
  have h : ¬(s.vs.boot = 0 ∨ s.get PWR_BOOT_STATUS__PHASE ≠ 4) := by simp [hb, hp]
  simp only [exec, execFirmwareRelease, if_neg h]
  rfl

theorem rd_seamTrains {A : Nat} (h : A < 0x70000) : (seamTrains s).rd A = s.rd A :=
  each_rd _ _ _ _ fun p s => when_rd _ _ _ _ fun s => rd_put_ne _ _ (by simp only [SEAM_PORT_STAT__LINK]; omega)

/-- The measurement as the release shows it: eight words. -/
theorem measure_shown {l : List Word} (hl : l.length = 8) : (∀ j : Fin 8, (((List.range 8).zip l).foldl (fun s e => s.wr (VLT_MEAS e.1) e.2) s).rd (VLT_MEAS j.val) = dword l j.val) := by
  match l, hl with
  | [a, b, c, d, e, f, g, h], _ =>
    intro j
    match j with
    | 0 | 1 | 2 | 3 | 4 | 5 | 6 | 7 => simp [List.range, List.range.loop, VLT_MEAS, dword]

theorem imageShown_spec (v : VaultS) : (imageShown v s).get PWR_BOOT_STATUS__PHASE = 5 ∧ (imageShown v s).get PWR_BOOT_STATUS__FAIL_CODE = 0 ∧
    (imageShown v s).on VLT_IMG_KEY__VALID = true ∧ (imageShown v s).get VLT_IMG_KEY__SLOT = v.key % 4 ∧
    (imageShown v s).rd VLT_IMG_INFO = dword v.hdr 3 ∧ ∀ j : Fin 8, (imageShown v s).rd (VLT_MEAS j.val) = dword (sha256 v.hdr) j.val := by
  have hboot : ∀ {A : Nat} (u : State), A ≠ PWR_BOOT_STATUS →
      (((u.when (v.boot != 3) fun s => s.putB PWR_BOOT_STATUS__SLOT (v.boot == 2)).put PWR_BOOT_STATUS__FAIL_CODE 0).put PWR_BOOT_STATUS__PHASE 5).rd A = u.rd A :=
    fun u h => (rd_put_ne (f := PWR_BOOT_STATUS__PHASE) _ _ h).trans ((rd_put_ne (f := PWR_BOOT_STATUS__FAIL_CODE) _ _ h).trans
      (when_rd _ _ _ _ fun _ => rd_putB_ne (f := PWR_BOOT_STATUS__SLOT) _ _ h))
  refine ⟨?_, ?_, ?_, ?_, ?_, fun j => ?_⟩
  · rw [imageShown, get_put _ _ _ (by decide)]
    rfl
  · rw [imageShown, get_put_ne _ _ _ _ (by decide) (.inr (.inr (by decide))), get_put _ _ _ (by decide)]
    rfl
  · rw [imageShown, on_congr _ (hboot _ (by decide))]
    exact on_putB _ _ _ (by decide) (by decide)
  · rw [imageShown, get_congr _ (hboot _ (by decide)), State.putB, get_put_ne _ _ _ _ (by decide) (.inr (.inl (by decide))), get_put _ _ _ (by decide)]
    rfl
  · rw [imageShown, hboot _ (by decide), rd_putB_ne _ _ (by decide), rd_put_ne _ _ (by decide), rd_wr_same]
  · have h := j.isLt
    rw [imageShown, hboot _ (by simp only [VLT_MEAS, PWR_BOOT_STATUS]; omega), rd_putB_ne _ _ (by simp only [VLT_MEAS, VLT_IMG_KEY__VALID]; omega),
      rd_put_ne _ _ (by simp only [VLT_MEAS, VLT_IMG_KEY__SLOT]; omega), rd_wr_ne _ _ (by simp only [VLT_MEAS, VLT_IMG_INFO]; omega)]
    exact measure_shown (sha256_length _) j

theorem pairsStart_kept (v : VaultS) (s : State) : (pairsStart v s).sram = s.sram ∧ (pairsStart v s).vault = s.vault := by
  unfold pairsStart
  simp

theorem imageShown_kept (v : VaultS) (s : State) : (imageShown v s).sram = s.sram ∧ (imageShown v s).vault = s.vault := by
  unfold imageShown
  simp

theorem seamTrains_kept (s : State) : (seamTrains s).sram = s.sram ∧ (seamTrains s).vault = s.vault := by
  unfold seamTrains
  simp

theorem vault_sramWrWords (a : Nat) (l : List Word) : (s.sramWrWords a l).vault = s.vault := by
  induction l generalizing s a with
  | nil => rfl
  | cons w l ih => rw [State.sramWrWords, ih]; rfl

theorem sys_seamTrains : (seamTrains s).sys = s.sys := by
  unfold seamTrains
  simp

/-- Settles O20: the boot ROM's three sources in turn, and what the release of the image found shows and writes. -/
theorem imageIsVerifiedAndReleased : Obligations.ImageIsVerifiedAndReleased := by
  unfold Obligations.ImageIsVerifiedAndReleased
  refine ⟨?_, ?_, ?_, ?_, ?_⟩
  · intro s img code hd hc
    have he := slotTried hd (by decide) (by decide) hc
    obtain ⟨hA, hF, hP, hR, hV⟩ := judged_spec (s := s) (diag := VLT_BOOT_DIAG__CODE_A) rfl (by decide) (slotCode_lt hc)
    simp only [if_true] at he
    by_cases h0 : code = 0
    · obtain ⟨fd, fb, fp, ff, fr⟩ := bootFound_spec (s := judged VLT_BOOT_DIAG__CODE_A code s) 1 img.hdr img.payload img.trailer
      simp only [if_pos h0] at he ⊢
      refine ⟨_, he, (get_congr _ (fr _ (by decide))).trans hA, ff.trans hF, fd, fb, fp, fun A hA' => ?_, exec_sameMem he, exec_sameVault he⟩
      simp only [List.mem_cons, List.not_mem_nil, or_false, not_or] at hA'
      exact (fr A hA'.2).trans (hR A hA'.1 hA'.2)
    · simp only [if_neg h0] at he ⊢
      refine ⟨_, he, (get_congr _ (rd_dueNext _ _)).trans hA, (get_congr _ (rd_dueNext _ _)).trans hF, rfl, rfl, (get_congr _ (rd_dueNext _ _)).trans hP,
        fun A hA' => ?_, exec_sameMem he, exec_sameVault he⟩
      simp only [List.mem_cons, List.not_mem_nil, or_false, not_or] at hA'
      exact (rd_dueNext _ _).trans (hR A hA'.1 hA'.2)
  · intro s img code hd hc
    have he := slotTried hd (by decide) (by decide) hc
    obtain ⟨hA, hF, hP, hR, hV⟩ := judged_spec (s := s) (diag := VLT_BOOT_DIAG__CODE_B) rfl (by decide) (slotCode_lt hc)
    simp only [if_neg (show (2 : Nat) ≠ 1 by decide)] at he
    by_cases h0 : code = 0
    · obtain ⟨fd, fb, fp, ff, fr⟩ := bootFound_spec (s := judged VLT_BOOT_DIAG__CODE_B code s) 2 img.hdr img.payload img.trailer
      simp only [if_pos h0] at he ⊢
      refine ⟨_, he, (get_congr _ (fr _ (by decide))).trans hA, ff.trans hF, fd, fb, fp, fun A hA' => ?_, exec_sameMem he, exec_sameVault he⟩
      simp only [List.mem_cons, List.not_mem_nil, or_false, not_or] at hA'
      exact (fr A hA'.2).trans (hR A hA'.1 hA'.2)
    · obtain ⟨fd, fb, fp, ff, fr⟩ := bootWait_spec (s := judged VLT_BOOT_DIAG__CODE_B code s) (slotCode_lt hc)
      simp only [if_neg h0] at he ⊢
      refine ⟨_, he, (get_congr _ (fr _ (by decide))).trans hA, ff, fd, fb, fp, fun A hA' => ?_, exec_sameMem he, exec_sameVault he⟩
      simp only [List.mem_cons, List.not_mem_nil, or_false, not_or] at hA'
      exact (fr A hA'.2).trans (hR A hA'.1 hA'.2)
  · intro s img code hd hc
    have he := stagedTried (img := img) hd hc
    have hlt : code < 2 ^ 8 := hc ▸ stagedCode_lt 1
    obtain ⟨hA, hF, hact, hP, hS, hR⟩ := stagedJudged_spec (s := s) hlt
    by_cases h0 : code = 0
    · obtain ⟨fd, fb, fp, ff, fr⟩ := bootFound_spec (s := stagedJudged code s) 3 (stagedJudged code s).stageHdr
        ((stagedJudged code s).stagePayload (stagedJudged code s).stageHdr) ((stagedJudged code s).stageTrailer (stagedJudged code s).stageHdr)
      simp only [if_pos h0, if_pos (Or.inl h0 : code = 0 ∨ s.on PWR_BOOT_STATUS__SOURCE = true)] at he ⊢
      refine ⟨_, he, (get_congr _ (fr _ (by decide))).trans hA, ff.trans hF, (on_congr _ (fr _ (by decide))).trans hact, fd, fb, fp, fun A hA' => ?_,
        exec_sameMem he, exec_sameVault he⟩
      simp only [List.mem_cons, List.not_mem_nil, or_false, not_or] at hA'
      obtain ⟨h1, h2, h3⟩ := hA'
      exact (fr A h2).trans (hR A h1 h2 h3)
    · cases hsrc : s.on PWR_BOOT_STATUS__SOURCE with
      | true =>
        obtain ⟨fd, fb, fp, ff, fr⟩ := bootWait_spec (s := stagedJudged code s) hlt
        simp only [if_neg h0, hS, hsrc, if_true, or_true] at he ⊢
        refine ⟨_, he, (get_congr _ (fr _ (by decide))).trans hA, ff, (on_congr _ (fr _ (by decide))).trans hact, fd, fb, fp, fun A hA' => ?_,
          exec_sameMem he, exec_sameVault he⟩
        simp only [List.mem_cons, List.not_mem_nil, or_false, not_or] at hA'
        obtain ⟨h1, h2, h3⟩ := hA'
        exact (fr A h2).trans (hR A h1 h2 h3)
      | false =>
        simp only [if_neg h0, hS, hsrc, Bool.false_eq_true, if_false, or_false] at he ⊢
        refine ⟨_, he, (get_congr _ (rd_dueNext _ _)).trans hA, (get_congr _ (rd_dueNext _ _)).trans hF, (on_congr _ (rd_dueNext _ _)).trans hact, rfl, rfl,
          (get_congr _ (rd_dueNext _ _)).trans hP, fun A hA' => ?_, exec_sameMem he, exec_sameVault he⟩
        simp only [List.mem_cons, List.not_mem_nil, or_false, not_or] at hA'
        obtain ⟨h1, h2, h3⟩ := hA'
        exact (rd_dueNext _ _).trans (hR A h1 h2 h3)
  · intro s img hd
    simp only [exec, execImageFetchVerify, if_pos hd]
  · intro s hb hp
    have he := firmwareRelease_eq hb hp
    generalize hu : imageShown s.vs (pairsStart s.vs (s.sramWrWords (dword s.vs.hdr 5).toNat s.vs.payload)) = u at he
    obtain ⟨hphase, hfail, hvalid, hslot, hinfo, hmeas⟩ := imageShown_spec (s := pairsStart s.vs (s.sramWrWords (dword s.vs.hdr 5).toNat s.vs.payload)) s.vs
    rw [hu] at hphase hfail hvalid hslot hinfo hmeas
    have hsram : u.sram = (s.sramWrWords (dword s.vs.hdr 5).toNat s.vs.payload).sram := by rw [← hu, (imageShown_kept _ _).1, (pairsStart_kept _ _).1]
    have hrd : ∀ {A}, A < 0x60180 → (seamTrains (newChallenge (({ u with vs := { u.vs with
        boot := 0, build := (s.vs.hdr.drop 16).take 8, hdr := [], payload := [] } } : State).upSys fun y => { y with released := true }))).rd A = u.rd A :=
      fun h => (rd_seamTrains (by omega)).trans (rd_newChallenge_ne (.inl h))
    have hmem : ∀ b, (seamTrains (newChallenge (({ u with vs := { u.vs with
        boot := 0, build := (s.vs.hdr.drop 16).take 8, hdr := [], payload := [] } } : State).upSys fun y => { y with released := true }))).sramRd b =
        (s.sramWrWords (dword s.vs.hdr 5).toNat s.vs.payload).sramRd b := fun b => by
      unfold State.sramRd
      rw [(seamTrains_kept _).1, (newChallenge_kept _).2.1]
      exact congrArg (fun m => sget _ m b) hsram
    refine ⟨_, he, (get_congr _ (hrd (by decide))).trans hphase, (get_congr _ (hrd (by decide))).trans hfail, ?_, (on_congr _ (hrd (by decide))).trans hvalid,
      (get_congr _ (hrd (by decide))).trans hslot, (hrd (by decide)).trans hinfo, fun j => (hrd ?_).trans (hmeas j), ?_, fun i hi => ?_, fun b hb => ?_⟩
    · rw [sys_seamTrains, sys_newChallenge]
      rfl
    · have := j.isLt
      simp only [VLT_MEAS]
      omega
    · refine sameVault_of_vault ?_
      rw [(seamTrains_kept _).2, (newChallenge_kept _).2.2]
      refine Eq.trans (b := u.vault) rfl ?_
      rw [← hu, (imageShown_kept _ _).2, (pairsStart_kept _ _).2, vault_sramWrWords]
    · rw [sramWord_congr fun b _ _ => hmem b, sramWord_sramWrWords hi]
    · rw [hmem, sramRd_sramWrWords_ne hb]

/-! ## Staging (14 R433 to R435) -/

/-- The words of a page: what the source does not give reads as 0. -/
@[irreducible] def pageWords (l : List Word) : List Word := (l ++ List.replicate 1024 0).take 1024

theorem pageWords_length (l : List Word) : (pageWords l).length = 1024 := by
  unfold pageWords
  rw [List.length_take, List.length_append, List.length_replicate]
  omega

theorem dword_pageWords {l : List Word} {i : Nat} (h : i < 1024) : dword (pageWords l) i = dword l i := by
  unfold pageWords
  simp only [dword, List.getD_eq_getElem?_getD, List.getElem?_take, if_pos h, List.getElem?_append]
  split
  · rfl
  · next hl =>
    rw [List.getElem?_replicate, if_pos (by omega), List.getElem?_eq_none (Nat.not_lt.mp hl)]
    rfl

theorem sram_stagePage (page : Nat) (l : List Word) :
    (stagePage page l s).sram = (s.sramWrWords (0x300000 + 4096 * (page % 256)) (pageWords l)).sram := by
  unfold stagePage pageWords
  simp only [put_other, putB_other]

theorem sramRd_stagePage_ne {page b : Nat} (l : List Word) (h : b < 0x300000 + 4096 * (page % 256) ∨ 0x300000 + 4096 * (page % 256 + 1) ≤ b) :
    (stagePage page l s).sramRd b = s.sramRd b := by
  unfold State.sramRd
  rw [sram_stagePage]
  exact sramRd_sramWrWords_ne (h.imp id fun h => by rw [pageWords_length]; exact Nat.le_trans (Nat.le_of_eq (by ring)) h)

theorem stageWord_stagePage {page i : Nat} (l : List Word) (hp : page < 256) (h : i < 1024) :
    (stagePage page l s).stageWord (1024 * page + i) = dword l i := by
  have hw := sramWord_sramWrWords (s := s) (l := pageWords l) (a := 0x300000 + 4096 * page) (i := i) (by rw [pageWords_length]; exact h)
  rw [State.stageWord, show 0x300000 + 4 * (1024 * page + i) = 0x300000 + 4096 * page + 4 * i by omega, ← dword_pageWords h, ← hw]
  refine sramWord_congr fun b _ _ => ?_
  unfold State.sramRd
  rw [sram_stagePage, Nat.mod_eq_of_lt hp]

theorem verified_stagePage (page : Nat) (l : List Word) : (stagePage page l s).on VLT_STG_STAT__VERIFIED = false := by
  unfold stagePage
  rw [on_put_ne _ _ _ (by decide) (.inr (.inl (by decide))), on_putB _ _ _ (by decide) (by decide)]

/-- Pages written one after another lie in the staging area, and where they fit in it, in order. -/
theorem sramRd_stagePages_low {n page b : Nat} (l : List Word) (h : b < 0x300000) : (stagePages n page l s).sramRd b = s.sramRd b := by
  induction n generalizing s page l with
  | zero => rfl
  | succ n ih => rw [stagePages, ih, sramRd_stagePage_ne l (.inl (by omega))]

theorem sramRd_stagePages_ne {n page b : Nat} (l : List Word) (hp : page + n ≤ 256)
    (h : b < 0x300000 + 4096 * page ∨ 0x300000 + 4096 * (page + n) ≤ b) : (stagePages n page l s).sramRd b = s.sramRd b := by
  induction n generalizing s page l with
  | zero => rfl
  | succ n ih =>
    have hm : page % 256 = page := Nat.mod_eq_of_lt (by omega)
    rw [stagePages, ih _ (by omega) (by omega), sramRd_stagePage_ne l (h.imp (fun h => by omega) fun h => Nat.le_trans (Nat.add_le_add_left (Nat.mul_le_mul_left 4096 (by omega)) _) h)]

theorem stageWord_stagePages {n page i : Nat} (l : List Word) (hp : page + n ≤ 256) (h : i < 1024 * n) :
    (stagePages n page l s).stageWord (1024 * page + i) = dword l i := by
  induction n generalizing s page l i with
  | zero => omega
  | succ n ih =>
    rw [stagePages]
    by_cases hi : i < 1024
    · rw [← stageWord_stagePage (s := s) l (page := page) (by omega) hi]
      exact sramWord_congr fun b _ hb => sramRd_stagePages_ne _ (by omega) (.inl (by omega))
    · have hnext := ih (s := stagePage page l s) (page := page + 1) (l := l.drop 1024) (i := i - 1024) (by omega) (by omega)
      rw [show 1024 * (page + 1) + (i - 1024) = 1024 * page + i by omega] at hnext
      rw [hnext]
      simp [dword, List.getD_eq_getElem?_getD, show 1024 + (i - 1024) = i by omega]

theorem verified_stagePages {n page : Nat} (l : List Word) (hn : 1 ≤ n) : (stagePages n page l s).on VLT_STG_STAT__VERIFIED = false := by
  have hkeep : ∀ (n page : Nat) (l : List Word) (s : State), s.on VLT_STG_STAT__VERIFIED = false → (stagePages n page l s).on VLT_STG_STAT__VERIFIED = false := by
    intro n
    induction n with
    | zero => exact fun _ _ _ h => h
    | succ n ih => exact fun page l s _ => ih _ _ _ (verified_stagePage page l)
  cases n with
  | zero => omega
  | succ n => exact hkeep n _ _ _ (verified_stagePage page l)

/-- The state as a copy has ended: the area is free, and a copy that failed is marked. -/
def copyOver (bad : Bool) (s : State) : State := (s.putB VLT_STG_STAT__BUSY false).when bad fun s => s.putB VLT_STG_STAT__COPY_ERR true

def copyEnd (n : Nat) (bad : Bool) (s : State) : State :=
  vltEvent 2 (n + b2n bad * 2 ^ 16) (fetchAll { copyOver bad s with vs := { (copyOver bad s).vs with copying := false } })

theorem vs_hostReads (p a k n left : Nat) : (hostReads p a k n left s).vs = s.vs := by
  induction n generalizing s a left with
  | zero => rfl
  | succ n ih =>
    rw [hostReads]
    split
    · rfl
    · rw [ih]; rfl

/-- A copy whose reads went out, and one of whose reads failed. -/
theorem stageCopyDone_good {data : List Word} (hc : s.vs.copying = true) (hr : s.stewardReads = true) :
    ∃ u : State, u.vs = s.vs ∧ u.sram = s.sram ∧ u.vault = s.vault ∧
      exec (.stageCopyDone data false) s = .next (copyEnd s.vs.copyLen false (stagePages s.vs.copyLen u.vs.copyOfs data u)) := by
  refine ⟨s.hostRead s.steward s.vs.copySrc (4096 * (s.vs.copyLen + b2n false)), vs_hostReads .., (hostRead_kept ..).2.1, (hostRead_kept ..).2.2, ?_⟩
  simp only [exec, execStageCopyDone, hc, hr, Bool.not_true, Bool.false_eq_true, if_false, Bool.or_false, State.when, if_true]
  rfl

theorem stageCopyDone_failed {data : List Word} (hc : s.vs.copying = true) :
    ∃ (n : Nat) (u : State), u.sram = s.sram ∧ u.vault = s.vault ∧
      exec (.stageCopyDone data true) s = .next (copyEnd n true (stagePages n u.vs.copyOfs data u)) := by
  refine ⟨if !s.stewardReads then 0 else min (data.length / 1024) (s.vs.copyLen - 1), s.when s.stewardReads fun s => s.hostRead s.steward s.vs.copySrc
      (4096 * ((if !s.stewardReads then 0 else min (data.length / 1024) (s.vs.copyLen - 1)) + b2n true)), ?_, ?_, ?_⟩
  · exact when_sram _ _ _ fun _ => (hostRead_kept ..).2.1
  · exact when_vault _ _ _ fun _ => (hostRead_kept ..).2.2
  · cases hr : s.stewardReads <;>
      simp only [exec, execStageCopyDone, hc, hr, Bool.not_true, Bool.not_false, Bool.false_eq_true, if_false, Bool.true_or, if_true, State.when] <;>
      rfl

theorem rd_copyEnd {n A : Nat} {bad : Bool} (hA : A < evBase) (h : A ≠ VLT_EVENT__EVT.addr) : (copyEnd n bad s).rd A = (copyOver bad s).rd A :=
  (rd_vltEvent_ne hA h).trans (fetchAll_rd _ _)

@[simp] theorem vs_fetchAll : (fetchAll s).vs = s.vs := by
  unfold fetchAll
  refine each_keep s State.vs _ _ fun c u => ?_
  unfold fetchNext
  dsimp only
  split <;> rfl

theorem copyEnd_spec (n : Nat) (bad : Bool) : (copyEnd n bad s).on VLT_STG_STAT__BUSY = false ∧
    (copyEnd n bad s).on VLT_STG_STAT__VERIFIED = s.on VLT_STG_STAT__VERIFIED ∧ (bad = true → (copyEnd n bad s).on VLT_STG_STAT__COPY_ERR = true) ∧
    (copyEnd n bad s).vs.copying = false ∧ (∀ a, (copyEnd n bad s).sramRd a = s.sramRd a) ∧ (copyEnd n bad s).vault = s.vault := by
  refine ⟨?_, ?_, fun hb => ?_, ?_, fun a => ?_, ?_⟩
  · rw [on_congr _ (rd_copyEnd (by decide) (by decide)), copyOver, State.when]
    split
    · rw [on_putB_ne _ _ _ _ (by decide) (.inr (.inl (by decide)))]
      exact on_putB _ _ _ (by decide) (by decide)
    · exact on_putB _ _ _ (by decide) (by decide)
  · rw [on_congr _ (rd_copyEnd (by decide) (by decide)), copyOver, State.when]
    split
    · rw [on_putB_ne _ _ _ _ (by decide) (.inr (.inl (by decide))), on_putB_ne _ _ _ _ (by decide) (.inr (.inr (by decide)))]
    · rw [on_putB_ne _ _ _ _ (by decide) (.inr (.inr (by decide)))]
  · rw [on_congr _ (rd_copyEnd (by decide) (by decide)), copyOver, hb]
    exact on_putB _ _ _ (by decide) (by decide)
  · rw [copyEnd, vs_vltEvent, vs_fetchAll]
  · unfold State.sramRd
    rw [copyEnd, (vltEvent_kept ..).2.1, (fetchAll_kept _).2.1]
    simp [copyOver]
  · rw [copyEnd, (vltEvent_kept ..).2.2, (fetchAll_kept _).2.2]
    simp [copyOver]

theorem stageCopy_write {w : Writer} (h : s.may w VLT_STG_CTRL 1 = true) : writeCmd w false VLT_STG_CTRL 1 s = stageCopyGo (arrived w s) :=
  writeCmd_effect h row_VLT_STG_CTRL (by decide) (by decide) (by decide) (by decide) rfl rfl

theorem vs_upExec (c : Nat) (f : ExecS → ExecS) : (s.upExec c f).vs = s.vs := by
  unfold State.upExec
  split <;> rfl

theorem vs_stepDone (c n : Nat) : (stepDone c n s).vs = s.vs := by
  simp [stepDone]

theorem act_actEnd {a code : Nat} {ctx : Option Nat} {result : Word} (h : s.vs.act = some (a, ctx)) : (actEnd code result s).vs.act = none := by
  have hover : (actOver code a s).vs.act = none := by rw [actOver, vs_vltEvent]
  cases ctx with
  | none => rw [actEnd_own h, hover]
  | some c =>
    rw [actEnd_desc h, descDone, vs_upExec, vs_stepDone, vs_upExec, hover]

/-- What a verification shows, before its action ends. -/
def verifyShown (s : State) : State :=
  ((s.putB VLT_STG_STAT__VERIFIED (s.stagedCode 1 == 0)).put VLT_STG_STAT__RESULT (s.stagedCode 1)).when
    (((s.putB VLT_STG_STAT__VERIFIED (s.stagedCode 1 == 0)).put VLT_STG_STAT__RESULT (s.stagedCode 1)).get PWR_BOOT_STATUS__PHASE == 6 && !s.sys.released)
    fun u => if s.stagedCode 1 = 0 then bootStaged (u.put VLT_BOOT_DIAG__CODE_STG (s.stagedCode 1))
      else (u.put VLT_BOOT_DIAG__CODE_STG (s.stagedCode 1)).put PWR_BOOT_STATUS__FAIL_CODE (s.stagedCode 1)

theorem verify_eq {ctx : Option Nat} (h : s.vs.act = some (0, ctx)) :
    exec (.verify () ()) s = .next (actEnd (s.stagedCode 1) (dword (sha256 s.stageHdr) 0) (verifyShown s)) := by
  simp only [exec, execVerify, State.actIs, h]
  rfl

theorem activate_eq {ctx : Option Nat} (h : s.vs.act = some (1, ctx)) : exec .activate s = .next (if s.on VLT_STG_STAT__VERIFIED then
    actEnd 0 0 (s.putB VLT_STG_STAT__ACTIVATE true) else actEnd 11 0 s) := by
  simp only [exec, execActivate, State.actIs, h]
  rfl

/-- The staging area as a CLEAR leaves it. -/
def stageCleared (s : State) : State :=
  let t := { s with sram := s.sram.filter fun e => e.1 < 0x300000 || 0x400000 ≤ e.1 }
  let t := ((t.putB VLT_STG_STAT__VERIFIED false).putB VLT_STG_STAT__ACTIVATE false).put VLT_STG_STAT__PAGES 0
  { t with vs := { t.vs with staged := [] } }

theorem clear_eq {ctx : Option Nat} (h : s.vs.act = some (2, ctx)) : exec .clear s = .next (actEnd 0 0 (stageCleared s)) := by
  simp only [exec, execClear, State.actIs, h]
  rfl

theorem sget_filter {α : Type} (d : Nat → α) (p : Nat → Bool) (m : Sparse α) (k : Nat) :
    sget d (m.filter fun e => p e.1) k = if p k then sget d m k else d k := by
  induction m with
  | nil => simp [sget]
  | cons e m ih =>
    obtain ⟨j, v⟩ := e
    by_cases hj : p j
    · rw [List.filter_cons_of_pos (by exact hj), sget, sget, ih]
      split
      · next h => rw [if_pos (h ▸ hj)]
      · rfl
    · rw [List.filter_cons_of_neg (by exact hj), ih, sget]
      split
      · next h =>
        split
        · next h' => exact absurd h (h' ▸ hj)
        · rfl
      · rfl

theorem verifyShown_spec : (verifyShown s).get VLT_STG_STAT__RESULT = s.stagedCode 1 ∧
    (verifyShown s).on VLT_STG_STAT__VERIFIED = decide (s.stagedCode 1 = 0) ∧
    (verifyShown s).vs.act = s.vs.act ∧ (verifyShown s).ctxs = s.ctxs ∧
    (verifyShown s).get PWR_BOOT_STATUS__PHASE = (if s.get PWR_BOOT_STATUS__PHASE = 6 ∧ s.sys.released = false ∧ s.stagedCode 1 = 0 then 4
      else s.get PWR_BOOT_STATUS__PHASE) := by
  have hcode := stagedCode_lt (s := s) 1
  unfold verifyShown
  generalize s.stagedCode 1 = code at *
  set u := (s.putB VLT_STG_STAT__VERIFIED (code == 0)).put VLT_STG_STAT__RESULT code with hu
  have hres : u.get VLT_STG_STAT__RESULT = code := (get_put _ _ _ (by decide)).trans (Nat.mod_eq_of_lt hcode)
  have hver : u.on VLT_STG_STAT__VERIFIED = decide (code = 0) :=
    (on_put_ne _ _ _ (by decide) (.inr (.inl (by decide)))).trans (on_putB _ _ _ (by decide) (by decide))
  have hphase : u.get PWR_BOOT_STATUS__PHASE = s.get PWR_BOOT_STATUS__PHASE :=
    get_congr _ ((rd_put_ne _ _ (by decide)).trans (rd_putB_ne _ _ (by decide)))
  rw [hphase]
  by_cases hb : s.get PWR_BOOT_STATUS__PHASE = 6 ∧ s.sys.released = false
  · obtain ⟨h6, hrel⟩ := hb
    simp only [h6, hrel, State.when, beq_self_eq_true, Bool.not_false, Bool.and_true, if_true, true_and]
    by_cases h0 : code = 0
    · rw [if_pos h0, if_pos h0]
      obtain ⟨-, -, fp, -, fr⟩ := bootFound_spec (s := u.put VLT_BOOT_DIAG__CODE_STG code) 3 (u.put VLT_BOOT_DIAG__CODE_STG code).stageHdr
        ((u.put VLT_BOOT_DIAG__CODE_STG code).stagePayload (u.put VLT_BOOT_DIAG__CODE_STG code).stageHdr)
        ((u.put VLT_BOOT_DIAG__CODE_STG code).stageTrailer (u.put VLT_BOOT_DIAG__CODE_STG code).stageHdr)
      have hrd : (bootStaged (u.put VLT_BOOT_DIAG__CODE_STG code)).rd 0x60034 = u.rd 0x60034 := (fr _ (by decide)).trans (rd_put_ne _ _ (by decide))
      exact ⟨(get_congr _ hrd).trans hres, (on_congr _ hrd).trans hver, rfl, rfl, fp⟩
    · rw [if_neg h0, if_neg h0]
      have hrd : ((u.put VLT_BOOT_DIAG__CODE_STG code).put PWR_BOOT_STATUS__FAIL_CODE code).rd 0x60034 = u.rd 0x60034 :=
        (rd_put_ne _ _ (by decide)).trans (rd_put_ne _ _ (by decide))
      refine ⟨(get_congr _ hrd).trans hres, (on_congr _ hrd).trans hver, rfl, rfl, ?_⟩
      rw [get_put_ne _ _ _ _ (by decide) (.inr (.inl (by decide))), get_congr _ (rd_put_ne _ _ (by decide)), hphase, h6]
  · have hcond : (s.get PWR_BOOT_STATUS__PHASE == 6 && !s.sys.released) = false := by
      cases hrel : s.sys.released <;> simp_all
    have hnot : ¬(s.get PWR_BOOT_STATUS__PHASE = 6 ∧ s.sys.released = false ∧ code = 0) := fun h => hb ⟨h.1, h.2.1⟩
    simp only [hcond, State.when, Bool.false_eq_true, if_false]
    rw [if_neg hnot]
    exact ⟨hres, hver, rfl, rfl, hphase⟩

theorem pages_stageCleared : (stageCleared s).get VLT_STG_STAT__PAGES = 0 ∧ (stageCleared s).on VLT_STG_STAT__VERIFIED = false ∧
    (stageCleared s).on VLT_STG_STAT__ACTIVATE = false ∧
    ∀ a, (stageCleared s).sramRd a = if 0x300000 ≤ a ∧ a < 0x400000 then 0 else s.sramRd a := by
  have hrd : ∀ A, (stageCleared s).rd A =
      (((s.putB VLT_STG_STAT__VERIFIED false).putB VLT_STG_STAT__ACTIVATE false).put VLT_STG_STAT__PAGES 0).rd A := fun A => rd_congr rfl A
  refine ⟨?_, ?_, ?_, fun a => ?_⟩
  · rw [get_congr _ (hrd _), get_put _ _ _ (by decide)]
    rfl
  · rw [on_congr _ (hrd _), on_put_ne _ _ _ (by decide) (.inr (.inl (by decide))), on_putB_ne _ _ _ _ (by decide) (.inr (.inl (by decide))),
      on_putB _ _ _ (by decide) (by decide)]
  · rw [on_congr _ (hrd _), on_put_ne _ _ _ (by decide) (.inr (.inl (by decide))), on_putB _ _ _ (by decide) (by decide)]
  · refine (sget_filter _ (fun k => k < 0x300000 || 0x400000 ≤ k) s.sram a).trans ?_
    by_cases hr : 0x300000 ≤ a ∧ a < 0x400000
    · rw [if_pos hr, if_neg (by simp; omega)]
    · rw [if_neg hr, if_pos (by simp; omega)]
      rfl

theorem clear_spec {ctx : Option Nat} (h : s.vs.act = some (2, ctx)) :
    (actEnd 0 0 (stageCleared s)).get VLT_STG_STAT__PAGES = 0 ∧ (actEnd 0 0 (stageCleared s)).on VLT_STG_STAT__VERIFIED = false ∧
    (actEnd 0 0 (stageCleared s)).on VLT_STG_STAT__ACTIVATE = false ∧ (actEnd 0 0 (stageCleared s)).on VLT_STG_STAT__BUSY = false ∧
    (actEnd 0 0 (stageCleared s)).vs.act = none ∧
    (∀ a, (actEnd 0 0 (stageCleared s)).sramRd a = if 0x300000 ≤ a ∧ a < 0x400000 then 0 else s.sramRd a) ∧
    SameVault s (actEnd 0 0 (stageCleared s)) := by
  have ha : (stageCleared s).vs.act = some (2, ctx) := h
  obtain ⟨hp, hv, hact, hmem⟩ := pages_stageCleared (s := s)
  refine ⟨?_, ?_, ?_, ?_, act_actEnd ha, fun a => ?_, sameVault_of_vault (actEnd_kept ..).2.2⟩
  · rw [get_congr _ (rd_actEnd_ne ha (by decide) (by decide)), get_actOver_ne (by decide) (by decide) (.inr (by decide)), hp]
  · rw [on_congr _ (rd_actEnd_ne ha (by decide) (by decide)), State.on, get_actOver_ne (by decide) (by decide) (.inr (by decide))]
    exact hv
  · rw [on_congr _ (rd_actEnd_ne ha (by decide) (by decide)), State.on, get_actOver_ne (by decide) (by decide) (.inr (by decide))]
    exact hact
  · rw [on_congr _ (rd_actEnd_ne ha (by decide) (by decide)), busy_actOver]
  · rw [← hmem a]
    unfold State.sramRd
    rw [(actEnd_kept ..).2.1]

/-- Settles O22: the copy into the staging area, its end, and the three actions on the staged image. -/
theorem stagingActions : Obligations.StagingActions := by
  unfold Obligations.StagingActions
  refine ⟨?_, ?_, ?_, ?_, ?_, ?_, ?_, ?_, ?_, ?_⟩
  · intro s w h
    obtain ⟨hrd, -⟩ := arrived_of_may h
    have he : exec (.stageCopy w) s = .next (stageCopyGo (arrived w s)) := congrArg Host.Outcome.next (stageCopy_write h)
    have hgo : ∀ A, A ≠ 0x60034 → A ≠ PWR_WAKE_CAUSE → (stageCopyGo (arrived w s)).rd A = s.rd A := fun A hA hw =>
      (rd_putB_ne (f := VLT_STG_STAT__BUSY) _ _ hA).trans (hrd A hw)
    refine ⟨_, he, on_putB _ _ _ (by decide) (by decide), rfl, ?_, ?_, fun A hA => ?_, exec_sameMem he, exec_sameVault he⟩
    · exact get_congr VLT_STG_OFS__OFS ((rd_putB_ne (f := VLT_STG_STAT__BUSY) _ _ (by decide)).trans (hrd _ (by decide)))
    · exact get_congr VLT_STG_LEN__LEN ((rd_putB_ne (f := VLT_STG_STAT__BUSY) _ _ (by decide)).trans (hrd _ (by decide)))
    · simp only [List.mem_cons, List.not_mem_nil, or_false, not_or] at hA
      exact hgo A hA.2 hA.1
  · intro s data hc hr h1 hlen
    obtain ⟨u, hvs, hsram, hvault, he⟩ := stageCopyDone_good (data := data) hc hr
    rw [hvs] at he
    obtain ⟨hb, hv, -, hcp, hmem, hvlt⟩ := copyEnd_spec (s := stagePages s.vs.copyLen s.vs.copyOfs data u) s.vs.copyLen false
    refine ⟨_, he, hb, hv.trans (verified_stagePages data h1), hcp, fun i hi => ?_, fun a ha => ?_, sameVault_of_vault ?_⟩
    · exact (sramWord_congr fun b _ _ => hmem b).trans (stageWord_stagePages data hlen hi)
    · rw [hmem, sramRd_stagePages_ne data hlen ha]
      exact congrArg (fun m => sget _ m a) hsram
    · rw [hvlt, (stagePages_kept ..).2, hvault]
  · intro s data hc
    obtain ⟨n, u, hsram, hvault, he⟩ := stageCopyDone_failed (data := data) hc
    obtain ⟨hb, -, herr, hcp, hmem, hvlt⟩ := copyEnd_spec (s := stagePages n u.vs.copyOfs data u) n true
    refine ⟨_, he, hb, herr rfl, hcp, fun a ha => ?_, sameVault_of_vault ?_⟩
    · rw [hmem, sramRd_stagePages_low data ha]
      exact congrArg (fun m => sget _ m a) hsram
    · rw [hvlt, (stagePages_kept ..).2, hvault]
  · intro s data err hc
    simp [exec, execStageCopyDone, hc]
  · intro s ctx h
    have he := verify_eq h
    obtain ⟨hres, hver, hact, -, hphase⟩ := verifyShown_spec (s := s)
    have ha := hact.trans h
    refine ⟨_, he, ?_, ?_, ?_, act_actEnd ha, ?_, exec_sameMem he, exec_sameVault he⟩
    · rw [get_congr _ (rd_actEnd_ne ha (by decide) (by decide)), get_actOver_ne (by decide) (by decide) (.inr (by decide)), hres]
    · rw [on_congr _ (rd_actEnd_ne ha (by decide) (by decide)), State.on, get_actOver_ne (by decide) (by decide) (.inr (by decide))]
      exact hver
    · rw [on_congr _ (rd_actEnd_ne ha (by decide) (by decide)), busy_actOver]
    · rw [get_congr _ (rd_actEnd_ne ha (by decide) (by decide)), get_actOver_ne (by decide) (by decide) (.inl (by decide)), hphase]
  · intro s c e code h hx hd hc
    subst hc
    have he := verify_eq h
    obtain ⟨-, -, hact, hctx, -⟩ := verifyShown_spec (s := s)
    refine ⟨_, he, done_actEnd (hact.trans h) (exec_ctx_congr (s := s) ?_ hx) hd, exec_sameMem he, exec_sameVault he⟩
    unfold State.ctx
    rw [hctx]
  · intro s ctx h
    have he := activate_eq h
    cases hv : s.on VLT_STG_STAT__VERIFIED with
    | true =>
      rw [hv, if_pos rfl] at he
      have ha : (s.putB VLT_STG_STAT__ACTIVATE true).vs.act = some (1, ctx) := h
      refine ⟨_, he, ?_, ?_, act_actEnd ha, exec_sameMem he, exec_sameVault he⟩
      · rw [on_congr _ (rd_actEnd_ne ha (by decide) (by decide)), State.on, get_actOver_ne (by decide) (by decide) (.inr (by decide)), Bool.or_true]
        exact on_putB _ _ _ (by decide) (by decide)
      · rw [on_congr _ (rd_actEnd_ne ha (by decide) (by decide)), busy_actOver]
    | false =>
      rw [hv, if_neg Bool.false_ne_true] at he
      refine ⟨_, he, ?_, ?_, act_actEnd h, exec_sameMem he, exec_sameVault he⟩
      · rw [on_congr _ (rd_actEnd_ne h (by decide) (by decide)), State.on, get_actOver_ne (by decide) (by decide) (.inr (by decide)), Bool.or_false]
        rfl
      · rw [on_congr _ (rd_actEnd_ne h (by decide) (by decide)), busy_actOver]
  · intro s c e h hx hd
    have he := activate_eq h
    cases hv : s.on VLT_STG_STAT__VERIFIED with
    | true =>
      rw [hv, if_pos rfl] at he
      exact ⟨_, he, done_actEnd (s := s.putB VLT_STG_STAT__ACTIVATE true) h hx hd, exec_sameMem he, exec_sameVault he⟩
    | false =>
      rw [hv, if_neg Bool.false_ne_true] at he
      exact ⟨_, he, done_actEnd h hx hd, exec_sameMem he, exec_sameVault he⟩
  · exact fun s ctx h => ⟨_, clear_eq h, clear_spec h⟩
  · intro s c e h hx hd
    have he := clear_eq h
    exact ⟨_, he, done_actEnd (s := stageCleared s) h hx hd, sameVault_of_vault (actEnd_kept ..).2.2⟩

end Sys2Proof.Laws
end


section
/-! Configuration requests, refused accesses and register writes (O28, O31, O32) -/
namespace Sys2Proof.Laws
open Sys2Proof.Machine
-- One declaration after another: the whole text is checked as one file, within a bound on memory.
set_option Elab.async false

variable {s : State}

/-! ## Configuration requests (03 R76 to R78, R95) -/

theorem cfg_wakeNAll (c : Bool) (p : Nat) (s : State) : ((s.when c wakeNAll).port p).cfg = (s.port p).cfg := by
  refine when_keep s (fun u => (u.port p).cfg) _ _ fun u => each_keep u (fun u => (u.port p).cfg) _ _ fun i u =>
    when_keep u (fun u => (u.port p).cfg) _ _ fun u => ?_
  rw [port_upPort]
  split
  · next h => rw [h]
  · rfl

/-- A wake drives WAKE_N and leaves the configuration of every port. -/
theorem cfg_wake (src p : Nat) : ((wake src s).port p).cfg = (s.port p).cfg := by
  by_cases h : s.get PWR_BOOT_STATUS__PHASE = 0
  · rw [wake_of_phase0 src h]
  · have hlatch : ((latched src s).port p).cfg = (s.port p).cfg := by unfold latched; split <;> rfl
    rw [wake_eq src h]
    split
    · exact (cfg_wakeNAll _ _ _).trans hlatch
    · exact hlatch

/-- What a configuration request finds: the port that it reaches wakes a device that sleeps, or that is in a descent. -/
def configArrived (exit : Bool) (s : State) : State := s.when (exit && (!s.awake || s.on PWR_STATE__DESCENDING)) (wake 0)

theorem rd_configArrived {exit : Bool} {A : Nat} (h : A ≠ PWR_WAKE_CAUSE) : (configArrived exit s).rd A = s.rd A :=
  when_rd _ _ _ _ fun _ => rd_wake_ne 0 h

theorem cfg_configArrived (exit : Bool) (p : Nat) : ((configArrived exit s).port p).cfg = (s.port p).cfg :=
  when_keep _ (fun u => (u.port p).cfg) _ _ fun _ => cfg_wake 0 p

theorem out_configArrived (exit : Bool) : (configArrived exit s).out = s.out := when_keep _ (·.out) _ _ fun _ => out_wake 0

/-- A write of one field of a port's configuration. -/
def configPut (p : Nat) (f : CfgS → CfgS) (s : State) : State := s.upPort p fun q => { q with cfg := f q.cfg }

theorem rd_configPut (p : Nat) (f : CfgS → CfgS) (A : Nat) : (configPut p f s).rd A = s.rd A := rd_congr rfl A

theorem cfg_configPut (p : Nat) (f : CfgS → CfgS) : ((configPut p f s).port p).cfg = f (s.port p).cfg := by
  unfold configPut
  rw [port_upPort, if_pos rfl]

section Requests
variable {p : Fin 4} (hup : s.on (HP_LINK__UP p.val) = true)
include hup

theorem config_memorySpace (on : Bool) : exec (.configurationRequest p (.memorySpace on)) s =
    .next ((configArrived true s).upPort p.val fun q => { q with mse := on }) :=
  congrArg Host.Outcome.next (if_neg (by simp [hup]))

theorem config_busMaster (on : Bool) : exec (.configurationRequest p (.busMaster on)) s =
    .next (if !on then (configArrived true s).putB (HP_LINK__BME p.val) on else
      fetchAll ((wbFlush p.val ((configArrived true s).putB (HP_LINK__BME p.val) on)).each (List.range 64) (msixDue p.val))) :=
  congrArg Host.Outcome.next (if_neg (by simp [hup]))

theorem config_dState (d3 : Bool) : exec (.configurationRequest p (.dState d3)) s =
    .next ((configArrived true s).put (HP_LINK__DSTATE p.val) (if d3 then 3 else 0)) :=
  congrArg Host.Outcome.next (if_neg (by simp [hup]))

theorem config_linkPower (l : Fin 5) : exec (.configurationRequest p (.linkPower l)) s =
    .next (wbFlush p.val ((configArrived (s.get (HP_LINK__LPM p.val) == 3 && l.val == 0) s).put (HP_LINK__LPM p.val) l.val)) :=
  congrArg Host.Outcome.next (if_neg (by simp [hup]))

theorem config_bar (n : Fin 6) (v : Word) : exec (.configurationRequest p (.bar n v)) s =
    .next (configPut p.val (barWrite n.val v) (configArrived true s)) :=
  congrArg Host.Outcome.next (if_neg (by simp [hup]))

theorem config_maxPayload (k : Fin 8) : exec (.configurationRequest p (.maxPayload k)) s =
    .next (if k.val ≤ 1 then configPut p.val (fun q => { q with mps := k.val }) (configArrived true s) else configArrived true s) :=
  congrArg Host.Outcome.next (if_neg (by simp [hup]))

theorem config_maxRead (k : Fin 8) : exec (.configurationRequest p (.maxRead k)) s =
    .next (if k.val ≤ 5 then configPut p.val (fun q => { q with mrrs := k.val }) (configArrived true s) else configArrived true s) :=
  congrArg Host.Outcome.next (if_neg (by simp [hup]))

theorem config_timeout (k : Fin 16) : exec (.configurationRequest p (.timeout k)) s =
    .next (if [0, 1, 2, 5, 6].contains k.val then configPut p.val (fun q => { q with cto := k.val }) (configArrived true s)
      else configArrived true s) :=
  congrArg Host.Outcome.next (if_neg (by simp [hup]))

theorem config_read (r : CfgReg) : exec (.configurationRequest p (.read r)) s = .next (cfgRead p.val r (configArrived true s)) :=
  congrArg Host.Outcome.next (if_neg (by simp [hup]))

end Requests

/-- A field that a request may write: the value where it is supported, else the one it has. -/
theorem configField {p : Nat} {c : Prop} [Decidable c] (g : CfgS → Nat) (f : CfgS → CfgS) {k : Nat} (hf : ∀ q, g (f q) = k) :
    (g (((if c then configPut p f (configArrived true s) else configArrived true s).port p).cfg) = if c then k else g (s.port p).cfg) ∧
    OnlyRegs [PWR_WAKE_CAUSE] s (if c then configPut p f (configArrived true s) else configArrived true s) := by
  split
  · exact ⟨by rw [cfg_configPut, hf], fun A hA => (rd_configPut _ _ _).trans (rd_configArrived (by simpa using hA))⟩
  · exact ⟨by rw [cfg_configArrived], fun A hA => rd_configArrived (by simpa using hA)⟩

/-- Settles O28: each request of a port whose link is up, and none of a port whose link is down. -/
theorem configurationRequests : Obligations.ConfigurationRequests := by
  unfold Obligations.ConfigurationRequests
  refine ⟨?_, ?_, ?_, ?_, ?_, ?_, ?_, ?_, ?_, ?_, ?_⟩
  · intro s p on hup
    have he := config_memorySpace hup on
    refine ⟨_, he, by rw [port_upPort, if_pos rfl], fun A hA => ?_, exec_sameMem he, exec_sameVault he⟩
    exact (upPort_rd _ _ _ _).trans (rd_configArrived (by simpa using hA))
  · intro s p hup
    have he := config_busMaster hup false
    refine ⟨_, he, on_putB _ _ _ (by simp [HP_LINK__BME]) (by simp [HP_LINK__BME]), fun A hA => ?_, exec_sameMem he, exec_sameVault he⟩
    simp only [List.mem_cons, List.not_mem_nil, or_false, not_or] at hA
    exact (rd_putB_ne _ _ hA.2).trans (rd_configArrived hA.1)
  · intro s p hup
    have he := config_busMaster hup true
    have hrd : ∀ A, A < evBase → (fetchAll ((wbFlush p.val ((configArrived true s).putB (HP_LINK__BME p.val) true)).each (List.range 64) (msixDue p.val))).rd A =
        ((configArrived true s).putB (HP_LINK__BME p.val) true).rd A := fun A hA => by
      rw [fetchAll_rd, each_rd _ _ _ _ fun i s => msixDue_rd _ _ _ _ (Nat.lt_of_lt_of_le hA (by decide)), wbFlush_rd]
    refine ⟨_, he, ?_, fun A hA hn => ?_, exec_sameMem he, exec_sameVault he⟩
    · exact (on_congr _ (hrd _ (by simp only [HP_LINK__BME, evBase]; omega))).trans (on_putB _ _ _ (by simp [HP_LINK__BME]) (by simp [HP_LINK__BME]))
    · simp only [List.mem_cons, List.not_mem_nil, or_false, not_or] at hn
      exact (hrd A hA).trans ((rd_putB_ne _ _ hn.2).trans (rd_configArrived hn.1))
  · intro s p d3 hup
    have he := config_dState hup d3
    refine ⟨_, he, ?_, fun A hA => ?_, exec_sameMem he, exec_sameVault he⟩
    · rw [get_put _ _ _ (by simp [HP_LINK__DSTATE])]
      cases d3 <;> rfl
    · simp only [List.mem_cons, List.not_mem_nil, or_false, not_or] at hA
      exact (rd_put_ne (f := HP_LINK__DSTATE p.val) _ _ hA.2).trans (rd_configArrived hA.1)
  · intro s p l hup
    have he := config_linkPower hup l
    refine ⟨_, he, ?_, fun A hA => ?_, exec_sameMem he, exec_sameVault he⟩
    · rw [get_congr _ (wbFlush_rd _ _ _), get_put _ _ _ (by simp [HP_LINK__LPM])]
      exact Nat.mod_eq_of_lt (Nat.lt_of_lt_of_le l.isLt (by simp [HP_LINK__LPM]))
    · simp only [List.mem_cons, List.not_mem_nil, or_false, not_or] at hA
      exact (wbFlush_rd _ _ _).trans ((rd_put_ne (f := HP_LINK__LPM p.val) _ _ hA.2).trans (rd_configArrived hA.1))
  · intro s p n v hup
    have he := config_bar hup n v
    refine ⟨_, he, by rw [cfg_configPut, cfg_configArrived], fun A hA => ?_, exec_sameMem he, exec_sameVault he⟩
    exact (rd_configPut _ _ _).trans (rd_configArrived (by simpa using hA))
  · intro s p k hup
    have he := config_maxPayload hup k
    obtain ⟨hval, hregs⟩ := configField (s := s) (p := p.val) (c := k.val ≤ 1) CfgS.mps (fun q => { q with mps := k.val }) fun _ => rfl
    exact ⟨_, he, hval, hregs, exec_sameMem he, exec_sameVault he⟩
  · intro s p k hup
    have he := config_maxRead hup k
    obtain ⟨hval, hregs⟩ := configField (s := s) (p := p.val) (c := k.val ≤ 5) CfgS.mrrs (fun q => { q with mrrs := k.val }) fun _ => rfl
    exact ⟨_, he, hval, hregs, exec_sameMem he, exec_sameVault he⟩
  · intro s p k hup
    have he := config_timeout hup k
    obtain ⟨hval, hregs⟩ := configField (s := s) (p := p.val) (c := [0, 1, 2, 5, 6].contains k.val = true) CfgS.cto (fun q => { q with cto := k.val }) fun _ => rfl
    exact ⟨_, he, hval, hregs, exec_sameMem he, exec_sameVault he⟩
  · intro s p r hup
    have he := config_read hup r
    refine ⟨_, he, ?_, cfg_configArrived true p.val, fun A hA => ?_, exec_sameMem he, exec_sameVault he⟩
    · rw [← out_configArrived (s := s) true]
      exact List.length_append
    · exact (cfgRead_rd _ _ _ _).trans (rd_configArrived (by simpa using hA))
  · intro s p r hup
    simp [exec, execConfigurationRequest, hup]

/-! ## Host accesses that are not carried out (02 R62, 03 R77, R79, R85, R92) -/

/-- Rows with an index that the checks read have fewer than a thousand registers; the longer ones are the steward's. -/
def stewardWhereLong (l : List RegRow) : Bool := l.all fun r => r.n1 < 1000 || r.cls == .vault || r.cls == .steward

theorem stewardWhereLong_ite {c : Prop} [Decidable c] {l m : List RegRow} (hl : stewardWhereLong l = true) (hm : stewardWhereLong m = true) :
    stewardWhereLong (if c then l else m) = true := by split <;> assumption

theorem stewardWhereLong_rowsAt (a : Nat) : stewardWhereLong (rowsAt a) = true := by
  unfold rowsAt
  repeat' apply stewardWhereLong_ite
  all_goals decide +kernel

/-- The index of a register in its row. -/
theorem findRow_index {a i j : Nat} {r : RegRow} (h : findRow a = some (r, i, j)) : i < 1000 ∨ r.cls = .vault ∨ r.cls = .steward := by
  obtain ⟨r', hr', hx⟩ := List.exists_of_findSome?_eq_some h
  have hn := List.all_eq_true.mp (stewardWhereLong_rowsAt a) r' hr'
  unfold RegRow.index at hx
  split at hx
  · cases hx
  · dsimp only at hx
    split at hx
    · next hc =>
      simp only [Option.map_some, Option.some.injEq, Prod.mk.injEq] at hx
      obtain ⟨rfl, rfl, -⟩ := hx
      simp only [Bool.and_eq_true, Bool.or_eq_true, decide_eq_true_eq, beq_iff_eq] at hc hn
      exact hn.elim (·.imp (Nat.lt_trans hc.1.1) .inl) (.inr ∘ .inr)
    · cases hx

/-- The checks of R85 to R87 find the state as the request arrives as they find it before. -/
theorem writeReason_arrived {w : Writer} {bar2 : Bool} {a : Nat} (ha : s.awake = true) (hlt : a < 2 ^ 20) :
    (arrived w s).writeReason w bar2 a = s.writeReason w bar2 a := by
  obtain ⟨R, bw, hu, hrd⟩ := arrived_waked s w ha
  rw [hu]
  by_cases hlong : ∃ r i j, findRow a = some (r, i, j) ∧ (r.cls = .vault ∨ r.cls = .steward)
  · obtain ⟨r, i, j, hr, hc⟩ := hlong
    cases w with
    | firmware n =>
      unfold State.writeReason
      simp only [fwReason_waked s R bw hrd]
    | host p =>
      cases bar2 with
      | true => exact writeReason_page_waked p hlt hrd
      | false =>
        unfold State.writeReason
        dsimp only
        rw [on_waked s R bw hrd (HP_CFG__RO_PORT p.val) (by simp only [HP_CFG__RO_PORT, PWR_WAKE_CAUSE]; omega),
          show (waked s R bw).sys.released = s.sys.released from rfl]
        simp only [hr]
        rcases hc with hc | hc <;> simp only [hc, State.hostReason, steward_waked s R bw hrd, Bool.false_eq_true, if_false]
  · exact writeReason_waked s R bw hrd w bar2 a hlt fun r i j h => (findRow_index h).resolve_right fun hc => hlong ⟨r, i, j, h, hc⟩

theorem rd_arrived {w : Writer} (ha : s.awake = true) {A : Nat} (h : A ≠ PWR_WAKE_CAUSE) : (arrived w s).rd A = s.rd A := by
  obtain ⟨R, bw, hu, hrd⟩ := arrived_waked s w ha
  rw [hu, hrd A h]

theorem out_arrived {w : Writer} (ha : s.awake = true) : (arrived w s).out = s.out := by
  obtain ⟨R, bw, hu, -⟩ := arrived_waked s w ha
  rw [hu]
  rfl

theorem awake_of_two (h : 2 ≤ s.get PWR_STATE__STATE) : s.awake = true := decide_eq_true h

/-- A request at a port of a device that is awake, where the link is up. -/
theorem hostAccess_awake {p : Fin 4} {x : Access} (hup : s.on (HP_LINK__UP p.val) = true) (ha : s.awake = true) :
    hostAccess p x s = if !s.portTakes p.val then arrived (.host p) s
      else if !(s.port p.val).mse then (arrived (.host p) s).emit (.unsupported p.val)
      else if x.long then longAccess p.val x (arrived (.host p) s) else access (.host p) x (arrived (.host p) s) := by
  obtain ⟨R, bw, hu, hrd⟩ := arrived_waked s (.host p) ha
  have hp : (arrived (.host p) s).portTakes p.val = s.portTakes p.val := by rw [hu, portTakes_waked s R bw hrd]
  have hm : (arrived (.host p) s).port p.val = s.port p.val := by rw [hu]; rfl
  unfold hostAccess
  simp only [hup, ha, Bool.not_true, Bool.false_eq_true, if_false]
  rw [← hp, ← hm]
  rfl

/-- A port that takes no request: its link is down, or it is in D3hot. -/
theorem hostAccess_untaken {p : Fin 4} {x : Access} (hp : s.portTakes p.val = false) (ha : s.awake = true) :
    hostAccess p x s = s ∨ hostAccess p x s = arrived (.host p) s := by
  cases hup : s.on (HP_LINK__UP p.val) with
  | false => exact .inl (by simp [hostAccess, hup])
  | true => exact .inr (by rw [hostAccess_awake hup ha, hp]; rfl)

theorem hostAccess_mseOff {p : Fin 4} {x : Access} (hp : s.portTakes p.val = true) (ha : s.awake = true) (hm : (s.port p.val).mse = false) :
    hostAccess p x s = (arrived (.host p) s).emit (.unsupported p.val) := by
  rw [hostAccess_awake (portTakes_up s hp) ha, hp, hm]
  rfl

theorem hostAccess_long {p : Fin 4} {x : Access} (hp : s.portTakes p.val = true) (ha : s.awake = true) (hm : (s.port p.val).mse = true)
    (hx : x.long = true) : hostAccess p x s = longAccess p.val x (arrived (.host p) s) := by
  rw [hostAccess_awake (portTakes_up s hp) ha, hp, hm, hx]
  rfl

/-- A request to a device that sleeps wakes it and is held. -/
theorem hostAccess_asleep {p : Fin 4} {x : Access} (hup : s.on (HP_LINK__UP p.val) = true) (h : s.get PWR_STATE__STATE < 2) :
    hostAccess p x s = holdAccess (.host p) x (wake 0 s) := by
  have ha : s.awake = false := decide_eq_false (Nat.not_le.mpr h)
  simp [hostAccess, hup, ha]

theorem held_wake (src : Nat) : (wake src s).sys.held = s.sys.held := by
  by_cases h : s.get PWR_BOOT_STATUS__PHASE = 0
  · rw [wake_of_phase0 src h]
  · rw [sys_wake src h]

/-- An aligned write of a whole word that reaches a port which takes it is made as its request finds the state. -/
theorem hostWrite_goes {p : Fin 4} {bar2 : Bool} {a : BitVec 20} {v : Word} (hp : s.portTakes p.val = true) (hm : (s.port p.val).mse = true)
    (hw : s.accessWaits bar2 a.toNat = false) : hostAccess p { bar2 := bar2, addr := a, be := 0xF#4, value := some v } s =
      if a.toNat % 4 ≠ 0 then arrived (.host p) s else doWrite (.host p) bar2 a.toNat v (arrived (.host p) s) := by
  have ha := awake_of_goes s hw
  obtain ⟨R, bw, hu, hrd⟩ := arrived_waked s (.host p) ha
  have hw' : (arrived (.host p) s).accessWaits bar2 a.toNat = false := by rw [hu, accessWaits_waked s R bw hrd]; exact hw
  rw [hostAccess_awake (portTakes_up s hp) ha, hp, hm]
  simp [access, hw']

/-- A write that the checks of R85 to R87 refuse with a reason that no table keeps in HP_OWN_STATUS, or keeps there with it. -/
theorem doWrite_refused {p : Fin 4} {bar2 : Bool} {a k : Nat} {v : Word} (hk : s.writeReason (.host p) bar2 a = k) (h0 : k ≠ 0) (hq : k ≠ quietDrop)
    (h16 : k < 16) : ∃ u : State, (u = s ∨ u = ownRefuse a 1 s) ∧ doWrite (.host p) bar2 a v s = deny p.val a bar2 k u := by
  have hown : k ≠ ownBad ∧ k ≠ xferBad := by unfold ownBad xferBad; omega
  unfold doWrite
  cases bar2 with
  | true => exact ⟨s, .inl rfl, by simp [hk, h0, State.when, hq, denyW]⟩
  | false =>
    by_cases hmx : msixAddr a = true
    · exact ⟨s, .inl rfl, by simp [hmx, hk, h0, State.when, hq, denyW]⟩
    · have hbus : busWrite (.host p) a v none s = .refused k := by simp [busWrite, hk, h0]
      simp only [hmx, hbus, Bool.false_eq_true, if_false]
      unfold refuseRecord
      rw [if_neg (by simp [hown])]
      have hdeny : ∀ u : State, (u.when (k != 0 && k != quietDrop) (denyW (.host p) a false k)) = deny p.val a false k u := fun u => by
        simp [State.when, h0, hq, denyW]
      dsimp only
      rw [hdeny]
      by_cases htab : (k == 2 && ownTableAddr a) = true
      · exact ⟨ownRefuse a 1 s, .inr rfl, congrArg _ (if_pos htab)⟩
      · exact ⟨s, .inl rfl, congrArg _ (if_neg htab)⟩

theorem refuseRecord_quiet {w : Writer} {a : Nat} : refuseRecord w a quietDrop s = s := rfl

/-- One that they drop without a record changes nothing. -/
theorem doWrite_quiet {p : Fin 4} {bar2 : Bool} {a : Nat} {v : Word} (hk : s.writeReason (.host p) bar2 a = quietDrop) :
    doWrite (.host p) bar2 a v s = s := by
  have h0 : quietDrop ≠ 0 := by decide
  unfold doWrite
  cases bar2 with
  | true => simp [hk, h0, State.when]
  | false =>
    by_cases hmx : msixAddr a = true
    · simp [hmx, hk, h0, State.when]
    · have hbus : busWrite (.host p) a v none s = .refused quietDrop := by simp [busWrite, hk, h0]
      simp only [hmx, hbus, Bool.false_eq_true, if_false]
      exact refuseRecord_quiet

theorem unitReason_lt (p : Nat) (o : Option Nat) : s.unitReason p o < 16 := by
  unfold State.unitReason
  split <;> exact ite_lt (by decide) (by decide)

theorem hostReason_lt (p : Nat) (cls : WrClass) (i j : Nat) : s.hostReason p cls i j < 16 := by
  unfold State.hostReason
  cases cls
  case leg | islandLeg | fastCh | pi => exact unitReason_lt _ _
  case mMode | pairCtrl | nobody | hpEvent => dsimp only; decide
  case evRoute | evCoal | evRing => exact ite_lt (by decide) (ite_lt (by decide) (by decide))
  all_goals exact ite_lt (by decide) (by decide)

theorem writeReason_host_lt (p : Fin 4) (bar2 : Bool) (a : Nat) : s.writeReason (.host p) bar2 a < 16 := by
  unfold State.writeReason
  refine ite_lt (by decide) (ite_lt (by decide) (ite_lt (ite_lt (by decide) (ite_lt (by decide) ?_)) (ite_lt (by decide) ?_)))
  · split
    · exact ite_lt (by decide) (by decide)
    · decide
  · split
    · exact hostReason_lt ..
    · decide

theorem bar_deny_first {p addr reason : Nat} {bar2 : Bool} (hp : p < 4) (h : s.on (HP_DENY_INFO__VALID p) = false) :
    (deny p addr bar2 reason s).on (HP_DENY_INFO__BAR p) = bar2 := by
  have hfree : (talCount 0x62 (8 + p) 1 0 s).on (HP_DENY_INFO__VALID p) = false :=
    (on_congr _ (talCount_rd _ _ _ _ s _ (by simp only [HP_DENY_INFO__VALID]; omega))).trans h
  unfold deny
  simp only [hfree, Bool.false_eq_true, if_false]
  rw [on_congr _ (raiseFree_rd _ _ _ _ (by simp only [HP_DENY_INFO__BAR]; omega)), State.putBit,
    on_congr _ (rd_put_ne _ _ (by simp only [HP_DENY_INFO__BAR, HP_EVENT__DENIED]; omega)),
    on_putB_ne _ _ _ _ (by simp [HP_DENY_INFO__VALID]) (.inr (.inl (by simp [HP_DENY_INFO__VALID, HP_DENY_INFO__BAR]))),
    on_putB _ _ _ (by simp [HP_DENY_INFO__BAR]) (by simp [HP_DENY_INFO__BAR])]

theorem ofNat_toNat_setWidth (a : BitVec 20) : BitVec.ofNat 32 a.toNat = a.setWidth 32 := by
  exact BitVec.eq_of_toNat_eq (by rw [BitVec.toNat_ofNat, BitVec.toNat_setWidth])

theorem hostWrite_denied {p : Fin 4} {bar2 : Bool} {a : BitVec 20} {v : Word} {st : Option CoreStore} {k : Nat} (hp : s.portTakes p.val = true)
    (hm : (s.port p.val).mse = true) (hw : s.accessWaits bar2 a.toNat = false) (h4 : a.toNat % 4 = 0)
    (hk : s.writeReason (.host p) bar2 a.toNat = k) (h0 : k ≠ 0) (hq : k ≠ quietDrop) (hv : s.on (HP_DENY_INFO__VALID p.val) = false) :
    ∃ t, exec (.registerWrite (.host p) bar2 a 0xF (v, st)) s = .next t ∧ t.on (HP_DENY_INFO__VALID p.val) = true ∧
      t.get (HP_DENY_INFO__REASON p.val) = k ∧ t.rd (HP_DENY_ADDR p.val) = a.setWidth 32 ∧
      OnlyRegsBelow evBase [PWR_WAKE_CAUSE, HP_EVENT, HP_OWN_STATUS__LAST_REFUSE.addr, HP_DENY_INFO p.val, HP_DENY_ADDR p.val] s t ∧
      SameMem s t ∧ SameVault s t := by
  have ha := awake_of_goes s hw
  have hgo := hostWrite_goes (v := v) hp hm hw
  rw [if_neg (by simp [h4])] at hgo
  have hk16 : k < 16 := hk ▸ writeReason_host_lt p bar2 a.toNat
  obtain ⟨u, hu, hdo⟩ := doWrite_refused (s := arrived (.host p) s) (v := v) ((writeReason_arrived ha a.isLt).trans hk) h0 hq hk16
  have he : exec (.registerWrite (.host p) bar2 a 0xF (v, st)) s = .next (deny p.val a.toNat bar2 k u) := congrArg Host.Outcome.next (hgo.trans hdo)
  have hrd : ∀ A, A ≠ HP_OWN_STATUS__LAST_REFUSE.addr → A ≠ PWR_WAKE_CAUSE → u.rd A = s.rd A := fun A ho hw => by
    rcases hu with rfl | rfl
    · exact rd_arrived ha hw
    · rw [ownRefuse, rd_put_ne (f := HP_OWN_STATUS__REFUSE_OFFSET) _ _ ho, rd_put_ne (f := HP_OWN_STATUS__LAST_REFUSE) _ _ ho, rd_arrived ha hw]
  have hfree : u.on (HP_DENY_INFO__VALID p.val) = false := (on_congr _ (hrd _ (by simp only [HP_DENY_INFO__VALID, HP_OWN_STATUS__LAST_REFUSE]; omega)
    (by simp only [HP_DENY_INFO__VALID, PWR_WAKE_CAUSE]; omega))).trans hv
  obtain ⟨hvalid, hreason, haddr⟩ := deny_first u p.val a.toNat bar2 k p.2 hfree
  refine ⟨_, he, hvalid, hreason.trans (Nat.mod_eq_of_lt hk16), haddr.trans (ofNat_toNat_setWidth a), fun A hA hn => ?_, exec_sameMem he, exec_sameVault he⟩
  simp only [List.mem_cons, List.not_mem_nil, or_false, not_or] at hn
  obtain ⟨hwk, hev, ho, hi, had⟩ := hn
  rw [rd_deny_ne hA hi had hev, hrd A ho hwk]

/-- Settles O31: what a host's request finds at its port, and the record of a write that the checks refuse. -/
theorem accessesThatAreRefused : Obligations.AccessesThatAreRefused := by
  unfold Obligations.AccessesThatAreRefused
  refine ⟨?_, ?_, ?_, ?_, ?_, ?_, ?_, ?_, ?_, ?_, ?_, ?_, ?_⟩
  · intro s p bar2 wr a be v st h
    simp [exec, execRegisterWrite, execLongRequest, hostAccess, h]
  · intro s p bar2 a be v st hup h
    have he : exec (.registerWrite (.host p) bar2 a be (v, st)) s = .next (holdAccess (.host p) _ (wake 0 s)) :=
      congrArg Host.Outcome.next (hostAccess_asleep hup h)
    refine ⟨_, he, ?_, fun A hA => rd_wake_ne 0 (by simpa using hA), exec_sameMem he, exec_sameVault he⟩
    rw [← held_wake (s := s) 0]
    rfl
  · intro s p bar2 wr a hup h
    have he : exec (.longRequest p bar2 a wr) s = .next (holdAccess (.host p) _ (wake 0 s)) :=
      congrArg Host.Outcome.next (hostAccess_asleep hup h)
    refine ⟨_, he, ?_, out_wake 0, fun A hA => rd_wake_ne 0 (by simpa using hA), exec_sameMem he, exec_sameVault he⟩
    rw [← held_wake (s := s) 0]
    exact List.length_append
  · intro s p bar2 a be v st hp h
    obtain ⟨t, he, ht⟩ : ∃ t, exec (.registerWrite (.host p) bar2 a be (v, st)) s = .next t ∧ (t = s ∨ t = arrived (.host p) s) :=
      ⟨_, rfl, hostAccess_untaken hp (awake_of_two h)⟩
    refine ⟨t, he, ?_, fun A hA => ?_, exec_sameMem he, exec_sameVault he⟩
    · rcases ht with rfl | rfl
      · rfl
      · exact out_arrived (awake_of_two h)
    · rcases ht with rfl | rfl
      · rfl
      · exact rd_arrived (awake_of_two h) (by simpa using hA)
  · intro s p bar2 wr a hp h
    obtain ⟨t, he, ht⟩ : ∃ t, exec (.longRequest p bar2 a wr) s = .next t ∧ (t = s ∨ t = arrived (.host p) s) :=
      ⟨_, rfl, hostAccess_untaken hp (awake_of_two h)⟩
    refine ⟨t, he, ?_, fun A hA => ?_, exec_sameMem he, exec_sameVault he⟩
    · rcases ht with rfl | rfl
      · rfl
      · exact out_arrived (awake_of_two h)
    · rcases ht with rfl | rfl
      · rfl
      · exact rd_arrived (awake_of_two h) (by simpa using hA)
  · intro s p bar2 a be v st hp h hm
    have he : exec (.registerWrite (.host p) bar2 a be (v, st)) s = .next ((arrived (.host p) s).emit (.unsupported p.val)) :=
      congrArg Host.Outcome.next (hostAccess_mseOff hp (awake_of_two h) hm)
    refine ⟨_, he, ?_, fun A hA => rd_arrived (awake_of_two h) (by simpa using hA), exec_sameMem he, exec_sameVault he⟩
    rw [← out_arrived (w := .host p) (awake_of_two h)]
    rfl
  · intro s p bar2 wr a hp h hm
    have he : exec (.longRequest p bar2 a wr) s = .next ((arrived (.host p) s).emit (.unsupported p.val)) :=
      congrArg Host.Outcome.next (hostAccess_mseOff hp (awake_of_two h) hm)
    refine ⟨_, he, ?_, fun A hA => rd_arrived (awake_of_two h) (by simpa using hA), exec_sameMem he, exec_sameVault he⟩
    rw [← out_arrived (w := .host p) (awake_of_two h)]
    rfl
  · intro s p bar2 a hp h hm
    have he : exec (.longRequest p bar2 a false) s = .next ((arrived (.host p) s).emit (.abort p.val)) :=
      congrArg Host.Outcome.next (hostAccess_long hp (awake_of_two h) hm rfl)
    refine ⟨_, he, ?_, fun A hA => rd_arrived (awake_of_two h) (by simpa using hA), exec_sameMem he, exec_sameVault he⟩
    rw [← out_arrived (w := .host p) (awake_of_two h)]
    rfl
  · intro s p bar2 a hp h hm hv
    have he : exec (.longRequest p bar2 a true) s = .next (deny p.val a.toNat bar2 6 (arrived (.host p) s)) :=
      congrArg Host.Outcome.next (hostAccess_long hp (awake_of_two h) hm rfl)
    have hfree : (arrived (.host p) s).on (HP_DENY_INFO__VALID p.val) = false :=
      (on_congr _ (rd_arrived (awake_of_two h) (by simp only [HP_DENY_INFO__VALID, PWR_WAKE_CAUSE]; omega))).trans hv
    obtain ⟨hvalid, hreason, haddr⟩ := deny_first (arrived (.host p) s) p.val a.toNat bar2 6 p.2 hfree
    refine ⟨_, he, hvalid, hreason, count_deny_first p.2 hfree, bar_deny_first p.2 hfree, haddr.trans (ofNat_toNat_setWidth a), fun A hA hn => ?_,
      exec_sameMem he, exec_sameVault he⟩
    simp only [List.mem_cons, List.not_mem_nil, or_false, not_or] at hn
    obtain ⟨hw, hev, hi, had⟩ := hn
    rw [rd_deny_ne hA hi had hev, rd_arrived (awake_of_two h) hw]
  · intro s p bar2 a hp h hm hv
    have he : exec (.longRequest p bar2 a true) s = .next (deny p.val a.toNat bar2 6 (arrived (.host p) s)) :=
      congrArg Host.Outcome.next (hostAccess_long hp (awake_of_two h) hm rfl)
    have hne : HP_DENY_INFO p.val ≠ PWR_WAKE_CAUSE := by simp only [HP_DENY_INFO, PWR_WAKE_CAUSE]; omega
    obtain ⟨hcount, hreg⟩ := deny_counted (s := arrived (.host p) s) (addr := a.toNat) (reason := 6) (bar2 := bar2) p.2
      ((on_congr (HP_DENY_INFO__VALID p.val) (rd_arrived (awake_of_two h) hne)).trans hv)
    refine ⟨_, he, hcount.trans ?_, fun A hA hn => ?_, exec_sameMem he, exec_sameVault he⟩
    · rw [get_congr (HP_DENY_INFO__COUNT p.val) (rd_arrived (awake_of_two h) hne)]
    · simp only [List.mem_cons, List.not_mem_nil, or_false, not_or] at hn
      rw [hreg A hA hn.2, rd_arrived (awake_of_two h) hn.1]
  · exact fun s p bar2 a v st k hp hm hw h4 hk h0 hq hv => hostWrite_denied hp hm hw h4 hk h0 hq hv
  · intro s p bar2 a v st hp hm hw hk
    have ha := awake_of_goes s hw
    have hk' := (writeReason_arrived (w := .host p) (bar2 := bar2) ha a.isLt).trans hk
    have he : exec (.registerWrite (.host p) bar2 a 0xF (v, st)) s = .next (arrived (.host p) s) := by
      refine congrArg Host.Outcome.next ((hostWrite_goes hp hm hw).trans ?_)
      split
      · rfl
      · exact doWrite_quiet hk'
    exact ⟨_, he, fun A hA => rd_arrived ha (by simpa using hA), exec_sameMem he, exec_sameVault he⟩
  · intro s p v st hp hm h2 hrel hro hst hv
    have hrow : findRow 0x48028 = some (⟨0x48028, 1, 4, 1, 4, .safety, false, 0, 0, 0xFFFFFFFF, 0, 289, 0⟩, 0, 0) := by decide +kernel
    have hk : s.writeReason (.host p) false 0x48028 = 2 := by
      have hmx : msixAddr 0x48028 = false := by decide
      simp [State.writeReason, hro, hrel, hmx, hrow, State.hostReason, hst]
    have hw : s.accessWaits false 0x48028 = false := by
      have hn : needsClock false 0x48028 = none := by decide
      simp [State.accessWaits, hn, awake_of_two h2]
    obtain ⟨t, he, hvalid, hreason, haddr, hregs, hmem, hvault⟩ := hostWrite_denied (v := v) (st := st) (a := 0x48028#20) hp hm hw (by decide) hk
      (by decide) (by decide) hv
    refine ⟨t, he, hregs _ (by decide) ?_, hvalid, hreason, haddr, hmem, hvault⟩
    simp only [List.mem_cons, List.not_mem_nil, or_false, PWR_WAKE_CAUSE, HP_EVENT, HP_OWN_STATUS__LAST_REFUSE, HP_DENY_INFO, HP_DENY_ADDR]
    omega

/-! ## Writes that go through, and the writes that a pair holds (03 R85, 13 R388 to R390) -/

theorem row_AX_REF1 (a : Fin 8) :
    findRow (0x10044 + 0x1000 * a.val) = some (⟨0x10044, 8, 0x1000, 1, 4, .axis, true, 0xFFFFFFFF, 0, 0, 0, 0, 0⟩, a.val, 0) := by
  revert a; decide +kernel

theorem msixAddr_AX_REF1 (a : Fin 8) : msixAddr (0x10044 + 0x1000 * a.val) = false := by revert a; decide

theorem row_RED_CP_CTRL (m : Fin 5) :
    findRow (RED_CP_CTRL m.val) = some (⟨0x50044, 5, 0x10, 1, 4, .pairCtrl, false, 0, 0, 0, 0, 0, 0⟩, m.val, 0) := by
  revert m; decide +kernel

/-- The shape of the rows of the contexts: 256 words, 64 bytes apart. -/
def ctxShape (r : RegRow) : Bool := r.n1 == 256 && r.s1 == 0x40 && r.n2 == 1 && r.s2 == 4 && decide (0x8000 ≤ r.addr) && decide (r.addr < 0x8040)

theorem index_ctx {r : RegRow} (h : ctxShape r = true) {c d : Nat} (hc : c < 256) (hd : d < 0x40) :
    r.index (0x8000 + d + 0x40 * c) = if r.addr = 0x8000 + d then some (c, 0) else none := by
  simp only [ctxShape, Bool.and_eq_true, beq_iff_eq, decide_eq_true_eq] at h
  obtain ⟨⟨⟨⟨⟨h1, h2⟩, h3⟩, h4⟩, hlo⟩, hhi⟩ := h
  unfold RegRow.index
  simp only [h1, h2, h3, h4]
  by_cases he : r.addr = 0x8000 + d
  · rw [if_pos he, if_neg (by omega), if_pos (by simp only [Bool.and_eq_true, decide_eq_true_eq, beq_iff_eq]; omega)]
    exact congrArg some (Prod.ext (by dsimp only; omega) (by dsimp only; omega))
  · rw [if_neg he]
    split
    · rfl
    · exact if_neg (by simp only [Bool.and_eq_true, decide_eq_true_eq, beq_iff_eq]; omega)

/-- The row of a context's register. -/
theorem findRow_ctx (c : Fin 256) {d : Nat} (hd : d < 0x40) {r : RegRow} (hr : (ctxRows.find? fun r => r.addr == 0x8000 + d) = some r) :
    findRow (0x8000 + d + 0x40 * c.val) = some (r, c.val, 0) := by
  have hrows : rowsAt (0x8000 + d + 0x40 * c.val) = ctxRows := by
    unfold rowsAt
    rw [if_neg (by omega), if_neg (by omega), if_pos (by omega), if_neg (by omega)]
  have hall : ∀ r ∈ ctxRows, ctxShape r = true := by decide
  unfold findRow
  rw [hrows]
  generalize ctxRows = l at hr hall
  induction l with
  | nil => cases hr
  | cons q l ih =>
    rw [List.findSome?_cons, index_ctx (hall q List.mem_cons_self) c.isLt hd]
    rw [List.find?_cons] at hr
    by_cases hq : q.addr = 0x8000 + d
    · rw [if_pos hq]
      simp only [hq, beq_self_eq_true] at hr
      cases hr
      rfl
    · rw [if_neg hq]
      simp only [beq_eq_false_iff_ne.mpr hq] at hr
      exact ih hr fun r h => hall r (List.mem_cons_of_mem _ h)

theorem row_HP_CTX_LEDGER1 (c : Fin 256) :
    findRow (HP_CTX_LEDGER1 c.val) = some (⟨0x8024, 256, 0x40, 1, 4, .ctx, false, 0, 0, 0, 0, 0, 0⟩, c.val, 0) :=
  findRow_ctx c (d := 0x24) (by decide) rfl

theorem registerWrite_host {p : Fin 4} {a : Nat} {v : Word} {st : Option CoreStore} :
    exec (.registerWrite (.host p) false (BitVec.ofNat 20 a) 0xF (v, st)) s = .next (writeCmd (.host p) false a v s) := rfl

theorem ref1_effect (p : Fin 4) (a : Fin 8) (v : Word) (s : State) :
    regEffect (.host p) ⟨0x10044, 8, 0x1000, 1, 4, .axis, true, 0xFFFFFFFF, 0, 0, 0, 0, 0⟩ (0x10044 + 0x1000 * a.val) a.val 0 v none s =
      (s.wr (0x10044 + 0x1000 * a.val)
        ((⟨0x10044, 8, 0x1000, 1, 4, .axis, true, 0xFFFFFFFF, 0, 0, 0, 0, 0⟩ : RegRow).stored (s.rd (0x10044 + 0x1000 * a.val)) v), 0) := rfl

/-- A register whose bits are all RW takes the word written. -/
theorem stored_all (r : RegRow) (hr : r.rw = 0xFFFFFFFF) (hw : r.w1c = 0) (old v : Word) : r.stored old v = v := by
  have hall : BitVec.ofNat 32 r.rw = BitVec.allOnes 32 := by rw [hr]; rfl
  have hnone : BitVec.ofNat 32 r.w1c = 0#32 := by rw [hw]
  unfold RegRow.stored
  simp only [hall, hnone]
  rw [BitVec.not_allOnes, BitVec.and_zero, BitVec.zero_or, BitVec.and_allOnes, BitVec.and_zero, BitVec.not_zero, BitVec.and_allOnes]

/-- A write with a byte enable clear is discarded (00 R15). -/
theorem hostWrite_part {p : Fin 4} {bar2 : Bool} {a : BitVec 20} {be : BitVec 4} {v : Word} (hp : s.portTakes p.val = true)
    (hm : (s.port p.val).mse = true) (hw : s.accessWaits bar2 a.toNat = false) (hb : be ≠ 0xF) :
    hostAccess p { bar2 := bar2, addr := a, be := be, value := some v } s = arrived (.host p) s := by
  have ha := awake_of_goes s hw
  obtain ⟨R, bw, hu, hrd⟩ := arrived_waked s (.host p) ha
  have hw' : (arrived (.host p) s).accessWaits bar2 a.toNat = false := by rw [hu, accessWaits_waked s R bw hrd]; exact hw
  rw [hostAccess_awake (portTakes_up s hp) ha, hp, hm]
  simp only [access, hw', Bool.not_true, Bool.false_eq_true, if_false]
  exact if_pos (.inl hb)

/-- A row of LEDGER1's address is LEDGER1's. -/
def ledgerRows (l : List RegRow) : Bool := l.all fun r => r.addr != 0x8024 || (r.n1 == 256 && r.s1 == 0x40 && r.n2 == 1 && r.s2 == 4)

theorem ledgerRows_ite {c : Prop} [Decidable c] {l m : List RegRow} (hl : ledgerRows l = true) (hm : ledgerRows m = true) :
    ledgerRows (if c then l else m) = true := by split <;> assumption

theorem ledgerRows_rowsAt (a : Nat) : ledgerRows (rowsAt a) = true := by
  unfold rowsAt
  repeat' apply ledgerRows_ite
  all_goals decide +kernel

theorem ledger_of_row {a i j : Nat} {r : RegRow} (h : findRow a = some (r, i, j)) (hr : r.addr = 0x8024) : i < 256 ∧ a = HP_CTX_LEDGER1 i := by
  obtain ⟨r', hr', hx⟩ := List.exists_of_findSome?_eq_some h
  have hn := List.all_eq_true.mp (ledgerRows_rowsAt a) r' hr'
  unfold RegRow.index at hx
  split at hx
  · cases hx
  · next hlt =>
    dsimp only at hx
    split at hx
    · next hc =>
      simp only [Option.map_some, Option.some.injEq, Prod.mk.injEq] at hx
      obtain ⟨rfl, rfl, -⟩ := hx
      simp only [hr, bne_self_eq_false, Bool.false_or, Bool.and_eq_true, beq_iff_eq] at hn
      obtain ⟨⟨⟨h1, h2⟩, h3⟩, h4⟩ := hn
      simp only [h1, h2, h3, h4, Bool.and_eq_true, decide_eq_true_eq, beq_iff_eq, hr] at hc hlt ⊢
      simp only [HP_CTX_LEDGER1]
      omega
    · cases hx

theorem not_closes {a : Nat} {v : Word} (h : ∀ c : Fin 256, a ≠ HP_CTX_LEDGER1 c.val) : (HeldW.reg a v).closes = false := by
  unfold HeldW.closes
  dsimp only
  split
  · next r i j hr =>
    refine beq_eq_false_iff_ne.mpr fun hx => ?_
    obtain ⟨hi, ha⟩ := ledger_of_row hr hx
    exact h ⟨i, hi⟩ ha
  · rfl

section Buffer
variable {n : Nat} {h : HeldW}

/-- A write with a place waits in the release buffer, or in the open group, which a store to the ledger closes. -/
theorem bufferWrite_single (hk : (s.cp n).kgrp = false) (hl : (s.cp n).buf.length + (s.cp n).grp.length < 64) :
    bufferWrite n h s = s.upCp n fun c => { c with fed := c.fed ++ [h.code], buf := c.buf ++ [h] } := by
  unfold bufferWrite State.upCp
  simp only [hk, State.when, decide_eq_false (Nat.not_le.mpr hl), Bool.false_and, Bool.false_eq_true, if_false, Bool.not_false, if_true]

theorem bufferWrite_group (hk : (s.cp n).kgrp = true) (hg : (s.cp n).grp.length < 63) (hl : (s.cp n).buf.length + (s.cp n).grp.length < 64)
    (hc : h.closes = false) : bufferWrite n h s = s.upCp n fun c => { c with fed := c.fed ++ [h.code], grp := c.grp ++ [h] } := by
  unfold bufferWrite State.upCp
  simp only [hk, hc, State.when, decide_eq_false (Nat.not_le.mpr hl), decide_eq_false (Nat.not_le.mpr hg), Bool.and_false, Bool.false_eq_true, if_false,
    Bool.not_true]

theorem bufferWrite_closes (hk : (s.cp n).kgrp = true) (hg : (s.cp n).grp.length < 63) (hl : (s.cp n).buf.length + (s.cp n).grp.length < 64)
    (hc : h.closes = true) : bufferWrite n h s =
      s.upCp n fun c => { c with fed := c.fed ++ [h.code], kgrp := false, buf := c.buf ++ c.grp ++ [h], grp := [] } := by
  unfold bufferWrite State.upCp
  simp only [hk, hc, State.when, decide_eq_false (Nat.not_le.mpr hl), decide_eq_false (Nat.not_le.mpr hg), Bool.and_false, Bool.false_eq_true, if_false,
    Bool.not_true, if_true]

theorem bufferWrite_overfull (hk : (s.cp n).kgrp = true) (hg : 63 ≤ (s.cp n).grp.length) :
    bufferWrite n h s = s.upCp n fun c => { c with cause := 7 } := by
  simp [bufferWrite, hk, hg]

end Buffer

/-- What a pair's own state takes changes no register, no byte of memory and no vault word. -/
theorem upCp_frame (n : Nat) (f : CpS → CpS) : OnlyRegs [] s (s.upCp n f) ∧ SameMem s (s.upCp n f) ∧ SameVault s (s.upCp n f) :=
  ⟨fun _ _ => upCp_rd _ _ _ _, sameMem_of_sram rfl, sameVault_of_vault rfl⟩

/-- Firmware's aligned write of a register of BAR0 that is no control register of a pair enters the buffer. -/
theorem registerWrite_firmware {n : Fin 5} {a : BitVec 20} {v : Word} (hn : s.pairRuns n.val = true) (h4 : a.toNat % 4 = 0)
    (hc : pairCtrlAddr a.toNat = false) :
    exec (.registerWrite (.firmware n) false a 0xF (v, none)) s = .next (bufferWrite n.val (.reg a.toNat v) s) := by
  simp [exec, execRegisterWrite, hn, h4, hc]

theorem coreStore_write {n : Fin 5} {bar2 : Bool} {a : BitVec 20} {be : BitVec 4} {v : Word} {st : CoreStore} (hn : s.pairRuns n.val = true) :
    exec (.registerWrite (.firmware n) bar2 a be (v, some st)) s = .next (coreStore n.val st be v s) := by
  simp [exec, execRegisterWrite, hn]

/-! ## The end of a window (13 R389) -/

theorem heldOut_word (n a : Nat) (y : Word) : heldOut n (.sram a 0xF y) s = s.sramWrWord a y := rfl

/-- The state of a window that has compared equal, before its held writes go out. -/
def windowBegins (n : Nat) (s : State) : State := (coreRun n s).upCp n fun c => { c with buf := [], fed := [] }

theorem cp_windowBegins (n : Nat) : ((windowBegins n s).cp n).buf = [] ∧ ((windowBegins n s).cp n).fed = [] ∧
    ((windowBegins n s).cp n).grp = (s.cp n).grp ∧ ((windowBegins n s).cp n).kgrp = (s.cp n).kgrp ∧ ((windowBegins n s).cp n).first = (s.cp n).first := by
  unfold windowBegins coreRun
  rw [cp_upCp, if_pos rfl, cp_upCp, if_pos rfl]
  exact ⟨rfl, rfl, rfl, rfl, rfl⟩

/-- The same word stored again and again is there, and nothing else changes. -/
theorem releaseWrites_word (n a m : Nat) (y : Word) (s : State) :
    (0 < m → (releaseWrites n (List.replicate m (.sram a 0xF y)) s).sramWord a = y) ∧
    (∀ k, k < a ∨ a + 4 ≤ k → (releaseWrites n (List.replicate m (.sram a 0xF y)) s).sramRd k = s.sramRd k) ∧
    (releaseWrites n (List.replicate m (.sram a 0xF y)) s).vault = s.vault ∧ (releaseWrites n (List.replicate m (.sram a 0xF y)) s).cps = s.cps := by
  induction m generalizing s with
  | zero => exact ⟨fun h => absurd h (Nat.lt_irrefl _), fun _ _ => rfl, rfl, rfl⟩
  | succ m ih =>
    obtain ⟨hw, hne, hv, hc⟩ := ih (s.sramWrWord a y)
    rw [List.replicate_succ, releaseWrites, heldOut_word]
    refine ⟨fun _ => ?_, fun k hk => (hne k hk).trans (sramRd_sramWrWord_ne y hk), hv, hc⟩
    rcases Nat.eq_zero_or_pos m with rfl | hm
    · exact sramWord_sramWrWord a y
    · exact hw hm

/-- What the end of a first window after a restart does besides: it resolves the mismatch's records, and remembers its time. -/
def firstEnds (n : Nat) (u : State) : State :=
  (flResolve (fun r => (r.cls == 2 || r.cls == 3) && ((r.ut == 1 && r.unit == (u.cp n).heirOf) || r.via == some (u.cp n).heirOf)) u).upCp n fun c =>
    { c with first := false, lastEnd := if (u.cp n).heirOf = n then some u.time else c.lastEnd }

theorem windowEqual_eq {n : Nat} {u : State} (hu : releaseWrites n (s.cp n).buf (windowBegins n s) = u) :
    windowEqual n s = if !(u.cp n).first then u else firstEnds n u := by
  rw [← hu]
  rfl

theorem windowEqual_first {n : Nat} {u : State} (hu : releaseWrites n (s.cp n).buf (windowBegins n s) = u) (hf : (u.cp n).first = false) :
    windowEqual n s = u := by
  rw [windowEqual_eq hu, hf]
  rfl

theorem windowEqual_keeps {n : Nat} {u : State} (hu : releaseWrites n (s.cp n).buf (windowBegins n s) = u) :
    (windowEqual n s).sram = u.sram ∧ (windowEqual n s).vault = u.vault ∧ ((windowEqual n s).cp n).buf = (u.cp n).buf ∧
    ((windowEqual n s).cp n).grp = (u.cp n).grp ∧ ((windowEqual n s).cp n).kgrp = (u.cp n).kgrp := by
  rw [windowEqual_eq hu]
  split
  · exact ⟨rfl, rfl, rfl, rfl, rfl⟩
  · refine ⟨rfl, rfl, ?_, ?_, ?_⟩ <;> rw [firstEnds, cp_upCp, if_pos rfl] <;> rfl

theorem msixAddr_RED_CP_CTRL (m : Fin 5) : msixAddr (RED_CP_CTRL m.val) = false := by revert m; decide

/-- A write of another pair's control register is refused, or waits for its clock. -/
theorem heldOut_otherCtrl {n m : Fin 5} (v : Word) (hne : m ≠ n) (s : State) :
    ((heldOut n.val (.reg (RED_CP_CTRL m.val) v) s).cp n.val = s.cp n.val) ∧ OnlyRegs [] s (heldOut n.val (.reg (RED_CP_CTRL m.val) v) s) ∧
    (heldOut n.val (.reg (RED_CP_CTRL m.val) v) s).sram = s.sram ∧ (heldOut n.val (.reg (RED_CP_CTRL m.val) v) s).vault = s.vault := by
  have haddr : (BitVec.ofNat 20 (RED_CP_CTRL m.val)).toNat = RED_CP_CTRL m.val := by
    rw [BitVec.toNat_ofNat]
    exact Nat.mod_eq_of_lt (by simp only [RED_CP_CTRL]; omega)
  have hn : Fin.ofNat 5 n.val = n := Fin.ext (Nat.mod_eq_of_lt n.isLt)
  have hreason : s.writeReason (.firmware n) false (RED_CP_CTRL m.val) = 3 := by
    simp only [State.writeReason, row_RED_CP_CTRL, State.fwReason, Bool.false_eq_true, if_false]
    exact if_neg fun h => hne (Fin.ext h)
  have hdo : doWrite (.firmware n) false (RED_CP_CTRL m.val) v s = s := by
    have hbus : busWrite (.firmware n) (RED_CP_CTRL m.val) v none s = .refused 3 := by simp [busWrite, hreason]
    unfold doWrite
    simp only [msixAddr_RED_CP_CTRL, hbus, Bool.false_eq_true, if_false]
    simp [refuseRecord, ownBad, xferBad, quietDrop, State.when, denyW]
  have h4 : ¬((0xF#4 : BitVec 4) ≠ 0xF#4 ∨ RED_CP_CTRL m.val % 4 ≠ 0) := fun h =>
    h.elim (fun h => h rfl) (fun h => h (by simp only [RED_CP_CTRL]; omega))
  have hout : heldOut n.val (.reg (RED_CP_CTRL m.val) v) s =
      if s.accessWaits false (RED_CP_CTRL m.val) then
        holdAccess (.firmware n) { bar2 := false, addr := BitVec.ofNat 20 (RED_CP_CTRL m.val), be := 0xF#4, value := some v } s else s := by
    unfold heldOut access
    simp only [haddr, hn, if_neg h4, hdo]
  rw [hout]
  split
  · exact ⟨rfl, fun _ _ => rfl, rfl, rfl⟩
  · exact ⟨rfl, fun _ _ => rfl, rfl, rfl⟩

theorem rd_windowBegins (n A : Nat) : (windowBegins n s).rd A = s.rd A := by
  unfold windowBegins coreRun
  rw [upCp_rd, upCp_rd]
  rfl

/-- Settles O32: a host's write that is accepted, and what a pair's writes and stores leave in its release buffer, its open group and,
at the end of its window, in memory. -/
theorem registerWrites : Obligations.RegisterWrites := by
  unfold Obligations.RegisterWrites
  refine ⟨?_, ?_, ?_, ?_, ?_, ?_, ?_, ?_, ?_, ?_, ?_, ?_, ?_⟩
  · intro s p a v st h
    obtain ⟨hrd, -⟩ := arrived_of_may h
    have hwr := writeCmd_effect h (row_AX_REF1 a) (by omega) (by omega) (msixAddr_AX_REF1 a) (by omega) rfl (ref1_effect p a v _)
    rw [stored_all _ rfl rfl] at hwr
    have he : exec (.registerWrite (.host p) false (BitVec.ofNat 20 (0x10044 + 0x1000 * a.val)) 0xF (v, st)) s =
        .next ((arrived (.host p) s).wr (0x10044 + 0x1000 * a.val) v) := registerWrite_host.trans (congrArg Host.Outcome.next hwr)
    refine ⟨_, he, rd_wr_same .., fun A hA => ?_, exec_sameMem he, exec_sameVault he⟩
    simp only [List.mem_cons, List.not_mem_nil, or_false, not_or] at hA
    rw [rd_wr_ne _ _ hA.2, hrd A hA.1]
  · intro s p bar2 a be v st hp hm hw hb
    have he : exec (.registerWrite (.host p) bar2 a be (v, st)) s = .next (arrived (.host p) s) := congrArg Host.Outcome.next (hostWrite_part hp hm hw hb)
    exact ⟨_, he, fun A hA => rd_arrived (awake_of_goes s hw) (by simpa using hA), exec_sameMem he, exec_sameVault he⟩
  · intro s n a v hn h4 hc hk hl
    refine ⟨_, (registerWrite_firmware hn h4 hc).trans (congrArg Host.Outcome.next (bufferWrite_single hk hl)), ?_, upCp_frame _ _⟩
    rw [cp_upCp, if_pos rfl]
  · intro s n a v hn h4 hk hg hl hled hc
    refine ⟨_, (registerWrite_firmware hn h4 hc).trans (congrArg Host.Outcome.next (bufferWrite_group hk hg hl (not_closes hled))), ?_, ?_, upCp_frame _ _⟩ <;>
      rw [cp_upCp, if_pos rfl]
  · intro s n c v hn hk hg hl
    have haddr : (BitVec.ofNat 20 (HP_CTX_LEDGER1 c.val)).toNat = HP_CTX_LEDGER1 c.val := by
      rw [BitVec.toNat_ofNat]
      exact Nat.mod_eq_of_lt (by simp only [HP_CTX_LEDGER1]; omega)
    have hc : pairCtrlAddr (HP_CTX_LEDGER1 c.val) = false := by
      unfold pairCtrlAddr
      rw [row_HP_CTX_LEDGER1]
      rfl
    have hcl : (HeldW.reg (HP_CTX_LEDGER1 c.val) v).closes = true := by
      unfold HeldW.closes
      dsimp only
      rw [row_HP_CTX_LEDGER1]
      rfl
    have he := registerWrite_firmware (a := BitVec.ofNat 20 (HP_CTX_LEDGER1 c.val)) (v := v) hn (by rw [haddr]; simp only [HP_CTX_LEDGER1]; omega)
      (by rw [haddr]; exact hc)
    rw [haddr, bufferWrite_closes hk hg hl hcl] at he
    refine ⟨_, he, ?_, ?_, ?_, upCp_frame _ _⟩ <;> rw [cp_upCp, if_pos rfl]
  · intro s n a v hn h4 hc hk hg
    refine ⟨_, (registerWrite_firmware hn h4 hc).trans (congrArg Host.Outcome.next (bufferWrite_overfull hk hg)), ?_, ?_, upCp_frame _ _⟩ <;>
      rw [cp_upCp, if_pos rfl]
  · intro s n a v x y hn h4 hc hk hg hb
    obtain ⟨hw, hne, hv, hcp⟩ := releaseWrites_word n.val (x.toNat / 4 * 4) 64 y (windowBegins n.val s)
    obtain ⟨wb, -, wg, wk, -⟩ := cp_windowBegins (s := s) n.val
    have hcps : ∀ u : State, u.cps = (windowBegins n.val s).cps → u.cp n.val = (windowBegins n.val s).cp n.val := fun u h => by
      unfold State.cp
      rw [h]
    obtain ⟨ws, wv, wbuf, wgrp, wkg⟩ := windowEqual_keeps (s := s) (n := n.val) (by rw [hb])
    rw [hcps _ hcp] at wbuf wgrp wkg
    have hfull : bufferWrite n.val (.reg a.toNat v) s = (windowEqual n.val s).upCp n.val fun c =>
        { c with fed := c.fed ++ [(HeldW.reg a.toNat v).code], buf := c.buf ++ [.reg a.toNat v] } := by
      have hkg : ((windowEqual n.val s).cp n.val).kgrp = false := wkg.trans (wk.trans hk)
      unfold bufferWrite State.upCp
      simp only [hk, hb, hg, hkg, State.when, List.length_replicate, List.length_nil, Nat.add_zero, Nat.le_refl, decide_true, Bool.false_and,
        Bool.false_eq_true, if_false, Bool.not_false, if_true]
    refine ⟨_, (registerWrite_firmware hn h4 hc).trans (congrArg Host.Outcome.next hfull), ?_, ?_, fun k hkx => ?_, sameVault_of_vault (wv.trans hv)⟩
    · rw [cp_upCp, if_pos rfl, wbuf, wb]
      rfl
    · exact (sramWord_congr fun b _ _ => congrArg (fun m => sget _ m b) ws).trans (hw (by decide))
    · exact (congrArg (fun m => sget _ m k) ws).trans ((hne k (by omega)).trans rfl)
  · intro s n bar2 a be v x hn hx hk hl
    have he := coreStore_write (bar2 := bar2) (a := a) (be := be) (v := v) (st := .sram x) hn
    rw [coreStore, if_neg (Nat.not_le.mpr hx), bufferWrite_single hk hl] at he
    refine ⟨_, he, ?_, upCp_frame _ _⟩
    rw [cp_upCp, if_pos rfl]
  · intro s n bar2 a be v p x hn hk hl
    have he := coreStore_write (bar2 := bar2) (a := a) (be := be) (v := v) (st := .host p x) hn
    rw [coreStore, bufferWrite_single hk hl] at he
    refine ⟨_, he, ?_, rfl, upCp_frame _ _⟩
    rw [cp_upCp, if_pos rfl]
  · intro s n bar2 a be v x hn hx
    have he := coreStore_write (bar2 := bar2) (a := a) (be := be) (v := v) (st := .sram x) hn
    rw [coreStore, if_pos hx] at he
    refine ⟨_, he, ?_, ?_, ?_, upCp_frame _ _⟩ <;> rw [cp_upCp, if_pos rfl]
  · intro s n m v hn hk hb hf hne
    have haddr : (BitVec.ofNat 20 (RED_CP_CTRL m.val)).toNat = RED_CP_CTRL m.val := by
      rw [BitVec.toNat_ofNat]
      exact Nat.mod_eq_of_lt (by simp only [RED_CP_CTRL]; omega)
    have hc : pairCtrlAddr (RED_CP_CTRL m.val) = true := by
      unfold pairCtrlAddr
      rw [row_RED_CP_CTRL]
      rfl
    obtain ⟨wb, wf, -, wk, wfirst⟩ := cp_windowBegins (s := s) n.val
    have hwin : windowEqual n.val s = windowBegins n.val s := windowEqual_first (by rw [hb]; rfl) (wfirst.trans hf)
    have he : exec (.registerWrite (.firmware n) false (BitVec.ofNat 20 (RED_CP_CTRL m.val)) 0xF (v, none)) s =
        .next (heldOut n.val (.reg (RED_CP_CTRL m.val) v) (windowBegins n.val s)) := by
      have h4 : RED_CP_CTRL m.val % 4 = 0 := by simp only [RED_CP_CTRL]; omega
      have hctrl : ctrlWrite n.val (.reg (RED_CP_CTRL m.val) v) s = heldOut n.val (.reg (RED_CP_CTRL m.val) v) (windowBegins n.val s) := by
        unfold ctrlWrite
        rw [hwin, if_neg (by rw [wk, hk]; decide)]
      simp only [exec, execRegisterWrite, hn, haddr, h4, hc, Bool.not_true, Bool.false_or, Bool.false_eq_true, if_false, bne_self_eq_false, if_true, hctrl]
      rfl
    obtain ⟨ocp, oreg, osram, ovault⟩ := heldOut_otherCtrl v hne (windowBegins n.val s)
    refine ⟨_, he, by rw [ocp, wb], by rw [ocp, wf], fun A _ hA => (oreg A hA).trans (rd_windowBegins _ _), sameMem_of_sram (osram.trans rfl),
      sameVault_of_vault (ovault.trans rfl)⟩
  · intro s n bar2 a be v st hn
    simp [exec, execRegisterWrite, hn]
  · intro s n bar2 a be v h
    simp only [exec, execRegisterWrite]
    have hb : be ≠ 0xF → (be != 0xF#4) = true := fun h => bne_iff_ne.mpr h
    rcases h with h | h | h | h
    · simp [h]
    · simp [h]
    · simp [hb h]
    · simp [h]

end Sys2Proof.Laws
end


section
/-! O51, O57: states in which their statements fail -/
namespace Sys2Proof.Laws
open Sys2Proof.Machine
-- One declaration after another: the whole text is checked as one file, within a bound on memory.
set_option Elab.async false

/-- An admitted port, a trip of group 0 that concerns axis 0, in COAST, and a context 0x1A00 that asks this axis for SAFE; the ledger
word of that context has the address of SEAM_TRIP_STAT. -/
def ledgerOnTripStat : State :=
  let s := ((State.reset.put (SEAM_PORT_STAT__LINK 0) 2).putB (SEAM_PORT_STAT__ADMITTED 0) true).put (SEAM_TRIP_RX__AXMASK 0) 1
  { s.put (AX_STATE__STATE 0) 1 with ctxs := [(0x1A00, { exec := some { words := [0x110000, 5] } })] }

theorem ledgerOnTripStat_groups : (nextOf (.seamTripRx 0 1 0 0) ledgerOnTripStat).get SEAM_TRIP_STAT__GROUPS = 2 := by decide +kernel

/-- Refutes O57: the trip takes the axis to SAFE, which ends the descriptor of context 0x1A00 and writes its steps over the groups of the
trip. -/
theorem not_seamTripsAndPeers : ¬ Obligations.SeamTripsAndPeers := by
  rintro ⟨-, -, -, -, -, h, -⟩
  obtain ⟨t, ht, hg, -⟩ := h ledgerOnTripStat 0 1 0 0 (by decide +kernel) (fun e he => nomatch he)
  rw [← nextOf_eq ht] at hg
  exact absurd (ledgerOnTripStat_groups.symm.trans hg) (by decide)

/-- An enabled contactor 0, commanded open, whose feedback still shows it closed. -/
def openingContactor : State := (State.reset.putB (SAF_CT_CFG__EN 0) true).put SAF_CT_STAT__FB 1

theorem openingContactor_event :
    (nextOf (.contactorFeedbackChange 0 false) openingContactor).rd SAF_EVENT__EVT.addr ≠ openingContactor.rd SAF_EVENT__EVT.addr := by
  decide +kernel

/-- Refutes O51: feedback that confirms the opening is an event, which is shown in SAF_EVENT. -/
theorem not_linksAndContactors : ¬ Obligations.LinksAndContactors := by
  rintro ⟨-, -, -, -, -, -, -, -, -, -, -, -, -, -, -, -, -, -, -, -, -, -, -, -, -, -, -, -, -, -, -, h, -⟩
  obtain ⟨t, ht, -, -, hregs, -⟩ := h openingContactor 0 false (by decide +kernel) (by decide +kernel)
  rw [← nextOf_eq ht] at hregs
  exact openingContactor_event (hregs _ (by decide))

end Sys2Proof.Laws
end


section
/-! O41: a state in which its statement fails -/
namespace Sys2Proof.Laws
open Sys2Proof.Machine
-- One declaration after another: the whole text is checked as one file, within a bound on memory.
set_option Elab.async false

/-- Axis 0, a PM machine in SAFE with the short circuit that the pulse-off rule forced; its position interface shows standstill, and
its tracker has seen no edge. -/
def forcedShort : State :=
  let s := ((State.reset.putB (AX_BIND__MODE 0) true).putB (AX_BIND__PM 0) true).putB (AX_BIND__PI_EN 0) true
  let s := ((s.putB (FM_CH_BIND__BOUND 0) true).putB (PI_STATUS__POS_VALID 0) true).putB (PI_STATUS__SPD_VALID 0) true
  let s := ((s.put (AX_STATE__STATE 0) 5).putB (AX_STATE__PO_BLOCK 0) true).put (SAF_AX_STAT__ASC_SIDE 0) 1
  (s.upTm 0 fun t => { t with tracking := true }).upAx 0 fun x => { x with forced := true }

theorem forcedShort_released :
    (nextOf (.zcCrossing 0 0 false) forcedShort).rd (SAF_AX_STAT__ASC_SIDE 0).addr ≠ forcedShort.rd (SAF_AX_STAT__ASC_SIDE 0).addr := by
  decide +kernel

/-- Refutes O41: the first edge finds the speed below the limit of pulse-off, which ends the forced short circuit and shows it in
SAF_AX_STAT. -/
theorem not_tableDecisionAndTracker : ¬ Obligations.TableDecisionAndTracker := by
  rintro ⟨-, -, -, -, -, -, -, -, -, -, -, h, -⟩
  obtain ⟨t, ht, -, -, -, -, -, -, -, -, -, hregs, -⟩ := h forcedShort 0 0 false 0 _ (by decide +kernel) (by decide +kernel) rfl rfl
    (by decide +kernel) (by decide +kernel) (by decide +kernel)
  rw [← nextOf_eq ht] at hregs
  exact forcedShort_released (hregs _ (by decide) (by decide +kernel))

end Sys2Proof.Laws
end
